-- ==== Sys2Proof/Word.lean ====
section
/-!
DEFINITION. The word types of the block: device registers, Pantry words and descriptors are 32 bits (R15, R18), grid time 64 bits (R16);
and the two sparse tables the state is built from.
-/
namespace Sys2Proof

/-- A register, a Pantry slot or a raw word of 32 bits. -/
abbrev Word := BitVec 32

/-- A byte of a frame, a buffer or a file. -/
abbrev Byte := BitVec 8

/-- A word of 64 bits: an instruction of a recipe, a word of the recorder. -/
abbrev DWord := BitVec 64

/-- A memory of `w`-bit words in canonical form: the words that differ from what an unlisted key reads as, by strictly rising key. -/
abbrev Store (w : Nat) := List (Nat × BitVec w)

/-- A table with an entry for some keys, by strictly rising key. -/
abbrev KMap (α : Type) := List (Nat × α)

/-- A row of things of one kind, by index. -/
abbrev Tab (α : Type) := List α

end Sys2Proof
end

