-- ==== Sys2Proof/Operand.lean ====
section
/-!
DEFINITION. The operands of the commands: what a command or an event brings with it from outside the block.
-/
namespace Sys2Proof

/-- Where a producer's write is bound: a sampled producer stamps the GT of its sample, a computed one names a commit index (R29). -/
inductive Dest where
  | sampled (gt : Nat)
  | commit (cidx : Nat)
  deriving DecidableEq, Repr, Inhabited

/-- A converter result due for its Pantry write: the oldest one of a core's sequences, or one of an open-wire step (R91, R92, R96). -/
inductive AdcRes where
  | seq (core : Fin 8)
  | diag (pin : Fin 96) (up : Bool) (code : Fin 65536) (sample : Nat)
  deriving DecidableEq, Repr, Inhabited

/-- The fields common to the words of a recipe (R184): the inverted predicate, the predicate flag, and the loop register added to an index. -/
structure KHead where
  pn : Bool := false
  qsel : Fin 8 := 0
  jen : Bool := false
  jsel : Fin 4 := 0
  deriving DecidableEq, Repr, Inhabited

/-- Format L (R185); `n1` and `l1` are the counts less one. -/
structure KL where
  jl : Fin 4 := 0
  n1 : Fin 4096 := 0
  l1 : Fin 256 := 0
  deriving DecidableEq, Repr, Inhabited

/-- Format S. -/
structure KS where
  sd : Fin 64 := 0
  sa : Fin 64 := 0
  sb : Fin 64 := 0
  bcb : Bool := false
  eb : Fin 64 := 0
  imm : Fin 256 := 0
  deriving DecidableEq, Repr, Inhabited

/-- Format E. -/
structure KE where
  sd : Fin 64 := 0
  ed : Fin 64 := 0
  sa : Fin 64 := 0
  ea : Fin 64 := 0
  sb : Fin 64 := 0
  eb : Fin 64 := 0
  qd : Fin 8 := 0
  cond : Fin 8 := 0
  an : Fin 4 := 0
  deriving DecidableEq, Repr, Inhabited

/-- Format A. -/
structure KA where
  an : Fin 4 := 0
  x : Fin 256 := 0
  deriving DecidableEq, Repr, Inhabited

/-- Format P; `c1` is the count less one. -/
structure KP where
  sd : Fin 64 := 0
  e0 : Fin 64 := 0
  c1 : Fin 64 := 0
  slot : Fin 65536 := 0
  deriving DecidableEq, Repr, Inhabited

/-- Format T. -/
structure KT where
  w : Fin 16384 := 0
  qd : Fin 8 := 0
  slot : Fin 65536 := 0
  deriving DecidableEq, Repr, Inhabited

/-- Format W. -/
structure KW where
  wd : Fin 16384 := 0
  wa : Fin 16384 := 0
  wb : Fin 16384 := 0
  sht : Fin 4 := 0
  shn : Fin 32 := 0
  deriving DecidableEq, Repr, Inhabited

/-- Format I. -/
structure KI where
  wd : Fin 16384 := 0
  imm : Fin 4294967296 := 0
  deriving DecidableEq, Repr, Inhabited

/-- Format X. -/
structure KX where
  sd : Fin 64 := 0
  ed : Fin 64 := 0
  w : Fin 16384 := 0
  sb : Fin 64 := 0
  eb : Fin 64 := 0
  deriving DecidableEq, Repr, Inhabited

/-- Format B. -/
structure KB where
  qd : Fin 8 := 0
  bit : Fin 32 := 0
  w : Fin 16384 := 0
  deriving DecidableEq, Repr, Inhabited

/-- Format C. -/
structure KC where
  qd : Fin 8 := 0
  qa : Fin 8 := 0
  qb : Fin 8 := 0
  fn : Fin 4 := 0
  deriving DecidableEq, Repr, Inhabited

/-- The parameters of one limit function of a converter (R311, R312): its slots, its limits as BF24 words or angles, and its count T. -/
structure LimitFn where
  on : Bool := false
  mode : Nat := 0
  slots : List Nat := []
  lims : List Word := []
  t : Nat := 1
  deriving DecidableEq, Repr, Inhabited

/-- One converter of a safety configuration: its leg groups, output mask, OFFDLY and limit functions SLC, SLS, SLA, SDI in that order. -/
structure SafeConv where
  lgs : Nat := 0
  outs : Nat := 0
  offDly : Nat := 0xFFFF
  fns : List LimitFn := []
  staleN : Nat := 4
  deriving DecidableEq, Repr, Inhabited

/-- One safety input pair of a configuration (R315, R316). -/
structure SafePair where
  antiv : Bool := false
  func : Nat := 0
  disc : Nat := 50
  convs : Nat := 0
  outs : Nat := 0
  deriving DecidableEq, Repr, Inhabited

/-- One safety output of a configuration (R318, R319). -/
structure SafeOut where
  spo : Nat := 0
  tpw : Nat := 300
  watchKeep : Bool := false
  deriving DecidableEq, Repr, Inhabited

/-- One receive or transmit connection of a configuration (R320 to R323). -/
structure SafeConn where
  on : Bool := false
  id : Word := 0#32
  plen : Nat := 4
  convs : Nat := 0
  outs : Nat := 0
  wdog : Nat := 100
  maxAge : Nat := 100
  seqWin : Nat := 16
  errMax : Nat := 5
  txPer : Nat := 10
  slots : List Nat := []
  deriving DecidableEq, Repr, Inhabited

/-- A safety configuration (R303). [log 128: DESIGN CHOICE] -/
structure SafeConfig where
  convs : List SafeConv := []
  cmps : KMap Nat := []
  pairs : List SafePair := []
  outs : List SafeOut := []
  rx : List SafeConn := []
  tx : List SafeConn := []
  deriving DecidableEq, Repr, Inhabited

/-- A diagnostic of the safety monitor (R324). -/
inductive MonDiag where
  | permits
  | demandInputs
  | oscillator
  | memory
  | limits
  | supply
  deriving DecidableEq, Repr, Inhabited

/-- How a split's BOOT phase ends (R342, R344). -/
inductive SplitBoot where
  | ready
  | signature
  | selfTest
  deriving DecidableEq, Repr, Inhabited

/-- What the scrubber meets in a word (R345). -/
inductive SramErr where
  | none
  | single
  | double
  deriving DecidableEq, Repr, Inhabited

/-- One ASDU of a sampled-values frame: its counter, synchronisation, confRev and sequence of data as received (R363). -/
structure SvAsdu where
  smpCnt : Nat := 0
  smpSynch : Nat := 0
  confRev : Word := 0#32
  data : List Byte := []
  deriving DecidableEq, Repr, Inhabited

/-- A sampled-values frame (R363): its DMAC, APPID, svID (64 characters, padded), simulation bit and noASDU, with its ASDUs in order. -/
structure SvFrame where
  dst : BitVec 48 := 0#48
  appid : Nat := 0
  svid : List Byte := []
  sim : Bool := false
  noAsdu : Nat := 1
  asdus : List SvAsdu := []
  deriving DecidableEq, Repr, Inhabited

/-- A member of a GOOSE dataset by its type (R374). -/
inductive GooseMem where
  | bool (b : Bool)
  | bits (n : Nat) (v : Word)
  | int (v : Word)
  | uint (v : Word)
  | float (v : Word)
  | quality (q : BitVec 13)
  | utc (sec frac : Word)
  | octets (bs : List Byte)
  | other
  deriving DecidableEq, Repr, Inhabited

/-- A GOOSE message (R370, R371): its addresses and references (130 characters, padded), its header fields and its members. -/
structure GooseMsg where
  dst : BitVec 48 := 0#48
  appid : Nat := 0
  gocb : List Byte := []
  datset : List Byte := []
  goid : List Byte := []
  sim : Bool := false
  test : Bool := false
  ndsCom : Bool := false
  confRev : Word := 0#32
  stNum : Word := 1#32
  sqNum : Word := 0#32
  ttlMs : Nat := 0
  numEntries : Nat := 0
  mems : List GooseMem := []
  deriving DecidableEq, Repr, Inhabited

/-- A PTP Announce (R354, R356, R357): its domain, the grandmaster's data set, and the identity of the sending port. -/
structure PtpAnnounce where
  domain : Nat := 0
  gm : DWord := 0#64
  prio1 : Nat := 128
  cls : Nat := 6
  acc : Nat := 0x21
  var : Nat := 0
  prio2 : Nat := 128
  steps : Nat := 0
  sender : BitVec 80 := 0#80
  ptpTimescale : Bool := true
  utcOffset : Int := 37
  deriving DecidableEq, Repr, Inhabited

/-- A Sync with its origin time, taken from its Follow_Up where it is two-step (R356): the GT of its reception, the origin in ns, the correction
in 2^-16 ns. -/
structure PtpSync where
  domain : Nat := 0
  rxGt : Nat := 0
  origin : Nat := 0
  corr : Int := 0
  deriving DecidableEq, Repr, Inhabited

/-- A completed peer-delay response (R354): the GT of its reception, the responder's receive and send times in ns, the correction in 2^-16 ns. -/
structure PtpDelay where
  domain : Nat := 0
  rxGt : Nat := 0
  t2 : Nat := 0
  t3 : Nat := 0
  corr : Int := 0
  deriving DecidableEq, Repr, Inhabited

/-- What a frame on P0 or P1 carries. -/
inductive NetBody where
  | pause
  | announce (a : PtpAnnounce)
  | sync (m : PtpSync)
  | pdelayReq (domain seq : Nat)
  | pdelayResp (m : PtpDelay)
  | sv (f : SvFrame)
  | goose (m : GooseMsg)
  | telegram (bytes : List Byte)
  | other
  deriving DecidableEq, Repr, Inhabited

/-- A frame on P0 or P1 (R349 to R351, R355): its length, its frame check, the 802.1Q tags, its source, the sequence number of its redundancy
trailer or tag, the ticks that it stays in the device when it is forwarded, and its content. -/
structure NetFrame where
  len : Nat := 64
  crcOk : Bool := true
  tags : Nat := 0
  src : BitVec 48 := 0#48
  seq : Option (BitVec 16) := none
  residence : Nat := 0
  body : NetBody := .pause
  deriving DecidableEq, Repr, Inhabited

/-- A published sample (R368, R369): smpCnt, its measurement GT, smpSynch, and value and quality of each quantity. -/
structure SvOut where
  smpCnt : Nat := 0
  tm : Nat := 0
  smpSynch : Nat := 0
  vals : List (Word × Word) := []
  deriving DecidableEq, Repr, Inhabited

/-- What leaves P0 and P1. A published GOOSE member stands as its type code and its content words or bytes (R375). -/
inductive NetTx where
  | forward (f : NetFrame) (correction : Int)
  | supervision
  | pdelayReq (seq : Nat)
  | pdelayResp (seq t2 : Nat)
  | pdelayFollow (seq : Nat) (t3 : DWord)
  | sv (stream : Nat) (samples : List SvOut)
  | goose (pub : Nat) (stNum sqNum ttlMs : Nat) (test : Bool) (mems : List (Nat × List Word × List Byte))
  deriving DecidableEq, Repr, Inhabited

/-- A frame that left: the ports as a mask, and its redundancy sequence number where it has one (R350). -/
structure NetSent where
  ports : Nat := 1
  seq : Option Nat := none
  tx : NetTx := .supervision
  deriving DecidableEq, Repr, Inhabited

/-- A quad-SPI frame (R422): a write with its data bytes, or a read of a number of words. -/
inductive QspiFrame where
  | write (addr : Word) (bytes : List Byte)
  | read (addr : Word) (words : Nat)
  deriving DecidableEq, Repr, Inhabited

/-- A test-DAC check (R99): the readings of channel 12 of a core at the five levels, or those of a pin with the reading taken with PIN_EN = 0. -/
structure TdacTest where
  core : Fin 8 := 0
  pin : Option (Fin 12) := none
  base : Fin 65536 := 0
  codes : List (Fin 65536) := []
  deriving DecidableEq, Repr, Inhabited

/-- How the write of a record to MRAM ends: whole, without its commit word, or with a word that cannot be corrected (R485, R494, R499). [log 236: DESIGN CHOICE] -/
inductive MramOut where
  | whole
  | torn
  | broken
  deriving DecidableEq, Repr, Inhabited

/-- A reading of the KEEP monitor (R482): its four codes, the two signs, whether the converter draws current, and the mean input current. -/
structure KeepReading where
  hstore : Fin 1024 := 0
  hbat : Fin 1024 := 0
  hvin : Fin 1024 := 0
  hset : Fin 1024 := 0
  hbatNeg : Bool := false
  hvinNeg : Bool := false
  drawing : Bool := false
  iin : Fin 65536 := 0
  deriving DecidableEq, Repr, Inhabited

/-- The outcome of the march test (R458). -/
inductive March where
  | good
  | single
  | bad
  deriving DecidableEq, Repr, Inhabited

/-- What the tests of a boot find (R451, R457, R458): a flash without a usable quad read, the checker's injection, the march test, the engines that
fail their BIST and the cores that fail the test-DAC checks as masks, whether each copy of the configuration store reads back good; and HMODE as sampled (R420). [log 229: DESIGN CHOICE] -/
structure BootTests where
  slow : Bool := false
  checker : Bool := true
  march : March := .good
  bist : Fin 4096 := 0
  tdac : Fin 256 := 0
  copyA : Bool := true
  copyB : Bool := true
  hmode : Bool := false
  deriving DecidableEq, Repr, Inhabited

/-- A boundary-scan instruction (R515): BYPASS, one that only observes pins, and one that drives pins. -/
inductive JtagIns where
  | bypass
  | observe
  | drive
  deriving DecidableEq, Repr, Inhabited

/-- An output whose current is limited by the rule of R517. -/
inductive OutPin where
  | gcmd (n : Fin 192)
  | gset (g : Fin 32)
  | sdc (k : Fin 8)
  | pls (k : Fin 8)
  | syncOut
  | ppsOut
  deriving DecidableEq, Repr, Inhabited

end Sys2Proof
end

