-- ==== Sys2Proof/Machine/KetCode.lean ====
section
/-!
DEFINITION. The words of a recipe: the formats of R184 and R185 and the opcodes of R187, packed from and unpacked to their fields.
-/
namespace Sys2Proof.Machine

/-- Fields packed from the most significant one down; each is a width and a value. -/
def pack : List (Nat × Nat) → Nat
  | [] => 0
  | (w, v) :: r => (v % 2 ^ w) * 2 ^ (r.foldr (fun f n => f.1 + n) 0) + pack r

/-- The values of the fields of given widths, from the most significant one down. -/
def unpack : List Nat → Nat → List Nat
  | [], _ => []
  | w :: r, n => (n / 2 ^ (r.foldr (fun f m => f + m) 0) % 2 ^ w) :: unpack r n

/-- A Bool as a field. -/
def kbit (b : Bool) : Nat := if b then 1 else 0

/-- The common fields (R184). -/
def headFields (op : Nat) (h : KHead) : List (Nat × Nat) :=
  [(8, op), (1, kbit h.pn), (3, h.qsel.val), (1, kbit h.jen), (2, h.jsel.val)]

/-- The word of each format (R185). -/
def encN (op : Nat) (h : KHead) : Nat := pack (headFields op h ++ [(49, 0)])
def encL (op : Nat) (f : KL) : Nat := pack (headFields op {} ++ [(2, f.jl.val), (12, f.n1.val), (8, f.l1.val), (27, 0)])
def encS (op : Nat) (h : KHead) (f : KS) : Nat :=
  pack (headFields op h ++ [(6, f.sd.val), (6, f.sa.val), (6, f.sb.val), (1, kbit f.bcb), (6, f.eb.val), (16, 0), (8, f.imm.val)])
def encE (op : Nat) (h : KHead) (f : KE) : Nat :=
  pack (headFields op h ++ [(6, f.sd.val), (6, f.ed.val), (6, f.sa.val), (6, f.ea.val), (6, f.sb.val), (6, f.eb.val), (3, f.qd.val),
    (3, f.cond.val), (2, f.an.val), (5, 0)])
def encA (op : Nat) (h : KHead) (f : KA) : Nat := pack (headFields op h ++ [(2, f.an.val), (8, f.x.val), (39, 0)])
def encP (op : Nat) (h : KHead) (f : KP) : Nat :=
  pack (headFields op h ++ [(6, f.sd.val), (6, f.e0.val), (6, f.c1.val), (16, f.slot.val), (15, 0)])
def encT (op : Nat) (h : KHead) (f : KT) : Nat := pack (headFields op h ++ [(14, f.w.val), (3, f.qd.val), (16, 0), (16, f.slot.val)])
def encW (op : Nat) (h : KHead) (f : KW) : Nat :=
  pack (headFields op h ++ [(14, f.wd.val), (14, f.wa.val), (14, f.wb.val), (2, f.sht.val), (5, f.shn.val)])
def encI (op : Nat) (h : KHead) (f : KI) : Nat := pack (headFields op h ++ [(14, f.wd.val), (3, 0), (32, f.imm.val)])
def encX (op : Nat) (h : KHead) (f : KX) : Nat :=
  pack (headFields op h ++ [(6, f.sd.val), (6, f.ed.val), (14, f.w.val), (6, f.sb.val), (6, f.eb.val), (11, 0)])
def encB (op : Nat) (h : KHead) (f : KB) : Nat := pack (headFields op h ++ [(3, f.qd.val), (5, f.bit.val), (14, f.w.val), (27, 0)])
def encC (op : Nat) (h : KHead) (f : KC) : Nat :=
  pack (headFields op h ++ [(3, f.qd.val), (3, f.qa.val), (3, f.qb.val), (2, f.fn.val), (38, 0)])

/-- The formats. -/
inductive KFmt where
  | n | l | s | e | a | p | t | w | i | x | b | c
  deriving DecidableEq, Repr, Inhabited

/-- The format of an opcode, none for an undefined one (R187). -/
def fmtOf (op : Nat) : Option KFmt :=
  if op = 0x00 then some .n
  else if op = 0x01 then some .l
  else if op = 0x08 || op = 0x31 || op = 0x34 || op = 0x35 || op = 0x40 || op = 0x41 then some .e
  else if op = 0x09 then some .c
  else if op = 0x0A then some .b
  else if op = 0x0B || op = 0x11 || op = 0x19 then some .t
  else if op = 0x10 || op = 0x18 then some .p
  else if 0x20 ≤ op && op ≤ 0x28 || op = 0x32 || 0x38 ≤ op && op ≤ 0x3A then some .s
  else if op = 0x30 || op = 0x33 then some .a
  else if 0x42 ≤ op && op ≤ 0x46 then some .x
  else if 0x50 ≤ op && op ≤ 0x55 then some .w
  else if op = 0x56 then some .i
  else none

/-- The widths of a format's fields in bits [48:0]. -/
def fmtWidths : KFmt → List Nat
  | .n => [49]
  | .l => [2, 12, 8, 27]
  | .s => [6, 6, 6, 1, 6, 16, 8]
  | .e => [6, 6, 6, 6, 6, 6, 3, 3, 2, 5]
  | .a => [2, 8, 39]
  | .p => [6, 6, 6, 16, 15]
  | .t => [14, 3, 16, 16]
  | .w => [14, 14, 14, 2, 5]
  | .i => [14, 3, 32]
  | .x => [6, 6, 14, 6, 6, 11]
  | .b => [3, 5, 14, 27]
  | .c => [3, 3, 3, 2, 38]

/-- The place of a format's field that is marked 0 (R185). -/
def fmtZero : KFmt → Option Nat
  | .n => some 0
  | .l => some 3
  | .s => some 5
  | .e => some 9
  | .a => some 2
  | .p => some 4
  | .t => some 2
  | .w => none
  | .i => some 1
  | .x => some 5
  | .b => some 3
  | .c => some 4

/-- A word read by its format: the common fields and the format's fields in their order. -/
structure KIns where
  op : Nat := 0
  pn : Nat := 0
  qsel : Nat := 0
  jen : Nat := 0
  jsel : Nat := 0
  fmt : KFmt := .n
  f : List Nat := []
  deriving DecidableEq, Repr, Inhabited

/-- The common fields of a word. -/
def headOf (n : Nat) : List Nat := unpack [8, 1, 3, 1, 2, 49] n

/-- The fields of a word, none where its opcode is undefined. -/
def readWord (n : Nat) : Option KIns :=
  let h := headOf n
  match fmtOf (h.getD 0 0) with
  | none => none
  | some m => some { op := h.getD 0 0, pn := h.getD 1 0, qsel := h.getD 2 0, jen := h.getD 3 0, jsel := h.getD 4 0, fmt := m,
                     f := unpack (fmtWidths m) (n % 2 ^ 49) }

/-- Field `i` of a word. -/
def KIns.fld (k : KIns) (i : Nat) : Nat := k.f.getD i 0

/-- The word is a LOOP; its iterations and its length. -/
def KIns.isLoop (k : KIns) : Bool := k.op == 0x01
def KIns.loopN (k : KIns) : Nat := k.fld 1 + 1
def KIns.loopL (k : KIns) : Nat := k.fld 2 + 1

end Sys2Proof.Machine
end

