-- ==== Sys2Proof/Syntax.lean ====
section
/-!
DEFINITION. The commands and events of the block: one constructor for each row of the spec's table of operations, with its operands.
-/
namespace Sys2Proof

/-- A command or an event (spec/opcode_table.json). -/
inductive Instr where
  /-- PANTRY_WRITE (R30): A producer's write reaches the pending bank for its destination commit, or is dropped as late, too far ahead or foreign. -/
  | pantryWrite (owner slot ord : Nat) (dest : Dest) (val : Word)
  /-- PANTRY_READ (R33): A consumer reads a committed slot under its working commit index; a stale read is served from the latest commit and flagged. -/
  | pantryRead (slot cidx : Nat)
  /-- COMMIT (R31): At a commit instant all slots swap, FRESH bits update and the timing island writes its status slots. -/
  | commit
  /-- BREACH_INTERVAL_CLOSE (R43): After one full epoch without a breach of a cause, its interval closes with a record of the last affected commit. -/
  | breachIntervalClose (cause : Fin 6)
  /-- EPOCH_BOUNDARY (R65): An epoch starts at a multiple of EP_LEN; recipes start, slips are scheduled and boundary-timed settings take effect. -/
  | epochBoundary
  /-- HALF_EPOCH_POINT (R65): The half-epoch point of an epoch is reached, giving the half-epoch commit and trigger 0x02. -/
  | halfEpochPoint
  /-- GT_SNAP_READ (R50): A read of GT_SNAP_LO returns GT[31:0] and captures GT[63:32] into GT_SNAP_HI. -/
  | gtSnapRead
  /-- PPS_IN_EDGE (R57): A rising PPS_IN edge is timestamped and accepted as a measurement or rejected outside the window. -/
  | ppsInEdge
  /-- SOURCE_LOSS_TIMEOUT (R56): No valid measurement for LOSSTO seconds moves the servo from LOCKED to HOLD_REF. -/
  | sourceLossTimeout
  /-- GT_STEP (R59): In STANDBY GT is stepped by the offset at a commit instant, and epoch number, commit index and pending writes are recomputed. -/
  | gtStep
  /-- PPS_OUT_PULSE (R60): PPS_OUT rises at each whole GT second. -/
  | ppsOutPulse
  /-- PPS_OUT_END (R60): PPS_OUT falls after PPSOUT_W ms high. -/
  | ppsOutEnd
  /-- KEEPCAL_MEASURE (R62): Each second the KEEP domain measures its 32.768 kHz oscillator against GT and stores the corrected increment. -/
  | keepcalMeasure (ticks : Nat)
  /-- EP_LEN_TAKE_EFFECT (R67): A pending EP_LEN takes effect at the next whole GT second and pending writes are remapped or discarded. -/
  | epLenTakeEffect
  /-- PLL_LOCK (R68): SYSPLL or NETPLL achieves lock after XIN becomes valid. -/
  | pllLock (net : Bool)
  /-- SYSPLL_UNLOCK (R76): SYSPLL unlocks and its islands move to their fallback oscillators. -/
  | syspllUnlock
  /-- NETPLL_UNLOCK (R76): NETPLL unlocks, P0 and P1 go down and the Sieve engines move to fallback. -/
  | netpllUnlock
  /-- FALLBACK_RETURN (R74): An island returns to its PLL at the first epoch boundary after 1 ms of continuous lock. -/
  | fallbackReturn (net : Bool)
  /-- FREQ_MONITOR_WINDOW (R75): A 4,096-tick measurement window ends and an island out of range twice sets STK_CLK_RANGE. -/
  | freqMonitorWindow (island : Fin 10) (count : Nat)
  /-- DLL_LOCK (R71): The DLL declares lock after 1,024 cycles within one fine position and stores its coarse code. -/
  | dllLock (code : Nat) (correction : Int)
  /-- DLL_UNLOCK (R76): The DLL unlocks with REFCLK present; DLL outputs gate, all GCMD go low and GT enters HOLD_SYS. -/
  | dllUnlock
  /-- REFCLK_LOST (R78): Loss of REFCLK is declared, GCMD are forced low and GT moves to a holdover tier. -/
  | refclkLost
  /-- REFCLK_RETURN (R77): After 1 ms of valid edges REFCLK counts as present and the DLL relocks. -/
  | refclkReturn
  /-- XT32_STOP (R76): The keep-alive oscillator stops, setting STK_XT32_LOST and clearing KEEPCAL_OK. -/
  | xt32Stop
  /-- DLL_FULL (R70): Writing CLK_CTRL.DLL_FULL forces a full coarse search at the next lock. -/
  | dllFull
  /-- CLK_PDIV_UPD_GO (R73): Writing GO requests that all shadow post-dividers load at the next epoch boundary. -/
  | clkPdivUpdGo
  /-- PDIV_LOAD (R73): All shadow dividers load together at an epoch boundary and outputs restart in phase. -/
  | pdivLoad
  /-- ADC_SEQUENCE_TRIGGER (R90): A trigger reaches a regular or injected sequence and is accepted or ignored per the collision table. -/
  | adcSequenceTrigger (core : Fin 8) (inj : Bool)
  /-- SEQUENCE_START (R88): A triggered sequence starts its first entry DLY ticks after the trigger. -/
  | sequenceStart (core : Fin 8) (inj : Bool)
  /-- CONVERSION_END (R83): A conversion ends and the next entry of the sequence starts. -/
  | conversionEnd (core : Fin 8) (code : Fin 65536)
  /-- ADC_RESULT_WRITE (R92): An ADC result is scaled and written to the pending bank 12 ticks after its conversion ends. -/
  | adcResultWrite (src : AdcRes)
  /-- ANA_SWTRIG (R108): Writing ANA_SWTRIG triggers the regular or injected sequence of chosen cores. -/
  | anaSwtrig (val : Word)
  /-- ATMR_FIRE (R87): An analog timer fires in a tick where GT mod PER equals PH. -/
  | atmrFire (t : Fin 4)
  /-- OPEN_WIRE_ROUND (R97): An open-wire round begins, at most once per PERIOD ms. -/
  | openWireRound (core : Fin 8)
  /-- OPEN_WIRE_STEP (R94): A pull-up and pull-down test of one pin completes and its open flag is updated. -/
  | openWireStep (core : Fin 8) (codeUp codeDown : Fin 65536)
  /-- OPEN_WIRE_TIMEOUT (R97): A round not complete after 1 s sets STK_ADC_DIAG_STARVED. -/
  | openWireTimeout (core : Fin 8)
  /-- CAL_REQ (R100): Writing ADC_CALCFG.REQ requests a calibration of the core. -/
  | calReq (core : Fin 8)
  /-- CAL_AUTO (R100): The AUTO_INT interval expires and starts an automatic calibration. -/
  | calAuto (core : Fin 8)
  /-- CAL_COMPLETE (R101): All 64 calibration steps complete and the new trim applies from the next epoch boundary. -/
  | calComplete (core : Fin 8) (coef : DWord)
  /-- CAL_TIMEOUT (R101): A calibration not complete 1 s after its request is discarded and STK_CAL_STARVED set. -/
  | calTimeout (core : Fin 8)
  /-- SINC3_OUTPUT (R104): A sigma-delta channel produces a sinc3 output every OSR captures and writes it to its slot. -/
  | sinc3Output (n : Fin 48) (bits : List Bool)
  /-- OC_FILTER_OUTPUT (R105): The overcurrent filter produces an output and raises high or low events to the comparator fabric. -/
  | ocFilterOutput (n : Fin 48) (bits : List Bool)
  /-- SDD_STUCK (R106): 64 identical captures set the channel's stuck flag and stop its writes. -/
  | sddStuck (n : Fin 48)
  /-- SDD_STUCK_CLEAR (R106): 64 captures with a transition clear the stuck flag. -/
  | sddStuckClear (n : Fin 48)
  /-- COMPARATOR_CROSSING (R111): A comparator input crosses its threshold or release level and RAW, OUT and the routes change. -/
  | comparatorCrossing (n : Fin 64) (vin cref : Int)
  /-- BLANKING_END (R122): The blanking window ends and OUT takes the value of RAW. -/
  | blankingEnd (n : Fin 64)
  /-- BLANKING_LIMIT (R123): A window open for 2,048 ticks is cut for 16 ticks and STK_CMP_BLK_LONG set. -/
  | blankingLimit (n : Fin 64)
  /-- SEEDING_COMPLETE (R125): The two seeding conversions finish and the comparator is seeded and resolved. -/
  | seedingComplete (n : Fin 64) (vin vth : Int)
  /-- SEED_STARVED (R126): A comparator still unresolved 1 ms after its event sets STK_CMP_SEED_STARVED. -/
  | seedStarved (n : Fin 64)
  /-- CMP_READBACK_CHECK (R128): Steward reads a safety comparator's threshold in both modes and holds OUT at 1 on failure. -/
  | cmpReadbackCheck (n : Fin 64) (dac thr : Int)
  /-- CMP_SNAPSHOT (R132): The comparator block snapshots its states at C − 4 for each commit and writes its slots. -/
  | cmpSnapshot
  /-- KETTLE_COMPLETION (R152): An engine signals completion after the Pantry has accepted its last store. -/
  | kettleCompletion (b : Fin 12)
  /-- SECTION_DRAIN_END (R189): The drain wait of a section ends once the Pantry has accepted every store. -/
  | sectionDrainEnd (b : Fin 12) (waits : Nat)
  /-- ESCALATION_RESET (R155): FB_DWELL epochs without an overrun return the escalation count to 0. -/
  | escalationReset (b : Fin 12)
  /-- FALLBACK_AUTO_RETURN (R156): With AUTO_RET a binding returns to MAIN after FB_DWELL overrun-free epochs. -/
  | fallbackAutoReturn (b : Fin 12)
  /-- ENGINE_MODE_AT_EPOCH (R156): A pending engine-fallback or engine-resume takes effect at the boundary of its epoch. -/
  | engineModeAtEpoch (b : Fin 12)
  /-- SWAP_REQUEST (R171): Writing KET_SWAPEP_HI.REQ requests a recipe swap at epoch E. -/
  | swapRequest (b : Fin 12) (val : Word)
  /-- SWAP_AT_EPOCH (R161): At the boundary of epoch E the banks exchange and the new data map is applied, or the swap is cancelled. -/
  | swapAtEpoch (b : Fin 12)
  /-- ROTATION_START (R165): Every ROT_INT seconds a rotation of the spare engine begins with the next donor. -/
  | rotationStart
  /-- COPY_COMPLETE (R166): The donor's banks and data memory have been copied cleanly to the spare. -/
  | copyComplete
  /-- HANDOVER (R166): After 16 matching epochs and agreeing CRCs the spare becomes the runner. -/
  | handover (agree : Bool)
  /-- BIST_COMPLETE (R166): The freed engine finishes its BIST and becomes the spare or is retired. -/
  | bistComplete (pass : Bool)
  /-- KET_CYCMAX_READ (R171): A read of KET_CYCMAX returns the largest cycle count and clears it. -/
  | ketCycmaxRead (b : Fin 12)
  /-- NOP (R187): No operation for one cycle. -/
  | nop (b : Fin 12) (h : KHead)
  /-- LOOP (R177): Repeat the next L words N times, writing the iteration number to JL. -/
  | loop (b : Fin 12) (f : KL)
  /-- CMPP (R186): Set a predicate flag from comparing two stage elements. -/
  | cmpp (b : Fin 12) (h : KHead) (f : KE)
  /-- PLOG (R186): Set a predicate flag from a logic function of two flags. -/
  | plog (b : Fin 12) (h : KHead) (f : KC)
  /-- PBIT (R187): Set a predicate flag from a bit of a raw word. -/
  | pbit (b : Fin 12) (h : KHead) (f : KB)
  /-- PFRESH (R181): Set a predicate flag from the FRESH bit of a slot. -/
  | pfresh (b : Fin 12) (h : KHead) (f : KT)
  /-- LDP (R181): Load BF24 slots into stage elements at the stage exponent. -/
  | ldp (b : Fin 12) (h : KHead) (f : KP)
  /-- LDR (R181): Copy a slot's 32 bits into a raw word. -/
  | ldr (b : Fin 12) (h : KHead) (f : KT)
  /-- STP (R182): Store stage elements as normalised BF24 words to the binding's slots. -/
  | stp (b : Fin 12) (h : KHead) (f : KP)
  /-- STR (R182): Store a raw word to a RAW32 slot of the binding. -/
  | str (b : Fin 12) (h : KHead) (f : KT)
  /-- VADD (R187): Element-wise sum of two stages, narrowed. -/
  | vadd (b : Fin 12) (h : KHead) (f : KS)
  /-- VSUB (R187): Element-wise difference of two stages, narrowed. -/
  | vsub (b : Fin 12) (h : KHead) (f : KS)
  /-- VMUL (R187): Element-wise product of two stages, narrowed. -/
  | vmul (b : Fin 12) (h : KHead) (f : KS)
  /-- VMAX (R187): Element-wise maximum of two stages. -/
  | vmax (b : Fin 12) (h : KHead) (f : KS)
  /-- VMIN (R187): Element-wise minimum of two stages. -/
  | vmin (b : Fin 12) (h : KHead) (f : KS)
  /-- VABS (R187): Element-wise absolute value. -/
  | vabs (b : Fin 12) (h : KHead) (f : KS)
  /-- VNEG (R187): Element-wise negation. -/
  | vneg (b : Fin 12) (h : KHead) (f : KS)
  /-- VCLAMP (R187): Element-wise clamp to plus or minus the magnitude of SB. -/
  | vclamp (b : Fin 12) (h : KHead) (f : KS)
  /-- VMOV (R187): Copy a stage into another at its exponent. -/
  | vmov (b : Fin 12) (h : KHead) (f : KS)
  /-- MACZ (R142): Clear an accumulator with a given exponent. -/
  | macz (b : Fin 12) (h : KHead) (f : KA)
  /-- MAC (R142): Add the product of two elements to an accumulator. -/
  | mac (b : Fin 12) (h : KHead) (f : KE)
  /-- MACV (R187): Accumulate element-wise products across the four accumulators. -/
  | macv (b : Fin 12) (h : KHead) (f : KS)
  /-- ACCRED (R187): Reduce A1 to A3 into A0 and clear them. -/
  | accred (b : Fin 12) (h : KHead) (f : KA)
  /-- MACW (R143): Write an accumulator to a stage element, narrowed. -/
  | macw (b : Fin 12) (h : KHead) (f : KE)
  /-- MNS (R187): Subtract the product of two elements from an accumulator. -/
  | mns (b : Fin 12) (h : KHead) (f : KE)
  /-- SEXP (R144): Set a stage exponent and rescale its mantissas. -/
  | sexp (b : Fin 12) (h : KHead) (f : KS)
  /-- SADJ (R187): Adjust a stage exponent by an immediate and rescale its mantissas. -/
  | sadj (b : Fin 12) (h : KHead) (f : KS)
  /-- NORM (R144): Normalise a stage so its largest element lies in the normalised range. -/
  | norm (b : Fin 12) (h : KHead) (f : KS)
  /-- SQRT (R188): Correctly rounded square root of an element. -/
  | sqrt (b : Fin 12) (h : KHead) (f : KE)
  /-- RECIP (R188): Correctly rounded reciprocal of an element. -/
  | recip (b : Fin 12) (h : KHead) (f : KE)
  /-- SINCOS (R188): Cosine and sine of a raw angle into two elements. -/
  | sincos (b : Fin 12) (h : KHead) (f : KX)
  /-- ATAN2 (R188): Angle of a vector written to a raw word in turns. -/
  | atan2 (b : Fin 12) (h : KHead) (f : KX)
  /-- ANGF (R183): Convert a raw angle to signed turns in an element. -/
  | angf (b : Fin 12) (h : KHead) (f : KX)
  /-- FANG (R183): Convert an element in turns to a raw angle. -/
  | fang (b : Fin 12) (h : KHead) (f : KX)
  /-- ITOF (R183): Convert a raw signed integer to an element. -/
  | itof (b : Fin 12) (h : KHead) (f : KX)
  /-- IADD (R183): Raw word addition modulo 2^32. -/
  | iadd (b : Fin 12) (h : KHead) (f : KW)
  /-- ISUB (R183): Raw word subtraction modulo 2^32. -/
  | isub (b : Fin 12) (h : KHead) (f : KW)
  /-- IAND (R183): Raw word bitwise AND. -/
  | iand (b : Fin 12) (h : KHead) (f : KW)
  /-- IOR (R183): Raw word bitwise OR. -/
  | ior (b : Fin 12) (h : KHead) (f : KW)
  /-- IXOR (R183): Raw word bitwise XOR. -/
  | ixor (b : Fin 12) (h : KHead) (f : KW)
  /-- ISH (R187): Raw word shift left, logical right or arithmetic right. -/
  | ish (b : Fin 12) (h : KHead) (f : KW)
  /-- IMOV (R187): Write a 32-bit immediate to a raw word. -/
  | imov (b : Fin 12) (h : KHead) (f : KI)
  /-- PERIOD_BOUNDARY (R252): A leg group reaches a period boundary, loads its compare set and raises its boundary event. -/
  | periodBoundary (g : Fin 32)
  /-- MID_PERIOD_POINT (R249): A leg group reaches its mid-period point, with mid reload under ECLASS = 1. -/
  | midPeriodPoint (g : Fin 32)
  /-- TRIGGER_COMPARE (R249): A leg group reaches its TRGA position and raises its ADC trigger. -/
  | triggerCompare (g : Fin 32)
  /-- SCHEDULED_EDGE (R257): A scheduled GCMD edge falls due and is driven after dead time and short-pulse rules. -/
  | scheduledEdge (n : Fin 192)
  /-- PWM_HUPD_ARM (R253): Writing ARM arms the host shadow set for the next period boundary. -/
  | pwmHupdArm (g : Fin 32)
  /-- PWM_TRIPCTL_CLR (R263): Writing CLR clears a latched trip when every LATMASK bus is 0. -/
  | pwmTripctlClr (g : Fin 32)
  /-- SYNC_IN_PULSE (R265): A follower timestamps a SYNC_IN pulse and computes the chain error. -/
  | syncInPulse (frac : Fin 32)
  /-- SYNC_LOSS (R268): LOSS_N missed pulses clear LOCK and set STK_SYNC_LOST. -/
  | syncLoss
  /-- PWM_SNAPSHOT (R270): Each leg group snapshots its status and gate-link words at C − 4 for each commit. -/
  | pwmSnapshot
  /-- SHOOT_THROUGH_HOLD (R285): Both ideal levels of a pair at 1 for more than PER force the pair low and hold it. -/
  | shootThroughHold (g : Fin 32) (q : Fin 3)
  /-- GFB_TRANSITION (R275): A GFB transition is timestamped, filtered and counted toward a signature or response. -/
  | gfbTransition (n : Fin 192) (level : Bool) (frac : Fin 32) (stable : Bool)
  /-- CONF_WINDOW_CLOSE (R281): A response window closes without a response and NO_ON or NO_OFF is declared. -/
  | confWindowClose (n : Fin 192)
  /-- GFB_LEVEL_TIMEOUT (R281): GFB disagrees with GCMD for more than CONF_TO and NO_ON or NO_OFF is declared. -/
  | gfbLevelTimeout (n : Fin 192)
  /-- RETRY_WAIT_END (R283): The retry wait ends and the channel is released or waits again. -/
  | retryWaitEnd (n : Fin 192)
  /-- TRY_COUNT_RESET (R283): RST_S seconds without a fault return the try count to 0. -/
  | tryCountReset (n : Fin 192)
  /-- COINC_WINDOW_EXPIRE (R287): Declarations leave the 10 µs window and the escalation demand ends. -/
  | coincWindowExpire (v : Fin 12)
  /-- GSET_FRAME (R289): A GSET frame is sent at B + FRM_OFS, or skipped when an edge falls in it. -/
  | gsetFrame (g : Fin 32)
  /-- GL_CLR_LATCH (R292): Writing GL_CLR.LATCH clears a latched fault when GFB has read low for 1 µs. -/
  | glClrLatch (n : Fin 192)
  /-- GL_CLR_SHOOT (R292): Writing GL_CLR.SHOOT clears a shoot-through hold when the ideal levels allow it. -/
  | glClrShoot (g : Fin 32) (q : Fin 3)
  /-- GL_PRBCMD_GO (R295): Writing GO starts a leg-probe run in STANDBY. -/
  | glPrbcmdGo
  /-- PROBE_STEP (R296): One probe's measurement step completes and the probe is classified. -/
  | probeStep (v0 vp vm : Fin 65536)
  /-- PROBE_TIMEOUT (R295): A probe not complete 1 s after GO is classed 7 and STK_LPRB_STARVED set. -/
  | probeTimeout
  /-- OFFDLY_EXPIRE (R308): SPO latched for OFFDLY switches off the converter's mapped safety outputs. -/
  | offdlyExpire (v : Fin 12)
  /-- MONITOR_INTERNAL_FAULT (R309): An internal monitor fault puts the device in the safe state. -/
  | monitorInternalFault
  /-- MISSING_COMMIT_TIMEOUT (R310): No commit for STALE_N epochs counts as stale evaluations and causes SPO. -/
  | missingCommitTimeout (v : Fin 12)
  /-- SIN_SAMPLE (R313): Every 100 µs each safety input channel is sampled and classified. -/
  | sinSample (i : Fin 8) (chB : Bool) (uv : Int)
  /-- SIN_TEST_SLOT (R314): Every 10 ms a channel's source is switched off and the pin must fall, else a TEST fault. -/
  | sinTestSlot (i : Fin 8) (chB : Bool) (uv : Int)
  /-- SIN_DISCREPANCY_TIMEOUT (R315): The second channel fails to follow within DISC and a discrepancy fault latches. -/
  | sinDiscrepancyTimeout (i : Fin 8)
  /-- SOUT_SWITCH_ON (R318): An output becomes permitted and SOUT_L closes. -/
  | soutSwitchOn (j : Fin 4)
  /-- SOUT_H_CLOSE (R318): SOUT_H closes 50 µs after SOUT_L. -/
  | soutHClose (j : Fin 4)
  /-- SOUT_TEST (R319): Every 10 ms each switch of an output is tested and a fault latches and causes SPO. -/
  | soutTest (j : Fin 4) (kind : Fin 7)
  /-- SAFETY_TELEGRAM_RX (R322): A received safety telegram is checked and accepted or discarded. -/
  | safetyTelegramRx (r : Fin 8) (bytes : List Byte)
  /-- SAFECOM_WDOG_EXPIRE (R323): A receive connection's watchdog expires, it fails and SPO latches with cause 5. -/
  | safecomWdogExpire (r : Fin 8)
  /-- SAFETY_TELEGRAM_TX (R321): A transmit connection sends a telegram every TXPER. -/
  | safetyTelegramTx (t : Fin 8)
  /-- MONITOR_DIAGNOSTIC (R324): A periodic monitor diagnostic runs within its 10 ms interval. -/
  | monitorDiagnostic (elem : MonDiag) (ok : Bool)
  /-- PAD_READBACK_MISMATCH (R324): A GCMD pad disagrees with command AND permit for 10 ns and SPO with cause 14 follows. -/
  | padReadbackMismatch (n : Fin 192) (agree : Bool)
  /-- CHECKER_SELF_TEST (R331): Every 1 ms the lockstep checker injects differences and tests its parity paths. -/
  | checkerSelfTest (ok : Bool)
  /-- FRAME_START (R332): A 1 ms Steward frame starts and a checkpoint is written and the journal cleared. -/
  | frameStart (diverged : Bool) (entries : Nat)
  /-- LOCKSTEP_MISMATCH (R334): A compare or parity mismatch blocks the transaction and starts a re-run. -/
  | lockstepMismatch (group : Fin 16) (kind : Fin 3) (addr : Word) (entries : Nat)
  /-- RERUN_COMPLETE (R335): The re-run reaches the blocked transaction and the outcome is classified. -/
  | rerunComplete (agree testOk : Bool)
  /-- STEWARD_WRITE_ISSUE (R337): Steward issues a held Pantry write within the interval ending at its destination. -/
  | stewardWriteIssue
  /-- SPLIT (R342): At a frame start C1 leaves lockstep to boot the candidate image. -/
  | split
  /-- SPLIT_READY (R342): C1 signals READY after verifying and initialising the new Steward. -/
  | splitReady (outcome : SplitBoot)
  /-- SPLIT_HANDOVER (R342): At the first epoch boundary after READY C0 freezes and exports its state. -/
  | splitHandover
  /-- SPLIT_ACCEPT (R342): C1 accepts the state export and REJOIN starts. -/
  | splitAccept (accept : Bool)
  /-- REJOIN (R342): Both cores reset to C1's checkpoint and lockstep restarts on the new firmware. -/
  | rejoin
  /-- SPLIT_TIMEOUT (R344): The split timer leaves less than 1 ms before REJOIN and the split aborts. -/
  | splitTimeout
  /-- SCRUB_SLOT (R346): The scrubber reads and corrects one SRAM word in its slot. -/
  | scrubSlot (err : SramErr) (region : Fin 4) (hit : List (Fin 64))
  /-- FRAME_RX (R349): A frame is received on P0 or P1 and checked, deduplicated and dispatched. -/
  | frameRx (port : Fin 2) (f : NetFrame)
  /-- NODE_TABLE_AGE (R351): Sequence entries expire after 400 ms and nodes after 60 s. -/
  | nodeTableAge
  /-- PRP_SUPERVISION_TX (R350): A PRP supervision frame is sent on both ports every 2 s. -/
  | prpSupervisionTx
  /-- LINK_LOSS (R352): A port loses its link, setting STK_NET_LINK. -/
  | linkLoss (port : Fin 3)
  /-- PATH_ERROR (R352): Frames from a node on one path only for 10 s declare a path error. -/
  | pathError (mac : BitVec 48)
  /-- ANNOUNCE_RX (R357): A PTP Announce is received and the best master algorithm runs. -/
  | announceRx (port : Fin 2) (a : PtpAnnounce)
  /-- SYNC_RX (R356): A PTP Sync or its Follow_Up completes an offset measurement. -/
  | syncRx (port : Fin 2) (m : PtpSync)
  /-- PDELAY_REQ_RX (R354): A Pdelay_Req is answered two-step. -/
  | pdelayReqRx (port : Fin 2) (domain seq : Nat)
  /-- PDELAY_REQ_TX (R354): The device sends its own Pdelay_Req every second. -/
  | pdelayReqTx (port : Fin 2)
  /-- PDELAY_RESP_RX (R354): A peer-delay response completes a meanPathDelay measurement. -/
  | pdelayRespRx (port : Fin 2) (m : PtpDelay)
  /-- ANNOUNCE_TIMEOUT (R357): The time port receives no Announce for announceReceiptTimeout and the PASSIVE port takes over. -/
  | announceTimeout
  /-- SV_FRAME_RX (R363): A sampled-values frame of a subscribed stream is checked and its ASDUs processed. -/
  | svFrameRx (port : Fin 2) (f : SvFrame)
  /-- SV_SAMPLE_WRITE (R366): The Sieve engine writes a buffered sample in the interval ending at its destination. -/
  | svSampleWrite (stream : Fin 16)
  /-- SV_STREAM_LOST (R367): No sample accepted for LOSS_MS marks the stream lost. -/
  | svStreamLost (stream : Fin 16)
  /-- SV_PUBLISH (R368): A publication emits a frame of NASDU samples. -/
  | svPublish (stream : Fin 4)
  /-- GOOSE_RX (R371): A GOOSE message of a subscription is checked and its members written. -/
  | gooseRx (m : GooseMsg)
  /-- GOOSE_EXPIRY (R373): A subscription's valid time passes without a message and it expires. -/
  | gooseExpiry (n : Fin 64)
  /-- GOOSE_RETRANSMIT (R375): A scheduled GOOSE retransmission or heartbeat is sent. -/
  | gooseRetransmit (u : Fin 16)
  /-- BEACON (R378): A BEACON is broadcast on P2 every BEACON seconds, subject to admission. -/
  | beacon
  /-- STATUS_REQ (R378): A STATUS_REQ on P2 is answered with STATUS. -/
  | statusReq (seq : Fin 65536)
  /-- LOG_REQ (R378): A LOG_REQ on P2 is answered with LOG records. -/
  | logReq (seq : Fin 65536) (start : Word) (count : Nat)
  /-- WATCH_IDLE_TIMEOUT (R380): No valid watch frame for IDLE seconds moves WATCH to DORMANT. -/
  | watchIdleTimeout
  /-- P2_WAKE (R380): Link pulses for 20 ms on TL_P/TL_N raise a wake in DORMANT. -/
  | p2Wake
  /-- MTR_E_READ (R392): A read of MTR_E_LO captures the HI word and wrap counters. -/
  | mtrERead (m : Fin 4) (r : Fin 7)
  /-- PLS_PULSE (R395): A queued energy pulse becomes active on its PLS output. -/
  | plsPulse (k : Fin 8)
  /-- PLS_PULSE_END (R395): A pulse ends after WIDTH ms active. -/
  | plsPulseEnd (k : Fin 8)
  /-- MCNT_EDGE (R397): A debounced MCNT level change is counted. -/
  | mcntEdge (i : Fin 4) (closed : Bool)
  /-- MCNT_CFG_WRITE (R397): Any write to MCNT_CFG resets MCNT_DIFF to 0. -/
  | mcntCfgWrite (i : Fin 4) (val : Word)
  /-- TRACK_CHANGE (R406): A digital group's state changes and a record is written, opening a block if needed. -/
  | trackChange (g : Fin 16)
  /-- ANALOG_SAMPLE (R407): An analog track is sampled on its grid and recorded beyond its deadband. -/
  | analogSample (a : Fin 64)
  /-- REC_CTRL_ARM (R411): Writing ARM discards any capture and enters REARM. -/
  | recCtrlArm
  /-- REARM_COMPLETE (R411): After 64 ticks of REARM every bank opens block 0 and the recorder is ARMED. -/
  | rearmComplete
  /-- RECORDER_TRIGGER (R412): A trigger condition holds and the recorder protects its pre-trigger blocks and enters POST. -/
  | recorderTrigger (ev : Fin 16)
  /-- REC_CTRL_SWTRIG (R412): Writing SWTRIG raises a software trigger. -/
  | recCtrlSwtrig
  /-- REC_CTRL_STOP (R416): Writing STOP closes every bank and the recorder goes to DONE. -/
  | recCtrlStop
  /-- POST_END (R415): At trigger + POST a bank closes with cause 1. -/
  | postEnd
  /-- SQ_DOORBELL (R426): A write of MBX_SQTAIL submits entries or is ignored as invalid. -/
  | sqDoorbell (q : Fin 4) (val : Word)
  /-- CQ_HEAD_WRITE (R425): A write of MBX_CQHEAD releases consumed completions. -/
  | cqHeadWrite (q : Fin 4) (val : Word)
  /-- COMMAND_FETCH (R427): Steward fetches a descriptor in round order and checks its tag and fence. -/
  | commandFetch
  /-- COMMAND_TIMEOUT (R446): A command not started within TIMEOUT_MS completes with ST_TIMEOUT. -/
  | commandTimeout (tag : Fin 64)
  /-- MAILBOX_RESET (R446): PERST_N, link down, FLR or MRESET resets the HOST domain and mailbox. -/
  | mailboxReset
  /-- MBX_STK_READ (R431): A read of MBX_STK clears the pending event interrupt. -/
  | mbxStkRead
  /-- QSPI_FRAME (R422): A quad-SPI read or write frame accesses BAR0 or BAR2 space. -/
  | qspiFrame (f : QspiFrame)
  /-- SESSION_EXPIRE (R445): An expert session's duration expires and the window closes. -/
  | sessionExpire
  /-- AUTH_LOCKOUT_END (R443): The 60 s refusal of EXP_OPEN after three failures ends. -/
  | authLockoutEnd
  /-- IDENTIFY (R438): Return the identity block. -/
  | identify (tag : Fin 64)
  /-- STATUS (R436): Return device state, QUAL, DET_OK, supervisor state and latest commit. -/
  | status (tag : Fin 64)
  /-- STATE (R437): Request RUN, STANDBY or WATCH and carry out the transition of R47. -/
  | state (tag : Fin 64)
  /-- TIME_SET (R58): Set the TAI second count in STANDBY as a GT step. -/
  | timeSet (tag : Fin 64)
  /-- CFG_LOAD (R439): Check and apply a configuration image whole or not at all. -/
  | cfgLoad (tag : Fin 64) (dma : List Byte)
  /-- STICKY (R489): Return a copy of the sticky file and clear masked bits. -/
  | sticky (tag : Fin 64)
  /-- LOG_READ (R502): Return held log records in SEQ order from a given SEQ. -/
  | logRead (tag : Fin 64)
  /-- CAL (R100): Start or queue a calibration of chosen cores. -/
  | cal (tag : Fin 64)
  /-- RECOVER (R99): Run the test-DAC checks of chosen cores in STANDBY. -/
  | recover (tag : Fin 64) (tests : List TdacTest)
  /-- DIAG (R128): Run threshold readback checks of chosen comparators. -/
  | diag (tag : Fin 64) (readings : List (Int × Int))
  /-- RECIPE_LOAD (R200): Write a recipe image to the inactive bank and run the loader's check. -/
  | recipeLoad (tag : Fin 64) (dma : List Byte)
  /-- RECIPE_SWAP (R161): Schedule a swap of a binding's banks at epoch E. -/
  | recipeSwap (tag : Fin 64)
  /-- ENG_FALLBACK (R156): Schedule a binding's entry to FALLBACK at epoch E. -/
  | engFallback (tag : Fin 64)
  /-- ENG_RESUME (R156): Schedule a binding's return to MAIN at epoch E. -/
  | engResume (tag : Fin 64)
  /-- ENG_DUMP (R436): Return data memory of a binding as at its last completed epoch. -/
  | engDump (tag : Fin 64)
  /-- LAW_PARAM (R206): Write tunable law parameters to host slots for a chosen commit. -/
  | lawParam (tag : Fin 64)
  /-- PAN_WRITE (R435): Write host slots of descriptor 20 for a chosen commit. -/
  | panWrite (tag : Fin 64) (dma : List Byte)
  /-- PWM_SET (R253): Write and arm a host-class compare set of a leg group. -/
  | pwmSet (tag : Fin 64) (dma : List Byte)
  /-- TRIP_CLEAR (R263): Clear latched trips of chosen leg groups. -/
  | tripClear (tag : Fin 64)
  /-- GL_CAL (R278): Measure link delays of chosen channels in STANDBY with the DC link discharged. -/
  | glCal (tag : Fin 64) (trips : List (Nat × Nat))
  /-- GL_CLEAR (R292): Clear latched gate faults and shoot-through holds. -/
  | glClear (tag : Fin 64)
  /-- LPRB_RUN (R295): Run the leg probes in a mask and return their classes. -/
  | lprbRun (tag : Fin 64)
  /-- SAFE_CFG (R303): Load a safety configuration as pending and return its CRC. -/
  | safeCfg (tag : Fin 64) (cfg : Option SafeConfig) (dma : List Byte)
  /-- SAFE_CONFIRM (R303): Put the pending safety configuration in force when the CRC matches. -/
  | safeConfirm (tag : Fin 64)
  /-- SPO (R305): Latch SPO with cause 12 for chosen converters. -/
  | spo (tag : Fin 64)
  /-- SPO_RESET (R306): Clear latched SPO and output faults when no demand is active. -/
  | spoReset (tag : Fin 64)
  /-- NET_TABLE (R358): Load a Sieve table in STANDBY. -/
  | netTable (tag : Fin 64) (dma : List Byte)
  /-- METER_READ (R391): Return a whole metering latch. -/
  | meterRead (tag : Fin 64)
  /-- METER_PRESET (R393): Load chosen energy register values in STANDBY. -/
  | meterPreset (tag : Fin 64) (dma : List Byte)
  /-- REC_ARM (R411): Arm the recorder by command. -/
  | recArm (tag : Fin 64)
  /-- REC_TRIG (R412): Raise a software recorder trigger by command. -/
  | recTrig (tag : Fin 64)
  /-- REC_STOP (R416): Stop the recorder by command. -/
  | recStop (tag : Fin 64)
  /-- REC_READ (R417): Read words of a recorder bank outside ARMED and POST. -/
  | recRead (tag : Fin 64)
  /-- FW_STAGE (R463): Write a part of a firmware image to the staging slot and verify it when complete. -/
  | fwStage (tag : Fin 64) (dma : List Byte)
  /-- FW_ACTIVATE (R341): Start a hitless split to the staged image. -/
  | fwActivate (tag : Fin 64)
  /-- FW_COMMIT (R465): Write a commit record naming the slot to boot, optionally raising the fused minimum. -/
  | fwCommit (tag : Fin 64)
  /-- EXP_OPEN (R442): Request an expert session and return a challenge. -/
  | expOpen (tag : Fin 64)
  /-- EXP_AUTH (R442): Verify the signed challenge and open the session. -/
  | expAuth (tag : Fin 64) (dma : List Byte)
  /-- EXP_CLOSE (R445): Close the open expert session. -/
  | expClose (tag : Fin 64)
  /-- EXP_KEYPROG (R441): Program an empty expert key slot with a public key. -/
  | expKeyprog (tag : Fin 64) (dma : List Byte)
  /-- EXPERT_WINDOW_WRITE (R424): A write through the register window is applied if granted or refused and counted. -/
  | expertWindowWrite (a : Fin 1048576) (val : Word)
  /-- REGISTER_WRITE (R12): A write to a register without its own row sets its fields under the block's rules. -/
  | registerWrite (a : Fin 67108864) (val : Word)
  /-- PAN_CTRL_CLEAR (R36): Writing PAN_CTRL.CLEAR in STANDBY zeroes unwritten slots at the next commit. -/
  | panCtrlClear
  /-- STICKY_CLEAR (R490): A W1C write clears sticky bits in the summary and all instances, a same-cycle set winning. -/
  | stickyClear (a : Fin 1048576) (val sets : Word)
  /-- COUNTER_CLEAR (R13): Any write to a SAT counter clears it to 0. -/
  | counterClear (a : Fin 1048576)
  /-- STK_FGT_READ (R491): A read of STK_FGT_LO captures STK_FGT_HI. -/
  | stkFgtRead (n : Fin 128)
  /-- LOG_PINREL (R501): Writing a SEQ releases pinned records not later than it. -/
  | logPinrel (seq : Word)
  /-- MRAM_RECORD_WRITE (R498): The queue writes its next record to MRAM when admitted, with COMMIT last. -/
  | mramRecordWrite (out : MramOut)
  /-- PORST_N_RESET (R448): PORST_N held low for 10 µs resets the device. -/
  | porstNReset
  /-- KEEP_POWER_UP (R499): A cold KEEP power-up resets the device and scans the MRAM log. -/
  | keepPowerUp (mainOk : Bool)
  /-- BROWN_OUT (R471): A rail below brown-out before WATCH causes a supply-monitor reset. -/
  | brownOut (rails : Fin 64) (latched : Bool)
  /-- BOOT (R457): The boot sequence selects and verifies an image, runs self-tests and restores configuration. -/
  | boot (t : BootTests)
  /-- BOOT_COMPLETE (R457): Boot ends with READY = 1 and the device in STANDBY. -/
  | bootComplete
  /-- STORE_REWRITE_COMPLETE (R461): The configuration store rewrite completes and is logged. -/
  | storeRewriteComplete
  /-- MAIN_SUPPLY_LOSS (R470): A rail crosses its loss level and the device moves to WATCH. -/
  | mainSupplyLoss (rails : Fin 64)
  /-- MAIN_SUPPLY_VALID (R468): All rails stay valid for 10 ms and the device boots to STANDBY. -/
  | mainSupplyValid
  /-- WAKE_ADMIT (R474): A pending wake is admitted and DORMANT moves to WATCH. -/
  | wakeAdmit
  /-- LIGHT_WAKE (R474): HVIN light for 1 s with HSTORE at LWAKE raises a light wake. -/
  | lightWake
  /-- ENERGY_POLICY_DORMANT (R475): HSTORE below OFF for 100 ms moves WATCH to DORMANT. -/
  | energyPolicyDormant
  /-- KEEP_MONITOR_CONVERSION (R482): Every 10 ms the KEEP monitor converts HSTORE, HBAT, HVIN and HSET and selects the KEEP source. -/
  | keepMonitorConversion (r : KeepReading)
  /-- DARKNESS_TIMEOUT (R481): HVIN dark for DARK_T allows KEEP to move to HBAT. -/
  | darknessTimeout
  /-- HSET_FAULT (R477): A faulty set point persists and the converter falls back to 1.2 V. -/
  | hsetFault
  /-- HSTORE_SHORT (R486): HSTORE below 0.5 V for 1 s with the main supply valid sets STK_HSTORE_SHORT. -/
  | hstoreShort
  /-- JTAG_INSTRUCTION (R515): A boundary-scan instruction is loaded and acts, or acts as BYPASS outside reset. -/
  | jtagInstruction (ins : JtagIns) (porstLow : Bool)
  /-- OUTPUT_FOLDBACK (R517): An output above 20 mA for 2 µs changes to current-limited drive. -/
  | outputFoldback (pin : OutPin)
  /-- READBACK_CHECK_TIMEOUT (R128): A safety-assigned comparator's readback check not completed within 10 ms sets STK_CMP_DIAG_STARVED and holds OUT at 1. -/
  | readbackCheckTimeout (n : Fin 64)
  /-- DLL_RELOCK_TIMEOUT (R71): A commanded DLL_MODE relock not complete within the bound of R70 falls under the rules of a DLL unlock with REFCLK present. -/
  | dllRelockTimeout
  /-- LINK_UP (R352): A port P0, P1 or P2 completes training and its link comes up, resuming reception and the path. -/
  | linkUp (port : Fin 3) (amp : Bool)
  /-- SAFE_START_UP_TESTS_DONE (R472): The safety monitor's start-up tests after a SAFE power-up complete, and safety outputs may be energised. -/
  | safeStartUpTestsDone
  /-- SOUT_CURRENT_LIMIT (R528): A safety output whose current limit lasts longer than 100 µs latches an output fault and causes SPO with cause 13. -/
  | soutCurrentLimit (j : Fin 4)
  /-- XT32_RESTART (R76): The stopped keep-alive oscillator runs again, XT32_OK returns to 1 and KEEPCAL_OK stays cleared until a new calibration. -/
  | xt32Restart
  /-- TEST_EN_HIGH (R515): TEST_EN driven high makes the device hold itself in reset. -/
  | testEnHigh
  deriving DecidableEq, Repr, Inhabited

end Sys2Proof
end

