-- ==== Sys2Proof/Decode.lean ====
section
/-!
DEFINITION. Words to commands. The table of operations gives its rows no bits, so no word of it spells a command; the recipe words of R184 to
R187 do, and are read here.
-/
namespace Sys2Proof

open Sys2Proof.Machine

/-- No row of the table has bit fields: no word spells a command. -/
def decodeTableWord (_nbits _w : Nat) : Option Instr := none

/-- A field as a number below `n`. -/
def fin (n v : Nat) : Fin (n + 1) := Fin.ofNat (n + 1) v

/-- The common fields of a word (R184). -/
def headOfIns (k : KIns) : KHead := { pn := k.pn == 1, qsel := fin 7 k.qsel, jen := k.jen == 1, jsel := fin 3 k.jsel }

/-- The fields of each format (R185). -/
def readL (k : KIns) : KL := { jl := fin 3 (k.fld 0), n1 := fin 4095 (k.fld 1), l1 := fin 255 (k.fld 2) }
def readS (k : KIns) : KS :=
  { sd := fin 63 (k.fld 0), sa := fin 63 (k.fld 1), sb := fin 63 (k.fld 2), bcb := k.fld 3 == 1, eb := fin 63 (k.fld 4), imm := fin 255 (k.fld 6) }
def readE (k : KIns) : KE :=
  { sd := fin 63 (k.fld 0), ed := fin 63 (k.fld 1), sa := fin 63 (k.fld 2), ea := fin 63 (k.fld 3), sb := fin 63 (k.fld 4), eb := fin 63 (k.fld 5),
    qd := fin 7 (k.fld 6), cond := fin 7 (k.fld 7), an := fin 3 (k.fld 8) }
def readA (k : KIns) : KA := { an := fin 3 (k.fld 0), x := fin 255 (k.fld 1) }
def readP (k : KIns) : KP := { sd := fin 63 (k.fld 0), e0 := fin 63 (k.fld 1), c1 := fin 63 (k.fld 2), slot := fin 65535 (k.fld 3) }
def readT (k : KIns) : KT := { w := fin 16383 (k.fld 0), qd := fin 7 (k.fld 1), slot := fin 65535 (k.fld 3) }
def readW (k : KIns) : KW :=
  { wd := fin 16383 (k.fld 0), wa := fin 16383 (k.fld 1), wb := fin 16383 (k.fld 2), sht := fin 3 (k.fld 3), shn := fin 31 (k.fld 4) }
def readI (k : KIns) : KI := { wd := fin 16383 (k.fld 0), imm := fin 4294967295 (k.fld 2) }
def readX (k : KIns) : KX :=
  { sd := fin 63 (k.fld 0), ed := fin 63 (k.fld 1), w := fin 16383 (k.fld 2), sb := fin 63 (k.fld 3), eb := fin 63 (k.fld 4) }
def readB (k : KIns) : KB := { qd := fin 7 (k.fld 0), bit := fin 31 (k.fld 1), w := fin 16383 (k.fld 2) }
def readC (k : KIns) : KC := { qd := fin 7 (k.fld 0), qa := fin 7 (k.fld 1), qb := fin 7 (k.fld 2), fn := fin 3 (k.fld 3) }

/-- The bits that a format marks 0 are 0 (R185). -/
def zerosOk (k : KIns) : Bool := match fmtZero k.fmt with | some i => k.fld i == 0 | none => true

/-- The instruction that a word of a recipe of binding `b` spells, none for a word that R184 and R185 refuse. -/
def decodeKet (b : Fin 12) (n : Nat) : Option Instr :=
  match readWord n with
  | none => none
  | some k =>
    if !zerosOk k then none
    else if k.op = 0x00 then some (.nop b (headOfIns k))
    else if k.op = 0x01 then (if headOfIns k = default then some (.loop b (readL k)) else none)
    else if k.op = 0x08 then some (.cmpp b (headOfIns k) (readE k))
    else if k.op = 0x09 then some (.plog b (headOfIns k) (readC k))
    else if k.op = 0x0A then some (.pbit b (headOfIns k) (readB k))
    else if k.op = 0x0B then some (.pfresh b (headOfIns k) (readT k))
    else if k.op = 0x10 then some (.ldp b (headOfIns k) (readP k))
    else if k.op = 0x11 then some (.ldr b (headOfIns k) (readT k))
    else if k.op = 0x18 then some (.stp b (headOfIns k) (readP k))
    else if k.op = 0x19 then some (.str b (headOfIns k) (readT k))
    else if k.op = 0x20 then some (.vadd b (headOfIns k) (readS k))
    else if k.op = 0x21 then some (.vsub b (headOfIns k) (readS k))
    else if k.op = 0x22 then some (.vmul b (headOfIns k) (readS k))
    else if k.op = 0x23 then some (.vmax b (headOfIns k) (readS k))
    else if k.op = 0x24 then some (.vmin b (headOfIns k) (readS k))
    else if k.op = 0x25 then some (.vabs b (headOfIns k) (readS k))
    else if k.op = 0x26 then some (.vneg b (headOfIns k) (readS k))
    else if k.op = 0x27 then some (.vclamp b (headOfIns k) (readS k))
    else if k.op = 0x28 then some (.vmov b (headOfIns k) (readS k))
    else if k.op = 0x30 then some (.macz b (headOfIns k) (readA k))
    else if k.op = 0x31 then some (.mac b (headOfIns k) (readE k))
    else if k.op = 0x32 then some (.macv b (headOfIns k) (readS k))
    else if k.op = 0x33 then some (.accred b (headOfIns k) (readA k))
    else if k.op = 0x34 then some (.macw b (headOfIns k) (readE k))
    else if k.op = 0x35 then some (.mns b (headOfIns k) (readE k))
    else if k.op = 0x38 then some (.sexp b (headOfIns k) (readS k))
    else if k.op = 0x39 then some (.sadj b (headOfIns k) (readS k))
    else if k.op = 0x3A then some (.norm b (headOfIns k) (readS k))
    else if k.op = 0x40 then some (.sqrt b (headOfIns k) (readE k))
    else if k.op = 0x41 then some (.recip b (headOfIns k) (readE k))
    else if k.op = 0x42 then some (.sincos b (headOfIns k) (readX k))
    else if k.op = 0x43 then some (.atan2 b (headOfIns k) (readX k))
    else if k.op = 0x44 then some (.angf b (headOfIns k) (readX k))
    else if k.op = 0x45 then some (.fang b (headOfIns k) (readX k))
    else if k.op = 0x46 then some (.itof b (headOfIns k) (readX k))
    else if k.op = 0x50 then some (.iadd b (headOfIns k) (readW k))
    else if k.op = 0x51 then some (.isub b (headOfIns k) (readW k))
    else if k.op = 0x52 then some (.iand b (headOfIns k) (readW k))
    else if k.op = 0x53 then some (.ior b (headOfIns k) (readW k))
    else if k.op = 0x54 then some (.ixor b (headOfIns k) (readW k))
    else if k.op = 0x55 then some (.ish b (headOfIns k) (readW k))
    else if k.op = 0x56 then some (.imov b (headOfIns k) (readI k))
    else none

/-- The word of a recipe instruction, none for a command that is none (R184, R185). -/
def encodeKet : Instr → Option Nat
  | .nop _ h => some (encN 0x00 h)
  | .loop _ f => some (encL 0x01 f)
  | .cmpp _ h f => some (encE 0x08 h f)
  | .plog _ h f => some (encC 0x09 h f)
  | .pbit _ h f => some (encB 0x0A h f)
  | .pfresh _ h f => some (encT 0x0B h f)
  | .ldp _ h f => some (encP 0x10 h f)
  | .ldr _ h f => some (encT 0x11 h f)
  | .stp _ h f => some (encP 0x18 h f)
  | .str _ h f => some (encT 0x19 h f)
  | .vadd _ h f => some (encS 0x20 h f)
  | .vsub _ h f => some (encS 0x21 h f)
  | .vmul _ h f => some (encS 0x22 h f)
  | .vmax _ h f => some (encS 0x23 h f)
  | .vmin _ h f => some (encS 0x24 h f)
  | .vabs _ h f => some (encS 0x25 h f)
  | .vneg _ h f => some (encS 0x26 h f)
  | .vclamp _ h f => some (encS 0x27 h f)
  | .vmov _ h f => some (encS 0x28 h f)
  | .macz _ h f => some (encA 0x30 h f)
  | .mac _ h f => some (encE 0x31 h f)
  | .macv _ h f => some (encS 0x32 h f)
  | .accred _ h f => some (encA 0x33 h f)
  | .macw _ h f => some (encE 0x34 h f)
  | .mns _ h f => some (encE 0x35 h f)
  | .sexp _ h f => some (encS 0x38 h f)
  | .sadj _ h f => some (encS 0x39 h f)
  | .norm _ h f => some (encS 0x3A h f)
  | .sqrt _ h f => some (encE 0x40 h f)
  | .recip _ h f => some (encE 0x41 h f)
  | .sincos _ h f => some (encX 0x42 h f)
  | .atan2 _ h f => some (encX 0x43 h f)
  | .angf _ h f => some (encX 0x44 h f)
  | .fang _ h f => some (encX 0x45 h f)
  | .itof _ h f => some (encX 0x46 h f)
  | .iadd _ h f => some (encW 0x50 h f)
  | .isub _ h f => some (encW 0x51 h f)
  | .iand _ h f => some (encW 0x52 h f)
  | .ior _ h f => some (encW 0x53 h f)
  | .ixor _ h f => some (encW 0x54 h f)
  | .ish _ h f => some (encW 0x55 h f)
  | .imov _ h f => some (encI 0x56 h f)
  | _ => none

end Sys2Proof
end

