-- ==== Sys2Proof/Config.lean ====
section
/-!
DEFINITION. What one device fixes and the manual leaves open: constants with no body, so that nothing can be proved of their values.
-/
namespace Sys2Proof

/-- The n-th free value: a value the spec leaves open. [log 8: DESIGN CHOICE] -/
opaque Config.freeValue : Nat → BitVec 64

/-- The serial number, the vendor and subsystem identities and the network address of a device (R438, R421). [log 9: DESIGN CHOICE] -/
opaque Config.serial : BitVec 128
/-- [log 9: DESIGN CHOICE] -/
opaque Config.vendorIds : BitVec 64
/-- [log 9: DESIGN CHOICE] -/
opaque Config.macAddress : BitVec 48

/-- SHA-384 of a byte string, and whether an ECDSA P-384 signature over it verifies under a key (R442, R453); the public keys of the
mask ROM (R452). [log 9: DESIGN CHOICE] -/
opaque Config.sha384 : List (BitVec 8) → BitVec 384
/-- [log 9: DESIGN CHOICE] -/
opaque Config.romKey : Nat → List (BitVec 8)
/-- [log 9: DESIGN CHOICE] -/
opaque Config.signed : BitVec 384 → List (BitVec 8) → List (BitVec 8) → Bool

/-- The count of a published quantity whose SCALE is 0, by the value (R368), and the BF24 word of an infinite FLOAT32 member (R374). [log 155: DESIGN CHOICE] -/
opaque Config.scaleZero : BitVec 32 → BitVec 32
/-- [log 155: DESIGN CHOICE] -/
opaque Config.infiniteMember : BitVec 32 → BitVec 32

/-- The n-th free value where it is a rational number. [log 8: DESIGN CHOICE; 88: DEDUCED] -/
opaque Config.freeRat : Nat → Rat

end Sys2Proof
end

