-- ==== Sys2Proof/Machine/RegMap.lean ====
section
/-!
DEFINITION. The register map: every register of the manual with its BAR0 address, reset value and access masks
(R12, R36, R79, R80, R107, R108, R109, R134, R170 to R172, R271, R272, R299, R300, R327, R348, R381, R401, R402, R419, R447, R488, R490, R502,
at the block bases of R423), the place of every field, and every sticky bit with its bit of the sticky file (R489).
-/
namespace Sys2Proof.Machine

/-- One register of the map: its address `base + s1*i + s2*j` for `i < n1`, `j < n2`, its reset value and, for each access code of R12, the mask of its bits. -/
structure RegRow where
  base : Nat
  n1 : Nat
  s1 : Nat
  n2 : Nat
  s2 : Nat
  reset : Nat
  rw : Nat
  w1c : Nat
  w1s : Nat
  wo : Nat
  rc : Nat
  sat : Bool
  deriving DecidableEq, Repr

/-- A field of a register: its lowest bit and its width. -/
structure Fld where
  lo : Nat
  w : Nat
  deriving DecidableEq, Repr

/-- A sticky bit: the address of its register, its bit there, its bit of the sticky file (R489) and its index among the registers of that name (0xFF where there is only one). -/
structure Stk where
  reg : Nat
  bit : Nat
  file : Nat
  inst : Nat
  deriving DecidableEq, Repr

def Reg.PAN_CTRL : Nat := 0x11000
def Reg.PAN_CIDX_LO : Nat := 0x11004
def Reg.PAN_CIDX_HI : Nat := 0x11008
def Reg.PAN_STK : Nat := 0x1100c
def Reg.PAN_DETSTAT : Nat := 0x11010
def Reg.PAN_LATECNT : Nat := 0x11014
def Reg.PAN_OWNCNT : Nat := 0x11018
def Reg.PAN_FIRST_SLOT : Nat := 0x1101c
def Reg.PAN_FIRST_CIDX_LO : Nat := 0x11020
def Reg.PAN_FIRST_CIDX_HI : Nat := 0x11024
def Reg.PAN_DESC_RANGE (n : Nat) : Nat := 0x11100 + 0x8 * n
def Reg.PAN_DESC_ATTR (n : Nat) : Nat := 0x11104 + 0x8 * n
def Reg.GT_CTRL : Nat := 0x12000
def Reg.GT_STAT : Nat := 0x12004
def Reg.GT_SNAP_LO : Nat := 0x12008
def Reg.GT_SNAP_HI : Nat := 0x1200c
def Reg.GT_OFFSET : Nat := 0x12010
def Reg.GT_RATE : Nat := 0x12014
def Reg.GT_SLEWMAX : Nat := 0x12018
def Reg.GT_LOCKTHR : Nat := 0x1201c
def Reg.GT_STEPTHR : Nat := 0x12020
def Reg.GT_PPSWIN : Nat := 0x12024
def Reg.GT_SLIPLEN : Nat := 0x12028
def Reg.GT_SLIPSHT : Nat := 0x1202c
def Reg.GT_PPSREJ : Nat := 0x12030
def Reg.EP_LEN : Nat := 0x12040
def Reg.EP_NUM_LO : Nat := 0x12044
def Reg.EP_NUM_HI : Nat := 0x12048
def Reg.CLK_CTRL : Nat := 0x13000
def Reg.CLK_STAT : Nat := 0x13004
def Reg.CLK_STK : Nat := 0x13008
def Reg.CLK_KCLDIV (c : Nat) : Nat := 0x13010 + 0x4 * c
def Reg.CLK_DLL_CSTORE (m : Nat) : Nat := 0x13020 + 0x4 * m
def Reg.CLK_PDIV_ADC : Nat := 0x13030
def Reg.CLK_PDIV_SDF : Nat := 0x13034
def Reg.CLK_PDIV_REC : Nat := 0x13038
def Reg.CLK_PDIV_UPD : Nat := 0x1303c
def Reg.ADC_CTRL (c : Nat) : Nat := 0x20000 + 0x400 * c
def Reg.ADC_SEQCFG (c : Nat) : Nat := 0x20004 + 0x400 * c
def Reg.ADC_TRIGDLY (c : Nat) : Nat := 0x20008 + 0x400 * c
def Reg.ADC_STAT (c : Nat) : Nat := 0x2000c + 0x400 * c
def Reg.ADC_STK (c : Nat) : Nat := 0x20010 + 0x400 * c
def Reg.ADC_OVRCNT (c : Nat) : Nat := 0x20014 + 0x400 * c
def Reg.ADC_INJMISS (c : Nat) : Nat := 0x20018 + 0x400 * c
def Reg.ADC_PREEMPT (c : Nat) : Nat := 0x2001c + 0x400 * c
def Reg.ADC_OWCFG (c : Nat) : Nat := 0x20020 + 0x400 * c
def Reg.ADC_OWSET (c : Nat) : Nat := 0x20024 + 0x400 * c
def Reg.ADC_OWFLAG (c : Nat) : Nat := 0x20028 + 0x400 * c
def Reg.ADC_CALCFG (c : Nat) : Nat := 0x2002c + 0x400 * c
def Reg.ADC_TDAC (c : Nat) : Nat := 0x20030 + 0x400 * c
def Reg.ADC_ENTRY (c : Nat) (e : Nat) : Nat := 0x20100 + 0x400 * c + 0x4 * e
def Reg.ADC_GAIN (c : Nat) (e : Nat) : Nat := 0x20200 + 0x400 * c + 0x4 * e
def Reg.ADC_OFS (c : Nat) (e : Nat) : Nat := 0x20300 + 0x400 * c + 0x4 * e
def Reg.ANA_SWTRIG : Nat := 0x14000
def Reg.ANA_ATMR_PER (t : Nat) : Nat := 0x14010 + 0x8 * t
def Reg.ANA_ATMR_PH (t : Nat) : Nat := 0x14014 + 0x8 * t
def Reg.SDF_CLKDIV (k : Nat) : Nat := 0x15000 + 0x4 * k
def Reg.SDF_CFG (n : Nat) : Nat := 0x15100 + 0x4 * n
def Reg.SDF_GAIN (n : Nat) : Nat := 0x15200 + 0x4 * n
def Reg.SDF_OCTHR (n : Nat) : Nat := 0x15300 + 0x4 * n
def Reg.SDF_STK : Nat := 0x15400
def Reg.SDF_STUCK_LO : Nat := 0x15404
def Reg.SDF_STUCK_HI : Nat := 0x15408
def Reg.CMP_CFG (n : Nat) : Nat := 0x16000 + 0x10 * n
def Reg.CMP_THR (n : Nat) : Nat := 0x16004 + 0x10 * n
def Reg.CMP_BLK (n : Nat) : Nat := 0x16008 + 0x10 * n
def Reg.CMP_STAT (n : Nat) : Nat := 0x1600c + 0x10 * n
def Reg.CMP_STK : Nat := 0x16400
def Reg.CMP_BLKHIT : Nat := 0x16404
def Reg.CMP_WIN : Nat := 0x16408
def Reg.CMP_WINSTAT (i : Nat) : Nat := 0x1640c + 0x4 * i
def Reg.CMP_SAFEASG_LO : Nat := 0x16414
def Reg.CMP_SAFEASG_HI : Nat := 0x16418
def Reg.CMP_WAKE : Nat := 0x1641c
def Reg.CMP_TBSTAT : Nat := 0x16420
def Reg.CMP_RDSEL (c : Nat) : Nat := 0x16440 + 0x4 * c
def Reg.CMP_TB_CMP_LO (b : Nat) : Nat := 0x16500 + 0x10 * b
def Reg.CMP_TB_CMP_HI (b : Nat) : Nat := 0x16504 + 0x10 * b
def Reg.CMP_TB_SDD_LO (b : Nat) : Nat := 0x16508 + 0x10 * b
def Reg.CMP_TB_SDD_HI (b : Nat) : Nat := 0x1650c + 0x10 * b
def Reg.KET_SPARECFG : Nat := 0x40000
def Reg.KET_ROTSTAT : Nat := 0x40004
def Reg.KET_ROTCNT : Nat := 0x40008
def Reg.KET_BISTCNT : Nat := 0x4000c
def Reg.KET_GSTK : Nat := 0x40010
def Reg.KET_BCTRL (b : Nat) : Nat := 0x41000 + 0x100 * b
def Reg.KET_BSTAT (b : Nat) : Nat := 0x41004 + 0x100 * b
def Reg.KET_BSTK (b : Nat) : Nat := 0x41008 + 0x100 * b
def Reg.KET_OVRCFG (b : Nat) : Nat := 0x4100c + 0x100 * b
def Reg.KET_OVRCNT (b : Nat) : Nat := 0x41010 + 0x100 * b
def Reg.KET_SATCNT (b : Nat) : Nat := 0x41014 + 0x100 * b
def Reg.KET_CYC (b : Nat) : Nat := 0x41018 + 0x100 * b
def Reg.KET_CYCMAX (b : Nat) : Nat := 0x4101c + 0x100 * b
def Reg.KET_BUDGET (b : Nat) : Nat := 0x41020 + 0x100 * b
def Reg.KET_BUDGETH (b : Nat) : Nat := 0x41024 + 0x100 * b
def Reg.KET_LGMASK (b : Nat) : Nat := 0x41028 + 0x100 * b
def Reg.KET_SWAPEP_LO (b : Nat) : Nat := 0x41030 + 0x100 * b
def Reg.KET_SWAPEP_HI (b : Nat) : Nat := 0x41034 + 0x100 * b
def Reg.KET_FEFIRED (b : Nat) : Nat := 0x41038 + 0x100 * b
def Reg.KET_PC (p : Nat) : Nat := 0x44000 + 0x1000 * p
def Reg.KET_PSTAT (p : Nat) : Nat := 0x44004 + 0x1000 * p
def Reg.KET_STAGE (p : Nat) (s : Nat) : Nat := 0x44100 + 0x1000 * p + 0x8 * s
def Reg.KET_STAGEEXP (p : Nat) (s : Nat) : Nat := 0x44104 + 0x1000 * p + 0x8 * s
def Reg.KET_FE_SLOT (p : Nat) (d : Nat) : Nat := 0x44400 + 0x1000 * p + 0x10 * d
def Reg.KET_FE_LIM (p : Nat) (d : Nat) : Nat := 0x44404 + 0x1000 * p + 0x10 * d
def Reg.KET_FE_CFG (p : Nat) (d : Nat) : Nat := 0x44408 + 0x1000 * p + 0x10 * d
def Reg.KET_FE_CNT (p : Nat) (d : Nat) : Nat := 0x4440c + 0x1000 * p + 0x10 * d
def Reg.PWM_LGCFG (g : Nat) : Nat := 0x30000 + 0x100 * g
def Reg.PWM_PER (g : Nat) : Nat := 0x30004 + 0x100 * g
def Reg.PWM_PH (g : Nat) : Nat := 0x30008 + 0x100 * g
def Reg.PWM_SRC (g : Nat) : Nat := 0x3000c + 0x100 * g
def Reg.PWM_DT (g : Nat) (q : Nat) : Nat := 0x30010 + 0x100 * g + 0x4 * q
def Reg.PWM_TRIP (g : Nat) : Nat := 0x3001c + 0x100 * g
def Reg.PWM_TRIPCTL (g : Nat) : Nat := 0x30020 + 0x100 * g
def Reg.PWM_CMPA (g : Nat) : Nat := 0x30040 + 0x100 * g
def Reg.PWM_CMPB (g : Nat) : Nat := 0x30044 + 0x100 * g
def Reg.PWM_CMPC (g : Nat) : Nat := 0x30048 + 0x100 * g
def Reg.PWM_CMPD (g : Nat) : Nat := 0x3004c + 0x100 * g
def Reg.PWM_CMPE (g : Nat) : Nat := 0x30050 + 0x100 * g
def Reg.PWM_CMPF (g : Nat) : Nat := 0x30054 + 0x100 * g
def Reg.PWM_TRGA (g : Nat) : Nat := 0x30058 + 0x100 * g
def Reg.PWM_LGCMD (g : Nat) : Nat := 0x3005c + 0x100 * g
def Reg.PWM_HUPD (g : Nat) : Nat := 0x30060 + 0x100 * g
def Reg.PWM_ACT (g : Nat) (w : Nat) : Nat := 0x30080 + 0x100 * g + 0x4 * w
def Reg.PWM_LGSTAT (g : Nat) : Nat := 0x300a0 + 0x100 * g
def Reg.PWM_STK (g : Nat) : Nat := 0x300a4 + 0x100 * g
def Reg.PWM_SPCNT (g : Nat) : Nat := 0x300a8 + 0x100 * g
def Reg.PWM_RNGCNT (g : Nat) : Nat := 0x300ac + 0x100 * g
def Reg.PWM_PERCNT (g : Nat) : Nat := 0x300b0 + 0x100 * g
def Reg.PWM_TRIM (g : Nat) : Nat := 0x300b4 + 0x100 * g
def Reg.PWM_SETCIDX (g : Nat) : Nat := 0x300b8 + 0x100 * g
def Reg.PWM_SYNCCFG : Nat := 0x32000
def Reg.PWM_SYNCDLY : Nat := 0x32004
def Reg.PWM_SYNCWIN : Nat := 0x32008
def Reg.PWM_SYNCSTAT : Nat := 0x3200c
def Reg.PWM_SYNCSTK : Nat := 0x32010
def Reg.PWM_SYNCMISS : Nat := 0x32014
def Reg.GL_CFG (g : Nat) : Nat := 0x38000 + 0x100 * g
def Reg.GL_FRM (g : Nat) : Nat := 0x38004 + 0x100 * g
def Reg.GL_TMO (g : Nat) : Nat := 0x38008 + 0x100 * g
def Reg.GL_RETRY (g : Nat) : Nat := 0x3800c + 0x100 * g
def Reg.GL_STAT (g : Nat) : Nat := 0x38010 + 0x100 * g
def Reg.GL_STK (g : Nat) : Nat := 0x38014 + 0x100 * g
def Reg.GL_FLTCNT (g : Nat) : Nat := 0x38018 + 0x100 * g
def Reg.GL_ILCNT (g : Nat) : Nat := 0x3801c + 0x100 * g
def Reg.GL_SKIPCNT (g : Nat) : Nat := 0x38020 + 0x100 * g
def Reg.GL_CLR (g : Nat) : Nat := 0x38024 + 0x100 * g
def Reg.GL_CODE_LO (g : Nat) : Nat := 0x38028 + 0x100 * g
def Reg.GL_CODE_HI (g : Nat) : Nat := 0x3802c + 0x100 * g
def Reg.GL_TGT (g : Nat) (c : Nat) : Nat := 0x38040 + 0x100 * g + 0x10 * c
def Reg.GL_LIM (g : Nat) (c : Nat) : Nat := 0x38044 + 0x100 * g + 0x10 * c
def Reg.GL_LDLY (g : Nat) (c : Nat) : Nat := 0x38048 + 0x100 * g + 0x10 * c
def Reg.GL_TSW (g : Nat) (c : Nat) : Nat := 0x3804c + 0x100 * g + 0x10 * c
def Reg.GL_CONV (v : Nat) : Nat := 0x3c000 + 0x4 * v
def Reg.GL_COINC : Nat := 0x3c030
def Reg.GL_GSTK : Nat := 0x3c034
def Reg.GL_PRBEN : Nat := 0x3c040
def Reg.GL_PRBCFG : Nat := 0x3c044
def Reg.GL_PRBCMD : Nat := 0x3c048
def Reg.GL_PRBTHR0 : Nat := 0x3c04c
def Reg.GL_PRBTHR1 : Nat := 0x3c050
def Reg.GL_PRBTHR2 : Nat := 0x3c054
def Reg.GL_PRBTHR3 : Nat := 0x3c058
def Reg.GL_PRBRES (i : Nat) : Nat := 0x3c060 + 0x4 * i
def Reg.SAFE_CFGID : Nat := 0x17000
def Reg.SAFE_STAT : Nat := 0x17004
def Reg.SAFE_SPOLAT : Nat := 0x17008
def Reg.SAFE_SPODEM : Nat := 0x1700c
def Reg.SAFE_STK : Nat := 0x17010
def Reg.SAFE_SPOCNT : Nat := 0x17014
def Reg.SAFE_CAUSE (v : Nat) : Nat := 0x17040 + 0x4 * v
def Reg.SAFE_SIN (i : Nat) : Nat := 0x17080 + 0x4 * i
def Reg.SAFE_SOUT (j : Nat) : Nat := 0x170a0 + 0x4 * j
def Reg.SAFE_RX (r : Nat) : Nat := 0x170c0 + 0x4 * r
def Reg.SAFE_RXERR (r : Nat) : Nat := 0x170e0 + 0x4 * r
def Reg.SAFE_RXREP (r : Nat) : Nat := 0x17100 + 0x4 * r
def Reg.SAFE_RXSEQ (r : Nat) : Nat := 0x17120 + 0x4 * r
def Reg.SAFE_TXSEQ (t : Nat) : Nat := 0x17140 + 0x4 * t
def Reg.SUP_STAT : Nat := 0x18000
def Reg.SUP_STK : Nat := 0x18004
def Reg.SUP_MISCNT : Nat := 0x18008
def Reg.SUP_DIVCNT : Nat := 0x1800c
def Reg.SUP_RSYNCNT : Nat := 0x18010
def Reg.SUP_INJCNT : Nat := 0x18014
def Reg.SUP_MISINFO : Nat := 0x18018
def Reg.SUP_MISADDR : Nat := 0x1801c
def Reg.SUP_SPLIT : Nat := 0x18020
def Reg.SUP_SRAMCE : Nat := 0x18024
def Reg.SUP_SRAMUE : Nat := 0x18028
def Reg.SUP_ERRADDR : Nat := 0x1802c
def Reg.SUP_SCRUBPASS : Nat := 0x18030
def Reg.SUP_SCRUBLAST : Nat := 0x18034
def Reg.NET_CTRL : Nat := 0x19000
def Reg.NET_STAT : Nat := 0x19004
def Reg.NET_STK : Nat := 0x19008
def Reg.NET_PTPCFG : Nat := 0x1900c
def Reg.NET_RXCNT (p : Nat) : Nat := 0x19010 + 0x4 * p
def Reg.NET_RXERR (p : Nat) : Nat := 0x19018 + 0x4 * p
def Reg.NET_FWDCNT (p : Nat) : Nat := 0x19020 + 0x4 * p
def Reg.NET_DUPCNT : Nat := 0x19028
def Reg.NET_PATHERR : Nat := 0x1902c
def Reg.NET_PTPOFS (p : Nat) : Nat := 0x19030 + 0x4 * p
def Reg.NET_PTPDLY (p : Nat) : Nat := 0x19038 + 0x4 * p
def Reg.NET_GMID_LO : Nat := 0x19040
def Reg.NET_GMID_HI : Nat := 0x19044
def Reg.NET_SVSTAT (s : Nat) : Nat := 0x19100 + 0x10 * s
def Reg.NET_SVRX (s : Nat) : Nat := 0x19104 + 0x10 * s
def Reg.NET_SVMISS (s : Nat) : Nat := 0x19108 + 0x10 * s
def Reg.NET_SVLATE (s : Nat) : Nat := 0x1910c + 0x10 * s
def Reg.NET_GOVALID_LO : Nat := 0x19200
def Reg.NET_GOVALID_HI : Nat := 0x19204
def Reg.NET_GOEXP : Nat := 0x19208
def Reg.NET_PUBCNT (k : Nat) : Nat := 0x19210 + 0x4 * k
def Reg.NET_TLCFG : Nat := 0x19300
def Reg.NET_TLSTAT : Nat := 0x19304
def Reg.NET_TLDEFER : Nat := 0x19308
def Reg.MTR_CFG (m : Nat) : Nat := 0x24000 + 0x100 * m
def Reg.MTR_SRC0 (m : Nat) : Nat := 0x24004 + 0x100 * m
def Reg.MTR_SRC1 (m : Nat) : Nat := 0x24008 + 0x100 * m
def Reg.MTR_SRC2 (m : Nat) : Nat := 0x2400c + 0x100 * m
def Reg.MTR_SRC3 (m : Nat) : Nat := 0x24010 + 0x100 * m
def Reg.MTR_KV (m : Nat) : Nat := 0x24014 + 0x100 * m
def Reg.MTR_KI (m : Nat) : Nat := 0x24018 + 0x100 * m
def Reg.MTR_UDIN (m : Nat) : Nat := 0x2401c + 0x100 * m
def Reg.MTR_EVTH (m : Nat) : Nat := 0x24020 + 0x100 * m
def Reg.MTR_EVTH2 (m : Nat) : Nat := 0x24024 + 0x100 * m
def Reg.MTR_STAT (m : Nat) : Nat := 0x24028 + 0x100 * m
def Reg.MTR_STK (m : Nat) : Nat := 0x2402c + 0x100 * m
def Reg.MTR_GAPCNT (m : Nat) : Nat := 0x24030 + 0x100 * m
def Reg.MTR_LCC (m : Nat) : Nat := 0x24034 + 0x100 * m
def Reg.MTR_LATCFG (m : Nat) : Nat := 0x24038 + 0x100 * m
def Reg.MTR_LATSEQ (m : Nat) : Nat := 0x2403c + 0x100 * m
def Reg.MTR_LATGT_LO (m : Nat) : Nat := 0x24040 + 0x100 * m
def Reg.MTR_LATGT_HI (m : Nat) : Nat := 0x24044 + 0x100 * m
def Reg.MTR_LATLCC (m : Nat) : Nat := 0x24048 + 0x100 * m
def Reg.MTR_LATWRAP0 (m : Nat) : Nat := 0x2404c + 0x100 * m
def Reg.MTR_LATWRAP1 (m : Nat) : Nat := 0x24050 + 0x100 * m
def Reg.MTR_EVHEAD (m : Nat) : Nat := 0x24054 + 0x100 * m
def Reg.MTR_LATE_LO (m : Nat) (r : Nat) : Nat := 0x24060 + 0x100 * m + 0x8 * r
def Reg.MTR_LATE_HI (m : Nat) (r : Nat) : Nat := 0x24064 + 0x100 * m + 0x8 * r
def Reg.MTR_E_LO (m : Nat) (r : Nat) : Nat := 0x240a0 + 0x100 * m + 0x8 * r
def Reg.MTR_E_HI (m : Nat) (r : Nat) : Nat := 0x240a4 + 0x100 * m + 0x8 * r
def Reg.MTR_WRAP0 (m : Nat) : Nat := 0x240d8 + 0x100 * m
def Reg.MTR_WRAP1 (m : Nat) : Nat := 0x240dc + 0x100 * m
def Reg.PLS_CFG (k : Nat) : Nat := 0x25000 + 0x10 * k
def Reg.PLS_CONST (k : Nat) : Nat := 0x25004 + 0x10 * k
def Reg.PLS_BACKLOG (k : Nat) : Nat := 0x25008 + 0x10 * k
def Reg.PLS_LOST (k : Nat) : Nat := 0x2500c + 0x10 * k
def Reg.MCNT_CFG (i : Nat) : Nat := 0x25080 + 0x10 * i
def Reg.MCNT_CONST (i : Nat) : Nat := 0x25084 + 0x10 * i
def Reg.MCNT_CNT (i : Nat) : Nat := 0x25088 + 0x10 * i
def Reg.MCNT_DIFF (i : Nat) : Nat := 0x2508c + 0x10 * i
def Reg.MTR_GSTK : Nat := 0x250c0
def Reg.REC_CTRL : Nat := 0x28000
def Reg.REC_STAT : Nat := 0x28004
def Reg.REC_STK : Nat := 0x28008
def Reg.REC_PRE : Nat := 0x2800c
def Reg.REC_POST : Nat := 0x28010
def Reg.REC_EVTRIG : Nat := 0x28014
def Reg.REC_TRIGSRC : Nat := 0x28018
def Reg.REC_TRIGGT_LO : Nat := 0x2801c
def Reg.REC_TRIGGT_HI : Nat := 0x28020
def Reg.REC_ARMGT_LO : Nat := 0x28024
def Reg.REC_ARMGT_HI : Nat := 0x28028
def Reg.REC_TRIGCNT : Nat := 0x2802c
def Reg.REC_MISSCNT : Nat := 0x28030
def Reg.REC_ACFG : Nat := 0x28034
def Reg.REC_GSRC (g : Nat) : Nat := 0x28100 + 0x20 * g
def Reg.REC_GTMASK (g : Nat) : Nat := 0x28104 + 0x20 * g
def Reg.REC_GEXT0 (g : Nat) : Nat := 0x28108 + 0x20 * g
def Reg.REC_GEXT1 (g : Nat) : Nat := 0x2810c + 0x20 * g
def Reg.REC_PREACT (g : Nat) : Nat := 0x28110 + 0x20 * g
def Reg.REC_POSTACT (g : Nat) : Nat := 0x28114 + 0x20 * g
def Reg.REC_GRECCNT (g : Nat) : Nat := 0x28118 + 0x20 * g
def Reg.REC_ASRC (a : Nat) : Nat := 0x28400 + 0x10 * a
def Reg.REC_ADB (a : Nat) : Nat := 0x28404 + 0x10 * a
def Reg.REC_ALVL (a : Nat) : Nat := 0x28408 + 0x10 * a
def Reg.MBX_ID : Nat := 0x0
def Reg.MBX_STAT : Nat := 0x4
def Reg.MBX_HB : Nat := 0x8
def Reg.MBX_STK : Nat := 0xc
def Reg.MBX_IRQ : Nat := 0x10
def Reg.MBX_CTRL : Nat := 0x14
def Reg.MBX_SQTAIL (q : Nat) : Nat := 0x100 + 0x10 * q
def Reg.MBX_SQHEAD (q : Nat) : Nat := 0x104 + 0x10 * q
def Reg.MBX_CQHEAD (q : Nat) : Nat := 0x108 + 0x10 * q
def Reg.MBX_CQTAIL (q : Nat) : Nat := 0x10c + 0x10 * q
def Reg.MBX_OUTST_LO : Nat := 0x140
def Reg.MBX_OUTST_HI : Nat := 0x144
def Reg.MBX_EXPSESS : Nat := 0x150
def Reg.MBX_EXPLEFT : Nat := 0x154
def Reg.MBX_EXPREF : Nat := 0x158
def Reg.MBX_AUTHFAIL : Nat := 0x15c
def Reg.CLK_PWRSTAT : Nat := 0x13400
def Reg.CLK_PWRSTK : Nat := 0x13404
def Reg.CLK_HRVCFG : Nat := 0x13408
def Reg.CLK_HRVTHR : Nat := 0x1340c
def Reg.CLK_HRVTHR2 : Nat := 0x13410
def Reg.CLK_HRVCOST : Nat := 0x13414
def Reg.CLK_HRVMON0 : Nat := 0x13418
def Reg.CLK_HRVMON1 : Nat := 0x1341c
def Reg.CLK_HRVIRR : Nat := 0x13420
def Reg.CLK_WAKEEN : Nat := 0x13424
def Reg.CLK_DEFERCNT : Nat := 0x13428
def Reg.CLK_BATSEC : Nat := 0x1342c
def Reg.LOG_STAT : Nat := 0x10f00
def Reg.LOG_NEWEST : Nat := 0x10f04
def Reg.LOG_OLDEST : Nat := 0x10f08
def Reg.LOG_PINOLD : Nat := 0x10f0c
def Reg.LOG_DROPCNT : Nat := 0x10f10
def Reg.LOG_TORNCNT : Nat := 0x10f14
def Reg.LOG_PINREL : Nat := 0x10f18
def Reg.STK_SUM (i : Nat) : Nat := 0x10000 + 0x4 * i
/-- Word `w` of record `e` of the event ring of metering point `m` (R401). -/
def Reg.MTR_EVREC (m e w : Nat) : Nat := 0x24800 + 0x200 * m + 0x20 * e + 0x4 * w

def F.PAN_CTRL_HALF_EN : Fld := ⟨0, 1⟩
def F.PAN_CTRL_CLEAR : Fld := ⟨1, 1⟩
def F.PAN_CIDX_HI_CIDX : Fld := ⟨0, 17⟩
def F.PAN_DETSTAT_DET_OK : Fld := ⟨0, 1⟩
def F.PAN_FIRST_SLOT_SLOT : Fld := ⟨0, 16⟩
def F.PAN_FIRST_SLOT_CAUSE : Fld := ⟨16, 3⟩
def F.PAN_FIRST_SLOT_VALID : Fld := ⟨31, 1⟩
def F.PAN_FIRST_CIDX_HI_CIDX : Fld := ⟨0, 17⟩
def F.PAN_DESC_RANGE_FIRST : Fld := ⟨0, 16⟩
def F.PAN_DESC_RANGE_LAST : Fld := ⟨16, 16⟩
def F.PAN_DESC_ATTR_OWNER : Fld := ⟨0, 8⟩
def F.PAN_DESC_ATTR_TYPE : Fld := ⟨8, 1⟩
def F.PAN_DESC_ATTR_VALID : Fld := ⟨9, 1⟩
def F.PAN_DESC_ATTR_LATWIN : Fld := ⟨16, 16⟩
def F.GT_CTRL_SRC : Fld := ⟨0, 2⟩
def F.GT_CTRL_STEP_EN : Fld := ⟨2, 1⟩
def F.GT_CTRL_PPSOUT_EN : Fld := ⟨3, 1⟩
def F.GT_CTRL_PPSOUT_W : Fld := ⟨8, 8⟩
def F.GT_STAT_QUAL : Fld := ⟨0, 3⟩
def F.GT_STAT_SLEWING : Fld := ⟨3, 1⟩
def F.GT_STAT_KEEPCAL_OK : Fld := ⟨4, 1⟩
def F.GT_SLEWMAX_PPB : Fld := ⟨0, 12⟩
def F.GT_SLEWMAX_BW : Fld := ⟨16, 3⟩
def F.GT_LOCKTHR_THR_NS : Fld := ⟨0, 10⟩
def F.GT_LOCKTHR_LOSSTO : Fld := ⟨16, 6⟩
def F.GT_STEPTHR_THR_US : Fld := ⟨0, 16⟩
def F.GT_PPSWIN_WIN_NS : Fld := ⟨0, 16⟩
def F.EP_LEN_LEN : Fld := ⟨0, 20⟩
def F.EP_NUM_HI_NUM : Fld := ⟨0, 16⟩
def F.CLK_CTRL_DLL_MODE : Fld := ⟨0, 1⟩
def F.CLK_CTRL_DLL_FULL : Fld := ⟨1, 1⟩
def F.CLK_STAT_DLL_LOCK : Fld := ⟨0, 1⟩
def F.CLK_STAT_SYSPLL_LOCK : Fld := ⟨1, 1⟩
def F.CLK_STAT_NETPLL_LOCK : Fld := ⟨2, 1⟩
def F.CLK_STAT_REF_OK : Fld := ⟨3, 1⟩
def F.CLK_STAT_XT32_OK : Fld := ⟨4, 1⟩
def F.CLK_STAT_ON_FALLBACK : Fld := ⟨8, 5⟩
def F.CLK_KCLDIV_DIV : Fld := ⟨0, 4⟩
def F.CLK_DLL_CSTORE_CODE : Fld := ⟨0, 6⟩
def F.CLK_DLL_CSTORE_VALID : Fld := ⟨31, 1⟩
def F.CLK_PDIV_ADC_DIV : Fld := ⟨0, 4⟩
def F.CLK_PDIV_ADC_ACT : Fld := ⟨16, 4⟩
def F.CLK_PDIV_SDF_DIV : Fld := ⟨0, 4⟩
def F.CLK_PDIV_SDF_ACT : Fld := ⟨16, 4⟩
def F.CLK_PDIV_REC_DIV : Fld := ⟨0, 4⟩
def F.CLK_PDIV_REC_ACT : Fld := ⟨16, 4⟩
def F.CLK_PDIV_UPD_GO : Fld := ⟨0, 1⟩
def F.ADC_CTRL_EN : Fld := ⟨0, 1⟩
def F.ADC_SEQCFG_REG_LEN : Fld := ⟨0, 5⟩
def F.ADC_SEQCFG_REG_TRIG : Fld := ⟨8, 8⟩
def F.ADC_SEQCFG_INJ_LEN : Fld := ⟨16, 3⟩
def F.ADC_SEQCFG_INJ_TRIG : Fld := ⟨24, 8⟩
def F.ADC_TRIGDLY_REG_DLY : Fld := ⟨0, 16⟩
def F.ADC_TRIGDLY_INJ_DLY : Fld := ⟨16, 16⟩
def F.ADC_STAT_REG_RUN : Fld := ⟨0, 1⟩
def F.ADC_STAT_INJ_RUN : Fld := ⟨1, 1⟩
def F.ADC_STAT_DIAG_RUN : Fld := ⟨2, 1⟩
def F.ADC_STAT_CAL_RUN : Fld := ⟨3, 1⟩
def F.ADC_STAT_TDAC_PIN : Fld := ⟨4, 1⟩
def F.ADC_STAT_ENTRY : Fld := ⟨8, 6⟩
def F.ADC_OWCFG_OW_EN : Fld := ⟨0, 12⟩
def F.ADC_OWCFG_PERIOD : Fld := ⟨16, 8⟩
def F.ADC_OWSET_SETTLE : Fld := ⟨0, 16⟩
def F.ADC_OWSET_DELTA : Fld := ⟨16, 16⟩
def F.ADC_OWFLAG_OPEN : Fld := ⟨0, 12⟩
def F.ADC_CALCFG_REQ : Fld := ⟨0, 1⟩
def F.ADC_CALCFG_DONE : Fld := ⟨1, 1⟩
def F.ADC_CALCFG_AUTO_INT : Fld := ⟨8, 8⟩
def F.ADC_TDAC_CODE : Fld := ⟨0, 12⟩
def F.ADC_TDAC_PIN_EN : Fld := ⟨16, 1⟩
def F.ADC_TDAC_PIN_SEL : Fld := ⟨20, 4⟩
def F.ADC_ENTRY_CH : Fld := ⟨0, 5⟩
def F.ADC_ENTRY_SMP : Fld := ⟨8, 8⟩
def F.ADC_OFS_OFS : Fld := ⟨0, 17⟩
def F.ANA_SWTRIG_REG : Fld := ⟨0, 8⟩
def F.ANA_SWTRIG_INJ : Fld := ⟨8, 8⟩
def F.ANA_ATMR_PER_PER : Fld := ⟨0, 20⟩
def F.ANA_ATMR_PH_PH : Fld := ⟨0, 20⟩
def F.ANA_ATMR_PH_EN : Fld := ⟨31, 1⟩
def F.SDF_CLKDIV_DIV : Fld := ⟨0, 7⟩
def F.SDF_CLKDIV_ACT : Fld := ⟨16, 7⟩
def F.SDF_CLKDIV_EN : Fld := ⟨31, 1⟩
def F.SDF_CFG_EN : Fld := ⟨0, 1⟩
def F.SDF_CFG_CLKSEL : Fld := ⟨1, 3⟩
def F.SDF_CFG_EDGE : Fld := ⟨4, 1⟩
def F.SDF_CFG_OSR : Fld := ⟨8, 3⟩
def F.SDF_CFG_OC_EN : Fld := ⟨12, 1⟩
def F.SDF_CFG_OC_OSR : Fld := ⟨13, 2⟩
def F.SDF_OCTHR_HI : Fld := ⟨0, 16⟩
def F.SDF_OCTHR_LO : Fld := ⟨16, 16⟩
def F.SDF_STUCK_HI_STUCK : Fld := ⟨0, 16⟩
def F.CMP_CFG_EN : Fld := ⟨0, 1⟩
def F.CMP_CFG_MODE : Fld := ⟨1, 2⟩
def F.CMP_CFG_POL : Fld := ⟨3, 1⟩
def F.CMP_CFG_SAFE : Fld := ⟨4, 1⟩
def F.CMP_CFG_INSEL : Fld := ⟨8, 7⟩
def F.CMP_CFG_REFSEL : Fld := ⟨16, 5⟩
def F.CMP_THR_OFS : Fld := ⟨0, 10⟩
def F.CMP_THR_HYST : Fld := ⟨16, 4⟩
def F.CMP_BLK_LEN : Fld := ⟨0, 10⟩
def F.CMP_BLK_LG : Fld := ⟨16, 5⟩
def F.CMP_BLK_EV : Fld := ⟨24, 2⟩
def F.CMP_STAT_RAW : Fld := ⟨0, 1⟩
def F.CMP_STAT_OUT : Fld := ⟨1, 1⟩
def F.CMP_STAT_UNRES : Fld := ⟨2, 1⟩
def F.CMP_STAT_BLANK : Fld := ⟨3, 1⟩
def F.CMP_STAT_SEEDSAFE : Fld := ⟨4, 1⟩
def F.CMP_STAT_SAFEASG : Fld := ⟨5, 1⟩
def F.CMP_STAT_HELD : Fld := ⟨6, 1⟩
def F.CMP_WAKE_EN : Fld := ⟨0, 8⟩
def F.CMP_TBSTAT_LEVEL : Fld := ⟨0, 16⟩
def F.CMP_RDSEL_CMP : Fld := ⟨0, 6⟩
def F.CMP_RDSEL_RDMODE : Fld := ⟨8, 1⟩
def F.CMP_TB_SDD_HI_SEL : Fld := ⟨0, 16⟩
def F.KET_SPARECFG_EN : Fld := ⟨0, 1⟩
def F.KET_SPARECFG_FIRST : Fld := ⟨8, 4⟩
def F.KET_SPARECFG_ROT_INT : Fld := ⟨16, 16⟩
def F.KET_ROTSTAT_SPARE : Fld := ⟨0, 4⟩
def F.KET_ROTSTAT_DONOR : Fld := ⟨4, 4⟩
def F.KET_ROTSTAT_STEP : Fld := ⟨8, 3⟩
def F.KET_ROTSTAT_RETIRED : Fld := ⟨16, 12⟩
def F.KET_BCTRL_RUN_EN : Fld := ⟨0, 1⟩
def F.KET_BCTRL_AUTO_RET : Fld := ⟨1, 1⟩
def F.KET_BCTRL_PHYS : Fld := ⟨8, 4⟩
def F.KET_BSTAT_MODE : Fld := ⟨0, 2⟩
def F.KET_BSTAT_BANK : Fld := ⟨4, 1⟩
def F.KET_BSTAT_MARK0 : Fld := ⟨5, 1⟩
def F.KET_BSTAT_MARK1 : Fld := ⟨6, 1⟩
def F.KET_BSTAT_SWAP_PEND : Fld := ⟨7, 1⟩
def F.KET_BSTAT_ESC : Fld := ⟨8, 4⟩
def F.KET_OVRCFG_SPO_CNT : Fld := ⟨0, 4⟩
def F.KET_OVRCFG_FB_DWELL : Fld := ⟨16, 16⟩
def F.KET_CYC_CYC : Fld := ⟨0, 20⟩
def F.KET_CYCMAX_CYC : Fld := ⟨0, 20⟩
def F.KET_BUDGET_FULL : Fld := ⟨0, 20⟩
def F.KET_BUDGETH_HALF : Fld := ⟨0, 20⟩
def F.KET_SWAPEP_HI_EP : Fld := ⟨0, 16⟩
def F.KET_SWAPEP_HI_REQ : Fld := ⟨31, 1⟩
def F.KET_PC_PC : Fld := ⟨0, 14⟩
def F.KET_PC_SEC : Fld := ⟨16, 4⟩
def F.KET_PC_BANK : Fld := ⟨24, 1⟩
def F.KET_PSTAT_ROLE : Fld := ⟨0, 3⟩
def F.KET_PSTAT_BIND : Fld := ⟨8, 4⟩
def F.KET_STAGE_BASE : Fld := ⟨0, 14⟩
def F.KET_STAGE_LEN : Fld := ⟨16, 6⟩
def F.KET_STAGE_SAT : Fld := ⟨31, 1⟩
def F.KET_STAGEEXP_EXP : Fld := ⟨0, 8⟩
def F.KET_STAGEEXP_INIT : Fld := ⟨8, 8⟩
def F.KET_FE_SLOT_REF : Fld := ⟨0, 16⟩
def F.KET_FE_SLOT_FB : Fld := ⟨16, 16⟩
def F.KET_FE_CFG_TIMER : Fld := ⟨0, 16⟩
def F.KET_FE_CFG_ACT : Fld := ⟨16, 2⟩
def F.KET_FE_CFG_TYPE : Fld := ⟨20, 1⟩
def F.KET_FE_CFG_FRESHREQ : Fld := ⟨21, 1⟩
def F.KET_FE_CFG_EN : Fld := ⟨24, 1⟩
def F.KET_FE_CNT_CNT : Fld := ⟨0, 16⟩
def F.PWM_LGCFG_EN : Fld := ⟨0, 1⟩
def F.PWM_LGCFG_SRC : Fld := ⟨1, 1⟩
def F.PWM_LGCFG_ECLASS : Fld := ⟨2, 1⟩
def F.PWM_LGCFG_CARRIER : Fld := ⟨3, 1⟩
def F.PWM_LGCFG_GX64 : Fld := ⟨4, 1⟩
def F.PWM_LGCFG_SPP : Fld := ⟨5, 2⟩
def F.PWM_LGCFG_CHAIN : Fld := ⟨7, 1⟩
def F.PWM_LGCFG_PAIRMODE : Fld := ⟨8, 6⟩
def F.PWM_LGCFG_POL : Fld := ⟨16, 6⟩
def F.PWM_PER_PER : Fld := ⟨0, 24⟩
def F.PWM_PH_PH : Fld := ⟨0, 24⟩
def F.PWM_SRC_BASE : Fld := ⟨0, 16⟩
def F.PWM_SRC_STALE_LIM : Fld := ⟨16, 8⟩
def F.PWM_DT_DT : Fld := ⟨0, 12⟩
def F.PWM_DT_MINP : Fld := ⟨16, 12⟩
def F.PWM_TRIP_CBCMASK : Fld := ⟨0, 16⟩
def F.PWM_TRIP_LATMASK : Fld := ⟨16, 16⟩
def F.PWM_TRIPCTL_CBCACT : Fld := ⟨0, 3⟩
def F.PWM_TRIPCTL_CLR : Fld := ⟨8, 1⟩
def F.PWM_CMPA_CMP : Fld := ⟨0, 29⟩
def F.PWM_CMPB_CMP : Fld := ⟨0, 29⟩
def F.PWM_CMPC_CMP : Fld := ⟨0, 29⟩
def F.PWM_CMPD_CMP : Fld := ⟨0, 29⟩
def F.PWM_CMPE_CMP : Fld := ⟨0, 29⟩
def F.PWM_CMPF_CMP : Fld := ⟨0, 29⟩
def F.PWM_TRGA_TRGA : Fld := ⟨0, 29⟩
def F.PWM_LGCMD_OFF : Fld := ⟨0, 1⟩
def F.PWM_HUPD_ARM : Fld := ⟨0, 1⟩
def F.PWM_LGSTAT_STATE : Fld := ⟨0, 2⟩
def F.PWM_LGSTAT_STALE : Fld := ⟨2, 1⟩
def F.PWM_LGSTAT_TRIMAPPLY : Fld := ⟨3, 1⟩
def F.PWM_LGSTAT_CARRY : Fld := ⟨8, 6⟩
def F.PWM_SYNCCFG_ROLE : Fld := ⟨0, 2⟩
def F.PWM_SYNCCFG_OSRC : Fld := ⟨8, 5⟩
def F.PWM_SYNCCFG_ISRC : Fld := ⟨16, 5⟩
def F.PWM_SYNCCFG_DIV : Fld := ⟨24, 8⟩
def F.PWM_SYNCDLY_CHAINDLY : Fld := ⟨0, 16⟩
def F.PWM_SYNCWIN_WIN : Fld := ⟨0, 10⟩
def F.PWM_SYNCWIN_TRIMSTEP : Fld := ⟨16, 8⟩
def F.PWM_SYNCWIN_LOSS_N : Fld := ⟨24, 4⟩
def F.PWM_SYNCSTAT_LOCK : Fld := ⟨0, 1⟩
def F.PWM_SYNCSTAT_ERR : Fld := ⟨8, 24⟩
def F.GL_CFG_ADAPT : Fld := ⟨0, 6⟩
def F.GL_CFG_FB_FILT : Fld := ⟨8, 4⟩
def F.GL_CFG_FRM_DIV : Fld := ⟨16, 4⟩
def F.GL_CFG_GSET_EN : Fld := ⟨24, 1⟩
def F.GL_FRM_FRM_OFS : Fld := ⟨0, 24⟩
def F.GL_TMO_CONF_TO : Fld := ⟨0, 12⟩
def F.GL_RETRY_WAIT_MS : Fld := ⟨0, 14⟩
def F.GL_RETRY_TRIES : Fld := ⟨16, 4⟩
def F.GL_RETRY_RST_S : Fld := ⟨20, 12⟩
def F.GL_STAT_FAULT : Fld := ⟨0, 6⟩
def F.GL_STAT_LATCH : Fld := ⟨8, 6⟩
def F.GL_STAT_WAIT : Fld := ⟨16, 6⟩
def F.GL_STAT_SHOOT : Fld := ⟨24, 3⟩
def F.GL_CLR_LATCH : Fld := ⟨0, 6⟩
def F.GL_CLR_SHOOT : Fld := ⟨8, 3⟩
def F.GL_CODE_HI_CODES : Fld := ⟨0, 16⟩
def F.GL_TGT_TGT_ON : Fld := ⟨0, 16⟩
def F.GL_TGT_TGT_OFF : Fld := ⟨16, 16⟩
def F.GL_LIM_CMIN_ON : Fld := ⟨0, 4⟩
def F.GL_LIM_CMAX_ON : Fld := ⟨4, 4⟩
def F.GL_LIM_CMIN_OFF : Fld := ⟨8, 4⟩
def F.GL_LIM_CMAX_OFF : Fld := ⟨12, 4⟩
def F.GL_LIM_INIT_ON : Fld := ⟨16, 4⟩
def F.GL_LIM_INIT_OFF : Fld := ⟨20, 4⟩
def F.GL_LIM_HYS : Fld := ⟨24, 8⟩
def F.GL_LDLY_LDLY_ON : Fld := ⟨0, 16⟩
def F.GL_LDLY_LDLY_OFF : Fld := ⟨16, 16⟩
def F.GL_TSW_T_ON : Fld := ⟨0, 16⟩
def F.GL_TSW_T_OFF : Fld := ⟨16, 16⟩
def F.GL_COINC_N : Fld := ⟨0, 4⟩
def F.GL_PRBCFG_SETTLE_US : Fld := ⟨0, 16⟩
def F.GL_PRBCFG_GATE : Fld := ⟨17, 1⟩
def F.GL_PRBCMD_GO : Fld := ⟨0, 1⟩
def F.GL_PRBTHR0_TH_N : Fld := ⟨0, 16⟩
def F.GL_PRBTHR0_TH_P : Fld := ⟨16, 16⟩
def F.GL_PRBTHR1_NM_LO : Fld := ⟨0, 16⟩
def F.GL_PRBTHR1_NM_HI : Fld := ⟨16, 16⟩
def F.GL_PRBTHR2_FL_LO : Fld := ⟨0, 16⟩
def F.GL_PRBTHR2_FL_HI : Fld := ⟨16, 16⟩
def F.GL_PRBTHR3_DVNOM : Fld := ⟨0, 16⟩
def F.GL_PRBTHR3_DVTOL : Fld := ⟨16, 8⟩
def F.SAFE_STAT_CFG_OK : Fld := ⟨0, 1⟩
def F.SAFE_STAT_INTFAULT : Fld := ⟨1, 1⟩
def F.SAFE_STAT_OSC_OK : Fld := ⟨2, 1⟩
def F.SAFE_STAT_CFG_PEND : Fld := ⟨3, 1⟩
def F.SAFE_SPOLAT_SPO : Fld := ⟨0, 12⟩
def F.SAFE_SPODEM_DEM : Fld := ⟨0, 12⟩
def F.SAFE_CAUSE_FIRST : Fld := ⟨0, 4⟩
def F.SAFE_CAUSE_LAST : Fld := ⟨4, 4⟩
def F.SAFE_CAUSE_SRC : Fld := ⟨8, 8⟩
def F.SAFE_SIN_CLASS_A : Fld := ⟨0, 3⟩
def F.SAFE_SIN_CLASS_B : Fld := ⟨4, 3⟩
def F.SAFE_SIN_PERMIT : Fld := ⟨8, 1⟩
def F.SAFE_SIN_FAULT : Fld := ⟨9, 1⟩
def F.SAFE_SIN_DISC : Fld := ⟨10, 1⟩
def F.SAFE_SIN_REV : Fld := ⟨11, 1⟩
def F.SAFE_SOUT_CMD : Fld := ⟨0, 1⟩
def F.SAFE_SOUT_H_RB : Fld := ⟨1, 1⟩
def F.SAFE_SOUT_L_RB : Fld := ⟨2, 1⟩
def F.SAFE_SOUT_FAULT : Fld := ⟨3, 1⟩
def F.SAFE_SOUT_KIND : Fld := ⟨4, 3⟩
def F.SAFE_RX_STATE : Fld := ⟨0, 2⟩
def F.SAFE_RX_ERR1S : Fld := ⟨8, 8⟩
def F.SUP_STAT_STATE : Fld := ⟨0, 3⟩
def F.SUP_STAT_CLASS : Fld := ⟨4, 3⟩
def F.SUP_STAT_PHASE : Fld := ⟨8, 3⟩
def F.SUP_STAT_RECOV60 : Fld := ⟨12, 4⟩
def F.SUP_MISINFO_GROUP : Fld := ⟨0, 4⟩
def F.SUP_MISINFO_KIND : Fld := ⟨4, 3⟩
def F.SUP_MISINFO_VALID : Fld := ⟨31, 1⟩
def F.SUP_SPLIT_ELAPSED : Fld := ⟨0, 12⟩
def F.SUP_SPLIT_RESULT : Fld := ⟨12, 4⟩
def F.SUP_ERRADDR_WORD : Fld := ⟨0, 19⟩
def F.SUP_ERRADDR_REGION : Fld := ⟨20, 2⟩
def F.SUP_ERRADDR_UE : Fld := ⟨31, 1⟩
def F.SUP_SCRUBLAST_MS : Fld := ⟨0, 16⟩
def F.NET_CTRL_MODE : Fld := ⟨0, 2⟩
def F.NET_CTRL_IF0 : Fld := ⟨2, 1⟩
def F.NET_CTRL_IF1 : Fld := ⟨3, 1⟩
def F.NET_CTRL_PTP_EN : Fld := ⟨4, 1⟩
def F.NET_CTRL_PTP_DAC : Fld := ⟨5, 1⟩
def F.NET_CTRL_AMP24 : Fld := ⟨6, 1⟩
def F.NET_STAT_LINK0 : Fld := ⟨0, 1⟩
def F.NET_STAT_LINK1 : Fld := ⟨1, 1⟩
def F.NET_STAT_TPORT : Fld := ⟨2, 1⟩
def F.NET_STAT_TVALID : Fld := ⟨3, 1⟩
def F.NET_STAT_PSTATE0 : Fld := ⟨4, 3⟩
def F.NET_STAT_PSTATE1 : Fld := ⟨8, 3⟩
def F.NET_STAT_GMCLASS : Fld := ⟨16, 8⟩
def F.NET_PTPCFG_DOMAIN : Fld := ⟨0, 8⟩
def F.NET_PTPCFG_CLASSMAX : Fld := ⟨8, 8⟩
def F.NET_PTPCFG_PREF : Fld := ⟨16, 1⟩
def F.NET_SVSTAT_EN : Fld := ⟨0, 1⟩
def F.NET_SVSTAT_LOST : Fld := ⟨1, 1⟩
def F.NET_SVSTAT_UNSYNC : Fld := ⟨2, 1⟩
def F.NET_SVSTAT_SIM : Fld := ⟨3, 1⟩
def F.NET_SVSTAT_SMPCNT : Fld := ⟨16, 16⟩
def F.NET_TLCFG_BEACON : Fld := ⟨0, 16⟩
def F.NET_TLCFG_IDLE : Fld := ⟨16, 16⟩
def F.NET_TLSTAT_LINK : Fld := ⟨0, 1⟩
def F.NET_TLSTAT_AMP : Fld := ⟨1, 1⟩
def F.NET_TLSTAT_PWAKE : Fld := ⟨2, 1⟩
def F.MTR_CFG_EN : Fld := ⟨0, 1⟩
def F.MTR_CFG_SMODE : Fld := ⟨1, 1⟩
def F.MTR_CFG_NOMF : Fld := ⟨2, 1⟩
def F.MTR_CFG_REFPH : Fld := ⟨4, 2⟩
def F.MTR_CFG_DEC : Fld := ⟨8, 8⟩
def F.MTR_CFG_LOG : Fld := ⟨16, 1⟩
def F.MTR_CFG_ZCH : Fld := ⟨24, 8⟩
def F.MTR_SRC0_VA : Fld := ⟨0, 16⟩
def F.MTR_SRC0_VB : Fld := ⟨16, 16⟩
def F.MTR_SRC1_VC : Fld := ⟨0, 16⟩
def F.MTR_SRC1_IA : Fld := ⟨16, 16⟩
def F.MTR_SRC2_IB : Fld := ⟨0, 16⟩
def F.MTR_SRC2_IC : Fld := ⟨16, 16⟩
def F.MTR_SRC3_IN : Fld := ⟨0, 16⟩
def F.MTR_SRC3_TS : Fld := ⟨16, 16⟩
def F.MTR_EVTH_SAG_TH : Fld := ⟨0, 16⟩
def F.MTR_EVTH_SWL_TH : Fld := ⟨16, 16⟩
def F.MTR_EVTH2_INT_TH : Fld := ⟨0, 16⟩
def F.MTR_EVTH2_HYS : Fld := ⟨16, 8⟩
def F.MTR_EVTH2_DMIN : Fld := ⟨24, 8⟩
def F.MTR_STAT_FVALID : Fld := ⟨0, 1⟩
def F.MTR_STAT_SAG_SWELL_INTR : Fld := ⟨1, 3⟩
def F.MTR_STAT_GAP : Fld := ⟨4, 1⟩
def F.MTR_STAT_RUNNING : Fld := ⟨5, 1⟩
def F.MTR_LATCFG_N : Fld := ⟨0, 11⟩
def F.MTR_LATWRAP1_WRAP : Fld := ⟨0, 24⟩
def F.MTR_EVHEAD_NEXT : Fld := ⟨0, 4⟩
def F.MTR_EVHEAD_TOTAL : Fld := ⟨16, 16⟩
def F.MTR_LATE_HI_E : Fld := ⟨0, 31⟩
def F.MTR_E_HI_E : Fld := ⟨0, 31⟩
def F.PLS_CFG_EN : Fld := ⟨0, 1⟩
def F.PLS_CFG_POL : Fld := ⟨1, 1⟩
def F.PLS_CFG_MP : Fld := ⟨4, 2⟩
def F.PLS_CFG_REG : Fld := ⟨8, 3⟩
def F.PLS_CFG_WIDTH : Fld := ⟨16, 16⟩
def F.PLS_BACKLOG_COUNT : Fld := ⟨0, 16⟩
def F.MCNT_CFG_EN : Fld := ⟨0, 1⟩
def F.MCNT_CFG_EDGE : Fld := ⟨1, 1⟩
def F.MCNT_CFG_MP : Fld := ⟨4, 2⟩
def F.MCNT_CFG_REG : Fld := ⟨8, 3⟩
def F.MCNT_CFG_DEB : Fld := ⟨16, 8⟩
def F.MCNT_CFG_TOL : Fld := ⟨24, 8⟩
def F.REC_CTRL_ARM : Fld := ⟨0, 1⟩
def F.REC_CTRL_SWTRIG : Fld := ⟨1, 1⟩
def F.REC_CTRL_STOP : Fld := ⟨2, 1⟩
def F.REC_STAT_STATE : Fld := ⟨0, 3⟩
def F.REC_STAT_CAUSE : Fld := ⟨4, 3⟩
def F.REC_PRE_PRE : Fld := ⟨0, 20⟩
def F.REC_POST_POST : Fld := ⟨0, 24⟩
def F.REC_EVTRIG_EV : Fld := ⟨0, 4⟩
def F.REC_TRIGSRC_DIG : Fld := ⟨0, 16⟩
def F.REC_TRIGSRC_EV : Fld := ⟨16, 4⟩
def F.REC_TRIGSRC_ANA : Fld := ⟨24, 1⟩
def F.REC_TRIGSRC_SW : Fld := ⟨25, 1⟩
def F.REC_ACFG_APER : Fld := ⟨0, 16⟩
def F.REC_GSRC_KIND : Fld := ⟨0, 3⟩
def F.REC_GSRC_SEL : Fld := ⟨4, 4⟩
def F.REC_GSRC_TEDGE : Fld := ⟨8, 2⟩
def F.REC_GSRC_SLOT : Fld := ⟨16, 16⟩
def F.REC_GEXT0_FIRST : Fld := ⟨0, 9⟩
def F.REC_GEXT0_LAST : Fld := ⟨16, 9⟩
def F.REC_GEXT1_WORDS : Fld := ⟨0, 9⟩
def F.REC_GEXT1_CAUSE : Fld := ⟨16, 3⟩
def F.REC_PREACT_US : Fld := ⟨0, 20⟩
def F.REC_POSTACT_US : Fld := ⟨0, 24⟩
def F.REC_ASRC_EN : Fld := ⟨0, 1⟩
def F.REC_ASRC_CORE : Fld := ⟨4, 3⟩
def F.REC_ASRC_ENTRY : Fld := ⟨8, 6⟩
def F.REC_ASRC_TRIG : Fld := ⟨16, 2⟩
def F.MBX_ID_CHAN : Fld := ⟨0, 16⟩
def F.MBX_ID_STEP : Fld := ⟨16, 8⟩
def F.MBX_ID_HMODE : Fld := ⟨24, 1⟩
def F.MBX_STAT_READY : Fld := ⟨0, 1⟩
def F.MBX_STAT_FAILED : Fld := ⟨1, 1⟩
def F.MBX_STAT_SPLIT : Fld := ⟨2, 1⟩
def F.MBX_STAT_SESSION : Fld := ⟨3, 1⟩
def F.MBX_STAT_DEVSTATE : Fld := ⟨4, 2⟩
def F.MBX_IRQ_CQEN : Fld := ⟨0, 4⟩
def F.MBX_IRQ_EVEN : Fld := ⟨4, 1⟩
def F.MBX_CTRL_MRESET : Fld := ⟨0, 1⟩
def F.MBX_SQTAIL_TAIL : Fld := ⟨0, 6⟩
def F.MBX_SQHEAD_HEAD : Fld := ⟨0, 6⟩
def F.MBX_CQHEAD_HEAD : Fld := ⟨0, 6⟩
def F.MBX_CQTAIL_TAIL : Fld := ⟨0, 6⟩
def F.MBX_EXPSESS_GRANT : Fld := ⟨0, 16⟩
def F.MBX_EXPSESS_WRITE : Fld := ⟨16, 1⟩
def F.MBX_EXPSESS_KEY : Fld := ⟨20, 2⟩
def F.MBX_EXPSESS_OPEN : Fld := ⟨31, 1⟩
def F.MBX_EXPLEFT_SEC : Fld := ⟨0, 12⟩
def F.CLK_PWRSTAT_MAINOK : Fld := ⟨0, 1⟩
def F.CLK_PWRSTAT_KEEPSRC : Fld := ⟨1, 2⟩
def F.CLK_PWRSTAT_LIGHT : Fld := ⟨3, 1⟩
def F.CLK_PWRSTAT_HARVEST : Fld := ⟨4, 1⟩
def F.CLK_PWRSTAT_CHARGE : Fld := ⟨5, 1⟩
def F.CLK_PWRSTAT_LASTWAKE : Fld := ⟨8, 3⟩
def F.CLK_PWRSTAT_RAILLOST : Fld := ⟨16, 6⟩
def F.CLK_PWRSTAT_RSTCAUSE : Fld := ⟨24, 3⟩
def F.CLK_HRVCFG_CST : Fld := ⟨0, 16⟩
def F.CLK_HRVCFG_DARK_T : Fld := ⟨16, 12⟩
def F.CLK_HRVCFG_CHG : Fld := ⟨28, 1⟩
def F.CLK_HRVTHR_OFF : Fld := ⟨0, 9⟩
def F.CLK_HRVTHR_WAKE : Fld := ⟨16, 9⟩
def F.CLK_HRVTHR2_LWAKE : Fld := ⟨0, 9⟩
def F.CLK_HRVTHR2_VMAX : Fld := ⟨16, 9⟩
def F.CLK_HRVCOST_LOG : Fld := ⟨0, 8⟩
def F.CLK_HRVCOST_TL : Fld := ⟨8, 12⟩
def F.CLK_HRVCOST_RES : Fld := ⟨20, 12⟩
def F.CLK_HRVMON0_HSTORE : Fld := ⟨0, 10⟩
def F.CLK_HRVMON0_HBAT : Fld := ⟨16, 10⟩
def F.CLK_HRVMON1_HVIN : Fld := ⟨0, 10⟩
def F.CLK_HRVMON1_HSET : Fld := ⟨16, 10⟩
def F.CLK_HRVMON1_HBAT_NEG : Fld := ⟨30, 1⟩
def F.CLK_HRVMON1_HVIN_NEG : Fld := ⟨31, 1⟩
def F.CLK_HRVIRR_IIN : Fld := ⟨0, 16⟩
def F.CLK_WAKEEN_P2 : Fld := ⟨0, 1⟩
def F.CLK_WAKEEN_LIGHT : Fld := ⟨1, 1⟩
def F.LOG_STAT_QDEPTH : Fld := ⟨0, 7⟩
def F.LOG_STAT_PINCNT : Fld := ⟨16, 11⟩

def Stk.PAN_LATE : Stk := ⟨Reg.PAN_STK, 0, 0, 0xFF⟩
def Stk.PAN_OWNER : Stk := ⟨Reg.PAN_STK, 1, 1, 0xFF⟩
def Stk.PAN_STALE_READ : Stk := ⟨Reg.PAN_STK, 2, 2, 0xFF⟩
def Stk.CLK_RANGE : Stk := ⟨Reg.PAN_STK, 3, 3, 0xFF⟩
def Stk.EPOCH_OVR : Stk := ⟨Reg.PAN_STK, 4, 4, 0xFF⟩
def Stk.SV_ALIGN : Stk := ⟨Reg.PAN_STK, 5, 5, 0xFF⟩
def Stk.REF_LOST : Stk := ⟨Reg.CLK_STK, 0, 6, 0xFF⟩
def Stk.DLL_UNLOCK : Stk := ⟨Reg.CLK_STK, 1, 7, 0xFF⟩
def Stk.SYSPLL_UNLOCK : Stk := ⟨Reg.CLK_STK, 2, 8, 0xFF⟩
def Stk.NETPLL_UNLOCK : Stk := ⟨Reg.CLK_STK, 3, 9, 0xFF⟩
def Stk.XT32_LOST : Stk := ⟨Reg.CLK_STK, 4, 10, 0xFF⟩
def Stk.GT_STEP_DENIED : Stk := ⟨Reg.CLK_STK, 5, 11, 0xFF⟩
def Stk.PPS_REJECT : Stk := ⟨Reg.CLK_STK, 6, 12, 0xFF⟩
def Stk.GT_HOLDOVER : Stk := ⟨Reg.CLK_STK, 7, 13, 0xFF⟩
def Stk.ADC_SEQ_OVR (c : Nat) : Stk := ⟨Reg.ADC_STK c, 0, 14, c⟩
def Stk.ADC_INJ_MISS (c : Nat) : Stk := ⟨Reg.ADC_STK c, 1, 15, c⟩
def Stk.ADC_OPEN (c : Nat) : Stk := ⟨Reg.ADC_STK c, 2, 16, c⟩
def Stk.ADC_RANGE (c : Nat) : Stk := ⟨Reg.ADC_STK c, 3, 17, c⟩
def Stk.CAL_STARVED (c : Nat) : Stk := ⟨Reg.ADC_STK c, 4, 18, c⟩
def Stk.ADC_DIAG_STARVED (c : Nat) : Stk := ⟨Reg.ADC_STK c, 5, 19, c⟩
def Stk.TDAC_FAIL (c : Nat) : Stk := ⟨Reg.ADC_STK c, 6, 20, c⟩
def Stk.SDD_STUCK : Stk := ⟨Reg.SDF_STK, 0, 21, 0xFF⟩
def Stk.SDF_OC : Stk := ⟨Reg.SDF_STK, 1, 22, 0xFF⟩
def Stk.BLANK_HIT : Stk := ⟨Reg.CMP_STK, 0, 23, 0xFF⟩
def Stk.CMP_SEED_SAFE : Stk := ⟨Reg.CMP_STK, 1, 24, 0xFF⟩
def Stk.CMP_SEED_STARVED : Stk := ⟨Reg.CMP_STK, 2, 25, 0xFF⟩
def Stk.CMP_DAC_FAIL : Stk := ⟨Reg.CMP_STK, 3, 26, 0xFF⟩
def Stk.CMP_DIAG_STARVED : Stk := ⟨Reg.CMP_STK, 4, 27, 0xFF⟩
def Stk.CMP_WINCFG : Stk := ⟨Reg.CMP_STK, 5, 28, 0xFF⟩
def Stk.CMP_BLK_LONG : Stk := ⟨Reg.CMP_STK, 6, 29, 0xFF⟩
def Stk.KET_SPARE_MISMATCH : Stk := ⟨Reg.KET_GSTK, 0, 32, 0xFF⟩
def Stk.KET_BIST_FAIL : Stk := ⟨Reg.KET_GSTK, 1, 33, 0xFF⟩
def Stk.KET_SPARE_LOST : Stk := ⟨Reg.KET_GSTK, 2, 34, 0xFF⟩
def Stk.KET_DONOR_SUSPECT : Stk := ⟨Reg.KET_GSTK, 3, 35, 0xFF⟩
def Stk.KET_SAT (b : Nat) : Stk := ⟨Reg.KET_BSTK b, 0, 36, b⟩
def Stk.KET_ACCSAT (b : Nat) : Stk := ⟨Reg.KET_BSTK b, 1, 37, b⟩
def Stk.KET_OVR (b : Nat) : Stk := ⟨Reg.KET_BSTK b, 2, 38, b⟩
def Stk.KET_FOLLOW (b : Nat) : Stk := ⟨Reg.KET_BSTK b, 3, 39, b⟩
def Stk.KET_FB (b : Nat) : Stk := ⟨Reg.KET_BSTK b, 4, 40, b⟩
def Stk.KET_SPO_REQ (b : Nat) : Stk := ⟨Reg.KET_BSTK b, 5, 41, b⟩
def Stk.KET_SWAP_CANCEL (b : Nat) : Stk := ⟨Reg.KET_BSTK b, 6, 42, b⟩
def Stk.PWM_SHORT (g : Nat) : Stk := ⟨Reg.PWM_STK g, 0, 43, g⟩
def Stk.PWM_CMP_RANGE (g : Nat) : Stk := ⟨Reg.PWM_STK g, 1, 44, g⟩
def Stk.PWM_STALE (g : Nat) : Stk := ⟨Reg.PWM_STK g, 2, 45, g⟩
def Stk.PWM_CBC (g : Nat) : Stk := ⟨Reg.PWM_STK g, 3, 46, g⟩
def Stk.PWM_LATCH (g : Nat) : Stk := ⟨Reg.PWM_STK g, 4, 47, g⟩
def Stk.PWM_CARRY_LOST (g : Nat) : Stk := ⟨Reg.PWM_STK g, 5, 48, g⟩
def Stk.SYNC_LOST : Stk := ⟨Reg.PWM_SYNCSTK, 0, 30, 0xFF⟩
def Stk.SYNC_WIN : Stk := ⟨Reg.PWM_SYNCSTK, 1, 31, 0xFF⟩
def Stk.GL_FAULT (g : Nat) : Stk := ⟨Reg.GL_STK g, 0, 49, g⟩
def Stk.GL_FB_TO (g : Nat) : Stk := ⟨Reg.GL_STK g, 1, 50, g⟩
def Stk.GL_LATCH (g : Nat) : Stk := ⟨Reg.GL_STK g, 2, 51, g⟩
def Stk.SHOOT_REQ (g : Nat) : Stk := ⟨Reg.GL_STK g, 3, 52, g⟩
def Stk.GL_IL_WAIT (g : Nat) : Stk := ⟨Reg.GL_STK g, 4, 53, g⟩
def Stk.GL_GSET_SKIP (g : Nat) : Stk := ⟨Reg.GL_STK g, 5, 54, g⟩
def Stk.GL_ADAPT_LIM (g : Nat) : Stk := ⟨Reg.GL_STK g, 6, 55, g⟩
def Stk.GL_COINC : Stk := ⟨Reg.GL_GSTK, 0, 56, 0xFF⟩
def Stk.LPRB_FAIL : Stk := ⟨Reg.GL_GSTK, 1, 57, 0xFF⟩
def Stk.LPRB_STARVED : Stk := ⟨Reg.GL_GSTK, 2, 58, 0xFF⟩
def Stk.SPO : Stk := ⟨Reg.SAFE_STK, 0, 64, 0xFF⟩
def Stk.SAFE_INTFAULT : Stk := ⟨Reg.SAFE_STK, 1, 65, 0xFF⟩
def Stk.SAFE_PLAUS : Stk := ⟨Reg.SAFE_STK, 2, 66, 0xFF⟩
def Stk.SAFE_STALE : Stk := ⟨Reg.SAFE_STK, 3, 67, 0xFF⟩
def Stk.SIN_DISC : Stk := ⟨Reg.SAFE_STK, 4, 68, 0xFF⟩
def Stk.SIN_FAULT : Stk := ⟨Reg.SAFE_STK, 5, 69, 0xFF⟩
def Stk.SIN_REVERSED : Stk := ⟨Reg.SAFE_STK, 6, 70, 0xFF⟩
def Stk.SOUT_FAULT : Stk := ⟨Reg.SAFE_STK, 7, 71, 0xFF⟩
def Stk.SAFECOM_WDOG : Stk := ⟨Reg.SAFE_STK, 8, 72, 0xFF⟩
def Stk.SAFECOM_ERR : Stk := ⟨Reg.SAFE_STK, 9, 73, 0xFF⟩
def Stk.SAFECOM_DIAG : Stk := ⟨Reg.SAFE_STK, 10, 74, 0xFF⟩
def Stk.LS_MISMATCH : Stk := ⟨Reg.SUP_STK, 0, 75, 0xFF⟩
def Stk.LATENT_DIV : Stk := ⟨Reg.SUP_STK, 1, 76, 0xFF⟩
def Stk.LS_INJ_FAIL : Stk := ⟨Reg.SUP_STK, 2, 77, 0xFF⟩
def Stk.LS_JOURNAL_FULL : Stk := ⟨Reg.SUP_STK, 3, 78, 0xFF⟩
def Stk.SUP_FAILED : Stk := ⟨Reg.SUP_STK, 4, 79, 0xFF⟩
def Stk.SPLIT_ABORT : Stk := ⟨Reg.SUP_STK, 5, 80, 0xFF⟩
def Stk.SRAM_CE : Stk := ⟨Reg.SUP_STK, 6, 81, 0xFF⟩
def Stk.SRAM_UE : Stk := ⟨Reg.SUP_STK, 7, 82, 0xFF⟩
def Stk.SCRUB_LATE : Stk := ⟨Reg.SUP_STK, 8, 83, 0xFF⟩
def Stk.NET_LINK : Stk := ⟨Reg.NET_STK, 0, 84, 0xFF⟩
def Stk.NET_PATH : Stk := ⟨Reg.NET_STK, 1, 85, 0xFF⟩
def Stk.PTP_PORTSW : Stk := ⟨Reg.NET_STK, 2, 86, 0xFF⟩
def Stk.PTP_CLASS : Stk := ⟨Reg.NET_STK, 3, 87, 0xFF⟩
def Stk.SV_MISS : Stk := ⟨Reg.NET_STK, 5, 89, 0xFF⟩
def Stk.SV_LOST : Stk := ⟨Reg.NET_STK, 6, 90, 0xFF⟩
def Stk.SV_PUB_QUAL : Stk := ⟨Reg.NET_STK, 7, 91, 0xFF⟩
def Stk.GOOSE_EXP : Stk := ⟨Reg.NET_STK, 8, 92, 0xFF⟩
def Stk.GOOSE_MISMATCH : Stk := ⟨Reg.NET_STK, 9, 93, 0xFF⟩
def Stk.NET_RXERR : Stk := ⟨Reg.NET_STK, 10, 94, 0xFF⟩
def Stk.TL_DEFER : Stk := ⟨Reg.NET_STK, 11, 95, 0xFF⟩
def Stk.MTR_GAP (m : Nat) : Stk := ⟨Reg.MTR_STK m, 0, 59, m⟩
def Stk.MTR_FREQ (m : Nat) : Stk := ⟨Reg.MTR_STK m, 1, 60, m⟩
def Stk.MTR_WRAP (m : Nat) : Stk := ⟨Reg.MTR_STK m, 2, 61, m⟩
def Stk.MTR_EVENT (m : Nat) : Stk := ⟨Reg.MTR_STK m, 3, 62, m⟩
def Stk.MTR_RESTORE (m : Nat) : Stk := ⟨Reg.MTR_STK m, 4, 63, m⟩
def Stk.PLS_BACKLOG : Stk := ⟨Reg.MTR_GSTK, 0, 96, 0xFF⟩
def Stk.MCNT_DIFF : Stk := ⟨Reg.MTR_GSTK, 1, 97, 0xFF⟩
def Stk.REC_REARM_MISS : Stk := ⟨Reg.REC_STK, 0, 98, 0xFF⟩
def Stk.REC_FULL : Stk := ⟨Reg.REC_STK, 1, 99, 0xFF⟩
def Stk.REC_PRESHORT : Stk := ⟨Reg.REC_STK, 2, 100, 0xFF⟩
def Stk.REC_ABORT : Stk := ⟨Reg.REC_STK, 3, 101, 0xFF⟩
def Stk.MBX_DOORBELL : Stk := ⟨Reg.MBX_STK, 0, 102, 0xFF⟩
def Stk.MBX_DUPTAG : Stk := ⟨Reg.MBX_STK, 1, 103, 0xFF⟩
def Stk.HOST_RESET : Stk := ⟨Reg.MBX_STK, 2, 104, 0xFF⟩
def Stk.EXP_AUTH_FAIL : Stk := ⟨Reg.MBX_STK, 3, 105, 0xFF⟩
def Stk.EXP_REFUSED : Stk := ⟨Reg.MBX_STK, 4, 106, 0xFF⟩
def Stk.HBAT_REV : Stk := ⟨Reg.CLK_PWRSTK, 0, 107, 0xFF⟩
def Stk.HVIN_REV : Stk := ⟨Reg.CLK_PWRSTK, 1, 108, 0xFF⟩
def Stk.HBAT_LOW : Stk := ⟨Reg.CLK_PWRSTK, 2, 109, 0xFF⟩
def Stk.HSET_FAULT : Stk := ⟨Reg.CLK_PWRSTK, 3, 110, 0xFF⟩
def Stk.HSTORE_SHORT : Stk := ⟨Reg.CLK_PWRSTK, 4, 111, 0xFF⟩
def Stk.KEEP_BAT : Stk := ⟨Reg.CLK_PWRSTK, 5, 112, 0xFF⟩
def Stk.BURST_DEFER : Stk := ⟨Reg.CLK_PWRSTK, 6, 113, 0xFF⟩
def Stk.SUPPLY_LOSS : Stk := ⟨Reg.CLK_PWRSTK, 7, 114, 0xFF⟩
def Stk.HOLDUP_SHORT : Stk := ⟨Reg.CLK_PWRSTK, 8, 115, 0xFF⟩
def Stk.BOOT_SLOWFLASH : Stk := ⟨Reg.STK_SUM 3, 20, 116, 0xFF⟩
def Stk.BOOT_FALLBACK : Stk := ⟨Reg.STK_SUM 3, 21, 117, 0xFF⟩
def Stk.BOOT_NOIMAGE : Stk := ⟨Reg.STK_SUM 3, 22, 118, 0xFF⟩
def Stk.BOOT_SELFTEST : Stk := ⟨Reg.STK_SUM 3, 23, 119, 0xFF⟩
def Stk.CFG_RESTORE : Stk := ⟨Reg.STK_SUM 3, 24, 120, 0xFF⟩
def Stk.LOG_QOVR : Stk := ⟨Reg.STK_SUM 3, 25, 121, 0xFF⟩
def Stk.LOG_TORN : Stk := ⟨Reg.STK_SUM 3, 26, 122, 0xFF⟩
def Stk.LOG_PINFULL : Stk := ⟨Reg.STK_SUM 3, 27, 123, 0xFF⟩
def Stk.LOG_ECC : Stk := ⟨Reg.STK_SUM 3, 28, 124, 0xFF⟩

/-- The registers of chapter 01. -/
def regRows01 : List RegRow :=
  [⟨0x11000, 1, 0x100000, 1, 0x100000, 0x0, 0x1, 0x0, 0x0, 0x2, 0x0, false⟩, -- PAN_CTRL
   ⟨0x11004, 1, 0x100000, 1, 0x100000, 0x0, 0x0, 0x0, 0x0, 0x0, 0x0, false⟩, -- PAN_CIDX_LO
   ⟨0x11008, 1, 0x100000, 1, 0x100000, 0x0, 0x0, 0x0, 0x0, 0x0, 0x0, false⟩, -- PAN_CIDX_HI
   ⟨0x1100c, 1, 0x100000, 1, 0x100000, 0x0, 0x0, 0x3f, 0x0, 0x0, 0x0, false⟩, -- PAN_STK
   ⟨0x11010, 1, 0x100000, 1, 0x100000, 0x1, 0x0, 0x0, 0x0, 0x0, 0x0, false⟩, -- PAN_DETSTAT
   ⟨0x11014, 1, 0x100000, 1, 0x100000, 0x0, 0x0, 0x0, 0x0, 0x0, 0x0, true⟩, -- PAN_LATECNT
   ⟨0x11018, 1, 0x100000, 1, 0x100000, 0x0, 0x0, 0x0, 0x0, 0x0, 0x0, true⟩, -- PAN_OWNCNT
   ⟨0x1101c, 1, 0x100000, 1, 0x100000, 0x0, 0x0, 0x0, 0x0, 0x0, 0x0, false⟩, -- PAN_FIRST_SLOT
   ⟨0x11020, 1, 0x100000, 1, 0x100000, 0x0, 0x0, 0x0, 0x0, 0x0, 0x0, false⟩, -- PAN_FIRST_CIDX_LO
   ⟨0x11024, 1, 0x100000, 1, 0x100000, 0x0, 0x0, 0x0, 0x0, 0x0, 0x0, false⟩, -- PAN_FIRST_CIDX_HI
   ⟨0x11100, 128, 0x8, 1, 0x8, 0x0, 0xffffffff, 0x0, 0x0, 0x0, 0x0, false⟩, -- PAN_DESC_RANGE
   ⟨0x11104, 128, 0x8, 1, 0x8, 0x0, 0xffff03ff, 0x0, 0x0, 0x0, 0x0, false⟩] -- PAN_DESC_ATTR
/-- The registers of chapter 02. -/
def regRows02 : List RegRow :=
  [⟨0x12000, 1, 0x100000, 1, 0x100000, 0x6404, 0xff0f, 0x0, 0x0, 0x0, 0x0, false⟩, -- GT_CTRL
   ⟨0x12004, 1, 0x100000, 1, 0x100000, 0x0, 0x0, 0x0, 0x0, 0x0, 0x0, false⟩, -- GT_STAT
   ⟨0x12008, 1, 0x100000, 1, 0x100000, 0x0, 0x0, 0x0, 0x0, 0x0, 0x0, false⟩, -- GT_SNAP_LO
   ⟨0x1200c, 1, 0x100000, 1, 0x100000, 0x0, 0x0, 0x0, 0x0, 0x0, 0x0, false⟩, -- GT_SNAP_HI
   ⟨0x12010, 1, 0x100000, 1, 0x100000, 0x0, 0x0, 0x0, 0x0, 0x0, 0x0, false⟩, -- GT_OFFSET
   ⟨0x12014, 1, 0x100000, 1, 0x100000, 0x0, 0x0, 0x0, 0x0, 0x0, 0x0, false⟩, -- GT_RATE
   ⟨0x12018, 1, 0x100000, 1, 0x100000, 0x303e8, 0x70fff, 0x0, 0x0, 0x0, 0x0, false⟩, -- GT_SLEWMAX
   ⟨0x1201c, 1, 0x100000, 1, 0x100000, 0x30064, 0x3f03ff, 0x0, 0x0, 0x0, 0x0, false⟩, -- GT_LOCKTHR
   ⟨0x12020, 1, 0x100000, 1, 0x100000, 0xa, 0xffff, 0x0, 0x0, 0x0, 0x0, false⟩, -- GT_STEPTHR
   ⟨0x12024, 1, 0x100000, 1, 0x100000, 0x3e8, 0xffff, 0x0, 0x0, 0x0, 0x0, false⟩, -- GT_PPSWIN
   ⟨0x12028, 1, 0x100000, 1, 0x100000, 0x0, 0x0, 0x0, 0x0, 0x0, 0x0, true⟩, -- GT_SLIPLEN
   ⟨0x1202c, 1, 0x100000, 1, 0x100000, 0x0, 0x0, 0x0, 0x0, 0x0, 0x0, true⟩, -- GT_SLIPSHT
   ⟨0x12030, 1, 0x100000, 1, 0x100000, 0x0, 0x0, 0x0, 0x0, 0x0, 0x0, true⟩, -- GT_PPSREJ
   ⟨0x12040, 1, 0x100000, 1, 0x100000, 0x1388, 0xfffff, 0x0, 0x0, 0x0, 0x0, false⟩, -- EP_LEN
   ⟨0x12044, 1, 0x100000, 1, 0x100000, 0x0, 0x0, 0x0, 0x0, 0x0, 0x0, false⟩, -- EP_NUM_LO
   ⟨0x12048, 1, 0x100000, 1, 0x100000, 0x0, 0x0, 0x0, 0x0, 0x0, 0x0, false⟩, -- EP_NUM_HI
   ⟨0x13000, 1, 0x100000, 1, 0x100000, 0x0, 0x1, 0x0, 0x0, 0x2, 0x0, false⟩, -- CLK_CTRL
   ⟨0x13004, 1, 0x100000, 1, 0x100000, 0x0, 0x0, 0x0, 0x0, 0x0, 0x0, false⟩, -- CLK_STAT
   ⟨0x13008, 1, 0x100000, 1, 0x100000, 0x0, 0x0, 0xff, 0x0, 0x0, 0x0, false⟩, -- CLK_STK
   ⟨0x13010, 3, 0x4, 1, 0x4, 0x5, 0xf, 0x0, 0x0, 0x0, 0x0, false⟩, -- CLK_KCLDIV
   ⟨0x13020, 2, 0x4, 1, 0x4, 0x0, 0x0, 0x0, 0x0, 0x0, 0x0, false⟩, -- CLK_DLL_CSTORE
   ⟨0x13030, 1, 0x100000, 1, 0x100000, 0x20002, 0xf, 0x0, 0x0, 0x0, 0x0, false⟩, -- CLK_PDIV_ADC
   ⟨0x13034, 1, 0x100000, 1, 0x100000, 0x20002, 0xf, 0x0, 0x0, 0x0, 0x0, false⟩, -- CLK_PDIV_SDF
   ⟨0x13038, 1, 0x100000, 1, 0x100000, 0x50005, 0xf, 0x0, 0x0, 0x0, 0x0, false⟩, -- CLK_PDIV_REC
   ⟨0x1303c, 1, 0x100000, 1, 0x100000, 0x0, 0x0, 0x0, 0x1, 0x0, 0x0, false⟩] -- CLK_PDIV_UPD
/-- The registers of chapter 03. -/
def regRows03 : List RegRow :=
  [⟨0x20000, 8, 0x400, 1, 0x400, 0x0, 0x1, 0x0, 0x0, 0x0, 0x0, false⟩, -- ADC_CTRL
   ⟨0x20004, 8, 0x400, 1, 0x400, 0x0, 0xff07ff1f, 0x0, 0x0, 0x0, 0x0, false⟩, -- ADC_SEQCFG
   ⟨0x20008, 8, 0x400, 1, 0x400, 0x0, 0xffffffff, 0x0, 0x0, 0x0, 0x0, false⟩, -- ADC_TRIGDLY
   ⟨0x2000c, 8, 0x400, 1, 0x400, 0x0, 0x0, 0x0, 0x0, 0x0, 0x0, false⟩, -- ADC_STAT
   ⟨0x20010, 8, 0x400, 1, 0x400, 0x0, 0x0, 0x7f, 0x0, 0x0, 0x0, false⟩, -- ADC_STK
   ⟨0x20014, 8, 0x400, 1, 0x400, 0x0, 0x0, 0x0, 0x0, 0x0, 0x0, true⟩, -- ADC_OVRCNT
   ⟨0x20018, 8, 0x400, 1, 0x400, 0x0, 0x0, 0x0, 0x0, 0x0, 0x0, true⟩, -- ADC_INJMISS
   ⟨0x2001c, 8, 0x400, 1, 0x400, 0x0, 0x0, 0x0, 0x0, 0x0, 0x0, true⟩, -- ADC_PREEMPT
   ⟨0x20020, 8, 0x400, 1, 0x400, 0xa0000, 0xff0fff, 0x0, 0x0, 0x0, 0x0, false⟩, -- ADC_OWCFG
   ⟨0x20024, 8, 0x400, 1, 0x400, 0x111101f4, 0xffffffff, 0x0, 0x0, 0x0, 0x0, false⟩, -- ADC_OWSET
   ⟨0x20028, 8, 0x400, 1, 0x400, 0x0, 0x0, 0x0, 0x0, 0x0, 0x0, false⟩, -- ADC_OWFLAG
   ⟨0x2002c, 8, 0x400, 1, 0x400, 0x3c00, 0xff00, 0x0, 0x1, 0x0, 0x0, false⟩, -- ADC_CALCFG
   ⟨0x20030, 8, 0x400, 1, 0x400, 0x0, 0xf10fff, 0x0, 0x0, 0x0, 0x0, false⟩, -- ADC_TDAC
   ⟨0x20100, 8, 0x400, 40, 0x4, 0xf00, 0xff1f, 0x0, 0x0, 0x0, 0x0, false⟩, -- ADC_ENTRY
   ⟨0x20200, 8, 0x400, 40, 0x4, 0x600000f2, 0xffffffff, 0x0, 0x0, 0x0, 0x0, false⟩, -- ADC_GAIN
   ⟨0x20300, 8, 0x400, 40, 0x4, 0x0, 0x1ffff, 0x0, 0x0, 0x0, 0x0, false⟩, -- ADC_OFS
   ⟨0x14000, 1, 0x100000, 1, 0x100000, 0x0, 0x0, 0x0, 0xffff, 0x0, 0x0, false⟩, -- ANA_SWTRIG
   ⟨0x14010, 4, 0x8, 1, 0x8, 0x1388, 0xfffff, 0x0, 0x0, 0x0, 0x0, false⟩, -- ANA_ATMR_PER
   ⟨0x14014, 4, 0x8, 1, 0x8, 0x0, 0x800fffff, 0x0, 0x0, 0x0, 0x0, false⟩, -- ANA_ATMR_PH
   ⟨0x15000, 8, 0x4, 1, 0x4, 0x190019, 0x8000007f, 0x0, 0x0, 0x0, 0x0, false⟩, -- SDF_CLKDIV
   ⟨0x15100, 48, 0x4, 1, 0x4, 0x2200, 0x771f, 0x0, 0x0, 0x0, 0x0, false⟩, -- SDF_CFG
   ⟨0x15200, 48, 0x4, 1, 0x4, 0x40000001, 0xffffffff, 0x0, 0x0, 0x0, 0x0, false⟩, -- SDF_GAIN
   ⟨0x15300, 48, 0x4, 1, 0x4, 0x80007fff, 0xffffffff, 0x0, 0x0, 0x0, 0x0, false⟩, -- SDF_OCTHR
   ⟨0x15400, 1, 0x100000, 1, 0x100000, 0x0, 0x0, 0x3, 0x0, 0x0, 0x0, false⟩, -- SDF_STK
   ⟨0x15404, 1, 0x100000, 1, 0x100000, 0x0, 0x0, 0x0, 0x0, 0x0, 0x0, false⟩, -- SDF_STUCK_LO
   ⟨0x15408, 1, 0x100000, 1, 0x100000, 0x0, 0x0, 0x0, 0x0, 0x0, 0x0, false⟩] -- SDF_STUCK_HI
/-- The registers of chapter 04. -/
def regRows04 : List RegRow :=
  [⟨0x16000, 64, 0x10, 1, 0x10, 0x0, 0x1f7f1f, 0x0, 0x0, 0x0, 0x0, false⟩, -- CMP_CFG
   ⟨0x16004, 64, 0x10, 1, 0x10, 0x0, 0xf03ff, 0x0, 0x0, 0x0, 0x0, false⟩, -- CMP_THR
   ⟨0x16008, 64, 0x10, 1, 0x10, 0x0, 0x31f03ff, 0x0, 0x0, 0x0, 0x0, false⟩, -- CMP_BLK
   ⟨0x1600c, 64, 0x10, 1, 0x10, 0x0, 0x0, 0x0, 0x0, 0x0, 0x0, false⟩, -- CMP_STAT
   ⟨0x16400, 1, 0x100000, 1, 0x100000, 0x0, 0x0, 0x7f, 0x0, 0x0, 0x0, false⟩, -- CMP_STK
   ⟨0x16404, 1, 0x100000, 1, 0x100000, 0x0, 0x0, 0x0, 0x0, 0x0, 0x0, true⟩, -- CMP_BLKHIT
   ⟨0x16408, 1, 0x100000, 1, 0x100000, 0x0, 0xffffffff, 0x0, 0x0, 0x0, 0x0, false⟩, -- CMP_WIN
   ⟨0x1640c, 2, 0x4, 1, 0x4, 0x0, 0x0, 0x0, 0x0, 0x0, 0x0, false⟩, -- CMP_WINSTAT
   ⟨0x16414, 1, 0x100000, 1, 0x100000, 0x0, 0x0, 0x0, 0x0, 0x0, 0x0, false⟩, -- CMP_SAFEASG_LO
   ⟨0x16418, 1, 0x100000, 1, 0x100000, 0x0, 0x0, 0x0, 0x0, 0x0, 0x0, false⟩, -- CMP_SAFEASG_HI
   ⟨0x1641c, 1, 0x100000, 1, 0x100000, 0x0, 0xff, 0x0, 0x0, 0x0, 0x0, false⟩, -- CMP_WAKE
   ⟨0x16420, 1, 0x100000, 1, 0x100000, 0x0, 0x0, 0x0, 0x0, 0x0, 0x0, false⟩, -- CMP_TBSTAT
   ⟨0x16440, 8, 0x4, 1, 0x4, 0x0, 0x13f, 0x0, 0x0, 0x0, 0x0, false⟩, -- CMP_RDSEL
   ⟨0x16500, 16, 0x10, 1, 0x10, 0x0, 0xffffffff, 0x0, 0x0, 0x0, 0x0, false⟩, -- CMP_TB_CMP_LO
   ⟨0x16504, 16, 0x10, 1, 0x10, 0x0, 0xffffffff, 0x0, 0x0, 0x0, 0x0, false⟩, -- CMP_TB_CMP_HI
   ⟨0x16508, 16, 0x10, 1, 0x10, 0x0, 0xffffffff, 0x0, 0x0, 0x0, 0x0, false⟩, -- CMP_TB_SDD_LO
   ⟨0x1650c, 16, 0x10, 1, 0x10, 0x0, 0xffff, 0x0, 0x0, 0x0, 0x0, false⟩] -- CMP_TB_SDD_HI
/-- The registers of chapter 05. -/
def regRows05 : List RegRow :=
  [⟨0x40000, 1, 0x100000, 1, 0x100000, 0xa0b00, 0xffff0f01, 0x0, 0x0, 0x0, 0x0, false⟩, -- KET_SPARECFG
   ⟨0x40004, 1, 0x100000, 1, 0x100000, 0xff, 0x0, 0x0, 0x0, 0x0, 0x0, false⟩, -- KET_ROTSTAT
   ⟨0x40008, 1, 0x100000, 1, 0x100000, 0x0, 0x0, 0x0, 0x0, 0x0, 0x0, true⟩, -- KET_ROTCNT
   ⟨0x4000c, 1, 0x100000, 1, 0x100000, 0x0, 0x0, 0x0, 0x0, 0x0, 0x0, true⟩, -- KET_BISTCNT
   ⟨0x40010, 1, 0x100000, 1, 0x100000, 0x0, 0x0, 0xf, 0x0, 0x0, 0x0, false⟩, -- KET_GSTK
   ⟨0x41000, 12, 0x100, 1, 0x100, 0x0, 0x3, 0x0, 0x0, 0x0, 0x0, false⟩, -- KET_BCTRL
   ⟨0x41004, 12, 0x100, 1, 0x100, 0x0, 0x0, 0x0, 0x0, 0x0, 0x0, false⟩, -- KET_BSTAT
   ⟨0x41008, 12, 0x100, 1, 0x100, 0x0, 0x0, 0x7f, 0x0, 0x0, 0x0, false⟩, -- KET_BSTK
   ⟨0x4100c, 12, 0x100, 1, 0x100, 0x3e80003, 0xffff000f, 0x0, 0x0, 0x0, 0x0, false⟩, -- KET_OVRCFG
   ⟨0x41010, 12, 0x100, 1, 0x100, 0x0, 0x0, 0x0, 0x0, 0x0, 0x0, true⟩, -- KET_OVRCNT
   ⟨0x41014, 12, 0x100, 1, 0x100, 0x0, 0x0, 0x0, 0x0, 0x0, 0x0, true⟩, -- KET_SATCNT
   ⟨0x41018, 12, 0x100, 1, 0x100, 0x0, 0x0, 0x0, 0x0, 0x0, 0x0, false⟩, -- KET_CYC
   ⟨0x4101c, 12, 0x100, 1, 0x100, 0x0, 0x0, 0x0, 0x0, 0x0, 0xfffff, false⟩, -- KET_CYCMAX
   ⟨0x41020, 12, 0x100, 1, 0x100, 0x0, 0x0, 0x0, 0x0, 0x0, 0x0, false⟩, -- KET_BUDGET
   ⟨0x41024, 12, 0x100, 1, 0x100, 0x0, 0x0, 0x0, 0x0, 0x0, 0x0, false⟩, -- KET_BUDGETH
   ⟨0x41028, 12, 0x100, 1, 0x100, 0x0, 0xffffffff, 0x0, 0x0, 0x0, 0x0, false⟩, -- KET_LGMASK
   ⟨0x41030, 12, 0x100, 1, 0x100, 0x0, 0xffffffff, 0x0, 0x0, 0x0, 0x0, false⟩, -- KET_SWAPEP_LO
   ⟨0x41034, 12, 0x100, 1, 0x100, 0x0, 0xffff, 0x0, 0x80000000, 0x0, 0x0, false⟩, -- KET_SWAPEP_HI
   ⟨0x41038, 12, 0x100, 1, 0x100, 0x0, 0x0, 0x0, 0x0, 0x0, 0x0, false⟩, -- KET_FEFIRED
   ⟨0x44000, 12, 0x1000, 1, 0x1000, 0x0, 0x0, 0x0, 0x0, 0x0, 0x0, false⟩, -- KET_PC
   ⟨0x44004, 12, 0x1000, 1, 0x1000, 0xf00, 0x0, 0x0, 0x0, 0x0, 0x0, false⟩, -- KET_PSTAT
   ⟨0x44100, 12, 0x1000, 64, 0x8, 0x0, 0x0, 0x80000000, 0x0, 0x0, 0x0, false⟩, -- KET_STAGE
   ⟨0x44104, 12, 0x1000, 64, 0x8, 0x0, 0x0, 0x0, 0x0, 0x0, 0x0, false⟩, -- KET_STAGEEXP
   ⟨0x44400, 12, 0x1000, 32, 0x10, 0x0, 0x0, 0x0, 0x0, 0x0, 0x0, false⟩, -- KET_FE_SLOT
   ⟨0x44404, 12, 0x1000, 32, 0x10, 0x0, 0x0, 0x0, 0x0, 0x0, 0x0, false⟩, -- KET_FE_LIM
   ⟨0x44408, 12, 0x1000, 32, 0x10, 0x0, 0x0, 0x0, 0x0, 0x0, 0x0, false⟩, -- KET_FE_CFG
   ⟨0x4440c, 12, 0x1000, 32, 0x10, 0x0, 0x0, 0x0, 0x0, 0x0, 0x0, false⟩] -- KET_FE_CNT
/-- The registers of chapter 08. -/
def regRows08 : List RegRow :=
  [⟨0x30000, 32, 0x100, 1, 0x100, 0x0, 0x3f3fff, 0x0, 0x0, 0x0, 0x0, false⟩, -- PWM_LGCFG
   ⟨0x30004, 32, 0x100, 1, 0x100, 0x1388, 0xffffff, 0x0, 0x0, 0x0, 0x0, false⟩, -- PWM_PER
   ⟨0x30008, 32, 0x100, 1, 0x100, 0x0, 0xffffff, 0x0, 0x0, 0x0, 0x0, false⟩, -- PWM_PH
   ⟨0x3000c, 32, 0x100, 1, 0x100, 0x0, 0xffffff, 0x0, 0x0, 0x0, 0x0, false⟩, -- PWM_SRC
   ⟨0x30010, 32, 0x100, 3, 0x4, 0x320064, 0xfff0fff, 0x0, 0x0, 0x0, 0x0, false⟩, -- PWM_DT
   ⟨0x3001c, 32, 0x100, 1, 0x100, 0x0, 0xffffffff, 0x0, 0x0, 0x0, 0x0, false⟩, -- PWM_TRIP
   ⟨0x30020, 32, 0x100, 1, 0x100, 0x0, 0x7, 0x0, 0x0, 0x100, 0x0, false⟩, -- PWM_TRIPCTL
   ⟨0x30040, 32, 0x100, 1, 0x100, 0x1ffffffe, 0x1fffffff, 0x0, 0x0, 0x0, 0x0, false⟩, -- PWM_CMPA
   ⟨0x30044, 32, 0x100, 1, 0x100, 0x1ffffffe, 0x1fffffff, 0x0, 0x0, 0x0, 0x0, false⟩, -- PWM_CMPB
   ⟨0x30048, 32, 0x100, 1, 0x100, 0x1ffffffe, 0x1fffffff, 0x0, 0x0, 0x0, 0x0, false⟩, -- PWM_CMPC
   ⟨0x3004c, 32, 0x100, 1, 0x100, 0x1ffffffe, 0x1fffffff, 0x0, 0x0, 0x0, 0x0, false⟩, -- PWM_CMPD
   ⟨0x30050, 32, 0x100, 1, 0x100, 0x1ffffffe, 0x1fffffff, 0x0, 0x0, 0x0, 0x0, false⟩, -- PWM_CMPE
   ⟨0x30054, 32, 0x100, 1, 0x100, 0x1ffffffe, 0x1fffffff, 0x0, 0x0, 0x0, 0x0, false⟩, -- PWM_CMPF
   ⟨0x30058, 32, 0x100, 1, 0x100, 0x1ffffffe, 0x1fffffff, 0x0, 0x0, 0x0, 0x0, false⟩, -- PWM_TRGA
   ⟨0x3005c, 32, 0x100, 1, 0x100, 0x0, 0x1, 0x0, 0x0, 0x0, 0x0, false⟩, -- PWM_LGCMD
   ⟨0x30060, 32, 0x100, 1, 0x100, 0x0, 0x0, 0x0, 0x1, 0x0, 0x0, false⟩, -- PWM_HUPD
   ⟨0x30080, 32, 0x100, 8, 0x4, 0x1ffffffe, 0x0, 0x0, 0x0, 0x0, 0x0, false⟩, -- PWM_ACT
   ⟨0x300a0, 32, 0x100, 1, 0x100, 0x0, 0x0, 0x0, 0x0, 0x0, 0x0, false⟩, -- PWM_LGSTAT
   ⟨0x300a4, 32, 0x100, 1, 0x100, 0x0, 0x0, 0x3f, 0x0, 0x0, 0x0, false⟩, -- PWM_STK
   ⟨0x300a8, 32, 0x100, 1, 0x100, 0x0, 0x0, 0x0, 0x0, 0x0, 0x0, true⟩, -- PWM_SPCNT
   ⟨0x300ac, 32, 0x100, 1, 0x100, 0x0, 0x0, 0x0, 0x0, 0x0, 0x0, true⟩, -- PWM_RNGCNT
   ⟨0x300b0, 32, 0x100, 1, 0x100, 0x0, 0x0, 0x0, 0x0, 0x0, 0x0, false⟩, -- PWM_PERCNT
   ⟨0x300b4, 32, 0x100, 1, 0x100, 0x0, 0x0, 0x0, 0x0, 0x0, 0x0, false⟩, -- PWM_TRIM
   ⟨0x300b8, 32, 0x100, 1, 0x100, 0xffffffff, 0x0, 0x0, 0x0, 0x0, 0x0, false⟩, -- PWM_SETCIDX
   ⟨0x32000, 1, 0x100000, 1, 0x100000, 0x1000000, 0xff1f1f03, 0x0, 0x0, 0x0, 0x0, false⟩, -- PWM_SYNCCFG
   ⟨0x32004, 1, 0x100000, 1, 0x100000, 0x0, 0xffff, 0x0, 0x0, 0x0, 0x0, false⟩, -- PWM_SYNCDLY
   ⟨0x32008, 1, 0x100000, 1, 0x100000, 0x42001f4, 0xfff03ff, 0x0, 0x0, 0x0, 0x0, false⟩, -- PWM_SYNCWIN
   ⟨0x3200c, 1, 0x100000, 1, 0x100000, 0x0, 0x0, 0x0, 0x0, 0x0, 0x0, false⟩, -- PWM_SYNCSTAT
   ⟨0x32010, 1, 0x100000, 1, 0x100000, 0x0, 0x0, 0x3, 0x0, 0x0, 0x0, false⟩, -- PWM_SYNCSTK
   ⟨0x32014, 1, 0x100000, 1, 0x100000, 0x0, 0x0, 0x0, 0x0, 0x0, 0x0, true⟩] -- PWM_SYNCMISS
/-- The registers of chapter 09. -/
def regRows09 : List RegRow :=
  [⟨0x38000, 32, 0x100, 1, 0x100, 0x200, 0x10f0f3f, 0x0, 0x0, 0x0, 0x0, false⟩, -- GL_CFG
   ⟨0x38004, 32, 0x100, 1, 0x100, 0x0, 0xffffff, 0x0, 0x0, 0x0, 0x0, false⟩, -- GL_FRM
   ⟨0x38008, 32, 0x100, 1, 0x100, 0x3e8, 0xfff, 0x0, 0x0, 0x0, 0x0, false⟩, -- GL_TMO
   ⟨0x3800c, 32, 0x100, 1, 0x100, 0x3c30064, 0xffff3fff, 0x0, 0x0, 0x0, 0x0, false⟩, -- GL_RETRY
   ⟨0x38010, 32, 0x100, 1, 0x100, 0x0, 0x0, 0x0, 0x0, 0x0, 0x0, false⟩, -- GL_STAT
   ⟨0x38014, 32, 0x100, 1, 0x100, 0x0, 0x0, 0x7f, 0x0, 0x0, 0x0, false⟩, -- GL_STK
   ⟨0x38018, 32, 0x100, 1, 0x100, 0x0, 0x0, 0x0, 0x0, 0x0, 0x0, true⟩, -- GL_FLTCNT
   ⟨0x3801c, 32, 0x100, 1, 0x100, 0x0, 0x0, 0x0, 0x0, 0x0, 0x0, true⟩, -- GL_ILCNT
   ⟨0x38020, 32, 0x100, 1, 0x100, 0x0, 0x0, 0x0, 0x0, 0x0, 0x0, true⟩, -- GL_SKIPCNT
   ⟨0x38024, 32, 0x100, 1, 0x100, 0x0, 0x0, 0x0, 0x0, 0x73f, 0x0, false⟩, -- GL_CLR
   ⟨0x38028, 32, 0x100, 1, 0x100, 0x88888888, 0x0, 0x0, 0x0, 0x0, 0x0, false⟩, -- GL_CODE_LO
   ⟨0x3802c, 32, 0x100, 1, 0x100, 0x8888, 0x0, 0x0, 0x0, 0x0, 0x0, false⟩, -- GL_CODE_HI
   ⟨0x38040, 32, 0x100, 6, 0x10, 0x0, 0xffffffff, 0x0, 0x0, 0x0, 0x0, false⟩, -- GL_TGT
   ⟨0x38044, 32, 0x100, 6, 0x10, 0x2088f0f0, 0xffffffff, 0x0, 0x0, 0x0, 0x0, false⟩, -- GL_LIM
   ⟨0x38048, 32, 0x100, 6, 0x10, 0x0, 0xffffffff, 0x0, 0x0, 0x0, 0x0, false⟩, -- GL_LDLY
   ⟨0x3804c, 32, 0x100, 6, 0x10, 0x0, 0x0, 0x0, 0x0, 0x0, 0x0, false⟩, -- GL_TSW
   ⟨0x3c000, 12, 0x4, 1, 0x4, 0x0, 0xffffffff, 0x0, 0x0, 0x0, 0x0, false⟩, -- GL_CONV
   ⟨0x3c030, 1, 0x100000, 1, 0x100000, 0x2, 0xf, 0x0, 0x0, 0x0, 0x0, false⟩, -- GL_COINC
   ⟨0x3c034, 1, 0x100000, 1, 0x100000, 0x0, 0x0, 0x7, 0x0, 0x0, 0x0, false⟩, -- GL_GSTK
   ⟨0x3c040, 1, 0x100000, 1, 0x100000, 0x0, 0xffffffff, 0x0, 0x0, 0x0, 0x0, false⟩, -- GL_PRBEN
   ⟨0x3c044, 1, 0x100000, 1, 0x100000, 0x3e8, 0x2ffff, 0x0, 0x0, 0x0, 0x0, false⟩, -- GL_PRBCFG
   ⟨0x3c048, 1, 0x100000, 1, 0x100000, 0x0, 0x0, 0x0, 0x1, 0x0, 0x0, false⟩, -- GL_PRBCMD
   ⟨0x3c04c, 1, 0x100000, 1, 0x100000, 0xe666199a, 0xffffffff, 0x0, 0x0, 0x0, 0x0, false⟩, -- GL_PRBTHR0
   ⟨0x3c050, 1, 0x100000, 1, 0x100000, 0x999a6666, 0xffffffff, 0x0, 0x0, 0x0, 0x0, false⟩, -- GL_PRBTHR1
   ⟨0x3c054, 1, 0x100000, 1, 0x100000, 0x4ccd3333, 0xffffffff, 0x0, 0x0, 0x0, 0x0, false⟩, -- GL_PRBTHR2
   ⟨0x3c058, 1, 0x100000, 1, 0x100000, 0x195555, 0xffffff, 0x0, 0x0, 0x0, 0x0, false⟩, -- GL_PRBTHR3
   ⟨0x3c060, 4, 0x4, 1, 0x4, 0x0, 0x0, 0x0, 0x0, 0x0, 0x0, false⟩] -- GL_PRBRES
/-- The registers of chapter 10. -/
def regRows10 : List RegRow :=
  [⟨0x17000, 1, 0x100000, 1, 0x100000, 0x0, 0x0, 0x0, 0x0, 0x0, 0x0, false⟩, -- SAFE_CFGID
   ⟨0x17004, 1, 0x100000, 1, 0x100000, 0x0, 0x0, 0x0, 0x0, 0x0, 0x0, false⟩, -- SAFE_STAT
   ⟨0x17008, 1, 0x100000, 1, 0x100000, 0xfff, 0x0, 0x0, 0x0, 0x0, 0x0, false⟩, -- SAFE_SPOLAT
   ⟨0x1700c, 1, 0x100000, 1, 0x100000, 0xfff, 0x0, 0x0, 0x0, 0x0, 0x0, false⟩, -- SAFE_SPODEM
   ⟨0x17010, 1, 0x100000, 1, 0x100000, 0x0, 0x0, 0x7ff, 0x0, 0x0, 0x0, false⟩, -- SAFE_STK
   ⟨0x17014, 1, 0x100000, 1, 0x100000, 0x0, 0x0, 0x0, 0x0, 0x0, 0x0, true⟩, -- SAFE_SPOCNT
   ⟨0x17040, 12, 0x4, 1, 0x4, 0xff, 0x0, 0x0, 0x0, 0x0, 0x0, false⟩, -- SAFE_CAUSE
   ⟨0x17080, 8, 0x4, 1, 0x4, 0x0, 0x0, 0x0, 0x0, 0x0, 0x0, false⟩, -- SAFE_SIN
   ⟨0x170a0, 4, 0x4, 1, 0x4, 0x0, 0x0, 0x0, 0x0, 0x0, 0x0, false⟩, -- SAFE_SOUT
   ⟨0x170c0, 8, 0x4, 1, 0x4, 0x0, 0x0, 0x0, 0x0, 0x0, 0x0, false⟩, -- SAFE_RX
   ⟨0x170e0, 8, 0x4, 1, 0x4, 0x0, 0x0, 0x0, 0x0, 0x0, 0x0, true⟩, -- SAFE_RXERR
   ⟨0x17100, 8, 0x4, 1, 0x4, 0x0, 0x0, 0x0, 0x0, 0x0, 0x0, true⟩, -- SAFE_RXREP
   ⟨0x17120, 8, 0x4, 1, 0x4, 0x0, 0x0, 0x0, 0x0, 0x0, 0x0, false⟩, -- SAFE_RXSEQ
   ⟨0x17140, 8, 0x4, 1, 0x4, 0x0, 0x0, 0x0, 0x0, 0x0, 0x0, false⟩] -- SAFE_TXSEQ
/-- The registers of chapter 11. -/
def regRows11 : List RegRow :=
  [⟨0x18000, 1, 0x100000, 1, 0x100000, 0x0, 0x0, 0x0, 0x0, 0x0, 0x0, false⟩, -- SUP_STAT
   ⟨0x18004, 1, 0x100000, 1, 0x100000, 0x0, 0x0, 0x1ff, 0x0, 0x0, 0x0, false⟩, -- SUP_STK
   ⟨0x18008, 1, 0x100000, 1, 0x100000, 0x0, 0x0, 0x0, 0x0, 0x0, 0x0, true⟩, -- SUP_MISCNT
   ⟨0x1800c, 1, 0x100000, 1, 0x100000, 0x0, 0x0, 0x0, 0x0, 0x0, 0x0, true⟩, -- SUP_DIVCNT
   ⟨0x18010, 1, 0x100000, 1, 0x100000, 0x0, 0x0, 0x0, 0x0, 0x0, 0x0, true⟩, -- SUP_RSYNCNT
   ⟨0x18014, 1, 0x100000, 1, 0x100000, 0x0, 0x0, 0x0, 0x0, 0x0, 0x0, false⟩, -- SUP_INJCNT
   ⟨0x18018, 1, 0x100000, 1, 0x100000, 0x0, 0x0, 0x0, 0x0, 0x0, 0x0, false⟩, -- SUP_MISINFO
   ⟨0x1801c, 1, 0x100000, 1, 0x100000, 0x0, 0x0, 0x0, 0x0, 0x0, 0x0, false⟩, -- SUP_MISADDR
   ⟨0x18020, 1, 0x100000, 1, 0x100000, 0x0, 0x0, 0x0, 0x0, 0x0, 0x0, false⟩, -- SUP_SPLIT
   ⟨0x18024, 1, 0x100000, 1, 0x100000, 0x0, 0x0, 0x0, 0x0, 0x0, 0x0, true⟩, -- SUP_SRAMCE
   ⟨0x18028, 1, 0x100000, 1, 0x100000, 0x0, 0x0, 0x0, 0x0, 0x0, 0x0, true⟩, -- SUP_SRAMUE
   ⟨0x1802c, 1, 0x100000, 1, 0x100000, 0x0, 0x0, 0x0, 0x0, 0x0, 0x0, false⟩, -- SUP_ERRADDR
   ⟨0x18030, 1, 0x100000, 1, 0x100000, 0x0, 0x0, 0x0, 0x0, 0x0, 0x0, true⟩, -- SUP_SCRUBPASS
   ⟨0x18034, 1, 0x100000, 1, 0x100000, 0x0, 0x0, 0x0, 0x0, 0x0, 0x0, false⟩] -- SUP_SCRUBLAST
/-- The registers of chapter 12. -/
def regRows12 : List RegRow :=
  [⟨0x19000, 1, 0x100000, 1, 0x100000, 0x30, 0x7f, 0x0, 0x0, 0x0, 0x0, false⟩, -- NET_CTRL
   ⟨0x19004, 1, 0x100000, 1, 0x100000, 0x0, 0x0, 0x0, 0x0, 0x0, 0x0, false⟩, -- NET_STAT
   ⟨0x19008, 1, 0x100000, 1, 0x100000, 0x0, 0x0, 0xfff, 0x0, 0x0, 0x0, false⟩, -- NET_STK
   ⟨0x1900c, 1, 0x100000, 1, 0x100000, 0x700, 0x1ffff, 0x0, 0x0, 0x0, 0x0, false⟩, -- NET_PTPCFG
   ⟨0x19010, 2, 0x4, 1, 0x4, 0x0, 0x0, 0x0, 0x0, 0x0, 0x0, true⟩, -- NET_RXCNT
   ⟨0x19018, 2, 0x4, 1, 0x4, 0x0, 0x0, 0x0, 0x0, 0x0, 0x0, true⟩, -- NET_RXERR
   ⟨0x19020, 2, 0x4, 1, 0x4, 0x0, 0x0, 0x0, 0x0, 0x0, 0x0, true⟩, -- NET_FWDCNT
   ⟨0x19028, 1, 0x100000, 1, 0x100000, 0x0, 0x0, 0x0, 0x0, 0x0, 0x0, true⟩, -- NET_DUPCNT
   ⟨0x1902c, 1, 0x100000, 1, 0x100000, 0x0, 0x0, 0x0, 0x0, 0x0, 0x0, true⟩, -- NET_PATHERR
   ⟨0x19030, 2, 0x4, 1, 0x4, 0x0, 0x0, 0x0, 0x0, 0x0, 0x0, false⟩, -- NET_PTPOFS
   ⟨0x19038, 2, 0x4, 1, 0x4, 0x0, 0x0, 0x0, 0x0, 0x0, 0x0, false⟩, -- NET_PTPDLY
   ⟨0x19040, 1, 0x100000, 1, 0x100000, 0x0, 0x0, 0x0, 0x0, 0x0, 0x0, false⟩, -- NET_GMID_LO
   ⟨0x19044, 1, 0x100000, 1, 0x100000, 0x0, 0x0, 0x0, 0x0, 0x0, 0x0, false⟩, -- NET_GMID_HI
   ⟨0x19100, 16, 0x10, 1, 0x10, 0x0, 0x0, 0x0, 0x0, 0x0, 0x0, false⟩, -- NET_SVSTAT
   ⟨0x19104, 16, 0x10, 1, 0x10, 0x0, 0x0, 0x0, 0x0, 0x0, 0x0, true⟩, -- NET_SVRX
   ⟨0x19108, 16, 0x10, 1, 0x10, 0x0, 0x0, 0x0, 0x0, 0x0, 0x0, true⟩, -- NET_SVMISS
   ⟨0x1910c, 16, 0x10, 1, 0x10, 0x0, 0x0, 0x0, 0x0, 0x0, 0x0, true⟩, -- NET_SVLATE
   ⟨0x19200, 1, 0x100000, 1, 0x100000, 0x0, 0x0, 0x0, 0x0, 0x0, 0x0, false⟩, -- NET_GOVALID_LO
   ⟨0x19204, 1, 0x100000, 1, 0x100000, 0x0, 0x0, 0x0, 0x0, 0x0, 0x0, false⟩, -- NET_GOVALID_HI
   ⟨0x19208, 1, 0x100000, 1, 0x100000, 0x0, 0x0, 0x0, 0x0, 0x0, 0x0, true⟩, -- NET_GOEXP
   ⟨0x19210, 4, 0x4, 1, 0x4, 0x0, 0x0, 0x0, 0x0, 0x0, 0x0, true⟩, -- NET_PUBCNT
   ⟨0x19300, 1, 0x100000, 1, 0x100000, 0x258000a, 0xffffffff, 0x0, 0x0, 0x0, 0x0, false⟩, -- NET_TLCFG
   ⟨0x19304, 1, 0x100000, 1, 0x100000, 0x0, 0x0, 0x0, 0x0, 0x0, 0x0, false⟩, -- NET_TLSTAT
   ⟨0x19308, 1, 0x100000, 1, 0x100000, 0x0, 0x0, 0x0, 0x0, 0x0, 0x0, true⟩] -- NET_TLDEFER
/-- The registers of chapter 13. -/
def regRows13 : List RegRow :=
  [⟨0x24000, 4, 0x100, 1, 0x100, 0x5000000, 0xff01ff37, 0x0, 0x0, 0x0, 0x0, false⟩, -- MTR_CFG
   ⟨0x24004, 4, 0x100, 1, 0x100, 0x0, 0xffffffff, 0x0, 0x0, 0x0, 0x0, false⟩, -- MTR_SRC0
   ⟨0x24008, 4, 0x100, 1, 0x100, 0x0, 0xffffffff, 0x0, 0x0, 0x0, 0x0, false⟩, -- MTR_SRC1
   ⟨0x2400c, 4, 0x100, 1, 0x100, 0x0, 0xffffffff, 0x0, 0x0, 0x0, 0x0, false⟩, -- MTR_SRC2
   ⟨0x24010, 4, 0x100, 1, 0x100, 0xffffffff, 0xffffffff, 0x0, 0x0, 0x0, 0x0, false⟩, -- MTR_SRC3
   ⟨0x24014, 4, 0x100, 1, 0x100, 0x40000001, 0xffffffff, 0x0, 0x0, 0x0, 0x0, false⟩, -- MTR_KV
   ⟨0x24018, 4, 0x100, 1, 0x100, 0x40000001, 0xffffffff, 0x0, 0x0, 0x0, 0x0, false⟩, -- MTR_KI
   ⟨0x2401c, 4, 0x100, 1, 0x100, 0x73000008, 0xffffffff, 0x0, 0x0, 0x0, 0x0, false⟩, -- MTR_UDIN
   ⟨0x24020, 4, 0x100, 1, 0x100, 0x2af82328, 0xffffffff, 0x0, 0x0, 0x0, 0x0, false⟩, -- MTR_EVTH
   ⟨0x24024, 4, 0x100, 1, 0x100, 0x11401f4, 0xffffffff, 0x0, 0x0, 0x0, 0x0, false⟩, -- MTR_EVTH2
   ⟨0x24028, 4, 0x100, 1, 0x100, 0x0, 0x0, 0x0, 0x0, 0x0, 0x0, false⟩, -- MTR_STAT
   ⟨0x2402c, 4, 0x100, 1, 0x100, 0x0, 0x0, 0x1f, 0x0, 0x0, 0x0, false⟩, -- MTR_STK
   ⟨0x24030, 4, 0x100, 1, 0x100, 0x0, 0x0, 0x0, 0x0, 0x0, 0x0, true⟩, -- MTR_GAPCNT
   ⟨0x24034, 4, 0x100, 1, 0x100, 0x0, 0x0, 0x0, 0x0, 0x0, 0x0, false⟩, -- MTR_LCC
   ⟨0x24038, 4, 0x100, 1, 0x100, 0x32, 0x7ff, 0x0, 0x0, 0x0, 0x0, false⟩, -- MTR_LATCFG
   ⟨0x2403c, 4, 0x100, 1, 0x100, 0x0, 0x0, 0x0, 0x0, 0x0, 0x0, false⟩, -- MTR_LATSEQ
   ⟨0x24040, 4, 0x100, 1, 0x100, 0x0, 0x0, 0x0, 0x0, 0x0, 0x0, false⟩, -- MTR_LATGT_LO
   ⟨0x24044, 4, 0x100, 1, 0x100, 0x0, 0x0, 0x0, 0x0, 0x0, 0x0, false⟩, -- MTR_LATGT_HI
   ⟨0x24048, 4, 0x100, 1, 0x100, 0x0, 0x0, 0x0, 0x0, 0x0, 0x0, false⟩, -- MTR_LATLCC
   ⟨0x2404c, 4, 0x100, 1, 0x100, 0x0, 0x0, 0x0, 0x0, 0x0, 0x0, false⟩, -- MTR_LATWRAP0
   ⟨0x24050, 4, 0x100, 1, 0x100, 0x0, 0x0, 0x0, 0x0, 0x0, 0x0, false⟩, -- MTR_LATWRAP1
   ⟨0x24054, 4, 0x100, 1, 0x100, 0x0, 0x0, 0x0, 0x0, 0x0, 0x0, false⟩, -- MTR_EVHEAD
   ⟨0x24060, 4, 0x100, 7, 0x8, 0x0, 0x0, 0x0, 0x0, 0x0, 0x0, false⟩, -- MTR_LATE_LO
   ⟨0x24064, 4, 0x100, 7, 0x8, 0x0, 0x0, 0x0, 0x0, 0x0, 0x0, false⟩, -- MTR_LATE_HI
   ⟨0x240a0, 4, 0x100, 7, 0x8, 0x0, 0x0, 0x0, 0x0, 0x0, 0x0, false⟩, -- MTR_E_LO
   ⟨0x240a4, 4, 0x100, 7, 0x8, 0x0, 0x0, 0x0, 0x0, 0x0, 0x0, false⟩, -- MTR_E_HI
   ⟨0x240d8, 4, 0x100, 1, 0x100, 0x0, 0x0, 0x0, 0x0, 0x0, 0x0, false⟩, -- MTR_WRAP0
   ⟨0x240dc, 4, 0x100, 1, 0x100, 0x0, 0x0, 0x0, 0x0, 0x0, 0x0, false⟩, -- MTR_WRAP1
   ⟨0x25000, 8, 0x10, 1, 0x10, 0x640000, 0xffff0733, 0x0, 0x0, 0x0, 0x0, false⟩, -- PLS_CFG
   ⟨0x25004, 8, 0x10, 1, 0x10, 0x3e8, 0xffffffff, 0x0, 0x0, 0x0, 0x0, false⟩, -- PLS_CONST
   ⟨0x25008, 8, 0x10, 1, 0x10, 0x0, 0x0, 0x0, 0x0, 0x0, 0x0, false⟩, -- PLS_BACKLOG
   ⟨0x2500c, 8, 0x10, 1, 0x10, 0x0, 0x0, 0x0, 0x0, 0x0, 0x0, true⟩, -- PLS_LOST
   ⟨0x25080, 4, 0x10, 1, 0x10, 0x2140000, 0xffff0733, 0x0, 0x0, 0x0, 0x0, false⟩, -- MCNT_CFG
   ⟨0x25084, 4, 0x10, 1, 0x10, 0x3e8, 0xffffffff, 0x0, 0x0, 0x0, 0x0, false⟩, -- MCNT_CONST
   ⟨0x25088, 4, 0x10, 1, 0x10, 0x0, 0x0, 0x0, 0x0, 0x0, 0x0, false⟩, -- MCNT_CNT
   ⟨0x2508c, 4, 0x10, 1, 0x10, 0x0, 0x0, 0x0, 0x0, 0x0, 0x0, false⟩, -- MCNT_DIFF
   ⟨0x250c0, 1, 0x100000, 1, 0x100000, 0x0, 0x0, 0x3, 0x0, 0x0, 0x0, false⟩] -- MTR_GSTK
/-- The registers of chapter 14. -/
def regRows14 : List RegRow :=
  [⟨0x28000, 1, 0x100000, 1, 0x100000, 0x0, 0x0, 0x0, 0x7, 0x0, 0x0, false⟩, -- REC_CTRL
   ⟨0x28004, 1, 0x100000, 1, 0x100000, 0x0, 0x0, 0x0, 0x0, 0x0, 0x0, false⟩, -- REC_STAT
   ⟨0x28008, 1, 0x100000, 1, 0x100000, 0x0, 0x0, 0xf, 0x0, 0x0, 0x0, false⟩, -- REC_STK
   ⟨0x2800c, 1, 0x100000, 1, 0x100000, 0x3e8, 0xfffff, 0x0, 0x0, 0x0, 0x0, false⟩, -- REC_PRE
   ⟨0x28010, 1, 0x100000, 1, 0x100000, 0x2710, 0xffffff, 0x0, 0x0, 0x0, 0x0, false⟩, -- REC_POST
   ⟨0x28014, 1, 0x100000, 1, 0x100000, 0x0, 0xf, 0x0, 0x0, 0x0, 0x0, false⟩, -- REC_EVTRIG
   ⟨0x28018, 1, 0x100000, 1, 0x100000, 0x0, 0x0, 0x0, 0x0, 0x0, 0x0, false⟩, -- REC_TRIGSRC
   ⟨0x2801c, 1, 0x100000, 1, 0x100000, 0x0, 0x0, 0x0, 0x0, 0x0, 0x0, false⟩, -- REC_TRIGGT_LO
   ⟨0x28020, 1, 0x100000, 1, 0x100000, 0x0, 0x0, 0x0, 0x0, 0x0, 0x0, false⟩, -- REC_TRIGGT_HI
   ⟨0x28024, 1, 0x100000, 1, 0x100000, 0x0, 0x0, 0x0, 0x0, 0x0, 0x0, false⟩, -- REC_ARMGT_LO
   ⟨0x28028, 1, 0x100000, 1, 0x100000, 0x0, 0x0, 0x0, 0x0, 0x0, 0x0, false⟩, -- REC_ARMGT_HI
   ⟨0x2802c, 1, 0x100000, 1, 0x100000, 0x0, 0x0, 0x0, 0x0, 0x0, 0x0, true⟩, -- REC_TRIGCNT
   ⟨0x28030, 1, 0x100000, 1, 0x100000, 0x0, 0x0, 0x0, 0x0, 0x0, 0x0, true⟩, -- REC_MISSCNT
   ⟨0x28034, 1, 0x100000, 1, 0x100000, 0x64, 0xffff, 0x0, 0x0, 0x0, 0x0, false⟩, -- REC_ACFG
   ⟨0x28100, 16, 0x20, 1, 0x20, 0x0, 0xffff03f7, 0x0, 0x0, 0x0, 0x0, false⟩, -- REC_GSRC
   ⟨0x28104, 16, 0x20, 1, 0x20, 0x0, 0xffffffff, 0x0, 0x0, 0x0, 0x0, false⟩, -- REC_GTMASK
   ⟨0x28108, 16, 0x20, 1, 0x20, 0x0, 0x0, 0x0, 0x0, 0x0, 0x0, false⟩, -- REC_GEXT0
   ⟨0x2810c, 16, 0x20, 1, 0x20, 0x0, 0x0, 0x0, 0x0, 0x0, 0x0, false⟩, -- REC_GEXT1
   ⟨0x28110, 16, 0x20, 1, 0x20, 0x0, 0x0, 0x0, 0x0, 0x0, 0x0, false⟩, -- REC_PREACT
   ⟨0x28114, 16, 0x20, 1, 0x20, 0x0, 0x0, 0x0, 0x0, 0x0, 0x0, false⟩, -- REC_POSTACT
   ⟨0x28118, 16, 0x20, 1, 0x20, 0x0, 0x0, 0x0, 0x0, 0x0, 0x0, true⟩, -- REC_GRECCNT
   ⟨0x28400, 64, 0x10, 1, 0x10, 0x0, 0x33f71, 0x0, 0x0, 0x0, 0x0, false⟩, -- REC_ASRC
   ⟨0x28404, 64, 0x10, 1, 0x10, 0x0, 0xffffffff, 0x0, 0x0, 0x0, 0x0, false⟩, -- REC_ADB
   ⟨0x28408, 64, 0x10, 1, 0x10, 0x0, 0xffffffff, 0x0, 0x0, 0x0, 0x0, false⟩] -- REC_ALVL
/-- The registers of chapter 15. -/
def regRows15 : List RegRow :=
  [⟨0x0, 1, 0x100000, 1, 0x100000, 0xb000c0, 0x0, 0x0, 0x0, 0x0, 0x0, false⟩, -- MBX_ID
   ⟨0x4, 1, 0x100000, 1, 0x100000, 0x0, 0x0, 0x0, 0x0, 0x0, 0x0, false⟩, -- MBX_STAT
   ⟨0x8, 1, 0x100000, 1, 0x100000, 0x0, 0x0, 0x0, 0x0, 0x0, 0x0, false⟩, -- MBX_HB
   ⟨0xc, 1, 0x100000, 1, 0x100000, 0x0, 0x0, 0x1f, 0x0, 0x0, 0x0, false⟩, -- MBX_STK
   ⟨0x10, 1, 0x100000, 1, 0x100000, 0x1f, 0x1f, 0x0, 0x0, 0x0, 0x0, false⟩, -- MBX_IRQ
   ⟨0x14, 1, 0x100000, 1, 0x100000, 0x0, 0x0, 0x0, 0x1, 0x0, 0x0, false⟩, -- MBX_CTRL
   ⟨0x100, 4, 0x10, 1, 0x10, 0x0, 0x3f, 0x0, 0x0, 0x0, 0x0, false⟩, -- MBX_SQTAIL
   ⟨0x104, 4, 0x10, 1, 0x10, 0x0, 0x0, 0x0, 0x0, 0x0, 0x0, false⟩, -- MBX_SQHEAD
   ⟨0x108, 4, 0x10, 1, 0x10, 0x0, 0x3f, 0x0, 0x0, 0x0, 0x0, false⟩, -- MBX_CQHEAD
   ⟨0x10c, 4, 0x10, 1, 0x10, 0x0, 0x0, 0x0, 0x0, 0x0, 0x0, false⟩, -- MBX_CQTAIL
   ⟨0x140, 1, 0x100000, 1, 0x100000, 0x0, 0x0, 0x0, 0x0, 0x0, 0x0, false⟩, -- MBX_OUTST_LO
   ⟨0x144, 1, 0x100000, 1, 0x100000, 0x0, 0x0, 0x0, 0x0, 0x0, 0x0, false⟩, -- MBX_OUTST_HI
   ⟨0x150, 1, 0x100000, 1, 0x100000, 0x0, 0x0, 0x0, 0x0, 0x0, 0x0, false⟩, -- MBX_EXPSESS
   ⟨0x154, 1, 0x100000, 1, 0x100000, 0x0, 0x0, 0x0, 0x0, 0x0, 0x0, false⟩, -- MBX_EXPLEFT
   ⟨0x158, 1, 0x100000, 1, 0x100000, 0x0, 0x0, 0x0, 0x0, 0x0, 0x0, true⟩, -- MBX_EXPREF
   ⟨0x15c, 1, 0x100000, 1, 0x100000, 0x0, 0x0, 0x0, 0x0, 0x0, 0x0, true⟩] -- MBX_AUTHFAIL
/-- The registers of chapter 17. -/
def regRows17 : List RegRow :=
  [⟨0x13400, 1, 0x100000, 1, 0x100000, 0x1, 0x0, 0x0, 0x0, 0x0, 0x0, false⟩, -- CLK_PWRSTAT
   ⟨0x13404, 1, 0x100000, 1, 0x100000, 0x0, 0x0, 0x1ff, 0x0, 0x0, 0x0, false⟩, -- CLK_PWRSTK
   ⟨0x13408, 1, 0x100000, 1, 0x100000, 0x10f003e8, 0x1fffffff, 0x0, 0x0, 0x0, 0x0, false⟩, -- CLK_HRVCFG
   ⟨0x1340c, 1, 0x100000, 1, 0x100000, 0x10400f0, 0x1ff01ff, 0x0, 0x0, 0x0, 0x0, false⟩, -- CLK_HRVTHR
   ⟨0x13410, 1, 0x100000, 1, 0x100000, 0x140012c, 0x1ff01ff, 0x0, 0x0, 0x0, 0x0, false⟩, -- CLK_HRVTHR2
   ⟨0x13414, 1, 0x100000, 1, 0x100000, 0x3225828, 0xffffffff, 0x0, 0x0, 0x0, 0x0, false⟩, -- CLK_HRVCOST
   ⟨0x13418, 1, 0x100000, 1, 0x100000, 0x0, 0x0, 0x0, 0x0, 0x0, 0x0, false⟩, -- CLK_HRVMON0
   ⟨0x1341c, 1, 0x100000, 1, 0x100000, 0x0, 0x0, 0x0, 0x0, 0x0, 0x0, false⟩, -- CLK_HRVMON1
   ⟨0x13420, 1, 0x100000, 1, 0x100000, 0x0, 0x0, 0x0, 0x0, 0x0, 0x0, false⟩, -- CLK_HRVIRR
   ⟨0x13424, 1, 0x100000, 1, 0x100000, 0x3, 0x3, 0x0, 0x0, 0x0, 0x0, false⟩, -- CLK_WAKEEN
   ⟨0x13428, 1, 0x100000, 1, 0x100000, 0x0, 0x0, 0x0, 0x0, 0x0, 0x0, true⟩, -- CLK_DEFERCNT
   ⟨0x1342c, 1, 0x100000, 1, 0x100000, 0x0, 0x0, 0x0, 0x0, 0x0, 0x0, true⟩] -- CLK_BATSEC
/-- The registers of chapter 18. -/
def regRows18 : List RegRow :=
  [⟨0x10f00, 1, 0x100000, 1, 0x100000, 0x0, 0x0, 0x0, 0x0, 0x0, 0x0, false⟩, -- LOG_STAT
   ⟨0x10f04, 1, 0x100000, 1, 0x100000, 0x0, 0x0, 0x0, 0x0, 0x0, 0x0, false⟩, -- LOG_NEWEST
   ⟨0x10f08, 1, 0x100000, 1, 0x100000, 0x0, 0x0, 0x0, 0x0, 0x0, 0x0, false⟩, -- LOG_OLDEST
   ⟨0x10f0c, 1, 0x100000, 1, 0x100000, 0x0, 0x0, 0x0, 0x0, 0x0, 0x0, false⟩, -- LOG_PINOLD
   ⟨0x10f10, 1, 0x100000, 1, 0x100000, 0x0, 0x0, 0x0, 0x0, 0x0, 0x0, true⟩, -- LOG_DROPCNT
   ⟨0x10f14, 1, 0x100000, 1, 0x100000, 0x0, 0x0, 0x0, 0x0, 0x0, 0x0, true⟩, -- LOG_TORNCNT
   ⟨0x10f18, 1, 0x100000, 1, 0x100000, 0x0, 0x0, 0x0, 0x0, 0xffffffff, 0x0, false⟩] -- LOG_PINREL

/-- Every register of the map. -/
def regRows : List RegRow :=
  regRows01 ++ regRows02 ++ regRows03 ++ regRows04 ++ regRows05 ++ regRows08 ++ regRows09 ++ regRows10 ++ regRows11 ++ regRows12 ++ regRows13 ++ regRows14 ++ regRows15 ++ regRows17 ++ regRows18

/-- The row covers address `a`. -/
def RegRow.covers (r : RegRow) (a : Nat) : Bool :=
  r.base ≤ a &&
    (let d := a - r.base
     d / r.s1 < r.n1 && (d % r.s1) % r.s2 == 0 && (d % r.s1) / r.s2 < r.n2)

/-- The row of the register at address `a`, where there is one. -/
def regRow (a : Nat) : Option RegRow := regRows.find? (fun r => r.covers a)

/-- The fixed descriptors 0 to 21 of the Pantry (R37): FIRST, LAST, OWNER and TYPE. -/
def fixedDescs : List (Nat × Nat × Nat × Nat) :=
  [(0x0000, 0x02FF, 0x01, 0), (0x0300, 0x03FF, 0x02, 0), (0x0400, 0x07FF, 0x07, 0), (0x0800, 0x08FF, 0x03, 1),
   (0x0900, 0x0AFF, 0x04, 1), (0x0B00, 0x0CFF, 0x05, 1), (0x0D00, 0x0FFF, 0x06, 0), (0x1000, 0x1FFF, 0x08, 1)] ++
  (List.range 12).map (fun j => (0x2000 + 0x1000 * j, 0x2FFF + 0x1000 * j, 0x10 + j, 0)) ++
  [(0xE000, 0xEFFF, 0x20, 0), (0xF000, 0xFEFF, 0x30, 1)]

/-- The reset value of PAN_DESC_RANGE (`attr = false`) and PAN_DESC_ATTR (`attr = true`) of descriptor `n` (R37). -/
def descReset (n : Nat) (attr : Bool) : Nat :=
  match fixedDescs[n]? with
  | none => 0
  | some (f, l, o, t) => if attr then 0x200 + 0x100 * t + o else 0x10000 * l + f

/-- The reset value of the register at address `a`; an address the map does not hold reads 0 (R423). [log 11: DESIGN CHOICE] -/
def regReset (a : Nat) : BitVec 32 :=
  if 0x11100 ≤ a && a < 0x11500 then
    BitVec.ofNat 32 (descReset ((a - 0x11100) / 8) ((a - 0x11100) % 8 == 4))
  else if 0x41000 ≤ a && a < 0x41C00 && a % 0x100 == 0 then
    BitVec.ofNat 32 (a - 0x41000)
  else if 0x30000 ≤ a && a < 0x32000 && a % 0x100 == 0x9C then 0#32
  else
    match regRow a with
    | some r => BitVec.ofNat 32 r.reset
    | none => 0#32

end Sys2Proof.Machine
end

