-- ==== Sys2Proof/Machine/State.lean ====
section
/-!
DEFINITION. The state of the block as plain data: the register file, the state behind it, and the queue of waiting commands.
-/
namespace Sys2Proof.Machine

/-- The variants of the family, set by fuses (R5). -/
inductive Variant where
  | egx192
  | egx96
  | egx48
  deriving DecidableEq, Repr, Inhabited

/-- What the block gives to the outside (the model's own port): the value a read returned; byte frames by port (2 P2, 3 the serial GSET lines, 4 a
safety telegram to the network carrier); the MSI-X vectors sent; the blocks written to the host's memory, each at its bus address (R430, R431);
and the frames that left P0 and P1. [log 7: DESIGN CHOICE] -/
structure OutPort where
  value : Word := 0#32
  fresh : Bool := false
  frames : List (Nat × List Byte) := []
  msix : List Nat := []
  dma : List (Nat × List Byte) := []
  net : List NetSent := []
  deriving DecidableEq, Repr, Inhabited

/-- The four device states (R46). -/
inductive DevState where
  | run
  | standby
  | watch
  | dormant
  deriving DecidableEq, Repr, Inhabited

/-- A write held in the pending bank: its value and its place in the owner's own order (R32). -/
structure PendWrite where
  val : Word := 0#32
  ord : Nat := 0
  deriving DecidableEq, Repr, Inhabited

/-- The breach interval of one cause (R43). Commit indices are those of R28. -/
structure Breach where
  isOpen : Bool := false
  slot : Nat := 0
  first : Nat := 0
  last : Nat := 0
  lastGt : Nat := 0
  deriving DecidableEq, Repr, Inhabited

/-- The Pantry (R24 to R36): both banks, the FRESH bits, the latest commit and the open breach intervals.
`pend` holds, for each destination commit index, the slots written for it. -/
structure Pantry where
  committed : Store 32 := []
  fresh : Store 1 := []
  pend : KMap (KMap PendWrite) := []
  cidx : Nat := 0
  cinst : Nat := 0
  anyCommit : Bool := false
  clearNext : Bool := false
  stopped : Bool := false
  breach : Tab Breach := List.replicate 6 {}
  deriving DecidableEq, Repr, Inhabited

/-- The slip of one epoch (R51). -/
inductive Slip where
  | none
  | lengthen
  | shorten
  deriving DecidableEq, Repr, Inhabited

/-- Grid time, its discipline and the clocks (R49 to R78), beside the registers of R79 and R80. [log 15: DESIGN CHOICE] -/
structure TimeState where
  epLen : Nat := 5000
  epLenPend : Option Nat := Option.none
  epDone : Nat := 0
  anyEpoch : Bool := false
  accum : Int := 0
  slip : Slip := .none
  slipEnded : Slip := .none
  slipHeld : Bool := false
  rateNext : Option Int := Option.none
  lockCount : Nat := 0
  rejects : Nat := 0
  lastMeas : Nat := 0
  tracked : Bool := false
  stepPend : Option Int := Option.none
  ppsOut : Bool := false
  ppsRise : Nat := 0
  keepTicks : Nat := 500000000
  dllFull : Bool := false
  relockCmd : Bool := false
  relockSince : Nat := 0
  sysLockSince : Nat := 0
  netLockSince : Nat := 0
  outOfRange : Tab Nat := List.replicate 10 0
  below : Nat := 0
  halfAt : Nat := 0
  pwmHalted : Bool := false
  goAt : Nat := 0
  lossHold : Bool := false
  lostAt : Nat := 0
  xtLostHeld : Bool := false
  qualBefore : Nat := 0
  qualAt : Nat := 0
  deriving DecidableEq, Repr, Inhabited

/-- The settings of one sequence entry, as they stood when its sequence was triggered (R107). -/
structure EntryCfg where
  e : Nat := 0
  ch : Nat := 0
  smp : Nat := 15
  gain : Word := 0#32
  ofs : Int := 0
  deriving DecidableEq, Repr, Inhabited

/-- A sequence: idle, triggered and waiting for its delay, held behind an injected sequence, or running (R88, R90). -/
inductive SeqPhase where
  | idle
  | waiting
  | held
  | running
  deriving DecidableEq, Repr, Inhabited

/-- The regular or the injected sequence of a core (R89). -/
structure AdcSeq where
  phase : SeqPhase := .idle
  due : Nat := 0
  plan : List EntryCfg := []
  deriving DecidableEq, Repr, Inhabited

/-- A conversion in progress (R83). -/
structure AdcConv where
  inj : Bool := false
  cfg : EntryCfg := {}
  start : Nat := 0
  len : Nat := 0
  deriving DecidableEq, Repr, Inhabited

/-- A finished conversion waiting for its Pantry write 12 ticks after its end (R92). -/
structure AdcResult where
  slot : Nat := 0
  sample : Nat := 0
  due : Nat := 0
  val : Word := 0#32
  deriving DecidableEq, Repr, Inhabited

/-- The latest result of an entry and the one before it, for the recorder's analog tracks (R407). -/
structure AdcLast where
  val : Word := 0#32
  ended : Nat := 0
  before : Option Word := none
  deriving DecidableEq, Repr, Inhabited

/-- One converter core beside its registers (R81 to R101). -/
structure AdcCore where
  reg : AdcSeq := {}
  inj : AdcSeq := {}
  conv : Option AdcConv := none
  results : List AdcResult := []
  last : KMap AdcLast := []
  regDone : Nat := 0
  injDone : Nat := 0
  ovr : Bool := false
  miss : Bool := false
  pre : Bool := false
  owActive : Bool := false
  owAny : Bool := false
  owStart : Nat := 0
  owLeft : List Nat := []
  owStarved : Bool := false
  calPending : Bool := false
  calReq : Nat := 0
  calLast : Nat := 0
  trim : DWord := 0#64
  trimNext : Option DWord := none
  deriving DecidableEq, Repr, Inhabited

/-- One sigma-delta channel: the sums and differences of its two filters, its output count since the last restart, and its
overcurrent state (R103 to R106, R130). -/
structure SdfCh where
  i1 : Int := 0
  i2 : Int := 0
  i3 : Int := 0
  d1 : Int := 0
  d2 : Int := 0
  d3 : Int := 0
  o1 : Int := 0
  o2 : Int := 0
  p1 : Int := 0
  p2 : Int := 0
  outputs : Nat := 0
  ocOutputs : Nat := 0
  oc : Bool := false
  ocSeen : Bool := false
  deriving DecidableEq, Repr, Inhabited

/-- The analog island (R81 to R109). `sdcOn` has the modulator clocks that are switched on (R102). [log 15: DESIGN CHOICE] -/
structure AnaState where
  cores : Tab AdcCore := List.replicate 8 {}
  sdf : Tab SdfCh := List.replicate 48 {}
  atmr : Tab Nat := List.replicate 4 0
  sdcOn : Nat := 0
  deriving DecidableEq, Repr, Inhabited

/-- One comparator beside its registers (R110 to R133). [log 15: DESIGN CHOICE] -/
structure CmpState where
  raw : Bool := false
  out : Bool := false
  unres : Bool := true
  unresSince : Nat := 0
  seedSafe : Bool := false
  held : Bool := false
  blank : Bool := false
  blankEnd : Nat := 0
  blankSince : Nat := 0
  blankHit : Bool := false
  cutUntil : Nat := 0
  settleUntil : Nat := 0
  rise : Bool := false
  fall : Bool := false
  hitSnap : Bool := false
  rises : Nat := 0
  checkedAt : Nat := 0
  wakeArmed : Bool := true
  deriving DecidableEq, Repr, Inhabited

/-- The comparator block: the comparators, the trip buses and the CREF voltages declared by the integrator (R118, R130, R439). -/
structure CmpBlock where
  cmps : Tab CmpState := List.replicate 64 {}
  bus : Nat := 0
  busSeen : Nat := 0
  snapAt : Nat := 0
  cref : KMap (Word × Option Word) := []
  deriving DecidableEq, Repr, Inhabited

/-- A section of a recipe part (R147, R148, R192). -/
structure KSection where
  start : Nat := 0
  count : Nat := 0
  rate : Nat := 1
  phase : Nat := 0
  dst : Bool := false
  deriving DecidableEq, Repr, Inhabited

/-- A stage: its words, its declared and its current exponent, and its SAT bit (R139, R145, R193). -/
structure KStage where
  base : Nat := 0
  len : Nat := 0
  decl : Int := 0
  exp : Int := 0
  sat : Bool := false
  deriving DecidableEq, Repr, Inhabited

/-- A supervision descriptor (R157, R194). -/
structure KDesc where
  ref : Nat := 0
  fb : Nat := 0
  lim : Word := 0#32
  timer : Nat := 0
  act : Nat := 0
  angle : Bool := false
  freshReq : Bool := false
  en : Bool := false
  deriving DecidableEq, Repr, Inhabited

/-- An entry of the data map (R195). -/
structure KRange where
  first : Nat := 0
  last : Nat := 0
  init : Bool := false
  deriving DecidableEq, Repr, Inhabited

/-- A program bank with its tables (R135, R160, R190). -/
structure KBank where
  loaded : Bool := false
  mark : Bool := false
  laws : Bool := false
  crc : Word := 0#32
  build : Word := 0#32
  secs : Tab KSection := []
  fbs : Tab KSection := []
  stages : Tab KStage := []
  descs : Tab KDesc := []
  dmap : List KRange := []
  inits : List (Nat × Word) := []
  prog : List DWord := []
  deriving DecidableEq, Repr, Inhabited

/-- The mode of a binding (R169). -/
inductive KMode where
  | idle
  | main
  | fallback
  | stopped
  deriving DecidableEq, Repr, Inhabited

/-- An open loop: words `first` to `stop - 1`, iteration `iter` of `n`, its register `j` (R177). -/
structure KLoop where
  j : Nat := 0
  n : Nat := 1
  iter : Nat := 0
  first : Nat := 0
  stop : Nat := 0
  deriving DecidableEq, Repr, Inhabited

/-- An accumulator: `a * 2^(x-46)`; `sat` keeps a saturated value until the next clear (R142). -/
structure KAcc where
  a : Int := 0
  x : Int := 0
  sat : Bool := false
  deriving DecidableEq, Repr, Inhabited

/-- The run of one epoch: the sections still due, with the running one first, the engine state of R173, and its cycles. -/
structure KRun where
  active : Bool := false
  epoch : Nat := 0
  fb : Bool := false
  due : List Nat := []
  pc : Nat := 0
  loops : List KLoop := []
  flags : Nat := 1
  acc : Tab KAcc := List.replicate 4 {}
  drain : Bool := false
  ended : Bool := false
  cyc : Nat := 0
  sat : Bool := false
  deriving DecidableEq, Repr, Inhabited

/-- A pending swap (R161, R171): its epoch and the tag of its command, none for an expert request. -/
structure KSwap where
  epoch : Nat := 0
  tag : Option Nat := none
  late : Bool := false
  deriving DecidableEq, Repr, Inhabited

/-- A pending engine-fallback or engine-resume command (R156). -/
structure KModeCmd where
  resume : Bool := false
  epoch : Nat := 0
  tag : Nat := 0
  deriving DecidableEq, Repr, Inhabited

/-- A binding with its engine (R135, R137): both banks, the data memory, supervision, the run of the epoch and what is pending.
`good` and `fbGood` count epochs without an overrun, since the last one and since FALLBACK; `shown` holds bits [5:3] of the status slot. `dump` is the data memory as the last completed epoch left it (ENG_DUMP). [log 14: DESIGN CHOICE; 69, 74: DEDUCED] -/
structure Binding where
  banks : Tab KBank := List.replicate 2 {}
  act : Nat := 0
  mode : KMode := .idle
  data : Store 32 := []
  dump : Store 32 := []
  dumpIdx : Nat := 0
  feCnt : Tab Nat := List.replicate 32 0
  run : KRun := {}
  esc : Nat := 0
  good : Nat := 0
  fbGood : Nat := 0
  fbAt : Option Nat := none
  ovrAt : Option Nat := none
  shown : Nat := 0
  ovrEp : Bool := false
  satEp : Bool := false
  feEp : Bool := false
  swapEp : Bool := false
  swap : Option KSwap := none
  modeCmd : Option KModeCmd := none
  deriving DecidableEq, Repr, Inhabited

/-- The step of a rotation (R166). -/
inductive RotStep where
  | idle
  | copy
  | shadow
  | bist
  deriving DecidableEq, Repr, Inhabited

/-- The engines: the bindings and the rotating spare (R137, R164 to R168). `phys` is the physical engine under each binding. [log 15: DESIGN CHOICE] -/
structure KetState where
  bind : Tab Binding := List.replicate 12 {}
  phys : Tab (Option Nat) := (List.range 12).map some
  spare : Option Nat := none
  donor : Option Nat := none
  rot : RotStep := .idle
  testing : Option Nat := none
  mismatched : Bool := false
  suspect : Option Nat := none
  retired : Nat := 0
  shadowed : Nat := 0
  rotAt : Nat := 0
  deriving DecidableEq, Repr, Inhabited

/-- A measurement channel (R209 to R211): the source in use, the age of each source and for how long A has been fresh, in ticks; the epochs for
which both have been lost. -/
structure LawChan where
  useB : Bool := false
  ageA : Nat := 0
  ageB : Nat := 0
  okA : Nat := 0
  lost : Nat := 0
  deriving DecidableEq, Repr, Inhabited

/-- SYNC (R212 to R214): the two integrator pairs with their last inputs, the positive sequence, the loop and its state, the epochs of its
waits, and the frequencies of the epochs so far, the latest first. Angles in turns. -/
structure SyncSt where
  st : Nat := 0
  theta : Rat := 0
  f : Rat := 0
  x : Rat := 0
  sa : Rat := 0
  qa : Rat := 0
  sb : Rat := 0
  qb : Rat := 0
  ua : Rat := 0
  ub : Rat := 0
  pa : Rat := 0
  pb : Rat := 0
  vp : Rat := 0
  vn : Rat := 0
  e : Rat := 0
  rocof : Rat := 0
  phi : Word := 0#32
  lockFor : Nat := 0
  badFor : Nat := 0
  hist : List Rat := []
  deriving DecidableEq, Repr, Inhabited

/-- FRT (R223 to R225): the state, the elapsed fault time in ticks, waits in epochs, the curves latched at entry, and the current it asks for. -/
structure FrtSt where
  st : Nat := 0
  elapsed : Nat := 0
  exitFor : Nat := 0
  sinceExit : Nat := 0
  exited : Bool := false
  normalFor : Nat := 0
  minV : Rat := 0
  vRef : Rat := 1
  irPre : Rat := 0
  idPre : Rat := 0
  ir : Rat := 0
  added : Rat := 0
  idRef : Rat := 0
  trip : Nat := 0
  cease : Bool := false
  lv : List (Rat × Rat) := []
  hv : List (Rat × Rat) := []
  vHist : List Rat := []
  irHist : List Rat := []
  deriving DecidableEq, Repr, Inhabited

/-- AI (R226 to R231): the epochs for which each stage lies beyond its level, the bias, and the waits in epochs. -/
structure AiSt where
  stage : List Nat := List.replicate 9 0
  cause : Nat := 0
  bias : Rat := 0
  rcFor : Nat := 0
  ttFor : Nat := 0
  ttLogged : Bool := false
  island : Bool := false
  trip : Nat := 0
  deriving DecidableEq, Repr, Inhabited

/-- COORD (R216, R217, R236 to R238). `cmd` is the last request that named a running mode; `frtWait` and `limWait` say what a mode request has
met while it waits, `spent` that SPO has ended the request (R306), `slow` that the ramp after a reconnection runs. Waits in epochs. -/
structure CoordSt where
  mode : Nat := 0
  cause : Nat := 0
  p : Rat := 0
  q : Rat := 0
  pdc : Rat := 0
  slow : Bool := false
  frtWait : Bool := false
  limWait : Bool := false
  spent : Bool := false
  lockedFor : Nat := 0
  freeFor : Nat := 0
  cmd : Nat := 0
  trimP : Rat := 0
  trimQ : Rat := 0
  deriving DecidableEq, Repr, Inhabited

/-- GFM (R219 to R222). The rotor angle in turns. -/
structure GfmSt where
  on : Bool := false
  w : Rat := 1
  delta : Rat := 0
  y : Rat := 0
  pf : Rat := 0
  qf : Rat := 0
  e : Rat := 0
  soft : Rat := 0
  idRef : Rat := 0
  iqRef : Rat := 0
  limited : Bool := false
  deriving DecidableEq, Repr, Inhabited

/-- ICTL (R215 to R218): the integrators of both sequences, the currents and references, and the DC-link loop. -/
structure IctlSt where
  angle : Word := 0#32
  xd : Rat := 0
  xq : Rat := 0
  nd : Rat := 0
  nq : Rat := 0
  id_ : Rat := 0
  iq : Rat := 0
  idRef : Rat := 0
  iqRef : Rat := 0
  p : Rat := 0
  q : Rat := 0
  vdcInt : Rat := 0
  pdc : Rat := 0
  limited : Bool := false
  clipped : Bool := false
  deriving DecidableEq, Repr, Inhabited

/-- A global scan of a tracker (R234): the voltage before it, the sections and the power of the step it dwells at, and the best step so far. -/
structure ScanSt where
  before : Rat := 0
  dwell : Nat := 0
  sum : Rat := 0
  n : Nat := 0
  bestV : Rat := 0
  bestP : Rat := 0
  deriving DecidableEq, Repr, Inhabited

/-- A tracker (R232 to R235): the voltage loop, the averages and directions of the tracking section, and the limit it curtails under. -/
structure TrkSt where
  started : Bool := false
  curt : Rat := 0
  vref : Rat := 0
  integ : Rat := 0
  duty : Rat := 0
  v : Rat := 0
  p : Rat := 0
  sumP : Rat := 0
  n : Nat := 0
  lastP : Rat := 0
  lastV : Rat := 0
  lastI : Rat := 0
  up : Bool := true
  scan : Option ScanSt := none
  scanned : Bool := true
  deriving DecidableEq, Repr, Inhabited

/-- A law instance (R202): its type code (R439), binding, place in its binding's order, structural fields, channels by their first field, and
the state of its law. -/
structure LawInst where
  typ : Nat := 0
  bind : Nat := 0
  pos : Nat := 0
  fields : KMap Word := []
  ch : KMap LawChan := []
  sync : SyncSt := {}
  frt : FrtSt := {}
  ai : AiSt := {}
  coord : CoordSt := {}
  gfm : GfmSt := {}
  ictl : IctlSt := {}
  trk : List TrkSt := []
  scanFor : Nat := 0
  deriving DecidableEq, Repr, Inhabited

/-- The law library (R202 to R242): the instances, and the host slots that have been written. -/
structure LawState where
  inst : Tab LawInst := []
  written : List Nat := []
  deriving DecidableEq, Repr, Inhabited

/-- A compare set copied at a commit (R251, R252): its eight words, its commit index and instant. -/
structure SetCopy where
  words : List Word := []
  cidx : Nat := 0
  inst : Nat := 0
  usable : Bool := false
  deriving DecidableEq, Repr, Inhabited

/-- One PWM channel: its commanded level and the edges that rest on it, in 1/32 tick of GT (R243 to R260). -/
structure PwmCh where
  lvl : Bool := false
  onAt : Nat := 0
  off : Option Nat := none
  lastOff : Nat := 0
  skip : Nat := 0
  carry : Nat := 0
  spact : Bool := false
  deriving DecidableEq, Repr, Inhabited

/-- One leg group beside its registers (R245 to R271). `hupdTag` has the tags of the commands that wait for its host set. -/
structure LegGroup where
  bnd : Nat := 0
  anyBnd : Bool := false
  copyNew : SetCopy := {}
  copyOld : SetCopy := {}
  gotFirst : Bool := false
  staleCount : Nat := 0
  staleOff : Bool := false
  armGt : Nat := 0
  cbc : Bool := false
  latched : Bool := false
  rngSnap : Bool := false
  cbcSnap : Bool := false
  bndSnap : Nat := 0
  offPend : Bool := false
  reopen : Bool := false
  frames : Nat := 0
  frameSent : Bool := false
  frameSkip : Bool := false
  frameFor : Nat := 0
  midFor : Nat := 0
  trgFor : Nat := 0
  resume : Bool := false
  segAt : Nat := 0
  both : List (Option Nat) := [none, none, none]
  ilWait : Nat := 0
  hupdTag : List Nat := []
  deriving DecidableEq, Repr, Inhabited

/-- The sync chain of a follower (R264 to R268): the error, the trim and the pulses missed in a row, in 1/32 tick. -/
structure ChainState where
  err : Int := 0
  valid : Bool := false
  trim : Int := 0
  missed : Nat := 0
  lost : Bool := false
  syncOut : Bool := false
  syncOutAt : Nat := 0
  deriving DecidableEq, Repr, Inhabited

/-- The PWM fabric. -/
structure PwmState where
  chs : Tab PwmCh := List.replicate 192 {}
  lgs : Tab LegGroup := List.replicate 32 {}
  chain : ChainState := {}
  snapAt : Nat := 0
  deriving DecidableEq, Repr, Inhabited

/-- A response window: the direction of its GCMD edge and its bounds in 1/32 tick (R276). -/
structure RespWin where
  rising : Bool := false
  start : Nat := 0
  stop : Nat := 0
  deriving DecidableEq, Repr, Inhabited

/-- One gate-link channel beside its registers (R273 to R293). Times of GFB are in 1/32 tick. -/
structure GlCh where
  gfb : Bool := false
  gfbAt : Nat := 0
  raw : Bool := false
  rawAt : Nat := 0
  win : Option RespWin := none
  confOff : Bool := true
  confAt : Nat := 0
  exclNext : Bool := false
  sig : Nat := 0
  sigAt : Nat := 0
  cause : Nat := 0
  active : Bool := false
  latched : Bool := false
  waiting : Bool := false
  waitEnd : Nat := 0
  release : Bool := false
  tries : Nat := 0
  lastFault : Nat := 0
  faultSnap : Nat := 0
  newOn : Option Int := none
  newOff : Option Int := none
  deriving DecidableEq, Repr, Inhabited

/-- A SIGNATURE declaration counted for the coincidence rule (R287). -/
structure SigDecl where
  lg : Nat := 0
  at_ : Nat := 0
  deriving DecidableEq, Repr, Inhabited

/-- The gate links, the coincidence windows and the leg probes (R273 to R297). -/
structure GlState where
  chs : Tab GlCh := List.replicate 192 {}
  shoot : Tab Nat := List.replicate 32 0
  decls : List SigDecl := []
  escal : Nat := 0
  prbRun : Bool := false
  prbStart : Nat := 0
  prbLeft : List Nat := []
  prbLog : List Word := []
  deriving DecidableEq, Repr, Inhabited

/-- A demand for SPO that holds now (R305): its cause, its source index and its converters. -/
structure Demand where
  cause : Nat := 0
  src : Nat := 0
  convs : Nat := 0
  deriving DecidableEq, Repr, Inhabited

/-- The classes of a safety input channel (R313). -/
inductive SinClass where
  | shortGnd
  | closed
  | openLoop
  | high
  | invalid
  deriving DecidableEq, Repr, Inhabited

/-- One channel of a safety input pair: its last samples, its accepted class and its test fault (R313, R314). -/
structure SinChan where
  lastClass : SinClass := .shortGnd
  same : Nat := 0
  cls : SinClass := .shortGnd
  known : Bool := false
  test : Bool := false
  deriving DecidableEq, Repr, Inhabited

/-- One safety input pair (R315, R316). -/
structure SinPair where
  a : SinChan := {}
  b : SinChan := {}
  fault : Bool := false
  disc : Bool := false
  rev : Bool := false
  discFrom : Option Nat := none
  permitFrom : Option Nat := none
  sawDemand : Bool := false
  revFrom : Option Nat := none
  deriving DecidableEq, Repr, Inhabited

/-- One safety output (R317 to R319). -/
structure SoutState where
  cmd : Bool := false
  hClosed : Bool := false
  lClosed : Bool := false
  lAt : Nat := 0
  fault : Nat := 0
  testPassed : Bool := false
  deriving DecidableEq, Repr, Inhabited

/-- One receive connection (R322, R323): its state, its last SEQ, the instants of its errors of the last second, and its permits. -/
structure RxState where
  st : Nat := 0
  lastSeq : Nat := 0
  base : Bool := false
  lastAt : Nat := 0
  errs : List Nat := []
  permits : Nat := 0
  payload : List Word := []
  deriving DecidableEq, Repr, Inhabited

/-- The counts of one limit function of a converter (R310, R311). -/
structure LimitCount where
  n : Nat := 0
  stale : Nat := 0
  cross : Nat := 0
  deriving DecidableEq, Repr, Inhabited

/-- The frequency a converter's monitor derives from its voltage slot (R312): the last sample and crossing, and the result. -/
structure FreqMon where
  have_ : Bool := false
  lastV : Word := 0#32
  lastGt : Nat := 0
  cross : Option Rat := none
  f : Rat := 0
  validAt : Nat := 0
  valid : Bool := false
  deriving DecidableEq, Repr, Inhabited

/-- The safety monitor (R301 to R327). `cfg` is the configuration in force once `inForce`. [log 15: DESIGN CHOICE] -/
structure SafeState where
  cfg : SafeConfig := {}
  inForce : Bool := false
  pendCfg : SafeConfig := {}
  pendCrc : Word := 0#32
  pending : Bool := false
  demands : List Demand := []
  spoAt : Tab Nat := List.replicate 12 0
  offDone : Tab Bool := List.replicate 12 false
  mismatch : List Nat := []
  intFault : Bool := false
  startTests : Bool := false
  sin : Tab SinPair := List.replicate 8 {}
  sout : Tab SoutState := List.replicate 4 {}
  rx : Tab RxState := List.replicate 8 {}
  txSeq : Tab Nat := List.replicate 8 0
  txAt : Tab Nat := List.replicate 8 0
  txLast : Tab (List Byte) := List.replicate 8 []
  limits : Tab (List LimitCount) := List.replicate 12 (List.replicate 4 {})
  fmon : Tab FreqMon := List.replicate 12 {}
  lastEval : Nat := 0
  deriving DecidableEq, Repr, Inhabited

/-- A Pantry write that Steward holds (R337): its slot, value, destination, place in fetch order, and the tag of its command, if a host
command asked for it. -/
structure HeldWrite where
  slot : Nat := 0
  val : Word := 0#32
  dest : Nat := 0
  ord : Nat := 0
  tag : Option Nat := none
  at_ : Bool := false
  deriving DecidableEq, Repr, Inhabited

/-- A split (R342): asked for, or running since `start`. -/
structure SplitState where
  started : Bool := false
  start : Nat := 0
  ready : Bool := false
  readyAt : Nat := 0
  rejoin : Bool := false
  tag : Nat := 0
  deriving DecidableEq, Repr, Inhabited

/-- The supervisor pair beside its registers (R328 to R348). `recovs` holds the GT of each class 1 recovery of the last 60 s; `lastAct` the end of
the last recovery, resynchronisation or split. -/
structure SupState where
  lastFrame : Nat := 0
  anyFrame : Bool := false
  injAt : Nat := 0
  injFails : Nat := 0
  journalFull : Bool := false
  recovs : List Nat := []
  lastAct : Nat := 0
  anyAct : Bool := false
  rejoinDue : Bool := false
  split : Option SplitState := none
  held : List HeldWrite := []
  scrubWord : Nat := 0
  journalWord : Nat := 0
  passStart : Nat := 0
  deriving DecidableEq, Repr, Inhabited

/-- A sequence number seen from a node: when, and out of which ports the frame has been forwarded (R350, R351). -/
structure NodeSeq where
  seq : Nat := 0
  at_ : Nat := 0
  out : Nat := 0
  deriving DecidableEq, Repr, Inhabited

/-- An entry of the node table (R351, R352): its last frame, its last sequence numbers with the newest first, when it was first heard, and when on each
path. -/
structure NetNode where
  lastAt : Nat := 0
  firstAt : Nat := 0
  seqs : List NodeSeq := []
  path0 : Option Nat := none
  path1 : Option Nat := none
  pathErr : Bool := false
  deriving DecidableEq, Repr, Inhabited

/-- PTP on one port (R354 to R357). -/
structure PtpPort where
  ann : Option PtpAnnounce := none
  annAt : Nat := 0
  delayAt : Option Nat := none
  reqSeq : Nat := 0
  reqAt : Nat := 0
  deriving DecidableEq, Repr, Inhabited

/-- A sample in a stream's buffer (R366): t_m, and what the slots receive. -/
structure SvSample where
  tm : Nat := 0
  smpCnt : Nat := 0
  smpSynch : Nat := 0
  sim : Bool := false
  late : Bool := false
  miss : Bool := false
  data : List (Word × Word) := []
  deriving DecidableEq, Repr, Inhabited

/-- A subscribed stream beside its registers (R364 to R367). `group` holds the destination, count and marks of the samples written for one commit. -/
structure SvStream where
  lastTm : Option Nat := none
  lastAcc : Nat := 0
  lost : Bool := false
  late : Bool := false
  last : SvSample := {}
  buf : List SvSample := []
  dest : Nat := 0
  count : Nat := 0
  gLate : Bool := false
  gMiss : Bool := false
  deriving DecidableEq, Repr, Inhabited

/-- A publication stream (R368, R369): the next sample, counted from GT 0, the samples taken for the next frame, and the instant of the last commit
with FRESH = 1 of each quantity. -/
structure SvPub where
  next : Nat := 0
  taken : List SvOut := []
  freshAt : Tab (Option Nat) := List.replicate 8 none
  deriving DecidableEq, Repr, Inhabited

/-- A GOOSE subscription (R370 to R373). -/
structure GooseSub where
  any : Bool := false
  valid : Bool := false
  until_ : Nat := 0
  stNum : Word := 0#32
  sqNum : Word := 0#32
  test : Bool := false
  sim : Bool := false
  mismatch : Bool := false
  mems : List Word := []
  deriving DecidableEq, Repr, Inhabited

/-- A GOOSE publication (R375): the members last published, the numbers, the change commit and the times of this and the next message. -/
structure GoosePub where
  any : Bool := false
  mems : List (Nat × List Word × List Byte) := []
  stNum : Nat := 1
  sqNum : Nat := 0
  changeAt : Nat := 0
  nextAt : Nat := 0
  deriving DecidableEq, Repr, Inhabited

/-- The network island beside its registers (R349 to R380). `files` holds the Sieve tables by kind, as loaded. -/
structure NetState where
  nodes : KMap NetNode := []
  txSeq : Nat := 0
  supAt : Nat := 0
  files : Tab (List Byte) := List.replicate 4 []
  ptp : Tab PtpPort := List.replicate 2 {}
  sv : Tab SvStream := List.replicate 16 {}
  pub : Tab SvPub := List.replicate 4 {}
  goSub : Tab GooseSub := List.replicate 64 {}
  goPub : Tab GoosePub := List.replicate 16 {}
  beaconAt : Nat := 0
  beaconDue : Bool := false
  watchSeq : Nat := 0
  lastWatch : Nat := 0
  deriving DecidableEq, Repr, Inhabited

/-- A request for a spare descriptor (R38, R39). -/
structure SpareReq where
  owner : Nat := 0
  raw : Bool := false
  latwin : Nat := 0
  first : Nat := 0
  last : Nat := 0
  deriving DecidableEq, Repr, Inhabited

/-- A sample of a metering point (R383 to R388): its time, its gap where it adds energy, its voltages and currents in V and A, p and q. -/
structure MtrSample where
  t : Nat := 0
  dt : Nat := 0
  v : List Rat := []
  i : List Rat := []
  p : Rat := 0
  q : Rat := 0
  deriving DecidableEq, Repr, Inhabited

/-- A half-cycle boundary (R386). -/
structure MtrBound where
  t : Nat := 0
  rising : Bool := true
  synth : Bool := false
  deriving DecidableEq, Repr, Inhabited

/-- A sag, swell or interruption (R398): its start, its half-cycles, and its extreme as a square with its phase. -/
structure MtrEvent where
  on : Bool := false
  start : Nat := 0
  dur : Nat := 0
  ext : Rat := 0
  phase : Nat := 0
  intr : Bool := false
  deriving DecidableEq, Repr, Inhabited

/-- A metering point beside its registers (R382 to R399). The scales and thresholds are those of the interval in progress; `half` and `intv` hold the
samples since the last boundary and since the interval's start, `buf` the last 256; energies are in 2^-32 µWh. -/
structure MtrPoint where
  on : Bool := false
  fresh : Bool := true
  lastT : Nat := 0
  kv : Word := 0x40000001#32
  ki : Word := 0x40000001#32
  udin : Word := 0x73000008#32
  evth : Word := 0x2AF82328#32
  evth2 : Word := 0x011401F4#32
  buf : List MtrSample := []
  half : List MtrSample := []
  intv : List MtrSample := []
  armed : Option Bool := none
  bounds : List MtrBound := []
  nb : Nat := 0
  fTime : Option Nat := none
  fOk : Bool := false
  halfGap : Bool := false
  gap : Bool := false
  start : Option Nat := none
  intvSynth : Bool := false
  intvBnd : Nat := 0
  e : Tab Nat := List.replicate 7 0
  wrap : Tab Nat := List.replicate 7 0
  inc : Tab Nat := List.replicate 7 0
  bndW : Bool := false
  intvW : Bool := false
  badW : Bool := false
  latW : Bool := false
  sag : MtrEvent := {}
  swell : MtrEvent := {}
  intr : MtrEvent := {}
  evNum : Nat := 0
  deriving DecidableEq, Repr, Inhabited

/-- A pulse output (R395): the µWh counted, and the pulse in progress or the earliest start of the next. -/
structure PlsOut where
  acc : Nat := 0
  active : Bool := false
  since : Nat := 0
  restUntil : Nat := 0
  deriving DecidableEq, Repr, Inhabited

/-- A pulse input (R397): its level, the pulses since the last latch, and what the named register has contributed. -/
structure McntIn where
  closed : Bool := false
  counted : Nat := 0
  rem : Nat := 0
  lastE : Nat := 0
  deriving DecidableEq, Repr, Inhabited

/-- The metering unit. -/
structure MtrState where
  pts : Tab MtrPoint := List.replicate 4 {}
  pls : Tab PlsOut := List.replicate 8 {}
  mcnt : Tab McntIn := List.replicate 4 {}
  deriving DecidableEq, Repr, Inhabited

/-- An analog record in a bank's queue (R404, R408): its sample tick, track, value and key mark. -/
structure RecAna where
  t : Nat := 0
  a : Nat := 0
  val : Word := 0#32
  key : Bool := false
  deriving DecidableEq, Repr, Inhabited

/-- A bank of the recorder with its digital group (R404 to R415). `slotAt` is the first tick in which slot 1 is free again; `state` and `known` the
group's last 32-bit state; `prot` the first protected block. [log 14: DESIGN CHOICE] -/
structure RecBank where
  isOpen : Bool := false
  first : Nat := 0
  last : Nat := 0
  words : Nat := 0
  base : Nat := 0
  slotAt : Nat := 0
  queue : List RecAna := []
  state : Word := 0#32
  known : Bool := false
  prot : Option Nat := none
  mem : Store 64 := []
  deriving DecidableEq, Repr, Inhabited

/-- An analog track (R407, R412): its last stored value and its last grid sample. -/
structure RecTrack where
  stored : Option Word := none
  sample : Option Word := none
  deriving DecidableEq, Repr, Inhabited

/-- The recorder beside its registers (R403 to R417). -/
structure RecState where
  banks : Tab RecBank := List.replicate 16 {}
  tracks : Tab RecTrack := List.replicate 64 {}
  armAt : Nat := 0
  trigAt : Nat := 0
  deriving DecidableEq, Repr, Inhabited

/-- A command that Steward has fetched: its descriptor, its queue and ring entry, and how far it is (R427 to R430). -/
structure MCmd where
  opc : Nat := 0
  flags : Nat := 0
  session : Word := 0#32
  cidx : Nat := 0
  addr : DWord := 0#64
  len : Nat := 0
  timeout : Nat := 0
  spare : Nat := 0
  p : List Word := []
  q : Fin 4 := 0
  sqidx : Nat := 0
  fetchedAt : Nat := 0
  order : Nat := 0
  started : Bool := false
  dropped : Bool := false
  deriving DecidableEq, Repr, Inhabited

/-- A completion (R431). -/
structure MComp where
  tag : Nat := 0
  q : Fin 4 := 0
  dup : Bool := false
  status : Nat := 0
  sqidx : Nat := 0
  result : Word := 0#32
  dlen : Nat := 0
  cidx : Nat := 0
  v0 : Word := 0#32
  v1 : Word := 0#32
  deriving DecidableEq, Repr, Inhabited

/-- The challenge of an EXP_OPEN and its parameters (R442). -/
structure Challenge where
  at_ : Nat := 0
  p0 : Word := 0#32
  p1 : Word := 0#32
  p2 : Word := 0#32
  bytes : List Byte := []
  deriving DecidableEq, Repr, Inhabited

/-- A CAL command whose calibrations run: its tag, the cores still to finish, and whether one has starved (R100, R101). -/
structure CalCmd where
  tag : Nat := 0
  cores : Nat := 0
  starved : Bool := false
  deriving DecidableEq, Repr, Inhabited

/-- The mailbox beside its registers and rings, which stand in the register file (R420 to R447). `wait` holds the completions of a full
ring, `buf` the transfer buffer by word, `keys` the one-time programmable key slots. [log 13, 14: DESIGN CHOICE] -/
structure MbxState where
  qspi : Bool := false
  cmds : KMap MCmd := []
  wait : Tab (List MComp) := List.replicate 4 []
  lastQ : Fin 4 := 3
  order : Nat := 0
  phases : Tab Bool := List.replicate 4 true
  evPend : Bool := false
  buf : Store 32 := []
  sesId : Word := 0#32
  sesEnd : Nat := 0
  chal : Option Challenge := none
  authRow : Nat := 0
  lockUntil : Nat := 0
  cals : List CalCmd := []
  prbTag : Option Nat := none
  keys : Tab (List Byte) := List.replicate 4 []
  deriving DecidableEq, Repr, Inhabited

/-- A flash slot (R451, R452): the bytes written so far, and of a valid image what its header says. [log 13: DESIGN CHOICE] -/
structure FlashSlot where
  bytes : List Byte := []
  valid : Bool := false
  version : Word := 0#32
  secver : Nat := 0
  build : Word := 0#32
  hash : BitVec 384 := 0#384
  deriving DecidableEq, Repr, Inhabited

/-- A good commit record (R454). [log 13: DESIGN CHOICE] -/
structure CommitRec where
  seq : Nat := 0
  active : Nat := 0
  prev : Nat := 0xFF
  version : Word := 0#32
  hash : BitVec 384 := 0#384
  deriving DecidableEq, Repr, Inhabited

/-- A good copy of the configuration store (R461, R462): the registers, laws and descriptors of the configuration, the tables, the banks and
the safety configuration. -/
structure StoreCopy where
  seq : Nat := 0
  regs : Store 32 := []
  spareReqs : KMap (Word × Word) := []
  law : LawState := {}
  cref : KMap (Word × Option Word) := []
  tables : Tab (List Byte) := []
  banks : Tab (List KBank) := []
  acts : Tab Nat := []
  safe : SafeConfig := {}
  safeCrc : Word := 0#32
  safeHeld : Bool := false
  deriving DecidableEq, Repr, Inhabited

/-- Boot flash, the fuses and the boot (R448 to R466). `booting` holds from a reset on, `selected` once an image runs; `refused` has the reasons
for refused slots, slot A in bits [3:0] and slot B in [7:4]. `minSec` is the fused minimum, `rewrite` a store rewrite in progress. [log 12, 13: DESIGN CHOICE] -/
structure BootState where
  slots : Tab FlashSlot := [{ valid := true, version := 0x00040200#32 }, {}]
  commits : Tab (Option CommitRec) := [some { version := 0x00040200#32 }, none]
  running : Nat := 0
  service : Bool := false
  minSec : Nat := 0
  copies : Tab (Option StoreCopy) := [none, none]
  rewrite : Bool := false
  booting : Bool := true
  selected : Bool := false
  refused : Nat := 0
  cause : Nat := 1
  deriving DecidableEq, Repr, Inhabited

/-- The KEEP domain beside the registers of R488: supply, wake and harvest (R467 to R487). `held` is the cause of a supply-monitor reset that
waits for the main supply; `admitted` the cost of the bursts since the last reading, in half microjoules; `batTicks` the part of a second spent on
HBAT; `leaving` a RUN that is being left: where it goes, with the tag of the command; `entering` the tag of the command that entered RUN,
until its first epoch begins. [log 12: DESIGN CHOICE] -/
structure PowerState where
  keepOff : Bool := false
  held : Option Nat := none
  convAt : Nat := 0
  lightSince : Nat := 0
  darkSince : Nat := 0
  darkDone : Bool := false
  below : Option Nat := none
  shortSince : Option Nat := none
  hsetFallback : Bool := false
  harvestFull : Bool := false
  chargeFull : Bool := false
  admitted : Nat := 0
  batSeen : Bool := false
  batTicks : Nat := 0
  wakes : List Nat := []
  leaving : Option (Bool × Nat) := none
  entering : Option Nat := none
  deriving DecidableEq, Repr, Inhabited

/-- A record of the event log (R495). `whole` says that its COMMIT word matches its contents (R499), `ecc` that a word of it cannot be corrected
(R494). `who` is what its layout names no place for: the metering point of a latch record (R393, R497), the sources of a wake as a mask (R474). [log 238: DESIGN CHOICE] -/
structure LogRec where
  seq : Nat := 0
  gt : Nat := 0
  typ : Nat := 0
  qual : Nat := 0
  pin : Bool := false
  part : Nat := 0
  last : Bool := true
  code : Nat := 0
  w0 : Word := 0#32
  w1 : Word := 0#32
  w2 : Word := 0#32
  whole : Bool := true
  ecc : Bool := false
  who : Nat := 0
  deriving DecidableEq, Repr, Inhabited

/-- Suppression of the sticky records of one file bit (R493). -/
structure Suppress where
  queued : Bool := false
  at_ : Nat := 0
  count : Nat := 0
  deriving DecidableEq, Repr, Inhabited

/-- The sticky file's first-set times and the MRAM event log (R491, R493 to R502). [log 14, 15: DESIGN CHOICE; 239: DEDUCED] -/
structure LogState where
  fgt : KMap Nat := []
  fgtHi : Store 32 := []
  supp : KMap Suppress := []
  queue : List LogRec := []
  dropped : Nat := 0
  mram : KMap LogRec := []
  released : List Nat := []
  nextSeq : Nat := 1
  nextCirc : Nat := 1024
  deriving DecidableEq, Repr, Inhabited

/-- The pins (R515, R517): the boundary-scan instruction in force, TEST_EN high, and the outputs in current-limited drive, each with the mark
of the commanded level that it had then. -/
structure PinState where
  jtag : JtagIns := .bypass
  testEn : Bool := false
  folded : List (OutPin × Nat × Nat) := []
  deriving DecidableEq, Repr, Inhabited

/-- The state of the block. `regs` is the register file by BAR0 address (what an address it does not list reads as is its reset value,
RegMap.lean). `deferred` holds register writes that wait for the next epoch boundary, `spareReqs` the spare descriptors
that the host's images ask for, by index, as the words of PAN_DESC_RANGE and PAN_DESC_ATTR (R39). `freeN`, `out` and `pending` are the model's own. -/
structure State where
  gt : Nat := 0
  variant : Variant := .egx192
  dev : DevState := .standby
  regs : Store 32 := []
  deferred : KMap Word := []
  spareReqs : KMap (Word × Word) := []
  pan : Pantry := {}
  tim : TimeState := {}
  ana : AnaState := {}
  cmp : CmpBlock := {}
  pwm : PwmState := {}
  gl : GlState := {}
  safe : SafeState := {}
  log : LogState := {}
  pwr : PowerState := {}
  ket : KetState := {}
  net : NetState := {}
  mtr : MtrState := {}
  hop : RecState := {}
  law : LawState := {}
  sup : SupState := {}
  fw : BootState := {}
  mbx : MbxState := {}
  pin : PinState := {}
  freeN : Nat := 0
  out : OutPort := {}
  pending : List Instr := []
  deriving DecidableEq, Repr, Inhabited

/-- Why an engine stops: the one behaviour that the spec calls undefined and gives no effect. -/
inductive Fault where
  /-- Raised by CMPP with COND 6 or 7 and by ISH with SHT 3, codes that R186 and R187 call undefined; the loader keeps them out of every
  bank, so no run reaches one (safe). -/
  | undefinedCode
  deriving DecidableEq, Repr

/-- Why a command has no meaning in the model. -/
inductive Refusal where
  /-- The command has no meaning yet (safe: nothing is claimed of it). -/
  | notModelled (mnemonic : String)
  deriving DecidableEq, Repr

/-- The block right after reset. [log 10, 11, 12: DESIGN CHOICE] -/
def State.reset : State := {}

end Sys2Proof.Machine
end

