-- ==== Sys2Proof/Machine/Store.lean ====
section
/-!
DEFINITION. The operations of the sparse memories and tables: each keeps the canonical form (keys strictly rising, no stored word equal to
what an unlisted key reads as), so that equal memories are equal data.
-/
namespace Sys2Proof

/-- The word at key `a`, where an unlisted key reads as `d a`. -/
def Store.get {w : Nat} (d : Nat → BitVec w) : Store w → Nat → BitVec w
  | [], a => d a
  | (k, v) :: r, a => if k = a then v else Store.get d r a

/-- Write `v` at key `a`; writing what an unlisted key reads as removes the entry. -/
def Store.put {w : Nat} (d : Nat → BitVec w) : Store w → Nat → BitVec w → Store w
  | [], a, v => if v = d a then [] else [(a, v)]
  | (k, x) :: r, a, v =>
    if a < k then (if v = d a then (k, x) :: r else (a, v) :: (k, x) :: r)
    else if a = k then (if v = d a then r else (a, v) :: r)
    else (k, x) :: Store.put d r a v

/-- The canonical form of a memory, checked from the lowest key on. -/
def Store.wf {w : Nat} (d : Nat → BitVec w) : Store w → Bool
  | [] => true
  | (k, v) :: r => decide (v ≠ d k) && (match r with | [] => true | (j, _) :: _ => decide (k < j)) && Store.wf d r

/-- What an unlisted word of a cleared memory reads as. [log 14: DESIGN CHOICE] -/
def zeroes {w : Nat} : Nat → BitVec w := fun _ => 0#w

/-- The entry at key `a`, where there is one. -/
def KMap.find {α : Type} : KMap α → Nat → Option α
  | [], _ => none
  | (k, v) :: r, a => if k = a then some v else KMap.find r a

/-- Put `v` at key `a`. -/
def KMap.put {α : Type} : KMap α → Nat → α → KMap α
  | [], a, v => [(a, v)]
  | (k, x) :: r, a, v =>
    if a < k then (a, v) :: (k, x) :: r
    else if a = k then (a, v) :: r
    else (k, x) :: KMap.put r a v

/-- Remove the entry at key `a`. -/
def KMap.drop {α : Type} : KMap α → Nat → KMap α
  | [], _ => []
  | (k, x) :: r, a => if a = k then r else (k, x) :: KMap.drop r a

/-- The keys rise strictly. -/
def KMap.wf {α : Type} : KMap α → Bool
  | [] => true
  | (k, _) :: r => (match r with | [] => true | (j, _) :: _ => decide (k < j)) && KMap.wf r

/-- Entry `i` of a row; past its end, the default of its kind. -/
def Tab.at {α : Type} [Inhabited α] (t : Tab α) (i : Nat) : α := t.getD i default

/-- The row with entry `i` changed by `f`. -/
def Tab.mod {α : Type} (t : Tab α) (i : Nat) (f : α → α) : Tab α := t.modify i f

/-- The indices below `n` whose bit of `m` is 1, in rising order. -/
def bitsOf (n m : Nat) : List Nat := (List.range n).filter (fun i => m.testBit i)

end Sys2Proof
end

