-- ==== Sys2Proof/Machine/Ops.lean ====
section
/-!
DEFINITION. The operations every family shares: registers and their fields, sticky bits with their log records (R13, R489 to R498),
free values, and the Pantry (R24 to R35, R43).
-/
namespace Sys2Proof.Machine

/-- Bit `i` of `n` as a number. -/
def bitAt (n i : Nat) : Nat := n / 2 ^ i % 2

/-- A Bool as a bit. -/
def bit (b : Bool) : Nat := if b then 1 else 0

/-- The two's complement value of the low `w` bits of `n`. -/
def sgn (w n : Nat) : Int :=
  if n % 2 ^ w < 2 ^ (w - 1) then (n % 2 ^ w : Nat) else ((n % 2 ^ w : Nat) : Int) - 2 ^ w

/-- The low `w` bits of an integer. -/
def lowBits (w : Nat) (x : Int) : Nat := (x % (2 ^ w : Int)).toNat

/-- `x` held between `lo` and `hi`. -/
def clampInt (lo hi x : Int) : Int := if x < lo then lo else if hi < x then hi else x

/-- `x` held between `lo` and `hi`. -/
def clampNat (lo hi x : Nat) : Nat := if x < lo then lo else if hi < x then hi else x

/-- Whole division rounded to nearest, ties to even, of an integer by a positive number. [log 29: DEDUCED] -/
def roundDiv (a : Int) (b : Nat) : Int :=
  let q := a / (b : Int)
  let r := a % (b : Int)
  if 2 * r < b then q else if (b : Int) < 2 * r then q + 1 else if q % 2 = 0 then q else q + 1

/-- GT ticks in a second, a millisecond and a microsecond (R16). -/
def tickSec : Nat := 500000000
def tickMs : Nat := 500000
def tickUs : Nat := 500

/-! ## Registers -/

/-- The word a register holds. -/
def State.reg (s : State) (a : Nat) : Word := s.regs.get regReset a

/-- The number a register holds. -/
def State.regN (s : State) (a : Nat) : Nat := (s.reg a).toNat

/-- Set a register. -/
def State.setReg (s : State) (a : Nat) (v : Word) : State := { s with regs := s.regs.put regReset a v }

/-- Set a register to a number modulo 2^32. -/
def State.setRegN (s : State) (a n : Nat) : State := s.setReg a (BitVec.ofNat 32 n)

/-- The number in a field of a register. -/
def State.fld (s : State) (a : Nat) (f : Fld) : Nat := s.regN a / 2 ^ f.lo % 2 ^ f.w

/-- A one-bit field is 1. -/
def State.flag (s : State) (a : Nat) (f : Fld) : Bool := s.fld a f == 1

/-- A word with field `f` replaced by `v` modulo its width. -/
def putFld (w : Nat) (f : Fld) (v : Nat) : Nat :=
  w - (w / 2 ^ f.lo % 2 ^ f.w) * 2 ^ f.lo + (v % 2 ^ f.w) * 2 ^ f.lo

/-- Set a field of a register. -/
def State.setFld (s : State) (a : Nat) (f : Fld) (v : Nat) : State := s.setRegN a (putFld (s.regN a) f v)

/-- Set one bit of a register. -/
def State.setBit (s : State) (a i : Nat) (b : Bool) : State := s.setFld a ⟨i, 1⟩ (bit b)

/-- A SAT counter counts `n` more and stops at all ones (R13). -/
def State.bumpBy (s : State) (a n : Nat) : State := s.setRegN a (min (s.regN a + n) 0xFFFFFFFF)

/-- A SAT counter counts once. -/
def State.bump (s : State) (a : Nat) : State := s.bumpBy a 1

/-- A wrapping count in a register counts once. -/
def State.tickReg (s : State) (a : Nat) : State := s.setRegN a (s.regN a + 1)

/-- The next free value: the spec leaves it open, nothing constrains it. [log 8: DESIGN CHOICE] -/
def State.freeNow (s : State) : BitVec 64 := Config.freeValue s.freeN

/-- A free value has been used. [log 8: DESIGN CHOICE] -/
def State.freeStep (s : State) : State := { s with freeN := s.freeN + 1 }

/-- The GT value `t` is the one that a shortening slip leaves out of the epoch in progress (R51). [log 3: DEDUCED] -/
def State.omits (s : State) (t : Nat) : Bool := s.tim.slip == .shorten && t + 1 == (s.tim.epDone + 1) * s.tim.epLen

/-- GT moves forward to `t`, or to the tick after it where a slip leaves `t` out; it never moves back this way (R49, R52). [log 2: DESIGN CHOICE; 3: DEDUCED] -/
def State.gtTo (s : State) (t : Nat) : State := if s.gt ≤ t then { s with gt := (if s.omits t then t + 1 else t) % 2 ^ 64 } else s

/-! ## The event log's queue -/

/-- The records of one event: its payload words, three to a record, each with its PART and the last with LAST (R495, R497). -/
def chainFrom (gt qual typ code : Nat) (pin : Bool) : Nat → Nat → List Word → List LogRec
  | 0, _, _ => []
  | fuel + 1, part, ws =>
    let r : LogRec := { gt := gt, qual := qual, typ := typ, code := code, pin := pin, part := part,
                        last := ws.length ≤ 3, w0 := ws.getD 0 0#32, w1 := ws.getD 1 0#32, w2 := ws.getD 2 0#32 }
    if ws.length ≤ 3 then [r] else r :: chainFrom gt qual typ code pin fuel (part + 1) (ws.drop 3)

/-- The records fit the KEEP write queue: pinned ones up to 64 entries, the others up to 56 (R498). -/
def queueFits (occupied n : Nat) (pin : Bool) : Bool := occupied + n ≤ (if pin then 64 else 56)

/-- Records enter the queue whole, or are dropped and counted (R498). -/
def State.enqueue (s : State) (rs : List LogRec) (pin : Bool) : State :=
  if queueFits s.log.queue.length rs.length pin then
    { s with log := { s.log with queue := s.log.queue ++ rs } }
  else
    { (s.bumpBy Reg.LOG_DROPCNT rs.length) with log := { s.log with dropped := s.log.dropped + rs.length } }

/-- The words of a commit index in a record. -/
def cidxWords (c : Nat) : List Word := [BitVec.ofNat 32 c, BitVec.ofNat 32 (c / 2 ^ 32)]

/-- The words of a GT value in a record. -/
def gtWords (t : Nat) : List Word := [BitVec.ofNat 32 t, BitVec.ofNat 32 (t / 2 ^ 32)]

/-- A count as a record word. -/
def w32 (n : Nat) : Word := BitVec.ofNat 32 n

/-- The tier that keeps GT (R61). -/
def State.qual (s : State) : Nat := s.fld Reg.GT_STAT F.GT_STAT_QUAL

/-- The sticky bit is 1. -/
def State.stuck (s : State) (k : Stk) : Bool := (s.reg k.reg).getLsbD k.bit

/-- A sticky bit that goes to 1 is an event for the host (R431): MSI-X vector 4, or HIRQ_N, while it is enabled and the HOST domain is on. -/
def State.hostEvent (s : State) : State :=
  if s.flag Reg.MBX_IRQ F.MBX_IRQ_EVEN && (s.dev == .run || s.dev == .standby) then
    if s.mbx.qspi then { s with mbx := { s.mbx with evPend := true } }
    else { s with out := { s.out with msix := s.out.msix ++ [4] } }
  else s

/-- The bit goes to 1 and, when its file bit was 0, the file keeps the GT (R13, R491). -/
def State.markStk (s : State) (k : Stk) : State :=
  let t := (s.setBit k.reg k.bit true).hostEvent
  match t.log.fgt.find k.file with
  | some _ => t
  | none => { t with log := { t.log with fgt := t.log.fgt.put k.file t.gt } }

/-- The sticky record of a 0 to 1 transition, or its suppression within 1,000 ms of the last one queued for its file bit (R493, R496). -/
def State.stkRecord (s : State) (k : Stk) : State :=
  let u := (s.log.supp.find k.file).getD default
  if u.queued && s.gt < u.at_ + 1000 * tickMs then
    { s with log := { s.log with supp := s.log.supp.put k.file { u with count := min (u.count + 1) 255 } } }
  else
    let r : LogRec := { gt := s.gt, qual := s.qual, typ := 0x00, code := k.file,
                        w0 := w32 (k.inst + 256 * u.count), w1 := w32 s.pan.cidx, w2 := w32 (s.pan.cidx / 2 ^ 32) }
    if queueFits s.log.queue.length 1 false then
      let t := s.enqueue [r] false
      { t with log := { t.log with supp := t.log.supp.put k.file { queued := true, at_ := s.gt, count := 0 } } }
    else s.enqueue [r] false

/-- A drop sets STK_LOG_QOVR; the record of that bit obeys the queue as any other (R498). -/
def State.overflowStk (before : Nat) (s : State) : State :=
  if s.log.dropped ≤ before || s.stuck Stk.LOG_QOVR then s
  else (s.markStk Stk.LOG_QOVR).stkRecord Stk.LOG_QOVR

/-- Hardware sets a sticky bit: nothing more happens while it is set; its 0 to 1 transition is recorded (R13, R493). -/
def State.stick (s : State) (k : Stk) : State :=
  if s.stuck k then s else ((s.markStk k).stkRecord k).overflowStk s.log.dropped

/-- Set a sticky bit when a condition holds. -/
def State.stickIf (s : State) (c : Bool) (k : Stk) : State := if c then s.stick k else s

/-- An event record or chain with its payload words enters the queue (R495 to R498). -/
def State.logRec (s : State) (typ code : Nat) (ws : List Word) (pin : Bool := false) : State :=
  (s.enqueue (chainFrom s.gt s.qual typ code pin 8 0 ws) pin).overflowStk s.log.dropped

/-- The CODE of an event record: the file bit its event sets (0xFF for none) and its event number (R496, R538). -/
def evCode (file e : Nat) : Nat := file + 256 * e

/-- Write 0 over some bits of a sticky register; a file bit that no register holds any more loses its GT (R490, R491). -/
def State.clearStkBits (s : State) (a mask : Nat) : State :=
  s.setReg a (s.reg a &&& ~~~ (BitVec.ofNat 32 mask))

/-! ## The sticky file -/

/-- A run of the summary words: its first file bit, its length, and the address, count and stride of the registers it gathers (R489, R490). -/
structure StkRun where
  file : Nat
  len : Nat
  base : Nat
  count : Nat
  stride : Nat
  lo : Nat := 0
  deriving DecidableEq, Repr

/-- The map of R489. NET_STK[4] is the same bit as PAN_STK[5] and stands there. -/
def stkRuns : List StkRun :=
  [⟨0, 6, Reg.PAN_STK, 1, 4, 0⟩, ⟨6, 8, Reg.CLK_STK, 1, 4, 0⟩, ⟨14, 7, Reg.ADC_STK 0, 8, 0x400, 0⟩, ⟨21, 2, Reg.SDF_STK, 1, 4, 0⟩,
   ⟨23, 7, Reg.CMP_STK, 1, 4, 0⟩, ⟨30, 2, Reg.PWM_SYNCSTK, 1, 4, 0⟩, ⟨32, 4, Reg.KET_GSTK, 1, 4, 0⟩, ⟨36, 7, Reg.KET_BSTK 0, 12, 0x100, 0⟩,
   ⟨43, 6, Reg.PWM_STK 0, 32, 0x100, 0⟩, ⟨49, 7, Reg.GL_STK 0, 32, 0x100, 0⟩, ⟨56, 3, Reg.GL_GSTK, 1, 4, 0⟩, ⟨59, 5, Reg.MTR_STK 0, 4, 0x100, 0⟩,
   ⟨64, 11, Reg.SAFE_STK, 1, 4, 0⟩, ⟨75, 9, Reg.SUP_STK, 1, 4, 0⟩, ⟨84, 12, Reg.NET_STK, 1, 4, 0⟩, ⟨96, 2, Reg.MTR_GSTK, 1, 4, 0⟩,
   ⟨98, 4, Reg.REC_STK, 1, 4, 0⟩, ⟨102, 5, Reg.MBX_STK, 1, 4, 0⟩, ⟨107, 9, Reg.CLK_PWRSTK, 1, 4, 0⟩, ⟨116, 9, Reg.STK_SUM 3, 1, 4, 20⟩]

/-- The value of file bit `n`: the OR over the registers that hold it (R490). -/
def State.fileBit (s : State) (n : Nat) : Bool :=
  let m := if n = 88 then 5 else n
  match stkRuns.find? (fun r => r.file ≤ m && m < r.file + r.len) with
  | none => false
  | some r => (List.range r.count).any (fun i => (s.reg (r.base + r.stride * i)).getLsbD (m - r.file + r.lo))

/-- Clear file bit `n` in every register that holds it; its first-set GT reads 0 then (R490, R491). -/
def State.clearFile (s : State) (n : Nat) : State :=
  let m := if n = 88 then 5 else n
  match stkRuns.find? (fun r => r.file ≤ m && m < r.file + r.len) with
  | none => s
  | some r =>
    let t := (List.range r.count).foldl (fun u i => u.setBit (r.base + r.stride * i) (m - r.file + r.lo) false) s
    { t with log := { t.log with fgt := t.log.fgt.drop m } }

/-- The first-set GT of every file bit that reads 0 is dropped (R491). -/
def State.tidyFgt (s : State) : State :=
  { s with log := { s.log with fgt := s.log.fgt.filter (fun e => s.fileBit e.1) } }

/-- Word `i` of the sticky summary (R489). -/
def State.stkSum (s : State) (i : Nat) : Word :=
  BitVec.ofNat 32 ((List.range 32).foldl (fun acc b => acc + bit (s.fileBit (32 * i + b)) * 2 ^ b) 0)

/-- Clear the file bits of word `i` that a mask selects. [log 195: DEDUCED] -/
def State.clearSum (s : State) (i : Nat) (mask : Word) : State :=
  (List.range 32).foldl (fun t b => if mask.getLsbD b then t.clearFile (32 * i + b) else t) s

/-! ## The Pantry -/

/-- DET_OK: no cause of R42 stands (R36). -/
def State.detOk (s : State) : Bool := s.regN Reg.PAN_STK % 64 == 0

/-- Half-epoch commits occur: HALF_EN with an even EP_LEN in force (R28, R65). -/
def State.halfOn (s : State) : Bool := s.flag Reg.PAN_CTRL F.PAN_CTRL_HALF_EN && s.tim.epLen % 2 == 0

/-- The GT instant of commit index `c` (R28, R65). -/
def State.instantOf (s : State) (c : Nat) : Nat :=
  c / 2 * s.tim.epLen + (if c % 2 = 1 then s.tim.epLen / 2 else 0)

/-- The index of the first commit whose instant is at or after `t` (R28, R29). -/
def State.commitFrom (s : State) (t : Nat) : Nat :=
  let k := t / s.tim.epLen
  if t % s.tim.epLen = 0 then 2 * k
  else if s.halfOn && t % s.tim.epLen ≤ s.tim.epLen / 2 then 2 * k + 1
  else 2 * (k + 1)

/-- The next commit that has not happened: at the present GT when that instant has not committed yet. -/
def State.nextCommit (s : State) : Nat :=
  if s.pan.anyCommit && s.gt ≤ s.pan.cinst then s.commitFrom (s.pan.cinst + 1) else s.commitFrom s.gt

/-- The commit after index `c`. -/
def State.commitAfter (s : State) (c : Nat) : Nat := s.commitFrom (s.instantOf c + 1)

/-- Number of Kettle engines, leg groups and channels by variant (R5). [log 10: DESIGN CHOICE] -/
def State.engines (s : State) : Nat := match s.variant with | .egx192 => 12 | .egx96 => 6 | .egx48 => 3
/-- [log 10: DESIGN CHOICE] -/
def State.groups (s : State) : Nat := match s.variant with | .egx192 => 32 | .egx96 => 16 | .egx48 => 8
/-- [log 10: DESIGN CHOICE] -/
def State.channels (s : State) : Nat := 6 * s.groups

/-- Descriptor `n` covers `slot`; the descriptors of absent engines do not exist (R37). -/
def State.descCovers (s : State) (n slot : Nat) : Bool :=
  s.fld (Reg.PAN_DESC_ATTR n) F.PAN_DESC_ATTR_VALID == 1 &&
    s.fld (Reg.PAN_DESC_RANGE n) F.PAN_DESC_RANGE_FIRST ≤ slot && slot ≤ s.fld (Reg.PAN_DESC_RANGE n) F.PAN_DESC_RANGE_LAST &&
    !(8 + s.engines ≤ n && n < 20)

/-- The descriptor that governs a slot: a spare one that refines it, else the fixed one (R25, R38). -/
def State.descOf (s : State) (slot : Nat) : Option Nat :=
  match (List.range 106).find? (fun i => s.descCovers (22 + i) slot) with
  | some i => some (22 + i)
  | none => (List.range 22).find? (fun n => s.descCovers n slot)

/-- The owner of a slot, 0 where no descriptor covers it (R25, R26). -/
def State.ownerOf (s : State) (slot : Nat) : Nat :=
  match s.descOf slot with
  | some n => s.fld (Reg.PAN_DESC_ATTR n) F.PAN_DESC_ATTR_OWNER
  | none => 0

/-- The slot is RAW32 (R27). -/
def State.slotRaw (s : State) (slot : Nat) : Bool :=
  match s.descOf slot with
  | some n => s.flag (Reg.PAN_DESC_ATTR n) F.PAN_DESC_ATTR_TYPE
  | none => false

/-- The latency window of a slot (R29). -/
def State.latwinOf (s : State) (slot : Nat) : Nat :=
  match s.descOf slot with
  | some n => s.fld (Reg.PAN_DESC_ATTR n) F.PAN_DESC_ATTR_LATWIN
  | none => 0

/-- The sticky bit of a breach cause: bit `c` of PAN_STK (R36). -/
def breachStk (c : Nat) : Stk := ⟨Reg.PAN_STK, c, c, 0xFF⟩

/-- A breach of cause `c` (R43): capture of the first one, the sticky bit, and the opening record when no interval of the cause is open. [log 17, 18: DESIGN CHOICE] -/
def State.breachOf (s : State) (c slot cidx : Nat) : State :=
  let s1 :=
    if s.detOk then
      ((s.setRegN Reg.PAN_FIRST_SLOT (slot % 65536 + 65536 * c + 2 ^ 31)).setRegN Reg.PAN_FIRST_CIDX_LO cidx).setRegN
        Reg.PAN_FIRST_CIDX_HI (cidx / 2 ^ 32)
    else s
  let s2 := s1.stick (breachStk c)
  let b := s2.pan.breach.at c
  if b.isOpen then
    { s2 with pan := { s2.pan with breach := s2.pan.breach.mod c (fun x => { x with last := cidx, lastGt := s.gt }) } }
  else
    let s3 := { s2 with pan := { s2.pan with breach := s2.pan.breach.mod c (fun _ =>
                  { isOpen := true, slot := slot, first := cidx, last := cidx, lastGt := s.gt }) } }
    s3.logRec 0x01 (evCode c 1) ([w32 c, w32 slot] ++ cidxWords cidx)

/-- The value of the committed bank and the FRESH bit of a slot; an uncovered slot reads 0 (R25, R31). -/
def State.slot (s : State) (n : Nat) : Word := if s.ownerOf n = 0 then 0#32 else s.pan.committed.get zeroes n
def State.fresh (s : State) (n : Nat) : Bool := s.pan.fresh.get zeroes n == 1#1

/-- Powered for RUN or STANDBY (R46); not in ROM service mode and not held in reset (R456, R515). -/
def State.powered (s : State) : Bool := (s.dev == .run || s.dev == .standby) && !s.fw.service && !s.pin.testEn

/-- Commits happen: RUN or STANDBY with GT not in HOLD_KEEP (R46, R64). -/
def State.commitsOn (s : State) : Bool := s.powered && s.qual != 5

/-- A write enters the pending bank of its destination; a write of an earlier place in the owner's order does not replace a later one (R30, R32). -/
def State.pendPut (s : State) (dest slot ord : Nat) (v : Word) : State :=
  let bank := (s.pan.pend.find dest).getD []
  match bank.find slot with
  | some old =>
    if ord < old.ord then s
    else { s with pan := { s.pan with pend := s.pan.pend.put dest (bank.put slot { val := v, ord := ord }) } }
  | none => { s with pan := { s.pan with pend := s.pan.pend.put dest (bank.put slot { val := v, ord := ord }) } }

/-- The next commit as a write that completes at `t` meets it. -/
def State.commitAt (s : State) (t : Nat) : Nat := if t ≤ s.gt then s.nextCommit else max s.nextCommit (s.commitFrom t)

/-- A producer's write that completes at `t` for destination `dest` (R25, R30): foreign and uncovered writes are dropped and counted, late ones
discarded and counted, too early ones discarded. [log 16: DEDUCED; 17: DESIGN CHOICE] -/
def State.panWriteAt (s : State) (t owner slot ord dest : Nat) (v : Word) : State :=
  if owner = 0 || s.ownerOf slot ≠ owner then
    (s.bump Reg.PAN_OWNCNT).breachOf 1 slot s.nextCommit
  else if s.instantOf dest ≤ t || dest < s.nextCommit then
    (s.bump Reg.PAN_LATECNT).breachOf 0 slot dest
  else if s.commitAfter (s.commitAt t) < dest then s.breachOf 0 slot dest
  else s.pendPut dest slot ord v

/-- A producer's write completes now. -/
def State.panWrite (s : State) (owner slot ord dest : Nat) (v : Word) : State := s.panWriteAt s.gt owner slot ord dest v

/-- The destination of a sampled write (R29). -/
def State.destOf (s : State) (slot sampleGt : Nat) : Nat := s.commitFrom (sampleGt + s.latwinOf slot)

/-- A sampled producer's write that completes at `t`; its place in the owner's order is its sample GT (R32). -/
def State.panSampleAt (s : State) (t owner slot sampleGt : Nat) (v : Word) : State :=
  s.panWriteAt t owner slot sampleGt (s.destOf slot sampleGt) v

/-- A sampled producer's write completes now. -/
def State.panSample (s : State) (owner slot ord sampleGt : Nat) (v : Word) : State :=
  s.panWrite owner slot ord (s.destOf slot sampleGt) v

/-- A read under working index `cidx`: a later commit that has happened makes it stale (R33). -/
def State.staleCheck (s : State) (slot cidx : Nat) : State :=
  if s.pan.anyCommit && cidx < s.pan.cidx then s.breachOf 2 slot cidx else s

/-- Write words to consecutive slots as a sampled producer. -/
def State.panSamples (s : State) (owner slot sampleGt : Nat) (vs : List Word) : State :=
  (vs.zipIdx).foldl (fun t e => t.panSample owner (slot + e.2) 0 sampleGt e.1) s

/-- Write words to consecutive slots for a destination commit. -/
def State.panWrites (s : State) (owner slot dest : Nat) (vs : List Word) : State :=
  (vs.zipIdx).foldl (fun t e => t.panWrite owner (slot + e.2) 0 dest e.1) s

/-- The output port takes a value that the block gives to its reader. [log 7: DESIGN CHOICE] -/
def State.give (s : State) (v : Word) : State := { s with out := { s.out with value := v } }

end Sys2Proof.Machine
end

