-- ==== Sys2Proof/Machine/Flags.lean ====
section
/-!
DEFINITION. The number formats and the saturation flags: BF24 (R18, R19, R180), stage elements and accumulators (R139 to R145). Exact
values are dyadic: an integer times a power of two, so nothing is rounded before the point of narrowing (R140).
-/
namespace Sys2Proof.Machine

/-- An exact dyadic value `m * 2^e`. -/
structure Dy where
  m : Int
  e : Int
  deriving DecidableEq, Repr, Inhabited

/-- The number of bits of a magnitude. -/
def bitLen (n : Nat) : Nat := if n = 0 then 0 else Nat.log2 n + 1

/-- `m * 2^k` rounded to an integer, to nearest, ties to even (R140). -/
def shiftRound (m k : Int) : Int :=
  if 0 ≤ k then m * 2 ^ k.toNat else roundDiv m (2 ^ (-k).toNat)

/-- Saturation to a signed `w`-bit range (R140). -/
def satTo (w : Nat) (x : Int) : Int := clampInt (-(2 ^ (w - 1))) (2 ^ (w - 1) - 1) x

/-- A mantissa and whether narrowing saturated. -/
structure Narrow where
  m : Int
  sat : Bool
  deriving DecidableEq, Repr, Inhabited

/-- Narrow an exact value to a 24-bit mantissa at exponent `e`: the element `m` has value `m * 2^(e-23)` (R140, R143). -/
def narrowTo (e : Int) (x : Dy) : Narrow :=
  let r := shiftRound x.m (x.e - e + 23)
  let c := satTo 24 r
  ⟨c, r != c⟩

/-- The BF24 word of mantissa `m` and exponent `e` (R18). -/
def packBF (m e : Int) : Word := BitVec.ofNat 32 (lowBits 24 m * 256 + lowBits 8 e)

/-- The mantissa and the exponent of a BF24 word (R18). -/
def bfMant (w : Word) : Int := sgn 24 (w.toNat / 256)
def bfExp (w : Word) : Int := sgn 8 w.toNat

/-- The exact value of a BF24 word (R18). -/
def bfVal (w : Word) : Dy := ⟨bfMant w, bfExp w - 23⟩

/-- The exponent that brings a non-zero mantissa of any size into the normalised range of R19: positive ones into [2^22, 2^23), negative
ones into [-2^23, -2^22). -/
def normShift (m : Int) : Int :=
  if 0 ≤ m then 23 - (bitLen m.natAbs : Int) else 23 - (bitLen (m.natAbs - 1) : Int)

/-- A BF24 word in normalised form and whether it saturated (R19, R84, R180): rounded once to 24 bits, saturated to the largest
magnitude above the exponent range, zero below it. -/
structure BFOut where
  w : Word
  sat : Bool
  deriving DecidableEq, Repr, Inhabited

/-- The normalised BF24 word of an exact value (R19, R180). -/
def toBF (x : Dy) : BFOut :=
  if x.m = 0 then ⟨0#32, false⟩
  else
    let k := normShift x.m
    let r := shiftRound x.m k
    -- rounding can carry into one more bit: the result is normalised once more, exactly
    let k2 := normShift r
    let m := shiftRound r k2
    let e := x.e - k - k2 + 23
    if 127 < e then ⟨packBF (if 0 < x.m then 2 ^ 23 - 1 else -(2 ^ 23)) 127, true⟩
    else if e < -128 then ⟨0#32, false⟩
    else ⟨packBF m e, false⟩

/-- The product of two exact values. -/
def Dy.mul (x y : Dy) : Dy := ⟨x.m * y.m, x.e + y.e⟩

/-- The sum of two exact values. -/
def Dy.add (x y : Dy) : Dy :=
  if x.e ≤ y.e then ⟨x.m + y.m * 2 ^ (y.e - x.e).toNat, x.e⟩ else ⟨x.m * 2 ^ (x.e - y.e).toNat + y.m, y.e⟩

def Dy.neg (x : Dy) : Dy := ⟨-x.m, x.e⟩

/-- `x < y` on exact values. -/
def Dy.lt (x y : Dy) : Bool := (x.add y.neg).m < 0

/-- `x ≤ y` on exact values. -/
def Dy.le (x y : Dy) : Bool := (x.add y.neg).m ≤ 0

def Dy.abs (x : Dy) : Dy := ⟨x.m.natAbs, x.e⟩

/-- A whole number as an exact value. -/
def Dy.ofInt (n : Int) : Dy := ⟨n, 0⟩

/-- The exact value as a rational number. -/
def Dy.toRat (x : Dy) : Rat := if 0 ≤ x.e then (x.m * 2 ^ x.e.toNat : Int) else (x.m : Rat) / ((2 ^ (-x.e).toNat : Nat) : Rat)

/-- The exact value rounded to an integer (R140). -/
def Dy.round (x : Dy) : Int := shiftRound x.m x.e

/-- A rational rounded to nearest, ties to even. -/
def ratRound (q : Rat) : Int := roundDiv q.num q.den

/-- The power of two by which a rational of magnitude `n / d` is scaled to lie in [2^23, 2^25): enough bits to round once to 24. -/
def ratScale (n d : Nat) : Int := 24 - ((bitLen n : Int) - (bitLen d : Int))

/-- A rational as a normalised BF24 word (R19): the mantissa is the quotient rounded once, ties to even. -/
def ratBF (q : Rat) : BFOut :=
  if q.num = 0 then ⟨0#32, false⟩
  else
    -- guard bits and a sticky bit keep the single rounding of the following conversion exact
    let k := ratScale q.num.natAbs q.den + 8
    let n := if 0 ≤ k then q.num.natAbs * 2 ^ k.toNat else q.num.natAbs
    let d := if 0 ≤ k then q.den else q.den * 2 ^ (-k).toNat
    let t := 2 * (n / d) + (if n % d = 0 then 0 else 1)
    toBF ⟨if q.num < 0 then -(t : Int) else t, -k - 1⟩

end Sys2Proof.Machine
end

