-- ==== Sys2Proof/Machine/PwmOps.lean ====
section
/-!
DEFINITION. The PWM fabric's and the gate link's shared operations (R243 to R263, R273 to R293): carriers, ideal waveforms, reloads, edges as
driven, response windows, and the blanking windows that driven edges open (R119, R120, R123). Positions are GT in 1/32 tick.
-/
namespace Sys2Proof.Machine

/-- The leg group, the pair and the partner of channel `n` (R243). -/
def lgOf (n : Nat) : Nat := n / 6
def pairOf (n : Nat) : Nat := n % 6 / 2
def partnerOf (n : Nat) : Nat := if n % 2 = 0 then n + 1 else n - 1

/-- PER and PH as they act (R245). -/
def State.perOf (s : State) (g : Nat) : Nat := max 500 (s.fld (Reg.PWM_PER g) F.PWM_PER_PER)
def State.phOf (s : State) (g : Nat) : Nat := min (s.fld (Reg.PWM_PH g) F.PWM_PH_PH) (s.perOf g - 1)

/-- The first period boundary of group `g` at or after tick `t` (R245). [log 110: DEDUCED] -/
def State.boundaryFrom (s : State) (g t : Nat) : Nat :=
  let p := s.perOf g
  let ph := s.phOf g
  if t ≤ ph then ph else ph + (t - ph + p - 1) / p * p

/-- The next boundary of group `g` that has not happened. [log 110: DEDUCED] -/
def State.nextBoundary (s : State) (g : Nat) : Nat :=
  let l := s.pwm.lgs.at g
  if l.anyBnd && s.gt ≤ l.bnd then s.boundaryFrom g (l.bnd + 1) else s.boundaryFrom g s.gt

/-- The index of the boundary at tick `b` (R245). -/
def State.boundaryIndex (s : State) (g b : Nat) : Nat := (b - s.phOf g) / s.perOf g

/-- A pair's dead time and minimum pulse, in 1/32 tick (R257, R258). -/
def State.dtOf (s : State) (n : Nat) : Nat := 32 * s.fld (Reg.PWM_DT (lgOf n) (pairOf n)) F.PWM_DT_DT
def State.minpOf (s : State) (n : Nat) : Nat := 32 * s.fld (Reg.PWM_DT (lgOf n) (pairOf n)) F.PWM_DT_MINP

/-- The mode of pair `q` of group `g`: 0 COMP, 1 INDEP, 2 and 3 UNUSED (R244). -/
def State.pairMode (s : State) (g q : Nat) : Nat := s.regN (Reg.PWM_LGCFG g) / 2 ^ (2 * q + 8) % 4

/-- An ideal waveform over one period: on, off, or on from `a` to `b`, positions counted on through the next period (R247). -/
inductive Ideal where
  | on
  | off
  | span (a b : Nat)
  deriving DecidableEq, Repr, Inhabited

/-- A span that is empty is off, one of a whole period is on. -/
def Ideal.mk (p a b : Nat) : Ideal := if b ≤ a then .off else if p ≤ b - a then .on else .span a b

/-- The level at position `x` of a period of length `p`. -/
def Ideal.level (p : Nat) (i : Ideal) (x : Nat) : Bool :=
  match i with
  | .on => true
  | .off => false
  | .span a b => (a ≤ x % p && x % p < b) || (a ≤ x % p + p && x % p + p < b)

/-- The complement of a waveform. -/
def Ideal.compl (p : Nat) : Ideal → Ideal
  | .on => .off
  | .off => .on
  | .span a b => .span b (a + p)

/-- The first position at or after `x` at which the level is 1. -/
def Ideal.nextOn (p : Nat) (i : Ideal) (x : Nat) : Option Nat :=
  match i with
  | .on => some x
  | .off => none
  | .span a _ => if i.level p x then some x else some (x + (a + p - x % p) % p)

/-- The first position after `x` at which the level is 0, where the level is 1 at `x`. -/
def Ideal.nextOff (p : Nat) (i : Ideal) (x : Nat) : Option Nat :=
  match i with
  | .on => none
  | .off => some x
  | .span _ b => some (x + (b % p + p - x % p) % p)

/-- The waveform of a compare word (R246 to R248): `tri` is the carrier, `pol` the polarity, `p` the period, all in 1/32 tick. [log 111: DEDUCED] -/
def idealWord (tri gx64 pol : Bool) (p w : Nat) : Ideal :=
  if w = 0x1FFFFFFF then .on
  else if w = 0x1FFFFFFE then .off
  else if gx64 && p ≤ w then .on
  else if tri then
    let r := (roundDiv w 2).toNat
    if pol then Ideal.mk p r (p - r) else Ideal.mk p (p - r) (p + r)
  else if pol then Ideal.mk p w p else Ideal.mk p 0 w

/-- The waveform of channel `n` under its own word of the set in force. -/
def State.ownIdeal (s : State) (n : Nat) : Ideal :=
  let g := lgOf n
  let c := s.regN (Reg.PWM_LGCFG g)
  idealWord (c.testBit 3) (c.testBit 4) (c.testBit (16 + n % 6)) (32 * s.perOf g) (s.regN (Reg.PWM_ACT g (n % 6)))

/-- The group drives nothing: disabled, LGCMD.OFF, a latched trip until the boundary after its clear, or the device is not in RUN; on leaving
RUN it goes on to its next boundary (R47, R250, R255, R262, R263, R271). [log 115: DEDUCED] -/
def State.lgOffNow (s : State) (g : Nat) : Bool :=
  let l := s.pwm.lgs.at g
  !s.flag (Reg.PWM_LGCFG g) F.PWM_LGCFG_EN || (s.reg (Reg.PWM_ACT g 7)).getLsbD 0 || l.latched || l.resume ||
    (s.dev != .run && !l.offPend) || s.tim.pwmHalted || s.groups ≤ g

/-- Pair `q` of group `g` is held low after a shoot-through request (R285). -/
def State.shootHeld (s : State) (g q : Nat) : Bool := (s.gl.shoot.at g).testBit q

/-- The ideal waveform of channel `n` (R244, R250, R262): the follower of a COMP pair carries the complement of its leader, a
cycle-by-cycle trip holds channels off. -/
def State.ideal (s : State) (n : Nat) : Ideal :=
  let g := lgOf n
  let q := pairOf n
  let p := 32 * s.perOf g
  let lead := 6 * g + 2 * q
  let cbc := (s.pwm.lgs.at g).cbc
  let both := s.regN (Reg.PWM_TRIPCTL g) % 8 / 2 ^ q % 2 = 1
  if s.lgOffNow g || s.shootHeld g q || 2 ≤ s.pairMode g q || (cbc && both) then .off
  else if n % 2 = 0 then (if cbc then .off else s.ownIdeal n)
  else if s.pairMode g q = 0 then
    if s.regN (Reg.PWM_ACT g (n % 6)) = 0x1FFFFFFE then .off
    else (if cbc then Ideal.off else s.ownIdeal lead).compl p
  else s.ownIdeal n

/-- Position of a GT instant in the period of its group. -/
def State.posOf (s : State) (g t : Nat) : Nat :=
  let p := 32 * s.perOf g
  (t + p - 32 * s.phOf g % p) % p

/-- The first instant at or after `t` at which channel `n` is ideally on, and the first one after `t` at which it is off. -/
def State.nextOnAt (s : State) (n t : Nat) : Option Nat :=
  let x := s.posOf (lgOf n) t
  ((s.ideal n).nextOn (32 * s.perOf (lgOf n)) x).map (fun u => t + (u - x))
def State.nextOffAt (s : State) (n t : Nat) : Option Nat :=
  let x := s.posOf (lgOf n) t
  ((s.ideal n).nextOff (32 * s.perOf (lgOf n)) x).map (fun u => t + (u - x))
def State.idealNow (s : State) (n t : Nat) : Bool := (s.ideal n).level (32 * s.perOf (lgOf n)) (s.posOf (lgOf n) t)

/-- Change one channel of the fabric, of the gate links, or one leg group. -/
def State.chMod (s : State) (n : Nat) (f : PwmCh → PwmCh) : State := { s with pwm := { s.pwm with chs := s.pwm.chs.mod n f } }
def State.glMod (s : State) (n : Nat) (f : GlCh → GlCh) : State := { s with gl := { s.gl with chs := s.gl.chs.mod n f } }
def State.lgMod (s : State) (g : Nat) (f : LegGroup → LegGroup) : State := { s with pwm := { s.pwm with lgs := s.pwm.lgs.mod g f } }

/-- The carry of a channel is discarded (R260). [log 113: DEDUCED] -/
def State.dropCarry (s : State) (n : Nat) : State :=
  if (s.pwm.chs.at n).carry = 0 then s
  else (s.chMod n (fun c => { c with carry := 0 })).stick (Stk.PWM_CARRY_LOST (lgOf n))

/-- The carries of a leg group are discarded. -/
def State.dropCarries (s : State) (g : Nat) : State := (List.range 6).foldl (fun t c => t.dropCarry (6 * g + c)) s

/-! ## Blanking windows -/

/-- A driven edge of group `g` in tick `e` opens or restarts the blanking windows of the comparators tied to it (R119, R120, R123). -/
def State.blankEdge (s : State) (g e : Nat) (rising : Bool) : State :=
  { s with cmp := { s.cmp with cmps := s.cmp.cmps.zipIdx.map (fun (c, n) =>
      let len := s.fld (Reg.CMP_BLK n) F.CMP_BLK_LEN
      let ev := s.fld (Reg.CMP_BLK n) F.CMP_BLK_EV
      if s.fld (Reg.CMP_BLK n) F.CMP_BLK_LG = g && len ≠ 0 && (ev = 1 || (ev = 2 && rising) || (ev = 3 && !rising)) && c.cutUntil ≤ e
      then (if c.blank then { c with blankEnd := e + len }
            else { c with blank := true, blankSince := e, blankEnd := e + len, blankHit := false })
      else c) } }

/-! ## Edges as driven -/

/-- The response window of a driven edge (R276): a falling edge with GFB low confirms at once. [log 119: DEDUCED] -/
def State.openWindow (s : State) (n t : Nat) (rising : Bool) : State :=
  let tmo := 32 * max 50 (s.fld (Reg.GL_TMO (lgOf n)) F.GL_TMO_CONF_TO)
  s.glMod n (fun c =>
    if rising then { c with win := some { rising := true, start := t, stop := t + tmo }, confOff := false }
    else if c.gfb then { c with win := some { rising := false, start := t, stop := t + tmo }, confOff := false }
    else { c with win := none, confOff := true, confAt := t })

/-- The chain trim group `g` applies: CHAIN is 1 in it and in every group before it (R267). -/
def State.trimOf (s : State) (g : Nat) : Int :=
  if (List.range (g + 1)).all (fun i => s.flag (Reg.PWM_LGCFG i) F.PWM_LGCFG_CHAIN) then sgn 32 (s.regN (Reg.PWM_TRIM g)) else 0

/-- The position at which an edge of group `g` that is nominally at `t` is driven (R249, R267), and back. -/
def State.driven (s : State) (g t : Nat) : Nat := ((t : Int) + s.trimOf g).toNat
def State.nominal (s : State) (g t : Nat) : Nat := ((t : Int) - s.trimOf g).toNat

/-- Channel `n` turns off at nominal position `t` (R257). -/
def State.driveOff (s : State) (n t : Nat) : State :=
  let s1 := s.chMod n (fun c => { c with lvl := false, off := none, lastOff := t, skip := max c.skip t })
  let d := s.driven (lgOf n) t
  (s1.openWindow n d false).blankEdge (lgOf n) (d / 32) false

/-- Channel `n` turns on at nominal position `t`, to turn off at `off`; an added carry is consumed (R257, R260). -/
def State.driveOn (s : State) (n t : Nat) (off : Option Nat) : State :=
  let s1 := s.chMod n (fun c => { c with lvl := true, onAt := t, off := off, carry := 0 })
  let d := s.driven (lgOf n) t
  (s1.openWindow n d true).blankEdge (lgOf n) (d / 32) true

/-- A channel that is on is driven low now: a fault, a trip, a halt. -/
def State.forceOff (s : State) (n : Nat) : State :=
  if (s.pwm.chs.at n).lvl then s.driveOff n (s.nominal (lgOf n) (32 * s.gt)) else s

/-- Every channel that its ideal waveform no longer holds on goes off now (trips, LGCMD.OFF, leaving RUN). -/
def State.forceIdeal (s : State) (g : Nat) : State :=
  (List.range 6).foldl (fun t c => if t.idealNow (6 * g + c) (32 * t.gt) then t else t.forceOff (6 * g + c)) s

/-- Every GCMD goes low at once (R78, R470): carries and the chain trim are cleared. -/
def State.allGcmdLow (s : State) : State :=
  let t := (List.range 192).foldl (fun u n => (u.forceOff n).dropCarry n) s
  { t with pwm := { t.pwm with chain := { t.pwm.chain with trim := 0 } } }

/-- A short pulse was handled (R258). -/
def State.shortPulse (s : State) (n : Nat) : State :=
  ((s.bump (Reg.PWM_SPCNT (lgOf n))).stick (Stk.PWM_SHORT (lgOf n))).chMod n (fun c => { c with spact := true })

/-! ## Reloads -/

/-- A word of a set loads: a compare word within range (R248, R250). -/
def State.cmpOk (s : State) (g w : Nat) : Bool :=
  w < 2 ^ 29 && (w = 0x1FFFFFFF || w = 0x1FFFFFFE || (s.regN (Reg.PWM_LGCFG g)).testBit 4 || w ≤ 32 * s.perOf g)

/-- A word out of range is not loaded and is counted (R250). -/
def State.rangeHit (s : State) (g : Nat) : State :=
  ((s.bump (Reg.PWM_RNGCNT g)).stick (Stk.PWM_CMP_RANGE g)).lgMod g (fun l => { l with rngSnap := true })

/-- The words of a set go into force (R250). -/
def State.loadWords (s : State) (g : Nat) (ws : List Word) : State :=
  let s1 := (List.range 6).foldl (fun t c =>
    let w := (ws.getD c 0#32).toNat
    if t.cmpOk g w then t.setRegN (Reg.PWM_ACT g c) w else t.rangeHit g) s
  let w6 := (ws.getD 6 0#32).toNat
  let s2 := if w6 = 0x1FFFFFFF then s1.setRegN (Reg.PWM_ACT g 6) (s1.regN (Reg.PWM_TRGA g) % 2 ^ 29)
    else if w6 < 2 ^ 29 then s1.setRegN (Reg.PWM_ACT g 6) w6 else s1.rangeHit g
  let w7 := (ws.getD 7 0#32).toNat
  if 2 ≤ w7 then (s2.setRegN (Reg.PWM_ACT g 7) 1).rangeHit g else s2.setRegN (Reg.PWM_ACT g 7) w7

/-- The all-off set (R255). -/
def offSet : List Word := List.replicate 7 0x1FFFFFFE#32 ++ [0#32]

/-- Channel `n` at a reload point `r` (1/32 tick): its level follows the new set, a pulse already on is held for MINP (R254, R259). -/
def State.reloadCh (s : State) (n r : Nat) : State :=
  let c := s.pwm.chs.at n
  if c.lvl then
    let stop := if s.idealNow n r then s.nextOffAt n r else some r
    let hold := c.onAt + s.minpOf n
    match stop with
    | some t => if t < hold then (s.shortPulse n).chMod n (fun x => { x with off := some hold }) else s.chMod n (fun x => { x with off := some t })
    | none => s.chMod n (fun x => { x with off := none })
  else s.chMod n (fun x => { x with skip := r })

/-- A set is loaded at reload point `r` (ticks) with its commit index or 0xFFFF_FFFF (R250, R254). Reserved codes and LGCMD.OFF discard carries (R260). -/
def State.loadSet (s : State) (g r : Nat) (ws : List Word) (cidx : Nat) : State :=
  let old := (List.range 8).map (fun w => s.reg (Reg.PWM_ACT g w))
  let s1 := (s.loadWords g ws).setRegN (Reg.PWM_SETCIDX g) cidx
  let new := (List.range 8).map (fun w => s1.reg (Reg.PWM_ACT g w))
  let s2 := (List.range 6).foldl (fun t c =>
    if 0x1FFFFFFE ≤ (new.getD c 0#32).toNat || (new.getD 7 0#32).getLsbD 0 then t.dropCarry (6 * g + c) else t) s1
  if old = new then s2 else (List.range 6).foldl (fun t c => t.reloadCh (6 * g + c) (32 * r)) s2

/-- An engine-class group at reload point `r`: it loads the copy of the latest commit strictly before `r` (R251, R252, R255). [log 117: DEDUCED] -/
def State.engineReload (s : State) (g r : Nat) : State :=
  let l := s.pwm.lgs.at g
  if l.staleOff then s.loadSet g r offSet 0xFFFFFFFF
  else
    let c := if l.copyNew.usable && l.copyNew.inst < r then some l.copyNew else if l.copyOld.usable && l.copyOld.inst < r then some l.copyOld else none
    match c with
    | some x => s.loadSet g r x.words x.cidx
    | none => s

/-- A host-class group at boundary `r`: an armed shadow set loads whole and ARM clears (R253). -/
def State.hostReload (s : State) (g r : Nat) : State :=
  if s.flag (Reg.PWM_HUPD g) F.PWM_HUPD_ARM && (s.pwm.lgs.at g).armGt < r then
    let ws := [s.reg (Reg.PWM_CMPA g), s.reg (Reg.PWM_CMPB g), s.reg (Reg.PWM_CMPC g), s.reg (Reg.PWM_CMPD g), s.reg (Reg.PWM_CMPE g),
               s.reg (Reg.PWM_CMPF g), s.reg (Reg.PWM_TRGA g), s.reg (Reg.PWM_LGCMD g)]
    (s.loadSet g r ws 0xFFFFFFFF).setFld (Reg.PWM_HUPD g) F.PWM_HUPD_ARM 0
  else s

/-! ## The short-pulse and interlock rules -/

/-- When the partner allows a turn-on: DT after its last turn-off and DT after its gate-off confirmation; none while it is on without an
end or unconfirmed (R257, R284). [log 112: DEDUCED] -/
def State.partnerFree (s : State) (n : Nat) : Option Nat :=
  let p := partnerOf n
  let c := s.pwm.chs.at p
  let x := s.gl.chs.at p
  if c.lvl || !x.confOff then none else some (max c.lastOff (s.nominal (lgOf n) x.confAt) + s.dtOf n)

/-- The plan of a channel's next turn-on: its due instant, when the fabric alone would have driven it, and its turn-off. -/
structure OnPlan where
  due : Nat
  fabric : Nat
  ideal : Nat
  off : Option Nat
  deriving DecidableEq, Repr

/-- The next pulse of a channel that is off, where its partner is confirmed off (R257, R260, R284). [log 112: DEDUCED] -/
def State.planOn (s : State) (n : Nat) : Option OnPlan :=
  let c := s.pwm.chs.at n
  match s.nextOnAt n (max c.skip (32 * (s.pwm.lgs.at (lgOf n)).bnd)), s.partnerFree n with
  | some u, some f =>
    let fab := max u ((s.pwm.chs.at (partnerOf n)).lastOff + s.dtOf n)
    some { due := max u f, fabric := fab, ideal := u, off := (s.nextOffAt n u).map (fun e => e + c.carry) }
  | _, _ => none

/-- A pulse that is not driven: the channel looks for its next one after this one's ideal end. -/
def State.skipPulse (s : State) (n : Nat) (p : OnPlan) : State :=
  s.chMod n (fun c => { c with skip := (p.off.map (fun e => e - c.carry)).getD p.ideal })

/-- A short pulse under the group's policy (R258, R260): `e` is its turn-off. [log 112, 113: DEDUCED] -/
def State.handleShort (s : State) (n : Nat) (p : OnPlan) (e : Nat) : State :=
  let s1 := s.shortPulse n
  let spp := s.fld (Reg.PWM_LGCFG (lgOf n)) F.PWM_LGCFG_SPP
  if spp = 1 && p.due < e then s1.driveOn n p.due (some (p.due + s.minpOf n))
  else
    let s2 := s1.skipPulse n p
    if spp = 2 && p.due < e then
      let room := s.minpOf n - 1
      let s3 := s2.chMod n (fun c => { c with carry := min (e - p.due) room })
      s3.stickIf (room < e - p.due) (Stk.PWM_CARRY_LOST (lgOf n))
    else s2

/-- Moving the turn-off by a carry leaves the partner's following pulse at least MINP long (R260). [log 113: DEDUCED] -/
def State.carryFits (s : State) (n : Nat) : Bool :=
  match s.planOn n with
  | some { off := some e, .. } =>
    let p := partnerOf n
    match s.nextOnAt p (e - (s.pwm.chs.at n).carry) with
    | some u => match s.nextOffAt p u with
      | some w => max u (e + s.dtOf n) + s.minpOf n ≤ w
      | none => true
    | none => true
  | _ => true

/-- A fault of the channel holds it off (R282, R283). -/
def State.glBlocked (s : State) (n : Nat) : Bool :=
  let c := s.gl.chs.at n
  c.active || c.latched || c.waiting

/-- The interlock delayed a turn-on by more than DT (R284). -/
def State.ilCount (s : State) (n : Nat) (p : OnPlan) : State :=
  if p.fabric + s.dtOf n < p.due then
    ((s.bump (Reg.GL_ILCNT (lgOf n))).stick (Stk.GL_IL_WAIT (lgOf n))).lgMod (lgOf n) (fun l => { l with ilWait := l.ilWait ||| 2 ^ pairOf n })
  else s

/-- The scheduled edge of channel `n` that falls due next, before the group's next boundary, is driven (R249, R257 to R260, R284). -/
def State.nextEdge (s0 : State) (n : Nat) : State :=
  let s := if (s0.pwm.chs.at n).lvl || (s0.pwm.chs.at n).carry = 0 || s0.carryFits n then s0 else s0.dropCarry n
  let g := lgOf n
  let c := s.pwm.chs.at n
  let limit := 32 * (if (s.pwm.lgs.at g).anyBnd then s.boundaryFrom g ((s.pwm.lgs.at g).bnd + 1) else s.boundaryFrom g s.gt)
  if c.lvl then
    match c.off with
    | some t => if t < limit then (s.gtTo (s.driven g t / 32)).driveOff n t else s
    | none => s
  else
    match s.planOn n with
    | none => s
    | some p =>
      if limit ≤ p.due then s
      else
        let s1 := s.gtTo (s.driven g p.due / 32)
        if s.glBlocked n then s1.skipPulse n p
        else
          let s2 := s1.ilCount n p
          match p.off with
          | some e => if e < p.due + s.minpOf n then s2.handleShort n p e else s2.driveOn n p.due (some e)
          | none => s2.driveOn n p.due none

end Sys2Proof.Machine
end

