-- ==== Sys2Proof/Machine/SafetyOps.lean ====
section
/-!
DEFINITION. The shared operations of the safety monitor (R301 to R319): permits, demands, the latched SPO of each converter, safety outputs,
and the frames the block sends out.
-/
namespace Sys2Proof.Machine

/-- The converter of leg group `g`: the lowest-numbered one whose mask holds it (R286). -/
def State.convOf (s : State) (g : Nat) : Option Nat :=
  (List.range 12).find? (fun v => (s.reg (Reg.GL_CONV v)).getLsbD g)

/-- SPO of converter `v` is latched (R305). -/
def State.spoLatched (s : State) (v : Nat) : Bool := (s.reg Reg.SAFE_SPOLAT).getLsbD v

/-- The permit of leg group `g`: open only inside a converter of the configuration in force whose SPO is not latched (R304, R306). [log 114: DEDUCED] -/
def State.permitOpen (s : State) (g : Nat) : Bool :=
  s.safe.inForce && !(s.pwm.lgs.at g).reopen &&
    (match s.convOf g with
     | some v => !s.spoLatched v
     | none => false)

/-- The level of pin GCMD[n]: command, converter permit and channel permit (R304, R6). -/
def State.gcmdPin (s : State) (n : Nat) : Bool :=
  (s.pwm.chs.at n).lvl && s.permitOpen (lgOf n) && !(s.gl.chs.at n).active && !(s.gl.chs.at n).latched && n < s.channels

/-- The converters with a demand that holds now (R305). [log 130: DEDUCED] -/
def State.demandMask (s : State) : Nat :=
  if s.safe.intFault || !s.safe.inForce then 0xFFF else s.safe.demands.foldl (fun m d => m ||| d.convs) 0

/-- SAFE_SPODEM follows the demands. -/
def State.demandView (s : State) : State := s.setRegN Reg.SAFE_SPODEM s.demandMask

/-- SPO of one converter latches on its first demand and records its cause (R305, R327). -/
def State.spoLatch (s : State) (v cause src : Nat) : State :=
  let s1 := s.setFld (Reg.SAFE_CAUSE v) F.SAFE_CAUSE_LAST cause
  if s1.spoLatched v then s1
  else
    let s2 := ((((s1.setBit Reg.SAFE_SPOLAT v true).setFld (Reg.SAFE_CAUSE v) F.SAFE_CAUSE_FIRST cause).setFld
      (Reg.SAFE_CAUSE v) F.SAFE_CAUSE_SRC src).bump Reg.SAFE_SPOCNT).stick Stk.SPO
    let s3 := { s2 with safe := { s2.safe with spoAt := s2.safe.spoAt.mod v (fun _ => s.gt), offDone := s2.safe.offDone.mod v (fun _ => false) } }
    (bitsOf 32 (s3.regN (Reg.GL_CONV v))).foldl (fun t g => t.dropCarries g) s3

/-- The pair's reading: its channels read permit (R315). -/
def SinChan.permits (c : SinChan) (wantClosed : Bool) : Bool :=
  c.known && !c.test && (if wantClosed then c.cls == .closed else c.cls == .openLoop)

/-- The pair is in permit: both channels read permit and no fault is latched (R315). -/
def State.pairPermit (s : State) (i : Nat) : Bool :=
  let p := s.safe.sin.at i
  let c := s.safe.cfg.pairs.getD i {}
  p.a.permits true && p.b.permits (!c.antiv) && !p.fault && !p.disc && !p.rev

/-- The outputs that the receive connections clear: those in the mask of a connection whose permit bit is 0 (R318, R321). -/
def State.rxClears (s : State) (j : Nat) : Bool :=
  (s.safe.cfg.rx.zipIdx).any (fun (c, r) => c.on && c.outs.testBit j && !((s.safe.rx.at r).st == 2 && (s.safe.rx.at r).permits.testBit (12 + j)))

/-- Output `j` may be energised (R318, R46, R473). -/
def State.outAllowed (s : State) (j : Nat) : Bool :=
  let o := s.safe.cfg.outs.getD j {}
  let pairsOk := (s.safe.cfg.pairs.zipIdx).all (fun (c, i) => !(c.func = 1 && c.outs.testBit j && !s.pairPermit i))
  let common := s.safe.inForce && s.safe.startTests && !s.safe.intFault && (s.safe.sout.at j).fault = 0 && pairsOk && j < s.safe.cfg.outs.length
  match s.dev with
  | .dormant => false
  | .watch => common && o.watchKeep
  | _ => common && !(s.safe.cfg.convs.zipIdx).any (fun (c, v) => c.outs.testBit j && s.spoLatched v && s.safe.offDone.at v) && !s.rxClears j

/-- Both switches of output `j` open together (R318). -/
def State.soutOff (s : State) (j : Nat) : State :=
  let t := { s with safe := { s.safe with sout := s.safe.sout.mod j (fun o => { o with cmd := false, hClosed := false, lClosed := false }) } }
  ((t.setFld (Reg.SAFE_SOUT j) F.SAFE_SOUT_CMD 0).setFld (Reg.SAFE_SOUT j) F.SAFE_SOUT_H_RB 0).setFld (Reg.SAFE_SOUT j) F.SAFE_SOUT_L_RB 0

/-- Every output that may no longer be energised switches off (R318). -/
def State.soutCheck (s : State) : State :=
  (List.range 4).foldl (fun t j => if (t.safe.sout.at j).cmd && !t.outAllowed j then t.soutOff j else t) s

/-- A demand begins: it is recorded and latches the SPO of its converters (R305). -/
def State.demandOn (s : State) (cause src convs : Nat) : State :=
  let ds := s.safe.demands.filter (fun d => !(d.cause = cause && d.src = src && d.convs = convs))
  let s1 : State := { s with safe := { s.safe with demands := ds ++ [{ cause := cause, src := src, convs := convs }] } }
  (((bitsOf 12 convs).foldl (fun t v => t.spoLatch v cause src) s1).demandView).soutCheck

/-- A demand ends; what it latched stays latched (R305). -/
def State.demandOff (s : State) (cause src convs : Nat) : State :=
  ({ s with safe := { s.safe with demands := s.safe.demands.filter (fun d => !(d.cause = cause && d.src = src && d.convs = convs)) } }).demandView

/-- Every demand of one cause and source ends. -/
def State.demandDrop (s : State) (cause src : Nat) : State :=
  ({ s with safe := { s.safe with demands := s.safe.demands.filter (fun d => !(d.cause = cause && d.src = src)) } }).demandView

/-- A demand holds or not. [log 130: DEDUCED] -/
def State.demandSet (s : State) (hold : Bool) (cause src convs : Nat) : State :=
  if hold && convs ≠ 0 then
    if s.safe.demands.any (fun d => d.cause = cause && d.src = src && d.convs = convs) then s else s.demandOn cause src convs
  else if s.safe.demands.any (fun d => d.cause = cause && d.src = src && d.convs = convs) then s.demandOff cause src convs else s

/-- A demand of an instant: it latches and holds no longer (the command of cause 12, a limit function, a failed output). [log 130: DEDUCED] -/
def State.demandPulse (s : State) (cause src convs : Nat) : State :=
  (((bitsOf 12 convs).foldl (fun t v => t.spoLatch v cause src) s).demandView).soutCheck

/-- The converters that hold a leg group of a mask. -/
def State.convsOfLgs (s : State) (mask : Nat) : Nat :=
  (bitsOf 32 mask).foldl (fun m g => match s.convOf g with | some v => m ||| 2 ^ v | none => m) 0

/-- SPO of converter `v` may clear: no demand for it, no internal fault, no pad mismatch of it (R306). [log 138: DEDUCED] -/
def State.spoClearable (s : State) (v : Nat) : Bool :=
  !s.demandMask.testBit v && !s.safe.intFault &&
    !s.safe.mismatch.any (fun n => match s.convOf (lgOf n) with | some w => w == v | none => true)

/-- The latched SPO of converter `v` clears; the permits of its enabled groups reopen at their next boundaries (R306). [log 123, 131: DEDUCED] -/
def State.spoClear (s : State) (v : Nat) : State :=
  if !s.spoLatched v then s
  else
    let s1 := ((s.setBit Reg.SAFE_SPOLAT v false).setFld (Reg.SAFE_CAUSE v) F.SAFE_CAUSE_FIRST 0).setFld (Reg.SAFE_CAUSE v) F.SAFE_CAUSE_SRC 0
    let s2 := { s1 with safe := { s1.safe with offDone := s1.safe.offDone.mod v (fun _ => false) },
                        gl := { s1.gl with escal := s1.gl.escal &&& (0xFFF - 2 ^ v) } }
    (bitsOf 32 (s2.regN (Reg.GL_CONV v))).foldl
      (fun t g => if t.flag (Reg.PWM_LGCFG g) F.PWM_LGCFG_EN then t.lgMod g (fun l => { l with reopen := true }) else t) s2

/-- The monitor's internal fault: the safe state (R309). -/
def State.safeState (s : State) : State :=
  let s1 := { s with safe := { s.safe with intFault := true } }
  let s2 := s1.setFld Reg.SAFE_STAT F.SAFE_STAT_INTFAULT 1
  let s3 := s2.demandPulse 14 0xFF 0xFFF
  let s4 := (List.range 4).foldl (fun t j => t.soutOff j) s3
  (s4.stick Stk.SAFE_INTFAULT).logRec 0x07 (evCode Stk.SAFE_INTFAULT.file 0) [] true

/-- A frame leaves a port of the block. -/
def State.send (s : State) (port : Nat) (bytes : List Byte) : State :=
  { s with out := { s.out with frames := s.out.frames ++ [(port, bytes)] } }

end Sys2Proof.Machine
end

