-- ==== Sys2Proof/Machine/FabricOps.lean ====
section
/-!
DEFINITION. Shared operations that join the blocks: converter triggers (R85, R90), trip buses (R130, R262), the routed output of a comparator
(R112, R129 to R131), and a gate fault's reaction and escalation (R282, R287).
-/
namespace Sys2Proof.Machine

/-! ## Converter triggers -/

def State.coreMod (s : State) (c : Nat) (f : AdcCore → AdcCore) : State := { s with ana := { s.ana with cores := s.ana.cores.mod c f } }
def State.sdfMod (s : State) (n : Nat) (f : SdfCh → SdfCh) : State := { s with ana := { s.ana with sdf := s.ana.sdf.mod n f } }

/-- The settings of entry `e` of core `c` as they stand now (R107). -/
def State.entryCfg (s : State) (c e : Nat) : EntryCfg :=
  { e := e, ch := s.fld (Reg.ADC_ENTRY c e) F.ADC_ENTRY_CH, smp := max 15 (s.fld (Reg.ADC_ENTRY c e) F.ADC_ENTRY_SMP),
    gain := s.reg (Reg.ADC_GAIN c e), ofs := sgn 17 (s.regN (Reg.ADC_OFS c e)) }

/-- The entries of the regular or injected sequence of core `c` (R89). -/
def State.seqPlan (s : State) (c : Nat) (inj : Bool) : List EntryCfg :=
  if inj then (List.range (s.fld (Reg.ADC_SEQCFG c) F.ADC_SEQCFG_INJ_LEN + 1)).map (fun i => s.entryCfg c (32 + i))
  else (List.range (s.fld (Reg.ADC_SEQCFG c) F.ADC_SEQCFG_REG_LEN + 1)).map (fun i => s.entryCfg c i)

/-- The analog island converts: powered, with its DLL clock (R46, R76). -/
def State.anaOn (s : State) : Bool := (s.dev == .run || s.dev == .standby) && s.flag Reg.CLK_STAT F.CLK_STAT_DLL_LOCK

/-- A trigger reaches a sequence of core `c` now: it is accepted, or ignored and counted while the sequence runs (R88, R90, R107). [log 45: DEDUCED] -/
def State.adcTrig (s : State) (c : Nat) (inj : Bool) : State :=
  if !s.anaOn || !s.flag (Reg.ADC_CTRL c) F.ADC_CTRL_EN then s
  else if inj then
    if (s.ana.cores.at c).inj.phase == .idle then
      (s.coreMod c (fun k => { k with inj := { phase := .waiting, due := s.gt + s.fld (Reg.ADC_TRIGDLY c) F.ADC_TRIGDLY_INJ_DLY, plan := s.seqPlan c true } })).setFld
        (Reg.ADC_STAT c) F.ADC_STAT_INJ_RUN 1
    else ((s.bump (Reg.ADC_INJMISS c)).stick (Stk.ADC_INJ_MISS c)).coreMod c (fun k => { k with miss := true })
  else if (s.ana.cores.at c).reg.phase == .idle then
    (s.coreMod c (fun k => { k with reg := { phase := .waiting, due := s.gt + s.fld (Reg.ADC_TRIGDLY c) F.ADC_TRIGDLY_REG_DLY, plan := s.seqPlan c false } })).setFld
      (Reg.ADC_STAT c) F.ADC_STAT_REG_RUN 1
  else ((s.bump (Reg.ADC_OVRCNT c)).stick (Stk.ADC_SEQ_OVR c)).coreMod c (fun k => { k with ovr := true })

/-- Trigger code `code` fires: every sequence set to it is triggered; codes above 0x7F act on injected sequences only (R85). -/
def State.adcFire (s : State) (code : Nat) : State :=
  (List.range 8).foldl (fun t c =>
    let t1 := if code < 0x80 && t.fld (Reg.ADC_SEQCFG c) F.ADC_SEQCFG_REG_TRIG = code then t.adcTrig c false else t
    if t1.fld (Reg.ADC_SEQCFG c) F.ADC_SEQCFG_INJ_TRIG = code then t1.adcTrig c true else t1) s

/-! ## Trip buses -/

/-- The comparators, and the sigma-delta channels, that are active now, as masks. -/
def State.outMask (s : State) : Nat := (s.cmp.cmps.zipIdx).foldl (fun m (c, n) => if c.out then m + 2 ^ n else m) 0
/-- [log 52: DEDUCED] -/
def State.ocMask (s : State) : Nat := (s.ana.sdf.zipIdx).foldl (fun m (c, n) => if c.oc then m + 2 ^ n else m) 0

/-- The levels of the trip buses (R130). -/
def State.busLevels (s : State) : Nat :=
  (List.range 16).foldl (fun m b =>
    let cs := s.regN (Reg.CMP_TB_CMP_LO b) + s.regN (Reg.CMP_TB_CMP_HI b) * 2 ^ 32
    let ds := s.regN (Reg.CMP_TB_SDD_LO b) + s.regN (Reg.CMP_TB_SDD_HI b) % 2 ^ 16 * 2 ^ 32
    if (cs &&& s.outMask) ≠ 0 || (ds &&& s.ocMask) ≠ 0 then m + 2 ^ b else m) 0

/-- A leg group meets the trip buses: cycle-by-cycle holding and the latched trip (R262). A pending turn-on is cancelled and carries are
discarded (R260). -/
def State.tripGroup (s : State) (g : Nat) : State :=
  let cbcM := s.fld (Reg.PWM_TRIP g) F.PWM_TRIP_CBCMASK
  let latM := s.fld (Reg.PWM_TRIP g) F.PWM_TRIP_LATMASK
  let l := s.pwm.lgs.at g
  let s1 :=
    if (cbcM &&& s.cmp.bus) ≠ 0 && !l.cbc then
      (((s.lgMod g (fun x => { x with cbc := true, cbcSnap := true })).stick (Stk.PWM_CBC g)).dropCarries g).forceIdeal g
    else s
  if (latM &&& s.cmp.bus) ≠ 0 && !l.latched then
    let b := ((bitsOf 16 (latM &&& s.cmp.bus)).head?).getD 0
    let s2 := (((s1.lgMod g (fun x => { x with latched := true })).stick (Stk.PWM_LATCH g)).dropCarries g).forceIdeal g
    s2.logRec 0x0D (evCode (Stk.PWM_LATCH g).file 0) [w32 g, w32 b]
  else s1

/-- The buses follow their sources and the leg groups that obey them react (R130, R262). -/
def State.tripEval (s : State) : State :=
  let b := s.busLevels
  if b = s.cmp.bus then s
  else
    let s1 := { s with cmp := { s.cmp with bus := b, busSeen := s.cmp.busSeen ||| b } }
    (List.range 32).foldl (fun t g => if g < t.groups then t.tripGroup g else t) (s1.setFld Reg.CMP_TBSTAT F.CMP_TBSTAT_LEVEL b)

/-! ## The routed output of a comparator -/

def State.cmpMod (s : State) (n : Nat) (f : CmpState → CmpState) : State := { s with cmp := { s.cmp with cmps := s.cmp.cmps.mod n f } }

/-- The comparator is safety-assigned (R114). -/
def State.cmpSafe (s : State) (n : Nat) : Bool :=
  if n < 32 then (s.reg Reg.CMP_SAFEASG_LO).getLsbD n else (s.reg Reg.CMP_SAFEASG_HI).getLsbD (n - 32)

/-- The converters in the mask of a safety-assigned comparator (R129, R305). -/
def State.cmpConvs (s : State) (n : Nat) : Nat := (s.safe.cfg.cmps.find n).getD 0

/-- The comparator's SAFE value while unresolved: 1 when safety-assigned (R124). -/
def State.cmpSafeVal (s : State) (n : Nat) : Bool := s.cmpSafe n || s.flag (Reg.CMP_CFG n) F.CMP_CFG_SAFE

/-- What OUT is, from RAW and the exceptions of R112. `now` is OUT as it stands, held by blanking and by the settling of a new threshold (R121, R133). [log 55: DEDUCED] -/
def State.cmpOutVal (s : State) (n : Nat) : Bool :=
  let c := s.cmp.cmps.at n
  if !s.flag (Reg.CMP_CFG n) F.CMP_CFG_EN then false
  else if c.held then true
  else if c.unres then s.cmpSafeVal n
  else if c.blank then c.out
  else if s.gt < c.settleUntil && c.out then true
  else c.raw

/-- Both comparators of window `w` are active (R117, R118): the bit and a record that names the window. -/
def State.windowCheck (s : State) (n : Nat) : State :=
  let w := n / 2
  let st := bit (s.cmp.cmps.at (2 * w)).out + 2 * bit (s.cmp.cmps.at (2 * w + 1)).out
  if !(s.reg Reg.CMP_WIN).getLsbD w then s
  else
    let s1 := s.setFld (Reg.CMP_WINSTAT (w / 16)) ⟨2 * (w % 16), 2⟩ st
    if st = 3 && s.fld (Reg.CMP_WINSTAT (w / 16)) ⟨2 * (w % 16), 2⟩ ≠ 3 then
      (s1.stick Stk.CMP_WINCFG).logRec 0x06 (evCode Stk.CMP_WINCFG.file 1) [w32 w]
    else s1

/-- A wake comparator's OUT has risen: a wake request in DORMANT, a record in WATCH (R116, R474). -/
def State.wakeCmp (s : State) (n : Nat) : State :=
  let c := s.cmp.cmps.at n
  if n < 56 || !(s.reg Reg.CMP_WAKE).getLsbD (n - 56) || !c.wakeArmed || c.unres then s
  else
    let s1 := s.cmpMod n (fun x => { x with wakeArmed := false })
    match s.dev with
    | .dormant => { s1 with pwr := { s1.pwr with wakes := if s1.pwr.wakes.contains 1 then s1.pwr.wakes else s1.pwr.wakes ++ [1] } }
    | .watch => s1.logRec 0x06 (evCode 0xFF 0) [w32 n]
    | _ => s1

/-- The status register of a comparator follows its state (R134). -/
def State.cmpView (s : State) (n : Nat) : State :=
  let c := s.cmp.cmps.at n
  s.setRegN (Reg.CMP_STAT n) (bit c.raw + 2 * bit c.out + 4 * bit c.unres + 8 * bit c.blank + 16 * bit c.seedSafe + 32 * bit (s.cmpSafe n) + 64 * bit c.held)

/-- OUT takes its value and drives its routes: trip buses, the injected trigger of a rising edge, the pulse-off path of a safety-assigned
comparator, the window and the wake (R112, R116 to R118, R129 to R131). -/
def State.cmpRoute (s : State) (n : Nat) : State :=
  let v := s.cmpOutVal n
  if v = (s.cmp.cmps.at n).out then s.cmpView n
  else
    let s1 := s.cmpMod n (fun c => { c with out := v, rise := c.rise || v, fall := c.fall || !v, rises := min 255 (c.rises + bit v),
                                            wakeArmed := c.wakeArmed || !v })
    let s2 := (s1.cmpView n).windowCheck n
    let s3 := if v then (s2.adcFire (0x80 + n)).wakeCmp n else s2
    let s4 := if s.cmpSafe n then s3.demandSet v 1 n (s.cmpConvs n) else s3
    s4.tripEval

/-! ## Gate faults -/

/-- The registers of a leg group's fault state follow its channels (R299). -/
def State.glView (s : State) (g : Nat) : State :=
  let m := fun (f : GlCh → Bool) => (List.range 6).foldl (fun a c => a + bit (f (s.gl.chs.at (6 * g + c))) * 2 ^ c) 0
  s.setRegN (Reg.GL_STAT g) (m (fun c => c.active) + 2 ^ 8 * m (fun c => c.latched) + 2 ^ 16 * m (fun c => c.waiting) + 2 ^ 24 * s.gl.shoot.at g)

/-- A fault latches (R283, R287). -/
def State.glLatch (s : State) (n : Nat) : State :=
  ((s.glMod n (fun c => { c with latched := true, waiting := false })).stick (Stk.GL_LATCH (lgOf n))).glView (lgOf n)

/-- The leg groups of converter `v` with a SIGNATURE declaration in the last 5,000 ticks (R287). [log 123: DEDUCED] -/
def State.coincLegs (s : State) (v : Nat) : List Nat :=
  (List.range 32).filter (fun g => s.convOf g == some v && s.gl.decls.any (fun d => d.lg = g && s.gt < d.at_ + 5000))

/-- GL_COINC.N as it acts (R287). -/
def State.coincN (s : State) : Nat := clampNat 1 8 (s.fld Reg.GL_COINC F.GL_COINC_N)

/-- The coincidence rule of converter `v` after a declaration (R287). -/
def State.escalate (s : State) (v : Nat) : State :=
  let legs := s.coincLegs v
  if legs.length < s.coincN then s
  else if s.gl.escal.testBit v then s.demandSet true 2 0 (2 ^ v)
  else
    let s1 := { s with gl := { s.gl with escal := s.gl.escal ||| 2 ^ v } }
    let s2 := s1.demandOn 2 0 (2 ^ v)
    let s3 := (List.range 192).foldl (fun t n => if (t.gl.chs.at n).active && t.convOf (lgOf n) == some v && !(t.gl.chs.at n).latched then t.glLatch n else t) s2
    (s3.stick Stk.GL_COINC).logRec 0x0E (evCode Stk.GL_COINC.file 2) [w32 v, w32 (legs.foldl (fun m g => m + 2 ^ g) 0)]

/-- A fault of channel `n` is declared (R282, R283): cause 1 SIGNATURE, 2 NO_ON, 3 NO_OFF. Nothing is declared while one is active. [log 122: DEDUCED] -/
def State.declareFault (s : State) (n cause : Nat) : State :=
  if s.glBlocked n then s
  else
    let g := lgOf n
    let tries := max 1 (s.fld (Reg.GL_RETRY g) F.GL_RETRY_TRIES)
    let wait := clampNat 1 10000 (s.fld (Reg.GL_RETRY g) F.GL_RETRY_WAIT_MS)
    let escal := match s.convOf g with | some v => s.gl.escal.testBit v && s.spoLatched v | none => false
    let latch := (s.gl.chs.at n).tries == tries || escal
    let s1 := s.glMod n (fun c => { c with cause := cause, active := true, lastFault := s.gt, faultSnap := min 255 (c.faultSnap + 1),
                                           waiting := !latch, waitEnd := s.gt + wait * tickMs, win := none, release := false })
    let s2 := (((s1.forceOff n).dropCarry n).stick (Stk.GL_FAULT g)).bump (Reg.GL_FLTCNT g)
    let s3 := s2.stickIf (cause ≠ 1) (Stk.GL_FB_TO g)
    let s4 := s3.logRec 0x0E (evCode (Stk.GL_FAULT g).file 0) ([w32 n, w32 cause] ++ gtWords s.gt)
    let s5 := if latch then s4.glLatch n else s4.glView g
    if cause = 1 then
      let s6 : State := { s5 with gl := { s5.gl with decls := s5.gl.decls.filter (fun d => s.gt < d.at_ + 5000) ++ [{ lg := g, at_ := s.gt }] } }
      match s6.convOf g with
      | some v => s6.escalate v
      | none => s6
    else s5

end Sys2Proof.Machine
end

