-- ==== Sys2Proof/Machine/MboxOps.lean ====
section
/-!
DEFINITION. The completion side of the mailbox (R425, R428, R430, R431, R446): outstanding tags, completion rings, and the end of a command.
-/
namespace Sys2Proof.Machine

/-- The base of a submission ring and of a completion ring (R425). -/
def sqBase (q : Nat) : Nat := 0x4000 + 0x1000 * q
def cqBase (q : Nat) : Nat := 0x8000 + 0x800 * q

/-- The supervisor pair is in FAILED (R340). [log 186: DEDUCED] -/
def State.supFailed (s : State) : Bool := s.fld Reg.SUP_STAT F.SUP_STAT_STATE == 4

/-- A tag is outstanding (R428). -/
def State.tagOut (s : State) (tag : Nat) : Bool :=
  if tag < 32 then (s.reg Reg.MBX_OUTST_LO).getLsbD tag else (s.reg Reg.MBX_OUTST_HI).getLsbD (tag - 32)

def State.setTagOut (s : State) (tag : Nat) (b : Bool) : State :=
  if tag < 32 then s.setBit Reg.MBX_OUTST_LO tag b else s.setBit Reg.MBX_OUTST_HI (tag - 32) b

/-- The eight words of a completion entry (R431). -/
def MComp.words (c : MComp) (phase : Bool) : List Word :=
  [w32 (c.tag % 256 + 256 * (c.q.val + 128 * bit c.dup) + 65536 * c.status + 2 ^ 24 * bit phase), w32 (c.sqidx % 65536), c.result, w32 c.dlen,
   w32 c.cidx, w32 (c.cidx / 2 ^ 32), c.v0, c.v1]

/-- The completion ring of queue `q` has no room (R425). [log 184: DEDUCED] -/
def State.cqFull (s : State) (q : Nat) : Bool :=
  (s.fld (Reg.MBX_CQTAIL q) F.MBX_CQTAIL_TAIL + 1) % 64 == s.fld (Reg.MBX_CQHEAD q) F.MBX_CQHEAD_HEAD

/-- The level of HIRQ_N (R431): low in QSPI mode while an enabled completion ring is not empty or an enabled event is pending. [log 184: DEDUCED] -/
def State.hirqLow (s : State) : Bool :=
  s.mbx.qspi && (s.dev == .run || s.dev == .standby) && !s.pin.testEn &&
    ((List.range 4).any (fun q => (s.reg Reg.MBX_IRQ).getLsbD q && s.fld (Reg.MBX_CQHEAD q) F.MBX_CQHEAD_HEAD != s.fld (Reg.MBX_CQTAIL q) F.MBX_CQTAIL_TAIL) ||
      (s.flag Reg.MBX_IRQ F.MBX_IRQ_EVEN && s.mbx.evPend))

/-- Write consecutive registers. -/
def State.setWords (s : State) (a : Nat) (ws : List Word) : State :=
  (ws.zipIdx).foldl (fun t e => t.setReg (a + 4 * e.2) e.1) s

/-- A completion enters its ring: the entry, the tail, the phase at a wrap, the interrupt, and its tag is free (R428, R431). [log 184: DEDUCED] -/
def State.cqWrite (s : State) (c : MComp) : State :=
  let t := s.fld (Reg.MBX_CQTAIL c.q) F.MBX_CQTAIL_TAIL
  let s1 := (s.setWords (cqBase c.q + 32 * t) (c.words (s.mbx.phases.at c.q))).setFld (Reg.MBX_CQTAIL c.q) F.MBX_CQTAIL_TAIL ((t + 1) % 64)
  let s2 := if t = 63 then { s1 with mbx := { s1.mbx with phases := s1.mbx.phases.mod c.q not } } else s1
  let s3 := if (s2.reg Reg.MBX_IRQ).getLsbD c.q && !s2.mbx.qspi then { s2 with out := { s2.out with msix := s2.out.msix ++ [c.q.val] } } else s2
  if c.dup then s3 else s3.setTagOut c.tag false

/-- The completions that wait for queue `q` enter its ring in order while it has room (R446). [log 184: DEDUCED] -/
def State.cqDrain (q : Nat) : Nat → State → State
  | 0, s => s
  | fuel + 1, s =>
    match s.mbx.wait.at q with
    | [] => s
    | c :: r =>
      if s.cqFull q then s
      else State.cqDrain q fuel (({ s with mbx := { s.mbx with wait := s.mbx.wait.mod q (fun _ => r) } }).cqWrite c)

/-- A completion is ready. -/
def State.postComp (s : State) (c : MComp) : State :=
  State.cqDrain c.q 64 { s with mbx := { s.mbx with wait := s.mbx.wait.mod c.q (fun l => l ++ [c]) } }

/-- After a mailbox reset the mailbox is ready when no command fetched before it remains (R446). [log 185: DEDUCED] -/
def State.mboxReady (s : State) : State :=
  if s.flag Reg.MBX_CTRL F.MBX_CTRL_MRESET && s.mbx.cmds.isEmpty && !s.fw.booting then
    (s.setFld Reg.MBX_CTRL F.MBX_CTRL_MRESET 0).setFld Reg.MBX_STAT F.MBX_STAT_READY 1
  else s

/-- The end of the command with a tag: its completion, or nothing where a mailbox reset dropped it; in FAILED nothing completes (R428, R446). -/
def State.finish (s : State) (tag status : Nat) (result : Word := 0#32) (dlen cidx : Nat := 0) (v0 v1 : Word := 0#32) : State :=
  if s.supFailed then s
  else
    match s.mbx.cmds.find tag with
    | none => s
    | some c =>
      let s1 := { s with mbx := { s.mbx with cmds := s.mbx.cmds.drop tag } }
      if c.dropped then s1.mboxReady
      else s1.postComp { tag := tag, q := c.q, status := status, sqidx := c.sqidx, result := result, dlen := dlen, cidx := cidx, v0 := v0, v1 := v1 }

/-- The end of a command where an event belongs to one. -/
def State.finishOpt (s : State) (tag : Option Nat) (status : Nat) (cidx : Nat := 0) : State :=
  match tag with
  | some t => s.finish t status (cidx := cidx)
  | none => s

/-- An expert session ends (R445) with the record's code: 2 closed, 3 expired. [log 189: DEDUCED] -/
def State.closeSession (s : State) (code : Nat) : State :=
  if s.flag Reg.MBX_EXPSESS F.MBX_EXPSESS_OPEN then
    let t := s.logRec 0x13 code [s.reg Reg.MBX_EXPSESS, s.mbx.sesId]
    ((({ t with mbx := { t.mbx with sesId := 0#32, sesEnd := 0 } }).setReg Reg.MBX_EXPSESS 0#32).setReg Reg.MBX_EXPLEFT 0#32).setFld
      Reg.MBX_STAT F.MBX_STAT_SESSION 0
  else s

/-- The status codes (R432). -/
def stOk : Nat := 0x00
def stBusy : Nat := 0x01
def stRange : Nat := 0x02
def stSafety : Nat := 0x03
def stAuth : Nat := 0x04
def stDeferred : Nat := 0x05
def stTimeout : Nat := 0x06

end Sys2Proof.Machine
end

