-- ==== Sys2Proof/Machine/RecOps.lean ====
section
/-!
DEFINITION. The Hopper recorder (R403 to R417): sources, records and blocks, arming, triggers and extents.
-/
namespace Sys2Proof.Machine

def State.bankMod (s : State) (b : Nat) (f : RecBank → RecBank) : State := { s with hop := { s.hop with banks := s.hop.banks.mod b f } }
def State.bank (s : State) (b : Nat) : RecBank := s.hop.banks.at b
def State.trackMod (s : State) (a : Nat) (f : RecTrack → RecTrack) : State := { s with hop := { s.hop with tracks := s.hop.tracks.mod a f } }

def State.recState (s : State) : Nat := s.fld Reg.REC_STAT F.REC_STAT_STATE
def State.setRec (s : State) (n : Nat) : State := s.setFld Reg.REC_STAT F.REC_STAT_STATE n

/-- The recorder has its clock: RUN or STANDBY, the DLL locked, the divider in use 5 (R403). -/
def State.recClocked (s : State) : Bool :=
  (s.dev == .run || s.dev == .standby) && s.flag Reg.CLK_STAT F.CLK_STAT_DLL_LOCK && s.fld Reg.CLK_PDIV_REC F.CLK_PDIV_REC_ACT == 5

/-- The recorder tick at or after `t` (R403). [log 174: DEDUCED] -/
def recTick (t : Nat) : Nat := (t + 4) / 5 * 5

/-- The kind of a group's source: 7 acts as 0 (R405, R419). [log 178: DEDUCED] -/
def State.recKind (s : State) (g : Nat) : Nat := s.fld (Reg.REC_GSRC g) F.REC_GSRC_KIND % 7
def State.recSel (s : State) (g : Nat) : Nat := s.fld (Reg.REC_GSRC g) F.REC_GSRC_SEL

/-- A word from a function of its bits. -/
def maskOf (f : Nat → Bool) : Word := BitVec.ofNat 32 ((List.range 32).foldl (fun a i => a + bit (f i) * 2 ^ i) 0)

/-- Track `b` of the safety groups (R405). -/
def State.recSafety (s : State) (sel b : Nat) : Bool :=
  let c := fun i => s.safe.cfg.pairs.getD i {}
  if sel = 0 then
    if b < 8 then (s.safe.sin.at b).a.permits true
    else if b < 16 then (s.safe.sin.at (b - 8)).b.permits (!(c (b - 8)).antiv)
    else if b < 20 then (s.safe.sout.at (b - 16)).hClosed
    else if b < 24 then (s.safe.sout.at (b - 20)).lClosed
    else false
  else
    if b < 12 then s.safe.inForce && b < s.safe.cfg.convs.length && !s.spoLatched b
    else if b < 16 then (s.safe.sout.at (b - 12)).cmd
    else if b < 28 then s.demandMask.testBit (b - 16)
    else false

/-- The 32-bit state of a digital group (R405). -/
def State.groupState (s : State) (g : Nat) : Word :=
  let sel := s.recSel g
  match s.recKind g with
  | 1 => maskOf (fun b => s.gcmdPin (32 * sel + b))
  | 2 => maskOf (fun b => (s.gl.chs.at (32 * sel + b)).raw)
  | 3 => maskOf (fun b => (s.cmp.cmps.at (32 * sel + b)).raw)
  | 4 => maskOf (fun b => s.recSafety sel b)
  | 5 => s.slot (s.fld (Reg.REC_GSRC g) F.REC_GSRC_SLOT)
  | 6 => maskOf (fun b => b < 16 && s.cmp.bus.testBit b)
  | _ => 0#32

/-- A track takes part: enabled, its entry in range (R419). -/
def State.trackOn (s : State) (a : Nat) : Bool := s.flag (Reg.REC_ASRC a) F.REC_ASRC_EN && s.fld (Reg.REC_ASRC a) F.REC_ASRC_ENTRY < 40

/-- A bank takes part: its group is on or a track of it is enabled. -/
def State.bankOn (s : State) (b : Nat) : Bool := s.recKind b != 0 || (List.range 4).any (fun j => s.trackOn (4 * b + j))

/-! ## Records (R408) -/

/-- [log 176: DEDUCED] -/
def digRecord (key : Bool) (ftrk fine delta : Nat) (v : Word) : DWord :=
  BitVec.ofNat 64 (2 ^ 62 + 2 ^ 61 * bit key + 2 ^ 56 * ftrk + 2 ^ 48 * fine + 2 ^ 32 * delta + v.toNat)
/-- [log 176: DEDUCED] -/
def anaRecord (x : RecAna) (delta : Nat) : DWord :=
  BitVec.ofNat 64 (2 ^ 63 + 2 ^ 61 * bit x.key + 2 ^ 54 * x.a + 2 ^ 32 * delta + x.val.toNat)
/-- [log 176: DEDUCED] -/
def headRecord (base : Nat) : DWord := BitVec.ofNat 64 (3 * 2 ^ 62 + base % 2 ^ 62)

/-- The registers of a bank's extent (R417, R419). -/
def State.bankView (s : State) (b : Nat) : State :=
  let x := s.bank b
  (s.setRegN (Reg.REC_GEXT0 b) (x.first + 65536 * x.last)).setFld (Reg.REC_GEXT1 b) F.REC_GEXT1_WORDS x.words

/-- The next word of the current block. -/
def State.bankPut (s : State) (b : Nat) (w : DWord) : State :=
  s.bankMod b (fun x => { x with mem := x.mem.put zeroes (256 * x.last + x.words) w, words := x.words + 1 })

/-- A record, which counts in REC_GRECCNT. -/
def State.recPut (s : State) (b : Nat) (w : DWord) : State := (s.bankPut b w).bump (Reg.REC_GRECCNT b)

/-- A span of GT in microseconds, to nearest. [log 178: DEDUCED] -/
def usOf (d : Nat) : Nat := (roundDiv (d : Int) tickUs).toNat

/-- PRE and POST as they act, in ticks (R414, R415, R419). [log 178: DEDUCED] -/
def State.recPre (s : State) : Nat := min 1000000 (s.fld Reg.REC_PRE F.REC_PRE_PRE) * tickUs
/-- [log 178: DEDUCED] -/
def State.recPost (s : State) : Nat := clampNat 1 16000000 (s.fld Reg.REC_POST F.REC_POST_POST) * tickUs

/-- Every bank has closed: DONE, with the cause of R415. -/
def State.recDone (s : State) : State :=
  if s.recState = 3 && (List.range 16).all (fun b => !(s.bank b).isOpen) then
    let one := (List.range 16).any (fun b => s.fld (Reg.REC_GEXT1 b) F.REC_GEXT1_CAUSE == 1)
    (s.setRec 4).setFld Reg.REC_STAT F.REC_STAT_CAUSE (if one then 1 else 2)
  else s

/-- A bank closes with a cause, having covered the ticks up to `t` (R415). -/
def State.bankClose (s : State) (b cause t : Nat) : State :=
  let s1 := (s.bankMod b (fun x => { x with isOpen := false, queue := [] })).setFld (Reg.REC_GEXT1 b) F.REC_GEXT1_CAUSE cause
  if s.recState = 3 then s1.setFld (Reg.REC_POSTACT b) F.REC_POSTACT_US (usOf (t - s.hop.trigAt)) else s1

/-- The position of a gate-feedback edge within tick `t` (R408): the lowest track that changed, and its place in 1/32 of a DLL tick. [log 176: DEDUCED] -/
def State.fineOf (s : State) (b t : Nat) (changed : Word) : Nat × Nat :=
  if s.recKind b = 2 then
    match (List.range 32).find? (fun i => changed.getLsbD i) with
    | some i => (i, min 159 ((s.gl.chs.at (32 * s.recSel b + i)).rawAt - 32 * (t - 4)))
    | none => (0, 0xFF)
  else (0, 0xFF)

/-- A bank opens a block at tick `t` (R409, R411, R415): the header, the group's key record, and a key record of each track that has a stored value. In
POST a bank whose next block is protected closes full. [log 175: DEDUCED] -/
def State.bankOpen (s : State) (b t : Nat) (start : Bool) (changed : Word) : State :=
  let x := s.bank b
  let n := if start then 0 else (x.last + 1) % 512
  if x.prot = some n then (s.bankClose b 2 (t - 5)).stick Stk.REC_FULL
  else
    let base := t / 5 - 16
    let keys := ((List.range 4).map (fun j => 4 * b + j)).filterMap (fun a =>
      if s.trackOn a then ((s.hop.tracks.at a).stored).map (fun v => ({ t := t, a := a, val := v, key := true } : RecAna)) else none)
    let s1 := s.bankMod b (fun y => { y with
      first := if !start && n = y.first then (y.first + 1) % 512 else y.first, last := n, words := 0, base := base,
      mem := y.mem.filter (fun e => !(256 * n ≤ e.1 && e.1 < 256 * n + 256)), slotAt := t + 5, queue := y.queue ++ keys })
    let s2 := s1.bankPut b (headRecord base)
    if s.recKind b = 0 then s2
    else
      let f := s.fineOf b t changed
      s2.recPut b (digRecord true f.1 f.2 16 x.state)

/-- The current block has no room for a tick's records, or a record at `t` lies too far from its base (R409). [log 175: DEDUCED] -/
def RecBank.needsNew (x : RecBank) (t : Nat) : Bool := 255 ≤ x.words || 65535 < t / 5 - x.base

/-- The head of the queue goes through slot 1. [log 175: DEDUCED] -/
def State.slotOne (s : State) (b t : Nat) : State :=
  let x := s.bank b
  match x.queue with
  | q :: r => (s.bankMod b (fun y => { y with queue := r, slotAt := t + 5 })).recPut b (anaRecord q (q.t / 5 - x.base))
  | [] => s

/-- Slot 1 empties the queue, a word a tick, in the ticks before `t` (R404). [log 175: DEDUCED] -/
def State.bankDrain (b t : Nat) : Nat → State → State
  | 0, s => s
  | fuel + 1, s =>
    let x := s.bank b
    if !x.isOpen || x.queue.isEmpty || t ≤ x.slotAt then s
    else State.bankDrain b t fuel (if x.needsNew x.slotAt then s.bankOpen b x.slotAt false 0#32 else s.slotOne b x.slotAt)

/-- A bank brought up to tick `t`. [log 175: DEDUCED] -/
def State.bankAt (s : State) (b t : Nat) : State :=
  let s1 := State.bankDrain b t 64 s
  s1.bankMod b (fun x => { x with slotAt := max x.slotAt t })

/-- The group of a bank has changed to `v` in tick `t`: its digital record (R406, R409). -/
def State.digital (s : State) (b t : Nat) (changed : Word) : State :=
  let s1 := s.bankAt b t
  let x := s1.bank b
  if !x.isOpen then s1
  else if x.needsNew t && x.slotAt ≤ t then s1.bankOpen b t false changed
  else
    let s2 := if x.slotAt ≤ t && !x.queue.isEmpty then s1.slotOne b t else s1
    let f := s2.fineOf b t changed
    s2.recPut b (digRecord false f.1 f.2 (t / 5 - x.base) x.state)

/-- An analog record is due in tick `t` (R407). -/
def State.analog (s : State) (a t : Nat) (v : Word) : State :=
  let b := a / 4
  let s1 := s.bankAt b t
  if !(s1.bank b).isOpen then s1
  else
    let s2 := if (s1.bank b).needsNew t && (s1.bank b).slotAt ≤ t then s1.bankOpen b t false 0#32 else s1
    if (s2.bank b).isOpen then
      (s2.bankMod b (fun x => { x with queue := x.queue ++ [{ t := t, a := a, val := v }] })).trackMod a (fun x => { x with stored := some v })
    else s2

/-! ## Arming, triggers and ends -/

/-- The base, in ticks of GT, of a block that is held. -/
def RecBank.blockBase (x : RecBank) (n : Nat) : Nat := 5 * ((x.mem.get zeroes (256 * n)).toNat % 2 ^ 62)

/-- The blocks held, from the newest back. -/
def RecBank.held (x : RecBank) : List Nat := (List.range ((x.last + 512 - x.first) % 512 + 1)).map (fun i => (x.last + 512 - i) % 512)

/-- The trigger reaches a bank (R414): protection and the actual pre-trigger extent. -/
def State.bankTrigger (s : State) (b t : Nat) : State :=
  let x := s.bank b
  if !x.isOpen then s
  else
    let from_ := t - s.recPre
    let cut := x.held.find? (fun n => x.blockBase n + 80 ≤ from_)
    let p := match cut with | some n => n | none => x.first
    let ext := min s.recPre (t - max s.hop.armAt (x.blockBase p))
    ((s.bankMod b (fun y => { y with prot := some p })).stickIf (decide (ext < s.recPre)) Stk.REC_PRESHORT).setFld (Reg.REC_PREACT b) F.REC_PREACT_US (usOf ext)

/-- A trigger condition holds in tick `t` (R412, R413), with the bits of REC_TRIGSRC. [log 174, 177: DEDUCED] -/
def State.recTrigger (s : State) (t src : Nat) : State :=
  match s.recState with
  | 2 =>
    let s0 := (List.range 16).foldl (fun u b => u.bankAt b t) s
    let s1 : State := { s0 with hop := { s0.hop with trigAt := t } }
    let s2 := ((s1.setRegN Reg.REC_TRIGSRC src).setRegN Reg.REC_TRIGGT_LO t).setRegN Reg.REC_TRIGGT_HI (t / 2 ^ 32)
    ((List.range 16).foldl (fun u b => u.bankTrigger b t) s2).setRec 3 |>.recDone
  | 3 => if t = s.hop.trigAt then s.setRegN Reg.REC_TRIGSRC (s.regN Reg.REC_TRIGSRC ||| src) else s.bump Reg.REC_TRIGCNT
  | 1 => (s.bump Reg.REC_MISSCNT).stick Stk.REC_REARM_MISS
  | 4 => (s.bump Reg.REC_MISSCNT).stick Stk.REC_REARM_MISS
  | _ => s

/-- The recorder is armed by register or command (R411): accepted in IDLE and DONE. [log 177: DEDUCED] -/
def State.recArm (s : State) : State :=
  if !s.recClocked || (s.recState ≠ 0 && s.recState ≠ 4) then s
  else
    let t := recTick s.gt
    let banks := s.hop.banks.map (fun (x : RecBank) => { x with mem := [], isOpen := false, queue := [], prot := none, words := 0 })
    let s1 : State := { s with hop := { armAt := t, trigAt := 0, banks := banks, tracks := List.replicate 64 {} } }
    let s2 := ((s1.setRec 1).setFld Reg.REC_STAT F.REC_STAT_CAUSE 0).setRegN Reg.REC_TRIGSRC 0
    let s3 := ((s2.setRegN Reg.REC_TRIGGT_LO 0).setRegN Reg.REC_TRIGGT_HI 0)
    (List.range 16).foldl (fun u b => ((((u.setRegN (Reg.REC_GEXT0 b) 0).setRegN (Reg.REC_GEXT1 b) 0).setRegN (Reg.REC_PREACT b) 0).setRegN
      (Reg.REC_POSTACT b) 0).setRegN (Reg.REC_GRECCNT b) 0) s3

/-- The recorder becomes ARMED (R411). -/
def State.recArmed (s : State) : State :=
  let s0 := s.gtTo (s.hop.armAt + 320)
  let t := s.hop.armAt + 320
  let s1 := ((({ s0 with hop := { s0.hop with armAt := t } } : State).setRec 2).setRegN Reg.REC_ARMGT_LO t).setRegN Reg.REC_ARMGT_HI (t / 2 ^ 32)
  (List.range 16).foldl (fun u b =>
    if u.bankOn b then
      ((u.bankMod b (fun x => { x with isOpen := true, first := 0, state := s.groupState b, known := true })).bankOpen b t true 0#32).bankView b
    else u) s1

/-- A capture ends early at tick `t` with a cause (R416). [log 179: DEDUCED] -/
def State.recEnd (s : State) (cause t : Nat) : State :=
  if s.recState = 0 || s.recState = 4 then s
  else
    let s1 := (List.range 16).foldl (fun u b => if (u.bank b).isOpen then (((u.bankAt b t).bankClose b cause t).bankView b) else u) s
    ((s1.setRec 4).setFld Reg.REC_STAT F.REC_STAT_CAUSE cause).stickIf (decide (cause = 4 ∨ cause = 5)) Stk.REC_ABORT

/-- The post-trigger extent ends (R415). -/
def State.recPostEnd (s : State) : State :=
  if s.recState ≠ 3 then s
  else
    let t := s.hop.trigAt + s.recPost
    let s1 := s.gtTo t
    ((List.range 16).foldl (fun u b => if (u.bank b).isOpen then (((u.bankAt b t).bankClose b 1 t).bankView b) else u) s1).recDone

/-- A group meets its state in a recorder tick (R406, R412). [log 174: DEDUCED] -/
def State.trackChange (s : State) (g : Nat) : State :=
  if !s.recClocked || s.recKind g = 0 then s
  else
    let t := recTick s.gt
    let s1 := s.gtTo t
    let v := s1.groupState g
    let old := (s1.bank g).state
    if !(s1.bank g).known then s1.bankMod g (fun x => { x with state := v, known := true })
    else if v = old then s1
    else
      let ch := v ^^^ old
      let s2 := s1.bankMod g (fun x => { x with state := v })
      let s3 := if s2.recState = 2 || s2.recState = 3 then ((s2.digital g t ch).bankView g).recDone else s2
      let hit := ch &&& s.reg (Reg.REC_GTMASK g) &&&
        (match s.fld (Reg.REC_GSRC g) F.REC_GSRC_TEDGE with | 0 => 0#32 | 1 => v | 2 => ~~~v | _ => 0xFFFFFFFF#32)
      if hit ≠ 0#32 then s3.recTrigger t (2 ^ g) else s3

/-- An analog track meets its grid (R407, R412). -/
def State.analogSample (s : State) (a : Nat) : State :=
  if !s.recClocked || !s.trackOn a then s
  else
    let per := 5 * max 100 (s.fld Reg.REC_ACFG F.REC_ACFG_APER)
    let t := (s.gt + per - 1) / per * per
    let s1 := s.gtTo t
    let r := (s1.ana.cores.at (s.fld (Reg.REC_ASRC a) F.REC_ASRC_CORE)).last.find (s.fld (Reg.REC_ASRC a) F.REC_ASRC_ENTRY)
    let val := match r with | some l => if l.ended < t then some l.val else l.before | none => none
    match val with
    | none => s1
    | some v =>
      let x := s1.hop.tracks.at a
      let far := match x.stored with
        | none => true
        | some w => (bfVal (s.reg (Reg.REC_ADB a))).lt (((bfVal v).add (bfVal w).neg).abs)
      let s2 := if far && (s1.recState = 2 || s1.recState = 3) then ((s1.analog a t v).bankView (a / 4)).recDone else s1
      let lv := bfVal (s.reg (Reg.REC_ALVL a))
      let trig := s.fld (Reg.REC_ASRC a) F.REC_ASRC_TRIG
      let rise := match x.sample with | some w => (bfVal w).le lv && lv.lt (bfVal v) | none => false
      let fall := match x.sample with | some w => lv.le (bfVal w) && (bfVal v).lt lv | none => false
      let s3 := s2.trackMod a (fun y => { y with sample := some v })
      if (trig % 2 = 1 && rise) || (2 ≤ trig && fall) then s3.recTrigger t (2 ^ 24) else s3

end Sys2Proof.Machine
end

