-- ==== Sys2Proof/Machine/TimeOps.lean ====
section
/-!
DEFINITION. Shared operations of grid time and the clocks (R49 to R78): the servo's measurement, the holdover tiers and the commit stop,
the slip generator, and the halt that a loss of the DLL clock brings.
-/
namespace Sys2Proof.Machine

/-- The first epoch boundary at or after `t` (R65). -/
def State.epochFrom (s : State) (t : Nat) : Nat := (t + s.tim.epLen - 1) / s.tim.epLen * s.tim.epLen

/-- The first whole GT second at or after `t`. -/
def secondFrom (t : Nat) : Nat := (t + tickSec - 1) / tickSec * tickSec

/-- The thresholds of the servo as they act, in ticks (R54 to R58). -/
def State.stepThr (s : State) : Nat := max 1 (s.fld Reg.GT_STEPTHR F.GT_STEPTHR_THR_US) * tickUs
def State.lockThrNs (s : State) : Nat := clampNat 20 1000 (s.fld Reg.GT_LOCKTHR F.GT_LOCKTHR_THR_NS)
def State.lossTicks (s : State) : Nat := clampNat 1 60 (s.fld Reg.GT_LOCKTHR F.GT_LOCKTHR_LOSSTO) * tickSec
def State.ppsWinNs (s : State) : Nat := max 50 (s.fld Reg.GT_PPSWIN F.GT_PPSWIN_WIN_NS)

/-- The rate clamp in units of 2^-40 of the tick rate (R54, R55). -/
def State.rateMax (s : State) : Int := (clampNat 10 2000 (s.fld Reg.GT_SLEWMAX F.GT_SLEWMAX_PPB) * 2 ^ 40 / 10 ^ 9 : Nat)

/-- GT_STAT.QUAL changes; the instant is kept. -/
def State.setQual (s : State) (q : Nat) : State :=
  let t := s.setFld Reg.GT_STAT F.GT_STAT_QUAL q
  { t with tim := { t.tim with qualAt := s.gt } }

/-- A tier is entered (R61, R64, R76): holdover tiers set STK_GT_HOLDOVER but for a commanded relock; HOLD_KEEP in RUN or STANDBY stops
commits, with a record. -/
def State.enterQual (s : State) (q : Nat) : State :=
  if s.qual = q then s
  else
    let s1 := (s.setQual q).stickIf (3 ≤ q && !(q = 4 && s.tim.relockCmd)) Stk.GT_HOLDOVER
    if q = 5 && s.powered && !s.pan.stopped then
      ({ s1 with pan := { s1.pan with stopped := true } }).logRec 0x02 (evCode 0xFF 1) (cidxWords s.pan.cidx)
    else s1

/-- A step or a slew for an offset larger than the step threshold (R58). -/
def State.bigOffset (s : State) (o : Int) : State :=
  if s.dev == .standby && s.flag Reg.GT_CTRL F.GT_CTRL_STEP_EN then { s with tim := { s.tim with stepPend := some o } }
  else
    let r := if 0 ≤ o then -s.rateMax else s.rateMax
    let s1 := { s with tim := { s.tim with rateNext := some r } }
    (s1.setFld Reg.GT_STAT F.GT_STAT_SLEWING 1).stickIf (s.dev == .run) Stk.GT_STEP_DENIED

/-- The servo's new rate for a small offset: its gains are not stated, so the rate is a free value within the clamp (R54). [log 26: DESIGN CHOICE] -/
def State.servoRate (s : State) : State :=
  let r := clampInt (-s.rateMax) s.rateMax s.freeNow.toInt
  let s1 := { s.freeStep with tim := { s.freeStep.tim with rateNext := some r } }
  s1.setFld Reg.GT_STAT F.GT_STAT_SLEWING (bit (r = s.rateMax || r = -s.rateMax))

/-- A valid measurement of the offset `o`, GT less the reference in ticks (R54 to R58, R356). [log 27, 28: DEDUCED] -/
def State.measure (s : State) (o : Int) : State :=
  let s1 := s.setRegN Reg.GT_OFFSET (lowBits 32 (satTo 32 o))
  let s2 := { s1 with tim := { s1.tim with lastMeas := s.gt, rejects := 0 } }
  if s.qual = 4 || !s.powered then s2
  else
    let near := 2 * o.natAbs ≤ s.lockThrNs
    let s3 := if s.stepThr < o.natAbs then s2.bigOffset o else s2.servoRate
    let fresh := s.qual ≠ 1 && s.qual ≠ 2
    let n := if near then (if fresh then 1 else min 8 (s.tim.lockCount + 1)) else 0
    let s4 := { s3 with tim := { s3.tim with lockCount := n, tracked := s3.tim.tracked || n = 8 } }
    if s.qual = 2 then s4 else s4.enterQual (if n = 8 then 2 else 1)

/-- The slip generator at an epoch boundary (R51, R54): the new rate, the accumulator and the slip of the epoch that begins. -/
def State.slipSchedule (s : State) : State :=
  let ended := s.tim.slip
  let s1 := match ended with
    | .lengthen => s.bump Reg.GT_SLIPLEN
    | .shorten => s.bump Reg.GT_SLIPSHT
    | .none => s
  let s2 := match s1.tim.rateNext with
    | some r => s1.setRegN Reg.GT_RATE (lowBits 32 r)
    | none => s1
  let acc := s2.tim.accum + (if s2.qual ≤ 3 then sgn 32 (s2.regN Reg.GT_RATE) * (s2.tim.epLen : Int) else 0)
  let sl : Slip := if (2 : Int) ^ 40 ≤ acc then .shorten else if acc ≤ -((2 : Int) ^ 40) then .lengthen else .none
  let acc2 := match sl with | .shorten => acc - 2 ^ 40 | .lengthen => acc + 2 ^ 40 | .none => acc
  { s2 with tim := { s2.tim with rateNext := none, accum := acc2, slip := sl, slipEnded := ended, slipHeld := false } }

/-! ## The converters at a loss of their clock and at a divider load -/

/-- T of an entry with the divider in use (R83). -/
def State.convLen (s : State) (smp : Nat) : Nat := smp + 17 * s.fld Reg.CLK_PDIV_ADC F.CLK_PDIV_ADC_ACT + 1

/-- REFCLK or the DLL is lost (R90): all sequences stop, writes that would fall at or after the loss are dropped, sigma-delta outputs restart. [log 46: DEDUCED] -/
def State.adcHalt (s : State) : State :=
  let s1 := { s with ana := { s.ana with
    cores := s.ana.cores.map (fun k => { k with reg := {}, inj := {}, conv := none, results := k.results.filter (fun r => r.due < s.gt) }),
    sdf := s.ana.sdf.map (fun d => { d with outputs := 0, ocOutputs := 0 }) } }
  (List.range 8).foldl (fun t c => (t.setFld (Reg.ADC_STAT c) F.ADC_STAT_REG_RUN 0).setFld (Reg.ADC_STAT c) F.ADC_STAT_INJ_RUN 0) s1

/-- A divider load (R73, R90, R104): a conversion in progress is discarded and the same entry restarts in the next tick. [log 41: DEDUCED] -/
def State.adcReload (s : State) : State :=
  let s1 := { s with ana := { s.ana with sdf := s.ana.sdf.map (fun d => { d with outputs := 0, ocOutputs := 0 }) } }
  (List.range 8).foldl (fun t c =>
    match (t.ana.cores.at c).conv with
    | some v => (t.bump (Reg.ADC_PREEMPT c)).coreMod c (fun k => { k with conv := some { v with start := s.gt + 1, len := t.convLen v.cfg.smp } })
    | none => t) s1

/-! ## Loss of the DLL clock -/

/-- The tier that GT falls back to without the DLL: HOLD_SYS, or HOLD_KEEP while SYSPLL is unlocked too (R61, R76). -/
def State.lossTier (s : State) : Nat := if s.flag Reg.CLK_STAT F.CLK_STAT_SYSPLL_LOCK then 4 else 5

/-- The DLL outputs are gated (R76, R78): every GCMD goes low, converters halt, GT goes to its holdover tier, PWM stays halted, a step waits
no longer (R58), and STK_CLK_RANGE is set. [log 17: DESIGN CHOICE; 42: DEDUCED] -/
def State.dllLoss (s : State) : State :=
  let s1 := s.setFld Reg.CLK_STAT F.CLK_STAT_DLL_LOCK 0
  let s2 := { s1 with tim := { s1.tim with pwmHalted := true, lossHold := true, relockCmd := false, stepPend := none, lostAt := s.gt,
                                           qualBefore := if s.tim.lossHold then s.tim.qualBefore else s.qual } }
  (((s2.allGcmdLow.adcHalt).recEnd 4 (s.gt / 5 * 5)).breachOf 3 0 s.nextCommit).enterQual s.lossTier

end Sys2Proof.Machine
end

