-- ==== Sys2Proof/Machine/Analog.lean ====
section
/-!
DEFINITION. The converters, their sequences, the diagnosis and the sigma-delta channels (R81 to R109).
-/
namespace Sys2Proof.Machine

/-- The core starts the first entry of a sequence's plan at `t` (R83). -/
def State.startEntry (s : State) (c : Nat) (inj : Bool) (t : Nat) : State :=
  let q := if inj then (s.ana.cores.at c).inj else (s.ana.cores.at c).reg
  match q.plan with
  | [] => s
  | cfg :: _ =>
    (s.coreMod c (fun k => { k with conv := some { inj := inj, cfg := cfg, start := t, len := s.convLen cfg.smp } })).setFld
      (Reg.ADC_STAT c) F.ADC_STAT_ENTRY cfg.e

/-- A regular entry in progress is abandoned (R90). -/
def State.abandon (s : State) (c : Nat) : State :=
  match (s.ana.cores.at c).conv with
  | some v => if v.inj then s else (s.bump (Reg.ADC_PREEMPT c)).coreMod c (fun k => { k with conv := none, pre := true })
  | none => s

/-- ADC_SEQUENCE_TRIGGER (R85, R88, R90). -/
def execAdcSequenceTrigger (core : Fin 8) (inj : Bool) (s : State) : Host.Outcome State Fault Refusal :=
  .next (s.adcTrig core inj)

/-- SEQUENCE_START (R88, R90): the first entry starts when its delay has run; an injected start goes first and abandons a regular entry. -/
def execSequenceStart (core : Fin 8) (inj : Bool) (s : State) : Host.Outcome State Fault Refusal :=
  .next (let k := s.ana.cores.at core
    let q := if inj then k.inj else k.reg
    if q.phase != .waiting then s
    else
      let t := s.gtTo q.due
      if inj then
        ((t.abandon core).coreMod core (fun x => { x with inj := { x.inj with phase := .running } })).startEntry core true t.gt
      else if k.inj.phase == .running || (k.inj.phase == .waiting && k.inj.due ≤ t.gt) then
        t.coreMod core (fun x => { x with reg := { x.reg with phase := .held } })
      else (t.coreMod core (fun x => { x with reg := { x.reg with phase := .running } })).startEntry core false t.gt)

/-- The result of a code under the settings of its entry (R84). -/
def adcResult (cfg : EntryCfg) (code : Nat) : Word :=
  (toBF ((Dy.ofInt ((code : Int) - cfg.ofs)).mul (bfVal cfg.gain))).w

/-- The Pantry slot of entry `e` of core `c` (R91). -/
def adcSlot (c e : Nat) : Nat := if e < 32 then 32 * c + e else 0x100 + 8 * c + (e - 32)

/-- Channel codes that convert analog ground in place of an input (R82). [log 44: DEDUCED] -/
def reservedCh (c ch : Nat) : Bool := 23 ≤ ch || (ch = 22 && c < 6)

/-- The core goes on after an entry has ended: the next entry, or the sequence ends and the held or abandoned regular one runs (R89, R90). -/
def State.afterEntry (s : State) (c : Nat) (inj : Bool) : State :=
  if inj then
    let s1 := s.coreMod c (fun k => { k with inj := { k.inj with plan := k.inj.plan.tail } })
    if (s1.ana.cores.at c).inj.plan.isEmpty then
      let s2 := (s1.coreMod c (fun k => { k with inj := {}, injDone := min 255 (k.injDone + 1) })).setFld (Reg.ADC_STAT c) F.ADC_STAT_INJ_RUN 0
      let p := (s2.ana.cores.at c).reg.phase
      if p == .running || p == .held then
        (s2.coreMod c (fun k => { k with reg := { k.reg with phase := .running } })).startEntry c false s2.gt
      else s2
    else s1.startEntry c true s1.gt
  else
    let s1 := s.coreMod c (fun k => { k with reg := { k.reg with plan := k.reg.plan.tail } })
    if (s1.ana.cores.at c).reg.plan.isEmpty then
      (s1.coreMod c (fun k => { k with reg := {}, regDone := min 255 (k.regDone + 1) })).setFld (Reg.ADC_STAT c) F.ADC_STAT_REG_RUN 0
    else s1.startEntry c false s1.gt

/-- CONVERSION_END (R81 to R84, R89): the entry's result waits for its write, and the core goes on. [log 6: DESIGN CHOICE; 44: DEDUCED] -/
def execConversionEnd (core : Fin 8) (code : Fin 65536) (s : State) : Host.Outcome State Fault Refusal :=
  .next (match (s.ana.cores.at core).conv with
    | none => s
    | some v =>
      let t := s.gtTo (v.start + v.len)
      let val := adcResult v.cfg code
      let r : AdcResult := { slot := adcSlot core v.cfg.e, sample := v.start, due := v.start + v.len + 12, val := val }
      let t1 := t.coreMod core (fun k => { k with conv := none, results := k.results ++ [r],
                                                  last := k.last.put v.cfg.e { val := val, ended := v.start + v.len,
                                                                                            before := (k.last.find v.cfg.e).map (fun x => x.val) } })
      let t2 := t1.stickIf (code.val = 0 || code.val = 65535 || reservedCh core v.cfg.ch) (Stk.ADC_RANGE core)
      t2.afterEntry core v.inj)

/-- The default gain of a pin: 3/65,536 volts per code (R84). [log 48: DEDUCED] -/
def defaultGain : Word := 0x600000F2#32

/-- ADC_RESULT_WRITE (R91, R92, R96): a result reaches the pending bank 12 ticks after its conversion ended. [log 48: DEDUCED] -/
def execAdcResultWrite (src : AdcRes) (s : State) : Host.Outcome State Fault Refusal :=
  .next (match src with
    | .seq core =>
      match (s.ana.cores.at core).results with
      | [] => s
      | r :: rest =>
        let t := (s.gtTo r.due).coreMod core (fun k => { k with results := rest })
        t.panSampleAt t.gt 0x01 r.slot r.sample r.val
    | .diag pin up code sample =>
      let t := s.gtTo (sample + s.convLen 15 + 12)
      t.panSampleAt t.gt 0x01 (0x140 + 2 * pin.val + bit (!up)) sample
        (toBF ((Dy.ofInt (code.val : Int)).mul (bfVal defaultGain))).w)

/-- ANA_SWTRIG (R85, R108): the software triggers of the cores whose bits are 1; the bits clear in the next tick. -/
def execAnaSwtrig (val : Word) (s : State) : Host.Outcome State Fault Refusal :=
  .next ((List.range 8).foldl (fun t c =>
    let t1 := if val.getLsbD c && t.fld (Reg.ADC_SEQCFG c) F.ADC_SEQCFG_REG_TRIG = 3 then t.adcTrig c false else t
    if val.getLsbD (8 + c) && t1.fld (Reg.ADC_SEQCFG c) F.ADC_SEQCFG_INJ_TRIG = 3 then t1.adcTrig c true else t1) s)

/-- The first tick at or after `t` with `t mod p = ph`. -/
def phaseFrom (p ph t : Nat) : Nat := t + (ph + p - t % p) % p

/-- ATMR_FIRE (R87): timer `t` fires in its next tick. [log 43: DESIGN CHOICE] -/
def execAtmrFire (t : Fin 4) (s : State) : Host.Outcome State Fault Refusal :=
  .next (let p := clampNat 100 1000000 (s.fld (Reg.ANA_ATMR_PER t) F.ANA_ATMR_PER_PER)
    let ph := min (s.fld (Reg.ANA_ATMR_PH t) F.ANA_ATMR_PH_PH) (p - 1)
    if !s.flag (Reg.ANA_ATMR_PH t) F.ANA_ATMR_PH_EN || !s.anaOn then s
    else
      let u := s.gtTo (phaseFrom p ph (max s.gt (s.ana.atmr.at t)))
      ({ u with ana := { u.ana with atmr := u.ana.atmr.mod t (fun _ => u.gt + 1) } }).adcFire (4 + t))

/-! ## Open-wire diagnosis -/

/-- OPEN_WIRE_ROUND (R95, R97): a round of the enabled pins begins, at most once every PERIOD ms. [log 47: DEDUCED] -/
def execOpenWireRound (core : Fin 8) (s : State) : Host.Outcome State Fault Refusal :=
  .next (let k := s.ana.cores.at core
    let pins := bitsOf 12 (s.fld (Reg.ADC_OWCFG core) F.ADC_OWCFG_OW_EN)
    if k.owActive || pins.isEmpty || !s.flag (Reg.ADC_CTRL core) F.ADC_CTRL_EN || !s.anaOn then s
    else
      let t := if k.owAny then s.gtTo (k.owStart + max 1 (s.fld (Reg.ADC_OWCFG core) F.ADC_OWCFG_PERIOD) * tickMs) else s
      t.coreMod core (fun x => { x with owActive := true, owAny := true, owStart := t.gt, owLeft := pins, owStarved := false }))

/-- OPEN_WIRE_STEP (R94, R96): the test of the next pin of the round completes with its two codes. [log 47: DEDUCED] -/
def execOpenWireStep (core : Fin 8) (codeUp codeDown : Fin 65536) (s : State) : Host.Outcome State Fault Refusal :=
  .next (let k := s.ana.cores.at core
    match k.owLeft with
    | [] => s
    | p :: rest =>
      if !k.owActive || k.calPending || k.conv.isSome || !s.flag (Reg.ADC_CTRL core) F.ADC_CTRL_EN || !s.anaOn then s
      else
        let open_ := s.fld (Reg.ADC_OWSET core) F.ADC_OWSET_DELTA + codeDown.val < codeUp.val
        let t := (s.setBit (Reg.ADC_OWFLAG core) p open_).stickIf open_ (Stk.ADC_OPEN core)
        t.coreMod core (fun x => { x with owLeft := rest, owActive := !rest.isEmpty }))

/-- OPEN_WIRE_TIMEOUT (R97): a round is not complete 1 s after it began; it goes on. -/
def execOpenWireTimeout (core : Fin 8) (s : State) : Host.Outcome State Fault Refusal :=
  .next (let k := s.ana.cores.at core
    if !k.owActive || k.owStarved then s
    else
      let t := s.gtTo (k.owStart + tickSec)
      (t.stick (Stk.ADC_DIAG_STARVED core)).coreMod core (fun x => { x with owStarved := true }))

/-! ## Calibration -/

/-- A calibration of core `c` is queued (R100). [log 50: DEDUCED] -/
def State.calQueue (s : State) (c : Nat) : State :=
  if (s.ana.cores.at c).calPending then s
  else
    ((s.coreMod c (fun k => { k with calPending := true, calReq := s.gt, calLast := s.gt })).setFld (Reg.ADC_CALCFG c) F.ADC_CALCFG_REQ 1).setFld
      (Reg.ADC_STAT c) F.ADC_STAT_CAL_RUN 1

/-- CAL_REQ (R100): ADC_CALCFG.REQ is written 1. -/
def execCalReq (core : Fin 8) (s : State) : Host.Outcome State Fault Refusal := .next (s.calQueue core)

/-- CAL_AUTO (R100): the interval of AUTO_INT minutes has passed. -/
def execCalAuto (core : Fin 8) (s : State) : Host.Outcome State Fault Refusal :=
  .next (let m := s.fld (Reg.ADC_CALCFG core) F.ADC_CALCFG_AUTO_INT
    if m = 0 || !s.anaOn then s else (s.gtTo ((s.ana.cores.at core).calLast + m * 60 * tickSec)).calQueue core)

/-- The CAL commands that wait for core `c` (R100, R101): one whose last core this was completes. -/
def State.calTags (s : State) (c : Nat) (ok : Bool) : State :=
  let next := s.mbx.cals.map (fun x => if x.cores.testBit c then { x with cores := x.cores - 2 ^ c, starved := x.starved || !ok } else x)
  (next.filter (fun x => x.cores = 0)).foldl (fun t x => t.finish x.tag (if x.starved then stTimeout else stOk))
    { s with mbx := { s.mbx with cals := next.filter (fun x => x.cores ≠ 0) } }

/-- The calibration of core `c` ends, complete or not. [log 50: DEDUCED] -/
def State.calEnd (s : State) (c : Nat) (ok : Bool) : State :=
  ((((s.coreMod c (fun k => { k with calPending := false })).setFld (Reg.ADC_CALCFG c) F.ADC_CALCFG_REQ 0).setFld (Reg.ADC_CALCFG c)
    F.ADC_CALCFG_DONE (bit ok))).setFld (Reg.ADC_STAT c) F.ADC_STAT_CAL_RUN 0

/-- The end of a calibration with the commands that waited for it. -/
def State.calFinish (s : State) (c : Nat) (ok : Bool) : State := (s.calEnd c ok).calTags c ok

/-- CAL_COMPLETE (R101): all 64 steps are done; the coefficients apply from the next epoch boundary and are logged with its commit index. [log 49: DEDUCED] -/
def execCalComplete (core : Fin 8) (coef : DWord) (s : State) : Host.Outcome State Fault Refusal :=
  .next (if !(s.ana.cores.at core).calPending then s
    else
      let t := (s.calFinish core true).coreMod core (fun k => { k with trimNext := some coef })
      t.logRec 0x0A (evCode 0xFF 1) ([w32 core, coef.setWidth 32, (coef >>> 32).setWidth 32] ++ cidxWords (2 * (s.gt / s.tim.epLen + 1))))

/-- CAL_TIMEOUT (R101): the steps are not complete 1 s after the request. [log 49: DEDUCED] -/
def execCalTimeout (core : Fin 8) (s : State) : Host.Outcome State Fault Refusal :=
  .next (let k := s.ana.cores.at core
    if !k.calPending then s else ((s.gtTo (k.calReq + tickSec)).calFinish core false).stick (Stk.CAL_STARVED core))

/-! ## Sigma-delta channels -/

/-- A captured bit as a signed number (R103). -/
def pm (b : Bool) : Int := if b then 1 else -1

/-- Three sums and three differences: one output of the sinc3 filter (R103, R104). -/
def SdfCh.sinc3 (c : SdfCh) (bits : List Bool) : SdfCh × Int :=
  let c1 := bits.foldl (fun (x : SdfCh) b =>
    let a := x.i1 + pm b
    let e := x.i2 + a
    { x with i1 := a, i2 := e, i3 := x.i3 + e }) c
  let y1 := c1.i3 - c1.d1
  let y2 := y1 - c1.d2
  ({ c1 with d1 := c1.i3, d2 := y1, d3 := y2 }, y2 - c1.d3)

/-- Two sums and two differences: one output of the overcurrent filter (R105). -/
def SdfCh.sinc2 (c : SdfCh) (bits : List Bool) : SdfCh × Int :=
  let c1 := bits.foldl (fun (x : SdfCh) b =>
    let a := x.o1 + pm b
    { x with o1 := a, o2 := x.o2 + a }) c
  let y1 := c1.o2 - c1.p1
  ({ c1 with p1 := c1.o2, p2 := y1 }, y1 - c1.p2)

/-- OSR and OC_OSR as they act (R109). -/
def State.osrOf (s : State) (n : Nat) : Nat := 16 * 2 ^ min 4 (s.fld (Reg.SDF_CFG n) F.SDF_CFG_OSR)
def State.ocOsrOf (s : State) (n : Nat) : Nat := 4 * 2 ^ s.fld (Reg.SDF_CFG n) F.SDF_CFG_OC_OSR

/-- The stuck flag of a channel (R106). -/
def State.sdfStuck (s : State) (n : Nat) : Bool :=
  if n < 32 then (s.reg Reg.SDF_STUCK_LO).getLsbD n else (s.reg Reg.SDF_STUCK_HI).getLsbD (n - 32)
def State.setStuck (s : State) (n : Nat) (b : Bool) : State :=
  if n < 32 then s.setBit Reg.SDF_STUCK_LO n b else s.setBit Reg.SDF_STUCK_HI (n - 32) b

/-- The slot value of a filter sum over `d`, a power of two (R104). -/
def State.sdfVal (s : State) (n : Nat) (sum : Int) (d : Nat) : Word :=
  (toBF ((⟨sum, -(Nat.log2 d : Int)⟩ : Dy).mul (bfVal (s.reg (Reg.SDF_GAIN n))))).w

/-- A filter's value is written 4 ACT + 1 ticks after its sample GT, from the third output on, while the channel is not stuck (R104, R106). [log 51: DEDUCED] -/
def State.sdfWrite (s : State) (n slot outputs : Nat) (v : Word) : State :=
  if outputs < 3 || s.sdfStuck n then s
  else s.panSampleAt (s.gt + 4 * s.fld Reg.CLK_PDIV_SDF F.CLK_PDIV_SDF_ACT + 1) 0x02 slot s.gt v

/-- SINC3_OUTPUT (R103, R104): the OSR captures since the last output give an output whose last capture is now. -/
def execSinc3Output (n : Fin 48) (bits : List Bool) (s : State) : Host.Outcome State Fault Refusal :=
  .next (if !s.anaOn || !s.flag (Reg.SDF_CFG n) F.SDF_CFG_EN then s
    else
      let (c, sum) := (s.ana.sdf.at n).sinc3 bits
      let t := s.sdfMod n (fun _ => { c with outputs := min 3 (c.outputs + 1) })
      t.sdfWrite n (0x300 + n) (min 3 (c.outputs + 1)) (t.sdfVal n sum (t.osrOf n ^ 3)))

/-- OC_FILTER_OUTPUT (R105, R85, R130): the filter's value, its high and low events, their routes and the injected trigger. [log 52: DEDUCED] -/
def execOcFilterOutput (n : Fin 48) (bits : List Bool) (s : State) : Host.Outcome State Fault Refusal :=
  .next (if !s.anaOn || !s.flag (Reg.SDF_CFG n) F.SDF_CFG_EN || !s.flag (Reg.SDF_CFG n) F.SDF_CFG_OC_EN then s
    else
      let (c, sum) := (s.ana.sdf.at n).sinc2 bits
      let d := s.ocOsrOf n ^ 2
      let hi := sgn 16 (s.fld (Reg.SDF_OCTHR n) F.SDF_OCTHR_HI) * d < sum * 2 ^ 15
      let lo := sum * 2 ^ 15 < sgn 16 (s.fld (Reg.SDF_OCTHR n) F.SDF_OCTHR_LO) * d
      let t := s.sdfMod n (fun _ => { c with ocOutputs := min 3 (c.ocOutputs + 1), oc := hi || lo, ocSeen := c.ocSeen || hi || lo })
      let t1 := t.sdfWrite n (0x330 + n) (min 3 (c.ocOutputs + 1)) (t.sdfVal n sum d)
      let t2 := t1.stickIf (hi || lo) Stk.SDF_OC
      (if hi then t2.adcFire (0xC0 + n) else t2).tripEval)

/-- SDD_STUCK (R106): 64 identical bits in a row. [log 51: DEDUCED] -/
def execSddStuck (n : Fin 48) (s : State) : Host.Outcome State Fault Refusal :=
  .next (if !s.flag (Reg.SDF_CFG n) F.SDF_CFG_EN || !s.anaOn then s else (s.setStuck n true).stick Stk.SDD_STUCK)

/-- SDD_STUCK_CLEAR (R106): 64 captures with a transition; writes resume at the third output after that. [log 51: DEDUCED] -/
def execSddStuckClear (n : Fin 48) (s : State) : Host.Outcome State Fault Refusal :=
  .next (if !s.sdfStuck n then s else (s.setStuck n false).sdfMod n (fun c => { c with outputs := 0, ocOutputs := 0 }))

end Sys2Proof.Machine
end

