-- ==== Sys2Proof/Machine/Comparators.lean ====
section
/-!
DEFINITION. The comparators, their windows, blanking, seeding and checks (R110 to R134). Voltages are integers in picovolts.
-/
namespace Sys2Proof.Machine

/-- The comparator's window is enabled (R117). -/
def State.inWindow (s : State) (n : Nat) : Bool := (s.reg Reg.CMP_WIN).getLsbD (n / 2)

/-- The direction as it acts: a window's upper comparator acts with POL 0, its lower one with POL 1 (R111, R117). -/
def State.cmpPol (s : State) (n : Nat) : Bool :=
  if s.inWindow n then n % 2 = 1 else s.flag (Reg.CMP_CFG n) F.CMP_CFG_POL

/-- The pin as it acts (R110, R117, R134). -/
def State.cmpPin (s : State) (n : Nat) : Nat :=
  min 95 (s.fld (Reg.CMP_CFG (if s.inWindow n then n - n % 2 else n)) F.CMP_CFG_INSEL)

/-- The offset, the hysteresis and the reference in picovolts (R110, R111). `cref` is the voltage of the selected CREF pin. [log 53: DESIGN CHOICE] -/
def State.cmpOfs (s : State) (n : Nat) : Int := sgn 10 (s.fld (Reg.CMP_THR n) F.CMP_THR_OFS) * 976562500
/-- [log 53: DESIGN CHOICE] -/
def State.cmpHyst (s : State) (n : Nat) : Int := (min 8 (s.fld (Reg.CMP_THR n) F.CMP_THR_HYST) : Nat) * 5000000000
def State.cmpRef (s : State) (n : Nat) (cref : Int) : Int :=
  let r := s.fld (Reg.CMP_CFG n) F.CMP_CFG_REFSEL
  if r < 16 then cref else if r = 17 then 1500000000000 else 0

/-- The comparator has its supply: in RUN and STANDBY, and beyond these where R115 keeps it alive. -/
def State.cmpAlive (s : State) (n : Nat) : Bool :=
  s.powered || (56 ≤ n && s.fld (Reg.CMP_CFG n) F.CMP_CFG_MODE = 2 && 88 ≤ s.cmpPin n &&
    12 ≤ s.fld (Reg.CMP_CFG n) F.CMP_CFG_REFSEL && s.fld (Reg.CMP_CFG n) F.CMP_CFG_REFSEL ≤ 16)

/-- RAW for an input and a threshold, with hysteresis (R111). [log 53: DESIGN CHOICE] -/
def rawOf (pol was : Bool) (vin vth h : Int) : Bool :=
  if pol then (if vin < vth then true else if vth + h < vin then false else was)
  else (if vth < vin then true else if vin < vth - h then false else was)

/-- COMPARATOR_CROSSING (R111, R112, R121): RAW follows the input, a blanking hit is counted once per window, OUT and its routes follow. [log 6: DESIGN CHOICE; 54: DEDUCED] -/
def execComparatorCrossing (n : Fin 64) (vin cref : Int) (s : State) : Host.Outcome State Fault Refusal :=
  .next (let c := s.cmp.cmps.at n
    if !s.flag (Reg.CMP_CFG n) F.CMP_CFG_EN || !s.cmpAlive n || c.unres then s
    else
      let raw := rawOf (s.cmpPol n) c.raw vin (s.cmpRef n cref + s.cmpOfs n) (s.cmpHyst n)
      let hit := raw && !c.raw && c.blank && !c.out
      let s1 := s.cmpMod n (fun x => { x with raw := raw, hitSnap := x.hitSnap || hit, blankHit := x.blankHit || hit })
      let s2 := s1.stickIf hit Stk.BLANK_HIT
      (if hit && !c.blankHit then s2.bump Reg.CMP_BLKHIT else s2).cmpRoute n)

/-- BLANKING_END (R122): in the first unblanked tick OUT takes the value of RAW. -/
def execBlankingEnd (n : Fin 64) (s : State) : Host.Outcome State Fault Refusal :=
  .next (let c := s.cmp.cmps.at n
    if !c.blank then s
    else ((s.gtTo c.blankEnd).cmpMod n (fun x => { x with blank := false })).cmpRoute n)

/-- BLANKING_LIMIT (R123): a window open for 2,048 ticks closes for 16 ticks. -/
def execBlankingLimit (n : Fin 64) (s : State) : Host.Outcome State Fault Refusal :=
  .next (let c := s.cmp.cmps.at n
    let t := c.blankSince + 2048
    if !c.blank || c.blankEnd ≤ t then s
    else (((s.gtTo t).cmpMod n (fun x => { x with blank := false, cutUntil := t + 16 })).stick Stk.CMP_BLK_LONG).cmpRoute n)

/-- SEEDING_COMPLETE (R125, R126): the two conversions of a seeding place RAW, or leave it at the SAFE value inside the widened band. -/
def execSeedingComplete (n : Fin 64) (vin vth : Int) (s : State) : Host.Outcome State Fault Refusal :=
  .next (let c := s.cmp.cmps.at n
    if !c.unres || !s.flag (Reg.CMP_CFG n) F.CMP_CFG_EN || !s.powered then s
    else
      let h := s.cmpHyst n
      let pol := s.cmpPol n
      let lo := (if pol then vth else vth - h) - 4000000000
      let hi := (if pol then vth + h else vth) + 4000000000
      let inside := lo ≤ vin && vin ≤ hi
      let raw := if inside then s.cmpSafeVal n else (hi < vin) != pol
      let s1 := s.cmpMod n (fun x => { x with raw := raw, unres := false, seedSafe := inside })
      (s1.stickIf inside Stk.CMP_SEED_SAFE).cmpRoute n)

/-- SEED_STARVED (R126): still unresolved 1 ms after the event that made it so. -/
def execSeedStarved (n : Fin 64) (s : State) : Host.Outcome State Fault Refusal :=
  .next (let c := s.cmp.cmps.at n
    if !c.unres || !s.flag (Reg.CMP_CFG n) F.CMP_CFG_EN || !s.powered then s
    else (s.gtTo (c.unresSince + tickMs)).stick Stk.CMP_SEED_STARVED)

/-- The declared voltage of a comparator's reference and its tolerance in picovolts, where there is one (R128, R439). [log 57, 58: DEDUCED] -/
def State.cmpNominal (s : State) (n : Nat) : Option (Rat × Rat) :=
  let r := s.fld (Reg.CMP_CFG n) F.CMP_CFG_REFSEL
  if r < 16 then
    (s.cmp.cref.find r).map (fun e => ((bfVal e.1).toRat * 10 ^ 12, match e.2 with
      | some t => (bfVal t).toRat * 10 ^ 12
      | none => 8 * 10 ^ 9))
  else some (if r = 17 then 15 * 10 ^ 11 else 0, 8 * 10 ^ 9)

/-- A check of a comparator's threshold and its outcome (R128). -/
def State.cmpCheckOk (s : State) (n : Nat) (dac thr : Int) : Bool :=
  decide ((dac - (1500000000000 + s.cmpOfs n)).natAbs ≤ 8000000000) &&
    (match s.cmpNominal n with
     | some (v, tol) => decide (((thr - s.cmpOfs n : Int) : Rat) - v ≤ tol) && decide (v - ((thr - s.cmpOfs n : Int) : Rat) ≤ tol)
     | none => true)

/-- A failed check: the bit, a record that names the comparator, and OUT held at 1 (R128). [log 57: DEDUCED] -/
def State.cmpFail (s : State) (n : Nat) (k : Stk) : State :=
  (((s.stick k).logRec 0x06 (evCode k.file 2) [w32 n]).cmpMod n (fun x => { x with held := true })).cmpRoute n

/-- A check of comparator `n` completes (R128). [log 57: DEDUCED] -/
def State.cmpCheck (s : State) (n : Nat) (dac thr : Int) : State :=
  let t := s.cmpMod n (fun x => { x with checkedAt := s.gt })
  if s.cmpCheckOk n dac thr then (t.cmpMod n (fun x => { x with held := false })).cmpRoute n
  else t.cmpFail n Stk.CMP_DAC_FAIL

/-- CMP_READBACK_CHECK (R128): both readings of a safety-assigned comparator. -/
def execCmpReadbackCheck (n : Fin 64) (dac thr : Int) (s : State) : Host.Outcome State Fault Refusal :=
  .next (if !s.cmpSafe n || !s.powered then s else s.cmpCheck n dac thr)

/-- READBACK_CHECK_TIMEOUT (R128): a safety-assigned comparator's check is not completed within 10 ms. -/
def execReadbackCheckTimeout (n : Fin 64) (s : State) : Host.Outcome State Fault Refusal :=
  .next (if !s.cmpSafe n || !s.powered then s
    else
      let t := s.gtTo ((s.cmp.cmps.at n).checkedAt + 10 * tickMs)
      (t.cmpMod n (fun x => { x with checkedAt := t.gt })).cmpFail n Stk.CMP_DIAG_STARVED)

/-- The Pantry word of a comparator (R132). -/
def cmpWord (c : CmpState) : Nat :=
  bit c.out + 2 * bit c.rise + 4 * bit c.fall + 8 * bit c.unres + 16 * bit c.hitSnap + 32 * bit c.seedSafe + 2 ^ 8 * c.rises

/-- The words of the comparator block's snapshot: comparators, windows, OUT masks, trip buses (R132). [log 59: DEDUCED] -/
def State.cmpSnap (s : State) : List Word :=
  let o := s.outMask
  (List.range 64).map (fun n => w32 (cmpWord (s.cmp.cmps.at n))) ++
    (List.range 32).map (fun w => w32 (s.fld (Reg.CMP_WINSTAT (w / 16)) ⟨2 * (w % 16), 2⟩ + 4 * bit (s.inWindow (2 * w)))) ++
    [w32 o, w32 (o / 2 ^ 32), w32 (s.cmp.bus + 2 ^ 16 * s.cmp.busSeen)]

/-- CMP_SNAPSHOT (R132): four ticks before the next commit instant the block samples its states, and writes them by C - 2. [log 59: DEDUCED] -/
def execCmpSnapshot (s : State) : Host.Outcome State Fault Refusal :=
  .next (if !s.commitsOn then s
    else
      let c := s.instantOf (s.commitFrom (max (s.gt + 4) (s.cmp.snapAt + 1)))
      let t := s.gtTo (c - 4)
      let t1 := (t.cmpSnap.zipIdx).foldl (fun u e => u.panSampleAt (c - 2) 0x03 (0x800 + e.2) (c - 4) e.1) t
      let cs := t1.cmp.cmps.map (fun x => { x with rise := false, fall := false, hitSnap := false, rises := 0 })
      { t1 with cmp := { t1.cmp with snapAt := c, busSeen := t1.cmp.bus, cmps := cs } })

end Sys2Proof.Machine
end

