-- ==== Sys2Proof/Machine/GateOps.lean ====
section
/-!
DEFINITION. Shared operations of the gate links (R283 to R298): strength codes, releases and clears, the both-on watch of a pair, leg probes,
and the state that the fabric takes when RUN is entered and left (R255, R47, R77).
-/
namespace Sys2Proof.Machine

/-! ## Strength codes -/

/-- The limits and the initial code of a channel and direction, as they act (R299). -/
def State.codeMax (s : State) (n : Nat) (on : Bool) : Nat :=
  s.fld (Reg.GL_LIM (lgOf n) (n % 6)) (if on then F.GL_LIM_CMAX_ON else F.GL_LIM_CMAX_OFF)
def State.codeMin (s : State) (n : Nat) (on : Bool) : Nat :=
  min (s.codeMax n on) (s.fld (Reg.GL_LIM (lgOf n) (n % 6)) (if on then F.GL_LIM_CMIN_ON else F.GL_LIM_CMIN_OFF))
def State.codeInit (s : State) (n : Nat) (on : Bool) : Nat :=
  clampNat (s.codeMin n on) (s.codeMax n on) (s.fld (Reg.GL_LIM (lgOf n) (n % 6)) (if on then F.GL_LIM_INIT_ON else F.GL_LIM_INIT_OFF))

/-- The place of a code in GL_CODE_LO and GL_CODE_HI (R299). -/
def codeReg (n : Nat) : Nat := if n % 6 < 4 then Reg.GL_CODE_LO (lgOf n) else Reg.GL_CODE_HI (lgOf n)
def codeFld (n : Nat) (on : Bool) : Fld := ⟨8 * (n % 6 % 4) + (if on then 0 else 4), 4⟩
def State.code (s : State) (n : Nat) (on : Bool) : Nat := s.fld (codeReg n) (codeFld n on)
def State.setCode (s : State) (n : Nat) (on : Bool) (v : Nat) : State := s.setFld (codeReg n) (codeFld n on) v

/-- The codes of a channel return to their initial values (R283, R291, R292). -/
def State.initCodes (s : State) (n : Nat) : State :=
  ((s.setCode n true (s.codeInit n true)).setCode n false (s.codeInit n false)).glMod n (fun c => { c with newOn := none, newOff := none })

/-- One step of adaptation for a channel and direction, from its last new switching time (R291). -/
def State.adaptDir (s : State) (n : Nat) (on : Bool) (tsw : Option Int) : State :=
  let g := lgOf n
  if !(s.reg (Reg.GL_CFG g)).getLsbD (n % 6) then s.setCode n on (s.codeInit n on)
  else
    match tsw with
    | none => s
    | some t =>
      let tgt : Int := (s.fld (Reg.GL_TGT g (n % 6)) (if on then F.GL_TGT_TGT_ON else F.GL_TGT_TGT_OFF) : Nat)
      let hys : Int := (s.fld (Reg.GL_LIM g (n % 6)) F.GL_LIM_HYS : Nat)
      let c := s.code n on
      if tgt + hys < t then (if c < s.codeMax n on then s.setCode n on (c + 1) else s.stick (Stk.GL_ADAPT_LIM g))
      else if t < tgt - hys then (if s.codeMin n on < c then s.setCode n on (c - 1) else s.stick (Stk.GL_ADAPT_LIM g))
      else s

/-- The codes of the next frame of group `g` are computed at its boundary (R291). -/
def State.adaptGroup (s : State) (g : Nat) : State :=
  (List.range 6).foldl (fun t c =>
    let n := 6 * g + c
    let x := t.gl.chs.at n
    ((t.adaptDir n true x.newOn).adaptDir n false x.newOff).glMod n (fun y => { y with newOn := none, newOff := none })) s

/-- A frame is due in the period of boundary `b` (R288). -/
def State.frameDue (s : State) (g b : Nat) : Bool :=
  s.dev == .run && s.flag (Reg.PWM_LGCFG g) F.PWM_LGCFG_EN && s.flag (Reg.GL_CFG g) F.GL_CFG_GSET_EN &&
    s.boundaryIndex g b % (s.fld (Reg.GL_CFG g) F.GL_CFG_FRM_DIV + 1) = 0

/-! ## Releases and clears -/

/-- A channel whose retry wait has ended is released at boundary `b` in RUN while no trip or SPO holds its group (R283, R293). [log 122: DEDUCED] -/
def State.releaseCh (s : State) (n b : Nat) : State :=
  let g := lgOf n
  if !(s.gl.chs.at n).release || s.dev != .run || (s.pwm.lgs.at g).latched || (s.pwm.lgs.at g).cbc || !s.permitOpen g || s.tim.pwmHalted then s
  else
    let s1 := (s.glMod n (fun c => { c with active := false, release := false })).initCodes n
    (s1.chMod n (fun c => { c with skip := 32 * b })).glView g

/-- GFB of a channel has read low for the last 1 us (R283, R292). -/
def State.gfbQuiet (s : State) (n : Nat) : Bool :=
  let c := s.gl.chs.at n
  !c.gfb && c.gfbAt + 32 * tickUs ≤ 32 * s.gt && c.rawAt + 32 * tickUs ≤ 32 * s.gt

/-- A latched fault may clear (R292). -/
def State.latchClearable (s : State) (n : Nat) : Bool := (s.gl.chs.at n).latched && s.gfbQuiet n

/-- A latched fault clears; the channel switches from the next period boundary (R292). -/
def State.latchClear (s : State) (n : Nat) : State :=
  if !s.latchClearable n then s
  else
    let s1 := (s.glMod n (fun c => { c with latched := false, active := false, waiting := false, release := false, tries := 0 })).initCodes n
    (s1.chMod n (fun c => { c with skip := 32 * s.nextBoundary (lgOf n) })).glView (lgOf n)

/-- Both ideal levels of a pair are 1, whatever holds it (R285, R292). -/
def State.bothIdeal (s : State) (g q : Nat) : Bool :=
  let p := 32 * s.perOf g
  let x := s.posOf g (32 * s.gt)
  s.pairMode g q = 1 && (s.ownIdeal (6 * g + 2 * q)).level p x && (s.ownIdeal (6 * g + 2 * q + 1)).level p x

/-- A shoot-through hold clears (R292). [log 124: DEDUCED] -/
def State.shootClear (s : State) (g q : Nat) : State :=
  if !s.shootHeld g q || s.bothIdeal g q then s
  else
    let s1 := { s with gl := { s.gl with shoot := s.gl.shoot.mod g (fun m => m &&& (7 - 2 ^ q)) } }
    let b := 32 * s.nextBoundary g
    (((s1.chMod (6 * g + 2 * q) (fun c => { c with skip := b })).chMod (6 * g + 2 * q + 1) (fun c => { c with skip := b })).lgMod g
      (fun l => { l with both := l.both.set q none })).glView g

/-- A latched trip clears while every selected bus is 0; switching resumes at the next boundary (R263). -/
def State.tripClearable (s : State) (g : Nat) : Bool :=
  (s.pwm.lgs.at g).latched && (s.fld (Reg.PWM_TRIP g) F.PWM_TRIP_LATMASK &&& s.cmp.bus) = 0
def State.tripClear (s : State) (g : Nat) : State :=
  if s.tripClearable g then s.lgMod g (fun l => { l with latched := false, resume := true }) else s

/-! ## The both-on watch (R285) -/

/-- Where the on-time that reaches position `x1` of a segment `[x0, x1)` begins, if the level is 1 at its end. -/
def Ideal.runStart (p : Nat) (i : Ideal) (x0 x1 : Nat) : Option Nat :=
  match i with
  | .on => some x0
  | .off => none
  | .span a b =>
    if a < x1 && x1 ≤ b then some (max a x0)
    else if a < x1 + p && x1 + p ≤ b then some (max (a - p) x0)
    else none

/-- Since when both ideal levels of pair `q` have been 1 at tick `t`, in 1/32 tick. [log 124: DEDUCED] -/
def State.bothSince (s : State) (g q t : Nat) : Option Nat :=
  let p := 32 * s.perOf g
  let l := s.pwm.lgs.at g
  let x0 := 32 * (l.segAt - l.bnd)
  let x1 := 32 * (t - l.bnd)
  if s.pairMode g q ≠ 1 then none
  else
    match (s.ownIdeal (6 * g + 2 * q)).runStart p x0 x1, (s.ownIdeal (6 * g + 2 * q + 1)).runStart p x0 x1 with
    | some a, some b =>
      let st := max a b
      if st = x0 then some ((l.both.getD q none).getD (32 * l.bnd + x0)) else some (32 * l.bnd + st)
    | _, _ => none

/-- A reload point ends a segment of the watch. -/
def State.bothMark (s : State) (g t : Nat) : State :=
  let bs := (List.range 3).map (fun q => s.bothSince g q t)
  s.lgMod g (fun l => { l with both := bs, segAt := t })

/-! ## Leg probes -/

/-- A probe run starts in STANDBY (R295). [log 127: DEDUCED] -/
def State.probeGo (s : State) : State :=
  let en := s.regN Reg.GL_PRBEN % 2 ^ s.groups
  if s.dev != .standby || s.gl.prbRun then s
  else
    let s1 := (List.range 32).foldl (fun t g => if en.testBit g then t else t.setFld (Reg.GL_PRBRES (g / 8)) ⟨4 * (g % 8), 4⟩ 0) s
    if en = 0 then s1
    else
      { s1 with gl := { s1.gl with prbRun := true, prbStart := s.gt, prbLeft := bitsOf 32 en, prbLog := [] } }.setFld
        Reg.GL_PRBCMD F.GL_PRBCMD_GO 1

/-- A difference is good when it lies within DVTOL percent of DVNOM/2 (R296). -/
def probeGood (nom tol : Nat) (d : Int) : Bool := (2 * d - nom).natAbs * 100 ≤ tol * nom

/-- The class of a probe from its three codes (R296). -/
def State.probeClass (s : State) (v0 vp vm : Nat) : Nat :=
  let nom := s.fld Reg.GL_PRBTHR3 F.GL_PRBTHR3_DVNOM
  let tol := s.fld Reg.GL_PRBTHR3 F.GL_PRBTHR3_DVTOL
  let gp := probeGood nom tol ((vp : Int) - v0)
  let gm := probeGood nom tol ((v0 : Int) - vm)
  let hi := s.fld Reg.GL_PRBTHR0 F.GL_PRBTHR0_TH_P ≤ v0
  let lo := v0 ≤ s.fld Reg.GL_PRBTHR0 F.GL_PRBTHR0_TH_N
  if hi && gm then 2
  else if lo && gp then 3
  else if hi || lo || !gp || !gm then 5
  else if s.fld Reg.GL_PRBTHR1 F.GL_PRBTHR1_NM_LO ≤ v0 && v0 ≤ s.fld Reg.GL_PRBTHR1 F.GL_PRBTHR1_NM_HI then 1
  else if s.fld Reg.GL_PRBTHR2 F.GL_PRBTHR2_FL_LO ≤ v0 && v0 ≤ s.fld Reg.GL_PRBTHR2 F.GL_PRBTHR2_FL_HI then 4
  else 6

/-- The result field of probe `g` (R300). -/
def prbFld (g : Nat) : Fld := ⟨4 * (g % 8), 4⟩

/-- A class goes to its result field; another one than NORMAL sets STK_LPRB_FAIL and, with GATE, an SPO request (R297). -/
def State.probeResult (s : State) (g cls : Nat) : State :=
  let s1 := (s.setFld (Reg.GL_PRBRES (g / 8)) (prbFld g) cls).stickIf (cls ≠ 1) Stk.LPRB_FAIL
  if cls ≠ 1 && s.flag Reg.GL_PRBCFG F.GL_PRBCFG_GATE then
    match s.convOf g with
    | some v => s1.demandSet true 11 g (2 ^ v)
    | none => s1
  else s1

/-- The run ends: its record, and the requests of converters whose enabled probes are all NORMAL end (R297). [log 127: DEDUCED] -/
def State.probeEnd (s : State) : State :=
  let s1 := { s with gl := { s.gl with prbRun := false, prbLeft := [], prbLog := [] } }
  let s2 := (s1.setFld Reg.GL_PRBCMD F.GL_PRBCMD_GO 0).logRec 0x0E (evCode 0xFF 3) s.gl.prbLog
  (List.range 12).foldl (fun t v =>
    let gs := (bitsOf 32 (t.regN Reg.GL_PRBEN)).filter (fun g => t.convOf g == some v)
    if gs.all (fun g => t.fld (Reg.GL_PRBRES (g / 8)) (prbFld g) = 1) then
      (List.range 32).foldl (fun u g => u.demandSet false 11 g (2 ^ v)) t
    else t) s2

/-! ## Entering and leaving RUN -/

/-- The fabric and the gate links at entry to RUN (R255, R288, R291, R77): all-off sets, codes at INIT, frame counts at 0. -/
def State.fabricRun (s : State) : State :=
  let s1 : State := { s with
    tim := { s.tim with pwmHalted := false },
    pwm := { s.pwm with
      chs := s.pwm.chs.map (fun c => { c with lvl := false, off := none, skip := 32 * s.gt, carry := 0 }),
      lgs := s.pwm.lgs.map (fun l => { l with copyNew := {}, copyOld := {}, gotFirst := false, staleCount := 0, staleOff := false, offPend := false,
                                              frames := 0, frameFor := 0, both := [none, none, none], segAt := s.gt }) } }
  let s2 := (List.range s.groups).foldl (fun t g =>
    let t1 := (List.range 8).foldl (fun u w => u.setReg (Reg.PWM_ACT g w) (offSet.getD w 0#32)) t
    t1.setRegN (Reg.PWM_SETCIDX g) 0xFFFFFFFF) s1
  (List.range s.channels).foldl (fun t n => t.initCodes n) s2

/-- Leaving RUN by command: each group goes low at its next boundary (R47). -/
def State.fabricLeave (s : State) : State :=
  { s with pwm := { s.pwm with lgs := s.pwm.lgs.map (fun l => { l with offPend := true }) } }

/-- The all-off set is in force and carries are lost after RUN has been left (R255, R260). [log 115: DEDUCED] -/
def State.groupOff (s : State) (g b : Nat) : State :=
  ((s.lgMod g (fun l => { l with offPend := false })).loadSet g b offSet 0xFFFFFFFF).forceIdeal g |>.dropCarries g

/-- Retry waits and coincidence windows were frozen while the clock was lost: they go on after `d` ticks (R293). [log 126: DEDUCED] -/
def State.gateThaw (s : State) (d : Nat) : State :=
  { s with gl := { s.gl with chs := s.gl.chs.map (fun c => if c.waiting then { c with waitEnd := c.waitEnd + d } else c),
                             decls := s.gl.decls.map (fun x => { x with at_ := x.at_ + d }) } }

end Sys2Proof.Machine
end

