-- ==== Sys2Proof/Machine/Gate.lean ====
section
/-!
DEFINITION. The gate links' events (R275 to R297).
-/
namespace Sys2Proof.Machine

/-- The signature detector at a counted transition at `t` (R280): three transitions whose two intervals lie between 35 and 65 ticks. [log 121: DEDUCED] -/
def GlCh.counted (c : GlCh) (t : Nat) : GlCh :=
  let d := t - c.sigAt
  { c with sig := if c.sig ≠ 0 && 35 * 32 ≤ d && d ≤ 65 * 32 then min 3 (c.sig + 1) else 1, sigAt := t }

/-- The detector is counting transitions: its last one may still be followed in time (R276, R280). -/
def GlCh.counting (c : GlCh) (t : Nat) : Bool := c.sig ≠ 0 && t ≤ c.sigAt + 65 * 32

/-- A filtered change confirms the gate state inside an open window in its direction (R276, R277). [log 119: DEDUCED] -/
def State.glConfirm (s : State) (n t : Nat) (level : Bool) : State :=
  let c := s.gl.chs.at n
  let g := lgOf n
  match c.win with
  | some w =>
    if w.rising = level && w.start ≤ t && t < w.stop && !c.counting t then
      let ldly := s.fld (Reg.GL_LDLY g (n % 6)) (if level then F.GL_LDLY_LDLY_ON else F.GL_LDLY_LDLY_OFF)
      let tsw := satTo 16 ((t : Int) - w.start - ldly)
      let s1 := s.setFld (Reg.GL_TSW g (n % 6)) (if level then F.GL_TSW_T_ON else F.GL_TSW_T_OFF) (lowBits 16 tsw)
      s1.glMod n (fun x => if level then { x with win := none, newOn := some tsw }
        else { x with win := none, newOff := some tsw, confOff := true, confAt := t })
    else s
  | none =>
    if s.gcmdPin n || c.counting t then s
    else if level then s.glMod n (fun x => { x with confOff := false })
    else s.glMod n (fun x => { x with confOff := true, confAt := t })

/-- GFB_TRANSITION (R275, R276, R279, R280): a raw transition to `level` in this tick at `frac`/32; `stable` says whether the filter accepts
the new level. [log 120: DESIGN CHOICE; 121: DEDUCED] -/
def execGfbTransition (n : Fin 192) (level : Bool) (frac : Fin 32) (stable : Bool) (s : State) : Host.Outcome State Fault Refusal :=
  .next (if !s.powered || s.channels ≤ n.val then s
    else
      let t := 32 * s.gt + frac.val
      let c := s.gl.chs.at n
      let inWin := match c.win with | some w => w.rising = level && w.start ≤ t && t < w.stop | none => false
      let s1 := s.glMod n (fun x => { x with raw := level, rawAt := t })
      let s2 := if inWin then s1.glMod n (fun x => { x with exclNext := !stable })
        else if c.exclNext then s1.glMod n (fun x => { x with exclNext := false })
        else s1.glMod n (fun x => x.counted t)
      let counted := !inWin && !c.exclNext
      let s3 := if stable && level != c.gfb then
          (s2.glConfirm n t level).glMod n (fun x => { x with gfb := level, gfbAt := t })
        else s2
      if counted && (s3.gl.chs.at n).sig = 3 then s3.declareFault n 1 else s3)

/-- CONF_WINDOW_CLOSE (R281): an open window closes without its response. -/
def execConfWindowClose (n : Fin 192) (s : State) : Host.Outcome State Fault Refusal :=
  .next (match (s.gl.chs.at n).win with
    | none => s
    | some w =>
      let t := (s.gtTo ((w.stop + 31) / 32)).glMod n (fun x => { x with win := none })
      if w.rising then (if t.dev == .run then t.declareFault n 2 else t) else t.declareFault n 3)

/-- GFB_LEVEL_TIMEOUT (R281): GFB has disagreed with GCMD for more than CONF_TO ticks. -/
def execGfbLevelTimeout (n : Fin 192) (s : State) : Host.Outcome State Fault Refusal :=
  .next (let c := s.gl.chs.at n
    let p := s.pwm.chs.at n
    let cmd := s.gcmdPin n
    if c.gfb = cmd || !s.powered || (cmd && s.dev != .run) then s
    else
      let since := max c.gfbAt (if cmd then s.driven (lgOf n) p.onAt else s.driven (lgOf n) p.lastOff)
      let to_ := max 50 (s.fld (Reg.GL_TMO (lgOf n)) F.GL_TMO_CONF_TO)
      (s.gtTo (since / 32 + to_ + 1)).declareFault n (if cmd then 2 else 3))

/-- RETRY_WAIT_END (R283, R293): the wait ends; it counts as a try, and ends in a release at the next boundary or starts again. [log 122: DEDUCED] -/
def execRetryWaitEnd (n : Fin 192) (s : State) : Host.Outcome State Fault Refusal :=
  .next (let c := s.gl.chs.at n
    if !c.waiting || s.tim.lossHold then s
    else
      let g := lgOf n
      let t := s.gtTo c.waitEnd
      let tries := min (max 1 (s.fld (Reg.GL_RETRY g) F.GL_RETRY_TRIES)) (c.tries + 1)
      let wait := clampNat 1 10000 (s.fld (Reg.GL_RETRY g) F.GL_RETRY_WAIT_MS) * tickMs
      let ok := t.gfbQuiet n && (c.sig = 0 || c.sigAt + 32 * tickUs ≤ 32 * t.gt)
      (t.glMod n (fun x => if ok then { x with waiting := false, release := true, tries := tries }
        else { x with waitEnd := t.gt + wait, tries := tries })).glView g)

/-- TRY_COUNT_RESET (R283): RST_S seconds without a declared fault. -/
def execTryCountReset (n : Fin 192) (s : State) : Host.Outcome State Fault Refusal :=
  .next (let c := s.gl.chs.at n
    if c.tries = 0 then s
    else
      (s.gtTo (c.lastFault + clampNat 1 3600 (s.fld (Reg.GL_RETRY (lgOf n)) F.GL_RETRY_RST_S) * tickSec)).glMod n
        (fun x => { x with tries := 0 }))

/-- The last declarations of a converter's legs, latest first (R287). -/
def State.legTimes (s : State) (v : Nat) : List Nat :=
  ((s.coincLegs v).map (fun g => (s.gl.decls.filter (fun d => d.lg = g)).foldl (fun m d => max m d.at_) 0)).mergeSort (fun a b => b ≤ a)

/-- COINC_WINDOW_EXPIRE (R287): the converter's count falls below N as declarations leave the window; the demand ends. [log 123: DEDUCED] -/
def execCoincWindowExpire (v : Fin 12) (s : State) : Host.Outcome State Fault Refusal :=
  .next (if s.tim.lossHold then s
    else
      let t := match (s.legTimes v)[s.coincN - 1]? with
        | some a => s.gtTo (a + 5000)
        | none => s
      let u : State := { t with gl := { t.gl with decls := t.gl.decls.filter (fun d => t.gt < d.at_ + 5000) } }
      u.demandSet false 2 0 (2 ^ v.val))

/-- A GCMD edge of the group is scheduled in ticks `a` to `b - 1` (R289). [log 125: DEDUCED] -/
def State.edgeIn (s : State) (g a b : Nat) : Bool :=
  (List.range 6).any (fun c =>
    let n := 6 * g + c
    let x := s.pwm.chs.at n
    let at_ := fun t => let d := s.driven g t / 32; a ≤ d && d < b
    if x.lvl then (match x.off with | some t => at_ t | none => false)
    else match s.planOn n with
      | some p => at_ p.due
      | none => false)

/-- The bits of a number, most significant first. -/
def bitsMsb (w v : Nat) : List Bool := (List.range w).reverse.map (fun i => v.testBit i)

/-- One bit through the CRC-8 with polynomial 0x07 (R288). -/
def crc8Bit (c : Nat) (b : Bool) : Nat :=
  let top := c.testBit 7 != b
  if top then (2 * c % 256) ^^^ 0x07 else 2 * c % 256

/-- The 62 bits of a GSET frame (R288). -/
def gsetBits (seq : Nat) (codes : List Nat) : List Bool :=
  let body := bitsMsb 4 seq ++ codes.flatMap (fun c => bitsMsb 4 c)
  [false] ++ body ++ bitsMsb 8 (body.foldl crc8Bit 0) ++ [true]

/-- GSET_FRAME (R288, R289): the frame of the period is sent at B + FRM_OFS, or skipped when an edge falls in its time. [log 125: DEDUCED] -/
def execGsetFrame (g : Fin 32) (s : State) : Host.Outcome State Fault Refusal :=
  .next (let l := s.pwm.lgs.at g
    if !l.anyBnd || l.frameFor = l.bnd + 1 || !s.frameDue g l.bnd || s.tim.pwmHalted then s
    else
      let t := s.gtTo (l.bnd + s.fld (Reg.GL_FRM g) F.GL_FRM_FRM_OFS)
      let a := l.bnd + s.fld (Reg.GL_FRM g) F.GL_FRM_FRM_OFS
      if t.edgeIn g a (a + 640) then
        ((t.lgMod g (fun x => { x with frameFor := l.bnd + 1, frameSkip := true })).bump (Reg.GL_SKIPCNT g)).stick (Stk.GL_GSET_SKIP g)
      else
        let codes := (List.range 6).flatMap (fun c => [t.code (6 * g + c) true, t.code (6 * g + c) false])
        let bits := gsetBits (l.frames % 16) codes
        (t.lgMod g (fun x => { x with frameFor := l.bnd + 1, frameSent := true, frames := x.frames + 1 })).send 3
          (BitVec.ofNat 8 g :: bits.map (fun b => BitVec.ofNat 8 (bit b))))

/-- GL_CLR_LATCH (R292). -/
def execGlClrLatch (n : Fin 192) (s : State) : Host.Outcome State Fault Refusal := .next (s.latchClear n)

/-- GL_CLR_SHOOT (R292). -/
def execGlClrShoot (g : Fin 32) (q : Fin 3) (s : State) : Host.Outcome State Fault Refusal := .next (s.shootClear g q)

/-- SHOOT_THROUGH_HOLD (R285): both ideal levels of a pair have been 1 for more than PER. [log 124: DEDUCED] -/
def execShootThroughHold (g : Fin 32) (q : Fin 3) (s : State) : Host.Outcome State Fault Refusal :=
  .next (match s.bothSince g q s.gt with
    | none => s
    | some since =>
      let t := s.gtTo ((since + 32 * s.perOf g) / 32 + 1)
      if s.shootHeld g q || t.nextBoundary g < t.gt || t.bothSince g q t.gt ≠ some since || s.dev != .run then s
      else
        let n := 6 * g.val + 2 * q.val
        let u : State := { t with gl := { t.gl with shoot := t.gl.shoot.mod g (fun m => m ||| 2 ^ q.val) } }
        ((((u.forceOff n).forceOff (n + 1)).stick (Stk.SHOOT_REQ g)).glView g).logRec 0x0E (evCode (Stk.SHOOT_REQ g).file 1) [w32 g, w32 q])

/-- GL_PRBCMD_GO (R295). -/
def execGlPrbcmdGo (s : State) : Host.Outcome State Fault Refusal := .next s.probeGo

/-- The command that started the run completes with the classes (R295, R436). [log 204: DEDUCED] -/
def State.probeDone (s : State) : State :=
  match s.mbx.prbTag with
  | some g => ({ s with mbx := { s.mbx with prbTag := none } }).finish g stOk (v0 := s.reg (Reg.GL_PRBRES 0)) (v1 := s.reg (Reg.GL_PRBRES 1))
  | none => s

/-- PROBE_STEP (R295 to R297): the measurement of the next probe completes. -/
def execProbeStep (v0 vp vm : Fin 65536) (s : State) : Host.Outcome State Fault Refusal :=
  .next (match s.gl.prbLeft with
    | [] => s
    | g :: rest =>
      if !s.gl.prbRun || s.dev != .standby then s
      else
        let cls := s.probeClass v0 vp vm
        let ws := [w32 (g + 2 ^ 8 * cls), w32 (v0.val + 2 ^ 16 * vp.val), w32 vm]
        let t := ({ s with gl := { s.gl with prbLeft := rest, prbLog := s.gl.prbLog ++ ws } }).probeResult g cls
        if rest.isEmpty then t.probeEnd.probeDone else t)

/-- PROBE_TIMEOUT (R295): every probe not complete 1 s after GO is classed 7. [log 127: DEDUCED] -/
def execProbeTimeout (s : State) : Host.Outcome State Fault Refusal :=
  .next (if !s.gl.prbRun then s
    else
      let t := s.gtTo (s.gl.prbStart + tickSec)
      let u := t.gl.prbLeft.foldl (fun x g => x.probeResult g 7) t
      (u.stick Stk.LPRB_STARVED).probeEnd.probeDone)

end Sys2Proof.Machine
end

