-- ==== Sys2Proof/Machine/Crc.lean ====
section
/-!
DEFINITION. Byte strings: fields in both byte orders, and CRC-32C (R197).
-/
namespace Sys2Proof.Machine

/-- The number in `n` bytes from offset `o`, big-endian; missing bytes read 0. -/
def beAt (bs : List Byte) (o n : Nat) : Nat := (List.range n).foldl (fun a i => 256 * a + (bs.getD (o + i) 0#8).toNat) 0

/-- The number in `n` bytes from offset `o`, little-endian. -/
def leAt (bs : List Byte) (o n : Nat) : Nat := (List.range n).reverse.foldl (fun a i => 256 * a + (bs.getD (o + i) 0#8).toNat) 0

/-- The `n` bytes of a number, big-endian and little-endian. -/
def beBytes (n v : Nat) : List Byte := (List.range n).reverse.map (fun i => BitVec.ofNat 8 (v / 256 ^ i))
def leBytes (n v : Nat) : List Byte := (List.range n).map (fun i => BitVec.ofNat 8 (v / 256 ^ i))

/-- Eight steps of the reflected CRC-32C with polynomial 0x1EDC_6F41 (R197). -/
def crcStep : Nat → Word → Word
  | 0, c => c
  | k + 1, c => crcStep k (if c.getLsbD 0 then (c >>> 1) ^^^ 0x82F63B78#32 else c >>> 1)

/-- CRC-32C of a byte string: initial value and final XOR 0xFFFF_FFFF (R197). -/
def crc32c (bs : List Byte) : Word :=
  (bs.foldl (fun c b => crcStep 8 (c ^^^ b.setWidth 32)) 0xFFFFFFFF#32) ^^^ 0xFFFFFFFF#32

/-- The words of a byte string, big-endian. -/
def wordsBe (bs : List Byte) (o n : Nat) : List Word := (List.range n).map (fun i => BitVec.ofNat 32 (beAt bs (o + 4 * i) 4))

end Sys2Proof.Machine
end

