-- ==== Sys2Proof/Machine/KetFn.lean ====
section
/-!
DEFINITION. The function instructions of an engine (R188): square root, reciprocal, cosine and sine, and the angle of a vector. The exact
result is formed to 256 binary places, or with a bit that says it is inexact, before the one rounding.
-/
namespace Sys2Proof.Machine

/-- The bits of the integer square root from bit `b - 1` down. -/
def isqrtFrom (n : Nat) : Nat → Nat → Nat
  | 0, r => r
  | b + 1, r => if (r + 2 ^ b) * (r + 2 ^ b) ≤ n then isqrtFrom n b (r + 2 ^ b) else isqrtFrom n b r

/-- The integer square root. -/
def isqrt (n : Nat) : Nat := isqrtFrom n (bitLen n / 2 + 1) 0

/-- The square root of `m * 2^e`, `m` not negative, with a last bit that is 1 where it is not exact. [log 63: DEDUCED] -/
def sqrtDy (m : Nat) (e : Int) : Dy :=
  let j : Nat := 32 + (if e < 0 then (-e).toNat else 0)
  let n := m * 2 ^ (e + 2 * (j : Int)).toNat
  let r := isqrt n
  ⟨2 * (r : Int) + (if r * r = n then 0 else 1), -(j : Int) - 1⟩

/-- The mantissa of `1 / (m * 2^(e-23))` at exponent `ed`, before saturation; `m` is not 0. [log 63: DEDUCED] -/
def recipMant (m e ed : Int) : Int :=
  let k := 46 - e - ed
  let sg : Int := if m < 0 then -1 else 1
  if 0 ≤ k then roundDiv (sg * 2 ^ k.toNat) m.natAbs else roundDiv sg (m.natAbs * 2 ^ (-k).toNat)

/-- The number of binary places of the fixed-point values below. -/
def fxP : Nat := 256

/-- The circle number to 256 binary places. -/
def piFx : Nat := 363771576891766324280234942777729862653393377328392429958772151117938894466185

/-- The terms of the series of cosine (`k` = 0) or sine (`k` = 1) from term `t` on: `t - t x²/((k+1)(k+2)) + …`. -/
def trigSeries (x2 : Nat) : Nat → Nat → Nat → Int
  | 0, _, _ => 0
  | fuel + 1, k, t => (t : Int) - trigSeries x2 fuel (k + 2) (t * x2 / 2 ^ fxP / ((k + 1) * (k + 2)))

/-- The cosine and the sine of an angle in the first eighth of the circle, `n` of 2^w turns. -/
def trigEighth (w n : Nat) : Int × Int :=
  let x := 2 * piFx * n / 2 ^ w
  let x2 := x * x / 2 ^ fxP
  (trigSeries x2 40 0 (2 ^ fxP), trigSeries x2 40 1 x)

/-- The cosine and the sine in the first quarter. -/
def trigQuarter (w n : Nat) : Int × Int :=
  if 2 ^ (w - 3) < n then ((trigEighth w (2 ^ (w - 2) - n)).2, (trigEighth w (2 ^ (w - 2) - n)).1) else trigEighth w n

/-- The cosine and the sine of `n` of 2^w turns, in units of 2^-256. -/
def cosSinW (w n : Nat) : Int × Int :=
  let q := n / 2 ^ (w - 2) % 4
  let t := trigQuarter w (n % 2 ^ (w - 2))
  if q = 0 then t else if q = 1 then (-t.2, t.1) else if q = 2 then (-t.1, -t.2) else (t.2, -t.1)

/-- The cosine and the sine of `n` of 2^32 turns, in units of 2^-256. [log 63: DEDUCED] -/
def cosSin (n : Nat) : Int × Int := cosSinW 32 n

/-- The cosine and the sine of an angle in turns, to 2^-128 turn. [log 86: DESIGN CHOICE] -/
def cosSinTurn (t : Rat) : Rat × Rat :=
  let c := cosSinW 128 ((t * 2 ^ 128).floor % 2 ^ 128).toNat
  ((c.1 : Rat) / 2 ^ fxP, (c.2 : Rat) / 2 ^ fxP)

/-- The square root of a rational that is not negative: exact where it is rational with the same denominator, else to 2^-128 of that unit. [log 86, 163: DESIGN CHOICE] -/
def sqrtRat (q : Rat) : Rat := (isqrt (q.num.toNat * q.den * 4 ^ 128) : Rat) / (q.den * 2 ^ 128 : Nat)

/-- The series of the arc tangent from term `t / k` on. -/
def atanSeries (x2 : Nat) : Nat → Nat → Nat → Int
  | 0, _, _ => 0
  | fuel + 1, k, t => ((t / k : Nat) : Int) - atanSeries x2 fuel (k + 2) (t * x2 / 2 ^ fxP)

/-- The tangent of half the angle. -/
def halfTan (t : Nat) : Nat := t * 2 ^ fxP / (2 ^ fxP + isqrt (2 ^ (2 * fxP) + t * t))

/-- The arc tangent of `t` in [0, 1], in units of 2^-256: three halvings, then the series. -/
def atanFx (t : Nat) : Nat :=
  let u := halfTan (halfTan (halfTan t))
  (8 * atanSeries (u * u / 2 ^ fxP) 60 1 u).toNat

/-- The angle of (`x`, `y`), both not negative and not both 0, in units of 2^-256 of a turn times `piFx`: the exact eighths where they are
exact. The result is the angle in turns as a fraction of 2^256. -/
def turnsFirst (x y : Nat) : Nat :=
  if y = 0 then 0
  else if x = 0 then 2 ^ fxP / 4
  else if x = y then 2 ^ fxP / 8
  else if y < x then atanFx (y * 2 ^ fxP / x) * 2 ^ fxP / (2 * piFx)
  else 2 ^ fxP / 4 - atanFx (x * 2 ^ fxP / y) * 2 ^ fxP / (2 * piFx)

/-- The angle of the vector (`x`, `y`) in [0, 1) turn, rounded to 2^-32 turn, modulo one turn; 0 for the null vector (R188). [log 63: DEDUCED] -/
def atan2Word (x y : Int) : Word :=
  if x = 0 && y = 0 then 0#32
  else
    let a := turnsFirst x.natAbs y.natAbs
    let t : Int :=
      if 0 ≤ y then (if 0 ≤ x then (a : Int) else 2 ^ fxP / 2 - a)
      else if x < 0 then 2 ^ fxP / 2 + a else 2 ^ fxP - a
    BitVec.ofInt 32 (roundDiv t (2 ^ (fxP - 32)))

/-- The angle of a rational vector as a word (R20, R188). [log 163: DESIGN CHOICE] -/
def angleRat (x y : Rat) : Word := atan2Word (x * 2 ^ fxP).floor (y * 2 ^ fxP).floor

end Sys2Proof.Machine
end

