-- ==== Sys2Proof/Machine/KetOps.lean ====
section
/-!
DEFINITION. Shared operations of the Kettle engines (R135 to R145, R173 to R189): stages and raw words, accumulators, the instruction stream
with its loops and predicates, loads and stores.
-/
namespace Sys2Proof.Machine

def State.bd (s : State) (b : Nat) : Binding := s.ket.bind.at b
def State.ketMod (s : State) (b : Nat) (f : Binding → Binding) : State := { s with ket := { s.ket with bind := s.ket.bind.mod b f } }

/-- The active and the inactive bank (R135). -/
def Binding.bank (x : Binding) : KBank := x.banks.at x.act
def Binding.other (x : Binding) : KBank := x.banks.at (1 - x.act)
def Binding.stage (x : Binding) (i : Nat) : KStage := x.bank.stages.at i
def Binding.modBank (x : Binding) (f : KBank → KBank) : Binding := { x with banks := x.banks.mod x.act f }
def Binding.modStage (x : Binding) (i : Nat) (f : KStage → KStage) : Binding := x.modBank (fun k => { k with stages := k.stages.mod i f })
def Binding.modRun (x : Binding) (f : KRun → KRun) : Binding := { x with run := f x.run }

/-! ## Data memory -/

def Binding.word (x : Binding) (a : Nat) : Word := x.data.get zeroes a
def Binding.setWord (x : Binding) (a : Nat) (v : Word) : Binding := { x with data := x.data.put zeroes a v }

/-- The mantissa and the value of element `i` of stage `sd` (R139). -/
def Binding.mant (x : Binding) (sd i : Nat) : Int := sgn 24 ((x.word ((x.stage sd).base + i)).toNat / 256)
def Binding.elem (x : Binding) (sd i : Nat) : Dy := ⟨x.mant sd i, (x.stage sd).exp - 23⟩

/-- A binding with what an instruction did to it: whether a stage and whether an accumulator saturated (R145). -/
structure KOut where
  x : Binding
  sat : Bool := false
  acc : Bool := false
  deriving DecidableEq, Repr, Inhabited

/-- Element `i` of stage `sd` takes an integer mantissa, saturated (R140, R145). -/
def KOut.putMant (o : KOut) (sd i : Nat) (r : Int) : KOut :=
  let m := satTo 24 r
  let y := o.x.setWord ((o.x.stage sd).base + i) (BitVec.ofNat 32 (lowBits 24 m * 256))
  if r = m then { o with x := y } else { o with x := y.modStage sd (fun t => { t with sat := true }), sat := true }

/-- Element `i` of stage `sd` takes an exact value, rounded and saturated once (R140, R143). -/
def KOut.putElem (o : KOut) (sd i : Nat) (v : Dy) : KOut := o.putMant sd i (shiftRound v.m (v.e - (o.x.stage sd).exp + 23))

/-- Consecutive elements of a stage from element `e0` on. -/
def KOut.putElems (o : KOut) (sd e0 : Nat) (vs : List Dy) : KOut := (vs.zipIdx).foldl (fun p e => p.putElem sd (e0 + e.2) e.1) o

/-- SAT of a stage is set for another reason than a mantissa (R187, R188). -/
def KOut.markSat (o : KOut) (sd : Nat) : KOut := { o with x := o.x.modStage sd (fun t => { t with sat := true }), sat := true }

/-- A result without an element. -/
def KOut.setWord (o : KOut) (a : Nat) (v : Word) : KOut := { o with x := o.x.setWord a v }

/-- Flag `q`; Q0 ignores writes (R173). -/
def KOut.setFlag (o : KOut) (q : Nat) (v : Bool) : KOut :=
  if q = 0 then o
  else { o with x := o.x.modRun (fun r => { r with flags := putFld r.flags ⟨q, 1⟩ (bit v) }) }

/-- The elements of a stage in order. -/
def Binding.elems (x : Binding) (sd n : Nat) : List Dy := (List.range n).map (x.elem sd)

/-! ## Accumulators -/

/-- A product or an accumulator's number of exponent sum `s`, aligned to the exponent `x` (R142). -/
def alignTo (x p s : Int) : Int :=
  if x ≤ s then p * 2 ^ (s - x).toNat else if 56 ≤ x - s then 0 else roundDiv p (2 ^ (x - s).toNat)

/-- One addition into an accumulator; a saturated one keeps its value (R142). -/
def KAcc.add (c : KAcc) (p s : Int) : KAcc :=
  if c.sat then c
  else
    let t := c.a + alignTo c.x p s
    { c with a := satTo 56 t, sat := satTo 56 t != t }

/-- Accumulator `i` of a binding takes an addition. -/
def KOut.accAdd (o : KOut) (i : Nat) (p s : Int) : KOut :=
  let c := o.x.run.acc.at i
  let d := c.add p s
  { o with x := o.x.modRun (fun r => { r with acc := r.acc.mod i (fun _ => d) }), acc := o.acc || (d.sat && !c.sat) }

/-! ## The instruction stream -/

/-- The section table of the part that runs. -/
def Binding.part (x : Binding) : Tab KSection := if x.run.fb then x.bank.fbs else x.bank.secs

/-- The section that runs. -/
def Binding.sec (x : Binding) : KSection := x.part.at ((x.run.due.head?).getD 0)

/-- The sections of a part due in epoch `k` (R147). -/
def dueIn (secs : Tab KSection) (k : Nat) : List Nat :=
  (List.range secs.length).filter (fun i => k % (secs.at i).rate == (secs.at i).phase)

/-- The engine begins the next due section, or has ended (R174, R189). -/
def Binding.beginSec (x : Binding) : Binding :=
  match x.run.due with
  | [] => x.modRun (fun r => { r with ended := true })
  | i :: _ => x.modRun (fun r => { r with pc := (x.part.at i).start, loops := [], acc := List.replicate 4 {}, drain := false, cyc := r.cyc + 4 })

/-- The engine starts an epoch (R146, R147, R174); `pre` cycles of INIT work come first (R162). -/
def Binding.beginEpoch (x : Binding) (k pre : Nat) (fb : Bool) : Binding :=
  let y := { x with run := { active := true, epoch := k, fb := fb, cyc := pre } }
  (y.modRun (fun r => { r with due := dueIn y.part k })).beginSec

/-- The place after an instruction at `pc`: innermost loop bodies that end there repeat or close (R177). -/
def loopNext (pc : Nat) : List KLoop → Nat × List KLoop
  | [] => (pc, [])
  | l :: r =>
    if pc ≠ l.stop then (pc, l :: r)
    else if l.iter + 1 < l.n then (l.first, { l with iter := l.iter + 1 } :: r)
    else loopNext pc r

/-- The engine goes on after an instruction of `cost` cycles (R175). -/
def Binding.stepOn (x : Binding) (cost : Nat) : Binding :=
  let n := loopNext (x.run.pc + 1) x.run.loops
  x.modRun (fun r => { r with pc := n.1, loops := n.2, cyc := r.cyc + cost, drain := n.2.isEmpty && n.1 == x.sec.start + x.sec.count })

/-- The engine is about to execute this word. [log 60: DESIGN CHOICE] -/
def Binding.atWord (x : Binding) (w : Nat) : Bool :=
  x.run.active && !x.run.drain && !x.run.ended && (x.bank.prog.getD x.run.pc 0#64).toNat == w

/-- The predicate of a word (R176). -/
def Binding.takes (x : Binding) (h : KHead) : Bool := x.run.flags.testBit h.qsel.val != h.pn

/-- The J value an index takes (R178). -/
def Binding.jval (x : Binding) (h : KHead) : Nat :=
  if h.jen then
    match x.run.loops.find? (fun l => l.j == h.jsel.val) with
    | some l => l.iter
    | none => 0
  else 0

/-- The sticky bits and the epoch's mark of a saturation (R145). -/
def State.ketSat (s : State) (b : Nat) (sat acc : Bool) : State :=
  let s1 := (s.stickIf sat (Stk.KET_SAT b)).stickIf acc (Stk.KET_ACCSAT b)
  if sat || acc then
    (if (s.bd b).run.sat then s1 else s1.bump (Reg.KET_SATCNT b)).ketMod b (fun x => { x.modRun (fun r => { r with sat := true }) with satEp := true })
  else s1

/-- One instruction of binding `b`: while the engine stands at this word it takes its cycles, and its effect where its predicate holds. [log 60: DESIGN CHOICE] -/
def State.kStep (s : State) (b w : Nat) (h : KHead) (cost : Nat) (eff : State → State) : State :=
  if (s.bd b).atWord w then
    (if (s.bd b).takes h then eff s else s).ketMod b (fun x => x.stepOn cost)
  else s

/-- The effect of an instruction that touches its binding only. -/
def State.kPure (b : Nat) (f : Binding → KOut) (s : State) : State :=
  let o := f (s.bd b)
  (s.ketMod b (fun _ => o.x)).ketSat b o.sat o.acc

/-! ## Vector instructions -/

/-- c of R187. -/
def quarterUp (n : Nat) : Nat := (n + 3) / 4

/-- The second operand of a vector instruction: stage SB, or its one element (R185). -/
def Binding.vecB (x : Binding) (h : KHead) (f : KS) (n : Nat) : List Dy :=
  if f.bcb then List.replicate n (x.elem f.sb.val (f.eb.val + x.jval h)) else x.elems f.sb.val n

/-- An element-wise instruction (R143, R175, R187): every element is read before one is written. -/
def vecOp (op : Dy → Dy → Dy) (h : KHead) (f : KS) (x : Binding) : KOut :=
  let n := (x.stage f.sd.val).len
  (KOut.mk x false false).putElems f.sd.val 0 (List.zipWith op (x.elems f.sa.val n) (x.vecB h f n))

/-- An element-wise instruction of one operand. -/
def vecOp1 (op : Dy → Dy) (f : KS) (x : Binding) : KOut :=
  (KOut.mk x false false).putElems f.sd.val 0 ((x.elems f.sa.val (x.stage f.sd.val).len).map op)

def Dy.max (x y : Dy) : Dy := if x.lt y then y else x
def Dy.min (x y : Dy) : Dy := if y.lt x then y else x

/-- The exponent of a stage changes and its mantissas are rescaled (R144). -/
def rescale (sd : Nat) (e : Int) (x : Binding) : KOut :=
  (KOut.mk (x.modStage sd (fun t => { t with exp := e })) false false).putElems sd 0 (x.elems sd (x.stage sd).len)

/-- The places by which NORM shifts a stage: to the normalised range, and not below exponent -128 (R144). [log 64: DEDUCED] -/
def Binding.normBy (x : Binding) (sd : Nat) : Int :=
  let ms := ((List.range (x.stage sd).len).map (x.mant sd)).filter (fun m => m ≠ 0)
  if ms.isEmpty then 0
  else max 0 (min (ms.foldl (fun k m => min k (normShift m)) 23) ((x.stage sd).exp + 128))

/-! ## The Pantry ports -/

/-- A load of a slot under the working index of the epoch (R33, R146, R181): an uncovered slot reads 0. -/
def State.kLoad (s : State) (b slot : Nat) : State := s.staleCheck slot (2 * (s.bd b).run.epoch)

/-- The destination of a section's stores (R148). -/
def Binding.dest (x : Binding) : Nat := 2 * x.run.epoch + (if x.sec.dst then 1 else 2)

/-- The owner code of binding `b` (R137). -/
def ketOwner (b : Nat) : Nat := 0x10 + b

/-- A store of binding `b`; later instructions of the epoch come later in the owner's order (R32). [log 65: DEDUCED] -/
def State.kStore (s : State) (b slot : Nat) (v : Word) : State :=
  s.panWrite (ketOwner b) slot (s.bd b).run.cyc (s.bd b).dest v

end Sys2Proof.Machine
end

