-- ==== Sys2Proof/Machine/KetEpoch.lean ====
section
/-!
DEFINITION. What happens to the bindings at commits and epoch boundaries (R146 to R169): overruns and fallback, supervision, swaps,
the rotating spare, the status slots, and the reinitialisation of R179.
-/
namespace Sys2Proof.Machine

/-- The bindings of the variant (R5, R137). -/
def State.bindings (s : State) : List Nat := List.range s.engines

/-- The epoch that begins at the present commit, while its boundary is not yet behind: the commit 2k has happened at this GT and epoch k
has not started. -/
def State.openEpoch (s : State) : Option Nat :=
  if s.pan.anyCommit && s.pan.cidx % 2 = 0 && s.gt = s.pan.cinst && !(s.tim.anyEpoch && s.pan.cidx / 2 ≤ s.tim.epDone) then some (s.pan.cidx / 2)
  else none

/-- The epoch that runs (R65). -/
def State.epochNow (s : State) : Nat := s.gt / s.tim.epLen

/-! ## Demands and modes -/

/-- The descriptors whose count is above TIMER (R171). -/
def Binding.fired (x : Binding) : Nat :=
  (x.bank.descs.zipIdx).foldl (fun m (d, i) => if d.en && d.timer < x.feCnt.at i then m + 2 ^ i else m) 0

/-- The binding requests SPO (R155, R159): stopped by escalation, or a descriptor of ACT 3 above its timer; not outside RUN. -/
def State.ketWants (s : State) (b : Nat) : Bool :=
  let x := s.bd b
  s.dev == .run && (x.mode == .stopped || (x.bank.descs.zipIdx).any (fun (d, i) => d.en && d.act = 3 && d.timer < x.feCnt.at i))

/-- The SPO demand of a binding follows its request (R305, cause 10). -/
def State.ketDemand (s : State) (b : Nat) : State := s.demandSet (s.ketWants b) 10 b (s.convsOfLgs (s.regN (Reg.KET_LGMASK b)))

/-- MAIN to FALLBACK (R154). -/
def State.ketFallback (s : State) (b : Nat) : State :=
  if (s.bd b).mode == .main then (s.ketMod b (fun x => { x with mode := .fallback, fbGood := 0 })).stick (Stk.KET_FB b) else s

/-- The fallback that an overrun or a descriptor ordered is due at epoch `k` (R154, R159). [log 70: DEDUCED] -/
def State.ketFbDue (s : State) (b k : Nat) : State :=
  match (s.bd b).fbAt with
  | some e => if e ≤ k then (if s.dev == .run then s.ketFallback b else s).ketMod b (fun x => { x with fbAt := none }) else s
  | none => s

/-! ## Rotation -/

/-- The binding on physical engine `p`. -/
def State.bindOn (s : State) (p : Nat) : Option Nat := s.bindings.find? (fun b => s.ket.phys.at b == some p)

/-- A rotation is aborted without fault (R163, R167). -/
def State.rotAbort (s : State) : State := { s with ket := { s.ket with rot := .idle, donor := none, shadowed := 0 } }

/-- The rotation copies or shadows binding `b`. -/
def State.rotating (s : State) (b : Nat) : Bool :=
  (s.ket.rot == .copy || s.ket.rot == .shadow) && (match s.ket.donor with | some p => s.bindOn p == some b | none => false)

/-! ## Status slots -/

def modeCode : KMode → Nat
  | .idle => 0
  | .main => 1
  | .fallback => 2
  | .stopped => 3

/-- An engine number in a 4-bit field, 0xF for none. -/
def engCode (p : Option Nat) : Nat := p.getD 15

def rotCode : RotStep → Nat
  | .idle => 0
  | .copy => 1
  | .shadow => 2
  | .bist => 3

/-- The word of status slot 0xF020 + b (R169). -/
def State.ketStatus (s : State) (b : Nat) : Word :=
  let x := s.bd b
  w32 (modeCode x.mode + 4 * x.act + 8 * x.shown + 64 * bit x.swapEp + 256 * engCode (s.ket.phys.at b) + 4096 * x.esc)

/-- The word of status slot 0xF02C (R169). -/
def State.rotStatus (s : State) : Word :=
  w32 (engCode s.ket.spare + 16 * engCode s.ket.donor + 256 * rotCode s.ket.rot + 4096 * s.ket.retired)

/-- The status slot of a binding as the boundary's own events leave it: they belong to the commit of this instant (R169). -/
def State.ketRefresh (s : State) (b : Nat) : State :=
  if s.openEpoch.isSome then { s with pan := { s.pan with committed := s.pan.committed.put zeroes (0xF020 + b) (s.ketStatus b) } } else s

/-! ## Overruns -/

/-- The word is a Pantry load (R187). -/
def isLoad (w : DWord) : Bool := let op := w.toNat / 2 ^ 56; op == 0x0B || op == 0x10 || op == 0x11

/-- A load stands in words `a` to `a + n - 1`. -/
def KBank.loadsIn (k : KBank) (a n : Nat) : Bool := ((k.prog.drop a).take n).any isLoad

/-- A Pantry load is still to come in this epoch (R152): in the rest of the section, in a loop that repeats, or in a later section. [log 66: DEDUCED] -/
def Binding.loadLeft (x : Binding) : Bool :=
  (!x.run.drain && (x.bank.loadsIn x.run.pc (x.sec.start + x.sec.count - x.run.pc) ||
      x.run.loops.any (fun l => l.iter + 1 < l.n && x.bank.loadsIn l.first (l.stop - l.first)))) ||
    x.run.due.tail.any (fun i => x.bank.loadsIn (x.part.at i).start (x.part.at i).count)

/-- The physical engine's cluster is below its clock range (R42). [log 67: DEDUCED] -/
def State.clusterBelow (s : State) (b : Nat) : Bool :=
  match s.ket.phys.at b with
  | some p => s.tim.below.testBit (5 + p / 4)
  | none => false

/-- The binding overruns at commit `c` (R152, R42). [log 66, 67: DEDUCED] -/
def State.ketOverruns (s : State) (b c : Nat) : Bool :=
  let x := s.bd b
  let r := x.run
  if c % 2 = 0 then (r.active && 2 * r.epoch + 2 ≤ c) || ((r.active || r.ended) && s.clusterBelow b && 2 * r.epoch + 2 = c)
  else r.active && c = 2 * r.epoch + 1 && (r.due.any (fun i => (x.part.at i).dst) || x.loadLeft)

/-- The first slot of a binding (R137). -/
def ketSlots (b : Nat) : Nat := 0x2000 + 0x1000 * b

/-- The binding's writes for commit `c` and the later ones of its epoch are dropped (R153). -/
def State.ketDrop (s : State) (b c : Nat) : State :=
  { s with pan := { s.pan with pend := s.pan.pend.map (fun e =>
      if c ≤ e.1 then (e.1, e.2.filter (fun w => !(ketSlots b ≤ w.1 && w.1 < ketSlots b + 0x1000))) else e) } }

/-- An overrun (R153, R155, R167): the record names the binding, its engine and the section that ran. -/
def State.ketOverrun (s : State) (b c : Nat) : State :=
  let x := s.bd b
  let k := x.run.epoch
  let secNo := (x.run.due.head?).getD 0
  let s1 := if s.rotating b then s.rotAbort else s
  let s2 := (s1.ketDrop b c).ketMod b (fun y => { y with run := {}, ovrEp := true, ovrAt := some c, good := 0, fbGood := 0, esc := min 15 (y.esc + 1) })
  let s3 := ((s2.stick (Stk.KET_OVR b)).breachOf 4 0 c).bump (Reg.KET_OVRCNT b)
  let s4 := s3.logRec 0x0F (evCode (Stk.KET_OVR b).file 0) [w32 b, w32 (engCode (s.ket.phys.at b)), w32 secNo]
  if s4.dev != .run || x.mode == .stopped then s4
  else if max 1 (s4.fld (Reg.KET_OVRCFG b) F.KET_OVRCFG_SPO_CNT) ≤ (s4.bd b).esc then
    ((s4.ketMod b (fun y => { y with mode := .stopped, fbAt := none })).stick (Stk.KET_SPO_REQ b)).ketDemand b
  else s4.ketMod b (fun y => { y with fbAt := some (k + 1) })

/-- The overrun checks of a commit, and the count of epochs without one (R152, R155). [log 69: DEDUCED] -/
def State.ketChecks (s : State) (c : Nat) : State :=
  s.bindings.foldl (fun t b =>
    if t.ketOverruns b c then t.ketOverrun b c
    else if c % 2 = 0 && t.dev == .run && ((t.bd b).mode == .main || (t.bd b).mode == .fallback) && (t.bd b).run.ended && 2 * (t.bd b).run.epoch + 2 = c then
      t.ketMod b (fun x => { x with good := x.good + 1, fbGood := x.fbGood + 1 })
    else t) s

/-- The status bits of the epoch that ended are taken for the slot (R169). -/
def State.ketShow (s : State) (b : Nat) : State :=
  s.ketMod b (fun x => { x with shown := bit x.ovrEp + 2 * bit x.satEp + 4 * bit x.feEp, ovrEp := false, satEp := false, feEp := false, swapEp := false })

/-! ## Following-error supervision -/

/-- The epoch exceeds the limit of a descriptor (R158). [log 75: DEDUCED] -/
def State.feExceeds (s : State) (d : KDesc) : Bool :=
  if d.angle then d.lim.toNat < ((s.slot d.ref - s.slot d.fb).toInt).natAbs
  else (bfVal d.lim).lt ((bfVal (s.slot d.ref)).add (bfVal (s.slot d.fb)).neg).abs

/-- The count of a descriptor after this epoch (R158). [log 75: DEDUCED] -/
def State.feNext (s : State) (d : KDesc) (n : Nat) : Nat :=
  if s.fresh d.ref && s.fresh d.fb then (if s.feExceeds d then min 65535 (n + 1) else 0)
  else if d.freshReq then min 65535 (n + 1) else n

/-- A descriptor fires (R159). -/
def State.feFire (s : State) (b i k : Nat) (d : KDesc) : State :=
  if d.act = 0 then s
  else
    let s1 := ((s.stick (Stk.KET_FOLLOW b)).ketMod b (fun x => { x with feEp := true })).logRec 0x0F (evCode (Stk.KET_FOLLOW b).file 1)
      ([w32 i, s.slot d.ref, s.slot d.fb] ++ cidxWords (2 * k))
    let s2 := if 2 ≤ d.act && (s1.bd b).mode == .main && (s1.bd b).fbAt.isNone then s1.ketMod b (fun x => { x with fbAt := some (k + 1) }) else s1
    if d.act = 3 then s2.stick (Stk.KET_SPO_REQ b) else s2

/-- Supervision of binding `b` on the values committed at 2k (R158). -/
def State.supervise (s : State) (b k : Nat) : State :=
  ((((s.bd b).bank.descs.zipIdx).foldl (fun t e =>
    if e.1.en then
      let n := (t.bd b).feCnt.at e.2
      let m := t.feNext e.1 n
      let t1 := t.ketMod b (fun x => { x with feCnt := x.feCnt.mod e.2 (fun _ => m) })
      if m = e.1.timer + 1 && n ≠ m then t1.feFire b e.2 k e.1 else t1
    else t) s)).ketDemand b

/-! ## Initialisation and the start of an epoch -/

/-- An address lies in an INIT range. -/
def KBank.inInit (k : KBank) (a : Nat) : Bool := k.dmap.any (fun r => r.init && r.first ≤ a && a ≤ r.last)

/-- The words of all INIT ranges (R196). -/
def KBank.initWords (k : KBank) : Nat := (k.dmap.filter (fun r => r.init)).foldl (fun n r => n + (r.last - r.first + 1)) 0

/-- Data memory from the image alone (R179). -/
def KBank.fresh (k : KBank) : Store 32 := k.inits.foldl (fun (m : Store 32) e => m.put zeroes e.1 e.2) []

/-- Reinitialisation on entry to RUN (R179). Stage SAT bits stay. [log 73: DEDUCED] -/
def Binding.reinit (x : Binding) : Binding :=
  (({ x with data := x.bank.fresh, feCnt := List.replicate 32 0, run := {}, mode := .main, esc := 0, good := 0, fbGood := 0, fbAt := none,
             ovrAt := none, modeCmd := none } : Binding)).modBank (fun k => { k with stages := k.stages.map (fun t => { t with exp := t.decl }) })

/-- A binding takes part in RUN (R171, R164). -/
def State.ketEnabled (s : State) (b : Nat) : Bool := s.flag (Reg.KET_BCTRL b) F.KET_BCTRL_RUN_EN && (s.ket.phys.at b).isSome

def State.ketReinit (s : State) : State :=
  s.bindings.foldl (fun t b => if t.ketEnabled b && (t.bd b).bank.mark then t.ketMod b Binding.reinit else t) s

/-- RUN is left (R156, R158, R163, R167): bindings go IDLE, pending mode commands end, requests end. -/
def State.ketLeave (s : State) : State :=
  let s1 := if s.ket.rot == .copy || s.ket.rot == .shadow then s.rotAbort else s
  s1.bindings.foldl (fun t b =>
    let t1 := match (t.bd b).modeCmd with
      | some m => t.finish m.tag stBusy (cidx := m.epoch)
      | none => t
    (t1.ketMod b (fun x => { x with mode := .idle, modeCmd := none, fbAt := none })).demandDrop 10 b) s1

/-- An epoch begins for binding `b` (R146, R154, R162). [log 72: DEDUCED] -/
def State.ketStart (s : State) (b k : Nat) : State :=
  let s1 := s.ketFbDue b k
  let x := s1.bd b
  let pre := if x.swapEp then (x.bank.initWords + 3) / 4 else 0
  if s1.dev == .run && (x.mode == .main || x.mode == .fallback) then
    (s1.ketRefresh b).ketMod b (fun y => y.beginEpoch k pre (x.mode == .fallback))
  else s1.ketRefresh b

/-! ## Swaps -/

/-- A stage lies in KEEP ranges or in no range (R162). [log 72: DEDUCED] -/
def KBank.keepStage (k : KBank) (t : KStage) : Bool :=
  !(k.dmap.any (fun r => r.init && r.first < t.base + t.len && t.base ≤ r.last))

/-- The stage of a bank with the same place. -/
def KBank.match_ (k : KBank) (t : KStage) : Option KStage := k.stages.find? (fun u => u.base = t.base && u.len = t.len)

/-- Every KEEP stage of the new bank has its match in the old one, or the old bank holds no image (R162, R201). -/
def keepMatches (old new : KBank) : Bool := !old.loaded || new.stages.all (fun t => !new.keepStage t || (old.match_ t).isSome)

/-- The banks exchange and the data map is applied (R161, R162). [log 72: DEDUCED] -/
def Binding.exchange (x : Binding) : Binding :=
  let old := x.bank
  let new := x.other
  let cleared : Store 32 := x.data.filter (fun e => !new.inInit e.1)
  let filled : Store 32 := new.inits.foldl (fun (m : Store 32) e => m.put zeroes e.1 e.2) cleared
  let stages := new.stages.map (fun t =>
    let m := old.match_ t
    { t with exp := (if old.loaded && new.keepStage t then ((m.map (fun u => u.exp)).getD t.decl) else t.decl), sat := ((m.map (fun u => u.sat)).getD false) })
  { x with act := 1 - x.act, data := filled, banks := x.banks.mod (1 - x.act) (fun k => { k with stages := stages }), swapEp := true,
           mode := if x.mode == .fallback then .main else x.mode, swap := none }

/-- A swap is cancelled (R163). -/
def State.swapCancel (s : State) (b : Nat) (q : KSwap) (status : Nat) : State :=
  ((s.ketMod b (fun x => { x with swap := none })).stick (Stk.KET_SWAP_CANCEL b)).finishOpt q.tag status q.epoch

/-- The swap of binding `b` at the boundary of its epoch `k` (R161, R163). [log 71: DEDUCED] -/
def State.swapDo (s : State) (b : Nat) (q : KSwap) : State :=
  let x := s.bd b
  if x.ovrAt = some (2 * q.epoch) then s.swapCancel b q stSafety
  else if x.mode == .stopped then (s.ketMod b (fun y => { y with swap := none })).finishOpt q.tag stBusy q.epoch
  else if !x.other.mark then s.swapCancel b q stRange
  else
    let s1 := s.ketMod b Binding.exchange
    let s2 := if x.mode == .fallback then s1.logRec 0x0F (evCode 0xFF 3) [] else s1
    let s3 := if s.rotating b then s2.rotAbort.logRec 0x0F (evCode 0xFF 4) [] else s2
    let s4 := (s3.logRec 0x0F (evCode 0xFF 2) (cidxWords q.epoch ++ [x.bank.crc, x.other.crc])).ketRefresh b
    -- a swap that a command asked for is kept in the configuration store (R461)
    { s4.finishOpt q.tag stOk q.epoch with fw := { s4.fw with rewrite := s4.fw.rewrite || q.tag.isSome } }

/-- Whether a swap request for epoch `e` may be scheduled (R161, R163, R201), as a status. [log 201: DEDUCED] -/
def State.swapStatus (s : State) (b : Nat) : Nat :=
  let x := s.bd b
  if x.swap.isSome || x.mode == .stopped then stBusy
  else if !keepMatches x.bank x.other then stRange
  else stOk

/-! ## Registers of the bindings and engines -/

/-- KET_BSTAT as it reads (R171). -/
def State.ketBstat (s : State) (b : Nat) : Word :=
  let x := s.bd b
  w32 (modeCode x.mode + 16 * x.act + 32 * bit (x.banks.at 0).mark + 64 * bit (x.banks.at 1).mark + 128 * bit x.swap.isSome + 256 * x.esc)

/-- KET_PC and KET_PSTAT of engine `p` as they read (R172). -/
def State.ketPc (s : State) (p : Nat) : Word :=
  match s.bindOn p with
  | some b =>
    let x := s.bd b
    if x.run.active then w32 (x.run.pc + 2 ^ 16 * ((x.run.due.head?).getD 0) + 2 ^ 24 * x.act) else w32 (2 ^ 24 * x.act)
  | none => 0#32

def State.ketRole (s : State) (p : Nat) : Nat :=
  if s.ket.retired.testBit p then 6
  else if s.ket.testing = some p then 5
  else if s.ket.spare = some p then (match s.ket.rot with | .copy => 3 | .shadow => 4 | _ => 2)
  else match s.bindOn p with
    | some b => if s.ketEnabled b then 1 else 0
    | none => 0

def State.ketPstat (s : State) (p : Nat) : Word := w32 (s.ketRole p + 256 * engCode (s.bindOn p))

/-- The stage and descriptor registers of engine `p` (R172): those of the active bank of the binding it runs. -/
def State.ketStageReg (s : State) (p i : Nat) : Word :=
  match s.bindOn p with
  | some b => match (s.bd b).bank.stages[i]? with
    | some t => w32 (t.base + 2 ^ 16 * (t.len - 1) + 2 ^ 31 * bit t.sat)
    | none => 0#32
  | none => 0#32

def State.ketExpReg (s : State) (p i : Nat) : Word :=
  match s.bindOn p with
  | some b => match (s.bd b).bank.stages[i]? with
    | some t => w32 (lowBits 8 t.exp + 256 * lowBits 8 t.decl)
    | none => 0#32
  | none => 0#32

/-- Word `w` (0 SLOT, 1 LIM, 2 CFG, 3 CNT) of descriptor `i` of engine `p`. -/
def State.ketDescReg (s : State) (p i w : Nat) : Word :=
  match s.bindOn p with
  | some b => match (s.bd b).bank.descs[i]? with
    | some d =>
      if w = 0 then w32 (d.ref + 65536 * d.fb) else if w = 1 then d.lim
      else if w = 2 then w32 (d.timer + 2 ^ 16 * d.act + 2 ^ 20 * bit d.angle + 2 ^ 21 * bit d.freshReq + 2 ^ 24 * bit d.en)
      else w32 ((s.bd b).feCnt.at i)
    | none => 0#32
  | none => 0#32

/-- Stage SAT bits are cleared through the window (R172). [log 73: DEDUCED] -/
def State.ketClearSat (s : State) (p i : Nat) : State :=
  match s.bindOn p with
  | some b => s.ketMod b (fun x => x.modStage i (fun t => { t with sat := false }))
  | none => s

/-- A retired engine leaves its binding to the spare, or without an engine (R164, R458). [log 79: DEDUCED] -/
def State.retireTake (s : State) (p : Nat) : State :=
  let k := if s.ket.spare = some p then { s.ket with spare := none, rot := .idle, donor := none } else s.ket
  match s.bindOn p with
  | some b => { s with ket := { k with phys := k.phys.mod b (fun _ => k.spare), spare := none, rot := .idle, donor := none } }
  | none => { s with ket := k }

/-- KET_SPARECFG acts (R164): the first spare, whose binding is vacant; without it every binding runs on its own engine. -/
def State.ketSpareSet (s : State) : State :=
  if s.variant != .egx192 then s
  else
    let t : State :=
      if s.flag Reg.KET_SPARECFG F.KET_SPARECFG_EN then
        let p := min 11 (s.fld Reg.KET_SPARECFG F.KET_SPARECFG_FIRST)
        { s with ket := { s.ket with spare := some p, donor := none, rot := .idle, testing := none, rotAt := s.gt,
                                     phys := (List.range 12).map (fun b => if b = p then none else some b) } }
      else { s with ket := { s.ket with spare := none, donor := none, rot := .idle, testing := none, phys := (List.range 12).map some } }
    (bitsOf 12 s.ket.retired).foldl (fun x p => x.retireTake p) t

end Sys2Proof.Machine
end

