-- ==== Sys2Proof/Machine/SafetyFns.lean ====
section
/-!
DEFINITION. The safety monitor's functions: delays, limit functions, inputs, outputs, telegrams and diagnostics (R303 to R325).
-/
namespace Sys2Proof.Machine

def State.safeMod (s : State) (f : SafeState → SafeState) : State := { s with safe := f s.safe }

/-- The monitor has its supply (R301). -/
def State.safeOn (s : State) : Bool := s.dev != .dormant

/-! ## Limit functions (R310 to R312) -/

/-- The SPO cause of limit function `k`: SLC, SLS, SLA, SDI (R305). -/
def limitCause (k : Nat) : Nat := 6 + k

/-- The value of a slot, of a limit, and of an angle in turns (R18, R20, R311). -/
def State.slotRat (s : State) (n : Nat) : Rat := (bfVal (s.slot n)).toRat
def limOf (f : LimitFn) (i : Nat) : Rat := (bfVal (f.lims.getD i 0#32)).toRat
def limSlot (f : LimitFn) (i : Nat) : Nat := f.slots.getD i 0
def angTurns (w : Word) : Rat := (w.toInt : Rat) / 2 ^ 32

/-- A violation of the limit test, and of the cross-check, of one evaluation (R311). -/
structure LimitTest where
  viol : Bool := false
  cross : Bool := false
  deriving DecidableEq, Repr

/-- The tests of function `k` of converter `v` on the committed values (R311, R312). Limits by function: SLC I_LIM, I_SUM; SLS F_HI, F_LO,
F_XTOL, F_N; SLA A_LIM, A_XTOL (angles); SDI P_DB. -/
def State.limitTest (s : State) (v k : Nat) (f : LimitFn) : LimitTest :=
  match k with
  | 0 =>
    let i := fun j => s.slotRat ((limSlot f j))
    let ab := fun (x : Rat) => if x < 0 then -x else x
    { viol := decide ((limOf f 0) < ab (i 0)) || decide ((limOf f 0) < ab (i 1)) || decide ((limOf f 0) < ab (i 2)),
      cross := decide ((limOf f 1) < ab (i 0 + i 1 + i 2)) }
  | 1 =>
    let fn := (limOf f 3)
    let x := s.slotRat ((limSlot f 0))
    let d := if f.mode = 0 then x - fn else (x - 1) * fn
    let m := s.safe.fmon.at v
    let dm := m.f - fn
    let out := fun (y : Rat) => decide ((limOf f 0) < y) || decide (y < (limOf f 1))
    { viol := out d || (m.valid && out dm), cross := m.valid && (decide ((limOf f 2) < d - dm) || decide ((limOf f 2) < dm - d)) }
  | 2 =>
    let a := fun j => s.slot ((limSlot f j))
    let ab := fun (w : Word) => if w.toInt < 0 then -w.toInt else w.toInt
    { viol := decide ((f.lims.getD 0 0#32).toInt < ab (a 0)),
      cross := decide ((f.lims.getD 1 0#32).toInt < ab (a 0 - (a 1 - a 2))) }
  | _ =>
    let p := (List.range 3).foldl (fun acc j => acc + s.slotRat ((limSlot f j)) * s.slotRat ((limSlot f (j + 3)))) (0 : Rat)
    { viol := if f.mode = 1 then decide (p < -(limOf f 0)) else if f.mode = 2 then decide ((limOf f 0) < p) else false }

/-- How many failing cross-checks in a row are a violation: 8 evaluations, or 100 ms for SLS (R311). [log 133: DEDUCED] -/
def State.crossMax (s : State) (k : Nat) : Nat := if k = 1 then (100 * tickMs + s.tim.epLen - 1) / s.tim.epLen else 8

/-- One evaluation of function `k` of converter `v` (R310). [log 133: DEDUCED] -/
def State.limitFn (s : State) (v k : Nat) (c : SafeConv) (f : LimitFn) : State :=
  if !f.on then s
  else
    let q := (s.safe.limits.at v).getD k {}
    let put := fun (q2 : LimitCount) => s.safeMod (fun x => { x with limits := x.limits.mod v (fun l => l.set k q2) })
    if f.slots.any (fun n => !s.fresh n) then
      let q2 := { q with stale := min 16 (q.stale + 1) }
      if c.staleN ≤ q2.stale then ((put q2).stick Stk.SAFE_STALE).demandSet true (limitCause k) 0 (2 ^ v) else put q2
    else
      let r := s.limitTest v k f
      let n := if r.viol then q.n + 1 else 0
      let x := if r.cross then q.cross + 1 else 0
      let t := put { n := n, stale := 0, cross := x }
      let bad := s.crossMax k ≤ x
      (t.stickIf bad Stk.SAFE_PLAUS).demandSet (bad || f.t ≤ n) (limitCause k) 0 (2 ^ v)

/-- The monitor's frequency of converter `v` after a commit (R312). [log 134: DEDUCED] -/
def State.freqMon (s : State) (v : Nat) (f : LimitFn) : State :=
  let m := s.safe.fmon.at v
  let vs := (limSlot f 1)
  let w := s.slot vs
  let aged := m.valid && s.gt ≤ m.validAt + 30 * tickMs
  let m2 : FreqMon :=
    if !s.fresh vs then { m with valid := aged }
    else
      let y0 := (bfVal m.lastV).toRat
      let y1 := (bfVal w).toRat
      let m1 := { m with have_ := true, lastV := w, lastGt := s.gt, valid := aged }
      if m.have_ && decide (y0 < 0) && decide (0 ≤ y1) then
        let z : Rat := (m.lastGt : Rat) + ((s.gt : Rat) - m.lastGt) * (-y0) / (y1 - y0)
        match m.cross with
        | none => { m1 with cross := some z }
        | some z0 =>
          let fr := (tickSec : Rat) / (z - z0)
          if decide ((limOf f 3) - 15 ≤ fr) && decide (fr ≤ (limOf f 3) + 15) then { m1 with cross := some z, f := fr, validAt := s.gt, valid := true }
          else { m1 with cross := some z }
      else m1
  s.safeMod (fun x => { x with fmon := x.fmon.mod v (fun _ => m2) })

/-- The evaluations at an epoch-boundary commit in RUN (R310). -/
def State.limitEval (s : State) : State :=
  if s.dev != .run || !s.safe.inForce then s
  else
    let s1 := s.safeMod (fun x => { x with lastEval := s.gt })
    (s.safe.cfg.convs.zipIdx).foldl (fun t (c, v) =>
      let t1 := match c.fns[1]? with
        | some f => if f.on then t.freqMon v f else t
        | none => t
      (c.fns.zipIdx).foldl (fun u (f, k) => u.limitFn v k c f) t1) s1

/-- Outside RUN the counts are held at 0, and the demands of the limit functions end (R310). -/
def State.limitReset (s : State) : State :=
  let s1 := s.safeMod (fun x => { x with limits := List.replicate 12 (List.replicate 4 {}), fmon := List.replicate 12 {} })
  (List.range 4).foldl (fun t k => t.demandDrop (limitCause k) 0) s1

/-- MISSING_COMMIT_TIMEOUT (R310): no commit for STALE_N epochs counts as stale evaluations. -/
def execMissingCommitTimeout (v : Fin 12) (s : State) : Host.Outcome State Fault Refusal :=
  .next (match s.safe.cfg.convs[v.val]? with
    | none => s
    | some c =>
      if s.dev != .run || !s.safe.inForce || !c.fns.any (fun f => f.on) then s
      else
        let t := (s.gtTo (s.safe.lastEval + c.staleN * s.tim.epLen)).stick Stk.SAFE_STALE
        (c.fns.zipIdx).foldl (fun u (f, k) => if f.on then u.demandSet true (limitCause k) 0 (2 ^ v.val) else u) t)

/-! ## Delays and the safe state -/

/-- OFFDLY_EXPIRE (R308): SPO of a converter has been latched for OFFDLY. [log 132: DESIGN CHOICE] -/
def execOffdlyExpire (v : Fin 12) (s : State) : Host.Outcome State Fault Refusal :=
  .next (match s.safe.cfg.convs[v.val]? with
    | none => s
    | some c =>
      if !s.safe.inForce || !s.spoLatched v || c.offDly = 0xFFFF then s
      else ((s.gtTo (s.safe.spoAt.at v + c.offDly * tickMs)).safeMod (fun x => { x with offDone := x.offDone.mod v (fun _ => true) })).soutCheck)

/-- MONITOR_INTERNAL_FAULT (R309). -/
def execMonitorInternalFault (s : State) : Host.Outcome State Fault Refusal := .next (if s.safeOn then s.safeState else s)

/-- MONITOR_DIAGNOSTIC (R324): a diagnostic ran; a failed one brings the safe state. -/
def execMonitorDiagnostic (elem : MonDiag) (ok : Bool) (s : State) : Host.Outcome State Fault Refusal :=
  .next (if !s.safeOn then s
    else
      let t := if elem = .oscillator then s.setFld Reg.SAFE_STAT F.SAFE_STAT_OSC_OK (bit ok) else s
      if ok then t else t.safeState)

/-- PAD_READBACK_MISMATCH (R324, R305): a GCMD pad disagrees with its command, or agrees again. [log 138: DEDUCED] -/
def execPadReadbackMismatch (n : Fin 192) (agree : Bool) (s : State) : Host.Outcome State Fault Refusal :=
  .next (if !s.safeOn then s
    else
      let cs := match s.convOf (lgOf n) with | some v => 2 ^ v | none => 0xFFF
      if agree then (s.safeMod (fun x => { x with mismatch := x.mismatch.filter (fun m => m ≠ n.val) })).demandDrop 14 n
      else
        let ms := s.safe.mismatch.filter (fun m => m ≠ n.val) ++ [n.val]
        (s.safeMod (fun x => { x with mismatch := ms })).demandSet true 14 n cs)

/-! ## Safety inputs (R313 to R316) -/

/-- The class of a pin voltage in microvolts (R313). -/
def sinClass (uv : Int) : SinClass :=
  if uv < 100000 then .shortGnd
  else if 150000 ≤ uv && uv ≤ 450000 then .closed
  else if 2200000 ≤ uv && uv ≤ 2950000 then .openLoop
  else if 3050000 < uv then .high
  else .invalid

def SinClass.code : SinClass → Nat
  | .shortGnd => 0
  | .closed => 1
  | .openLoop => 2
  | .high => 3
  | .invalid => 4

/-- A class that is a fault of its channel (R315). -/
def SinChan.bad (c : SinChan) : Bool := c.known && (c.test || c.cls == .shortGnd || c.cls == .high || c.cls == .invalid)

/-- The register of a pair follows its state (R327). -/
def State.sinView (s : State) (i : Nat) : State :=
  let p := s.safe.sin.at i
  s.setRegN (Reg.SAFE_SIN i) (p.a.cls.code + 16 * p.b.cls.code + 2 ^ 8 * bit (s.pairPermit i) + 2 ^ 9 * bit p.fault + 2 ^ 10 * bit p.disc +
    2 ^ 11 * bit p.rev)

def State.pairMod (s : State) (i : Nat) (f : SinPair → SinPair) : State := s.safeMod (fun x => { x with sin := x.sin.mod i f })

/-- The pair acts on what it reads: SPO and outputs for FUNC 1, a reset for FUNC 2 (R315, R316). [log 135: DEDUCED] -/
def State.pairAct (s : State) (i : Nat) (was : Bool) : State :=
  let c := s.safe.cfg.pairs.getD i {}
  let now := s.pairPermit i
  let p := s.safe.sin.at i
  if c.func = 1 then ((s.demandSet (!now) 3 i c.convs).soutCheck).sinView i
  else if c.func = 2 then
    if now && !was then (s.pairMod i (fun x => { x with permitFrom := some s.gt })).sinView i
    else if !now && was then
      let s1 := s.pairMod i (fun x => { x with permitFrom := none })
      match p.permitFrom with
      | some t =>
        if !p.fault && !p.disc && t + 100 * tickMs ≤ s.gt && s.gt ≤ t + 5 * tickSec then
          ((bitsOf 12 c.convs).foldl (fun u v => if u.spoClearable v then u.spoClear v else u) s1).sinView i
        else s1.sinView i
      | none => s1.sinView i
    else s.sinView i
  else s.sinView i

/-- The pair is evaluated after a change of one of its channels (R315). [log 135: DEDUCED] -/
def State.pairEval (s : State) (i : Nat) (was : Bool) : State :=
  let c := s.safe.cfg.pairs.getD i {}
  let p := s.safe.sin.at i
  let pa := p.a.permits true
  let pb := p.b.permits (!c.antiv)
  let bad := p.a.bad || p.b.bad
  let disc := c.disc * tickMs
  let late := match p.discFrom with | some t => t + disc < s.gt | none => false
  let from_ := if pa != pb then (if p.discFrom.isSome then p.discFrom else some s.gt) else none
  let latched := p.fault || p.disc
  -- a latched fault ends after both channels have read demand and then both read permit, each within DISC of the other (R315)
  let saw := latched && ((p.sawDemand && !(late && pa != pb)) || (!pa && !pb && !late && p.a.known && p.b.known))
  let clear := p.sawDemand && pa && pb && !late && !bad
  let inv := c.antiv && p.a.known && p.b.known && p.a.cls == .openLoop && p.b.cls == .closed
  let revFrom := if inv then (if p.revFrom.isSome then p.revFrom else some s.gt) else none
  let rev := inv && (match p.revFrom with | some t => t + disc < s.gt | none => false)
  let s1 := s.pairMod i (fun x => { x with discFrom := from_, fault := (x.fault && !clear) || bad, disc := x.disc && !clear,
                                           sawDemand := saw && !clear, revFrom := revFrom, rev := rev })
  let s2 := (s1.stickIf (bad && !p.fault) Stk.SIN_FAULT).stickIf (rev && !p.rev) Stk.SIN_REVERSED
  s2.pairAct i was

/-- A sample of a channel: a class is accepted after three equal samples in a row (R313). [log 135: DEDUCED] -/
def SinChan.sample (c : SinChan) (cl : SinClass) : SinChan :=
  let n := if cl == c.lastClass && c.same ≠ 0 then min 3 (c.same + 1) else 1
  { c with lastClass := cl, same := n, cls := if n = 3 then cl else c.cls, known := c.known || n = 3 }

/-- SIN_SAMPLE (R313, R315, R316). -/
def execSinSample (i : Fin 8) (chB : Bool) (uv : Int) (s : State) : Host.Outcome State Fault Refusal :=
  .next (if !s.safeOn || !s.safe.inForce || (s.safe.cfg.pairs.getD i {}).func = 0 then s
    else
      let was := s.pairPermit i
      (s.pairMod i (fun p => if chB then { p with b := p.b.sample (sinClass uv) } else { p with a := p.a.sample (sinClass uv) })).pairEval i was)

/-- SIN_TEST_SLOT (R314): with the source off the pin must fall below 0.10 V. -/
def execSinTestSlot (i : Fin 8) (chB : Bool) (uv : Int) (s : State) : Host.Outcome State Fault Refusal :=
  .next (if !s.safeOn || !s.safe.inForce || (s.safe.cfg.pairs.getD i {}).func = 0 then s
    else
      let was := s.pairPermit i
      let bad := decide (100000 ≤ uv)
      (s.pairMod i (fun p => if chB then { p with b := { p.b with test := bad } } else { p with a := { p.a with test := bad } })).pairEval i was)

/-- SIN_DISCREPANCY_TIMEOUT (R315): the second channel does not follow within DISC, or an ANTIV pair stays reversed. [log 132: DESIGN CHOICE] -/
def execSinDiscrepancyTimeout (i : Fin 8) (s : State) : Host.Outcome State Fault Refusal :=
  .next (let c := s.safe.cfg.pairs.getD i {}
    let p := s.safe.sin.at i
    if !s.safeOn || !s.safe.inForce || c.func = 0 then s
    else match p.discFrom with
      | some t =>
        let was := s.pairPermit i
        let u := (s.gtTo (t + c.disc * tickMs)).pairMod i (fun x => { x with disc := true, sawDemand := false, discFrom := none })
        (u.stick Stk.SIN_DISC).pairAct i was
      | none =>
        match p.revFrom with
        | some t =>
          if p.rev then s
          else
            let was := s.pairPermit i
            let u := (s.gtTo (t + c.disc * tickMs)).pairMod i (fun x => { x with rev := true })
            (u.stick Stk.SIN_REVERSED).pairAct i was
        | none => s)

/-! ## Safety outputs (R317 to R319) -/

def State.soutMod (s : State) (j : Nat) (f : SoutState → SoutState) : State := s.safeMod (fun x => { x with sout := x.sout.mod j f })

/-- SOUT_SWITCH_ON (R318): an output that may be energised switches on, its low side first. -/
def execSoutSwitchOn (j : Fin 4) (s : State) : Host.Outcome State Fault Refusal :=
  .next (if (s.safe.sout.at j).cmd || !s.outAllowed j then s
    else
      let t := s.soutMod j (fun o => { o with cmd := true, lClosed := true, lAt := s.gt })
      (t.setFld (Reg.SAFE_SOUT j) F.SAFE_SOUT_CMD 1).setFld (Reg.SAFE_SOUT j) F.SAFE_SOUT_L_RB 1)

/-- SOUT_H_CLOSE (R318): the high side follows 50 us later. -/
def execSoutHClose (j : Fin 4) (s : State) : Host.Outcome State Fault Refusal :=
  .next (let o := s.safe.sout.at j
    if !o.cmd || o.hClosed then s
    else
      let t := (s.gtTo (o.lAt + 50 * tickUs)).soutMod j (fun x => { x with hClosed := true })
      t.setFld (Reg.SAFE_SOUT j) F.SAFE_SOUT_H_RB 1)

/-- An output fault latches: both switches open and SPO with cause 13 (R319). -/
def State.soutFault (s : State) (j kind : Nat) : State :=
  let s1 := (s.soutOff j).soutMod j (fun o => { o with fault := kind, testPassed := false })
  let s2 := (s1.setFld (Reg.SAFE_SOUT j) F.SAFE_SOUT_FAULT 1).setFld (Reg.SAFE_SOUT j) F.SAFE_SOUT_KIND kind
  (s2.stick Stk.SOUT_FAULT).demandSet true 13 j (s.safe.cfg.outs.getD j {}).spo

/-- SOUT_TEST (R319): a test of an output's switches passed (0) or found a fault of kind 1 to 6. -/
def execSoutTest (j : Fin 4) (kind : Fin 7) (s : State) : Host.Outcome State Fault Refusal :=
  .next (if !s.safeOn || !s.safe.inForce || s.safe.cfg.outs.length ≤ j.val then s
    else if kind.val ≠ 0 then s.soutFault j kind
    else if (s.safe.sout.at j).fault ≠ 0 && !(s.safe.sout.at j).cmd then s.soutMod j (fun o => { o with testPassed := true })
    else s)

/-- SOUT_CURRENT_LIMIT (R319, R528): a current limit that lasts longer than 100 us is an output fault; its KIND is not stated. [log 136: DESIGN CHOICE] -/
def execSoutCurrentLimit (j : Fin 4) (s : State) : Host.Outcome State Fault Refusal :=
  .next (if !s.safeOn || !(s.safe.sout.at j).cmd then s
    else s.freeStep.soutFault j (1 + s.freeNow.toNat % 6))

/-- The fault of an output clears once a later off-state test has passed (R319). -/
def State.soutClearable (s : State) (j : Nat) : Bool := (s.safe.sout.at j).fault ≠ 0 && (s.safe.sout.at j).testPassed
def State.soutClear (s : State) (j : Nat) : State :=
  if !s.soutClearable j then s
  else
    let s1 := s.soutMod j (fun o => { o with fault := 0, testPassed := false })
    ((s1.setFld (Reg.SAFE_SOUT j) F.SAFE_SOUT_FAULT 0).setFld (Reg.SAFE_SOUT j) F.SAFE_SOUT_KIND 0).demandDrop 13 j

/-! ## Safe communication (R320 to R323) -/

def State.rxMod (s : State) (r : Nat) (f : RxState → RxState) : State := s.safeMod (fun x => { x with rx := x.rx.mod r f })
def State.rxCfg (s : State) (r : Nat) : SafeConn := s.safe.cfg.rx.getD r {}

/-- The register of a connection follows its state (R327). -/
def State.rxView (s : State) (r : Nat) : State :=
  let x := s.safe.rx.at r
  let n := (x.errs.filter (fun t => s.gt < t + tickSec)).length
  (s.setRegN (Reg.SAFE_RX r) (x.st + 2 ^ 8 * min 255 n)).setRegN (Reg.SAFE_RXSEQ r) x.lastSeq

/-- The demands of connection `r`: cause 5 outside RUN, cause 4 for the permit bits that are 0 in RUN (R305, R321). -/
def State.rxDemand (s : State) (r : Nat) : State :=
  let x := s.safe.rx.at r
  let m := (s.rxCfg r).convs % 2 ^ 12
  let s1 := s.demandSet (x.st ≠ 2) 5 r m
  let want := if x.st = 2 then m &&& (0xFFF - x.permits % 2 ^ 12) else 0
  let s2 := if s1.safe.demands.any (fun d => d.cause = 4 && d.src = r && d.convs = want) then s1 else (s1.demandDrop 4 r).demandSet (want ≠ 0) 4 r want
  (s2.soutCheck).rxView r

/-- FAIL: the sticky bit, a pinned record, SPO with cause 5, and back to WAIT at once (R323). -/
def State.rxFail (s : State) (r : Nat) (k : Stk) : State :=
  let s1 := (s.stick k).logRec 0x07 (evCode k.file 1) [w32 r] true
  let s2 := s1.rxMod r (fun x => { x with st := 1, base := false, permits := 0 })
  s2.rxDemand r

/-- An error: counted, and more than ERRMAX of them within 1 s in RUN fail the connection (R322, R323). [log 137: DEDUCED] -/
def State.rxError (s : State) (r : Nat) : State :=
  let s1 := (s.bump (Reg.SAFE_RXERR r)).rxMod r (fun x => { x with errs := x.errs.filter (fun t => s.gt < t + tickSec) ++ [s.gt] })
  let x := s1.safe.rx.at r
  if x.st = 2 && (s.rxCfg r).errMax < x.errs.length then s1.rxFail r Stk.SAFECOM_ERR else s1.rxView r

/-- The sequence number after `n`: 0 is skipped (R321). -/
def seqNext (n : Nat) : Nat := if n = 0xFFFFFFFF then 1 else n + 1

/-- The step from the last sequence number (R322). [log 137: DEDUCED] -/
def seqStep (last seq : Nat) : Nat := (seq + 2 ^ 32 - last) % 2 ^ 32 - bit (seq < last)

/-- A telegram passes its age check (R322). -/
def State.rxAgeOk (s : State) (c : SafeConn) (flags tsend : Nat) : Bool :=
  if flags % 2 = 1 && (s.qual = 2 || s.qual = 3) then
    let a : Int := (s.gt : Int) - tsend
    decide (-25000 ≤ a) && decide (a ≤ (c.maxAge * tickMs : Nat))
  else true

/-- An accepted telegram: the watchdog restarts; two consecutive ones lead from WAIT to RUN; in RUN the payload acts and is written (R321 to R323). -/
def State.rxAccept (s : State) (r : Nat) (seq : Nat) (pay : List Word) : State :=
  let x := s.safe.rx.at r
  let st := if x.st = 1 then (if x.base && seq = seqNext x.lastSeq then 2 else 1) else x.st
  let s1 := s.rxMod r (fun y => { y with st := st, base := true, lastSeq := seq, lastAt := s.gt, payload := pay,
                                         permits := if st = 2 then (pay.getD 0 0#32).toNat % 2 ^ 16 else 0 })
  let s2 := if st = 2 then s1.panSamples 0x08 (0x1F00 + 0x10 * r) s.gt pay else s1
  s2.rxDemand r

/-- A received telegram and its checks, in their order (R322). The expiry of the watchdog in the same instant wins (R323). [log 137: DEDUCED] -/
def State.telegramRx (s0 : State) (r : Nat) (bs : List Byte) : State :=
  let c := s0.rxCfg r
  if !s0.safe.inForce || !c.on || !s0.safeOn then s0
  else
    let s := if (s0.safe.rx.at r).st = 2 && (s0.safe.rx.at r).lastAt + c.wdog * tickMs ≤ s0.gt then s0.rxFail r Stk.SAFECOM_WDOG else s0
    let x := s.safe.rx.at r
    let seq := beAt bs 8 4
    if bs.length ≠ 28 + c.plen || beAt bs 0 1 ≠ 1 || beAt bs 1 1 ≠ 1 || beAt bs 2 2 ≠ c.plen then s.rxError r
    else if beAt bs (24 + c.plen) 4 ≠ (crc32c (bs.take (24 + c.plen))).toNat then s.rxError r
    else if beAt bs 4 4 ≠ c.id.toNat then s.rxError r
    else if x.lastSeq ≠ 0 && seq = x.lastSeq then s.bump (Reg.SAFE_RXREP r)
    else if x.st = 2 && !(1 ≤ seqStep x.lastSeq seq && seqStep x.lastSeq seq ≤ c.seqWin) then s.rxError r
    else if !s.rxAgeOk c (beAt bs 20 1) (beAt bs 12 8) then s.rxError r
    else s.rxAccept r seq (wordsBe bs 24 (c.plen / 4))

/-- SAFETY_TELEGRAM_RX (R322). -/
def execSafetyTelegramRx (r : Fin 8) (bytes : List Byte) (s : State) : Host.Outcome State Fault Refusal := .next (s.telegramRx r bytes)

/-- SAFECOM_WDOG_EXPIRE (R323). [log 132: DESIGN CHOICE] -/
def execSafecomWdogExpire (r : Fin 8) (s : State) : Host.Outcome State Fault Refusal :=
  .next (if !s.safe.inForce || !(s.rxCfg r).on || (s.safe.rx.at r).st ≠ 2 || !s.safeOn then s
    else (s.gtTo ((s.safe.rx.at r).lastAt + (s.rxCfg r).wdog * tickMs)).rxFail r Stk.SAFECOM_WDOG)

/-- Masks of the monitor's state: outputs energised, faults, pair permits, connections in RUN (R321, R326). -/
def State.outsOn (s : State) : Nat := (s.safe.sout.zipIdx).foldl (fun m (o, j) => if o.cmd && o.hClosed && o.lClosed then m + 2 ^ j else m) 0
def State.outFaults (s : State) : Nat := (s.safe.sout.zipIdx).foldl (fun m (o, j) => if o.fault ≠ 0 then m + 2 ^ j else m) 0
def State.pairPermits (s : State) : Nat := (List.range 8).foldl (fun m i => if s.pairPermit i then m + 2 ^ i else m) 0
def State.rxRun (s : State) : Nat := (s.safe.rx.zipIdx).foldl (fun m (x, r) => if x.st = 2 then m + 2 ^ r else m) 0

/-- Slot 0xF040, which is also payload word 0 of a transmit connection (R321, R326). -/
def State.safeWord (s : State) : Word := w32 (s.regN Reg.SAFE_SPOLAT % 2 ^ 12 + 2 ^ 12 * s.outsOn + 2 ^ 16 * s.pairPermits)

/-- SAFETY_TELEGRAM_TX (R320, R321): every TXPER a transmit connection sends a telegram (port 4: to the network's carrier). -/
def execSafetyTelegramTx (t : Fin 8) (s : State) : Host.Outcome State Fault Refusal :=
  .next (let c := s.safe.cfg.tx.getD t {}
    if !s.safe.inForce || !c.on || !s.powered then s
    else
      let u := s.gtTo (s.safe.txAt.at t + c.txPer * tickMs)
      let seq := seqNext (u.safe.txSeq.at t)
      let pay := (u.safeWord :: c.slots.map (fun n => u.slot n)).take (c.plen / 4)
      let full := pay ++ List.replicate (c.plen / 4 - pay.length) 0#32
      let body := [0x01#8, 0x01#8] ++ beBytes 2 c.plen ++ beBytes 4 c.id.toNat ++ beBytes 4 seq ++ beBytes 8 u.gt ++
        beBytes 1 (bit (u.qual = 2 || u.qual = 3)) ++ beBytes 3 0 ++ full.flatMap (fun w => beBytes 4 w.toNat)
      let tele := body ++ beBytes 4 (crc32c body).toNat
      let v := u.safeMod (fun x => { x with txSeq := x.txSeq.mod t (fun _ => seq), txAt := x.txAt.mod t (fun _ => u.gt),
                                            txLast := x.txLast.mod t (fun _ => tele) })
      (v.setRegN (Reg.SAFE_TXSEQ t) seq).send 4 tele)

/-! ## The configuration (R303) -/

/-- A configuration takes effect: memberships, assignments, connections and pairs start anew (R303, R323). [log 129: DEDUCED] -/
def State.safeConfirm (s : State) (cfg : SafeConfig) (crc : Word) : State :=
  let rx0 := (List.range 8).map (fun r => if (cfg.rx.getD r {}).on then ({ st := 1 } : RxState) else {})
  let keep := s.safe.demands.filter (fun d => d.cause = 2 || d.cause = 10 || d.cause = 11 || d.cause = 14)
  let s0 := s.safeMod (fun x => { x with cfg := cfg, inForce := true, pending := false, demands := keep })
  let s1 := s0.safeMod (fun x => { x with sin := List.replicate 8 {}, sout := List.replicate 4 {}, rx := rx0, txSeq := List.replicate 8 0,
                                          txAt := List.replicate 8 s.gt })
  let s2 := (List.range 12).foldl (fun t v => t.setRegN (Reg.GL_CONV v) (cfg.convs.getD v {}).lgs) s1
  let asg := cfg.cmps.foldl (fun m e => m ||| 2 ^ e.1) 0
  let s3 := (s2.setRegN Reg.CMP_SAFEASG_LO asg).setRegN Reg.CMP_SAFEASG_HI (asg / 2 ^ 32)
  let s4 := (((s3.setReg Reg.SAFE_CFGID crc).setFld Reg.SAFE_STAT F.SAFE_STAT_CFG_OK 1).setFld Reg.SAFE_STAT F.SAFE_STAT_CFG_PEND 0)
  let s5 := (List.range 4).foldl (fun t j => t.setRegN (Reg.SAFE_SOUT j) 0) s4
  let s6 := (bitsOf 64 asg).foldl (fun t n => (t.cmpRoute n).demandSet ((t.cmpRoute n).cmpOutVal n) 1 n (t.cmpConvs n)) s5
  let s7 := (List.range 8).foldl (fun t r => if (cfg.rx.getD r {}).on then t.rxDemand r else t) s6
  let s8 := (List.range 8).foldl (fun t i => t.pairAct i false) s7
  s8.demandView

end Sys2Proof.Machine
end

