-- ==== Sys2Proof/Machine/NetTables.lean ====
section
/-!
DEFINITION. The four Sieve tables (R358 to R362, R374): their entries as read from the table files, and the check of a file.
-/
namespace Sys2Proof.Machine

/-- The size of an entry and the greatest count of each kind (R358). -/
def tblSize (kind : Nat) : Nat := match kind with | 1 => 128 | 2 => 160 | 3 => 464 | _ => 576
def tblMax (kind : Nat) : Nat := match kind with | 1 => 16 | 2 => 4 | 3 => 64 | _ => 16

/-- The file of a kind, the number of its entries, and the bytes of entry `e`. -/
def State.tblFile (s : State) (kind : Nat) : List Byte := s.net.files.at (kind - 1)
def State.tblCount (s : State) (kind : Nat) : Nat := beAt (s.tblFile kind) 7 1
def tblEntry (f : List Byte) (kind e : Nat) : List Byte := (f.drop (16 + tblSize kind * e)).take (tblSize kind)
def State.tblAt (s : State) (kind e : Nat) : List Byte := tblEntry (s.tblFile kind) kind e

/-- `n` bytes from an offset. -/
def sliceOf (b : List Byte) (o n : Nat) : List Byte := (b.drop o).take n

/-- The samples per second of a stream (R359). -/
def rateOf (code : Nat) : Nat := if code = 0 then 4800 else 14400

/-- The words of a BF24 row of an entry. -/
def rowWord (b : List Byte) (o i : Nat) : Word := w32 (leAt b (o + 4 * i) 4)

/-! ## Checks -/

/-- All bytes of a part are zero. -/
def zeroPart (b : List Byte) (o n : Nat) : Bool := (sliceOf b o n).all (fun x => x == 0#8)

/-- A string of 1 to `n` ASCII characters, padded with zeros (R358). -/
def strOk (b : List Byte) (o n : Nat) : Bool :=
  let t := sliceOf b o n
  let body := t.takeWhile (fun x => x != 0#8)
  !body.isEmpty && body.all (fun x => x.toNat < 128) && (t.drop body.length).all (fun x => x == 0#8)

/-- The string is not longer than `m` characters. -/
def strMax (b : List Byte) (o n m : Nat) : Bool := ((sliceOf b o n).takeWhile (fun x => x != 0#8)).length ≤ m

/-- A DMAC of R359 (group 04) or R361 (group 01): 01-0C-CD-group-00-00 to 01-0C-CD-group-01-FF. -/
def macOk (b : List Byte) (group : Nat) : Bool := beAt b 0 4 == 0x010CCD00 + group && beAt b 4 1 ≤ 1

/-- The member slots that a type code takes (R374). -/
def memSlots (t : Nat) : Nat := if t = 0 || t = 8 then 0 else if t = 7 then 2 else 1

/-- The checks of one entry: each field's offset with its verdict, in field order (R359 to R362). -/
def entryChecks (kind : Nat) (b : List Byte) : List (Nat × Bool) :=
  let dly := leAt b 16 4
  match kind with
  | 1 =>
    [(0, macOk b 4), (6, decide (0x4000 ≤ leAt b 6 2 ∧ leAt b 6 2 ≤ 0x7FFF)), (8, decide (leAt b 8 1 ≤ 1)),
     (9, decide (1 ≤ leAt b 9 1 ∧ leAt b 9 1 ≤ 8)), (10, decide (1 ≤ leAt b 10 1 ∧ leAt b 10 1 ≤ 8)),
     (11, decide (leAt b 11 1 / 32 = 0 ∧ leAt b 11 1 / 4 % 4 ≤ 2)), (16, decide (dly ≤ 2500000)), (20, decide (256 ≤ leAt b 20 2)),
     (22, decide (1 ≤ leAt b 22 2 ∧ leAt b 22 2 ≤ 10000))] ++
    (List.range 8).map (fun q => (24 + 4 * q, decide (q < leAt b 10 1 ∨ leAt b (24 + 4 * q) 4 = 0))) ++
    [(56, strOk b 56 64), (120, zeroPart b 120 8)]
  | 2 =>
    [(0, macOk b 4), (6, decide (0x4000 ≤ leAt b 6 2 ∧ leAt b 6 2 ≤ 0x7FFF)), (8, decide (leAt b 8 1 ≤ 1)),
     (9, decide (leAt b 9 1 = if leAt b 8 1 = 0 then 2 else 6)), (10, decide (1 ≤ leAt b 10 1 ∧ leAt b 10 1 ≤ 8)),
     (11, decide (leAt b 11 1 / 8 % 16 = 0)), (12, decide (leAt b 12 2 < 4096)), (14, decide (1 ≤ leAt b 14 2 ∧ leAt b 14 2 ≤ 1000)),
     (68, zeroPart b 68 28), (96, strOk b 96 64)]
  | 3 =>
    [(0, macOk b 1), (6, decide (leAt b 6 2 ≤ 0x3FFF)), (8, decide (leAt b 8 1 / 8 = 0)), (9, decide (1 ≤ leAt b 9 1 ∧ leAt b 9 1 ≤ 40)),
     (10, zeroPart b 10 2)] ++
    (List.range 40).map (fun m => (16 + m, decide ((if m < leAt b 9 1 then leAt b (16 + m) 1 ≤ 8 else leAt b (16 + m) 1 = 0) ∧
      ((List.range (m + 1)).map (fun j => memSlots (leAt b (16 + j) 1))).sum ≤ 40))) ++
    [(56, zeroPart b 56 8), (64, strOk b 64 130 && strMax b 64 130 129), (194, strOk b 194 130 && strMax b 194 130 129),
     (324, strOk b 324 130 && strMax b 324 130 129), (454, zeroPart b 454 10)]
  | _ =>
    [(0, macOk b 1), (6, decide (leAt b 6 2 ≤ 0x3FFF)), (8, decide (1 ≤ leAt b 8 1 ∧ leAt b 8 1 ≤ 40)), (9, decide (leAt b 9 1 / 8 % 16 = 0)),
     (10, decide (leAt b 10 2 < 4096)), (16, decide (100 ≤ leAt b 16 2 ∧ leAt b 16 2 ≤ 60000)),
     (18, decide (1 ≤ leAt b 18 2 ∧ leAt b 18 2 ≤ leAt b 16 2)), (20, decide (leAt b 20 1 ≤ 1)), (21, zeroPart b 21 3)] ++
    (List.range 40).map (fun m => (24 + 4 * m, decide (leAt b (26 + 4 * m) 1 ≤ 8 ∧ leAt b (27 + 4 * m) 1 = 0 ∧
      (leAt b (26 + 4 * m) 1 = 8 → leAt b (24 + 4 * m) 2 < 8) ∧ (leAt b 8 1 ≤ m → leAt b (24 + 4 * m) 4 = 0)))) ++
    [(184, strOk b 184 130 && strMax b 184 130 129), (314, strOk b 314 130 && strMax b 314 130 129),
     (444, strOk b 444 130 && strMax b 444 130 129), (574, zeroPart b 574 2)]

/-- The first invalid field of a file: its entry, where it has one, and its byte offset (R358). [log 160: DEDUCED] -/
def tblError (f : List Byte) : Option (Option Nat × Nat) :=
  let kind := leAt f 6 1
  let count := leAt f 7 1
  let len := leAt f 8 4
  if leAt f 0 4 ≠ 0x56454953 then some (none, 0)
  else if leAt f 4 2 ≠ 1 then some (none, 4)
  else if kind = 0 || 4 < kind then some (none, 6)
  else if tblMax kind < count then some (none, 7)
  else if len ≠ f.length || len ≠ 20 + tblSize kind * count then some (none, 8)
  else if leAt f (len - 4) 4 ≠ (crc32c (f.take (len - 4))).toNat then some (none, len - 4)
  else
    (List.range count).findSome? (fun e =>
      ((entryChecks kind (tblEntry f kind e)).find? (fun c => !c.2)).map (fun c => (some e, c.1)))

/-! ## Conversions of members (R374, R375) -/

/-- The exact value of a FLOAT32 word that is a number. -/
def f32Val (w : Word) : Dy :=
  let e : Nat := w.toNat / 2 ^ 23 % 256
  let m : Nat := w.toNat % 2 ^ 23
  let k : Int := ((if e = 0 then m else m + 2 ^ 23 : Nat) : Int)
  ⟨if w.toNat / 2 ^ 31 = 1 then -k else k, ((max e 1 : Nat) : Int) - 150⟩

def f32NaN (w : Word) : Bool := w.toNat / 2 ^ 23 % 256 == 255 && w.toNat % 2 ^ 23 != 0
def f32Inf (w : Word) : Bool := w.toNat / 2 ^ 23 % 256 == 255 && w.toNat % 2 ^ 23 == 0

/-- The FLOAT32 word of an exact value, to nearest with ties to even, subnormal below the normal range (R375). A BF24 value is always in range. -/
def toF32 (x : Dy) : Word :=
  if x.m = 0 then 0#32
  else
    let a := x.m.natAbs
    -- the exponent of the unit in the last place
    let u : Int := max (-149) (x.e + bitLen a - 24)
    let r := shiftRound a (x.e - u)
    let body : Int := if r < 2 ^ 23 then r else r - 2 ^ 23 + (u + 150) * 2 ^ 23
    w32 (body.toNat + 2 ^ 31 * bit (x.m < 0))

end Sys2Proof.Machine
end

