-- ==== Sys2Proof/Machine/SpareOps.lean ====
section
/-!
DEFINITION. The spare descriptors that Steward allocates at each change of the configuration (R38, R39).
-/
namespace Sys2Proof.Machine

/-- The request `r` comes before the requests of `l` that start later. -/
def reqInsert (r : SpareReq) : List SpareReq → List SpareReq
  | [] => [r]
  | x :: l => if r.first ≤ x.first then r :: x :: l else x :: reqInsert r l

/-- Requests in ascending slot order. [log 22: DESIGN CHOICE] -/
def reqSort (l : List SpareReq) : List SpareReq := l.foldr reqInsert []

/-- The fixed descriptor whose range holds a request and whose owner it names (R38). -/
def reqFixed (r : SpareReq) : Option (Nat × Nat × Nat × Nat) :=
  fixedDescs.find? (fun d => d.1 ≤ r.first && r.first ≤ r.last && r.last ≤ d.2.1 && d.2.2.1 == r.owner)

/-- Two requests name the same owner, TYPE and LATWIN, inside one fixed range, and touch or overlap (R39). -/
def reqJoins (a b : SpareReq) : Bool :=
  a.owner == b.owner && a.raw == b.raw && a.latwin == b.latwin && reqFixed a == reqFixed b && b.first ≤ a.last + 1 && a.first ≤ b.last + 1

/-- Ascending requests merged; `r` has been merged so far. -/
def reqMergeFrom (r : SpareReq) : List SpareReq → List SpareReq
  | [] => [r]
  | x :: l => if reqJoins r x then reqMergeFrom { r with last := max r.last x.last } l else r :: reqMergeFrom x l

/-- [log 22: DESIGN CHOICE] -/
def reqMerge (l : List SpareReq) : List SpareReq :=
  match reqSort l with
  | [] => []
  | r :: t => reqMergeFrom r t

/-- Merged descriptors do not overlap, and each refines a fixed one (R38). -/
def reqDisjoint : List SpareReq → Bool
  | [] => true
  | r :: l => l.all (fun x => r.last < x.first) && reqDisjoint l

def reqsOk (l : List SpareReq) : Bool := reqDisjoint l && l.all (fun r => (reqFixed r).isSome)

/-- The requests of the subscribed streams (R366). -/
def State.svReqs (s : State) : List SpareReq :=
  (List.range (s.tblCount 1)).flatMap (fun i =>
    let b := 0x400 + 0x40 * i
    let w := leAt (s.tblAt 1 i) 20 2
    [{ owner := 0x07, raw := false, latwin := w, first := b, last := b + 7 }, { owner := 0x07, raw := true, latwin := w, first := b + 8, last := b + 0x3F }])

/-- The slot of member `m` of a GOOSE subscription (R372, R374). -/
def memSlot (b : List Byte) (n m : Nat) : Nat := 0x1004 + 0x30 * n + ((List.range m).map (fun j => memSlots (leAt b (16 + j) 1))).sum

/-- LATWIN of the fixed descriptor of a slot, where no request of its own names one. -/
def State.fixedLat (s : State) (n : Nat) : Nat := s.fld (Reg.PAN_DESC_ATTR n) F.PAN_DESC_ATTR_LATWIN

/-- The requests of FLOAT32 members (R374). -/
def State.goReqs (s : State) : List SpareReq :=
  (List.range (s.tblCount 3)).flatMap (fun n =>
    let b := s.tblAt 3 n
    ((List.range (leAt b 9 1)).filter (fun m => leAt b (16 + m) 1 == 5)).map (fun m =>
      { owner := 0x08, raw := false, latwin := s.fixedLat 7, first := memSlot b n m, last := memSlot b n m }))

/-- The compare sets of engine-class leg groups inside a binding's range (R251). -/
def State.pwmReqs (s : State) : List SpareReq :=
  ((List.range s.groups).filter (fun g => s.flag (Reg.PWM_LGCFG g) F.PWM_LGCFG_EN && s.fld (Reg.PWM_LGCFG g) F.PWM_LGCFG_SRC == 0)).filterMap (fun g =>
    let b := s.fld (Reg.PWM_SRC g) F.PWM_SRC_BASE
    if 0x2000 ≤ b && b < 0x2000 + 0x1000 * s.engines then
      some { owner := 0x10 + (b - 0x2000) / 0x1000, raw := true, latwin := s.fixedLat (8 + (b - 0x2000) / 0x1000), first := b, last := b + 7 }
    else none)

/-- The word slots of the metering points (R394). -/
def State.mtrReqs (s : State) : List SpareReq :=
  [{ owner := 0x06, raw := true, latwin := s.fixedLat 6, first := 0x0D00, last := 0x0D3F }]

/-- The RAW32 output slots of an instance of a type, from its first output slot on (R205, R439). -/
def lawRaw (typ : Nat) : List (Nat × Nat) :=
  [(0, 0)] ++ (if typ ≤ 5 then [(1, 1)] else []) ++ (if typ = 1 || typ = 4 then [(6, 6)] else []) ++ (if typ = 5 || typ = 6 then [(0x40, 0x7F)] else [])

/-- The first output slot of an instance (R205). -/
def LawInst.base (l : LawInst) : Nat := 0x2000 + 0x1000 * l.bind + 0x100 * l.pos

/-- The requests of the law instances (R39, R205). -/
def State.lawReqs (s : State) : List SpareReq :=
  s.law.inst.flatMap (fun l => (lawRaw l.typ).map (fun r =>
    { owner := 0x10 + l.bind, raw := true, latwin := s.fixedLat (8 + l.bind), first := l.base + r.1, last := l.base + r.2 }))

/-! ## Latency windows -/

/-- The longest conversion that one of the entries of a slot range can take, 0 where none writes there (R91, R92): open-wire steps sample for 15
ticks. A divider counts as the larger of the one in use and the one that is to be loaded. [log 25: DEDUCED] -/
def State.convMax (s : State) (first last : Nat) : Nat :=
  let div := max (s.fld Reg.CLK_PDIV_ADC F.CLK_PDIV_ADC_ACT) (min 4 (s.fld Reg.CLK_PDIV_ADC F.CLK_PDIV_ADC_DIV))
  let seqs := (List.range 8).flatMap (fun c => (List.range 40).map (fun e => (adcSlotOf c e, max 15 (s.fld (Reg.ADC_ENTRY c e) F.ADC_ENTRY_SMP))))
  let smp := (seqs.filter (fun x => first ≤ x.1 && x.1 ≤ last)).foldl (fun m x => max m x.2) (if first < 0x200 && 0x140 ≤ last then 15 else 0)
  if smp = 0 then 0 else smp + 17 * div + 1
  where
    /-- The slot of entry `e` of core `c`. -/
    adcSlotOf (c e : Nat) : Nat := if e < 32 then 32 * c + e else 0x100 + 8 * c + (e - 32)

/-- LATWIN as Steward writes it for a range of one owner: the host's value or the least that its writes need; 0 for the snapshot words, at least 128 for
GOOSE and telegrams (R92, R104, R132, R270, R372). [log 25: DEDUCED] -/
def State.latKept (s : State) (owner first last lat : Nat) : Nat :=
  if owner = 1 then (let t := s.convMax first last
                     if t = 0 then lat else max lat (t + 13))
  else if owner = 2 then max lat (4 * max (s.fld Reg.CLK_PDIV_SDF F.CLK_PDIV_SDF_ACT) (min 4 (s.fld Reg.CLK_PDIV_SDF F.CLK_PDIV_SDF_DIV)) + 2)
  else if owner = 8 then max lat 128
  else lat

/-- The fixed descriptors keep the windows that Steward gives them. [log 25: DEDUCED] -/
def State.latFixed (s : State) : State :=
  (List.range 8).foldl (fun t n =>
    let d := fixedDescs.getD n (0, 0, 0, 0)
    t.setFld (Reg.PAN_DESC_ATTR n) F.PAN_DESC_ATTR_LATWIN
      (if 3 ≤ n && n ≤ 5 then 0 else s.latKept d.2.2.1 d.1 d.2.1 (s.fld (Reg.PAN_DESC_ATTR n) F.PAN_DESC_ATTR_LATWIN))) s

/-- The requests of the host's images with the index of each (R39). [log 23: DEDUCED] -/
def State.hostReqs (s : State) : List (Nat × SpareReq) :=
  (s.spareReqs.filter (fun e => e.2.2.getLsbD 9)).map (fun e =>
    let f := e.2.1.toNat % 65536
    let l := e.2.1.toNat / 65536
    let o := e.2.2.toNat % 256
    (e.1, { owner := o, raw := e.2.2.getLsbD 8, latwin := s.latKept o f l (e.2.2.toNat / 65536), first := f, last := l }))

/-- What Steward's own steps add (R39). -/
def State.ownReqs (s : State) : List SpareReq := s.mtrReqs ++ s.svReqs ++ s.goReqs ++ s.pwmReqs ++ s.lawReqs

/-- What Steward needs, with the requests of the host's images (R39). [log 23: DEDUCED] -/
def State.reqsNeeded (s : State) : List SpareReq := reqMerge (s.ownReqs ++ s.hostReqs.map (fun e => e.2))

/-- The merged descriptors stand from 22 upward; VALID is cleared in every other spare descriptor (R39). [log 22: DESIGN CHOICE] -/
def State.writeSpares (s : State) (l : List SpareReq) : State :=
  (List.range 106).foldl (fun t i =>
    match l[i]? with
    | some r =>
      let t1 := t.setRegN (Reg.PAN_DESC_RANGE (22 + i)) (r.first + 65536 * r.last)
      let t2 := (t1.setRegN (Reg.PAN_DESC_ATTR (22 + i)) 0).setFld (Reg.PAN_DESC_ATTR (22 + i)) F.PAN_DESC_ATTR_OWNER r.owner
      ((t2.setFld (Reg.PAN_DESC_ATTR (22 + i)) F.PAN_DESC_ATTR_TYPE (bit r.raw)).setFld (Reg.PAN_DESC_ATTR (22 + i)) F.PAN_DESC_ATTR_LATWIN r.latwin).setFld
        (Reg.PAN_DESC_ATTR (22 + i)) F.PAN_DESC_ATTR_VALID 1
    | none => t.setFld (Reg.PAN_DESC_ATTR (22 + i)) F.PAN_DESC_ATTR_VALID 0) s

/-- The record of a configuration that needs too many spare descriptors (R39). [log 24: DEDUCED] -/
def State.spareFull (s : State) (n : Nat) : State := s.logRec 0x01 (evCode 0xFF 0) [w32 n]

end Sys2Proof.Machine
end

