-- ==== Sys2Proof/Machine/NetOps.lean ====
section
/-!
DEFINITION. Shared operations of the network island (R349 to R376): ports and frames, the node table, PTP, sampled values and GOOSE.
-/
namespace Sys2Proof.Machine

def State.netMod (s : State) (f : NetState → NetState) : State := { s with net := f s.net }

/-- The mode of P0 and P1 (R350): code 3 acts as 2. -/
def State.netMode (s : State) : Nat := min 2 (s.fld Reg.NET_CTRL F.NET_CTRL_MODE)

def State.linkBit (s : State) (p : Nat) : Bool := (s.reg Reg.NET_STAT).getLsbD p

/-- A port receives and sends: RUN or STANDBY, and its link up (R349, R352). -/
def State.portOn (s : State) (p : Nat) : Bool := s.powered && s.linkBit p

/-- A malformed frame, ASDU or member (R349, R363, R381). -/
def State.rxErr (s : State) (p : Nat) : State := (s.bump (Reg.NET_RXERR p)).stick Stk.NET_RXERR

/-- The ports that a frame leaves on (R350, R352). -/
def State.outPorts (s : State) : Nat := if s.netMode = 2 then bit (s.portOn 0) else bit (s.portOn 0) + 2 * bit (s.portOn 1)

/-- A frame of the device's own leaves on its ports, with the next sequence number in PRP and HSR (R350). -/
def State.netSend (s : State) (x : NetTx) : State :=
  if s.outPorts = 0 then s
  else if s.netMode = 2 then { s with out := { s.out with net := s.out.net ++ [{ ports := s.outPorts, tx := x }] } }
  else ({ s with out := { s.out with net := s.out.net ++ [{ ports := s.outPorts, seq := some s.net.txSeq, tx := x }] } } : State).netMod
    (fun n => { n with txSeq := (n.txSeq + 1) % 65536 })

/-- A frame leaves one port only, without a redundancy number of the device's own: PTP and forwarded frames. -/
def State.netSendOn (s : State) (p : Nat) (seq : Option Nat) (x : NetTx) : State :=
  if s.portOn p then { s with out := { s.out with net := s.out.net ++ [{ ports := 2 ^ p, seq := seq, tx := x }] } } else s

/-! ## The node table (R351, R352) -/

/-- Entries that are still held: sequence numbers for 400 ms, nodes for 60 s. -/
def NetNode.fresh (t : Nat) (n : NetNode) : NetNode := { n with seqs := n.seqs.filter (fun q => t < q.at_ + 400 * tickMs) }
/-- [log 147: DEDUCED] -/
def State.nodesNow (s : State) : KMap NetNode :=
  (s.net.nodes.filter (fun e => s.gt < e.2.lastAt + 60 * tickSec)).map (fun e => (e.1, e.2.fresh s.gt))

/-- A frame of a node has arrived on a port. [log 147, 149: DEDUCED] -/
def NetNode.heard (n : NetNode) (p t : Nat) : NetNode :=
  let m := if p = 0 then { n with path0 := some t } else { n with path1 := some t }
  let both := match m.path0, m.path1 with | some a, some b => t < a + 10 * tickSec && t < b + 10 * tickSec | _, _ => false
  { m with lastAt := t, pathErr := m.pathErr && !both }

/-- The frame has been seen with its sequence number (R351). -/
def NetNode.seen (n : NetNode) (q : Nat) : Bool := n.seqs.any (fun x => x.seq == q)

/-- The frame has been forwarded out of a port (R350). -/
def NetNode.sentOut (n : NetNode) (q p : Nat) : Bool := n.seqs.any (fun x => x.seq == q && x.out.testBit p)

/-- A sequence number enters the window of the last 64, or its mark of the ports it went out of grows. [log 147: DEDUCED] -/
def NetNode.note (n : NetNode) (q t out : Nat) : NetNode :=
  if n.seen q then { n with seqs := n.seqs.map (fun x => if x.seq = q then { x with out := x.out ||| out } else x) }
  else { n with seqs := ({ seq := q, at_ := t, out := out } :: n.seqs).take 64 }

/-- The node of a source, where the table holds it or has room for it. [log 147: DEDUCED] -/
def nodeFor (t : KMap NetNode) (mac now : Nat) : Option NetNode :=
  match t.find mac with
  | some n => some n
  | none => if t.length < 512 then some { firstAt := now } else none

/-! ## PTP (R354 to R357) -/

def State.ptpMod (s : State) (p : Nat) (f : PtpPort → PtpPort) : State := s.netMod (fun n => { n with ptp := n.ptp.mod p f })

def State.pState (s : State) (p : Nat) : Nat := s.fld Reg.NET_STAT (if p = 0 then F.NET_STAT_PSTATE0 else F.NET_STAT_PSTATE1)
def State.setPState (s : State) (p v : Nat) : State := s.setFld Reg.NET_STAT (if p = 0 then F.NET_STAT_PSTATE0 else F.NET_STAT_PSTATE1) v

/-- PTP runs on a port: on both for a doubly attached clock, else on one (R354, R381). -/
def State.ptpOn (s : State) (p : Nat) : Bool :=
  s.flag Reg.NET_CTRL F.NET_CTRL_PTP_EN && s.portOn p &&
    (if s.netMode = 2 then p == 0 else s.flag Reg.NET_CTRL F.NET_CTRL_PTP_DAC || p == s.fld Reg.NET_PTPCFG F.NET_PTPCFG_PREF)

def State.ptpDomain (s : State) : Nat := s.fld Reg.NET_PTPCFG F.NET_PTPCFG_DOMAIN

/-- The Announce that a port holds, for announceReceiptTimeout = 3 intervals of 1 s (R354). [log 150: PRESUMED] -/
def State.annOf (s : State) (p : Nat) : Option PtpAnnounce :=
  let x := s.net.ptp.at p
  if s.ptpOn p && s.gt < x.annAt + 3 * tickSec then x.ann else none

/-- The data set comparison of IEEE 1588: `a` is better than `b`. [log 150: PRESUMED] -/
def annBetter (a b : PtpAnnounce) : Bool :=
  let key := fun (x : PtpAnnounce) => [x.prio1, x.cls, x.acc, x.var, x.prio2]
  if a.gm = b.gm then a.steps < b.steps || (a.steps == b.steps && a.sender.toNat < b.sender.toNat)
  else
    match ((key a).zip (key b)).find? (fun e => e.1 ≠ e.2) with
    | some e => e.1 < e.2
    | none => a.gm.toNat < b.gm.toNat

/-- The port that receives the best Announce; PREF decides between ports that qualify equally (R357). [log 150: PRESUMED] -/
def State.bestPort (s : State) : Option Nat :=
  match s.annOf 0, s.annOf 1 with
  | none, none => none
  | some _, none => some 0
  | none, some _ => some 1
  | some a, some b =>
    if a.gm = b.gm && a.steps = b.steps then some (s.fld Reg.NET_PTPCFG F.NET_PTPCFG_PREF)
    else some (if annBetter b a then 1 else 0)

/-- The time port changes (R357): the bit and the record. -/
def State.portSwitch (s : State) (p : Nat) : State :=
  (s.setFld Reg.NET_STAT F.NET_STAT_TPORT p).stick Stk.PTP_PORTSW |>.logRec 0x09 (evCode Stk.PTP_PORTSW.file 2) []

/-- The grandmaster's identity and class as the registers show them (R356, R381). -/
def State.showGm (s : State) (a : PtpAnnounce) : State :=
  ((((s.setRegN Reg.NET_GMID_LO a.gm.toNat).setRegN Reg.NET_GMID_HI (a.gm.toNat / 2 ^ 32)).setFld Reg.NET_STAT F.NET_STAT_GMCLASS a.cls).stickIf
    (decide (s.fld Reg.NET_PTPCFG F.NET_PTPCFG_CLASSMAX < a.cls)) Stk.PTP_CLASS)

/-- The best master algorithm on both ports (R357): the best port is SLAVE, a port with the same grandmaster PASSIVE, one without either LISTENING.
While the time port has lost its Announce, the PASSIVE port waits for its next Sync. [log 150: PRESUMED] -/
def State.bmca (s : State) : State :=
  match s.bestPort with
  | none => s
  | some p =>
    let o := 1 - p
    let old := s.fld Reg.NET_STAT F.NET_STAT_TPORT
    if s.pState p = 4 && s.pState o ≠ 3 then s
    else
      let wasSlave := s.pState o == 3
      let s1 := s.setPState p 3
      let s2 :=
        match s.annOf o, s.annOf p with
        | some b, some a => s1.setPState o (if b.gm = a.gm then 4 else 1)
        | none, _ => if s1.ptpOn o then s1.setPState o 1 else s1
        | _, none => s1
      let s3 := if wasSlave && old ≠ p then s2.portSwitch p else s2.setFld Reg.NET_STAT F.NET_STAT_TPORT p
      match s.annOf p with
      | some a => s3.showGm a
      | none => s3

/-- The offset of R356 in ticks: reception less origin, correction and meanPathDelay. [log 29, 151: DEDUCED] -/
def syncOffset (m : PtpSync) (dly : Nat) : Int :=
  (m.rxGt : Int) - dly - roundDiv ((m.origin : Int) * 2 ^ 16 + m.corr) (2 ^ 17)

/-- A measurement of the time port is valid (R356). [log 151: DEDUCED] -/
def State.ptpValid (s : State) (p : Nat) : Bool :=
  let x := s.net.ptp.at p
  s.pState p == 3 &&
    (match x.delayAt with | some t => s.gt ≤ t + 3 * tickSec | none => false) &&
    (match s.annOf p with
     | some a => a.ptpTimescale && a.cls ≤ s.fld Reg.NET_PTPCFG F.NET_PTPCFG_CLASSMAX
     | none => false)

/-! ## Sampled values (R363 to R367) -/

def State.svMod (s : State) (i : Nat) (f : SvStream → SvStream) : State := s.netMod (fun n => { n with sv := n.sv.mod i f })

/-- The fields of a subscription entry (R359). -/
def svRate (b : List Byte) : Nat := rateOf (leAt b 8 1)
def svNq (b : List Byte) : Nat := leAt b 10 1
def svTestAcc (b : List Byte) : Bool := (leAt b 11 1).testBit 1
def svDly (b : List Byte) : Nat := leAt b 16 4
def svLat (b : List Byte) : Nat := leAt b 20 2

/-- Validity good; the test bit (IEC 61850 quality: bits [1:0] and [11]). [log 153: PRESUMED] -/
def qualGood (q : Word) : Bool := q.toNat % 4 == 0
/-- [log 153: PRESUMED] -/
def qualTest (q : Word) : Bool := q.getLsbD 11

/-- The quantity as BF24 (R366, R84). -/
def svValue (b : List Byte) (q : Nat) (v : Word) : Word := (toBF ((Dy.ofInt v.toInt).mul (bfVal (rowWord b 24 q)))).w

/-- The status word of a stream (R366). [log 154: DEDUCED] -/
def svStatus (x : SvSample) (lost late miss : Bool) (count : Nat) : Word :=
  w32 (x.smpCnt % 65536 + 2 ^ 16 * (x.smpSynch % 4) + 2 ^ 18 * bit lost + 2 ^ 19 * bit late + 2 ^ 20 * bit miss + 2 ^ 21 * bit x.sim +
    2 ^ 22 * bit (x.data.any (fun e => !qualGood e.2)) + 2 ^ 24 * min 255 count)

/-- A sample is written to the slots of its stream for its destination (R366). [log 154: DEDUCED] -/
def State.svWrite (s : State) (i : Nat) (x : SvSample) : State :=
  let b := s.tblAt 1 i
  let base := 0x400 + 0x40 * i
  let ts := x.tm + svDly b
  let dest := s.destOf base ts
  let g := s.net.sv.at i
  let same := g.dest == dest && g.count != 0
  let count := if same then g.count + 1 else 1
  let late := (same && g.gLate) || x.late
  let miss := (same && g.gMiss) || x.miss
  let s1 := s.svMod i (fun y => { y with dest := dest, count := count, gLate := late, gMiss := miss })
  let s2 := (x.data.zipIdx).foldl (fun t (e, q) =>
    let t1 := if qualGood e.2 && (!qualTest e.2 || svTestAcc b) then t.panSample 0x07 (base + q) ts ts (svValue b q e.1) else t
    t1.panSample 0x07 (base + 8 + q) ts ts e.2) s1
  ((s2.panSample 0x07 (base + 0x10) ts ts (svStatus x false late miss count)).panSample 0x07 (base + 0x11) ts ts (w32 x.tm)).panSample 0x07
    (base + 0x12) ts ts (w32 (x.tm / 2 ^ 32))

/-- An ASDU within its budget is accepted (R365 to R367). [log 152: DEDUCED] -/
def State.svAccept (s : State) (i : Nat) (f : SvFrame) (a : SvAsdu) (tm missed : Nat) : State :=
  let b := s.tblAt 1 i
  let x := s.net.sv.at i
  let smp : SvSample := { tm := tm, smpCnt := a.smpCnt, smpSynch := a.smpSynch, sim := f.sim, late := x.late, miss := missed != 0,
                          data := (List.range (svNq b)).map (fun q => (w32 (beAt a.data (8 * q) 4), w32 (beAt a.data (8 * q + 4) 4))) }
  let s1 := if missed = 0 then s else (s.bumpBy (Reg.NET_SVMISS i) missed).stick Stk.SV_MISS
  let s2 := if x.lost then s1.logRec 0x09 (evCode 0xFF 5) [] else s1
  let s3 := (s2.bump (Reg.NET_SVRX i)).svMod i (fun y => { y with lastTm := some tm, lastAcc := s.gt, lost := false, late := false, last := smp,
                                                                  buf := (y.buf ++ [smp]).drop (y.buf.length + 1 - 96) })
  (((s3.setFld (Reg.NET_SVSTAT i) F.NET_SVSTAT_LOST 0).setFld (Reg.NET_SVSTAT i) F.NET_SVSTAT_UNSYNC 0).setFld (Reg.NET_SVSTAT i) F.NET_SVSTAT_SIM
    (bit f.sim)).setFld (Reg.NET_SVSTAT i) F.NET_SVSTAT_SMPCNT a.smpCnt

/-- One ASDU of a matching frame (R364, R365). [log 152: DEDUCED] -/
def State.svAsdu (s : State) (p i : Nat) (f : SvFrame) (a : SvAsdu) : State :=
  let b := s.tblAt 1 i
  let rate := svRate b
  let ofs := a.smpCnt * tickSec / rate
  if rate ≤ a.smpCnt then s.rxErr p
  else if a.smpSynch < leAt b 11 1 / 4 % 4 || s.qual ≤ 1 then s.setFld (Reg.NET_SVSTAT i) F.NET_SVSTAT_UNSYNC 1
  else if s.gt + 2500 < ofs then s
  else
    let tm := (s.gt + 2500 - ofs) / tickSec * tickSec + ofs
    let last := (s.net.sv.at i).lastTm
    if (match last with | some t => decide (tm ≤ t) | none => false) then s
    else if !(tm ≤ s.gt + 2500 && s.gt ≤ tm + svDly b + svLat b - 128) then
      ((s.bump (Reg.NET_SVLATE i)).breachOf 5 (0x400 + 0x40 * i) (s.destOf (0x400 + 0x40 * i) (tm + svDly b))).svMod i (fun y => { y with late := true })
    else
      -- sample numbers counted from GT 0: the whole seconds and smpCnt
      let idx := fun (t : Nat) => t / tickSec * rate + (t % tickSec * rate + tickSec - 1) / tickSec
      let missed := match last with | some t => idx tm - idx t - 1 | none => 0
      s.svAccept i f a tm missed

/-- A frame belongs to stream `i` (R363). -/
def State.svMatch (s : State) (i : Nat) (f : SvFrame) : Bool :=
  let b := s.tblAt 1 i
  beAt b 0 6 == f.dst.toNat && leAt b 6 2 == f.appid && sliceOf b 56 64 == f.svid

/-- A frame reaches a stream that it belongs to (R363). -/
def State.svFrame (s : State) (p i : Nat) (f : SvFrame) : State :=
  let b := s.tblAt 1 i
  let fl := leAt b 11 1
  let bad := f.noAsdu ≠ leAt b 9 1 || (fl.testBit 4 && f.asdus.any (fun a => a.confRev.toNat ≠ leAt b 12 4)) ||
    f.asdus.any (fun a => a.data.length ≠ 8 * svNq b) || f.sim != fl.testBit 0
  if bad then s.rxErr p else f.asdus.foldl (fun t a => t.svAsdu p i f a) s

/-- A sampled-values frame that has been delivered. -/
def State.svRx (s : State) (p : Nat) (f : SvFrame) : State :=
  (List.range (s.tblCount 1)).foldl (fun t i => if t.svMatch i f then t.svFrame p i f else t) s

/-! ## Published sampled values (R368, R369) -/

def State.pubMod (s : State) (k : Nat) (f : SvPub → SvPub) : State := s.netMod (fun n => { n with pub := n.pub.mod k f })

/-- Publications emit: RUN or STANDBY, QUAL 1 to 4 (R368). -/
def State.pubOn (s : State) : Bool := s.powered && 1 ≤ s.qual && s.qual ≤ 4

/-- smpSynch of a published sample (R369). -/
def State.pubSynch (s : State) (tm : Nat) : Nat :=
  match s.qual with
  | 2 => 2
  | 3 => if tm < s.tim.qualAt + 5 * tickSec then 2 else 1
  | 4 => 1
  | _ => 0

/-- The measurement GT of the sample with number `n`, counted from GT 0 (R364, R368). -/
def smpGt (rate n : Nat) : Nat := n / rate * tickSec + n % rate * tickSec / rate

/-- One quantity of a published sample: its INT32 and its quality (R368, R369; overflow is bit 2, oldData bit 7 of an IEC 61850 quality). A
scale of 0 leaves the value open. [log 153: PRESUMED; 155: DESIGN CHOICE] -/
def State.pubValue (s : State) (k q tm : Nat) : Word × Word :=
  let b := s.tblAt 2 k
  let w := s.slot (leAt b (20 + 2 * q) 2)
  let v := (bfVal w).toRat
  let sc := (bfVal (rowWord b 36 q)).toRat
  let r := if sc = 0 then (Config.scaleZero w).toInt else ratRound (v / sc)
  let sat := satTo 32 r != r
  let old : Bool := match (s.net.pub.at k).freshAt.at q with
    | some t => decide (t + leAt b 14 2 * tickMs < tm)
    | none => true
  (w32 (lowBits 32 (satTo 32 r)), if sat then 0x5#32 else if old then 0x83#32 else 0#32)

/-- Samples of publication `k` whose t_m lies before `t` (or at it, with `incl`) are taken from the committed bank, at most `fuel` of them. [log 156: DEDUCED] -/
def State.pubTake (t : Nat) (incl : Bool) (k : Nat) : Nat → State → State
  | 0, s => s
  | fuel + 1, s =>
    let b := s.tblAt 2 k
    let rate := rateOf (leAt b 8 1)
    let x := s.net.pub.at k
    let tm := smpGt rate x.next
    if tm < t || (incl && tm == t) then
      let o : SvOut := { smpCnt := x.next % rate, tm := tm, smpSynch := s.pubSynch tm,
                         vals := (List.range (leAt b 10 1)).map (fun q => s.pubValue k q tm) }
      let skip := x.taken.isEmpty && x.next % rate % leAt b 9 1 != 0
      let s1 := s.stickIf (!skip && o.vals.any (fun e => e.2 != 0#32)) Stk.SV_PUB_QUAL
      State.pubTake t incl k fuel (s1.pubMod k (fun y => { y with next := y.next + 1, taken := if skip then [] else y.taken ++ [o] }))
    else s

/-- Every publication takes its samples up to an instant. One that is more than 32 samples behind starts anew there. [log 156: DEDUCED] -/
def State.pubCatchUp (s : State) (t : Nat) (incl : Bool) : State :=
  (List.range (s.tblCount 2)).foldl (fun u k =>
    let rate := rateOf (leAt (u.tblAt 2 k) 8 1)
    let first := t / tickSec * rate + (t % tickSec * rate + tickSec - 1) / tickSec
    if !u.pubOn then u.pubMod k (fun y => { y with taken := [], next := first })
    else if (u.net.pub.at k).next + 32 < first || first + 32 < (u.net.pub.at k).next then u.pubMod k (fun y => { y with taken := [], next := first })
    else State.pubTake t incl k 33 u) s

/-- After a commit: the source slots that are FRESH (R369). -/
def State.pubFresh (s : State) : State :=
  (List.range (s.tblCount 2)).foldl (fun u k =>
    (List.range 8).foldl (fun v q =>
      if v.fresh (leAt (v.tblAt 2 k) (20 + 2 * q) 2) then v.pubMod k (fun y => { y with freshAt := y.freshAt.mod q (fun _ => some v.gt) }) else v) u) s

/-! ## GOOSE (R370 to R375) -/

def State.goMod (s : State) (n : Nat) (f : GooseSub → GooseSub) : State := s.netMod (fun x => { x with goSub := x.goSub.mod n f })
def State.gpMod (s : State) (u : Nat) (f : GoosePub → GoosePub) : State := s.netMod (fun x => { x with goPub := x.goPub.mod u f })

/-- The slots of a subscription begin here (R372). -/
def goBase (n : Nat) : Nat := 0x1000 + 0x30 * n

/-- The status slot and the valid bit of a subscription follow its state (R372, R381). -/
def State.goStatus (s : State) (n sample : Nat) : State :=
  let x := s.net.goSub.at n
  let s1 := if n < 32 then s.setBit Reg.NET_GOVALID_LO n x.valid else s.setBit Reg.NET_GOVALID_HI (n - 32) x.valid
  s1.panSample 0x08 (goBase n) sample sample
    (w32 (bit x.valid + 2 * bit x.test + 4 * bit x.sim + 8 * bit x.mismatch + 256 * leAt (s.tblAt 3 n) 9 1))

/-- The member's type agrees with a type code (R370, R374). -/
def memOk (t : Nat) (m : GooseMem) : Bool :=
  match t, m with
  | 0, _ => true
  | 1, .bool _ => true
  | 2, .bits n _ => 1 ≤ n && n ≤ 31
  | 3, .int _ => true
  | 4, .uint _ => true
  | 5, .float _ => true
  | 6, .quality _ => true
  | 7, .utc _ _ => true
  | 8, .octets _ => true
  | _, _ => false

/-- The Pantry words of a member under a type code (R374); an infinite FLOAT32 has no stated value. [log 155: DESIGN CHOICE] -/
def memWords (t : Nat) (m : GooseMem) : List Word :=
  match t, m with
  | 1, .bool b => [w32 (bit b + 2 ^ 31)]
  | 2, .bits n v => [w32 (v.toNat % 2 ^ n + 2 ^ 31)]
  | 3, .int v => [v]
  | 4, .uint v => [v]
  | 5, .float v => [if f32NaN v then 0#32 else if f32Inf v then Config.infiniteMember v else (toBF (f32Val v)).w]
  | 6, .quality q => [w32 (q.toNat + 2 ^ 31)]
  | 7, .utc a b => [a, b]
  | _, _ => []

/-- Type codes whose slot carries validity in bit 31 (R374). -/
def memValid (t : Nat) : Bool := t = 1 || t = 2 || t = 6

/-- A safety telegram in a dataset reaches the connection with its CONN_ID (R320). [log 159: DEDUCED] -/
def State.goTelegram (s : State) (bs : List Byte) : State :=
  match (List.range 8).find? (fun r => (s.rxCfg r).on && (s.rxCfg r).id.toNat == beAt bs 4 4) with
  | some r => s.telegramRx r bs
  | none => s

/-- A message belongs to subscription `n` (R370). -/
def State.goMatch (s : State) (n : Nat) (m : GooseMsg) : Bool :=
  let b := s.tblAt 3 n
  beAt b 0 6 == m.dst.toNat && leAt b 6 2 == m.appid && sliceOf b 64 130 == m.gocb && sliceOf b 194 130 == m.datset && sliceOf b 324 130 == m.goid

/-- The type code of member `m`. -/
def goType (b : List Byte) (m : Nat) : Nat := leAt b (16 + m) 1

/-- A matching message disagrees with its entry (R370). -/
def goBad (b : List Byte) (m : GooseMsg) : Bool :=
  ((leAt b 8 1).testBit 2 && m.confRev.toNat ≠ leAt b 12 4) || m.ndsCom || m.numEntries ≠ leAt b 9 1 || m.mems.length ≠ leAt b 9 1 ||
    (m.mems.zipIdx).any (fun e => !memOk (goType b e.2) e.1)

/-- All members are written (R371, R374). -/
def State.goMembers (s : State) (n : Nat) (m : GooseMsg) : State :=
  let b := s.tblAt 3 n
  let ws := (m.mems.zipIdx).flatMap (fun e => memWords (goType b e.2) e.1)
  let nan := (m.mems.zipIdx).any (fun e => goType b e.2 = 5 && (match e.1 with | .float v => f32NaN v | _ => false))
  let s1 := (s.goMod n (fun x => { x with mems := ws })).stickIf nan Stk.NET_RXERR
  let s2 := (ws.zipIdx).foldl (fun t e => t.panSample 0x08 (goBase n + 4 + e.2) s.gt s.gt e.1) s1
  (m.mems.zipIdx).foldl (fun t e => match e.1 with | .octets bs => if goType b e.2 = 8 then t.goTelegram bs else t | _ => t) s2

/-- A matching message (R370, R371). [log 157: DEDUCED] -/
def State.goMessage (s : State) (n : Nat) (m : GooseMsg) : State :=
  let b := s.tblAt 3 n
  let x := s.net.goSub.at n
  if (m.test && !(leAt b 8 1).testBit 0) || m.sim != (leAt b 8 1).testBit 1 then s
  else if goBad b m then ((s.stick Stk.GOOSE_MISMATCH).goMod n (fun y => { y with valid := false, mismatch := true })).goStatus n s.gt
  else
    let new := !x.any || m.stNum ≠ x.stNum
    let ahead := (m.sqNum - x.sqNum).toNat
    if !new && !(1 ≤ ahead && ahead < 2 ^ 31) then s
    else
      let s1 := s.goMod n (fun y => { y with any := true, valid := true, until_ := s.gt + m.ttlMs * tickMs, stNum := m.stNum, sqNum := m.sqNum,
                                             test := m.test, sim := m.sim, mismatch := false })
      let s2 := ((s1.goStatus n s.gt).panSample 0x08 (goBase n + 1) s.gt s.gt m.stNum).panSample 0x08 (goBase n + 2) s.gt s.gt m.sqNum
      if new then s2.goMembers n m else s2

/-- A GOOSE message that has been delivered. -/
def State.goRx (s : State) (m : GooseMsg) : State :=
  (List.range (s.tblCount 3)).foldl (fun t n => if t.goMatch n m then t.goMessage n m else t) s

/-- The content of member `m` of a publication, from the committed bank (R375). -/
def State.gpMember (s : State) (b : List Byte) (m : Nat) : Nat × List Word × List Byte :=
  let slot := leAt b (24 + 4 * m) 2
  let t := leAt b (26 + 4 * m) 1
  let w := s.slot slot
  let ws : List Word := match t with
    | 1 => [w &&& 1#32]
    | 2 => [w &&& 0x7FFFFFFF#32]
    | 3 => [w]
    | 4 => [w]
    | 5 => [toF32 (bfVal w)]
    | 6 => [w &&& 0x1FFF#32]
    | 7 => [w, s.slot (slot + 1)]
    | _ => []
  (t, ws, if t = 8 then s.safe.txLast.at slot else [])

def State.gpMembers (s : State) (u : Nat) : List (Nat × List Word × List Byte) :=
  let b := s.tblAt 4 u
  (List.range (leAt b 8 1)).map (fun m => s.gpMember b m)

/-- stNum and sqNum go on at 1 after 2^32 - 1 (R375). [log 158: DEDUCED] -/
def numNext (n : Nat) : Nat := if n = 0xFFFFFFFF then 1 else n + 1

/-- The time of the message after one at `t`: T1, 2 T1, 4 T1 ... after the change, the interval capped at T0 (R375). [log 158: DEDUCED] -/
def gpNext (b : List Byte) (change t : Nat) : Nat :=
  let t0 := leAt b 16 2 * tickMs
  let t1 := leAt b 18 2 * tickMs
  let e := t - change
  t + min t0 (if e = 0 then t1 else e)

/-- Publication `u` sends its message now and schedules the next (R375). [log 158: DEDUCED] -/
def State.gpSend (s : State) (u : Nat) : State :=
  let b := s.tblAt 4 u
  let x := s.net.goPub.at u
  let nx := gpNext b x.changeAt s.gt
  (s.gpMod u (fun y => { y with nextAt := nx })).netSend
    (.goose u x.stNum x.sqNum (2 * (nx - s.gt) / tickMs) ((leAt b 20 1).testBit 0) x.mems)

/-- The comparison of every publication at an epoch-boundary commit (R375). The first one publishes without a change of stNum. [log 158: DEDUCED] -/
def State.gpCompare (s : State) : State :=
  if !s.powered then s
  else (List.range (s.tblCount 4)).foldl (fun t u =>
    let x := t.net.goPub.at u
    let ms := t.gpMembers u
    if x.any && ms == x.mems then t
    else (t.gpMod u (fun y => { y with any := true, mems := ms, stNum := if y.any then numNext y.stNum else y.stNum, sqNum := 0,
                                       changeAt := t.gt })).gpSend u) s

/-- Buffered samples are discarded at a GT step (R376). [log 31: DEDUCED] -/
def State.svDrop (s : State) : State := s.netMod (fun n => { n with sv := n.sv.map (fun x => { x with buf := [] }) })

end Sys2Proof.Machine
end

