-- ==== Sys2Proof/Machine/LawOps.lean ====
section
/-!
DEFINITION. What the control laws share (R202 to R211): parameters, structural fields, channels, transforms, and how an instance sees the
others. The laws compute on exact rationals, which their state keeps to 2^-128; what goes through a slot is rounded there to BF24.
-/
namespace Sys2Proof.Machine

/-! ## Parameters -/

/-- A tunable parameter: its Idx, Min, Default and Max. -/
structure LawPar where
  idx : Nat
  lo : Rat
  dflt : Rat
  hi : Rat

/-- Parameters of successive Idx from `i` on. -/
def parsFrom (i : Nat) (l : List (Rat × Rat × Rat)) : List LawPar := (l.zipIdx).map (fun e => ⟨i + e.2, e.1.1, e.1.2.1, e.1.2.2⟩)

def syncPars : List LawPar := parsFrom 0 [(1, 15, 100), (3 / 10, 707 / 1000, 2), (1 / 2, 141 / 100, 2), (1, 5, 10), (1 / 20, 15 / 100, 1 / 2),
  (5 / 1000, 2 / 100, 2 / 10), (5, 40, 1000), (20, 100, 1000)]

def ictlPars : List LawPar := parsFrom 0 [(50, 800, 5000), (1 / 100, 1 / 10, 1 / 2), (1 / 1000, 5 / 1000, 1 / 10), (0, 1, 1), (0, 1, 10),
  (1 / 10, 110 / 100, 3 / 2), (0, 3 / 2, 4), (100, 1050, 1500), (1 / 10, 4, 50), (0, 200, 5000), (2 / 100, 2 / 10, 1), (1, 50, 65535)]

def gfmPars : List LawPar := parsFrom 0 [(1 / 10, 4, 20), (0, 50, 500), (0, 0, 1), (5 / 1000, 4 / 100, 2 / 10), (0, 5 / 100, 2 / 10), (0, 0, 100),
  (9 / 10, 1, 11 / 10), (0, 2 / 100, 1 / 2), (1 / 100, 15 / 100, 1), (1 / 2, 5, 100), (10, 500, 10000), (1 / 100, 6 / 100, 2 / 10)]

/-- The points of a curve: a time and a value each (R224). -/
def curvePars (i : Nat) (lo hi : Rat) (ts vs : List Rat) : List LawPar :=
  (List.range 8).flatMap (fun n => [⟨i + 2 * n, 0, ts.getD n (ts.getLastD 0), 60000⟩, ⟨i + 1 + 2 * n, lo, vs.getD n (vs.getLastD 0), hi⟩])

def frtPars : List LawPar := parsFrom 0 [(1 / 2, 85 / 100, 95 / 100), (0, 90 / 100, 1), (105 / 100, 110 / 100, 14 / 10), (1, 108 / 100, 2), (0, 20, 1000),
    (0, 2, 10), (0, 1 / 10, 2 / 10), (0, 1, 1), (0, 2, 10), (0, 1, 2), (1 / 10, 2, 100), (0, 0, 1 / 2), (0, 200, 5000)] ++
  curvePars 0x10 0 1 [0, 150, 160, 1500] [0, 0, 30 / 100, 85 / 100] ++
  curvePars 0x20 1 (3 / 2) [0, 100, 110, 5000] [130 / 100, 130 / 100, 120 / 100, 115 / 100]

def aiPars : List LawPar := parsFrom 0 [(1 / 2, 88 / 100, 1), (20, 2000, 60000), (1 / 10, 1 / 2, 1), (20, 160, 60000), (1, 110 / 100, 3 / 2), (20, 2000, 60000),
  (1, 120 / 100, 3 / 2), (20, 160, 60000), (-5, -1, 0), (20, 5000, 60000), (-5, -5 / 2, 0), (20, 100, 60000), (0, 1, 5), (20, 5000, 60000), (0, 3 / 2, 5),
  (20, 100, 60000), (1 / 10, 2, 10), (20, 500, 2000), (2, 12, 30), (0, 5 / 100, 1), (0, 5 / 100, 2 / 10), (0, 500, 5000), (0, 300, 3600),
  (8 / 10, 90 / 100, 12 / 10), (8 / 10, 105 / 100, 12 / 10), (-2, -1 / 2, 2), (-2, 2 / 10, 2), (1 / 10000, 17 / 10000, 1)]

def mpptPars : List LawPar := parsFrom 0 [(0, 1, 1), (1, 50, 1000), (1 / 10, 2, 20), (0, 200, 10000), (0, 5 / 1000, 1 / 10), (100, 500, 1490), (110, 1300, 1500),
  (0, 15, 1440), (1, 10, 50), (5, 20, 500), (0, 0, 5000000), (0, 2 / 1000, 1), (0, 1 / 2, 100), (1 / 10, 85 / 100, 95 / 100)]

/-- The station setpoint block, by its place in it (R218). PF_SET is checked on its magnitude. -/
def setPars : List LawPar := parsFrom 0 [(-3 / 2, 0, 3 / 2), (-3 / 2, 0, 3 / 2), (1 / 2, 1, 1), (-3 / 2, 0, 3 / 2), (-3 / 2, 0, 3 / 2), (1 / 1000, 1, 100), (0, 0, 1), (0, 0, 1),
  (1 / 10, 1, 10), (0, 0, 5), (0, 0, 1)]

/-- The parameters of a type (R439 gives its code). [log 87: DEDUCED] -/
def parsOf (typ : Nat) : List LawPar :=
  match typ with
  | 1 => syncPars | 2 => frtPars | 3 => aiPars | 4 => gfmPars | 5 => ictlPars | 6 => mpptPars | _ => []

/-- A number as a BF24 word carries it. -/
def bfRat (x : Rat) : Rat := (bfVal (ratBF x).w).toRat

/-- The host slots of parameter `idx` of instance `i` and of setpoint `n` (R205). -/
def parSlot (i idx : Nat) : Nat := 0xE000 + 0x100 * i + idx
def setSlot (n : Nat) : Nat := 0xEF00 + n

/-- A parameter slot's value, or its default while the host has written none. [log 87: DEDUCED] -/
def State.parOr (s : State) (slot : Nat) (ps : List LawPar) (idx : Nat) : Rat :=
  if s.law.written.contains slot then s.slotRat slot else bfRat ((ps.find? (fun p => p.idx == idx)).elim 0 (fun p => p.dflt))

/-- A tunable parameter of instance `i` of a type, and a setpoint. -/
def State.lawPar (s : State) (typ i idx : Nat) : Rat := s.parOr (parSlot i idx) (parsOf typ) idx
def State.setPar (s : State) (n : Nat) : Rat := s.parOr (setSlot n) setPars n

/-! ## Structural fields -/

/-- Field `n` of an instance as a number, a BF24 value and an angle in turns (R242). -/
def LawInst.num (l : LawInst) (n d : Nat) : Nat := (l.fields.find n).elim d (fun w => w.toNat)
def LawInst.bf (l : LawInst) (n : Nat) (d : Rat) : Rat := (l.fields.find n).elim d (fun w => (bfVal w).toRat)
def LawInst.turn (l : LawInst) (n : Nat) : Rat := (l.fields.find n).elim 0 (fun w => (w.toNat : Rat) / 2 ^ 32)

/-- The first fields of an instance's channel blocks (R242). -/
def LawInst.blocks (l : LawInst) : List Nat :=
  match l.typ with
  | 0 => if l.num 4 0 = 1 then [5] else []
  | 1 => [1]
  | 5 => [9, 22]
  | 6 => (List.range (l.num 1 0)).flatMap (fun t => [3 + 27 * t, 16 + 27 * t])
  | _ => []

/-- A source of a channel (R209). -/
structure LawSrc where
  slots : List Nat
  scale : Rat
  shift : Rat

def LawInst.src (l : LawInst) (n : Nat) (useB : Bool) : LawSrc :=
  let o := if useB then 5 else 0
  { slots := ((List.range 3).map (fun j => l.num (n + o + j) 0xFFFF)).filter (fun w => w ≠ 0xFFFF), scale := l.bf (n + o + 3) 1, shift := l.turn (n + o + 4) }

/-- Slots of the aligned-SV range (R210). -/
def isSvSlot (n : Nat) : Bool := 0x400 ≤ n && n < 0x800
def LawSrc.sv (x : LawSrc) : Bool := x.slots.any isSvSlot

/-- The sample period of a stream's slot, in ticks (R210). -/
def State.svSlotPeriod (s : State) (n : Nat) : Nat := tickSec / svRate (s.tblAt 1 ((n - 0x400) / 0x40))

/-- The source is fresh at the present commit (R210). -/
def State.srcFresh (s : State) (x : LawSrc) : Bool := !x.slots.isEmpty && x.slots.all s.fresh

/-! ## Times -/

/-- The epoch length in seconds. -/
def State.epT (s : State) : Rat := (s.tim.epLen : Rat) / tickSec

/-- A condition that has held for `n` epochs has held for a number of ticks. [log 90: DEDUCED] -/
def State.lasted (s : State) (n : Nat) (ticks : Rat) : Bool := 1 ≤ n && decide (ticks ≤ (((n - 1) * s.tim.epLen : Nat) : Rat))
def msTicks (x : Rat) : Rat := x * tickMs

/-- The epochs for which a condition has held. [log 90: DEDUCED] -/
def heldOn (c : Bool) (n : Nat) : Nat := if c then n + 1 else 0

/-! ## Channels -/

def LawInst.chan (l : LawInst) (n : Nat) : LawChan := (l.ch.find n).getD {}

/-- A channel at this epoch's commit: ages, the source of the next epoch, and the loss of both (R211). [log 92: DEDUCED] -/
def State.chanNext (s : State) (l : LawInst) (n : Nat) : LawChan :=
  let c := l.chan n
  let a := l.src n false
  let b := l.src n true
  let hold := l.num (n + 10) 650 * tickUs
  let ageA := if s.srcFresh a then 0 else c.ageA + s.tim.epLen
  let ageB := if s.srcFresh b then 0 else c.ageB + s.tim.epLen
  let period := if a.sv then ((a.slots.filter isSvSlot).map s.svSlotPeriod).foldl max 0 else 0
  let okA := if ageA < period + s.tim.epLen then c.okA + s.tim.epLen else 0
  let lostB := b.slots.isEmpty || hold < ageB
  { useB := if c.useB then !(l.num (n + 11) 1000 * tickMs ≤ okA) else hold < ageA && !lostB
    ageA := ageA, ageB := ageB, okA := okA, lost := heldOn (hold < ageA && lostB) c.lost }

/-- Every channel of an instance at this commit. -/
def State.chansNext (s : State) (l : LawInst) : KMap LawChan := l.blocks.foldl (fun m n => m.put n (s.chanNext l n)) l.ch

/-- How many channels change their source or are lost or found at this commit. -/
def State.chanChanges (s : State) (l : LawInst) : Nat :=
  (l.blocks.filter (fun n =>
    let c := l.chan n
    let d := s.chanNext l n
    c.useB != d.useB || (c.lost == 0) != (d.lost == 0))).length

/-- A channel of an instance has been lost for its LOST_T (R211). [log 92: DEDUCED] -/
def State.chanTrip (s : State) (l : LawInst) : Bool := l.blocks.any (fun n => s.lasted (l.chan n).lost (msTicks (l.num (n + 12) 100)))

/-- The values of the source in use, referred to the base quantity (R209). -/
def State.chanVals (s : State) (l : LawInst) (n : Nat) : List Rat :=
  let x := l.src n (l.chan n).useB
  x.slots.map (fun k => s.slotRat k * x.scale)

/-! ## Transforms (R208) -/

/-- A vector in a plane. -/
structure Vec where
  x : Rat := 0
  y : Rat := 0
  deriving DecidableEq, Repr, Inhabited

def Vec.add (a b : Vec) : Vec := ⟨a.x + b.x, a.y + b.y⟩
def Vec.scale (k : Rat) (a : Vec) : Vec := ⟨k * a.x, k * a.y⟩
def Vec.sub (a b : Vec) : Vec := ⟨a.x - b.x, a.y - b.y⟩

/-- The vector turned forward by an angle in turns; a Park transform turns it back by θ. -/
def Vec.turn (a : Vec) (t : Rat) : Vec :=
  let c := cosSinTurn t
  ⟨a.x * c.1 - a.y * c.2, a.y * c.1 + a.x * c.2⟩

def Vec.park (a : Vec) (th : Rat) : Vec := a.turn (-th)
def Vec.mag (a : Vec) : Rat := sqrtRat (a.x * a.x + a.y * a.y)

/-- The amplitude-invariant Clarke transform of three phase values. -/
def clarke (v : List Rat) : Vec :=
  let a := v.getD 0 0
  let b := v.getD 1 0
  let c := v.getD 2 0
  ⟨(2 * a - b - c) / 3, (b - c) / sqrtRat 3⟩

/-- The phase values of a vector. -/
def unclarke (u : Vec) : List Rat :=
  let h := sqrtRat 3 / 2 * u.y
  [u.x, h - u.x / 2, -h - u.x / 2]

/-- The circle number. -/
def piRat : Rat := (piFx : Rat) / 2 ^ fxP

/-- An angle in turns, in [0, 1). -/
def fracTurn (t : Rat) : Rat := t - t.floor

/-- An angle in turns as a word (R20). [log 86: DESIGN CHOICE] -/
def turnWord (t : Rat) : Word := BitVec.ofInt 32 (ratRound (t * 2 ^ 32))

def clampRat (lo hi x : Rat) : Rat := if x < lo then lo else if hi < x then hi else x
def absRat (x : Rat) : Rat := if x < 0 then -x else x

/-! ## How an instance sees the others (R204) -/

/-- What an instance runs on: the committed values of the epoch, the instances as the last epoch left them, and those that have run already. -/
structure LawCtx where
  s : State
  k : Nat
  old : Tab LawInst
  now : Tab LawInst
  i : Nat

def LawCtx.me (c : LawCtx) : LawInst := c.old.at c.i

/-- Instance `j` runs earlier in the same binding: its values come in the same epoch. [log 91: DEDUCED] -/
def LawCtx.early (c : LawCtx) (j : Nat) : Bool := (c.old.at j).bind = c.me.bind && (c.old.at j).pos < c.me.pos
def LawCtx.inst (c : LawCtx) (j : Nat) : LawInst := if c.early j then c.now.at j else c.old.at j

/-- D of the connection from instance `j`. [log 91: DEDUCED] -/
def LawCtx.delay (c : LawCtx) (j : Nat) : Rat := if c.early j then 0 else 1

/-- An output value of instance `j`: from data memory, or from its BF24 or angle slot. [log 91: DEDUCED] -/
def LawCtx.val (c : LawCtx) (j off : Nat) (x : Rat) : Rat := if c.early j then x else c.s.slotRat ((c.old.at j).base + off)
/-- [log 91: DEDUCED] -/
def LawCtx.ang (c : LawCtx) (j off : Nat) (x : Rat) : Rat := if c.early j then x else ((c.s.slot ((c.old.at j).base + off)).toNat : Rat) / 2 ^ 32

/-- The lowest instance of a type, and all of them. -/
def LawCtx.allOf (c : LawCtx) (typ : Nat) : List Nat := (List.range c.old.length).filter (fun j => (c.old.at j).typ == typ)
def LawCtx.first (c : LawCtx) (typ : Nat) : Option Nat := (c.allOf typ).head?

def LawCtx.par (c : LawCtx) (idx : Nat) : Rat := c.s.lawPar c.me.typ c.i idx

/-- What SYNC instance `j` publishes. -/
structure SyncView where
  st : Nat := 0
  theta : Rat := 0
  f : Rat := 0
  vp : Rat := 0
  vn : Rat := 0
  rocof : Rat := 0
  phi : Word := 0#32
  d : Rat := 0
  j : Nat := 0

def LawCtx.syncAt (c : LawCtx) (j : Nat) : SyncView :=
  let x := (c.inst j).sync
  { st := x.st, theta := c.ang j 1 x.theta, f := c.val j 2 x.f, vp := c.val j 3 x.vp, vn := c.val j 4 x.vn, rocof := c.val j 5 x.rocof,
    phi := if c.early j then x.phi else c.s.slot ((c.old.at j).base + 6), d := c.delay j, j := j }

/-- The SYNC instance that field `n` names, by default the lowest (R242). -/
def LawCtx.sync (c : LawCtx) (n : Nat) : SyncView := c.syncAt (c.me.num n ((c.first 1).getD 0))

/-- The state of FRT, AI, GFM and COORD; what a station without one reads as. -/
def LawCtx.frt (c : LawCtx) : FrtSt := (c.first 2).elim {} (fun j => (c.inst j).frt)
def LawCtx.ai (c : LawCtx) : AiSt := (c.first 3).elim {} (fun j => (c.inst j).ai)
def LawCtx.gfm (c : LawCtx) : GfmSt := (c.first 4).elim {} (fun j => (c.inst j).gfm)
def LawCtx.coord (c : LawCtx) : CoordSt := (c.first 0).elim {} (fun j => (c.inst j).coord)

/-- p* and q* as COORD publishes them. -/
def LawCtx.pStar (c : LawCtx) : Rat := (c.first 0).elim 0 (fun j => c.val j 2 (c.inst j).coord.p)
def LawCtx.qStar (c : LawCtx) : Rat := (c.first 0).elim 0 (fun j => c.val j 3 (c.inst j).coord.q)

/-- The station's bases (R208). -/
def LawCtx.sBase (c : LawCtx) : Rat := (c.first 0).elim 1 (fun j => (c.old.at j).bf 1 1)
def LawCtx.vBase (c : LawCtx) : Rat := (c.first 0).elim 1 (fun j => (c.old.at j).bf 2 1)
def LawCtx.fN (c : LawCtx) : Rat := (c.first 0).elim 50 (fun j => (c.old.at j).num 3 50)
def LawCtx.vPeak (c : LawCtx) : Rat := c.vBase * sqrtRat (2 / 3)
def LawCtx.iPeak (c : LawCtx) : Rat := c.sBase * sqrtRat (2 / 3) / c.vBase

/-- The share of ICTL instance `j` (R208). -/
def LawCtx.share (c : LawCtx) (j : Nat) : Rat := (c.old.at j).bf 4 (1 / ((c.allOf 5).length : Rat))

/-- The currents of ICTL instance `j`'s bridge in p.u. of its share. -/
def LawCtx.bridgeI (c : LawCtx) (j : Nat) : Vec := (clarke (c.s.chanVals (c.old.at j) 9)).scale (1 / (c.iPeak * c.share j))

/-- The station's current in p.u.: the bridges by their shares. -/
def LawCtx.stationI (c : LawCtx) : Vec := (c.allOf 5).foldl (fun v j => v.add ((c.bridgeI j).scale (c.share j))) {}

/-- The split of the two integrators into both sequences, before SHIFT (R212). -/
def SyncSt.posSeq (x : SyncSt) : Vec := ⟨(x.sa - x.qb) / 2, (x.qa + x.sb) / 2⟩
def SyncSt.negSeq (x : SyncSt) : Vec := ⟨(x.sa + x.qb) / 2, (x.sb - x.qa) / 2⟩

/-- The grid voltage that SYNC instance `j` measures, in p.u.: the phase values of a local source without SHIFT, else both sequences. [log 103: DEDUCED] -/
def LawCtx.gridV (c : LawCtx) (j : Nat) : Vec :=
  let l := c.old.at j
  let x := l.src 1 (l.chan 1).useB
  if !x.sv && x.shift = 0 then (clarke (c.s.chanVals l 1)).scale (1 / c.vPeak)
  else
    let y := (c.inst j).sync
    (Vec.mk y.pa y.pb).add (y.negSeq.turn (-x.shift))

/-- The always-off code (R218). -/
def offWord : Word := 0x1FFFFFFE#32

/-- W(m) of R256 for leg group `g`. -/
def State.dutyWord (s : State) (g : Nat) (m : Rat) : Word :=
  let per : Int := 32 * s.fld (Reg.PWM_PER g) F.PWM_PER_PER
  BitVec.ofInt 32 (clampInt 0 per (ratRound (per * (1 - absRat m))))

/-- The compare set of a three-level leg (R256). -/
def State.legWords (s : State) (g : Nat) (off : Bool) (m : Rat) : List Word :=
  (if off then List.replicate 6 offWord
   else if 0 ≤ m then [s.dutyWord g m, 0#32, 0x1FFFFFFF#32, 0#32, offWord, 0#32]
   else [offWord, 0#32, offWord, 0#32, s.dutyWord g m, 0#32]) ++ [0x1FFFFFFF#32, 0#32]

/-- The compare set of a tracker (R256). -/
def State.trkWords (s : State) (g : Nat) (off : Bool) (d : Rat) : List Word :=
  (if off then List.replicate 6 offWord else [s.dutyWord g d, 0#32, offWord, offWord, offWord, offWord]) ++ [0x1FFFFFFF#32, 0#32]

/-- A quotient; by zero it is a value the spec does not state. [log 88: DEDUCED] -/
def LawCtx.quot (c : LawCtx) (a b : Rat) : Rat := if b = 0 then Config.freeRat (c.s.freeN + c.i) else a / b

/-- A value as a BF24 output word. [log 86: DESIGN CHOICE] -/
def bfWord (x : Rat) : Word := (ratBF x).w

/-- The directions of power that SDI permits: the clamp of p* (R207, R312). [log 200: DEDUCED] -/
def State.sdiClamp (s : State) (p : Rat) : Rat :=
  let on := fun (m : Nat) => s.safe.inForce && s.safe.cfg.convs.any (fun v => (v.fns.getD 3 {}).on && (v.fns.getD 3 {}).mode == m)
  let lo := if on 1 then max 0 p else p
  if on 2 then min 0 lo else lo

/-- A value as the state of a law keeps it from one epoch to the next: to the nearest multiple of 2^-128, the precision to which roots and
circular functions are formed. [log 86: DESIGN CHOICE] -/
def keepRat (x : Rat) : Rat := (ratRound (x * 2 ^ 128) : Rat) / (2 ^ 128 : Nat)

/-- What an instance leaves behind: itself, its output words by offset, and its records by event number. -/
structure LawOut where
  l : LawInst
  ws : List (Nat × Word)
  logs : List (Nat × List Word) := []

/-- Words at consecutive offsets. -/
def offWords (a : Nat) (ws : List Word) : List (Nat × Word) := (ws.zipIdx).map (fun e => (a + e.2, e.1))

/-- The word at O + 0x00 (R205). -/
def LawCtx.status (c : LawCtx) (st : Nat) (b16 b17 : Bool) (more : Nat := 0) : Nat × Word :=
  (0, w32 (st % 16 + 256 * c.me.typ + 2 ^ 16 * bit b16 + 2 ^ 17 * bit b17 + more + 2 ^ 24 * c.i))

/-! ## Composition (R203, R239, R241) -/

/-- The place of a type in the execution order of a binding (R203): SYNC, FRT, AI, COORD, GFM, ICTL, MPPT. -/
def typeRank (typ : Nat) : Nat := [3, 0, 1, 2, 4, 5, 6].getD typ 6

/-- The instances of binding `b` in their execution order (R203). -/
def lawOrder (t : Tab LawInst) (b : Nat) : List Nat :=
  (List.range 7).flatMap (fun r => (List.range t.length).filter (fun i => (t.at i).bind == b && typeRank (t.at i).typ == r))

/-- Every instance gets its place (R205). -/
def lawPlace (t : Tab LawInst) : Tab LawInst :=
  (t.zipIdx).map (fun e => { e.1 with pos := (lawOrder t e.1.bind).idxOf e.2 })

/-- The cost of an instance in an epoch (R241); `due8` says that the sections of RATE 8 run. -/
def LawInst.cost (l : LawInst) (fb due8 : Bool) : Nat :=
  let n := l.num 1 0
  match l.typ with
  | 0 => if fb then 60 else 150
  | 1 => if fb then 140 else 610
  | 2 => if fb then 120 else 360
  | 3 => if fb then 150 else 430
  | 4 => if fb then 160 else 820
  | 5 => if fb then 310 else 1240
  | _ => if fb then 40 + 60 * n else 90 + 130 * n + (if due8 then 60 + 110 * n else 0)

/-- The supervision descriptors of a binding's instances (R239): LIMIT and TIMER are the parameters' values of the epoch. [log 108: DEDUCED] -/
def State.lawDescs (s : State) (b : Nat) : List KDesc :=
  ((lawOrder s.law.inst b).flatMap (fun i =>
    let l := s.law.inst.at i
    let o := l.base
    match l.typ with
    | 5 =>
      let timer := clampNat 1 65535 (ratRound (s.lawPar 5 i 0xB)).toNat
      let d := fun (r f : Nat) => ({ ref := o + r, fb := o + f, lim := bfWord (s.lawPar 5 i 0xA), timer := timer, act := 2, en := true } : KDesc)
      [d 7 2, d 8 3]
    | 6 => (List.range (l.num 1 0)).map (fun t =>
        ({ ref := o + 0x10 + 4 * t, fb := o + 0x12 + 4 * t, lim := bfWord (s.lawPar 6 i 6 / 20), timer := 1000, act := 1, en := true } : KDesc))
    | _ => [])).take 32

end Sys2Proof.Machine
end

