-- ==== Sys2Proof/Machine/KetLoad.lean ====
section
/-!
DEFINITION. The recipe image and the loader's check (R148 to R151, R157, R162, R177, R178, R190 to R201).
-/
namespace Sys2Proof.Machine

/-! ## Words -/

/-- The fields of a format that an opcode uses, by their places (R185, R187). -/
def usedFields (op : Nat) : List Nat :=
  if op = 0x01 then [0, 1, 2]
  else if op = 0x08 then [2, 3, 4, 5, 6, 7]
  else if op = 0x09 then [0, 1, 2, 3]
  else if op = 0x0A then [0, 1, 2]
  else if op = 0x0B then [1, 3]
  else if op = 0x10 || op = 0x18 then [0, 1, 2, 3]
  else if op = 0x11 || op = 0x19 then [0, 3]
  else if op = 0x25 || op = 0x26 || op = 0x28 then [0, 1]
  else if 0x20 ≤ op && op ≤ 0x27 then [0, 1, 2, 3, 4]
  else if op = 0x30 then [0, 1]
  else if op = 0x31 || op = 0x35 then [2, 3, 4, 5, 8]
  else if op = 0x32 then [1, 2, 3, 4]
  else if op = 0x34 then [0, 1, 8]
  else if op = 0x38 || op = 0x39 then [0, 6]
  else if op = 0x3A then [0]
  else if op = 0x40 || op = 0x41 then [0, 1, 2, 3]
  else if op = 0x43 then [0, 1, 2, 3, 4]
  else if 0x42 ≤ op && op ≤ 0x46 then [0, 1, 2]
  else if 0x50 ≤ op && op ≤ 0x54 then [0, 1, 2]
  else if op = 0x55 then [0, 1, 3, 4]
  else if op = 0x56 then [0, 2]
  else []

/-- The field is in use in this word; the element of SB only when it is broadcast (R185). -/
def KIns.uses (k : KIns) (i : Nat) : Bool := (usedFields k.op).contains i && !(k.fmt == .s && i == 4 && k.fld 3 == 0)

/-- The format admits an index offset (R185). -/
def fmtJen : KFmt → Bool
  | .s | .e | .p | .t | .x => true
  | _ => false

/-- A word that R185 and R186 allow (code 0x05). -/
def KIns.ok (k : KIns) : Bool :=
  (List.range k.f.length).all (fun i => k.uses i || k.fld i == 0) && (k.jen == 0 || fmtJen k.fmt) &&
    !(k.isLoop && (k.jsel != 0 || k.pn != 0 || k.qsel != 0)) && !(k.op == 0x08 && 5 < k.fld 7) && !(k.op == 0x55 && k.fld 3 == 3) &&
    !((k.op == 0x08 && k.fld 6 == 0) || ((k.op == 0x09 || k.op == 0x0A) && k.fld 0 == 0) || (k.op == 0x0B && k.fld 1 == 0))

/-- The instruction at a word of the program. -/
def insAt (prog : List DWord) (a : Nat) : Option KIns := readWord (prog.getD a 0#64).toNat

/-- The cycles of an instruction (R187). -/
def KIns.cost (k : KIns) (st : Tab KStage) : Nat :=
  let c := fun i => quarterUp (st.at (k.fld i)).len
  if k.op = 0x10 then 18 + 2 * k.fld 2
  else if k.op = 0x18 then 4 + 2 * k.fld 2
  else if 0x20 ≤ k.op && k.op ≤ 0x28 then c 0
  else if k.op = 0x32 then c 1 + 1
  else if k.op = 0x38 || k.op = 0x39 then c 0 + 1
  else if k.op = 0x3A then 2 * c 0 + 2
  else if k.op = 0x33 then 2
  else if k.op = 0x40 || k.op = 0x41 then 10
  else if k.op = 0x42 then 6
  else if k.op = 0x43 then 12
  else if 0x44 ≤ k.op && k.op ≤ 0x46 then 2
  else if k.op = 0x0B then 16
  else if k.op = 0x11 then 18
  else if k.op = 0x19 then 4
  else 1

/-- The cycles of words `a` to `stop - 1`, and the cycle at which the last Pantry load among them completes (R198). [log 83: DEDUCED] -/
def costRange (prog : List DWord) (st : Tab KStage) (stop : Nat) : Nat → Nat → Nat → Option Nat → Nat × Option Nat
  | 0, _, n, last => (n, last)
  | fuel + 1, a, n, last =>
    if stop ≤ a then (n, last)
    else match insAt prog a with
      | none => costRange prog st stop fuel (a + 1) (n + 1) last
      | some k =>
        if k.isLoop then
          let body := costRange prog st (a + 1 + k.loopL) fuel (a + 1) 0 none
          let last2 := match body.2 with
            | some l => some (n + 1 + (k.loopN - 1) * body.1 + l)
            | none => last
          costRange prog st stop fuel (a + 1 + k.loopL) (n + 1 + k.loopN * body.1) last2
        else
          let n2 := n + k.cost st
          costRange prog st stop fuel (a + 1) n2 (if k.op = 0x0B || k.op = 0x10 || k.op = 0x11 then some n2 else last)

/-- The cycles of a section and of its last load, from its start (R189, R198). [log 83: DEDUCED] -/
def KBank.secCost (k : KBank) (s : KSection) : Nat × Option Nat :=
  let r := costRange k.prog k.stages (s.start + s.count) (s.count + 1) s.start 0 none
  (4 + r.1 + 16, r.2.map (fun l => 4 + l))

/-! ## Budgets -/

/-- The divider of a cluster clock (R68). -/
def State.kclDiv (s : State) (c : Nat) : Nat := max 1 (s.fld (Reg.CLK_KCLDIV c) F.CLK_KCLDIV_DIV)

/-- The divider that sets the budget of binding `b`: the slowest cluster's while the rotating spare is enabled (R149). [log 84: DEDUCED] -/
def State.budgetDiv (s : State) (b : Nat) : Nat :=
  if s.ket.spare.isSome || s.flag Reg.KET_SPARECFG F.KET_SPARECFG_EN then max (s.kclDiv 0) (max (s.kclDiv 1) (s.kclDiv 2)) else s.kclDiv (b / 4)

/-- EP_LEN as it was written last, also while it is pending (R66, R151). [log 84: DEDUCED] -/
def State.epWritten (s : State) : Nat := s.tim.epLenPend.getD s.tim.epLen

/-- HALF_EN as the register holds it. -/
def State.halfEn (s : State) : Bool := s.flag Reg.PAN_CTRL F.PAN_CTRL_HALF_EN

/-- The budgets at a frequency of `num / den` MHz (R149). -/
def budget (ep num den : Nat) : Nat × Nat := ((ep - 4) * num / (500 * den), (ep - 8) * num / (1000 * den))

/-- The budgets of binding `b` at its configured frequency. -/
def State.budgetOf (s : State) (b : Nat) : Nat × Nat := budget s.epWritten 4000 (s.budgetDiv b)

/-- The first residue for which a part breaks a condition of R149. -/
def KBank.overBudget (k : KBank) (secs : Tab KSection) (pre : Nat) (bud : Nat × Nat) (half : Bool) : Option Nat :=
  (List.range 8).find? (fun q =>
    let r := secs.foldl (fun (acc : Nat × Nat) s =>
      if q % s.rate = s.phase then
        let c := k.secCost s
        let load := match c.2 with | some l => acc.1 + l | none => acc.2
        (acc.1 + c.1, if s.dst then acc.1 + c.1 else load)
      else acc) (pre, 0)
    bud.1 < r.1 || (half && bud.2 < r.2))

/-! ## The image -/

/-- The number in `n` bytes of an image. -/
def u (bs : List Byte) (o n : Nat) : Nat := leAt bs o n

/-- The offsets, counts and entry sizes of the six tables in their order (R190, R191). -/
def imgTables (bs : List Byte) : List (Nat × Nat × Nat) :=
  [(u bs 0x18 4, u bs 0x0E 1 + u bs 0x0F 1, 8), (u bs 0x1C 4, u bs 0x12 1, 4), (u bs 0x20 4, u bs 0x13 1, 16), (u bs 0x24 4, u bs 0x14 2, 4),
   (u bs 0x28 4, u bs 0x16 2, 8), (u bs 0x2C 4, u bs 0x10 2, 8)]

/-- The header's counts are within their limits (R191). -/
def imgCounts (bs : List Byte) : Bool :=
  1 ≤ u bs 0x0E 1 && u bs 0x0E 1 ≤ 16 && 1 ≤ u bs 0x0F 1 && u bs 0x0F 1 ≤ 16 && 1 ≤ u bs 0x10 2 && u bs 0x10 2 ≤ 16384 &&
    u bs 0x12 1 ≤ 64 && u bs 0x13 1 ≤ 32 && u bs 0x14 2 ≤ 256 && u bs 0x16 2 ≤ 16384

/-- The tables are aligned, in order, apart and inside the image (R190). -/
def tablesOk (top : Nat) : Nat → List (Nat × Nat × Nat) → Bool
  | _, [] => true
  | lo, (o, n, sz) :: r => if n = 0 then o == 0 && tablesOk top lo r else o % 8 == 0 && lo ≤ o && o + n * sz ≤ top && tablesOk top (o + n * sz) r

/-- The bytes from `a` to `b - 1` are 0. -/
def zeroBytes (bs : List Byte) (a b : Nat) : Bool := ((bs.drop a).take (b - a)).all (fun x => x == 0#8)

/-- The padding between the tables is 0 (R190). -/
def padOk (bs : List Byte) (top : Nat) : Nat → List (Nat × Nat × Nat) → Bool
  | lo, [] => zeroBytes bs lo top
  | lo, (o, n, sz) :: r => if n = 0 then padOk bs top lo r else zeroBytes bs lo o && padOk bs top (o + n * sz) r

/-- The table number `t` and its entries' offsets. -/
def entries (bs : List Byte) (t : Nat) : List Nat :=
  let e := (imgTables bs).getD t (0, 0, 0)
  (List.range e.2.1).map (fun i => e.1 + e.2.2 * i)

/-- The reserved bits of the header and of every entry are 0 (code 0x04). -/
def reservedOk (bs : List Byte) : Bool :=
  u bs 0x0D 1 == 0 && zeroBytes bs 0x34 0x40 && (entries bs 0).all (fun o => u bs (o + 6) 2 == 0 && u bs (o + 4) 1 / 4 % 4 == 0) &&
    (entries bs 1).all (fun o => u bs o 2 < 2 ^ 14 && u bs (o + 2) 1 < 64) &&
    (entries bs 2).all (fun o => (u bs (o + 8) 4 &&& 0xFECC0000) == 0 && u bs (o + 12) 4 == 0) &&
    (entries bs 3).all (fun o => u bs (o + 2) 2 / 2 ^ 14 % 2 == 0) && (entries bs 4).all (fun o => u bs (o + 2) 2 == 0)

/-- A section entry (R192). -/
def readSec (bs : List Byte) (o : Nat) : KSection :=
  let c := u bs (o + 4) 1
  { start := u bs o 2, count := u bs (o + 2) 2, rate := 2 ^ (c % 4), phase := c / 16 % 8, dst := c / 128 = 1 }

def readStage (bs : List Byte) (o : Nat) : KStage :=
  let e := sgn 8 (u bs (o + 3) 1)
  { base := u bs o 2 % 2 ^ 14, len := u bs (o + 2) 1 % 64 + 1, decl := e, exp := e }

def readDesc (bs : List Byte) (o : Nat) : KDesc :=
  let c := u bs (o + 8) 4
  { ref := u bs o 2, fb := u bs (o + 2) 2, lim := w32 (u bs (o + 4) 4), timer := c % 65536, act := c / 2 ^ 16 % 4,
    angle := c / 2 ^ 20 % 2 = 1, freshReq := c / 2 ^ 21 % 2 = 1, en := c / 2 ^ 24 % 2 = 1 }

def readRange (bs : List Byte) (o : Nat) : KRange :=
  { first := u bs o 2, last := u bs (o + 2) 2 % 2 ^ 14, init := u bs (o + 2) 2 / 2 ^ 15 = 1 }

/-- The bank that an image fills. -/
def readBank (bs : List Byte) : KBank :=
  let secs := (entries bs 0).map (readSec bs)
  let n := u bs 0x0E 1
  { loaded := true, mark := true, crc := w32 (u bs (u bs 0x08 4 - 4) 4), build := w32 (u bs 0x30 4), secs := secs.take n, fbs := secs.drop n,
    stages := (entries bs 1).map (readStage bs), descs := (entries bs 2).map (readDesc bs), dmap := (entries bs 3).map (readRange bs),
    inits := (entries bs 4).map (fun o => (u bs o 2, w32 (u bs (o + 4) 4))), prog := (entries bs 5).map (fun o => BitVec.ofNat 64 (u bs o 8)) }

/-! ## The checks -/

/-- A section with its number as a result word gives it (R200). -/
def KBank.sections (k : KBank) : List (KSection × Nat) := k.secs.zipIdx ++ (k.fbs.zipIdx).map (fun e => (e.1, e.2 + 128))

/-- The sections of one part are valid (code 0x06): `seen` says that a DST = 0 section has come before. -/
def secBad (bs : List Byte) (nprog : Nat) (half : Bool) (part : Nat) : Bool → List (KSection × Nat × Nat) → Option Nat
  | _, [] => none
  | seen, (s, o, num) :: r =>
    if u bs (o + 5) 1 ≠ part || nprog ≤ s.start || s.count = 0 || 16384 < s.count || nprog < s.start + s.count || s.rate ≤ s.phase ||
        (s.dst && (!half || seen)) then some num
    else secBad bs nprog half part (seen || !s.dst) r

/-- A word of a section with what its loops make of it: the largest J added to its indices, and whether R177 and R178 are broken. -/
structure KSite where
  a : Nat := 0
  ins : KIns := {}
  jm : Nat := 0
  bad7 : Bool := false
  bad8 : Bool := false
  deriving DecidableEq, Repr, Inhabited

/-- The words of a section in address order, under their loops: (end, register, iterations), innermost first. -/
def walk (prog : List DWord) (stop : Nat) : Nat → Nat → List (Nat × Nat × Nat) → List KSite
  | 0, _, _ => []
  | fuel + 1, a, open_ =>
    if stop ≤ a then []
    else
      let st := open_.dropWhile (fun l => l.1 ≤ a)
      match insAt prog a with
      | none => walk prog stop fuel (a + 1) st
      | some k =>
        if k.isLoop then
          let e := a + 1 + k.loopL
          let bad := stop < e || (match st with | [] => false | l :: _ => l.1 < e) || st.any (fun l => l.2.1 = k.fld 0) || 4 ≤ st.length
          { a := a, ins := k, bad7 := bad } :: walk prog stop fuel (a + 1) ((e, k.fld 0, k.loopN) :: st)
        else
          match k.jen, st.find? (fun l => l.2.1 = k.jsel) with
          | 0, _ => { a := a, ins := k } :: walk prog stop fuel (a + 1) st
          | _, some l => { a := a, ins := k, jm := l.2.2 - 1 } :: walk prog stop fuel (a + 1) st
          | _, none => { a := a, ins := k, bad8 := true } :: walk prog stop fuel (a + 1) st

/-- The stage operands of a format and the element index that goes with each, by their places. -/
def fmtElems : KFmt → List (Nat × Nat)
  | .e => [(1, 0), (3, 2), (5, 4)]
  | .x => [(1, 0), (4, 3)]
  | .s => [(4, 2)]
  | .p => [(1, 0)]
  | _ => []

/-- The places of the stage numbers of a format. -/
def fmtStages : KFmt → List Nat
  | .e => [0, 2, 4]
  | .x => [0, 3]
  | .s => [0, 1, 2]
  | .p => [0]
  | _ => []

/-- The places of the raw word addresses of a format. -/
def fmtRaws : KFmt → List Nat
  | .t => [0]
  | .w => [0, 1, 2]
  | .i => [0]
  | .x => [2]
  | .b => [2]
  | _ => []

/-- Undefined stages (code 0x09). -/
def KBank.bad09 (k : KBank) (t : KSite) : Bool := (fmtStages t.ins.fmt).any (fun i => t.ins.uses i && k.stages.length ≤ t.ins.fld i)

/-- An element index beyond its stage (code 0x0A). -/
def KBank.bad0A (k : KBank) (t : KSite) : Bool :=
  (fmtElems t.ins.fmt).any (fun e => t.ins.uses e.1 && t.ins.uses e.2 &&
    (k.stages.at (t.ins.fld e.2)).len ≤ t.ins.fld e.1 + (if t.ins.fmt == .p then t.ins.fld 2 else t.jm) + (if t.ins.op = 0x42 then 1 else 0))

/-- Vector lengths that differ (code 0x0B). -/
def KBank.bad0B (k : KBank) (t : KSite) : Bool :=
  let i := t.ins
  let len := fun p => (k.stages.at (i.fld p)).len
  i.fmt == .s &&
    (if i.op = 0x32 then i.fld 3 == 0 && len 2 != len 1
     else (i.uses 1 && len 1 != len 0) || (i.uses 2 && i.fld 3 == 0 && len 2 != len 0))

/-- A raw word inside a stage (code 0x0C). -/
def KBank.bad0C (k : KBank) (t : KSite) : Bool :=
  (fmtRaws t.ins.fmt).any (fun i => t.ins.uses i && k.stages.any (fun s => s.base ≤ t.ins.fld i && t.ins.fld i < s.base + s.len))

/-- The slots an instruction can name. -/
def KSite.slots (t : KSite) : List Nat :=
  if t.ins.fmt == .p then (List.range (t.ins.fld 2 + 1 + t.jm)).map (fun i => t.ins.fld 3 + i)
  else if t.ins.fmt == .t then (List.range (1 + t.jm)).map (fun i => t.ins.fld 3 + i)
  else []

/-- Uncovered slots and wrong slot types (code 0x0D). -/
def State.bad0D (s : State) (t : KSite) : Bool :=
  t.slots.any (fun n => 0xFFFF < n || s.ownerOf n = 0 || ((t.ins.op = 0x10 || t.ins.op = 0x18) && s.slotRaw n) || (t.ins.op = 0x19 && !s.slotRaw n))

/-- A store outside the binding's range (code 0x0E). -/
def bad0E (b : Nat) (t : KSite) : Bool := (t.ins.op = 0x18 || t.ins.op = 0x19) && t.slots.any (fun n => n < ketSlots b || ketSlots b + 0x1000 ≤ n)

/-- An invalid descriptor (code 0x0F). -/
def State.descBad (s : State) (d : KDesc) : Bool :=
  d.timer = 0 || [d.ref, d.fb].any (fun n => s.ownerOf n = 0 || s.slotRaw n != d.angle) || (!d.angle && (bfVal d.lim).m ≤ 0)

/-- The data map is in order (code 0x10). -/
def mapOk : List KRange → Bool
  | [] => true
  | r :: t => r.first ≤ r.last && r.first < 2 ^ 14 && (match t with | [] => true | n :: _ => r.last < n.first) && mapOk t

/-- The init records are in order, inside INIT ranges, with clear low bits in stages (code 0x11). [log 82: DEDUCED] -/
def KBank.initsOk (k : KBank) : List (Nat × Word) → Bool
  | [] => true
  | (a, v) :: t => k.inInit a && !(k.stages.any (fun s => s.base ≤ a && a < s.base + s.len) && v.toNat % 256 ≠ 0) &&
      (match t with | [] => true | (c, _) :: _ => a < c) && k.initsOk t

/-- Stages lie in data memory and do not overlap (code 0x09). -/
def stagesOk : List KStage → Bool
  | [] => true
  | s :: t => s.base + s.len ≤ 16384 && t.all (fun x => x.base + x.len ≤ s.base || s.base + s.len ≤ x.base) && stagesOk t

/-- A result word (R200). -/
def loadWord (code sec addr : Nat) : Nat := code + 256 * sec + 65536 * addr

/-- The first site of the sections that a check finds, as a result word. [log 80: DEDUCED] -/
def siteErr (code : Nat) (sites : List (KSite × Nat)) (bad : KSite → Bool) : Option Nat :=
  (sites.find? (fun e => bad e.1)).map (fun e => loadWord code e.2 e.1.a)

/-- The checks of codes 0x05 to 0x0E that need the program. [log 80: DEDUCED] -/
def State.progErr (s : State) (b : Nat) (bs : List Byte) (k : KBank) : Option Nat :=
  let secs := k.sections
  let addrs := secs.flatMap (fun e => (List.range e.1.count).map (fun i => (e.1.start + i, e.2)))
  let e5 := (addrs.find? (fun e => e.1 < k.prog.length && !(match insAt k.prog e.1 with | some i => i.ok | none => false))).map (fun e => loadWord 0x05 e.2 e.1)
  let offs := entries bs 0
  let n := k.secs.length
  let main := (k.secs.zipIdx).map (fun e => (e.1, offs.getD e.2 0, e.2))
  let fb := (k.fbs.zipIdx).map (fun e => (e.1, offs.getD (n + e.2) 0, e.2 + 128))
  let e6 := ((secBad bs k.prog.length s.halfEn 0 false main).or (secBad bs k.prog.length s.halfEn 1 false fb)).map (fun x => loadWord 0x06 x 0xFFFF)
  let sites := secs.flatMap (fun e => (walk k.prog (e.1.start + e.1.count) (e.1.count + 1) e.1.start []).map (fun t => (t, e.2)))
  let e9 := if stagesOk k.stages then none else some (loadWord 0x09 0xFF 0xFFFF)
  e5.or (e6.or ((siteErr 0x07 sites (fun t => t.bad7)).or ((siteErr 0x08 sites (fun t => t.bad8)).or (e9.or ((siteErr 0x09 sites k.bad09).or
    ((siteErr 0x0A sites k.bad0A).or ((siteErr 0x0B sites k.bad0B).or ((siteErr 0x0C sites k.bad0C).or
      ((siteErr 0x0D sites s.bad0D).or (siteErr 0x0E sites (bad0E b)))))))))))

/-- The budget checks of a composed image: the costs of R241, for the residues of the sections of RATE 8. -/
def State.lawBudgetErr (s : State) (b : Nat) : Option Nat :=
  let cost := fun (fb due8 : Bool) => ((lawOrder s.law.inst b).map (fun i => (s.law.inst.at i).cost fb due8)).sum
  match (List.range 8).find? (fun q => (s.budgetOf b).1 < cost false (q == 0)) with
  | some q => some (loadWord 0x12 0xFF q)
  | none => if (budget s.epWritten 150 1).1 < cost true false then some (loadWord 0x13 0xFF 0xFFFF) else none

/-- The budget checks (R149, R150): the INIT cost counts for the main part. [log 84: DEDUCED] -/
def State.budgetErr (s : State) (b : Nat) (k : KBank) : Option Nat :=
  if k.laws then s.lawBudgetErr b
  else
  let pre := (k.initWords + 3) / 4
  match k.overBudget k.secs pre (s.budgetOf b) s.halfEn with
  | some q => some (loadWord 0x12 0xFF q)
  | none => if (k.overBudget k.fbs 0 (budget s.epWritten 150 1) s.halfEn).isSome then some (loadWord 0x13 0xFF 0xFFFF) else none

/-- The binding may be loaded (R7, R164, R458): it has an engine. -/
def State.bindingOk (s : State) (b : Nat) : Bool := b < s.engines && (s.ket.phys.at b).isSome

/-- A code without a section or an address. -/
def plainErr (bad : Bool) (code : Nat) : Option Nat := if bad then some (loadWord code 0xFF 0xFFFF) else none

/-- The first reason to reject an image for binding `b` (R199), as a result word. [log 80: DEDUCED] -/
def State.loadErr (s : State) (b : Nat) (bs : List Byte) : Option Nat :=
  let tot := u bs 0x08 4
  if bs.length < 0x44 || u bs 0 4 ≠ 0x4C54454B || u bs 4 2 ≠ 1 || u bs 6 2 ≠ 0x40 || tot < 0x44 || bs.length < tot then some (loadWord 0x01 0xFF 0xFFFF)
  else if crc32c (bs.take (tot - 4)) ≠ w32 (u bs (tot - 4) 4) then some (loadWord 0x02 0xFF 0xFFFF)
  else if !imgCounts bs || !tablesOk (tot - 4) 0x40 (imgTables bs) then some (loadWord 0x03 0xFF 0xFFFF)
  else if !reservedOk bs || !padOk bs (tot - 4) 0x40 (imgTables bs) then some (loadWord 0x04 0xFF 0xFFFF)
  else
    let k := readBank bs
    (s.progErr b bs k).or ((plainErr (k.descs.any s.descBad) 0x0F).or
      ((plainErr (!mapOk k.dmap || !keepMatches (s.bd b).bank k) 0x10).or ((plainErr (!k.initsOk k.inits) 0x11).or ((s.budgetErr b k).or
        (plainErr (!s.bindingOk b || (u bs 0x0C 1 ≠ 0xFF && u bs 0x0C 1 ≠ b)) 0x14)))))

/-- KET_BUDGET and KET_BUDGETH show the budgets (R171, R200). -/
def State.showBudget (s : State) (b : Nat) : State :=
  (s.setFld (Reg.KET_BUDGET b) F.KET_BUDGET_FULL (s.budgetOf b).1).setFld (Reg.KET_BUDGETH b) F.KET_BUDGETH_HALF (if s.halfEn then (s.budgetOf b).2 else 0)

/-- An image goes to the inactive bank of binding `b` and is checked (R160, R199, R200): the state and the result word, 0 when accepted. [log 81: DEDUCED] -/
def State.recipeLoad (s : State) (b : Nat) (bs : List Byte) : State × Nat :=
  match s.loadErr b bs with
  | none =>
    ((s.ketMod b (fun x => { x with banks := x.banks.mod (1 - x.act) (fun _ => readBank bs) })).showBudget b, 0)
  | some r =>
    let s1 := s.ketMod b (fun x => { x with banks := x.banks.mod (1 - x.act) (fun k => { k with mark := false }) })
    (s1.logRec 0x0F (evCode 0xFF 6) [w32 r, w32 (u bs 0x30 4)], r)

/-- A loaded bank still passes the checks that depend on the configuration (R151, R201): DST = 1, slots, descriptors and budgets. -/
def State.bankPasses (s : State) (b : Nat) (k : KBank) : Bool :=
  let sites := k.sections.flatMap (fun e => walk k.prog (e.1.start + e.1.count) (e.1.count + 1) e.1.start [])
  (s.halfEn || !k.sections.any (fun e => e.1.dst)) && !sites.any (fun t => s.bad0D t || bad0E b t) && !k.descs.any s.descBad &&
    (s.budgetErr b k).isNone && s.bindingOk b

/-- Every bank is checked again; one that fails loses its mark (R151, R201). -/
def State.recheckBanks (s : State) : State :=
  s.bindings.foldl (fun t b =>
    (t.ketMod b (fun x => { x with banks := x.banks.map (fun k => { k with mark := k.mark && s.bankPasses b k }) })).showBudget b) s

end Sys2Proof.Machine
end

