-- ==== Sys2Proof/Machine/MtrOps.lean ====
section
/-!
DEFINITION. The metering unit (R382 to R399): samples, boundaries, half-cycles, intervals, energies, latches, pulse counts and events.
Every product and sum is exact; roots and angles are formed to 2^-128 before their one rounding.
-/
namespace Sys2Proof.Machine

def State.mtrMod (s : State) (m : Nat) (f : MtrPoint → MtrPoint) : State := { s with mtr := { s.mtr with pts := s.mtr.pts.mod m f } }
def State.mtrPt (s : State) (m : Nat) : MtrPoint := s.mtr.pts.at m

/-! ## Settings -/

/-- The seven source slots, the neutral only where it is configured (R382). -/
def State.mtrSlots (s : State) (m : Nat) : List Nat :=
  let w := [s.regN (Reg.MTR_SRC0 m), s.regN (Reg.MTR_SRC1 m), s.regN (Reg.MTR_SRC2 m)]
  let n := s.fld (Reg.MTR_SRC3 m) F.MTR_SRC3_IN
  w.flatMap (fun x => [x % 65536, x / 65536]) ++ (if n = 0xFFFF then [] else [n])

def State.mtrTs (s : State) (m : Nat) : Nat := s.fld (Reg.MTR_SRC3 m) F.MTR_SRC3_TS
def State.mtrStamped (s : State) (m : Nat) : Bool := s.flag (Reg.MTR_CFG m) F.MTR_CFG_SMODE
def State.mtrDec (s : State) (m : Nat) : Nat := s.fld (Reg.MTR_CFG m) F.MTR_CFG_DEC + 1

/-- The nominal frequency in Hz (R386). -/
def State.mtrFn (s : State) (m : Nat) : Nat := if s.flag (Reg.MTR_CFG m) F.MTR_CFG_NOMF then 60 else 50

/-- The stream of a timestamp slot and its samples per second (R383). -/
def State.tsRate (s : State) (m : Nat) : Nat := svRate (s.tblAt 1 ((s.mtrTs m - 0x411) / 0x40))

/-- The sample period in ticks (R383). -/
def State.mtrTs_ (s : State) (m : Nat) : Rat :=
  if s.mtrStamped m then (tickSec : Rat) / (s.tsRate m : Rat) else ((s.mtrDec m * s.tim.epLen : Nat) : Rat)

/-! ## Energies (R389, R390) and pulse outputs (R395, R396) -/

/-- CONST as it acts, in µWh. [log 172: DEDUCED] -/
def State.plsUnit (s : State) (k : Nat) : Nat := max 1 (s.regN (Reg.PLS_CONST k)) * 1000

/-- Output `k` counts `n` µWh of its register: pulses are queued, at most 65,535 of them. -/
def State.plsCount (s : State) (k n : Nat) : State :=
  let u := s.plsUnit k
  let a := (s.mtr.pls.at k).acc + n
  let due := a / u
  let room := 65535 - s.regN (Reg.PLS_BACKLOG k)
  let s1 := { s with mtr := { s.mtr with pls := s.mtr.pls.mod k (fun x => { x with acc := a % u }) } }
  let s2 := s1.setRegN (Reg.PLS_BACKLOG k) (s.regN (Reg.PLS_BACKLOG k) + min due room)
  if room < due then (s2.bumpBy (Reg.PLS_LOST k) (due - room)).stick Stk.PLS_BACKLOG else s2

/-- A register named by REG: 7 acts as 6. -/
def regNum (r : Nat) : Nat := min 6 r

/-- The outputs that follow register `r` of point `m`. [log 172: DEDUCED] -/
def State.plsFollow (s : State) (m r n : Nat) : State :=
  (List.range 8).foldl (fun t k =>
    if t.flag (Reg.PLS_CFG k) F.PLS_CFG_EN && t.fld (Reg.PLS_CFG k) F.PLS_CFG_MP == m && regNum (t.fld (Reg.PLS_CFG k) F.PLS_CFG_REG) == r then
      t.plsCount k n else t) s

/-- Register `r` of point `m` gains `x` in units of 2^-32 µWh (R390). -/
def State.energyAdd (s : State) (m r x : Nat) : State :=
  let old := (s.mtrPt m).e.at r
  let new := old + x
  let carry := new / 2 ^ 95
  let s1 := s.mtrMod m (fun y => { y with e := y.e.mod r (fun _ => new % 2 ^ 95), wrap := y.wrap.mod r (fun w => (w + carry) % 256),
                                          inc := y.inc.mod r (fun z => z + x) })
  (s1.stickIf (carry ≠ 0) (Stk.MTR_WRAP m)).plsFollow m r (new / 2 ^ 32 - old / 2 ^ 32)

/-- The increment of `e` W, var or VA over `dt` ticks, not negative, in 2^-32 µWh (R390). -/
def energyOf (e dt : Rat) : Nat := (ratRound (e * dt * 2 ^ 32 / 1800000)).toNat

/-- A sample is accumulated from its own signs (R389). -/
def State.energySample (s : State) (m : Nat) (x : MtrSample) : State :=
  let s1 := if 0 < x.p then s.energyAdd m 1 (energyOf x.p x.dt) else if x.p < 0 then s.energyAdd m 0 (energyOf (-x.p) x.dt) else s
  let quad := if 0 ≤ x.q then (if 0 ≤ x.p then 2 else 3) else (if x.p < 0 then 4 else 5)
  s1.energyAdd m quad (energyOf (if 0 ≤ x.q then x.q else -x.q) x.dt)

/-! ## Latches (R391, R393, R397) -/

/-- The words of a latch record: seven registers, seven wrap counters, the latch GT and the line-cycle count (R497). -/
def State.latchWords (s : State) (m gt : Nat) : List Word :=
  (List.range 7).flatMap (fun r => [w32 ((s.mtrPt m).e.at r / 2 ^ 32), w32 ((s.mtrPt m).e.at r / 2 ^ 64)]) ++
  (List.range 7).map (fun r => w32 ((s.mtrPt m).wrap.at r)) ++ gtWords gt ++ [s.reg (Reg.MTR_LCC m)]

/-- A latch record of point `m` enters the queue (R391, R393). [log 169: DEDUCED] -/
def State.latchLog (s : State) (m gt e : Nat) : State :=
  ((s.enqueue ((chainFrom s.gt s.qual 0x0B (evCode 0xFF e) false 8 0 (s.latchWords m gt)).map (fun r => { r with who := m })) false).overflowStk
    s.log.dropped)

/-- The wrap counters as two words. -/
def wrapWords (w : Tab Nat) : Tab Nat :=
  [(List.range 4).foldl (fun a r => a + w.at r * 256 ^ r) 0, (List.range 3).foldl (fun a r => a + w.at (4 + r) * 256 ^ r) 0]

/-- Pulse inputs compare their count with the register's gain since the last latch (R397). [log 172: DEDUCED] -/
def State.mcntLatch (s : State) (m : Nat) : State :=
  (List.range 4).foldl (fun t i =>
    if t.flag (Reg.MCNT_CFG i) F.MCNT_CFG_EN && t.fld (Reg.MCNT_CFG i) F.MCNT_CFG_MP == m then
      let x := t.mtr.mcnt.at i
      let e := (t.mtrPt m).e.at (regNum (t.fld (Reg.MCNT_CFG i) F.MCNT_CFG_REG)) / 2 ^ 32
      let u := max 1 (t.regN (Reg.MCNT_CONST i)) * 1000
      let gain := (e + 2 ^ 63 - x.lastE) % 2 ^ 63 + x.rem
      let d := satTo 32 (sgn 32 (t.regN (Reg.MCNT_DIFF i)) + (x.counted : Int) - ((gain / u : Nat) : Int))
      let t1 := { t with mtr := { t.mtr with mcnt := t.mtr.mcnt.mod i (fun y => { y with counted := 0, rem := gain % u, lastE := e }) } }
      let t2 := t1.setRegN (Reg.MCNT_DIFF i) (lowBits 32 d)
      if t.fld (Reg.MCNT_CFG i) F.MCNT_CFG_TOL < d.natAbs then (t2.stick Stk.MCNT_DIFF).logRec 0x0B (evCode Stk.MCNT_DIFF.file 4) [] else t2
    else t) s

/-- Point `m` takes a latch at `gt` (R391). -/
def State.latch (s : State) (m gt : Nat) : State :=
  let x := s.mtrPt m
  let w := wrapWords x.wrap
  let s1 := (List.range 7).foldl (fun t r =>
    (t.setRegN (Reg.MTR_LATE_LO m r) (x.e.at r / 2 ^ 32)).setRegN (Reg.MTR_LATE_HI m r) (x.e.at r / 2 ^ 64)) s
  let s2 := ((s1.setRegN (Reg.MTR_LATWRAP0 m) (w.at 0)).setRegN (Reg.MTR_LATWRAP1 m) (w.at 1)).setReg (Reg.MTR_LATLCC m) (s.reg (Reg.MTR_LCC m))
  let s3 := ((s2.setRegN (Reg.MTR_LATGT_LO m) gt).setRegN (Reg.MTR_LATGT_HI m) (gt / 2 ^ 32)).tickReg (Reg.MTR_LATSEQ m)
  (s3.mcntLatch m).mtrMod m (fun y => { y with latW := true })

/-! ## Sags, swells and interruptions (R398, R399) -/

/-- The words of an event record (R399). [log 173: DEDUCED] -/
def eventWords (typ : Nat) (v : MtrEvent) (cut : Bool) (stop num : Nat) (udin : Rat) : List Word :=
  let r := sqrtRat v.ext
  let pct := if udin = 0 then 0 else (ratRound (r * 10000 / udin)).toNat
  [w32 (typ + 8 * bit v.intr + 16 * bit cut + 32 * v.phase), w32 v.dur, (ratBF r).w, w32 (min 65535 pct + 65536 * (num % 65536))] ++
  gtWords v.start ++ gtWords stop

/-- An event has ended, or is cut: its record goes into the ring and the log, unless it is shorter than DMIN. [log 173: DEDUCED] -/
def State.eventEnd (s : State) (m typ : Nat) (v : MtrEvent) (cut : Bool) (stop : Nat) : State :=
  let x := s.mtrPt m
  if v.dur < max 1 (x.evth2.toNat / 2 ^ 24) then s
  else
    let ws := eventWords typ v cut stop x.evNum (bfVal x.udin).toRat
    let h := s.fld (Reg.MTR_EVHEAD m) F.MTR_EVHEAD_NEXT
    let s1 := (ws.zipIdx).foldl (fun t e => t.setReg (Reg.MTR_EVREC m h e.2) e.1) s
    let s2 := (s1.setFld (Reg.MTR_EVHEAD m) F.MTR_EVHEAD_NEXT (h + 1)).setFld (Reg.MTR_EVHEAD m) F.MTR_EVHEAD_TOTAL
      (min 65535 (s.fld (Reg.MTR_EVHEAD m) F.MTR_EVHEAD_TOTAL + 1))
    ((s2.mtrMod m (fun y => { y with evNum := y.evNum + 1 })).stick (Stk.MTR_EVENT m)).logRec 0x0B (evCode (Stk.MTR_EVENT m).file 5) ws

/-- The greatest or least of three squares with its phase. [log 173: DEDUCED] -/
def extreme (big : Bool) (l : List Rat) : Rat × Nat :=
  ((l.zipIdx).foldl (fun a e => if (if big then a.1 < e.1 else e.1 < a.1) then e else a) (l.getD 0 0, 0))

/-- An event that holds takes in another half-cycle. [log 173: DEDUCED] -/
def MtrEvent.grow (v : MtrEvent) (big : Bool) (l : List Rat) : MtrEvent :=
  let x := extreme big l
  if (if big then v.ext < x.1 else x.1 < v.ext) then { v with dur := v.dur + 1, ext := x.1, phase := x.2 } else { v with dur := v.dur + 1 }

/-- An event begins at a boundary. -/
def MtrEvent.begin_ (t : Nat) (big : Bool) (l : List Rat) : MtrEvent :=
  { on := true, start := t, dur := 0, ext := (extreme big l).1, phase := (extreme big l).2 }

/-- The threshold of `n` in 0.01 % of U_DIN, as a square; below zero, none is reached. -/
def thSq (udin : Rat) (n : Int) : Rat := if n < 0 then 0 else (udin * n / 10000) * (udin * n / 10000)

/-- Events at a valid boundary `t` with the squares of the three half-cycle voltages (R398). [log 173: DEDUCED] -/
def State.events (s : State) (m t : Nat) (l : List Rat) : State :=
  let x := s.mtrPt m
  let u := (bfVal x.udin).toRat
  let hys : Int := 10 * (min 100 (x.evth2.toNat / 2 ^ 16 % 256) : Nat)
  let sagT : Int := (x.evth.toNat % 65536 : Nat)
  let swlT : Int := (x.evth.toNat / 65536 : Nat)
  let intT : Int := (x.evth2.toNat % 65536 : Nat)
  let lowAny := fun (n : Int) => l.any (fun v => decide (v < thSq u n))
  let lowAll := fun (n : Int) => l.all (fun v => decide (v < thSq u n))
  let highAny := fun (n : Int) => l.any (fun v => decide (thSq u n < v))
  let intr1 := if x.intr.on then x.intr.grow false l else if lowAll intT then MtrEvent.begin_ t false l else x.intr
  let intrEnd := x.intr.on && !lowAll (intT + hys)
  let sag1 := if x.sag.on then x.sag.grow false l else if lowAny sagT then MtrEvent.begin_ t false l else x.sag
  let sag2 := { sag1 with intr := sag1.intr || (intr1.on && !intrEnd && sag1.on) }
  let sagEnd := x.sag.on && !lowAny (sagT + hys)
  let swl1 := if x.swell.on then x.swell.grow true l else if highAny swlT then MtrEvent.begin_ t true l else x.swell
  let swlEnd := x.swell.on && !highAny (swlT - hys)
  let s1 := s.mtrMod m (fun y => { y with intr := if intrEnd then {} else intr1, sag := if sagEnd then {} else sag2, swell := if swlEnd then {} else swl1 })
  let s2 := if sagEnd then s1.eventEnd m 1 sag2 false t else s1
  let s3 := if swlEnd then s2.eventEnd m 2 swl1 false t else s2
  if intrEnd then s3.eventEnd m 3 intr1 false t else s3

/-! ## Half-cycles and intervals (R386 to R388) -/

/-- The mean of the squares of one quantity. -/
def meanSq (l : List MtrSample) (f : MtrSample → Rat) : Rat := (l.map (fun x => f x * f x)).sum / (l.length : Rat)

def vOf (j : Nat) (x : MtrSample) : Rat := x.v.getD j 0
def iOf (j : Nat) (x : MtrSample) : Rat := x.i.getD j 0

/-- The BF24 slots of point `m` from entry `k` on are written for the commit after the one in progress (R385, R394). [log 163: DESIGN CHOICE; 168: DEDUCED] -/
def State.mtrBf (s : State) (m k : Nat) (qs : List Rat) : State :=
  s.panWrites 0x06 (0x0D40 + 0x40 * m + k) (s.commitAfter s.pan.cidx) (qs.map (fun q => (ratBF q).w))
/-- [log 163: DESIGN CHOICE; 168: DEDUCED] -/
def State.mtrRaw (s : State) (m k : Nat) (ws : List Word) : State :=
  s.panWrites 0x06 (0x0D00 + 0x10 * m + k) (s.commitAfter s.pan.cidx) ws

/-- The neutral current is measured. -/
def State.mtrN (s : State) (m : Nat) : Nat := if s.fld (Reg.MTR_SRC3 m) F.MTR_SRC3_IN = 0xFFFF then 3 else 4

/-- The values of a half-cycle (R387, R394). [log 167: DEDUCED] -/
def State.halfValues (s : State) (m : Nat) (l : List MtrSample) : State :=
  (s.mtrBf m 0 ((List.range 3).map (fun j => sqrtRat (meanSq l (vOf j))))).mtrBf m 3 ((List.range (s.mtrN m)).map (fun j => sqrtRat (meanSq l (iOf j))))

/-- The fundamental of a channel over an interval (R388): `f` in turns per tick. -/
def fundamental (l : List MtrSample) (t0 : Nat) (f : Rat) (g : MtrSample → Rat) : Rat × Rat :=
  let terms := l.map (fun x => let c := cosSinTurn (f * ((x.t : Rat) - (t0 : Rat))); let a := g x * (x.dt : Rat); (a * c.1, -(a * c.2)))
  ((terms.map Prod.fst).sum, (terms.map Prod.snd).sum)

/-- The angle between two phasors; that of a null phasor is left open. [log 164: DESIGN CHOICE] -/
def State.angleDiff (s : State) (a b : Rat × Rat) : Word :=
  let x := a.1 * b.1 + a.2 * b.2
  let y := a.2 * b.1 - a.1 * b.2
  if x = 0 && y = 0 then s.freeNow.setWidth 32 else angleRat x y

/-- The values of an interval from `t0` to `t1` with `n` whole cycles (R387, R388, R394). An interval without samples has no values. [log 167: DEDUCED] -/
def State.intvValues (s : State) (m t0 t1 n : Nat) : State :=
  let l := (s.mtrPt m).intv.filter (fun x => x.t ≤ t1)
  if l.isEmpty then s
  else
    let vs := (List.range 3).map (fun j => meanSq l (vOf j))
    let is_ := (List.range 4).map (fun j => meanSq l (iOf j))
    let d : Rat := (l.map (fun x => (x.dt : Rat))).sum
    let p := if d = 0 then 0 else (l.map (fun x => x.p * (x.dt : Rat))).sum / d
    let q := if d = 0 then 0 else (l.map (fun x => x.q * (x.dt : Rat))).sum / d
    let sApp := ((List.range 3).map (fun j => sqrtRat (vs.getD j 0 * is_.getD j 0))).sum
    let pf := if sApp = 0 then 0 else let r := p / sApp; if 1 < r then 1 else if r < -1 then -1 else r
    let f : Rat := if t1 = t0 then 0 else (n : Rat) / ((t1 - t0 : Nat) : Rat)
    let va := fundamental l t0 f (vOf 0)
    let vb := fundamental l t0 f (vOf 1)
    let vc := fundamental l t0 f (vOf 2)
    let e := fun r => (((s.mtrPt m).inc.at r : Nat) : Rat) / (2 ^ 32 * 1000000)
    let s1 := (s.mtrBf m 7 (vs.map sqrtRat)).mtrBf m 10 ((is_.take (s.mtrN m)).map sqrtRat)
    let s2 := (s1.mtrBf m 15 [f * (tickSec : Rat)]).mtrBf m 16 [p, q, sApp, pf]
    let s3 := s2.mtrRaw m 2 [s2.angleDiff vb va, s2.freeStep.angleDiff vc va]
    let s4 := s3.freeStep.freeStep
    let s5 := (([va, vb, vc].zipIdx).foldl (fun (t : State) e =>
      (t.mtrRaw m (4 + e.2) [t.angleDiff e.1 (fundamental l t0 f (iOf e.2))]).freeStep) s4)
    (s5.mtrBf m 22 ((List.range 7).map e)).mtrBf m 29 [e 1 - e 0]

/-- The settings that take effect at an interval start (R401). -/
def State.mtrLoad (s : State) (m : Nat) : State :=
  s.mtrMod m (fun y => { y with kv := s.reg (Reg.MTR_KV m), ki := s.reg (Reg.MTR_KI m), udin := s.reg (Reg.MTR_UDIN m),
                                evth := s.reg (Reg.MTR_EVTH m), evth2 := s.reg (Reg.MTR_EVTH2 m) })

/-- An interval ends at `t` and the next starts there (R387). [log 167: DEDUCED] -/
def State.intvEnd (s : State) (m t : Nat) (bad : Bool) : State :=
  let x := s.mtrPt m
  let s1 := match x.start with | some t0 => s.intvValues m t0 t (x.intvBnd / 2) | none => s
  (s1.mtrMod m (fun y => { y with intv := y.intv.filter (fun z => t < z.t), inc := List.replicate 7 0, gap := false, intvBnd := 0, intvSynth := false,
                                  start := some t, intvW := true, badW := bad })).mtrLoad m

/-- The cycle frequency after a rising boundary (R387): the time between the last two, valid without a synthetic boundary inside and near F_N. -/
def cycleOf (fn : Nat) : List MtrBound → Option (Nat × Bool)
  | b :: r =>
    if !b.rising then none
    else
      let inner : List MtrBound := r.takeWhile (fun x => !x.rising)
      match r.drop inner.length with
      | a :: _ =>
        let d := b.t - a.t
        let ok := !b.synth && !a.synth && inner.all (fun x => !x.synth) && 100 * tickSec ≤ 115 * fn * d && 85 * fn * d ≤ 100 * tickSec
        some (d, ok)
      | [] => none
  | [] => none

/-- A half-cycle boundary (R386, R387, R389, R391, R398). [log 166: DEDUCED] -/
def State.boundary (s : State) (m : Nat) (b : MtrBound) : State :=
  let x := s.mtrPt m
  let l := x.half.filter (fun y => y.t ≤ b.t)
  let bs := (b :: x.bounds).take 4
  let first := x.bounds.isEmpty
  let ok := !first && !x.halfGap && !l.isEmpty
  let s0 := (s.stickIf b.synth (Stk.MTR_FREQ m)).mtrMod m (fun y =>
    { y with half := y.half.filter (fun z => b.t < z.t), bounds := bs, nb := y.nb + 1, halfGap := false, bndW := true,
             intvBnd := y.intvBnd + bit (!first), intvSynth := y.intvSynth || b.synth })
  let s1 := if first || l.isEmpty then s0 else s0.halfValues m l
  let s2 := match cycleOf (s.mtrFn m) bs with
    | some (d, v) => (s1.mtrMod m (fun y => { y with fTime := some d, fOk := v })).mtrBf m 14 [(tickSec : Rat) / (d : Rat)]
    | none => s1
  -- apparent energy and events at a valid boundary
  let prev := (x.bounds.head?.map (fun y => y.t)).getD b.t
  let s3 := if ok then
      let a := ((List.range 3).map (fun j => sqrtRat (meanSq l (vOf j) * meanSq l (iOf j)))).sum
      (s2.energyAdd m 6 (energyOf a ((b.t - prev : Nat) : Rat))).events m b.t ((List.range 3).map (fun j => meanSq l (vOf j)))
    else s2
  let s4 := if (x.nb + 1) % 2 = 0 then s3.tickReg (Reg.MTR_LCC m) else s3
  let n := clampNat 1 1024 (s.fld (Reg.MTR_LATCFG m) F.MTR_LATCFG_N)
  let s5 := if (x.nb + 1) % 2 = 0 && s4.regN (Reg.MTR_LCC m) % n = 0 then
      let t := s4.latch m b.t
      if s.flag (Reg.MTR_CFG m) F.MTR_CFG_LOG then t.latchLog m b.t 0 else t
    else s4
  -- the interval: 10 cycles at 50 Hz, 12 at 60 Hz
  let fresh := s5.mtrMod m (fun y => { y with
    start := some b.t, intv := y.intv.filter (fun z => b.t < z.t), gap := false, intvBnd := 0, inc := List.replicate 7 0 })
  let s6 := if x.start.isNone then fresh.mtrLoad m
    else if (s5.mtrPt m).intvBnd = s.mtrFn m / 5 * 2 then s5.intvEnd m b.t (s5.mtrPt m).gap
    else s5
  s6.mtrMod m (fun y => { y with bounds := bs })

/-- A gap above 4 T_s: the half-cycle and the interval in progress close as invalid, and the crossing state restarts (R384). [log 165: DEDUCED] -/
def State.mtrBreak (s : State) (m : Nat) : State :=
  let x := s.mtrPt m
  let s1 := if x.bounds.isEmpty || x.half.isEmpty then s else s.halfValues m x.half
  let s2 := if x.start.isSome then s1.intvEnd m x.lastT true else s1
  s2.mtrMod m (fun y => { y with half := [], intv := [], bounds := [], armed := none, start := none, halfGap := false, gap := true, intvBnd := 0,
                                 fOk := false, fTime := none })

/-- Synthetic boundaries due before `t`, and the crossing of sample `t` where there is one (R386). [log 166: DEDUCED] -/
def State.boundaries (m t : Nat) (cross : Option MtrBound) : Nat → State → State
  | 0, s => s
  | fuel + 1, s =>
    let h : Rat := (tickSec : Rat) / (2 * (s.mtrFn m : Rat))
    match (s.mtrPt m).bounds.head? with
    | none => match cross with | some c => s.boundary m c | none => s
    | some b =>
      let lim : Rat := (b.t : Rat) + h * 3 / 2
      let due : Bool := match cross with | some c => decide (lim < (c.t : Rat)) | none => decide (lim < (t : Rat))
      if due then State.boundaries m t cross fuel (s.boundary m { t := (ratRound ((b.t : Rat) + h)).toNat, rising := !b.rising, synth := true })
      else match cross with | some c => s.boundary m c | none => s

/-! ## One sample -/

/-- A voltage at an earlier instant, between the two buffered samples that bracket it (R388); left open where none do. [log 164: DESIGN CHOICE] -/
def State.interp (s : State) (l : List MtrSample) (j : Nat) (at_ : Rat) : Rat :=
  match l.find? (fun x => (x.t : Rat) ≤ at_), (l.reverse.find? (fun x => at_ ≤ (x.t : Rat))) with
  | some a, some b =>
    if a.t = b.t then vOf j a
    else vOf j a + (vOf j b - vOf j a) * (at_ - (a.t : Rat)) / (((b.t : Rat)) - (a.t : Rat))
  | _, _ => Config.freeRat (s.freeN + j)

/-- The sign of a voltage: not negative. [log 166: DEDUCED] -/
def up (v : Rat) : Bool := decide (0 ≤ v)

/-- The crossing that a new sample completes (R386): the line between the samples either side of zero, rounded to a tick. [log 166: DEDUCED] -/
def crossing (armed : Option Bool) (old new : MtrSample) (ph : Nat) : Option MtrBound :=
  let a := vOf ph old
  let b := vOf ph new
  if armed.isSome && up a != up b then
    some { t := (ratRound ((old.t : Rat) + ((new.t : Rat) - (old.t : Rat)) * a / (a - b))).toNat, rising := up b }
  else none

/-- The reference phase (R386): code 3 acts as 0. -/
def State.refPh (s : State) (m : Nat) : Nat := s.fld (Reg.MTR_CFG m) F.MTR_CFG_REFPH % 3

/-- The sample at `t` from the committed bank (R382, R388). -/
def State.mtrRead (s : State) (m t dt : Nat) : MtrSample :=
  let x := s.mtrPt m
  let w := (s.mtrSlots m).map (fun n => (bfVal (s.slot n)).toRat)
  let kv := (bfVal x.kv).toRat
  let ki := (bfVal x.ki).toRat
  let v := (w.take 3).map (fun a => a * kv)
  let i := (w.drop 3).map (fun a => a * ki)
  let now : MtrSample := { t := t, dt := dt, v := v, i := i }
  let quarter : Rat := match x.fTime with
    | some d => if x.fOk then (d : Rat) / 4 else (tickSec : Rat) / (4 * (s.mtrFn m : Rat))
    | none => (tickSec : Rat) / (4 * (s.mtrFn m : Rat))
  let back := (List.range 3).map (fun j => s.interp (now :: x.buf) j ((t : Rat) - quarter))
  { now with p := ((v.zip i).map (fun e => e.1 * e.2)).sum, q := ((back.zip i).map (fun e => e.1 * e.2)).sum }

/-- MTR_STAT (R401). -/
def State.mtrView (s : State) (m : Nat) : State :=
  let x := s.mtrPt m
  s.setRegN (Reg.MTR_STAT m) (bit x.fOk + 2 * bit x.sag.on + 4 * bit x.swell.on + 8 * bit x.intr.on + 16 * bit x.gap + 32 * bit x.on)

/-- The values written once per used sample (R394). -/
def State.mtrWrite (s : State) (m : Nat) (p q : Rat) : State :=
  let x := s.mtrPt m
  let st := bit x.fOk + 2 * bit x.gap + 4 * bit x.sag.on + 8 * bit x.swell.on + 16 * bit x.intr.on + 32 * bit x.bndW + 64 * bit x.intvW +
    128 * bit (x.intvW && x.badW) + 256 * bit x.latW + 65536
  let b := (x.bounds.head?.map (fun y => y.t)).getD 0
  let s1 := ((s.mtrRaw m 0 [w32 st, s.reg (Reg.MTR_LCC m)]).mtrRaw m 7 ([s.reg (Reg.MTR_LATSEQ m)] ++ (if x.bndW then gtWords b else []))).mtrBf m 20 [p, q]
  s1.mtrMod m (fun y => { y with bndW := false, intvW := false, badW := false, latW := false })

/-- A sample of point `m` at `t` (R384 to R391). [log 165: DEDUCED] -/
def State.mtrSample (s : State) (m t : Nat) : State :=
  let x := s.mtrPt m
  let d := t - x.lastT
  let late := !x.fresh && decide (3 * s.mtrTs_ m < 2 * (d : Rat))
  let far := late && decide (4 * s.mtrTs_ m < (d : Rat))
  let s1 := if late then ((s.bump (Reg.MTR_GAPCNT m)).stick (Stk.MTR_GAP m)).mtrMod m (fun y => { y with gap := true, halfGap := true }) else s
  let s2 := if far then s1.mtrBreak m else s1
  let new := s2.mtrRead m t (if far || x.fresh then 0 else d)
  let s3 := { s2 with freeN := s2.freeN + 3 }
  let ph := s.refPh m
  let y := s3.mtrPt m
  let cross := match y.buf with | old :: _ => if far then none else crossing y.armed old new ph | [] => none
  let h2 : Rat := let z := (bfVal y.udin).toRat * (clampNat 1 50 (s.fld (Reg.MTR_CFG m) F.MTR_CFG_ZCH) : Nat) / 100; 2 * z * z
  let armed := if h2 < vOf ph new * vOf ph new then some (up (vOf ph new)) else if cross.isSome then none else y.armed
  let add := fun (u : State) => u.energySample m new |>.mtrMod m (fun z => { z with half := z.half ++ [new], intv := z.intv ++ [new] })
  let s4 := match cross with
    | some c => if c.t = t then State.boundaries m t cross 4 (add s3) else add (State.boundaries m t cross 4 s3)
    | none => add (State.boundaries m t none 4 s3)
  let s5 := s4.mtrMod m (fun z => { z with on := true, fresh := false, lastT := t, armed := armed, buf := (new :: z.buf).take 256 })
  (s5.mtrWrite m new.p new.q).mtrView m

/-- Point `m` at a commit (R383): whether it takes a sample, and its time. -/
def State.mtrDue (s : State) (m : Nat) : Option Nat :=
  let slots := s.mtrSlots m
  if !slots.all (fun n => s.fresh n) then none
  else if s.mtrStamped m then
    let ts := s.mtrTs m
    let g := (s.slot ts).toNat + (s.slot (ts + 1)).toNat * 2 ^ 32
    if s.fresh ts && s.fresh (ts + 1) && decide ((s.mtrPt m).lastT < g) then some g else none
  else if s.pan.cidx % 2 = 0 && s.pan.cidx / 2 % s.mtrDec m = 0 then some s.gt else none

/-- The metering points at a commit. [log 168: DEDUCED] -/
def State.meterCommit (s : State) : State :=
  if !s.powered then s
  else (List.range 4).foldl (fun t m =>
    if t.flag (Reg.MTR_CFG m) F.MTR_CFG_EN then (match t.mtrDue m with | some g => t.mtrSample m g | none => t) else t) s

/-- An event that runs when its point stops is closed at the last boundary (R399). [log 169: DEDUCED] -/
def State.eventsCut (s : State) (m : Nat) : State :=
  let x := s.mtrPt m
  let t := (x.bounds.head?.map (fun y => y.t)).getD x.lastT
  let s1 := s.mtrMod m (fun y => { y with sag := {}, swell := {}, intr := {} })
  let s2 := if x.sag.on then s1.eventEnd m 1 x.sag true t else s1
  let s3 := if x.swell.on then s2.eventEnd m 2 x.swell true t else s2
  if x.intr.on then s3.eventEnd m 3 x.intr true t else s3

/-- A point is enabled, disabled, or restarts at the entry to STANDBY (R384, R386, R401). -/
def State.mtrRestart (s : State) (m : Nat) (enabled : Bool) : State :=
  (s.mtrMod m (fun y => { y with on := false, fresh := true, buf := [], half := [], intv := [], armed := none, bounds := [], start := none, nb := if enabled then 0 else y.nb,
                                 fTime := none, fOk := false, halfGap := false, gap := false, intvBnd := 0, inc := List.replicate 7 0 })).mtrView m

/-- The FINAL latches at a transition to WATCH (R393). [log 169: DEDUCED] -/
def State.mtrFinal (s : State) : State :=
  (List.range 4).foldl (fun t m =>
    if t.flag (Reg.MTR_CFG m) F.MTR_CFG_EN then
      let g := (t.mtrPt m).lastT
      ((t.eventsCut m).latch m g).latchLog m g 1
    else t) s

end Sys2Proof.Machine
end

