-- ==== Sys2Proof/Machine/Metering.lean ====
section
/-!
DEFINITION. The events of the metering block's pins and windows (R392, R395, R397).
-/
namespace Sys2Proof.Machine

/-- MTR_E_READ (R392): the live register's low word; the high word and the wrap counters are captured. -/
def execMtrERead (m : Fin 4) (r : Fin 7) (s : State) : Host.Outcome State Fault Refusal :=
  .next (let x := s.mtrPt m
    let w := wrapWords x.wrap
    let s1 := s.setRegN (Reg.MTR_E_HI m r) (x.e.at r / 2 ^ 64)
    ((s1.setRegN (Reg.MTR_WRAP0 m) (w.at 0)).setRegN (Reg.MTR_WRAP1 m) (w.at 1)).give (w32 (x.e.at r / 2 ^ 32)))

def State.plsMod (s : State) (k : Nat) (f : PlsOut → PlsOut) : State := { s with mtr := { s.mtr with pls := s.mtr.pls.mod k f } }
def State.mcntMod (s : State) (i : Nat) (f : McntIn → McntIn) : State := { s with mtr := { s.mtr with mcnt := s.mtr.mcnt.mod i f } }

/-- WIDTH as it acts, in ticks (R402). -/
def State.plsWidth (s : State) (k : Nat) : Nat := clampNat 1 1000 (s.fld (Reg.PLS_CFG k) F.PLS_CFG_WIDTH) * tickMs

/-- The level of a pulse pin (R395). -/
def State.plsPin (s : State) (k : Nat) : Bool :=
  s.powered && ((s.flag (Reg.PLS_CFG k) F.PLS_CFG_EN && (s.mtr.pls.at k).active) != s.flag (Reg.PLS_CFG k) F.PLS_CFG_POL)

/-- PLS_PULSE (R395): a queued pulse becomes active once the rest after the last one is over. [log 172: DEDUCED] -/
def execPlsPulse (k : Fin 8) (s : State) : Host.Outcome State Fault Refusal :=
  .next (let x := s.mtr.pls.at k
    if !s.powered || !s.flag (Reg.PLS_CFG k) F.PLS_CFG_EN || x.active || s.regN (Reg.PLS_BACKLOG k) = 0 then s
    else
      let s1 := s.gtTo x.restUntil
      (s1.setRegN (Reg.PLS_BACKLOG k) (s.regN (Reg.PLS_BACKLOG k) - 1)).plsMod k (fun y => { y with active := true, since := s1.gt }))

/-- PLS_PULSE_END (R395): after WIDTH ms, and at least WIDTH ms of rest. [log 172: DEDUCED] -/
def execPlsPulseEnd (k : Fin 8) (s : State) : Host.Outcome State Fault Refusal :=
  .next (let x := s.mtr.pls.at k
    if !x.active || !s.powered then s
    else
      let s1 := s.gtTo (x.since + s.plsWidth k)
      s1.plsMod k (fun y => { y with active := false, restUntil := s1.gt + s.plsWidth k }))

/-- MCNT_EDGE (R397): a level that has been stable for DEB ms. -/
def execMcntEdge (i : Fin 4) (closed : Bool) (s : State) : Host.Outcome State Fault Refusal :=
  .next (let x := s.mtr.mcnt.at i
    if !s.powered || x.closed = closed then s
    else
      let s1 := s.mcntMod i (fun y => { y with closed := closed })
      if s.flag (Reg.MCNT_CFG i) F.MCNT_CFG_EN && closed != s.flag (Reg.MCNT_CFG i) F.MCNT_CFG_EDGE then
        (s1.tickReg (Reg.MCNT_CNT i)).mcntMod i (fun y => { y with counted := y.counted + 1 })
      else s1)

/-- A write of MCNT_CFG (R397): any write resets MCNT_DIFF; the comparison starts anew with the register that is now named. [log 172: DEDUCED] -/
def State.mcntCfg (s : State) (i : Nat) (val : Word) : State :=
  let s1 := (s.setReg (Reg.MCNT_CFG i) (val &&& 0xFFFF0733#32)).setRegN (Reg.MCNT_DIFF i) 0
  let e := (s1.mtrPt (s1.fld (Reg.MCNT_CFG i) F.MCNT_CFG_MP)).e.at (regNum (s1.fld (Reg.MCNT_CFG i) F.MCNT_CFG_REG)) / 2 ^ 32
  s1.mcntMod i (fun y => { y with counted := 0, rem := 0, lastE := e })

/-- MCNT_CFG_WRITE (R397). -/
def execMcntCfgWrite (i : Fin 4) (val : Word) (s : State) : Host.Outcome State Fault Refusal := .next (s.mcntCfg i val)

end Sys2Proof.Machine
end

