-- ==== Sys2Proof/Machine/Network.lean ====
section
/-!
DEFINITION. The events of P0 and P1 (R349 to R376).
-/
namespace Sys2Proof.Machine

/-! ## PTP -/

/-- An Announce that has been delivered (R354, R357). -/
def State.annRx (s : State) (p : Nat) (a : PtpAnnounce) : State :=
  if !s.ptpOn p || a.domain ≠ s.ptpDomain then s
  else (s.ptpMod p (fun x => { x with ann := some a, annAt := s.gt })).bmca

/-- A Sync that has been delivered: the switch of the time port, the offset, and the measurement of the time port (R356, R357). -/
def State.syncRx (s : State) (p : Nat) (m : PtpSync) : State :=
  if !s.ptpOn p || m.domain ≠ s.ptpDomain then s
  else
    let s1 := if s.pState p = 4 && s.pState (1 - p) ≠ 3 then (s.setPState p 3).portSwitch p else s
    if s1.pState p ≠ 3 && s1.pState p ≠ 4 then s1
    else
      let o := syncOffset m (s1.regN (Reg.NET_PTPDLY p))
      let s2 := s1.setRegN (Reg.NET_PTPOFS p) (lowBits 32 (satTo 32 o))
      if s1.pState p = 4 then s2
      else
        let ok := s2.ptpValid p
        let s3 := s2.setFld Reg.NET_STAT F.NET_STAT_TVALID (bit ok)
        if s3.fld Reg.GT_CTRL F.GT_CTRL_SRC ≠ 1 then s3
        else if ok then s3.measure o
        else s3.setRegN Reg.GT_OFFSET (lowBits 32 (satTo 32 o))

/-- A Pdelay_Req that has been delivered is answered two-step (R354). The instant at which the answer leaves is open (R41). [log 151: DEDUCED] -/
def State.pdelayReqRx (s : State) (p domain seq : Nat) : State :=
  if !s.ptpOn p || domain ≠ s.ptpDomain then s
  else ((s.netSendOn p none (.pdelayResp seq s.gt)).netSendOn p none (.pdelayFollow seq s.freeNow)).freeStep

/-- A completed peer-delay response: meanPathDelay in ticks (R354, R356). [log 151: DEDUCED] -/
def State.pdelayRespRx (s : State) (p : Nat) (m : PtpDelay) : State :=
  let x := s.net.ptp.at p
  if !s.ptpOn p || m.domain ≠ s.ptpDomain || x.reqSeq = 0 then s
  else
    let d := roundDiv ((((m.rxGt : Int) - x.reqAt) * 2 - ((m.t3 : Int) - m.t2)) * 2 ^ 16 - m.corr) (2 ^ 18)
    (s.setRegN (Reg.NET_PTPDLY p) (lowBits 32 d)).ptpMod p (fun y => { y with delayAt := some s.gt })

/-- ANNOUNCE_RX (R357). -/
def execAnnounceRx (port : Fin 2) (a : PtpAnnounce) (s : State) : Host.Outcome State Fault Refusal := .next (s.annRx port a)

/-- SYNC_RX (R356). -/
def execSyncRx (port : Fin 2) (m : PtpSync) (s : State) : Host.Outcome State Fault Refusal := .next (s.syncRx port m)

/-- PDELAY_REQ_RX (R354). -/
def execPdelayReqRx (port : Fin 2) (domain seq : Nat) (s : State) : Host.Outcome State Fault Refusal := .next (s.pdelayReqRx port domain seq)

/-- PDELAY_REQ_TX (R354): every second. -/
def execPdelayReqTx (port : Fin 2) (s : State) : Host.Outcome State Fault Refusal :=
  .next (if !s.ptpOn port then s
    else
      let x := s.net.ptp.at port
      let s1 := if x.reqSeq = 0 then s else s.gtTo (x.reqAt + tickSec)
      (s1.netSendOn port none (.pdelayReq x.reqSeq)).ptpMod port (fun y => { y with reqSeq := y.reqSeq + 1, reqAt := s1.gt }))

/-- PDELAY_RESP_RX (R354). -/
def execPdelayRespRx (port : Fin 2) (m : PtpDelay) (s : State) : Host.Outcome State Fault Refusal := .next (s.pdelayRespRx port m)

/-- ANNOUNCE_TIMEOUT (R357): the time port stops being SLAVE; the PASSIVE port takes over at its next Sync. -/
def execAnnounceTimeout (s : State) : Host.Outcome State Fault Refusal :=
  .next (let p := s.fld Reg.NET_STAT F.NET_STAT_TPORT
    if s.pState p ≠ 3 || !s.ptpOn p then s
    else
      let s1 := s.gtTo ((s.net.ptp.at p).annAt + 3 * tickSec)
      ((s1.setPState p 1).setFld Reg.NET_STAT F.NET_STAT_TVALID 0).ptpMod p (fun y => { y with ann := none }))

/-! ## Frames -/

/-- A frame reaches the layer of its content. [log 146: DESIGN CHOICE] -/
def State.deliver (s : State) (p : Nat) (b : NetBody) : State :=
  match b with
  | .announce a => s.annRx p a
  | .sync m => s.syncRx p m
  | .pdelayReq d q => s.pdelayReqRx p d q
  | .pdelayResp m => s.pdelayRespRx p m
  | .sv f => s.svRx p f
  | .goose m => s.goRx m
  | .telegram bs => s.goTelegram bs
  | .pause => s
  | .other => s

/-- PTP messages act on each port, so no copy of one is a duplicate (R357); peer-delay messages are not forwarded (R355). [log 148: DEDUCED] -/
def bodyPtp : NetBody → Bool
  | .announce _ => true
  | .sync _ => true
  | .pdelayReq _ _ => true
  | .pdelayResp _ => true
  | _ => false

def bodyPdelay : NetBody → Bool
  | .pdelayReq _ _ => true
  | .pdelayResp _ => true
  | _ => false

/-- HSR: the frame goes on out of the other port; a Sync with its residence and link delay (R350, R355). [log 148: DEDUCED] -/
def State.forward (s : State) (p : Nat) (f : NetFrame) : State :=
  let o := 1 - p
  let corr : Int := match f.body with | .sync _ => (f.residence + s.regN (Reg.NET_PTPDLY p) : Nat) | _ => 0
  if s.portOn o then (s.bump (Reg.NET_FWDCNT o)).netSendOn o (f.seq.map (fun q => q.toNat)) (.forward f corr) else s

/-- FRAME_RX (R349 to R351): the checks of the frame, the node table, forwarding in HSR, and delivery of the first copy. [log 146: DESIGN CHOICE; 147, 148: DEDUCED] -/
def State.frameRx (s : State) (p : Nat) (f : NetFrame) : State :=
  if !s.portOn p || (s.netMode = 2 && p = 1) then s
  else
    let s1 := s.bump (Reg.NET_RXCNT p)
    let hsr := s.netMode = 1
    if 1536 < f.len || !f.crcOk then s1.rxErr p
    else if 2 ≤ f.tags || f.body == .pause then s1
    else if s.netMode = 2 then s1.deliver p f.body
    else if hsr && f.src == Config.macAddress then s1
    else
      let tbl := s1.nodesNow
      let s2 := s1.netMod (fun n => { n with nodes := tbl })
      let o := 1 - p
      match nodeFor tbl f.src.toNat s.gt with
      | none => (if hsr && !bodyPdelay f.body then s2.forward p f else s2).deliver p f.body
      | some n0 =>
        let n := n0.heard p s.gt
        match f.seq with
        | none =>
          let s3 := s2.netMod (fun x => { x with nodes := x.nodes.put f.src.toNat n })
          (if hsr && !bodyPdelay f.body then s3.forward p f else s3).deliver p f.body
        | some q =>
          let fwd := hsr && !bodyPdelay f.body && !n.sentOut q.toNat o
          let s3 := s2.netMod (fun x => { x with nodes := x.nodes.put f.src.toNat (n.note q.toNat s.gt (if fwd then 2 ^ o else 0)) })
          let s4 := if fwd then s3.forward p f else s3
          if n.seen q.toNat && !bodyPtp f.body then s4.bump Reg.NET_DUPCNT else s4.deliver p f.body

/-- [log 146: DESIGN CHOICE] -/
def execFrameRx (port : Fin 2) (f : NetFrame) (s : State) : Host.Outcome State Fault Refusal := .next (s.frameRx port f)

/-- NODE_TABLE_AGE (R351). -/
def execNodeTableAge (s : State) : Host.Outcome State Fault Refusal := .next (s.netMod (fun n => { n with nodes := s.nodesNow }))

/-- PRP_SUPERVISION_TX (R350): every 2 s. -/
def execPrpSupervisionTx (s : State) : Host.Outcome State Fault Refusal :=
  .next (if s.netMode ≠ 0 || !s.powered then s
    else
      let s1 := if s.net.supAt = 0 then s else s.gtTo (s.net.supAt + 2 * tickSec)
      (s1.netSend .supervision).netMod (fun n => { n with supAt := s1.gt }))

/-! ## Links and paths -/

/-- A port loses its link (R352). -/
def State.linkLoss (s : State) (p : Nat) : State :=
  if p = 2 then s.setFld Reg.NET_TLSTAT F.NET_TLSTAT_LINK 0
  else if !s.linkBit p then s
  else
    let s1 := (s.setBit Reg.NET_STAT p false).ptpMod p (fun x => { x with ann := none, delayAt := none })
    let s2 := if s.flag Reg.NET_CTRL F.NET_CTRL_PTP_EN then s1.setPState p 5 else s1
    (s2.stick Stk.NET_LINK).logRec 0x09 (evCode Stk.NET_LINK.file 0) []

/-- LINK_LOSS (R352). -/
def execLinkLoss (port : Fin 3) (s : State) : Host.Outcome State Fault Refusal := .next (s.linkLoss port)

/-- LINK_UP (R352, R377): `amp` says that the partner on P2 offers 2.4 V peak-to-peak as well. -/
def execLinkUp (port : Fin 3) (amp : Bool) (s : State) : Host.Outcome State Fault Refusal :=
  .next (if port.val = 2 then
      if s.dev == .dormant then s
      else (s.setFld Reg.NET_TLSTAT F.NET_TLSTAT_LINK 1).setFld Reg.NET_TLSTAT F.NET_TLSTAT_AMP (bit (amp && s.flag Reg.NET_CTRL F.NET_CTRL_AMP24))
    else if !s.powered || !s.flag Reg.CLK_STAT F.CLK_STAT_NETPLL_LOCK || (s.netMode = 2 && port.val = 1) then s
    else
      let s1 := s.setBit Reg.NET_STAT port true
      if s1.ptpOn port then s1.setPState port 1 else s1.setPState port 0)

/-- A node has been heard on one path only for 10 s (R352). [log 149: DEDUCED] -/
def NetNode.onePath (n : NetNode) (t : Nat) : Bool :=
  let near : Option Nat → Bool := fun x => match x with | some a => decide (t < a + 10 * tickSec) | none => false
  decide (n.firstAt + 10 * tickSec ≤ t) && (near n.path0 != near n.path1)

/-- PATH_ERROR (R352). [log 149: DEDUCED] -/
def execPathError (mac : BitVec 48) (s : State) : Host.Outcome State Fault Refusal :=
  .next (match s.nodesNow.find mac.toNat with
    | some n =>
      if s.netMode = 2 || !s.powered || n.pathErr || !n.onePath s.gt then s
      else
        let s1 := (s.netMod (fun x => { x with nodes := s.nodesNow.put mac.toNat { n with pathErr := true } })).bump Reg.NET_PATHERR
        (s1.stick Stk.NET_PATH).logRec 0x09 (evCode Stk.NET_PATH.file 1) []
    | none => s)

/-- A write of NET_CTRL in STANDBY (R350, R381): the node table starts anew, P1 is powered down in SINGLE, PTP starts or stops. [log 148: DEDUCED] -/
def State.netCtrlSet (s : State) : State :=
  let s1 := s.netMod (fun n => { n with nodes := [] })
  let s2 := if s1.netMode = 2 then s1.setBit Reg.NET_STAT 1 false else s1
  (List.range 2).foldl (fun t p =>
    if t.ptpOn p then (if t.pState p = 0 then t.setPState p 1 else t)
    else (t.setPState p 0).ptpMod p (fun x => { x with ann := none, delayAt := none })) s2

/-! ## Sampled values -/

/-- SV_FRAME_RX (R363 to R366). [log 146: DESIGN CHOICE] -/
def execSvFrameRx (port : Fin 2) (f : SvFrame) (s : State) : Host.Outcome State Fault Refusal :=
  .next (if s.portOn port then s.svRx port f else s)

/-- SV_SAMPLE_WRITE (R366): the oldest buffered sample of a stream, once its destination is the next commit. -/
def execSvSampleWrite (stream : Fin 16) (s : State) : Host.Outcome State Fault Refusal :=
  .next (match (s.net.sv.at stream).buf with
    | [] => s
    | x :: r =>
      if stream.val < s.tblCount 1 && s.powered && s.destOf (0x400 + 0x40 * stream) (x.tm + svDly (s.tblAt 1 stream)) ≤ s.nextCommit then
        (s.svMod stream (fun y => { y with buf := r })).svWrite stream x
      else s)

/-- SV_STREAM_LOST (R367). -/
def execSvStreamLost (stream : Fin 16) (s : State) : Host.Outcome State Fault Refusal :=
  .next (let x := s.net.sv.at stream
    if s.tblCount 1 ≤ stream.val || x.lost || !s.powered then s
    else
      let s1 := s.gtTo (x.lastAcc + leAt (s.tblAt 1 stream) 22 2 * tickMs)
      let s2 := ((s1.svMod stream (fun y => { y with lost := true })).setFld (Reg.NET_SVSTAT stream) F.NET_SVSTAT_LOST 1).stick Stk.SV_LOST
      (s2.logRec 0x09 (evCode Stk.SV_LOST.file 4) []).panSample 0x07 (0x400 + 0x40 * stream + 0x10) s1.gt s1.gt (svStatus x.last true false false 0))

/-- SV_PUBLISH (R368): a frame of NASDU samples, once its last sample has been taken. [log 156: DEDUCED] -/
def execSvPublish (stream : Fin 4) (s : State) : Host.Outcome State Fault Refusal :=
  .next (if s.tblCount 2 ≤ stream.val || !s.pubOn then s
    else
      let s1 := s.pubCatchUp s.gt (s.gt < s.instantOf s.nextCommit)
      let n := leAt (s1.tblAt 2 stream) 9 1
      let t := (s1.net.pub.at stream).taken
      if t.length < n then s1
      else ((s1.pubMod stream (fun y => { y with taken := y.taken.drop n })).bump (Reg.NET_PUBCNT stream)).netSend (.sv stream (t.take n)))

/-! ## GOOSE -/

/-- GOOSE_RX (R370, R371). -/
def execGooseRx (m : GooseMsg) (s : State) : Host.Outcome State Fault Refusal := .next (if s.portOn 0 || s.portOn 1 then s.goRx m else s)

/-- GOOSE_EXPIRY (R373). [log 157: DEDUCED] -/
def execGooseExpiry (n : Fin 64) (s : State) : Host.Outcome State Fault Refusal :=
  .next (let x := s.net.goSub.at n
    if !x.valid || s.tblCount 3 ≤ n.val || !s.powered then s
    else
      let b := s.tblAt 3 n
      let marks := (List.range (leAt b 9 1)).flatMap (fun m => List.replicate (memSlots (goType b m)) (memValid (goType b m)))
      let ws := (x.mems.zip marks).map (fun e => if e.2 then e.1 &&& 0x7FFFFFFF#32 else e.1)
      let t := x.until_
      let s1 := ((s.gtTo t).goMod n (fun y => { y with valid := false, mems := ws })).goStatus n t
      let s2 := ((ws.zip marks).zipIdx).foldl (fun u e => if e.1.2 then u.panSample 0x08 (goBase n + 4 + e.2) t t e.1.1 else u) s1
      ((s2.bump Reg.NET_GOEXP).stick Stk.GOOSE_EXP).logRec 0x09 (evCode Stk.GOOSE_EXP.file 6) [])

/-- GOOSE_RETRANSMIT (R375). [log 158: DEDUCED] -/
def execGooseRetransmit (u : Fin 16) (s : State) : Host.Outcome State Fault Refusal :=
  .next (let x := s.net.goPub.at u
    if !x.any || s.tblCount 4 ≤ u.val || !s.powered then s
    else ((s.gtTo x.nextAt).gpMod u (fun y => { y with sqNum := numNext y.sqNum })).gpSend u)

/-- A valid Sieve table replaces the whole previous table of its kind (R358): its spare descriptors are allocated by the caller. -/
def State.tblInstall (s : State) (f : List Byte) : State :=
  let kind := leAt f 6 1
  let s1 := s.netMod (fun n => { n with files := n.files.mod (kind - 1) (fun _ => f) })
  let n := leAt f 7 1
  match kind with
  | 1 =>
    (List.range 16).foldl (fun t i => t.setRegN (Reg.NET_SVSTAT i) (bit (i < n)))
      (s1.netMod (fun x => { x with sv := List.replicate 16 { lastAcc := s.gt } }))
  | 2 => s1.netMod (fun x => { x with pub := List.replicate 4 {} })
  | 3 => ((s1.netMod (fun x => { x with goSub := List.replicate 64 {} })).setRegN Reg.NET_GOVALID_LO 0).setRegN Reg.NET_GOVALID_HI 0
  | _ => s1.netMod (fun x => { x with goPub := List.replicate 16 {} })

end Sys2Proof.Machine
end

