-- ==== Sys2Proof/Machine/PowerOps.lean ====
section
/-!
DEFINITION. Shared operations of the KEEP domain: the MRAM log (R494 to R502), burst admission (R483, R484), the KEEP source (R481), and the
frames of the watch link (R378, R379).
-/
namespace Sys2Proof.Machine

def State.pwrMod (s : State) (f : PowerState → PowerState) : State := { s with pwr := f s.pwr }
def State.logMod (s : State) (f : LogState → LogState) : State := { s with log := f s.log }

/-! ## Readings and levels, in mV -/

def State.hstoreMv (s : State) : Nat := 8 * s.fld Reg.CLK_HRVMON0 F.CLK_HRVMON0_HSTORE
def State.mainOk (s : State) : Bool := s.flag Reg.CLK_PWRSTAT F.CLK_PWRSTAT_MAINOK
def State.keepSrc (s : State) : Nat := s.fld Reg.CLK_PWRSTAT F.CLK_PWRSTAT_KEEPSRC
def State.offMv (s : State) : Nat := 10 * s.fld Reg.CLK_HRVTHR F.CLK_HRVTHR_OFF
def State.wakeMv (s : State) : Nat := 10 * s.fld Reg.CLK_HRVTHR F.CLK_HRVTHR_WAKE
def State.lwakeMv (s : State) : Nat := 10 * s.fld Reg.CLK_HRVTHR2 F.CLK_HRVTHR2_LWAKE
def State.vmaxMv (s : State) : Nat := 10 * s.fld Reg.CLK_HRVTHR2 F.CLK_HRVTHR2_VMAX

/-- HBAT is usable: at least 2.7 V and not reversed (R481, R482, R486). -/
def State.hbatOk (s : State) : Bool := 2700 ≤ 8 * s.fld Reg.CLK_HRVMON0 F.CLK_HRVMON0_HBAT && !s.flag Reg.CLK_HRVMON1 F.CLK_HRVMON1_HBAT_NEG

/-- HVIN is light (R477, R478): V_LT is 0.9 V_op, and V_op is 0.6 V by the divider that HSET shows, or 1.2 V after a faulty set point. [log 233: DEDUCED] -/
def State.lightNow (s : State) : Bool :=
  let vin := 8 * s.fld Reg.CLK_HRVMON1 F.CLK_HRVMON1_HVIN
  let set_ := 8 * s.fld Reg.CLK_HRVMON1 F.CLK_HRVMON1_HSET
  0 < vin && !s.flag Reg.CLK_HRVMON1 F.CLK_HRVMON1_HVIN_NEG &&
    (if s.pwr.hsetFallback then 1080 ≤ vin else 540 * vin ≤ vin * set_)

/-! ## The MRAM log -/

/-- `b` is later than `a` among 32-bit sequence numbers (R503). -/
def seqLater (a b : Nat) : Bool := let d := (b + 2 ^ 32 - a) % 2 ^ 32; 1 ≤ d && d < 2 ^ 31

/-- The number before `n`; 0 is never a sequence number (R495). -/
def seqPrev (n : Nat) : Nat := if n ≤ 1 then 0xFFFFFFFF else n - 1

/-- A record that a read accepts (R494, R499). -/
def LogRec.ok (r : LogRec) : Bool := r.whole && !r.ecc

/-- The bytes of a record without COMMIT, and with it (R495). -/
def LogRec.body (r : LogRec) : List Byte :=
  leBytes 4 r.seq ++ leBytes 8 r.gt ++ leBytes 1 r.typ ++ leBytes 1 (r.qual % 8 + 8 * bit r.pin + 16 * (r.part % 8) + 128 * bit r.last) ++
  leBytes 2 r.code ++ leBytes 4 r.w0.toNat ++ leBytes 4 r.w1.toNat ++ leBytes 4 r.w2.toNat
def LogRec.bytes (r : LogRec) : List Byte := r.body ++ leBytes 4 (crc32c r.body).toNat

/-- A pinned slot is free: empty or released (R500, R501). -/
def LogState.pinFree (l : LogState) (i : Nat) : Bool := (l.mram.find i).isNone || l.released.contains i

/-- The occupied pinned slots (R502). -/
def LogState.pinned (l : LogState) : List (Nat × LogRec) := l.mram.filter (fun e => e.1 < 1024 && !l.released.contains e.1)

/-- The earliest of some sequence numbers, 0 for none (R502, R503). -/
def oldestSeq (rs : List LogRec) : Nat := rs.foldl (fun a r => if a = 0 || seqLater r.seq a then r.seq else a) 0
def newestSeq (rs : List LogRec) : Nat := rs.foldl (fun a r => if a = 0 || seqLater a r.seq then r.seq else a) 0

/-- The log registers as they read (R502). -/
def State.logNewest (s : State) : Nat := if s.log.mram.isEmpty then 0 else seqPrev s.log.nextSeq
def State.logOldest (s : State) : Nat := oldestSeq ((s.log.mram.filter (fun e => 1024 ≤ e.1 && e.2.ok)).map (fun e => e.2))
def State.logPinOld (s : State) : Nat := oldestSeq ((s.log.pinned.filter (fun e => e.2.ok)).map (fun e => e.2))
def State.logStat (s : State) : Word := w32 (s.log.queue.length + 2 ^ 16 * s.log.pinned.length)

/-- Insertion by distance from `p`. -/
def seqInsert (p : Nat) (r : LogRec) : List LogRec → List LogRec
  | [] => [r]
  | x :: l => if (r.seq + 2 ^ 32 - p) % 2 ^ 32 ≤ (x.seq + 2 ^ 32 - p) % 2 ^ 32 then r :: x :: l else x :: seqInsert p r l

/-- The held records that are not earlier than `p`, in ascending order (R502). -/
def State.logFrom (s : State) (p : Nat) : List LogRec :=
  ((s.log.mram.map (fun e => e.2)).filter (fun r => (r.seq + 2 ^ 32 - p) % 2 ^ 32 < 2 ^ 31)).foldr (seqInsert p) []

/-- The records up to the `n`-th good one. [log 236: DESIGN CHOICE] -/
def takeGood : Nat → List LogRec → List LogRec
  | 0, _ => []
  | _ + 1, [] => []
  | n + 1, r :: l => r :: takeGood (if r.ok then n else n + 1) l

/-- Records that a read meets and discards (R494, R499). [log 236: DESIGN CHOICE] -/
def State.readChecks (s : State) (rs : List LogRec) : State :=
  rs.foldl (fun t r =>
    if r.ecc then t.stick Stk.LOG_ECC
    else if r.whole then t
    else (t.bump Reg.LOG_TORNCNT).stick Stk.LOG_TORN) s

/-- Up to `n` good records from `p` on, as bytes, and the state after the read. -/
def State.logRead (s : State) (p n : Nat) : State × List LogRec :=
  let rs := takeGood n (s.logFrom p)
  (s.readChecks rs, rs.filter (fun r => r.ok))

/-- A report of dropped records enters the queue as soon as there is room (R498). [log 237: DEDUCED] -/
def State.dropReport (s : State) : State :=
  if s.log.dropped = 0 || !queueFits s.log.queue.length 1 false then s
  else (s.enqueue (chainFrom s.gt s.qual 0x12 1 false 8 0 [w32 s.log.dropped]) false).logMod (fun l => { l with dropped := 0 })

/-- The slot of the next record, and whether a pinned one stays unprotected (R494, R500). -/
def LogState.slotFor (l : LogState) (r : LogRec) : Nat × Bool :=
  if r.pin then
    match (List.range 1024).find? l.pinFree with
    | some i => (i, false)
    | none => (l.nextCirc, true)
  else (l.nextCirc, false)

/-- The record at the front of the queue is written (R495, R498 to R500). [log 237: DEDUCED] -/
def State.mramPut (s : State) (out : MramOut) : State :=
  match s.log.queue with
  | [] => s
  | r0 :: q =>
    let r := { r0 with seq := s.log.nextSeq, whole := out != .torn, ecc := out == .broken }
    let (i, bare) := s.log.slotFor r
    let s1 := s.logMod (fun l => { l with queue := q, mram := l.mram.put i r, released := l.released.filter (fun j => j ≠ i), nextSeq := seqNext l.nextSeq,
                                          nextCirc := if i < 1024 then l.nextCirc else if i = 8191 then 1024 else i + 1 })
    let s2 :=
      if bare then
        let n := s1.log.queue.length
        let rep := chainFrom s.gt s.qual 0x12 3 false 8 0 [w32 r.seq]
        let t := if queueFits n 1 false then s1.logMod (fun l => { l with queue := rep ++ l.queue }) else (s1.enqueue rep false).overflowStk s1.log.dropped
        t.stick Stk.LOG_PINFULL
      else s1
    s2.dropReport

/-- The scan at a KEEP power-up: the newest valid record is the continuation point (R499). -/
def State.mramScan (s : State) : State :=
  let good := s.log.mram.filter (fun e => e.2.ok)
  let n := newestSeq (good.map (fun e => e.2))
  let circ := good.filter (fun e => 1024 ≤ e.1)
  let c := newestSeq (circ.map (fun e => e.2))
  let at_ := match circ.find? (fun e => e.2.seq = c) with | some e => (if e.1 = 8191 then 1024 else e.1 + 1) | none => 1024
  s.logMod (fun l => { l with nextSeq := if good.isEmpty then 1 else seqNext n, nextCirc := at_ })

/-! ## Burst admission -/

/-- The floor of the burst estimate in mV (R483). -/
def State.floorMv (s : State) : Nat := if s.dev == .dormant then 2200 else s.offMv

/-- A burst of `cost` half microjoules is admitted from the store (R483): 1/200 of C_ST in 0.01 F times V squared in mV squared is its energy in
microjoules. -/
def State.storeAdmits (s : State) (cost : Nat) : Bool :=
  let c := max 1 (s.fld Reg.CLK_HRVCFG F.CLK_HRVCFG_CST)
  let res := 2000 * s.fld Reg.CLK_HRVCOST F.CLK_HRVCOST_RES
  let v := s.hstoreMv
  c * s.floorMv ^ 2 + 100 * (s.pwr.admitted + cost + res) ≤ c * v ^ 2

/-- Burst admission (R484): `p2` says that the burst is a P2 frame, which HBAT never pays for. [log 162: DEDUCED] -/
def State.admits (s : State) (cost : Nat) (p2 : Bool) : Bool :=
  s.mainOk || (if s.keepSrc = 2 then !p2 else s.storeAdmits cost)

/-- An admitted burst is charged to the estimate. -/
def State.charge (s : State) (cost : Nat) : State := if s.mainOk then s else s.pwrMod (fun p => { p with admitted := p.admitted + cost })

/-- A burst is deferred (R484). -/
def State.deferBurst (s : State) : State := (s.bump Reg.CLK_DEFERCNT).stick Stk.BURST_DEFER

/-- The costs in half microjoules (R483). -/
def State.logCost (s : State) : Nat := 2 * s.fld Reg.CLK_HRVCOST F.CLK_HRVCOST_LOG
def State.p2Cost (s : State) : Nat := (if s.flag Reg.NET_TLSTAT F.NET_TLSTAT_AMP then 5 else 2) * s.fld Reg.CLK_HRVCOST F.CLK_HRVCOST_TL

/-! ## The watch link -/

/-- P2 is up: its island is powered and the link trained (R377). -/
def State.p2Up (s : State) : Bool := s.dev != .dormant && s.flag Reg.NET_TLSTAT F.NET_TLSTAT_LINK

def devCode : DevState → Nat
  | .run => 0
  | .standby => 1
  | .watch => 2
  | .dormant => 3

/-- A watch frame from its EtherType on (R378). [log 161: DEDUCED] -/
def watchFrame (typ seq : Nat) (payload : List Byte) : List Byte :=
  beBytes 2 0x88B6 ++ beBytes 1 1 ++ beBytes 1 typ ++ beBytes 2 payload.length ++ beBytes 2 seq ++ payload

/-- The payload of BEACON and STATUS (R378). [log 161: DEDUCED] -/
def State.statusPayload (s : State) : List Byte :=
  beBytes 8 s.gt ++ beBytes 1 s.qual ++ beBytes 1 (devCode s.dev) ++ beBytes 2 s.hstoreMv ++ beBytes 4 s.logNewest ++ beBytes 2 s.log.pinned.length

/-- P2 may send now: in WATCH only when the burst is admitted (R379). -/
def State.p2Admits (s : State) : Bool := s.dev != .watch || s.admits s.p2Cost true

def State.p2Send (s : State) (bytes : List Byte) : State := (if s.dev == .watch then s.charge s.p2Cost else s).send 2 bytes

/-- A watch frame is deferred or dropped (R379, R484). [log 162: DEDUCED] -/
def State.p2Defer (s : State) : State := ((s.deferBurst).bump Reg.NET_TLDEFER).stick Stk.TL_DEFER

/-- The BEACON leaves. [log 161: DEDUCED] -/
def State.beaconSend (s : State) : State :=
  let t := s.p2Send (watchFrame 1 s.net.watchSeq s.statusPayload)
  t.netMod (fun n => { n with watchSeq := (n.watchSeq + 1) % 65536, beaconDue := false })

/-- A deferred beacon is sent at the next admission (R379). [log 162: DEDUCED] -/
def State.beaconRetry (s : State) : State := if s.net.beaconDue && s.p2Up && s.p2Admits then s.beaconSend else s

/-- A reply to a valid watch frame: sent, or dropped in WATCH (R379). -/
def State.reply (s : State) (bytes : List Byte) : State := if s.p2Admits then s.p2Send bytes else s.p2Defer

/-! ## The KEEP source -/

/-- The KEEP source by R481; none is the brown-out. [log 234: DEDUCED] -/
def State.sourceNow (s : State) : Option Nat :=
  let v := s.hstoreMv
  if s.mainOk then some 0
  else if v < 2000 && s.hbatOk then some 2
  else if v < 2200 && s.pwr.darkDone && s.hbatOk then some 2
  else if s.keepSrc = 2 && v ≤ 2800 && s.hbatOk then some 2
  else if 1900 ≤ v then some 1
  else none

/-- A change of the KEEP source, with its record; the first one to HBAT sets STK_KEEP_BAT (R481). -/
def State.setSource (s : State) (src : Nat) : State :=
  if s.keepSrc = src then s
  else
    let s1 := s.setFld Reg.CLK_PWRSTAT F.CLK_PWRSTAT_KEEPSRC src
    if src = 2 && !s.pwr.batSeen then
      ((s1.pwrMod (fun p => { p with batSeen := true })).stick Stk.KEEP_BAT).logRec 0x03 (evCode Stk.KEEP_BAT.file 8) []
    else s1.logRec 0x03 (evCode 0xFF 8) []

end Sys2Proof.Machine
end

