-- ==== Sys2Proof/Machine/StateOps.lean ====
section
/-!
DEFINITION. The device states (R46 to R48, R448, R449, R467 to R475): what survives a power-down or a reset, and the transitions.
-/
namespace Sys2Proof.Machine

/-- The record of a transition (R48, R496). `srcs` are the sources of a wake (R474). [log 238: DESIGN CHOICE] -/
def State.transition (s : State) (to_ : DevState) (cause : Nat) (srcs : List Nat := []) : State :=
  let ws := w32 (s.hstoreMv + 2 ^ 16 * s.keepSrc) :: (if s.pan.anyCommit then cidxWords s.pan.cidx else [0#32, 0#32])
  let rs := (chainFrom s.gt s.qual 0x10 (devCode s.dev + 16 * devCode to_ + 256 * cause) false 8 0 ws).map
    (fun r => { r with who := srcs.foldl (fun m i => m + 2 ^ i) 0 })
  { (s.enqueue rs false).overflowStk s.log.dropped with dev := to_ }

/-! ## What survives -/

/-- The addresses of the KEEP registers (R488, R502), of the watch link's, and of the comparators that R115 keeps alive. [log 232: DEDUCED] -/
def keepAddr (a : Nat) : Bool := (0x13400 ≤ a && a < 0x13430) || (0x10F00 ≤ a && a < 0x10F1C)
/-- [log 232: DEDUCED] -/
def linkAddr (a : Nat) : Bool := a == Reg.NET_CTRL || a == Reg.NET_TLCFG || a == Reg.NET_TLSTAT || a == Reg.NET_TLDEFER
def safeAddr (a : Nat) : Bool := 0x17000 ≤ a && a < 0x18000
/-- [log 56: DEDUCED] -/
def cmpAddr (ns : List Nat) (a : Nat) : Bool :=
  a == Reg.CMP_WAKE || ns.any (fun n => a == Reg.CMP_CFG n || a == Reg.CMP_THR n || a == Reg.CMP_STAT n)

/-- The comparators that stay powered without ANA (R115). [log 56: DEDUCED] -/
def State.keptCmps (s : State) : List Nat :=
  (List.range 64).filter (fun n => s.flag (Reg.CMP_CFG n) F.CMP_CFG_EN && ({ s with dev := .watch } : State).cmpAlive n)

/-- The block with what stands in KEEP, in the fuses and in boot flash, and the registers that `keep` selects; the rest at reset. [log 56, 217, 239: DEDUCED] -/
def State.survive (s : State) (keep : Nat → Bool) (ns : List Nat) : State :=
  { gt := s.gt, variant := s.variant, dev := s.dev, regs := s.regs.filter (fun e => keep e.1), log := { s.log with fgtHi := [] }, pwr := s.pwr, fw := s.fw,
    tim := { keepTicks := s.tim.keepTicks, xtLostHeld := s.tim.xtLostHeld },
    cmp := { cmps := (List.range 64).map (fun n => if ns.contains n then s.cmp.cmps.at n else {}) },
    net := { watchSeq := s.net.watchSeq, lastWatch := s.net.lastWatch, beaconAt := s.net.beaconAt, beaconDue := s.net.beaconDue },
    mbx := { keys := s.mbx.keys, qspi := s.mbx.qspi }, pin := { s.pin with folded := [] }, freeN := s.freeN, out := s.out, pending := s.pending }

/-- The single bits of other registers that KEEP holds: the tier of GT with KEEPCAL_OK, XT32_OK, and the log's sticky bits (R62, R80, R492). [log 217: DEDUCED] -/
def State.keepBits (s old : State) (qual : Nat) : State :=
  let s1 := (s.setRegN Reg.GT_STAT qual).setFld Reg.GT_STAT F.GT_STAT_KEEPCAL_OK (old.fld Reg.GT_STAT F.GT_STAT_KEEPCAL_OK)
  let s2 := s1.setFld Reg.CLK_STAT F.CLK_STAT_XT32_OK (old.fld Reg.CLK_STAT F.CLK_STAT_XT32_OK)
  (s2.setReg (Reg.STK_SUM 3) (old.reg (Reg.STK_SUM 3) &&& 0x1E000000#32)).tidyFgt

/-- GT passes to the keep-alive oscillator: HOLD_KEEP, which is lost at once while that oscillator stands (R61, R63). [log 34: DEDUCED] -/
def State.holdKeep (s : State) : State :=
  { s with tim := { s.tim with xtLostHeld := s.tim.xtLostHeld || !s.flag Reg.CLK_STAT F.CLK_STAT_XT32_OK } }

/-! ## Transitions -/

/-- Every domain but KEEP, TLINK and SAFE switches off (R47, R467). -/
def State.powerDown (s : State) : State :=
  let ns := s.keptCmps
  let t := ((s.stickIf (s.qual ≠ 5 && s.qual ≠ 0) Stk.GT_HOLDOVER).holdKeep)
  let u := t.survive (fun a => keepAddr a || linkAddr a || safeAddr a || cmpAddr ns a) ns
  let q := if t.qual = 0 then 0 else 5
  ({ u with safe := t.safe, net := { u.net with lastWatch := s.gt } }).keepBits t q

/-- RUN or STANDBY to WATCH (R47, R393, R470). [log 191: DEDUCED] -/
def State.toWatch (s : State) (cause : Nat) : State :=
  (((s.closeSession 2).mtrFinal).transition .watch cause).powerDown.soutCheck

/-- WATCH to DORMANT (R47, R46, R303, R487): TLINK and SAFE switch off, deferred frames are dropped. [log 162: DEDUCED] -/
def State.toDormant (s : State) (cause : Nat) : State :=
  let s1 := if s.net.beaconDue then ((s.bump Reg.NET_TLDEFER).stick Stk.TL_DEFER).netMod (fun n => { n with beaconDue := false }) else s
  let s2 := s1.transition .dormant cause
  let s3 := { s2 with regs := s2.regs.filter (fun e => !safeAddr e.1), safe := {} }
  (((s3.setFld Reg.NET_TLSTAT F.NET_TLSTAT_LINK 0).setFld Reg.NET_TLSTAT F.NET_TLSTAT_AMP 0).tidyFgt).pwrMod (fun p => { p with below := none, held := none })

/-- DORMANT to WATCH (R47, R474). [log 235: DEDUCED] -/
def State.wakeTo (s : State) (srcs : List Nat) : State :=
  let w := srcs.foldl min 4
  let s1 := s.transition .watch (if w = 4 then 8 else 4 + w) srcs
  let s2 := (s1.setFld Reg.CLK_PWRSTAT F.CLK_PWRSTAT_LASTWAKE w).setFld Reg.NET_TLSTAT F.NET_TLSTAT_PWAKE (bit (srcs.contains 2))
  { s2 with pwr := { s2.pwr with wakes := [], below := none, held := none }, net := { s2.net with lastWatch := s.gt } }

/-- A device reset (R448, R449): every domain but KEEP returns to its reset state; the comparators that KEEP held keep their state (R115). [log 34, 230, 231, 232: DEDUCED] -/
def State.deviceReset (s : State) (cause : Nat) : State :=
  let ns := if s.powered then [] else s.keptCmps
  let t := if s.powered then s.holdKeep else s
  let u := t.survive (fun a => keepAddr a || a == Reg.NET_TLSTAT || (!s.powered && cmpAddr ns a)) ns
  let lost := t.tim.xtLostHeld
  let q := if t.qual = 0 || lost then 0 else 5
  let v := (u.keepBits t q).setFld Reg.CLK_PWRSTAT F.CLK_PWRSTAT_RSTCAUSE cause
  let w : State := { v with dev := if v.mainOk then .standby else if s.powered then .watch else s.dev,
                            tim := { v.tim with xtLostHeld := false },
                            fw := { v.fw with booting := true, selected := false, service := false, refused := 0, rewrite := false, cause := cause },
                            pwr := { v.pwr with leaving := none, entering := none, held := if v.mainOk then none else some cause } }
  w.stickIf lost Stk.XT32_LOST

/-- KEEP has lost its power (R481): GT and every KEEP register are gone; MRAM, flash and fuses remain. [log 230, 237: DEDUCED] -/
def State.keepLost (s : State) : State :=
  let u := s.survive (fun _ => false) []
  { u with gt := 0, dev := .dormant, log := { mram := s.log.mram, released := s.log.released }, tim := {}, net := {}, pwr := { keepOff := true },
           fw := { s.fw with booting := true, selected := false, service := false, refused := 0, rewrite := false, cause := 1 } }

/-- The law library's state starts anew (R47, R203). [log 90: DEDUCED] -/
def LawInst.restart (l : LawInst) : LawInst := { typ := l.typ, bind := l.bind, pos := l.pos, fields := l.fields, ch := l.ch }

/-- STANDBY to RUN by command `tag` (R47, R104): control state is reinitialised; recipes start with the next epoch. -/
def State.toRun (s : State) (tag : Nat) : State :=
  let t := (s.transition .run 1).pwrMod (fun p => { p with entering := some tag })
  let u := (t.ketReinit).fabricRun
  let sdf := u.ana.sdf.map (fun d => { d with outputs := 0, ocOutputs := 0 })
  { u with law := { u.law with inst := u.law.inst.map LawInst.restart }, ana := { u.ana with sdf := sdf } }

/-- The command that entered RUN completes: its first epoch begins, or RUN is left (R437, R472). [log 190: DEDUCED] -/
def State.enterDone (s : State) : State :=
  match s.pwr.entering with
  | some tag => (s.pwrMod (fun p => { p with entering := none })).finish tag stOk
  | none => s

/-- RUN to STANDBY by command `tag` (R47): groups go low at their next boundaries, recipes finish their epoch. `watch`: on to WATCH. [log 116, 191: DEDUCED] -/
def State.leaveRun (s : State) (watch : Bool) (tag : Nat) : State :=
  let t := ((s.enterDone).transition .standby 1).fabricLeave
  let u := (t.ketLeave).limitReset
  let v := (List.range 32).foldl (fun x g => if (x.pwm.lgs.at g).hupdTag.isEmpty then x
    else (x.pwm.lgs.at g).hupdTag.foldl (fun y t => y.finish t stBusy)
      ((x.setFld (Reg.PWM_HUPD g) F.PWM_HUPD_ARM 0).lgMod g (fun l => { l with hupdTag := [] }))) u
  let pts := v.mtr.pts.map (fun p => { p with fresh := true })
  { v with mtr := { v.mtr with pts := pts }, pwr := { v.pwr with leaving := some (watch, tag) }
           law := { v.law with inst := v.law.inst.map (fun l => { l with coord := { l.coord with mode := 0 } }) } }

/-- RUN has been left: every group is low and no recipe runs (R472). [log 190: DEDUCED] -/
def State.leftRun (s : State) : Bool :=
  (List.range s.groups).all (fun g => !s.flag (Reg.PWM_LGCFG g) F.PWM_LGCFG_EN || !(s.pwm.lgs.at g).offPend || !s.flag Reg.CLK_STAT F.CLK_STAT_DLL_LOCK) &&
    (s.qual == 5 || s.bindings.all (fun b => !(s.bd b).run.active))

/-- The end of RUN's leaving: the command completes, or goes on to WATCH (R47, R436, R472). [log 190: DEDUCED] -/
def State.leaveCheck (s : State) : State :=
  match s.pwr.leaving with
  | some (watch, tag) =>
    if !s.leftRun then s
    else
      let t := (s.pwrMod (fun p => { p with leaving := none })).finish tag stOk
      if watch then t.toWatch 1 else t
  | none => s

end Sys2Proof.Machine
end

