-- ==== Sys2Proof/Machine/Pwm.lean ====
section
/-!
DEFINITION. The leg groups' events, the host's controls and the sync chain (R245 to R271).
-/
namespace Sys2Proof.Machine

/-- The trim update of a follower at a boundary of ISRC after a valid pulse (R266). -/
def State.trimUpdate (s : State) (g : Nat) : State :=
  let c := s.pwm.chain
  if s.fld Reg.PWM_SYNCCFG F.PWM_SYNCCFG_ROLE ≠ 2 || s.fld Reg.PWM_SYNCCFG F.PWM_SYNCCFG_ISRC ≠ g || !c.valid then s
  else
    let step : Int := (max 1 (s.fld Reg.PWM_SYNCWIN F.PWM_SYNCWIN_TRIMSTEP) : Nat)
    let t := c.trim + clampInt (-step) step (c.err - c.trim)
    let s1 := { s with pwm := { s.pwm with chain := { c with trim := t, valid := false } } }
    if (c.err - t).natAbs ≤ step.toNat then s1.setFld Reg.PWM_SYNCSTAT F.PWM_SYNCSTAT_LOCK 1 else s1

/-- The trim that group `g` takes at its boundary (R267). -/
def State.takeTrim (s : State) (g : Nat) : State :=
  let run := (List.range (g + 1)).all (fun i => s.flag (Reg.PWM_LGCFG i) F.PWM_LGCFG_CHAIN)
  s.setRegN (Reg.PWM_TRIM g) (if run && s.fld Reg.PWM_SYNCCFG F.PWM_SYNCCFG_ROLE = 2 then lowBits 32 s.pwm.chain.trim else 0)

/-- SYNC_OUT rises at B + T at every DIV-th boundary of OSRC (R264). -/
def State.syncOut (s : State) (g b : Nat) : State :=
  let role := s.fld Reg.PWM_SYNCCFG F.PWM_SYNCCFG_ROLE
  let div := max 1 (s.fld Reg.PWM_SYNCCFG F.PWM_SYNCCFG_DIV)
  if (role = 1 || role = 2) && s.fld Reg.PWM_SYNCCFG F.PWM_SYNCCFG_OSRC = g && s.boundaryIndex g b % div = 0 then
    { s with pwm := { s.pwm with chain := { s.pwm.chain with syncOut := true, syncOutAt := s.driven g (32 * b) } } }
  else s

/-- A cycle-by-cycle trip ends at a reload point at which every selected bus is 0 (R262). -/
def State.cbcRelease (s : State) (g r : Nat) : State :=
  if (s.pwm.lgs.at g).cbc && (s.fld (Reg.PWM_TRIP g) F.PWM_TRIP_CBCMASK &&& s.cmp.bus) = 0 then
    (List.range 6).foldl (fun t c => t.reloadCh (6 * g + c) (32 * r)) (s.lgMod g (fun l => { l with cbc := false }))
  else s

/-- A gate that reads low since before the period is confirmed off at the boundary (R284). -/
def State.confirmLow (s : State) (g b : Nat) : State :=
  (List.range 6).foldl (fun t c =>
    let n := 6 * g + c
    let x := t.gl.chs.at n
    if !(t.pwm.chs.at n).lvl && !x.gfb && !x.confOff && x.win.isNone then t.glMod n (fun y => { y with confOff := true, confAt := 32 * b }) else t) s

/-- The group after its boundary in RUN: releases, a cleared trip's resumption, the permit, the reload (R252, R253, R263, R283, R306). [log 131: DEDUCED] -/
def State.boundaryRun (s : State) (g b : Nat) : State :=
  let s1 := if (s.pwm.lgs.at g).resume || (s.pwm.lgs.at g).reopen then
      (List.range 6).foldl (fun t c => t.reloadCh (6 * g + c) (32 * b)) (s.lgMod g (fun l => { l with resume := false, reopen := false }))
    else s
  let s2 := if s1.fld (Reg.PWM_LGCFG g) F.PWM_LGCFG_SRC = 0 then s1.engineReload g b else s1.hostReload g b
  let s3 := s2.cbcRelease g b
  (List.range 6).foldl (fun t c => t.releaseCh (6 * g + c) b) s3

/-- The commands that wait for the host set complete at its load, with the GT of the boundary (R253, R436). [log 116: DEDUCED] -/
def State.hupdDone (s : State) (g b : Nat) : State :=
  if s.flag (Reg.PWM_HUPD g) F.PWM_HUPD_ARM then s
  else (s.pwm.lgs.at g).hupdTag.foldl (fun x t => x.finish t stOk (v0 := w32 b) (v1 := w32 (b / 2 ^ 32)))
    (s.lgMod g (fun l => { l with hupdTag := [] }))

/-- PERIOD_BOUNDARY (R245, R249, R252 to R255, R264, R266, R271, R291). [log 115: DEDUCED] -/
def execPeriodBoundary (g : Fin 32) (s : State) : Host.Outcome State Fault Refusal :=
  .next (if !s.powered || !s.flag Reg.CLK_STAT F.CLK_STAT_DLL_LOCK || s.groups ≤ g.val || !s.flag (Reg.PWM_LGCFG g) F.PWM_LGCFG_EN then s
    else
      let b := s.nextBoundary g
      let s1 := (s.gtTo b).tickReg (Reg.PWM_PERCNT g)
      let s2 := s1.bothMark g b
      let s3 := s2.lgMod g (fun l => { l with bnd := b, anyBnd := true, bndSnap := min 255 (l.bndSnap + 1) })
      let s4 := ((s3.trimUpdate g).takeTrim g).confirmLow g b
      let s5 := if s4.frameDue g b then s4.adaptGroup g else s4
      let s6 := if s5.dev == .run then s5.boundaryRun g b
        else if (s5.pwm.lgs.at g).offPend then s5.groupOff g b
        else s5.lgMod g (fun l => { l with resume := false, reopen := false })
      ((((s6.syncOut g b).adcFire (0x20 + g)).hupdDone g b).leaveCheck))

/-- MID_PERIOD_POINT (R249, R251, R262): the mid reload of an engine-class group with ECLASS = 1. -/
def execMidPeriodPoint (g : Fin 32) (s : State) : Host.Outcome State Fault Refusal :=
  .next (let l := s.pwm.lgs.at g
    if !s.powered || !s.flag Reg.CLK_STAT F.CLK_STAT_DLL_LOCK || !l.anyBnd || l.midFor = l.bnd + 1 ||
        !s.flag (Reg.PWM_LGCFG g) F.PWM_LGCFG_EN then s
    else
      let m := l.bnd + s.perOf g / 2
      let s1 := (s.gtTo m).lgMod g (fun x => { x with midFor := l.bnd + 1 })
      let s2 := if s1.dev == .run && s1.fld (Reg.PWM_LGCFG g) F.PWM_LGCFG_SRC = 0 && s1.flag (Reg.PWM_LGCFG g) F.PWM_LGCFG_ECLASS then
          ((s1.bothMark g m).engineReload g m).cbcRelease g m
        else s1
      s2.adcFire (0x40 + g))

/-- TRIGGER_COMPARE (R249): the TRGA position of the period, where it lies in the period. -/
def execTriggerCompare (g : Fin 32) (s : State) : Host.Outcome State Fault Refusal :=
  .next (let l := s.pwm.lgs.at g
    let trga := s.regN (Reg.PWM_ACT g 6)
    if !s.powered || !s.flag Reg.CLK_STAT F.CLK_STAT_DLL_LOCK || !l.anyBnd || l.trgFor = l.bnd + 1 || 32 * s.perOf g < trga + 32 ||
        !s.flag (Reg.PWM_LGCFG g) F.PWM_LGCFG_EN then s
    else ((s.gtTo (l.bnd + trga / 32)).lgMod g (fun x => { x with trgFor := l.bnd + 1 })).adcFire (0x60 + g))

/-- SCHEDULED_EDGE (R257 to R260, R284): the next edge of channel `n`. While its permit is closed no edge reaches the pin: no window opens,
and carries are discarded (R263). [log 114: DEDUCED] -/
def execScheduledEdge (n : Fin 192) (s : State) : Host.Outcome State Fault Refusal :=
  .next (let t := s.nextEdge n
    if s.permitOpen (lgOf n) then t
    else
      let x := s.gl.chs.at n
      (t.glMod n (fun c => { c with win := x.win, confOff := x.confOff, confAt := x.confAt })).dropCarry n)

/-- PWM_HUPD_ARM (R253). -/
def execPwmHupdArm (g : Fin 32) (s : State) : Host.Outcome State Fault Refusal :=
  .next ((s.setFld (Reg.PWM_HUPD g) F.PWM_HUPD_ARM 1).lgMod g (fun l => { l with armGt := s.gt }))

/-- PWM_TRIPCTL_CLR (R263). -/
def execPwmTripctlClr (g : Fin 32) (s : State) : Host.Outcome State Fault Refusal := .next (s.tripClear g)

/-- SYNC_IN_PULSE (R265): the error against the nearest expected boundary, and whether the pulse is valid. [log 118: DEDUCED] -/
def execSyncInPulse (frac : Fin 32) (s : State) : Host.Outcome State Fault Refusal :=
  .next (if s.fld Reg.PWM_SYNCCFG F.PWM_SYNCCFG_ROLE ≠ 2 then s
    else
      let g := s.fld Reg.PWM_SYNCCFG F.PWM_SYNCCFG_ISRC
      let p := 32 * s.perOf g * max 1 (s.fld Reg.PWM_SYNCCFG F.PWM_SYNCCFG_DIV)
      let tin : Int := (32 * s.gt + frac.val : Nat)
      let e0 := tin - 32 * (s.phOf g : Int)
      let near := (2 * e0 + p) / (2 * (p : Int)) * p
      let e := e0 - near - (s.fld Reg.PWM_SYNCDLY F.PWM_SYNCDLY_CHAINDLY : Nat)
      let s1 := s.setFld Reg.PWM_SYNCSTAT F.PWM_SYNCSTAT_ERR (lowBits 24 e)
      if e.natAbs ≤ 32 * clampNat 1 1000 (s.fld Reg.PWM_SYNCWIN F.PWM_SYNCWIN_WIN) then
        { s1 with pwm := { s1.pwm with chain := { s1.pwm.chain with err := e, valid := true, missed := 0, lost := false } } }
      else s1.stick Stk.SYNC_WIN)

/-- SYNC_LOSS (R268): LOSS_N expected pulses in a row brought no valid one; while lost, one more missed pulse. [log 118: DEDUCED] -/
def execSyncLoss (s : State) : Host.Outcome State Fault Refusal :=
  .next (if s.fld Reg.PWM_SYNCCFG F.PWM_SYNCCFG_ROLE ≠ 2 then s
    else if s.pwm.chain.lost then
      { s.bump Reg.PWM_SYNCMISS with pwm := { s.pwm with chain := { s.pwm.chain with missed := s.pwm.chain.missed + 1 } } }
    else
      let n := max 1 (s.fld Reg.PWM_SYNCWIN F.PWM_SYNCWIN_LOSS_N)
      let s1 := { s with pwm := { s.pwm with chain := { s.pwm.chain with missed := n, lost := true } } }
      (((s1.setFld Reg.PWM_SYNCSTAT F.PWM_SYNCSTAT_LOCK 0).stick Stk.SYNC_LOST).bumpBy Reg.PWM_SYNCMISS n).logRec 0x0D
        (evCode Stk.SYNC_LOST.file 1) [w32 n])

/-- The state code of a group's status (R270): 0 off, 1 switching, 2 held cycle by cycle, 3 latched. -/
def State.lgState (s : State) (g : Nat) : Nat :=
  let l := s.pwm.lgs.at g
  if l.latched then 3 else if l.cbc then 2 else if s.lgOffNow g then 0 else 1

/-- The four fabric words of a group's snapshot (R270). -/
def State.lgWords (s : State) (g : Nat) : List Word :=
  let l := s.pwm.lgs.at g
  let m := fun (f : PwmCh → Bool) => (List.range 6).foldl (fun a c => a + bit (f (s.pwm.chs.at (6 * g + c))) * 2 ^ c) 0
  let trimmed := (List.range (g + 1)).all (fun i => s.flag (Reg.PWM_LGCFG i) F.PWM_LGCFG_CHAIN) && s.flag Reg.PWM_SYNCSTAT F.PWM_SYNCSTAT_LOCK
  [w32 (s.lgState g + 4 * bit l.staleOff + 8 * bit trimmed + 2 ^ 4 * m (fun c => c.spact) + 2 ^ 10 * s.fld (Reg.PWM_LGCFG g) F.PWM_LGCFG_SPP +
      2 ^ 12 * m (fun c => c.carry ≠ 0) + 2 ^ 18 * bit l.rngSnap + 2 ^ 19 * bit l.cbcSnap + 2 ^ 20 * bit ((s.reg (Reg.PWM_ACT g 7)).getLsbD 0) +
      2 ^ 24 * l.bndSnap),
   s.reg (Reg.PWM_PERCNT g), s.reg (Reg.PWM_TRIM g), s.reg (Reg.PWM_SETCIDX g)]

/-- The gate-link words of a group's snapshot from L + 0x08 on (R298). -/
def State.glWords (s : State) (g : Nat) : List Word :=
  let l := s.pwm.lgs.at g
  let esc := match s.convOf g with | some v => s.gl.escal.testBit v | none => false
  (List.range 6).map (fun c => s.reg (Reg.GL_TSW g c)) ++
    (List.range 6).map (fun c =>
      let n := 6 * g + c
      let x := s.gl.chs.at n
      w32 (s.code n true + 2 ^ 4 * s.code n false + 2 ^ 8 * x.cause + 2 ^ 12 * bit x.active + 2 ^ 13 * bit x.latched + 2 ^ 14 * bit x.waiting +
        2 ^ 16 * x.tries + 2 ^ 20 * x.faultSnap)) ++
    [w32 (s.gl.shoot.at g + 8 * bit l.frameSent + 16 * bit l.frameSkip + 2 ^ 5 * l.ilWait + 2 ^ 8 * ((l.frames + 15) % 16 * bit (l.frames ≠ 0)) +
      2 ^ 12 * bit esc)]

/-- The first status slot of group `g` (R270). -/
def lgSlot (g : Nat) : Nat := if g ≤ 15 then 0x900 + 0x20 * g else 0xB00 + 0x20 * (g - 16)

/-- PWM_SNAPSHOT (R270, R298): four ticks before the next commit instant each group samples its words, and writes them by C - 2. -/
def execPwmSnapshot (s : State) : Host.Outcome State Fault Refusal :=
  .next (if !s.commitsOn || !s.flag Reg.CLK_STAT F.CLK_STAT_DLL_LOCK then s
    else
      let c := s.instantOf (s.commitFrom (max (s.gt + 4) (s.pwm.snapAt + 1)))
      let t := s.gtTo (c - 4)
      let put := fun (own base : Nat) (ws : List Word) (u : State) =>
        (ws.zipIdx).foldl (fun v e => v.panSampleAt (c - 2) own (base + e.2) (c - 4) e.1) u
      let t1 := (List.range t.groups).foldl (fun u g =>
        let own := if g ≤ 15 then 0x04 else 0x05
        put own (lgSlot g + 8) (t.glWords g) (put own (lgSlot g) (t.lgWords g) u)) t
      let ls := t1.pwm.lgs.map (fun l => { l with rngSnap := false, cbcSnap := false, bndSnap := 0, frameSent := false, frameSkip := false, ilWait := 0 })
      { t1 with pwm := { t1.pwm with snapAt := c, lgs := ls, chs := t1.pwm.chs.map (fun x => { x with spact := false }) },
                gl := { t1.gl with chs := t1.gl.chs.map (fun x => { x with faultSnap := 0 }) } })

end Sys2Proof.Machine
end

