-- ==== Sys2Proof/Machine/Recorder.lean ====
section
/-!
DEFINITION. The recorder's events and control bits (R406 to R416).
-/
namespace Sys2Proof.Machine

/-- TRACK_CHANGE (R406, R412). -/
def execTrackChange (g : Fin 16) (s : State) : Host.Outcome State Fault Refusal := .next (s.trackChange g)

/-- ANALOG_SAMPLE (R407, R412). -/
def execAnalogSample (a : Fin 64) (s : State) : Host.Outcome State Fault Refusal := .next (s.analogSample a)

/-- REC_CTRL_ARM (R411). -/
def execRecCtrlArm (s : State) : Host.Outcome State Fault Refusal := .next s.recArm

/-- REARM_COMPLETE (R411). [log 177: DEDUCED] -/
def execRearmComplete (s : State) : Host.Outcome State Fault Refusal := .next (if s.recState = 1 && s.recClocked then s.recArmed else s)

/-- RECORDER_TRIGGER (R412): event sources, as seen after their synchroniser. -/
def execRecorderTrigger (ev : Fin 16) (s : State) : Host.Outcome State Fault Refusal :=
  .next (let m := ev.val &&& s.fld Reg.REC_EVTRIG F.REC_EVTRIG_EV
    let t := recTick s.gt
    if m = 0 || !s.recClocked then s else (s.gtTo t).recTrigger t (2 ^ 16 * m))

/-- A software trigger (R412). -/
def State.recSwTrig (s : State) : State :=
  let t := recTick s.gt
  if s.recClocked then (s.gtTo t).recTrigger t (2 ^ 25) else s

/-- REC_CTRL_SWTRIG (R412). -/
def execRecCtrlSwtrig (s : State) : Host.Outcome State Fault Refusal := .next s.recSwTrig

/-- REC_CTRL_STOP (R416). [log 179: DEDUCED] -/
def execRecCtrlStop (s : State) : Host.Outcome State Fault Refusal := .next (s.recEnd 3 (recTick s.gt))

/-- POST_END (R415). -/
def execPostEnd (s : State) : Host.Outcome State Fault Refusal := .next s.recPostEnd

end Sys2Proof.Machine
end

