-- ==== Sys2Proof/Machine/SupOps.lean ====
section
/-!
DEFINITION. Shared operations of the supervisor pair (R328 to R347): its states, and the Pantry writes that Steward holds (R337).
-/
namespace Sys2Proof.Machine

def State.supState (s : State) : Nat := s.fld Reg.SUP_STAT F.SUP_STAT_STATE
def State.setSup (s : State) (n : Nat) : State := s.setFld Reg.SUP_STAT F.SUP_STAT_STATE n
def State.supMod (s : State) (f : SupState → SupState) : State := { s with sup := f s.sup }

/-- Steward runs: not in FAILED, not re-running, not frozen by a hand-over (R334, R340, R342). -/
def State.stewardOn (s : State) : Bool :=
  (s.dev == .run || s.dev == .standby) && s.supState != 4 && s.supState != 1 &&
    !(s.supState == 3 && 3 ≤ s.fld Reg.SUP_STAT F.SUP_STAT_PHASE)

/-- A recovery, resynchronisation or split has just ended (R341). -/
def State.supActed (s : State) : State := s.supMod (fun u => { u with lastAct := s.gt, anyAct := true })

/-- The pair enters FAILED with a class (R340, R445, R446): the pinned record; Steward's held writes are never made. -/
def State.supFail (s : State) (cls : Nat) : State :=
  let s1 := ((s.closeSession 2).setSup 4).setFld Reg.SUP_STAT F.SUP_STAT_CLASS cls
  let s2 := (((s1.setFld Reg.SUP_STAT F.SUP_STAT_PHASE 0).setFld Reg.MBX_STAT F.MBX_STAT_FAILED 1).setFld Reg.MBX_STAT F.MBX_STAT_SPLIT 0).supMod
    (fun u => { u with held := [], split := none, rejoinDue := false })
  (s2.stick Stk.SUP_FAILED).logRec 0x08 (evCode Stk.SUP_FAILED.file 3) [] true

/-- A resynchronisation (R339). -/
def State.resync (s : State) : State := ((s.bump Reg.SUP_RSYNCNT).setSup 0).supActed

/-- The class 1 recoveries of the last 60 s (R336, R348). [log 141: DEDUCED] -/
def State.recov60 (s : State) : List Nat := s.sup.recovs.filter (fun t => s.gt < t + 60 * tickSec)

/-- SUP_STAT and SUP_SPLIT as they read (R348). -/
def State.supStatView (s : State) : Word := w32 (putFld (s.regN Reg.SUP_STAT) F.SUP_STAT_RECOV60 s.recov60.length)
def State.supSplitView (s : State) : Word :=
  match s.sup.split with
  | some p => if p.started then w32 (putFld (s.regN Reg.SUP_SPLIT) F.SUP_SPLIT_ELAPSED ((s.gt - p.start) / tickMs)) else s.reg Reg.SUP_SPLIT
  | none => s.reg Reg.SUP_SPLIT

/-! ## Held writes -/

/-- The latest commit index at the present GT: the one before the next (R337). [log 142: DEDUCED] -/
def State.latestIdx (s : State) : Nat :=
  if s.pan.anyCommit then s.pan.cidx
  else
    let n := s.nextCommit
    if n % 2 = 1 then n - 1 else if s.halfOn then n - 1 else n - 2

/-- Four commits after the latest (R337). [log 142: DEDUCED] -/
def State.chosenDest (s : State) : Nat := s.commitAfter (s.commitAfter (s.commitAfter (s.commitAfter s.latestIdx)))

/-- Steward holds a write (R337). -/
def State.hold (s : State) (w : HeldWrite) : State := s.supMod (fun u => { u with held := u.held ++ [w] })

/-- The owner code of the host's writes (R26, R37). -/
def hostOwner : Nat := 0x20

/-- The held writes of one destination are made, and the commands all of whose writes have been made complete (R337, R434, R435). -/
def State.issueHeld (s : State) (dest : Nat) : State :=
  let now := s.sup.held.filter (fun w => w.dest = dest)
  let s1 := s.supMod (fun u => { u with held := u.held.filter (fun w => !(w.dest = dest)) })
  let s2 := now.foldl (fun t w => t.panWrite hostOwner w.slot w.ord dest w.val) s1
  let tags := ((now.filterMap (fun w => w.tag)).eraseDups).filter (fun g => !s1.sup.held.any (fun w => w.tag == some g))
  tags.foldl (fun t g => t.finish g stOk (cidx := dest)) s2

/-- Held writes whose issue point has passed get a new destination (R337). -/
def State.retargetHeld (s : State) (late : HeldWrite → Bool) : State :=
  let d := s.chosenDest
  s.supMod (fun u => { u with held := u.held.map (fun w => if late w then { w with dest := d } else w) })

/-- Held writes after GT has stepped or EP_LEN has changed (R59, R67, R446): a destination that is no commit ahead any more is chosen anew, and
an AT command whose index has passed is not carried out. [log 31, 32: DEDUCED] -/
def State.heldRedo (s : State) : State :=
  let n := s.nextCommit
  let gone := fun (w : HeldWrite) => w.dest < n || s.commitFrom (s.instantOf w.dest) ≠ w.dest
  let dead := (s.sup.held.filter (fun w => gone w && w.at_)).filterMap (fun w => w.tag)
  let s1 := s.supMod (fun u => { u with held := u.held.filter (fun w => !(gone w && w.at_)) })
  (dead.eraseDups.foldl (fun t g => t.finish g stTimeout) s1).retargetHeld gone

/-! ## The end of a split -/

/-- The result codes of SUP_SPLIT (R348). -/
def splitDone : Nat := 1
def splitTimer : Nat := 2
def splitImage : Nat := 3
def splitTest : Nat := 4
def splitState : Nat := 5
def splitSram : Nat := 6

/-- The registers at the end of a split. -/
def State.splitEnd (s : State) (p : SplitState) (r : Nat) : State :=
  let s1 := (s.setRegN Reg.SUP_SPLIT 0).setFld Reg.SUP_SPLIT F.SUP_SPLIT_ELAPSED ((s.gt - p.start) / tickMs)
  ((((s1.setFld Reg.SUP_SPLIT F.SUP_SPLIT_RESULT r).setFld Reg.SUP_STAT F.SUP_STAT_PHASE 0).setFld Reg.MBX_STAT F.MBX_STAT_SPLIT 0).supMod
    (fun u => { u with split := none })).supActed

/-- A split is aborted (R344): the candidate is discarded, and C1 rejoins by a resynchronisation at the next frame start. -/
def State.splitAbort (s : State) (p : SplitState) (r : Nat) : State :=
  let s1 := ((s.splitEnd p r).setSup 2).supMod (fun u => { u with rejoinDue := true })
  let s2 := { s1 with fw := { s1.fw with slots := s1.fw.slots.mod (1 - s1.fw.running) (fun f => { f with valid := false }) } }
  (s2.stick Stk.SPLIT_ABORT).finish p.tag (if r = splitTimer then stTimeout else stRange) (result := w32 r)

end Sys2Proof.Machine
end

