-- ==== Sys2Proof/Machine/Time.lean ====
section
/-!
DEFINITION. The events of grid time and the clocks (R49 to R78).
-/
namespace Sys2Proof.Machine

def State.timMod (s : State) (f : TimeState → TimeState) : State := { s with tim := f s.tim }

/-- A flag of CLK_STAT. -/
def State.clkStat (s : State) (f : Fld) : Bool := s.flag Reg.CLK_STAT f

/-! ## Reading and pacing -/

/-- GT_SNAP_READ (R50). -/
def execGtSnapRead (s : State) : Host.Outcome State Fault Refusal :=
  .next ((((s.setRegN Reg.GT_SNAP_LO s.gt).setRegN Reg.GT_SNAP_HI (s.gt / 2 ^ 32)).give (w32 s.gt)))

/-- HALF_EPOCH_POINT (R65, R85): trigger 0x02, while commits occur (R64). [log 43: DESIGN CHOICE] -/
def execHalfEpochPoint (s : State) : Host.Outcome State Fault Refusal :=
  .next (if !s.powered then s
    else
      let k := s.gt / s.tim.epLen
      let h := k * s.tim.epLen + s.tim.epLen / 2
      let t := if s.gt < h || (s.gt = h && s.tim.halfAt ≠ h + 1) then h else h + s.tim.epLen
      let u := (s.gtTo t).timMod (fun x => { x with halfAt := t + 1 })
      if u.qual = 5 then u else u.adcFire 2)

/-- PPS_OUT_PULSE (R60): PPS_OUT rises at a whole second. [log 43: DESIGN CHOICE] -/
def execPpsOutPulse (s : State) : Host.Outcome State Fault Refusal :=
  .next (if !s.powered || !s.flag Reg.GT_CTRL F.GT_CTRL_PPSOUT_EN || s.tim.ppsOut then s
    else
      let t := secondFrom (if s.tim.ppsRise = s.gt then s.gt + 1 else s.gt)
      (s.gtTo t).timMod (fun x => { x with ppsOut := true, ppsRise := t }))

/-- PPS_OUT_END (R60): it stays high for PPSOUT_W ms. -/
def execPpsOutEnd (s : State) : Host.Outcome State Fault Refusal :=
  .next (if !s.tim.ppsOut then s
    else (s.gtTo (s.tim.ppsRise + max 1 (s.fld Reg.GT_CTRL F.GT_CTRL_PPSOUT_W) * tickMs)).timMod (fun x => { x with ppsOut := false }))

/-! ## Discipline -/

/-- The offset of a PPS edge: GT less the nearest second (R57). [log 29: DEDUCED] -/
def State.ppsOffset (s : State) : Int :=
  let r := s.gt % tickSec
  if 2 * r < tickSec then (r : Int) else (r : Int) - tickSec

/-- PPS_IN_EDGE (R57): the window applies while QUAL is LOCKED; after three rejects in a row the next edge is accepted, through ACQUIRE. [log 28: DEDUCED] -/
def execPpsInEdge (s : State) : Host.Outcome State Fault Refusal :=
  .next (let o := s.ppsOffset
    if !s.powered || s.fld Reg.GT_CTRL F.GT_CTRL_SRC ≠ 2 then s
    else if s.qual = 2 && s.ppsWinNs < 2 * o.natAbs then
      if s.tim.rejects < 3 then ((s.bump Reg.GT_PPSREJ).stick Stk.PPS_REJECT).timMod (fun x => { x with rejects := x.rejects + 1 })
      else ((s.enterQual 1).timMod (fun x => { x with lockCount := 0 })).measure o
    else s.measure o)

/-- SOURCE_LOSS_TIMEOUT (R56, R58): no valid measurement for LOSSTO; a step that waits is cancelled. [log 27, 42: DEDUCED] -/
def execSourceLossTimeout (s : State) : Host.Outcome State Fault Refusal :=
  .next (if s.qual = 2 then
      ((s.gtTo (s.tim.lastMeas + s.lossTicks)).timMod (fun x => { x with lockCount := 0, stepPend := none })).enterQual 3
    else s)

/-- A write of GT_CTRL that changes SRC (R56, R61): a source is selected, or none after lock. [log 27, 38: DEDUCED] -/
def State.srcSet (s : State) : State :=
  let t := s.timMod (fun x => { x with lockCount := 0, rejects := 0 })
  let src := s.fld Reg.GT_CTRL F.GT_CTRL_SRC % 3
  if s.qual = 4 || s.qual = 5 then t
  else if src ≠ 0 then t.enterQual 1
  else if s.tim.tracked then t.enterQual 3
  else t

/-- The latest commit index at `t` (R28). -/
def State.indexAt (s : State) (t : Nat) : Nat :=
  let k := t / s.tim.epLen
  if s.halfOn && s.tim.epLen / 2 ≤ t % s.tim.epLen then 2 * k + 1 else 2 * k

/-- The counts that follow GT after a step or a change of EP_LEN (R59, R67): the commit index, the epochs done, the groups' boundaries. [log 31, 110: DEDUCED] -/
def State.timeAnew (s : State) (done : Bool) : State :=
  let c := s.indexAt s.gt
  { s with pan := { s.pan with cidx := c, cinst := s.instantOf c }, tim := { s.tim with anyEpoch := s.tim.anyEpoch && done, epDone := s.gt / s.tim.epLen, halfAt := 0 },
           pwm := { s.pwm with lgs := s.pwm.lgs.map (fun l => { l with anyBnd := false }) } }

/-- GT_STEP (R58, R59): at the next commit instant in STANDBY. Everything pending is discarded, Steward's held writes get new destinations, and
a record carries GT before and after. [log 30, 31: DEDUCED] -/
def execGtStep (s : State) : Host.Outcome State Fault Refusal :=
  .next (match s.tim.stepPend with
    | none => s
    | some o =>
      if s.dev != .standby || !s.commitsOn then s
      else
        let s1 := if s.pan.anyCommit && s.pan.cinst = s.gt then s else s.gtTo (s.instantOf s.nextCommit)
        let s2 := s1.recEnd 5 ((s1.gt - 1) / 5 * 5)
        let g : Nat := lowBits 64 ((s1.gt : Int) - o)
        let s3 : State := { s2 with gt := g, tim := { s2.tim with stepPend := none, lockCount := 0, lastMeas := g }, pan := { s2.pan with pend := [] } }
        let s4 := ((s3.timeAnew false).heldRedo).svDrop
        s4.logRec 0x02 (evCode 0xFF 0) (gtWords s1.gt ++ gtWords g))

/-- KEEPCAL_MEASURE (R62): every second while QUAL is LOCKED or HOLD_REF. `ticks` is what 32,768 cycles lasted. [log 33: DESIGN CHOICE] -/
def execKeepcalMeasure (ticks : Nat) (s : State) : Host.Outcome State Fault Refusal :=
  .next (if (s.qual = 2 || s.qual = 3) && s.clkStat F.CLK_STAT_XT32_OK then
      (s.timMod (fun x => { x with keepTicks := ticks })).setFld Reg.GT_STAT F.GT_STAT_KEEPCAL_OK 1
    else s)

/-- A pending write keeps the instant of its destination under a new EP_LEN, or is discarded (R67). [log 32: DEDUCED] -/
def remapPend (old new : State) (p : KMap (KMap PendWrite)) : KMap (KMap PendWrite) :=
  p.foldl (fun (m : KMap (KMap PendWrite)) e =>
    let t := old.instantOf e.1
    let c := new.commitFrom t
    if new.instantOf c = t then m.put c e.2 else m) []

/-- EP_LEN_TAKE_EFFECT (R67): at the next whole second. [log 32: DEDUCED] -/
def execEpLenTakeEffect (s : State) : Host.Outcome State Fault Refusal :=
  .next (match s.tim.epLenPend with
    | none => s
    | some n =>
      if !s.powered then s
      else
        let s1 := s.gtTo (secondFrom s.gt)
        let done := s1.tim.anyEpoch && s1.gt / s1.tim.epLen ≤ s1.tim.epDone
        let met := s1.pan.anyCommit && s1.pan.cinst = s1.gt
        let s2 := s1.timMod (fun x => { x with epLen := n, epLenPend := none })
        let s3 : State := { s2 with pan := { s2.pan with pend := remapPend s1 s2 s1.pan.pend } }
        let s4 := s3.timeAnew true
        let k := s1.gt / n
        let s5 : State := { s4 with pan := { s4.pan with cidx := if met then 2 * k else 2 * k - 1, cinst := if met then s1.gt else s1.gt - 1 },
                                    tim := { s4.tim with epDone := if done then k else k - 1 } }
        s5.heldRedo)

/-! ## Clock generation -/

/-- PLL_LOCK (R68, R74). [log 35: DEDUCED] -/
def execPllLock (net : Bool) (s : State) : Host.Outcome State Fault Refusal :=
  .next (if !s.powered then s
    else if net then (s.setFld Reg.CLK_STAT F.CLK_STAT_NETPLL_LOCK 1).timMod (fun x => { x with netLockSince := s.gt })
    else (s.setFld Reg.CLK_STAT F.CLK_STAT_SYSPLL_LOCK 1).timMod (fun x => { x with sysLockSince := s.gt }))

/-- SYSPLL_UNLOCK (R76): its islands change to their fallback oscillators; GT passes to HOLD_KEEP where the DLL is lost too. -/
def execSyspllUnlock (s : State) : Host.Outcome State Fault Refusal :=
  .next (if !s.powered || !s.clkStat F.CLK_STAT_SYSPLL_LOCK then s
    else
      let f := s.fld Reg.CLK_STAT F.CLK_STAT_ON_FALLBACK
      let s1 := (s.setFld Reg.CLK_STAT F.CLK_STAT_SYSPLL_LOCK 0).setFld Reg.CLK_STAT F.CLK_STAT_ON_FALLBACK (f ||| 15)
      let s2 := (s1.stick Stk.SYSPLL_UNLOCK).logRec 0x03 (evCode Stk.SYSPLL_UNLOCK.file 1) []
      if s2.qual = 4 then (s2.holdKeep).enterQual 5 else s2)

/-- NETPLL_UNLOCK (R76): P0 and P1 go down. -/
def execNetpllUnlock (s : State) : Host.Outcome State Fault Refusal :=
  .next (if !s.powered || !s.clkStat F.CLK_STAT_NETPLL_LOCK then s
    else
      let f := s.fld Reg.CLK_STAT F.CLK_STAT_ON_FALLBACK
      let s1 := (s.setFld Reg.CLK_STAT F.CLK_STAT_NETPLL_LOCK 0).setFld Reg.CLK_STAT F.CLK_STAT_ON_FALLBACK (f ||| 16)
      let s2 := (s1.stick Stk.NETPLL_UNLOCK).logRec 0x03 (evCode Stk.NETPLL_UNLOCK.file 2) []
      (s2.linkLoss 0).linkLoss 1)

/-- FALLBACK_RETURN (R74): at the first epoch boundary after the PLL has been locked for 1 ms. [log 43: DESIGN CHOICE] -/
def execFallbackReturn (net : Bool) (s : State) : Host.Outcome State Fault Refusal :=
  .next (let m := if net then 16 else 15
    let f := s.fld Reg.CLK_STAT F.CLK_STAT_ON_FALLBACK
    if !s.powered || !s.clkStat (if net then F.CLK_STAT_NETPLL_LOCK else F.CLK_STAT_SYSPLL_LOCK) || f &&& m = 0 then s
    else
      (s.gtTo (s.epochFrom ((if net then s.tim.netLockSince else s.tim.sysLockSince) + tickMs))).setFld Reg.CLK_STAT F.CLK_STAT_ON_FALLBACK (f &&& (31 - m)))

/-- An island's count over 4,096 ticks lies in its range (R75): 0 to 4 the DLL family, 5 to 7 the Kettle clusters, 8 the supervisor, 9 the network. [log 40: DEDUCED] -/
def State.inRange (s : State) (i n : Nat) : Bool :=
  if i < 5 then s.clkStat F.CLK_STAT_DLL_LOCK || s.tim.relockCmd
  else
    150 * 8192 ≤ n * 1000 &&
      (if i < 8 then n * 100000 * max 1 (s.fld (Reg.CLK_KCLDIV (i - 5)) F.CLK_KCLDIV_DIV) ≤ 101 * 4000 * 8192
       else if i = 8 then n * 1000 ≤ 1010 * 8192 else n * 10000 ≤ 3156 * 8192)

/-- FREQ_MONITOR_WINDOW (R75, R42): two consecutive windows outside the range are a breach. [log 17: DESIGN CHOICE; 40: DEDUCED] -/
def execFreqMonitorWindow (island : Fin 10) (count : Nat) (s : State) : Host.Outcome State Fault Refusal :=
  .next (if !s.powered || (5 ≤ island.val && island.val < 8 && s.engines ≤ 4 * (island.val - 5)) then s
    else
      let n := if s.inRange island count then 0 else min 2 (s.tim.outOfRange.at island + 1)
      let low := s.tim.below &&& (0x3FF - 2 ^ island.val)
      let t := s.timMod (fun x => { x with outOfRange := x.outOfRange.mod island (fun _ => n),
                                           below := if n = 2 && count * 1000 < 150 * 8192 then low + 2 ^ island.val else low })
      if n = 2 then t.breachOf 3 0 t.nextCommit else t)

/-! ## The DLL -/

/-- The tier after the DLL has locked (R61, R77, R457). [log 35, 37: DEDUCED] -/
def State.tierAfter (s : State) : Nat :=
  let src := s.fld Reg.GT_CTRL F.GT_CTRL_SRC % 3
  if s.tim.relockCmd then s.tim.qualBefore
  else if s.qual = 5 && s.tim.xtLostHeld then 0
  else if src ≠ 0 then 1
  else if s.tim.lossHold && (s.tim.qualBefore = 0 || s.tim.qualBefore = 3) then s.tim.qualBefore
  else if s.tim.lossHold && s.tim.qualBefore = 2 then 3
  else if s.qual = 0 then 0 else 1

/-- DLL_LOCK (R70, R71, R77): the coarse code is stored; GT moves back to the DLL tick, by at most one tick after HOLD_SYS and at most the
resolution of the keep-alive count after HOLD_KEEP. [log 6: DESIGN CHOICE; 36: DEDUCED] -/
def execDllLock (code : Nat) (correction : Int) (s : State) : Host.Outcome State Fault Refusal :=
  .next (if !s.powered || s.clkStat F.CLK_STAT_DLL_LOCK || !s.clkStat F.CLK_STAT_REF_OK then s
    else
      let m := s.fld Reg.CLK_CTRL F.CLK_CTRL_DLL_MODE
      let s1 := (s.setRegN (Reg.CLK_DLL_CSTORE m) (code % 64 + 2 ^ 31)).setFld Reg.CLK_STAT F.CLK_STAT_DLL_LOCK 1
      let r := if s.qual = 5 then 15259 else 1
      let c := if s.qual = 4 || s.qual = 5 then clampInt (-r) r correction else 0
      let g := lowBits 64 ((s.gt : Int) + c)
      let s2 : State := { s1 with gt := g, tim := { s1.tim with dllFull := false } }
      let s3 := s2.enterQual (s.tierAfter)
      let s4 := if s.tim.lossHold then (s3.gateThaw (s.gt - s.tim.lostAt)).logRec 0x02 (evCode 0xFF 3) [w32 (lowBits 32 c)] else s3
      s4.timMod (fun x => { x with relockCmd := false, lossHold := false, xtLostHeld := false }))

/-- The DLL clock is lost: the tier, the halt and the record of the row of R76. -/
def State.clockLost (s : State) (k : Stk) (e : Nat) : State :=
  let s1 := if s.tim.relockCmd then s.timMod (fun x => { x with lossHold := true }) else s
  let s2 := ((s1.stick k).logRec 0x03 (evCode k.file e) []).dllLoss
  let s3 := if s1.tim.relockCmd then s2.stick Stk.GT_HOLDOVER else s2
  if s3.qual = 5 then s3.holdKeep else s3

/-- REFCLK_LOST (R76, R78). -/
def execRefclkLost (s : State) : Host.Outcome State Fault Refusal :=
  .next (if !s.powered || !s.clkStat F.CLK_STAT_REF_OK then s
    else
      let s1 := s.setFld Reg.CLK_STAT F.CLK_STAT_REF_OK 0
      let e := if s.clkStat F.CLK_STAT_SYSPLL_LOCK then 3 else 4
      if s.clkStat F.CLK_STAT_DLL_LOCK || s.tim.relockCmd then s1.clockLost Stk.REF_LOST e
      else (s1.stick Stk.REF_LOST).logRec 0x03 (evCode Stk.REF_LOST.file e) [])

/-- DLL_UNLOCK (R71, R76): with REFCLK present. -/
def execDllUnlock (s : State) : Host.Outcome State Fault Refusal :=
  .next (if !s.powered || !s.clkStat F.CLK_STAT_DLL_LOCK then s else s.clockLost Stk.DLL_UNLOCK 3)

/-- REFCLK_RETURN (R77): 1 ms of edges in range. -/
def execRefclkReturn (s : State) : Host.Outcome State Fault Refusal := .next (if s.powered then s.setFld Reg.CLK_STAT F.CLK_STAT_REF_OK 1 else s)

/-- XT32_STOP (R63, R76). -/
def execXt32Stop (s : State) : Host.Outcome State Fault Refusal :=
  .next (if !s.clkStat F.CLK_STAT_XT32_OK then s
    else
      let s1 := (s.setFld Reg.CLK_STAT F.CLK_STAT_XT32_OK 0).setFld Reg.GT_STAT F.GT_STAT_KEEPCAL_OK 0
      let s2 := if s.qual = 5 then s1.holdKeep else s1
      (s2.stick Stk.XT32_LOST).logRec 0x03 (evCode Stk.XT32_LOST.file 5) [])

/-- XT32_RESTART (R76). -/
def execXt32Restart (s : State) : Host.Outcome State Fault Refusal := .next (if s.pwr.keepOff then s else s.setFld Reg.CLK_STAT F.CLK_STAT_XT32_OK 1)

/-- DLL_FULL (R70): a full search at the next lock. -/
def execDllFull (s : State) : Host.Outcome State Fault Refusal := .next (if s.powered then s.timMod (fun x => { x with dllFull := true }) else s)

/-- A change of DLL_MODE in STANDBY (R71): a commanded relock under HOLD_SYS, with its record. -/
def State.modeSet (s : State) : State :=
  if !s.clkStat F.CLK_STAT_DLL_LOCK then s
  else
    let s1 := (s.timMod (fun x => { x with relockCmd := true, relockSince := s.gt, qualBefore := s.qual, lossHold := false })).setFld
      Reg.CLK_STAT F.CLK_STAT_DLL_LOCK 0
    ((s1.adcHalt).enterQual 4).logRec 0x03 (evCode 0xFF 0) []

/-- The bound of a relock (R70): from a stored code with a full search behind it, or a full search alone. [log 39: DEDUCED] -/
def State.relockBound (s : State) : Nat :=
  if s.tim.dllFull || !s.flag (Reg.CLK_DLL_CSTORE (s.fld Reg.CLK_CTRL F.CLK_CTRL_DLL_MODE)) F.CLK_DLL_CSTORE_VALID then 20000 else 22000

/-- DLL_RELOCK_TIMEOUT (R71): from here on the rules of a DLL unlock with REFCLK present. [log 39: DEDUCED] -/
def execDllRelockTimeout (s : State) : Host.Outcome State Fault Refusal :=
  .next (if !s.tim.relockCmd then s else (s.gtTo (s.tim.relockSince + s.relockBound)).clockLost Stk.DLL_UNLOCK 3)

/-! ## Dividers -/

/-- CLK_PDIV_UPD_GO (R73). -/
def execClkPdivUpdGo (s : State) : Host.Outcome State Fault Refusal :=
  .next (if !s.powered || s.flag Reg.CLK_PDIV_UPD F.CLK_PDIV_UPD_GO then s
    else (s.setFld Reg.CLK_PDIV_UPD F.CLK_PDIV_UPD_GO 1).timMod (fun x => { x with goAt := s.gt }))

/-- A divider in use takes its shadow value where that is a legal one. [log 41: DEDUCED] -/
def State.divLoad (s : State) (a : Nat) (div act : Fld) (ok : Nat → Bool) : State :=
  if ok (s.fld a div) then s.setFld a act (s.fld a div) else s

/-- PDIV_LOAD (R73, R90, R104): every shadow value is loaded in the first tick of the boundary; with its clock stopped the recorder ends. [log 41: DEDUCED] -/
def execPdivLoad (s : State) : Host.Outcome State Fault Refusal :=
  .next (if !s.powered || !s.flag Reg.CLK_PDIV_UPD F.CLK_PDIV_UPD_GO || s.qual = 5 then s
    else
      let s1 := s.gtTo (s.epochFrom (s.tim.goAt + 1))
      let s2 := s1.divLoad Reg.CLK_PDIV_ADC F.CLK_PDIV_ADC_DIV F.CLK_PDIV_ADC_ACT (fun n => 2 ≤ n && n ≤ 4)
      let s3 := s2.divLoad Reg.CLK_PDIV_SDF F.CLK_PDIV_SDF_DIV F.CLK_PDIV_SDF_ACT (fun n => 1 ≤ n && n ≤ 4)
      let s4 := s3.divLoad Reg.CLK_PDIV_REC F.CLK_PDIV_REC_DIV F.CLK_PDIV_REC_ACT (fun n => n = 0 || n = 5)
      let s5 := (List.range 8).foldl (fun t k => t.divLoad (Reg.SDF_CLKDIV k) F.SDF_CLKDIV_DIV F.SDF_CLKDIV_ACT (fun n => 20 ≤ n && n ≤ 100)) s4
      let on := (List.range 8).foldl (fun m k => if s.flag (Reg.SDF_CLKDIV k) F.SDF_CLKDIV_EN then m + 2 ^ k else m) 0
      let s5b : State := { s5 with ana := { s5.ana with sdcOn := on } }
      let s6 := (s5b.setFld Reg.CLK_PDIV_UPD F.CLK_PDIV_UPD_GO 0).adcReload
      if s6.fld Reg.CLK_PDIV_REC F.CLK_PDIV_REC_ACT = 0 && s.fld Reg.CLK_PDIV_REC F.CLK_PDIV_REC_ACT ≠ 0 then s6.recEnd 4 (s6.gt / 5 * 5) else s6)

end Sys2Proof.Machine
end

