-- ==== Sys2Proof/Machine/HostRegs.lean ====
section
/-!
DEFINITION. Register writes under the access codes of R12 and under each block's own rule of when a write takes effect (R7, R36, R66, R71,
R107 to R109, R133, R151, R170, R171, R271, R272, R299, R300, R350, R381, R401, R411, R488, R490).
-/
namespace Sys2Proof.Machine

/-- A register of an absent leg group, engine or binding (R7, R37). -/
def State.absentReg (s : State) (a : Nat) : Bool :=
  (0x30000 ≤ a && a < 0x32000 && s.groups ≤ (a - 0x30000) / 0x100) || (0x38000 ≤ a && a < 0x3A000 && s.groups ≤ (a - 0x38000) / 0x100) ||
    (0x41000 ≤ a && a < 0x41C00 && s.engines ≤ (a - 0x41000) / 0x100) || (0x44000 ≤ a && a < 0x50000 && s.engines ≤ (a - 0x44000) / 0x1000) ||
    (0x11100 ≤ a && a < 0x11500 && 8 + s.engines ≤ (a - 0x11100) / 8 && (a - 0x11100) / 8 < 20) ||
    (a == Reg.KET_SPARECFG && s.variant != .egx192)

/-- The register's RW fields take effect only when written in STANDBY. [log 218: DEDUCED] -/
def standbyReg (a : Nat) : Bool :=
  let o := a % 0x1000
  let r := a % 0x100
  match a / 0x1000 with
  | 0x11 => true
  | 0x12 => a == Reg.EP_LEN
  | 0x13 => a == Reg.CLK_CTRL || (0x10 ≤ o && o < 0x20) || a == Reg.CLK_HRVCFG || a == Reg.CLK_HRVTHR || a == Reg.CLK_HRVTHR2 || a == Reg.CLK_WAKEEN
  | 0x16 => (o < 0x400 && o % 16 == 0) || a == Reg.CMP_WIN || a == Reg.CMP_WAKE
  | 0x19 => a == Reg.NET_CTRL || a == Reg.NET_PTPCFG
  | 0x24 => o < 0x400 && (r < 0x14 || r == 0x38)
  | 0x30 | 0x31 => r < 0x24
  | 0x32 => true
  | 0x38 | 0x39 => r < 0xC || (0x40 ≤ r && (r % 16 == 4 || r % 16 == 8))
  | 0x3C => true
  | 0x40 => true
  | 0x41 => r == 0 || r == 0xC || r == 0x28
  | _ => false

/-- A write takes effect at the next epoch boundary. -/
def epochReg (a : Nat) : Bool :=
  let o := a % 0x1000
  let r := a % 0x100
  match a / 0x1000 with
  | 0x14 => 0x14010 ≤ a
  | 0x15 => 0x15100 ≤ a && a < 0x15400
  | 0x16 => (o < 0x400 && (o % 16 == 4 || o % 16 == 8)) || 0x500 ≤ o
  | 0x20 | 0x21 => a % 0x400 < 0xC || 0x100 ≤ a % 0x400
  | 0x38 | 0x39 => r == 0xC || (0x40 ≤ r && r % 16 == 0)
  | _ => false

/-- CMP_BLK holds fields of both kinds: LEN waits, LG and EV take effect in STANDBY (R133). -/
def isBlk (a : Nat) : Bool := 0x16000 ≤ a && a < 0x16400 && a % 16 == 8

/-- The fields that a write changes at once: `rw` has the register's RW bits. [log 214, 218: DEDUCED] -/
def State.nowMask (s : State) (a rw : Nat) : Nat :=
  let st := s.dev == .standby
  if isBlk a then (if st then 0x031F0000 else 0)
  else if 0x20000 ≤ a && a < 0x22000 && a % 0x400 == 0x30 then (if st then rw else rw &&& 0xFFFEFFFF)
  else if 0x28034 ≤ a && a < 0x28800 then (if s.recState = 0 || s.recState = 4 then rw else 0)
  else if 0x11100 ≤ a && a < 0x111B0 then (if st && a % 8 == 4 then 0xFFFF0100 else 0)
  else if (0x3C000 ≤ a && a < 0x3C030) && s.safe.inForce then 0
  else if standbyReg a then (if st then rw else 0)
  else if epochReg a then 0
  else rw

/-- The fields that wait for the next epoch boundary. -/
def waitMask (a rw : Nat) : Nat := if isBlk a then 0x3FF else if epochReg a then rw else 0

/-- A word with the bits of a mask taken from `v`. -/
def merged (old v : Word) (mask : Nat) : Word := (old &&& ~~~ (BitVec.ofNat 32 mask)) ||| (v &&& BitVec.ofNat 32 mask)

/-! ## What a written setting brings with it -/

/-- The comparator's seeding starts anew (R124). -/
def State.cmpUnresolve (s : State) (n : Nat) : State :=
  (s.cmpMod n (fun c => { c with unres := true, unresSince := s.gt, seedSafe := false, held := false })).cmpRoute n

/-- A write of CMP_CFG (R124): EN from 0 to 1, or a change of INSEL, REFSEL, MODE or POL. -/
def State.cmpCfgSet (s old : State) (n : Nat) : State :=
  let d := s.regN (Reg.CMP_CFG n) ^^^ old.regN (Reg.CMP_CFG n)
  if (d &&& 0x001F7F0E) ≠ 0 || (d.testBit 0 && s.flag (Reg.CMP_CFG n) F.CMP_CFG_EN) then s.cmpUnresolve n else s.cmpRoute n

/-- A write of CMP_WIN (R117, R124): the comparators of a pair whose bit changed are seeded anew. -/
def State.cmpWinSet (s old : State) : State :=
  let d := s.regN Reg.CMP_WIN ^^^ old.regN Reg.CMP_WIN
  (bitsOf 32 d).foldl (fun t w =>
    let u := (t.cmpUnresolve (2 * w)).cmpUnresolve (2 * w + 1)
    if (u.reg Reg.CMP_WIN).getLsbD w then u else u.setFld (Reg.CMP_WINSTAT (w / 16)) ⟨2 * (w % 16), 2⟩ 0) s

/-- EP_LEN written in STANDBY (R66, R67): a valid value is pending from here on; the banks are checked against it (R151). [log 215, 218: DEDUCED] -/
def State.epLenSet (s : State) (v : Nat) : State :=
  if 1000 ≤ v && v ≤ 500000 && 500000000 % v = 0 then
    ((s.setRegN Reg.EP_LEN v).timMod (fun x => { x with epLenPend := if v = s.tim.epLen then none else some v })).recheckBanks
  else s

/-- A spare descriptor written directly (R38): VALID stays 0 where it refines no fixed descriptor of its owner or overlaps another spare one. -/
def State.descSet (s : State) (n : Nat) : State :=
  let req := fun i => ({ owner := s.fld (Reg.PAN_DESC_ATTR i) F.PAN_DESC_ATTR_OWNER, first := s.fld (Reg.PAN_DESC_RANGE i) F.PAN_DESC_RANGE_FIRST,
                         last := s.fld (Reg.PAN_DESC_RANGE i) F.PAN_DESC_RANGE_LAST } : SpareReq)
  let valid := fun i => s.flag (Reg.PAN_DESC_ATTR i) F.PAN_DESC_ATTR_VALID
  let clash := (List.range 106).any (fun i => 22 + i ≠ n && valid (22 + i) && (req (22 + i)).first ≤ (req n).last && (req n).first ≤ (req (22 + i)).last)
  (if 22 ≤ n && valid n && ((reqFixed (req n)).isNone || clash) then s.setFld (Reg.PAN_DESC_ATTR n) F.PAN_DESC_ATTR_VALID 0 else s).recheckBanks

/-- The power thresholds through a window (R488): clamped in the order VMAX, LWAKE, WAKE, OFF, in steps of 10 mV. -/
def State.hrvClamp (s : State) : State :=
  let vmax := clampNat 300 450 (s.fld Reg.CLK_HRVTHR2 F.CLK_HRVTHR2_VMAX)
  let lwake := clampNat 231 (vmax - 10) (s.fld Reg.CLK_HRVTHR2 F.CLK_HRVTHR2_LWAKE)
  let wake := clampNat 231 lwake (s.fld Reg.CLK_HRVTHR F.CLK_HRVTHR_WAKE)
  let off := clampNat 230 (wake - 1) (s.fld Reg.CLK_HRVTHR F.CLK_HRVTHR_OFF)
  (((s.setFld Reg.CLK_HRVTHR2 F.CLK_HRVTHR2_VMAX vmax).setFld Reg.CLK_HRVTHR2 F.CLK_HRVTHR2_LWAKE lwake).setFld Reg.CLK_HRVTHR
    F.CLK_HRVTHR_WAKE wake).setFld Reg.CLK_HRVTHR F.CLK_HRVTHR_OFF off

/-- What follows once a register has taken its new value; `old` is the state before. [log 213, 218: DEDUCED] -/
def State.regEffect (s old : State) (a : Nat) : State :=
  if s.reg a = old.reg a then s
  else if a = Reg.PAN_CTRL then s.recheckBanks
  else if 0x11100 ≤ a && a < 0x11500 then s.descSet ((a - 0x11100) / 8)
  else if a = Reg.GT_CTRL then
    (if s.fld a F.GT_CTRL_SRC % 3 = old.fld a F.GT_CTRL_SRC % 3 then s else s.srcSet)
  else if a = Reg.CLK_CTRL then s.modeSet
  else if Reg.CLK_KCLDIV 0 ≤ a && a ≤ Reg.CLK_KCLDIV 2 then
    (if [5, 6, 8, 10].contains (s.fld a F.CLK_KCLDIV_DIV) then s.recheckBanks else old)
  else if a = Reg.CLK_HRVTHR || a = Reg.CLK_HRVTHR2 then s.hrvClamp
  else if a = Reg.CMP_WIN then s.cmpWinSet old
  else if 0x16000 ≤ a && a < 0x16400 && a % 16 = 0 then s.cmpCfgSet old ((a - 0x16000) / 16)
  else if a = Reg.KET_SPARECFG then (s.ketSpareSet).recheckBanks
  else if a = Reg.NET_CTRL then s.netCtrlSet
  else if 0x24000 ≤ a && a < 0x24400 && a % 0x100 = 0 then
    (if (s.reg a).getLsbD 0 != (old.reg a).getLsbD 0 then s.mtrRestart ((a - 0x24000) / 0x100) ((s.reg a).getLsbD 0) else s)
  else if 0x30000 ≤ a && a < 0x32000 && a % 0x100 < 0xC then s.lgMod ((a - 0x30000) / 0x100) (fun l => { l with anyBnd := false })
  else s

/-- W1C bits: a 1 clears; the file's time of a bit that no instance holds any more is dropped (R490, R491). [log 217: DEDUCED] -/
def State.w1c (s : State) (a mask : Nat) (v : Word) : State :=
  let m := v.toNat &&& mask
  if m = 0 then s
  else if 0x44100 ≤ a && a < 0x50000 then s.ketClearSat ((a - 0x44000) / 0x1000) ((a % 0x1000 - 0x100) / 8)
  else
    let t := if a = Reg.NET_STK && m.testBit 4 then s.clearStkBits Reg.PAN_STK 32 else s
    (t.clearStkBits a m).tidyFgt

/-- A write of a register under the rules of its block (R12, R13). [log 215: DEDUCED] -/
def State.regWrite (s : State) (a : Nat) (v : Word) : State :=
  match regRow a with
  | none => s
  | some r =>
    if s.absentReg a || !(s.powered || (a < 0x1000 && (s.dev == .run || s.dev == .standby) && !s.pin.testEn)) then s
    else if r.sat then s.setReg a 0#32
    else
      let s1 := s.w1c a r.w1c v
      if a = Reg.EP_LEN then (if s1.dev == .standby then s1.epLenSet (v.toNat % 2 ^ 20) else s1)
      else
        let s2 := (s1.setReg a (merged (s1.reg a) v (s1.nowMask a r.rw))).regEffect s1 a
        let w := waitMask a r.rw
        if w = 0 then s2 else { s2 with deferred := s2.deferred.put a v }

/-! ## Writes that wait for the epoch boundary -/

/-- A channel's filter restarts (R104, R109). -/
def State.sdfRestart (s : State) (n : Nat) : State := s.sdfMod n (fun c => { c with outputs := 0, ocOutputs := 0 })

/-- A register takes a value that waited (R107 to R109, R133, R299). [log 215: DEDUCED] -/
def State.deferredWrite (s : State) (a : Nat) (v : Word) : State :=
  match regRow a with
  | none => s
  | some r =>
    let t := s.setReg a (merged (s.reg a) v (waitMask a r.rw))
    if 0x15100 ≤ a && a < 0x151C0 then
      (if ((t.regN a ^^^ s.regN a) &&& 0x71E) ≠ 0 then t.sdfRestart ((a - 0x15100) / 4) else t)
    else if 0x16000 ≤ a && a < 0x16400 && a % 16 = 4 && t.reg a ≠ s.reg a then
      t.cmpMod ((a - 0x16000) / 16) (fun c => { c with settleUntil := s.gt + 250 })
    else if 0x16500 ≤ a && a < 0x16600 then t.tripEval
    else t

/-- All writes that wait are carried out, in address order. -/
def State.deferredAll (s : State) : State := s.deferred.foldl (fun t e => t.deferredWrite e.1 e.2) { s with deferred := [] }

/-! ## Commands -/

/-- COUNTER_CLEAR (R13): any write to a SAT counter clears it. -/
def execCounterClear (a : Fin 1048576) (s : State) : Host.Outcome State Fault Refusal :=
  .next (match regRow a.val with
    | some r => if r.sat && !s.absentReg a && s.powered then s.setReg a 0#32 else s
    | none => s)

/-- PAN_CTRL_CLEAR (R36): CLEAR acts at the next commit instant, in STANDBY only. [log 21: DEDUCED] -/
def execPanCtrlClear (s : State) : Host.Outcome State Fault Refusal :=
  .next (if s.dev == .standby then { s with pan := { s.pan with clearNext := true } } else s)

/-- The register behind an address of the sticky file's views (R490). -/
def fileView (a : Nat) : Nat :=
  if 0x10100 ≤ a && a < 0x10120 then Reg.ADC_STK ((a - 0x10100) / 4)
  else if 0x10120 ≤ a && a < 0x10150 then Reg.KET_BSTK ((a - 0x10120) / 4)
  else if 0x10180 ≤ a && a < 0x10200 then Reg.PWM_STK ((a - 0x10180) / 4)
  else if 0x10200 ≤ a && a < 0x10280 then Reg.GL_STK ((a - 0x10200) / 4)
  else if 0x10280 ≤ a && a < 0x10290 then Reg.MTR_STK ((a - 0x10280) / 4)
  else a

/-- A write of a sticky register, of a summary word or of a view of the file (R490): a summary bit clears in every instance. -/
def State.stickyClear (s : State) (a : Nat) (v : Word) : State :=
  if a < 0x10010 then (if 0x10000 ≤ a && a % 4 = 0 then s.clearSum ((a - 0x10000) / 4) v else s)
  else
    match regRow (fileView a) with
    | some r => if s.absentReg (fileView a) then s else s.w1c (fileView a) r.w1c v
    | none => s

/-- STICKY_CLEAR (R490, R13): `sets` are the sticky bits, by their bit of the register, that the hardware sets in the same cycle; they stay 1. [log 5: DESIGN CHOICE] -/
def execStickyClear (a : Fin 1048576) (val : Word) (sets : Word) (s : State) : Host.Outcome State Fault Refusal :=
  .next (if s.powered then s.stickyClear a (val &&& ~~~ sets) else s)

/-- STK_FGT_READ (R491): the low word, with the high word captured. -/
def execStkFgtRead (n : Fin 128) (s : State) : Host.Outcome State Fault Refusal :=
  .next (let t := if s.fileBit n then (s.log.fgt.find (if n.val = 88 then 5 else n.val)).getD 0 else 0
    (s.logMod (fun l => { l with fgtHi := l.fgtHi.put zeroes n.val (w32 (t / 2 ^ 32)) })).give (w32 t))

/-- Pinned records not later than SEQ are released (R501). -/
def State.pinRelease (s : State) (q : Nat) : State :=
  let free := (s.log.mram.filter (fun e => e.1 < 1024 && !seqLater q e.2.seq && !s.log.released.contains e.1)).map (fun e => e.1)
  let seqs := (s.log.mram.filter (fun e => free.contains e.1)).map (fun e => e.2)
  let t := s.logMod (fun l => { l with released := l.released ++ free })
  (t.enqueue (chainFrom s.gt s.qual 0x12 2 false 8 0 [w32 (oldestSeq seqs), w32 (newestSeq seqs)]) false).overflowStk s.log.dropped

end Sys2Proof.Machine
end

