-- ==== Sys2Proof/Machine/KetEvents.lean ====
section
/-!
DEFINITION. The events of the bindings and of the rotating spare (R152 to R168, R171, R189).
-/
namespace Sys2Proof.Machine

/-- KETTLE_COMPLETION (R152): the last store has been accepted; the cycles of the epoch are shown, and the data memory is what a dump reads. [log 74: DEDUCED] -/
def execKettleCompletion (b : Fin 12) (s : State) : Host.Outcome State Fault Refusal :=
  .next (let x := s.bd b
    if x.run.active && x.run.ended then
      let s1 := (s.setFld (Reg.KET_CYC b) F.KET_CYC_CYC x.run.cyc).setFld (Reg.KET_CYCMAX b) F.KET_CYCMAX_CYC
        (max (s.fld (Reg.KET_CYCMAX b) F.KET_CYCMAX_CYC) (x.run.cyc % 2 ^ 20))
      (s1.ketMod b (fun y => { y.modRun (fun r => { r with active := false }) with dump := x.data, dumpIdx := 2 * x.run.epoch })).leaveCheck
    else s)

/-- The fabric runs on its fallback oscillator: every island of SYSPLL does (R74, R76). [log 68: DEDUCED] -/
def State.fabricSlow (s : State) : Bool := s.fld Reg.CLK_STAT F.CLK_STAT_ON_FALLBACK % 16 == 15

/-- SECTION_DRAIN_END (R189): the drain costs 16 cycles, and waits besides while the fabric is on its fallback oscillator. [log 68: DEDUCED] -/
def execSectionDrainEnd (b : Fin 12) (waits : Nat) (s : State) : Host.Outcome State Fault Refusal :=
  .next (let x := s.bd b
    if x.run.active && x.run.drain && !x.run.ended then
      s.ketMod b (fun y => (y.modRun (fun r => { r with due := r.due.tail, drain := false, cyc := r.cyc + 16 + (if s.fabricSlow then waits else 0) })).beginSec)
    else s)

/-- The dwell of R155 and R156, in epochs. -/
def State.fbDwell (s : State) (b : Nat) : Nat := max 1 (s.fld (Reg.KET_OVRCFG b) F.KET_OVRCFG_FB_DWELL)

/-- ESCALATION_RESET (R155). -/
def execEscalationReset (b : Fin 12) (s : State) : Host.Outcome State Fault Refusal :=
  .next (if s.openEpoch.isSome && s.fbDwell b ≤ (s.bd b).good && (s.bd b).mode != .stopped then
      (s.ketMod b (fun x => { x with esc := 0 })).ketRefresh b
    else s)

/-- FALLBACK_AUTO_RETURN (R156). [log 69: DEDUCED] -/
def execFallbackAutoReturn (b : Fin 12) (s : State) : Host.Outcome State Fault Refusal :=
  .next (if s.openEpoch.isSome && s.dev == .run && (s.bd b).mode == .fallback && s.flag (Reg.KET_BCTRL b) F.KET_BCTRL_AUTO_RET &&
        s.fbDwell b ≤ (s.bd b).fbGood && (s.bd b).fbAt.isNone then
      (s.ketMod b (fun x => { x with mode := .main })).ketRefresh b
    else s)

/-- ENGINE_MODE_AT_EPOCH (R156). [log 70: DEDUCED] -/
def execEngineModeAtEpoch (b : Fin 12) (s : State) : Host.Outcome State Fault Refusal :=
  .next (match (s.bd b).modeCmd, s.openEpoch with
    | some m, some k =>
      if m.epoch = k then
        let s1 := (s.ketFbDue b k).ketMod b (fun x => { x with modeCmd := none })
        if (s1.bd b).mode == .stopped || s1.dev != .run then (s1.ketRefresh b).finish m.tag stBusy (cidx := k)
        else
          let s2 := if m.resume then (if (s1.bd b).mode == .fallback then s1.ketMod b (fun x => { x with mode := .main }) else s1)
            else s1.ketFallback b
          (s2.ketRefresh b).finish m.tag stOk (cidx := k)
      else s
    | _, _ => s)

/-- SWAP_REQUEST (R163, R171): a write of KET_SWAPEP_HI. While a request is pending it is ignored; a request that arrives after the tick
before its boundary is cancelled. [log 71: DEDUCED] -/
def execSwapRequest (b : Fin 12) (val : Word) (s : State) : Host.Outcome State Fault Refusal :=
  .next (if (s.bd b).swap.isSome || s.engines ≤ b.val then s
    else
      let s1 := s.setFld (Reg.KET_SWAPEP_HI b) F.KET_SWAPEP_HI_EP (val.toNat % 65536)
      let e := s1.regN (Reg.KET_SWAPEP_LO b) + 2 ^ 32 * (val.toNat % 65536)
      if !val.getLsbD 31 || s1.swapStatus b ≠ stOk then s1
      else if e * s1.tim.epLen ≤ s1.gt then s1.stick (Stk.KET_SWAP_CANCEL b)
      else s1.ketMod b (fun x => { x with swap := some { epoch := e } }))

/-- SWAP_AT_EPOCH (R161 to R163): at the boundary of its epoch; a boundary that has gone by cancels it. [log 4: DESIGN CHOICE; 70, 71: DEDUCED] -/
def execSwapAtEpoch (b : Fin 12) (s : State) : Host.Outcome State Fault Refusal :=
  .next (match (s.bd b).swap with
    | none => s
    | some q =>
      if s.openEpoch = some q.epoch then (s.ketFbDue b q.epoch).swapDo b q
      else if q.epoch < s.epochNow || (q.epoch = s.epochNow && s.tim.anyEpoch && q.epoch ≤ s.tim.epDone) then s.swapCancel b q stTimeout
      else s)

/-- KET_CYCMAX_READ (R171). -/
def execKetCycmaxRead (b : Fin 12) (s : State) : Host.Outcome State Fault Refusal :=
  .next ((s.give (s.reg (Reg.KET_CYCMAX b))).setReg (Reg.KET_CYCMAX b) 0#32)

/-! ## The rotating spare -/

/-- Engine `p` may be the donor now (R165). -/
def State.donorOk (s : State) (p : Nat) : Bool :=
  !s.ket.retired.testBit p && s.ket.spare != some p &&
    !(s.dev == .run && (match s.bindOn p with | some b => (s.bd b).mode == .fallback || (s.bd b).mode == .stopped | none => false))

/-- The donor of a rotation: the next engine above the spare (R165). [log 76: DEDUCED] -/
def State.nextDonor (s : State) (p : Nat) : Option Nat := ((List.range 11).map (fun i => (p + 1 + i) % 12)).find? s.donorOk

/-- The rotation interval in ticks (R170). -/
def State.rotTicks (s : State) : Nat := clampNat 1 3600 (s.fld Reg.KET_SPARECFG F.KET_SPARECFG_ROT_INT) * tickSec

/-- ROTATION_START (R165). [log 76: DEDUCED] -/
def execRotationStart (s : State) : Host.Outcome State Fault Refusal :=
  .next (match s.ket.spare with
    | some p =>
      if s.ket.rot == .idle && s.flag Reg.KET_SPARECFG F.KET_SPARECFG_EN && (s.dev == .run || s.dev == .standby) then
        let s1 := s.gtTo (s.ket.rotAt + s.rotTicks)
        { s1 with ket := { s1.ket with rotAt := s1.gt, donor := s1.nextDonor p, shadowed := 0,
                                       rot := if (s1.nextDonor p).isSome then .copy else .idle } }
      else s
    | none => s)

/-- The donor passes through the copy and the BIST only (R165): in STANDBY, or without a binding in use. [log 77: DEDUCED] -/
def State.donorIdle (s : State) (p : Nat) : Bool :=
  s.dev != .run || (match s.bindOn p with | some b => !s.ketEnabled b | none => true)

/-- The spare takes the binding of the donor, and the donor goes to BIST (R166). -/
def State.rotMove (s : State) (sp dn : Nat) : State :=
  { s with ket := { s.ket with rot := .bist, testing := some dn, spare := none, mismatched := false,
                               phys := s.ket.phys.map (fun p => if p = some dn then some sp else p) } }

/-- COPY_COMPLETE (R166). [log 77: DEDUCED] -/
def execCopyComplete (s : State) : Host.Outcome State Fault Refusal :=
  .next (match s.ket.rot, s.ket.spare, s.ket.donor with
    | .copy, some sp, some dn =>
      if s.donorIdle dn then s.rotMove sp dn else { s with ket := { s.ket with rot := .shadow, shadowed := 0 } }
    | _, _, _ => s)

/-- HANDOVER (R166, R167): `agree` says that the shadowed epochs and both CRCs agree. A mismatch aborts at once; the handover happens at a
boundary after 16 matching epochs. [log 4: DESIGN CHOICE; 78: DEDUCED] -/
def execHandover (agree : Bool) (s : State) : Host.Outcome State Fault Refusal :=
  .next (match s.ket.rot, s.ket.spare, s.ket.donor with
    | .shadow, some sp, some dn =>
      if !agree then
        ({ s with ket := { s.ket with rot := .bist, testing := some sp, spare := none, mismatched := true } }).stick Stk.KET_SPARE_MISMATCH
      else if s.openEpoch.isSome && 16 ≤ s.ket.shadowed then
        let t := (s.rotMove sp dn).bump Reg.KET_ROTCNT
        match s.bindOn dn with
        | some b => t.ketRefresh b
        | none => t
      else s
    | _, _, _ => s)

/-- BIST_COMPLETE (R166, R167). [log 78, 79: DEDUCED] -/
def execBistComplete (pass : Bool) (s : State) : Host.Outcome State Fault Refusal :=
  .next (match s.ket.rot, s.ket.testing with
    | .bist, some p =>
      let idle := { s with ket := { s.ket with rot := .idle, testing := none, donor := none, mismatched := false } }
      if pass then
        let s1 := ({ idle with ket := { idle.ket with spare := some p } }).bump Reg.KET_BISTCNT
        if !s.ket.mismatched then { s1 with ket := { s1.ket with suspect := none } }
        else if s.ket.suspect.isSome && s.ket.suspect = s.ket.donor then
          (s1.stick Stk.KET_DONOR_SUSPECT).logRec 0x0F (evCode Stk.KET_DONOR_SUSPECT.file 5) [w32 (engCode s.ket.donor)]
        else { s1 with ket := { s1.ket with suspect := s.ket.donor } }
      else
        (({ idle with ket := { idle.ket with retired := idle.ket.retired ||| 2 ^ p } }).stick Stk.KET_BIST_FAIL).stick Stk.KET_SPARE_LOST
    | _, _ => s)

end Sys2Proof.Machine
end

