-- ==== Sys2Proof/Machine/Bus.lean ====
section
/-!
DEFINITION. The address spaces of the host (R422 to R425): which block an address belongs to, what a read of it returns, and what a write of
it does once it has reached its block.
-/
namespace Sys2Proof.Machine

/-- The state an outcome goes on with; a stop changes nothing. -/
def nextOf (s : State) (o : Host.Outcome State Fault Refusal) : State :=
  match o with
  | .next t => t
  | _ => s

/-- The block of a BAR0 address, by its bit of R423. -/
def blockOf (a : Nat) : Option Nat :=
  match a / 0x1000 with
  | 0x10 => some 0 | 0x11 => some 1 | 0x12 => some 2 | 0x13 => some 3 | 0x14 => some 4 | 0x15 => some 5 | 0x16 => some 6 | 0x17 => some 7
  | 0x18 => some 8 | 0x19 => some 9 | 0x20 => some 10 | 0x21 => some 10 | 0x24 => some 11 | 0x25 => some 11 | 0x28 => some 12
  | 0x30 => some 13 | 0x31 => some 13 | 0x32 => some 13 | 0x33 => some 13
  | n => if 0x38 ≤ n && n < 0x40 then some 14 else if 0x40 ≤ n && n < 0x50 then some 15 else none

/-- The address of the register at an offset of a block (R423, R439). -/
def blockBase (b : Nat) : Nat :=
  [0x10000, 0x11000, 0x12000, 0x13000, 0x14000, 0x15000, 0x16000, 0x17000, 0x18000, 0x19000, 0x20000, 0x24000, 0x28000, 0x30000, 0x38000, 0x40000].getD b 0
def blockSize (b : Nat) : Nat :=
  if b = 10 || b = 11 then 0x2000 else if b = 13 then 0x4000 else if b = 14 then 0x8000 else if b = 15 then 0x10000 else 0x1000

/-! ## BAR2 -/

/-- The transfer buffer, and recorder memory, in the space of R422. -/
def isBuf (a : Nat) : Bool := 0x3000000 ≤ a && a < 0x3080000
def isRecMem (a : Nat) : Bool := 0x2000000 ≤ a && a < 0x3000000

/-- A word of the transfer buffer, by its byte offset. -/
def State.bufWord (s : State) (o : Nat) : Word := s.mbx.buf.get zeroes (o / 4)
def State.bufPut (s : State) (o : Nat) (v : Word) : State := { s with mbx := { s.mbx with buf := s.mbx.buf.put zeroes (o / 4) v } }

/-- Bytes of the transfer buffer. -/
def State.bufBytes (s : State) (o n : Nat) : List Byte :=
  (List.range n).map (fun i => BitVec.ofNat 8 ((s.bufWord (o + i)).toNat / 256 ^ ((o + i) % 4)))
def State.bufPutByte (s : State) (o : Nat) (b : Byte) : State :=
  s.bufPut o (w32 (putFld (s.bufWord o).toNat ⟨8 * (o % 4), 8⟩ b.toNat))
def State.bufPutBytes (s : State) (o : Nat) (bs : List Byte) : State := (bs.zipIdx).foldl (fun t e => t.bufPutByte (o + e.2) e.1) s

/-- A word of recorder memory (R417, R423): 0 in ARMED and POST. -/
def State.recMem (s : State) (a : Nat) : Word :=
  let o := a - 0x2000000
  let d := (s.bank (o / 0x100000)).mem.get zeroes (o % 0x100000 / 8)
  if s.recState = 2 || s.recState = 3 then 0#32 else if o % 8 < 4 then d.setWidth 32 else (d >>> 32).setWidth 32

/-! ## Reads -/

/-- The registers of the engines (R172). -/
def State.readEngine (s : State) (a : Nat) : Word :=
  let p := (a - 0x44000) / 0x1000
  let o := a % 0x1000
  if s.engines ≤ p then 0#32
  else if o = 0 then s.ketPc p
  else if o = 4 then s.ketPstat p
  else if 0x100 ≤ o && o < 0x300 then (if o % 8 < 4 then s.ketStageReg p ((o - 0x100) / 8) else s.ketExpReg p ((o - 0x100) / 8))
  else if 0x400 ≤ o && o < 0x600 then s.ketDescReg p ((o - 0x400) / 16) (o % 16 / 4)
  else 0#32

/-- The registers of a binding that show its state (R171). -/
def State.readBinding (s : State) (a : Nat) : Word :=
  let b := (a - 0x41000) / 0x100
  let o := a % 0x100
  if s.engines ≤ b then 0#32
  else if o = 0 then w32 (putFld (s.regN a) F.KET_BCTRL_PHYS (engCode (s.ket.phys.at b)))
  else if o = 4 then s.ketBstat b
  else if o = 0x34 then w32 (s.regN a % 2 ^ 16 + 2 ^ 31 * bit (s.bd b).swap.isSome)
  else if o = 0x38 then w32 (s.bd b).fired
  else s.reg a

/-- PWM_LGSTAT (R272). -/
def State.readLgstat (s : State) (g : Nat) : Word :=
  let l := s.pwm.lgs.at g
  let m := (List.range 6).foldl (fun x c => x + bit ((s.pwm.chs.at (6 * g + c)).carry ≠ 0) * 2 ^ c) 0
  w32 (s.lgState g + 4 * bit l.staleOff + 8 * bit (((s.lgWords g).getD 0 0#32).toNat.testBit 3) + 2 ^ 8 * m)

/-- The registers that show state held elsewhere. -/
def State.readView (s : State) (a : Nat) : Word :=
  if a = Reg.PAN_CIDX_LO then w32 s.pan.cidx
  else if a = Reg.PAN_CIDX_HI then w32 (s.pan.cidx / 2 ^ 32)
  else if a = Reg.PAN_DETSTAT then w32 (bit s.detOk)
  else if a = Reg.EP_NUM_LO then w32 (s.epochNow % 2 ^ 48)
  else if a = Reg.EP_NUM_HI then w32 (s.epochNow % 2 ^ 48 / 2 ^ 32)
  else if a = Reg.KET_ROTSTAT then
    w32 (engCode s.ket.spare + 16 * engCode s.ket.donor + 256 * rotCode s.ket.rot + 2 ^ 16 * s.ket.retired)
  else if a = Reg.SUP_STAT then s.supStatView
  else if a = Reg.SUP_SPLIT then s.supSplitView
  else if a = Reg.MBX_ID then w32 (s.channels + 2 ^ 16 * 0xB0 + 2 ^ 24 * bit s.mbx.qspi)
  else if a = Reg.MBX_STAT then w32 (putFld (s.regN a) F.MBX_STAT_DEVSTATE (if s.fw.service then 1 else devCode s.dev))
  else if a = Reg.MBX_EXPLEFT then
    (if s.flag Reg.MBX_EXPSESS F.MBX_EXPSESS_OPEN then w32 ((s.mbx.sesEnd - s.gt + tickSec - 1) / tickSec) else 0#32)
  else if a = Reg.LOG_STAT then s.logStat
  else if a = Reg.LOG_NEWEST then w32 s.logNewest
  else if a = Reg.LOG_OLDEST then w32 s.logOldest
  else if a = Reg.LOG_PINOLD then w32 s.logPinOld
  else if 0x10000 ≤ a && a < 0x10010 then s.stkSum ((a - 0x10000) / 4)
  else if 0x10400 ≤ a && a < 0x10800 then
    (let n := (a - 0x10400) / 8
     if !s.fileBit n then 0#32
     else if a % 8 = 0 then w32 ((s.log.fgt.find (if n = 88 then 5 else n)).getD 0)
     else s.log.fgtHi.get zeroes n)
  else if 0x30000 ≤ a && a < 0x32000 && a % 0x100 = 0xA0 then s.readLgstat ((a - 0x30000) / 0x100)
  else if 0x41000 ≤ a && a < 0x41C00 then s.readBinding a
  else if 0x44000 ≤ a && a < 0x50000 then s.readEngine a
  else
    match regRow (fileView a) with
    | some r => (s.reg (fileView a)) &&& ~~~ (BitVec.ofNat 32 r.wo)
    | none => if (0x4000 ≤ a && a < 0xA000) then s.reg a else 0#32

/-- What a read of a register does besides (R13, R50, R392, R431, R491). -/
def State.readEffect (s : State) (a : Nat) : State :=
  if a = Reg.GT_SNAP_LO then nextOf s (execGtSnapRead s)
  else if a = Reg.MBX_STK then { s with mbx := { s.mbx with evPend := false } }
  else if 0x10400 ≤ a && a < 0x10800 && a % 8 = 0 then
    nextOf s (execStkFgtRead ⟨(a - 0x10400) / 8 % 128, Nat.mod_lt _ (by decide)⟩ s)
  else if 0x240A0 ≤ a && a < 0x24400 && 0xA0 ≤ a % 0x100 && a % 0x100 < 0xD8 && a % 8 = 0 then
    nextOf s (execMtrERead ⟨(a - 0x24000) / 0x100 % 4, Nat.mod_lt _ (by decide)⟩ ⟨(a % 0x100 - 0xA0) / 8 % 7, Nat.mod_lt _ (by decide)⟩ s)
  else if 0x41000 ≤ a && a < 0x41C00 && a % 0x100 = 0x1C then s.setReg a 0#32
  else s

/-- A session grants reads, or writes, of a block (R424, R440). -/
def State.grants (s : State) (b : Nat) (write : Bool) : Bool :=
  s.flag Reg.MBX_EXPSESS F.MBX_EXPSESS_OPEN && (s.reg Reg.MBX_EXPSESS).getLsbD b && (!write || s.flag Reg.MBX_EXPSESS F.MBX_EXPSESS_WRITE)

/-- The address is readable: the mailbox, the rings and the transfer buffer always, the sticky file, SAFE and SUP always, the rest under a
session; recorder memory under a grant of REC (R424). -/
def State.readable (s : State) (a : Nat) : Bool :=
  if isRecMem a then s.grants 12 false
  else
    match blockOf a with
    | none => true
    | some b => b = 0 || b = 7 || b = 8 || s.grants b false

/-- The HOST domain is on (R46, R420). -/
def State.hostOn (s : State) : Bool := (s.dev == .run || s.dev == .standby) && !s.pin.testEn

/-- A read of a word by the host, and its value. [log 216: DEDUCED] -/
def State.busRead (s : State) (a : Nat) : State × Word :=
  if !s.hostOn || !s.readable a then (s, 0#32)
  else if isBuf a then (s, s.bufWord (a - 0x3000000))
  else if isRecMem a then (s, s.recMem a)
  else if 0x100000 ≤ a then (s, 0#32)
  else
    let t := s.readEffect a
    -- a low word that captures its high word is the value the capture gives
    let low := a = Reg.GT_SNAP_LO || (0x240A0 ≤ a && a < 0x24400 && 0xA0 ≤ a % 0x100 && a % 0x100 < 0xD8 && a % 8 = 0)
    (t, if low then t.out.value else s.readView a)

end Sys2Proof.Machine
end

