-- ==== Sys2Proof/Machine/BusWrite.lean ====
section
/-!
DEFINITION. Writes of the host (R422 to R426, R446): doorbells, the mailbox reset, the register window and its gate, the quad-SPI frames.
-/
namespace Sys2Proof.Machine

/-! ## The mailbox registers -/

/-- A write of MBX_SQTAIL (R426): entries are submitted, or the write is ignored. -/
def State.doorbell (s : State) (q : Nat) (v : Word) : State :=
  let tail := s.fld (Reg.MBX_SQTAIL q) F.MBX_SQTAIL_TAIL
  let held := (tail + 64 - s.fld (Reg.MBX_SQHEAD q) F.MBX_SQHEAD_HEAD) % 64
  if !s.hostOn || !s.flag Reg.MBX_STAT F.MBX_STAT_READY then s
  else if 64 ≤ v.toNat || 63 < (v.toNat + 64 - tail) % 64 + held then s.stick Stk.MBX_DOORBELL
  else s.setFld (Reg.MBX_SQTAIL q) F.MBX_SQTAIL_TAIL v.toNat

/-- SQ_DOORBELL (R426). -/
def execSqDoorbell (q : Fin 4) (val : Word) (s : State) : Host.Outcome State Fault Refusal := .next (s.doorbell q val)

/-- A write of MBX_CQHEAD (R425, R446): the host has consumed entries; completions that waited are written. -/
def State.cqHead (s : State) (q : Nat) (v : Word) : State :=
  if !s.hostOn then s else State.cqDrain q 64 (s.setFld (Reg.MBX_CQHEAD q) F.MBX_CQHEAD_HEAD v.toNat)

/-- CQ_HEAD_WRITE (R425, R426). -/
def execCqHeadWrite (q : Fin 4) (val : Word) (s : State) : Host.Outcome State Fault Refusal := .next (s.cqHead q val)

/-- The mailbox reset (R446): rings, pointers and phases start anew, what was fetched runs to its end unseen, the session closes. [log 185: DEDUCED] -/
def State.mboxReset (s : State) : State :=
  if !s.hostOn then s
  else
    let s1 := s.closeSession 2
    let keep := fun (a : Nat) => !((0x100 ≤ a && a < 0x150) || a == Reg.MBX_EXPREF || a == Reg.MBX_AUTHFAIL || a == Reg.MBX_IRQ || (0x4000 ≤ a && a < 0xA000))
    let s2 : State := { s1 with regs := s1.regs.filter (fun e => keep e.1),
                                mbx := { s1.mbx with cmds := s1.mbx.cmds.map (fun e => (e.1, { e.2 with dropped := true })),
                                                     wait := List.replicate 4 [], phases := List.replicate 4 true, lastQ := 3, evPend := false } }
    let s3 := (s2.setFld Reg.MBX_CTRL F.MBX_CTRL_MRESET 1).setFld Reg.MBX_STAT F.MBX_STAT_READY 0
    ((s3.stick Stk.HOST_RESET).logRec 0x15 (evCode Stk.HOST_RESET.file 0) []).mboxReady

/-- MAILBOX_RESET (R446). -/
def execMailboxReset (s : State) : Host.Outcome State Fault Refusal := .next s.mboxReset

/-- MBX_STK_READ (R431): the read clears the event that holds HIRQ_N low. -/
def execMbxStkRead (s : State) : Host.Outcome State Fault Refusal :=
  .next (if s.hostOn then (s.readEffect Reg.MBX_STK).give (s.reg Reg.MBX_STK) else s)

/-! ## Register writes by address -/

/-- A write of LOG_PINREL (R501). -/
def execLogPinrel (seq : Word) (s : State) : Host.Outcome State Fault Refusal :=
  .next (if s.hostOn && s.grants 0 true then s.pinRelease seq.toNat else s)

/-- The write of a block's register whose meaning is a row of its own, and of every other one (R12). [log 242: DESIGN CHOICE] -/
def State.blockWrite (s : State) (a : Nat) (v : Word) : State :=
  if 0x10000 ≤ a && a < 0x10F00 then s.stickyClear a v
  else if a = Reg.LOG_PINREL then s.pinRelease v.toNat
  else if a = Reg.PAN_CTRL then (if v.getLsbD 1 then nextOf s (execPanCtrlClear s) else s).regWrite a v
  else if a = Reg.CLK_PDIV_UPD then (if v.getLsbD 0 then nextOf s (execClkPdivUpdGo s) else s)
  else if a = Reg.CLK_CTRL then (if v.getLsbD 1 then nextOf s (execDllFull s) else s).regWrite a v
  else if a = Reg.ANA_SWTRIG then nextOf s (execAnaSwtrig v s)
  else if 0x20000 ≤ a && a < 0x22000 && a % 0x400 = 0x2C then
    (if v.getLsbD 0 then s.calQueue ((a - 0x20000) / 0x400) else s).regWrite a v
  else if a = Reg.GL_PRBCMD then (if v.getLsbD 0 then s.probeGo else s)
  else if a = Reg.REC_CTRL then
    (let s1 := if v.getLsbD 0 then s.recArm else s
     let s2 := if v.getLsbD 1 then s1.recSwTrig else s1
     if v.getLsbD 2 then s2.recEnd 3 (recTick s2.gt) else s2)
  else if 0x25080 ≤ a && a < 0x250C0 && a % 0x10 = 0 then s.mcntCfg ((a - 0x25080) / 0x10) v
  else if 0x30000 ≤ a && a < 0x32000 && s.absentReg a = false then
    (let g := (a - 0x30000) / 0x100
     if a % 0x100 = 0x60 then (if v.getLsbD 0 then nextOf s (execPwmHupdArm ⟨g % 32, Nat.mod_lt _ (by decide)⟩ s) else s)
     else if a % 0x100 = 0x20 then (if v.getLsbD 8 then s.tripClear g else s).regWrite a v
     else s.regWrite a v)
  else if 0x38000 ≤ a && a < 0x3A000 && a % 0x100 = 0x24 && s.absentReg a = false then
    (let g := (a - 0x38000) / 0x100
     let s1 := (List.range 6).foldl (fun t c => if v.getLsbD c then t.latchClear (6 * g + c) else t) s
     (List.range 3).foldl (fun t q => if v.getLsbD (8 + q) then t.shootClear g q else t) s1)
  else if 0x41000 ≤ a && a < 0x41C00 then
    (let b := (a - 0x41000) / 0x100
     if a % 0x100 = 0x34 then nextOf s (execSwapRequest ⟨b % 12, Nat.mod_lt _ (by decide)⟩ v s)
     else if a % 0x100 = 0x30 then (if (s.bd b).swap.isSome then s else s.regWrite a v)
     else s.regWrite a v)
  else s.regWrite a v

/-- A write by the host of what is always accessible: the mailbox registers, the rings and the transfer buffer (R424). [log 188, 216: DEDUCED; 242: DESIGN CHOICE] -/
def State.openWrite (s : State) (a : Nat) (v : Word) : State :=
  if isBuf a then s.bufPut (a - 0x3000000) v
  else if 0x4000 ≤ a && a < 0xA000 then s.setReg a v
  else if 0x100 ≤ a && a < 0x140 && a % 0x10 = 0 then s.doorbell ((a - 0x100) / 0x10) v
  else if 0x100 ≤ a && a < 0x140 && a % 0x10 = 8 then s.cqHead ((a - 0x100) / 0x10) v
  else if a = Reg.MBX_CTRL then (if v.getLsbD 0 then s.mboxReset else s)
  else if a < 0x1000 then s.regWrite a v
  else s

/-- A write that has reached its place: word addresses of the space of R422. [log 216: DEDUCED] -/
def State.busWrite (s : State) (a : Nat) (v : Word) : State :=
  if !s.hostOn then s
  else if a < 0x100000 && (blockOf a).isSome then s.blockWrite a v
  else s.openWrite a v

/-- REGISTER_WRITE (R12): a register without a row of its own, under the rules of its block. -/
def execRegisterWrite (a : Fin 67108864) (val : Word) (s : State) : Host.Outcome State Fault Refusal := .next (s.busWrite (a.val / 4 * 4) val)

/-! ## The window -/

/-- A host write through the window (R424, R440, R445): refused and counted without a grant at WRITE level, else carried out and recorded. The
SAFE block takes its W1C bits only (R303). [log 202, 208: DEDUCED] -/
def State.windowWrite (s : State) (a : Nat) (v : Word) : State :=
  if !s.hostOn then s
  else
    match (if a < 0x100000 then blockOf a else none) with
    | none => s.openWrite a v
    | some b =>
      if !s.grants b true then (s.bump Reg.MBX_EXPREF).stick Stk.EXP_REFUSED
      else
        let s1 := if b = 7 then (match regRow a with | some r => s.w1c a r.w1c v | none => s) else s.blockWrite a v
        s1.logRec 0x14 b [w32 (a - blockBase b), v, w32 s.nextCommit]

/-- EXPERT_WINDOW_WRITE (R424). -/
def execExpertWindowWrite (a : Fin 1048576) (val : Word) (s : State) : Host.Outcome State Fault Refusal := .next (s.windowWrite (a.val / 4 * 4) val)

/-- The word address of a quad-SPI frame. -/
def frameAddr (a : Word) : Nat := a.toNat / 4 * 4

/-- QSPI_FRAME (R422): a write frame in words, its last incomplete word discarded; a read frame, whose words leave by the data lines. -/
def execQspiFrame (f : QspiFrame) (s : State) : Host.Outcome State Fault Refusal :=
  .next (if !s.hostOn || !s.mbx.qspi then s
    else
      match f with
      | .write addr bytes =>
        (List.range (bytes.length / 4)).foldl (fun (t : State) i => t.windowWrite (frameAddr addr + 4 * i) (w32 (leAt bytes (4 * i) 4))) s
      | .read addr n =>
        let r := (List.range n).foldl (fun (e : State × List Byte) i =>
          let x := e.1.busRead (frameAddr addr + 4 * i)
          (x.1, e.2 ++ leBytes 4 x.2.toNat)) (s, [])
        r.1.send 5 r.2)

end Sys2Proof.Machine
end

