-- ==== Sys2Proof/Machine/Mailbox.lean ====
section
/-!
DEFINITION. The mailbox's submission side (R425 to R430, R433, R436, R440 to R446): the fetch, the timeouts, and the checks that every
command passes before it acts.
-/
namespace Sys2Proof.Machine

/-! ## The commands and their descriptors -/

/-- What a command takes: a data block in (1) or out (2), the bits its parameters may use, AT, a session identity, and the device states it is
allowed in (0 any, 1 STANDBY, 2 RUN) (R436). -/
structure OpInfo where
  dat : Nat := 0
  masks : List Nat := []
  at_ : Bool := false
  ses : Bool := false
  states : Nat := 0
  deriving DecidableEq, Repr

/-- A parameter whose every bit has a meaning. -/
def full : Nat := 0xFFFFFFFF

/-- The commands (R436). -/
def opTable : List (Nat × OpInfo) :=
  [(0x01, { dat := 2 }), (0x02, { dat := 0 }), (0x03, { masks := [full] }), (0x04, { masks := [full, full], states := 1 }), (0x05, { dat := 1, states := 1 }),
   (0x06, { dat := 2, masks := [full, full, full, full] }), (0x07, { dat := 2, masks := [full, full] }), (0x08, { masks := [0xFF] }),
   (0x09, { masks := [0xFF], states := 1 }), (0x0A, { masks := [full, full] })] ++
  [(0x101, { dat := 1, masks := [full] }), (0x102, { masks := [full, 1, full, 0xFFFF] }), (0x103, { masks := [full, 0, full, 0xFFFF], states := 2 }),
   (0x104, { masks := [full, 0, full, 0xFFFF], states := 2 }), (0x105, { dat := 2, masks := [full, full, full] }),
   (0x201, { masks := [0xFFFF, full, full, full, full, full, full], at_ := true }), (0x202, { dat := 1, at_ := true })] ++
  [(0x301, { dat := 1, masks := [full], states := 2 }), (0x302, { masks := [full] }), (0x303, { masks := [full, 0x8000003F] }),
   (0x304, { masks := [full, 0x73F] }), (0x305, { masks := [full], states := 1 }), (0x401, { dat := 1, states := 1 }),
   (0x402, { masks := [full], states := 1 }), (0x403, { masks := [full] }), (0x404, { masks := [0xFFF, 0xF] }), (0x501, { dat := 1, states := 1 })] ++
  [(0x601, { dat := 2, masks := [full] }), (0x602, { dat := 1, masks := [full, 0x7F], states := 1 }), (0x701, { dat := 0 }), (0x702, { dat := 0 }), (0x703, { dat := 0 }),
   (0x704, { dat := 2, masks := [full, full, full] }), (0x801, { dat := 1, masks := [full] }), (0x802, { dat := 0 }), (0x803, { masks := [0x101] }),
   (0x901, { dat := 2, masks := [0xFFFF, 0x0FFF0001, 3] }), (0x902, { dat := 1, masks := [0xFFFF, 0x0FFF0001, 3], ses := true }),
   (0x903, { ses := true }), (0x904, { dat := 1, masks := [full], states := 1 })]

/-- A command by its code; none where Steward does not recognise it (R433). [log 181: DEDUCED] -/
def opInfo (opc : Nat) : Option OpInfo := (opTable.find? (fun e => e.1 == opc)).map (fun e => e.2)

/-- Parameter `i`. -/
def MCmd.pw (c : MCmd) (i : Nat) : Nat := (c.p.getD i 0#32).toNat

/-- The block lies in the transfer buffer, at an offset (R430). -/
def MCmd.inBuf (c : MCmd) : Bool := c.addr.getLsbD 63
def MCmd.off (c : MCmd) : Nat := c.addr.toNat % 2 ^ 19

/-- The command acts at CIDX (R435). -/
def MCmd.at_ (c : MCmd) : Bool := c.flags.testBit 1

/-- The first word of the descriptor at which checking fails (R429, R430, R433, R435). [log 180, 181: DEDUCED] -/
def MCmd.err (c : MCmd) (i : OpInfo) (qspi : Bool) : Option Nat :=
  let a := c.addr.toNat
  if 4 ≤ c.flags || (c.at_ && !i.at_) then some 0
  else if c.session ≠ 0#32 && !i.ses then some 1
  else if !c.at_ && c.cidx ≠ 0 then some (if c.cidx % 2 ^ 32 ≠ 0 then 2 else 3)
  else if c.len = 0 && a ≠ 0 then some (if a % 2 ^ 32 ≠ 0 then 4 else 5)
  else if c.len ≠ 0 && i.dat = 0 then some 6
  else if c.len ≠ 0 && c.inBuf && a % 2 ^ 32 / 2 ^ 19 ≠ 0 then some 4
  else if c.len ≠ 0 && c.inBuf && a / 2 ^ 32 % 2 ^ 31 ≠ 0 then some 5
  else if c.len ≠ 0 && c.inBuf && 0x80000 < c.off + c.len then some 4
  else if c.len ≠ 0 && !c.inBuf && qspi then some 5
  else if c.spare ≠ 0 then some 7
  else ((List.range 8).find? (fun k => (c.p.getD k 0#32) &&& ~~~ (BitVec.ofNat 32 (i.masks.getD k 0)) ≠ 0#32)).map (fun k => 8 + k)

/-! ## The fetch -/

/-- The queue that Steward serves next: in ascending order from the one after the last, the first that holds an entry (R427). [log 182: DEDUCED] -/
def State.nextQueue (s : State) : Option (Fin 4) :=
  (([0, 1, 2, 3] : List (Fin 4)).map (fun i => s.mbx.lastQ + 1 + i)).find? (fun q =>
    s.fld (Reg.MBX_SQHEAD q) F.MBX_SQHEAD_HEAD != s.fld (Reg.MBX_SQTAIL q) F.MBX_SQTAIL_TAIL)

/-- The tag and the descriptor of entry `e` of queue `q` (R429). -/
def State.readDescr (s : State) (q : Fin 4) (e : Nat) : Nat × MCmd :=
  let w := fun (i : Nat) => s.regN (sqBase q + 64 * e + 4 * i)
  (w 0 / 2 ^ 16 % 256,
   { opc := w 0 % 2 ^ 16, flags := w 0 / 2 ^ 24, session := w32 (w 1), cidx := w 2 + 2 ^ 32 * w 3, addr := BitVec.ofNat 64 (w 4 + 2 ^ 32 * w 5),
     len := w 6, timeout := w 7 % 2 ^ 16, spare := w 7 / 2 ^ 16, p := (List.range 8).map (fun i => w32 (w (8 + i))), q := q, sqidx := e,
     fetchedAt := s.gt, order := s.mbx.order })

/-- Steward fetches one entry (R427, R428): a tag in use is refused, and a code it does not recognise ends at once (R433). [log 181, 186: DEDUCED] -/
def State.fetch (s : State) : State :=
  if !s.hostOn || !s.flag Reg.MBX_STAT F.MBX_STAT_READY || !s.stewardOn || s.supFailed then s
  else
    match s.nextQueue with
    | none => s
    | some q =>
      let e := s.fld (Reg.MBX_SQHEAD q) F.MBX_SQHEAD_HEAD
      let d := s.readDescr q e
      let s1 := s.setFld (Reg.MBX_SQHEAD q) F.MBX_SQHEAD_HEAD ((e + 1) % 64)
      let s2 : State := { s1 with mbx := { s1.mbx with lastQ := q, order := s1.mbx.order + 1 } }
      if 63 < d.1 || s.tagOut d.1 then
        (s2.stick Stk.MBX_DUPTAG).postComp { tag := d.1, q := q, dup := true, status := stRange, sqidx := e }
      else
        let s3 := s2.setTagOut d.1 true
        let s4 : State := { s3 with mbx := { s3.mbx with cmds := s3.mbx.cmds.put d.1 d.2 } }
        if (opInfo d.2.opc).isNone then s4.finish d.1 stRange else s4

/-- COMMAND_FETCH (R427 to R429, R433). -/
def execCommandFetch (s : State) : Host.Outcome State Fault Refusal := .next s.fetch

/-! ## The start of a command -/

/-- An earlier command of its queue has not started, or FENCE waits for one that has not completed (R427). [log 182: DEDUCED] -/
def State.queueWaits (s : State) (c : MCmd) : Bool :=
  s.mbx.cmds.any (fun e => e.2.q == c.q && e.2.order < c.order && (!e.2.started || c.flags.testBit 0)) ||
    (c.flags.testBit 0 && (s.mbx.wait.at c.q).any (fun x => !x.dup))

/-- A command may start: Steward runs, and its queue lets it (R427, R446). [log 182, 186: DEDUCED] -/
def State.canStart (s : State) (c : MCmd) : Bool := !c.started && s.hostOn && s.stewardOn && !s.supFailed && !s.queueWaits c

/-- The start deadline of a command has passed (R429). [log 183: DEDUCED] -/
def State.startLate (s : State) (c : MCmd) : Bool := c.timeout ≠ 0 && c.fetchedAt + c.timeout * tickMs < s.gt

/-- COMMAND_TIMEOUT (R446). [log 183: DEDUCED] -/
def execCommandTimeout (tag : Fin 64) (s : State) : Host.Outcome State Fault Refusal :=
  .next (match s.mbx.cmds.find tag with
    | some c => if !c.started && c.timeout ≠ 0 && s.stewardOn && !s.supFailed then (s.gtTo (c.fetchedAt + c.timeout * tickMs)).finish tag stTimeout else s
    | none => s)

/-- The device is neither in RUN nor in STANDBY for a command that asks for one of them, or RUN is being left (R47, R436). [log 180: DEDUCED] -/
def State.wrongState (s : State) (i : OpInfo) : Bool :=
  (i.states == 1 && (s.dev != .standby || s.pwr.leaving.isSome)) || (i.states == 2 && s.dev != .run)

/-- What ROM service mode accepts (R456), and what a running split accepts (R343, R436). -/
def serviceTakes (opc : Nat) : Bool := [0x01, 0x02, 0x801, 0x803].contains opc
def MCmd.splitTakes (c : MCmd) : Bool :=
  [0x01, 0x02, 0x07, 0x601, 0x105, 0x704, 0x403].contains c.opc || (c.opc == 0x06 && c.p.all (fun w => w == 0#32))

/-- A split runs. -/
def State.splitRuns (s : State) : Bool := match s.sup.split with | some p => p.started | none => false

/-- The blocks a command writes, by their bits of R423. CFG_LOAD's depend on its image. [log 187: DEDUCED] -/
def MCmd.writes (c : MCmd) : List Nat :=
  let o := c.opc
  if o = 0x04 then [2]
  else if o = 0x06 then (if c.p.all (fun w => w == 0#32) then [] else [0])
  else if o = 0x08 then [10]
  else if [0x101, 0x102, 0x103, 0x104].contains o then [15]
  else if o = 0x301 || o = 0x302 then [13]
  else if [0x303, 0x304, 0x305].contains o then [14]
  else if [0x401, 0x402, 0x403, 0x404].contains o then [7]
  else if o = 0x501 then [9, 1]
  else if o = 0x602 then [11]
  else if [0x701, 0x702, 0x703].contains o then [12]
  else []

/-- A WRITE session grants one of some blocks (R436). [log 187: DEDUCED] -/
def State.writeOpen (s : State) (bs : List Nat) : Bool := bs.any (fun b => s.grants b true)

/-- A command is not carried out because of the present state (R343, R432, R436, R456). -/
def State.cmdBusy (s : State) (c : MCmd) (i : OpInfo) : Bool :=
  (s.fw.service && !serviceTakes c.opc) || (s.splitRuns && !c.splitTakes) || s.wrongState i || s.writeOpen c.writes

/-- A command starts and acts: `body` is what it does once every check of its descriptor has passed. [log 180, 182: DEDUCED] -/
def State.command (s : State) (tag opc : Nat) (body : State → MCmd → State) : State :=
  match s.mbx.cmds.find tag with
  | none => s
  | some c =>
    if c.opc ≠ opc || !s.canStart c then s
    else if s.startLate c then s.finish tag stTimeout
    else
      let i := (opInfo opc).getD {}
      let s1 : State := { s with mbx := { s.mbx with cmds := s.mbx.cmds.put tag { c with started := true } } }
      match c.err i s.mbx.qspi with
      | some w => s1.finish tag stRange (w32 w)
      | none => if s.cmdBusy c i then s1.finish tag stBusy else body s1 c

/-- A refusal that names a word of the descriptor (R433). -/
def State.refuse (s : State) (tag status word : Nat) : State := s.finish tag status (w32 word)

/-! ## Data blocks -/

/-- The input block of a command: the transfer buffer, or what the device reads from the host's memory (R430). [log 188: DEDUCED] -/
def State.dataIn (s : State) (c : MCmd) (dma : List Byte) : List Byte :=
  if c.inBuf then s.bufBytes c.off c.len else (dma ++ List.replicate (c.len - dma.length) 0#8).take c.len

/-- Output data reach their block, as far as it is long (R430). [log 188: DEDUCED] -/
def State.dataOut (s : State) (c : MCmd) (bs : List Byte) : State :=
  if c.inBuf then s.bufPutBytes c.off (bs.take c.len) else { s with out := { s.out with dma := s.out.dma ++ [(c.addr.toNat, bs.take c.len)] } }

/-- A command completes with output data (R431). [log 188: DEDUCED] -/
def State.finishData (s : State) (tag : Nat) (c : MCmd) (bs : List Byte) (cidx : Nat := 0) (v0 : Word := 0#32) : State :=
  (if bs.isEmpty then s else s.dataOut c bs).finish tag stOk (dlen := min bs.length c.len) (cidx := cidx) (v0 := v0)

/-- The configuration store is to be written anew (R461). -/
def State.storeDue (s : State) : State := { s with fw := { s.fw with rewrite := true } }

/-! ## The ends that time brings -/

/-- SESSION_EXPIRE (R445). [log 189: DEDUCED] -/
def execSessionExpire (s : State) : Host.Outcome State Fault Refusal :=
  .next (if s.hostOn && s.flag Reg.MBX_EXPSESS F.MBX_EXPSESS_OPEN then (s.gtTo s.mbx.sesEnd).closeSession 3 else s)

/-- AUTH_LOCKOUT_END (R443). -/
def execAuthLockoutEnd (s : State) : Host.Outcome State Fault Refusal :=
  .next (if s.hostOn && s.gt < s.mbx.lockUntil then
      let t := s.gtTo s.mbx.lockUntil
      { t with mbx := { t.mbx with authRow := 0 } }
    else s)

end Sys2Proof.Machine
end

