-- ==== Sys2Proof/Machine/HostNet.lean ====
section
/-!
DEFINITION. The commands of the substation network, the metering unit and the recorder (R39, R358, R391, R393, R411 to R417).
-/
namespace Sys2Proof.Machine

/-! ## Sieve tables -/

/-- The configuration as it stands once the writes that wait are carried out, with the latency windows and the spare descriptors it needs (R39, R92). -/
def State.settledWrites (s : State) : State :=
  let d := s.deferredAll.latFixed
  d.writeSpares d.reqsNeeded

/-- The descriptor table of another state. -/
def State.takeDescs (s v : State) : State :=
  (List.range 128).foldl (fun t n => (t.setReg (Reg.PAN_DESC_RANGE n) (v.reg (Reg.PAN_DESC_RANGE n))).setReg (Reg.PAN_DESC_ATTR n) (v.reg (Reg.PAN_DESC_ATTR n))) s

/-- The spare descriptors that the configuration needs are written, and the banks are checked against them (R39, R201). -/
def State.allocate (s : State) : State := (s.takeDescs s.settledWrites).recheckBanks

/-- NET_TABLE (R39, R358): an invalid table is refused by its first invalid field; in the header, the entry number is 0xFFFF. [log 24, 160: DEDUCED] -/
def execNetTable (tag : Fin 64) (dma : List Byte) (s : State) : Host.Outcome State Fault Refusal :=
  .next (s.command tag 0x501 (fun t c =>
    let f := t.dataIn c dma
    match tblError f with
    | some e => t.finish tag stRange (w32 (e.1.getD 0xFFFF + 2 ^ 16 * e.2))
    | none =>
      let u := t.tblInstall f
      let need := u.deferredAll.latFixed.reqsNeeded
      if !reqsOk need then t.finish tag stRange 0xFFFF#32
      else if 106 < need.length then (t.spareFull need.length).finish tag stRange 0xFFFF#32
      else ((u.allocate.logRec 0x09 (evCode 0xFF 3) [w32 (leAt f 12 4)]).storeDue).finish tag stOk))

/-! ## Metering -/

/-- The latch of point `m` as METER_READ returns it (R391, R436). -/
def State.latchBytes (s : State) (m : Nat) : List Byte :=
  let reg := fun (a n : Nat) => leBytes n (s.regN a)
  (List.range 7).flatMap (fun r => reg (Reg.MTR_LATE_LO m r) 4 ++ reg (Reg.MTR_LATE_HI m r) 4) ++ reg (Reg.MTR_LATWRAP0 m) 4 ++
    (reg (Reg.MTR_LATWRAP1 m) 4).take 3 ++ reg (Reg.MTR_LATGT_LO m) 4 ++ reg (Reg.MTR_LATGT_HI m) 4 ++ reg (Reg.MTR_LATLCC m) 4 ++
    reg (Reg.MTR_LATSEQ m) 4 ++ List.replicate 17 0#8

/-- METER_READ (R391). -/
def execMeterRead (tag : Fin 64) (s : State) : Host.Outcome State Fault Refusal :=
  .next (s.command tag 0x601 (fun t c =>
    if 4 ≤ c.pw 0 then t.refuse tag stRange 8
    else if c.len < 96 then t.refuse tag stRange 6
    else t.finishData tag c (t.latchBytes (c.pw 0))))

/-- A register of a point takes a value in µWh and a wrap counter, with the record of the old and the new ones (R393). [log 170: DEDUCED] -/
def State.meterPreset (s : State) (m r v w : Nat) : State :=
  let x := s.mtrPt m
  let s1 := s.mtrMod m (fun y => { y with e := y.e.mod r (fun _ => v * 2 ^ 32), wrap := y.wrap.mod r (fun _ => w) })
  s1.logRec 0x0B (evCode 0xFF 3) (gtWords (x.e.at r / 2 ^ 32) ++ [w32 (x.wrap.at r)] ++ gtWords v ++ [w32 w])

/-- METER_PRESET (R393, R436): seven pairs; the mask chooses the registers. A value has 63 bits, a wrap counter 8. [log 170: DEDUCED] -/
def execMeterPreset (tag : Fin 64) (dma : List Byte) (s : State) : Host.Outcome State Fault Refusal :=
  .next (s.command tag 0x602 (fun t c =>
    let bs := t.dataIn c dma
    let rs := (bitsOf 7 (c.pw 1)).map (fun r => (r, leAt bs (12 * r) 8, leAt bs (12 * r + 8) 4))
    if 4 ≤ c.pw 0 then t.refuse tag stRange 8
    else if c.len ≠ 84 then t.refuse tag stRange 6
    else if rs.any (fun e => 2 ^ 63 ≤ e.2.1 || 256 ≤ e.2.2) then t.refuse tag stRange 0xFF
    else (rs.foldl (fun (x : State) e => x.meterPreset (c.pw 0) e.1 e.2.1 e.2.2) t).finish tag stOk))

/-! ## The recorder -/

/-- REC_ARM (R411). [log 177: DEDUCED] -/
def execRecArm (tag : Fin 64) (s : State) : Host.Outcome State Fault Refusal :=
  .next (s.command tag 0x701 (fun t _ =>
    if !t.recClocked || (t.recState ≠ 0 && t.recState ≠ 4) then t.finish tag stBusy else t.recArm.finish tag stOk))

/-- REC_TRIG (R412). [log 177: DEDUCED] -/
def execRecTrig (tag : Fin 64) (s : State) : Host.Outcome State Fault Refusal :=
  .next (s.command tag 0x702 (fun t _ => if !t.recClocked then t.finish tag stBusy else t.recSwTrig.finish tag stOk))

/-- REC_STOP (R416). -/
def execRecStop (tag : Fin 64) (s : State) : Host.Outcome State Fault Refusal :=
  .next (s.command tag 0x703 (fun t _ => (t.recEnd 3 (recTick t.gt)).finish tag stOk))

/-- REC_READ (R417). -/
def execRecRead (tag : Fin 64) (s : State) : Host.Outcome State Fault Refusal :=
  .next (s.command tag 0x704 (fun t c =>
    let n := c.pw 2
    if 16 ≤ c.pw 0 then t.refuse tag stRange 8
    else if 0x20000 < c.pw 1 then t.refuse tag stRange 9
    else if 0x20000 < c.pw 1 + n then t.refuse tag stRange 0xA
    else if c.len < 8 * n then t.refuse tag stRange 6
    else if t.recState = 2 || t.recState = 3 then t.finish tag stBusy
    else t.finishData tag c ((List.range n).flatMap (fun i => leBytes 8 ((t.bank (c.pw 0)).mem.get zeroes (c.pw 1 + i)).toNat))))

end Sys2Proof.Machine
end

