-- ==== Sys2Proof/Machine/HostSafe.lean ====
section
/-!
DEFINITION. The commands of the safety monitor (R303, R305, R306, R310 to R323, R444).
-/
namespace Sys2Proof.Machine

/-! ## A configuration's own rules -/

/-- A BF24 parameter within limits. -/
def bfIn (lo hi : Rat) (w : Word) : Bool := decide (bfRat_ lo ≤ (bfVal w).toRat) && decide ((bfVal w).toRat ≤ bfRat_ hi)
  where
    /-- A limit as a BF24 word carries it. -/
    bfRat_ (x : Rat) : Rat := (bfVal (ratBF x).w).toRat

/-- An angle parameter within limits in degrees. -/
def angIn (lo hi : Rat) (w : Word) : Bool := decide (lo * 2 ^ 32 / 360 - 1 ≤ (w.toNat : Rat)) && decide ((w.toNat : Rat) ≤ hi * 2 ^ 32 / 360 + 1)

/-- The parameters of limit function `k` (R312). -/
def limitInRange (f : LimitFn) (k : Nat) : Bool :=
  let w := fun i => f.lims.getD i 0#32
  let x := fun i => (bfVal (w i)).toRat
  !f.on || (1 ≤ f.t && f.t ≤ 65535 && f.slots.all (fun n => n < 65536) &&
    (match k with
     | 0 => f.slots.length == 3 && bfIn 1 100000 (w 0) && decide (x 0 / 100 ≤ x 1) && decide (x 1 ≤ x 0)
     | 1 => f.slots.length == 2 && f.mode ≤ 1 && bfIn (1 / 10) 10 (w 0) && bfIn (-10) (-1 / 10) (w 1) && bfIn (1 / 10) 5 (w 2) && (x 3 = 50 || x 3 = 60)
     | 2 => f.slots.length == 3 && angIn 1 90 (w 0) && angIn (1 / 10) 10 (w 1)
     | _ => f.slots.length == 6 && (f.mode == 1 || f.mode == 2) && bfIn 0 100000000 (w 0)))

/-- A safe connection's parameters (R320 to R323). -/
def rxConnOk (c : SafeConn) : Bool :=
  !c.on || (4 ≤ c.plen && c.plen ≤ 64 && c.plen % 4 == 0 && c.convs < 4096 && c.outs < 16 && 4 ≤ c.wdog && c.wdog ≤ 1000 && 1 ≤ c.maxAge &&
    c.maxAge ≤ 1000 && 1 ≤ c.seqWin && c.seqWin ≤ 1000 && 1 ≤ c.errMax && c.errMax ≤ 255)
def txConnOk (c : SafeConn) : Bool :=
  !c.on || (4 ≤ c.plen && c.plen ≤ 64 && c.plen % 4 == 0 && 1 ≤ c.txPer && c.txPer ≤ 1000 && c.slots.length + 1 == c.plen / 4 &&
    c.slots.all (fun n => n < 65536))

/-- Masks that share no bit. -/
def apart : List Nat → Bool
  | [] => true
  | m :: l => l.all (fun x => x &&& m = 0) && apart l

/-- Every parameter lies within the ranges of its rule, and the converters are sets of leg groups that the device has (R286, R308 to R323). [log 128: DESIGN CHOICE; 209: DEDUCED] -/
def State.safeRanges (s : State) (c : SafeConfig) : Bool :=
  c.convs.length ≤ 12 && c.pairs.length ≤ 8 && c.outs.length ≤ 4 && c.rx.length ≤ 8 && c.tx.length ≤ 8 && KMap.wf c.cmps &&
    c.cmps.all (fun e => e.1 < 64 && e.2 < 4096) && apart (c.convs.map (fun v => v.lgs)) &&
    c.convs.all (fun v => v.lgs < 2 ^ s.groups && v.outs < 16 && (v.offDly ≤ 1000 || v.offDly == 0xFFFF) && v.fns.length ≤ 4 && 1 ≤ v.staleN && v.staleN ≤ 16 &&
      (v.fns.zipIdx).all (fun e => limitInRange e.1 e.2)) &&
    c.pairs.all (fun p => p.func ≤ 2 && 1 ≤ p.disc && p.disc ≤ 500 && p.convs < 4096 && p.outs < 16) &&
    c.outs.all (fun o => o.spo < 4096 && 100 ≤ o.tpw && o.tpw ≤ 1000) && c.rx.all rxConnOk && c.tx.all txConnOk

/-! ## What a configuration may not assign -/

/-- The declarations and settings that an assigned comparator needs (R114, R120, R128). -/
def State.cmpAssignable (s : State) (n : Nat) : Bool :=
  let m := s.fld (Reg.CMP_CFG n) F.CMP_CFG_MODE
  let r := s.fld (Reg.CMP_CFG n) F.CMP_CFG_REFSEL
  (m == 0 || m == 3) && s.fld (Reg.CMP_BLK n) F.CMP_BLK_LEN ≤ 250 && (16 ≤ r || (s.cmp.cref.find r).isSome)

/-- SLC and SDI read slots of descriptors 0 and 1 only (R311). -/
def slotsLocal (v : SafeConv) : Bool :=
  [0, 3].all (fun k => !(v.fns.getD k {}).on || (v.fns.getD k {}).slots.all (fun n => n < 0x400))

/-- The configuration does not act against R114, R120, R128 or R311. [log 209: DEDUCED] -/
def State.safeAllowed (s : State) (c : SafeConfig) : Bool := c.cmps.all (fun e => s.cmpAssignable e.1) && c.convs.all slotsLocal

/-- The blocks that a configuration assigns (R444). [log 187: DEDUCED] -/
def cfgAssigns (c : SafeConfig) : List Nat :=
  [7, 14] ++ (if c.cmps.isEmpty then [] else [6]) ++ (if c.convs.any (fun v => [0, 3].any (fun k => (v.fns.getD k {}).on)) then [10, 5] else [])

/-- The blocks that are assigned now. [log 202: DEDUCED] -/
def State.assigned (s : State) : List Nat := if s.safe.inForce then cfgAssigns s.safe.cfg else []

/-! ## The commands -/

/-- A configuration is pending (R303). -/
def State.safePend (s : State) (cfg : SafeConfig) (crc : Word) : State :=
  ({ s with safe := { s.safe with pendCfg := cfg, pendCrc := crc, pending := true } }).setFld Reg.SAFE_STAT F.SAFE_STAT_CFG_PEND 1

/-- SAFE_CFG (R303): `cfg` is what the data spell, none where they spell no configuration. [log 128: DESIGN CHOICE; 209: DEDUCED] -/
def execSafeCfg (tag : Fin 64) (cfg : Option SafeConfig) (dma : List Byte) (s : State) : Host.Outcome State Fault Refusal :=
  .next (s.command tag 0x401 (fun t c =>
    if c.len = 0 then t.refuse tag stRange 6
    else
      match cfg with
      | none => t.refuse tag stRange 0xFF
      | some g =>
        if !t.safeRanges g then t.refuse tag stRange 0xFF
        else if !t.safeAllowed g then t.refuse tag stSafety 0xFF
        else
          let crc := crc32c (t.dataIn c dma)
          (t.safePend g crc).finish tag stOk (v0 := crc)))

/-- SAFE_CONFIRM (R303, R444): the pending configuration takes effect. [log 209: DEDUCED] -/
def execSafeConfirm (tag : Fin 64) (s : State) : Host.Outcome State Fault Refusal :=
  .next (s.command tag 0x402 (fun t c =>
    let g := t.safe.pendCfg
    if !t.safe.pending || t.safe.pendCrc ≠ c.p.getD 0 0#32 then t.refuse tag stRange 8
    else if t.writeOpen (cfgAssigns g) then t.finish tag stBusy
    else if !t.safeAllowed g then t.refuse tag stSafety 8
    else (((t.safeConfirm g t.safe.pendCrc).logRec 0x07 (evCode 0xFF 2) [t.safe.pendCrc] true).storeDue).finish tag stOk))

/-- SPO (R305): SPO latches with cause 12. -/
def execSpo (tag : Fin 64) (s : State) : Host.Outcome State Fault Refusal :=
  .next (s.command tag 0x403 (fun t c =>
    if 4096 ≤ c.pw 0 then t.refuse tag stRange 8 else (t.demandPulse 12 0 (c.pw 0)).finish tag stOk))

/-- SPO_RESET (R306, R319): output faults first, then the named converters, all or none. [log 210: DEDUCED] -/
def execSpoReset (tag : Fin 64) (s : State) : Host.Outcome State Fault Refusal :=
  .next (s.command tag 0x404 (fun t c =>
    let os := bitsOf 4 (c.pw 1)
    let u := os.foldl (fun (x : State) j => x.soutClear j) t
    if os.any (fun j => (t.safe.sout.at j).fault ≠ 0 && !t.soutClearable j) then t.refuse tag stSafety 9
    else if (bitsOf 12 (c.pw 0)).any (fun v => !u.spoClearable v) then t.refuse tag stSafety 8
    else ((bitsOf 12 (c.pw 0)).foldl (fun (x : State) v => x.spoClear v) u).finish tag stOk))

end Sys2Proof.Machine
end

