-- ==== Sys2Proof/Machine/CfgChecks.lean ====
section
/-!
DEFINITION. The configuration image (R439): its entries, and the rules of the blocks' chapters that a configuration as a whole has to meet.
-/
namespace Sys2Proof.Machine

/-! ## Entries -/

/-- An entry: its target, byte 1, its byte offset and its value. -/
structure CfgEntry where
  tgt : Nat := 0
  pad : Nat := 0
  off : Nat := 0
  val : Word := 0#32
  deriving DecidableEq, Repr, Inhabited

/-- The header and the trailer (R358, R439). [log 219, 220: DEDUCED] -/
def cfgHeadOk (bs : List Byte) : Bool :=
  leAt bs 0 4 == 0x44474643 && leAt bs 4 2 == 1 && leAt bs 6 1 == 0x10 && leAt bs 7 1 == 0 && leAt bs 8 4 == bs.length && 28 ≤ bs.length &&
    (bs.length - 20) % 8 == 0 && (bs.length - 20) / 8 ≤ 16384 && leAt bs (bs.length - 4) 4 == (crc32c (bs.take (bs.length - 4))).toNat

/-- The entries of an image. -/
def cfgEntries (bs : List Byte) : List CfgEntry :=
  (List.range ((bs.length - 20) / 8)).map (fun i =>
    let o := 16 + 8 * i
    { tgt := leAt bs o 1, pad := leAt bs (o + 1) 1, off := leAt bs (o + 2) 2, val := w32 (leAt bs (o + 4) 4) })

/-- The place of field `n` of law instance `i`, and of a word of the station declarations, beside the addresses of BAR0. -/
def lawPlaceOf (i n : Nat) : Nat := 0x200000 + 0x10000 * i + 4 * n
def declPlace (o : Nat) : Nat := 0x400000 + o

/-- The place that an entry writes. -/
def CfgEntry.place (e : CfgEntry) : Nat :=
  if e.tgt < 0x10 then blockBase e.tgt + e.off else if e.tgt < 0x30 then 0x200000 + 0x10000 * (e.tgt - 0x20) + e.off else declPlace e.off

/-- The last value that an image writes at a place. -/
def lastVal (es : List CfgEntry) (a : Nat) : Option Word := (es.reverse.find? (fun e => e.place == a)).map (fun e => e.val)

/-- A declared CREF that an assigned comparator uses would change (R439). [log 202: DEDUCED] -/
def State.declBlocked (s : State) (e : CfgEntry) : Bool :=
  let n := e.off / 8
  s.safe.inForce && s.safe.cfg.cmps.any (fun c => s.fld (Reg.CMP_CFG c.1) F.CMP_CFG_REFSEL == n) &&
    (match s.cmp.cref.find n with
     | none => true
     | some d => if e.off % 8 = 0 then d.1 ≠ e.val else d.2 ≠ some e.val)

/-- The status with which an entry by itself is refused (R439, R7). [log 202: DEDUCED] -/
def State.entryErr (s : State) (e : CfgEntry) : Option Nat :=
  if e.pad ≠ 0 || e.off % 4 ≠ 0 then some stRange
  else if e.tgt = 0x30 then (if 128 ≤ e.off then some stRange else if s.declBlocked e then some stSafety else none)
  else if 0x20 ≤ e.tgt && e.tgt < 0x2F then
    (if e.off = 0 && (e.val &&& ~~~ 0xF0F#32 ≠ 0#32 || 6 < e.val.toNat % 16 || s.engines ≤ e.val.toNat / 256) then some stRange else none)
  else if 16 ≤ e.tgt || e.tgt = 0 || e.tgt = 7 || e.tgt = 8 then some stRange
  else if blockSize e.tgt ≤ e.off || (e.tgt = 15 && 0x4000 ≤ e.off) || (regRow e.place).isNone || s.absentReg e.place then some stRange
  else if s.assigned.contains e.tgt then some stSafety
  else none

/-! ## Broken rules -/

/-- A rule that a configuration breaks: the places that it concerns, and the status of the refusal. -/
structure CfgBreak where
  places : List Nat
  status : Nat := stRange
  deriving DecidableEq, Repr, Inhabited

/-- A rule of some places. -/
def brk (bad : Bool) (ps : List Nat) (status : Nat := stRange) : List CfgBreak := if bad then [{ places := ps, status := status }] else []

/-- EP_LEN and HALF_EN (R66): the value that the image writes. -/
def State.epBreaks (s : State) (es : List CfgEntry) : List CfgBreak :=
  let v := match lastVal es Reg.EP_LEN with | some w => w.toNat % 2 ^ 20 | none => s.epWritten
  brk (!(1000 ≤ v && v ≤ 500000 && 500000000 % v == 0)) [Reg.EP_LEN] ++ brk (s.halfEn && v % 2 == 1) [Reg.EP_LEN, Reg.PAN_CTRL]

/-- A trigger code that its sequence may have (R85, R86). -/
def State.trigOk (s : State) (inj : Bool) (code : Nat) : Bool :=
  code ≤ 7 || (0x20 ≤ code && code < 0x80 && code % 0x20 < s.groups) || (inj && 0x80 ≤ code && code < 0xF0)

/-- The entries that keep a pin from the open-wire diagnosis (R95): those of the injected sequence, and of a regular one that software triggers. [log 221: DEDUCED] -/
def State.owEntries (s : State) (c : Nat) : List Nat :=
  let inj := (List.range (s.fld (Reg.ADC_SEQCFG c) F.ADC_SEQCFG_INJ_LEN + 1)).map (fun i => 32 + i)
  let reg := List.range (s.fld (Reg.ADC_SEQCFG c) F.ADC_SEQCFG_REG_LEN + 1)
  (if s.fld (Reg.ADC_SEQCFG c) F.ADC_SEQCFG_INJ_TRIG = 0 then [] else inj) ++ (if s.fld (Reg.ADC_SEQCFG c) F.ADC_SEQCFG_REG_TRIG = 3 then reg else [])

/-- Converters and modulator clocks (R86, R95, R103). [log 221: DEDUCED] -/
def State.anaBreaks (s : State) : List CfgBreak :=
  (List.range 8).flatMap (fun c =>
    brk (!s.trigOk false (s.fld (Reg.ADC_SEQCFG c) F.ADC_SEQCFG_REG_TRIG) || !s.trigOk true (s.fld (Reg.ADC_SEQCFG c) F.ADC_SEQCFG_INJ_TRIG))
      [Reg.ADC_SEQCFG c] ++
    (s.owEntries c).flatMap (fun e =>
      let ch := s.fld (Reg.ADC_ENTRY c e) F.ADC_ENTRY_CH
      brk (ch < 12 && (s.reg (Reg.ADC_OWCFG c)).getLsbD ch) [Reg.ADC_OWCFG c, Reg.ADC_SEQCFG c, Reg.ADC_ENTRY c e])) ++
  (List.range 8).flatMap (fun k =>
    brk (s.flag (Reg.SDF_CLKDIV k) F.SDF_CLKDIV_EN &&
      s.fld (Reg.SDF_CLKDIV k) F.SDF_CLKDIV_DIV < 4 * s.fld Reg.CLK_PDIV_SDF F.CLK_PDIV_SDF_DIV) [Reg.SDF_CLKDIV k, Reg.CLK_PDIV_SDF])

/-- The threshold of a comparator by its declared reference, in picovolts (R118). -/
def State.cmpLevel (s : State) (n : Nat) : Option Rat := (s.cmpNominal n).map (fun v => v.1 + s.cmpOfs n)

/-- The upper release level of window `w` lies below the lower one (R118). -/
def State.winBad (s : State) (w : Nat) : Bool :=
  match s.cmpLevel (2 * w), s.cmpLevel (2 * w + 1) with
  | some a, some b => (s.reg Reg.CMP_WIN).getLsbD w && decide (a - s.cmpHyst (2 * w) < b + s.cmpHyst (2 * w + 1))
  | _, _ => false

/-- Comparators, windows and wake sources (R110, R116, R118, R119). -/
def State.cmpBreaks (s : State) : List CfgBreak :=
  (List.range 64).flatMap (fun n =>
    brk (18 ≤ s.fld (Reg.CMP_CFG n) F.CMP_CFG_REFSEL) [Reg.CMP_CFG n] ++ brk (s.groups ≤ s.fld (Reg.CMP_BLK n) F.CMP_BLK_LG) [Reg.CMP_BLK n]) ++
  (List.range 32).flatMap (fun w => brk (s.winBad w)
    [Reg.CMP_WIN, Reg.CMP_CFG (2 * w), Reg.CMP_CFG (2 * w + 1), Reg.CMP_THR (2 * w), Reg.CMP_THR (2 * w + 1),
     declPlace (8 * s.fld (Reg.CMP_CFG (2 * w)) F.CMP_CFG_REFSEL), declPlace (8 * s.fld (Reg.CMP_CFG (2 * w + 1)) F.CMP_CFG_REFSEL)]) ++
  (List.range 8).flatMap (fun i => brk ((s.reg Reg.CMP_WAKE).getLsbD i && !({ s with dev := .watch } : State).cmpAlive (56 + i))
    [Reg.CMP_WAKE, Reg.CMP_CFG (56 + i)])

/-- The spare descriptors: a range that refines no fixed one of its owner, ranges that overlap with different settings (R38), and a window of the
comparators' words above 4 ticks (R132). -/
def State.spareBreaks (s : State) : List CfgBreak :=
  let host := s.hostReqs.map (fun e => (e.2, [Reg.PAN_DESC_RANGE e.1, Reg.PAN_DESC_ATTR e.1]))
  let srcs := (List.range s.groups).map (fun g => [Reg.PWM_SRC g, Reg.PWM_LGCFG g])
  let all := host ++ s.ownReqs.map (fun r => (r, if 0x10 ≤ r.owner && r.owner < 0x20 then srcs.flatten else []))
  let clash := fun (a b : SpareReq) => a.first ≤ b.last && b.first ≤ a.last && !reqJoins a b
  let bad := host.flatMap (fun e =>
    brk ((reqFixed e.1).isNone) e.2 ++ brk (e.1.owner == 3 && 4 < e.1.latwin) e.2 ++
    (all.filter (fun x => clash e.1 x.1)).flatMap (fun x => brk true (e.2 ++ x.2)))
  if bad.isEmpty then brk (!reqsOk s.reqsNeeded) srcs.flatten else bad

/-! ## Leg groups and gate links -/

/-- The carrier of a group fits the epoch (R245). -/
def perOk (ep per : Nat) : Bool := 500 ≤ per && ((ep % per == 0 && ep / per ≤ 256) || (per % ep == 0 && per / ep ≤ 256))

/-- The sources of an engine-class group (R251). -/
def State.baseOk (s : State) (b : Nat) : Bool :=
  let o := s.ownerOf b
  b + 7 < 65536 && o ≠ 0 && (List.range 8).all (fun i => s.ownerOf (b + i) == o && s.slotRaw (b + i)) &&
    !(0x2000 + 0x1000 * s.engines ≤ b && b < 0xE000)

/-- The largest RATE of the sections that write the words of a group (R255): those of the active bank that owns the slots. -/
def State.srcRate (s : State) (b : Nat) : Nat :=
  if 0x2000 ≤ b && b < 0xE000 then
    let k := (s.bd ((b - 0x2000) / 0x1000)).bank
    (k.secs.filter (fun x => (walk k.prog (x.start + x.count) (x.count + 1) x.start []).any (fun t =>
      (t.ins.op == 0x18 || t.ins.op == 0x19) && t.slots.any (fun n => b ≤ n && n < b + 6)))).foldl (fun m x => max m x.rate) 1
  else 1

/-- The last group of the chained run, as its length (R267). -/
def State.chainRun (s : State) : Nat := ((List.range s.groups).takeWhile (fun g => s.flag (Reg.PWM_LGCFG g) F.PWM_LGCFG_CHAIN)).length

/-- Leg group `g` (R244, R245, R251, R255). [log 222: DEDUCED] -/
def State.lgBreaks (s : State) (g : Nat) : List CfgBreak :=
  let per := s.fld (Reg.PWM_PER g) F.PWM_PER_PER
  let base := s.fld (Reg.PWM_SRC g) F.PWM_SRC_BASE
  let lim := s.fld (Reg.PWM_SRC g) F.PWM_SRC_STALE_LIM
  let engine := s.fld (Reg.PWM_LGCFG g) F.PWM_LGCFG_SRC == 0
  brk ((List.range 3).any (fun q => s.pairMode g q == 1)) [Reg.PWM_LGCFG g] stSafety ++
  (if !s.flag (Reg.PWM_LGCFG g) F.PWM_LGCFG_EN then [] else
    brk (!perOk s.epWritten per) [Reg.PWM_PER g, Reg.PWM_LGCFG g, Reg.EP_LEN] ++
    brk (per ≤ s.fld (Reg.PWM_PH g) F.PWM_PH_PH) [Reg.PWM_PH g, Reg.PWM_PER g, Reg.PWM_LGCFG g] ++
    brk (engine && !s.baseOk base) ([Reg.PWM_SRC g, Reg.PWM_LGCFG g] ++ s.hostReqs.flatMap (fun e => [Reg.PAN_DESC_RANGE e.1, Reg.PAN_DESC_ATTR e.1])) ++
    brk (engine && lim ≠ 0 && lim < s.srcRate base * (if s.halfEn then 2 else 1)) [Reg.PWM_SRC g, Reg.PWM_LGCFG g, Reg.PAN_CTRL] ++
    brk (s.flag (Reg.GL_CFG g) F.GL_CFG_GSET_EN && per < s.fld (Reg.GL_FRM g) F.GL_FRM_FRM_OFS + 640)
      [Reg.GL_FRM g, Reg.GL_CFG g, Reg.PWM_PER g, Reg.PWM_LGCFG g])

/-- The limits of the codes of a channel (R299). -/
def State.limOk (s : State) (g c : Nat) : Bool :=
  let f := fun (x : Fld) => s.fld (Reg.GL_LIM g c) x
  f F.GL_LIM_CMIN_ON ≤ f F.GL_LIM_INIT_ON && f F.GL_LIM_INIT_ON ≤ f F.GL_LIM_CMAX_ON && f F.GL_LIM_CMIN_OFF ≤ f F.GL_LIM_INIT_OFF &&
    f F.GL_LIM_INIT_OFF ≤ f F.GL_LIM_CMAX_OFF

/-- The fabric and the gate links as a whole (R272, R286, R299). -/
def State.pwmBreaks (s : State) : List CfgBreak :=
  let o := s.fld Reg.PWM_SYNCCFG F.PWM_SYNCCFG_OSRC
  (List.range s.groups).flatMap (fun g => s.lgBreaks g ++ (List.range 6).flatMap (fun c => brk (!s.limOk g c) [Reg.GL_LIM g c])) ++
  brk (s.groups ≤ o || s.groups ≤ s.fld Reg.PWM_SYNCCFG F.PWM_SYNCCFG_ISRC) [Reg.PWM_SYNCCFG] ++
  brk (s.fld Reg.PWM_SYNCCFG F.PWM_SYNCCFG_ROLE == 2 && s.chainRun ≤ o) (Reg.PWM_SYNCCFG :: (List.range (o + 1)).map Reg.PWM_LGCFG) ++
  (List.range 12).flatMap (fun v =>
    brk (s.regN (Reg.GL_CONV v) / 2 ^ s.groups ≠ 0) [Reg.GL_CONV v] ++
    (List.range v).flatMap (fun w => brk (s.regN (Reg.GL_CONV v) &&& s.regN (Reg.GL_CONV w) ≠ 0) [Reg.GL_CONV v, Reg.GL_CONV w]))

/-! ## Metering, the recorder and the power thresholds -/

/-- The subscribed stream whose t_m slots start at a slot (R366, R383). -/
def State.tsStream (s : State) (ts : Nat) : Option Nat := (List.range (s.tblCount 1)).find? (fun k => ts == 0x411 + 0x40 * k)

/-- The sample period and the slots of a STAMPED point (R383). -/
def State.stampedOk (s : State) (m : Nat) : Bool :=
  match s.tsStream (s.mtrTs m) with
  | none => false
  | some k =>
    let rate := svRate (s.tblAt 1 k)
    let b := 0x400 + 0x40 * k
    (s.mtrSlots m).all (fun n => b ≤ n && n < b + 0x40) && s.epWritten * rate ≤ tickSec && 20000 * rate ≤ tickSec && tickSec ≤ 156250 * rate

/-- Point `m` (R382, R383, R398). [log 222: DEDUCED] -/
def State.mtrBreaks (s : State) (m : Nat) : List CfgBreak :=
  let ts := s.mtrDec m * s.epWritten
  let srcs := [Reg.MTR_SRC0 m, Reg.MTR_SRC1 m, Reg.MTR_SRC2 m, Reg.MTR_SRC3 m]
  let sag := s.fld (Reg.MTR_EVTH m) F.MTR_EVTH_SAG_TH
  (if !s.flag (Reg.MTR_CFG m) F.MTR_CFG_EN then [] else
    brk ((s.mtrSlots m).any (fun n => s.ownerOf n == 0 || s.slotRaw n)) (srcs ++ [Reg.MTR_CFG m]) ++
    (if s.mtrStamped m then brk (!s.stampedOk m) (srcs ++ [Reg.MTR_CFG m, Reg.EP_LEN])
     else brk (ts < 20000 || 156250 < ts) [Reg.MTR_CFG m, Reg.EP_LEN])) ++
  brk (10000 ≤ sag || s.fld (Reg.MTR_EVTH m) F.MTR_EVTH_SWL_TH ≤ 10000) [Reg.MTR_EVTH m] ++
  brk (sag ≤ s.fld (Reg.MTR_EVTH2 m) F.MTR_EVTH2_INT_TH) [Reg.MTR_EVTH m, Reg.MTR_EVTH2 m]

/-- The source of digital group `g` (R405). [log 222: DEDUCED] -/
def State.recBreaks (s : State) (g : Nat) : List CfgBreak :=
  let k := s.recKind g
  let sel := s.recSel g
  let slot := s.fld (Reg.REC_GSRC g) F.REC_GSRC_SLOT
  brk (((k == 1 || k == 2) && s.channels < 32 * sel + 32) || ((k == 3 || k == 4) && 2 ≤ sel) || (k == 5 && s.ownerOf slot ≠ 0 && !s.slotRaw slot))
    [Reg.REC_GSRC g]

/-- The power thresholds as the image writes them, in 10 mV (R488). [log 222: DEDUCED] -/
def State.hrvBreaks (s : State) (es : List CfgEntry) : List CfgBreak :=
  let a := ((lastVal es Reg.CLK_HRVTHR).getD (s.reg Reg.CLK_HRVTHR)).toNat
  let b := ((lastVal es Reg.CLK_HRVTHR2).getD (s.reg Reg.CLK_HRVTHR2)).toNat
  let off := a % 512
  let wake := a / 65536 % 512
  let lwake := b % 512
  let vmax := b / 65536 % 512
  brk (!(230 ≤ off && off < wake && wake ≤ lwake && lwake + 10 ≤ vmax && 300 ≤ vmax && vmax ≤ 450)) [Reg.CLK_HRVTHR, Reg.CLK_HRVTHR2]

/-! ## Law instances -/

/-- What a structural field of an instance may hold (R208 to R211, R229, R242). -/
inductive LawFld where
  | bf (lo hi : Rat)
  | int (lo hi : Nat)
  | angle
  | legGroup
  | sync
  | measured (localOnly : Bool)
  | alternate (localOnly : Bool)
  | unused
  | trip

/-- A channel block: three phases or a single quantity, and whether it takes local slots only. Each field with whether it has a default. -/
def chanFlds (phases : Nat) (localOnly : Bool) : List (LawFld × Bool) :=
  (List.range 3).map (fun j => (if j < phases then .measured localOnly else .unused, false)) ++
    [(.bf (1 / 1000000) 1000000, true), (.angle, true)] ++ (List.range 3).map (fun j => (if j < phases then .alternate localOnly else .unused, true)) ++
    [(.bf (1 / 1000000) 1000000, true), (.angle, true), (.int 20 100000, true), (.int 10 60000, true), (.int 10 10000, true)]

/-- The fields of an instance from field 1 on (R242); `n` is a tracker count. -/
def lawFlds (typ n : Nat) (ipcc : Bool) : List (LawFld × Bool) :=
  match typ with
  | 0 => [(.bf 100000 1000000000, false), (.bf 100 500000, false), (.int 50 60, true), (.int 0 1, true)] ++
      (if ipcc then chanFlds 3 false else List.replicate 13 (.angle, true))
  | 1 => chanFlds 3 false
  | 2 => [(.sync, true)]
  | 3 => [(.sync, true), (.trip, true), (.int 0 31, true), (.int 0 31, true), (.int 0 1, true), (.int 20 10000, true), (.int 0 1, true)]
  | 4 => [(.sync, true)]
  | 5 => [(.legGroup, false), (.legGroup, false), (.legGroup, false), (.bf (1 / 100) 1, true), (.int 0 3, true), (.int 0 1, true), (.int 0 1, true), (.sync, true)] ++
      chanFlds 3 true ++ chanFlds 1 false
  | _ => (.int 1 8, false) :: (List.range (min 8 n)).flatMap (fun _ => (.legGroup, false) :: (chanFlds 1 false ++ chanFlds 1 false))

/-- A measurement slot: BF24, of the converters or of the aligned streams (R209). -/
def State.lawSlotOk (s : State) (localOnly : Bool) (n : Nat) : Bool := n < (if localOnly then 0x400 else 0x800) && s.ownerOf n ≠ 0 && !s.slotRaw n

/-- A field's word is allowed. -/
def State.lawFldOk (s : State) (f : LawFld) (w : Word) : Bool :=
  match f with
  | .bf lo hi => bfIn lo hi w
  | .int lo hi => lo ≤ w.toNat && w.toNat ≤ hi
  | .angle => true
  | .legGroup => w.toNat < s.groups
  | .sync => (s.law.inst[w.toNat]?).any (fun l => l.typ == 1)
  | .measured o => s.lawSlotOk o w.toNat
  | .alternate o => w == 0xFFFF#32 || s.lawSlotOk o w.toNat
  | .unused => w == 0xFFFF#32
  | .trip => w == 0xFFFF#32 || (0x1000 ≤ w.toNat && w.toNat < 0x2000)

/-- The structural fields of instance `i` (R242). [log 223: DEDUCED] -/
def State.fldBreaks (s : State) (i : Nat) (l : LawInst) : List CfgBreak :=
  let fs := lawFlds l.typ (l.num 1 0) (l.num 4 0 == 1)
  (fs.zipIdx).flatMap (fun e =>
    let n := e.2 + 1
    match l.fields.find n with
    | none => brk (!e.1.2) [lawPlaceOf i 0, lawPlaceOf i n]
    | some w => brk (!s.lawFldOk e.1.1 w || (l.typ = 0 && n = 3 && w.toNat ≠ 50 && w.toNat ≠ 60)) [lawPlaceOf i n]) ++
  (l.fields.filter (fun e => fs.length < e.1)).flatMap (fun e => brk true [lawPlaceOf i e.1]) ++
  -- source B names all its phases or none; an aligned stream is sampled no faster than the epochs (R209, R210)
  l.blocks.flatMap (fun n =>
    let b := (l.src n true).slots.length
    let sv := ((l.src n false).slots ++ (l.src n true).slots).filter isSvSlot
    brk (b ≠ 0 && b ≠ (l.src n false).slots.length) ((List.range 3).map (fun j => lawPlaceOf i (n + 5 + j))) ++
    brk (sv.any (fun k => s.svSlotPeriod k < s.epWritten)) (Reg.EP_LEN :: (List.range 8).map (fun j => lawPlaceOf i (n + j))))

/-- How many instances a type may have (R202). -/
def lawMax (typ : Nat) : Nat := [1, 2, 1, 1, 1, 10, 2].getD typ 0

/-- The law instances as a whole (R202, R208, R229, R242). [log 223: DEDUCED] -/
def State.lawBreaks (s : State) : List CfgBreak :=
  let t := s.law.inst
  let of := fun (typ : Nat) => (List.range t.length).filter (fun i => (t.at i).typ == typ)
  let types := fun (l : List Nat) => l.map (fun i => lawPlaceOf i 0)
  let ictl := of 5
  let share := fun (i : Nat) => (t.at i).bf 4 (1 / (ictl.length : Rat))
  let sum := (ictl.map share).sum
  (List.range 7).flatMap (fun k => brk (lawMax k < (of k).length) (types (of k))) ++
  brk ((!ictl.isEmpty || !(of 4).isEmpty) && [0, 1, 3].any (fun k => (of k).isEmpty)) (types (ictl ++ of 4)) ++
  brk (!ictl.isEmpty && !(decide (1 - 1 / 1000000 ≤ sum) && decide (sum ≤ 1 + 1 / 1000000))) (ictl.flatMap (fun i => [lawPlaceOf i 4, lawPlaceOf i 0])) ++
  brk ((of 3).any (fun i => (t.at i).num 7 0 == 1) && (of 4).isEmpty) ((of 3).map (fun i => lawPlaceOf i 7)) ++
  (t.zipIdx).flatMap (fun e => s.fldBreaks e.2 e.1)

/-- Every rule that the configuration breaks; `es` has the values as the image writes them. -/
def State.cfgBreaks (s : State) (es : List CfgEntry) : List CfgBreak :=
  s.epBreaks es ++ s.anaBreaks ++ s.cmpBreaks ++ s.spareBreaks ++ s.pwmBreaks ++ (List.range 4).flatMap s.mtrBreaks ++
    (List.range 16).flatMap s.recBreaks ++ s.hrvBreaks es ++ s.lawBreaks

end Sys2Proof.Machine
end

