-- ==== Sys2Proof/Machine/LawStation.lean ====
section
/-!
DEFINITION. The laws COORD and GFM (R216, R217, R219 to R222, R236 to R238, R240).
-/
namespace Sys2Proof.Machine

/-! ## COORD -/

/-- What COORD sees of the station in one epoch. -/
structure CoordView where
  v : SyncView
  frt : FrtSt
  ai : AiSt
  req : Rat
  spo : Bool
  trip : Nat
  limited : Bool

/-- The lowest of the trip causes that stand, 0 for none (R236, R238). -/
def lowestCause (l : List Nat) : Nat := (l.filter (fun n => n ≠ 0)).foldl (fun a b => if a = 0 then b else min a b) 0

def LawCtx.coordView (c : LawCtx) : CoordView :=
  let frt := c.frt
  let ai := c.ai
  let req := c.s.setPar 9
  let lost := (List.range c.old.length).any (fun j => c.s.chanTrip (c.inst j))
  { v := (c.first 1).elim {} c.syncAt, frt := frt, ai := ai, req := req, spo := (c.s.slot 0xF040).toNat % 4096 ≠ 0
    trip := lowestCause [frt.trip, ai.trip, if lost then 12 else 0, if req = 5 then 13 else 0]
    limited := c.gfm.limited || (c.allOf 5).any (fun j => (c.inst j).ictl.limited) }

/-- A mode in which the station carries current. [log 100: DEDUCED] -/
def modeRuns (m : Nat) : Bool := 2 ≤ m && m ≤ 5

/-- Reconnection is due (R231). -/
def LawCtx.rcDue (c : LawCtx) (w : CoordView) : Bool :=
  (c.s.setPar 10 = 1 || w.req = 4) &&
    (c.first 3).any (fun j => c.s.lasted w.ai.rcFor (c.s.lawPar 3 j 0x16 * tickSec))

/-- E of black start has reached V_SET (R237). -/
def LawCtx.softDone (c : LawCtx) : Bool := (c.first 4).any (fun j => c.gfm.on && decide (c.s.lawPar 4 j 6 ≤ c.val j 3 (c.inst j).gfm.e))

/-- The load angle is below 5 degrees (R237). -/
def LawCtx.aligned (c : LawCtx) : Bool :=
  (c.first 4).any (fun j =>
    let d := c.ang j 6 (fracTurn ((c.inst j).gfm.delta - ((c.first 1).elim 0 (fun i => (c.inst i).sync.theta))))
    decide (min d (1 - d) * 360 < 5))

/-- A waiting change between GFL and GFM may happen (R237, R238). -/
def LawCtx.changeOk (c : LawCtx) (x : CoordSt) (w : CoordView) : Bool :=
  w.frt.st = 0 && !w.limited && (!x.frtWait || decide (tickSec ≤ w.frt.normalFor * c.s.tim.epLen)) && (!x.limWait || c.s.lasted x.freeFor (msTicks 100))

/-- The mode that the request asks of a running station. -/
def wantMode (req : Rat) (m : Nat) : Nat := if req = 1 then 2 else if req = 2 then 3 else m

/-- The mode of this epoch (R237, R238). [log 99: DEDUCED] -/
def LawCtx.modeNext (c : LawCtx) (x : CoordSt) (w : CoordView) : Nat :=
  if modeRuns x.mode && w.trip ≠ 0 then 6
  else if w.spo || w.req = 0 then 0
  else
    match x.mode with
    | 0 => if w.req = 3 && decide (w.v.vp < 1 / 10) then 5 else if !x.spent && (w.req = 1 || w.req = 2) then 1 else 0
    | 1 => if c.s.lasted x.lockedFor (msTicks 100) then (if x.cmd = 0 then 2 else x.cmd) else 1
    | 2 => if wantMode w.req 2 ≠ 2 && c.changeOk x w then 3 else 2
    | 3 => if w.ai.island then 4 else if wantMode w.req 3 ≠ 3 && c.changeOk x w then 2 else 3
    | 4 => if w.req = 4 && w.v.st = 2 && c.aligned then 3 else 4
    | 5 => if c.softDone then 4 else 5
    | _ => if c.rcDue w then 1 else 6

/-- The waits of this epoch, before the mode is chosen. [log 99: DEDUCED] -/
def LawCtx.coordWaits (c : LawCtx) (w : CoordView) : CoordSt :=
  let x := c.me.coord
  let wants := (x.mode = 2 || x.mode = 3) && wantMode w.req x.mode ≠ x.mode
  { x with lockedFor := heldOn (x.mode = 1 && w.v.st = 2) x.lockedFor, freeFor := heldOn (!w.limited) x.freeFor
           frtWait := wants && (x.frtWait || w.frt.st ≠ 0), limWait := wants && (x.limWait || w.limited)
           cmd := wantMode w.req x.cmd, spent := (x.spent && !c.s.fresh (setSlot 9)) || w.spo }

/-- The trims of the connection point (R217). [log 98: DEDUCED] -/
def LawCtx.pccTrim (c : LawCtx) (x : CoordSt) (mode : Nat) : Rat × Rat :=
  if modeRuns mode && c.s.setPar 7 = 1 && c.me.num 4 0 = 1 then
    let v := (c.first 1).elim {} c.gridV
    let i := (clarke (c.s.chanVals c.me 5)).scale (1 / c.iPeak)
    let g := 2 * piRat * c.s.setPar 8 * c.s.epT
    let lim : Rat := 1 / 10
    (clampRat (-lim) lim (x.trimP + g * (c.s.setPar 0 - (v.x * i.x + v.y * i.y))), clampRat (-lim) lim (x.trimQ + g * (c.s.setPar 1 - (v.y * i.x - v.x * i.y))))
  else (0, 0)

/-- The DC leader (R217). -/
def LawCtx.leader (c : LawCtx) : Option Nat := (c.allOf 5).find? (fun j => (c.old.at j).num 6 0 = 1)

/-- q* before the trims (R216). [log 98: DEDUCED] -/
def LawCtx.qBase (c : LawCtx) (p : Rat) : Rat :=
  let iref := (c.first 5).elim 0 (fun j => (c.old.at j).num 5 0)
  if iref = 1 then
    let pf := c.s.setPar 2
    p * c.quot (sqrtRat (max 0 (1 - pf * pf))) pf
  else c.s.setPar 1

/-- COORD in one epoch. [log 98: DEDUCED] -/
def LawCtx.coordStep (c : LawCtx) (fb : Bool) : CoordSt :=
  let w := c.coordView
  let x := c.coordWaits w
  let m := c.modeNext x w
  let cause := if m = 6 && x.mode ≠ 6 then w.trip else x.cause
  let pdc := c.leader.elim 0 (fun j => (c.inst j).ictl.pdc)
  let slow := if m = 1 && x.mode = 6 then true else x.slow && m ≠ 0
  if fb then { x with mode := m, cause := cause, slow := slow }
  else
    let tr := c.pccTrim x m
    let target := c.s.sdiClamp ((if c.leader.isSome then pdc else c.s.setPar 0) + tr.1)
    let rate := if slow then (c.first 3).elim (c.s.setPar 5) (fun j => c.s.lawPar 3 j 0x1B) else c.s.setPar 5
    let stp := rate * c.s.epT
    let p := if !modeRuns m then 0 else if absRat (target - x.p) ≤ stp then target else if x.p < target then x.p + stp else x.p - stp
    { x with mode := m, cause := cause, slow := slow && !(modeRuns m && p = target), p := p, q := c.qBase p + tr.2 + w.ai.bias, pdc := pdc
             trimP := tr.1, trimQ := tr.2 }

def LawCtx.runCoord (c : LawCtx) (fb : Bool) : LawOut :=
  let x := c.coordStep fb
  { l := { c.me with coord := x }
    ws := [c.status x.mode ((c.me.chan 5).useB) (0 < (c.s.chanNext c.me 5).lost && c.me.num 4 0 = 1),
           (1, w32 (x.mode + 16 * x.cause + 256 * c.frt.st)), (2, bfWord x.p), (3, bfWord x.q), (4, bfWord x.pdc)] }

/-! ## GFM -/

/-- A vector by the impedance `r + j x`, and divided by it. -/
def Vec.timesZ (a : Vec) (r x : Rat) : Vec := ⟨r * a.x - x * a.y, r * a.y + x * a.x⟩
def LawCtx.overZ (c : LawCtx) (a : Vec) (r x : Rat) : Vec :=
  let d := r * r + x * x
  ⟨c.quot (a.x * r + a.y * x) d, c.quot (a.y * r - a.x * x) d⟩

/-- p and q of a voltage and a current in one frame (R208). -/
def vecP (v i : Vec) : Rat := v.x * i.x + v.y * i.y
def vecQ (v i : Vec) : Rat := v.y * i.x - v.x * i.y

/-- The entry to GFM (R222): from the current that the bridges carry, or into black start. [log 101: DEDUCED] -/
def LawCtx.gfmEnter (c : LawCtx) (v : SyncView) (black : Bool) : GfmSt :=
  if black then { on := true, w := 1, delta := 0, e := 0 }
  else
    let u := (c.gridV v.j).park v.theta
    let i := c.stationI.park v.theta
    let e := u.add (i.timesZ (c.par 7) (c.par 8))
    let q := vecQ u i
    let mag := e.mag
    { on := true, w := v.f / c.fN, delta := fracTurn (v.theta + ((angleRat e.x e.y).toNat : Rat) / 2 ^ 32), e := mag
      y := mag - c.par 6 - c.par 4 * (c.s.setPar 1 - q), pf := vecP u i, qf := q }

/-- The swing equation, the filters and the internal voltage of one epoch (R219, R220). [log 101: DEDUCED] -/
def LawCtx.gfmSwing (c : LawCtx) (x : GfmSt) (v : SyncView) (mode : Nat) : GfmSt :=
  let tt := c.s.epT
  let u := (c.gridV v.j).park x.delta
  let i := c.stationI.park x.delta
  let k := tt / (c.par 9 / 1000)
  let pf := x.pf + k * (vecP u i - x.pf)
  let qf := x.qf + k * (vecQ u i - x.qf)
  let wref := if c.par 2 = 1 || v.st = 3 || v.st = 0 then 1 else v.f / c.fN
  let dw := (c.s.sdiClamp c.pStar - pf - (x.w - 1) / c.par 3 - c.par 1 * (x.w - wref)) / (2 * c.par 0)
  let lim := c.par 0x0B
  let dq := c.s.setPar 1 - qf
  let y := if x.limited then x.y else x.y + c.par 5 * dq * tt
  let soft := if mode = 5 then x.soft + tt * 1000 else x.soft
  let e := if mode = 5 then c.par 6 * min 1 (soft / c.par 0x0A) else c.par 6 + c.par 4 * dq + y
  { x with w := clampRat (1 - lim) (1 + lim) (x.w + tt * dw), pf := pf, qf := qf, y := y, soft := soft, e := e }

/-- The reference current, scaled to I_MAX (R220, R221). [log 101: DEDUCED] -/
def LawCtx.gfmRef (c : LawCtx) (x : GfmSt) (v : SyncView) : GfmSt :=
  let u := (c.gridV v.j).park x.delta
  let i := c.overZ ⟨x.e - u.x, -u.y⟩ (c.par 7) (c.par 8)
  let imax := (c.allOf 5).foldl (fun m j => min m (c.s.lawPar 5 j 5)) (3 / 2)
  let mag := i.mag
  let r := if imax < mag then i.scale (imax / mag) else i
  { x with idRef := r.x, iqRef := r.y, limited := decide (imax < mag) }

/-- GFM in one epoch. -/
def LawCtx.gfmStep (c : LawCtx) (fb : Bool) : GfmSt :=
  let x := c.me.gfm
  let m := c.coord.mode
  let v := c.sync 1
  if !(m = 3 || m = 4 || m = 5) then { x with on := false, limited := false }
  else if !x.on then c.gfmRef (c.gfmEnter v (m = 5)) v
  else
    let y := { x with delta := fracTurn (x.delta + x.w * c.fN * c.s.epT) }
    if fb then y else c.gfmRef (c.gfmSwing y v m) v

def LawCtx.runGfm (c : LawCtx) (fb : Bool) : LawOut :=
  let x := c.gfmStep fb
  { l := { c.me with gfm := x }
    ws := [c.status 0 x.limited false, (1, turnWord x.delta), (2, bfWord x.w), (3, bfWord x.e), (4, bfWord x.pf), (5, bfWord x.qf),
           (6, turnWord (x.delta - (c.sync 1).theta))] }

end Sys2Proof.Machine
end

