-- ==== Sys2Proof/Machine/LawPower.lean ====
section
/-!
DEFINITION. The laws ICTL and MPPT (R215 to R218, R225, R232 to R235, R240).
-/
namespace Sys2Proof.Machine

/-! ## ICTL -/

/-- The bridge follows GFM (R216, R221): in the modes that GFM forms, and for the first epoch of GFL after them, with the last reference (R237). -/
def LawCtx.follows (c : LawCtx) : Bool :=
  let m := c.coord.mode
  c.me.num 5 0 = 3 && (m = 3 || m = 4 || m = 5) && c.gfm.on

def LawCtx.lingers (c : LawCtx) : Bool :=
  c.coord.mode = 2 && ((c.first 4).elim false (fun j => (c.old.at j).gfm.on)) && c.me.num 5 0 = 3

/-- The frame of ICTL: its angle at this commit with the frequency, and θ_i (R215). -/
structure IctlFrame where
  th : Rat
  f : Rat

def LawCtx.ictlFrame (c : LawCtx) : IctlFrame :=
  let m := c.coord.mode
  let v := c.sync 8
  let adv := c.par 6
  match c.first 4 with
  | some j =>
    if (m = 3 || m = 4 || m = 5) && c.gfm.on then
      let f := c.val j 2 (c.inst j).gfm.w * c.fN
      ⟨fracTurn (c.ang j 1 (c.inst j).gfm.delta + f * (c.delay j + adv) * c.s.epT), f⟩
    else ⟨fracTurn (v.theta + v.f * (v.d + adv) * c.s.epT), v.f⟩
  | none => ⟨fracTurn (v.theta + v.f * (v.d + adv) * c.s.epT), v.f⟩

/-- The references before the limit (R216, R225). [log 96: DEDUCED] -/
def LawCtx.ictlAsk (c : LawCtx) : Vec :=
  let frt := c.frt
  let v := max (c.sync 8).vp (1 / 10)
  let p := c.s.sdiClamp (if c.me.num 6 0 = 1 then c.coord.pdc else c.pStar)
  let g := c.gfm
  if c.follows then ⟨g.idRef, g.iqRef⟩
  else if c.lingers then (c.first 4).elim {} (fun j => ⟨(c.old.at j).gfm.idRef, (c.old.at j).gfm.iqRef⟩)
  else if frt.st ≠ 0 then ⟨frt.idRef, -frt.ir⟩
  else if c.me.num 5 0 = 2 then ⟨c.s.setPar 3, c.s.setPar 4⟩
  else ⟨p / v, -c.qStar / v⟩

/-- The limit of |i*| with its priority (R216). [log 104: DEDUCED] -/
def limitRef (a : Vec) (imax : Rat) (qFirst : Bool) : Vec :=
  if a.x * a.x + a.y * a.y ≤ imax * imax then a
  else if qFirst then
    let q := clampRat (-imax) imax a.y
    let m := sqrtRat (imax * imax - q * q)
    ⟨clampRat (-m) m a.x, q⟩
  else
    let d := clampRat (-imax) imax a.x
    let m := sqrtRat (imax * imax - d * d)
    ⟨d, clampRat (-m) m a.y⟩

/-- The modulation of three phase voltages in p.u., clipped, and whether a clip acted (R218). -/
structure Modul where
  m : List Rat
  lim : Vec
  clipped : Bool

/-- `zero` adds the zero-sequence term. -/
def LawCtx.modulate (c : LawCtx) (u : Vec) (vdc : Rat) (zero : Bool) : Modul :=
  let ph := unclarke u
  let mx := ph.foldl max (ph.headD 0)
  let mn := ph.foldl min (ph.headD 0)
  let z := if zero then -(mx + mn) / 2 else 0
  let raw := ph.map (fun x => c.quot ((x + z) * c.vPeak) (vdc / 2))
  let m := raw.map (clampRat (-1) 1)
  { m := m, clipped := raw != m, lim := if raw = m then u else (clarke (m.map (fun x => x * (vdc / 2)))).scale (1 / c.vPeak) }

/-- The DC-link loop of the leader (R217). -/
def LawCtx.ictlDc (c : LawCtx) (x : IctlSt) (vdc : Rat) : IctlSt :=
  if c.leader = some c.i then
    let set := c.par 7
    let e := (vdc - set) / set
    let n := x.vdcInt + e * c.s.epT
    { x with vdcInt := n, pdc := -(c.par 8 * e + c.par 9 * n) }
  else x

/-- The station drives no bridge: OFF, SYNCING, TRIPPED, or momentary cessation (R218, R225). [log 100: DEDUCED] -/
def LawCtx.ictlOff (c : LawCtx) : Bool := !modeRuns c.coord.mode || c.frt.cease

/-- The negative-sequence reference of FRT: an inductive current K2·V−, or zero outside a fault (R218, R225). [log 102: DEDUCED] -/
def LawCtx.negRef (c : LawCtx) (vn : Vec) : Vec :=
  match c.first 2 with
  | some j => if c.frt.st = 0 then {} else Vec.mk vn.y (-vn.x) |>.scale (c.s.lawPar 2 j 8)
  | none => {}

/-- ICTL in one epoch, with the modulation of its legs. [log 104: DEDUCED] -/
def LawCtx.ictlStep (c : LawCtx) (fb : Bool) : IctlSt × List Rat :=
  let tt := c.s.epT
  let fr := c.ictlFrame
  let v := c.sync 8
  let grid := c.gridV v.j
  let vdc := (c.s.chanVals c.me 22).getD 0 0
  let x := c.ictlDc c.me.ictl vdc
  if fb then
    let w := c.modulate grid vdc false
    ({ x with angle := turnWord fr.th, clipped := w.clipped }, w.m)
  else
    let ivec := c.bridgeI c.i
    let i := ivec.park fr.th
    let u := grid.park fr.th
    let ask := c.ictlAsk
    let imax := c.par 5
    let qf := c.s.setPar 6 = 1 || c.frt.st ≠ 0
    let r := limitRef ask imax qf
    let kp := c.par 1 * c.par 0 / c.fN
    let ki := 2 * piRat * c.par 0 * c.par 2
    let xf := fr.f / c.fN * c.par 1
    let kff := c.par 3
    let ud := kff * u.x + kp * (r.x - i.x) + x.xd - xf * i.y
    let uq := kff * u.y + kp * (r.y - i.y) + x.xq + xf * i.x
    let neg := c.me.num 7 0 = 1
    let nth := -fr.th
    let ni := ivec.park nth
    let sy := (c.inst v.j).sync
    let nr := c.negRef (sy.negSeq.park nth)
    let un : Vec := if neg then ⟨kp * (nr.x - ni.x) + x.nd, kp * (nr.y - ni.y) + x.nq⟩ else {}
    let total := ((Vec.mk ud uq).turn fr.th).add (un.turn nth)
    let w := c.modulate total vdc true
    let err := w.lim.sub total
    let pe := err.park fr.th
    let ne := err.park nth
    let kaw := c.par 4
    let off := c.ictlOff
    ({ x with angle := turnWord fr.th
              xd := x.xd + tt * ki * (r.x - i.x) + kaw * pe.x, xq := x.xq + tt * ki * (r.y - i.y) + kaw * pe.y
              nd := if neg then x.nd + tt * ki * (nr.x - ni.x) + kaw * ne.x else x.nd
              nq := if neg then x.nq + tt * ki * (nr.y - ni.y) + kaw * ne.y else x.nq
              id_ := i.x, iq := i.y, idRef := r.x, iqRef := r.y, p := vecP u i, q := vecQ u i, limited := !off && r != ask, clipped := w.clipped }, w.m)

def LawCtx.runIctl (c : LawCtx) (fb : Bool) : LawOut :=
  let r := c.ictlStep fb
  let x := r.1
  { l := { c.me with ictl := x }
    ws := [c.status 0 x.limited x.clipped, (1, x.angle), (2, bfWord x.id_), (3, bfWord x.iq), (4, bfWord x.p), (5, bfWord x.q), (7, bfWord x.idRef),
           (8, bfWord x.iqRef)] ++
      (List.range 3).flatMap (fun j => offWords (0x40 + 8 * j) (c.s.legWords (c.me.num (1 + j) 0) c.ictlOff (r.2.getD j 0))) }

/-! ## MPPT -/

/-- The sections between two changes of V_ref (R233). -/
def LawCtx.mpSections (c : LawCtx) : Nat := (max 1 ((c.par 1 / 1000 / (8 * c.s.epT)).ceil)).toNat

/-- The step of local tracking: up, down or none (R233). -/
def LawCtx.mpStep (c : LawCtx) (x : TrkSt) (pk v i : Rat) : TrkSt × Int :=
  if c.par 0 = 0 then
    let d := pk - x.lastP
    let db := c.par 3
    let dir : Int := if x.up then 1 else -1
    if db < d then (x, dir) else if d < -db then ({ x with up := !x.up }, -dir) else (x, 0)
  else
    let di := i - x.lastI
    let dv := v - x.lastV
    let y := c.quot i v
    if dv = 0 then (x, if 0 < di then 1 else if di < 0 then -1 else 0)
    else
      let g := di / dv + y
      if absRat g < c.par 4 * y then (x, 0) else (x, if 0 < g then 1 else if g < 0 then -1 else 0)

/-- The end of a period of T_MP without a scan: curtailment, or tracking (R233, R235). [log 105, 106: DEDUCED] -/
def LawCtx.mpTrack (c : LawCtx) (x : TrkSt) (v i : Rat) : TrkSt :=
  let pk := c.quot x.sumP x.n
  let lim := c.par 0x0A
  let dv := c.par 2
  let curt := if lim = 0 || (x.curt ≠ 0 && x.curt < lim) then 0 else if x.curt ≠ 0 then x.curt else if lim < pk then lim else 0
  let r := if curt ≠ 0 then (x, if lim < pk then 1 else 0) else c.mpStep x pk v i
  let y := r.1
  { y with vref := clampRat (c.par 5) (c.par 6) (x.vref + dv * r.2), curt := curt, p := pk, lastP := pk, lastV := v, lastI := i, sumP := 0, n := 0 }

/-- One section of a scan: dwell, step down, and the return to the best voltage (R234). [log 105: DEDUCED] -/
def LawCtx.mpScan (c : LawCtx) (x : TrkSt) (z : ScanSt) (pw : Rat) : TrkSt :=
  let dwell := (max 1 ((c.par 9 / 1000 / (8 * c.s.epT)).ceil)).toNat
  let a := { z with dwell := z.dwell + 1, sum := z.sum + pw }
  if a.dwell < dwell then { x with scan := some a }
  else
    let mean := a.sum / a.dwell
    let b := if a.n = 0 || a.bestP < mean then { a with bestP := mean, bestV := x.vref } else a
    let next := c.par 6 - (a.n + 1 : Nat) * c.par 8
    if next < c.par 5 then { x with vref := b.bestV, scan := none, scanned := true, sumP := 0, n := 0 }
    else { x with vref := next, scan := some { b with dwell := 0, sum := 0, n := a.n + 1 } }

/-- The voltage loop of a tracker in one epoch (R232). -/
def LawCtx.mpLoop (c : LawCtx) (x : TrkSt) (v : Rat) (off : Bool) : TrkSt :=
  let e := x.vref - v
  let n := x.integ + c.par 0x0C * e * c.s.epT
  let hi := c.par 0x0D
  let d := -(c.par 0x0B) * e - n
  if off then { x with integ := 0, duty := 0, v := v }
  else if d < 0 || hi < d then { x with duty := clampRat 0 hi (-(c.par 0x0B) * e - x.integ), v := v }
  else { x with integ := n, duty := d, v := v }

/-- A scan may run (R234). -/
def LawCtx.scanOk (c : LawCtx) (ts : List TrkSt) : Bool :=
  c.frt.st = 0 && (c.coord.mode = 2 || c.coord.mode = 3) && ts.all (fun x => x.curt = 0)

/-- The trackers' scans in a due section: the abort, or the start of the next tracker's scan (R234). [log 105: DEDUCED] -/
def LawCtx.scanMove (c : LawCtx) (ts : List TrkSt) : List TrkSt :=
  if !c.scanOk ts then
    if ts.any (fun x => x.scan.isSome) then
      ts.map (fun x => match x.scan with
        | some z => { x with vref := z.before, scan := none, scanned := true, sumP := 0, n := 0 }
        | none => { x with scanned := true })
    else ts
  else if ts.any (fun x => x.scan.isSome) then ts
  else
    match ts.findIdx? (fun x => !x.scanned) with
    | some t => ts.modify t (fun x => { x with vref := c.par 6, scan := some { before := x.vref } })
    | none => ts

/-- MPPT in one epoch: the trackers, and the epochs since the last scan began. [log 89: DEDUCED] -/
def LawCtx.mpptStep (c : LawCtx) (fb : Bool) : List TrkSt × Nat :=
  let nT := c.me.num 1 0
  let off := !modeRuns c.coord.mode
  let vi := fun (t : Nat) => ((c.s.chanVals c.me (3 + 27 * t)).getD 0 0, (c.s.chanVals c.me (16 + 27 * t)).getD 0 0)
  let ts0 := (List.range nT).map (fun t =>
    let x := c.me.trk.getD t {}
    if x.started then { x with vref := clampRat (c.par 5) (c.par 6) x.vref }
    else { x with started := true, vref := clampRat (c.par 5) (c.par 6) (Config.freeRat (c.s.freeN + 16 + t)) })
  let int_ := c.par 7
  let cnt := c.me.scanFor + 1
  let due := decide (0 < int_) && decide (int_ * 60 ≤ cnt * c.s.epT)
  let ts1 := if due && !fb then ts0.map (fun x => { x with scanned := false }) else ts0
  let ts2 := if c.k % 8 = 0 && !fb then
      ((c.scanMove ts1).zipIdx).map (fun e =>
        let x := e.1
        let (v, i) := vi e.2
        match x.scan with
        | some z => c.mpScan x z (v * i)
        | none =>
          let y := { x with sumP := x.sumP + v * i, n := x.n + 1 }
          if c.mpSections ≤ y.n then c.mpTrack y v i else y)
    else ts1
  ((ts2.zipIdx).map (fun e => c.mpLoop e.1 (vi e.2).1 off), if due then 0 else cnt)

def LawCtx.runMppt (c : LawCtx) (fb : Bool) : LawOut :=
  let r := c.mpptStep fb
  let ts := r.1
  let scanning := (ts.zipIdx).foldl (fun m e => if e.1.scan.isSome then m + 2 ^ e.2 else m) 0
  let off := !modeRuns c.coord.mode
  { l := { c.me with trk := ts, scanFor := r.2 }
    ws := c.status 0 false false (2 ^ 16 * scanning) ::
      (ts.zipIdx).flatMap (fun e =>
        [(0x10 + 4 * e.2, bfWord e.1.vref), (0x11 + 4 * e.2, bfWord e.1.p), (0x12 + 4 * e.2, bfWord e.1.v), (0x13 + 4 * e.2, bfWord e.1.duty)] ++
        offWords (0x40 + 8 * e.2) (c.s.trkWords (c.me.num (2 + 27 * e.2) 0) off e.1.duty)) }

end Sys2Proof.Machine
end

