-- ==== Sys2Proof/Machine/LawSync.lean ====
section
/-!
DEFINITION. The laws SYNC, FRT and AI (R210 to R214, R223 to R231, R240). `fb` says that the binding runs its fallback part.
-/
namespace Sys2Proof.Machine

/-! ## SYNC -/

/-- One integrator of the DSOGI by the trapezoidal rule, with `a` half of ω·h: from (`v`, `q`) with the inputs `u0` and `u1` (R212). -/
def sogi (kk a u0 u1 v q : Rat) : Rat × Rat :=
  let v1 := (v * (1 - a * kk - a * a) + a * kk * (u0 + u1) - 2 * a * q) / (1 + a * kk + a * a)
  (v1, q + a * (v + v1))

/-- The filters of R212 at a commit that brings the voltage `u`, `h` seconds after the last one. [log 93: DEDUCED] -/
def SyncSt.filter (x : SyncSt) (kk f h shift : Rat) (u : Vec) : SyncSt :=
  let a := piRat * f * h
  let r := sogi kk a x.ua u.x x.sa x.qa
  let q := sogi kk a x.ub u.y x.sb x.qb
  let y := { x with ua := u.x, ub := u.y, sa := r.1, qa := r.2, sb := q.1, qb := q.2 }
  let p := y.posSeq.turn shift
  { y with pa := p.x, pb := p.y, vp := p.mag, vn := y.negSeq.mag }

/-- The loop of R213 over `h` seconds; the clamp stops x. [log 94: DEDUCED] -/
def SyncSt.loop (x : SyncSt) (fN bw zeta lim e h : Rat) : SyncSt :=
  let wn := 2 * piRat * bw
  let w := 2 * piRat * fN + 2 * zeta * wn * e + x.x
  let lo := 2 * piRat * (fN - lim)
  let hi := 2 * piRat * (fN + lim)
  let x2 := if (hi < w && 0 < e) || (w < lo && e < 0) then x.x else x.x + wn * wn * e * h
  { x with e := e, x := x2, f := clampRat lo hi w / (2 * piRat) }

/-- The state of SYNC by R214: the loss of the voltage or of the channel, its return, and the lock. [log 94: DEDUCED] -/
def syncNext (st : Nat) (low back locks fails : Bool) : Nat :=
  if st = 0 then (if back then 1 else 0)
  else if st = 3 then (if back then 1 else 3)
  else if low then 3
  else if st = 1 then (if locks then 2 else 1)
  else if fails then 1 else 2

/-- SYNC in one epoch. [log 93, 94: DEDUCED] -/
def LawCtx.syncStep (c : LawCtx) (fb : Bool) : SyncSt :=
  let s := c.s
  let x := c.me.sync
  let ch := c.me.chan 1
  let src := c.me.src 1 ch.useB
  let first := x.hist.isEmpty
  let f0 := if first then c.fN else x.f
  let th := if first then 0 else fracTurn (x.theta + f0 * s.epT)
  if fb then { x with st := 3, f := f0, theta := th, hist := f0 :: x.hist }
  else
    let upd := !src.sv || s.srcFresh src
    let h : Rat := if src.sv then (((if ch.useB then ch.ageB else ch.ageA) + s.tim.epLen : Nat) : Rat) / tickSec else s.epT
    let u := (clarke (s.chanVals c.me 1)).scale (1 / c.vPeak)
    let y0 := { x with f := f0, theta := th }
    let y := if upd then y0.filter (c.par 2) f0 h src.shift u
      else
        let p := (Vec.mk x.pa x.pb).turn (f0 * s.epT)
        { y0 with pa := p.x, pb := p.y }
    let lost := 0 < (s.chanNext c.me 1).lost
    let hold := c.par 4
    let low := decide (y.vp < hold) || lost
    let back := decide (hold + 1 / 20 < y.vp) && !lost
    let frozen := (x.st = 3 && !back) || (x.st ≠ 0 && low) || lost
    let dq := (Vec.mk y.pa y.pb).park th
    let e := dq.y / max y.vp hold
    let z := if frozen || !upd then y else y.loop c.fN (c.par 0) (c.par 1) (c.par 3) e h
    let lim := c.par 5
    let good := decide (absRat z.e < lim) && decide (absRat (z.f - c.fN) < c.par 3)
    let bad := decide (2 * lim ≤ absRat z.e)
    let lockFor := heldOn (x.st = 1 && good) x.lockFor
    let badFor := heldOn (x.st = 2 && bad) x.badFor
    let lt := msTicks (c.par 6)
    let st := if lost then 3 else syncNext x.st low back (s.lasted lockFor lt) (s.lasted badFor lt)
    let n := (max 1 (ratRound (c.par 7 / 1000 / s.epT))).toNat
    let hist := (z.f :: x.hist).take (n + 1)
    { z with st := st, phi := angleRat dq.x dq.y, lockFor := if st = 1 then lockFor else 0, badFor := if st = 2 then badFor else 0,
             rocof := (z.f - hist.getD n c.fN) / (n * s.epT), hist := hist }

def LawCtx.runSync (c : LawCtx) (fb : Bool) : LawOut :=
  let x := c.syncStep fb
  let ch := c.s.chanNext c.me 1
  { l := { c.me with sync := x }
    ws := [c.status x.st (c.me.chan 1).useB (0 < ch.lost), (1, turnWord x.theta), (2, bfWord x.f), (3, bfWord x.vp), (4, bfWord x.vn), (5, bfWord x.rocof),
           (6, x.phi)] }

/-! ## FRT -/

/-- The value of a curve at `t` ms: interpolated, its first value before its first point, its last beyond its last (R224). -/
def curveAt (t : Rat) : List (Rat × Rat) → Rat
  | [] => 0
  | [p] => p.2
  | p :: q :: r =>
    if t ≤ p.1 then p.2
    else if t ≤ q.1 then p.2 + (q.2 - p.2) * (t - p.1) / (q.1 - p.1)
    else curveAt t (q :: r)

/-- The curve that the host's slots hold from Idx `i` on. -/
def LawCtx.curve (c : LawCtx) (i : Nat) : List (Rat × Rat) := (List.range 8).map (fun n => (c.par (i + 2 * n), c.par (i + 1 + 2 * n)))

/-- The mean of the values kept, or `d` for none. -/
def meanOr (d : Rat) (l : List Rat) : Rat := if l.isEmpty then d else l.foldl (fun a b => a + b) 0 / l.length

/-- A fault entry (R223 to R225): the curves are latched, and the means of the second before stand for the fault. [log 95: DEDUCED] -/
def LawCtx.frtEnter (c : LawCtx) (x : FrtSt) (st : Nat) (v : SyncView) (id_ : Rat) : FrtSt :=
  let merge := x.exited && decide ((((x.sinceExit * c.s.tim.epLen : Nat) : Rat)) ≤ msTicks (c.par 0x0C))
  { x with st := st, elapsed := if merge then x.elapsed else 0, exitFor := 0, minV := v.vp, lv := c.curve 0x10, hv := c.curve 0x20,
           vRef := if c.par 7 = 1 then meanOr v.vp x.vHist else 1, irPre := meanOr 0 x.irHist, idPre := id_ }

/-- The reactive current that a voltage asks for (R225). -/
def LawCtx.frtIr (c : LawCtx) (x : FrtSt) (vp : Rat) : Rat :=
  let dv := x.vRef - vp
  let db := c.par 6
  if db < absRat dv then x.irPre + c.par 5 * (dv - db * (if 0 ≤ dv then 1 else -1)) else x.irPre

/-- The transitions of R223. `idStar` is the active current that p* asks for, `idRef` the reference in force. [log 95: DEDUCED] -/
def LawCtx.frtMove (c : LawCtx) (x : FrtSt) (v : SyncView) (id_ idRef idStar : Rat) : FrtSt :=
  let s := c.s
  let sum := v.vp + v.vn
  let y := { x with normalFor := if x.st = 0 then x.normalFor + 1 else 0, sinceExit := x.sinceExit + 1 }
  match x.st with
  | 0 =>
    if v.vp < c.par 0 then c.frtEnter y 1 v id_
    else if c.par 2 < sum then c.frtEnter y 2 v id_
    else y
  | 3 =>
    let stp := c.par 0x0A * s.epT
    if absRat (idStar - x.idRef) ≤ stp then { y with st := 0, idRef := idStar, normalFor := 0 }
    else { y with idRef := if x.idRef < idStar then x.idRef + stp else x.idRef - stp }
  | _ =>
    let out := if x.st = 1 then decide (c.par 1 < v.vp) else decide (sum < c.par 3)
    let n := heldOn out x.exitFor
    let z := { y with elapsed := x.elapsed + s.tim.epLen, exitFor := n, minV := min x.minV v.vp }
    if s.lasted n (msTicks (c.par 4)) then { z with st := 3, exited := true, sinceExit := 0, idRef := idRef } else z

/-- FRT in one epoch. -/
def LawCtx.frtStep (c : LawCtx) (fb : Bool) : FrtSt :=
  let s := c.s
  let x := c.me.frt
  let v := c.sync 1
  let lead := c.first 5
  let id_ := lead.elim 0 (fun j => c.val j 2 (c.inst j).ictl.id_)
  let ir := lead.elim 0 (fun j => -(c.val j 3 (c.inst j).ictl.iq))
  let idRef := lead.elim 0 (fun j => c.val j 7 (c.inst j).ictl.idRef)
  let y := c.frtMove x v id_ idRef (c.pStar / max v.vp (1 / 10))
  let tms : Rat := (y.elapsed : Rat) / tickMs
  let trip := if y.st = 1 && decide (v.vp < curveAt tms y.lv) then 10 else if y.st = 2 && decide (curveAt tms y.hv < v.vp + v.vn) then 11 else 0
  let mc := c.par 0x0B
  let cease := decide (0 < mc) && (decide (v.vp < mc) || (x.cease && decide (v.vp ≤ mc + 1 / 20)))
  let n := tickSec / s.tim.epLen
  let z := { y with trip := trip, cease := cease, vHist := (v.vp :: x.vHist).take n, irHist := (ir :: x.irHist).take n }
  if fb then { z with ir := x.ir, added := x.added, idRef := x.idRef }
  else
    let r := if z.st = 0 then 0 else if z.st = 3 then z.irPre else c.frtIr z v.vp
    let mode := c.par 9
    { z with ir := r, added := if z.st = 0 then 0 else r - z.irPre
             idRef := if z.st = 1 || z.st = 2 then (if mode = 0 then z.idPre else if mode = 1 then z.idPre * v.vp else 0) else z.idRef }

/-- [log 107: DEDUCED] -/
def LawCtx.runFrt (c : LawCtx) (fb : Bool) : LawOut :=
  let x := c.frtStep fb
  { l := { c.me with frt := x }
    ws := [c.status x.st false false, (1, w32 (x.elapsed / tickMs)), (2, bfWord x.added), (3, bfWord x.minV)]
    logs := if x.trip ≠ 0 && c.me.frt.trip = 0 then [(9, [w32 x.trip])] else [] }

/-! ## AI -/

/-- The stages beyond their levels (R226): UV1, UV2, OV1, OV2, UF1, UF2, OF1, OF2, ROCOF. -/
def LawCtx.aiBeyond (c : LawCtx) (v : SyncView) : List Bool :=
  let d := v.f - c.fN
  [decide (v.vp < c.par 0), decide (v.vp < c.par 2), decide (c.par 4 < v.vp), decide (c.par 6 < v.vp), decide (d < c.par 8), decide (d < c.par 0x0A),
   decide (c.par 0x0C < d), decide (c.par 0x0E < d), decide (c.par 0x10 < absRat v.rocof)]

/-- ROCOF and vector shift are blocked (R227). -/
def LawCtx.aiBlocked (c : LawCtx) (v : SyncView) : Bool :=
  let x := c.frt
  x.st ≠ 0 || v.st = 3 || (x.exited && decide ((((x.normalFor * c.s.tim.epLen : Nat) : Rat)) < msTicks (c.par 0x15)))

/-- Bit `n` of the transfer-trip slot (R229). -/
def LawCtx.ttBit (c : LawCtx) (n d : Nat) : Bool :=
  c.me.num 2 0xFFFF ≠ 0xFFFF && (c.s.slot (c.me.num 2 0xFFFF)).toNat.testBit (c.me.num n d)

/-- The causes of this epoch in ascending order (R226 to R229). [log 97: DEDUCED] -/
def LawCtx.aiCauses (c : LawCtx) (v : SyncView) (stage : List Nat) (bias : Rat) (ttLost : Bool) : List Nat :=
  let hit := fun (i : Nat) => c.s.lasted (stage.getD i 0) (msTicks (c.par (2 * i + 1)))
  let vs := !c.aiBlocked v && decide (c.par 0x12 < absRat ((v.phi.toInt : Rat) / 2 ^ 32 * 360))
  let uf := hit 4 || hit 5
  let of_ := hit 6 || hit 7
  let afs := decide (bias ≠ 0)
  ([(1, hit 0 || hit 1), (2, hit 2 || hit 3), (3, uf && !afs), (4, of_ && !afs), (5, hit 8), (6, vs), (7, afs && (uf || of_)),
    (8, c.ttBit 3 0 && c.ttBit 4 31), (9, ttLost)].filter (fun e => e.2)).map (fun e => e.1)

/-- The conditions of reconnection (R231). -/
def LawCtx.rcOk (c : LawCtx) (v : SyncView) : Bool :=
  let d := v.f - c.fN
  decide (c.par 0x17 ≤ v.vp) && decide (v.vp ≤ c.par 0x18) && decide (c.par 0x19 ≤ d) && decide (d ≤ c.par 0x1A) && !c.ttBit 3 0

/-- AI in one epoch, with the causes it finds. [log 97: DEDUCED] -/
def LawCtx.aiStep (c : LawCtx) (fb : Bool) : AiSt × List Nat :=
  let s := c.s
  let x := c.me.ai
  let v := c.sync 1
  let co := c.coord
  let calm := c.frt.st = 0
  let blk := c.aiBlocked v
  let stage := ((c.aiBeyond v).zipIdx).map (fun e => heldOn (e.1 && (calm || 4 ≤ e.2) && !(blk && e.2 = 8)) (x.stage.getD e.2 0))
  let lim := c.par 0x14
  let bias := if !fb && co.mode = 2 && v.st = 2 && calm then clampRat (-lim) lim (c.par 0x13 * (v.f - c.fN)) else 0
  let ttFor := heldOn (c.me.num 2 0xFFFF ≠ 0xFFFF && !c.ttBit 4 31) x.ttFor
  let ttLost := s.lasted ttFor (msTicks (c.me.num 6 1000))
  let cs := c.aiCauses v stage bias (ttLost && c.me.num 5 0 = 1)
  let ride := c.me.num 7 0 = 1 && (co.mode = 3 || co.mode = 4)
  let trips := if ride then cs.filter (fun k => k < 5) else cs
  let island := ride && (co.mode = 4 || cs.any (fun k => 5 ≤ k)) && trips.isEmpty
  ({ x with stage := stage, bias := bias, ttFor := ttFor, ttLogged := ttLost, island := island, trip := trips.headD 0,
            cause := if cs.isEmpty then x.cause else cs.headD 0, rcFor := heldOn (co.mode = 6 && c.rcOk v) x.rcFor }, cs)

/-- [log 107: DEDUCED] -/
def LawCtx.runAi (c : LawCtx) (fb : Bool) : LawOut :=
  let r := c.aiStep fb
  let x := r.1
  { l := { c.me with ai := x }
    ws := [c.status 0 x.island false, (1, w32 x.cause), (2, bfWord x.bias)]
    logs := (if x.ttLogged && !c.me.ai.ttLogged then [(8, [])] else []) ++ (if x.trip ≠ 0 && c.me.ai.trip = 0 then [(9, [w32 x.trip])] else []) }

end Sys2Proof.Machine
end

