-- ==== Sys2Proof/Machine/LawRun.lean ====
section
/-!
DEFINITION. The laws of one epoch (R203 to R205, R241), and the composition of a binding's recipe from its instances.
-/
namespace Sys2Proof.Machine

/-- One instance runs its law. -/
def LawCtx.run (c : LawCtx) (fb : Bool) : LawOut :=
  match c.me.typ with
  | 0 => c.runCoord fb
  | 1 => c.runSync fb
  | 2 => c.runFrt fb
  | 3 => c.runAi fb
  | 4 => c.runGfm fb
  | 5 => c.runIctl fb
  | _ => c.runMppt fb

/-- The state of a law as it is kept. -/
def SyncSt.kept (x : SyncSt) : SyncSt :=
  { x with theta := keepRat x.theta, f := keepRat x.f, x := keepRat x.x, sa := keepRat x.sa, qa := keepRat x.qa, sb := keepRat x.sb, qb := keepRat x.qb
           ua := keepRat x.ua, ub := keepRat x.ub, pa := keepRat x.pa, pb := keepRat x.pb, vp := keepRat x.vp, vn := keepRat x.vn, e := keepRat x.e
           rocof := keepRat x.rocof, hist := (x.hist.take 1).map keepRat ++ x.hist.drop 1 }

def FrtSt.kept (x : FrtSt) : FrtSt :=
  { x with minV := keepRat x.minV, vRef := keepRat x.vRef, irPre := keepRat x.irPre, idPre := keepRat x.idPre, ir := keepRat x.ir
           added := keepRat x.added, idRef := keepRat x.idRef }

def CoordSt.kept (x : CoordSt) : CoordSt := { x with p := keepRat x.p, q := keepRat x.q, pdc := keepRat x.pdc, trimP := keepRat x.trimP, trimQ := keepRat x.trimQ }

def GfmSt.kept (x : GfmSt) : GfmSt :=
  { x with w := keepRat x.w, delta := keepRat x.delta, y := keepRat x.y, pf := keepRat x.pf, qf := keepRat x.qf, e := keepRat x.e, soft := keepRat x.soft
           idRef := keepRat x.idRef, iqRef := keepRat x.iqRef }

def IctlSt.kept (x : IctlSt) : IctlSt :=
  { x with xd := keepRat x.xd, xq := keepRat x.xq, nd := keepRat x.nd, nq := keepRat x.nq, id_ := keepRat x.id_, iq := keepRat x.iq
           idRef := keepRat x.idRef, iqRef := keepRat x.iqRef, p := keepRat x.p, q := keepRat x.q, vdcInt := keepRat x.vdcInt, pdc := keepRat x.pdc }

def TrkSt.kept (x : TrkSt) : TrkSt :=
  { x with vref := keepRat x.vref, integ := keepRat x.integ, duty := keepRat x.duty, v := keepRat x.v, p := keepRat x.p, sumP := keepRat x.sumP
           lastP := keepRat x.lastP, lastV := keepRat x.lastV, lastI := keepRat x.lastI }

def LawInst.kept (l : LawInst) : LawInst :=
  { l with sync := l.sync.kept, frt := l.frt.kept, ai := { l.ai with bias := keepRat l.ai.bias }, coord := l.coord.kept, gfm := l.gfm.kept
           ictl := l.ictl.kept, trk := l.trk.map TrkSt.kept }

/-- Instance `i` in epoch `k`: its law on the committed values of `s0`, its output words for the next boundary's commit, and its records
(R205, R211, R229, R238). [log 85: DESIGN CHOICE; 107: DEDUCED] -/
def State.lawStep (s0 : State) (k b : Nat) (fb : Bool) (t : State) (i : Nat) : State :=
  let c : LawCtx := { s := s0, k := k, old := s0.law.inst, now := t.law.inst, i := i }
  let o := c.run fb
  let l := ({ o.l with ch := s0.chansNext c.me } : LawInst).kept
  let t1 := { t with law := { t.law with inst := t.law.inst.set i l } }
  let t2 := o.ws.foldl (fun u e => u.panWrite (ketOwner b) (c.me.base + e.1) i (2 * k + 2) e.2) t1
  let t3 := (List.range (s0.chanChanges c.me)).foldl (fun u _ => u.logRec 0x0F (evCode 0xFF 7) []) t2
  o.logs.foldl (fun u e => u.logRec 0x0F (evCode 0xFF e.1) e.2) t3

/-- The laws of binding `b` in epoch `k`, when its active bank is a composed image and its engine has begun the epoch. [log 85: DESIGN CHOICE] -/
def State.lawBind (s0 : State) (k : Nat) (t : State) (b : Nat) : State :=
  let x := t.bd b
  if x.bank.laws && x.run.active && x.run.epoch = k then
    let ids := lawOrder s0.law.inst b
    let t1 := t.ketMod b (fun y => y.modBank (fun k => { k with descs := s0.lawDescs b }))
    let u := ids.foldl (s0.lawStep k b x.run.fb) t1
    let cyc := (ids.map (fun i => (s0.law.inst.at i).cost x.run.fb (k % 8 = 0))).sum
    u.ketMod b (fun y => y.modRun (fun r => { r with cyc := r.cyc + cyc }))
  else t

/-- The laws of epoch `k` (R203); a value that the spec leaves open is a new one in each epoch. [log 85: DESIGN CHOICE] -/
def State.laws (s : State) (k : Nat) : State :=
  if s.law.inst.isEmpty || s.dev != .run then s
  else
    let t := s.bindings.foldl (s.lawBind k) s
    { t with freeN := t.freeN + 32 }

end Sys2Proof.Machine
end

