-- ==== Sys2Proof/Machine/HostCfg.lean ====
section
/-!
DEFINITION. CFG_LOAD and the configuration store (R39, R203, R242, R256, R436, R439, R461, R462).
-/
namespace Sys2Proof.Machine

/-! ## Applying entries -/

/-- The station declarations (R439): nominal voltages first, then the tolerances of declared references. -/
def State.declPut (s : State) (e : CfgEntry) : State :=
  let n := e.off / 8
  if e.tgt ≠ 0x30 then s
  else
    match s.cmp.cref.find n with
    | none => if e.off % 8 = 0 then { s with cmp := { s.cmp with cref := s.cmp.cref.put n (e.val, none) } } else s
    | some d => { s with cmp := { s.cmp with cref := s.cmp.cref.put n (if e.off % 8 = 0 then (e.val, d.2) else (d.1, some e.val)) } }

/-- A spare descriptor's word is a request of the host's (R39). -/
def State.reqPut (s : State) (n : Nat) (attr : Bool) (v : Word) : State :=
  let d := (s.spareReqs.find n).getD (0#32, 0#32)
  { s with spareReqs := s.spareReqs.put n (if attr then (d.1, v) else (v, d.2)) }

/-- A register entry acts under the rules of its block: spare descriptors are requests, the power thresholds take their values as one set. -/
def State.blockPut (s : State) (e : CfgEntry) : State :=
  let a := e.place
  if 15 < e.tgt then s
  else if 0x111B0 ≤ a && a < 0x11500 then s.reqPut ((a - 0x11100) / 8) (a % 8 = 4) e.val
  else if a = Reg.CLK_HRVTHR || a = Reg.CLK_HRVTHR2 then s.setReg a (e.val &&& 0x01FF01FF#32)
  else s.blockWrite a e.val

/-- The instances that the image creates, in the order of their numbers (R202, R439). [log 223: DEDUCED] -/
def State.lawNew (s : State) (es : List CfgEntry) : State :=
  (List.range 15).foldl (fun t i =>
    match lastVal es (lawPlaceOf i 0) with
    | none => t
    | some w =>
      let l : LawInst := { typ := w.toNat % 16, bind := w.toNat / 256 % 16 }
      let n := t.law.inst.length
      if i < n then { t with law := { t.law with inst := t.law.inst.set i l } }
      else if i = n then { t with law := { t.law with inst := t.law.inst ++ [l] } }
      else t) s

/-- A structural field of an instance. [log 223: DEDUCED] -/
def State.lawFieldPut (s : State) (e : CfgEntry) : State :=
  if e.tgt < 0x20 || 0x2F ≤ e.tgt || e.off = 0 then s
  else { s with law := { s.law with inst := s.law.inst.mod (e.tgt - 0x20) (fun l => { l with fields := l.fields.put (e.off / 4) e.val }) } }

/-- The leg groups that an instance drives (R242). -/
def LawInst.groups (l : LawInst) : List Nat :=
  if l.typ = 5 then [l.num 1 32, l.num 2 32, l.num 3 32]
  else if l.typ = 6 then (List.range (l.num 1 0)).map (fun t => l.num (2 + 27 * t) 32)
  else []

/-- A law is bound to a leg group (R256): CARRIER and POL of the leaders are 1, PAIRMODE and GX64 are 0. -/
def State.lawLeg (s : State) (g : Nat) : State :=
  if s.groups ≤ g then s
  else
    let a := Reg.PWM_LGCFG g
    ((s.setReg a (s.reg a ||| 0x00150000#32)).setFld a F.PWM_LGCFG_CARRIER 1).setFld a F.PWM_LGCFG_PAIRMODE 0 |>.setFld a F.PWM_LGCFG_GX64 0

/-- The composed recipe of binding `b` (R203, R239). The spec does not give its image, so its checksum and BUILD are free values. [log 109: DEDUCED; 224: DESIGN CHOICE] -/
def State.lawBank (s : State) (b : Nat) : KBank :=
  { loaded := true, mark := true, laws := true, crc := (Config.freeValue (s.freeN + 2 * b)).setWidth 32,
    build := (Config.freeValue (s.freeN + 2 * b + 1)).setWidth 32, descs := s.lawDescs b }

/-- The law recipes are composed: each goes through the inactive bank of its binding and is then the active one; a recipe of earlier instances is
gone (R160, R203). [log 109: DEDUCED; 224: DESIGN CHOICE] -/
def State.lawCompose (s : State) : State :=
  let t := s.bindings.foldl (fun (t : State) b => t.ketMod b (fun x =>
    let clean := x.banks.map (fun k => if k.laws then ({} : KBank) else k)
    if (lawOrder s.law.inst b).isEmpty then { x with banks := clean }
    else { x with banks := clean.modify (1 - x.act) (fun _ => s.lawBank b), act := 1 - x.act })) s
  { t with freeN := t.freeN + 24 }

/-- The check marks of every bank as another state has them. -/
def State.marksFrom (s old : State) : State :=
  s.bindings.foldl (fun t b => t.ketMod b (fun x =>
    { x with banks := (x.banks.zipIdx).map (fun e => { e.1 with mark := ((old.bd b).banks.at e.2).mark }) })) s

/-- An entry of a law instance is among them. -/
def hasLaw (es : List CfgEntry) : Bool := es.any (fun e => 0x20 ≤ e.tgt && e.tgt < 0x2F)

/-- Every entry is applied, in the image's order; the banks keep their marks until they are checked against the whole. -/
def State.cfgApply (s : State) (es : List CfgEntry) : State :=
  let decl := es.filter (fun e => e.off % 8 = 0) ++ es.filter (fun e => e.off % 8 ≠ 0)
  let t := ((es.foldl State.blockPut (decl.foldl State.declPut s)).marksFrom s).lawNew es
  let u := es.foldl State.lawFieldPut t
  let v : State := { u with law := { u.law with inst := lawPlace u.law.inst } }
  if !hasLaw es then v
  else ((v.law.inst.flatMap LawInst.groups).foldl (fun (x : State) g => x.lawLeg g) v).lawCompose

/-! ## Refusals -/

/-- Entries of law instances that do not exist: their numbers leave a gap, or no entry gives the type (R202, R439). [log 223: DEDUCED] -/
def State.gapBreaks (s : State) (es : List CfgEntry) : List CfgBreak :=
  (es.filter (fun e => 0x20 + s.law.inst.length ≤ e.tgt && e.tgt < 0x2F)).flatMap (fun e => brk true [e.place])

/-- The first entry that writes one of the places of a broken rule, 0xFFFE where none does (R439). [log 219: DEDUCED] -/
def breakIdx (es : List CfgEntry) (b : CfgBreak) : Nat := ((es.zipIdx).find? (fun e => b.places.contains e.1.place)).elim 0xFFFE (fun e => e.2)

/-- The first refused entry and its status. [log 219: DEDUCED] -/
def firstBreak (es : List CfgEntry) (bs : List CfgBreak) : Option (Nat × Nat) :=
  bs.foldl (fun m b =>
    let i := breakIdx es b
    match m with
    | none => some (i, b.status)
    | some x => if i < x.1 then some (i, b.status) else m) none

/-- The first reason for which the loader rejects a composed recipe, with its binding (R199, R200). -/
def State.lawErr (s : State) : Option (Nat × Nat) :=
  s.bindings.findSome? (fun b =>
    let k := (s.bd b).bank
    if k.laws then ((plainErr (k.descs.any s.descBad) 0x0F).or ((s.budgetErr b k).or (plainErr (!s.bindingOk b) 0x14))).map (fun w => (w, b)) else none)

/-- How the check of an image ends. -/
inductive CfgVerdict where
  | entry (i status : Nat)
  | spares (n : Nat)
  | recipe (word b : Nat)
  | good
  deriving DecidableEq, Repr

/-- The check of an image: each entry, then the configuration that it leads to, its spare descriptors, and the composed recipes (R39, R439). [log 219: DEDUCED] -/
def State.cfgCheck (s : State) (es : List CfgEntry) : CfgVerdict :=
  match (es.zipIdx).findSome? (fun e => (s.entryErr e.1).map (fun st => (e.2, st))) with
  | some (i, st) => .entry i st
  | none =>
    let v := (s.cfgApply es).settledWrites
    match firstBreak es (v.gapBreaks es ++ v.cfgBreaks es) with
    | some (i, st) => .entry i st
    | none =>
      if 106 < v.reqsNeeded.length then .spares v.reqsNeeded.length
      else
        match (if hasLaw es then v.lawErr else none) with
        | some (w, b) => .recipe w b
        | none => .good

/-- The blocks that an image writes, with the descriptor table, and the engines where it composes recipes (R423, R436). [log 187: DEDUCED] -/
def cfgWrites (es : List CfgEntry) : List Nat := 1 :: ((es.map (fun e => e.tgt)).filter (fun t => t < 16) ++ (if hasLaw es then [15] else []))

/-- CFG_LOAD (R39, R436, R439): an image is applied whole or not at all. [log 219: DEDUCED] -/
def execCfgLoad (tag : Fin 64) (dma : List Byte) (s : State) : Host.Outcome State Fault Refusal :=
  .next (s.command tag 0x05 (fun t c =>
    let bs := t.dataIn c dma
    let es := cfgEntries bs
    if !cfgHeadOk bs then t.finish tag stRange 0xFFFE#32
    else if t.writeOpen (cfgWrites es) then t.finish tag stBusy
    else
      match t.cfgCheck es with
      | .entry i st => t.finish tag st (w32 i)
      | .spares n => (t.spareFull n).finish tag stRange 0xFFFE#32 (v0 := w32 n)
      | .recipe w b => (t.logRec 0x0F (evCode 0xFF 6) [w32 w, 0#32]).finish tag stRange 0xFFFF#32 (v0 := w32 w) (v1 := w32 b)
      | .good => ((t.cfgApply es).allocate.storeDue).finish tag stOk))

/-! ## The configuration store -/

/-- A register that the configuration holds: one that an image may write, with RW fields, beside spare descriptors and requests for a swap. [log 225: DEDUCED] -/
def storeReg (a : Nat) : Option RegRow :=
  match blockOf a, regRow a with
  | some b, some r =>
    if b = 0 || b = 7 || b = 8 || (b = 15 && 0x4000 ≤ a - blockBase 15) || (0x111B0 ≤ a && a < 0x11500) || (0x41000 ≤ a && a < 0x41C00 && 0x30 ≤ a % 0x100) || r.rw = 0 || r.sat
    then none else some r
  | _, _ => none

/-- The RW fields of the registers that hold a configuration. [log 225: DEDUCED] -/
def State.storeRegs (s : State) : Store 32 :=
  (s.deferredAll.setRegN Reg.EP_LEN s.epWritten).regs.filterMap (fun e => (storeReg e.1).map (fun r => (e.1, e.2 &&& BitVec.ofNat 32 r.rw)))

/-- The current copy of the store among those that read back good (R454, R461). -/
def State.storeCopy (s : State) (good : Nat → Bool) : Option Nat :=
  match (if good 0 then s.fw.copies.at 0 else none), (if good 1 then s.fw.copies.at 1 else none) with
  | none, none => none
  | some _, none => some 0
  | none, some _ => some 1
  | some a, some b => if (b.seq + 2 ^ 32 - a.seq) % 2 ^ 32 < 2 ^ 31 && a.seq ≠ b.seq then some 1 else some 0

/-- The configuration as a new copy holds it; without a configuration in force, the safety part of the copy before it stays. [log 225: DEDUCED] -/
def State.storeImage (s : State) (old : Option StoreCopy) : StoreCopy :=
  let o := old.getD {}
  { seq := (o.seq + 1) % 2 ^ 32, regs := s.storeRegs, spareReqs := s.spareReqs, law := { inst := s.law.inst }, cref := s.cmp.cref,
    tables := s.net.files, banks := s.ket.bind.map (fun x => x.banks), acts := s.ket.bind.map (fun x => x.act),
    safe := if s.safe.inForce then s.safe.cfg else o.safe, safeCrc := if s.safe.inForce then s.reg Reg.SAFE_CFGID else o.safeCrc,
    safeHeld := s.safe.inForce || o.safeHeld }

/-- STORE_REWRITE_COMPLETE (R461): the new copy is whole; its record names its SEQ. [log 225: DEDUCED] -/
def execStoreRewriteComplete (s : State) : Host.Outcome State Fault Refusal :=
  .next (if !s.fw.rewrite || !s.powered || !s.stewardOn then s
    else
      let cur := s.storeCopy (fun _ => true)
      let i := cur.elim 0 (fun k => 1 - k)
      let c := s.storeImage (cur.bind (fun k => s.fw.copies.at k))
      ({ s with fw := { s.fw with copies := s.fw.copies.mod i (fun _ => some c), rewrite := false } }).logRec 0x15 (evCode 0xFF 2) [w32 c.seq])

end Sys2Proof.Machine
end

