-- ==== Sys2Proof/Machine/HostFw.lean ====
section
/-!
DEFINITION. Firmware images and their commands (R341, R451 to R456, R460, R463 to R465).
-/
namespace Sys2Proof.Machine

/-! ## Images and commit records -/

/-- The size of a slot and of the greatest part (R451, R436). -/
def slotSize : Nat := 8 * 2 ^ 20
def partMax : Nat := 256 * 1024

/-- The length that an image's header gives it (R452). -/
def imgLen (bs : List Byte) : Nat := 256 + leAt bs 0x10 4 + 96

/-- Bytes of an image are zero. -/
def zeroRun (bs : List Byte) (o n : Nat) : Bool := ((bs.drop o).take n).all (fun b => b == 0#8)

/-- The header of an image: what selects and hashes it. -/
def imgHead (bs : List Byte) : List Byte := bs.take 256
def imgHash (bs : List Byte) : BitVec 384 := Config.sha384 (imgHead bs)

/-- The first reason for which an image is not valid, 0 where it is (R453, R463): 1 header, 2 version, 3 stepping, 4 SECVER, 5 payload hash,
6 signature. -/
def imgReason (minSec : Nat) (bs : List Byte) : Nat :=
  let pay := (bs.drop 256).take (leAt bs 0x10 4)
  if leAt bs 0 4 ≠ 0x44575453 || leAt bs 4 2 ≠ 1 || leAt bs 6 2 ≠ 0x100 || slotSize < imgLen bs || bs.length < imgLen bs || 63 < leAt bs 0x0C 4 ||
      3 < leAt bs 0x14 1 || !zeroRun bs 0x16 2 || !zeroRun bs 0x4C 180 then 1
  else if leAt bs 8 4 < 0x00040200 then 2
  else if leAt bs 0x15 1 % 2 = 0 then 3
  else if leAt bs 0x0C 4 < minSec then 4
  else if Config.sha384 pay ≠ BitVec.ofNat 384 (beAt bs 0x1C 48) then 5
  else if !Config.signed (imgHash bs) (Config.romKey (leAt bs 0x14 1)) ((bs.drop (256 + leAt bs 0x10 4)).take 96) then 6
  else 0

/-- A slot whose image has been checked. -/
def slotOf (bs : List Byte) (valid : Bool) : FlashSlot :=
  { bytes := bs, valid := valid, version := w32 (leAt bs 8 4), secver := leAt bs 0x0C 4, build := w32 (leAt bs 0x18 4), hash := imgHash bs }

/-- A slot holds a valid image now (R453): the fused minimum may have risen since it was checked. -/
def State.slotValid (s : State) (i : Nat) : Bool := (s.fw.slots.at i).valid && s.fw.minSec ≤ (s.fw.slots.at i).secver

/-- The current commit record's copy (R454): of two good ones, the later. -/
def State.commitCopy (s : State) : Option Nat :=
  match s.fw.commits.at 0, s.fw.commits.at 1 with
  | none, none => none
  | some _, none => some 0
  | none, some _ => some 1
  | some a, some b => if (b.seq + 2 ^ 32 - a.seq) % 2 ^ 32 < 2 ^ 31 && a.seq ≠ b.seq then some 1 else some 0

def State.commitNowRec (s : State) : Option CommitRec := s.commitCopy.bind (fun i => s.fw.commits.at i)

/-- A new record goes into the sector that does not hold the current copy, with SEQ + 1 (R454). -/
def State.commitWrite (s : State) (slot : Nat) : State :=
  let old := s.commitNowRec
  let f := s.fw.slots.at slot
  let r : CommitRec := { seq := (old.elim 0 (fun r => r.seq) + 1) % 2 ^ 32, active := slot, prev := old.elim 0xFF (fun r => r.active), version := f.version, hash := f.hash }
  let i := match s.commitCopy with
    | some k => 1 - k
    | none => 0
  { s with fw := { s.fw with commits := s.fw.commits.mod i (fun _ => some r) } }

/-! ## The commands -/

/-- The staging slot: the one the device does not run (R451). [log 211: DEDUCED] -/
def State.staging (s : State) : Nat := 1 - s.fw.running

/-- An activation that has not been committed (R463). [log 211: DEDUCED] -/
def State.uncommitted (s : State) : Bool :=
  match s.commitNowRec with
  | some r => !s.fw.service && r.active ≠ s.fw.running
  | none => false

def State.slotPut (s : State) (i : Nat) (f : FlashSlot) : State := { s with fw := { s.fw with slots := s.fw.slots.mod i (fun _ => f) } }

/-- FW_STAGE (R463). [log 211: DEDUCED] -/
def execFwStage (tag : Fin 64) (dma : List Byte) (s : State) : Host.Outcome State Fault Refusal :=
  .next (s.command tag 0x801 (fun t c =>
    let i := t.staging
    let have_ := if c.pw 0 = 0 then [] else (t.fw.slots.at i).bytes
    if t.uncommitted || t.sup.split.isSome then t.finish tag stBusy
    else if c.len = 0 || partMax < c.len then t.refuse tag stRange 6
    else if c.pw 0 ≠ have_.length then t.finish tag stRange (w32 (8 + 256 * 7))
    else if slotSize < have_.length + c.len then t.refuse tag stRange 6
    else
      let bs := have_ ++ t.dataIn c dma
      if bs.length < 256 || bs.length < imgLen bs then
        (t.slotPut i { bytes := bs }).finish tag stOk (v0 := w32 bs.length)
      else
        let r := imgReason t.fw.minSec bs
        let u := t.slotPut i (slotOf bs (r == 0))
        if r = 0 then u.finish tag stOk (v0 := w32 bs.length) (v1 := 1#32)
        else u.finish tag stRange (w32 (0xFF + 256 * r)) (v0 := w32 bs.length)))

/-- FW_ACTIVATE (R341, R436, R464): the split that is asked for starts at a frame start, and the command completes at its end. [log 211: DEDUCED] -/
def execFwActivate (tag : Fin 64) (s : State) : Host.Outcome State Fault Refusal :=
  .next (s.command tag 0x802 (fun t _ =>
    if !t.slotValid t.staging then t.refuse tag stRange 0
    else if t.supState ≠ 0 || t.sup.split.isSome || (t.sup.anyAct && t.gt < t.sup.lastAct + 60 * tickSec) ||
        t.flag Reg.MBX_EXPSESS F.MBX_EXPSESS_OPEN then t.finish tag stBusy
    else t.supMod (fun u => { u with split := some { tag := tag.val } })))

/-- FW_COMMIT (R456, R460, R465, R500). [log 212: DEDUCED] -/
def execFwCommit (tag : Fin 64) (s : State) : Host.Outcome State Fault Refusal :=
  .next (s.command tag 0x803 (fun t c =>
    let i := c.pw 0 % 2
    let raise := (c.pw 0).testBit 8
    let sec := (t.fw.slots.at i).secver
    if !t.slotValid i || (raise && (i ≠ t.fw.running || t.fw.service)) then t.refuse tag stRange 8
    else
      let u := t.commitWrite i
      let v := if raise && u.fw.minSec < sec then
          ({ u with fw := { u.fw with minSec := sec } }).logRec 0x15 (evCode 0xFF 4) [w32 i, w32 sec] true
        else u
      let w := v.finish tag stOk
      if t.fw.service then w.deviceReset t.fw.cause else w))

end Sys2Proof.Machine
end

