-- ==== Sys2Proof/Machine/HostSys.lean ====
section
/-!
DEFINITION. The commands of the device itself: identity, status, state, time, the sticky file and the log, calibration and diagnosis
(R58, R99 to R101, R128, R436 to R438, R489, R502).
-/
namespace Sys2Proof.Machine

/-! ## Identity and status -/

/-- The identity block (R438). P2's address is the shared one plus one (R353). [log 194: DEDUCED] -/
def State.identity (s : State) : List Byte :=
  let keys := (List.range 4).foldl (fun m i => if (s.mbx.keys.at i).isEmpty then m + 2 ^ i else m) 0
  let ver := if s.fw.service then 0 else (s.fw.slots.at s.fw.running).version.toNat
  leBytes 2 s.channels ++ leBytes 1 0xB0 ++ leBytes 1 s.groups ++ leBytes 1 s.engines ++ leBytes 1 (bit (s.variant == .egx192)) ++
    leBytes 2 Config.vendorIds.toNat ++ leBytes 4 ver ++ leBytes 16 Config.serial.toNat ++ beBytes 6 Config.macAddress.toNat ++
    beBytes 6 (Config.macAddress.toNat + 1) ++ leBytes 1 s.fw.running ++ leBytes 1 keys ++ List.replicate 22 0#8

/-- IDENTIFY (R436, R438). -/
def execIdentify (tag : Fin 64) (s : State) : Host.Outcome State Fault Refusal :=
  .next (s.command tag 0x01 (fun t c => if c.len < 64 then t.refuse tag stRange 6 else t.finishData tag c t.identity))

/-- The latest commit of a completion: 0 where there is none (R431). [log 193: DESIGN CHOICE] -/
def State.latestCommit (s : State) : Nat := if s.pan.anyCommit then s.pan.cidx else 0

/-- currentUtcOffset of the grandmaster in use (R356); without one it is a free value. [log 193: DESIGN CHOICE] -/
def State.utcNow (s : State) : Word :=
  match s.bestPort.bind s.annOf with
  | some a => BitVec.ofInt 32 a.utcOffset
  | none => s.freeNow.setWidth 32

/-- STATUS (R436, R456). -/
def execStatus (tag : Fin 64) (s : State) : Host.Outcome State Fault Refusal :=
  .next (s.command tag 0x02 (fun t _ =>
    let d := if t.fw.service then 1 else devCode t.dev
    let r := d % 4 + 4 * t.qual + 32 * bit t.detOk + 64 * (t.supState % 8)
    ((if (t.bestPort.bind t.annOf).isSome then t else t.freeStep).finish tag stOk (w32 r) (cidx := t.latestCommit) (v0 := w32 t.logNewest) (v1 := t.utcNow))))

/-! ## The device state -/

/-- The lowest bound engine without a checked recipe in its active bank (R47, R437). -/
def State.unchecked (s : State) : Option Nat := s.bindings.find? (fun b => s.ketEnabled b && !(s.bd b).bank.mark)

/-- The conditions of R437 that fail, as RESULT has them. -/
def State.runBars (s : State) : List (Nat × Nat) :=
  [(stSafety, bit (s.regN Reg.SAFE_SPOLAT ≠ 0 || s.demandMask ≠ 0)), (stRange, bit s.unchecked.isSome), (stBusy, bit !s.detOk),
   (stBusy, bit !s.flag Reg.CLK_STAT F.CLK_STAT_DLL_LOCK), (stBusy, bit s.tim.epLenPend.isSome)]

def State.runResult (s : State) : Nat :=
  (s.runBars.zipIdx).foldl (fun r e => r + e.1.2 * 2 ^ e.2) 0 + 256 * s.unchecked.getD 0

/-- A request for RUN (R47, R437). -/
def State.askRun (s : State) (tag : Nat) : State :=
  if s.dev == .run then s.finish tag stOk
  else
    match s.runBars.find? (fun e => e.2 ≠ 0) with
    | some e => s.finish tag e.1 (w32 s.runResult)
    | none => s.toRun tag

/-- STATE (R47, R437): WATCH from STANDBY completes before the HOST domain goes. [log 190, 191: DEDUCED] -/
def execState (tag : Fin 64) (s : State) : Host.Outcome State Fault Refusal :=
  .next (s.command tag 0x03 (fun t c =>
    let p := c.pw 0
    if 2 < p then t.refuse tag stRange 8
    else if t.pwr.leaving.isSome then t.finish tag stBusy
    else if p = 0 then t.askRun tag
    else if p = 1 then (if t.dev == .run then (t.leaveRun false tag).leaveCheck else t.finish tag stOk)
    else if t.dev == .run then (t.leaveRun true tag).leaveCheck
    else (t.finish tag stOk).toWatch 1))

/-- TIME_SET (R58): a step of whole seconds at the next commit instant. [log 192: DEDUCED] -/
def execTimeSet (tag : Fin 64) (s : State) : Host.Outcome State Fault Refusal :=
  .next (s.command tag 0x04 (fun t c =>
    let sec := c.pw 0 + 2 ^ 32 * c.pw 1
    if !t.flag Reg.GT_CTRL F.GT_CTRL_STEP_EN then t.refuse tag stRange 8
    else if 2 ^ 64 ≤ sec * tickSec then t.refuse tag stRange 8
    else if !t.commitsOn then t.finish tag stBusy
    else
      let o : Int := ((t.gt / tickSec : Nat) - (sec : Int)) * tickSec
      ({ t with tim := { t.tim with stepPend := some o } }).finish tag stOk (cidx := t.nextCommit)))

/-! ## The sticky file and the log -/

/-- A word of the sticky file, with each first-set time whole (R489 to R491). [log 195: DEDUCED] -/
def State.fileWord (s : State) (o : Nat) : Word :=
  if 0x400 ≤ o && o < 0x800 && o % 8 = 4 then
    (let n := (o - 0x400) / 8
     if s.fileBit n then w32 ((s.log.fgt.find (if n = 88 then 5 else n)).getD 0 / 2 ^ 32) else 0#32)
  else s.readView (0x10000 + o)

/-- The sticky file (R489). [log 195: DEDUCED] -/
def State.stickyFile (s : State) : List Byte := (List.range 1024).flatMap (fun i => leBytes 4 (s.fileWord (4 * i)).toNat)

/-- STICKY (R436, R489): the copy, then the clear. [log 195: DEDUCED] -/
def execSticky (tag : Fin 64) (s : State) : Host.Outcome State Fault Refusal :=
  .next (s.command tag 0x06 (fun t c =>
    let u := (List.range 4).foldl (fun x i => x.clearSum i (c.p.getD i 0#32)) t
    u.finishData tag c (t.stickyFile.take c.len)))

/-- LOG_READ (R436, R502). -/
def execLogRead (tag : Fin 64) (s : State) : Host.Outcome State Fault Refusal :=
  .next (s.command tag 0x07 (fun t c =>
    if c.pw 1 = 0 || 256 < c.pw 1 then t.refuse tag stRange 9
    else
      let r := t.logRead (c.pw 0) (min (c.pw 1) (c.len / 32))
      r.1.finishData tag c (r.2.flatMap LogRec.bytes) (v0 := w32 r.2.length)))

/-! ## Calibration and diagnosis -/

/-- Work runs on core `c` (R100). [log 197: DEDUCED] -/
def State.coreBusy (s : State) (c : Nat) : Bool :=
  let k := s.ana.cores.at c
  k.conv.isSome || k.reg.phase != .idle || k.inj.phase != .idle || k.owActive || k.calPending

/-- CAL (R100, R101): the calibrations are queued; the command waits for them unless work runs on one of the cores. [log 197: DEDUCED] -/
def execCal (tag : Fin 64) (s : State) : Host.Outcome State Fault Refusal :=
  .next (s.command tag 0x08 (fun t c =>
    let cs := bitsOf 8 (c.pw 0)
    let u := cs.foldl (fun x k => x.calQueue k) t
    if cs.isEmpty then t.finish tag stOk
    else if cs.any t.coreBusy then u.finish tag stDeferred
    else { u with mbx := { u.mbx with cals := u.mbx.cals ++ [{ tag := tag, cores := c.pw 0 % 256 }] } }))

/-- A core's readings lie within 64 codes of the five levels (R99). [log 196: DEDUCED] -/
def coreTestOk (t : TdacTest) : Bool :=
  (List.range 5).all (fun i => (10 * ((t.codes.getD i 0).val : Int) - 65536 * (2 * i + 1)).natAbs ≤ 640)

/-- A pin's readings move toward each level by at least DELTA (R99). [log 196: DEDUCED] -/
def pinTestOk (delta : Nat) (t : TdacTest) : Bool :=
  (List.range 5).all (fun i =>
    let code := (t.codes.getD i 0).val
    if 10 * t.base.val ≤ 65536 * (2 * i + 1) then t.base.val + delta ≤ code else code + delta ≤ t.base.val)

/-- A failed check of a core or of one of its pins (R99). -/
def State.tdacFail (s : State) (c : Nat) (pin : Option (Fin 12)) : State :=
  (s.stick (Stk.TDAC_FAIL c)).logRec 0x0A (evCode (Stk.TDAC_FAIL c).file 0) (w32 c :: (pin.map (fun p => w32 p)).toList)

/-- RECOVER (R99): the checks of the cores in the mask. [log 196: DEDUCED] -/
def execRecover (tag : Fin 64) (tests : List TdacTest) (s : State) : Host.Outcome State Fault Refusal :=
  .next (s.command tag 0x09 (fun t c =>
    let cs := bitsOf 8 (c.pw 0)
    let coreBad := fun (k : Nat) => !(tests.find? (fun x => x.core.val == k && x.pin.isNone)).any coreTestOk
    let bad := cs.filter coreBad
    let u := bad.foldl (fun (x : State) k => x.tdacFail k none) t
    let pins := tests.filter (fun x => x.pin.isSome && (c.pw 0).testBit x.core && !pinTestOk (t.fld (Reg.ADC_OWSET x.core) F.ADC_OWSET_DELTA) x)
    (pins.foldl (fun (x : State) p => x.tdacFail p.core p.pin) u).finish tag stOk (w32 (bad.foldl (fun m k => m + 2 ^ k) 0))))

/-- DIAG (R128): one check for each comparator of the masks, in ascending order. [log 196: DEDUCED] -/
def execDiag (tag : Fin 64) (readings : List (Int × Int)) (s : State) : Host.Outcome State Fault Refusal :=
  .next (s.command tag 0x0A (fun t c =>
    let es := ((bitsOf 64 (c.pw 0 + 2 ^ 32 * c.pw 1)).zipIdx).map (fun e => (e.1, readings.getD e.2 (0, 0)))
    let bad := es.filter (fun e => !t.cmpCheckOk e.1 e.2.1 e.2.2)
    (es.foldl (fun (x : State) e => x.cmpCheck e.1 e.2.1 e.2.2) t).finish tag stOk (w32 bad.length)))

end Sys2Proof.Machine
end

