-- ==== Sys2Proof/Machine/Boot.lean ====
section
/-!
DEFINITION. The boot (R393, R449 to R462): the image that runs, the start-up tests, and what is restored.
-/
namespace Sys2Proof.Machine

/-! ## The image -/

/-- Why slot `i` does not boot (R455): the reason of R463 for which its image is not valid, or 7 for a header that the commit record does not name. [log 227: DEDUCED] -/
def State.slotReason (s : State) (i : Nat) : Nat :=
  let f := s.fw.slots.at i
  if f.valid then (if f.secver < s.fw.minSec then 4 else 7) else max 1 (imgReason s.fw.minSec f.bytes)

/-- The slot that boots, whether it is a fallback, and the slots that were refused before it (R455). [log 227: DEDUCED] -/
def State.bootSelect (s : State) : Option (Nat × Bool) × List Nat :=
  match s.commitNowRec with
  | some r =>
    let a := r.active
    if s.slotValid a && (s.fw.slots.at a).hash = r.hash then (some (a, false), [])
    else if s.slotValid (1 - a) then (some (1 - a, true), [a])
    else (none, [a, 1 - a])
  | none =>
    if s.slotValid 0 then (some (0, true), [])
    else if s.slotValid 1 then (some (1, true), [0])
    else (none, [0, 1])

/-- The selection acts: an image runs, or the ROM serves the mailbox (R455, R456). [log 228: DEDUCED] -/
def State.bootImage (s : State) : State :=
  let r := s.bootSelect
  let refused := r.2.foldl (fun m i => m + 16 ^ i * s.slotReason i) 0
  match r.1 with
  | some (i, fb) => ({ s with fw := { s.fw with running := i, refused := refused, service := false, selected := true } }).stickIf fb Stk.BOOT_FALLBACK
  | none =>
    let a := s.commitNowRec.elim 0 (fun c => c.active)
    ({ s with fw := { s.fw with running := a, refused := refused, selected := true, service := true } }).stick Stk.BOOT_NOIMAGE

/-! ## Tests -/

/-- The ROM's tests of the supervisor pair, its shared SRAM and its journal (R458). [log 229: DESIGN CHOICE] -/
def State.romTests (s : State) (t : BootTests) : State :=
  if !t.checker || t.march == .bad then (s.supFail 3).stick Stk.BOOT_SELFTEST
  else if t.march == .single then s.logRec 0x15 (evCode 0xFF 1) []
  else s

/-- The engines that fail their BIST are retired; the converters that fail their checks are reported (R99, R458). [log 229: DESIGN CHOICE] -/
def State.stewardTests (s : State) (t : BootTests) : State :=
  let bad := t.bist.val % 2 ^ s.engines
  let s1 := ({ s with ket := { s.ket with retired := s.ket.retired ||| bad } }).stickIf (bad ≠ 0) Stk.KET_BIST_FAIL
  (bitsOf 8 t.tdac.val).foldl (fun x c => x.tdacFail c none) s1

/-! ## The restored configuration -/

/-- The image that a copy of the store stands for (R462). -/
def StoreCopy.entries (c : StoreCopy) : List CfgEntry :=
  c.regs.map (fun e => let b := (blockOf e.1).getD 0; { tgt := b, off := e.1 - blockBase b, val := e.2 }) ++
  c.spareReqs.flatMap (fun e => [{ tgt := 1, off := 0x100 + 8 * e.1, val := e.2.1 }, { tgt := 1, off := 0x104 + 8 * e.1, val := e.2.2 }]) ++
  (c.law.inst.zipIdx).flatMap (fun e => { tgt := 0x20 + e.2, val := w32 (e.1.typ + 256 * e.1.bind) } ::
    e.1.fields.map (fun f => { tgt := 0x20 + e.2, off := 4 * f.1, val := f.2 })) ++
  c.cref.flatMap (fun e => { tgt := 0x30, off := 8 * e.1, val := e.2.1 } :: (match e.2.2 with
    | some w => [{ tgt := 0x30, off := 8 * e.1 + 4, val := w }]
    | none => []))

/-- The entries that are applied, and how many are skipped because they fail a rule (R462); where no entry causes the failure, all are. [log 226: DEDUCED] -/
def State.restorable (s : State) : Nat → List CfgEntry → List CfgEntry × Nat
  | 0, _ => ([], 0)
  | fuel + 1, es =>
    match s.cfgCheck es with
    | .good => (es, 0)
    | .entry i _ =>
      if i < es.length then
        let r := s.restorable fuel (es.eraseIdx i)
        (r.1, r.2 + 1)
      else ([], es.length)
    | _ => ([], es.length)

/-- Entries that were skipped: a record each, and the bit (R462). -/
def State.skipped (s : State) (n : Nat) : State :=
  ((List.range n).foldl (fun t _ => t.logRec 0x15 (evCode Stk.CFG_RESTORE.file 3) []) s).stickIf (n ≠ 0) Stk.CFG_RESTORE

/-- The banks of the store, each checked again by the loader (R198, R462). [log 226: DEDUCED] -/
def State.banksPut (s : State) (c : StoreCopy) : State :=
  s.bindings.foldl (fun t b =>
    let bs := (c.banks.at b).map (fun k => { k with mark := k.loaded && s.bankPasses b k })
    (t.ketMod b (fun x => { x with banks := if bs.length = 2 then bs else x.banks, act := c.acts.at b })).showBudget b) s

/-- The current store is applied in the order of R462. [log 226: DEDUCED] -/
def State.restore (s : State) (c : StoreCopy) : State :=
  let r := s.restorable (c.entries.length + 1) c.entries
  let s1 := (s.cfgApply r.1).skipped r.2
  let bad := (c.tables.filter (fun f => !f.isEmpty && (tblError f).isSome)).length
  let files := c.tables.map (fun f => if (tblError f).isSome then [] else f)
  let s2 := ((if c.tables.length = 4 then { s1 with net := { s1.net with files := files } } else s1).skipped bad).allocate
  let s3 := s2.banksPut c
  if c.safeHeld then s3.safePend c.safe c.safeCrc else s3

/-! ## The energy registers -/

/-- The records of the latch chain of point `m` that starts with `r`, where all eight are held and good (R497). [log 171: DEDUCED; 238: DESIGN CHOICE] -/
def LogState.latchChain (l : LogState) (m : Nat) (r : LogRec) : Option (List LogRec) :=
  if r.typ = 0x0B && (r.code = 0xFF || r.code = 0x1FF) && r.part = 0 && r.who = m && r.ok then
    let rs := (List.range 8).filterMap (fun i =>
      (l.mram.find? (fun e => e.2.seq = (List.range i).foldl (fun q _ => seqNext q) r.seq && e.2.ok && e.2.typ = 0x0B && e.2.part = i && e.2.who = m)).map (fun e => e.2))
    if rs.length = 8 then some rs else none
  else none

/-- The newest latch of point `m` in the log (R393). [log 171: DEDUCED] -/
def LogState.newestLatch (l : LogState) (m : Nat) : Option (List LogRec) :=
  let cs := l.mram.filterMap (fun e => l.latchChain m e.2)
  cs.foldl (fun a c => match a with
    | none => some c
    | some d => if seqLater (d.headD {}).seq (c.headD {}).seq then some c else a) none

/-- The registers of a point take the values of its newest latch; the span that was not measured is logged (R393). [log 171: DEDUCED] -/
def State.latchPreset (s : State) (m : Nat) : State :=
  match s.log.newestLatch m with
  | none => s
  | some rs =>
    let ws := rs.flatMap (fun r => [r.w0, r.w1, r.w2])
    let w := fun (i : Nat) => (ws.getD i 0#32).toNat
    let t := s.mtrMod m (fun x => { x with e := (List.range 7).map (fun r => (w (2 * r) + 2 ^ 32 * w (2 * r + 1)) * 2 ^ 32), wrap := (List.range 7).map (fun r => w (14 + r)) })
    ((t.mtrView m).stick (Stk.MTR_RESTORE m)).logRec 0x0B (evCode (Stk.MTR_RESTORE m).file 2) (gtWords (s.gt - (w 21 + 2 ^ 32 * w 22)))

/-! ## The boot -/

/-- Steward's part of the boot: its tests, the restored configuration, the energy registers, and the probe run (R458, R459, R462). [log 226: DEDUCED] -/
def State.bootSteward (s : State) (t : BootTests) : State :=
  let s1 := s.stewardTests t
  let s2 := match (s1.storeCopy (fun i => if i = 0 then t.copyA else t.copyB)).bind (fun i => s1.fw.copies.at i) with
    | some c => s1.restore c
    | none => s1.stick Stk.CFG_RESTORE
  let s3 : State := (List.range 4).foldl (fun (x : State) m => x.latchPreset m) s2
  let s4 : State := (bitsOf 12 s3.ket.retired).foldl (fun (x : State) p => x.retireTake p) s3
  if s4.regN Reg.GL_PRBEN = 0 then s4 else s4.probeGo

/-- BOOT (R420, R449, R451, R455 to R459): the sequence up to the probe run. [log 6, 229: DESIGN CHOICE] -/
def execBoot (t : BootTests) (s : State) : Host.Outcome State Fault Refusal :=
  .next (if !s.fw.booting || s.fw.selected || s.dev != .standby || s.pin.testEn || s.supFailed then s
    else
      let s1 := ({ s with mbx := { s.mbx with qspi := t.hmode } }).setFld Reg.CLK_PWRSTAT F.CLK_PWRSTAT_RSTCAUSE s.fw.cause
      let s2 := (s1.stickIf (!s1.flag Reg.CLK_STAT F.CLK_STAT_REF_OK) Stk.REF_LOST).romTests t
      if s2.supFailed then s2
      else
        let s3 := (s2.stickIf t.slow Stk.BOOT_SLOWFLASH).bootImage
        if s3.fw.service then s3 else s3.bootSteward t)

/-- The boot record (R449, R455, R462, R466, R496): cause and slot; VERSION, BUILD and the reasons; then the CRC of the pending safety configuration
and the SEQ of the store. [log 227: DEDUCED] -/
def State.bootRecord (s : State) : State :=
  let f := s.fw.slots.at s.fw.running
  let seq := ((s.storeCopy (fun _ => true)).bind (fun i => s.fw.copies.at i)).elim 0 (fun c => c.seq)
  s.logRec 0x11 (s.fw.cause % 8 + 256 * s.fw.running)
    [if s.fw.service then 0#32 else f.version, f.build, w32 s.fw.refused, if s.safe.pending then s.safe.pendCrc else 0#32, w32 seq]

/-- BOOT_COMPLETE (R457): READY is 1, and the device is in STANDBY. -/
def execBootComplete (s : State) : Host.Outcome State Fault Refusal :=
  .next (if !s.fw.booting || !s.fw.selected || s.gl.prbRun || s.dev != .standby || s.supFailed then s
    else
      let t : State := { s with fw := { s.fw with booting := false } }
      (t.setFld Reg.MBX_STAT F.MBX_STAT_READY 1).bootRecord)

end Sys2Proof.Machine
end

