-- ==== Sys2Proof/Machine/Commit.lean ====
section
/-!
DEFINITION. The commit (R28 to R36, R53, R64, R93, R152, R158, R169, R251, R252, R255, R310, R326).
-/
namespace Sys2Proof.Machine

/-- A mask over the sigma-delta channels. -/
def State.sdfMask (s : State) (f : SdfCh → Bool) : Nat := (s.ana.sdf.zipIdx).foldl (fun m (c, n) => if f c then m + 2 ^ n else m) 0

/-- The word of status slot 0xF010 + c (R93). -/
def State.coreWord (s : State) (c : Nat) : Word :=
  let k := s.ana.cores.at c
  w32 (k.regDone + 256 * k.injDone + 2 ^ 16 * bit k.ovr + 2 ^ 17 * bit k.miss + 2 ^ 18 * bit k.pre + 2 ^ 19 * bit k.calPending +
    2 ^ 20 * bit (s.flag (Reg.ADC_TDAC c) F.ADC_TDAC_PIN_EN))

/-- ADC_OWFLAG of all pins, bit by bit (R93). -/
def State.owMask (s : State) : Nat := (List.range 8).foldl (fun m c => m + s.fld (Reg.ADC_OWFLAG c) F.ADC_OWFLAG_OPEN * 2 ^ (12 * c)) 0

/-- The words of slots 0xF000 to 0xF005 at commit `c` (R35, R53). -/
def State.timeWords (s : State) (c : Nat) : List Word :=
  let sl := if c % 2 = 0 then s.tim.slip else s.tim.slipEnded
  [w32 c, w32 (c / 2 ^ 32), w32 s.gt, w32 (s.gt / 2 ^ 32), w32 (bit s.detOk + 2 * (s.regN Reg.PAN_STK % 64)),
   w32 (s.qual + 8 * bit (sl == .lengthen) + 16 * bit (sl == .shorten))]

/-- The words of slots 0xF010 to 0xF01E (R93). -/
def State.anaWords (s : State) : List Word :=
  let ow := s.owMask
  let oc := s.sdfMask (fun c => c.ocSeen)
  (List.range 8).map s.coreWord ++ [w32 ow, w32 (ow / 2 ^ 32), w32 (ow / 2 ^ 64), s.reg Reg.SDF_STUCK_LO, s.reg Reg.SDF_STUCK_HI, w32 oc, w32 (oc / 2 ^ 32)]

/-- The words of slots 0xF040 to 0xF04D (R326). -/
def State.safeWords (s : State) : List Word :=
  s.safeWord :: w32 (s.demandMask + 2 ^ 12 * s.outFaults + 2 ^ 16 * s.rxRun + 2 ^ 24 * bit s.safe.intFault + 2 ^ 25 * bit s.safe.inForce) ::
    (List.range 12).map (fun v => s.reg (Reg.SAFE_CAUSE v))

/-- Words at consecutive slots. -/
def slotsAt (a : Nat) (ws : List Word) : List (Nat × Word) := (ws.zipIdx).map (fun e => (a + e.2, e.1))

/-- What the timing island writes for commit `c`: the engine slots at the boundaries of epochs only (R35, R53, R93, R169, R326). [log 20: DEDUCED] -/
def State.statusSlots (s : State) (c : Nat) : List (Nat × Word) :=
  slotsAt 0xF000 (s.timeWords c) ++ slotsAt 0xF010 s.anaWords ++
    (if c % 2 = 0 then s.bindings.flatMap (fun b => [(0xF020 + b, s.ketStatus b), (0xF030 + b, w32 (s.bd b).fired)]) ++ [(0xF02C, s.rotStatus)] else []) ++
    slotsAt 0xF040 s.safeWords

/-- The counts since the previous commit start anew (R93). -/
def State.anaTaken (s : State) : State :=
  { s with ana := { s.ana with cores := s.ana.cores.map (fun k => { k with regDone := 0, injDone := 0, ovr := false, miss := false, pre := false }),
                               sdf := s.ana.sdf.map (fun c => { c with ocSeen := false }) } }

/-- All slots swap (R31, R36): those written take their value and FRESH 1; the others keep theirs, or take 0 after CLEAR, with FRESH 0. [log 20, 21: DEDUCED] -/
def State.swapBanks (s : State) (c : Nat) : State :=
  let ws := (((s.pan.pend.find c).getD []).map (fun e => (e.1, e.2.val))) ++ s.statusSlots c
  let old : Store 32 := if s.pan.clearNext then [] else s.pan.committed
  { s with pan := { s.pan with
      committed := ws.foldl (fun (m : Store 32) e => m.put zeroes e.1 e.2) old
      fresh := ws.foldl (fun (m : Store 1) e => m.put zeroes e.1 1#1) []
      pend := s.pan.pend.filter (fun e => c < e.1)
      cidx := c, cinst := s.gt, anyCommit := true, clearNext := false } }

/-- An engine-class group copies its set and counts stale commits (R251, R252, R255). -/
def State.copySet (s : State) (g c : Nat) : State :=
  if s.fld (Reg.PWM_LGCFG g) F.PWM_LGCFG_SRC ≠ 0 || !s.flag (Reg.PWM_LGCFG g) F.PWM_LGCFG_EN then s
  else
    let l := s.pwm.lgs.at g
    let base := s.fld (Reg.PWM_SRC g) F.PWM_SRC_BASE
    let lim := s.fld (Reg.PWM_SRC g) F.PWM_SRC_STALE_LIM
    let fr := (List.range 6).map (fun i => s.fresh (base + i))
    let all := fr.all id
    let none_ := !fr.any id
    let first := l.gotFirst || all
    let n := if none_ then l.staleCount + 1 else 0
    let stale := if all then false else l.staleOff || (lim ≠ 0 && lim ≤ n)
    let t := s.lgMod g (fun x => { x with
      copyOld := x.copyNew, gotFirst := first, staleCount := n, staleOff := stale
      copyNew := { words := (List.range 8).map (fun i => s.slot (base + i)), cidx := c, inst := s.gt, usable := first } })
    t.stickIf (stale && !l.staleOff) (Stk.PWM_STALE g)

/-- A fall of OUT that the settling of a threshold has held back happens (R133). [log 55: DEDUCED] -/
def State.settled (s : State) : State :=
  (List.range 64).foldl (fun t n => if (t.cmp.cmps.at n).settleUntil ≠ 0 && (t.cmp.cmps.at n).settleUntil ≤ t.gt then
    (t.cmpMod n (fun c => { c with settleUntil := 0 })).cmpRoute n else t) s

/-- What reads the values of commit `c` in the same instant: the leg groups, supervision, the limit functions, GOOSE, metering, publications. -/
def State.commitReaders (s : State) (c : Nat) : State :=
  let s1 := if s.dev == .run then (List.range s.groups).foldl (fun t g => t.copySet g c) s else s
  let s2 := if c % 2 = 0 && s1.dev == .run then s1.bindings.foldl (fun t b => t.supervise b (c / 2)) s1 else s1
  let s3 := if c % 2 = 0 then s2.limitEval.gpCompare else s2
  s3.meterCommit.pubFresh

/-- The host's slots that have a committed value (R206). [log 87: DEDUCED] -/
def State.noteWritten (s : State) (c : Nat) : State :=
  let new := (((s.pan.pend.find c).getD []).map (fun e => e.1)).filter (fun n => 0xE000 ≤ n && n < 0xF000 && !s.law.written.contains n)
  if new.isEmpty then s else { s with law := { s.law with written := s.law.written ++ new } }

/-- Commit `c` at the present GT. [log 20: DEDUCED] -/
def State.commitNow (s : State) (c : Nat) : State :=
  let s1 := if s.pan.stopped then ({ s with pan := { s.pan with stopped := false } }).logRec 0x02 (evCode 0xFF 2) (cidxWords c) else s
  let s2 := ((s1.settled).ketChecks c).pubCatchUp s.gt false
  let s3 := if c % 2 = 0 then s2.bindings.foldl (fun t b => t.ketShow b) s2 else s2
  (((s3.noteWritten c).swapBanks c).anaTaken).commitReaders c

/-- COMMIT (R28, R31): the next commit instant. [log 4: DESIGN CHOICE] -/
def execCommit (s : State) : Host.Outcome State Fault Refusal :=
  .next (if s.commitsOn then (s.gtTo (s.instantOf s.nextCommit)).commitNow s.nextCommit else s)

end Sys2Proof.Machine
end

