-- ==== Sys2Proof/Machine/Epoch.lean ====
section
/-!
DEFINITION. The epoch boundary (R51, R64, R65, R85, R90, R107, R146, R147, R166).
-/
namespace Sys2Proof.Machine

/-- The next epoch whose boundary has not happened: at the present GT when it stands at one that is still due. -/
def State.epochNext (s : State) : Nat :=
  let k := s.gt / s.tim.epLen
  if s.gt % s.tim.epLen = 0 && !(s.tim.anyEpoch && k ≤ s.tim.epDone) then k else k + 1

/-- A calibration's coefficients come into use at the boundary (R107). [log 49: DEDUCED] -/
def State.trimUse (s : State) : State :=
  (List.range 8).foldl (fun t c => t.coreMod c (fun k =>
    match k.trimNext with
    | some w => { k with trim := w, trimNext := none }
    | none => k)) s

/-- Another epoch has been shadowed (R166). -/
def State.shadowCount (s : State) : State :=
  if s.ket.rot == .shadow then { s with ket := { s.ket with shadowed := s.ket.shadowed + 1 } } else s

/-- Epoch `k` begins at the present GT. -/
def State.epochBegin (s : State) (k : Nat) : State :=
  let s1 := { s with tim := { s.tim with epDone := k, anyEpoch := true } }
  if s.qual = 5 then s1
  else
    let s2 := (((s1.slipSchedule).deferredAll).trimUse).adcFire 1
    ((((s2.bindings.foldl (fun t b => t.ketStart b k) s2).laws k).shadowCount).enterDone.leaveCheck)

/-- EPOCH_BOUNDARY (R65). [log 4: DESIGN CHOICE] -/
def execEpochBoundary (s : State) : Host.Outcome State Fault Refusal :=
  .next (if s.powered then (s.gtTo (s.epochNext * s.tim.epLen)).epochBegin s.epochNext else s)

end Sys2Proof.Machine
end

