-- ==== Sys2Proof/Machine/HostEng.lean ====
section
/-!
DEFINITION. The commands of the Kettle engines (R156, R160 to R163, R199 to R201, R436).
-/
namespace Sys2Proof.Machine

/-- RECIPE_LOAD (R160, R199, R200): the result word is the loader's. -/
def execRecipeLoad (tag : Fin 64) (dma : List Byte) (s : State) : Host.Outcome State Fault Refusal :=
  .next (s.command tag 0x101 (fun t c =>
    let r := t.recipeLoad (c.pw 0) (t.dataIn c dma)
    if r.2 = 0 then (r.1.storeDue).finish tag stOk else r.1.finish tag stRange (w32 r.2)))

/-- An epoch of 48 bits in P2 and P3. -/
def MCmd.epoch (c : MCmd) : Nat := c.pw 2 + 2 ^ 32 * c.pw 3

/-- RECIPE_SWAP (R161, R163, R201): without an epoch, four after the current one. [log 201: DEDUCED] -/
def execRecipeSwap (tag : Fin 64) (s : State) : Host.Outcome State Fault Refusal :=
  .next (s.command tag 0x102 (fun t c =>
    let b := c.pw 0
    let given := (c.pw 1).testBit 0
    let e := if given then c.epoch else t.epochNow + 4
    if t.engines ≤ b then t.refuse tag stRange 8
    else if !given && c.pw 2 ≠ 0 then t.refuse tag stRange 0xA
    else if !given && c.pw 3 ≠ 0 then t.refuse tag stRange 0xB
    else if e < t.epochNow + 2 then t.refuse tag stRange 0xA
    else if t.swapStatus b = stBusy then t.finish tag stBusy
    else if t.swapStatus b ≠ stOk then t.refuse tag stRange 8
    else
      let u := (t.setRegN (Reg.KET_SWAPEP_LO b) e).setFld (Reg.KET_SWAPEP_HI b) F.KET_SWAPEP_HI_EP (e / 2 ^ 32)
      u.ketMod b (fun x => { x with swap := some { epoch := e, tag := some tag } })))

/-- An engine-fallback or engine-resume command waits for its epoch (R156). [log 201: DEDUCED] -/
def State.modeAsk (s : State) (tag : Nat) (c : MCmd) (resume : Bool) : State :=
  let b := c.pw 0
  if s.engines ≤ b then s.refuse tag stRange 8
  else if c.epoch < s.epochNow + 2 then s.refuse tag stRange 0xA
  else if (s.bd b).modeCmd.isSome then s.finish tag stBusy
  else s.ketMod b (fun x => { x with modeCmd := some { resume := resume, epoch := c.epoch, tag := tag } })

/-- ENG_FALLBACK (R156). -/
def execEngFallback (tag : Fin 64) (s : State) : Host.Outcome State Fault Refusal :=
  .next (s.command tag 0x103 (fun t c => t.modeAsk tag c false))

/-- ENG_RESUME (R156). -/
def execEngResume (tag : Fin 64) (s : State) : Host.Outcome State Fault Refusal :=
  .next (s.command tag 0x104 (fun t c => t.modeAsk tag c true))

/-- ENG_DUMP (R436): the data memory as the last completed epoch left it. -/
def execEngDump (tag : Fin 64) (s : State) : Host.Outcome State Fault Refusal :=
  .next (s.command tag 0x105 (fun t c =>
    let b := c.pw 0
    let n := c.pw 2
    if t.engines ≤ b then t.refuse tag stRange 8
    else if n = 0 || 16384 < n then t.refuse tag stRange 0xA
    else if 16384 < c.pw 1 + n then t.refuse tag stRange 9
    else if c.len < 4 * n then t.refuse tag stRange 6
    else t.finishData tag c ((List.range n).flatMap (fun i => leBytes 4 ((t.bd b).dump.get zeroes (c.pw 1 + i)).toNat)) (cidx := (t.bd b).dumpIdx)))

end Sys2Proof.Machine
end

