-- ==== Sys2Proof/Machine/HostExp.lean ====
section
/-!
DEFINITION. Expert sessions and their keys (R440 to R445).
-/
namespace Sys2Proof.Machine

/-! ## Keys -/

/-- The curve P-384 of the ECDSA standard that R441 names: its prime and its coefficient b. [log 206: PRESUMED] -/
def p384 : Nat := 2 ^ 384 - 2 ^ 128 - 2 ^ 96 + 2 ^ 32 - 1
/-- [log 206: PRESUMED] -/
def p384b : Nat := 0xb3312fa7e23ee7e4988e056be3f82d19181d9c6efe8141120314088f5013875ac656398d8a2ed19d2a85c8edd3ec2aef

/-- An uncompressed public key whose point lies on the curve (R441). [log 206: PRESUMED] -/
def keyOk (k : List Byte) : Bool :=
  let x := beAt k 1 48
  let y := beAt k 49 48
  k.length == 97 && beAt k 0 1 == 4 && x < p384 && y < p384 && y * y % p384 == (x * x % p384 * x + (p384 - 3) * x + p384b) % p384

/-- EXP_KEYPROG (R441). -/
def execExpKeyprog (tag : Fin 64) (dma : List Byte) (s : State) : Host.Outcome State Fault Refusal :=
  .next (s.command tag 0x904 (fun t c =>
    let k := t.dataIn c dma
    if 4 ≤ c.pw 0 || !(t.mbx.keys.at (c.pw 0)).isEmpty then t.refuse tag stRange 8
    else if c.len ≠ 97 then t.refuse tag stRange 6
    else if !keyOk k then t.refuse tag stRange 0xFF
    else ({ t with mbx := { t.mbx with keys := t.mbx.keys.mod (c.pw 0) (fun _ => k) } }).finish tag stOk))

/-! ## The handshake -/

/-- What a session asks for: its blocks, WRITE level, its duration in seconds and its key slot (R442). -/
def MCmd.grant (c : MCmd) : Nat := c.pw 0 % 2 ^ 16
def MCmd.asksWrite (c : MCmd) : Bool := (c.pw 1).testBit 0
def MCmd.seconds (c : MCmd) : Nat := c.pw 1 / 2 ^ 16

/-- WRITE level is asked for a block that the safety configuration assigns (R444). -/
def State.grantUnsafe (s : State) (c : MCmd) : Bool := c.asksWrite && s.assigned.any (fun b => c.grant.testBit b)

/-- 32 bytes from the random source: free values (R442). [log 207: DESIGN CHOICE] -/
def State.challengeBytes (s : State) : List Byte := (List.range 4).flatMap (fun i => leBytes 8 (Config.freeValue (s.freeN + i)).toNat)

/-- EXP_OPEN (R442 to R444). [log 205: DEDUCED] -/
def execExpOpen (tag : Fin 64) (s : State) : Host.Outcome State Fault Refusal :=
  .next (s.command tag 0x901 (fun t c =>
    if c.seconds = 0 || 3600 < c.seconds then t.refuse tag stRange 9
    else if c.len < 32 then t.refuse tag stRange 6
    else if t.gt < t.mbx.lockUntil then t.finish tag stAuth
    else if t.flag Reg.MBX_EXPSESS F.MBX_EXPSESS_OPEN then t.finish tag stBusy
    else if t.grantUnsafe c then t.refuse tag stSafety 8
    else
      let bs := t.challengeBytes
      let ch : Challenge := { at_ := t.gt, p0 := c.p.getD 0 0#32, p1 := c.p.getD 1 0#32, p2 := c.p.getD 2 0#32, bytes := bs }
      ({ t with freeN := t.freeN + 4, mbx := { t.mbx with chal := some ch } }).finishData tag c bs))

/-- The 56 bytes that the holder of the key signs (R442). -/
def Challenge.message (h : Challenge) : List Byte := h.bytes ++ leBytes 16 Config.serial.toNat ++ leBytes 4 h.p0.toNat ++ leBytes 4 h.p1.toNat

/-- An EXP_AUTH that passes (R442, R443). [log 205: DEDUCED] -/
def State.authOk (s : State) (c : MCmd) (sig : List Byte) : Bool :=
  match s.mbx.chal with
  | some h =>
    let key := s.mbx.keys.at (c.pw 2 % 4)
    s.gt ≤ h.at_ + 30 * tickSec && h.p0 == c.p.getD 0 0#32 && h.p1 == c.p.getD 1 0#32 && h.p2 == c.p.getD 2 0#32 && !key.isEmpty &&
      Config.signed (Config.sha384 h.message) key sig
  | none => false

/-- A failed authentication (R443): the third in a row refuses every EXP_OPEN for 60 s. [log 205: DEDUCED] -/
def State.authFail (s : State) : State :=
  let t := (s.bump Reg.MBX_AUTHFAIL).stick Stk.EXP_AUTH_FAIL
  let n := s.mbx.authRow + 1
  { t with mbx := { t.mbx with authRow := n, lockUntil := if n = 3 then s.gt + 60 * tickSec else s.mbx.lockUntil } }

/-- A session opens (R440, R442, R445, R496): its identity is a free value other than 0. [log 207: DESIGN CHOICE] -/
def State.sessionOpen (s : State) (c : MCmd) : State :=
  let f := s.freeNow.setWidth 32
  let id_ : Word := if f = 0#32 then 1#32 else f
  let w := w32 (c.grant + 2 ^ 16 * bit c.asksWrite + 2 ^ 20 * (c.pw 2 % 4) + 2 ^ 31)
  let t := (s.freeStep.setReg Reg.MBX_EXPSESS w).setFld Reg.MBX_STAT F.MBX_STAT_SESSION 1
  ({ t with mbx := { t.mbx with sesId := id_, sesEnd := s.gt + c.seconds * tickSec, authRow := 0 } }).logRec 0x13 1 [w, id_]

/-- EXP_AUTH (R442 to R444): one challenge, one try. [log 205: DEDUCED] -/
def execExpAuth (tag : Fin 64) (dma : List Byte) (s : State) : Host.Outcome State Fault Refusal :=
  .next (s.command tag 0x902 (fun t c =>
    let u : State := { t with mbx := { t.mbx with chal := none } }
    if c.len ≠ 96 then t.refuse tag stRange 6
    else if !t.authOk c (t.dataIn c dma) then u.authFail.finish tag stAuth
    else if t.grantUnsafe c then u.refuse tag stSafety 8
    else
      let v := u.sessionOpen c
      v.finish tag stOk (v0 := v.mbx.sesId)))

/-- EXP_CLOSE (R443, R445). -/
def execExpClose (tag : Fin 64) (s : State) : Host.Outcome State Fault Refusal :=
  .next (s.command tag 0x903 (fun t c =>
    if t.flag Reg.MBX_EXPSESS F.MBX_EXPSESS_OPEN && t.mbx.sesId == c.session then (t.closeSession 2).finish tag stOk
    else t.finish tag stAuth))

end Sys2Proof.Machine
end

