-- ==== Sys2Proof/Machine/HostPan.lean ====
section
/-!
DEFINITION. The host's Pantry writes: law parameters and free slots (R206, R207, R238, R337, R435, R436).
-/
namespace Sys2Proof.Machine

/-! ## Destinations -/

/-- The CIDX of an AT command that Steward accepts (R435). -/
def State.atOk (s : State) (c : Nat) : Bool :=
  s.chosenDest ≤ c && c ≤ s.latestIdx + 2 ^ 20 * (if s.halfOn then 1 else 2) && (c % 2 = 0 || s.halfOn)

/-- Steward holds the writes of a command for one destination (R337, R435). -/
def State.holdAll (s : State) (c : MCmd) (tag : Option Nat) (dest : Nat) (ws : List (Nat × Word)) : State :=
  ws.foldl (fun t w => t.hold { slot := w.1, val := w.2, dest := dest, ord := c.order, tag := tag, at_ := c.at_ }) s

/-! ## Law parameters -/

/-- A pair of LAW_PARAM: its Idx and its value, with the word of the descriptor that holds the Idx. -/
structure ParPair where
  idx : Nat
  val : Word
  word : Nat

/-- The pairs of a LAW_PARAM command (R436). -/
def MCmd.pairs (c : MCmd) : List ParPair :=
  (List.range (c.pw 0 / 256)).map (fun k => ⟨c.pw (1 + 2 * k), c.p.getD (2 + 2 * k) 0#32, 9 + 2 * k⟩)

/-- The parameters that an instance number names: those of its law, or the station setpoints (R205, R218). -/
def State.parTable (s : State) (i : Nat) : List LawPar := if i = 0xFF then setPars else parsOf (s.law.inst.at i).typ

/-- A value lies between its limits as BF24 words carry them; PF_SET by its magnitude (R206, R218). [log 199: DEDUCED] -/
def parInRange (i : Nat) (p : LawPar) (w : Word) : Bool :=
  let x := (bfVal w).toRat
  let y := if i = 0xFF && p.idx = 2 then absRat x else x
  decide (bfRat p.lo ≤ y) && decide (y ≤ bfRat p.hi)

/-- The first word of a LAW_PARAM command that breaks a range rule (R206, R433, R436). [log 199: DEDUCED] -/
def State.parErr (s : State) (c : MCmd) : Option Nat :=
  let i := c.pw 0 % 256
  let n := c.pw 0 / 256
  if n = 0 || 3 < n || (i ≠ 0xFF && s.law.inst.length ≤ i) then some 8
  else
    match c.pairs.findSome? (fun p =>
      match (s.parTable i).find? (fun q => q.idx == p.idx) with
      | none => some p.word
      | some q => if parInRange i q p.val then none else some (p.word + 1)) with
    | some w => some w
    | none => ((List.range 6).find? (fun k => 2 * n ≤ k && c.pw (1 + k) ≠ 0)).map (fun k => 9 + k)

/-- The limit functions `k` in force with their converters (R310). -/
def State.limitsOn (s : State) (k : Nat) : List (SafeConv × LimitFn) :=
  if s.safe.inForce then (s.safe.cfg.convs.filter (fun v => (v.fns.getD k {}).on)).map (fun v => (v, v.fns.getD k {})) else []

/-- The rated values of the station as its COORD instance declares them: S_B, V_B and F_N (R208). -/
def State.stationBase (s : State) : Rat × Rat × Nat :=
  match s.law.inst.find? (fun l => l.typ == 0) with
  | some l => (l.bf 1 1, l.bf 2 1, l.num 3 50)
  | none => (1, 1, 50)

/-- A frequency deviation in Hz reaches an SLS limit (R207). [log 200: DEDUCED] -/
def State.reachesSls (s : State) (hz : Rat) : Bool :=
  (s.limitsOn 1).any (fun e => decide (limOf e.2 0 ≤ hz) || decide (-(limOf e.2 1) ≤ hz))

/-- I_MAX of bridge `l` lies above the SLC limit of a converter that holds one of its legs (R207, R208). [log 200: DEDUCED] -/
def State.aboveSlc (s : State) (l : LawInst) (imax : Rat) : Bool :=
  let b := s.stationBase
  let n := (s.law.inst.filter (fun x => x.typ == 5)).length
  let peak := imax * l.bf 4 (1 / n) * b.1 * sqrtRat (2 / 3) / b.2.1
  (s.limitsOn 0).any (fun e => (List.range 3).any (fun j => e.1.lgs.testBit (l.num (1 + j) 0)) && decide (limOf e.2 0 < peak))

/-- A parameter would command beyond an active safety limit (R207). [log 199, 200: DEDUCED] -/
def State.parUnsafe (s : State) (i : Nat) (p : ParPair) : Bool :=
  let x := (bfVal p.val).toRat
  let l := s.law.inst.at i
  if i = 0xFF then p.idx = 0 && s.sdiClamp x ≠ x
  else if l.typ = 5 && p.idx = 5 then s.aboveSlc l x
  else if l.typ = 1 && p.idx = 3 then s.reachesSls x
  else if l.typ = 4 && p.idx = 0xB then s.reachesSls (x * s.stationBase.2.2)
  else false

/-- A mode request that has to wait (R237, R238): GFL and GFM change places while fault ride-through is not NORMAL or a current limit is active. [log 199: DEDUCED] -/
def State.modeWaits (s : State) (i : Nat) (p : ParPair) : Bool :=
  let m := (s.law.inst.find? (fun l => l.typ == 0)).elim 0 (fun l => l.coord.mode)
  let limited := s.law.inst.any (fun l => (l.typ == 4 && l.gfm.limited) || (l.typ == 5 && l.ictl.limited))
  i = 0xFF && p.idx = 9 && (m = 2 || m = 3) && wantMode (bfVal p.val).toRat m ≠ m && (limited || s.law.inst.any (fun l => l.typ == 2 && l.frt.st ≠ 0))

/-- LAW_PARAM (R206, R207, R238, R435, R436). [log 199: DEDUCED] -/
def execLawParam (tag : Fin 64) (s : State) : Host.Outcome State Fault Refusal :=
  .next (s.command tag 0x201 (fun t c =>
    let i := c.pw 0 % 256
    match t.parErr c with
    | some w => t.refuse tag stRange w
    | none =>
      match c.pairs.find? (t.parUnsafe i) with
      | some p => t.refuse tag stSafety (p.word + 1)
      | none =>
        if c.at_ && !t.atOk c.cidx then t.refuse tag stRange 2
        else
          let dest := if c.at_ then c.cidx else t.chosenDest
          let ws := c.pairs.map (fun p => (if i = 0xFF then setSlot p.idx else parSlot i p.idx, p.val))
          if c.pairs.any (t.modeWaits i) then (t.holdAll c none dest ws).finish tag stDeferred (cidx := dest)
          else t.holdAll c (some tag) dest ws))

/-! ## Free slots -/

/-- The slot is used by a law instance: a parameter slot of one, or a setpoint while there are instances (R205, R436). [log 198: DEDUCED] -/
def State.lawSlot (s : State) (n : Nat) : Bool :=
  !s.law.inst.isEmpty &&
    ((0xEF00 ≤ n && n < 0xEF10) ||
      ((n - 0xE000) / 0x100 < s.law.inst.length && (parsOf (s.law.inst.at ((n - 0xE000) / 0x100)).typ).any (fun p => p.idx == n % 0x100)))

/-- PAN_WRITE (R435, R436). [log 198: DEDUCED] -/
def execPanWrite (tag : Fin 64) (dma : List Byte) (s : State) : Host.Outcome State Fault Refusal :=
  .next (s.command tag 0x202 (fun t c =>
    let bs := t.dataIn c dma
    let n := c.len / 8
    let ws := (List.range n).map (fun k => (leAt bs (8 * k) 2, w32 (leAt bs (8 * k + 4) 4)))
    if n = 0 || 256 < n || c.len % 8 ≠ 0 then t.refuse tag stRange 6
    else if (List.range n).any (fun k => leAt bs (8 * k + 2) 2 ≠ 0) || ws.any (fun w => w.1 < 0xE000 || 0xF000 ≤ w.1 || t.lawSlot w.1) then
      t.refuse tag stRange 0xFF
    else if c.at_ && !t.atOk c.cidx then t.refuse tag stRange 2
    else t.holdAll c (some tag) (if c.at_ then c.cidx else t.chosenDest) ws))

end Sys2Proof.Machine
end

