-- ==== Sys2Proof/Machine/HostPwm.lean ====
section
/-!
DEFINITION. The commands of the leg groups and the gate links (R7, R250, R253, R263, R278, R292, R295, R436).
-/
namespace Sys2Proof.Machine

/-- A mask names a leg group that the device does not have (R7). -/
def State.absentGroups (s : State) (mask : Nat) : Bool := mask / 2 ^ s.groups ≠ 0

/-- The eight words of a host-class set are valid for group `g` (R250). -/
def State.setOk (s : State) (g : Nat) (ws : List Word) : Bool :=
  (List.range 6).all (fun c => s.cmpOk g (ws.getD c 0#32).toNat) && (ws.getD 6 0#32).toNat < 2 ^ 29 && (ws.getD 7 0#32).toNat ≤ 1

/-- The shadow registers take a set (R253). -/
def State.shadowPut (s : State) (g : Nat) (ws : List Word) : State :=
  ([Reg.PWM_CMPA g, Reg.PWM_CMPB g, Reg.PWM_CMPC g, Reg.PWM_CMPD g, Reg.PWM_CMPE g, Reg.PWM_CMPF g, Reg.PWM_TRGA g, Reg.PWM_LGCMD g].zipIdx).foldl
    (fun t e => t.setReg e.1 (ws.getD e.2 0#32)) s

/-- PWM_SET (R250, R253, R436): the set is written and armed; the command completes at the load. -/
def execPwmSet (tag : Fin 64) (dma : List Byte) (s : State) : Host.Outcome State Fault Refusal :=
  .next (s.command tag 0x301 (fun t c =>
    let g := c.pw 0
    let bs := t.dataIn c dma
    let ws := (List.range 8).map (fun i => w32 (leAt bs (4 * i) 4))
    if t.groups ≤ g || t.fld (Reg.PWM_LGCFG g) F.PWM_LGCFG_SRC = 0 || !t.flag (Reg.PWM_LGCFG g) F.PWM_LGCFG_EN then t.refuse tag stRange 8
    else if c.len ≠ 32 then t.refuse tag stRange 6
    else if !t.setOk g ws then t.refuse tag stRange 0xFF
    else ((t.shadowPut g ws).setFld (Reg.PWM_HUPD g) F.PWM_HUPD_ARM 1).lgMod g (fun l => { l with armGt := t.gt, hupdTag := l.hupdTag ++ [tag.val] })))

/-- TRIP_CLEAR (R263): refused as a whole while a bus that latched one of the trips is still 1. [log 203: DEDUCED] -/
def execTripClear (tag : Fin 64) (s : State) : Host.Outcome State Fault Refusal :=
  .next (s.command tag 0x302 (fun t c =>
    let gs := bitsOf 32 (c.pw 0)
    if t.absentGroups (c.pw 0) then t.refuse tag stRange 8
    else if gs.any (fun g => (t.pwm.lgs.at g).latched && !t.tripClearable g) then t.refuse tag stSafety 8
    else (gs.foldl (fun (x : State) g => x.tripClear g) t).finish tag stOk))

/-- The channels of a GL_CAL command, in ascending order: those of a channel mask in every group of a mask. -/
def calChans (gmask cmask : Nat) : List Nat := (bitsOf 32 gmask).flatMap (fun g => (bitsOf 6 cmask).map (fun c => 6 * g + c))

/-- GL_CAL (R278): `trips` has the mean round trip of each direction of each channel, in 1/32 tick. [log 203: DEDUCED] -/
def execGlCal (tag : Fin 64) (trips : List (Nat × Nat)) (s : State) : Host.Outcome State Fault Refusal :=
  .next (s.command tag 0x303 (fun t c =>
    if t.absentGroups (c.pw 0) then t.refuse tag stRange 8
    else if t.dev != .standby || t.pwr.leaving.isSome || !(c.pw 1).testBit 31 then t.refuse tag stSafety 9
    else
      let u := ((calChans (c.pw 0) (c.pw 1)).zipIdx).foldl (fun (x : State) e =>
        let m := trips.getD e.2 (0, 0)
        x.setRegN (Reg.GL_LDLY (e.1 / 6) (e.1 % 6)) (min m.1 0xFFFF + 2 ^ 16 * min m.2 0xFFFF)) t
      u.storeDue.finish tag stOk))

/-- GL_CLEAR (R292): refused as a whole while one of the selected latches or holds may not clear. [log 203: DEDUCED] -/
def execGlClear (tag : Fin 64) (s : State) : Host.Outcome State Fault Refusal :=
  .next (s.command tag 0x304 (fun t c =>
    let g := c.pw 0
    let ns := (bitsOf 6 (c.pw 1)).map (fun k => 6 * g + k)
    let qs := bitsOf 3 (c.pw 1 / 256)
    if t.groups ≤ g then t.refuse tag stRange 8
    else if ns.any (fun n => (t.gl.chs.at n).latched && !t.latchClearable n) || qs.any (fun q => t.shootHeld g q && t.bothIdeal g q) then
      t.refuse tag stSafety 9
    else (qs.foldl (fun (x : State) q => x.shootClear g q) (ns.foldl (fun (x : State) n => x.latchClear n) t)).finish tag stOk))

/-- LPRB_RUN (R295, R436): the command completes at the end of the run; without a probe that is at once. [log 204: DEDUCED] -/
def execLprbRun (tag : Fin 64) (s : State) : Host.Outcome State Fault Refusal :=
  .next (s.command tag 0x305 (fun t c =>
    if t.absentGroups (c.pw 0) then t.refuse tag stRange 8
    else if t.gl.prbRun then t.finish tag stBusy
    else
      let u := (t.setRegN Reg.GL_PRBEN (c.pw 0)).probeGo
      let v : State := { u with mbx := { u.mbx with prbTag := some tag.val } }
      if v.gl.prbRun then v else v.probeDone))

end Sys2Proof.Machine
end

