-- ==== Sys2Proof/Machine/Kettle.lean ====
section
/-!
DEFINITION. The instructions of a recipe (R173 to R189), each executed by the engine of binding `b` when it stands at that word.
-/
namespace Sys2Proof.Machine

/-- NOP (R187). -/
def execNop (b : Fin 12) (h : KHead) (s : State) : Host.Outcome State Fault Refusal :=
  .next (s.kStep b (encN 0x00 h) h 1 id)

/-- LOOP (R177): not predicated; the loop register holds the iteration. -/
def execLoop (b : Fin 12) (f : KL) (s : State) : Host.Outcome State Fault Refusal :=
  .next (if (s.bd b).atWord (encL 0x01 f) then
      s.ketMod b (fun x => x.modRun (fun r =>
        { r with pc := r.pc + 1, cyc := r.cyc + 1,
                 loops := { j := f.jl.val, n := f.n1.val + 1, first := r.pc + 1, stop := r.pc + 2 + f.l1.val } :: r.loops }))
    else s)

/-- The comparison of a condition code on exact values (R186). -/
def condHolds (c : Nat) (x y : Dy) : Bool :=
  if c = 0 then x.lt y
  else if c = 1 then x.le y
  else if c = 2 then x.le y && y.le x
  else if c = 3 then !(x.le y && y.le x)
  else if c = 4 then y.le x
  else y.lt x

/-- CMPP (R186); the codes 6 and 7 are undefined. -/
def execCmpp (b : Fin 12) (h : KHead) (f : KE) (s : State) : Host.Outcome State Fault Refusal :=
  if 6 ≤ f.cond.val && (s.bd b).atWord (encE 0x08 h f) then .fault .undefinedCode
  else .next (s.kStep b (encE 0x08 h f) h 1 (State.kPure b (fun x =>
    (KOut.mk x false false).setFlag f.qd.val
      (condHolds f.cond.val (x.elem f.sa.val (f.ea.val + x.jval h)) (x.elem f.sb.val (f.eb.val + x.jval h))))))

/-- PLOG (R186). -/
def execPlog (b : Fin 12) (h : KHead) (f : KC) (s : State) : Host.Outcome State Fault Refusal :=
  .next (s.kStep b (encC 0x09 h f) h 1 (State.kPure b (fun x =>
    let p := x.run.flags.testBit f.qa.val
    let q := x.run.flags.testBit f.qb.val
    (KOut.mk x false false).setFlag f.qd.val
      (if f.fn.val = 0 then p && q else if f.fn.val = 1 then p || q else if f.fn.val = 2 then p != q else p && !q))))

/-- PBIT (R187). -/
def execPbit (b : Fin 12) (h : KHead) (f : KB) (s : State) : Host.Outcome State Fault Refusal :=
  .next (s.kStep b (encB 0x0A h f) h 1 (State.kPure b (fun x =>
    (KOut.mk x false false).setFlag f.qd.val ((x.word f.w.val).getLsbD f.bit.val))))

/-- PFRESH (R181, R187). -/
def execPfresh (b : Fin 12) (h : KHead) (f : KT) (s : State) : Host.Outcome State Fault Refusal :=
  .next (s.kStep b (encT 0x0B h f) h 16 (fun t =>
    let slot := f.slot.val + (t.bd b).jval h
    State.kPure b (fun x => (KOut.mk x false false).setFlag f.qd.val (t.ownerOf slot ≠ 0 && t.fresh slot)) (t.kLoad b slot)))

/-- LDP (R181). -/
def execLdp (b : Fin 12) (h : KHead) (f : KP) (s : State) : Host.Outcome State Fault Refusal :=
  .next (s.kStep b (encP 0x10 h f) h (18 + 2 * f.c1.val) (fun t =>
    let slots := (List.range (f.c1.val + 1)).map (fun i => f.slot.val + (t.bd b).jval h + i)
    let vs := slots.map (fun k => bfVal (t.slot k))
    State.kPure b (fun x => (KOut.mk x false false).putElems f.sd.val f.e0.val vs) (slots.foldl (fun u k => u.kLoad b k) t)))

/-- LDR (R181). -/
def execLdr (b : Fin 12) (h : KHead) (f : KT) (s : State) : Host.Outcome State Fault Refusal :=
  .next (s.kStep b (encT 0x11 h f) h 18 (fun t =>
    let slot := f.slot.val + (t.bd b).jval h
    State.kPure b (fun x => (KOut.mk x false false).setWord f.w.val (t.slot slot)) (t.kLoad b slot)))

/-- STP (R182). -/
def execStp (b : Fin 12) (h : KHead) (f : KP) (s : State) : Host.Outcome State Fault Refusal :=
  .next (s.kStep b (encP 0x18 h f) h (4 + 2 * f.c1.val) (fun t =>
    let x := t.bd b
    (List.range (f.c1.val + 1)).foldl
      (fun u i => u.kStore b (f.slot.val + x.jval h + i) (toBF (x.elem f.sd.val (f.e0.val + i))).w) t))

/-- STR (R182). -/
def execStr (b : Fin 12) (h : KHead) (f : KT) (s : State) : Host.Outcome State Fault Refusal :=
  .next (s.kStep b (encT 0x19 h f) h 4 (fun t => t.kStore b (f.slot.val + (t.bd b).jval h) ((t.bd b).word f.w.val)))

/-- The cycles of a vector instruction: c of the destination stage (R187). -/
def State.vecCost (s : State) (b sd : Nat) : Nat := quarterUp ((s.bd b).stage sd).len

/-- VADD (R187). -/
def execVadd (b : Fin 12) (h : KHead) (f : KS) (s : State) : Host.Outcome State Fault Refusal :=
  .next (s.kStep b (encS 0x20 h f) h (s.vecCost b f.sd.val) (State.kPure b (vecOp Dy.add h f)))

/-- VSUB (R187). -/
def execVsub (b : Fin 12) (h : KHead) (f : KS) (s : State) : Host.Outcome State Fault Refusal :=
  .next (s.kStep b (encS 0x21 h f) h (s.vecCost b f.sd.val) (State.kPure b (vecOp (fun x y => x.add y.neg) h f)))

/-- VMUL (R187). -/
def execVmul (b : Fin 12) (h : KHead) (f : KS) (s : State) : Host.Outcome State Fault Refusal :=
  .next (s.kStep b (encS 0x22 h f) h (s.vecCost b f.sd.val) (State.kPure b (vecOp Dy.mul h f)))

/-- VMAX (R187). -/
def execVmax (b : Fin 12) (h : KHead) (f : KS) (s : State) : Host.Outcome State Fault Refusal :=
  .next (s.kStep b (encS 0x23 h f) h (s.vecCost b f.sd.val) (State.kPure b (vecOp Dy.max h f)))

/-- VMIN (R187). -/
def execVmin (b : Fin 12) (h : KHead) (f : KS) (s : State) : Host.Outcome State Fault Refusal :=
  .next (s.kStep b (encS 0x24 h f) h (s.vecCost b f.sd.val) (State.kPure b (vecOp Dy.min h f)))

/-- VABS (R187). -/
def execVabs (b : Fin 12) (h : KHead) (f : KS) (s : State) : Host.Outcome State Fault Refusal :=
  .next (s.kStep b (encS 0x25 h f) h (s.vecCost b f.sd.val) (State.kPure b (vecOp1 Dy.abs f)))

/-- VNEG (R187). -/
def execVneg (b : Fin 12) (h : KHead) (f : KS) (s : State) : Host.Outcome State Fault Refusal :=
  .next (s.kStep b (encS 0x26 h f) h (s.vecCost b f.sd.val) (State.kPure b (vecOp1 Dy.neg f)))

/-- VCLAMP (R187). -/
def execVclamp (b : Fin 12) (h : KHead) (f : KS) (s : State) : Host.Outcome State Fault Refusal :=
  .next (s.kStep b (encS 0x27 h f) h (s.vecCost b f.sd.val)
    (State.kPure b (vecOp (fun x y => (x.max y.abs.neg).min y.abs) h f)))

/-- VMOV (R187). -/
def execVmov (b : Fin 12) (h : KHead) (f : KS) (s : State) : Host.Outcome State Fault Refusal :=
  .next (s.kStep b (encS 0x28 h f) h (s.vecCost b f.sd.val) (State.kPure b (vecOp1 id f)))

/-- MACZ (R142). -/
def execMacz (b : Fin 12) (h : KHead) (f : KA) (s : State) : Host.Outcome State Fault Refusal :=
  .next (s.kStep b (encA 0x30 h f) h 1 (State.kPure b (fun x =>
    { x := x.modRun (fun r => { r with acc := r.acc.mod f.an.val (fun _ => { a := 0, x := sgn 8 f.x.val }) }) })))

/-- The product of two elements goes to an accumulator with a sign (R141, R142). -/
def macEff (neg : Bool) (h : KHead) (f : KE) (x : Binding) : KOut :=
  let p := x.mant f.sa.val (f.ea.val + x.jval h) * x.mant f.sb.val (f.eb.val + x.jval h)
  (KOut.mk x false false).accAdd f.an.val (if neg then -p else p) ((x.stage f.sa.val).exp + (x.stage f.sb.val).exp)

/-- MAC (R142). -/
def execMac (b : Fin 12) (h : KHead) (f : KE) (s : State) : Host.Outcome State Fault Refusal :=
  .next (s.kStep b (encE 0x31 h f) h 1 (State.kPure b (macEff false h f)))

/-- MACV (R187): the length is that of SA. -/
def execMacv (b : Fin 12) (h : KHead) (f : KS) (s : State) : Host.Outcome State Fault Refusal :=
  .next (s.kStep b (encS 0x32 h f) h (s.vecCost b f.sa.val + 1) (State.kPure b (fun x =>
    (List.range (x.stage f.sa.val).len).foldl (fun o i =>
      o.accAdd (i % 4) (x.mant f.sa.val i * x.mant f.sb.val (if f.bcb then f.eb.val + x.jval h else i))
        ((x.stage f.sa.val).exp + (x.stage f.sb.val).exp)) (KOut.mk x false false))))

/-- ACCRED (R187): A1 to A3 become 0 and keep their exponents. [log 61: DEDUCED] -/
def execAccred (b : Fin 12) (h : KHead) (f : KA) (s : State) : Host.Outcome State Fault Refusal :=
  .next (s.kStep b (encA 0x33 h f) h 2 (State.kPure b (fun x =>
    [1, 2, 3].foldl (fun o i =>
      let c := x.run.acc.at i
      let p := o.accAdd 0 c.a c.x
      { p with x := p.x.modRun (fun r => { r with acc := r.acc.mod i (fun d => { d with a := 0, sat := false }) }) }) (KOut.mk x false false))))

/-- MACW (R143). -/
def execMacw (b : Fin 12) (h : KHead) (f : KE) (s : State) : Host.Outcome State Fault Refusal :=
  .next (s.kStep b (encE 0x34 h f) h 1 (State.kPure b (fun x =>
    let c := x.run.acc.at f.an.val
    (KOut.mk x false false).putElem f.sd.val (f.ed.val + x.jval h) ⟨c.a, c.x - 46⟩)))

/-- MNS (R187). -/
def execMns (b : Fin 12) (h : KHead) (f : KE) (s : State) : Host.Outcome State Fault Refusal :=
  .next (s.kStep b (encE 0x35 h f) h 1 (State.kPure b (macEff true h f)))

/-- SEXP (R144). -/
def execSexp (b : Fin 12) (h : KHead) (f : KS) (s : State) : Host.Outcome State Fault Refusal :=
  .next (s.kStep b (encS 0x38 h f) h (s.vecCost b f.sd.val + 1) (State.kPure b (rescale f.sd.val (sgn 8 f.imm.val))))

/-- SADJ (R187): a result outside the range is held at its limit and sets SAT. [log 62: DEDUCED] -/
def execSadj (b : Fin 12) (h : KHead) (f : KS) (s : State) : Host.Outcome State Fault Refusal :=
  .next (s.kStep b (encS 0x39 h f) h (s.vecCost b f.sd.val + 1) (State.kPure b (fun x =>
    let e := (x.stage f.sd.val).exp + sgn 8 f.imm.val
    let o := rescale f.sd.val (satTo 8 e) x
    if satTo 8 e = e then o else o.markSat f.sd.val)))

/-- NORM (R144). -/
def execNorm (b : Fin 12) (h : KHead) (f : KS) (s : State) : Host.Outcome State Fault Refusal :=
  .next (s.kStep b (encS 0x3A h f) h (2 * s.vecCost b f.sd.val + 2) (State.kPure b (fun x =>
    rescale f.sd.val ((x.stage f.sd.val).exp - x.normBy f.sd.val) x)))

/-- SQRT (R188): a negative operand gives 0 and sets SAT. -/
def execSqrt (b : Fin 12) (h : KHead) (f : KE) (s : State) : Host.Outcome State Fault Refusal :=
  .next (s.kStep b (encE 0x40 h f) h 10 (State.kPure b (fun x =>
    let v := x.elem f.sa.val (f.ea.val + x.jval h)
    let ed := f.ed.val + x.jval h
    if v.m < 0 then ((KOut.mk x false false).putMant f.sd.val ed 0).markSat f.sd.val
    else (KOut.mk x false false).putElem f.sd.val ed (sqrtDy v.m.toNat v.e))))

/-- RECIP (R188): the operand 0 gives the largest positive mantissa and sets SAT. -/
def execRecip (b : Fin 12) (h : KHead) (f : KE) (s : State) : Host.Outcome State Fault Refusal :=
  .next (s.kStep b (encE 0x41 h f) h 10 (State.kPure b (fun x =>
    let m := x.mant f.sa.val (f.ea.val + x.jval h)
    let ed := f.ed.val + x.jval h
    if m = 0 then ((KOut.mk x false false).putMant f.sd.val ed (2 ^ 23 - 1)).markSat f.sd.val
    else (KOut.mk x false false).putMant f.sd.val ed (recipMant m (x.stage f.sa.val).exp (x.stage f.sd.val).exp))))

/-- SINCOS (R188). -/
def execSincos (b : Fin 12) (h : KHead) (f : KX) (s : State) : Host.Outcome State Fault Refusal :=
  .next (s.kStep b (encX 0x42 h f) h 6 (State.kPure b (fun x =>
    let t := cosSin (x.word f.w.val).toNat
    (KOut.mk x false false).putElems f.sd.val (f.ed.val + x.jval h) [⟨t.1, -256⟩, ⟨t.2, -256⟩])))

/-- ATAN2 (R188). -/
def execAtan2 (b : Fin 12) (h : KHead) (f : KX) (s : State) : Host.Outcome State Fault Refusal :=
  .next (s.kStep b (encX 0x43 h f) h 12 (State.kPure b (fun x =>
    let p := x.elem f.sd.val (f.ed.val + x.jval h)
    let q := x.elem f.sb.val (f.eb.val + x.jval h)
    let e := min p.e q.e
    (KOut.mk x false false).setWord f.w.val (atan2Word (p.m * 2 ^ (p.e - e).toNat) (q.m * 2 ^ (q.e - e).toNat)))))

/-- ANGF (R183). -/
def execAngf (b : Fin 12) (h : KHead) (f : KX) (s : State) : Host.Outcome State Fault Refusal :=
  .next (s.kStep b (encX 0x44 h f) h 2 (State.kPure b (fun x =>
    (KOut.mk x false false).putElem f.sd.val (f.ed.val + x.jval h) ⟨(x.word f.w.val).toInt, -32⟩)))

/-- FANG (R183): modulo one turn, never saturated. -/
def execFang (b : Fin 12) (h : KHead) (f : KX) (s : State) : Host.Outcome State Fault Refusal :=
  .next (s.kStep b (encX 0x45 h f) h 2 (State.kPure b (fun x =>
    let v := x.elem f.sd.val (f.ed.val + x.jval h)
    (KOut.mk x false false).setWord f.w.val (BitVec.ofInt 32 (shiftRound v.m (v.e + 32))))))

/-- ITOF (R183). -/
def execItof (b : Fin 12) (h : KHead) (f : KX) (s : State) : Host.Outcome State Fault Refusal :=
  .next (s.kStep b (encX 0x46 h f) h 2 (State.kPure b (fun x =>
    (KOut.mk x false false).putElem f.sd.val (f.ed.val + x.jval h) ⟨(x.word f.w.val).toInt, 0⟩)))

/-- A raw word takes a function of two raw words (R183). -/
def rawOp (op : Word → Word → Word) (f : KW) (x : Binding) : KOut :=
  (KOut.mk x false false).setWord f.wd.val (op (x.word f.wa.val) (x.word f.wb.val))

/-- IADD (R183). -/
def execIadd (b : Fin 12) (h : KHead) (f : KW) (s : State) : Host.Outcome State Fault Refusal :=
  .next (s.kStep b (encW 0x50 h f) h 1 (State.kPure b (rawOp (· + ·) f)))

/-- ISUB (R183). -/
def execIsub (b : Fin 12) (h : KHead) (f : KW) (s : State) : Host.Outcome State Fault Refusal :=
  .next (s.kStep b (encW 0x51 h f) h 1 (State.kPure b (rawOp (· - ·) f)))

/-- IAND (R183). -/
def execIand (b : Fin 12) (h : KHead) (f : KW) (s : State) : Host.Outcome State Fault Refusal :=
  .next (s.kStep b (encW 0x52 h f) h 1 (State.kPure b (rawOp (· &&& ·) f)))

/-- IOR (R183). -/
def execIor (b : Fin 12) (h : KHead) (f : KW) (s : State) : Host.Outcome State Fault Refusal :=
  .next (s.kStep b (encW 0x53 h f) h 1 (State.kPure b (rawOp (· ||| ·) f)))

/-- IXOR (R183). -/
def execIxor (b : Fin 12) (h : KHead) (f : KW) (s : State) : Host.Outcome State Fault Refusal :=
  .next (s.kStep b (encW 0x54 h f) h 1 (State.kPure b (rawOp (· ^^^ ·) f)))

/-- ISH (R187); SHT 3 is undefined. -/
def execIsh (b : Fin 12) (h : KHead) (f : KW) (s : State) : Host.Outcome State Fault Refusal :=
  if f.sht.val = 3 && (s.bd b).atWord (encW 0x55 h f) then .fault .undefinedCode
  else .next (s.kStep b (encW 0x55 h f) h 1 (State.kPure b (rawOp (fun v _ =>
    if f.sht.val = 0 then v <<< f.shn.val else if f.sht.val = 1 then v >>> f.shn.val else v.sshiftRight f.shn.val) f)))

/-- IMOV (R187). -/
def execImov (b : Fin 12) (h : KHead) (f : KI) (s : State) : Host.Outcome State Fault Refusal :=
  .next (s.kStep b (encI 0x56 h f) h 1 (State.kPure b (fun x => (KOut.mk x false false).setWord f.wd.val (BitVec.ofNat 32 f.imm.val))))

end Sys2Proof.Machine
end

