-- ==== Sys2Proof/Machine/Pantry.lean ====
section
/-!
DEFINITION. The Pantry's commands (R24 to R43).
-/
namespace Sys2Proof.Machine

/-- PANTRY_WRITE (R25, R29, R30, R32): a producer's write completes now. -/
def execPantryWrite (owner slot ord : Nat) (dest : Dest) (val : Word) (s : State) : Host.Outcome State Fault Refusal :=
  .next (match dest with
    | .sampled gt => s.panSample owner slot ord gt val
    | .commit cidx => s.panWrite owner slot ord cidx val)

/-- PANTRY_READ (R33): the committed value and the FRESH bit, flagged where the read is stale. -/
def execPantryRead (slot cidx : Nat) (s : State) : Host.Outcome State Fault Refusal :=
  .next (let t := s.staleCheck slot cidx
    { t with out := { t.out with value := s.slot slot, fresh := s.fresh slot } })

/-- The condition of a cause stands even without a new breach: an island out of its range (R42, R43, R75). [log 19: DEDUCED] -/
def State.causeStands (s : State) (c : Nat) : Bool :=
  c = 3 && (s.tim.outOfRange.any (fun n => 2 ≤ n) || (!s.flag Reg.CLK_STAT F.CLK_STAT_DLL_LOCK && !s.tim.relockCmd))

/-- BREACH_INTERVAL_CLOSE (R43): the interval closes at the first epoch boundary one epoch after its last breach, with a record of the last
affected commit index. [log 19: DEDUCED] -/
def execBreachIntervalClose (cause : Fin 6) (s : State) : Host.Outcome State Fault Refusal :=
  .next (let b := s.pan.breach.at cause
    if !b.isOpen || s.causeStands cause then s
    else
      let t := s.gtTo (s.epochFrom (b.lastGt + s.tim.epLen))
      ({ t with pan := { t.pan with breach := t.pan.breach.mod cause (fun x => { x with isOpen := false }) } }).logRec 0x01
        (evCode cause 2) ([w32 cause, w32 b.slot] ++ cidxWords b.last))

end Sys2Proof.Machine
end

