-- ==== Sys2Proof/Machine/Pins.lean ====
section
/-!
DEFINITION. Events at the pins (R458, R472, R513 to R517): boundary scan, TEST_EN, current foldback, and the start-up tests of the safety monitor.
-/
namespace Sys2Proof.Machine

/-- JTAG_INSTRUCTION (R515): an instruction that drives pins acts only while PORST_N is low, and as BYPASS otherwise. -/
def execJtagInstruction (ins : JtagIns) (porstLow : Bool) (s : State) : Host.Outcome State Fault Refusal :=
  .next { s with pin := { s.pin with jtag := if ins = .drive && !porstLow then .bypass else ins } }

/-- The commanded level of an output, as a mark that differs once the level has changed. A running clock or pulse changes it with GT. [log 240: DEDUCED] -/
def State.levelMark (s : State) (p : OutPin) : Nat × Nat :=
  match p with
  | .gcmd n => (bit (s.pwm.chs.at n).lvl, (s.pwm.chs.at n).onAt + (s.pwm.chs.at n).lastOff)
  | .gset g => ((s.pwm.lgs.at g).frames, 0)
  | .sdc k => if s.ana.sdcOn.testBit k then (1, s.gt) else (0, 0)
  | .pls k => (bit (s.mtr.pls.at k).active, (s.mtr.pls.at k).since)
  | .syncOut => (bit s.pwm.chain.syncOut, s.pwm.chain.syncOutAt)
  | .ppsOut => (bit s.tim.ppsOut, s.tim.ppsRise)

/-- The output is in current-limited drive: its commanded level is still the one it folded back at (R517). [log 240: DEDUCED] -/
def State.isFolded (s : State) (p : OutPin) : Bool := s.pin.folded.any (fun e => e.1 = p && e.2 = s.levelMark p)

/-- The pin exists on the variant (R5). -/
def State.hasPin (s : State) (p : OutPin) : Bool :=
  match p with
  | .gcmd n => n.val < s.channels
  | .gset g => g.val < s.groups
  | _ => true

/-- OUTPUT_FOLDBACK (R517): more than 20 mA for 2 µs; the drive is limited to 2 mA until the commanded level next changes. [log 240: DEDUCED] -/
def execOutputFoldback (pin : OutPin) (s : State) : Host.Outcome State Fault Refusal :=
  .next (if !s.hasPin pin then s
    else { s with pin := { s.pin with folded := s.pin.folded.filter (fun e => e.1 ≠ pin) ++ [(pin, s.levelMark pin)] } })

/-- SAFE_START_UP_TESTS_DONE (R458, R472): from now on safety outputs may be energised. -/
def execSafeStartUpTestsDone (s : State) : Host.Outcome State Fault Refusal :=
  .next (if s.dev == .dormant || s.pin.testEn || s.safe.intFault then s else { s with safe := { s.safe with startTests := true } })

/-- TEST_EN_HIGH (R515): the device holds itself in reset, as by PORST_N. [log 241: DEDUCED] -/
def execTestEnHigh (s : State) : Host.Outcome State Fault Refusal :=
  .next (let t := s.deviceReset 2
    { t with pin := { t.pin with testEn := true } })

end Sys2Proof.Machine
end

