-- ==== Sys2Proof/Machine/Power.lean ====
section
/-!
DEFINITION. The events of supply, harvest, wake and the watch link (R378 to R380, R467 to R487), and the log's write queue (R498).
-/
namespace Sys2Proof.Machine

/-- MRAM_RECORD_WRITE (R484, R485, R498 to R500): the front of the queue is written when it is admitted, else it waits. [log 236: DESIGN CHOICE] -/
def execMramRecordWrite (out : MramOut) (s : State) : Host.Outcome State Fault Refusal :=
  .next (if s.pwr.keepOff || s.log.queue.isEmpty then s
    else if s.admits s.logCost false then ((if s.keepSrc = 1 then s.charge s.logCost else s).mramPut out)
    else s.deferBurst)

/-! ## The watch link -/

/-- BEACON (R378, R379). -/
def execBeacon (s : State) : Host.Outcome State Fault Refusal :=
  .next (if !s.p2Up then s
    else
      let t := s.gtTo (s.net.beaconAt + clampNat 1 3600 (s.fld Reg.NET_TLCFG F.NET_TLCFG_BEACON) * tickSec)
      let u := t.netMod (fun n => { n with beaconAt := t.gt })
      if u.p2Admits then u.beaconSend else (u.p2Defer).netMod (fun n => { n with beaconDue := true }))

/-- STATUS_REQ (R378): answered with STATUS. [log 161: DEDUCED] -/
def execStatusReq (seq : Fin 65536) (s : State) : Host.Outcome State Fault Refusal :=
  .next (if !s.p2Up then s
    else
      let t := s.netMod (fun n => { n with lastWatch := s.gt })
      t.reply (watchFrame 3 seq t.statusPayload))

/-- LOG_REQ (R378, R499, R502): answered with LOG; a count outside 1 to 8 makes no valid frame. [log 161: DEDUCED] -/
def execLogReq (seq : Fin 65536) (start : Word) (count : Nat) (s : State) : Host.Outcome State Fault Refusal :=
  .next (if !s.p2Up || count < 1 || 8 < count then s
    else
      let t := s.netMod (fun n => { n with lastWatch := s.gt })
      if !t.p2Admits then t.p2Defer
      else
        let (u, rs) := t.logRead start.toNat count
        u.p2Send (watchFrame 5 seq (rs.flatMap LogRec.bytes)))

/-- WATCH_IDLE_TIMEOUT (R380). -/
def execWatchIdleTimeout (s : State) : Host.Outcome State Fault Refusal :=
  .next (let n := s.fld Reg.NET_TLCFG F.NET_TLCFG_IDLE
    if s.dev != .watch || n = 0 then s
    else (s.gtTo (s.net.lastWatch + n * tickSec)).toDormant 3)

/-! ## Wakes (R474) -/

/-- [log 235: DEDUCED] -/
def State.addWake (s : State) (n : Nat) : State :=
  if s.pwr.wakes.contains n then s else s.pwrMod (fun p => { p with wakes := p.wakes ++ [n] })

/-- P2_WAKE (R380, R474). -/
def execP2Wake (s : State) : Host.Outcome State Fault Refusal :=
  .next (if s.dev == .dormant && !s.pwr.keepOff && s.flag Reg.CLK_WAKEEN F.CLK_WAKEEN_P2 then s.addWake 2 else s)

/-- LIGHT_WAKE (R474): HVIN has been light for 1 s and HSTORE has reached LWAKE. -/
def execLightWake (s : State) : Host.Outcome State Fault Refusal :=
  .next (if s.dev == .dormant && !s.pwr.keepOff && s.flag Reg.CLK_WAKEEN F.CLK_WAKEEN_LIGHT && s.flag Reg.CLK_PWRSTAT F.CLK_PWRSTAT_LIGHT &&
        s.lwakeMv ≤ s.hstoreMv then (s.gtTo (s.pwr.lightSince + tickSec)).addWake 3
    else s)

/-- WAKE_ADMIT (R474): a pending wake is admitted with HSTORE at WAKE, or with the main supply valid. [log 235: DEDUCED] -/
def execWakeAdmit (s : State) : Host.Outcome State Fault Refusal :=
  .next (if s.dev == .dormant && !s.pwr.keepOff && !s.pwr.wakes.isEmpty && (s.mainOk || s.wakeMv ≤ s.hstoreMv) then s.wakeTo s.pwr.wakes else s)

/-! ## The main supply -/

/-- MAIN_SUPPLY_LOSS (R470, R473, R481): the rails below their loss levels are recorded; from RUN or STANDBY the device goes to WATCH. -/
def execMainSupplyLoss (rails : Fin 64) (s : State) : Host.Outcome State Fault Refusal :=
  .next (if rails.val = 0 || !s.mainOk || s.pwr.keepOff then s
    else
      let s1 := s.setFld Reg.CLK_PWRSTAT F.CLK_PWRSTAT_RAILLOST rails
      let s2 := if s.powered then (((s1.allGcmdLow).stick Stk.SUPPLY_LOSS).toWatch 2) else s1
      let s3 := (s2.setFld Reg.CLK_PWRSTAT F.CLK_PWRSTAT_MAINOK 0).setFld Reg.CLK_PWRSTAT F.CLK_PWRSTAT_CHARGE 0
      match s3.sourceNow with
      | some k => (s3.setSource k).pwrMod (fun p => { p with leaving := none, entering := none })
      | none => s3.keepLost)

/-- BROWN_OUT (R471): a supply-monitor reset; `latched` says that the FINAL latches and the transition record came before it. [log 231: DEDUCED] -/
def execBrownOut (rails : Fin 64) (latched : Bool) (s : State) : Host.Outcome State Fault Refusal :=
  .next (if !s.powered || rails.val = 0 then s
    else
      let s1 := ((s.setFld Reg.CLK_PWRSTAT F.CLK_PWRSTAT_RAILLOST rails).allGcmdLow).stick Stk.SUPPLY_LOSS
      let s2 := if latched then ({ (s1.mtrFinal).transition .watch 2 with dev := s.dev } : State) else s1
      let s3 := (s2.stick Stk.HOLDUP_SHORT).setFld Reg.CLK_PWRSTAT F.CLK_PWRSTAT_MAINOK 0
      let s4 := (s3.setFld Reg.CLK_PWRSTAT F.CLK_PWRSTAT_CHARGE 0).deviceReset 3
      match s4.sourceNow with
      | some k => s4.setSource k
      | none => s4.keepLost)

/-- MAIN_SUPPLY_VALID (R468, R473, R487): from DORMANT through WATCH to STANDBY, which boots; a supply-monitor reset that waited ends. [log 231: DEDUCED] -/
def execMainSupplyValid (s : State) : Host.Outcome State Fault Refusal :=
  .next (if s.mainOk || s.pwr.keepOff then s
    else
      let s1 := (s.setFld Reg.CLK_PWRSTAT F.CLK_PWRSTAT_MAINOK 1).setSource 0
      match s1.pwr.held with
      | some c => s1.deviceReset c
      | none =>
        let s2 := if s1.dev == .dormant then s1.wakeTo (s1.pwr.wakes ++ [4]) else s1.setFld Reg.CLK_PWRSTAT F.CLK_PWRSTAT_LASTWAKE 4
        if s2.dev == .watch then ({ (s2.transition .standby 8) with dev := .watch } : State).deviceReset 4 else s2)

/-- PORST_N_RESET (R448, R473). -/
def execPorstNReset (s : State) : Host.Outcome State Fault Refusal := .next (if s.pwr.keepOff then s else s.deviceReset 2)

/-- KEEP_POWER_UP (R448, R480, R481, R499): cold; with the main supply valid the device boots, without it only KEEP runs. [log 230: DEDUCED] -/
def execKeepPowerUp (mainOk : Bool) (s : State) : Host.Outcome State Fault Refusal :=
  .next (let s1 := (s.keepLost.pwrMod (fun _ => {})).mramScan
    let s2 := (s1.setFld Reg.CLK_PWRSTAT F.CLK_PWRSTAT_MAINOK (bit mainOk)).setFld Reg.CLK_PWRSTAT F.CLK_PWRSTAT_KEEPSRC (if mainOk then 0 else 1)
    s2.deviceReset 1)

/-! ## The KEEP monitor (R479, R481, R482) -/

/-- The chargers stop at their limits and restart 50 mV below them (R479). -/
def chargeEnd (full : Bool) (v limit : Nat) : Bool := limit ≤ v || (full && limit < v + 50)

/-- The charge status (R479). [log 233: DEDUCED] -/
def State.chargeView (s : State) (drawing : Bool) : State :=
  let v := s.hstoreMv
  let h := chargeEnd s.pwr.harvestFull v s.vmaxMv
  let c := chargeEnd s.pwr.chargeFull v (min s.vmaxMv 3200)
  let s1 := s.pwrMod (fun p => { p with harvestFull := h, chargeFull := c })
  (s1.setFld Reg.CLK_PWRSTAT F.CLK_PWRSTAT_HARVEST (bit (drawing && !h && s.flag Reg.CLK_PWRSTAT F.CLK_PWRSTAT_LIGHT))).setFld
    Reg.CLK_PWRSTAT F.CLK_PWRSTAT_CHARGE (bit (s.mainOk && s.flag Reg.CLK_HRVCFG F.CLK_HRVCFG_CHG && !c))

/-- Seconds on HBAT (R481). -/
def State.batCount (s : State) (dt : Nat) : State :=
  if s.keepSrc ≠ 2 then s
  else
    let n := s.pwr.batTicks + dt
    (s.bumpBy Reg.CLK_BATSEC (n / tickSec)).pwrMod (fun p => { p with batTicks := n % tickSec })

/-- KEEP_MONITOR_CONVERSION (R475, R478, R479, R481, R482, R486): every 10 ms. [log 234: DEDUCED] -/
def execKeepMonitorConversion (r : KeepReading) (s : State) : Host.Outcome State Fault Refusal :=
  .next (if s.pwr.keepOff then s
    else
      let s1 := s.gtTo (s.pwr.convAt + 10 * tickMs)
      let s2 := (s1.batCount (s1.gt - s.gt)).pwrMod (fun p => { p with convAt := s1.gt, admitted := 0 })
      let s3 := ((s2.setRegN Reg.CLK_HRVMON0 (r.hstore + 65536 * r.hbat)).setRegN Reg.CLK_HRVMON1
        (r.hvin + 65536 * r.hset + 2 ^ 30 * bit r.hbatNeg + 2 ^ 31 * bit r.hvinNeg)).setRegN Reg.CLK_HRVIRR r.iin
      let s4 := if r.hbatNeg && !s.flag Reg.CLK_HRVMON1 F.CLK_HRVMON1_HBAT_NEG then
          (s3.stick Stk.HBAT_REV).logRec 0x03 (evCode Stk.HBAT_REV.file 9) []
        else s3.stickIf r.hbatNeg Stk.HBAT_REV
      let s5 := (s4.stickIf r.hvinNeg Stk.HVIN_REV).stickIf (!r.hbatNeg && 500 ≤ 8 * r.hbat.val && 8 * r.hbat.val < 2700) Stk.HBAT_LOW
      let lit := s5.lightNow
      let was := s.flag Reg.CLK_PWRSTAT F.CLK_PWRSTAT_LIGHT
      let s6 := (s5.setFld Reg.CLK_PWRSTAT F.CLK_PWRSTAT_LIGHT (bit lit)).pwrMod (fun p =>
        { p with lightSince := if lit && !was then s5.gt else p.lightSince, darkSince := if !lit && was then s5.gt else p.darkSince,
                 darkDone := p.darkDone && !lit,
                 shortSince := if 8 * r.hstore.val < 500 then (if p.shortSince.isSome then p.shortSince else some s5.gt) else none,
                 below := if s5.dev == .watch && !s5.mainOk && 8 * r.hstore.val < s5.offMv then (if p.below.isSome then p.below else some s5.gt)
                   else none })
      let s7 := s6.chargeView r.drawing
      match s7.sourceNow with
      | some k => (s7.setSource k).beaconRetry
      | none => s7.keepLost)

/-- DARKNESS_TIMEOUT (R481): HVIN has been dark for longer than DARK_T. [log 234: DEDUCED] -/
def execDarknessTimeout (s : State) : Host.Outcome State Fault Refusal :=
  .next (if s.pwr.keepOff || s.flag Reg.CLK_PWRSTAT F.CLK_PWRSTAT_LIGHT then s
    else
      let t := (s.gtTo (s.pwr.darkSince + max 1 (s.fld Reg.CLK_HRVCFG F.CLK_HRVCFG_DARK_T) * 60 * tickSec)).pwrMod (fun p => { p with darkDone := true })
      match t.sourceNow with
      | some k => t.setSource k
      | none => t)

/-- ENERGY_POLICY_DORMANT (R475): HSTORE below OFF for 100 ms in WATCH with the main supply invalid. -/
def execEnergyPolicyDormant (s : State) : Host.Outcome State Fault Refusal :=
  .next (match s.pwr.below with
    | some t =>
      if s.dev != .watch || s.mainOk then s
      else ((s.gtTo (t + 100 * tickMs)).logRec 0x03 (evCode 0xFF 6) [w32 s.hstoreMv]).toDormant 4
    | none => s)

/-- HSET_FAULT (R477): the converter regulates to 1.2 V until the next KEEP power-up. -/
def execHsetFault (s : State) : Host.Outcome State Fault Refusal :=
  .next (if s.pwr.keepOff || s.pwr.hsetFallback then s
    else ((s.pwrMod (fun p => { p with hsetFallback := true })).stick Stk.HSET_FAULT).logRec 0x03 (evCode Stk.HSET_FAULT.file 7) [])

/-- HSTORE_SHORT (R486): below 0.5 V for 1 s with the main supply valid. -/
def execHstoreShort (s : State) : Host.Outcome State Fault Refusal :=
  .next (match s.pwr.shortSince with
    | some t => if s.mainOk then (s.gtTo (t + tickSec)).stick Stk.HSTORE_SHORT else s
    | none => s)

end Sys2Proof.Machine
end

