-- ==== Sys2Proof/Machine/Supervisor.lean ====
section
/-!
DEFINITION. The supervisor pair's events (R331 to R346).
-/
namespace Sys2Proof.Machine

/-- The checker compares: the pair is in LOCKED. -/
def State.pairLocked (s : State) : Bool := (s.dev == .run || s.dev == .standby) && s.supState == 0

/-- CHECKER_SELF_TEST (R331): every 1 ms of GT; a second consecutive failure puts the pair in FAILED with class 3. [log 139: DESIGN CHOICE] -/
def execCheckerSelfTest (ok : Bool) (s : State) : Host.Outcome State Fault Refusal :=
  .next (if !s.pairLocked then s
    else
      let s1 := (s.gtTo (s.sup.injAt + tickMs)).supMod (fun u => { u with injAt := s.sup.injAt + tickMs })
      if ok then (s1.tickReg Reg.SUP_INJCNT).supMod (fun u => { u with injFails := 0 })
      else
        let s2 := ((s1.stick Stk.LS_INJ_FAIL).logRec 0x08 (evCode Stk.LS_INJ_FAIL.file 0) []).supMod (fun u => { u with injFails := u.injFails + 1 })
        if 2 ≤ s2.sup.injFails then s2.supFail 3 else s2)

/-- The journal has received `n` entries since the last checkpoint (R333). -/
def State.journalAt (s : State) (n : Nat) : State :=
  if 16384 < n then (s.stick Stk.LS_JOURNAL_FULL).supMod (fun u => { u with journalFull := true }) else s

/-- FRAME_START (R332, R338, R339, R344): the heartbeat, the checkpoint, and at every tenth frame the signatures. [log 139: DESIGN CHOICE] -/
def execFrameStart (diverged : Bool) (entries : Nat) (s : State) : Host.Outcome State Fault Refusal :=
  .next (if !(s.dev == .run || s.dev == .standby) || s.supFailed then s
    else
      let t := if s.sup.anyFrame then s.sup.lastFrame + tickMs else (s.gt + tickMs - 1) / tickMs * tickMs
      let s1 := (s.gtTo t).supMod (fun u => { u with lastFrame := t, anyFrame := true })
      let s2 := if s1.supState = 3 && 3 ≤ s1.fld Reg.SUP_STAT F.SUP_STAT_PHASE then s1 else s1.tickReg Reg.MBX_HB
      let s3 := if s2.supState = 1 then s2 else (s2.journalAt entries).supMod (fun u => { u with journalFull := false })
      if s3.sup.rejoinDue then (s3.resync).supMod (fun u => { u with rejoinDue := false })
      else if s3.supState = 0 && t / tickMs % 10 = 0 && diverged then
        let s4 := ((s3.stick Stk.LATENT_DIV).bump Reg.SUP_DIVCNT).setFld Reg.SUP_STAT F.SUP_STAT_CLASS 5
        (s4.logRec 0x08 (evCode Stk.LATENT_DIV.file 2) [5#32]).resync
      else s3)

/-- LOCKSTEP_MISMATCH (R334): `entries` counts the journal's entries of this frame. [log 139: DESIGN CHOICE] -/
def execLockstepMismatch (group : Fin 16) (kind : Fin 3) (addr : Word) (entries : Nat) (s : State) : Host.Outcome State Fault Refusal :=
  .next (if !s.pairLocked then s
    else
      let s1 := (s.journalAt entries).setSup 1
      ((s1.setRegN Reg.SUP_MISINFO (group.val + 16 * kind.val + 2 ^ 31)).setReg Reg.SUP_MISADDR addr).stick Stk.LS_MISMATCH |>.bump Reg.SUP_MISCNT)

/-- The class of a re-run (R335). [log 140: DEDUCED] -/
def rerunClass (agree testOk full : Bool) : Nat := if !testOk then 3 else if full then 4 else if agree then 1 else 2

/-- RERUN_COMPLETE (R335, R336, R337). [log 139: DESIGN CHOICE; 141: DEDUCED] -/
def execRerunComplete (agree testOk : Bool) (s : State) : Host.Outcome State Fault Refusal :=
  .next (if s.supState ≠ 1 then s
    else
      let c := rerunClass agree testOk s.sup.journalFull
      let s1 := ((s.setFld Reg.SUP_STAT F.SUP_STAT_CLASS c).supActed).logRec 0x08 (evCode 0xFF 1) [w32 c]
      if c ≠ 1 then s1.supFail c
      else
        let s2 := s1.supMod (fun u => { u with recovs := s1.recov60 ++ [s1.gt] })
        if 4 ≤ s2.sup.recovs.length then s2.supFail 1
        else (s2.setSup 0).retargetHeld (fun w => s2.instantOf w.dest < s2.gt + 64))

/-- STEWARD_WRITE_ISSUE (R337): the writes for the commit that ends the present interval, at least 64 ticks before it. [log 142: DEDUCED] -/
def execStewardWriteIssue (s : State) : Host.Outcome State Fault Refusal :=
  .next (if !s.stewardOn || !s.commitsOn then s
    else
      let late := fun (w : HeldWrite) => w.dest < s.nextCommit || s.instantOf w.dest < s.gt + 64
      let s1 := if s.sup.held.any late then s.retargetHeld late else s
      s1.issueHeld s1.nextCommit)

/-- SPLIT (R342): the split that FW_ACTIVATE asked for starts at a frame start. [log 143: DEDUCED] -/
def execSplit (s : State) : Host.Outcome State Fault Refusal :=
  .next (match s.sup.split with
    | some p =>
      if p.started || !s.pairLocked then s
      else
        let s1 := s.gtTo ((s.gt + tickMs - 1) / tickMs * tickMs)
        ((((s1.setSup 3).setFld Reg.SUP_STAT F.SUP_STAT_PHASE 2).setRegN Reg.SUP_SPLIT 0).setFld Reg.MBX_STAT F.MBX_STAT_SPLIT 1).supMod
          (fun u => { u with split := some { p with started := true, start := s1.gt } })
    | none => s)

/-- SPLIT_READY (R342, R344): C1 has booted the candidate, or it fails. [log 143: DEDUCED] -/
def execSplitReady (outcome : SplitBoot) (s : State) : Host.Outcome State Fault Refusal :=
  .next (match s.sup.split with
    | some p =>
      if !p.started || p.ready then s
      else match outcome with
        | .ready => s.supMod (fun u => { u with split := some { p with ready := true, readyAt := s.gt } })
        | .signature => s.splitAbort p splitImage
        | .selfTest => s.splitAbort p splitTest
    | none => s)

/-- SPLIT_HANDOVER (R342): at the first epoch boundary after READY, C0 freezes. [log 143: DEDUCED] -/
def execSplitHandover (s : State) : Host.Outcome State Fault Refusal :=
  .next (match s.sup.split with
    | some p =>
      if p.started && p.ready && s.fld Reg.SUP_STAT F.SUP_STAT_PHASE = 2 then
        (s.gtTo (s.epochFrom (p.readyAt + 1))).setFld Reg.SUP_STAT F.SUP_STAT_PHASE 3
      else s
    | none => s)

/-- The time left of a split (R344). -/
def State.splitLeft (s : State) (p : SplitState) : Nat := p.start + 2 * tickSec - s.gt

/-- SPLIT_ACCEPT (R342, R344): REJOIN starts only with 1 ms left. [log 143, 144: DEDUCED] -/
def execSplitAccept (accept : Bool) (s : State) : Host.Outcome State Fault Refusal :=
  .next (match s.sup.split with
    | some p =>
      if !p.started || s.fld Reg.SUP_STAT F.SUP_STAT_PHASE ≠ 3 then s
      else if !accept then s.splitAbort p splitState
      else if s.splitLeft p < tickMs then s.splitAbort p splitTimer
      else (s.setFld Reg.SUP_STAT F.SUP_STAT_PHASE 4).supMod (fun u => { u with split := some { p with rejoin := true } })
    | none => s)

/-- REJOIN (R342, R344, R464): lockstep restarts on the new firmware; the commit record is unchanged. -/
def execRejoin (s : State) : Host.Outcome State Fault Refusal :=
  .next (match s.sup.split with
    | some p =>
      if !p.rejoin then s
      else
        let s1 := ((s.splitEnd p splitDone).setSup 0).bump Reg.SUP_RSYNCNT
        ({ s1 with fw := { s1.fw with running := 1 - s1.fw.running } }).finish p.tag stOk (result := w32 splitDone)
    | none => s)

/-- SPLIT_TIMEOUT (R344): less than 1 ms is left before REJOIN. [log 144: DEDUCED] -/
def execSplitTimeout (s : State) : Host.Outcome State Fault Refusal :=
  .next (match s.sup.split with
    | some p =>
      if !p.started || p.rejoin then s
      else (s.gtTo (p.start + 2 * tickSec - tickMs + 1)).splitAbort p splitTimer
    | none => s)

/-- The error of a word of the shared SRAM or of the journal is recorded (R345). -/
def State.sramErr (s : State) (word region : Nat) (ue : Bool) : State :=
  let s1 := s.setRegN Reg.SUP_ERRADDR (word + 2 ^ 20 * region + 2 ^ 31 * bit ue)
  if ue then (s1.stick Stk.SRAM_UE).bump Reg.SUP_SRAMUE else (s1.stick Stk.SRAM_CE).bump Reg.SUP_SRAMCE

/-- SCRUB_SLOT (R345, R346): one word of the shared SRAM, or of the journal in its own slots. `hit` holds the tags of the commands in flight
in the service of an uncorrectable word. [log 145: DESIGN CHOICE] -/
def execScrubSlot (err : SramErr) (region : Fin 4) (hit : List (Fin 64)) (s : State) : Host.Outcome State Fault Refusal :=
  .next (let w := if region.val = 3 then s.sup.journalWord else s.sup.scrubWord
    let s1 := match err with
      | .none => s
      | .single => s.sramErr w region.val false
      | .double =>
        let t := s.sramErr w region.val true
        let t1 := if region.val = 2 then hit.foldl (fun (u : State) (g : Fin 64) => u.finish g.val stTimeout) t else t
        match t1.sup.split with
        | some p => if p.started && !p.rejoin && region.val ≠ 3 && 458752 ≤ w then t1.splitAbort p splitSram else t1
        | none => t1
    if region.val = 3 then s1.supMod (fun u => { u with journalWord := (u.journalWord + 1) % 32768 })
    else if w + 1 < 524288 then s1.supMod (fun u => { u with scrubWord := w + 1 })
    else
      let d := s1.gt - s1.sup.passStart
      let s2 := ((s1.bump Reg.SUP_SCRUBPASS).setRegN Reg.SUP_SCRUBLAST (min 65535 (d / tickMs))).stickIf (10 * tickSec < d) Stk.SCRUB_LATE
      s2.supMod (fun u => { u with scrubWord := 0, passStart := s1.gt }))

end Sys2Proof.Machine
end

