-- ==== Sys2Proof/Machine/Dispatch.lean ====
section
/-!
DEFINITION. The meaning of each command, one arm per row of the table.
-/
namespace Sys2Proof.Machine

def exec (i : Instr) (s : State) : Host.Outcome State Fault Refusal :=
  match i with
  | .pantryWrite owner slot ord dest val => Sys2Proof.Machine.execPantryWrite owner slot ord dest val s
  | .pantryRead slot cidx => Sys2Proof.Machine.execPantryRead slot cidx s
  | .commit => Sys2Proof.Machine.execCommit s
  | .breachIntervalClose cause => Sys2Proof.Machine.execBreachIntervalClose cause s
  | .epochBoundary => Sys2Proof.Machine.execEpochBoundary s
  | .halfEpochPoint => Sys2Proof.Machine.execHalfEpochPoint s
  | .gtSnapRead => Sys2Proof.Machine.execGtSnapRead s
  | .ppsInEdge => Sys2Proof.Machine.execPpsInEdge s
  | .sourceLossTimeout => Sys2Proof.Machine.execSourceLossTimeout s
  | .gtStep => Sys2Proof.Machine.execGtStep s
  | .ppsOutPulse => Sys2Proof.Machine.execPpsOutPulse s
  | .ppsOutEnd => Sys2Proof.Machine.execPpsOutEnd s
  | .keepcalMeasure ticks => Sys2Proof.Machine.execKeepcalMeasure ticks s
  | .epLenTakeEffect => Sys2Proof.Machine.execEpLenTakeEffect s
  | .pllLock net => Sys2Proof.Machine.execPllLock net s
  | .syspllUnlock => Sys2Proof.Machine.execSyspllUnlock s
  | .netpllUnlock => Sys2Proof.Machine.execNetpllUnlock s
  | .fallbackReturn net => Sys2Proof.Machine.execFallbackReturn net s
  | .freqMonitorWindow island count => Sys2Proof.Machine.execFreqMonitorWindow island count s
  | .dllLock code correction => Sys2Proof.Machine.execDllLock code correction s
  | .dllUnlock => Sys2Proof.Machine.execDllUnlock s
  | .refclkLost => Sys2Proof.Machine.execRefclkLost s
  | .refclkReturn => Sys2Proof.Machine.execRefclkReturn s
  | .xt32Stop => Sys2Proof.Machine.execXt32Stop s
  | .dllFull => Sys2Proof.Machine.execDllFull s
  | .clkPdivUpdGo => Sys2Proof.Machine.execClkPdivUpdGo s
  | .pdivLoad => Sys2Proof.Machine.execPdivLoad s
  | .adcSequenceTrigger core inj => Sys2Proof.Machine.execAdcSequenceTrigger core inj s
  | .sequenceStart core inj => Sys2Proof.Machine.execSequenceStart core inj s
  | .conversionEnd core code => Sys2Proof.Machine.execConversionEnd core code s
  | .adcResultWrite src => Sys2Proof.Machine.execAdcResultWrite src s
  | .anaSwtrig val => Sys2Proof.Machine.execAnaSwtrig val s
  | .atmrFire t => Sys2Proof.Machine.execAtmrFire t s
  | .openWireRound core => Sys2Proof.Machine.execOpenWireRound core s
  | .openWireStep core codeUp codeDown => Sys2Proof.Machine.execOpenWireStep core codeUp codeDown s
  | .openWireTimeout core => Sys2Proof.Machine.execOpenWireTimeout core s
  | .calReq core => Sys2Proof.Machine.execCalReq core s
  | .calAuto core => Sys2Proof.Machine.execCalAuto core s
  | .calComplete core coef => Sys2Proof.Machine.execCalComplete core coef s
  | .calTimeout core => Sys2Proof.Machine.execCalTimeout core s
  | .sinc3Output n bits => Sys2Proof.Machine.execSinc3Output n bits s
  | .ocFilterOutput n bits => Sys2Proof.Machine.execOcFilterOutput n bits s
  | .sddStuck n => Sys2Proof.Machine.execSddStuck n s
  | .sddStuckClear n => Sys2Proof.Machine.execSddStuckClear n s
  | .comparatorCrossing n vin cref => Sys2Proof.Machine.execComparatorCrossing n vin cref s
  | .blankingEnd n => Sys2Proof.Machine.execBlankingEnd n s
  | .blankingLimit n => Sys2Proof.Machine.execBlankingLimit n s
  | .seedingComplete n vin vth => Sys2Proof.Machine.execSeedingComplete n vin vth s
  | .seedStarved n => Sys2Proof.Machine.execSeedStarved n s
  | .cmpReadbackCheck n dac thr => Sys2Proof.Machine.execCmpReadbackCheck n dac thr s
  | .cmpSnapshot => Sys2Proof.Machine.execCmpSnapshot s
  | .kettleCompletion b => Sys2Proof.Machine.execKettleCompletion b s
  | .sectionDrainEnd b waits => Sys2Proof.Machine.execSectionDrainEnd b waits s
  | .escalationReset b => Sys2Proof.Machine.execEscalationReset b s
  | .fallbackAutoReturn b => Sys2Proof.Machine.execFallbackAutoReturn b s
  | .engineModeAtEpoch b => Sys2Proof.Machine.execEngineModeAtEpoch b s
  | .swapRequest b val => Sys2Proof.Machine.execSwapRequest b val s
  | .swapAtEpoch b => Sys2Proof.Machine.execSwapAtEpoch b s
  | .rotationStart => Sys2Proof.Machine.execRotationStart s
  | .copyComplete => Sys2Proof.Machine.execCopyComplete s
  | .handover agree => Sys2Proof.Machine.execHandover agree s
  | .bistComplete pass => Sys2Proof.Machine.execBistComplete pass s
  | .ketCycmaxRead b => Sys2Proof.Machine.execKetCycmaxRead b s
  | .nop b h => Sys2Proof.Machine.execNop b h s
  | .loop b f => Sys2Proof.Machine.execLoop b f s
  | .cmpp b h f => Sys2Proof.Machine.execCmpp b h f s
  | .plog b h f => Sys2Proof.Machine.execPlog b h f s
  | .pbit b h f => Sys2Proof.Machine.execPbit b h f s
  | .pfresh b h f => Sys2Proof.Machine.execPfresh b h f s
  | .ldp b h f => Sys2Proof.Machine.execLdp b h f s
  | .ldr b h f => Sys2Proof.Machine.execLdr b h f s
  | .stp b h f => Sys2Proof.Machine.execStp b h f s
  | .str b h f => Sys2Proof.Machine.execStr b h f s
  | .vadd b h f => Sys2Proof.Machine.execVadd b h f s
  | .vsub b h f => Sys2Proof.Machine.execVsub b h f s
  | .vmul b h f => Sys2Proof.Machine.execVmul b h f s
  | .vmax b h f => Sys2Proof.Machine.execVmax b h f s
  | .vmin b h f => Sys2Proof.Machine.execVmin b h f s
  | .vabs b h f => Sys2Proof.Machine.execVabs b h f s
  | .vneg b h f => Sys2Proof.Machine.execVneg b h f s
  | .vclamp b h f => Sys2Proof.Machine.execVclamp b h f s
  | .vmov b h f => Sys2Proof.Machine.execVmov b h f s
  | .macz b h f => Sys2Proof.Machine.execMacz b h f s
  | .mac b h f => Sys2Proof.Machine.execMac b h f s
  | .macv b h f => Sys2Proof.Machine.execMacv b h f s
  | .accred b h f => Sys2Proof.Machine.execAccred b h f s
  | .macw b h f => Sys2Proof.Machine.execMacw b h f s
  | .mns b h f => Sys2Proof.Machine.execMns b h f s
  | .sexp b h f => Sys2Proof.Machine.execSexp b h f s
  | .sadj b h f => Sys2Proof.Machine.execSadj b h f s
  | .norm b h f => Sys2Proof.Machine.execNorm b h f s
  | .sqrt b h f => Sys2Proof.Machine.execSqrt b h f s
  | .recip b h f => Sys2Proof.Machine.execRecip b h f s
  | .sincos b h f => Sys2Proof.Machine.execSincos b h f s
  | .atan2 b h f => Sys2Proof.Machine.execAtan2 b h f s
  | .angf b h f => Sys2Proof.Machine.execAngf b h f s
  | .fang b h f => Sys2Proof.Machine.execFang b h f s
  | .itof b h f => Sys2Proof.Machine.execItof b h f s
  | .iadd b h f => Sys2Proof.Machine.execIadd b h f s
  | .isub b h f => Sys2Proof.Machine.execIsub b h f s
  | .iand b h f => Sys2Proof.Machine.execIand b h f s
  | .ior b h f => Sys2Proof.Machine.execIor b h f s
  | .ixor b h f => Sys2Proof.Machine.execIxor b h f s
  | .ish b h f => Sys2Proof.Machine.execIsh b h f s
  | .imov b h f => Sys2Proof.Machine.execImov b h f s
  | .periodBoundary g => Sys2Proof.Machine.execPeriodBoundary g s
  | .midPeriodPoint g => Sys2Proof.Machine.execMidPeriodPoint g s
  | .triggerCompare g => Sys2Proof.Machine.execTriggerCompare g s
  | .scheduledEdge n => Sys2Proof.Machine.execScheduledEdge n s
  | .pwmHupdArm g => Sys2Proof.Machine.execPwmHupdArm g s
  | .pwmTripctlClr g => Sys2Proof.Machine.execPwmTripctlClr g s
  | .syncInPulse frac => Sys2Proof.Machine.execSyncInPulse frac s
  | .syncLoss => Sys2Proof.Machine.execSyncLoss s
  | .pwmSnapshot => Sys2Proof.Machine.execPwmSnapshot s
  | .shootThroughHold g q => Sys2Proof.Machine.execShootThroughHold g q s
  | .gfbTransition n level frac stable => Sys2Proof.Machine.execGfbTransition n level frac stable s
  | .confWindowClose n => Sys2Proof.Machine.execConfWindowClose n s
  | .gfbLevelTimeout n => Sys2Proof.Machine.execGfbLevelTimeout n s
  | .retryWaitEnd n => Sys2Proof.Machine.execRetryWaitEnd n s
  | .tryCountReset n => Sys2Proof.Machine.execTryCountReset n s
  | .coincWindowExpire v => Sys2Proof.Machine.execCoincWindowExpire v s
  | .gsetFrame g => Sys2Proof.Machine.execGsetFrame g s
  | .glClrLatch n => Sys2Proof.Machine.execGlClrLatch n s
  | .glClrShoot g q => Sys2Proof.Machine.execGlClrShoot g q s
  | .glPrbcmdGo => Sys2Proof.Machine.execGlPrbcmdGo s
  | .probeStep v0 vp vm => Sys2Proof.Machine.execProbeStep v0 vp vm s
  | .probeTimeout => Sys2Proof.Machine.execProbeTimeout s
  | .offdlyExpire v => Sys2Proof.Machine.execOffdlyExpire v s
  | .monitorInternalFault => Sys2Proof.Machine.execMonitorInternalFault s
  | .missingCommitTimeout v => Sys2Proof.Machine.execMissingCommitTimeout v s
  | .sinSample ix chB uv => Sys2Proof.Machine.execSinSample ix chB uv s
  | .sinTestSlot ix chB uv => Sys2Proof.Machine.execSinTestSlot ix chB uv s
  | .sinDiscrepancyTimeout ix => Sys2Proof.Machine.execSinDiscrepancyTimeout ix s
  | .soutSwitchOn j => Sys2Proof.Machine.execSoutSwitchOn j s
  | .soutHClose j => Sys2Proof.Machine.execSoutHClose j s
  | .soutTest j kind => Sys2Proof.Machine.execSoutTest j kind s
  | .safetyTelegramRx r bytes => Sys2Proof.Machine.execSafetyTelegramRx r bytes s
  | .safecomWdogExpire r => Sys2Proof.Machine.execSafecomWdogExpire r s
  | .safetyTelegramTx t => Sys2Proof.Machine.execSafetyTelegramTx t s
  | .monitorDiagnostic elem ok => Sys2Proof.Machine.execMonitorDiagnostic elem ok s
  | .padReadbackMismatch n agree => Sys2Proof.Machine.execPadReadbackMismatch n agree s
  | .checkerSelfTest ok => Sys2Proof.Machine.execCheckerSelfTest ok s
  | .frameStart diverged entries => Sys2Proof.Machine.execFrameStart diverged entries s
  | .lockstepMismatch group kind addr entries => Sys2Proof.Machine.execLockstepMismatch group kind addr entries s
  | .rerunComplete agree testOk => Sys2Proof.Machine.execRerunComplete agree testOk s
  | .stewardWriteIssue => Sys2Proof.Machine.execStewardWriteIssue s
  | .split => Sys2Proof.Machine.execSplit s
  | .splitReady outcome => Sys2Proof.Machine.execSplitReady outcome s
  | .splitHandover => Sys2Proof.Machine.execSplitHandover s
  | .splitAccept accept => Sys2Proof.Machine.execSplitAccept accept s
  | .rejoin => Sys2Proof.Machine.execRejoin s
  | .splitTimeout => Sys2Proof.Machine.execSplitTimeout s
  | .scrubSlot err region hit => Sys2Proof.Machine.execScrubSlot err region hit s
  | .frameRx port f => Sys2Proof.Machine.execFrameRx port f s
  | .nodeTableAge => Sys2Proof.Machine.execNodeTableAge s
  | .prpSupervisionTx => Sys2Proof.Machine.execPrpSupervisionTx s
  | .linkLoss port => Sys2Proof.Machine.execLinkLoss port s
  | .pathError mac => Sys2Proof.Machine.execPathError mac s
  | .announceRx port a => Sys2Proof.Machine.execAnnounceRx port a s
  | .syncRx port m => Sys2Proof.Machine.execSyncRx port m s
  | .pdelayReqRx port domain seq => Sys2Proof.Machine.execPdelayReqRx port domain seq s
  | .pdelayReqTx port => Sys2Proof.Machine.execPdelayReqTx port s
  | .pdelayRespRx port m => Sys2Proof.Machine.execPdelayRespRx port m s
  | .announceTimeout => Sys2Proof.Machine.execAnnounceTimeout s
  | .svFrameRx port f => Sys2Proof.Machine.execSvFrameRx port f s
  | .svSampleWrite stream => Sys2Proof.Machine.execSvSampleWrite stream s
  | .svStreamLost stream => Sys2Proof.Machine.execSvStreamLost stream s
  | .svPublish stream => Sys2Proof.Machine.execSvPublish stream s
  | .gooseRx m => Sys2Proof.Machine.execGooseRx m s
  | .gooseExpiry n => Sys2Proof.Machine.execGooseExpiry n s
  | .gooseRetransmit u => Sys2Proof.Machine.execGooseRetransmit u s
  | .beacon => Sys2Proof.Machine.execBeacon s
  | .statusReq seq => Sys2Proof.Machine.execStatusReq seq s
  | .logReq seq start count => Sys2Proof.Machine.execLogReq seq start count s
  | .watchIdleTimeout => Sys2Proof.Machine.execWatchIdleTimeout s
  | .p2Wake => Sys2Proof.Machine.execP2Wake s
  | .mtrERead m r => Sys2Proof.Machine.execMtrERead m r s
  | .plsPulse k => Sys2Proof.Machine.execPlsPulse k s
  | .plsPulseEnd k => Sys2Proof.Machine.execPlsPulseEnd k s
  | .mcntEdge ix closed => Sys2Proof.Machine.execMcntEdge ix closed s
  | .mcntCfgWrite ix val => Sys2Proof.Machine.execMcntCfgWrite ix val s
  | .trackChange g => Sys2Proof.Machine.execTrackChange g s
  | .analogSample a => Sys2Proof.Machine.execAnalogSample a s
  | .recCtrlArm => Sys2Proof.Machine.execRecCtrlArm s
  | .rearmComplete => Sys2Proof.Machine.execRearmComplete s
  | .recorderTrigger ev => Sys2Proof.Machine.execRecorderTrigger ev s
  | .recCtrlSwtrig => Sys2Proof.Machine.execRecCtrlSwtrig s
  | .recCtrlStop => Sys2Proof.Machine.execRecCtrlStop s
  | .postEnd => Sys2Proof.Machine.execPostEnd s
  | .sqDoorbell q val => Sys2Proof.Machine.execSqDoorbell q val s
  | .cqHeadWrite q val => Sys2Proof.Machine.execCqHeadWrite q val s
  | .commandFetch => Sys2Proof.Machine.execCommandFetch s
  | .commandTimeout tag => Sys2Proof.Machine.execCommandTimeout tag s
  | .mailboxReset => Sys2Proof.Machine.execMailboxReset s
  | .mbxStkRead => Sys2Proof.Machine.execMbxStkRead s
  | .qspiFrame f => Sys2Proof.Machine.execQspiFrame f s
  | .sessionExpire => Sys2Proof.Machine.execSessionExpire s
  | .authLockoutEnd => Sys2Proof.Machine.execAuthLockoutEnd s
  | .identify tag => Sys2Proof.Machine.execIdentify tag s
  | .status tag => Sys2Proof.Machine.execStatus tag s
  | .state tag => Sys2Proof.Machine.execState tag s
  | .timeSet tag => Sys2Proof.Machine.execTimeSet tag s
  | .cfgLoad tag dma => Sys2Proof.Machine.execCfgLoad tag dma s
  | .sticky tag => Sys2Proof.Machine.execSticky tag s
  | .logRead tag => Sys2Proof.Machine.execLogRead tag s
  | .cal tag => Sys2Proof.Machine.execCal tag s
  | .recover tag tests => Sys2Proof.Machine.execRecover tag tests s
  | .diag tag readings => Sys2Proof.Machine.execDiag tag readings s
  | .recipeLoad tag dma => Sys2Proof.Machine.execRecipeLoad tag dma s
  | .recipeSwap tag => Sys2Proof.Machine.execRecipeSwap tag s
  | .engFallback tag => Sys2Proof.Machine.execEngFallback tag s
  | .engResume tag => Sys2Proof.Machine.execEngResume tag s
  | .engDump tag => Sys2Proof.Machine.execEngDump tag s
  | .lawParam tag => Sys2Proof.Machine.execLawParam tag s
  | .panWrite tag dma => Sys2Proof.Machine.execPanWrite tag dma s
  | .pwmSet tag dma => Sys2Proof.Machine.execPwmSet tag dma s
  | .tripClear tag => Sys2Proof.Machine.execTripClear tag s
  | .glCal tag trips => Sys2Proof.Machine.execGlCal tag trips s
  | .glClear tag => Sys2Proof.Machine.execGlClear tag s
  | .lprbRun tag => Sys2Proof.Machine.execLprbRun tag s
  | .safeCfg tag cfg dma => Sys2Proof.Machine.execSafeCfg tag cfg dma s
  | .safeConfirm tag => Sys2Proof.Machine.execSafeConfirm tag s
  | .spo tag => Sys2Proof.Machine.execSpo tag s
  | .spoReset tag => Sys2Proof.Machine.execSpoReset tag s
  | .netTable tag dma => Sys2Proof.Machine.execNetTable tag dma s
  | .meterRead tag => Sys2Proof.Machine.execMeterRead tag s
  | .meterPreset tag dma => Sys2Proof.Machine.execMeterPreset tag dma s
  | .recArm tag => Sys2Proof.Machine.execRecArm tag s
  | .recTrig tag => Sys2Proof.Machine.execRecTrig tag s
  | .recStop tag => Sys2Proof.Machine.execRecStop tag s
  | .recRead tag => Sys2Proof.Machine.execRecRead tag s
  | .fwStage tag dma => Sys2Proof.Machine.execFwStage tag dma s
  | .fwActivate tag => Sys2Proof.Machine.execFwActivate tag s
  | .fwCommit tag => Sys2Proof.Machine.execFwCommit tag s
  | .expOpen tag => Sys2Proof.Machine.execExpOpen tag s
  | .expAuth tag dma => Sys2Proof.Machine.execExpAuth tag dma s
  | .expClose tag => Sys2Proof.Machine.execExpClose tag s
  | .expKeyprog tag dma => Sys2Proof.Machine.execExpKeyprog tag dma s
  | .expertWindowWrite a val => Sys2Proof.Machine.execExpertWindowWrite a val s
  | .registerWrite a val => Sys2Proof.Machine.execRegisterWrite a val s
  | .panCtrlClear => Sys2Proof.Machine.execPanCtrlClear s
  | .stickyClear a val sets => Sys2Proof.Machine.execStickyClear a val sets s
  | .counterClear a => Sys2Proof.Machine.execCounterClear a s
  | .stkFgtRead n => Sys2Proof.Machine.execStkFgtRead n s
  | .logPinrel seq => Sys2Proof.Machine.execLogPinrel seq s
  | .mramRecordWrite out => Sys2Proof.Machine.execMramRecordWrite out s
  | .porstNReset => Sys2Proof.Machine.execPorstNReset s
  | .keepPowerUp mainOk => Sys2Proof.Machine.execKeepPowerUp mainOk s
  | .brownOut rails latched => Sys2Proof.Machine.execBrownOut rails latched s
  | .boot t => Sys2Proof.Machine.execBoot t s
  | .bootComplete => Sys2Proof.Machine.execBootComplete s
  | .storeRewriteComplete => Sys2Proof.Machine.execStoreRewriteComplete s
  | .mainSupplyLoss rails => Sys2Proof.Machine.execMainSupplyLoss rails s
  | .mainSupplyValid => Sys2Proof.Machine.execMainSupplyValid s
  | .wakeAdmit => Sys2Proof.Machine.execWakeAdmit s
  | .lightWake => Sys2Proof.Machine.execLightWake s
  | .energyPolicyDormant => Sys2Proof.Machine.execEnergyPolicyDormant s
  | .keepMonitorConversion r => Sys2Proof.Machine.execKeepMonitorConversion r s
  | .darknessTimeout => Sys2Proof.Machine.execDarknessTimeout s
  | .hsetFault => Sys2Proof.Machine.execHsetFault s
  | .hstoreShort => Sys2Proof.Machine.execHstoreShort s
  | .jtagInstruction ins porstLow => Sys2Proof.Machine.execJtagInstruction ins porstLow s
  | .outputFoldback pin => Sys2Proof.Machine.execOutputFoldback pin s
  | .readbackCheckTimeout n => Sys2Proof.Machine.execReadbackCheckTimeout n s
  | .dllRelockTimeout => Sys2Proof.Machine.execDllRelockTimeout s
  | .linkUp port amp => Sys2Proof.Machine.execLinkUp port amp s
  | .safeStartUpTestsDone => Sys2Proof.Machine.execSafeStartUpTestsDone s
  | .soutCurrentLimit j => Sys2Proof.Machine.execSoutCurrentLimit j s
  | .xt32Restart => Sys2Proof.Machine.execXt32Restart s
  | .testEnHigh => Sys2Proof.Machine.execTestEnHigh s

end Sys2Proof.Machine
end

