-- ==== Sys2Proof/Machine/Tick.lean ====
section
/-!
DEFINITION. The passing of time while no command waits: one tick of the timebase that keeps GT (R49, R51, R52, R61).
-/
namespace Sys2Proof.Machine

/-- A commit or an epoch boundary is due at the present GT: GT stays there until its row has been carried out. [log 1: DESIGN CHOICE] -/
def State.dueNow (s : State) : Bool :=
  s.commitsOn && (s.instantOf s.nextCommit == s.gt || s.epochNext * s.tim.epLen == s.gt)

/-- The last tick of the epoch in progress, in which a slip happens (R51). -/
def State.lastTick (s : State) : Bool := s.gt + 1 == (s.tim.epDone + 1) * s.tim.epLen

/-- The next value that the keep-alive count takes: one cycle of the 32.768 kHz oscillator, by its calibration (R61, R62). [log 33: DESIGN CHOICE] -/
def State.keepNext (s : State) : Nat :=
  (((s.gt + 1) * 32768 + s.tim.keepTicks - 1) / s.tim.keepTicks) * s.tim.keepTicks / 32768

/-- One DLL cycle: GT advances by one tick, stays in the repeated cycle of a lengthening slip, and passes over the tick that a shortening slip
leaves out (R49, R51). [log 1: DESIGN CHOICE] -/
def State.dllTick (s : State) : State :=
  if s.lastTick && s.tim.slip == .lengthen && !s.tim.slipHeld then { s with tim := { s.tim with slipHeld := true } }
  else s.gtTo (s.gt + 1)

/-- One tick of the timebase of the tier that keeps GT (R61). [log 1: DESIGN CHOICE; 34: DEDUCED] -/
def State.tick (s : State) : State :=
  if s.pwr.keepOff || s.pin.testEn then s
  else if s.qual = 5 then (if s.flag Reg.CLK_STAT F.CLK_STAT_XT32_OK then s.gtTo s.keepNext else s)
  else if s.dueNow || !s.powered then s
  else if s.qual = 4 then (if s.flag Reg.CLK_STAT F.CLK_STAT_SYSPLL_LOCK then s.gtTo (s.gt + 1) else s)
  else if s.flag Reg.CLK_STAT F.CLK_STAT_DLL_LOCK then s.dllTick
  else s

end Sys2Proof.Machine
end

