-- ==== Sys2Proof/Laws/State.lean ====
section
/-!
SUPPORT. Which parts of the state each shared operation leaves alone: one rewriting lemma per operation and part.
-/
namespace Sys2Proof.Machine


/-! `setReg` -/

@[simp] theorem State.setReg_gt (s : State) (a : Nat) (v : Word) : (s.setReg a v).gt = s.gt := rfl
@[simp] theorem State.setReg_variant (s : State) (a : Nat) (v : Word) : (s.setReg a v).variant = s.variant := rfl
@[simp] theorem State.setReg_dev (s : State) (a : Nat) (v : Word) : (s.setReg a v).dev = s.dev := rfl
@[simp] theorem State.setReg_deferred (s : State) (a : Nat) (v : Word) : (s.setReg a v).deferred = s.deferred := rfl
@[simp] theorem State.setReg_spareReqs (s : State) (a : Nat) (v : Word) : (s.setReg a v).spareReqs = s.spareReqs := rfl
@[simp] theorem State.setReg_pan (s : State) (a : Nat) (v : Word) : (s.setReg a v).pan = s.pan := rfl
@[simp] theorem State.setReg_tim (s : State) (a : Nat) (v : Word) : (s.setReg a v).tim = s.tim := rfl
@[simp] theorem State.setReg_ana (s : State) (a : Nat) (v : Word) : (s.setReg a v).ana = s.ana := rfl
@[simp] theorem State.setReg_cmp (s : State) (a : Nat) (v : Word) : (s.setReg a v).cmp = s.cmp := rfl
@[simp] theorem State.setReg_pwm (s : State) (a : Nat) (v : Word) : (s.setReg a v).pwm = s.pwm := rfl
@[simp] theorem State.setReg_gl (s : State) (a : Nat) (v : Word) : (s.setReg a v).gl = s.gl := rfl
@[simp] theorem State.setReg_safe (s : State) (a : Nat) (v : Word) : (s.setReg a v).safe = s.safe := rfl
@[simp] theorem State.setReg_log (s : State) (a : Nat) (v : Word) : (s.setReg a v).log = s.log := rfl
@[simp] theorem State.setReg_pwr (s : State) (a : Nat) (v : Word) : (s.setReg a v).pwr = s.pwr := rfl
@[simp] theorem State.setReg_ket (s : State) (a : Nat) (v : Word) : (s.setReg a v).ket = s.ket := rfl
@[simp] theorem State.setReg_net (s : State) (a : Nat) (v : Word) : (s.setReg a v).net = s.net := rfl
@[simp] theorem State.setReg_mtr (s : State) (a : Nat) (v : Word) : (s.setReg a v).mtr = s.mtr := rfl
@[simp] theorem State.setReg_hop (s : State) (a : Nat) (v : Word) : (s.setReg a v).hop = s.hop := rfl
@[simp] theorem State.setReg_law (s : State) (a : Nat) (v : Word) : (s.setReg a v).law = s.law := rfl
@[simp] theorem State.setReg_sup (s : State) (a : Nat) (v : Word) : (s.setReg a v).sup = s.sup := rfl
@[simp] theorem State.setReg_fw (s : State) (a : Nat) (v : Word) : (s.setReg a v).fw = s.fw := rfl
@[simp] theorem State.setReg_mbx (s : State) (a : Nat) (v : Word) : (s.setReg a v).mbx = s.mbx := rfl
@[simp] theorem State.setReg_pin (s : State) (a : Nat) (v : Word) : (s.setReg a v).pin = s.pin := rfl
@[simp] theorem State.setReg_freeN (s : State) (a : Nat) (v : Word) : (s.setReg a v).freeN = s.freeN := rfl
@[simp] theorem State.setReg_out (s : State) (a : Nat) (v : Word) : (s.setReg a v).out = s.out := rfl
@[simp] theorem State.setReg_pending (s : State) (a : Nat) (v : Word) : (s.setReg a v).pending = s.pending := rfl

/-! `setRegN` -/

@[simp] theorem State.setRegN_gt (s : State) (a n : Nat) : (s.setRegN a n).gt = s.gt := rfl
@[simp] theorem State.setRegN_variant (s : State) (a n : Nat) : (s.setRegN a n).variant = s.variant := rfl
@[simp] theorem State.setRegN_dev (s : State) (a n : Nat) : (s.setRegN a n).dev = s.dev := rfl
@[simp] theorem State.setRegN_deferred (s : State) (a n : Nat) : (s.setRegN a n).deferred = s.deferred := rfl
@[simp] theorem State.setRegN_spareReqs (s : State) (a n : Nat) : (s.setRegN a n).spareReqs = s.spareReqs := rfl
@[simp] theorem State.setRegN_pan (s : State) (a n : Nat) : (s.setRegN a n).pan = s.pan := rfl
@[simp] theorem State.setRegN_tim (s : State) (a n : Nat) : (s.setRegN a n).tim = s.tim := rfl
@[simp] theorem State.setRegN_ana (s : State) (a n : Nat) : (s.setRegN a n).ana = s.ana := rfl
@[simp] theorem State.setRegN_cmp (s : State) (a n : Nat) : (s.setRegN a n).cmp = s.cmp := rfl
@[simp] theorem State.setRegN_pwm (s : State) (a n : Nat) : (s.setRegN a n).pwm = s.pwm := rfl
@[simp] theorem State.setRegN_gl (s : State) (a n : Nat) : (s.setRegN a n).gl = s.gl := rfl
@[simp] theorem State.setRegN_safe (s : State) (a n : Nat) : (s.setRegN a n).safe = s.safe := rfl
@[simp] theorem State.setRegN_log (s : State) (a n : Nat) : (s.setRegN a n).log = s.log := rfl
@[simp] theorem State.setRegN_pwr (s : State) (a n : Nat) : (s.setRegN a n).pwr = s.pwr := rfl
@[simp] theorem State.setRegN_ket (s : State) (a n : Nat) : (s.setRegN a n).ket = s.ket := rfl
@[simp] theorem State.setRegN_net (s : State) (a n : Nat) : (s.setRegN a n).net = s.net := rfl
@[simp] theorem State.setRegN_mtr (s : State) (a n : Nat) : (s.setRegN a n).mtr = s.mtr := rfl
@[simp] theorem State.setRegN_hop (s : State) (a n : Nat) : (s.setRegN a n).hop = s.hop := rfl
@[simp] theorem State.setRegN_law (s : State) (a n : Nat) : (s.setRegN a n).law = s.law := rfl
@[simp] theorem State.setRegN_sup (s : State) (a n : Nat) : (s.setRegN a n).sup = s.sup := rfl
@[simp] theorem State.setRegN_fw (s : State) (a n : Nat) : (s.setRegN a n).fw = s.fw := rfl
@[simp] theorem State.setRegN_mbx (s : State) (a n : Nat) : (s.setRegN a n).mbx = s.mbx := rfl
@[simp] theorem State.setRegN_pin (s : State) (a n : Nat) : (s.setRegN a n).pin = s.pin := rfl
@[simp] theorem State.setRegN_freeN (s : State) (a n : Nat) : (s.setRegN a n).freeN = s.freeN := rfl
@[simp] theorem State.setRegN_out (s : State) (a n : Nat) : (s.setRegN a n).out = s.out := rfl
@[simp] theorem State.setRegN_pending (s : State) (a n : Nat) : (s.setRegN a n).pending = s.pending := rfl

/-! `setFld` -/

@[simp] theorem State.setFld_gt (s : State) (a : Nat) (f : Fld) (v : Nat) : (s.setFld a f v).gt = s.gt := rfl
@[simp] theorem State.setFld_variant (s : State) (a : Nat) (f : Fld) (v : Nat) : (s.setFld a f v).variant = s.variant := rfl
@[simp] theorem State.setFld_dev (s : State) (a : Nat) (f : Fld) (v : Nat) : (s.setFld a f v).dev = s.dev := rfl
@[simp] theorem State.setFld_deferred (s : State) (a : Nat) (f : Fld) (v : Nat) : (s.setFld a f v).deferred = s.deferred := rfl
@[simp] theorem State.setFld_spareReqs (s : State) (a : Nat) (f : Fld) (v : Nat) : (s.setFld a f v).spareReqs = s.spareReqs := rfl
@[simp] theorem State.setFld_pan (s : State) (a : Nat) (f : Fld) (v : Nat) : (s.setFld a f v).pan = s.pan := rfl
@[simp] theorem State.setFld_tim (s : State) (a : Nat) (f : Fld) (v : Nat) : (s.setFld a f v).tim = s.tim := rfl
@[simp] theorem State.setFld_ana (s : State) (a : Nat) (f : Fld) (v : Nat) : (s.setFld a f v).ana = s.ana := rfl
@[simp] theorem State.setFld_cmp (s : State) (a : Nat) (f : Fld) (v : Nat) : (s.setFld a f v).cmp = s.cmp := rfl
@[simp] theorem State.setFld_pwm (s : State) (a : Nat) (f : Fld) (v : Nat) : (s.setFld a f v).pwm = s.pwm := rfl
@[simp] theorem State.setFld_gl (s : State) (a : Nat) (f : Fld) (v : Nat) : (s.setFld a f v).gl = s.gl := rfl
@[simp] theorem State.setFld_safe (s : State) (a : Nat) (f : Fld) (v : Nat) : (s.setFld a f v).safe = s.safe := rfl
@[simp] theorem State.setFld_log (s : State) (a : Nat) (f : Fld) (v : Nat) : (s.setFld a f v).log = s.log := rfl
@[simp] theorem State.setFld_pwr (s : State) (a : Nat) (f : Fld) (v : Nat) : (s.setFld a f v).pwr = s.pwr := rfl
@[simp] theorem State.setFld_ket (s : State) (a : Nat) (f : Fld) (v : Nat) : (s.setFld a f v).ket = s.ket := rfl
@[simp] theorem State.setFld_net (s : State) (a : Nat) (f : Fld) (v : Nat) : (s.setFld a f v).net = s.net := rfl
@[simp] theorem State.setFld_mtr (s : State) (a : Nat) (f : Fld) (v : Nat) : (s.setFld a f v).mtr = s.mtr := rfl
@[simp] theorem State.setFld_hop (s : State) (a : Nat) (f : Fld) (v : Nat) : (s.setFld a f v).hop = s.hop := rfl
@[simp] theorem State.setFld_law (s : State) (a : Nat) (f : Fld) (v : Nat) : (s.setFld a f v).law = s.law := rfl
@[simp] theorem State.setFld_sup (s : State) (a : Nat) (f : Fld) (v : Nat) : (s.setFld a f v).sup = s.sup := rfl
@[simp] theorem State.setFld_fw (s : State) (a : Nat) (f : Fld) (v : Nat) : (s.setFld a f v).fw = s.fw := rfl
@[simp] theorem State.setFld_mbx (s : State) (a : Nat) (f : Fld) (v : Nat) : (s.setFld a f v).mbx = s.mbx := rfl
@[simp] theorem State.setFld_pin (s : State) (a : Nat) (f : Fld) (v : Nat) : (s.setFld a f v).pin = s.pin := rfl
@[simp] theorem State.setFld_freeN (s : State) (a : Nat) (f : Fld) (v : Nat) : (s.setFld a f v).freeN = s.freeN := rfl
@[simp] theorem State.setFld_out (s : State) (a : Nat) (f : Fld) (v : Nat) : (s.setFld a f v).out = s.out := rfl
@[simp] theorem State.setFld_pending (s : State) (a : Nat) (f : Fld) (v : Nat) : (s.setFld a f v).pending = s.pending := rfl

/-! `setBit` -/

@[simp] theorem State.setBit_gt (s : State) (a i : Nat) (b : Bool) : (s.setBit a i b).gt = s.gt := rfl
@[simp] theorem State.setBit_variant (s : State) (a i : Nat) (b : Bool) : (s.setBit a i b).variant = s.variant := rfl
@[simp] theorem State.setBit_dev (s : State) (a i : Nat) (b : Bool) : (s.setBit a i b).dev = s.dev := rfl
@[simp] theorem State.setBit_deferred (s : State) (a i : Nat) (b : Bool) : (s.setBit a i b).deferred = s.deferred := rfl
@[simp] theorem State.setBit_spareReqs (s : State) (a i : Nat) (b : Bool) : (s.setBit a i b).spareReqs = s.spareReqs := rfl
@[simp] theorem State.setBit_pan (s : State) (a i : Nat) (b : Bool) : (s.setBit a i b).pan = s.pan := rfl
@[simp] theorem State.setBit_tim (s : State) (a i : Nat) (b : Bool) : (s.setBit a i b).tim = s.tim := rfl
@[simp] theorem State.setBit_ana (s : State) (a i : Nat) (b : Bool) : (s.setBit a i b).ana = s.ana := rfl
@[simp] theorem State.setBit_cmp (s : State) (a i : Nat) (b : Bool) : (s.setBit a i b).cmp = s.cmp := rfl
@[simp] theorem State.setBit_pwm (s : State) (a i : Nat) (b : Bool) : (s.setBit a i b).pwm = s.pwm := rfl
@[simp] theorem State.setBit_gl (s : State) (a i : Nat) (b : Bool) : (s.setBit a i b).gl = s.gl := rfl
@[simp] theorem State.setBit_safe (s : State) (a i : Nat) (b : Bool) : (s.setBit a i b).safe = s.safe := rfl
@[simp] theorem State.setBit_log (s : State) (a i : Nat) (b : Bool) : (s.setBit a i b).log = s.log := rfl
@[simp] theorem State.setBit_pwr (s : State) (a i : Nat) (b : Bool) : (s.setBit a i b).pwr = s.pwr := rfl
@[simp] theorem State.setBit_ket (s : State) (a i : Nat) (b : Bool) : (s.setBit a i b).ket = s.ket := rfl
@[simp] theorem State.setBit_net (s : State) (a i : Nat) (b : Bool) : (s.setBit a i b).net = s.net := rfl
@[simp] theorem State.setBit_mtr (s : State) (a i : Nat) (b : Bool) : (s.setBit a i b).mtr = s.mtr := rfl
@[simp] theorem State.setBit_hop (s : State) (a i : Nat) (b : Bool) : (s.setBit a i b).hop = s.hop := rfl
@[simp] theorem State.setBit_law (s : State) (a i : Nat) (b : Bool) : (s.setBit a i b).law = s.law := rfl
@[simp] theorem State.setBit_sup (s : State) (a i : Nat) (b : Bool) : (s.setBit a i b).sup = s.sup := rfl
@[simp] theorem State.setBit_fw (s : State) (a i : Nat) (b : Bool) : (s.setBit a i b).fw = s.fw := rfl
@[simp] theorem State.setBit_mbx (s : State) (a i : Nat) (b : Bool) : (s.setBit a i b).mbx = s.mbx := rfl
@[simp] theorem State.setBit_pin (s : State) (a i : Nat) (b : Bool) : (s.setBit a i b).pin = s.pin := rfl
@[simp] theorem State.setBit_freeN (s : State) (a i : Nat) (b : Bool) : (s.setBit a i b).freeN = s.freeN := rfl
@[simp] theorem State.setBit_out (s : State) (a i : Nat) (b : Bool) : (s.setBit a i b).out = s.out := rfl
@[simp] theorem State.setBit_pending (s : State) (a i : Nat) (b : Bool) : (s.setBit a i b).pending = s.pending := rfl

/-! `bumpBy` -/

@[simp] theorem State.bumpBy_gt (s : State) (a n : Nat) : (s.bumpBy a n).gt = s.gt := rfl
@[simp] theorem State.bumpBy_variant (s : State) (a n : Nat) : (s.bumpBy a n).variant = s.variant := rfl
@[simp] theorem State.bumpBy_dev (s : State) (a n : Nat) : (s.bumpBy a n).dev = s.dev := rfl
@[simp] theorem State.bumpBy_deferred (s : State) (a n : Nat) : (s.bumpBy a n).deferred = s.deferred := rfl
@[simp] theorem State.bumpBy_spareReqs (s : State) (a n : Nat) : (s.bumpBy a n).spareReqs = s.spareReqs := rfl
@[simp] theorem State.bumpBy_pan (s : State) (a n : Nat) : (s.bumpBy a n).pan = s.pan := rfl
@[simp] theorem State.bumpBy_tim (s : State) (a n : Nat) : (s.bumpBy a n).tim = s.tim := rfl
@[simp] theorem State.bumpBy_ana (s : State) (a n : Nat) : (s.bumpBy a n).ana = s.ana := rfl
@[simp] theorem State.bumpBy_cmp (s : State) (a n : Nat) : (s.bumpBy a n).cmp = s.cmp := rfl
@[simp] theorem State.bumpBy_pwm (s : State) (a n : Nat) : (s.bumpBy a n).pwm = s.pwm := rfl
@[simp] theorem State.bumpBy_gl (s : State) (a n : Nat) : (s.bumpBy a n).gl = s.gl := rfl
@[simp] theorem State.bumpBy_safe (s : State) (a n : Nat) : (s.bumpBy a n).safe = s.safe := rfl
@[simp] theorem State.bumpBy_log (s : State) (a n : Nat) : (s.bumpBy a n).log = s.log := rfl
@[simp] theorem State.bumpBy_pwr (s : State) (a n : Nat) : (s.bumpBy a n).pwr = s.pwr := rfl
@[simp] theorem State.bumpBy_ket (s : State) (a n : Nat) : (s.bumpBy a n).ket = s.ket := rfl
@[simp] theorem State.bumpBy_net (s : State) (a n : Nat) : (s.bumpBy a n).net = s.net := rfl
@[simp] theorem State.bumpBy_mtr (s : State) (a n : Nat) : (s.bumpBy a n).mtr = s.mtr := rfl
@[simp] theorem State.bumpBy_hop (s : State) (a n : Nat) : (s.bumpBy a n).hop = s.hop := rfl
@[simp] theorem State.bumpBy_law (s : State) (a n : Nat) : (s.bumpBy a n).law = s.law := rfl
@[simp] theorem State.bumpBy_sup (s : State) (a n : Nat) : (s.bumpBy a n).sup = s.sup := rfl
@[simp] theorem State.bumpBy_fw (s : State) (a n : Nat) : (s.bumpBy a n).fw = s.fw := rfl
@[simp] theorem State.bumpBy_mbx (s : State) (a n : Nat) : (s.bumpBy a n).mbx = s.mbx := rfl
@[simp] theorem State.bumpBy_pin (s : State) (a n : Nat) : (s.bumpBy a n).pin = s.pin := rfl
@[simp] theorem State.bumpBy_freeN (s : State) (a n : Nat) : (s.bumpBy a n).freeN = s.freeN := rfl
@[simp] theorem State.bumpBy_out (s : State) (a n : Nat) : (s.bumpBy a n).out = s.out := rfl
@[simp] theorem State.bumpBy_pending (s : State) (a n : Nat) : (s.bumpBy a n).pending = s.pending := rfl

/-! `bump` -/

@[simp] theorem State.bump_gt (s : State) (a : Nat) : (s.bump a).gt = s.gt := rfl
@[simp] theorem State.bump_variant (s : State) (a : Nat) : (s.bump a).variant = s.variant := rfl
@[simp] theorem State.bump_dev (s : State) (a : Nat) : (s.bump a).dev = s.dev := rfl
@[simp] theorem State.bump_deferred (s : State) (a : Nat) : (s.bump a).deferred = s.deferred := rfl
@[simp] theorem State.bump_spareReqs (s : State) (a : Nat) : (s.bump a).spareReqs = s.spareReqs := rfl
@[simp] theorem State.bump_pan (s : State) (a : Nat) : (s.bump a).pan = s.pan := rfl
@[simp] theorem State.bump_tim (s : State) (a : Nat) : (s.bump a).tim = s.tim := rfl
@[simp] theorem State.bump_ana (s : State) (a : Nat) : (s.bump a).ana = s.ana := rfl
@[simp] theorem State.bump_cmp (s : State) (a : Nat) : (s.bump a).cmp = s.cmp := rfl
@[simp] theorem State.bump_pwm (s : State) (a : Nat) : (s.bump a).pwm = s.pwm := rfl
@[simp] theorem State.bump_gl (s : State) (a : Nat) : (s.bump a).gl = s.gl := rfl
@[simp] theorem State.bump_safe (s : State) (a : Nat) : (s.bump a).safe = s.safe := rfl
@[simp] theorem State.bump_log (s : State) (a : Nat) : (s.bump a).log = s.log := rfl
@[simp] theorem State.bump_pwr (s : State) (a : Nat) : (s.bump a).pwr = s.pwr := rfl
@[simp] theorem State.bump_ket (s : State) (a : Nat) : (s.bump a).ket = s.ket := rfl
@[simp] theorem State.bump_net (s : State) (a : Nat) : (s.bump a).net = s.net := rfl
@[simp] theorem State.bump_mtr (s : State) (a : Nat) : (s.bump a).mtr = s.mtr := rfl
@[simp] theorem State.bump_hop (s : State) (a : Nat) : (s.bump a).hop = s.hop := rfl
@[simp] theorem State.bump_law (s : State) (a : Nat) : (s.bump a).law = s.law := rfl
@[simp] theorem State.bump_sup (s : State) (a : Nat) : (s.bump a).sup = s.sup := rfl
@[simp] theorem State.bump_fw (s : State) (a : Nat) : (s.bump a).fw = s.fw := rfl
@[simp] theorem State.bump_mbx (s : State) (a : Nat) : (s.bump a).mbx = s.mbx := rfl
@[simp] theorem State.bump_pin (s : State) (a : Nat) : (s.bump a).pin = s.pin := rfl
@[simp] theorem State.bump_freeN (s : State) (a : Nat) : (s.bump a).freeN = s.freeN := rfl
@[simp] theorem State.bump_out (s : State) (a : Nat) : (s.bump a).out = s.out := rfl
@[simp] theorem State.bump_pending (s : State) (a : Nat) : (s.bump a).pending = s.pending := rfl

/-! `tickReg` -/

@[simp] theorem State.tickReg_gt (s : State) (a : Nat) : (s.tickReg a).gt = s.gt := rfl
@[simp] theorem State.tickReg_variant (s : State) (a : Nat) : (s.tickReg a).variant = s.variant := rfl
@[simp] theorem State.tickReg_dev (s : State) (a : Nat) : (s.tickReg a).dev = s.dev := rfl
@[simp] theorem State.tickReg_deferred (s : State) (a : Nat) : (s.tickReg a).deferred = s.deferred := rfl
@[simp] theorem State.tickReg_spareReqs (s : State) (a : Nat) : (s.tickReg a).spareReqs = s.spareReqs := rfl
@[simp] theorem State.tickReg_pan (s : State) (a : Nat) : (s.tickReg a).pan = s.pan := rfl
@[simp] theorem State.tickReg_tim (s : State) (a : Nat) : (s.tickReg a).tim = s.tim := rfl
@[simp] theorem State.tickReg_ana (s : State) (a : Nat) : (s.tickReg a).ana = s.ana := rfl
@[simp] theorem State.tickReg_cmp (s : State) (a : Nat) : (s.tickReg a).cmp = s.cmp := rfl
@[simp] theorem State.tickReg_pwm (s : State) (a : Nat) : (s.tickReg a).pwm = s.pwm := rfl
@[simp] theorem State.tickReg_gl (s : State) (a : Nat) : (s.tickReg a).gl = s.gl := rfl
@[simp] theorem State.tickReg_safe (s : State) (a : Nat) : (s.tickReg a).safe = s.safe := rfl
@[simp] theorem State.tickReg_log (s : State) (a : Nat) : (s.tickReg a).log = s.log := rfl
@[simp] theorem State.tickReg_pwr (s : State) (a : Nat) : (s.tickReg a).pwr = s.pwr := rfl
@[simp] theorem State.tickReg_ket (s : State) (a : Nat) : (s.tickReg a).ket = s.ket := rfl
@[simp] theorem State.tickReg_net (s : State) (a : Nat) : (s.tickReg a).net = s.net := rfl
@[simp] theorem State.tickReg_mtr (s : State) (a : Nat) : (s.tickReg a).mtr = s.mtr := rfl
@[simp] theorem State.tickReg_hop (s : State) (a : Nat) : (s.tickReg a).hop = s.hop := rfl
@[simp] theorem State.tickReg_law (s : State) (a : Nat) : (s.tickReg a).law = s.law := rfl
@[simp] theorem State.tickReg_sup (s : State) (a : Nat) : (s.tickReg a).sup = s.sup := rfl
@[simp] theorem State.tickReg_fw (s : State) (a : Nat) : (s.tickReg a).fw = s.fw := rfl
@[simp] theorem State.tickReg_mbx (s : State) (a : Nat) : (s.tickReg a).mbx = s.mbx := rfl
@[simp] theorem State.tickReg_pin (s : State) (a : Nat) : (s.tickReg a).pin = s.pin := rfl
@[simp] theorem State.tickReg_freeN (s : State) (a : Nat) : (s.tickReg a).freeN = s.freeN := rfl
@[simp] theorem State.tickReg_out (s : State) (a : Nat) : (s.tickReg a).out = s.out := rfl
@[simp] theorem State.tickReg_pending (s : State) (a : Nat) : (s.tickReg a).pending = s.pending := rfl

/-! `freeStep` -/

@[simp] theorem State.freeStep_gt (s : State) : (s.freeStep).gt = s.gt := rfl
@[simp] theorem State.freeStep_variant (s : State) : (s.freeStep).variant = s.variant := rfl
@[simp] theorem State.freeStep_dev (s : State) : (s.freeStep).dev = s.dev := rfl
@[simp] theorem State.freeStep_regs (s : State) : (s.freeStep).regs = s.regs := rfl
@[simp] theorem State.freeStep_deferred (s : State) : (s.freeStep).deferred = s.deferred := rfl
@[simp] theorem State.freeStep_spareReqs (s : State) : (s.freeStep).spareReqs = s.spareReqs := rfl
@[simp] theorem State.freeStep_pan (s : State) : (s.freeStep).pan = s.pan := rfl
@[simp] theorem State.freeStep_tim (s : State) : (s.freeStep).tim = s.tim := rfl
@[simp] theorem State.freeStep_ana (s : State) : (s.freeStep).ana = s.ana := rfl
@[simp] theorem State.freeStep_cmp (s : State) : (s.freeStep).cmp = s.cmp := rfl
@[simp] theorem State.freeStep_pwm (s : State) : (s.freeStep).pwm = s.pwm := rfl
@[simp] theorem State.freeStep_gl (s : State) : (s.freeStep).gl = s.gl := rfl
@[simp] theorem State.freeStep_safe (s : State) : (s.freeStep).safe = s.safe := rfl
@[simp] theorem State.freeStep_log (s : State) : (s.freeStep).log = s.log := rfl
@[simp] theorem State.freeStep_pwr (s : State) : (s.freeStep).pwr = s.pwr := rfl
@[simp] theorem State.freeStep_ket (s : State) : (s.freeStep).ket = s.ket := rfl
@[simp] theorem State.freeStep_net (s : State) : (s.freeStep).net = s.net := rfl
@[simp] theorem State.freeStep_mtr (s : State) : (s.freeStep).mtr = s.mtr := rfl
@[simp] theorem State.freeStep_hop (s : State) : (s.freeStep).hop = s.hop := rfl
@[simp] theorem State.freeStep_law (s : State) : (s.freeStep).law = s.law := rfl
@[simp] theorem State.freeStep_sup (s : State) : (s.freeStep).sup = s.sup := rfl
@[simp] theorem State.freeStep_fw (s : State) : (s.freeStep).fw = s.fw := rfl
@[simp] theorem State.freeStep_mbx (s : State) : (s.freeStep).mbx = s.mbx := rfl
@[simp] theorem State.freeStep_pin (s : State) : (s.freeStep).pin = s.pin := rfl
@[simp] theorem State.freeStep_out (s : State) : (s.freeStep).out = s.out := rfl
@[simp] theorem State.freeStep_pending (s : State) : (s.freeStep).pending = s.pending := rfl

/-! `give` -/

@[simp] theorem State.give_gt (s : State) (v : Word) : (s.give v).gt = s.gt := rfl
@[simp] theorem State.give_variant (s : State) (v : Word) : (s.give v).variant = s.variant := rfl
@[simp] theorem State.give_dev (s : State) (v : Word) : (s.give v).dev = s.dev := rfl
@[simp] theorem State.give_regs (s : State) (v : Word) : (s.give v).regs = s.regs := rfl
@[simp] theorem State.give_deferred (s : State) (v : Word) : (s.give v).deferred = s.deferred := rfl
@[simp] theorem State.give_spareReqs (s : State) (v : Word) : (s.give v).spareReqs = s.spareReqs := rfl
@[simp] theorem State.give_pan (s : State) (v : Word) : (s.give v).pan = s.pan := rfl
@[simp] theorem State.give_tim (s : State) (v : Word) : (s.give v).tim = s.tim := rfl
@[simp] theorem State.give_ana (s : State) (v : Word) : (s.give v).ana = s.ana := rfl
@[simp] theorem State.give_cmp (s : State) (v : Word) : (s.give v).cmp = s.cmp := rfl
@[simp] theorem State.give_pwm (s : State) (v : Word) : (s.give v).pwm = s.pwm := rfl
@[simp] theorem State.give_gl (s : State) (v : Word) : (s.give v).gl = s.gl := rfl
@[simp] theorem State.give_safe (s : State) (v : Word) : (s.give v).safe = s.safe := rfl
@[simp] theorem State.give_log (s : State) (v : Word) : (s.give v).log = s.log := rfl
@[simp] theorem State.give_pwr (s : State) (v : Word) : (s.give v).pwr = s.pwr := rfl
@[simp] theorem State.give_ket (s : State) (v : Word) : (s.give v).ket = s.ket := rfl
@[simp] theorem State.give_net (s : State) (v : Word) : (s.give v).net = s.net := rfl
@[simp] theorem State.give_mtr (s : State) (v : Word) : (s.give v).mtr = s.mtr := rfl
@[simp] theorem State.give_hop (s : State) (v : Word) : (s.give v).hop = s.hop := rfl
@[simp] theorem State.give_law (s : State) (v : Word) : (s.give v).law = s.law := rfl
@[simp] theorem State.give_sup (s : State) (v : Word) : (s.give v).sup = s.sup := rfl
@[simp] theorem State.give_fw (s : State) (v : Word) : (s.give v).fw = s.fw := rfl
@[simp] theorem State.give_mbx (s : State) (v : Word) : (s.give v).mbx = s.mbx := rfl
@[simp] theorem State.give_pin (s : State) (v : Word) : (s.give v).pin = s.pin := rfl
@[simp] theorem State.give_freeN (s : State) (v : Word) : (s.give v).freeN = s.freeN := rfl
@[simp] theorem State.give_pending (s : State) (v : Word) : (s.give v).pending = s.pending := rfl

/-! `withPending` -/

@[simp] theorem State.withPending_gt (s : State) (q : List Instr) : (s.withPending q).gt = s.gt := rfl
@[simp] theorem State.withPending_variant (s : State) (q : List Instr) : (s.withPending q).variant = s.variant := rfl
@[simp] theorem State.withPending_dev (s : State) (q : List Instr) : (s.withPending q).dev = s.dev := rfl
@[simp] theorem State.withPending_regs (s : State) (q : List Instr) : (s.withPending q).regs = s.regs := rfl
@[simp] theorem State.withPending_deferred (s : State) (q : List Instr) : (s.withPending q).deferred = s.deferred := rfl
@[simp] theorem State.withPending_spareReqs (s : State) (q : List Instr) : (s.withPending q).spareReqs = s.spareReqs := rfl
@[simp] theorem State.withPending_pan (s : State) (q : List Instr) : (s.withPending q).pan = s.pan := rfl
@[simp] theorem State.withPending_tim (s : State) (q : List Instr) : (s.withPending q).tim = s.tim := rfl
@[simp] theorem State.withPending_ana (s : State) (q : List Instr) : (s.withPending q).ana = s.ana := rfl
@[simp] theorem State.withPending_cmp (s : State) (q : List Instr) : (s.withPending q).cmp = s.cmp := rfl
@[simp] theorem State.withPending_pwm (s : State) (q : List Instr) : (s.withPending q).pwm = s.pwm := rfl
@[simp] theorem State.withPending_gl (s : State) (q : List Instr) : (s.withPending q).gl = s.gl := rfl
@[simp] theorem State.withPending_safe (s : State) (q : List Instr) : (s.withPending q).safe = s.safe := rfl
@[simp] theorem State.withPending_log (s : State) (q : List Instr) : (s.withPending q).log = s.log := rfl
@[simp] theorem State.withPending_pwr (s : State) (q : List Instr) : (s.withPending q).pwr = s.pwr := rfl
@[simp] theorem State.withPending_ket (s : State) (q : List Instr) : (s.withPending q).ket = s.ket := rfl
@[simp] theorem State.withPending_net (s : State) (q : List Instr) : (s.withPending q).net = s.net := rfl
@[simp] theorem State.withPending_mtr (s : State) (q : List Instr) : (s.withPending q).mtr = s.mtr := rfl
@[simp] theorem State.withPending_hop (s : State) (q : List Instr) : (s.withPending q).hop = s.hop := rfl
@[simp] theorem State.withPending_law (s : State) (q : List Instr) : (s.withPending q).law = s.law := rfl
@[simp] theorem State.withPending_sup (s : State) (q : List Instr) : (s.withPending q).sup = s.sup := rfl
@[simp] theorem State.withPending_fw (s : State) (q : List Instr) : (s.withPending q).fw = s.fw := rfl
@[simp] theorem State.withPending_mbx (s : State) (q : List Instr) : (s.withPending q).mbx = s.mbx := rfl
@[simp] theorem State.withPending_pin (s : State) (q : List Instr) : (s.withPending q).pin = s.pin := rfl
@[simp] theorem State.withPending_freeN (s : State) (q : List Instr) : (s.withPending q).freeN = s.freeN := rfl
@[simp] theorem State.withPending_out (s : State) (q : List Instr) : (s.withPending q).out = s.out := rfl

/-! `gtTo` -/

@[simp] theorem State.gtTo_variant (s : State) (t : Nat) : (s.gtTo t).variant = s.variant := by unfold State.gtTo; split <;> rfl
@[simp] theorem State.gtTo_dev (s : State) (t : Nat) : (s.gtTo t).dev = s.dev := by unfold State.gtTo; split <;> rfl
@[simp] theorem State.gtTo_regs (s : State) (t : Nat) : (s.gtTo t).regs = s.regs := by unfold State.gtTo; split <;> rfl
@[simp] theorem State.gtTo_deferred (s : State) (t : Nat) : (s.gtTo t).deferred = s.deferred := by unfold State.gtTo; split <;> rfl
@[simp] theorem State.gtTo_spareReqs (s : State) (t : Nat) : (s.gtTo t).spareReqs = s.spareReqs := by unfold State.gtTo; split <;> rfl
@[simp] theorem State.gtTo_pan (s : State) (t : Nat) : (s.gtTo t).pan = s.pan := by unfold State.gtTo; split <;> rfl
@[simp] theorem State.gtTo_tim (s : State) (t : Nat) : (s.gtTo t).tim = s.tim := by unfold State.gtTo; split <;> rfl
@[simp] theorem State.gtTo_ana (s : State) (t : Nat) : (s.gtTo t).ana = s.ana := by unfold State.gtTo; split <;> rfl
@[simp] theorem State.gtTo_cmp (s : State) (t : Nat) : (s.gtTo t).cmp = s.cmp := by unfold State.gtTo; split <;> rfl
@[simp] theorem State.gtTo_pwm (s : State) (t : Nat) : (s.gtTo t).pwm = s.pwm := by unfold State.gtTo; split <;> rfl
@[simp] theorem State.gtTo_gl (s : State) (t : Nat) : (s.gtTo t).gl = s.gl := by unfold State.gtTo; split <;> rfl
@[simp] theorem State.gtTo_safe (s : State) (t : Nat) : (s.gtTo t).safe = s.safe := by unfold State.gtTo; split <;> rfl
@[simp] theorem State.gtTo_log (s : State) (t : Nat) : (s.gtTo t).log = s.log := by unfold State.gtTo; split <;> rfl
@[simp] theorem State.gtTo_pwr (s : State) (t : Nat) : (s.gtTo t).pwr = s.pwr := by unfold State.gtTo; split <;> rfl
@[simp] theorem State.gtTo_ket (s : State) (t : Nat) : (s.gtTo t).ket = s.ket := by unfold State.gtTo; split <;> rfl
@[simp] theorem State.gtTo_net (s : State) (t : Nat) : (s.gtTo t).net = s.net := by unfold State.gtTo; split <;> rfl
@[simp] theorem State.gtTo_mtr (s : State) (t : Nat) : (s.gtTo t).mtr = s.mtr := by unfold State.gtTo; split <;> rfl
@[simp] theorem State.gtTo_hop (s : State) (t : Nat) : (s.gtTo t).hop = s.hop := by unfold State.gtTo; split <;> rfl
@[simp] theorem State.gtTo_law (s : State) (t : Nat) : (s.gtTo t).law = s.law := by unfold State.gtTo; split <;> rfl
@[simp] theorem State.gtTo_sup (s : State) (t : Nat) : (s.gtTo t).sup = s.sup := by unfold State.gtTo; split <;> rfl
@[simp] theorem State.gtTo_fw (s : State) (t : Nat) : (s.gtTo t).fw = s.fw := by unfold State.gtTo; split <;> rfl
@[simp] theorem State.gtTo_mbx (s : State) (t : Nat) : (s.gtTo t).mbx = s.mbx := by unfold State.gtTo; split <;> rfl
@[simp] theorem State.gtTo_pin (s : State) (t : Nat) : (s.gtTo t).pin = s.pin := by unfold State.gtTo; split <;> rfl
@[simp] theorem State.gtTo_freeN (s : State) (t : Nat) : (s.gtTo t).freeN = s.freeN := by unfold State.gtTo; split <;> rfl
@[simp] theorem State.gtTo_out (s : State) (t : Nat) : (s.gtTo t).out = s.out := by unfold State.gtTo; split <;> rfl
@[simp] theorem State.gtTo_pending (s : State) (t : Nat) : (s.gtTo t).pending = s.pending := by unfold State.gtTo; split <;> rfl

/-! `enqueue` -/

@[simp] theorem State.enqueue_gt (s : State) (rs : List LogRec) (p : Bool) : (s.enqueue rs p).gt = s.gt := by unfold State.enqueue; split <;> rfl
@[simp] theorem State.enqueue_variant (s : State) (rs : List LogRec) (p : Bool) : (s.enqueue rs p).variant = s.variant := by unfold State.enqueue; split <;> rfl
@[simp] theorem State.enqueue_dev (s : State) (rs : List LogRec) (p : Bool) : (s.enqueue rs p).dev = s.dev := by unfold State.enqueue; split <;> rfl
@[simp] theorem State.enqueue_deferred (s : State) (rs : List LogRec) (p : Bool) : (s.enqueue rs p).deferred = s.deferred := by unfold State.enqueue; split <;> rfl
@[simp] theorem State.enqueue_spareReqs (s : State) (rs : List LogRec) (p : Bool) : (s.enqueue rs p).spareReqs = s.spareReqs := by unfold State.enqueue; split <;> rfl
@[simp] theorem State.enqueue_pan (s : State) (rs : List LogRec) (p : Bool) : (s.enqueue rs p).pan = s.pan := by unfold State.enqueue; split <;> rfl
@[simp] theorem State.enqueue_tim (s : State) (rs : List LogRec) (p : Bool) : (s.enqueue rs p).tim = s.tim := by unfold State.enqueue; split <;> rfl
@[simp] theorem State.enqueue_ana (s : State) (rs : List LogRec) (p : Bool) : (s.enqueue rs p).ana = s.ana := by unfold State.enqueue; split <;> rfl
@[simp] theorem State.enqueue_cmp (s : State) (rs : List LogRec) (p : Bool) : (s.enqueue rs p).cmp = s.cmp := by unfold State.enqueue; split <;> rfl
@[simp] theorem State.enqueue_pwm (s : State) (rs : List LogRec) (p : Bool) : (s.enqueue rs p).pwm = s.pwm := by unfold State.enqueue; split <;> rfl
@[simp] theorem State.enqueue_gl (s : State) (rs : List LogRec) (p : Bool) : (s.enqueue rs p).gl = s.gl := by unfold State.enqueue; split <;> rfl
@[simp] theorem State.enqueue_safe (s : State) (rs : List LogRec) (p : Bool) : (s.enqueue rs p).safe = s.safe := by unfold State.enqueue; split <;> rfl
@[simp] theorem State.enqueue_pwr (s : State) (rs : List LogRec) (p : Bool) : (s.enqueue rs p).pwr = s.pwr := by unfold State.enqueue; split <;> rfl
@[simp] theorem State.enqueue_ket (s : State) (rs : List LogRec) (p : Bool) : (s.enqueue rs p).ket = s.ket := by unfold State.enqueue; split <;> rfl
@[simp] theorem State.enqueue_net (s : State) (rs : List LogRec) (p : Bool) : (s.enqueue rs p).net = s.net := by unfold State.enqueue; split <;> rfl
@[simp] theorem State.enqueue_mtr (s : State) (rs : List LogRec) (p : Bool) : (s.enqueue rs p).mtr = s.mtr := by unfold State.enqueue; split <;> rfl
@[simp] theorem State.enqueue_hop (s : State) (rs : List LogRec) (p : Bool) : (s.enqueue rs p).hop = s.hop := by unfold State.enqueue; split <;> rfl
@[simp] theorem State.enqueue_law (s : State) (rs : List LogRec) (p : Bool) : (s.enqueue rs p).law = s.law := by unfold State.enqueue; split <;> rfl
@[simp] theorem State.enqueue_sup (s : State) (rs : List LogRec) (p : Bool) : (s.enqueue rs p).sup = s.sup := by unfold State.enqueue; split <;> rfl
@[simp] theorem State.enqueue_fw (s : State) (rs : List LogRec) (p : Bool) : (s.enqueue rs p).fw = s.fw := by unfold State.enqueue; split <;> rfl
@[simp] theorem State.enqueue_mbx (s : State) (rs : List LogRec) (p : Bool) : (s.enqueue rs p).mbx = s.mbx := by unfold State.enqueue; split <;> rfl
@[simp] theorem State.enqueue_pin (s : State) (rs : List LogRec) (p : Bool) : (s.enqueue rs p).pin = s.pin := by unfold State.enqueue; split <;> rfl
@[simp] theorem State.enqueue_freeN (s : State) (rs : List LogRec) (p : Bool) : (s.enqueue rs p).freeN = s.freeN := by unfold State.enqueue; split <;> rfl
@[simp] theorem State.enqueue_out (s : State) (rs : List LogRec) (p : Bool) : (s.enqueue rs p).out = s.out := by unfold State.enqueue; split <;> rfl
@[simp] theorem State.enqueue_pending (s : State) (rs : List LogRec) (p : Bool) : (s.enqueue rs p).pending = s.pending := by unfold State.enqueue; split <;> rfl

/-! `hostEvent` -/

@[simp] theorem State.hostEvent_gt (s : State) : (s.hostEvent).gt = s.gt := by unfold State.hostEvent; split <;> [split <;> rfl; rfl]
@[simp] theorem State.hostEvent_variant (s : State) : (s.hostEvent).variant = s.variant := by unfold State.hostEvent; split <;> [split <;> rfl; rfl]
@[simp] theorem State.hostEvent_dev (s : State) : (s.hostEvent).dev = s.dev := by unfold State.hostEvent; split <;> [split <;> rfl; rfl]
@[simp] theorem State.hostEvent_regs (s : State) : (s.hostEvent).regs = s.regs := by unfold State.hostEvent; split <;> [split <;> rfl; rfl]
@[simp] theorem State.hostEvent_deferred (s : State) : (s.hostEvent).deferred = s.deferred := by unfold State.hostEvent; split <;> [split <;> rfl; rfl]
@[simp] theorem State.hostEvent_spareReqs (s : State) : (s.hostEvent).spareReqs = s.spareReqs := by unfold State.hostEvent; split <;> [split <;> rfl; rfl]
@[simp] theorem State.hostEvent_pan (s : State) : (s.hostEvent).pan = s.pan := by unfold State.hostEvent; split <;> [split <;> rfl; rfl]
@[simp] theorem State.hostEvent_tim (s : State) : (s.hostEvent).tim = s.tim := by unfold State.hostEvent; split <;> [split <;> rfl; rfl]
@[simp] theorem State.hostEvent_ana (s : State) : (s.hostEvent).ana = s.ana := by unfold State.hostEvent; split <;> [split <;> rfl; rfl]
@[simp] theorem State.hostEvent_cmp (s : State) : (s.hostEvent).cmp = s.cmp := by unfold State.hostEvent; split <;> [split <;> rfl; rfl]
@[simp] theorem State.hostEvent_pwm (s : State) : (s.hostEvent).pwm = s.pwm := by unfold State.hostEvent; split <;> [split <;> rfl; rfl]
@[simp] theorem State.hostEvent_gl (s : State) : (s.hostEvent).gl = s.gl := by unfold State.hostEvent; split <;> [split <;> rfl; rfl]
@[simp] theorem State.hostEvent_safe (s : State) : (s.hostEvent).safe = s.safe := by unfold State.hostEvent; split <;> [split <;> rfl; rfl]
@[simp] theorem State.hostEvent_log (s : State) : (s.hostEvent).log = s.log := by unfold State.hostEvent; split <;> [split <;> rfl; rfl]
@[simp] theorem State.hostEvent_pwr (s : State) : (s.hostEvent).pwr = s.pwr := by unfold State.hostEvent; split <;> [split <;> rfl; rfl]
@[simp] theorem State.hostEvent_ket (s : State) : (s.hostEvent).ket = s.ket := by unfold State.hostEvent; split <;> [split <;> rfl; rfl]
@[simp] theorem State.hostEvent_net (s : State) : (s.hostEvent).net = s.net := by unfold State.hostEvent; split <;> [split <;> rfl; rfl]
@[simp] theorem State.hostEvent_mtr (s : State) : (s.hostEvent).mtr = s.mtr := by unfold State.hostEvent; split <;> [split <;> rfl; rfl]
@[simp] theorem State.hostEvent_hop (s : State) : (s.hostEvent).hop = s.hop := by unfold State.hostEvent; split <;> [split <;> rfl; rfl]
@[simp] theorem State.hostEvent_law (s : State) : (s.hostEvent).law = s.law := by unfold State.hostEvent; split <;> [split <;> rfl; rfl]
@[simp] theorem State.hostEvent_sup (s : State) : (s.hostEvent).sup = s.sup := by unfold State.hostEvent; split <;> [split <;> rfl; rfl]
@[simp] theorem State.hostEvent_fw (s : State) : (s.hostEvent).fw = s.fw := by unfold State.hostEvent; split <;> [split <;> rfl; rfl]
@[simp] theorem State.hostEvent_pin (s : State) : (s.hostEvent).pin = s.pin := by unfold State.hostEvent; split <;> [split <;> rfl; rfl]
@[simp] theorem State.hostEvent_freeN (s : State) : (s.hostEvent).freeN = s.freeN := by unfold State.hostEvent; split <;> [split <;> rfl; rfl]
@[simp] theorem State.hostEvent_pending (s : State) : (s.hostEvent).pending = s.pending := by unfold State.hostEvent; split <;> [split <;> rfl; rfl]

/-! `markStk` -/

@[simp] theorem State.markStk_gt (s : State) (k : Stk) : (s.markStk k).gt = s.gt := by unfold State.markStk; dsimp only; split <;> simp
@[simp] theorem State.markStk_variant (s : State) (k : Stk) : (s.markStk k).variant = s.variant := by unfold State.markStk; dsimp only; split <;> simp
@[simp] theorem State.markStk_dev (s : State) (k : Stk) : (s.markStk k).dev = s.dev := by unfold State.markStk; dsimp only; split <;> simp
@[simp] theorem State.markStk_deferred (s : State) (k : Stk) : (s.markStk k).deferred = s.deferred := by unfold State.markStk; dsimp only; split <;> simp
@[simp] theorem State.markStk_spareReqs (s : State) (k : Stk) : (s.markStk k).spareReqs = s.spareReqs := by unfold State.markStk; dsimp only; split <;> simp
@[simp] theorem State.markStk_pan (s : State) (k : Stk) : (s.markStk k).pan = s.pan := by unfold State.markStk; dsimp only; split <;> simp
@[simp] theorem State.markStk_tim (s : State) (k : Stk) : (s.markStk k).tim = s.tim := by unfold State.markStk; dsimp only; split <;> simp
@[simp] theorem State.markStk_ana (s : State) (k : Stk) : (s.markStk k).ana = s.ana := by unfold State.markStk; dsimp only; split <;> simp
@[simp] theorem State.markStk_cmp (s : State) (k : Stk) : (s.markStk k).cmp = s.cmp := by unfold State.markStk; dsimp only; split <;> simp
@[simp] theorem State.markStk_pwm (s : State) (k : Stk) : (s.markStk k).pwm = s.pwm := by unfold State.markStk; dsimp only; split <;> simp
@[simp] theorem State.markStk_gl (s : State) (k : Stk) : (s.markStk k).gl = s.gl := by unfold State.markStk; dsimp only; split <;> simp
@[simp] theorem State.markStk_safe (s : State) (k : Stk) : (s.markStk k).safe = s.safe := by unfold State.markStk; dsimp only; split <;> simp
@[simp] theorem State.markStk_pwr (s : State) (k : Stk) : (s.markStk k).pwr = s.pwr := by unfold State.markStk; dsimp only; split <;> simp
@[simp] theorem State.markStk_ket (s : State) (k : Stk) : (s.markStk k).ket = s.ket := by unfold State.markStk; dsimp only; split <;> simp
@[simp] theorem State.markStk_net (s : State) (k : Stk) : (s.markStk k).net = s.net := by unfold State.markStk; dsimp only; split <;> simp
@[simp] theorem State.markStk_mtr (s : State) (k : Stk) : (s.markStk k).mtr = s.mtr := by unfold State.markStk; dsimp only; split <;> simp
@[simp] theorem State.markStk_hop (s : State) (k : Stk) : (s.markStk k).hop = s.hop := by unfold State.markStk; dsimp only; split <;> simp
@[simp] theorem State.markStk_law (s : State) (k : Stk) : (s.markStk k).law = s.law := by unfold State.markStk; dsimp only; split <;> simp
@[simp] theorem State.markStk_sup (s : State) (k : Stk) : (s.markStk k).sup = s.sup := by unfold State.markStk; dsimp only; split <;> simp
@[simp] theorem State.markStk_fw (s : State) (k : Stk) : (s.markStk k).fw = s.fw := by unfold State.markStk; dsimp only; split <;> simp
@[simp] theorem State.markStk_pin (s : State) (k : Stk) : (s.markStk k).pin = s.pin := by unfold State.markStk; dsimp only; split <;> simp
@[simp] theorem State.markStk_freeN (s : State) (k : Stk) : (s.markStk k).freeN = s.freeN := by unfold State.markStk; dsimp only; split <;> simp
@[simp] theorem State.markStk_pending (s : State) (k : Stk) : (s.markStk k).pending = s.pending := by unfold State.markStk; dsimp only; split <;> simp

/-! `stkRecord` -/

@[simp] theorem State.stkRecord_gt (s : State) (k : Stk) : (s.stkRecord k).gt = s.gt := by unfold State.stkRecord; dsimp only; split <;> [rfl; (split <;> simp)]
@[simp] theorem State.stkRecord_variant (s : State) (k : Stk) : (s.stkRecord k).variant = s.variant := by unfold State.stkRecord; dsimp only; split <;> [rfl; (split <;> simp)]
@[simp] theorem State.stkRecord_dev (s : State) (k : Stk) : (s.stkRecord k).dev = s.dev := by unfold State.stkRecord; dsimp only; split <;> [rfl; (split <;> simp)]
@[simp] theorem State.stkRecord_deferred (s : State) (k : Stk) : (s.stkRecord k).deferred = s.deferred := by unfold State.stkRecord; dsimp only; split <;> [rfl; (split <;> simp)]
@[simp] theorem State.stkRecord_spareReqs (s : State) (k : Stk) : (s.stkRecord k).spareReqs = s.spareReqs := by unfold State.stkRecord; dsimp only; split <;> [rfl; (split <;> simp)]
@[simp] theorem State.stkRecord_pan (s : State) (k : Stk) : (s.stkRecord k).pan = s.pan := by unfold State.stkRecord; dsimp only; split <;> [rfl; (split <;> simp)]
@[simp] theorem State.stkRecord_tim (s : State) (k : Stk) : (s.stkRecord k).tim = s.tim := by unfold State.stkRecord; dsimp only; split <;> [rfl; (split <;> simp)]
@[simp] theorem State.stkRecord_ana (s : State) (k : Stk) : (s.stkRecord k).ana = s.ana := by unfold State.stkRecord; dsimp only; split <;> [rfl; (split <;> simp)]
@[simp] theorem State.stkRecord_cmp (s : State) (k : Stk) : (s.stkRecord k).cmp = s.cmp := by unfold State.stkRecord; dsimp only; split <;> [rfl; (split <;> simp)]
@[simp] theorem State.stkRecord_pwm (s : State) (k : Stk) : (s.stkRecord k).pwm = s.pwm := by unfold State.stkRecord; dsimp only; split <;> [rfl; (split <;> simp)]
@[simp] theorem State.stkRecord_gl (s : State) (k : Stk) : (s.stkRecord k).gl = s.gl := by unfold State.stkRecord; dsimp only; split <;> [rfl; (split <;> simp)]
@[simp] theorem State.stkRecord_safe (s : State) (k : Stk) : (s.stkRecord k).safe = s.safe := by unfold State.stkRecord; dsimp only; split <;> [rfl; (split <;> simp)]
@[simp] theorem State.stkRecord_pwr (s : State) (k : Stk) : (s.stkRecord k).pwr = s.pwr := by unfold State.stkRecord; dsimp only; split <;> [rfl; (split <;> simp)]
@[simp] theorem State.stkRecord_ket (s : State) (k : Stk) : (s.stkRecord k).ket = s.ket := by unfold State.stkRecord; dsimp only; split <;> [rfl; (split <;> simp)]
@[simp] theorem State.stkRecord_net (s : State) (k : Stk) : (s.stkRecord k).net = s.net := by unfold State.stkRecord; dsimp only; split <;> [rfl; (split <;> simp)]
@[simp] theorem State.stkRecord_mtr (s : State) (k : Stk) : (s.stkRecord k).mtr = s.mtr := by unfold State.stkRecord; dsimp only; split <;> [rfl; (split <;> simp)]
@[simp] theorem State.stkRecord_hop (s : State) (k : Stk) : (s.stkRecord k).hop = s.hop := by unfold State.stkRecord; dsimp only; split <;> [rfl; (split <;> simp)]
@[simp] theorem State.stkRecord_law (s : State) (k : Stk) : (s.stkRecord k).law = s.law := by unfold State.stkRecord; dsimp only; split <;> [rfl; (split <;> simp)]
@[simp] theorem State.stkRecord_sup (s : State) (k : Stk) : (s.stkRecord k).sup = s.sup := by unfold State.stkRecord; dsimp only; split <;> [rfl; (split <;> simp)]
@[simp] theorem State.stkRecord_fw (s : State) (k : Stk) : (s.stkRecord k).fw = s.fw := by unfold State.stkRecord; dsimp only; split <;> [rfl; (split <;> simp)]
@[simp] theorem State.stkRecord_mbx (s : State) (k : Stk) : (s.stkRecord k).mbx = s.mbx := by unfold State.stkRecord; dsimp only; split <;> [rfl; (split <;> simp)]
@[simp] theorem State.stkRecord_pin (s : State) (k : Stk) : (s.stkRecord k).pin = s.pin := by unfold State.stkRecord; dsimp only; split <;> [rfl; (split <;> simp)]
@[simp] theorem State.stkRecord_freeN (s : State) (k : Stk) : (s.stkRecord k).freeN = s.freeN := by unfold State.stkRecord; dsimp only; split <;> [rfl; (split <;> simp)]
@[simp] theorem State.stkRecord_out (s : State) (k : Stk) : (s.stkRecord k).out = s.out := by unfold State.stkRecord; dsimp only; split <;> [rfl; (split <;> simp)]
@[simp] theorem State.stkRecord_pending (s : State) (k : Stk) : (s.stkRecord k).pending = s.pending := by unfold State.stkRecord; dsimp only; split <;> [rfl; (split <;> simp)]

/-! `stick` -/

@[simp] theorem State.stick_gt (s : State) (k : Stk) : (s.stick k).gt = s.gt := by unfold State.stick State.overflowStk; split <;> [rfl; (split <;> simp)]
@[simp] theorem State.stick_variant (s : State) (k : Stk) : (s.stick k).variant = s.variant := by unfold State.stick State.overflowStk; split <;> [rfl; (split <;> simp)]
@[simp] theorem State.stick_dev (s : State) (k : Stk) : (s.stick k).dev = s.dev := by unfold State.stick State.overflowStk; split <;> [rfl; (split <;> simp)]
@[simp] theorem State.stick_deferred (s : State) (k : Stk) : (s.stick k).deferred = s.deferred := by unfold State.stick State.overflowStk; split <;> [rfl; (split <;> simp)]
@[simp] theorem State.stick_spareReqs (s : State) (k : Stk) : (s.stick k).spareReqs = s.spareReqs := by unfold State.stick State.overflowStk; split <;> [rfl; (split <;> simp)]
@[simp] theorem State.stick_pan (s : State) (k : Stk) : (s.stick k).pan = s.pan := by unfold State.stick State.overflowStk; split <;> [rfl; (split <;> simp)]
@[simp] theorem State.stick_tim (s : State) (k : Stk) : (s.stick k).tim = s.tim := by unfold State.stick State.overflowStk; split <;> [rfl; (split <;> simp)]
@[simp] theorem State.stick_ana (s : State) (k : Stk) : (s.stick k).ana = s.ana := by unfold State.stick State.overflowStk; split <;> [rfl; (split <;> simp)]
@[simp] theorem State.stick_cmp (s : State) (k : Stk) : (s.stick k).cmp = s.cmp := by unfold State.stick State.overflowStk; split <;> [rfl; (split <;> simp)]
@[simp] theorem State.stick_pwm (s : State) (k : Stk) : (s.stick k).pwm = s.pwm := by unfold State.stick State.overflowStk; split <;> [rfl; (split <;> simp)]
@[simp] theorem State.stick_gl (s : State) (k : Stk) : (s.stick k).gl = s.gl := by unfold State.stick State.overflowStk; split <;> [rfl; (split <;> simp)]
@[simp] theorem State.stick_safe (s : State) (k : Stk) : (s.stick k).safe = s.safe := by unfold State.stick State.overflowStk; split <;> [rfl; (split <;> simp)]
@[simp] theorem State.stick_pwr (s : State) (k : Stk) : (s.stick k).pwr = s.pwr := by unfold State.stick State.overflowStk; split <;> [rfl; (split <;> simp)]
@[simp] theorem State.stick_ket (s : State) (k : Stk) : (s.stick k).ket = s.ket := by unfold State.stick State.overflowStk; split <;> [rfl; (split <;> simp)]
@[simp] theorem State.stick_net (s : State) (k : Stk) : (s.stick k).net = s.net := by unfold State.stick State.overflowStk; split <;> [rfl; (split <;> simp)]
@[simp] theorem State.stick_mtr (s : State) (k : Stk) : (s.stick k).mtr = s.mtr := by unfold State.stick State.overflowStk; split <;> [rfl; (split <;> simp)]
@[simp] theorem State.stick_hop (s : State) (k : Stk) : (s.stick k).hop = s.hop := by unfold State.stick State.overflowStk; split <;> [rfl; (split <;> simp)]
@[simp] theorem State.stick_law (s : State) (k : Stk) : (s.stick k).law = s.law := by unfold State.stick State.overflowStk; split <;> [rfl; (split <;> simp)]
@[simp] theorem State.stick_sup (s : State) (k : Stk) : (s.stick k).sup = s.sup := by unfold State.stick State.overflowStk; split <;> [rfl; (split <;> simp)]
@[simp] theorem State.stick_fw (s : State) (k : Stk) : (s.stick k).fw = s.fw := by unfold State.stick State.overflowStk; split <;> [rfl; (split <;> simp)]
@[simp] theorem State.stick_pin (s : State) (k : Stk) : (s.stick k).pin = s.pin := by unfold State.stick State.overflowStk; split <;> [rfl; (split <;> simp)]
@[simp] theorem State.stick_freeN (s : State) (k : Stk) : (s.stick k).freeN = s.freeN := by unfold State.stick State.overflowStk; split <;> [rfl; (split <;> simp)]
@[simp] theorem State.stick_pending (s : State) (k : Stk) : (s.stick k).pending = s.pending := by unfold State.stick State.overflowStk; split <;> [rfl; (split <;> simp)]

/-! `stickIf` -/

@[simp] theorem State.stickIf_gt (s : State) (c : Bool) (k : Stk) : (s.stickIf c k).gt = s.gt := by unfold State.stickIf; split <;> simp
@[simp] theorem State.stickIf_variant (s : State) (c : Bool) (k : Stk) : (s.stickIf c k).variant = s.variant := by unfold State.stickIf; split <;> simp
@[simp] theorem State.stickIf_dev (s : State) (c : Bool) (k : Stk) : (s.stickIf c k).dev = s.dev := by unfold State.stickIf; split <;> simp
@[simp] theorem State.stickIf_deferred (s : State) (c : Bool) (k : Stk) : (s.stickIf c k).deferred = s.deferred := by unfold State.stickIf; split <;> simp
@[simp] theorem State.stickIf_spareReqs (s : State) (c : Bool) (k : Stk) : (s.stickIf c k).spareReqs = s.spareReqs := by unfold State.stickIf; split <;> simp
@[simp] theorem State.stickIf_pan (s : State) (c : Bool) (k : Stk) : (s.stickIf c k).pan = s.pan := by unfold State.stickIf; split <;> simp
@[simp] theorem State.stickIf_tim (s : State) (c : Bool) (k : Stk) : (s.stickIf c k).tim = s.tim := by unfold State.stickIf; split <;> simp
@[simp] theorem State.stickIf_ana (s : State) (c : Bool) (k : Stk) : (s.stickIf c k).ana = s.ana := by unfold State.stickIf; split <;> simp
@[simp] theorem State.stickIf_cmp (s : State) (c : Bool) (k : Stk) : (s.stickIf c k).cmp = s.cmp := by unfold State.stickIf; split <;> simp
@[simp] theorem State.stickIf_pwm (s : State) (c : Bool) (k : Stk) : (s.stickIf c k).pwm = s.pwm := by unfold State.stickIf; split <;> simp
@[simp] theorem State.stickIf_gl (s : State) (c : Bool) (k : Stk) : (s.stickIf c k).gl = s.gl := by unfold State.stickIf; split <;> simp
@[simp] theorem State.stickIf_safe (s : State) (c : Bool) (k : Stk) : (s.stickIf c k).safe = s.safe := by unfold State.stickIf; split <;> simp
@[simp] theorem State.stickIf_pwr (s : State) (c : Bool) (k : Stk) : (s.stickIf c k).pwr = s.pwr := by unfold State.stickIf; split <;> simp
@[simp] theorem State.stickIf_ket (s : State) (c : Bool) (k : Stk) : (s.stickIf c k).ket = s.ket := by unfold State.stickIf; split <;> simp
@[simp] theorem State.stickIf_net (s : State) (c : Bool) (k : Stk) : (s.stickIf c k).net = s.net := by unfold State.stickIf; split <;> simp
@[simp] theorem State.stickIf_mtr (s : State) (c : Bool) (k : Stk) : (s.stickIf c k).mtr = s.mtr := by unfold State.stickIf; split <;> simp
@[simp] theorem State.stickIf_hop (s : State) (c : Bool) (k : Stk) : (s.stickIf c k).hop = s.hop := by unfold State.stickIf; split <;> simp
@[simp] theorem State.stickIf_law (s : State) (c : Bool) (k : Stk) : (s.stickIf c k).law = s.law := by unfold State.stickIf; split <;> simp
@[simp] theorem State.stickIf_sup (s : State) (c : Bool) (k : Stk) : (s.stickIf c k).sup = s.sup := by unfold State.stickIf; split <;> simp
@[simp] theorem State.stickIf_fw (s : State) (c : Bool) (k : Stk) : (s.stickIf c k).fw = s.fw := by unfold State.stickIf; split <;> simp
@[simp] theorem State.stickIf_pin (s : State) (c : Bool) (k : Stk) : (s.stickIf c k).pin = s.pin := by unfold State.stickIf; split <;> simp
@[simp] theorem State.stickIf_freeN (s : State) (c : Bool) (k : Stk) : (s.stickIf c k).freeN = s.freeN := by unfold State.stickIf; split <;> simp
@[simp] theorem State.stickIf_pending (s : State) (c : Bool) (k : Stk) : (s.stickIf c k).pending = s.pending := by unfold State.stickIf; split <;> simp

/-! `logRec` -/

@[simp] theorem State.logRec_gt (s : State) (t c : Nat) (ws : List Word) (p : Bool) : (s.logRec t c ws p).gt = s.gt := by unfold State.logRec State.overflowStk; split <;> simp
@[simp] theorem State.logRec_variant (s : State) (t c : Nat) (ws : List Word) (p : Bool) : (s.logRec t c ws p).variant = s.variant := by unfold State.logRec State.overflowStk; split <;> simp
@[simp] theorem State.logRec_dev (s : State) (t c : Nat) (ws : List Word) (p : Bool) : (s.logRec t c ws p).dev = s.dev := by unfold State.logRec State.overflowStk; split <;> simp
@[simp] theorem State.logRec_deferred (s : State) (t c : Nat) (ws : List Word) (p : Bool) : (s.logRec t c ws p).deferred = s.deferred := by unfold State.logRec State.overflowStk; split <;> simp
@[simp] theorem State.logRec_spareReqs (s : State) (t c : Nat) (ws : List Word) (p : Bool) : (s.logRec t c ws p).spareReqs = s.spareReqs := by unfold State.logRec State.overflowStk; split <;> simp
@[simp] theorem State.logRec_pan (s : State) (t c : Nat) (ws : List Word) (p : Bool) : (s.logRec t c ws p).pan = s.pan := by unfold State.logRec State.overflowStk; split <;> simp
@[simp] theorem State.logRec_tim (s : State) (t c : Nat) (ws : List Word) (p : Bool) : (s.logRec t c ws p).tim = s.tim := by unfold State.logRec State.overflowStk; split <;> simp
@[simp] theorem State.logRec_ana (s : State) (t c : Nat) (ws : List Word) (p : Bool) : (s.logRec t c ws p).ana = s.ana := by unfold State.logRec State.overflowStk; split <;> simp
@[simp] theorem State.logRec_cmp (s : State) (t c : Nat) (ws : List Word) (p : Bool) : (s.logRec t c ws p).cmp = s.cmp := by unfold State.logRec State.overflowStk; split <;> simp
@[simp] theorem State.logRec_pwm (s : State) (t c : Nat) (ws : List Word) (p : Bool) : (s.logRec t c ws p).pwm = s.pwm := by unfold State.logRec State.overflowStk; split <;> simp
@[simp] theorem State.logRec_gl (s : State) (t c : Nat) (ws : List Word) (p : Bool) : (s.logRec t c ws p).gl = s.gl := by unfold State.logRec State.overflowStk; split <;> simp
@[simp] theorem State.logRec_safe (s : State) (t c : Nat) (ws : List Word) (p : Bool) : (s.logRec t c ws p).safe = s.safe := by unfold State.logRec State.overflowStk; split <;> simp
@[simp] theorem State.logRec_pwr (s : State) (t c : Nat) (ws : List Word) (p : Bool) : (s.logRec t c ws p).pwr = s.pwr := by unfold State.logRec State.overflowStk; split <;> simp
@[simp] theorem State.logRec_ket (s : State) (t c : Nat) (ws : List Word) (p : Bool) : (s.logRec t c ws p).ket = s.ket := by unfold State.logRec State.overflowStk; split <;> simp
@[simp] theorem State.logRec_net (s : State) (t c : Nat) (ws : List Word) (p : Bool) : (s.logRec t c ws p).net = s.net := by unfold State.logRec State.overflowStk; split <;> simp
@[simp] theorem State.logRec_mtr (s : State) (t c : Nat) (ws : List Word) (p : Bool) : (s.logRec t c ws p).mtr = s.mtr := by unfold State.logRec State.overflowStk; split <;> simp
@[simp] theorem State.logRec_hop (s : State) (t c : Nat) (ws : List Word) (p : Bool) : (s.logRec t c ws p).hop = s.hop := by unfold State.logRec State.overflowStk; split <;> simp
@[simp] theorem State.logRec_law (s : State) (t c : Nat) (ws : List Word) (p : Bool) : (s.logRec t c ws p).law = s.law := by unfold State.logRec State.overflowStk; split <;> simp
@[simp] theorem State.logRec_sup (s : State) (t c : Nat) (ws : List Word) (p : Bool) : (s.logRec t c ws p).sup = s.sup := by unfold State.logRec State.overflowStk; split <;> simp
@[simp] theorem State.logRec_fw (s : State) (t c : Nat) (ws : List Word) (p : Bool) : (s.logRec t c ws p).fw = s.fw := by unfold State.logRec State.overflowStk; split <;> simp
@[simp] theorem State.logRec_pin (s : State) (t c : Nat) (ws : List Word) (p : Bool) : (s.logRec t c ws p).pin = s.pin := by unfold State.logRec State.overflowStk; split <;> simp
@[simp] theorem State.logRec_freeN (s : State) (t c : Nat) (ws : List Word) (p : Bool) : (s.logRec t c ws p).freeN = s.freeN := by unfold State.logRec State.overflowStk; split <;> simp
@[simp] theorem State.logRec_pending (s : State) (t c : Nat) (ws : List Word) (p : Bool) : (s.logRec t c ws p).pending = s.pending := by unfold State.logRec State.overflowStk; split <;> simp

/-! `breachOf` -/

@[simp] theorem State.breachOf_gt (s : State) (c slot i : Nat) : (s.breachOf c slot i).gt = s.gt := by unfold State.breachOf; dsimp only; split <;> split <;> simp
@[simp] theorem State.breachOf_variant (s : State) (c slot i : Nat) : (s.breachOf c slot i).variant = s.variant := by unfold State.breachOf; dsimp only; split <;> split <;> simp
@[simp] theorem State.breachOf_dev (s : State) (c slot i : Nat) : (s.breachOf c slot i).dev = s.dev := by unfold State.breachOf; dsimp only; split <;> split <;> simp
@[simp] theorem State.breachOf_deferred (s : State) (c slot i : Nat) : (s.breachOf c slot i).deferred = s.deferred := by unfold State.breachOf; dsimp only; split <;> split <;> simp
@[simp] theorem State.breachOf_spareReqs (s : State) (c slot i : Nat) : (s.breachOf c slot i).spareReqs = s.spareReqs := by unfold State.breachOf; dsimp only; split <;> split <;> simp
@[simp] theorem State.breachOf_tim (s : State) (c slot i : Nat) : (s.breachOf c slot i).tim = s.tim := by unfold State.breachOf; dsimp only; split <;> split <;> simp
@[simp] theorem State.breachOf_ana (s : State) (c slot i : Nat) : (s.breachOf c slot i).ana = s.ana := by unfold State.breachOf; dsimp only; split <;> split <;> simp
@[simp] theorem State.breachOf_cmp (s : State) (c slot i : Nat) : (s.breachOf c slot i).cmp = s.cmp := by unfold State.breachOf; dsimp only; split <;> split <;> simp
@[simp] theorem State.breachOf_pwm (s : State) (c slot i : Nat) : (s.breachOf c slot i).pwm = s.pwm := by unfold State.breachOf; dsimp only; split <;> split <;> simp
@[simp] theorem State.breachOf_gl (s : State) (c slot i : Nat) : (s.breachOf c slot i).gl = s.gl := by unfold State.breachOf; dsimp only; split <;> split <;> simp
@[simp] theorem State.breachOf_safe (s : State) (c slot i : Nat) : (s.breachOf c slot i).safe = s.safe := by unfold State.breachOf; dsimp only; split <;> split <;> simp
@[simp] theorem State.breachOf_pwr (s : State) (c slot i : Nat) : (s.breachOf c slot i).pwr = s.pwr := by unfold State.breachOf; dsimp only; split <;> split <;> simp
@[simp] theorem State.breachOf_ket (s : State) (c slot i : Nat) : (s.breachOf c slot i).ket = s.ket := by unfold State.breachOf; dsimp only; split <;> split <;> simp
@[simp] theorem State.breachOf_net (s : State) (c slot i : Nat) : (s.breachOf c slot i).net = s.net := by unfold State.breachOf; dsimp only; split <;> split <;> simp
@[simp] theorem State.breachOf_mtr (s : State) (c slot i : Nat) : (s.breachOf c slot i).mtr = s.mtr := by unfold State.breachOf; dsimp only; split <;> split <;> simp
@[simp] theorem State.breachOf_hop (s : State) (c slot i : Nat) : (s.breachOf c slot i).hop = s.hop := by unfold State.breachOf; dsimp only; split <;> split <;> simp
@[simp] theorem State.breachOf_law (s : State) (c slot i : Nat) : (s.breachOf c slot i).law = s.law := by unfold State.breachOf; dsimp only; split <;> split <;> simp
@[simp] theorem State.breachOf_sup (s : State) (c slot i : Nat) : (s.breachOf c slot i).sup = s.sup := by unfold State.breachOf; dsimp only; split <;> split <;> simp
@[simp] theorem State.breachOf_fw (s : State) (c slot i : Nat) : (s.breachOf c slot i).fw = s.fw := by unfold State.breachOf; dsimp only; split <;> split <;> simp
@[simp] theorem State.breachOf_pin (s : State) (c slot i : Nat) : (s.breachOf c slot i).pin = s.pin := by unfold State.breachOf; dsimp only; split <;> split <;> simp
@[simp] theorem State.breachOf_freeN (s : State) (c slot i : Nat) : (s.breachOf c slot i).freeN = s.freeN := by unfold State.breachOf; dsimp only; split <;> split <;> simp
@[simp] theorem State.breachOf_pending (s : State) (c slot i : Nat) : (s.breachOf c slot i).pending = s.pending := by unfold State.breachOf; dsimp only; split <;> split <;> simp

/-! `ketMod` -/

@[simp] theorem State.ketMod_gt (s : State) (b : Nat) (f : Binding → Binding) : (s.ketMod b f).gt = s.gt := rfl
@[simp] theorem State.ketMod_variant (s : State) (b : Nat) (f : Binding → Binding) : (s.ketMod b f).variant = s.variant := rfl
@[simp] theorem State.ketMod_dev (s : State) (b : Nat) (f : Binding → Binding) : (s.ketMod b f).dev = s.dev := rfl
@[simp] theorem State.ketMod_regs (s : State) (b : Nat) (f : Binding → Binding) : (s.ketMod b f).regs = s.regs := rfl
@[simp] theorem State.ketMod_deferred (s : State) (b : Nat) (f : Binding → Binding) : (s.ketMod b f).deferred = s.deferred := rfl
@[simp] theorem State.ketMod_spareReqs (s : State) (b : Nat) (f : Binding → Binding) : (s.ketMod b f).spareReqs = s.spareReqs := rfl
@[simp] theorem State.ketMod_pan (s : State) (b : Nat) (f : Binding → Binding) : (s.ketMod b f).pan = s.pan := rfl
@[simp] theorem State.ketMod_tim (s : State) (b : Nat) (f : Binding → Binding) : (s.ketMod b f).tim = s.tim := rfl
@[simp] theorem State.ketMod_ana (s : State) (b : Nat) (f : Binding → Binding) : (s.ketMod b f).ana = s.ana := rfl
@[simp] theorem State.ketMod_cmp (s : State) (b : Nat) (f : Binding → Binding) : (s.ketMod b f).cmp = s.cmp := rfl
@[simp] theorem State.ketMod_pwm (s : State) (b : Nat) (f : Binding → Binding) : (s.ketMod b f).pwm = s.pwm := rfl
@[simp] theorem State.ketMod_gl (s : State) (b : Nat) (f : Binding → Binding) : (s.ketMod b f).gl = s.gl := rfl
@[simp] theorem State.ketMod_safe (s : State) (b : Nat) (f : Binding → Binding) : (s.ketMod b f).safe = s.safe := rfl
@[simp] theorem State.ketMod_log (s : State) (b : Nat) (f : Binding → Binding) : (s.ketMod b f).log = s.log := rfl
@[simp] theorem State.ketMod_pwr (s : State) (b : Nat) (f : Binding → Binding) : (s.ketMod b f).pwr = s.pwr := rfl
@[simp] theorem State.ketMod_net (s : State) (b : Nat) (f : Binding → Binding) : (s.ketMod b f).net = s.net := rfl
@[simp] theorem State.ketMod_mtr (s : State) (b : Nat) (f : Binding → Binding) : (s.ketMod b f).mtr = s.mtr := rfl
@[simp] theorem State.ketMod_hop (s : State) (b : Nat) (f : Binding → Binding) : (s.ketMod b f).hop = s.hop := rfl
@[simp] theorem State.ketMod_law (s : State) (b : Nat) (f : Binding → Binding) : (s.ketMod b f).law = s.law := rfl
@[simp] theorem State.ketMod_sup (s : State) (b : Nat) (f : Binding → Binding) : (s.ketMod b f).sup = s.sup := rfl
@[simp] theorem State.ketMod_fw (s : State) (b : Nat) (f : Binding → Binding) : (s.ketMod b f).fw = s.fw := rfl
@[simp] theorem State.ketMod_mbx (s : State) (b : Nat) (f : Binding → Binding) : (s.ketMod b f).mbx = s.mbx := rfl
@[simp] theorem State.ketMod_pin (s : State) (b : Nat) (f : Binding → Binding) : (s.ketMod b f).pin = s.pin := rfl
@[simp] theorem State.ketMod_freeN (s : State) (b : Nat) (f : Binding → Binding) : (s.ketMod b f).freeN = s.freeN := rfl
@[simp] theorem State.ketMod_out (s : State) (b : Nat) (f : Binding → Binding) : (s.ketMod b f).out = s.out := rfl
@[simp] theorem State.ketMod_pending (s : State) (b : Nat) (f : Binding → Binding) : (s.ketMod b f).pending = s.pending := rfl

/-! `coreMod` -/

@[simp] theorem State.coreMod_gt (s : State) (c : Nat) (f : AdcCore → AdcCore) : (s.coreMod c f).gt = s.gt := rfl
@[simp] theorem State.coreMod_variant (s : State) (c : Nat) (f : AdcCore → AdcCore) : (s.coreMod c f).variant = s.variant := rfl
@[simp] theorem State.coreMod_dev (s : State) (c : Nat) (f : AdcCore → AdcCore) : (s.coreMod c f).dev = s.dev := rfl
@[simp] theorem State.coreMod_regs (s : State) (c : Nat) (f : AdcCore → AdcCore) : (s.coreMod c f).regs = s.regs := rfl
@[simp] theorem State.coreMod_deferred (s : State) (c : Nat) (f : AdcCore → AdcCore) : (s.coreMod c f).deferred = s.deferred := rfl
@[simp] theorem State.coreMod_spareReqs (s : State) (c : Nat) (f : AdcCore → AdcCore) : (s.coreMod c f).spareReqs = s.spareReqs := rfl
@[simp] theorem State.coreMod_pan (s : State) (c : Nat) (f : AdcCore → AdcCore) : (s.coreMod c f).pan = s.pan := rfl
@[simp] theorem State.coreMod_tim (s : State) (c : Nat) (f : AdcCore → AdcCore) : (s.coreMod c f).tim = s.tim := rfl
@[simp] theorem State.coreMod_cmp (s : State) (c : Nat) (f : AdcCore → AdcCore) : (s.coreMod c f).cmp = s.cmp := rfl
@[simp] theorem State.coreMod_pwm (s : State) (c : Nat) (f : AdcCore → AdcCore) : (s.coreMod c f).pwm = s.pwm := rfl
@[simp] theorem State.coreMod_gl (s : State) (c : Nat) (f : AdcCore → AdcCore) : (s.coreMod c f).gl = s.gl := rfl
@[simp] theorem State.coreMod_safe (s : State) (c : Nat) (f : AdcCore → AdcCore) : (s.coreMod c f).safe = s.safe := rfl
@[simp] theorem State.coreMod_log (s : State) (c : Nat) (f : AdcCore → AdcCore) : (s.coreMod c f).log = s.log := rfl
@[simp] theorem State.coreMod_pwr (s : State) (c : Nat) (f : AdcCore → AdcCore) : (s.coreMod c f).pwr = s.pwr := rfl
@[simp] theorem State.coreMod_ket (s : State) (c : Nat) (f : AdcCore → AdcCore) : (s.coreMod c f).ket = s.ket := rfl
@[simp] theorem State.coreMod_net (s : State) (c : Nat) (f : AdcCore → AdcCore) : (s.coreMod c f).net = s.net := rfl
@[simp] theorem State.coreMod_mtr (s : State) (c : Nat) (f : AdcCore → AdcCore) : (s.coreMod c f).mtr = s.mtr := rfl
@[simp] theorem State.coreMod_hop (s : State) (c : Nat) (f : AdcCore → AdcCore) : (s.coreMod c f).hop = s.hop := rfl
@[simp] theorem State.coreMod_law (s : State) (c : Nat) (f : AdcCore → AdcCore) : (s.coreMod c f).law = s.law := rfl
@[simp] theorem State.coreMod_sup (s : State) (c : Nat) (f : AdcCore → AdcCore) : (s.coreMod c f).sup = s.sup := rfl
@[simp] theorem State.coreMod_fw (s : State) (c : Nat) (f : AdcCore → AdcCore) : (s.coreMod c f).fw = s.fw := rfl
@[simp] theorem State.coreMod_mbx (s : State) (c : Nat) (f : AdcCore → AdcCore) : (s.coreMod c f).mbx = s.mbx := rfl
@[simp] theorem State.coreMod_pin (s : State) (c : Nat) (f : AdcCore → AdcCore) : (s.coreMod c f).pin = s.pin := rfl
@[simp] theorem State.coreMod_freeN (s : State) (c : Nat) (f : AdcCore → AdcCore) : (s.coreMod c f).freeN = s.freeN := rfl
@[simp] theorem State.coreMod_out (s : State) (c : Nat) (f : AdcCore → AdcCore) : (s.coreMod c f).out = s.out := rfl
@[simp] theorem State.coreMod_pending (s : State) (c : Nat) (f : AdcCore → AdcCore) : (s.coreMod c f).pending = s.pending := rfl

/-! `sdfMod` -/

@[simp] theorem State.sdfMod_gt (s : State) (n : Nat) (f : SdfCh → SdfCh) : (s.sdfMod n f).gt = s.gt := rfl
@[simp] theorem State.sdfMod_variant (s : State) (n : Nat) (f : SdfCh → SdfCh) : (s.sdfMod n f).variant = s.variant := rfl
@[simp] theorem State.sdfMod_dev (s : State) (n : Nat) (f : SdfCh → SdfCh) : (s.sdfMod n f).dev = s.dev := rfl
@[simp] theorem State.sdfMod_regs (s : State) (n : Nat) (f : SdfCh → SdfCh) : (s.sdfMod n f).regs = s.regs := rfl
@[simp] theorem State.sdfMod_deferred (s : State) (n : Nat) (f : SdfCh → SdfCh) : (s.sdfMod n f).deferred = s.deferred := rfl
@[simp] theorem State.sdfMod_spareReqs (s : State) (n : Nat) (f : SdfCh → SdfCh) : (s.sdfMod n f).spareReqs = s.spareReqs := rfl
@[simp] theorem State.sdfMod_pan (s : State) (n : Nat) (f : SdfCh → SdfCh) : (s.sdfMod n f).pan = s.pan := rfl
@[simp] theorem State.sdfMod_tim (s : State) (n : Nat) (f : SdfCh → SdfCh) : (s.sdfMod n f).tim = s.tim := rfl
@[simp] theorem State.sdfMod_cmp (s : State) (n : Nat) (f : SdfCh → SdfCh) : (s.sdfMod n f).cmp = s.cmp := rfl
@[simp] theorem State.sdfMod_pwm (s : State) (n : Nat) (f : SdfCh → SdfCh) : (s.sdfMod n f).pwm = s.pwm := rfl
@[simp] theorem State.sdfMod_gl (s : State) (n : Nat) (f : SdfCh → SdfCh) : (s.sdfMod n f).gl = s.gl := rfl
@[simp] theorem State.sdfMod_safe (s : State) (n : Nat) (f : SdfCh → SdfCh) : (s.sdfMod n f).safe = s.safe := rfl
@[simp] theorem State.sdfMod_log (s : State) (n : Nat) (f : SdfCh → SdfCh) : (s.sdfMod n f).log = s.log := rfl
@[simp] theorem State.sdfMod_pwr (s : State) (n : Nat) (f : SdfCh → SdfCh) : (s.sdfMod n f).pwr = s.pwr := rfl
@[simp] theorem State.sdfMod_ket (s : State) (n : Nat) (f : SdfCh → SdfCh) : (s.sdfMod n f).ket = s.ket := rfl
@[simp] theorem State.sdfMod_net (s : State) (n : Nat) (f : SdfCh → SdfCh) : (s.sdfMod n f).net = s.net := rfl
@[simp] theorem State.sdfMod_mtr (s : State) (n : Nat) (f : SdfCh → SdfCh) : (s.sdfMod n f).mtr = s.mtr := rfl
@[simp] theorem State.sdfMod_hop (s : State) (n : Nat) (f : SdfCh → SdfCh) : (s.sdfMod n f).hop = s.hop := rfl
@[simp] theorem State.sdfMod_law (s : State) (n : Nat) (f : SdfCh → SdfCh) : (s.sdfMod n f).law = s.law := rfl
@[simp] theorem State.sdfMod_sup (s : State) (n : Nat) (f : SdfCh → SdfCh) : (s.sdfMod n f).sup = s.sup := rfl
@[simp] theorem State.sdfMod_fw (s : State) (n : Nat) (f : SdfCh → SdfCh) : (s.sdfMod n f).fw = s.fw := rfl
@[simp] theorem State.sdfMod_mbx (s : State) (n : Nat) (f : SdfCh → SdfCh) : (s.sdfMod n f).mbx = s.mbx := rfl
@[simp] theorem State.sdfMod_pin (s : State) (n : Nat) (f : SdfCh → SdfCh) : (s.sdfMod n f).pin = s.pin := rfl
@[simp] theorem State.sdfMod_freeN (s : State) (n : Nat) (f : SdfCh → SdfCh) : (s.sdfMod n f).freeN = s.freeN := rfl
@[simp] theorem State.sdfMod_out (s : State) (n : Nat) (f : SdfCh → SdfCh) : (s.sdfMod n f).out = s.out := rfl
@[simp] theorem State.sdfMod_pending (s : State) (n : Nat) (f : SdfCh → SdfCh) : (s.sdfMod n f).pending = s.pending := rfl

/-! `cmpMod` -/

@[simp] theorem State.cmpMod_gt (s : State) (n : Nat) (f : CmpState → CmpState) : (s.cmpMod n f).gt = s.gt := rfl
@[simp] theorem State.cmpMod_variant (s : State) (n : Nat) (f : CmpState → CmpState) : (s.cmpMod n f).variant = s.variant := rfl
@[simp] theorem State.cmpMod_dev (s : State) (n : Nat) (f : CmpState → CmpState) : (s.cmpMod n f).dev = s.dev := rfl
@[simp] theorem State.cmpMod_regs (s : State) (n : Nat) (f : CmpState → CmpState) : (s.cmpMod n f).regs = s.regs := rfl
@[simp] theorem State.cmpMod_deferred (s : State) (n : Nat) (f : CmpState → CmpState) : (s.cmpMod n f).deferred = s.deferred := rfl
@[simp] theorem State.cmpMod_spareReqs (s : State) (n : Nat) (f : CmpState → CmpState) : (s.cmpMod n f).spareReqs = s.spareReqs := rfl
@[simp] theorem State.cmpMod_pan (s : State) (n : Nat) (f : CmpState → CmpState) : (s.cmpMod n f).pan = s.pan := rfl
@[simp] theorem State.cmpMod_tim (s : State) (n : Nat) (f : CmpState → CmpState) : (s.cmpMod n f).tim = s.tim := rfl
@[simp] theorem State.cmpMod_ana (s : State) (n : Nat) (f : CmpState → CmpState) : (s.cmpMod n f).ana = s.ana := rfl
@[simp] theorem State.cmpMod_pwm (s : State) (n : Nat) (f : CmpState → CmpState) : (s.cmpMod n f).pwm = s.pwm := rfl
@[simp] theorem State.cmpMod_gl (s : State) (n : Nat) (f : CmpState → CmpState) : (s.cmpMod n f).gl = s.gl := rfl
@[simp] theorem State.cmpMod_safe (s : State) (n : Nat) (f : CmpState → CmpState) : (s.cmpMod n f).safe = s.safe := rfl
@[simp] theorem State.cmpMod_log (s : State) (n : Nat) (f : CmpState → CmpState) : (s.cmpMod n f).log = s.log := rfl
@[simp] theorem State.cmpMod_pwr (s : State) (n : Nat) (f : CmpState → CmpState) : (s.cmpMod n f).pwr = s.pwr := rfl
@[simp] theorem State.cmpMod_ket (s : State) (n : Nat) (f : CmpState → CmpState) : (s.cmpMod n f).ket = s.ket := rfl
@[simp] theorem State.cmpMod_net (s : State) (n : Nat) (f : CmpState → CmpState) : (s.cmpMod n f).net = s.net := rfl
@[simp] theorem State.cmpMod_mtr (s : State) (n : Nat) (f : CmpState → CmpState) : (s.cmpMod n f).mtr = s.mtr := rfl
@[simp] theorem State.cmpMod_hop (s : State) (n : Nat) (f : CmpState → CmpState) : (s.cmpMod n f).hop = s.hop := rfl
@[simp] theorem State.cmpMod_law (s : State) (n : Nat) (f : CmpState → CmpState) : (s.cmpMod n f).law = s.law := rfl
@[simp] theorem State.cmpMod_sup (s : State) (n : Nat) (f : CmpState → CmpState) : (s.cmpMod n f).sup = s.sup := rfl
@[simp] theorem State.cmpMod_fw (s : State) (n : Nat) (f : CmpState → CmpState) : (s.cmpMod n f).fw = s.fw := rfl
@[simp] theorem State.cmpMod_mbx (s : State) (n : Nat) (f : CmpState → CmpState) : (s.cmpMod n f).mbx = s.mbx := rfl
@[simp] theorem State.cmpMod_pin (s : State) (n : Nat) (f : CmpState → CmpState) : (s.cmpMod n f).pin = s.pin := rfl
@[simp] theorem State.cmpMod_freeN (s : State) (n : Nat) (f : CmpState → CmpState) : (s.cmpMod n f).freeN = s.freeN := rfl
@[simp] theorem State.cmpMod_out (s : State) (n : Nat) (f : CmpState → CmpState) : (s.cmpMod n f).out = s.out := rfl
@[simp] theorem State.cmpMod_pending (s : State) (n : Nat) (f : CmpState → CmpState) : (s.cmpMod n f).pending = s.pending := rfl

/-! `chMod` -/

@[simp] theorem State.chMod_gt (s : State) (n : Nat) (f : PwmCh → PwmCh) : (s.chMod n f).gt = s.gt := rfl
@[simp] theorem State.chMod_variant (s : State) (n : Nat) (f : PwmCh → PwmCh) : (s.chMod n f).variant = s.variant := rfl
@[simp] theorem State.chMod_dev (s : State) (n : Nat) (f : PwmCh → PwmCh) : (s.chMod n f).dev = s.dev := rfl
@[simp] theorem State.chMod_regs (s : State) (n : Nat) (f : PwmCh → PwmCh) : (s.chMod n f).regs = s.regs := rfl
@[simp] theorem State.chMod_deferred (s : State) (n : Nat) (f : PwmCh → PwmCh) : (s.chMod n f).deferred = s.deferred := rfl
@[simp] theorem State.chMod_spareReqs (s : State) (n : Nat) (f : PwmCh → PwmCh) : (s.chMod n f).spareReqs = s.spareReqs := rfl
@[simp] theorem State.chMod_pan (s : State) (n : Nat) (f : PwmCh → PwmCh) : (s.chMod n f).pan = s.pan := rfl
@[simp] theorem State.chMod_tim (s : State) (n : Nat) (f : PwmCh → PwmCh) : (s.chMod n f).tim = s.tim := rfl
@[simp] theorem State.chMod_ana (s : State) (n : Nat) (f : PwmCh → PwmCh) : (s.chMod n f).ana = s.ana := rfl
@[simp] theorem State.chMod_cmp (s : State) (n : Nat) (f : PwmCh → PwmCh) : (s.chMod n f).cmp = s.cmp := rfl
@[simp] theorem State.chMod_gl (s : State) (n : Nat) (f : PwmCh → PwmCh) : (s.chMod n f).gl = s.gl := rfl
@[simp] theorem State.chMod_safe (s : State) (n : Nat) (f : PwmCh → PwmCh) : (s.chMod n f).safe = s.safe := rfl
@[simp] theorem State.chMod_log (s : State) (n : Nat) (f : PwmCh → PwmCh) : (s.chMod n f).log = s.log := rfl
@[simp] theorem State.chMod_pwr (s : State) (n : Nat) (f : PwmCh → PwmCh) : (s.chMod n f).pwr = s.pwr := rfl
@[simp] theorem State.chMod_ket (s : State) (n : Nat) (f : PwmCh → PwmCh) : (s.chMod n f).ket = s.ket := rfl
@[simp] theorem State.chMod_net (s : State) (n : Nat) (f : PwmCh → PwmCh) : (s.chMod n f).net = s.net := rfl
@[simp] theorem State.chMod_mtr (s : State) (n : Nat) (f : PwmCh → PwmCh) : (s.chMod n f).mtr = s.mtr := rfl
@[simp] theorem State.chMod_hop (s : State) (n : Nat) (f : PwmCh → PwmCh) : (s.chMod n f).hop = s.hop := rfl
@[simp] theorem State.chMod_law (s : State) (n : Nat) (f : PwmCh → PwmCh) : (s.chMod n f).law = s.law := rfl
@[simp] theorem State.chMod_sup (s : State) (n : Nat) (f : PwmCh → PwmCh) : (s.chMod n f).sup = s.sup := rfl
@[simp] theorem State.chMod_fw (s : State) (n : Nat) (f : PwmCh → PwmCh) : (s.chMod n f).fw = s.fw := rfl
@[simp] theorem State.chMod_mbx (s : State) (n : Nat) (f : PwmCh → PwmCh) : (s.chMod n f).mbx = s.mbx := rfl
@[simp] theorem State.chMod_pin (s : State) (n : Nat) (f : PwmCh → PwmCh) : (s.chMod n f).pin = s.pin := rfl
@[simp] theorem State.chMod_freeN (s : State) (n : Nat) (f : PwmCh → PwmCh) : (s.chMod n f).freeN = s.freeN := rfl
@[simp] theorem State.chMod_out (s : State) (n : Nat) (f : PwmCh → PwmCh) : (s.chMod n f).out = s.out := rfl
@[simp] theorem State.chMod_pending (s : State) (n : Nat) (f : PwmCh → PwmCh) : (s.chMod n f).pending = s.pending := rfl

/-! `lgMod` -/

@[simp] theorem State.lgMod_gt (s : State) (n : Nat) (f : LegGroup → LegGroup) : (s.lgMod n f).gt = s.gt := rfl
@[simp] theorem State.lgMod_variant (s : State) (n : Nat) (f : LegGroup → LegGroup) : (s.lgMod n f).variant = s.variant := rfl
@[simp] theorem State.lgMod_dev (s : State) (n : Nat) (f : LegGroup → LegGroup) : (s.lgMod n f).dev = s.dev := rfl
@[simp] theorem State.lgMod_regs (s : State) (n : Nat) (f : LegGroup → LegGroup) : (s.lgMod n f).regs = s.regs := rfl
@[simp] theorem State.lgMod_deferred (s : State) (n : Nat) (f : LegGroup → LegGroup) : (s.lgMod n f).deferred = s.deferred := rfl
@[simp] theorem State.lgMod_spareReqs (s : State) (n : Nat) (f : LegGroup → LegGroup) : (s.lgMod n f).spareReqs = s.spareReqs := rfl
@[simp] theorem State.lgMod_pan (s : State) (n : Nat) (f : LegGroup → LegGroup) : (s.lgMod n f).pan = s.pan := rfl
@[simp] theorem State.lgMod_tim (s : State) (n : Nat) (f : LegGroup → LegGroup) : (s.lgMod n f).tim = s.tim := rfl
@[simp] theorem State.lgMod_ana (s : State) (n : Nat) (f : LegGroup → LegGroup) : (s.lgMod n f).ana = s.ana := rfl
@[simp] theorem State.lgMod_cmp (s : State) (n : Nat) (f : LegGroup → LegGroup) : (s.lgMod n f).cmp = s.cmp := rfl
@[simp] theorem State.lgMod_gl (s : State) (n : Nat) (f : LegGroup → LegGroup) : (s.lgMod n f).gl = s.gl := rfl
@[simp] theorem State.lgMod_safe (s : State) (n : Nat) (f : LegGroup → LegGroup) : (s.lgMod n f).safe = s.safe := rfl
@[simp] theorem State.lgMod_log (s : State) (n : Nat) (f : LegGroup → LegGroup) : (s.lgMod n f).log = s.log := rfl
@[simp] theorem State.lgMod_pwr (s : State) (n : Nat) (f : LegGroup → LegGroup) : (s.lgMod n f).pwr = s.pwr := rfl
@[simp] theorem State.lgMod_ket (s : State) (n : Nat) (f : LegGroup → LegGroup) : (s.lgMod n f).ket = s.ket := rfl
@[simp] theorem State.lgMod_net (s : State) (n : Nat) (f : LegGroup → LegGroup) : (s.lgMod n f).net = s.net := rfl
@[simp] theorem State.lgMod_mtr (s : State) (n : Nat) (f : LegGroup → LegGroup) : (s.lgMod n f).mtr = s.mtr := rfl
@[simp] theorem State.lgMod_hop (s : State) (n : Nat) (f : LegGroup → LegGroup) : (s.lgMod n f).hop = s.hop := rfl
@[simp] theorem State.lgMod_law (s : State) (n : Nat) (f : LegGroup → LegGroup) : (s.lgMod n f).law = s.law := rfl
@[simp] theorem State.lgMod_sup (s : State) (n : Nat) (f : LegGroup → LegGroup) : (s.lgMod n f).sup = s.sup := rfl
@[simp] theorem State.lgMod_fw (s : State) (n : Nat) (f : LegGroup → LegGroup) : (s.lgMod n f).fw = s.fw := rfl
@[simp] theorem State.lgMod_mbx (s : State) (n : Nat) (f : LegGroup → LegGroup) : (s.lgMod n f).mbx = s.mbx := rfl
@[simp] theorem State.lgMod_pin (s : State) (n : Nat) (f : LegGroup → LegGroup) : (s.lgMod n f).pin = s.pin := rfl
@[simp] theorem State.lgMod_freeN (s : State) (n : Nat) (f : LegGroup → LegGroup) : (s.lgMod n f).freeN = s.freeN := rfl
@[simp] theorem State.lgMod_out (s : State) (n : Nat) (f : LegGroup → LegGroup) : (s.lgMod n f).out = s.out := rfl
@[simp] theorem State.lgMod_pending (s : State) (n : Nat) (f : LegGroup → LegGroup) : (s.lgMod n f).pending = s.pending := rfl

/-! `glMod` -/

@[simp] theorem State.glMod_gt (s : State) (n : Nat) (f : GlCh → GlCh) : (s.glMod n f).gt = s.gt := rfl
@[simp] theorem State.glMod_variant (s : State) (n : Nat) (f : GlCh → GlCh) : (s.glMod n f).variant = s.variant := rfl
@[simp] theorem State.glMod_dev (s : State) (n : Nat) (f : GlCh → GlCh) : (s.glMod n f).dev = s.dev := rfl
@[simp] theorem State.glMod_regs (s : State) (n : Nat) (f : GlCh → GlCh) : (s.glMod n f).regs = s.regs := rfl
@[simp] theorem State.glMod_deferred (s : State) (n : Nat) (f : GlCh → GlCh) : (s.glMod n f).deferred = s.deferred := rfl
@[simp] theorem State.glMod_spareReqs (s : State) (n : Nat) (f : GlCh → GlCh) : (s.glMod n f).spareReqs = s.spareReqs := rfl
@[simp] theorem State.glMod_pan (s : State) (n : Nat) (f : GlCh → GlCh) : (s.glMod n f).pan = s.pan := rfl
@[simp] theorem State.glMod_tim (s : State) (n : Nat) (f : GlCh → GlCh) : (s.glMod n f).tim = s.tim := rfl
@[simp] theorem State.glMod_ana (s : State) (n : Nat) (f : GlCh → GlCh) : (s.glMod n f).ana = s.ana := rfl
@[simp] theorem State.glMod_cmp (s : State) (n : Nat) (f : GlCh → GlCh) : (s.glMod n f).cmp = s.cmp := rfl
@[simp] theorem State.glMod_pwm (s : State) (n : Nat) (f : GlCh → GlCh) : (s.glMod n f).pwm = s.pwm := rfl
@[simp] theorem State.glMod_safe (s : State) (n : Nat) (f : GlCh → GlCh) : (s.glMod n f).safe = s.safe := rfl
@[simp] theorem State.glMod_log (s : State) (n : Nat) (f : GlCh → GlCh) : (s.glMod n f).log = s.log := rfl
@[simp] theorem State.glMod_pwr (s : State) (n : Nat) (f : GlCh → GlCh) : (s.glMod n f).pwr = s.pwr := rfl
@[simp] theorem State.glMod_ket (s : State) (n : Nat) (f : GlCh → GlCh) : (s.glMod n f).ket = s.ket := rfl
@[simp] theorem State.glMod_net (s : State) (n : Nat) (f : GlCh → GlCh) : (s.glMod n f).net = s.net := rfl
@[simp] theorem State.glMod_mtr (s : State) (n : Nat) (f : GlCh → GlCh) : (s.glMod n f).mtr = s.mtr := rfl
@[simp] theorem State.glMod_hop (s : State) (n : Nat) (f : GlCh → GlCh) : (s.glMod n f).hop = s.hop := rfl
@[simp] theorem State.glMod_law (s : State) (n : Nat) (f : GlCh → GlCh) : (s.glMod n f).law = s.law := rfl
@[simp] theorem State.glMod_sup (s : State) (n : Nat) (f : GlCh → GlCh) : (s.glMod n f).sup = s.sup := rfl
@[simp] theorem State.glMod_fw (s : State) (n : Nat) (f : GlCh → GlCh) : (s.glMod n f).fw = s.fw := rfl
@[simp] theorem State.glMod_mbx (s : State) (n : Nat) (f : GlCh → GlCh) : (s.glMod n f).mbx = s.mbx := rfl
@[simp] theorem State.glMod_pin (s : State) (n : Nat) (f : GlCh → GlCh) : (s.glMod n f).pin = s.pin := rfl
@[simp] theorem State.glMod_freeN (s : State) (n : Nat) (f : GlCh → GlCh) : (s.glMod n f).freeN = s.freeN := rfl
@[simp] theorem State.glMod_out (s : State) (n : Nat) (f : GlCh → GlCh) : (s.glMod n f).out = s.out := rfl
@[simp] theorem State.glMod_pending (s : State) (n : Nat) (f : GlCh → GlCh) : (s.glMod n f).pending = s.pending := rfl

/-! `safeMod` -/

@[simp] theorem State.safeMod_gt (s : State) (f : SafeState → SafeState) : (s.safeMod f).gt = s.gt := rfl
@[simp] theorem State.safeMod_variant (s : State) (f : SafeState → SafeState) : (s.safeMod f).variant = s.variant := rfl
@[simp] theorem State.safeMod_dev (s : State) (f : SafeState → SafeState) : (s.safeMod f).dev = s.dev := rfl
@[simp] theorem State.safeMod_regs (s : State) (f : SafeState → SafeState) : (s.safeMod f).regs = s.regs := rfl
@[simp] theorem State.safeMod_deferred (s : State) (f : SafeState → SafeState) : (s.safeMod f).deferred = s.deferred := rfl
@[simp] theorem State.safeMod_spareReqs (s : State) (f : SafeState → SafeState) : (s.safeMod f).spareReqs = s.spareReqs := rfl
@[simp] theorem State.safeMod_pan (s : State) (f : SafeState → SafeState) : (s.safeMod f).pan = s.pan := rfl
@[simp] theorem State.safeMod_tim (s : State) (f : SafeState → SafeState) : (s.safeMod f).tim = s.tim := rfl
@[simp] theorem State.safeMod_ana (s : State) (f : SafeState → SafeState) : (s.safeMod f).ana = s.ana := rfl
@[simp] theorem State.safeMod_cmp (s : State) (f : SafeState → SafeState) : (s.safeMod f).cmp = s.cmp := rfl
@[simp] theorem State.safeMod_pwm (s : State) (f : SafeState → SafeState) : (s.safeMod f).pwm = s.pwm := rfl
@[simp] theorem State.safeMod_gl (s : State) (f : SafeState → SafeState) : (s.safeMod f).gl = s.gl := rfl
@[simp] theorem State.safeMod_log (s : State) (f : SafeState → SafeState) : (s.safeMod f).log = s.log := rfl
@[simp] theorem State.safeMod_pwr (s : State) (f : SafeState → SafeState) : (s.safeMod f).pwr = s.pwr := rfl
@[simp] theorem State.safeMod_ket (s : State) (f : SafeState → SafeState) : (s.safeMod f).ket = s.ket := rfl
@[simp] theorem State.safeMod_net (s : State) (f : SafeState → SafeState) : (s.safeMod f).net = s.net := rfl
@[simp] theorem State.safeMod_mtr (s : State) (f : SafeState → SafeState) : (s.safeMod f).mtr = s.mtr := rfl
@[simp] theorem State.safeMod_hop (s : State) (f : SafeState → SafeState) : (s.safeMod f).hop = s.hop := rfl
@[simp] theorem State.safeMod_law (s : State) (f : SafeState → SafeState) : (s.safeMod f).law = s.law := rfl
@[simp] theorem State.safeMod_sup (s : State) (f : SafeState → SafeState) : (s.safeMod f).sup = s.sup := rfl
@[simp] theorem State.safeMod_fw (s : State) (f : SafeState → SafeState) : (s.safeMod f).fw = s.fw := rfl
@[simp] theorem State.safeMod_mbx (s : State) (f : SafeState → SafeState) : (s.safeMod f).mbx = s.mbx := rfl
@[simp] theorem State.safeMod_pin (s : State) (f : SafeState → SafeState) : (s.safeMod f).pin = s.pin := rfl
@[simp] theorem State.safeMod_freeN (s : State) (f : SafeState → SafeState) : (s.safeMod f).freeN = s.freeN := rfl
@[simp] theorem State.safeMod_out (s : State) (f : SafeState → SafeState) : (s.safeMod f).out = s.out := rfl
@[simp] theorem State.safeMod_pending (s : State) (f : SafeState → SafeState) : (s.safeMod f).pending = s.pending := rfl

/-! `supMod` -/

@[simp] theorem State.supMod_gt (s : State) (f : SupState → SupState) : (s.supMod f).gt = s.gt := rfl
@[simp] theorem State.supMod_variant (s : State) (f : SupState → SupState) : (s.supMod f).variant = s.variant := rfl
@[simp] theorem State.supMod_dev (s : State) (f : SupState → SupState) : (s.supMod f).dev = s.dev := rfl
@[simp] theorem State.supMod_regs (s : State) (f : SupState → SupState) : (s.supMod f).regs = s.regs := rfl
@[simp] theorem State.supMod_deferred (s : State) (f : SupState → SupState) : (s.supMod f).deferred = s.deferred := rfl
@[simp] theorem State.supMod_spareReqs (s : State) (f : SupState → SupState) : (s.supMod f).spareReqs = s.spareReqs := rfl
@[simp] theorem State.supMod_pan (s : State) (f : SupState → SupState) : (s.supMod f).pan = s.pan := rfl
@[simp] theorem State.supMod_tim (s : State) (f : SupState → SupState) : (s.supMod f).tim = s.tim := rfl
@[simp] theorem State.supMod_ana (s : State) (f : SupState → SupState) : (s.supMod f).ana = s.ana := rfl
@[simp] theorem State.supMod_cmp (s : State) (f : SupState → SupState) : (s.supMod f).cmp = s.cmp := rfl
@[simp] theorem State.supMod_pwm (s : State) (f : SupState → SupState) : (s.supMod f).pwm = s.pwm := rfl
@[simp] theorem State.supMod_gl (s : State) (f : SupState → SupState) : (s.supMod f).gl = s.gl := rfl
@[simp] theorem State.supMod_safe (s : State) (f : SupState → SupState) : (s.supMod f).safe = s.safe := rfl
@[simp] theorem State.supMod_log (s : State) (f : SupState → SupState) : (s.supMod f).log = s.log := rfl
@[simp] theorem State.supMod_pwr (s : State) (f : SupState → SupState) : (s.supMod f).pwr = s.pwr := rfl
@[simp] theorem State.supMod_ket (s : State) (f : SupState → SupState) : (s.supMod f).ket = s.ket := rfl
@[simp] theorem State.supMod_net (s : State) (f : SupState → SupState) : (s.supMod f).net = s.net := rfl
@[simp] theorem State.supMod_mtr (s : State) (f : SupState → SupState) : (s.supMod f).mtr = s.mtr := rfl
@[simp] theorem State.supMod_hop (s : State) (f : SupState → SupState) : (s.supMod f).hop = s.hop := rfl
@[simp] theorem State.supMod_law (s : State) (f : SupState → SupState) : (s.supMod f).law = s.law := rfl
@[simp] theorem State.supMod_fw (s : State) (f : SupState → SupState) : (s.supMod f).fw = s.fw := rfl
@[simp] theorem State.supMod_mbx (s : State) (f : SupState → SupState) : (s.supMod f).mbx = s.mbx := rfl
@[simp] theorem State.supMod_pin (s : State) (f : SupState → SupState) : (s.supMod f).pin = s.pin := rfl
@[simp] theorem State.supMod_freeN (s : State) (f : SupState → SupState) : (s.supMod f).freeN = s.freeN := rfl
@[simp] theorem State.supMod_out (s : State) (f : SupState → SupState) : (s.supMod f).out = s.out := rfl
@[simp] theorem State.supMod_pending (s : State) (f : SupState → SupState) : (s.supMod f).pending = s.pending := rfl

/-! `timMod` -/

@[simp] theorem State.timMod_gt (s : State) (f : TimeState → TimeState) : (s.timMod f).gt = s.gt := rfl
@[simp] theorem State.timMod_variant (s : State) (f : TimeState → TimeState) : (s.timMod f).variant = s.variant := rfl
@[simp] theorem State.timMod_dev (s : State) (f : TimeState → TimeState) : (s.timMod f).dev = s.dev := rfl
@[simp] theorem State.timMod_regs (s : State) (f : TimeState → TimeState) : (s.timMod f).regs = s.regs := rfl
@[simp] theorem State.timMod_deferred (s : State) (f : TimeState → TimeState) : (s.timMod f).deferred = s.deferred := rfl
@[simp] theorem State.timMod_spareReqs (s : State) (f : TimeState → TimeState) : (s.timMod f).spareReqs = s.spareReqs := rfl
@[simp] theorem State.timMod_pan (s : State) (f : TimeState → TimeState) : (s.timMod f).pan = s.pan := rfl
@[simp] theorem State.timMod_ana (s : State) (f : TimeState → TimeState) : (s.timMod f).ana = s.ana := rfl
@[simp] theorem State.timMod_cmp (s : State) (f : TimeState → TimeState) : (s.timMod f).cmp = s.cmp := rfl
@[simp] theorem State.timMod_pwm (s : State) (f : TimeState → TimeState) : (s.timMod f).pwm = s.pwm := rfl
@[simp] theorem State.timMod_gl (s : State) (f : TimeState → TimeState) : (s.timMod f).gl = s.gl := rfl
@[simp] theorem State.timMod_safe (s : State) (f : TimeState → TimeState) : (s.timMod f).safe = s.safe := rfl
@[simp] theorem State.timMod_log (s : State) (f : TimeState → TimeState) : (s.timMod f).log = s.log := rfl
@[simp] theorem State.timMod_pwr (s : State) (f : TimeState → TimeState) : (s.timMod f).pwr = s.pwr := rfl
@[simp] theorem State.timMod_ket (s : State) (f : TimeState → TimeState) : (s.timMod f).ket = s.ket := rfl
@[simp] theorem State.timMod_net (s : State) (f : TimeState → TimeState) : (s.timMod f).net = s.net := rfl
@[simp] theorem State.timMod_mtr (s : State) (f : TimeState → TimeState) : (s.timMod f).mtr = s.mtr := rfl
@[simp] theorem State.timMod_hop (s : State) (f : TimeState → TimeState) : (s.timMod f).hop = s.hop := rfl
@[simp] theorem State.timMod_law (s : State) (f : TimeState → TimeState) : (s.timMod f).law = s.law := rfl
@[simp] theorem State.timMod_sup (s : State) (f : TimeState → TimeState) : (s.timMod f).sup = s.sup := rfl
@[simp] theorem State.timMod_fw (s : State) (f : TimeState → TimeState) : (s.timMod f).fw = s.fw := rfl
@[simp] theorem State.timMod_mbx (s : State) (f : TimeState → TimeState) : (s.timMod f).mbx = s.mbx := rfl
@[simp] theorem State.timMod_pin (s : State) (f : TimeState → TimeState) : (s.timMod f).pin = s.pin := rfl
@[simp] theorem State.timMod_freeN (s : State) (f : TimeState → TimeState) : (s.timMod f).freeN = s.freeN := rfl
@[simp] theorem State.timMod_out (s : State) (f : TimeState → TimeState) : (s.timMod f).out = s.out := rfl
@[simp] theorem State.timMod_pending (s : State) (f : TimeState → TimeState) : (s.timMod f).pending = s.pending := rfl

/-! `pwrMod` -/

@[simp] theorem State.pwrMod_gt (s : State) (f : PowerState → PowerState) : (s.pwrMod f).gt = s.gt := rfl
@[simp] theorem State.pwrMod_variant (s : State) (f : PowerState → PowerState) : (s.pwrMod f).variant = s.variant := rfl
@[simp] theorem State.pwrMod_dev (s : State) (f : PowerState → PowerState) : (s.pwrMod f).dev = s.dev := rfl
@[simp] theorem State.pwrMod_regs (s : State) (f : PowerState → PowerState) : (s.pwrMod f).regs = s.regs := rfl
@[simp] theorem State.pwrMod_deferred (s : State) (f : PowerState → PowerState) : (s.pwrMod f).deferred = s.deferred := rfl
@[simp] theorem State.pwrMod_spareReqs (s : State) (f : PowerState → PowerState) : (s.pwrMod f).spareReqs = s.spareReqs := rfl
@[simp] theorem State.pwrMod_pan (s : State) (f : PowerState → PowerState) : (s.pwrMod f).pan = s.pan := rfl
@[simp] theorem State.pwrMod_tim (s : State) (f : PowerState → PowerState) : (s.pwrMod f).tim = s.tim := rfl
@[simp] theorem State.pwrMod_ana (s : State) (f : PowerState → PowerState) : (s.pwrMod f).ana = s.ana := rfl
@[simp] theorem State.pwrMod_cmp (s : State) (f : PowerState → PowerState) : (s.pwrMod f).cmp = s.cmp := rfl
@[simp] theorem State.pwrMod_pwm (s : State) (f : PowerState → PowerState) : (s.pwrMod f).pwm = s.pwm := rfl
@[simp] theorem State.pwrMod_gl (s : State) (f : PowerState → PowerState) : (s.pwrMod f).gl = s.gl := rfl
@[simp] theorem State.pwrMod_safe (s : State) (f : PowerState → PowerState) : (s.pwrMod f).safe = s.safe := rfl
@[simp] theorem State.pwrMod_log (s : State) (f : PowerState → PowerState) : (s.pwrMod f).log = s.log := rfl
@[simp] theorem State.pwrMod_ket (s : State) (f : PowerState → PowerState) : (s.pwrMod f).ket = s.ket := rfl
@[simp] theorem State.pwrMod_net (s : State) (f : PowerState → PowerState) : (s.pwrMod f).net = s.net := rfl
@[simp] theorem State.pwrMod_mtr (s : State) (f : PowerState → PowerState) : (s.pwrMod f).mtr = s.mtr := rfl
@[simp] theorem State.pwrMod_hop (s : State) (f : PowerState → PowerState) : (s.pwrMod f).hop = s.hop := rfl
@[simp] theorem State.pwrMod_law (s : State) (f : PowerState → PowerState) : (s.pwrMod f).law = s.law := rfl
@[simp] theorem State.pwrMod_sup (s : State) (f : PowerState → PowerState) : (s.pwrMod f).sup = s.sup := rfl
@[simp] theorem State.pwrMod_fw (s : State) (f : PowerState → PowerState) : (s.pwrMod f).fw = s.fw := rfl
@[simp] theorem State.pwrMod_mbx (s : State) (f : PowerState → PowerState) : (s.pwrMod f).mbx = s.mbx := rfl
@[simp] theorem State.pwrMod_pin (s : State) (f : PowerState → PowerState) : (s.pwrMod f).pin = s.pin := rfl
@[simp] theorem State.pwrMod_freeN (s : State) (f : PowerState → PowerState) : (s.pwrMod f).freeN = s.freeN := rfl
@[simp] theorem State.pwrMod_out (s : State) (f : PowerState → PowerState) : (s.pwrMod f).out = s.out := rfl
@[simp] theorem State.pwrMod_pending (s : State) (f : PowerState → PowerState) : (s.pwrMod f).pending = s.pending := rfl

/-! `logMod` -/

@[simp] theorem State.logMod_gt (s : State) (f : LogState → LogState) : (s.logMod f).gt = s.gt := rfl
@[simp] theorem State.logMod_variant (s : State) (f : LogState → LogState) : (s.logMod f).variant = s.variant := rfl
@[simp] theorem State.logMod_dev (s : State) (f : LogState → LogState) : (s.logMod f).dev = s.dev := rfl
@[simp] theorem State.logMod_regs (s : State) (f : LogState → LogState) : (s.logMod f).regs = s.regs := rfl
@[simp] theorem State.logMod_deferred (s : State) (f : LogState → LogState) : (s.logMod f).deferred = s.deferred := rfl
@[simp] theorem State.logMod_spareReqs (s : State) (f : LogState → LogState) : (s.logMod f).spareReqs = s.spareReqs := rfl
@[simp] theorem State.logMod_pan (s : State) (f : LogState → LogState) : (s.logMod f).pan = s.pan := rfl
@[simp] theorem State.logMod_tim (s : State) (f : LogState → LogState) : (s.logMod f).tim = s.tim := rfl
@[simp] theorem State.logMod_ana (s : State) (f : LogState → LogState) : (s.logMod f).ana = s.ana := rfl
@[simp] theorem State.logMod_cmp (s : State) (f : LogState → LogState) : (s.logMod f).cmp = s.cmp := rfl
@[simp] theorem State.logMod_pwm (s : State) (f : LogState → LogState) : (s.logMod f).pwm = s.pwm := rfl
@[simp] theorem State.logMod_gl (s : State) (f : LogState → LogState) : (s.logMod f).gl = s.gl := rfl
@[simp] theorem State.logMod_safe (s : State) (f : LogState → LogState) : (s.logMod f).safe = s.safe := rfl
@[simp] theorem State.logMod_pwr (s : State) (f : LogState → LogState) : (s.logMod f).pwr = s.pwr := rfl
@[simp] theorem State.logMod_ket (s : State) (f : LogState → LogState) : (s.logMod f).ket = s.ket := rfl
@[simp] theorem State.logMod_net (s : State) (f : LogState → LogState) : (s.logMod f).net = s.net := rfl
@[simp] theorem State.logMod_mtr (s : State) (f : LogState → LogState) : (s.logMod f).mtr = s.mtr := rfl
@[simp] theorem State.logMod_hop (s : State) (f : LogState → LogState) : (s.logMod f).hop = s.hop := rfl
@[simp] theorem State.logMod_law (s : State) (f : LogState → LogState) : (s.logMod f).law = s.law := rfl
@[simp] theorem State.logMod_sup (s : State) (f : LogState → LogState) : (s.logMod f).sup = s.sup := rfl
@[simp] theorem State.logMod_fw (s : State) (f : LogState → LogState) : (s.logMod f).fw = s.fw := rfl
@[simp] theorem State.logMod_mbx (s : State) (f : LogState → LogState) : (s.logMod f).mbx = s.mbx := rfl
@[simp] theorem State.logMod_pin (s : State) (f : LogState → LogState) : (s.logMod f).pin = s.pin := rfl
@[simp] theorem State.logMod_freeN (s : State) (f : LogState → LogState) : (s.logMod f).freeN = s.freeN := rfl
@[simp] theorem State.logMod_out (s : State) (f : LogState → LogState) : (s.logMod f).out = s.out := rfl
@[simp] theorem State.logMod_pending (s : State) (f : LogState → LogState) : (s.logMod f).pending = s.pending := rfl

/-! `netMod` -/

@[simp] theorem State.netMod_gt (s : State) (f : NetState → NetState) : (s.netMod f).gt = s.gt := rfl
@[simp] theorem State.netMod_variant (s : State) (f : NetState → NetState) : (s.netMod f).variant = s.variant := rfl
@[simp] theorem State.netMod_dev (s : State) (f : NetState → NetState) : (s.netMod f).dev = s.dev := rfl
@[simp] theorem State.netMod_regs (s : State) (f : NetState → NetState) : (s.netMod f).regs = s.regs := rfl
@[simp] theorem State.netMod_deferred (s : State) (f : NetState → NetState) : (s.netMod f).deferred = s.deferred := rfl
@[simp] theorem State.netMod_spareReqs (s : State) (f : NetState → NetState) : (s.netMod f).spareReqs = s.spareReqs := rfl
@[simp] theorem State.netMod_pan (s : State) (f : NetState → NetState) : (s.netMod f).pan = s.pan := rfl
@[simp] theorem State.netMod_tim (s : State) (f : NetState → NetState) : (s.netMod f).tim = s.tim := rfl
@[simp] theorem State.netMod_ana (s : State) (f : NetState → NetState) : (s.netMod f).ana = s.ana := rfl
@[simp] theorem State.netMod_cmp (s : State) (f : NetState → NetState) : (s.netMod f).cmp = s.cmp := rfl
@[simp] theorem State.netMod_pwm (s : State) (f : NetState → NetState) : (s.netMod f).pwm = s.pwm := rfl
@[simp] theorem State.netMod_gl (s : State) (f : NetState → NetState) : (s.netMod f).gl = s.gl := rfl
@[simp] theorem State.netMod_safe (s : State) (f : NetState → NetState) : (s.netMod f).safe = s.safe := rfl
@[simp] theorem State.netMod_log (s : State) (f : NetState → NetState) : (s.netMod f).log = s.log := rfl
@[simp] theorem State.netMod_pwr (s : State) (f : NetState → NetState) : (s.netMod f).pwr = s.pwr := rfl
@[simp] theorem State.netMod_ket (s : State) (f : NetState → NetState) : (s.netMod f).ket = s.ket := rfl
@[simp] theorem State.netMod_mtr (s : State) (f : NetState → NetState) : (s.netMod f).mtr = s.mtr := rfl
@[simp] theorem State.netMod_hop (s : State) (f : NetState → NetState) : (s.netMod f).hop = s.hop := rfl
@[simp] theorem State.netMod_law (s : State) (f : NetState → NetState) : (s.netMod f).law = s.law := rfl
@[simp] theorem State.netMod_sup (s : State) (f : NetState → NetState) : (s.netMod f).sup = s.sup := rfl
@[simp] theorem State.netMod_fw (s : State) (f : NetState → NetState) : (s.netMod f).fw = s.fw := rfl
@[simp] theorem State.netMod_mbx (s : State) (f : NetState → NetState) : (s.netMod f).mbx = s.mbx := rfl
@[simp] theorem State.netMod_pin (s : State) (f : NetState → NetState) : (s.netMod f).pin = s.pin := rfl
@[simp] theorem State.netMod_freeN (s : State) (f : NetState → NetState) : (s.netMod f).freeN = s.freeN := rfl
@[simp] theorem State.netMod_out (s : State) (f : NetState → NetState) : (s.netMod f).out = s.out := rfl
@[simp] theorem State.netMod_pending (s : State) (f : NetState → NetState) : (s.netMod f).pending = s.pending := rfl

/-! `mtrMod` -/

@[simp] theorem State.mtrMod_gt (s : State) (n : Nat) (f : MtrPoint → MtrPoint) : (s.mtrMod n f).gt = s.gt := rfl
@[simp] theorem State.mtrMod_variant (s : State) (n : Nat) (f : MtrPoint → MtrPoint) : (s.mtrMod n f).variant = s.variant := rfl
@[simp] theorem State.mtrMod_dev (s : State) (n : Nat) (f : MtrPoint → MtrPoint) : (s.mtrMod n f).dev = s.dev := rfl
@[simp] theorem State.mtrMod_regs (s : State) (n : Nat) (f : MtrPoint → MtrPoint) : (s.mtrMod n f).regs = s.regs := rfl
@[simp] theorem State.mtrMod_deferred (s : State) (n : Nat) (f : MtrPoint → MtrPoint) : (s.mtrMod n f).deferred = s.deferred := rfl
@[simp] theorem State.mtrMod_spareReqs (s : State) (n : Nat) (f : MtrPoint → MtrPoint) : (s.mtrMod n f).spareReqs = s.spareReqs := rfl
@[simp] theorem State.mtrMod_pan (s : State) (n : Nat) (f : MtrPoint → MtrPoint) : (s.mtrMod n f).pan = s.pan := rfl
@[simp] theorem State.mtrMod_tim (s : State) (n : Nat) (f : MtrPoint → MtrPoint) : (s.mtrMod n f).tim = s.tim := rfl
@[simp] theorem State.mtrMod_ana (s : State) (n : Nat) (f : MtrPoint → MtrPoint) : (s.mtrMod n f).ana = s.ana := rfl
@[simp] theorem State.mtrMod_cmp (s : State) (n : Nat) (f : MtrPoint → MtrPoint) : (s.mtrMod n f).cmp = s.cmp := rfl
@[simp] theorem State.mtrMod_pwm (s : State) (n : Nat) (f : MtrPoint → MtrPoint) : (s.mtrMod n f).pwm = s.pwm := rfl
@[simp] theorem State.mtrMod_gl (s : State) (n : Nat) (f : MtrPoint → MtrPoint) : (s.mtrMod n f).gl = s.gl := rfl
@[simp] theorem State.mtrMod_safe (s : State) (n : Nat) (f : MtrPoint → MtrPoint) : (s.mtrMod n f).safe = s.safe := rfl
@[simp] theorem State.mtrMod_log (s : State) (n : Nat) (f : MtrPoint → MtrPoint) : (s.mtrMod n f).log = s.log := rfl
@[simp] theorem State.mtrMod_pwr (s : State) (n : Nat) (f : MtrPoint → MtrPoint) : (s.mtrMod n f).pwr = s.pwr := rfl
@[simp] theorem State.mtrMod_ket (s : State) (n : Nat) (f : MtrPoint → MtrPoint) : (s.mtrMod n f).ket = s.ket := rfl
@[simp] theorem State.mtrMod_net (s : State) (n : Nat) (f : MtrPoint → MtrPoint) : (s.mtrMod n f).net = s.net := rfl
@[simp] theorem State.mtrMod_hop (s : State) (n : Nat) (f : MtrPoint → MtrPoint) : (s.mtrMod n f).hop = s.hop := rfl
@[simp] theorem State.mtrMod_law (s : State) (n : Nat) (f : MtrPoint → MtrPoint) : (s.mtrMod n f).law = s.law := rfl
@[simp] theorem State.mtrMod_sup (s : State) (n : Nat) (f : MtrPoint → MtrPoint) : (s.mtrMod n f).sup = s.sup := rfl
@[simp] theorem State.mtrMod_fw (s : State) (n : Nat) (f : MtrPoint → MtrPoint) : (s.mtrMod n f).fw = s.fw := rfl
@[simp] theorem State.mtrMod_mbx (s : State) (n : Nat) (f : MtrPoint → MtrPoint) : (s.mtrMod n f).mbx = s.mbx := rfl
@[simp] theorem State.mtrMod_pin (s : State) (n : Nat) (f : MtrPoint → MtrPoint) : (s.mtrMod n f).pin = s.pin := rfl
@[simp] theorem State.mtrMod_freeN (s : State) (n : Nat) (f : MtrPoint → MtrPoint) : (s.mtrMod n f).freeN = s.freeN := rfl
@[simp] theorem State.mtrMod_out (s : State) (n : Nat) (f : MtrPoint → MtrPoint) : (s.mtrMod n f).out = s.out := rfl
@[simp] theorem State.mtrMod_pending (s : State) (n : Nat) (f : MtrPoint → MtrPoint) : (s.mtrMod n f).pending = s.pending := rfl

/-! `bankMod` -/

@[simp] theorem State.bankMod_gt (s : State) (n : Nat) (f : RecBank → RecBank) : (s.bankMod n f).gt = s.gt := rfl
@[simp] theorem State.bankMod_variant (s : State) (n : Nat) (f : RecBank → RecBank) : (s.bankMod n f).variant = s.variant := rfl
@[simp] theorem State.bankMod_dev (s : State) (n : Nat) (f : RecBank → RecBank) : (s.bankMod n f).dev = s.dev := rfl
@[simp] theorem State.bankMod_regs (s : State) (n : Nat) (f : RecBank → RecBank) : (s.bankMod n f).regs = s.regs := rfl
@[simp] theorem State.bankMod_deferred (s : State) (n : Nat) (f : RecBank → RecBank) : (s.bankMod n f).deferred = s.deferred := rfl
@[simp] theorem State.bankMod_spareReqs (s : State) (n : Nat) (f : RecBank → RecBank) : (s.bankMod n f).spareReqs = s.spareReqs := rfl
@[simp] theorem State.bankMod_pan (s : State) (n : Nat) (f : RecBank → RecBank) : (s.bankMod n f).pan = s.pan := rfl
@[simp] theorem State.bankMod_tim (s : State) (n : Nat) (f : RecBank → RecBank) : (s.bankMod n f).tim = s.tim := rfl
@[simp] theorem State.bankMod_ana (s : State) (n : Nat) (f : RecBank → RecBank) : (s.bankMod n f).ana = s.ana := rfl
@[simp] theorem State.bankMod_cmp (s : State) (n : Nat) (f : RecBank → RecBank) : (s.bankMod n f).cmp = s.cmp := rfl
@[simp] theorem State.bankMod_pwm (s : State) (n : Nat) (f : RecBank → RecBank) : (s.bankMod n f).pwm = s.pwm := rfl
@[simp] theorem State.bankMod_gl (s : State) (n : Nat) (f : RecBank → RecBank) : (s.bankMod n f).gl = s.gl := rfl
@[simp] theorem State.bankMod_safe (s : State) (n : Nat) (f : RecBank → RecBank) : (s.bankMod n f).safe = s.safe := rfl
@[simp] theorem State.bankMod_log (s : State) (n : Nat) (f : RecBank → RecBank) : (s.bankMod n f).log = s.log := rfl
@[simp] theorem State.bankMod_pwr (s : State) (n : Nat) (f : RecBank → RecBank) : (s.bankMod n f).pwr = s.pwr := rfl
@[simp] theorem State.bankMod_ket (s : State) (n : Nat) (f : RecBank → RecBank) : (s.bankMod n f).ket = s.ket := rfl
@[simp] theorem State.bankMod_net (s : State) (n : Nat) (f : RecBank → RecBank) : (s.bankMod n f).net = s.net := rfl
@[simp] theorem State.bankMod_mtr (s : State) (n : Nat) (f : RecBank → RecBank) : (s.bankMod n f).mtr = s.mtr := rfl
@[simp] theorem State.bankMod_law (s : State) (n : Nat) (f : RecBank → RecBank) : (s.bankMod n f).law = s.law := rfl
@[simp] theorem State.bankMod_sup (s : State) (n : Nat) (f : RecBank → RecBank) : (s.bankMod n f).sup = s.sup := rfl
@[simp] theorem State.bankMod_fw (s : State) (n : Nat) (f : RecBank → RecBank) : (s.bankMod n f).fw = s.fw := rfl
@[simp] theorem State.bankMod_mbx (s : State) (n : Nat) (f : RecBank → RecBank) : (s.bankMod n f).mbx = s.mbx := rfl
@[simp] theorem State.bankMod_pin (s : State) (n : Nat) (f : RecBank → RecBank) : (s.bankMod n f).pin = s.pin := rfl
@[simp] theorem State.bankMod_freeN (s : State) (n : Nat) (f : RecBank → RecBank) : (s.bankMod n f).freeN = s.freeN := rfl
@[simp] theorem State.bankMod_out (s : State) (n : Nat) (f : RecBank → RecBank) : (s.bankMod n f).out = s.out := rfl
@[simp] theorem State.bankMod_pending (s : State) (n : Nat) (f : RecBank → RecBank) : (s.bankMod n f).pending = s.pending := rfl

/-! The parts that they change -/

@[simp] theorem State.setReg_regs (s : State) (a : Nat) (v : Word) : (s.setReg a v).regs = s.regs.put regReset a v := rfl
@[simp] theorem State.freeStep_freeN (s : State) : s.freeStep.freeN = s.freeN + 1 := rfl
@[simp] theorem State.give_value (s : State) (v : Word) : (s.give v).out.value = v := rfl
@[simp] theorem State.withPending_pending (s : State) (q : List Instr) : (s.withPending q).pending = q := rfl
@[simp] theorem State.timMod_tim (s : State) (f : TimeState → TimeState) : (s.timMod f).tim = f s.tim := rfl
@[simp] theorem State.pwrMod_pwr (s : State) (f : PowerState → PowerState) : (s.pwrMod f).pwr = f s.pwr := rfl
@[simp] theorem State.logMod_log (s : State) (f : LogState → LogState) : (s.logMod f).log = f s.log := rfl
@[simp] theorem State.netMod_net (s : State) (f : NetState → NetState) : (s.netMod f).net = f s.net := rfl
@[simp] theorem State.safeMod_safe (s : State) (f : SafeState → SafeState) : (s.safeMod f).safe = f s.safe := rfl
@[simp] theorem State.supMod_sup (s : State) (f : SupState → SupState) : (s.supMod f).sup = f s.sup := rfl

end Sys2Proof.Machine
end

