-- ==== Sys2Proof/Laws/Store.lean ====
section
/-!
SUPPORT. The sparse memories and tables: a read after a write, and that every operation keeps the canonical form.
-/
namespace Sys2Proof

variable {w : Nat} {d : Nat → BitVec w}

/-- Every listed key lies above `a`. -/
def Store.above (m : Store w) (a : Nat) : Prop := ∀ e ∈ m, a < e.1

theorem Store.get_of_above : ∀ {m : Store w} {a : Nat}, Store.above m a → Store.get d m a = d a
  | [], _, _ => rfl
  | (k, v) :: r, a, h => by
    have hk : a < k := h (k, v) (by simp)
    have hr : Store.above r a := fun e he => h e (by simp [he])
    simp [Store.get, Nat.ne_of_gt hk, Store.get_of_above hr]

/-- The canonical form, entry by entry. -/
theorem Store.wf_cons (k : Nat) (v : BitVec w) (r : Store w) :
    Store.wf d ((k, v) :: r) = true ↔ v ≠ d k ∧ Store.above r k ∧ Store.wf d r = true := by
  induction r generalizing k v with
  | nil => simp [Store.wf, Store.above]
  | cons e r ih =>
    obtain ⟨j, x⟩ := e
    constructor
    · intro h
      simp only [Store.wf, Bool.and_eq_true, decide_eq_true_eq] at h
      have hw : Store.wf d ((j, x) :: r) = true := by simp [Store.wf, h.2]
      refine ⟨h.1.1, ?_, hw⟩
      intro e he
      rcases List.mem_cons.1 he with rfl | he
      · exact h.1.2
      · exact Nat.lt_trans h.1.2 (((ih j x).1 hw).2.1 e he)
    · rintro ⟨hv, ha, hw⟩
      have := ha (j, x) (by simp)
      simp only [Store.wf, Bool.and_eq_true, decide_eq_true_eq] at hw ⊢
      exact ⟨⟨hv, this⟩, hw⟩

theorem Store.above_put : ∀ {m : Store w} {a b : Nat} {v : BitVec w}, Store.above m a → a < b → Store.above (Store.put d m b v) a
  | [], a, b, v, _, hb => by
    intro e he
    simp only [Store.put] at he
    split at he <;> simp at he
    rw [he]; exact hb
  | (k, x) :: r, a, b, v, h, hb => by
    have hk : a < k := h (k, x) (by simp)
    have hr : Store.above r a := fun e he => h e (by simp [he])
    intro e he
    simp only [Store.put] at he
    split at he
    · split at he
      · exact h e he
      · rcases List.mem_cons.1 he with rfl | he
        · exact hb
        · exact h e he
    · split at he
      · split at he
        · exact hr e he
        · rcases List.mem_cons.1 he with rfl | he
          · exact hb
          · exact hr e he
      · rcases List.mem_cons.1 he with rfl | he
        · exact hk
        · exact Store.above_put hr hb e he

/-- A write keeps the canonical form. -/
theorem Store.put_wf : ∀ {m : Store w} {a : Nat} {v : BitVec w}, Store.wf d m = true → Store.wf d (Store.put d m a v) = true
  | [], a, v, _ => by
    simp only [Store.put]; split
    · rfl
    · simp [Store.wf, *]
  | (k, x) :: r, a, v, h => by
    obtain ⟨hx, ha, hr⟩ := (Store.wf_cons k x r).1 h
    simp only [Store.put]
    split
    · split
      · exact h
      · refine (Store.wf_cons _ _ _).2 ⟨‹_›, ?_, h⟩
        intro e he
        rcases List.mem_cons.1 he with rfl | he
        · assumption
        · exact Nat.lt_trans ‹a < k› (ha e he)
    · split
      · next heq =>
        subst heq
        split
        · exact hr
        · exact (Store.wf_cons _ _ _).2 ⟨‹_›, ha, hr⟩
      · exact (Store.wf_cons _ _ _).2 ⟨hx, Store.above_put ha (by omega), Store.put_wf hr⟩

/-- Dropping entries keeps the canonical form. -/
theorem Store.filter_wf (p : Nat × BitVec w → Bool) : ∀ {m : Store w}, Store.wf d m = true → Store.wf d (m.filter p) = true
  | [], _ => rfl
  | (k, x) :: r, h => by
    obtain ⟨hx, ha, hr⟩ := (Store.wf_cons k x r).1 h
    rw [List.filter_cons]
    split
    · exact (Store.wf_cons _ _ _).2 ⟨hx, fun e he => ha e (List.mem_of_mem_filter he), Store.filter_wf p hr⟩
    · exact Store.filter_wf p hr

/-- A read of the word just written. -/
@[simp] theorem Store.get_put_same : ∀ (m : Store w) (a : Nat) (v : BitVec w), Store.wf d m = true → Store.get d (Store.put d m a v) a = v
  | [], a, v, _ => by simp only [Store.put]; split <;> simp [Store.get, *]
  | (k, x) :: r, a, v, h => by
    obtain ⟨hx, ha, hr⟩ := (Store.wf_cons k x r).1 h
    simp only [Store.put]
    split
    · next hlt =>
      have hab : Store.above ((k, x) :: r) a := by
        intro e he
        rcases List.mem_cons.1 he with rfl | he
        · exact hlt
        · exact Nat.lt_trans hlt (ha e he)
      split
      · next hv => rw [Store.get_of_above hab, hv]
      · simp [Store.get]
    · split
      · next heq =>
        subst heq
        split
        · next hv => rw [Store.get_of_above ha, hv]
        · simp [Store.get]
      · next hne => simp [Store.get, Ne.symm hne, Store.get_put_same r a v hr]

/-- A read of any other word. -/
theorem Store.get_put_ne : ∀ (m : Store w) {a b : Nat} (v : BitVec w), Store.wf d m = true → b ≠ a →
    Store.get d (Store.put d m a v) b = Store.get d m b
  | [], a, b, v, _, h => by simp only [Store.put]; split <;> simp [Store.get, Ne.symm h]
  | (k, x) :: r, a, b, v, hw, h => by
    obtain ⟨hx, ha, hr⟩ := (Store.wf_cons k x r).1 hw
    simp only [Store.put]
    split
    · split
      · rfl
      · simp [Store.get, Ne.symm h]
    · split
      · next heq =>
        subst heq
        split <;> simp [Store.get, Ne.symm h]
      · simp only [Store.get]
        split
        · rfl
        · exact Store.get_put_ne r v hr h

theorem KMap.find_put_same {α : Type} : ∀ (m : KMap α) (a : Nat) (v : α), KMap.find (KMap.put m a v) a = some v
  | [], a, v => by simp [KMap.put, KMap.find]
  | (k, x) :: r, a, v => by
    simp only [KMap.put]
    split
    · simp [KMap.find]
    · split
      · simp [KMap.find]
      · next hne => simp [KMap.find, Ne.symm hne, KMap.find_put_same r a v]

theorem KMap.find_put_ne {α : Type} : ∀ (m : KMap α) {a b : Nat} (v : α), b ≠ a → KMap.find (KMap.put m a v) b = KMap.find m b
  | [], a, b, v, h => by simp [KMap.put, KMap.find, Ne.symm h]
  | (k, x) :: r, a, b, v, h => by
    simp only [KMap.put]
    split
    · simp [KMap.find, Ne.symm h]
    · split
      · next heq => subst heq; simp [KMap.find, Ne.symm h]
      · simp only [KMap.find]; split
        · rfl
        · exact KMap.find_put_ne r v h

end Sys2Proof
end

