-- ==== Sys2Proof/Safety.lean ====
section
/-!
DEFINITION. What a sound state and a safe run are, in the terms that the claims use.
-/
namespace Sys2Proof.Machine

/-- The register file is in its canonical form: keys rising, no word equal to its reset value. -/
def State.regsOk (s : State) : Bool := Store.wf regReset s.regs

/-- The committed bank and the FRESH bits are in their canonical forms. -/
def State.panOk (s : State) : Bool := Store.wf zeroes s.pan.committed && Store.wf zeroes s.pan.fresh

/-- The data memory of every binding is in its canonical form. -/
def State.dataOk (s : State) : Bool := s.ket.bind.all (fun x => Store.wf zeroes x.data)

/-- A state whose memories are all in canonical form. -/
def State.canon (s : State) : Bool := s.regsOk && s.panOk && s.dataOk

/-- Every unit that the spec numbers is there: the tables of the state have the lengths that the chapters give them. -/
def State.sized (s : State) : Bool :=
  s.pan.breach.length == 6 && s.tim.outOfRange.length == 10 && s.ana.cores.length == 8 && s.ana.sdf.length == 48 &&
    s.ana.atmr.length == 4 && s.cmp.cmps.length == 64 && s.ket.bind.length == 12 && s.pwm.chs.length == 192 && s.pwm.lgs.length == 32 &&
    s.gl.chs.length == 192 && s.gl.shoot.length == 32 && s.safe.spoAt.length == 12 && s.safe.offDone.length == 12 &&
    s.safe.sin.length == 8 && s.safe.sout.length == 4 && s.safe.rx.length == 8 && s.safe.txSeq.length == 8 && s.safe.txAt.length == 8 &&
    s.safe.txLast.length == 8 && s.safe.limits.length == 12 && s.safe.fmon.length == 12 && s.net.files.length == 4 &&
    s.net.ptp.length == 2 && s.net.sv.length == 16 && s.net.pub.length == 4 && s.net.goSub.length == 64 && s.net.goPub.length == 16 &&
    s.mtr.pts.length == 4 && s.mtr.pls.length == 8 && s.mtr.mcnt.length == 4 && s.hop.banks.length == 16 && s.hop.tracks.length == 64 &&
    s.mbx.wait.length == 4 && s.mbx.phases.length == 4 && s.mbx.keys.length == 4 && s.fw.slots.length == 2 && s.fw.commits.length == 2 &&
    s.fw.copies.length == 2 && s.ket.bind.all (fun x => x.banks.length == 2 && x.run.acc.length == 4)

/-- The invariant of the block: the register file in canonical form, and every table at its length. -/
def State.inv (s : State) : Bool := s.regsOk && s.sized

/-- A step that answers a next state: no engine met an undefined code. -/
def stepsOn (s : State) : Prop := ∃ t, step s = .next t

/-- The parts of the state. -/
inductive Part where
  | gt | variant | dev | regs | deferred | spareReqs | pan | tim | ana | cmp | pwm | gl | safe | log | pwr | ket | net | mtr | hop | law | sup | fw | mbx | pin | freeN | out | pending
  deriving DecidableEq, Repr

/-- `t` has every part of `s` but those of `may`. -/
def State.keeps (s t : State) (may : List Part) : Prop :=
  (.gt ∈ may ∨ t.gt = s.gt) ∧
  (.variant ∈ may ∨ t.variant = s.variant) ∧
  (.dev ∈ may ∨ t.dev = s.dev) ∧
  (.regs ∈ may ∨ t.regs = s.regs) ∧
  (.deferred ∈ may ∨ t.deferred = s.deferred) ∧
  (.spareReqs ∈ may ∨ t.spareReqs = s.spareReqs) ∧
  (.pan ∈ may ∨ t.pan = s.pan) ∧
  (.tim ∈ may ∨ t.tim = s.tim) ∧
  (.ana ∈ may ∨ t.ana = s.ana) ∧
  (.cmp ∈ may ∨ t.cmp = s.cmp) ∧
  (.pwm ∈ may ∨ t.pwm = s.pwm) ∧
  (.gl ∈ may ∨ t.gl = s.gl) ∧
  (.safe ∈ may ∨ t.safe = s.safe) ∧
  (.log ∈ may ∨ t.log = s.log) ∧
  (.pwr ∈ may ∨ t.pwr = s.pwr) ∧
  (.ket ∈ may ∨ t.ket = s.ket) ∧
  (.net ∈ may ∨ t.net = s.net) ∧
  (.mtr ∈ may ∨ t.mtr = s.mtr) ∧
  (.hop ∈ may ∨ t.hop = s.hop) ∧
  (.law ∈ may ∨ t.law = s.law) ∧
  (.sup ∈ may ∨ t.sup = s.sup) ∧
  (.fw ∈ may ∨ t.fw = s.fw) ∧
  (.mbx ∈ may ∨ t.mbx = s.mbx) ∧
  (.pin ∈ may ∨ t.pin = s.pin) ∧
  (.freeN ∈ may ∨ t.freeN = s.freeN) ∧
  (.out ∈ may ∨ t.out = s.out) ∧
  (.pending ∈ may ∨ t.pending = s.pending)

/-- The parts that setting sticky bits and writing records can change. -/
def logParts : List Part := [.regs, .log, .mbx, .out]

/-- Every register but those of `may` reads in `t` as in `s`. -/
def State.sameRegs (s t : State) (may : List Nat) : Prop := ∀ a, a ∉ may → t.reg a = s.reg a

/-- The engine of binding `b` has gone on by one instruction of `cost` cycles, and no other binding has changed (R175, R177). -/
def State.engineMoves (s t : State) (b : Fin 12) (cost : Nat) : Prop :=
  (t.bd b).run.cyc = (s.bd b).run.cyc + cost ∧
    ((t.bd b).run.pc, (t.bd b).run.loops) = loopNext ((s.bd b).run.pc + 1) (s.bd b).run.loops ∧ ∀ k, k ≠ b.val → t.bd k = s.bd k

/-- What an instruction whose predicate does not hold leaves (R176). -/
def State.idles (s t : State) (b : Fin 12) : Prop :=
  s.keeps t [.ket] ∧ (t.bd b).data = (s.bd b).data ∧ (t.bd b).banks = (s.bd b).banks ∧ (t.bd b).run.flags = (s.bd b).run.flags ∧
    (t.bd b).run.acc = (s.bd b).run.acc

/-- The accumulators and flags of binding `b` are as before, and so is every word of its data memory but those of `may`. -/
def State.wordsBut (s t : State) (b : Fin 12) (may : Nat → Prop) : Prop :=
  (t.bd b).run.acc = (s.bd b).run.acc ∧ (t.bd b).run.flags = (s.bd b).run.flags ∧ ∀ a, ¬ may a → (t.bd b).word a = (s.bd b).word a

/-- The instruction `w` of binding `b` costs `cost` cycles; where its predicate holds it does `eff`, changing no part of the state but `may`. -/
def State.wordDoes (s : State) (b : Fin 12) (i : Instr) (h : KHead) (cost : Nat) (may : List Part) (eff : State → Prop) : Prop :=
  ∃ t, exec i s = .next t ∧ s.engineMoves t b cost ∧ s.keeps t may ∧ ((s.bd b).takes h = true → eff t) ∧
    ((s.bd b).takes h = false → s.idles t b)

/-- An exact value in units of a stage's mantissa, rounded once, and the mantissa that it leaves there (R140, R143). -/
def Binding.rounded (x : Binding) (sd : Nat) (v : Dy) : Int := shiftRound v.m (v.e - (x.stage sd).exp + 23)
def Binding.mantOf (x : Binding) (sd : Nat) (v : Dy) : Int := satTo 24 (x.rounded sd v)

/-- A raw word takes a function of two raw words, and nothing else of the binding changes (R183). -/
def rawClause (mk : Fin 12 → KHead → KW → Instr) (op : Nat) (g : KW → Word → Word → Word) : Prop :=
  ∀ (b : Fin 12) (h : KHead) (f : KW) (s : State), s.inv = true → s.dataOk = true → (s.bd b).atWord (encW op h f) = true →
    s.wordDoes b (mk b h f) h 1 [.ket] (fun t =>
      (t.bd b).word f.wd.val = g f ((s.bd b).word f.wa.val) ((s.bd b).word f.wb.val) ∧ s.wordsBut t b (fun a => a = f.wd.val))

/-- The second operand of element `i`: element EB where the word has BCB, element `i` of SB otherwise (R185). -/
def Binding.second (x : Binding) (h : KHead) (f : KS) (bcast : Bool) (i : Nat) : Dy :=
  if bcast && f.bcb then x.elem f.sb.val (f.eb.val + x.jval h) else x.elem f.sb.val i

/-- An element-wise instruction: element `i` of stage SD takes the function of the old elements, and a result that does not fit sets the
stage's sticky bit (R143, R145, R187). -/
def vecClause (mk : Fin 12 → KHead → KS → Instr) (op : Nat) (bcast : Bool) (g : Dy → Dy → Dy) : Prop :=
  ∀ (b : Fin 12) (h : KHead) (f : KS) (s : State), s.inv = true → s.dataOk = true → (s.bd b).atWord (encS op h f) = true →
    s.wordDoes b (mk b h f) h ((((s.bd b).stage f.sd.val).len + 3) / 4) (.ket :: logParts) (fun t =>
      let n := ((s.bd b).stage f.sd.val).len
      let v := fun i => g ((s.bd b).elem f.sa.val i) ((s.bd b).second h f bcast i)
      (∀ i, i < n → (t.bd b).mant f.sd.val i = (s.bd b).mantOf f.sd.val (v i)) ∧
      ((∃ i, i < n ∧ (s.bd b).mantOf f.sd.val (v i) ≠ (s.bd b).rounded f.sd.val (v i)) → t.stuck (Stk.KET_SAT b) = true) ∧
      s.wordsBut t b (fun a => ((s.bd b).stage f.sd.val).base ≤ a ∧ a < ((s.bd b).stage f.sd.val).base + n))

/-- An instruction that writes element ED of stage SD (R140, R143). -/
def State.elemIs (s t : State) (b : Fin 12) (sd e : Nat) (v : Dy) : Prop :=
  (t.bd b).mant sd e = (s.bd b).mantOf sd v ∧ s.wordsBut t b (fun a => a = ((s.bd b).stage sd).base + e)

/-- The registers that a full log queue changes (R498). -/
def logRegs : List Nat := [Reg.LOG_DROPCNT, Stk.LOG_QOVR.reg]

/-! ## Commands of the host -/

/-- The completion of command `c` (R431). -/
def MCmd.comp (c : MCmd) (tag status : Nat) (result : Word := 0#32) (dlen cidx : Nat := 0) (v0 v1 : Word := 0#32) : MComp :=
  { tag := tag, q := c.q, status := status, sqidx := c.sqidx, result := result, dlen := dlen, cidx := cidx, v0 := v0, v1 := v1 }

/-- Command `c` waits under its tag, may start in time, and its completion ring has room (R425, R427, R429, R446); the transfer buffer
is in canonical form. -/
def State.awaits (s : State) (tag : Nat) (c : MCmd) : Prop :=
  s.inv = true ∧ KMap.wf s.mbx.cmds = true ∧ s.mbx.cmds.find tag = some c ∧ c.dropped = false ∧ s.canStart c = true ∧ s.startLate c = false ∧
    s.mbx.wait.at c.q = [] ∧ s.cqFull c.q = false ∧ Store.wf zeroes s.mbx.buf = true

/-- Beside that, it is the command `opc`, and it passes the checks of its descriptor and of the device's state (R433, R436). -/
def State.runs (s : State) (tag opc : Nat) (c : MCmd) : Prop :=
  s.awaits tag c ∧ c.opc = opc ∧ ∃ i, opInfo opc = some i ∧ c.err i s.mbx.qspi = none ∧ s.cmdBusy c i = false

/-- The state in which command `c` has started and nothing else has happened. -/
def State.begun (s : State) (tag : Nat) (c : MCmd) : State :=
  { s with mbx := { s.mbx with cmds := s.mbx.cmds.put tag { c with started := true } } }

/-- The newest entry of its ring is this completion, in the phase of its pass; its tag is free again (R428, R431). -/
def State.completed (t : State) (m : MComp) : Prop :=
  t.mbx.cmds.find m.tag = none ∧ t.tagOut m.tag = false ∧
    (let e := (t.fld (Reg.MBX_CQTAIL m.q) F.MBX_CQTAIL_TAIL + 63) % 64
     ∀ i, i < 8 → t.reg (cqBase m.q + 32 * e + 4 * i) = (m.words (t.mbx.phases.at m.q != (e == 63))).getD i 0#32)

/-- Beside `may` and the registers `regs`, only the completion of `c` has changed: its ring, the ring's tail and the outstanding tags; no other
command, no session and no key. -/
def State.endsOnly (s t : State) (tag : Nat) (c : MCmd) (may : List Part) (regs : Nat → Prop) : Prop :=
  s.keeps t (.regs :: .mbx :: .out :: may) ∧
    (∀ a, ¬ regs a → a ≠ Reg.MBX_CQTAIL c.q → a ≠ Reg.MBX_OUTST_LO → a ≠ Reg.MBX_OUTST_HI → (a < cqBase c.q ∨ cqBase c.q + 2048 ≤ a) →
      t.reg a = s.reg a) ∧
    (∀ k, k ≠ tag → t.mbx.cmds.find k = s.mbx.cmds.find k) ∧ t.mbx.keys = s.mbx.keys ∧ t.mbx.sesId = s.mbx.sesId ∧ t.mbx.sesEnd = s.mbx.sesEnd ∧
    t.mbx.chal = s.mbx.chal

/-- A command that changes nothing but its own end. -/
def State.justEnds (s t : State) (tag : Nat) (c : MCmd) : Prop := s.endsOnly t tag c [] (fun _ => False)

/-- The bytes stand in the output block of command `c` (R430): in the transfer buffer, or as a block written to the host's memory. -/
def State.gave (s t : State) (c : MCmd) (bs : List Byte) : Prop :=
  (c.inBuf = true → t.bufBytes c.off bs.length = bs) ∧ (c.inBuf = false → t.out.dma = s.out.dma ++ [(c.addr.toNat, bs)])

/-- The command goes on: it has started, and its end is still to come. -/
def State.goesOn (t : State) (tag : Nat) (c : MCmd) : Prop := t.mbx.cmds.find tag = some { c with started := true }

/-- The registers that gather the sticky file (R489, R490). -/
def stickyReg (a : Nat) : Prop := ∃ r i, r ∈ stkRuns ∧ i < r.count ∧ a = r.base + r.stride * i

/-- The command of the host that a row of the table stands for: its code and its tag (R436). -/
def hostCmd : Instr → Option (Nat × Nat)
  | .identify t => some (0x01, t) | .status t => some (0x02, t) | .state t => some (0x03, t) | .timeSet t => some (0x04, t)
  | .cfgLoad t _ => some (0x05, t) | .sticky t => some (0x06, t) | .logRead t => some (0x07, t) | .cal t => some (0x08, t)
  | .recover t _ => some (0x09, t) | .diag t _ => some (0x0A, t) | .recipeLoad t _ => some (0x101, t) | .recipeSwap t => some (0x102, t)
  | .engFallback t => some (0x103, t) | .engResume t => some (0x104, t) | .engDump t => some (0x105, t) | .lawParam t => some (0x201, t)
  | .panWrite t _ => some (0x202, t) | .pwmSet t _ => some (0x301, t) | .tripClear t => some (0x302, t) | .glCal t _ => some (0x303, t)
  | .glClear t => some (0x304, t) | .lprbRun t => some (0x305, t) | .safeCfg t _ _ => some (0x401, t) | .safeConfirm t => some (0x402, t)
  | .spo t => some (0x403, t) | .spoReset t => some (0x404, t) | .netTable t _ => some (0x501, t) | .meterRead t => some (0x601, t)
  | .meterPreset t _ => some (0x602, t) | .recArm t => some (0x701, t) | .recTrig t => some (0x702, t) | .recStop t => some (0x703, t)
  | .recRead t => some (0x704, t) | .fwStage t _ => some (0x801, t) | .fwActivate t => some (0x802, t) | .fwCommit t => some (0x803, t)
  | .expOpen t => some (0x901, t) | .expAuth t _ => some (0x902, t) | .expClose t => some (0x903, t) | .expKeyprog t _ => some (0x904, t)
  | _ => none

/-! ## Power -/

/-- `t` is `s` after a reset of every domain but KEEP, with its cause (R448, R449, R472). The log, boot flash, the fuses and the registers of KEEP
stay as they are. -/
def State.wasReset (s t : State) (cause : Nat) : Prop :=
  t.fw.booting = true ∧ t.fw.selected = false ∧ t.fw.cause = cause ∧ t.fld Reg.CLK_PWRSTAT F.CLK_PWRSTAT_RSTCAUSE = cause ∧ t.gt = s.gt ∧
    t.variant = s.variant ∧ t.pending = s.pending ∧ t.log.mram = s.log.mram ∧ t.log.nextSeq = s.log.nextSeq ∧ t.fw.slots = s.fw.slots ∧
    t.fw.commits = s.fw.commits ∧ t.fw.copies = s.fw.copies ∧ t.fw.minSec = s.fw.minSec ∧ t.mbx.keys = s.mbx.keys ∧ t.mbx.cmds = [] ∧
    t.deferred = [] ∧ t.pan = {} ∧ t.ana = {} ∧ t.pwm = {} ∧ t.gl = {} ∧ t.safe = {} ∧ t.ket = {} ∧ t.mtr = {} ∧ t.hop = {} ∧ t.law = {} ∧ t.sup = {} ∧
    (∀ a, keepAddr a = true → a ≠ Reg.CLK_PWRSTAT → a ∉ logRegs → t.reg a = s.reg a)

/-- HSTORE lies above every level at which KEEP changes its source (R481), and KEEP runs. -/
def State.stored (s : State) : Prop := s.pwr.keepOff = false ∧ 2800 < s.hstoreMv

end Sys2Proof.Machine
end

