-- ==== Sys2Proof/Laws/Regs.lean ====
section
/-!
SUPPORT. Registers and their fields: what a read finds after a write, and that every operation on them keeps the canonical form.
-/
namespace Sys2Proof.Machine

/-! ## The canonical form -/

theorem State.regsOk_iff (s : State) : s.regsOk = true ↔ Store.wf regReset s.regs = true := Iff.rfl

/-- The canonical form is a matter of the register file alone. -/
theorem State.regsOk_of_regs {s t : State} (h : t.regs = s.regs) : t.regsOk = s.regsOk := by simp [State.regsOk, h]

@[simp] theorem State.setReg_ok {s : State} (a : Nat) (v : Word) (h : s.regsOk = true) : (s.setReg a v).regsOk = true :=
  Store.put_wf h
@[simp] theorem State.setRegN_ok {s : State} (a n : Nat) (h : s.regsOk = true) : (s.setRegN a n).regsOk = true := Store.put_wf h
@[simp] theorem State.setFld_ok {s : State} (a : Nat) (f : Fld) (v : Nat) (h : s.regsOk = true) : (s.setFld a f v).regsOk = true :=
  Store.put_wf h
@[simp] theorem State.setBit_ok {s : State} (a i : Nat) (b : Bool) (h : s.regsOk = true) : (s.setBit a i b).regsOk = true := Store.put_wf h
@[simp] theorem State.bumpBy_ok {s : State} (a n : Nat) (h : s.regsOk = true) : (s.bumpBy a n).regsOk = true := Store.put_wf h
@[simp] theorem State.bump_ok {s : State} (a : Nat) (h : s.regsOk = true) : (s.bump a).regsOk = true := Store.put_wf h
@[simp] theorem State.tickReg_ok {s : State} (a : Nat) (h : s.regsOk = true) : (s.tickReg a).regsOk = true := Store.put_wf h

theorem State.enqueue_ok {s : State} (rs : List LogRec) (p : Bool) (h : s.regsOk = true) : (s.enqueue rs p).regsOk = true := by
  unfold State.enqueue; split
  · exact h
  · exact Store.put_wf (d := regReset) h

theorem State.markStk_ok {s : State} (k : Stk) (h : s.regsOk = true) : (s.markStk k).regsOk = true := by
  have h1 : ((s.setBit k.reg k.bit true).hostEvent).regsOk = true := by
    rw [State.regsOk_of_regs (State.hostEvent_regs _)]; exact State.setBit_ok _ _ _ h
  unfold State.markStk; dsimp only; split
  · exact h1
  · exact h1

theorem State.stkRecord_ok {s : State} (k : Stk) (h : s.regsOk = true) : (s.stkRecord k).regsOk = true := by
  unfold State.stkRecord; dsimp only; split
  · exact h
  · split
    · exact State.enqueue_ok _ _ h
    · exact State.enqueue_ok _ _ h

theorem State.overflowStk_ok {s : State} (n : Nat) (h : s.regsOk = true) : (State.overflowStk n s).regsOk = true := by
  unfold State.overflowStk; split
  · exact h
  · exact State.stkRecord_ok _ (State.markStk_ok _ h)

@[simp] theorem State.stick_ok {s : State} (k : Stk) (h : s.regsOk = true) : (s.stick k).regsOk = true := by
  unfold State.stick; split
  · exact h
  · exact State.overflowStk_ok _ (State.stkRecord_ok _ (State.markStk_ok _ h))

@[simp] theorem State.stickIf_ok {s : State} (c : Bool) (k : Stk) (h : s.regsOk = true) : (s.stickIf c k).regsOk = true := by
  unfold State.stickIf; split <;> simp [h]

@[simp] theorem State.logRec_ok {s : State} (t c : Nat) (ws : List Word) (p : Bool) (h : s.regsOk = true) : (s.logRec t c ws p).regsOk = true :=
  State.overflowStk_ok _ (State.enqueue_ok _ _ h)

/-- The rest of a breach after its capture. -/
theorem State.breachRest_ok {u : State} (c slot i g : Nat) (h : u.regsOk = true) :
    (if (u.pan.breach.at c).isOpen then
      { u with pan := { u.pan with breach := u.pan.breach.mod c (fun x => { x with last := i, lastGt := g }) } }
    else
      State.logRec { u with pan := { u.pan with breach := u.pan.breach.mod c (fun _ =>
        { isOpen := true, slot := slot, first := i, last := i, lastGt := g }) } } 0x01 (evCode c 1) ([w32 c, w32 slot] ++ cidxWords i)).regsOk = true := by
  split
  · exact h
  · exact State.logRec_ok _ _ _ _ h

@[simp] theorem State.breachOf_ok {s : State} (c slot i : Nat) (h : s.regsOk = true) : (s.breachOf c slot i).regsOk = true := by
  unfold State.breachOf
  apply State.breachRest_ok
  apply State.stick_ok
  split
  · exact State.setRegN_ok _ _ (State.setRegN_ok _ _ (State.setRegN_ok _ _ h))
  · exact h

/-! ## Words -/

@[simp] theorem State.reg_setReg {s : State} (a : Nat) (v : Word) (h : s.regsOk = true) : (s.setReg a v).reg a = v := Store.get_put_same _ _ _ h
theorem State.reg_setReg_ne {s : State} {a b : Nat} (v : Word) (h : s.regsOk = true) (hb : b ≠ a) : (s.setReg a v).reg b = s.reg b :=
  Store.get_put_ne _ _ h hb
theorem State.reg_of_regs {s t : State} (h : t.regs = s.regs) (a : Nat) : t.reg a = s.reg a := by simp [State.reg, h]

theorem State.regN_lt (s : State) (a : Nat) : s.regN a < 2 ^ 32 := (s.reg a).isLt
@[simp] theorem State.regN_setRegN {s : State} (a n : Nat) (h : s.regsOk = true) : (s.setRegN a n).regN a = n % 2 ^ 32 := by
  simp [State.regN, State.setRegN, h]
theorem State.regN_setRegN_ne {s : State} {a b : Nat} (n : Nat) (h : s.regsOk = true) (hb : b ≠ a) : (s.setRegN a n).regN b = s.regN b := by
  simp [State.regN, State.setRegN, State.reg_setReg_ne _ h hb]
theorem State.reg_setRegN_ne {s : State} {a b : Nat} (n : Nat) (h : s.regsOk = true) (hb : b ≠ a) : (s.setRegN a n).reg b = s.reg b := by
  simp [State.setRegN, State.reg_setReg_ne _ h hb]
theorem State.reg_setFld_ne {s : State} {a b : Nat} (f : Fld) (v : Nat) (h : s.regsOk = true) (hb : b ≠ a) : (s.setFld a f v).reg b = s.reg b :=
  State.reg_setRegN_ne _ h hb
theorem State.fld_setFld_reg_ne {s : State} {a b : Nat} (f g : Fld) (v : Nat) (h : s.regsOk = true) (hb : b ≠ a) :
    (s.setFld a f v).fld b g = s.fld b g := by simp [State.fld, State.setFld, State.regN_setRegN_ne _ h hb]

/-! ## Fields -/

/-- A word with a field replaced, in its three parts. -/
theorem putFld_parts (n lo w v : Nat) :
    putFld n ⟨lo, w⟩ v = 2 ^ lo * (2 ^ w * (n / 2 ^ lo / 2 ^ w) + v % 2 ^ w) + n % 2 ^ lo := by
  have h1 : n = 2 ^ lo * (n / 2 ^ lo) + n % 2 ^ lo := (Nat.div_add_mod n _).symm
  have h2 : n / 2 ^ lo = 2 ^ w * (n / 2 ^ lo / 2 ^ w) + n / 2 ^ lo % 2 ^ w := (Nat.div_add_mod _ _).symm
  have h3 : n = 2 ^ lo * (2 ^ w * (n / 2 ^ lo / 2 ^ w)) + 2 ^ lo * (n / 2 ^ lo % 2 ^ w) + n % 2 ^ lo := by
    rw [← Nat.mul_add, ← h2]; exact h1
  have h4 : n / 2 ^ lo % 2 ^ w * 2 ^ lo = 2 ^ lo * (n / 2 ^ lo % 2 ^ w) := Nat.mul_comm _ _
  have h5 : v % 2 ^ w * 2 ^ lo = 2 ^ lo * (v % 2 ^ w) := Nat.mul_comm _ _
  unfold putFld
  simp only [h4, h5, Nat.mul_add]
  omega

/-- The field that was replaced. -/
theorem putFld_same (n lo w v : Nat) : putFld n ⟨lo, w⟩ v / 2 ^ lo % 2 ^ w = v % 2 ^ w := by
  rw [putFld_parts, Nat.mul_add_div (by positivity), Nat.div_eq_of_lt (Nat.mod_lt _ (by positivity)), Nat.add_zero, Nat.mul_add_mod]
  exact Nat.mod_mod _ _

/-- A field below or above the one that was replaced. -/
theorem putFld_other (n lo w v lo' w' : Nat) (h : lo' + w' ≤ lo ∨ lo + w ≤ lo') :
    putFld n ⟨lo, w⟩ v / 2 ^ lo' % 2 ^ w' = n / 2 ^ lo' % 2 ^ w' := by
  apply Nat.eq_of_testBit_eq
  intro i
  simp only [Nat.testBit_mod_two_pow, Nat.testBit_div_two_pow]
  by_cases hi : i < w'
  · simp only [hi, decide_true, Bool.true_and]
    have hm : n % 2 ^ lo < 2 ^ lo := Nat.mod_lt _ (by positivity)
    rw [putFld_parts, Nat.testBit_two_pow_mul_add _ hm]
    rcases h with h | h
    · rw [if_pos (by omega), Nat.testBit_mod_two_pow]; simp; omega
    · have hv : v % 2 ^ w < 2 ^ w := Nat.mod_lt _ (by positivity)
      rw [if_neg (by omega), Nat.testBit_two_pow_mul_add _ hv, if_neg (by omega), Nat.testBit_div_two_pow, Nat.testBit_div_two_pow]
      congr 1; omega
  · simp [hi]

theorem putFld_lt (n lo w v : Nat) (hn : n < 2 ^ 32) (hf : lo + w ≤ 32) : putFld n ⟨lo, w⟩ v < 2 ^ 32 := by
  apply Nat.lt_pow_two_of_testBit
  intro i hi
  have hm : n % 2 ^ lo < 2 ^ lo := Nat.mod_lt _ (by positivity)
  have hv : v % 2 ^ w < 2 ^ w := Nat.mod_lt _ (by positivity)
  rw [putFld_parts, Nat.testBit_two_pow_mul_add _ hm, if_neg (by omega), Nat.testBit_two_pow_mul_add _ hv, if_neg (by omega),
    Nat.testBit_div_two_pow, Nat.testBit_div_two_pow]
  apply Nat.testBit_lt_two_pow
  exact Nat.lt_of_lt_of_le hn (Nat.pow_le_pow_right (by omega) (by omega))

/-- A field reads what was written to it. -/
theorem State.fld_setFld {s : State} (a : Nat) (f : Fld) (v : Nat) (h : s.regsOk = true) (hf : f.lo + f.w ≤ 32) :
    (s.setFld a f v).fld a f = v % 2 ^ f.w := by
  obtain ⟨lo, w⟩ := f
  unfold State.fld State.setFld
  rw [State.regN_setRegN _ _ h, Nat.mod_eq_of_lt (putFld_lt _ _ _ _ (s.regN_lt a) hf)]
  exact putFld_same _ _ _ _

/-- Another field of the register keeps its value. -/
theorem State.fld_setFld_other {s : State} (a : Nat) (f g : Fld) (v : Nat) (h : s.regsOk = true) (hf : f.lo + f.w ≤ 32)
    (hg : g.lo + g.w ≤ f.lo ∨ f.lo + f.w ≤ g.lo) : (s.setFld a f v).fld a g = s.fld a g := by
  obtain ⟨lo, w⟩ := f
  obtain ⟨lo', w'⟩ := g
  unfold State.fld State.setFld
  rw [State.regN_setRegN _ _ h, Nat.mod_eq_of_lt (putFld_lt _ _ _ _ (s.regN_lt a) hf)]
  exact putFld_other _ _ _ _ _ _ hg

/-! ## Sticky bits -/

/-- A bit of a register that was set. -/
theorem State.bit_setBit {s : State} (a i : Nat) (b : Bool) (h : s.regsOk = true) (hi : i < 32) :
    ((s.setBit a i b).reg a).getLsbD i = b := by
  have hf := State.fld_setFld a ⟨i, 1⟩ (bit b) h (by simp; omega)
  have : ((s.setBit a i b).reg a).getLsbD i = ((s.setBit a i b).regN a).testBit i := rfl
  rw [this, Nat.testBit_eq_decide_div_mod_eq]
  unfold State.setBit at *
  simp only [State.fld, Nat.pow_one] at hf
  rw [hf]; cases b <;> rfl

/-- Another bit of the register keeps its value. -/
theorem State.bit_setBit_ne {s : State} (a i j : Nat) (b : Bool) (h : s.regsOk = true) (hi : i < 32) (hj : j ≠ i) :
    ((s.setBit a i b).reg a).getLsbD j = (s.reg a).getLsbD j := by
  have hf := State.fld_setFld_other a ⟨i, 1⟩ ⟨j, 1⟩ (bit b) h (by simp; omega) (by simp; omega)
  have e (t : State) : (t.reg a).getLsbD j = (t.regN a).testBit j := rfl
  rw [e, e, Nat.testBit_eq_decide_div_mod_eq, Nat.testBit_eq_decide_div_mod_eq]
  simp only [State.fld, Nat.pow_one] at hf
  unfold State.setBit; rw [hf]

end Sys2Proof.Machine
end

