-- ==== Sys2Proof/Laws/Sticky.lean ====
section
/-!
SUPPORT. Sticky bits and log records: what setting one does to the register file.
-/
namespace Sys2Proof.Machine

/-- A set bit stays set under the setting of another. -/
theorem State.bit_mono {s : State} (a i b j : Nat) (h : s.regsOk = true) (hi : i < 32) (hs : (s.reg b).getLsbD j = true) :
    ((s.setBit a i true).reg b).getLsbD j = true := by
  by_cases hb : b = a
  · subst hb
    by_cases hj : j = i
    · subst hj; exact State.bit_setBit _ _ _ h hi
    · rw [State.bit_setBit_ne _ _ _ _ h hi hj]; exact hs
  · unfold State.setBit; rw [State.reg_setFld_ne _ _ h hb]; exact hs

theorem State.markStk_regs (s : State) (k : Stk) : (s.markStk k).regs = (s.setBit k.reg k.bit true).regs := by
  unfold State.markStk; dsimp only; split
  · simp only [State.hostEvent_regs]
  · simp only [State.hostEvent_regs]

theorem State.enqueue_reg {s : State} (rs : List LogRec) (p : Bool) {b : Nat} (h : s.regsOk = true) (hb : b ≠ Reg.LOG_DROPCNT) :
    (s.enqueue rs p).reg b = s.reg b := by
  unfold State.enqueue; split
  · rfl
  · exact State.reg_setRegN_ne _ h hb

theorem State.stkRecord_reg {s : State} (k : Stk) {b : Nat} (h : s.regsOk = true) (hb : b ≠ Reg.LOG_DROPCNT) :
    (s.stkRecord k).reg b = s.reg b := by
  unfold State.stkRecord; dsimp only; split
  · rfl
  · split
    · exact State.enqueue_reg _ _ h hb
    · exact State.enqueue_reg _ _ h hb

/-- The overflow of the queue touches its own sticky bit and the count of dropped records. -/
theorem State.overflowStk_reg {s : State} (n : Nat) {b : Nat} (h : s.regsOk = true) (hb : b ≠ Reg.LOG_DROPCNT) (hq : b ≠ Stk.LOG_QOVR.reg) :
    (State.overflowStk n s).reg b = s.reg b := by
  unfold State.overflowStk; split
  · rfl
  · rw [State.stkRecord_reg _ (State.markStk_ok _ h) hb, State.reg_of_regs (State.markStk_regs _ _)]
    exact State.reg_setFld_ne _ _ h hq

theorem State.overflowStk_mono {s : State} (n b j : Nat) (h : s.regsOk = true) (hb : b ≠ Reg.LOG_DROPCNT)
    (hs : (s.reg b).getLsbD j = true) : ((State.overflowStk n s).reg b).getLsbD j = true := by
  unfold State.overflowStk; split
  · exact hs
  · rw [State.stkRecord_reg _ (State.markStk_ok _ h) hb, State.reg_of_regs (State.markStk_regs _ _)]
    exact State.bit_mono _ _ _ _ h (by decide) hs

/-- A sticky bit that hardware sets reads 1 (R13). -/
theorem State.stick_stuck {s : State} (k : Stk) (h : s.regsOk = true) (hk : k.bit < 32) (hr : k.reg ≠ Reg.LOG_DROPCNT) :
    (s.stick k).stuck k = true := by
  unfold State.stick; split
  · assumption
  · apply State.overflowStk_mono _ _ _ (State.stkRecord_ok _ (State.markStk_ok _ h)) hr
    rw [State.stkRecord_reg _ (State.markStk_ok _ h) hr, State.reg_of_regs (State.markStk_regs _ _)]
    exact State.bit_setBit _ _ _ h hk

/-- Setting a sticky bit leaves every register but its own and the log's alone. -/
theorem State.stick_reg {s : State} (k : Stk) {b : Nat} (h : s.regsOk = true) (hk : b ≠ k.reg) (hb : b ≠ Reg.LOG_DROPCNT)
    (hq : b ≠ Stk.LOG_QOVR.reg) : (s.stick k).reg b = s.reg b := by
  unfold State.stick; split
  · rfl
  · rw [State.overflowStk_reg _ (State.stkRecord_ok _ (State.markStk_ok _ h)) hb hq, State.stkRecord_reg _ (State.markStk_ok _ h) hb,
      State.reg_of_regs (State.markStk_regs _ _)]
    exact State.reg_setFld_ne _ _ h hk

theorem State.stickIf_reg {s : State} (c : Bool) (k : Stk) {b : Nat} (h : s.regsOk = true) (hk : b ≠ k.reg) (hb : b ≠ Reg.LOG_DROPCNT)
    (hq : b ≠ Stk.LOG_QOVR.reg) : (s.stickIf c k).reg b = s.reg b := by
  unfold State.stickIf; split
  · exact State.stick_reg k h hk hb hq
  · rfl

/-- A set sticky bit stays set while others are set. -/
theorem State.stick_mono {s : State} (k j : Stk) (h : s.regsOk = true) (hk : k.bit < 32) (hj : j.reg ≠ Reg.LOG_DROPCNT)
    (hs : s.stuck j = true) : (s.stick k).stuck j = true := by
  unfold State.stick; split
  · exact hs
  · apply State.overflowStk_mono _ _ _ (State.stkRecord_ok _ (State.markStk_ok _ h)) hj
    rw [State.stkRecord_reg _ (State.markStk_ok _ h) hj, State.reg_of_regs (State.markStk_regs _ _)]
    exact State.bit_mono _ _ _ _ h hk hs

/-- A record leaves every register but the log's alone. -/
theorem State.logRec_reg {s : State} (t c : Nat) (ws : List Word) (p : Bool) {b : Nat} (h : s.regsOk = true) (hb : b ≠ Reg.LOG_DROPCNT)
    (hq : b ≠ Stk.LOG_QOVR.reg) : (s.logRec t c ws p).reg b = s.reg b := by
  unfold State.logRec
  rw [State.overflowStk_reg _ (State.enqueue_ok _ _ h) hb hq, State.enqueue_reg _ _ h hb]

/-- A record leaves a set sticky bit set. -/
theorem State.logRec_mono {s : State} (t c : Nat) (ws : List Word) (p : Bool) (j : Stk) (h : s.regsOk = true) (hj : j.reg ≠ Reg.LOG_DROPCNT)
    (hs : s.stuck j = true) : (s.logRec t c ws p).stuck j = true := by
  unfold State.logRec
  apply State.overflowStk_mono _ _ _ (State.enqueue_ok _ _ h) hj
  rw [State.enqueue_reg _ _ h hj]; exact hs

end Sys2Proof.Machine
end

