-- ==== Sys2Proof/Certificates/Slice0/Obligations.lean ====
section
/-! DEFINITION. The statements about the block that are to be proved. -/

set_option maxRecDepth 4000

open Sys2Proof Sys2Proof.Machine

/-- The command at the front of the queue is the one that a step carries out, on the state with the rest of the queue. -/
def Obligations.StepRunsFrontCommand : Prop :=
  ∀ (c : Instr) (rest : List Instr) (s : State), s.pending = c :: rest → step s = exec c (s.withPending rest)

/-- From R49, R51. With the queue empty and GT running from the DLL, a step is one DLL cycle. The last tick of an epoch with a lengthening slip
lasts for two of them; the last tick of one with a shortening slip does not occur; otherwise GT advances by one. That an idle step is a DLL
cycle is the model's choice (log entry 1). An omitted GT value is never reached: whatever an event asks for, GT passes over the last tick of
an epoch with a shortening slip. Conventions that the model chose, in the log: entries 1, 2, 3. -/
def Obligations.GridTimeAdvancesAndSkips : Prop :=
  (∀ s : State, s.pending = [] → s.pwr.keepOff = false → s.pin.testEn = false → s.qual < 4 → s.powered = true → s.dueNow = false →
     s.flag Reg.CLK_STAT F.CLK_STAT_DLL_LOCK = true → s.gt + 2 < 2 ^ 64 →
     ∃ t, step s = .next t ∧ s.keeps t [.gt, .tim] ∧
       t.gt = (if s.gt + 1 = (s.tim.epDone + 1) * s.tim.epLen ∧ s.tim.slip = .lengthen ∧ s.tim.slipHeld = false then s.gt
               else if s.gt + 2 = (s.tim.epDone + 1) * s.tim.epLen ∧ s.tim.slip = .shorten then s.gt + 2 else s.gt + 1) ∧
       t.tim.slipHeld = (s.tim.slipHeld || (s.gt + 1 == (s.tim.epDone + 1) * s.tim.epLen && s.tim.slip == .lengthen))) ∧
  (∀ (s : State) (g : Nat), s.tim.slip = .shorten → 0 < s.tim.epLen → s.gt + 1 ≠ (s.tim.epDone + 1) * s.tim.epLen →
     (s.tim.epDone + 1) * s.tim.epLen < 2 ^ 64 → g < 2 ^ 64 → (s.gtTo g).gt + 1 ≠ (s.tim.epDone + 1) * s.tim.epLen)

/-- From R25, R29, R30, R32, R31, R33. A write by the slot's owner whose destination has not passed and lies no more than one commit ahead of
the next reaches the pending bank of its destination, and changes nothing else. A read gives the committed value and the FRESH bit of its
slot, 0 where no descriptor covers it; a read under an index that a later commit has overtaken is a breach of cause 2. The banks stay as
they are. Conventions that the model chose, in the log: entry 17. -/
def Obligations.PantryWritesAndReads : Prop :=
  (∀ (s : State) (owner slot ord c : Nat) (d : Dest) (v : Word),
     (d = .commit c ∨ ∃ g, d = .sampled g ∧ s.destOf slot g = c) → owner ≠ 0 → s.ownerOf slot = owner →
     s.gt < s.instantOf c → s.nextCommit ≤ c → c ≤ s.commitAfter s.nextCommit →
     (∀ w, ((s.pan.pend.find c).getD []).find slot = some w → w.ord ≤ ord) →
     ∃ t, exec (.pantryWrite owner slot ord d v) s = .next t ∧ s.keeps t [.pan] ∧
       ((t.pan.pend.find c).getD []).find slot = some { val := v, ord := ord } ∧
       (∀ c' n, c' ≠ c ∨ n ≠ slot → ((t.pan.pend.find c').getD []).find n = ((s.pan.pend.find c').getD []).find n) ∧
       t.pan.committed = s.pan.committed ∧ t.pan.fresh = s.pan.fresh) ∧
  (∀ (s : State) (slot cidx : Nat), s.regsOk = true →
     ∃ t, exec (.pantryRead slot cidx) s = .next t ∧
       t.out.value = (if s.ownerOf slot = 0 then 0#32 else s.pan.committed.get zeroes slot) ∧ t.out.fresh = (s.pan.fresh.get zeroes slot == 1#1) ∧
       (s.pan.anyCommit = true ∧ cidx < s.pan.cidx → t.stuck (breachStk 2) = true) ∧
       ((s.pan.anyCommit = false ∨ s.pan.cidx ≤ cidx) → s.keeps t [.out]) ∧
       t.pan.committed = s.pan.committed ∧ t.pan.fresh = s.pan.fresh ∧ t.pan.pend = s.pan.pend ∧ t.gt = s.gt)

/-- From R25, R30, R43. A write to a slot that another owner or no descriptor covers is dropped, counted in PAN_OWNCNT, and a breach of cause 1;
a write whose destination has passed is dropped, counted in PAN_LATECNT, and a breach of cause 0. Neither reaches a bank. The interval of a
cause that no longer stands closes at the first epoch boundary at least one epoch after its last breach. Conventions that the model chose,
in the log: entries 16, 17, 19. -/
def Obligations.RefusedWritesAndBreachIntervals : Prop :=
  (∀ (s : State) (owner slot ord c : Nat) (v : Word), s.regsOk = true →
     ∃ t, exec (.pantryWrite owner slot ord (.commit c) v) s = .next t ∧
       (owner = 0 ∨ s.ownerOf slot ≠ owner →
         t.pan.pend = s.pan.pend ∧ t.pan.committed = s.pan.committed ∧ t.regN Reg.PAN_OWNCNT = min (s.regN Reg.PAN_OWNCNT + 1) (2 ^ 32 - 1) ∧
           t.stuck (breachStk 1) = true) ∧
       (owner ≠ 0 → s.ownerOf slot = owner → s.instantOf c ≤ s.gt ∨ c < s.nextCommit →
         t.pan.pend = s.pan.pend ∧ t.pan.committed = s.pan.committed ∧ t.regN Reg.PAN_LATECNT = min (s.regN Reg.PAN_LATECNT + 1) (2 ^ 32 - 1) ∧
           t.stuck (breachStk 0) = true)) ∧
  (∀ (s : State) (cause : Fin 6), (s.pan.breach.at cause).isOpen = true → s.causeStands cause = false →
     ∃ t, exec (.breachIntervalClose cause) s = .next t ∧ s.keeps t ([.gt, .pan] ++ logParts) ∧ (t.pan.breach.at cause).isOpen = false ∧
       t.gt = (s.gtTo (s.epochFrom ((s.pan.breach.at cause).lastGt + s.tim.epLen))).gt ∧ t.pan.committed = s.pan.committed ∧
       ∀ k, k ≠ cause.val → t.pan.breach.at k = s.pan.breach.at k)

/-- From R31, R36, R153. At a commit every slot swaps. A slot with a write pending for the commit takes its value with FRESH 1; any other slot
outside the status blocks keeps its value, or takes 0 after CLEAR, with FRESH 0. What was pending for the commit is gone. Of the slots of a
binding that overruns at this commit it says nothing. Conventions that the model chose, in the log: entries 2, 21. -/
def Obligations.CommitSwapsEverySlot : Prop :=
  ∀ s : State, s.commitsOn = true → s.panOk = true → KMap.wf ((s.pan.pend.find s.nextCommit).getD []) = true →
    ∃ t, exec .commit s = .next t ∧ t.pan.cidx = s.nextCommit ∧ t.pan.anyCommit = true ∧ t.pan.clearNext = false ∧
      t.pan.pend.find s.nextCommit = none ∧ t.gt = (s.gtTo (s.instantOf s.nextCommit)).gt ∧
      ∀ n, n < 0x2000 ∨ (0xE000 ≤ n ∧ n < 0xF000) ∨ (n < 0xF000 ∧ ∀ b, s.ketOverruns b s.nextCommit = false) →
        (∀ w, ((s.pan.pend.find s.nextCommit).getD []).find n = some w →
          t.pan.committed.get zeroes n = w.val ∧ t.pan.fresh.get zeroes n = 1#1) ∧
        (((s.pan.pend.find s.nextCommit).getD []).find n = none →
          t.pan.committed.get zeroes n = (if s.pan.clearNext then 0#32 else s.pan.committed.get zeroes n) ∧ t.pan.fresh.get zeroes n = 0#1)

/-- R50: A read of GT_SNAP_LO gives GT[31:0] and copies GT[63:32] into GT_SNAP_HI; a later read of GT_SNAP_HI gives that copy. -/
def Obligations.SnapReadCopiesHighWord : Prop :=
  ∀ s : State, s.regsOk = true → s.gt < 2 ^ 64 →
    ∃ t, exec .gtSnapRead s = .next t ∧ t.out.value = BitVec.ofNat 32 (s.gt % 2 ^ 32) ∧ t.reg Reg.GT_SNAP_HI = BitVec.ofNat 32 (s.gt / 2 ^ 32) ∧
      (∀ u : State, u.regs = t.regs → u.regN Reg.GT_SNAP_HI * 2 ^ 32 + t.out.value.toNat = s.gt) ∧
      s.keeps t [.regs, .out] ∧ s.sameRegs t [Reg.GT_SNAP_LO, Reg.GT_SNAP_HI]

/-- From R60, R56, R57. With PPSOUT_EN = 1, PPS_OUT rises at a GT value that is a multiple of one second, and falls PPSOUT_W ms later. A PPS
edge inside the window, or any edge while GT is not LOCKED, is a measurement: GT_OFFSET takes GT less the nearest second, and the count of
rejected edges starts anew; the eighth measurement in a row within half the threshold locks GT. A LOCKED device rejects and counts an edge
outside the window, up to three in a row. Without a measurement for LOSSTO the source is lost: HOLD_REF, with STK_GT_HOLDOVER. Conventions
that the model chose, in the log: entries 2, 26, 27, 28, 29, 43. -/
def Obligations.PpsOutputAndDiscipline : Prop :=
  ((∀ s : State, s.powered = true → s.flag Reg.GT_CTRL F.GT_CTRL_PPSOUT_EN = true → s.tim.ppsOut = false →
     ∃ t, exec .ppsOutPulse s = .next t ∧ t.tim.ppsOut = true ∧ t.tim.ppsRise % 500000000 = 0 ∧ s.gt ≤ t.tim.ppsRise ∧
       t.tim.ppsRise ≤ s.gt + 500000000 ∧ t.gt = (s.gtTo t.tim.ppsRise).gt ∧ s.keeps t [.gt, .tim]) ∧
   (∀ s : State, s.tim.ppsOut = true →
     ∃ t, exec .ppsOutEnd s = .next t ∧ t.tim.ppsOut = false ∧ s.keeps t [.gt, .tim] ∧
       t.gt = (s.gtTo (s.tim.ppsRise + max 1 (s.fld Reg.GT_CTRL F.GT_CTRL_PPSOUT_W) * 500000)).gt)) ∧
  ((∀ s : State, s.regsOk = true → s.powered = true → s.fld Reg.GT_CTRL F.GT_CTRL_SRC = 2 → s.qual ≠ 4 →
     (s.qual ≠ 2 ∨ 2 * s.ppsOffset.natAbs ≤ s.ppsWinNs) →
     ∃ t, exec .ppsInEdge s = .next t ∧ t.regN Reg.GT_OFFSET = lowBits 32 (satTo 32 s.ppsOffset) ∧ t.tim.rejects = 0 ∧ t.tim.lastMeas = s.gt ∧
       (2 * s.ppsOffset.natAbs ≤ s.lockThrNs → s.qual = 1 → s.tim.lockCount = 7 → t.qual = 2) ∧
       s.keeps t ([.tim, .pan, .freeN] ++ logParts)) ∧
   (∀ s : State, s.regsOk = true → s.powered = true → s.fld Reg.GT_CTRL F.GT_CTRL_SRC = 2 → s.qual = 2 → s.ppsWinNs < 2 * s.ppsOffset.natAbs →
     s.tim.rejects < 3 →
     ∃ t, exec .ppsInEdge s = .next t ∧ t.regN Reg.GT_PPSREJ = min (s.regN Reg.GT_PPSREJ + 1) (2 ^ 32 - 1) ∧ t.stuck Stk.PPS_REJECT = true ∧
       t.tim.rejects = s.tim.rejects + 1 ∧ t.qual = 2 ∧ t.regN Reg.GT_OFFSET = s.regN Reg.GT_OFFSET ∧ s.keeps t (.tim :: logParts)) ∧
   (∀ s : State, s.regsOk = true → s.qual = 2 →
     ∃ t, exec .sourceLossTimeout s = .next t ∧ t.qual = 3 ∧ t.stuck Stk.GT_HOLDOVER = true ∧ t.tim.stepPend = none ∧
       t.gt = (s.gtTo (s.tim.lastMeas + s.lossTicks)).gt ∧ s.keeps t ([.gt, .tim, .pan] ++ logParts)))

/-- From R59, R65, R51, R54, R64, R67. A step in STANDBY happens at the next commit instant: GT loses the offset, the commit index and the epoch
number follow the new GT, and everything pending in the Pantry is discarded. The boundary of the next epoch. GT stands at its instant; the
accumulator takes the rate over one epoch, and where it has reached one tick the epoch that begins carries the slip that brings it back.
While GT is in HOLD_KEEP the epoch number alone follows GT. The half-epoch point is the instant in the middle of an epoch, rounded down; in
HOLD_KEEP nothing is triggered there. A pending EP_LEN takes effect at a whole second, the writes that keep an instant keep their
destination there, and the committed values stay. Conventions that the model chose, in the log: entries 2, 4, 30, 31, 32, 43. -/
def Obligations.StepsAndEpochPoints : Prop :=
  (∀ (s : State) (o : Int), s.tim.stepPend = some o → s.dev = .standby → s.commitsOn = true →
     s.pan.anyCommit = false ∨ s.pan.cinst ≠ s.gt →
     ∃ t, exec .gtStep s = .next t ∧ t.gt = ((((s.gtTo (s.instantOf s.nextCommit)).gt : Int) - o) % (2 ^ 64 : Int)).toNat ∧
       t.tim.stepPend = none ∧ t.pan.pend = [] ∧ t.pan.cidx / 2 = t.gt / s.tim.epLen ∧ t.tim.epDone = t.gt / s.tim.epLen ∧
       t.pan.committed = s.pan.committed ∧ t.dev = .standby ∧ t.ket = s.ket ∧ t.gl = s.gl) ∧
  ((∀ s : State, s.regsOk = true → s.powered = true → s.qual < 4 → s.pwr.leaving = none → s.tim.rateNext = none →
     ∃ t, exec .epochBoundary s = .next t ∧ t.tim.epDone = s.epochNext ∧ t.tim.slipEnded = s.tim.slip ∧
       (let acc := s.tim.accum + sgn 32 (s.regN Reg.GT_RATE) * (s.tim.epLen : Int)
        (2 ^ 40 ≤ acc → t.tim.slip = .shorten ∧ t.tim.accum = acc - 2 ^ 40) ∧
        (acc ≤ -(2 ^ 40) → t.tim.slip = .lengthen ∧ t.tim.accum = acc + 2 ^ 40) ∧
        (-(2 ^ 40) < acc → acc < 2 ^ 40 → t.tim.slip = .none ∧ t.tim.accum = acc))) ∧
   (∀ s : State, s.powered = true → s.qual = 5 →
     ∃ t, exec .epochBoundary s = .next t ∧ s.keeps t [.gt, .tim] ∧ t.tim.epDone = s.epochNext ∧ t.tim.slip = s.tim.slip ∧
       t.gt = (s.gtTo (s.epochNext * s.tim.epLen)).gt)) ∧
  (∀ s : State, s.powered = true → 0 < s.tim.epLen →
     ∃ t h, exec .halfEpochPoint s = .next t ∧ h % s.tim.epLen = s.tim.epLen / 2 ∧ s.gt ≤ h ∧ h ≤ s.gt + s.tim.epLen + s.tim.epLen / 2 ∧
       t.gt = (s.gtTo h).gt ∧ t.tim.halfAt = h + 1 ∧ s.keeps t ([.gt, .tim, .ana] ++ logParts) ∧ (s.qual = 5 → s.keeps t [.gt, .tim])) ∧
  (∀ (s : State) (n : Nat), s.tim.epLenPend = some n → s.powered = true →
     ∃ t, exec .epLenTakeEffect s = .next t ∧ t.tim.epLen = n ∧ t.tim.epLenPend = none ∧ t.pan.committed = s.pan.committed ∧
       t.gt = (s.gtTo ((s.gt + 499999999) / 500000000 * 500000000)).gt ∧
       s.keeps t [.gt, .regs, .tim, .pan, .pwm, .sup, .mbx, .out])

/-- From R61, R62, R70, R73, R76, R77. While GT is LOCKED or in HOLD_REF and the keep-alive oscillator runs, its calibration is stored and
KEEPCAL_OK is 1; in any other tier a measurement changes nothing. REFCLK that returns is reported; the keep-alive oscillator that stops
loses its calibration and sets STK_XT32_LOST, and KEEPCAL_OK stays 0 when it runs again; DLL_FULL asks for a full search; GO asks for the
load of the dividers, which the load clears. Conventions that the model chose, in the log: entries 33, 34, 41. -/
def Obligations.KeepAliveAndClockFlags : Prop :=
  (∀ (s : State) (ticks : Nat), s.regsOk = true →
     ∃ t, exec (.keepcalMeasure ticks) s = .next t ∧
       ((s.qual = 2 ∨ s.qual = 3) → s.flag Reg.CLK_STAT F.CLK_STAT_XT32_OK = true →
         t.tim.keepTicks = ticks ∧ t.flag Reg.GT_STAT F.GT_STAT_KEEPCAL_OK = true ∧ t.qual = s.qual ∧ s.keeps t [.tim, .regs] ∧
           s.sameRegs t [Reg.GT_STAT]) ∧
       (s.qual ≠ 2 → s.qual ≠ 3 → t = s)) ∧
  ((∀ s : State, s.regsOk = true → s.powered = true →
     ∃ t, exec .refclkReturn s = .next t ∧ s.keeps t [.regs] ∧ s.sameRegs t [Reg.CLK_STAT] ∧ t.flag Reg.CLK_STAT F.CLK_STAT_REF_OK = true ∧
       t.fld Reg.CLK_STAT F.CLK_STAT_DLL_LOCK = s.fld Reg.CLK_STAT F.CLK_STAT_DLL_LOCK) ∧
   (∀ s : State, s.regsOk = true → s.flag Reg.CLK_STAT F.CLK_STAT_XT32_OK = true →
     ∃ t, exec .xt32Stop s = .next t ∧ s.keeps t (.tim :: logParts) ∧ t.flag Reg.CLK_STAT F.CLK_STAT_XT32_OK = false ∧
       t.flag Reg.GT_STAT F.GT_STAT_KEEPCAL_OK = false ∧ t.stuck Stk.XT32_LOST = true ∧ t.qual = s.qual) ∧
   (∀ s : State, s.regsOk = true → s.pwr.keepOff = false →
     ∃ t, exec .xt32Restart s = .next t ∧ s.keeps t [.regs] ∧ s.sameRegs t [Reg.CLK_STAT] ∧ t.flag Reg.CLK_STAT F.CLK_STAT_XT32_OK = true ∧
       t.flag Reg.GT_STAT F.GT_STAT_KEEPCAL_OK = s.flag Reg.GT_STAT F.GT_STAT_KEEPCAL_OK) ∧
   (∀ s : State, s.powered = true → ∃ t, exec .dllFull s = .next t ∧ s.keeps t [.tim] ∧ t.tim.dllFull = true ∧ t.tim.epLen = s.tim.epLen) ∧
   (∀ s : State, s.regsOk = true → s.powered = true → s.flag Reg.CLK_PDIV_UPD F.CLK_PDIV_UPD_GO = false →
     ∃ t, exec .clkPdivUpdGo s = .next t ∧ s.keeps t [.regs, .tim] ∧ s.sameRegs t [Reg.CLK_PDIV_UPD] ∧
       t.flag Reg.CLK_PDIV_UPD F.CLK_PDIV_UPD_GO = true ∧ t.tim.goAt = s.gt) ∧
   (∀ s : State, s.regsOk = true → s.powered = true → s.flag Reg.CLK_PDIV_UPD F.CLK_PDIV_UPD_GO = true → s.qual ≠ 5 →
     ∃ t, exec .pdivLoad s = .next t ∧ s.keeps t ([.gt, .ana, .hop] ++ logParts) ∧ t.flag Reg.CLK_PDIV_UPD F.CLK_PDIV_UPD_GO = false ∧
       t.fld Reg.CLK_PDIV_ADC F.CLK_PDIV_ADC_ACT =
         (let d := s.fld Reg.CLK_PDIV_ADC F.CLK_PDIV_ADC_DIV
          if 2 ≤ d ∧ d ≤ 4 then d else s.fld Reg.CLK_PDIV_ADC F.CLK_PDIV_ADC_ACT) ∧
       t.gt = (s.gtTo (s.epochFrom (s.tim.goAt + 1))).gt))

/-- From R68, R74, R76, R42, R75. A PLL that locks reports it; one that unlocks clears its flag, moves its islands to their fallback oscillators
and sets its sticky bit, GT passing from HOLD_SYS to HOLD_KEEP; the islands return at the first epoch boundary after 1 ms of lock. A window
in range starts the count of an island anew; the second window in a row out of range is a breach of cause 3, which sets STK_CLK_RANGE.
Conventions that the model chose, in the log: entries 2, 35, 40. -/
def Obligations.PllLossAndFrequencyMonitor : Prop :=
  ((∀ (s : State) (net : Bool), s.regsOk = true → s.powered = true →
     ∃ t, exec (.pllLock net) s = .next t ∧ s.keeps t [.regs, .tim] ∧ s.sameRegs t [Reg.CLK_STAT] ∧
       t.flag Reg.CLK_STAT (if net then F.CLK_STAT_NETPLL_LOCK else F.CLK_STAT_SYSPLL_LOCK) = true ∧
       t.fld Reg.CLK_STAT F.CLK_STAT_ON_FALLBACK = s.fld Reg.CLK_STAT F.CLK_STAT_ON_FALLBACK) ∧
   (∀ s : State, s.regsOk = true → s.powered = true → s.flag Reg.CLK_STAT F.CLK_STAT_SYSPLL_LOCK = true →
     ∃ t, exec .syspllUnlock s = .next t ∧ s.keeps t ([.tim, .pan] ++ logParts) ∧ t.flag Reg.CLK_STAT F.CLK_STAT_SYSPLL_LOCK = false ∧
       t.fld Reg.CLK_STAT F.CLK_STAT_ON_FALLBACK = s.fld Reg.CLK_STAT F.CLK_STAT_ON_FALLBACK ||| 15 ∧ t.stuck Stk.SYSPLL_UNLOCK = true ∧
       t.qual = (if s.qual = 4 then 5 else s.qual)) ∧
   (∀ s : State, s.regsOk = true → s.powered = true → s.flag Reg.CLK_STAT F.CLK_STAT_NETPLL_LOCK = true →
     ∃ t, exec .netpllUnlock s = .next t ∧ s.keeps t (.net :: logParts) ∧ t.flag Reg.CLK_STAT F.CLK_STAT_NETPLL_LOCK = false ∧
       t.fld Reg.CLK_STAT F.CLK_STAT_ON_FALLBACK = s.fld Reg.CLK_STAT F.CLK_STAT_ON_FALLBACK ||| 16 ∧ t.stuck Stk.NETPLL_UNLOCK = true ∧
       t.qual = s.qual) ∧
   (∀ (s : State) (net : Bool), s.regsOk = true → s.powered = true →
     s.flag Reg.CLK_STAT (if net then F.CLK_STAT_NETPLL_LOCK else F.CLK_STAT_SYSPLL_LOCK) = true →
     s.fld Reg.CLK_STAT F.CLK_STAT_ON_FALLBACK &&& (if net then 16 else 15) ≠ 0 →
     ∃ t, exec (.fallbackReturn net) s = .next t ∧ s.keeps t [.gt, .regs] ∧ s.sameRegs t [Reg.CLK_STAT] ∧
       t.fld Reg.CLK_STAT F.CLK_STAT_ON_FALLBACK &&& (if net then 16 else 15) = 0 ∧
       t.gt = (s.gtTo (s.epochFrom ((if net then s.tim.netLockSince else s.tim.sysLockSince) + 500000))).gt)) ∧
  (∀ (s : State) (island : Fin 10) (count : Nat), s.regsOk = true → s.powered = true →
     (5 ≤ island.val → island.val < 8 → 4 * (island.val - 5) < s.engines) → s.tim.outOfRange.length = 10 →
     ∃ t, exec (.freqMonitorWindow island count) s = .next t ∧ s.keeps t ([.tim, .pan] ++ logParts) ∧
       (s.inRange island.val count = true → t.tim.outOfRange.at island.val = 0 ∧ t.regs = s.regs ∧ t.pan = s.pan) ∧
       (s.inRange island.val count = false → s.tim.outOfRange.at island.val = 0 → t.tim.outOfRange.at island.val = 1 ∧ t.pan = s.pan) ∧
       (s.inRange island.val count = false → 1 ≤ s.tim.outOfRange.at island.val → t.tim.outOfRange.at island.val = 2 ∧ t.stuck (breachStk 3) = true) ∧
       ∀ k, k ≠ island.val → t.tim.outOfRange.at k = s.tim.outOfRange.at k)

/-- From R70, R71, R77, R61, R76, R78. A lock of the DLL stores its coarse code and reports the lock; after a holdover GT moves by no more than
the tier's bound. When REFCLK or the DLL is lost, or a commanded relock misses its bound, PWM halts and GT passes to HOLD_SYS, or to
HOLD_KEEP while SYSPLL is unlocked too. Conventions that the model chose, in the log: entries 36, 37, 39, 42. -/
def Obligations.DllLockAndLoss : Prop :=
  (∀ (s : State) (code : Nat) (correction : Int), s.regsOk = true → s.powered = true → s.flag Reg.CLK_STAT F.CLK_STAT_DLL_LOCK = false →
     s.flag Reg.CLK_STAT F.CLK_STAT_REF_OK = true → 15259 ≤ s.gt → s.gt + 15259 < 2 ^ 64 →
     ∃ t, exec (.dllLock code correction) s = .next t ∧ s.keeps t ([.gt, .tim, .pan, .gl] ++ logParts) ∧ t.flag Reg.CLK_STAT F.CLK_STAT_DLL_LOCK = true ∧
       t.regN (Reg.CLK_DLL_CSTORE (s.fld Reg.CLK_CTRL F.CLK_CTRL_DLL_MODE)) = code % 64 + 2 ^ 31 ∧
       t.tim.relockCmd = false ∧ t.tim.lossHold = false ∧ t.tim.dllFull = false ∧
       (s.qual ≠ 4 → s.qual ≠ 5 → t.gt = s.gt) ∧ (s.qual = 4 → t.gt ≤ s.gt + 1 ∧ s.gt ≤ t.gt + 1) ∧
       (s.qual = 5 → t.gt ≤ s.gt + 15259 ∧ s.gt ≤ t.gt + 15259)) ∧
  ((∀ s : State, s.regsOk = true → s.powered = true → s.flag Reg.CLK_STAT F.CLK_STAT_REF_OK = true →
     s.flag Reg.CLK_STAT F.CLK_STAT_DLL_LOCK = true →
     ∃ t, exec .refclkLost s = .next t ∧ t.tim.pwmHalted = true ∧ t.flag Reg.CLK_STAT F.CLK_STAT_REF_OK = false ∧
       t.flag Reg.CLK_STAT F.CLK_STAT_DLL_LOCK = false ∧ t.stuck Stk.REF_LOST = true ∧ t.stuck (breachStk 3) = true ∧
       t.qual = (if s.flag Reg.CLK_STAT F.CLK_STAT_SYSPLL_LOCK then 4 else 5) ∧ t.ket = s.ket ∧ t.safe = s.safe ∧ t.dev = s.dev) ∧
   (∀ s : State, s.regsOk = true → s.powered = true → s.flag Reg.CLK_STAT F.CLK_STAT_DLL_LOCK = true →
     ∃ t, exec .dllUnlock s = .next t ∧ t.tim.pwmHalted = true ∧ t.flag Reg.CLK_STAT F.CLK_STAT_DLL_LOCK = false ∧
       t.stuck Stk.DLL_UNLOCK = true ∧ t.stuck (breachStk 3) = true ∧
       t.qual = (if s.flag Reg.CLK_STAT F.CLK_STAT_SYSPLL_LOCK then 4 else 5) ∧ t.ket = s.ket ∧ t.safe = s.safe ∧ t.dev = s.dev) ∧
   (∀ s : State, s.regsOk = true → s.tim.relockCmd = true →
     ∃ t, exec .dllRelockTimeout s = .next t ∧ t.tim.pwmHalted = true ∧ t.tim.relockCmd = false ∧ t.stuck Stk.DLL_UNLOCK = true ∧
       t.stuck Stk.GT_HOLDOVER = true ∧ t.gt = (s.gtTo (s.tim.relockSince + s.relockBound)).gt ∧ t.ket = s.ket ∧ t.dev = s.dev))

/-- From R88, R90, R85, R87, R108. A trigger that reaches an idle sequence of an enabled core is accepted: the sequence waits for its delay. One
that reaches a sequence in progress is ignored and counted: a regular one in ADC_OVRCNT with STK_SEQ_OVR, an injected one in ADC_INJMISS
with STK_ADC_INJ_MISS. A software trigger reaches the regular sequences of the cores whose bits are 1 and that are set to it; an analog
timer fires in the next tick whose GT modulo PER is PH, and reaches the regular sequences set to its code. Conventions that the model chose,
in the log: entries 2, 43, 45. -/
def Obligations.TriggersReachSequences : Prop :=
  (∀ (s : State) (core : Fin 8) (inj : Bool), s.inv = true → s.anaOn = true → s.flag (Reg.ADC_CTRL core) F.ADC_CTRL_EN = true →
     ∃ t, exec (.adcSequenceTrigger core inj) s = .next t ∧ s.keeps t (.ana :: logParts) ∧
       (inj = false → (s.ana.cores.at core).reg.phase = .idle →
         (t.ana.cores.at core).reg.phase = .waiting ∧ (t.ana.cores.at core).reg.due = s.gt + s.fld (Reg.ADC_TRIGDLY core) F.ADC_TRIGDLY_REG_DLY ∧
           t.flag (Reg.ADC_STAT core) F.ADC_STAT_REG_RUN = true ∧ (t.ana.cores.at core).inj = (s.ana.cores.at core).inj) ∧
       (inj = true → (s.ana.cores.at core).inj.phase = .idle →
         (t.ana.cores.at core).inj.phase = .waiting ∧ (t.ana.cores.at core).inj.due = s.gt + s.fld (Reg.ADC_TRIGDLY core) F.ADC_TRIGDLY_INJ_DLY ∧
           t.flag (Reg.ADC_STAT core) F.ADC_STAT_INJ_RUN = true ∧ (t.ana.cores.at core).reg = (s.ana.cores.at core).reg) ∧
       (inj = false → (s.ana.cores.at core).reg.phase ≠ .idle →
         (t.ana.cores.at core).reg = (s.ana.cores.at core).reg ∧ t.stuck (Stk.ADC_SEQ_OVR core) = true ∧
           t.regN (Reg.ADC_OVRCNT core) = min (s.regN (Reg.ADC_OVRCNT core) + 1) (2 ^ 32 - 1)) ∧
       (inj = true → (s.ana.cores.at core).inj.phase ≠ .idle →
         (t.ana.cores.at core).inj = (s.ana.cores.at core).inj ∧ t.stuck (Stk.ADC_INJ_MISS core) = true ∧
           t.regN (Reg.ADC_INJMISS core) = min (s.regN (Reg.ADC_INJMISS core) + 1) (2 ^ 32 - 1)) ∧
       ∀ k, k ≠ core.val → t.ana.cores.at k = s.ana.cores.at k) ∧
  ((∀ (s : State) (val : Word), s.inv = true → s.anaOn = true →
     ∃ t, exec (.anaSwtrig val) s = .next t ∧ s.keeps t (.ana :: logParts) ∧
       ∀ c, c < 8 → s.fld (Reg.ADC_SEQCFG c) F.ADC_SEQCFG_INJ_TRIG ≠ 3 →
         (val.getLsbD c = true → s.fld (Reg.ADC_SEQCFG c) F.ADC_SEQCFG_REG_TRIG = 3 → s.flag (Reg.ADC_CTRL c) F.ADC_CTRL_EN = true →
           (s.ana.cores.at c).reg.phase = .idle → (t.ana.cores.at c).reg.phase = .waiting) ∧
         (val.getLsbD c = false → t.ana.cores.at c = s.ana.cores.at c)) ∧
   (∀ (s : State) (k : Fin 4), s.inv = true → s.anaOn = true → s.flag (Reg.ANA_ATMR_PH k) F.ANA_ATMR_PH_EN = true →
     ∃ t u, exec (.atmrFire k) s = .next t ∧ s.keeps t ([.gt, .ana] ++ logParts) ∧
       (let p := clampNat 100 1000000 (s.fld (Reg.ANA_ATMR_PER k) F.ANA_ATMR_PER_PER)
        u % p = min (s.fld (Reg.ANA_ATMR_PH k) F.ANA_ATMR_PH_PH) (p - 1) ∧ s.gt ≤ u ∧ s.ana.atmr.at k ≤ u ∧ u < max s.gt (s.ana.atmr.at k) + p) ∧
       t.gt = (s.gtTo u).gt ∧
       ∀ c, c < 8 → s.fld (Reg.ADC_SEQCFG c) F.ADC_SEQCFG_REG_TRIG = 4 + k.val → s.flag (Reg.ADC_CTRL c) F.ADC_CTRL_EN = true →
         (s.ana.cores.at c).reg.phase = .idle → (t.ana.cores.at c).reg.phase = .waiting))

/-- From R83, R88, R90, R84, R89, R92, R29, R91. When its delay has run, the first entry of a triggered sequence starts; an injected start
abandons a regular entry in progress and counts it in ADC_PREEMPT; a regular start waits while an injected sequence runs. A conversion ends
its length after its start; its scaled result waits for its write 12 ticks later, a code at either end of the range sets STK_ADC_RANGE, and
the next entry of its sequence starts. A converter result that is due leaves the core and reaches the pending bank of the destination that
its slot's window gives it. Conventions that the model chose, in the log: entries 2, 44, 45. -/
def Obligations.SequencesConvertAndWriteResults : Prop :=
  (∀ (s : State) (core : Fin 8) (cfg : EntryCfg) (rest : List EntryCfg), s.inv = true →
     (((s.ana.cores.at core).reg.phase = .waiting → (s.ana.cores.at core).reg.plan = cfg :: rest → (s.ana.cores.at core).inj.phase = .idle →
       ∃ t, exec (.sequenceStart core false) s = .next t ∧ s.keeps t [.gt, .regs, .ana] ∧ t.gt = (s.gtTo (s.ana.cores.at core).reg.due).gt ∧
         (t.ana.cores.at core).conv = some { inj := false, cfg := cfg, start := t.gt, len := s.convLen cfg.smp } ∧
         (t.ana.cores.at core).reg.phase = .running ∧ t.fld (Reg.ADC_STAT core) F.ADC_STAT_ENTRY = cfg.e % 64) ∧
     ((s.ana.cores.at core).inj.phase = .waiting → (s.ana.cores.at core).inj.plan = cfg :: rest →
       ∃ t, exec (.sequenceStart core true) s = .next t ∧ s.keeps t [.gt, .regs, .ana] ∧ t.gt = (s.gtTo (s.ana.cores.at core).inj.due).gt ∧
         (t.ana.cores.at core).conv = some { inj := true, cfg := cfg, start := t.gt, len := s.convLen cfg.smp } ∧
         (t.ana.cores.at core).inj.phase = .running ∧
         (∀ v, (s.ana.cores.at core).conv = some v → v.inj = false →
           t.regN (Reg.ADC_PREEMPT core) = min (s.regN (Reg.ADC_PREEMPT core) + 1) (2 ^ 32 - 1))) ∧
     ((s.ana.cores.at core).reg.phase = .waiting → (s.ana.cores.at core).inj.phase = .running →
       ∃ t, exec (.sequenceStart core false) s = .next t ∧ s.keeps t [.gt, .ana] ∧ (t.ana.cores.at core).reg.phase = .held ∧
         (t.ana.cores.at core).conv = (s.ana.cores.at core).conv))) ∧
  (∀ (s : State) (core : Fin 8) (code : Fin 65536) (v : AdcConv), s.inv = true → (s.ana.cores.at core).conv = some v →
     ∃ t, exec (.conversionEnd core code) s = .next t ∧ s.keeps t ([.gt, .ana] ++ logParts) ∧ t.gt = (s.gtTo (v.start + v.len)).gt ∧
       (t.ana.cores.at core).results = (s.ana.cores.at core).results ++
         [{ slot := adcSlot core v.cfg.e, sample := v.start, due := v.start + v.len + 12, val := adcResult v.cfg code }] ∧
       (code.val = 0 ∨ code.val = 65535 → t.stuck (Stk.ADC_RANGE core) = true) ∧
       (∀ a b r, v.inj = false → (s.ana.cores.at core).reg.plan = a :: b :: r →
         (t.ana.cores.at core).conv = some { inj := false, cfg := b, start := t.gt, len := s.convLen b.smp } ∧ (t.ana.cores.at core).reg.plan = b :: r) ∧
       (∀ a, v.inj = false → (s.ana.cores.at core).reg.plan = [a] →
         (t.ana.cores.at core).conv = none ∧ (t.ana.cores.at core).reg.phase = .idle ∧ t.flag (Reg.ADC_STAT core) F.ADC_STAT_REG_RUN = false) ∧
       (∀ a b r, v.inj = true → (s.ana.cores.at core).inj.plan = a :: b :: r →
         (t.ana.cores.at core).conv = some { inj := true, cfg := b, start := t.gt, len := s.convLen b.smp } ∧ (t.ana.cores.at core).inj.plan = b :: r)) ∧
  (∀ (s : State) (core : Fin 8) (r : AdcResult) (rest : List AdcResult), s.inv = true → (s.ana.cores.at core).results = r :: rest →
     ∃ t, exec (.adcResultWrite (.seq core)) s = .next t ∧ s.keeps t ([.gt, .ana, .pan] ++ logParts) ∧ (t.ana.cores.at core).results = rest ∧
       t.gt = (s.gtTo r.due).gt ∧
       (let u := s.gtTo r.due
        let c := s.destOf r.slot r.sample
        s.ownerOf r.slot = 1 → u.gt < s.instantOf c → u.nextCommit ≤ c → c ≤ u.commitAfter u.nextCommit →
        ((s.pan.pend.find c).getD []).find r.slot = none →
        ((t.pan.pend.find c).getD []).find r.slot = some { val := r.val, ord := r.sample }))

/-- From R94 to R97, R100, R101, R107. A round takes every enabled pin; the test of a pin sets or clears its flag by its two codes; a round that
is not complete after 1 s sets STK_ADC_DIAG_STARVED and goes on. A request or the automatic interval queues a calibration; when all steps
are complete, DONE is 1 and the new trim waits for the next epoch boundary; after 1 s it is discarded with STK_CAL_STARVED and DONE 0.
Conventions that the model chose, in the log: entries 43, 47, 49, 50. -/
def Obligations.OpenWireAndCalibration : Prop :=
  ((∀ (s : State) (core : Fin 8), s.inv = true → s.anaOn = true → (s.ana.cores.at core).owActive = false →
     bitsOf 12 (s.fld (Reg.ADC_OWCFG core) F.ADC_OWCFG_OW_EN) ≠ [] → s.flag (Reg.ADC_CTRL core) F.ADC_CTRL_EN = true →
     ∃ t, exec (.openWireRound core) s = .next t ∧ s.keeps t [.gt, .ana] ∧ (t.ana.cores.at core).owActive = true ∧
       (t.ana.cores.at core).owLeft = bitsOf 12 (s.fld (Reg.ADC_OWCFG core) F.ADC_OWCFG_OW_EN) ∧ (t.ana.cores.at core).owStart = t.gt ∧
       ((s.ana.cores.at core).owAny = true →
         t.gt = (s.gtTo ((s.ana.cores.at core).owStart + max 1 (s.fld (Reg.ADC_OWCFG core) F.ADC_OWCFG_PERIOD) * 500000)).gt)) ∧
   (∀ (s : State) (core : Fin 8) (up down : Fin 65536) (p : Nat) (rest : List Nat), s.inv = true → s.anaOn = true →
     (s.ana.cores.at core).owLeft = p :: rest → p < 12 → (s.ana.cores.at core).owActive = true → (s.ana.cores.at core).calPending = false →
     (s.ana.cores.at core).conv = none → s.flag (Reg.ADC_CTRL core) F.ADC_CTRL_EN = true →
     ∃ t, exec (.openWireStep core up down) s = .next t ∧ s.keeps t (.ana :: logParts) ∧
       (t.reg (Reg.ADC_OWFLAG core)).getLsbD p = decide (s.fld (Reg.ADC_OWSET core) F.ADC_OWSET_DELTA + down.val < up.val) ∧
       (s.fld (Reg.ADC_OWSET core) F.ADC_OWSET_DELTA + down.val < up.val → t.stuck (Stk.ADC_OPEN core) = true) ∧
       (t.ana.cores.at core).owLeft = rest ∧ (t.ana.cores.at core).owActive = !rest.isEmpty) ∧
   (∀ (s : State) (core : Fin 8), s.inv = true → (s.ana.cores.at core).owActive = true → (s.ana.cores.at core).owStarved = false →
     ∃ t, exec (.openWireTimeout core) s = .next t ∧ s.keeps t ([.gt, .ana] ++ logParts) ∧ t.stuck (Stk.ADC_DIAG_STARVED core) = true ∧
       (t.ana.cores.at core).owActive = true ∧ (t.ana.cores.at core).owLeft = (s.ana.cores.at core).owLeft ∧
       t.gt = (s.gtTo ((s.ana.cores.at core).owStart + 500000000)).gt)) ∧
  ((∀ (s : State) (core : Fin 8), s.inv = true → (s.ana.cores.at core).calPending = false →
     ∃ t, exec (.calReq core) s = .next t ∧ s.keeps t [.regs, .ana] ∧ (t.ana.cores.at core).calPending = true ∧ (t.ana.cores.at core).calReq = s.gt ∧
       t.flag (Reg.ADC_CALCFG core) F.ADC_CALCFG_REQ = true ∧ t.flag (Reg.ADC_STAT core) F.ADC_STAT_CAL_RUN = true) ∧
   (∀ (s : State) (core : Fin 8), s.inv = true → (s.ana.cores.at core).calPending = false → s.anaOn = true →
     s.fld (Reg.ADC_CALCFG core) F.ADC_CALCFG_AUTO_INT ≠ 0 →
     ∃ t, exec (.calAuto core) s = .next t ∧ s.keeps t [.gt, .regs, .ana] ∧ (t.ana.cores.at core).calPending = true ∧
       t.gt = (s.gtTo ((s.ana.cores.at core).calLast + s.fld (Reg.ADC_CALCFG core) F.ADC_CALCFG_AUTO_INT * 60 * 500000000)).gt) ∧
   (∀ (s : State) (core : Fin 8) (coef : DWord), s.inv = true → (s.ana.cores.at core).calPending = true →
     ∃ t, exec (.calComplete core coef) s = .next t ∧ s.keeps t (.ana :: logParts) ∧ (t.ana.cores.at core).calPending = false ∧
       (t.ana.cores.at core).trimNext = some coef ∧ (t.ana.cores.at core).trim = (s.ana.cores.at core).trim ∧
       t.flag (Reg.ADC_CALCFG core) F.ADC_CALCFG_DONE = true ∧ t.flag (Reg.ADC_CALCFG core) F.ADC_CALCFG_REQ = false) ∧
   (∀ (s : State) (core : Fin 8), s.inv = true → (s.ana.cores.at core).calPending = true →
     ∃ t, exec (.calTimeout core) s = .next t ∧ s.keeps t ([.gt, .ana] ++ logParts) ∧ (t.ana.cores.at core).calPending = false ∧
       (t.ana.cores.at core).trimNext = (s.ana.cores.at core).trimNext ∧ t.flag (Reg.ADC_CALCFG core) F.ADC_CALCFG_DONE = false ∧
       t.stuck (Stk.CAL_STARVED core) = true ∧ t.gt = (s.gtTo ((s.ana.cores.at core).calReq + 500000000)).gt))

/-- From R103 to R106, R130. An enabled channel's filters take every capture; the first two outputs and those of a stuck channel are not
written; an overcurrent event is held and sets STK_SDF_OC; 64 identical captures set the stuck flag, and captures with a transition clear it
and start the output count anew. Conventions that the model chose, in the log: entries 51, 52. -/
def Obligations.SigmaDeltaFiltersAndStuckFlag : Prop :=
  (∀ (s : State) (n : Fin 48) (bits : List Bool), s.inv = true → s.anaOn = true → s.flag (Reg.SDF_CFG n) F.SDF_CFG_EN = true →
    ∃ t, exec (.sinc3Output n bits) s = .next t ∧ s.keeps t ([.ana, .pan] ++ logParts) ∧
      (t.ana.sdf.at n).outputs = min 3 ((s.ana.sdf.at n).outputs + 1) ∧ (t.ana.sdf.at n).i3 = ((s.ana.sdf.at n).sinc3 bits).1.i3 ∧
      ((s.ana.sdf.at n).outputs < 2 ∨ s.sdfStuck n = true → t.pan = s.pan ∧ t.regs = s.regs) ∧
      ∀ k, k ≠ n.val → t.ana.sdf.at k = s.ana.sdf.at k) ∧
  (∀ (s : State) (n : Fin 48) (bits : List Bool), s.inv = true → s.anaOn = true → s.flag (Reg.SDF_CFG n) F.SDF_CFG_EN = true →
    s.flag (Reg.SDF_CFG n) F.SDF_CFG_OC_EN = true →
    ∃ t, exec (.ocFilterOutput n bits) s = .next t ∧ s.keeps t ([.ana, .pan, .cmp, .pwm, .gl] ++ logParts) ∧
      (let y := ((s.ana.sdf.at n).sinc2 bits).2 * 2 ^ 15
       let d : Int := (s.ocOsrOf n ^ 2 : Nat)
       let hi := sgn 16 (s.fld (Reg.SDF_OCTHR n) F.SDF_OCTHR_HI) * d < y
       let lo := y < sgn 16 (s.fld (Reg.SDF_OCTHR n) F.SDF_OCTHR_LO) * d
       ((hi ∨ lo) → (t.ana.sdf.at n).oc = true ∧ (t.ana.sdf.at n).ocSeen = true ∧ t.stuck Stk.SDF_OC = true) ∧
       (¬ hi → ¬ lo → (t.ana.sdf.at n).oc = false))) ∧
  (∀ (s : State) (n : Fin 48), s.inv = true → s.anaOn = true → s.flag (Reg.SDF_CFG n) F.SDF_CFG_EN = true →
    ∃ t, exec (.sddStuck n) s = .next t ∧ s.keeps t logParts ∧ t.sdfStuck n = true ∧ t.stuck Stk.SDD_STUCK = true) ∧
  (∀ (s : State) (n : Fin 48), s.inv = true → s.sdfStuck n = true →
    ∃ t, exec (.sddStuckClear n) s = .next t ∧ s.keeps t [.regs, .ana] ∧ t.sdfStuck n = false ∧ (t.ana.sdf.at n).outputs = 0)

/-- From R111, R112, R121 to R123, R132. RAW follows the input against the threshold and the hysteresis; OUT follows RAW unless it is held,
unresolved, blanked or settling; the end of a blanking window, and the cut of one that stays open for 2,048 ticks, let OUT take the value of
RAW. Four ticks before the next commit instant the comparator block takes its snapshot; the edges, the counts and the blanking hits since
the last one start anew, and OUT and RAW stay as they are. Conventions that the model chose, in the log: entries 53, 54, 55, 59. -/
def Obligations.ComparatorOutAndSnapshot : Prop :=
  ((∀ (s : State) (n : Fin 64) (vin cref : Int), s.inv = true → s.flag (Reg.CMP_CFG n) F.CMP_CFG_EN = true → s.cmpAlive n = true →
     (s.cmp.cmps.at n).unres = false →
     ∃ t, exec (.comparatorCrossing n vin cref) s = .next t ∧
       (t.cmp.cmps.at n).raw = rawOf (s.cmpPol n) (s.cmp.cmps.at n).raw vin (s.cmpRef n cref + s.cmpOfs n) (s.cmpHyst n) ∧
       ((s.cmp.cmps.at n).blank = false → (s.cmp.cmps.at n).held = false → (s.cmp.cmps.at n).settleUntil ≤ s.gt →
         (t.cmp.cmps.at n).out = (t.cmp.cmps.at n).raw) ∧
       ((s.cmp.cmps.at n).blank = true → (s.cmp.cmps.at n).held = false → (t.cmp.cmps.at n).out = (s.cmp.cmps.at n).out) ∧
       s.keeps t ([.ana, .cmp, .pwm, .gl, .safe, .pwr, .sup] ++ logParts)) ∧
   (∀ (s : State) (n : Fin 64), s.inv = true → s.flag (Reg.CMP_CFG n) F.CMP_CFG_EN = true → (s.cmp.cmps.at n).blank = true →
     (s.cmp.cmps.at n).unres = false → (s.cmp.cmps.at n).held = false → (s.cmp.cmps.at n).settleUntil ≤ s.gt →
     (∃ t, exec (.blankingEnd n) s = .next t ∧ (t.cmp.cmps.at n).out = (s.cmp.cmps.at n).raw ∧ (t.cmp.cmps.at n).raw = (s.cmp.cmps.at n).raw ∧
       t.gt = (s.gtTo (s.cmp.cmps.at n).blankEnd).gt ∧ s.keeps t ([.gt, .ana, .cmp, .pwm, .gl, .safe, .pwr, .sup] ++ logParts)) ∧
     ((s.cmp.cmps.at n).blankSince + 2048 < (s.cmp.cmps.at n).blankEnd →
       ∃ t, exec (.blankingLimit n) s = .next t ∧ (t.cmp.cmps.at n).out = (s.cmp.cmps.at n).raw ∧ t.stuck Stk.CMP_BLK_LONG = true ∧
         (t.cmp.cmps.at n).cutUntil = (s.cmp.cmps.at n).blankSince + 2064 ∧ t.gt = (s.gtTo ((s.cmp.cmps.at n).blankSince + 2048)).gt))) ∧
  (∀ s : State, s.commitsOn = true →
     ∃ t, exec .cmpSnapshot s = .next t ∧ s.keeps t ([.gt, .pan, .cmp] ++ logParts) ∧ t.cmp.busSeen = s.cmp.bus ∧
       t.gt = (s.gtTo (s.instantOf (s.commitFrom (max (s.gt + 4) (s.cmp.snapAt + 1))) - 4)).gt ∧ t.pan.committed = s.pan.committed ∧
       ∀ n, (t.cmp.cmps.at n).out = (s.cmp.cmps.at n).out ∧ (t.cmp.cmps.at n).raw = (s.cmp.cmps.at n).raw ∧ (t.cmp.cmps.at n).rise = false ∧
         (t.cmp.cmps.at n).fall = false ∧ (t.cmp.cmps.at n).hitSnap = false ∧ (t.cmp.cmps.at n).rises = 0)

/-- From R125, R126, R128. The two conversions of a seeding resolve a comparator, inside the widened band at its SAFE value with
STK_CMP_SEED_SAFE, outside it on the side where the input lies; one still unresolved after 1 ms sets STK_CMP_SEED_STARVED and stays
unresolved. A readback check of a safety-assigned comparator that passes releases OUT; one that fails, or is not completed within 10 ms,
sets its bit and holds OUT at 1. Conventions that the model chose, in the log: entries 2, 57, 58. -/
def Obligations.SeedingAndReadback : Prop :=
  ((∀ (s : State) (n : Fin 64) (vin vth : Int), s.inv = true → s.flag (Reg.CMP_CFG n) F.CMP_CFG_EN = true → s.powered = true →
     (s.cmp.cmps.at n).unres = true →
     ∃ t, exec (.seedingComplete n vin vth) s = .next t ∧ (t.cmp.cmps.at n).unres = false ∧
       (s.cmpPol n = false → vth + 4000000000 < vin → (t.cmp.cmps.at n).raw = true ∧ (t.cmp.cmps.at n).seedSafe = false) ∧
       (s.cmpPol n = false → vin < vth - s.cmpHyst n - 4000000000 → (t.cmp.cmps.at n).raw = false ∧ (t.cmp.cmps.at n).seedSafe = false) ∧
       (s.cmpPol n = false → vth - s.cmpHyst n - 4000000000 ≤ vin → vin ≤ vth + 4000000000 →
         (t.cmp.cmps.at n).raw = s.cmpSafeVal n ∧ (t.cmp.cmps.at n).seedSafe = true ∧ t.stuck Stk.CMP_SEED_SAFE = true) ∧
       (s.cmpPol n = true → vin < vth - 4000000000 → (t.cmp.cmps.at n).raw = true) ∧
       (s.cmpPol n = true → vth + s.cmpHyst n + 4000000000 < vin → (t.cmp.cmps.at n).raw = false)) ∧
   (∀ (s : State) (n : Fin 64), s.inv = true → s.flag (Reg.CMP_CFG n) F.CMP_CFG_EN = true → s.powered = true → (s.cmp.cmps.at n).unres = true →
     ∃ t, exec (.seedStarved n) s = .next t ∧ s.keeps t (.gt :: logParts) ∧ t.stuck Stk.CMP_SEED_STARVED = true ∧
       t.gt = (s.gtTo ((s.cmp.cmps.at n).unresSince + 500000)).gt)) ∧
  ((∀ (s : State) (n : Fin 64) (dac thr : Int), s.inv = true → s.cmpSafe n = true → s.powered = true →
     ∃ t, exec (.cmpReadbackCheck n dac thr) s = .next t ∧
       (s.cmpCheckOk n dac thr = true → (t.cmp.cmps.at n).held = false) ∧
       (s.cmpCheckOk n dac thr = false → (t.cmp.cmps.at n).held = true ∧ t.stuck Stk.CMP_DAC_FAIL = true ∧
         (s.flag (Reg.CMP_CFG n) F.CMP_CFG_EN = true → (t.cmp.cmps.at n).out = true)) ∧
       s.keeps t ([.ana, .cmp, .pwm, .gl, .safe, .pwr, .sup] ++ logParts)) ∧
   (∀ (s : State) (n : Fin 64), s.inv = true → s.cmpSafe n = true → s.powered = true →
     ∃ t, exec (.readbackCheckTimeout n) s = .next t ∧ (t.cmp.cmps.at n).held = true ∧ t.stuck Stk.CMP_DIAG_STARVED = true ∧
       (s.flag (Reg.CMP_CFG n) F.CMP_CFG_EN = true → (t.cmp.cmps.at n).out = true) ∧
       t.gt = (s.gtTo ((s.cmp.cmps.at n).checkedAt + 5000000)).gt ∧
       s.keeps t ([.gt, .ana, .cmp, .pwm, .gl, .safe, .pwr, .sup] ++ logParts)))

/-- From R152, R171, R189, R155, R156, R161 to R163. When the last store has been accepted the epoch of a binding is over, its cycles are shown,
and its data memory can be read by a dump; a drain of 16 cycles stands between two sections, and the next due section starts at its first
word with empty accumulators; reading KET_CYCMAX clears it. At the boundary of an epoch a clean dwell ends an escalation and, with AUTO_RET,
brings a binding back from FALLBACK; a mode command acts at its epoch; a swap request is taken for a boundary that is still to come, and at
that boundary the banks exchange, the words outside the INIT ranges staying; without a marked image it is cancelled. Conventions that the
model chose, in the log: entries 4, 60, 68, 69, 70, 71, 72, 74. -/
def Obligations.EnginesEndEpochsAndChangeModes : Prop :=
  ((∀ (s : State) (b : Fin 12), s.inv = true → (s.bd b).run.active = true → (s.bd b).run.ended = true → s.pwr.leaving = none →
     ∃ t, exec (.kettleCompletion b) s = .next t ∧ s.keeps t [.regs, .ket] ∧ s.sameRegs t [Reg.KET_CYC b, Reg.KET_CYCMAX b] ∧
       (t.bd b).run.active = false ∧ (t.bd b).dump = (s.bd b).data ∧ (t.bd b).data = (s.bd b).data ∧
       t.fld (Reg.KET_CYC b) F.KET_CYC_CYC = (s.bd b).run.cyc % 2 ^ 20 ∧
       t.fld (Reg.KET_CYCMAX b) F.KET_CYCMAX_CYC = max (s.fld (Reg.KET_CYCMAX b) F.KET_CYCMAX_CYC) ((s.bd b).run.cyc % 2 ^ 20)) ∧
   (∀ (s : State) (b : Fin 12) (waits : Nat), s.inv = true → (s.bd b).run.active = true → (s.bd b).run.drain = true → (s.bd b).run.ended = false →
     ∃ t, exec (.sectionDrainEnd b waits) s = .next t ∧ s.keeps t [.ket] ∧ (t.bd b).run.drain = false ∧
       (t.bd b).run.due = (s.bd b).run.due.tail ∧ (t.bd b).data = (s.bd b).data ∧
       ((s.bd b).run.due.tail = [] → (t.bd b).run.ended = true ∧ (s.fabricSlow = false → (t.bd b).run.cyc = (s.bd b).run.cyc + 16)) ∧
       (∀ i r, (s.bd b).run.due.tail = i :: r → (t.bd b).run.pc = ((s.bd b).part.at i).start ∧ (t.bd b).run.acc = List.replicate 4 {} ∧
         (t.bd b).run.ended = false)) ∧
   (∀ (s : State) (b : Fin 12), s.inv = true →
     ∃ t, exec (.ketCycmaxRead b) s = .next t ∧ s.keeps t [.regs, .out] ∧ s.sameRegs t [Reg.KET_CYCMAX b] ∧
       t.out.value = s.reg (Reg.KET_CYCMAX b) ∧ t.reg (Reg.KET_CYCMAX b) = 0#32)) ∧
  ((∀ (s : State) (b : Fin 12), s.inv = true → s.openEpoch.isSome = true → (s.bd b).mode ≠ .stopped →
     max 1 (s.fld (Reg.KET_OVRCFG b) F.KET_OVRCFG_FB_DWELL) ≤ (s.bd b).good →
     ∃ t, exec (.escalationReset b) s = .next t ∧ s.keeps t [.ket, .pan] ∧ (t.bd b).esc = 0 ∧ (t.bd b).mode = (s.bd b).mode ∧
       (s.panOk = true → t.pan.committed.get zeroes (0xF020 + b.val) = t.ketStatus b)) ∧
   (∀ (s : State) (b : Fin 12), s.inv = true → s.openEpoch.isSome = true → s.dev = .run → (s.bd b).mode = .fallback → (s.bd b).fbAt = none →
     s.flag (Reg.KET_BCTRL b) F.KET_BCTRL_AUTO_RET = true → max 1 (s.fld (Reg.KET_OVRCFG b) F.KET_OVRCFG_FB_DWELL) ≤ (s.bd b).fbGood →
     ∃ t, exec (.fallbackAutoReturn b) s = .next t ∧ s.keeps t [.ket, .pan] ∧ (t.bd b).mode = .main ∧ (t.bd b).esc = (s.bd b).esc) ∧
   (∀ (s : State) (b : Fin 12) (m : KModeCmd), s.inv = true → (s.bd b).modeCmd = some m → s.openEpoch = some m.epoch → (s.bd b).fbAt = none →
     ∃ t, exec (.engineModeAtEpoch b) s = .next t ∧ s.keeps t ([.ket, .pan] ++ logParts) ∧ (t.bd b).modeCmd = none ∧
       (s.dev = .run → m.resume = true → (s.bd b).mode = .fallback → (t.bd b).mode = .main) ∧
       (s.dev = .run → m.resume = false → (s.bd b).mode = .main → (t.bd b).mode = .fallback ∧ t.stuck (Stk.KET_FB b) = true) ∧
       ((s.bd b).mode = .stopped → (t.bd b).mode = .stopped)) ∧
   (∀ (s : State) (b : Fin 12) (val : Word), s.inv = true → b.val < s.engines → (s.bd b).swap = none → s.swapStatus b = stOk →
     val.getLsbD 31 = true →
     (let e := s.regN (Reg.KET_SWAPEP_LO b) + 2 ^ 32 * (val.toNat % 65536)
      ∃ t, exec (.swapRequest b val) s = .next t ∧ s.keeps t (.ket :: logParts) ∧ (t.bd b).act = (s.bd b).act ∧
        (s.gt < e * s.tim.epLen → (t.bd b).swap = some { epoch := e }) ∧
        (e * s.tim.epLen ≤ s.gt → (t.bd b).swap = none ∧ t.stuck (Stk.KET_SWAP_CANCEL b) = true))) ∧
   (∀ (s : State) (b : Fin 12) (q : KSwap), s.inv = true → s.dataOk = true → (s.bd b).swap = some q → s.openEpoch = some q.epoch →
     (s.bd b).fbAt = none → (s.bd b).ovrAt ≠ some (2 * q.epoch) → (s.bd b).mode ≠ .stopped →
     ∃ t, exec (.swapAtEpoch b) s = .next t ∧ s.keeps t ([.ket, .pan, .fw] ++ logParts) ∧ (t.bd b).swap = none ∧
       ((s.bd b).other.mark = true → (t.bd b).act = 1 - (s.bd b).act ∧ ((s.bd b).mode = .fallback → (t.bd b).mode = .main) ∧
         ∀ a, (s.bd b).other.inInit a = false → (∀ e, e ∈ (s.bd b).other.inits → e.1 ≠ a) → (t.bd b).word a = (s.bd b).word a) ∧
       ((s.bd b).other.mark = false → (t.bd b).act = (s.bd b).act ∧ t.stuck (Stk.KET_SWAP_CANCEL b) = true ∧ (t.bd b).data = (s.bd b).data)))

/-- From R165 to R167. A rotation picks its donor when the interval has passed; an idle donor's binding goes to the spare after the copy, a
running one after 16 epochs of agreement, and the donor is tested; a mismatch leaves the binding where it is and tests the spare. The engine
that passes becomes the spare, the one that fails retires. Conventions that the model chose, in the log: entries 2, 76, 77, 78. -/
def Obligations.RotationMovesBindingToSpare : Prop :=
  (∀ (s : State) (p : Nat), s.ket.spare = some p → s.ket.rot = .idle → s.flag Reg.KET_SPARECFG F.KET_SPARECFG_EN = true →
    s.dev = .run ∨ s.dev = .standby →
    ∃ t, exec .rotationStart s = .next t ∧ s.keeps t [.gt, .ket] ∧ t.ket.donor = s.nextDonor p ∧ t.ket.spare = some p ∧ t.ket.phys = s.ket.phys ∧
      t.gt = (s.gtTo (s.ket.rotAt + clampNat 1 3600 (s.fld Reg.KET_SPARECFG F.KET_SPARECFG_ROT_INT) * 500000000)).gt ∧
      t.ket.rot = (if (s.nextDonor p).isSome then .copy else .idle)) ∧
  (∀ (s : State) (sp dn : Nat), s.ket.rot = .copy → s.ket.spare = some sp → s.ket.donor = some dn →
    ∃ t, exec .copyComplete s = .next t ∧ s.keeps t [.ket] ∧ t.ket.bind = s.ket.bind ∧
      (s.donorIdle dn = true → t.ket.rot = .bist ∧ t.ket.testing = some dn ∧ t.ket.phys = s.ket.phys.map (fun p => if p = some dn then some sp else p)) ∧
      (s.donorIdle dn = false → t.ket.rot = .shadow ∧ t.ket.shadowed = 0 ∧ t.ket.phys = s.ket.phys)) ∧
  (∀ (s : State) (sp dn : Nat), s.inv = true → s.ket.rot = .shadow → s.ket.spare = some sp → s.ket.donor = some dn →
    (∃ t, exec (.handover false) s = .next t ∧ s.keeps t (.ket :: logParts) ∧ t.ket.rot = .bist ∧ t.ket.testing = some sp ∧ t.ket.spare = none ∧
      t.ket.phys = s.ket.phys ∧ t.stuck Stk.KET_SPARE_MISMATCH = true) ∧
    (s.openEpoch.isSome = true → 16 ≤ s.ket.shadowed →
      ∃ t, exec (.handover true) s = .next t ∧ s.keeps t ([.ket, .pan] ++ logParts) ∧ t.ket.rot = .bist ∧ t.ket.testing = some dn ∧
        t.ket.phys = s.ket.phys.map (fun p => if p = some dn then some sp else p) ∧
        t.regN Reg.KET_ROTCNT = min (s.regN Reg.KET_ROTCNT + 1) (2 ^ 32 - 1))) ∧
  (∀ (s : State) (p : Nat), s.inv = true → s.ket.rot = .bist → s.ket.testing = some p →
    (∃ t, exec (.bistComplete true) s = .next t ∧ s.keeps t (.ket :: logParts) ∧ t.ket.rot = .idle ∧ t.ket.spare = some p ∧
      t.regN Reg.KET_BISTCNT = min (s.regN Reg.KET_BISTCNT + 1) (2 ^ 32 - 1) ∧ t.ket.retired = s.ket.retired) ∧
    (∃ t, exec (.bistComplete false) s = .next t ∧ s.keeps t (.ket :: logParts) ∧ t.ket.rot = .idle ∧ t.ket.retired = s.ket.retired ||| 2 ^ p ∧
      t.stuck Stk.KET_BIST_FAIL = true ∧ t.stuck Stk.KET_SPARE_LOST = true))

/-- From R175 to R177, R173, R176, R186, R187. NOP and LOOP cost one cycle; NOP changes nothing else, LOOP opens a loop over the words that
follow it. The instructions on flags. Each writes flag QD, but not Q0, and no other flag and no data; CMPP compares exact values, and its
condition codes 6 and 7 are undefined. Conventions that the model chose, in the log: entry 60. -/
def Obligations.NopLoopAndFlagInstructions : Prop :=
  ((∀ (b : Fin 12) (h : KHead) (s : State), s.inv = true → (s.bd b).atWord (encN 0x00 h) = true →
     s.wordDoes b (.nop b h) h 1 [.ket] (s.idles · b)) ∧
   (∀ (b : Fin 12) (f : KL) (s : State), s.inv = true → (s.bd b).atWord (encL 0x01 f) = true →
     ∃ t, exec (.loop b f) s = .next t ∧ s.idles t b ∧ (t.bd b).run.pc = (s.bd b).run.pc + 1 ∧ (t.bd b).run.cyc = (s.bd b).run.cyc + 1 ∧
       (t.bd b).run.loops = { j := f.jl.val, n := f.n1.val + 1, first := (s.bd b).run.pc + 1, stop := (s.bd b).run.pc + 2 + f.l1.val } :: (s.bd b).run.loops)) ∧
  ((∀ (b : Fin 12) (h : KHead) (f : KE) (s : State), s.inv = true → (s.bd b).atWord (encE 0x08 h f) = true →
     (6 ≤ f.cond.val → exec (.cmpp b h f) s = .fault .undefinedCode) ∧
     (f.cond.val < 6 → s.wordDoes b (.cmpp b h f) h 1 [.ket] (fun t =>
       (t.bd b).data = (s.bd b).data ∧ (∀ k, k ≠ f.qd.val → (t.bd b).run.flags.testBit k = (s.bd b).run.flags.testBit k) ∧
       (f.qd.val ≠ 0 → (t.bd b).run.flags.testBit f.qd.val =
         condHolds f.cond.val ((s.bd b).elem f.sa.val (f.ea.val + (s.bd b).jval h)) ((s.bd b).elem f.sb.val (f.eb.val + (s.bd b).jval h))) ∧
       (f.qd.val = 0 → (t.bd b).run.flags = (s.bd b).run.flags)))) ∧
   (∀ (b : Fin 12) (h : KHead) (f : KC) (s : State), s.inv = true → (s.bd b).atWord (encC 0x09 h f) = true →
     s.wordDoes b (.plog b h f) h 1 [.ket] (fun t =>
       let p := (s.bd b).run.flags.testBit f.qa.val
       let q := (s.bd b).run.flags.testBit f.qb.val
       (t.bd b).data = (s.bd b).data ∧ (∀ k, k ≠ f.qd.val → (t.bd b).run.flags.testBit k = (s.bd b).run.flags.testBit k) ∧
       (f.qd.val ≠ 0 → (f.fn.val = 0 → (t.bd b).run.flags.testBit f.qd.val = (p && q)) ∧
         (f.fn.val = 1 → (t.bd b).run.flags.testBit f.qd.val = (p || q)) ∧ (f.fn.val = 2 → (t.bd b).run.flags.testBit f.qd.val = (p != q)) ∧
         (f.fn.val = 3 → (t.bd b).run.flags.testBit f.qd.val = (p && !q))) ∧
       (f.qd.val = 0 → (t.bd b).run.flags = (s.bd b).run.flags))) ∧
   (∀ (b : Fin 12) (h : KHead) (f : KB) (s : State), s.inv = true → (s.bd b).atWord (encB 0x0A h f) = true →
     s.wordDoes b (.pbit b h f) h 1 [.ket] (fun t =>
       (t.bd b).data = (s.bd b).data ∧ (∀ k, k ≠ f.qd.val → (t.bd b).run.flags.testBit k = (s.bd b).run.flags.testBit k) ∧
       (f.qd.val ≠ 0 → (t.bd b).run.flags.testBit f.qd.val = ((s.bd b).word f.w.val).getLsbD f.bit.val) ∧
       (f.qd.val = 0 → (t.bd b).run.flags = (s.bd b).run.flags))) ∧
   (∀ (b : Fin 12) (h : KHead) (f : KT) (s : State), s.inv = true → (s.bd b).atWord (encT 0x0B h f) = true →
     s.wordDoes b (.pfresh b h f) h 16 ([.ket, .pan] ++ logParts) (fun t =>
       let n := f.slot.val + (s.bd b).jval h
       (t.bd b).data = (s.bd b).data ∧ (∀ k, k ≠ f.qd.val → (t.bd b).run.flags.testBit k = (s.bd b).run.flags.testBit k) ∧
       (f.qd.val ≠ 0 → (t.bd b).run.flags.testBit f.qd.val = (decide (s.ownerOf n ≠ 0) && s.fresh n)) ∧
       (f.qd.val = 0 → (t.bd b).run.flags = (s.bd b).run.flags))))

/-- From R183, R187. The instructions on raw words take 32-bit words, wrap, and write one word; the shift code 3 of ISH is undefined.
Conventions that the model chose, in the log: entry 60. -/
def Obligations.RawWordInstructionsWriteOneWord : Prop :=
  rawClause .iadd 0x50 (fun _ x y => x + y) ∧ rawClause .isub 0x51 (fun _ x y => x - y) ∧ rawClause .iand 0x52 (fun _ x y => x &&& y) ∧
  rawClause .ior 0x53 (fun _ x y => x ||| y) ∧ rawClause .ixor 0x54 (fun _ x y => x ^^^ y) ∧
  (∀ (b : Fin 12) (h : KHead) (f : KW) (s : State), s.inv = true → s.dataOk = true → (s.bd b).atWord (encW 0x55 h f) = true →
    (f.sht.val = 3 → exec (.ish b h f) s = .fault .undefinedCode) ∧
    (f.sht.val ≠ 3 → s.wordDoes b (.ish b h f) h 1 [.ket] (fun t =>
      (f.sht.val = 0 → (t.bd b).word f.wd.val = (s.bd b).word f.wa.val <<< f.shn.val) ∧
      (f.sht.val = 1 → (t.bd b).word f.wd.val = (s.bd b).word f.wa.val >>> f.shn.val) ∧
      (f.sht.val = 2 → (t.bd b).word f.wd.val = ((s.bd b).word f.wa.val).sshiftRight f.shn.val) ∧ s.wordsBut t b (fun a => a = f.wd.val)))) ∧
  (∀ (b : Fin 12) (h : KHead) (f : KI) (s : State), s.inv = true → s.dataOk = true → (s.bd b).atWord (encI 0x56 h f) = true →
    s.wordDoes b (.imov b h f) h 1 [.ket] (fun t =>
      (t.bd b).word f.wd.val = BitVec.ofNat 32 f.imm.val ∧ s.wordsBut t b (fun a => a = f.wd.val)))

/-- From R143, R145, R185, R187. The element-wise instructions read every element before they write one, round each result once, saturate it,
and leave the rest of the data memory. Conventions that the model chose, in the log: entry 60. -/
def Obligations.VectorInstructionsActElementWise : Prop :=
  vecClause .vadd 0x20 true (fun x y => x.add y) ∧ vecClause .vsub 0x21 true (fun x y => x.add y.neg) ∧ vecClause .vmul 0x22 true (fun x y => x.mul y) ∧
  vecClause .vmax 0x23 true (fun x y => if x.lt y then y else x) ∧ vecClause .vmin 0x24 true (fun x y => if y.lt x then y else x) ∧
  vecClause .vabs 0x25 false (fun x _ => x.abs) ∧ vecClause .vneg 0x26 false (fun x _ => x.neg) ∧
  vecClause .vclamp 0x27 true (fun x y => (x.max y.abs.neg).min y.abs) ∧ vecClause .vmov 0x28 false (fun x _ => x)

/-- From R141 to R143, R187, R144. MACZ empties an accumulator and sets its exponent; MAC, MNS and MACV add exact products, MACV's in turn to
the four accumulators; a saturated accumulator keeps its value; ACCRED adds A1 to A3 to A0 and empties them; MACW writes an accumulator to
an element. SEXP, SADJ and NORM change the exponent of a stage and rescale its mantissas; SADJ holds the exponent to its range, and NORM
never raises it. Conventions that the model chose, in the log: entries 60, 61, 62, 64. -/
def Obligations.AccumulatorAndExponentInstructions : Prop :=
  ((∀ (b : Fin 12) (h : KHead) (f : KA) (s : State), s.inv = true → (s.bd b).atWord (encA 0x30 h f) = true →
     s.wordDoes b (.macz b h f) h 1 [.ket] (fun t =>
       (t.bd b).run.acc.at f.an.val = { a := 0, x := sgn 8 f.x.val } ∧ (t.bd b).data = (s.bd b).data ∧
       ∀ k, k ≠ f.an.val → (t.bd b).run.acc.at k = (s.bd b).run.acc.at k)) ∧
   (∀ (neg : Bool) (b : Fin 12) (h : KHead) (f : KE) (s : State), s.inv = true → (s.bd b).atWord (encE (if neg then 0x35 else 0x31) h f) = true →
     s.wordDoes b (if neg then .mns b h f else .mac b h f) h 1 (.ket :: logParts) (fun t =>
       let p := (s.bd b).mant f.sa.val (f.ea.val + (s.bd b).jval h) * (s.bd b).mant f.sb.val (f.eb.val + (s.bd b).jval h)
       let c := (s.bd b).run.acc.at f.an.val
       let r := c.a + alignTo c.x (if neg then -p else p) (((s.bd b).stage f.sa.val).exp + ((s.bd b).stage f.sb.val).exp)
       (c.sat = true → (t.bd b).run.acc.at f.an.val = c) ∧
       (c.sat = false → ((t.bd b).run.acc.at f.an.val).a = satTo 56 r ∧ (satTo 56 r ≠ r → t.stuck (Stk.KET_ACCSAT b) = true)) ∧
       (t.bd b).data = (s.bd b).data ∧ ∀ k, k ≠ f.an.val → (t.bd b).run.acc.at k = (s.bd b).run.acc.at k)) ∧
   (∀ (b : Fin 12) (h : KHead) (f : KS) (s : State), s.inv = true → (s.bd b).atWord (encS 0x32 h f) = true →
     s.wordDoes b (.macv b h f) h ((((s.bd b).stage f.sa.val).len + 3) / 4 + 1) (.ket :: logParts) (fun t =>
       (t.bd b).data = (s.bd b).data ∧ ∀ k, k < 4 → (t.bd b).run.acc.at k =
         ((List.range ((s.bd b).stage f.sa.val).len).filter (fun i => i % 4 = k)).foldl
           (fun c i => c.add ((s.bd b).mant f.sa.val i * (s.bd b).mant f.sb.val (if f.bcb then f.eb.val + (s.bd b).jval h else i))
             (((s.bd b).stage f.sa.val).exp + ((s.bd b).stage f.sb.val).exp)) ((s.bd b).run.acc.at k))) ∧
   (∀ (b : Fin 12) (h : KHead) (f : KA) (s : State), s.inv = true → (s.bd b).atWord (encA 0x33 h f) = true →
     s.wordDoes b (.accred b h f) h 2 (.ket :: logParts) (fun t =>
       let c := fun k => (s.bd b).run.acc.at k
       (t.bd b).run.acc.at 0 = (((c 0).add (c 1).a (c 1).x).add (c 2).a (c 2).x).add (c 3).a (c 3).x ∧ (t.bd b).data = (s.bd b).data ∧
       ∀ k, k = 1 ∨ k = 2 ∨ k = 3 → (t.bd b).run.acc.at k = { c k with a := 0, sat := false })) ∧
   (∀ (b : Fin 12) (h : KHead) (f : KE) (s : State), s.inv = true → s.dataOk = true → (s.bd b).atWord (encE 0x34 h f) = true →
     s.wordDoes b (.macw b h f) h 1 (.ket :: logParts) (fun t =>
       let c := (s.bd b).run.acc.at f.an.val
       s.elemIs t b f.sd.val (f.ed.val + (s.bd b).jval h) ⟨c.a, c.x - 46⟩))) ∧
  (∀ (b : Fin 12) (h : KHead) (f : KS) (s : State), s.inv = true → s.dataOk = true → (s.bd b).act < 2 →
     f.sd.val < (s.bd b).bank.stages.length →
     (let n := ((s.bd b).stage f.sd.val).len
      let e := ((s.bd b).stage f.sd.val).exp
      let does := fun (i : Instr) (cost : Nat) (e' : Int) => s.wordDoes b i h cost (.ket :: logParts) (fun t =>
        ((t.bd b).stage f.sd.val).exp = e' ∧
        (∀ i, i < n → (t.bd b).mant f.sd.val i = satTo 24 (shiftRound ((s.bd b).mant f.sd.val i) (e - e'))) ∧
        s.wordsBut t b (fun a => ((s.bd b).stage f.sd.val).base ≤ a ∧ a < ((s.bd b).stage f.sd.val).base + n))
      ((s.bd b).atWord (encS 0x38 h f) = true → does (.sexp b h f) ((n + 3) / 4 + 1) (sgn 8 f.imm.val)) ∧
      ((s.bd b).atWord (encS 0x39 h f) = true → does (.sadj b h f) ((n + 3) / 4 + 1) (satTo 8 (e + sgn 8 f.imm.val))) ∧
      ((s.bd b).atWord (encS 0x3A h f) = true →
        ∃ k : Int, 0 ≤ k ∧ k ≤ 23 ∧ does (.norm b h f) (2 * ((n + 3) / 4) + 2) (e - k))))

/-- From R183, R188. The functions of one element or angle. SQRT of a negative element gives 0, RECIP of zero the largest mantissa, both with
the stage's sticky bit; every result is rounded once. Conventions that the model chose, in the log: entries 60, 63. -/
def Obligations.FunctionInstructionsWriteTheirResult : Prop :=
  (∀ (b : Fin 12) (h : KHead) (f : KE) (s : State), s.inv = true → s.dataOk = true →
    (let x := s.bd b
     let v := x.elem f.sa.val (f.ea.val + x.jval h)
     let ed := f.ed.val + x.jval h
     (x.atWord (encE 0x40 h f) = true → s.wordDoes b (.sqrt b h f) h 10 (.ket :: logParts) (fun t =>
       (0 ≤ v.m → s.elemIs t b f.sd.val ed (sqrtDy v.m.toNat v.e)) ∧
       (v.m < 0 → (t.bd b).mant f.sd.val ed = 0 ∧ t.stuck (Stk.KET_SAT b) = true ∧ s.wordsBut t b (fun a => a = (x.stage f.sd.val).base + ed)))) ∧
     (x.atWord (encE 0x41 h f) = true → s.wordDoes b (.recip b h f) h 10 (.ket :: logParts) (fun t =>
       s.wordsBut t b (fun a => a = (x.stage f.sd.val).base + ed) ∧
       (v.m ≠ 0 → (t.bd b).mant f.sd.val ed = satTo 24 (recipMant v.m (x.stage f.sa.val).exp (x.stage f.sd.val).exp)) ∧
       (v.m = 0 → (t.bd b).mant f.sd.val ed = 2 ^ 23 - 1 ∧ t.stuck (Stk.KET_SAT b) = true))))) ∧
  (∀ (b : Fin 12) (h : KHead) (f : KX) (s : State), s.inv = true → s.dataOk = true →
    (let x := s.bd b
     let ed := f.ed.val + x.jval h
     let w := x.word f.w.val
     (x.atWord (encX 0x42 h f) = true → s.wordDoes b (.sincos b h f) h 6 (.ket :: logParts) (fun t =>
       (t.bd b).mant f.sd.val ed = x.mantOf f.sd.val ⟨(cosSin w.toNat).1, -256⟩ ∧
       (t.bd b).mant f.sd.val (ed + 1) = x.mantOf f.sd.val ⟨(cosSin w.toNat).2, -256⟩ ∧
       s.wordsBut t b (fun a => a = (x.stage f.sd.val).base + ed ∨ a = (x.stage f.sd.val).base + ed + 1))) ∧
     (x.atWord (encX 0x43 h f) = true → s.wordDoes b (.atan2 b h f) h 12 [.ket] (fun t =>
       (let p := x.elem f.sd.val ed
        let q := x.elem f.sb.val (f.eb.val + x.jval h)
        (t.bd b).word f.w.val = atan2Word (p.m * 2 ^ (p.e - min p.e q.e).toNat) (q.m * 2 ^ (q.e - min p.e q.e).toNat)) ∧
       s.wordsBut t b (fun a => a = f.w.val))) ∧
     (x.atWord (encX 0x44 h f) = true → s.wordDoes b (.angf b h f) h 2 (.ket :: logParts) (fun t => s.elemIs t b f.sd.val ed ⟨w.toInt, -32⟩)) ∧
     (x.atWord (encX 0x45 h f) = true → s.wordDoes b (.fang b h f) h 2 [.ket] (fun t =>
       (t.bd b).word f.w.val = BitVec.ofInt 32 (shiftRound (x.elem f.sd.val ed).m ((x.elem f.sd.val ed).e + 32)) ∧ s.wordsBut t b (fun a => a = f.w.val))) ∧
     (x.atWord (encX 0x46 h f) = true → s.wordDoes b (.itof b h f) h 2 (.ket :: logParts) (fun t => s.elemIs t b f.sd.val ed ⟨w.toInt, 0⟩))))

/-- From R181, R182. LDP and LDR bring committed values to elements and to a raw word; STP and STR send elements and a raw word to the pending
bank of the section's destination, where they own the slot and are in time. Conventions that the model chose, in the log: entries 60, 65. -/
def Obligations.PortInstructionsMoveSlots : Prop :=
  (∀ (b : Fin 12) (h : KHead) (f : KP) (s : State), s.inv = true → s.dataOk = true → (s.bd b).atWord (encP 0x10 h f) = true →
    s.wordDoes b (.ldp b h f) h (18 + 2 * f.c1.val) ([.ket, .pan] ++ logParts) (fun t =>
      (∀ i, i ≤ f.c1.val → (t.bd b).mant f.sd.val (f.e0.val + i) =
        (s.bd b).mantOf f.sd.val (bfVal (s.slot (f.slot.val + (s.bd b).jval h + i)))) ∧
      t.pan.committed = s.pan.committed ∧ t.pan.pend = s.pan.pend ∧
      s.wordsBut t b (fun a => ((s.bd b).stage f.sd.val).base + f.e0.val ≤ a ∧ a ≤ ((s.bd b).stage f.sd.val).base + f.e0.val + f.c1.val))) ∧
  (∀ (b : Fin 12) (h : KHead) (f : KT) (s : State), s.inv = true → s.dataOk = true → (s.bd b).atWord (encT 0x11 h f) = true →
    s.wordDoes b (.ldr b h f) h 18 ([.ket, .pan] ++ logParts) (fun t =>
      (t.bd b).word f.w.val = s.slot (f.slot.val + (s.bd b).jval h) ∧ t.pan.committed = s.pan.committed ∧ t.pan.pend = s.pan.pend ∧
      s.wordsBut t b (fun a => a = f.w.val))) ∧
  (∀ (b : Fin 12) (h : KHead) (s : State), s.inv = true → s.gt < s.instantOf (s.bd b).dest → s.nextCommit ≤ (s.bd b).dest →
    (s.bd b).dest ≤ s.commitAfter s.nextCommit →
    (let free := fun n => s.ownerOf n = 0x10 + b.val ∧ ((s.pan.pend.find (s.bd b).dest).getD []).find n = none
     let sent := fun (t : State) n v => ((t.pan.pend.find (s.bd b).dest).getD []).find n = some { val := v, ord := (s.bd b).run.cyc }
     (∀ f : KP, (s.bd b).atWord (encP 0x18 h f) = true → (∀ i, i ≤ f.c1.val → free (f.slot.val + (s.bd b).jval h + i)) →
       s.wordDoes b (.stp b h f) h (4 + 2 * f.c1.val) [.ket, .pan] (fun t =>
         (∀ i, i ≤ f.c1.val → sent t (f.slot.val + (s.bd b).jval h + i) (toBF ((s.bd b).elem f.sd.val (f.e0.val + i))).w) ∧
         t.pan.committed = s.pan.committed ∧ (t.bd b).data = (s.bd b).data)) ∧
     (∀ f : KT, (s.bd b).atWord (encT 0x19 h f) = true → free (f.slot.val + (s.bd b).jval h) →
       s.wordDoes b (.str b h f) h 4 [.ket, .pan] (fun t =>
         sent t (f.slot.val + (s.bd b).jval h) ((s.bd b).word f.w.val) ∧ t.pan.committed = s.pan.committed ∧ (t.bd b).data = (s.bd b).data))))

/-- From R245, R249, R252, R253, R271, R257, R258, R263, R284. The boundaries of a group lie at its phase in every period, and each is counted;
at one in RUN an armed host set loads whole and ARM clears. The point in the middle of a period and the TRGA position each come once a
period. A channel that is on goes off at its planned end; one that is off goes on when its plan falls due, for at least MINP, where no fault
holds it; while the permit is closed nothing reaches the pin and a carry is lost. No other channel changes. Conventions that the model
chose, in the log: entries 2, 110, 112, 113, 114. -/
def Obligations.CarrierPointsAndEdges : Prop :=
  ((∀ (s : State) (g : Fin 32), s.inv = true → s.powered = true → s.flag Reg.CLK_STAT F.CLK_STAT_DLL_LOCK = true → g.val < s.groups →
     s.flag (Reg.PWM_LGCFG g) F.PWM_LGCFG_EN = true → s.pwr.leaving = none →
     ∃ t b, exec (.periodBoundary g) s = .next t ∧ s.keeps t ([.gt, .ana, .cmp, .pwm, .gl] ++ logParts) ∧
       b % max 500 (s.fld (Reg.PWM_PER g) F.PWM_PER_PER) =
         min (s.fld (Reg.PWM_PH g) F.PWM_PH_PH) (max 500 (s.fld (Reg.PWM_PER g) F.PWM_PER_PER) - 1) ∧
       s.gt ≤ b ∧ t.gt = (s.gtTo b).gt ∧ (t.pwm.lgs.at g).bnd = b ∧ (t.pwm.lgs.at g).anyBnd = true ∧
       t.regN (Reg.PWM_PERCNT g) = (s.regN (Reg.PWM_PERCNT g) + 1) % 2 ^ 32 ∧
       (s.dev = .run → s.fld (Reg.PWM_LGCFG g) F.PWM_LGCFG_SRC ≠ 0 → s.flag (Reg.PWM_HUPD g) F.PWM_HUPD_ARM = true → (s.pwm.lgs.at g).armGt < b →
         t.flag (Reg.PWM_HUPD g) F.PWM_HUPD_ARM = false ∧
         ∀ c, c < 6 → s.cmpOk g (s.regN (Reg.PWM_CMPA g + 4 * c)) = true → t.reg (Reg.PWM_ACT g c) = s.reg (Reg.PWM_CMPA g + 4 * c))) ∧
   (∀ (s : State) (g : Fin 32), s.inv = true → s.powered = true → s.flag Reg.CLK_STAT F.CLK_STAT_DLL_LOCK = true →
     s.flag (Reg.PWM_LGCFG g) F.PWM_LGCFG_EN = true → (s.pwm.lgs.at g).anyBnd = true →
     ((s.pwm.lgs.at g).midFor ≠ (s.pwm.lgs.at g).bnd + 1 →
       ∃ t, exec (.midPeriodPoint g) s = .next t ∧ s.keeps t ([.gt, .ana, .pwm] ++ logParts) ∧
         t.gt = (s.gtTo ((s.pwm.lgs.at g).bnd + max 500 (s.fld (Reg.PWM_PER g) F.PWM_PER_PER) / 2)).gt ∧
         (t.pwm.lgs.at g).midFor = (s.pwm.lgs.at g).bnd + 1 ∧ (t.pwm.lgs.at g).bnd = (s.pwm.lgs.at g).bnd) ∧
     ((s.pwm.lgs.at g).trgFor ≠ (s.pwm.lgs.at g).bnd + 1 →
       s.regN (Reg.PWM_ACT g 6) + 32 ≤ 32 * max 500 (s.fld (Reg.PWM_PER g) F.PWM_PER_PER) →
       ∃ t, exec (.triggerCompare g) s = .next t ∧ s.keeps t ([.gt, .ana, .pwm] ++ logParts) ∧
         t.gt = (s.gtTo ((s.pwm.lgs.at g).bnd + s.regN (Reg.PWM_ACT g 6) / 32)).gt ∧ t.pwm.chs = s.pwm.chs ∧
         (t.pwm.lgs.at g).trgFor = (s.pwm.lgs.at g).bnd + 1))) ∧
  (∀ (s : State) (n : Fin 192), s.inv = true → (s.pwm.lgs.at (lgOf n)).anyBnd = true →
     (let limit := 32 * s.boundaryFrom (lgOf n) ((s.pwm.lgs.at (lgOf n)).bnd + 1)
      ∃ t, exec (.scheduledEdge n) s = .next t ∧ s.keeps t ([.gt, .cmp, .pwm, .gl] ++ logParts) ∧
        (∀ k, k ≠ n.val → t.pwm.chs.at k = s.pwm.chs.at k ∧ t.gl.chs.at k = s.gl.chs.at k) ∧
        (∀ e, (s.pwm.chs.at n).lvl = true → (s.pwm.chs.at n).off = some e → e < limit →
          (t.pwm.chs.at n).lvl = false ∧ (t.pwm.chs.at n).lastOff = e ∧ t.gt = (s.gtTo (s.driven (lgOf n) e / 32)).gt) ∧
        (∀ p e, (s.pwm.chs.at n).lvl = false → (s.pwm.chs.at n).carry = 0 → s.planOn n = some p → p.due < limit → s.glBlocked n = false →
          p.off = some e → p.due + s.minpOf n ≤ e →
          (t.pwm.chs.at n).lvl = true ∧ (t.pwm.chs.at n).onAt = p.due ∧ (t.pwm.chs.at n).off = some e ∧
            t.gt = (s.gtTo (s.driven (lgOf n) p.due / 32)).gt) ∧
        ((s.pwm.chs.at n).lvl = false → (s.pwm.chs.at n).carry = 0 → s.planOn n = none → t.pwm.chs = s.pwm.chs) ∧
        (s.permitOpen (lgOf n) = false → (t.pwm.chs.at n).carry = 0 ∧ (t.gl.chs.at n).win = (s.gl.chs.at n).win)))

/-- From R253, R263, R265, R268, R270. Arming a host set; clearing a latched trip while its buses are 0; a sync pulse whose error lies inside
the window is valid, any other sets STK_SYNC_WIN; LOSS_N missed pulses set STK_SYNC_LOST and clear LOCK; the snapshot starts the groups'
marks anew. Conventions that the model chose, in the log: entries 116, 118. -/
def Obligations.PwmControlsAndSync : Prop :=
  (∀ (s : State) (g : Fin 32), s.inv = true →
    ∃ t, exec (.pwmHupdArm g) s = .next t ∧ s.keeps t [.regs, .pwm] ∧ s.sameRegs t [Reg.PWM_HUPD g] ∧
      t.flag (Reg.PWM_HUPD g) F.PWM_HUPD_ARM = true ∧ (t.pwm.lgs.at g).armGt = s.gt ∧ t.pwm.chs = s.pwm.chs) ∧
  (∀ (s : State) (g : Fin 32), s.inv = true → (s.pwm.lgs.at g).latched = true →
    ∃ t, exec (.pwmTripctlClr g) s = .next t ∧ s.keeps t [.pwm] ∧ t.pwm.chs = s.pwm.chs ∧
      (s.fld (Reg.PWM_TRIP g) F.PWM_TRIP_LATMASK &&& s.cmp.bus = 0 → (t.pwm.lgs.at g).latched = false ∧ (t.pwm.lgs.at g).resume = true) ∧
      (s.fld (Reg.PWM_TRIP g) F.PWM_TRIP_LATMASK &&& s.cmp.bus ≠ 0 → t = s)) ∧
  (∀ (s : State) (frac : Fin 32), s.inv = true → s.fld Reg.PWM_SYNCCFG F.PWM_SYNCCFG_ROLE = 2 →
    (let g := s.fld Reg.PWM_SYNCCFG F.PWM_SYNCCFG_ISRC
     let p : Int := (32 * s.perOf g * max 1 (s.fld Reg.PWM_SYNCCFG F.PWM_SYNCCFG_DIV) : Nat)
     let e0 : Int := 32 * (s.gt : Int) + frac.val - 32 * (s.phOf g : Int)
     ∃ (t : State) (k e : Int), exec (.syncInPulse frac) s = .next t ∧ s.keeps t (.pwm :: logParts) ∧ t.pwm.chs = s.pwm.chs ∧ t.pwm.lgs = s.pwm.lgs ∧
       2 * (e0 - k * p) ≤ p ∧ -p ≤ 2 * (e0 - k * p) ∧ e = e0 - k * p - (s.fld Reg.PWM_SYNCDLY F.PWM_SYNCDLY_CHAINDLY : Nat) ∧
       t.fld Reg.PWM_SYNCSTAT F.PWM_SYNCSTAT_ERR = lowBits 24 e ∧
       (e.natAbs ≤ 32 * clampNat 1 1000 (s.fld Reg.PWM_SYNCWIN F.PWM_SYNCWIN_WIN) →
         t.pwm.chain.err = e ∧ t.pwm.chain.valid = true ∧ t.pwm.chain.missed = 0 ∧ t.pwm.chain.lost = false) ∧
       (32 * clampNat 1 1000 (s.fld Reg.PWM_SYNCWIN F.PWM_SYNCWIN_WIN) < e.natAbs → t.pwm.chain = s.pwm.chain ∧ t.stuck Stk.SYNC_WIN = true))) ∧
  (∀ s : State, s.inv = true → s.fld Reg.PWM_SYNCCFG F.PWM_SYNCCFG_ROLE = 2 → s.pwm.chain.lost = false →
    ∃ t, exec .syncLoss s = .next t ∧ s.keeps t (.pwm :: logParts) ∧ t.pwm.chs = s.pwm.chs ∧ t.pwm.lgs = s.pwm.lgs ∧ t.pwm.chain.lost = true ∧
      t.flag Reg.PWM_SYNCSTAT F.PWM_SYNCSTAT_LOCK = false ∧ t.stuck Stk.SYNC_LOST = true ∧ t.pwm.chain.trim = s.pwm.chain.trim ∧
      t.regN Reg.PWM_SYNCMISS = min (s.regN Reg.PWM_SYNCMISS + max 1 (s.fld Reg.PWM_SYNCWIN F.PWM_SYNCWIN_LOSS_N)) (2 ^ 32 - 1)) ∧
  (∀ s : State, s.commitsOn = true → s.flag Reg.CLK_STAT F.CLK_STAT_DLL_LOCK = true →
    ∃ t, exec .pwmSnapshot s = .next t ∧ s.keeps t ([.gt, .pan, .pwm, .gl] ++ logParts) ∧ t.pan.committed = s.pan.committed ∧
      t.gt = (s.gtTo (s.instantOf (s.commitFrom (max (s.gt + 4) (s.pwm.snapAt + 1))) - 4)).gt ∧
      ∀ n, (t.pwm.chs.at n).lvl = (s.pwm.chs.at n).lvl ∧ (t.pwm.chs.at n).spact = false ∧ (t.gl.chs.at n).faultSnap = 0 ∧
        (t.pwm.lgs.at n).bndSnap = 0 ∧ (t.pwm.lgs.at n).bnd = (s.pwm.lgs.at n).bnd)

/-- From R275 to R282. A filtered change of GFB is the new gate state, and inside an open window in its direction it confirms the edge; a window
that closes without its response, in RUN, and a level that disagrees too long declare a fault: the channel goes low and STK_GL_FAULT is set.
Conventions that the model chose, in the log: entries 119, 120, 121. -/
def Obligations.GateFeedbackConfirmsOrFaults : Prop :=
  (∀ (s : State) (n : Fin 192) (level : Bool) (frac : Fin 32), s.inv = true → s.powered = true → n.val < s.channels →
    (s.gl.chs.at n).gfb ≠ level → (s.gl.chs.at n).sig = 0 →
    ∃ t, exec (.gfbTransition n level frac true) s = .next t ∧ s.keeps t [.regs, .gl] ∧
      (t.gl.chs.at n).gfb = level ∧ (t.gl.chs.at n).gfbAt = 32 * s.gt + frac.val ∧ (t.gl.chs.at n).raw = level ∧
      (∀ w, (s.gl.chs.at n).win = some w → w.rising = level → w.start ≤ 32 * s.gt + frac.val → 32 * s.gt + frac.val < w.stop →
        (t.gl.chs.at n).win = none ∧ (level = false → (t.gl.chs.at n).confOff = true ∧ (t.gl.chs.at n).confAt = 32 * s.gt + frac.val) ∧
        t.fld (Reg.GL_TSW (lgOf n) (n.val % 6)) (if level then F.GL_TSW_T_ON else F.GL_TSW_T_OFF) =
          lowBits 16 (satTo 16 (((32 * s.gt + frac.val : Nat) : Int) - w.start -
            s.fld (Reg.GL_LDLY (lgOf n) (n.val % 6)) (if level then F.GL_LDLY_LDLY_ON else F.GL_LDLY_LDLY_OFF))))) ∧
  (∀ (s : State) (n : Fin 192) (w : RespWin), s.inv = true → (s.gl.chs.at n).win = some w → s.dev = .run → s.glBlocked n = false →
    ∃ t, exec (.confWindowClose n) s = .next t ∧ s.keeps t ([.gt, .cmp, .pwm, .gl] ++ logParts) ∧ t.gt = (s.gtTo ((w.stop + 31) / 32)).gt ∧
      (t.gl.chs.at n).active = true ∧ (t.gl.chs.at n).cause = (if w.rising then 2 else 3) ∧ (t.pwm.chs.at n).lvl = false ∧
      t.stuck (Stk.GL_FAULT (lgOf n)) = true ∧ t.stuck (Stk.GL_FB_TO (lgOf n)) = true) ∧
  (∀ (s : State) (n : Fin 192), s.inv = true → s.powered = true → (s.gl.chs.at n).gfb ≠ s.gcmdPin n → s.dev = .run → s.glBlocked n = false →
    ∃ t, exec (.gfbLevelTimeout n) s = .next t ∧ s.keeps t ([.gt, .cmp, .pwm, .gl] ++ logParts) ∧
      (t.gl.chs.at n).active = true ∧ (t.gl.chs.at n).cause = (if s.gcmdPin n then 2 else 3) ∧ (t.pwm.chs.at n).lvl = false ∧
      t.stuck (Stk.GL_FAULT (lgOf n)) = true)

/-- From R283, R285, R287, R289, R292, R293, R295 to R297. The end of a retry wait is a try, and releases the channel where GFB has been low;
RST_S without a fault forgets the tries; a frame goes out once a period or is skipped and counted; a cleared latch and a cleared hold let
the channels switch again; a pair that is on for more than a period is held low. GO starts the enabled leg probes in STANDBY; each
measurement puts its class in the probe's field, another one than NORMAL sets STK_LPRB_FAIL; after the last, or after 1 s, the run is over.
Conventions that the model chose, in the log: entries 122, 124, 125, 127. -/
def Obligations.GateFaultsAndLegProbes : Prop :=
  ((∀ (s : State) (n : Fin 192), s.inv = true → (s.gl.chs.at n).waiting = true → s.tim.lossHold = false →
     ∃ t, exec (.retryWaitEnd n) s = .next t ∧ s.keeps t [.gt, .regs, .gl] ∧ t.gt = (s.gtTo (s.gl.chs.at n).waitEnd).gt ∧
       (t.gl.chs.at n).tries = min (max 1 (s.fld (Reg.GL_RETRY (lgOf n)) F.GL_RETRY_TRIES)) ((s.gl.chs.at n).tries + 1) ∧
       (t.gl.chs.at n).active = (s.gl.chs.at n).active ∧ ((s.gl.chs.at n).gfb = true → (t.gl.chs.at n).waiting = true) ∧
       ((s.gtTo (s.gl.chs.at n).waitEnd).gfbQuiet n = true → (s.gl.chs.at n).sig = 0 → (t.gl.chs.at n).waiting = false ∧ (t.gl.chs.at n).release = true)) ∧
   (∀ (s : State) (n : Fin 192), s.inv = true → (s.gl.chs.at n).tries ≠ 0 →
     ∃ t, exec (.tryCountReset n) s = .next t ∧ s.keeps t [.gt, .gl] ∧ (t.gl.chs.at n).tries = 0 ∧ (∀ k, k ≠ n.val → t.gl.chs.at k = s.gl.chs.at k) ∧
       t.gt = (s.gtTo ((s.gl.chs.at n).lastFault + clampNat 1 3600 (s.fld (Reg.GL_RETRY (lgOf n)) F.GL_RETRY_RST_S) * 500000000)).gt) ∧
   (∀ (s : State) (v : Fin 12), s.inv = true → s.tim.lossHold = false →
     ∃ t, exec (.coincWindowExpire v) s = .next t ∧ s.keeps t [.gt, .regs, .gl, .safe] ∧ t.gl.chs = s.gl.chs ∧
       (∀ d, d ∈ t.gl.decls → d ∈ s.gl.decls ∧ t.gt < d.at_ + 5000) ∧ (∀ d, d ∈ t.safe.demands → ¬ (d.cause = 2 ∧ d.src = 0 ∧ d.convs = 2 ^ v.val))) ∧
   (∀ (s : State) (g : Fin 32), s.inv = true → (s.pwm.lgs.at g).anyBnd = true → (s.pwm.lgs.at g).frameFor ≠ (s.pwm.lgs.at g).bnd + 1 →
     s.frameDue g (s.pwm.lgs.at g).bnd = true → s.tim.pwmHalted = false →
     (let a := (s.pwm.lgs.at g).bnd + s.fld (Reg.GL_FRM g) F.GL_FRM_FRM_OFS
      ∃ t, exec (.gsetFrame g) s = .next t ∧ s.keeps t ([.gt, .pwm] ++ logParts) ∧ t.gt = (s.gtTo a).gt ∧ t.pwm.chs = s.pwm.chs ∧
        (t.pwm.lgs.at g).frameFor = (s.pwm.lgs.at g).bnd + 1 ∧
        ((s.gtTo a).edgeIn g a (a + 640) = true → t.stuck (Stk.GL_GSET_SKIP g) = true ∧ t.out.frames = s.out.frames ∧
          t.regN (Reg.GL_SKIPCNT g) = min (s.regN (Reg.GL_SKIPCNT g) + 1) (2 ^ 32 - 1)) ∧
        ((s.gtTo a).edgeIn g a (a + 640) = false → (t.pwm.lgs.at g).frames = (s.pwm.lgs.at g).frames + 1 ∧ t.regs = s.regs ∧
          ∃ bits : List Byte, bits.length = 62 ∧ t.out.frames = s.out.frames ++ [(3, BitVec.ofNat 8 g :: bits)]))) ∧
   (∀ (s : State) (n : Fin 192), s.inv = true →
     ∃ t, exec (.glClrLatch n) s = .next t ∧ s.keeps t [.regs, .pwm, .gl] ∧
       (s.latchClearable n = true → (t.gl.chs.at n).latched = false ∧ (t.gl.chs.at n).active = false ∧ (t.gl.chs.at n).tries = 0 ∧
         (t.pwm.chs.at n).skip = 32 * s.nextBoundary (lgOf n)) ∧
       (s.latchClearable n = false → t = s)) ∧
   (∀ (s : State) (g : Fin 32) (q : Fin 3), s.inv = true → s.shootHeld g q = true →
     ∃ t, exec (.glClrShoot g q) s = .next t ∧ s.keeps t [.regs, .pwm, .gl] ∧
       (s.bothIdeal g q = false → t.shootHeld g q = false) ∧ (s.bothIdeal g q = true → t = s)) ∧
   (∀ (s : State) (g : Fin 32) (q : Fin 3) (since : Nat), s.inv = true → s.dev = .run → s.shootHeld g q = false → s.bothSince g q s.gt = some since →
     (let u := s.gtTo ((since + 32 * s.perOf g) / 32 + 1)
      u.gt ≤ u.nextBoundary g → u.bothSince g q u.gt = some since →
      ∃ t, exec (.shootThroughHold g q) s = .next t ∧ s.keeps t ([.gt, .cmp, .pwm, .gl] ++ logParts) ∧ t.gt = u.gt ∧ t.shootHeld g q = true ∧
        t.stuck (Stk.SHOOT_REQ g) = true ∧ (t.pwm.chs.at (6 * g.val + 2 * q.val)).lvl = false ∧ (t.pwm.chs.at (6 * g.val + 2 * q.val + 1)).lvl = false))) ∧
  ((∀ s : State, s.inv = true → s.dev = .standby → s.gl.prbRun = false →
     ∃ t, exec .glPrbcmdGo s = .next t ∧ s.keeps t [.regs, .gl] ∧ t.gl.chs = s.gl.chs ∧
       (s.regN Reg.GL_PRBEN % 2 ^ s.groups ≠ 0 → t.gl.prbRun = true ∧ t.gl.prbLeft = bitsOf 32 (s.regN Reg.GL_PRBEN % 2 ^ s.groups) ∧
         t.flag Reg.GL_PRBCMD F.GL_PRBCMD_GO = true)) ∧
   (∀ (s : State) (v0 vp vm : Fin 65536) (g h : Nat) (rest : List Nat), s.inv = true → s.gl.prbRun = true → s.dev = .standby →
     s.gl.prbLeft = g :: h :: rest → g < 32 →
     ∃ t, exec (.probeStep v0 vp vm) s = .next t ∧ s.keeps t ([.pwm, .gl, .safe] ++ logParts) ∧ t.gl.prbLeft = h :: rest ∧ t.gl.prbRun = true ∧
       t.fld (Reg.GL_PRBRES (g / 8)) (prbFld g) = s.probeClass v0 vp vm ∧ (s.probeClass v0 vp vm ≠ 1 → t.stuck Stk.LPRB_FAIL = true)) ∧
   (∀ s : State, s.inv = true → s.gl.prbRun = true →
     ∃ t, exec .probeTimeout s = .next t ∧ s.keeps t ([.gt, .pwm, .gl, .safe] ++ logParts) ∧ t.gt = (s.gtTo (s.gl.prbStart + 500000000)).gt ∧
       t.gl.prbRun = false ∧ t.stuck Stk.LPRB_STARVED = true ∧ t.flag Reg.GL_PRBCMD F.GL_PRBCMD_GO = false))

/-- From R305, R308 to R310, R324. An internal fault and a failed diagnostic latch the SPO of every converter and open every safety output;
OFFDLY after its SPO a converter's outputs switch off; a pad that disagrees and a missing commit are demands. Conventions that the model
chose, in the log: entries 130, 132, 138. -/
def Obligations.MonitorFaultsLatchSpo : Prop :=
  (∀ s : State, s.inv = true → s.dev ≠ .dormant →
    ∃ t, exec .monitorInternalFault s = .next t ∧ s.keeps t ([.pwm, .safe] ++ logParts) ∧ t.safe.intFault = true ∧ t.stuck Stk.SAFE_INTFAULT = true ∧
      t.flag Reg.SAFE_STAT F.SAFE_STAT_INTFAULT = true ∧ (∀ v, v < 12 → t.spoLatched v = true) ∧
      ∀ j, j < 4 → (t.safe.sout.at j).cmd = false ∧ (t.safe.sout.at j).hClosed = false ∧ (t.safe.sout.at j).lClosed = false) ∧
  (∀ (s : State) (elem : MonDiag) (ok : Bool), s.inv = true → s.dev ≠ .dormant →
    ∃ t, exec (.monitorDiagnostic elem ok) s = .next t ∧ s.keeps t ([.pwm, .safe] ++ logParts) ∧
      (elem = .oscillator → t.flag Reg.SAFE_STAT F.SAFE_STAT_OSC_OK = ok) ∧ (ok = true → s.keeps t [.regs] ∧ s.sameRegs t [Reg.SAFE_STAT]) ∧
      (ok = false → t.safe.intFault = true ∧ ∀ v, v < 12 → t.spoLatched v = true)) ∧
  (∀ (s : State) (v : Fin 12) (c : SafeConv), s.inv = true → s.safe.cfg.convs[v.val]? = some c → s.safe.inForce = true → s.spoLatched v = true →
    c.offDly ≠ 0xFFFF →
    ∃ t, exec (.offdlyExpire v) s = .next t ∧ s.keeps t [.gt, .regs, .safe] ∧ t.safe.offDone.at v = true ∧
      t.gt = (s.gtTo (s.safe.spoAt.at v + c.offDly * 500000)).gt ∧ t.spoLatched v = true ∧
      ∀ j, j < 4 → s.dev = .run → c.outs.testBit j = true → (t.safe.sout.at j).cmd = false) ∧
  (∀ (s : State) (n : Fin 192) (agree : Bool), s.inv = true → s.dev ≠ .dormant →
    ∃ t, exec (.padReadbackMismatch n agree) s = .next t ∧ s.keeps t ([.pwm, .safe] ++ logParts) ∧
      (agree = false → n.val ∈ t.safe.mismatch) ∧ (agree = true → n.val ∉ t.safe.mismatch) ∧
      (agree = true → ∀ d, d ∈ t.safe.demands → ¬ (d.cause = 14 ∧ d.src = n.val)) ∧
      (∀ v, agree = false → s.convOf (lgOf n) = some v → (∀ d, d ∈ s.safe.demands → ¬ (d.cause = 14 ∧ d.src = n.val)) → t.spoLatched v = true)) ∧
  (∀ (s : State) (v : Fin 12) (c : SafeConv), s.inv = true → s.safe.cfg.convs[v.val]? = some c → s.safe.inForce = true → s.dev = .run →
    c.fns.any (fun f => f.on) = true →
    ∃ t, exec (.missingCommitTimeout v) s = .next t ∧ s.keeps t ([.gt, .pwm, .safe] ++ logParts) ∧ t.stuck Stk.SAFE_STALE = true ∧
      t.gt = (s.gtTo (s.safe.lastEval + c.staleN * s.tim.epLen)).gt ∧
      ((∀ d, d ∈ s.safe.demands → d.src ≠ 0 ∨ d.convs ≠ 2 ^ v.val) → t.spoLatched v = true)) ∧
  (∀ s : State, s.dev ≠ .dormant → s.pin.testEn = false → s.safe.intFault = false →
    ∃ t, exec .safeStartUpTestsDone s = .next t ∧ s.keeps t [.safe] ∧ t.safe.startTests = true ∧ t.safe.demands = s.safe.demands)

/-- From R313 to R319, R528. A channel accepts a class after three equal samples; a test slot that does not pull the pin low and a discrepancy
are faults; a pair of FUNC 1 that is not in permit is a demand. An output closes its low side first and its high side 50 us later; its fault
opens both. Conventions that the model chose, in the log: entries 132, 135, 136. -/
def Obligations.SafetyInputsAndOutputs : Prop :=
  (∀ (s : State) (i : Fin 8) (chB : Bool) (uv : Int), s.inv = true → s.dev ≠ .dormant → s.safe.inForce = true →
    (s.safe.cfg.pairs.getD i {}).func ≠ 0 →
    (let old := if chB then (s.safe.sin.at i).b else (s.safe.sin.at i).a
     (∃ t, exec (.sinSample i chB uv) s = .next t ∧ s.keeps t ([.pwm, .gl, .safe] ++ logParts) ∧
       (let new := if chB then (t.safe.sin.at i).b else (t.safe.sin.at i).a
        (if chB then (t.safe.sin.at i).a = (s.safe.sin.at i).a else (t.safe.sin.at i).b = (s.safe.sin.at i).b) ∧
        (150000 ≤ uv → uv ≤ 450000 → new.lastClass = .closed) ∧ (2200000 ≤ uv → uv ≤ 2950000 → new.lastClass = .openLoop) ∧
        (uv < 100000 → new.lastClass = .shortGnd) ∧ (3050000 < uv → new.lastClass = .high) ∧
        (old.same = 2 → old.lastClass = new.lastClass → new.cls = new.lastClass ∧ new.known = true) ∧
        (old.lastClass ≠ new.lastClass → new.cls = old.cls)) ∧
       ((s.safe.cfg.pairs.getD i {}).func = 1 → t.pairPermit i = false → (s.safe.cfg.pairs.getD i {}).convs ≠ 0 →
         ∃ d, d ∈ t.safe.demands ∧ d.cause = 3 ∧ d.src = i.val ∧ d.convs = (s.safe.cfg.pairs.getD i {}).convs)) ∧
     (∃ t, exec (.sinTestSlot i chB uv) s = .next t ∧ s.keeps t ([.pwm, .gl, .safe] ++ logParts) ∧
       (if chB then (t.safe.sin.at i).b else (t.safe.sin.at i).a) = { old with test := decide (100000 ≤ uv) }) ∧
     (∀ t0, (s.safe.sin.at i).discFrom = some t0 →
       ∃ t, exec (.sinDiscrepancyTimeout i) s = .next t ∧ s.keeps t ([.gt, .pwm, .gl, .safe] ++ logParts) ∧ (t.safe.sin.at i).disc = true ∧
         t.stuck Stk.SIN_DISC = true ∧ t.pairPermit i = false ∧ t.gt = (s.gtTo (t0 + (s.safe.cfg.pairs.getD i {}).disc * 500000)).gt))) ∧
  (∀ (s : State) (j : Fin 4), s.inv = true →
    ((s.safe.sout.at j).cmd = false → s.outAllowed j = true →
      ∃ t, exec (.soutSwitchOn j) s = .next t ∧ s.keeps t [.regs, .safe] ∧ s.sameRegs t [Reg.SAFE_SOUT j] ∧ (t.safe.sout.at j).cmd = true ∧
        (t.safe.sout.at j).lClosed = true ∧ (t.safe.sout.at j).lAt = s.gt ∧ (t.safe.sout.at j).hClosed = (s.safe.sout.at j).hClosed) ∧
    ((s.safe.sout.at j).cmd = true → (s.safe.sout.at j).hClosed = false →
      ∃ t, exec (.soutHClose j) s = .next t ∧ s.keeps t [.gt, .regs, .safe] ∧ s.sameRegs t [Reg.SAFE_SOUT j] ∧ (t.safe.sout.at j).hClosed = true ∧
        (t.safe.sout.at j).cmd = true ∧ t.gt = (s.gtTo ((s.safe.sout.at j).lAt + 25000)).gt) ∧
    (∀ kind : Fin 7, s.dev ≠ .dormant → s.safe.inForce = true → j.val < s.safe.cfg.outs.length →
      ∃ t, exec (.soutTest j kind) s = .next t ∧ s.keeps t ([.pwm, .safe] ++ logParts) ∧
        (kind.val ≠ 0 → (t.safe.sout.at j).fault = kind.val ∧ (t.safe.sout.at j).cmd = false ∧ (t.safe.sout.at j).hClosed = false ∧
          t.stuck Stk.SOUT_FAULT = true) ∧
        (kind.val = 0 → (s.safe.sout.at j).fault ≠ 0 → (s.safe.sout.at j).cmd = false → (t.safe.sout.at j).testPassed = true ∧ t.regs = s.regs)) ∧
    (s.dev ≠ .dormant → (s.safe.sout.at j).cmd = true →
      ∃ t, exec (.soutCurrentLimit j) s = .next t ∧ s.keeps t ([.pwm, .safe, .freeN] ++ logParts) ∧ 1 ≤ (t.safe.sout.at j).fault ∧
        (t.safe.sout.at j).fault ≤ 6 ∧ (t.safe.sout.at j).cmd = false ∧ t.stuck Stk.SOUT_FAULT = true))

/-- From R320 to R323. A telegram with a wrong CRC is counted and leaves the connection; one that passes every check is accepted, and the next
in order leads from WAIT to RUN; without one for WDOG the connection fails, back to WAIT; a transmit connection sends its telegram, with its
CRC, every TXPER. Conventions that the model chose, in the log: entries 2, 137. -/
def Obligations.SafetyTelegrams : Prop :=
  (∀ (s : State) (r : Fin 8) (bs : List Byte), s.inv = true → s.safe.inForce = true → (s.rxCfg r).on = true → s.dev ≠ .dormant → (s.safe.rx.at r).st = 1 →
    bs.length = 28 + (s.rxCfg r).plen → beAt bs 0 1 = 1 → beAt bs 1 1 = 1 → beAt bs 2 2 = (s.rxCfg r).plen →
    (let crcOk := beAt bs (24 + (s.rxCfg r).plen) 4 = (crc32c (bs.take (24 + (s.rxCfg r).plen))).toNat
     let seq := beAt bs 8 4
     ∃ t, exec (.safetyTelegramRx r bs) s = .next t ∧ s.keeps t ([.pan, .pwm, .safe] ++ logParts) ∧
       (¬ crcOk → t.regN (Reg.SAFE_RXERR r) = min (s.regN (Reg.SAFE_RXERR r) + 1) (2 ^ 32 - 1) ∧ (t.safe.rx.at r).st = 1 ∧
         (t.safe.rx.at r).lastSeq = (s.safe.rx.at r).lastSeq ∧ t.pan = s.pan) ∧
       (crcOk → beAt bs 4 4 = (s.rxCfg r).id.toNat → (s.safe.rx.at r).lastSeq = 0 ∨ seq ≠ (s.safe.rx.at r).lastSeq →
         s.rxAgeOk (s.rxCfg r) (beAt bs 20 1) (beAt bs 12 8) = true →
         (t.safe.rx.at r).lastSeq = seq ∧ (t.safe.rx.at r).lastAt = s.gt ∧ (t.safe.rx.at r).payload = wordsBe bs 24 ((s.rxCfg r).plen / 4) ∧
           (t.safe.rx.at r).st = (if (s.safe.rx.at r).base = true ∧ seq = seqNext (s.safe.rx.at r).lastSeq then 2 else 1)))) ∧
  (∀ (s : State) (r : Fin 8), s.inv = true → s.safe.inForce = true → (s.rxCfg r).on = true → s.dev ≠ .dormant → (s.safe.rx.at r).st = 2 →
    ∃ t, exec (.safecomWdogExpire r) s = .next t ∧ s.keeps t ([.gt, .pwm, .safe] ++ logParts) ∧ (t.safe.rx.at r).st = 1 ∧
      (t.safe.rx.at r).base = false ∧ t.stuck Stk.SAFECOM_WDOG = true ∧
      t.gt = (s.gtTo ((s.safe.rx.at r).lastAt + (s.rxCfg r).wdog * 500000)).gt) ∧
  (∀ (s : State) (c : Fin 8), s.inv = true → s.safe.inForce = true → (s.safe.cfg.tx.getD c {}).on = true → s.powered = true →
    ∃ t body, exec (.safetyTelegramTx c) s = .next t ∧ s.keeps t [.gt, .regs, .safe, .out] ∧ s.sameRegs t [Reg.SAFE_TXSEQ c] ∧
      t.out.frames = s.out.frames ++ [(4, body ++ beBytes 4 (crc32c body).toNat)] ∧ body.length = 24 + 4 * ((s.safe.cfg.tx.getD c {}).plen / 4) ∧
      t.safe.txSeq.at c = seqNext (s.safe.txSeq.at c) ∧ t.gt = (s.gtTo (s.safe.txAt.at c + (s.safe.cfg.tx.getD c {}).txPer * 500000)).gt ∧
      t.safe.txAt.at c = t.gt)

/-- From R331, R332, R334 to R340, R345, R346. The self-test, the frame start and the scrubber each move their counters; a mismatch starts a re-
run, whose class decides between LOCKED and FAILED; the fourth recovery within 60 s fails the pair; a held write is made for the commit
ahead. Conventions that the model chose, in the log: entries 2, 139, 140, 141, 142, 145. -/
def Obligations.SupervisorPairRecoversOrFails : Prop :=
  (∀ (s : State) (ok : Bool), s.inv = true → s.pairLocked = true →
    ∃ t, exec (.checkerSelfTest ok) s = .next t ∧ s.keeps t ([.gt, .sup] ++ logParts) ∧ t.gt = (s.gtTo (s.sup.injAt + 500000)).gt ∧
      (ok = true → t.regN Reg.SUP_INJCNT = (s.regN Reg.SUP_INJCNT + 1) % 2 ^ 32 ∧ t.sup.injFails = 0 ∧ t.supState = 0) ∧
      (ok = false → t.stuck Stk.LS_INJ_FAIL = true ∧ t.supState = (if 1 ≤ s.sup.injFails then 4 else 0))) ∧
  (∀ (s : State) (diverged : Bool) (entries : Nat), s.inv = true → s.dev = .run ∨ s.dev = .standby → s.supState < 3 →
    ∃ t, exec (.frameStart diverged entries) s = .next t ∧ s.keeps t ([.gt, .sup] ++ logParts) ∧
      t.regN Reg.MBX_HB = (s.regN Reg.MBX_HB + 1) % 2 ^ 32 ∧
      (s.sup.anyFrame = true → t.sup.lastFrame = s.sup.lastFrame + 500000) ∧ (s.sup.anyFrame = false → t.sup.lastFrame % 500000 = 0) ∧
      (s.sup.rejoinDue = false → s.supState = 0 → diverged = true → t.sup.lastFrame / 500000 % 10 = 0 →
        t.stuck Stk.LATENT_DIV = true ∧ t.supState = 0 ∧ t.regN Reg.SUP_RSYNCNT = min (s.regN Reg.SUP_RSYNCNT + 1) (2 ^ 32 - 1))) ∧
  (∀ (s : State) (group : Fin 16) (kind : Fin 3) (addr : Word) (entries : Nat), s.inv = true → s.pairLocked = true →
    ∃ t, exec (.lockstepMismatch group kind addr entries) s = .next t ∧ s.keeps t (.sup :: logParts) ∧ t.supState = 1 ∧
      t.stuck Stk.LS_MISMATCH = true ∧ t.reg Reg.SUP_MISADDR = addr ∧ t.regN Reg.SUP_MISINFO = group.val + 16 * kind.val + 2 ^ 31 ∧
      t.regN Reg.SUP_MISCNT = min (s.regN Reg.SUP_MISCNT + 1) (2 ^ 32 - 1)) ∧
  (∀ (s : State) (agree testOk : Bool), s.inv = true → s.supState = 1 →
    ∃ t, exec (.rerunComplete agree testOk) s = .next t ∧ s.keeps t (.sup :: logParts) ∧
      t.fld Reg.SUP_STAT F.SUP_STAT_CLASS = (if testOk = false then 3 else if s.sup.journalFull = true then 4 else if agree = true then 1 else 2) ∧
      (testOk = false ∨ s.sup.journalFull = true ∨ agree = false → t.supState = 4 ∧ t.stuck Stk.SUP_FAILED = true ∧ t.sup.held = []) ∧
      (testOk = true → s.sup.journalFull = false → agree = true → t.supState = (if s.recov60.length < 3 then 0 else 4))) ∧
  (∀ (s : State) (w : HeldWrite), s.inv = true → s.stewardOn = true → s.commitsOn = true → s.sup.held = [w] → w.dest = s.nextCommit →
    s.gt + 64 ≤ s.instantOf w.dest → s.ownerOf w.slot = 0x20 → ((s.pan.pend.find w.dest).getD []).find w.slot = none →
    ∃ t, exec .stewardWriteIssue s = .next t ∧ s.keeps t ([.pan, .sup] ++ logParts) ∧ t.sup.held = [] ∧ t.pan.committed = s.pan.committed ∧
      ((t.pan.pend.find w.dest).getD []).find w.slot = some { val := w.val, ord := w.ord }) ∧
  (∀ (s : State) (err : SramErr) (region : Fin 4) (hit : List (Fin 64)), s.inv = true → s.sup.split = none →
    ∃ t, exec (.scrubSlot err region hit) s = .next t ∧ s.keeps t (.sup :: logParts) ∧ t.supState = s.supState ∧
      (region.val = 3 → t.sup.journalWord = (s.sup.journalWord + 1) % 32768 ∧ t.sup.scrubWord = s.sup.scrubWord) ∧
      (region.val ≠ 3 → s.sup.scrubWord + 1 < 524288 → t.sup.scrubWord = s.sup.scrubWord + 1) ∧
      (region.val ≠ 3 → 524288 ≤ s.sup.scrubWord + 1 → t.sup.scrubWord = 0 ∧
        t.regN Reg.SUP_SCRUBPASS = min (s.regN Reg.SUP_SCRUBPASS + 1) (2 ^ 32 - 1)) ∧
      (err = .single → t.stuck Stk.SRAM_CE = true ∧ t.regN Reg.SUP_SRAMCE = min (s.regN Reg.SUP_SRAMCE + 1) (2 ^ 32 - 1)) ∧
      (err = .double → t.stuck Stk.SRAM_UE = true ∧ t.regN Reg.SUP_SRAMUE = min (s.regN Reg.SUP_SRAMUE + 1) (2 ^ 32 - 1)))

/-- From R342, R344. The phases of a split, from its start at a frame through READY and the hand-over at an epoch boundary to REJOIN on the new
firmware; an image that fails, a refusal and the timer abort it with STK_SPLIT_ABORT and its result. Conventions that the model chose, in
the log: entries 143, 144. -/
def Obligations.SplitRunsThroughItsPhases : Prop :=
  ∀ (s : State) (p : SplitState), s.inv = true → s.sup.split = some p →
    (p.started = false → s.pairLocked = true →
      ∃ t, exec .split s = .next t ∧ s.keeps t [.gt, .regs, .sup] ∧ t.supState = 3 ∧ t.fld Reg.SUP_STAT F.SUP_STAT_PHASE = 2 ∧
        t.gt = (s.gtTo ((s.gt + 499999) / 500000 * 500000)).gt ∧ t.sup.split = some { p with started := true, start := t.gt } ∧
        t.flag Reg.MBX_STAT F.MBX_STAT_SPLIT = true) ∧
    (p.started = true → p.ready = false →
      (∃ t, exec (.splitReady .ready) s = .next t ∧ s.keeps t [.sup] ∧ t.sup.split = some { p with ready := true, readyAt := s.gt }) ∧
      (∃ t, exec (.splitReady .signature) s = .next t ∧ s.keeps t ([.sup, .fw] ++ logParts) ∧ t.sup.split = none ∧ t.supState = 2 ∧
        t.fld Reg.SUP_SPLIT F.SUP_SPLIT_RESULT = 3 ∧ t.stuck Stk.SPLIT_ABORT = true ∧ t.fw.running = s.fw.running) ∧
      (∃ t, exec (.splitReady .selfTest) s = .next t ∧ s.keeps t ([.sup, .fw] ++ logParts) ∧ t.sup.split = none ∧
        t.fld Reg.SUP_SPLIT F.SUP_SPLIT_RESULT = 4 ∧ t.stuck Stk.SPLIT_ABORT = true)) ∧
    (p.started = true → p.ready = true → s.fld Reg.SUP_STAT F.SUP_STAT_PHASE = 2 →
      ∃ t, exec .splitHandover s = .next t ∧ s.keeps t [.gt, .regs] ∧ s.sameRegs t [Reg.SUP_STAT] ∧ t.fld Reg.SUP_STAT F.SUP_STAT_PHASE = 3 ∧
        t.gt = (s.gtTo (s.epochFrom (p.readyAt + 1))).gt) ∧
    (p.started = true → s.fld Reg.SUP_STAT F.SUP_STAT_PHASE = 3 →
      (s.gt + 500000 ≤ p.start + 1000000000 →
        ∃ t, exec (.splitAccept true) s = .next t ∧ s.keeps t [.regs, .sup] ∧ t.fld Reg.SUP_STAT F.SUP_STAT_PHASE = 4 ∧
          t.sup.split = some { p with rejoin := true }) ∧
      (∃ t, exec (.splitAccept false) s = .next t ∧ s.keeps t ([.sup, .fw] ++ logParts) ∧ t.sup.split = none ∧
        t.fld Reg.SUP_SPLIT F.SUP_SPLIT_RESULT = 5 ∧ t.stuck Stk.SPLIT_ABORT = true)) ∧
    (p.rejoin = true →
      ∃ t, exec .rejoin s = .next t ∧ s.keeps t [.regs, .sup, .fw, .mbx, .out] ∧ t.sup.split = none ∧ t.supState = 0 ∧
        t.fw.running = 1 - s.fw.running ∧ t.fw.commits = s.fw.commits ∧ t.fld Reg.SUP_SPLIT F.SUP_SPLIT_RESULT = 1) ∧
    (p.started = true → p.rejoin = false →
      ∃ t, exec .splitTimeout s = .next t ∧ s.keeps t ([.gt, .sup, .fw] ++ logParts) ∧ t.sup.split = none ∧
        t.fld Reg.SUP_SPLIT F.SUP_SPLIT_RESULT = 2 ∧ t.stuck Stk.SPLIT_ABORT = true ∧ t.gt = (s.gtTo (p.start + 999500001)).gt)

/-- From R349 to R352. A frame with a wrong CRC is counted and goes no further; in PRP a second copy is counted and not delivered; entries of
the node table age; supervision frames leave every 2 s; a lost link, a link that comes up, and a node heard on one path only show in the
registers. Conventions that the model chose, in the log: entries 2, 146, 147, 148, 149. -/
def Obligations.FramesNodesAndLinks : Prop :=
  (∀ (s : State) (port : Fin 2) (f : NetFrame), s.inv = true → s.portOn port = true → s.netMode ≠ 2 ∨ port.val = 0 →
    ((1536 < f.len ∨ f.crcOk = false) →
      ∃ t, exec (.frameRx port f) s = .next t ∧ s.keeps t logParts ∧ t.stuck Stk.NET_RXERR = true ∧
        t.regN (Reg.NET_RXCNT port) = min (s.regN (Reg.NET_RXCNT port) + 1) (2 ^ 32 - 1) ∧
        t.regN (Reg.NET_RXERR port) = min (s.regN (Reg.NET_RXERR port) + 1) (2 ^ 32 - 1)) ∧
    (∀ q n, f.len ≤ 1536 → f.crcOk = true → f.tags < 2 → s.netMode = 0 → f.body ≠ .pause → bodyPtp f.body = false → f.seq = some q →
      s.nodesNow.find f.src.toNat = some n → n.seen q.toNat = true →
      ∃ t, exec (.frameRx port f) s = .next t ∧ s.keeps t [.regs, .net] ∧ s.sameRegs t [Reg.NET_RXCNT port, Reg.NET_DUPCNT] ∧
        t.regN Reg.NET_DUPCNT = min (s.regN Reg.NET_DUPCNT + 1) (2 ^ 32 - 1))) ∧
  (∀ s : State, ∃ t, exec .nodeTableAge s = .next t ∧ s.keeps t [.net] ∧
    (∀ e, e ∈ t.net.nodes → s.gt < e.2.lastAt + 60 * 500000000 ∧ ∀ q, q ∈ e.2.seqs → s.gt < q.at_ + 400 * 500000) ∧
    (∀ e, e ∈ s.net.nodes → s.gt < e.2.lastAt + 60 * 500000000 → ∃ n, (e.1, n) ∈ t.net.nodes)) ∧
  (∀ s : State, s.netMode = 0 → s.powered = true →
    ∃ t, exec .prpSupervisionTx s = .next t ∧ s.keeps t [.gt, .net, .out] ∧ t.net.supAt = t.gt ∧
      (s.net.supAt ≠ 0 → t.gt = (s.gtTo (s.net.supAt + 1000000000)).gt) ∧
      (s.outPorts ≠ 0 → t.out.net = s.out.net ++ [{ ports := s.outPorts, seq := some s.net.txSeq, tx := .supervision }])) ∧
  (∀ (s : State) (port : Fin 3), s.inv = true →
    ∃ t, exec (.linkLoss port) s = .next t ∧ s.keeps t (.net :: logParts) ∧
      (port.val = 2 → s.keeps t [.regs] ∧ s.sameRegs t [Reg.NET_TLSTAT] ∧ t.flag Reg.NET_TLSTAT F.NET_TLSTAT_LINK = false) ∧
      (port.val ≠ 2 → s.linkBit port = true → t.linkBit port = false ∧ t.stuck Stk.NET_LINK = true ∧ (t.net.ptp.at port).ann = none)) ∧
  (∀ (s : State) (port : Fin 3) (amp : Bool), s.inv = true → s.powered = true → s.flag Reg.CLK_STAT F.CLK_STAT_NETPLL_LOCK = true →
    s.netMode ≠ 2 ∨ port.val ≠ 1 →
    ∃ t, exec (.linkUp port amp) s = .next t ∧ s.keeps t [.regs] ∧ s.sameRegs t [Reg.NET_STAT, Reg.NET_TLSTAT] ∧
      (port.val ≠ 2 → t.linkBit port = true) ∧ (port.val = 2 → t.flag Reg.NET_TLSTAT F.NET_TLSTAT_LINK = true)) ∧
  (∀ (s : State) (mac : BitVec 48) (n : NetNode), s.inv = true → s.nodesNow.find mac.toNat = some n → s.netMode ≠ 2 → s.powered = true →
    n.pathErr = false → n.onePath s.gt = true →
    ∃ t, exec (.pathError mac) s = .next t ∧ s.keeps t (.net :: logParts) ∧ t.stuck Stk.NET_PATH = true ∧
      t.regN Reg.NET_PATHERR = min (s.regN Reg.NET_PATHERR + 1) (2 ^ 32 - 1))

/-- From R354, R356, R357. An Announce of the domain is held for its port, and the only port with one is SLAVE and the time port; a Sync on the
SLAVE port gives the offset; a peer-delay request is answered by two messages, the device's own leave every second, and the answer gives the
delay; without an Announce for three intervals the time port stops being SLAVE. Conventions that the model chose, in the log: entries 150,
151. -/
def Obligations.PtpFollowsItsTimePort : Prop :=
  ∀ (s : State) (port : Fin 2), s.inv = true → s.ptpOn port = true →
    (∀ a : PtpAnnounce, a.domain = s.ptpDomain →
      ∃ t, exec (.announceRx port a) s = .next t ∧ s.keeps t (.net :: logParts) ∧ (t.net.ptp.at port).ann = some a ∧ (t.net.ptp.at port).annAt = s.gt ∧
        (s.annOf (1 - port.val) = none → s.pState port ≠ 4 →
          t.pState port = 3 ∧ t.fld Reg.NET_STAT F.NET_STAT_TPORT = port.val ∧ t.fld Reg.NET_STAT F.NET_STAT_GMCLASS = a.cls % 256 ∧
            t.regN Reg.NET_GMID_LO = a.gm.toNat % 2 ^ 32 ∧ t.regN Reg.NET_GMID_HI = a.gm.toNat / 2 ^ 32)) ∧
    (∀ m : PtpSync, m.domain = s.ptpDomain → s.pState port = 3 →
      ∃ t, exec (.syncRx port m) s = .next t ∧ s.keeps t ([.tim, .pan, .freeN] ++ logParts) ∧ t.net = s.net ∧
        t.regN (Reg.NET_PTPOFS port) = lowBits 32 (satTo 32 ((m.rxGt : Int) - s.regN (Reg.NET_PTPDLY port) -
          roundDiv ((m.origin : Int) * 2 ^ 16 + m.corr) (2 ^ 17))) ∧
        t.flag Reg.NET_STAT F.NET_STAT_TVALID = s.ptpValid port ∧
        (s.fld Reg.GT_CTRL F.GT_CTRL_SRC ≠ 1 → s.keeps t [.regs] ∧ s.sameRegs t [Reg.NET_PTPOFS port, Reg.NET_STAT])) ∧
    (∀ domain seq : Nat, domain = s.ptpDomain →
      ∃ t t3, exec (.pdelayReqRx port domain seq) s = .next t ∧ s.keeps t [.out, .freeN] ∧
        t.out.net = s.out.net ++ [{ ports := 2 ^ port.val, seq := none, tx := .pdelayResp seq s.gt },
          { ports := 2 ^ port.val, seq := none, tx := .pdelayFollow seq t3 }]) ∧
    (∃ t, exec (.pdelayReqTx port) s = .next t ∧ s.keeps t [.gt, .net, .out] ∧ (t.net.ptp.at port).reqSeq = (s.net.ptp.at port).reqSeq + 1 ∧
      (t.net.ptp.at port).reqAt = t.gt ∧
      t.out.net = s.out.net ++ [{ ports := 2 ^ port.val, seq := none, tx := .pdelayReq (s.net.ptp.at port).reqSeq }] ∧
      ((s.net.ptp.at port).reqSeq ≠ 0 → t.gt = (s.gtTo ((s.net.ptp.at port).reqAt + 500000000)).gt)) ∧
    (∀ m : PtpDelay, m.domain = s.ptpDomain → (s.net.ptp.at port).reqSeq ≠ 0 →
      ∃ t, exec (.pdelayRespRx port m) s = .next t ∧ s.keeps t [.regs, .net] ∧ s.sameRegs t [Reg.NET_PTPDLY port] ∧
        (t.net.ptp.at port).delayAt = some s.gt ∧
        t.regN (Reg.NET_PTPDLY port) = lowBits 32 (roundDiv
          ((((m.rxGt : Int) - (s.net.ptp.at port).reqAt) * 2 - ((m.t3 : Int) - m.t2)) * 2 ^ 16 - m.corr) (2 ^ 18))) ∧
    (s.fld Reg.NET_STAT F.NET_STAT_TPORT = port.val → s.pState port = 3 →
      ∃ t, exec .announceTimeout s = .next t ∧ s.keeps t [.gt, .regs, .net] ∧ t.pState port = 1 ∧ t.flag Reg.NET_STAT F.NET_STAT_TVALID = false ∧
        (t.net.ptp.at port).ann = none ∧ t.gt = (s.gtTo ((s.net.ptp.at port).annAt + 1500000000)).gt)

/-- From R363 to R368, R370 to R375. A sample of a subscribed stream that arrives in time is buffered and counted; it is written when its
destination is the next commit; a stream without samples for its time is lost; a publication sends a frame of NASDU samples. The first
message of a subscription that agrees with its entry makes it valid for its time to live, one that disagrees sets STK_GOOSE_MISMATCH and
makes it invalid; at its expiry it is invalid and counted; a publication is sent again with the next sqNum. Conventions that the model
chose, in the log: entries 2, 152, 156, 157, 158. -/
def Obligations.SampledValuesAndGoose : Prop :=
  ((∀ (s : State) (port : Fin 2) (f : SvFrame) (a : SvAsdu), s.inv = true → s.portOn port = true → s.tblCount 1 = 1 → s.svMatch 0 f = true →
     (let b := s.tblAt 1 0
      let ofs := a.smpCnt * 500000000 / svRate b
      let tm := (s.gt + 2500 - ofs) / 500000000 * 500000000 + ofs
      f.noAsdu = 1 → leAt b 9 1 = 1 → f.asdus = [a] → (leAt b 11 1).testBit 4 = false → a.data.length = 8 * svNq b → f.sim = (leAt b 11 1).testBit 0 →
      a.smpCnt < svRate b → leAt b 11 1 / 4 % 4 ≤ a.smpSynch → 1 < s.qual → ofs ≤ s.gt + 2500 → (s.net.sv.at 0).lastTm = none →
      s.gt ≤ tm + svDly b + svLat b - 128 →
      ∃ t, exec (.svFrameRx port f) s = .next t ∧ s.keeps t (.net :: logParts) ∧ (t.net.sv.at 0).lastTm = some tm ∧ (t.net.sv.at 0).last.tm = tm ∧
        (t.net.sv.at 0).lost = false ∧ (t.net.sv.at 0).lastAcc = s.gt ∧
        t.regN (Reg.NET_SVRX 0) = min (s.regN (Reg.NET_SVRX 0) + 1) (2 ^ 32 - 1))) ∧
   (∀ (s : State) (i : Fin 16) (x : SvSample) (r : List SvSample), s.inv = true → (s.net.sv.at i).buf = x :: r → i.val < s.tblCount 1 →
     s.powered = true → s.destOf (0x400 + 0x40 * i.val) (x.tm + svDly (s.tblAt 1 i)) ≤ s.nextCommit →
     ∃ t, exec (.svSampleWrite i) s = .next t ∧ s.keeps t ([.pan, .net] ++ logParts) ∧ (t.net.sv.at i).buf = r ∧
       (t.net.sv.at i).dest = s.destOf (0x400 + 0x40 * i.val) (x.tm + svDly (s.tblAt 1 i)) ∧ t.pan.committed = s.pan.committed) ∧
   (∀ (s : State) (i : Fin 16), s.inv = true → i.val < s.tblCount 1 → (s.net.sv.at i).lost = false → s.powered = true →
     ∃ t, exec (.svStreamLost i) s = .next t ∧ s.keeps t ([.gt, .pan, .net] ++ logParts) ∧ (t.net.sv.at i).lost = true ∧ t.stuck Stk.SV_LOST = true ∧
       t.flag (Reg.NET_SVSTAT i) F.NET_SVSTAT_LOST = true ∧ t.gt = (s.gtTo ((s.net.sv.at i).lastAcc + leAt (s.tblAt 1 i) 22 2 * 500000)).gt) ∧
   (∀ (s : State) (i : Fin 4), s.inv = true → i.val < s.tblCount 2 → s.pubOn = true → s.outPorts ≠ 0 →
     (let u := s.pubCatchUp s.gt (s.gt < s.instantOf s.nextCommit)
      let n := leAt (s.tblAt 2 i) 9 1
      n ≤ (u.net.pub.at i).taken.length →
      ∃ t y, exec (.svPublish i) s = .next t ∧ s.keeps t (.net :: logParts) ∧ t.out.net = s.out.net ++ [y] ∧
        y.tx = .sv i ((u.net.pub.at i).taken.take n) ∧ (t.net.pub.at i).taken = (u.net.pub.at i).taken.drop n ∧
        t.regN (Reg.NET_PUBCNT i) = min (s.regN (Reg.NET_PUBCNT i) + 1) (2 ^ 32 - 1)))) ∧
  ((∀ (s : State) (m : GooseMsg), s.inv = true → s.portOn 0 = true ∨ s.portOn 1 = true → s.tblCount 3 = 1 → s.goMatch 0 m = true → m.test = false →
     m.sim = (leAt (s.tblAt 3 0) 8 1).testBit 1 →
     ∃ t, exec (.gooseRx m) s = .next t ∧ s.keeps t ([.pan, .pwm, .safe, .net] ++ logParts) ∧
       (goBad (s.tblAt 3 0) m = true → (t.net.goSub.at 0).valid = false ∧ (t.net.goSub.at 0).mismatch = true ∧ t.stuck Stk.GOOSE_MISMATCH = true ∧
         (t.reg Reg.NET_GOVALID_LO).getLsbD 0 = false) ∧
       (goBad (s.tblAt 3 0) m = false → (s.net.goSub.at 0).any = false →
         (t.net.goSub.at 0).valid = true ∧ (t.net.goSub.at 0).until_ = s.gt + m.ttlMs * 500000 ∧ (t.net.goSub.at 0).stNum = m.stNum ∧
           (t.net.goSub.at 0).sqNum = m.sqNum ∧ (t.reg Reg.NET_GOVALID_LO).getLsbD 0 = true)) ∧
   (∀ (s : State) (n : Fin 64), s.inv = true → (s.net.goSub.at n).valid = true → n.val < s.tblCount 3 → s.powered = true →
     ∃ t, exec (.gooseExpiry n) s = .next t ∧ s.keeps t ([.gt, .pan, .net] ++ logParts) ∧ (t.net.goSub.at n).valid = false ∧
       t.stuck Stk.GOOSE_EXP = true ∧ t.gt = (s.gtTo (s.net.goSub.at n).until_).gt ∧
       t.regN Reg.NET_GOEXP = min (s.regN Reg.NET_GOEXP + 1) (2 ^ 32 - 1)) ∧
   (∀ (s : State) (u : Fin 16), s.inv = true → (s.net.goPub.at u).any = true → u.val < s.tblCount 4 → s.powered = true →
     ∃ t, exec (.gooseRetransmit u) s = .next t ∧ s.keeps t [.gt, .net, .out] ∧ (t.net.goPub.at u).sqNum = numNext (s.net.goPub.at u).sqNum ∧
       (t.net.goPub.at u).stNum = (s.net.goPub.at u).stNum ∧ t.gt = (s.gtTo (s.net.goPub.at u).nextAt).gt ∧
       (s.outPorts ≠ 0 → ∃ y, t.out.net = s.out.net ++ [y])))

/-- From R378 to R380, R474, R484. With P2 up a BEACON is sent when its burst is admitted, or else deferred and counted; a request is answered
with STATUS or LOG; the watch ends in DORMANT after its idle time; in DORMANT a wake by P2 waits for its admission. Conventions that the
model chose, in the log: entries 161, 162, 235. -/
def Obligations.WatchLinkAnswers : Prop :=
  (∀ s : State, s.inv = true → s.p2Up = true →
    ∃ t, exec .beacon s = .next t ∧ s.keeps t ([.gt, .pwr, .net] ++ logParts) ∧ t.net.beaconAt = t.gt ∧
      t.gt = (s.gtTo (s.net.beaconAt + clampNat 1 3600 (s.fld Reg.NET_TLCFG F.NET_TLCFG_BEACON) * 500000000)).gt ∧
      (s.p2Admits = true → t.net.watchSeq = (s.net.watchSeq + 1) % 65536 ∧ t.net.beaconDue = false ∧
        ∃ p, p.length = 18 ∧ t.out.frames = s.out.frames ++ [(2, watchFrame 1 s.net.watchSeq p)]) ∧
      (s.p2Admits = false → t.net.beaconDue = true ∧ t.stuck Stk.TL_DEFER = true ∧ t.out.frames = s.out.frames ∧
        t.regN Reg.NET_TLDEFER = min (s.regN Reg.NET_TLDEFER + 1) (2 ^ 32 - 1))) ∧
  (∀ (s : State) (seq : Fin 65536), s.inv = true → s.p2Up = true → s.p2Admits = true →
    (∃ t, exec (.statusReq seq) s = .next t ∧ s.keeps t [.pwr, .net, .out] ∧ t.net.lastWatch = s.gt ∧
      t.out.frames = s.out.frames ++ [(2, watchFrame 3 seq s.statusPayload)]) ∧
    (∀ (start : Word) (count : Nat), 1 ≤ count → count ≤ 8 →
      ∃ (t : State) (rs : List LogRec), exec (.logReq seq start count) s = .next t ∧ s.keeps t ([.pwr, .net] ++ logParts) ∧ t.net.lastWatch = s.gt ∧ rs.length ≤ count ∧
        t.out.frames = s.out.frames ++ [(2, watchFrame 5 seq (rs.flatMap LogRec.bytes))])) ∧
  (∀ s : State, s.inv = true → s.dev = .watch → s.fld Reg.NET_TLCFG F.NET_TLCFG_IDLE ≠ 0 →
    ∃ t, exec .watchIdleTimeout s = .next t ∧ t.dev = .dormant ∧ t.safe = {} ∧ t.flag Reg.NET_TLSTAT F.NET_TLSTAT_LINK = false ∧
      t.gt = (s.gtTo (s.net.lastWatch + s.fld Reg.NET_TLCFG F.NET_TLCFG_IDLE * 500000000)).gt ∧
      s.keeps t ([.gt, .dev, .safe, .pwr, .net] ++ logParts)) ∧
  (∀ s : State, s.dev = .dormant → s.pwr.keepOff = false → s.flag Reg.CLK_WAKEEN F.CLK_WAKEEN_P2 = true →
    ∃ t, exec .p2Wake s = .next t ∧ s.keeps t [.pwr] ∧ 2 ∈ t.pwr.wakes ∧ t.dev = .dormant)

/-- From R395, R397, R406, R407, R411, R412, R415, R416. A queued pulse starts after the rest and lasts its width; a debounced edge counts; a
write of MCNT_CFG starts its comparison anew. The recorder from REARM over ARMED and POST to DONE: arming empties the banks, the clear takes
320 ticks, a trigger notes its sources and its tick, STOP and the end of POST close every bank; groups and tracks follow their sources in
recorder ticks. Conventions that the model chose, in the log: entries 172, 174, 175, 176, 177, 178, 179. -/
def Obligations.MeteringPinsAndRecorder : Prop :=
  ((∀ (s : State) (k : Fin 8), s.inv = true → s.powered = true →
     (s.flag (Reg.PLS_CFG k) F.PLS_CFG_EN = true → (s.mtr.pls.at k).active = false → s.regN (Reg.PLS_BACKLOG k) ≠ 0 →
       ∃ t, exec (.plsPulse k) s = .next t ∧ s.keeps t [.gt, .regs, .mtr] ∧ s.sameRegs t [Reg.PLS_BACKLOG k] ∧ (t.mtr.pls.at k).active = true ∧
         (t.mtr.pls.at k).since = t.gt ∧ t.gt = (s.gtTo (s.mtr.pls.at k).restUntil).gt ∧ t.mtr.pts = s.mtr.pts ∧
         t.regN (Reg.PLS_BACKLOG k) = s.regN (Reg.PLS_BACKLOG k) - 1) ∧
     ((s.mtr.pls.at k).active = true →
       ∃ t, exec (.plsPulseEnd k) s = .next t ∧ s.keeps t [.gt, .mtr] ∧ (t.mtr.pls.at k).active = false ∧ t.mtr.pts = s.mtr.pts ∧
         (t.mtr.pls.at k).restUntil = t.gt + clampNat 1 1000 (s.fld (Reg.PLS_CFG k) F.PLS_CFG_WIDTH) * 500000 ∧
         t.gt = (s.gtTo ((s.mtr.pls.at k).since + clampNat 1 1000 (s.fld (Reg.PLS_CFG k) F.PLS_CFG_WIDTH) * 500000)).gt)) ∧
   (∀ (s : State) (i : Fin 4) (closed : Bool), s.inv = true → s.powered = true → (s.mtr.mcnt.at i).closed ≠ closed →
     ∃ t, exec (.mcntEdge i closed) s = .next t ∧ s.keeps t [.regs, .mtr] ∧ s.sameRegs t [Reg.MCNT_CNT i] ∧ (t.mtr.mcnt.at i).closed = closed ∧
       t.mtr.pts = s.mtr.pts ∧
       (s.flag (Reg.MCNT_CFG i) F.MCNT_CFG_EN = true → s.flag (Reg.MCNT_CFG i) F.MCNT_CFG_EDGE ≠ closed →
         t.regN (Reg.MCNT_CNT i) = (s.regN (Reg.MCNT_CNT i) + 1) % 2 ^ 32 ∧ (t.mtr.mcnt.at i).counted = (s.mtr.mcnt.at i).counted + 1) ∧
       (s.flag (Reg.MCNT_CFG i) F.MCNT_CFG_EN = false → t.regs = s.regs)) ∧
   (∀ (s : State) (i : Fin 4) (val : Word), s.inv = true →
     ∃ t, exec (.mcntCfgWrite i val) s = .next t ∧ s.keeps t [.regs, .mtr] ∧ s.sameRegs t [Reg.MCNT_CFG i, Reg.MCNT_DIFF i] ∧
       t.reg (Reg.MCNT_DIFF i) = 0#32 ∧ t.reg (Reg.MCNT_CFG i) = val &&& 0xFFFF0733#32 ∧ (t.mtr.mcnt.at i).counted = 0 ∧ t.mtr.pts = s.mtr.pts)) ∧
  ((∀ (s : State) (g : Fin 16), s.inv = true → s.recClocked = true → s.recKind g ≠ 0 →
     (let u := s.gtTo ((s.gt + 4) / 5 * 5)
      ∃ t, exec (.trackChange g) s = .next t ∧ s.keeps t ([.gt, .hop] ++ logParts) ∧ t.gt = u.gt ∧ (t.bank g).state = u.groupState g ∧
        (s.recState = 0 → s.keeps t [.gt, .hop]) ∧ (∀ k, k ≠ g.val → s.recState = 0 → t.bank k = s.bank k))) ∧
   (∀ (s : State) (a : Fin 64) (l : AdcLast) (v : Word), s.inv = true → s.recClocked = true → s.trackOn a = true →
     (s.ana.cores.at (s.fld (Reg.REC_ASRC a) F.REC_ASRC_CORE)).last.find (s.fld (Reg.REC_ASRC a) F.REC_ASRC_ENTRY) = some l → l.val = v →
     (let per := 5 * max 100 (s.fld Reg.REC_ACFG F.REC_ACFG_APER)
      let g := (s.gt + per - 1) / per * per
      l.ended < g →
      ∃ t, exec (.analogSample a) s = .next t ∧ s.keeps t ([.gt, .hop] ++ logParts) ∧ t.gt = (s.gtTo g).gt ∧ (t.hop.tracks.at a).sample = some v ∧
        (s.recState = 0 → s.keeps t [.gt, .hop] ∧ t.hop.banks = s.hop.banks))) ∧
   (∀ s : State, s.inv = true → s.recClocked = true → s.recState = 0 ∨ s.recState = 4 →
     ∃ t, exec .recCtrlArm s = .next t ∧ s.keeps t [.regs, .hop] ∧ t.recState = 1 ∧ t.hop.armAt = (s.gt + 4) / 5 * 5 ∧ t.reg Reg.REC_TRIGSRC = 0#32 ∧
       ∀ b, b < 16 → (t.bank b).isOpen = false ∧ (t.bank b).mem = [] ∧ t.reg (Reg.REC_GRECCNT b) = 0#32) ∧
   (∀ s : State, s.inv = true → s.recClocked = true → s.recState = 1 →
     ∃ t, exec .rearmComplete s = .next t ∧ s.keeps t ([.gt, .hop] ++ logParts) ∧ t.recState = 2 ∧ t.gt = (s.gtTo (s.hop.armAt + 320)).gt ∧
       t.hop.armAt = s.hop.armAt + 320 ∧ t.regN Reg.REC_ARMGT_LO = (s.hop.armAt + 320) % 2 ^ 32) ∧
   (∀ (s : State) (i : Instr) (src : Nat), s.inv = true → s.recClocked = true →
     (i = .recCtrlSwtrig ∧ src = 2 ^ 25 ∨
       ∃ ev : Fin 16, i = .recorderTrigger ev ∧ ev.val &&& s.fld Reg.REC_EVTRIG F.REC_EVTRIG_EV ≠ 0 ∧
         src = 2 ^ 16 * (ev.val &&& s.fld Reg.REC_EVTRIG F.REC_EVTRIG_EV)) →
     ∃ t, exec i s = .next t ∧ s.keeps t ([.gt, .hop] ++ logParts) ∧ t.gt = (s.gtTo ((s.gt + 4) / 5 * 5)).gt ∧
       (s.recState = 2 → (t.recState = 3 ∨ t.recState = 4) ∧ t.hop.trigAt = (s.gt + 4) / 5 * 5 ∧ t.regN Reg.REC_TRIGSRC = src) ∧
       (s.recState = 1 ∨ s.recState = 4 → t.recState = s.recState ∧ t.stuck Stk.REC_REARM_MISS = true ∧
         t.regN Reg.REC_MISSCNT = min (s.regN Reg.REC_MISSCNT + 1) (2 ^ 32 - 1)) ∧
       (s.recState = 3 → (s.gt + 4) / 5 * 5 ≠ s.hop.trigAt → t.recState = 3 ∧
         t.regN Reg.REC_TRIGCNT = min (s.regN Reg.REC_TRIGCNT + 1) (2 ^ 32 - 1))) ∧
   (∀ s : State, s.inv = true → 1 ≤ s.recState → s.recState ≤ 3 →
     (∃ t, exec .recCtrlStop s = .next t ∧ s.keeps t (.hop :: logParts) ∧ t.recState = 4 ∧ t.fld Reg.REC_STAT F.REC_STAT_CAUSE = 3 ∧
       ∀ b, b < 16 → (t.bank b).isOpen = false) ∧
     (s.recState = 3 →
       ∃ t, exec .postEnd s = .next t ∧ s.keeps t ([.gt, .hop] ++ logParts) ∧ t.recState = 4 ∧ t.gt = (s.gtTo (s.hop.trigAt + s.recPost)).gt ∧
         (t.fld Reg.REC_STAT F.REC_STAT_CAUSE = 1 ∨ t.fld Reg.REC_STAT F.REC_STAT_CAUSE = 2) ∧ ∀ b, b < 16 → (t.bank b).isOpen = false)))

/-- R392: A read of a live energy register's low word gives that word and copies the register's high word and its point's wrap counters into
their read registers; a live value that is read as LO and then HI is the one of that instant. -/
def Obligations.EnergyReadBelongsToOneInstant : Prop :=
  ∀ (s : State) (m : Fin 4) (r : Fin 7), s.inv = true →
    ∃ t, exec (.mtrERead m r) s = .next t ∧ s.keeps t [.regs, .out] ∧ s.sameRegs t [Reg.MTR_E_HI m r, Reg.MTR_WRAP0 m, Reg.MTR_WRAP1 m] ∧
      t.out.value = w32 ((s.mtrPt m).e.at r / 2 ^ 32) ∧ t.regN (Reg.MTR_E_HI m r) = (s.mtrPt m).e.at r / 2 ^ 64 % 2 ^ 32 ∧
      t.regN (Reg.MTR_WRAP0 m) = (let w := (s.mtrPt m).wrap; (w.at 0 + 256 * w.at 1 + 65536 * w.at 2 + 16777216 * w.at 3) % 2 ^ 32) ∧
      t.regN (Reg.MTR_WRAP1 m) = (let w := (s.mtrPt m).wrap; (w.at 4 + 256 * w.at 5 + 65536 * w.at 6) % 2 ^ 32) ∧
      ∀ u : State, u.regs = t.regs → u.regN (Reg.MTR_E_HI m r) * 2 ^ 32 + t.out.value.toNat = (s.mtrPt m).e.at r / 2 ^ 32 % 2 ^ 64

/-- From R425 to R429, R446, R431, R443, R445. A doorbell submits entries, or is ignored with STK_MBX_DOORBELL where it would pass the head;
consumed completion entries let a waiting completion in; a fetch takes the next queue's entry under its tag, and a tag that is outstanding
already ends at once. A command that has not started in its time ends with TIMEOUT; a mailbox reset empties the rings, closes the session
and lets what was fetched run to its end unseen; reading MBX_STK ends the event; a session ends with its time, and a lockout with its
minute. Conventions that the model chose, in the log: entries 182, 183, 184, 185, 186, 189. -/
def Obligations.MailboxQueuesAndTimes : Prop :=
  ((∀ (s : State) (q : Fin 4) (val : Word), s.inv = true → s.hostOn = true → s.flag Reg.MBX_STAT F.MBX_STAT_READY = true →
     (let tail := s.fld (Reg.MBX_SQTAIL q) F.MBX_SQTAIL_TAIL
      let held := (tail + 64 - s.fld (Reg.MBX_SQHEAD q) F.MBX_SQHEAD_HEAD) % 64
      (val.toNat < 64 → (val.toNat + 64 - tail) % 64 + held ≤ 63 →
        ∃ t, exec (.sqDoorbell q val) s = .next t ∧ s.keeps t [.regs] ∧ s.sameRegs t [Reg.MBX_SQTAIL q] ∧
          t.fld (Reg.MBX_SQTAIL q) F.MBX_SQTAIL_TAIL = val.toNat) ∧
      (64 ≤ val.toNat ∨ 63 < (val.toNat + 64 - tail) % 64 + held →
        ∃ t, exec (.sqDoorbell q val) s = .next t ∧ s.keeps t logParts ∧ t.stuck Stk.MBX_DOORBELL = true ∧
          t.reg (Reg.MBX_SQTAIL q) = s.reg (Reg.MBX_SQTAIL q)))) ∧
   (∀ (s : State) (q : Fin 4) (val : Word), s.inv = true → s.hostOn = true →
     (s.mbx.wait.at q = [] →
       ∃ t, exec (.cqHeadWrite q val) s = .next t ∧ s.keeps t [.regs] ∧ s.sameRegs t [Reg.MBX_CQHEAD q] ∧
         t.fld (Reg.MBX_CQHEAD q) F.MBX_CQHEAD_HEAD = val.toNat % 64) ∧
     (∀ m : MComp, s.mbx.wait.at q = [m] → m.q = q → m.dup = false → m.tag < 64 → s.mbx.cmds.find m.tag = none →
       val.toNat % 64 ≠ (s.fld (Reg.MBX_CQTAIL q) F.MBX_CQTAIL_TAIL + 1) % 64 →
       ∃ t, exec (.cqHeadWrite q val) s = .next t ∧ s.keeps t [.regs, .mbx, .out] ∧ t.completed m ∧ t.mbx.wait.at q = [] ∧
         t.fld (Reg.MBX_CQHEAD q) F.MBX_CQHEAD_HEAD = val.toNat % 64 ∧
         t.fld (Reg.MBX_CQTAIL q) F.MBX_CQTAIL_TAIL = (s.fld (Reg.MBX_CQTAIL q) F.MBX_CQTAIL_TAIL + 1) % 64)) ∧
   (∀ (s : State) (q : Fin 4) (e tag : Nat) (c : MCmd), s.inv = true → s.hostOn = true → s.flag Reg.MBX_STAT F.MBX_STAT_READY = true →
     s.stewardOn = true → s.supFailed = false → s.nextQueue = some q → s.fld (Reg.MBX_SQHEAD q) F.MBX_SQHEAD_HEAD = e →
     s.readDescr q e = (tag, c) →
     (tag < 64 → s.tagOut tag = false → (opInfo c.opc).isSome = true →
       ∃ t, exec .commandFetch s = .next t ∧ s.keeps t [.regs, .mbx] ∧ s.sameRegs t [Reg.MBX_SQHEAD q, Reg.MBX_OUTST_LO, Reg.MBX_OUTST_HI] ∧
         t.fld (Reg.MBX_SQHEAD q) F.MBX_SQHEAD_HEAD = (e + 1) % 64 ∧ t.tagOut tag = true ∧ t.mbx.cmds.find tag = some c ∧ t.mbx.lastQ = q ∧
         (∀ k, k < 64 → k ≠ tag → t.tagOut k = s.tagOut k) ∧ ∀ k, k ≠ tag → t.mbx.cmds.find k = s.mbx.cmds.find k) ∧
     (tag < 64 → s.tagOut tag = false → opInfo c.opc = none → KMap.wf s.mbx.cmds = true → s.mbx.wait.at q = [] → s.cqFull q = false →
       ∃ t, exec .commandFetch s = .next t ∧ s.keeps t [.regs, .mbx, .out] ∧ t.completed (c.comp tag stRange)) ∧
     (64 ≤ tag ∨ s.tagOut tag = true →
       ∃ t, exec .commandFetch s = .next t ∧ s.keeps t logParts ∧ t.stuck Stk.MBX_DUPTAG = true ∧ t.mbx.cmds = s.mbx.cmds ∧
         t.fld (Reg.MBX_SQHEAD q) F.MBX_SQHEAD_HEAD = (e + 1) % 64 ∧ ∀ k, k < 64 → t.tagOut k = s.tagOut k))) ∧
  ((∀ (s : State) (tag : Fin 64) (c : MCmd), s.inv = true → KMap.wf s.mbx.cmds = true → s.mbx.cmds.find tag = some c → c.started = false →
     c.timeout ≠ 0 → c.dropped = false → s.stewardOn = true → s.supFailed = false → s.mbx.wait.at c.q = [] → s.cqFull c.q = false →
     ∃ t, exec (.commandTimeout tag) s = .next t ∧ s.endsOnly t tag c [.gt] (fun _ => False) ∧ t.completed (c.comp tag stTimeout) ∧
       t.gt = (s.gtTo (c.fetchedAt + c.timeout * 500000)).gt) ∧
   (∀ s : State, s.inv = true → s.hostOn = true →
     ∃ t, exec .mailboxReset s = .next t ∧ s.keeps t (.mbx :: logParts) ∧ t.stuck Stk.HOST_RESET = true ∧
       t.flag Reg.MBX_EXPSESS F.MBX_EXPSESS_OPEN = false ∧ (∀ b, t.grants b true = false ∧ t.grants b false = false) ∧
       (∀ q, q < 4 → t.fld (Reg.MBX_SQTAIL q) F.MBX_SQTAIL_TAIL = 0 ∧ t.fld (Reg.MBX_SQHEAD q) F.MBX_SQHEAD_HEAD = 0 ∧
         t.fld (Reg.MBX_CQTAIL q) F.MBX_CQTAIL_TAIL = 0 ∧ t.fld (Reg.MBX_CQHEAD q) F.MBX_CQHEAD_HEAD = 0 ∧ t.mbx.wait.at q = [] ∧ t.mbx.phases.at q = true) ∧
       (∀ k, k < 64 → t.tagOut k = false) ∧ (∀ e, e ∈ t.mbx.cmds → e.2.dropped = true) ∧
       t.flag Reg.MBX_STAT F.MBX_STAT_READY = (s.mbx.cmds.isEmpty && !s.fw.booting)) ∧
   (∀ s : State, s.hostOn = true →
     ∃ t, exec .mbxStkRead s = .next t ∧ s.keeps t [.mbx, .out] ∧ t.out.value = s.reg Reg.MBX_STK ∧ t.mbx.evPend = false ∧
       t.mbx.cmds = s.mbx.cmds ∧ t.out.frames = s.out.frames) ∧
   (∀ s : State, s.inv = true → s.hostOn = true → s.flag Reg.MBX_EXPSESS F.MBX_EXPSESS_OPEN = true →
     ∃ t, exec .sessionExpire s = .next t ∧ s.keeps t ([.gt, .mbx] ++ logParts) ∧ t.gt = (s.gtTo s.mbx.sesEnd).gt ∧
       t.flag Reg.MBX_EXPSESS F.MBX_EXPSESS_OPEN = false ∧ t.mbx.cmds = s.mbx.cmds ∧ ∀ b, t.grants b true = false ∧ t.grants b false = false) ∧
   (∀ s : State, s.hostOn = true → s.gt < s.mbx.lockUntil →
     ∃ t, exec .authLockoutEnd s = .next t ∧ s.keeps t [.gt, .mbx] ∧ t.mbx.authRow = 0 ∧ t.mbx.cmds = s.mbx.cmds ∧
       t.gt = (s.gtTo s.mbx.lockUntil).gt))

/-- From R427 to R436. A row of the table that is a command of the host acts on nothing but a command of its own code that may start. One whose
time to start has passed ends with TIMEOUT; one whose descriptor breaks a rule ends with RANGE and the first word that does; one that the
present state does not allow ends with BUSY. None of them has any other effect. Conventions that the model chose, in the log: entries 180,
181, 183, 186, 187. -/
def Obligations.ChecksComeBeforeEffects : Prop :=
  ∀ (i : Instr) (s : State) (opc tag : Nat), hostCmd i = some (opc, tag) →
    ((s.mbx.cmds.find tag = none ∨ ∃ c, s.mbx.cmds.find tag = some c ∧ (c.opc ≠ opc ∨ s.canStart c = false)) → exec i s = .next s) ∧
    (∀ (c : MCmd) (f : OpInfo), opInfo opc = some f → s.inv = true → KMap.wf s.mbx.cmds = true → s.mbx.cmds.find tag = some c → c.opc = opc →
      s.canStart c = true → c.dropped = false → s.mbx.wait.at c.q = [] → s.cqFull c.q = false →
      (s.startLate c = true → ∃ t, exec i s = .next t ∧ t.completed (c.comp tag stTimeout) ∧ s.justEnds t tag c) ∧
      (∀ w, s.startLate c = false → c.err f s.mbx.qspi = some w →
        ∃ t, exec i s = .next t ∧ t.completed (c.comp tag stRange (w32 w)) ∧ s.justEnds t tag c) ∧
      (s.startLate c = false → c.err f s.mbx.qspi = none → s.cmdBusy c f = true →
        ∃ t, exec i s = .next t ∧ t.completed (c.comp tag stBusy) ∧ s.justEnds t tag c))

/-- From R12, R133, R424, R440, R445. A write through the window without a grant of its block at WRITE level is dropped, counted and
STK_EXP_REFUSED; with one, and as a register write, a shadow register of a leg group takes its value, a threshold waits for the epoch
boundary, and a period takes effect in STANDBY only; a write through the window is recorded. The frames of the quad-SPI port carry words of
the transfer buffer both ways. Conventions that the model chose, in the log: entries 208, 216, 218, 242. -/
def Obligations.RegisterWritesAndFrames : Prop :=
  (∀ (s : State) (a : Fin 1048576) (val : Word) (b : Nat), s.inv = true → s.hostOn = true → blockOf (a.val / 4 * 4) = some b →
    s.grants b true = false →
      ∃ t, exec (.expertWindowWrite a val) s = .next t ∧ s.keeps t logParts ∧ s.sameRegs t ([Reg.MBX_EXPREF, Stk.EXP_REFUSED.reg] ++ logRegs) ∧
        t.regN Reg.MBX_EXPREF = min (s.regN Reg.MBX_EXPREF + 1) (2 ^ 32 - 1) ∧ t.stuck Stk.EXP_REFUSED = true) ∧
  (∀ (s : State) (i : Instr) (a : Nat) (val : Word), s.inv = true → s.hostOn = true → s.powered = true →
    ((∃ h : a < 67108864, i = .registerWrite ⟨a, h⟩ val) ∨ (∃ h : a < 1048576, i = .expertWindowWrite ⟨a, h⟩ val) ∧ ∀ b, blockOf a = some b → s.grants b true = true) →
    (∀ g k, g < s.groups → k < 7 → a = 0x30040 + 0x100 * g + 4 * k →
      ∃ t, exec i s = .next t ∧ s.keeps t logParts ∧ t.reg a &&& 0x1FFFFFFF#32 = val &&& 0x1FFFFFFF#32 ∧ s.sameRegs t (a :: logRegs) ∧
        t.deferred = s.deferred ∧ ((∀ h, i = .expertWindowWrite ⟨a, h⟩ val → s.log.queue.length < 56 →
          ∃ r, t.log.queue = s.log.queue ++ [r] ∧ r.typ = 0x14 ∧ r.code = 13 ∧ r.gt = s.gt ∧ r.w0 = w32 (a - 0x30000) ∧ r.w1 = val ∧ r.w2 = w32 s.nextCommit))) ∧
    (∀ n, n < 64 → a = Reg.CMP_THR n →
      ∃ t, exec i s = .next t ∧ s.keeps t (.deferred :: logParts) ∧ t.reg a = s.reg a ∧ t.deferred.find a = some val ∧
        ∀ k, k ≠ a → t.deferred.find k = s.deferred.find k) ∧
    (∀ g, g < s.groups → a = Reg.PWM_PER g →
      ∃ t, exec i s = .next t ∧ s.keeps t (.pwm :: logParts) ∧ s.sameRegs t (a :: logRegs) ∧
        (s.dev = .standby → t.reg a &&& 0xFFFFFF#32 = val &&& 0xFFFFFF#32) ∧ (s.dev ≠ .standby → t.reg a = s.reg a))) ∧
  (∀ (s : State) (o : Nat), s.inv = true → s.hostOn = true → s.mbx.qspi = true → Store.wf zeroes s.mbx.buf = true → o % 4 = 0 → o < 0x80000 →
    (∀ bytes : List Byte, o + bytes.length ≤ 0x80000 →
      ∃ t, exec (.qspiFrame (.write (w32 (0x3000000 + o)) bytes)) s = .next t ∧ s.keeps t [.mbx] ∧ t.mbx.cmds = s.mbx.cmds ∧
        (∀ i, i < bytes.length / 4 → t.bufWord (o + 4 * i) = w32 (leAt bytes (4 * i) 4)) ∧
        ∀ k, k < o ∨ o + bytes.length / 4 * 4 ≤ k → t.bufWord k = s.bufWord k) ∧
    (∀ n, o + 4 * n ≤ 0x80000 →
      ∃ t, exec (.qspiFrame (.read (w32 (0x3000000 + o)) n)) s = .next t ∧ s.keeps t [.out] ∧
        t.out.frames = s.out.frames ++ [(5, (List.range n).flatMap (fun i => leBytes 4 (s.bufWord (o + 4 * i)).toNat))]))

/-- From R13, R36, R490, R491, R484, R485, R494, R495, R500. CLEAR waits for the next commit, in STANDBY only; writing 1 clears a sticky bit,
unless the hardware sets it in the same cycle, and through a summary word in every register that holds it; a write clears a SAT counter; a
read of a first-set time captures its high word. The record at the front of the queue is written under the next sequence number when its
burst is admitted, a pinned one into a free pinned slot, any other into the next circular one, else it waits and the burst counts as
deferred. Conventions that the model chose, in the log: entries 21, 217, 236, 237, 242. -/
def Obligations.ClearsAndLogWrites : Prop :=
  ((∀ s : State,
     (s.dev = .standby → ∃ t, exec .panCtrlClear s = .next t ∧ s.keeps t [.pan] ∧ t.pan.clearNext = true ∧ t.pan.committed = s.pan.committed ∧
       t.pan.pend = s.pan.pend) ∧
     (s.dev ≠ .standby → exec .panCtrlClear s = .next s)) ∧
   (∀ (s : State) (a : Fin 1048576) (val sets : Word), s.inv = true → s.powered = true →
     (∀ r, 0x10010 ≤ a.val → regRow (fileView a) = some r → s.absentReg (fileView a) = false → ¬ (0x44100 ≤ fileView a ∧ fileView a < 0x50000) →
       ∃ t, exec (.stickyClear a val sets) s = .next t ∧ s.keeps t [.regs, .log] ∧ s.sameRegs t [fileView a, Reg.PAN_STK] ∧
         (fileView a ≠ Reg.NET_STK → s.sameRegs t [fileView a]) ∧ t.log.queue = s.log.queue ∧
         ∀ i, (t.reg (fileView a)).getLsbD i = ((s.reg (fileView a)).getLsbD i && !(val.getLsbD i && !sets.getLsbD i && r.w1c.testBit i))) ∧
     (∀ i, i < 4 → a.val = 0x10000 + 4 * i →
       ∃ t, exec (.stickyClear a val sets) s = .next t ∧ s.keeps t [.regs, .log] ∧ t.log.queue = s.log.queue ∧ (∀ k, ¬ stickyReg k → t.reg k = s.reg k) ∧
         (∀ b, b < 32 → val.getLsbD b = true → sets.getLsbD b = false → t.fileBit (32 * i + b) = false) ∧
         ∀ n, n ≠ 5 → n ≠ 88 → (∀ b, b < 32 → n = 32 * i + b → val.getLsbD b = true → sets.getLsbD b = true) → t.fileBit n = s.fileBit n)) ∧
   (∀ (s : State) (a : Fin 1048576) (r : RegRow), s.inv = true → s.powered = true → regRow a.val = some r → r.sat = true → s.absentReg a = false →
     ∃ t, exec (.counterClear a) s = .next t ∧ s.keeps t [.regs] ∧ s.sameRegs t [a.val] ∧ t.reg a = 0#32) ∧
   (∀ (s : State) (n : Fin 128) (g : Nat), n.val ≠ 88 → s.fileBit n = true → s.log.fgt.find n = some g → Store.wf zeroes s.log.fgtHi = true →
     ∃ t, exec (.stkFgtRead n) s = .next t ∧ s.keeps t [.log, .out] ∧ t.out.value = w32 g ∧ t.log.fgtHi.get zeroes n = w32 (g / 2 ^ 32) ∧
       t.log.fgt = s.log.fgt ∧ t.log.queue = s.log.queue ∧ t.log.mram = s.log.mram)) ∧
  ((∀ (s : State) (out : MramOut) (r : LogRec) (q : List LogRec), s.inv = true → s.pwr.keepOff = false → s.log.queue = r :: q →
     (s.admits s.logCost false = true →
       ∃ t w, exec (.mramRecordWrite out) s = .next t ∧ s.keeps t (.pwr :: logParts) ∧ t.log.nextSeq = seqNext s.log.nextSeq ∧
         w = { r with seq := s.log.nextSeq, whole := out != .torn, ecc := out == .broken } ∧
         (r.pin = false → t.log.mram.find s.log.nextCirc = some w ∧ (∀ k, k ≠ s.log.nextCirc → t.log.mram.find k = s.log.mram.find k) ∧
           (1024 ≤ s.log.nextCirc → t.log.nextCirc = if s.log.nextCirc = 8191 then 1024 else s.log.nextCirc + 1) ∧
           (s.log.dropped = 0 → t.log.queue = q)) ∧
         (r.pin = true → (∃ i, i < 1024 ∧ s.log.pinFree i = true) →
           ∃ i, i < 1024 ∧ s.log.pinFree i = true ∧ (∀ j, j < i → s.log.pinFree j = false) ∧ t.log.mram.find i = some w ∧ t.log.nextCirc = s.log.nextCirc ∧
             t.log.pinFree i = false) ∧
         (r.pin = true → (∀ i, i < 1024 → s.log.pinFree i = false) → t.log.mram.find s.log.nextCirc = some w ∧ t.stuck Stk.LOG_PINFULL = true)) ∧
     (s.admits s.logCost false = false →
       ∃ t, exec (.mramRecordWrite out) s = .next t ∧ s.keeps t logParts ∧ t.log.mram = s.log.mram ∧ t.log.nextSeq = s.log.nextSeq ∧
         t.stuck Stk.BURST_DEFER = true ∧ t.regN Reg.CLK_DEFERCNT = min (s.regN Reg.CLK_DEFERCNT + 1) (2 ^ 32 - 1) ∧
         ∃ rest, t.log.queue = r :: rest)))

/-- R501: Writing a number to LOG_PINREL releases every record in the pinned area that is not later than it: their slots are free, and the
records stay readable. It takes effect only in a WRITE session that grants block 0, and writes a record of type 0x12 with code 2 where the
queue has room. -/
def Obligations.PinReleaseFreesOldRecords : Prop :=
  ∀ (s : State) (seq : Word), s.inv = true →
    (s.hostOn = true → s.grants 0 true = true →
      ∃ t, exec (.logPinrel seq) s = .next t ∧ s.keeps t logParts ∧ t.log.mram = s.log.mram ∧
        (∀ e, e ∈ s.log.mram → e.1 < 1024 → seqLater seq.toNat e.2.seq = false → t.log.pinFree e.1 = true) ∧
        (∀ e, e ∈ s.log.mram → (∀ k, k ∈ s.log.mram → k.1 = e.1 → seqLater seq.toNat k.2.seq = true) →
          t.log.pinFree e.1 = s.log.pinFree e.1) ∧
        (s.log.queue.length < 56 → ∃ r, t.log.queue = s.log.queue ++ [r] ∧ r.typ = 0x12 ∧ r.code = 2 ∧ r.gt = s.gt ∧ r.qual = s.qual)) ∧
    (s.grants 0 true = false → exec (.logPinrel seq) s = .next s)

/-- From R448, R449, R471, R473, R481, R499, R515, R517. PORST_N, TEST_EN and a supply-monitor reset return every domain but KEEP to its reset
state, with their causes; KEEP's power-up starts GT and its registers anew and goes on after the newest record of MRAM. A boundary-scan
instruction that drives pins acts only with PORST_N low; an output folds back until its commanded level changes. Conventions that the model
chose, in the log: entries 12, 230, 231, 232, 240, 241. -/
def Obligations.ResetsAndPins : Prop :=
  ((∀ s : State, s.inv = true → s.pwr.keepOff = false →
     ∃ t, exec .porstNReset s = .next t ∧ s.wasReset t 2 ∧
       t.dev = (if s.mainOk then .standby else if s.powered then .watch else s.dev) ∧ t.pwr.held = (if s.mainOk then none else some 2)) ∧
   (∀ s : State, s.inv = true →
     ∃ t, exec .testEnHigh s = .next t ∧ s.wasReset t 2 ∧ t.pin.testEn = true ∧ t.hostOn = false ∧ t.powered = false) ∧
   (∀ (s : State) (rails : Fin 64) (latched : Bool), s.inv = true → s.powered = true → s.stored → rails.val ≠ 0 →
     ∃ t, exec (.brownOut rails latched) s = .next t ∧ t.dev = .watch ∧ t.pwr.held = some 3 ∧ t.fw.booting = true ∧ t.fw.cause = 3 ∧
       t.mainOk = false ∧ t.fld Reg.CLK_PWRSTAT F.CLK_PWRSTAT_RAILLOST = rails ∧ t.fld Reg.CLK_PWRSTAT F.CLK_PWRSTAT_RSTCAUSE = 3 ∧
       t.stuck Stk.HOLDUP_SHORT = true ∧ t.stuck Stk.SUPPLY_LOSS = true ∧ t.pwm = {} ∧ t.safe = {} ∧ t.ket = {} ∧ t.gt = s.gt ∧
       t.log.mram = s.log.mram ∧ t.fw.slots = s.fw.slots) ∧
   (∀ (s : State) (mainOk : Bool), s.inv = true →
     ∃ t, exec (.keepPowerUp mainOk) s = .next t ∧ t.gt = 0 ∧ t.qual = 0 ∧ t.mainOk = mainOk ∧ t.pwr.keepOff = false ∧
       t.dev = (if mainOk then .standby else .dormant) ∧ t.fld Reg.CLK_PWRSTAT F.CLK_PWRSTAT_RSTCAUSE = 1 ∧ t.keepSrc = (if mainOk then 0 else 1) ∧
       t.fw.booting = true ∧ t.log.mram = s.log.mram ∧ t.log.queue = [] ∧ t.fw.slots = s.fw.slots ∧ t.fw.commits = s.fw.commits ∧
       t.mbx.keys = s.mbx.keys ∧ t.pan = {} ∧ t.pwm = {} ∧ t.safe = {} ∧ t.ket = {} ∧
       ((∀ e, e ∈ s.log.mram → e.2.ok = false) → t.log.nextSeq = 1) ∧
       (∀ e, s.log.mram = [e] → e.2.ok = true → t.log.nextSeq = seqNext e.2.seq))) ∧
  ((∀ (s : State) (ins : JtagIns) (porstLow : Bool),
     ∃ t, exec (.jtagInstruction ins porstLow) s = .next t ∧ s.keeps t [.pin] ∧ t.pin.folded = s.pin.folded ∧ t.pin.testEn = s.pin.testEn ∧
       (ins = .drive → porstLow = false → t.pin.jtag = .bypass) ∧ (ins ≠ .drive ∨ porstLow = true → t.pin.jtag = ins)) ∧
   (∀ (s : State) (p : OutPin), s.hasPin p = true →
     ∃ t, exec (.outputFoldback p) s = .next t ∧ s.keeps t [.pin] ∧ t.isFolded p = true ∧ (∀ o, o ≠ p → t.isFolded o = s.isFolded o) ∧
       ∀ u : State, u.pin = t.pin → u.levelMark p ≠ t.levelMark p → u.isFolded p = false))

/-- From R455 to R459, R461. A boot runs the image that the commit record names, else the other slot's with STK_BOOT_FALLBACK, else the ROM
serves the mailbox with STK_BOOT_NOIMAGE; a pair that fails its test ends in FAILED; at its end READY is 1; a rewritten store is the other
copy, one SEQ on. Conventions that the model chose, in the log: entries 225, 226, 227, 228, 229. -/
def Obligations.BootRunsTheCommittedImage : Prop :=
  (∀ (s : State) (x : BootTests), s.inv = true → s.fw.booting = true → s.fw.selected = false → s.dev = .standby → s.pin.testEn = false →
    s.supFailed = false →
    (x.checker = true → x.march ≠ .bad → s.fw.copies = [none, none] →
      (∀ r : CommitRec, s.commitNowRec = some r → s.slotValid r.active = true → (s.fw.slots.at r.active).hash = r.hash →
        ∃ t, exec (.boot x) s = .next t ∧ t.fw.running = r.active ∧ t.fw.service = false ∧ t.fw.selected = true ∧ t.fw.refused = 0 ∧
          t.mbx.qspi = x.hmode ∧ t.dev = .standby ∧ t.fw.booting = true ∧ t.gt = s.gt ∧ t.stuck Stk.CFG_RESTORE = true) ∧
      (∀ r : CommitRec, s.commitNowRec = some r → r.active < 2 → s.slotValid r.active = false → s.slotValid (1 - r.active) = true →
        ∃ t, exec (.boot x) s = .next t ∧ t.fw.running = 1 - r.active ∧ t.fw.service = false ∧ t.fw.selected = true ∧
          t.stuck Stk.BOOT_FALLBACK = true ∧ t.fw.refused = 16 ^ r.active * s.slotReason r.active)) ∧
    (x.checker = true → x.march ≠ .bad → s.slotValid 0 = false → s.slotValid 1 = false → (∀ r, s.commitNowRec = some r → r.active < 2) →
      ∃ t, exec (.boot x) s = .next t ∧ s.keeps t ([.mbx, .fw] ++ logParts) ∧ t.fw.service = true ∧ t.fw.selected = true ∧
        t.stuck Stk.BOOT_NOIMAGE = true ∧ t.fw.refused = s.slotReason 0 + 16 * s.slotReason 1 ∧
        t.fw.running = s.commitNowRec.elim 0 (fun c => c.active) ∧ t.fld Reg.CLK_PWRSTAT F.CLK_PWRSTAT_RSTCAUSE = s.fw.cause % 8) ∧
    ((x.checker = false ∨ x.march = .bad) →
      ∃ t, exec (.boot x) s = .next t ∧ t.supFailed = true ∧ t.stuck Stk.BOOT_SELFTEST = true ∧ t.fw.selected = false)) ∧
  (∀ s : State, s.inv = true → s.fw.booting = true → s.fw.selected = true → s.gl.prbRun = false → s.dev = .standby → s.supFailed = false →
    ∃ t, exec .bootComplete s = .next t ∧ s.keeps t (.fw :: logParts) ∧ t.fw.booting = false ∧ t.fw.running = s.fw.running ∧ t.dev = .standby ∧
      t.flag Reg.MBX_STAT F.MBX_STAT_READY = true ∧ s.sameRegs t (Reg.MBX_STAT :: logRegs)) ∧
  (∀ s : State, s.inv = true → s.fw.rewrite = true → s.powered = true → s.stewardOn = true →
    ∃ t i, exec .storeRewriteComplete s = .next t ∧ s.keeps t (.fw :: logParts) ∧ t.fw.rewrite = false ∧ i < 2 ∧
      t.fw.copies.at i = some (s.storeImage ((s.storeCopy (fun _ => true)).bind (fun k => s.fw.copies.at k))) ∧
      t.fw.copies.at (1 - i) = s.fw.copies.at (1 - i) ∧ s.storeCopy (fun _ => true) ≠ some i ∧ t.fw.slots = s.fw.slots)

/-- From R467 to R482, R486, R487. Losing the main supply leads from RUN or STANDBY to WATCH with the gate commands low; with it the device
boots into STANDBY; a wake waits in DORMANT for energy; HSTORE below OFF leads to DORMANT; the monitor's readings, darkness and faults show
in their registers. Conventions that the model chose, in the log: entries 2, 230, 231, 233, 234, 235. -/
def Obligations.SuppliesMoveTheDeviceState : Prop :=
  (∀ (s : State) (rails : Fin 64), s.inv = true → s.powered = true → s.stored → s.mainOk = true → rails.val ≠ 0 →
    ∃ t, exec (.mainSupplyLoss rails) s = .next t ∧ t.dev = .watch ∧ t.mainOk = false ∧ t.keepSrc = 1 ∧ t.gt = s.gt ∧
      t.fld Reg.CLK_PWRSTAT F.CLK_PWRSTAT_RAILLOST = rails ∧ t.stuck Stk.SUPPLY_LOSS = true ∧ t.pwm = {} ∧ t.pan = {} ∧ t.ket = {} ∧
      t.mbx.cmds = [] ∧ t.safe.cfg = s.safe.cfg ∧ t.safe.inForce = s.safe.inForce ∧ t.fw.slots = s.fw.slots ∧
      t.qual = (if s.qual = 0 then 0 else 5)) ∧
  (∀ s : State, s.inv = true → s.mainOk = false → s.pwr.keepOff = false →
    (s.dev = .dormant ∨ s.dev = .watch → s.pwr.held = none →
      ∃ t, exec .mainSupplyValid s = .next t ∧ t.dev = .standby ∧ t.mainOk = true ∧ t.keepSrc = 0 ∧ t.fw.booting = true ∧ t.fw.cause = 4 ∧
        t.gt = s.gt ∧ t.fld Reg.CLK_PWRSTAT F.CLK_PWRSTAT_RSTCAUSE = 4 ∧ t.fw.slots = s.fw.slots ∧
        (s.dev = .dormant → t.pwr.wakes = [])) ∧
    (∀ c, s.pwr.held = some c → c < 8 →
      ∃ t, exec .mainSupplyValid s = .next t ∧ t.dev = .standby ∧ t.mainOk = true ∧ t.fw.booting = true ∧ t.fw.cause = c ∧ t.pwr.held = none ∧
        t.fld Reg.CLK_PWRSTAT F.CLK_PWRSTAT_RSTCAUSE = c)) ∧
  (∀ s : State, s.inv = true → s.dev = .dormant → s.pwr.keepOff = false → s.pwr.wakes ≠ [] → s.mainOk = true ∨ s.wakeMv ≤ s.hstoreMv →
    ∃ t, exec .wakeAdmit s = .next t ∧ s.keeps t ([.dev, .pwr, .net] ++ logParts) ∧ t.dev = .watch ∧ t.pwr.wakes = [] ∧ t.net.lastWatch = s.gt ∧
      t.flag Reg.NET_TLSTAT F.NET_TLSTAT_PWAKE = s.pwr.wakes.contains 2 ∧
      ((∀ n, n ∈ s.pwr.wakes → n ≤ 4) → t.fld Reg.CLK_PWRSTAT F.CLK_PWRSTAT_LASTWAKE ∈ 4 :: s.pwr.wakes ∧
        ∀ n, n ∈ s.pwr.wakes → t.fld Reg.CLK_PWRSTAT F.CLK_PWRSTAT_LASTWAKE ≤ n)) ∧
  (∀ s : State, s.dev = .dormant → s.pwr.keepOff = false → s.flag Reg.CLK_WAKEEN F.CLK_WAKEEN_LIGHT = true →
    s.flag Reg.CLK_PWRSTAT F.CLK_PWRSTAT_LIGHT = true → s.lwakeMv ≤ s.hstoreMv →
    ∃ t, exec .lightWake s = .next t ∧ s.keeps t [.gt, .pwr] ∧ 3 ∈ t.pwr.wakes ∧ t.gt = (s.gtTo (s.pwr.lightSince + 500000000)).gt) ∧
  (∀ (s : State) (u : Nat), s.inv = true → s.dev = .watch → s.mainOk = false → s.pwr.below = some u →
    ∃ t, exec .energyPolicyDormant s = .next t ∧ s.keeps t ([.gt, .dev, .safe, .pwr, .net] ++ logParts) ∧ t.dev = .dormant ∧ t.safe = {} ∧
      t.gt = (s.gtTo (u + 50000000)).gt ∧ t.flag Reg.NET_TLSTAT F.NET_TLSTAT_LINK = false) ∧
  (∀ (s : State) (r : KeepReading), s.inv = true → s.pwr.keepOff = false →
    (s.mainOk = true →
      ∃ t, exec (.keepMonitorConversion r) s = .next t ∧ s.keeps t ([.gt, .pwr, .net] ++ logParts) ∧ t.pwr.convAt = t.gt ∧ t.pwr.admitted = 0 ∧
        t.gt = (s.gtTo (s.pwr.convAt + 5000000)).gt ∧ t.keepSrc = 0 ∧ t.regN Reg.CLK_HRVMON0 = r.hstore.val + 65536 * r.hbat.val ∧
        t.fld Reg.CLK_HRVMON1 F.CLK_HRVMON1_HVIN = r.hvin.val ∧ t.fld Reg.CLK_HRVMON1 F.CLK_HRVMON1_HSET = r.hset.val ∧
        t.regN Reg.CLK_HRVIRR = r.iin.val ∧ (r.hbatNeg = true → t.stuck Stk.HBAT_REV = true) ∧ (r.hvinNeg = true → t.stuck Stk.HVIN_REV = true) ∧
        (r.hbatNeg = false → 500 ≤ 8 * r.hbat.val → 8 * r.hbat.val < 2700 → t.stuck Stk.HBAT_LOW = true) ∧
        t.flag Reg.CLK_PWRSTAT F.CLK_PWRSTAT_LIGHT = t.lightNow) ∧
    (s.mainOk = false → 8 * r.hstore.val < 1900 → 8 * r.hbat.val < 2700 ∨ r.hbatNeg = true →
      ∃ t, exec (.keepMonitorConversion r) s = .next t ∧ t.pwr.keepOff = true ∧ t.gt = 0 ∧ t.dev = .dormant ∧ t.regs = [] ∧
        t.log.mram = s.log.mram ∧ t.fw.slots = s.fw.slots)) ∧
  (∀ s : State, s.inv = true → s.pwr.keepOff = false →
    (s.flag Reg.CLK_PWRSTAT F.CLK_PWRSTAT_LIGHT = false →
      ∃ t, exec .darknessTimeout s = .next t ∧ s.keeps t ([.gt, .pwr] ++ logParts) ∧ t.pwr.darkDone = true ∧
        t.gt = (s.gtTo (s.pwr.darkSince + max 1 (s.fld Reg.CLK_HRVCFG F.CLK_HRVCFG_DARK_T) * 30000000000)).gt) ∧
    (s.pwr.hsetFallback = false →
      ∃ t, exec .hsetFault s = .next t ∧ s.keeps t (.pwr :: logParts) ∧ t.pwr.hsetFallback = true ∧ t.stuck Stk.HSET_FAULT = true) ∧
    (∀ u, s.pwr.shortSince = some u → s.mainOk = true →
      ∃ t, exec .hstoreShort s = .next t ∧ s.keeps t (.gt :: logParts) ∧ t.stuck Stk.HSTORE_SHORT = true ∧ t.gt = (s.gtTo (u + 500000000)).gt))

/-- From R391, R417, R430, R436, R438, R489, R502. IDENTIFY, STATUS, STICKY, LOG_READ, ENG_DUMP, METER_READ and REC_READ end with OK; each gives
its block and its result and changes nothing else, but that STICKY clears the bits it names, and that reading the log counts the records it
discards. Conventions that the model chose, in the log: entries 188, 193, 194, 195, 236. -/
def Obligations.HostReadsReturnTheirBlocks : Prop :=
  ∀ (s : State) (tag : Fin 64) (c : MCmd),
    (s.runs tag 0x01 c →
      (64 ≤ c.len → ∃ t, exec (.identify tag) s = .next t ∧ t.completed (c.comp tag stOk (dlen := 64)) ∧ s.justEnds t tag c ∧ s.gave t c s.identity) ∧
      (c.len < 64 → ∃ t, exec (.identify tag) s = .next t ∧ t.completed (c.comp tag stRange 6#32) ∧ s.justEnds t tag c)) ∧
    (s.runs tag 0x02 c →
      ∃ t, exec (.status tag) s = .next t ∧ s.endsOnly t tag c [.freeN] (fun _ => False) ∧
        t.completed (c.comp tag stOk (w32 ((if s.fw.service then 1 else devCode s.dev) + 4 * s.qual + 32 * bit s.detOk + 64 * (s.supState % 8)))
          (cidx := s.latestCommit) (v0 := w32 s.logNewest) (v1 := s.utcNow))) ∧
    (s.runs tag 0x06 c →
      ∃ t, exec (.sticky tag) s = .next t ∧ t.completed (c.comp tag stOk (dlen := min 4096 c.len)) ∧ s.endsOnly t tag c [.log] stickyReg ∧
        t.log.queue = s.log.queue ∧ (c.len ≠ 0 → s.gave t c (s.stickyFile.take c.len)) ∧
        (∀ n, n < 128 → (c.p.getD (n / 32) 0#32).getLsbD (n % 32) = true → t.fileBit n = false) ∧
        (∀ n, n ≠ 5 → n ≠ 88 → (c.p.getD (n / 32) 0#32).getLsbD (n % 32) = false → t.fileBit n = s.fileBit n)) ∧
    (s.runs tag 0x07 c →
      (1 ≤ c.pw 1 → c.pw 1 ≤ 256 →
        (let rs := (s.logRead (c.pw 0) (min (c.pw 1) (c.len / 32))).2
         ∃ t, exec (.logRead tag) s = .next t ∧ t.completed (c.comp tag stOk (dlen := 32 * rs.length) (v0 := w32 rs.length)) ∧
           s.endsOnly t tag c [.log] (fun a => a ∈ Reg.LOG_TORNCNT :: logRegs) ∧ t.log.mram = s.log.mram ∧
           (rs ≠ [] → s.gave t c (rs.flatMap LogRec.bytes)))) ∧
      (c.pw 1 = 0 ∨ 256 < c.pw 1 → ∃ t, exec (.logRead tag) s = .next t ∧ t.completed (c.comp tag stRange 9#32) ∧ s.justEnds t tag c)) ∧
    (s.runs tag 0x105 c → c.pw 0 < s.engines → 1 ≤ c.pw 2 → c.pw 1 + c.pw 2 ≤ 16384 → 4 * c.pw 2 ≤ c.len →
      ∃ t, exec (.engDump tag) s = .next t ∧ t.completed (c.comp tag stOk (dlen := 4 * c.pw 2) (cidx := (s.bd (c.pw 0)).dumpIdx)) ∧
        s.justEnds t tag c ∧
        s.gave t c ((List.range (c.pw 2)).flatMap (fun i => leBytes 4 ((s.bd (c.pw 0)).dump.get zeroes (c.pw 1 + i)).toNat))) ∧
    (s.runs tag 0x601 c → c.pw 0 < 4 → 96 ≤ c.len →
      ∃ t, exec (.meterRead tag) s = .next t ∧ t.completed (c.comp tag stOk (dlen := 96)) ∧ s.justEnds t tag c ∧ s.gave t c (s.latchBytes (c.pw 0))) ∧
    (s.runs tag 0x704 c → c.pw 0 < 16 → c.pw 1 + c.pw 2 ≤ 0x20000 → 8 * c.pw 2 ≤ c.len →
      (s.recState ≠ 2 → s.recState ≠ 3 →
        ∃ t, exec (.recRead tag) s = .next t ∧ t.completed (c.comp tag stOk (dlen := 8 * c.pw 2)) ∧ s.justEnds t tag c ∧
          (c.pw 2 ≠ 0 →
            s.gave t c ((List.range (c.pw 2)).flatMap (fun i => leBytes 8 ((s.bank (c.pw 0)).mem.get zeroes (c.pw 1 + i)).toNat)))) ∧
      (s.recState = 2 ∨ s.recState = 3 → ∃ t, exec (.recRead tag) s = .next t ∧ t.completed (c.comp tag stBusy) ∧ s.justEnds t tag c))

/-- From R47, R58, R437. STATE enters RUN when no condition bars it, with the command's end at the first epoch, and otherwise ends with the
status of the first condition that fails; it leaves RUN for STANDBY or WATCH, and goes from STANDBY to WATCH; TIME_SET makes a step of whole
seconds due. Conventions that the model chose, in the log: entries 190, 191, 192. -/
def Obligations.StateAndTimeCommands : Prop :=
  ∀ (s : State) (tag : Fin 64) (c : MCmd),
    (s.runs tag 0x03 c → s.pwr.leaving = none →
      (c.pw 0 = 0 → s.dev = .standby →
        (s.runBars.all (fun e => e.2 == 0) = true →
          ∃ t, exec (.state tag) s = .next t ∧ t.dev = .run ∧ t.pwr.entering = some tag.val ∧ t.goesOn tag c ∧ t.gt = s.gt ∧ t.pan = s.pan ∧
            t.safe = s.safe) ∧
        (∀ e, s.runBars.find? (fun e => e.2 ≠ 0) = some e →
          ∃ t, exec (.state tag) s = .next t ∧ t.completed (c.comp tag e.1 (w32 s.runResult)) ∧ s.justEnds t tag c) ∧
        (s.regN Reg.SAFE_SPOLAT ≠ 0 → ∃ t r, exec (.state tag) s = .next t ∧ t.completed (c.comp tag stSafety r) ∧ r.getLsbD 0 = true)) ∧
      ((c.pw 0 = 0 ∧ s.dev = .run) ∨ (c.pw 0 = 1 ∧ s.dev = .standby) →
        ∃ t, exec (.state tag) s = .next t ∧ t.completed (c.comp tag stOk) ∧ s.justEnds t tag c) ∧
      (c.pw 0 = 1 → s.dev = .run →
        ∃ t, exec (.state tag) s = .next t ∧ t.dev = .standby ∧ (t.pwr.leaving = some (false, tag.val) ∨ t.mbx.cmds.find tag = none)) ∧
      (c.pw 0 = 2 → s.dev = .run →
        ∃ t, exec (.state tag) s = .next t ∧ ((t.dev = .standby ∧ t.pwr.leaving = some (true, tag.val)) ∨ (t.dev = .watch ∧ t.pwm = {}))) ∧
      (c.pw 0 = 2 → s.dev = .standby →
        ∃ t, exec (.state tag) s = .next t ∧ t.dev = .watch ∧ t.gt = s.gt ∧ t.pwm = {} ∧ t.pan = {} ∧ t.mbx.cmds = [] ∧ t.safe.cfg = s.safe.cfg) ∧
      (2 < c.pw 0 → ∃ t, exec (.state tag) s = .next t ∧ t.completed (c.comp tag stRange 8#32) ∧ s.justEnds t tag c)) ∧
    (s.runs tag 0x03 c → s.pwr.leaving ≠ none → c.pw 0 ≤ 2 →
      ∃ t, exec (.state tag) s = .next t ∧ t.completed (c.comp tag stBusy) ∧ s.justEnds t tag c) ∧
    (s.runs tag 0x04 c →
      (let sec : Nat := c.pw 0 + 2 ^ 32 * c.pw 1
       (s.flag Reg.GT_CTRL F.GT_CTRL_STEP_EN = true → sec * 500000000 < 2 ^ 64 → s.commitsOn = true →
         ∃ t, exec (.timeSet tag) s = .next t ∧ t.completed (c.comp tag stOk (cidx := s.nextCommit)) ∧ s.endsOnly t tag c [.tim] (fun _ => False) ∧
           t.tim = { s.tim with stepPend := some ((((s.gt / 500000000 : Nat) : Int) - (sec : Int)) * 500000000) }) ∧
       (s.flag Reg.GT_CTRL F.GT_CTRL_STEP_EN = false ∨ 2 ^ 64 ≤ sec * 500000000 →
         ∃ t, exec (.timeSet tag) s = .next t ∧ t.completed (c.comp tag stRange 8#32) ∧ s.justEnds t tag c)))

/-- From R99 to R101, R128, R253, R263, R278, R292, R295. CAL queues the calibrations of its cores, and ends at once with DEFERRED while work
runs on one of them; RECOVER and DIAG end with what failed, set its sticky bits, and hold a comparator that failed. The commands of the leg
groups and the gate links: the clears act when all that they name may clear, and are refused as a whole with SAFETY otherwise; a calibration
writes the link delays; LPRB_RUN starts the probes and PWM_SET arms its set, both to end later. Conventions that the model chose, in the
log: entries 116, 196, 197, 203, 204. -/
def Obligations.CalibrationAndLegGroupCommands : Prop :=
  (∀ (s : State) (tag : Fin 64) (c : MCmd),
     (s.runs tag 0x08 c →
       (c.pw 0 = 0 → ∃ t, exec (.cal tag) s = .next t ∧ t.completed (c.comp tag stOk) ∧ s.justEnds t tag c) ∧
       (c.pw 0 ≠ 0 → (∀ k, k < 8 → (c.pw 0).testBit k = true → s.coreBusy k = false) →
         ∃ t, exec (.cal tag) s = .next t ∧ s.keeps t [.regs, .ana, .mbx] ∧ t.goesOn tag c ∧
           t.mbx.cals = s.mbx.cals ++ [{ tag := tag, cores := c.pw 0 }] ∧
           ∀ k, k < 8 → if (c.pw 0).testBit k then (t.ana.cores.at k).calPending = true ∧ t.flag (Reg.ADC_CALCFG k) F.ADC_CALCFG_REQ = true
             else t.ana.cores.at k = s.ana.cores.at k ∧ t.reg (Reg.ADC_CALCFG k) = s.reg (Reg.ADC_CALCFG k)) ∧
       ((∃ k, k < 8 ∧ (c.pw 0).testBit k = true ∧ s.coreBusy k = true) →
         ∃ t, exec (.cal tag) s = .next t ∧ t.completed (c.comp tag stDeferred) ∧
           s.endsOnly t tag c [.ana] (fun a => ∃ k, k < 8 ∧ (a = Reg.ADC_CALCFG k ∨ a = Reg.ADC_STAT k)) ∧
           ∀ k, k < 8 → (c.pw 0).testBit k = true → (t.ana.cores.at k).calPending = true)) ∧
     (∀ tests : List TdacTest, s.runs tag 0x09 c →
       (let bad := fun (k : Nat) => (c.pw 0).testBit k && !(tests.find? (fun x => x.core.val == k && x.pin.isNone)).any coreTestOk
        ∃ t r, exec (.recover tag tests) s = .next t ∧ t.completed (c.comp tag stOk r) ∧ s.keeps t ([.mbx] ++ logParts) ∧
          ∀ k, k < 8 → r.getLsbD k = bad k ∧ (bad k = true → t.stuck (Stk.TDAC_FAIL k) = true))) ∧
     (∀ readings : List (Int × Int), s.runs tag 0x0A c →
       (let es := ((bitsOf 64 (c.pw 0 + 2 ^ 32 * c.pw 1)).zipIdx).map (fun e => (e.1, readings.getD e.2 (0, 0)))
        ∃ t, exec (.diag tag readings) s = .next t ∧ s.keeps t ([.ana, .cmp, .pwm, .gl, .safe, .pwr, .sup, .mbx] ++ logParts) ∧
          t.completed (c.comp tag stOk (w32 (es.filter (fun e => !s.cmpCheckOk e.1 e.2.1 e.2.2)).length)) ∧
          ∀ e, e ∈ es → (t.cmp.cmps.at e.1).held = !s.cmpCheckOk e.1 e.2.1 e.2.2))) ∧
  (∀ (s : State) (tag : Fin 64) (c : MCmd),
     (∀ dma : List Byte, s.runs tag 0x301 c →
       (let g := c.pw 0
        let ws := (List.range 8).map (fun i => w32 (leAt (s.dataIn c dma) (4 * i) 4))
        g < s.groups → s.fld (Reg.PWM_LGCFG g) F.PWM_LGCFG_SRC ≠ 0 → s.flag (Reg.PWM_LGCFG g) F.PWM_LGCFG_EN = true → c.len = 32 →
        (s.setOk g ws = true →
          ∃ t, exec (.pwmSet tag dma) s = .next t ∧ s.keeps t [.regs, .pwm, .mbx] ∧ t.goesOn tag c ∧ t.flag (Reg.PWM_HUPD g) F.PWM_HUPD_ARM = true ∧
            (∀ i, i < 8 → t.reg (Reg.PWM_CMPA g + 4 * i) = ws.getD i 0#32) ∧ (t.pwm.lgs.at g).armGt = s.gt ∧
            (t.pwm.lgs.at g).hupdTag = (s.pwm.lgs.at g).hupdTag ++ [tag.val] ∧ (∀ k, k ≠ g → t.pwm.lgs.at k = s.pwm.lgs.at k) ∧ t.pwm.chs = s.pwm.chs) ∧
        (s.setOk g ws = false → ∃ t, exec (.pwmSet tag dma) s = .next t ∧ t.completed (c.comp tag stRange 0xFF#32) ∧ s.justEnds t tag c))) ∧
     (s.runs tag 0x302 c → s.absentGroups (c.pw 0) = false →
       ((∀ g, (c.pw 0).testBit g = true → (s.pwm.lgs.at g).latched = true → s.tripClearable g = true) →
         ∃ t, exec (.tripClear tag) s = .next t ∧ t.completed (c.comp tag stOk) ∧ s.endsOnly t tag c [.pwm] (fun _ => False) ∧ t.pwm.chs = s.pwm.chs ∧
           ∀ g, if (c.pw 0).testBit g = true ∧ (s.pwm.lgs.at g).latched = true then (t.pwm.lgs.at g).latched = false ∧ (t.pwm.lgs.at g).resume = true
             else t.pwm.lgs.at g = s.pwm.lgs.at g) ∧
       ((∃ g, (c.pw 0).testBit g = true ∧ (s.pwm.lgs.at g).latched = true ∧ s.tripClearable g = false) →
         ∃ t, exec (.tripClear tag) s = .next t ∧ t.completed (c.comp tag stSafety 8#32) ∧ s.justEnds t tag c)) ∧
     (∀ trips : List (Nat × Nat), s.runs tag 0x303 c → s.absentGroups (c.pw 0) = false →
       (s.dev = .standby → s.pwr.leaving = none → (c.pw 1).testBit 31 = true →
         ∃ t, exec (.glCal tag trips) s = .next t ∧ t.completed (c.comp tag stOk) ∧ t.fw.rewrite = true ∧
           s.endsOnly t tag c [.fw] (fun a => ∃ g k, g < 32 ∧ k < 6 ∧ a = Reg.GL_LDLY g k) ∧
           ∀ i n, (calChans (c.pw 0) (c.pw 1))[i]? = some n → t.regN (Reg.GL_LDLY (n / 6) (n % 6)) =
             min (trips.getD i (0, 0)).1 0xFFFF + 2 ^ 16 * min (trips.getD i (0, 0)).2 0xFFFF) ∧
       (s.dev ≠ .standby ∨ (c.pw 1).testBit 31 = false →
         ∃ t, exec (.glCal tag trips) s = .next t ∧ t.completed (c.comp tag stSafety 9#32) ∧ s.justEnds t tag c)) ∧
     (s.runs tag 0x304 c → c.pw 0 < s.groups →
       (let g := c.pw 0
        ((∀ k, k < 6 → (c.pw 1).testBit k = true → (s.gl.chs.at (6 * g + k)).latched = true → s.latchClearable (6 * g + k) = true) →
          (∀ q, q < 3 → (c.pw 1).testBit (8 + q) = true → s.shootHeld g q = true → s.bothIdeal g q = false) →
          ∃ t, exec (.glClear tag) s = .next t ∧ t.completed (c.comp tag stOk) ∧ s.keeps t [.regs, .pwm, .gl, .mbx, .out] ∧
            (∀ k, k < 6 → (c.pw 1).testBit k = true → (t.gl.chs.at (6 * g + k)).latched = false) ∧
            (∀ q, q < 3 → (c.pw 1).testBit (8 + q) = true → t.shootHeld g q = false)) ∧
        ((∃ k, k < 6 ∧ (c.pw 1).testBit k = true ∧ (s.gl.chs.at (6 * g + k)).latched = true ∧ s.latchClearable (6 * g + k) = false) →
          ∃ t, exec (.glClear tag) s = .next t ∧ t.completed (c.comp tag stSafety 9#32) ∧ s.justEnds t tag c))) ∧
     (s.runs tag 0x305 c → s.absentGroups (c.pw 0) = false → s.gl.prbRun = false →
       (c.pw 0 ≠ 0 →
         ∃ t, exec (.lprbRun tag) s = .next t ∧ s.keeps t [.regs, .gl, .mbx] ∧ t.goesOn tag c ∧ t.mbx.prbTag = some tag.val ∧ t.gl.prbRun = true ∧
           t.gl.prbLeft = bitsOf 32 (c.pw 0) ∧ t.regN Reg.GL_PRBEN = c.pw 0 ∧ t.gl.chs = s.gl.chs) ∧
       (c.pw 0 = 0 →
         ∃ t, exec (.lprbRun tag) s = .next t ∧ s.keeps t [.regs, .mbx, .out] ∧
           t.completed (c.comp tag stOk (v0 := t.reg (Reg.GL_PRBRES 0)) (v1 := t.reg (Reg.GL_PRBRES 1))))))

/-- From R156, R160 to R163, R199 to R201, R206, R207, R337, R435, R436. A recipe that passes the loader's checks goes to the inactive bank of
its binding, and one that fails ends with the loader's word and takes that bank's mark; a swap, a fallback and a resume wait for an epoch at
least two ahead. Steward holds the writes of LAW_PARAM and PAN_WRITE for the commit of AT, or four commits ahead, and the command ends when
they are made; a parameter out of range, one beyond an active safety limit, and an AT that is not allowed are refused with the word at
fault. Conventions that the model chose, in the log: entries 80, 81, 142, 198, 199, 200, 201. -/
def Obligations.EngineCommandsAndHeldWrites : Prop :=
  (∀ (s : State) (tag : Fin 64) (c : MCmd),
     (let b := c.pw 0
      (∀ dma : List Byte, s.runs tag 0x101 c → b < s.engines →
        (s.loadErr b (s.dataIn c dma) = none →
          ∃ t, exec (.recipeLoad tag dma) s = .next t ∧ t.completed (c.comp tag stOk) ∧ t.fw.rewrite = true ∧
            s.endsOnly t tag c [.ket, .fw] (fun a => a = Reg.KET_BUDGET b ∨ a = Reg.KET_BUDGETH b) ∧
            (t.bd b).banks.at (1 - (s.bd b).act) = readBank (s.dataIn c dma) ∧ (t.bd b).act = (s.bd b).act ∧
            ((s.bd b).act < 2 → (t.bd b).bank = (s.bd b).bank) ∧ ∀ k, k ≠ b → t.bd k = s.bd k) ∧
        (∀ r, s.loadErr b (s.dataIn c dma) = some r → r ≠ 0 →
          ∃ t, exec (.recipeLoad tag dma) s = .next t ∧ t.completed (c.comp tag stRange (w32 r)) ∧
            s.endsOnly t tag c [.ket, .log] (fun a => a ∈ logRegs) ∧ ((t.bd b).banks.at (1 - (s.bd b).act)).mark = false ∧
            ((s.bd b).act < 2 → (t.bd b).bank = (s.bd b).bank) ∧ ∀ k, k ≠ b → t.bd k = s.bd k)) ∧
      (s.runs tag 0x102 c → b < s.engines →
        (let e := if (c.pw 1).testBit 0 then c.epoch else s.epochNow + 4
         ((c.pw 1).testBit 0 = true ∧ s.epochNow + 2 ≤ c.epoch) ∨ ((c.pw 1).testBit 0 = false ∧ c.pw 2 = 0 ∧ c.pw 3 = 0) →
         (s.swapStatus b = stOk →
           ∃ t, exec (.recipeSwap tag) s = .next t ∧ s.keeps t [.regs, .ket, .mbx] ∧ s.sameRegs t [Reg.KET_SWAPEP_LO b, Reg.KET_SWAPEP_HI b] ∧
             t.goesOn tag c ∧ t.bd b = { s.bd b with swap := some { epoch := e, tag := some tag.val } } ∧ ∀ k, k ≠ b → t.bd k = s.bd k) ∧
         (s.swapStatus b ≠ stOk → ∃ t st r, exec (.recipeSwap tag) s = .next t ∧ (st = stBusy ∨ st = stRange) ∧ t.completed (c.comp tag st r) ∧
           s.justEnds t tag c))) ∧
      (∀ resume : Bool, s.runs tag (if resume then 0x104 else 0x103) c → b < s.engines →
        (let i : Instr := if resume then .engResume tag else .engFallback tag
         (s.epochNow + 2 ≤ c.epoch → (s.bd b).modeCmd = none →
           ∃ t, exec i s = .next t ∧ s.keeps t [.ket, .mbx] ∧ t.goesOn tag c ∧
             t.bd b = { s.bd b with modeCmd := some { resume := resume, epoch := c.epoch, tag := tag } } ∧ ∀ k, k ≠ b → t.bd k = s.bd k) ∧
         (c.epoch < s.epochNow + 2 → ∃ t, exec i s = .next t ∧ t.completed (c.comp tag stRange 0xA#32) ∧ s.justEnds t tag c) ∧
         (s.epochNow + 2 ≤ c.epoch → (s.bd b).modeCmd ≠ none →
           ∃ t, exec i s = .next t ∧ t.completed (c.comp tag stBusy) ∧ s.justEnds t tag c))))) ∧
  (∀ (s : State) (tag : Fin 64) (c : MCmd),
     (let dest := if c.at_ then c.cidx else s.chosenDest
      (s.runs tag 0x201 c →
        (let i := c.pw 0 % 256
         (∀ w, s.parErr c = some w → ∃ t, exec (.lawParam tag) s = .next t ∧ t.completed (c.comp tag stRange (w32 w)) ∧ s.justEnds t tag c) ∧
         (∀ p, s.parErr c = none → c.pairs.find? (s.parUnsafe i) = some p →
           ∃ t, exec (.lawParam tag) s = .next t ∧ t.completed (c.comp tag stSafety (w32 (p.word + 1))) ∧ s.justEnds t tag c) ∧
         (s.parErr c = none → c.pairs.find? (s.parUnsafe i) = none → (c.at_ = true → s.atOk c.cidx = true) →
           (let ws := fun (g : Option Nat) => c.pairs.map (fun p => (⟨if i = 0xFF then setSlot p.idx else parSlot i p.idx, p.val, dest, c.order, g, c.at_⟩ : HeldWrite))
            (c.pairs.any (s.modeWaits i) = false →
              ∃ t, exec (.lawParam tag) s = .next t ∧ s.keeps t [.sup, .mbx] ∧ t.goesOn tag c ∧
                t.sup = { s.sup with held := s.sup.held ++ ws (some tag.val) }) ∧
            (c.pairs.any (s.modeWaits i) = true →
              ∃ t, exec (.lawParam tag) s = .next t ∧ t.completed (c.comp tag stDeferred (cidx := dest)) ∧
                s.endsOnly t tag c [.sup] (fun _ => False) ∧ t.sup = { s.sup with held := s.sup.held ++ ws none }))))) ∧
      (∀ dma : List Byte, s.runs tag 0x202 c →
        (let bs := s.dataIn c dma
         let n := c.len / 8
         let slot := fun k => leAt bs (8 * k) 2
         1 ≤ n → n ≤ 256 → c.len % 8 = 0 → (c.at_ = true → s.atOk c.cidx = true) →
         ((∀ k, k < n → leAt bs (8 * k + 2) 2 = 0 ∧ 0xE000 ≤ slot k ∧ slot k < 0xF000 ∧ s.lawSlot (slot k) = false) →
           ∃ t, exec (.panWrite tag dma) s = .next t ∧ s.keeps t [.sup, .mbx] ∧ t.goesOn tag c ∧
             t.sup = { s.sup with held := s.sup.held ++ (List.range n).map (fun k => (⟨slot k, w32 (leAt bs (8 * k + 4) 4), dest, c.order, some tag.val, c.at_⟩ : HeldWrite)) }) ∧
         ((∃ k, k < n ∧ (slot k < 0xE000 ∨ 0xF000 ≤ slot k ∨ s.lawSlot (slot k) = true)) →
           ∃ t, exec (.panWrite tag dma) s = .next t ∧ t.completed (c.comp tag stRange 0xFF#32) ∧ s.justEnds t tag c))) ∧
      (c.at_ = true → s.atOk c.cidx = false → s.runs tag 0x201 c → s.parErr c = none → c.pairs.find? (s.parUnsafe (c.pw 0 % 256)) = none →
        ∃ t, exec (.lawParam tag) s = .next t ∧ t.completed (c.comp tag stRange 2#32) ∧ s.justEnds t tag c)))

/-- From R39, R358, R393, R411, R412, R416, R436, R439. A configuration image and a Sieve table act whole, or end with the entry and the status
of the first rule that they break and change nothing; a preset gives the chosen registers their values; the recorder arms, triggers and
stops by command. Conventions that the model chose, in the log: entries 24, 160, 170, 177, 219, 220. -/
def Obligations.ConfigurationCommandsActWhole : Prop :=
  ∀ (s : State) (tag : Fin 64) (c : MCmd),
    (∀ dma : List Byte, s.runs tag 0x05 c →
      (let bs := s.dataIn c dma
       let u := s.begun tag c
       (cfgHeadOk bs = false → ∃ t, exec (.cfgLoad tag dma) s = .next t ∧ t.completed (c.comp tag stRange 0xFFFE#32) ∧ s.justEnds t tag c) ∧
       (cfgHeadOk bs = true → s.writeOpen (cfgWrites (cfgEntries bs)) = false →
         (∀ i st, u.cfgCheck (cfgEntries bs) = .entry i st →
           ∃ t, exec (.cfgLoad tag dma) s = .next t ∧ t.completed (c.comp tag st (w32 i)) ∧ s.justEnds t tag c) ∧
         (u.cfgCheck (cfgEntries bs) = .good →
           ∃ t, exec (.cfgLoad tag dma) s = .next t ∧ t = ((u.cfgApply (cfgEntries bs)).allocate.storeDue).finish tag stOk ∧ t.fw.rewrite = true)))) ∧
    (∀ dma : List Byte, s.runs tag 0x501 c →
      (let f := s.dataIn c dma
       (∀ e, tblError f = some e →
         ∃ t, exec (.netTable tag dma) s = .next t ∧ t.completed (c.comp tag stRange (w32 (e.1.getD 0xFFFF + 2 ^ 16 * e.2))) ∧ s.justEnds t tag c) ∧
       (tblError f = none → reqsOk ((s.begun tag c).tblInstall f).deferredAll.latFixed.reqsNeeded = true →
         ((s.begun tag c).tblInstall f).deferredAll.latFixed.reqsNeeded.length ≤ 106 →
         ∃ t, exec (.netTable tag dma) s = .next t ∧ t.completed (c.comp tag stOk) ∧ s.keeps t ([.ket, .net, .fw, .mbx] ++ logParts) ∧
           t.net.files.at (leAt f 6 1 - 1) = f ∧ t.fw.rewrite = true))) ∧
    (∀ dma : List Byte, s.runs tag 0x602 c → c.pw 0 < 4 → c.len = 84 →
      (let bs := s.dataIn c dma
       (∀ r, r < 7 → (c.pw 1).testBit r = true → leAt bs (12 * r) 8 < 2 ^ 63 ∧ leAt bs (12 * r + 8) 4 < 256) →
       (s.mtrPt (c.pw 0)).e.length = 7 → (s.mtrPt (c.pw 0)).wrap.length = 7 →
       ∃ t, exec (.meterPreset tag dma) s = .next t ∧ t.completed (c.comp tag stOk) ∧ s.keeps t ([.mtr, .mbx] ++ logParts) ∧
         (∀ r, r < 7 → (t.mtrPt (c.pw 0)).e.at r = (if (c.pw 1).testBit r then leAt bs (12 * r) 8 * 2 ^ 32 else (s.mtrPt (c.pw 0)).e.at r) ∧
           (t.mtrPt (c.pw 0)).wrap.at r = (if (c.pw 1).testBit r then leAt bs (12 * r + 8) 4 else (s.mtrPt (c.pw 0)).wrap.at r)) ∧
         ∀ m, m ≠ c.pw 0 → t.mtrPt m = s.mtrPt m)) ∧
    (s.runs tag 0x701 c →
      (s.recClocked = true → s.recState = 0 ∨ s.recState = 4 →
        ∃ t, exec (.recArm tag) s = .next t ∧ t.completed (c.comp tag stOk) ∧ s.keeps t [.regs, .hop, .mbx, .out] ∧ t.recState = 1) ∧
      (s.recClocked = false ∨ (s.recState ≠ 0 ∧ s.recState ≠ 4) →
        ∃ t, exec (.recArm tag) s = .next t ∧ t.completed (c.comp tag stBusy) ∧ s.justEnds t tag c)) ∧
    (s.runs tag 0x702 c → s.recClocked = true →
      ∃ t, exec (.recTrig tag) s = .next t ∧ t.completed (c.comp tag stOk) ∧ s.keeps t ([.gt, .hop, .mbx] ++ logParts) ∧
        (s.recState = 2 → (t.recState = 3 ∨ t.recState = 4) ∧ t.hop.trigAt = (s.gt + 4) / 5 * 5)) ∧
    (s.runs tag 0x703 c →
      ∃ t, exec (.recStop tag) s = .next t ∧ t.completed (c.comp tag stOk) ∧ s.keeps t ([.hop, .mbx] ++ logParts) ∧
        (1 ≤ s.recState → s.recState ≤ 3 → t.recState = 4 ∧ t.fld Reg.REC_STAT F.REC_STAT_CAUSE = 3))

/-- From R303, R305, R306, R319. A safety configuration within its ranges is pending until SAFE_CONFIRM names its CRC, and is in force then; SPO
latches its converters with cause 12; SPO_RESET clears what may clear, all of it or none. Conventions that the model chose, in the log:
entries 128, 129, 202, 209, 210. -/
def Obligations.SafetyCommands : Prop :=
  ∀ (s : State) (tag : Fin 64) (c : MCmd),
    (∀ (cfg : Option SafeConfig) (dma : List Byte), s.runs tag 0x401 c → c.len ≠ 0 →
      (∀ g, cfg = some g → s.safeRanges g = true → s.safeAllowed g = true →
        ∃ t, exec (.safeCfg tag cfg dma) s = .next t ∧ s.endsOnly t tag c [.safe] (fun a => a = Reg.SAFE_STAT) ∧
          t.completed (c.comp tag stOk (v0 := crc32c (s.dataIn c dma))) ∧ t.flag Reg.SAFE_STAT F.SAFE_STAT_CFG_PEND = true ∧
          t.safe = { s.safe with pendCfg := g, pendCrc := crc32c (s.dataIn c dma), pending := true }) ∧
      ((cfg = none ∨ ∃ g, cfg = some g ∧ s.safeRanges g = false) →
        ∃ t, exec (.safeCfg tag cfg dma) s = .next t ∧ t.completed (c.comp tag stRange 0xFF#32) ∧ s.justEnds t tag c) ∧
      (∀ g, cfg = some g → s.safeRanges g = true → s.safeAllowed g = false →
        ∃ t, exec (.safeCfg tag cfg dma) s = .next t ∧ t.completed (c.comp tag stSafety 0xFF#32) ∧ s.justEnds t tag c)) ∧
    (s.runs tag 0x402 c →
      (s.safe.pending = true → s.safe.pendCrc = c.p.getD 0 0#32 → s.writeOpen (cfgAssigns s.safe.pendCfg) = false → s.safeAllowed s.safe.pendCfg = true →
        ∃ t, exec (.safeConfirm tag) s = .next t ∧ t.completed (c.comp tag stOk) ∧ t.safe.inForce = true ∧ t.safe.pending = false ∧
          t.safe.cfg = s.safe.pendCfg ∧ t.reg Reg.SAFE_CFGID = s.safe.pendCrc ∧ t.flag Reg.SAFE_STAT F.SAFE_STAT_CFG_OK = true ∧ t.fw.rewrite = true ∧
          t.gt = s.gt ∧ t.dev = s.dev) ∧
      (s.safe.pending = false ∨ s.safe.pendCrc ≠ c.p.getD 0 0#32 →
        ∃ t, exec (.safeConfirm tag) s = .next t ∧ t.completed (c.comp tag stRange 8#32) ∧ s.justEnds t tag c)) ∧
    (s.runs tag 0x403 c →
      (c.pw 0 < 4096 →
        ∃ t, exec (.spo tag) s = .next t ∧ t.completed (c.comp tag stOk) ∧ s.keeps t ([.pwm, .safe, .mbx] ++ logParts) ∧
          (∀ v, v < 12 → t.spoLatched v = (s.spoLatched v || (c.pw 0).testBit v)) ∧
          ∀ v, v < 12 → (c.pw 0).testBit v = true → s.spoLatched v = false → t.fld (Reg.SAFE_CAUSE v) F.SAFE_CAUSE_FIRST = 12) ∧
      (4096 ≤ c.pw 0 → ∃ t, exec (.spo tag) s = .next t ∧ t.completed (c.comp tag stRange 8#32) ∧ s.justEnds t tag c)) ∧
    (s.runs tag 0x404 c →
      (let u := (bitsOf 4 (c.pw 1)).foldl (fun (x : State) j => x.soutClear j) s
       ((∀ j, j < 4 → (c.pw 1).testBit j = true → (s.safe.sout.at j).fault ≠ 0 → s.soutClearable j = true) →
         (∀ v, v < 12 → (c.pw 0).testBit v = true → u.spoClearable v = true) →
         ∃ t, exec (.spoReset tag) s = .next t ∧ t.completed (c.comp tag stOk) ∧ s.keeps t ([.pwm, .gl, .safe, .mbx] ++ logParts) ∧
           (∀ v, v < 12 → (c.pw 0).testBit v = true → t.spoLatched v = false) ∧
           (∀ v, v < 12 → (c.pw 0).testBit v = false → t.spoLatched v = s.spoLatched v) ∧
           ∀ j, j < 4 → (c.pw 1).testBit j = true → (t.safe.sout.at j).fault = 0) ∧
       ((∃ j, j < 4 ∧ (c.pw 1).testBit j = true ∧ (s.safe.sout.at j).fault ≠ 0 ∧ s.soutClearable j = false) →
         ∃ t, exec (.spoReset tag) s = .next t ∧ t.completed (c.comp tag stSafety 9#32) ∧ s.justEnds t tag c)))

/-- From R341, R453, R454, R463 to R465. Parts of an image collect in the staging slot, which is valid once the image is whole and every check
of it passes; FW_ACTIVATE asks for a split; FW_COMMIT names the slot of the next boot, one SEQ on, and raises the fused minimum when asked.
Conventions that the model chose, in the log: entries 211, 212. -/
def Obligations.FirmwareCommands : Prop :=
  ∀ (s : State) (tag : Fin 64) (c : MCmd),
    (∀ dma : List Byte, s.runs tag 0x801 c → s.uncommitted = false → s.sup.split = none → 0 < c.len → c.len ≤ 262144 →
      (let old := if c.pw 0 = 0 then [] else (s.fw.slots.at s.staging).bytes
       let bs := old ++ s.dataIn c dma
       c.pw 0 = old.length → old.length + c.len ≤ 8388608 →
       (bs.length < 256 ∨ bs.length < imgLen bs →
         ∃ t, exec (.fwStage tag dma) s = .next t ∧ t.completed (c.comp tag stOk (v0 := w32 bs.length)) ∧ s.endsOnly t tag c [.fw] (fun _ => False) ∧
           (t.fw.slots.at s.staging).bytes = bs ∧ (t.fw.slots.at s.staging).valid = false ∧ t.fw.commits = s.fw.commits) ∧
       (256 ≤ bs.length → imgLen bs ≤ bs.length →
         ∃ t, exec (.fwStage tag dma) s = .next t ∧ s.endsOnly t tag c [.fw] (fun _ => False) ∧ (t.fw.slots.at s.staging).bytes = bs ∧
           ((t.fw.slots.at s.staging).valid = true ↔ imgReason s.fw.minSec bs = 0) ∧ t.fw.slots.at (1 - s.staging) = s.fw.slots.at (1 - s.staging) ∧
           (imgReason s.fw.minSec bs = 0 → t.completed (c.comp tag stOk (v0 := w32 bs.length) (v1 := 1#32))) ∧
           (imgReason s.fw.minSec bs ≠ 0 →
             t.completed (c.comp tag stRange (w32 (0xFF + 256 * imgReason s.fw.minSec bs)) (v0 := w32 bs.length)))))) ∧
    (s.runs tag 0x802 c →
      (s.slotValid s.staging = true → s.supState = 0 → s.sup.split = none → (s.sup.anyAct = true → s.sup.lastAct + 30000000000 ≤ s.gt) →
        s.flag Reg.MBX_EXPSESS F.MBX_EXPSESS_OPEN = false →
        ∃ t, exec (.fwActivate tag) s = .next t ∧ s.keeps t [.sup, .mbx] ∧ t.goesOn tag c ∧ t.sup.split = some { tag := tag }) ∧
      (s.slotValid s.staging = false → ∃ t, exec (.fwActivate tag) s = .next t ∧ t.completed (c.comp tag stRange 0#32) ∧ s.justEnds t tag c) ∧
      (s.slotValid s.staging = true → s.supState ≠ 0 → ∃ t, exec (.fwActivate tag) s = .next t ∧ t.completed (c.comp tag stBusy) ∧ s.justEnds t tag c)) ∧
    (s.runs tag 0x803 c →
      (let i := c.pw 0 % 2
       (s.slotValid i = true → ((c.pw 0).testBit 8 = true → i = s.fw.running) → s.fw.service = false → (∀ r, s.commitNowRec = some r → r.seq < 2 ^ 32) →
         ∃ t r, exec (.fwCommit tag) s = .next t ∧ t.completed (c.comp tag stOk) ∧ s.endsOnly t tag c [.fw, .log] (fun a => a ∈ logRegs) ∧
           t.commitNowRec = some r ∧ r.active = i ∧ r.hash = (s.fw.slots.at i).hash ∧
           (∀ o, s.commitNowRec = some o → r.seq = (o.seq + 1) % 2 ^ 32 ∧ r.prev = o.active) ∧ t.fw.slots = s.fw.slots ∧
           t.fw.minSec = (if (c.pw 0).testBit 8 then max s.fw.minSec (s.fw.slots.at i).secver else s.fw.minSec)) ∧
       (s.slotValid i = true → (c.pw 0).testBit 8 = false → s.fw.service = true →
         ∃ t, exec (.fwCommit tag) s = .next t ∧ t.fw.booting = true ∧ t.fw.service = false ∧ t.fw.cause = s.fw.cause ∧ t.fw.slots = s.fw.slots ∧
           t.mbx.cmds = []) ∧
       (s.slotValid i = false → ∃ t, exec (.fwCommit tag) s = .next t ∧ t.completed (c.comp tag stRange 8#32) ∧ s.justEnds t tag c)))

/-- From R440 to R445. EXP_OPEN gives a challenge, unless a lockout or a session stands or a safety-assigned block is asked for; a signature of
it opens the session with its grants and its time, and any other counts, the third in a row refusing EXP_OPEN for 60 s; EXP_CLOSE ends it; a
key is programmed once. Conventions that the model chose, in the log: entries 205, 206, 207. -/
def Obligations.ExpertSessions : Prop :=
  ∀ (s : State) (tag : Fin 64) (c : MCmd),
    (s.runs tag 0x901 c → 1 ≤ c.seconds → c.seconds ≤ 3600 → 32 ≤ c.len →
      (s.mbx.lockUntil ≤ s.gt → s.flag Reg.MBX_EXPSESS F.MBX_EXPSESS_OPEN = false → s.grantUnsafe c = false →
        ∃ t, exec (.expOpen tag) s = .next t ∧ s.keeps t [.regs, .mbx, .out, .freeN] ∧ t.completed (c.comp tag stOk (dlen := 32)) ∧
          s.gave t c s.challengeBytes ∧ s.challengeBytes.length = 32 ∧ t.freeN = s.freeN + 4 ∧ t.flag Reg.MBX_EXPSESS F.MBX_EXPSESS_OPEN = false ∧
          t.mbx.chal = some { at_ := s.gt, p0 := c.p.getD 0 0#32, p1 := c.p.getD 1 0#32, p2 := c.p.getD 2 0#32, bytes := s.challengeBytes }) ∧
      (s.gt < s.mbx.lockUntil → ∃ t, exec (.expOpen tag) s = .next t ∧ t.completed (c.comp tag stAuth) ∧ s.justEnds t tag c) ∧
      (s.mbx.lockUntil ≤ s.gt → s.flag Reg.MBX_EXPSESS F.MBX_EXPSESS_OPEN = true →
        ∃ t, exec (.expOpen tag) s = .next t ∧ t.completed (c.comp tag stBusy) ∧ s.justEnds t tag c) ∧
      (s.mbx.lockUntil ≤ s.gt → s.flag Reg.MBX_EXPSESS F.MBX_EXPSESS_OPEN = false → s.grantUnsafe c = true →
        ∃ t, exec (.expOpen tag) s = .next t ∧ t.completed (c.comp tag stSafety 8#32) ∧ s.justEnds t tag c)) ∧
    (∀ dma : List Byte, s.runs tag 0x902 c → c.len = 96 →
      (s.authOk c (s.dataIn c dma) = true → s.grantUnsafe c = false →
        ∃ t, exec (.expAuth tag dma) s = .next t ∧ s.keeps t ([.mbx, .freeN] ++ logParts) ∧ t.completed (c.comp tag stOk (v0 := t.mbx.sesId)) ∧
          t.mbx.chal = none ∧ t.mbx.authRow = 0 ∧ t.mbx.sesId ≠ 0#32 ∧ t.mbx.sesEnd = s.gt + c.seconds * 500000000 ∧
          ∀ b, b < 16 → t.grants b false = c.grant.testBit b ∧ t.grants b true = (c.grant.testBit b && c.asksWrite)) ∧
      (s.authOk c (s.dataIn c dma) = false →
        ∃ t, exec (.expAuth tag dma) s = .next t ∧ s.keeps t (.mbx :: logParts) ∧ t.completed (c.comp tag stAuth) ∧ t.mbx.chal = none ∧
          t.stuck Stk.EXP_AUTH_FAIL = true ∧ t.mbx.authRow = s.mbx.authRow + 1 ∧ t.mbx.sesId = s.mbx.sesId ∧
          t.regN Reg.MBX_AUTHFAIL = min (s.regN Reg.MBX_AUTHFAIL + 1) (2 ^ 32 - 1) ∧
          t.mbx.lockUntil = (if s.mbx.authRow = 2 then s.gt + 30000000000 else s.mbx.lockUntil))) ∧
    (s.runs tag 0x903 c →
      (s.flag Reg.MBX_EXPSESS F.MBX_EXPSESS_OPEN = true → s.mbx.sesId = c.session →
        ∃ t, exec (.expClose tag) s = .next t ∧ s.keeps t (.mbx :: logParts) ∧ t.completed (c.comp tag stOk) ∧
          t.flag Reg.MBX_EXPSESS F.MBX_EXPSESS_OPEN = false ∧ ∀ b, t.grants b true = false ∧ t.grants b false = false) ∧
      (s.flag Reg.MBX_EXPSESS F.MBX_EXPSESS_OPEN = false ∨ s.mbx.sesId ≠ c.session →
        ∃ t, exec (.expClose tag) s = .next t ∧ t.completed (c.comp tag stAuth) ∧ s.justEnds t tag c)) ∧
    (∀ dma : List Byte, s.runs tag 0x904 c →
      (c.pw 0 < 4 → s.mbx.keys.at (c.pw 0) = [] → c.len = 97 →
        (keyOk (s.dataIn c dma) = true →
          ∃ t, exec (.expKeyprog tag dma) s = .next t ∧ s.keeps t [.regs, .mbx, .out] ∧ t.completed (c.comp tag stOk) ∧
            t.mbx.keys.at (c.pw 0) = s.dataIn c dma ∧ (∀ k, k ≠ c.pw 0 → t.mbx.keys.at k = s.mbx.keys.at k) ∧ t.mbx.sesId = s.mbx.sesId) ∧
        (keyOk (s.dataIn c dma) = false →
          ∃ t, exec (.expKeyprog tag dma) s = .next t ∧ t.completed (c.comp tag stRange 0xFF#32) ∧ s.justEnds t tag c)) ∧
      (4 ≤ c.pw 0 ∨ s.mbx.keys.at (c.pw 0) ≠ [] →
        ∃ t, exec (.expKeyprog tag dma) s = .next t ∧ t.completed (c.comp tag stRange 8#32) ∧ s.justEnds t tag c))

/-- Right after reset the register file is in canonical form, every table has its length, and no command waits. Conventions that the model
chose, in the log: entries 12, 14. -/
def Obligations.ResetIsSound : Prop :=
  State.reset.inv = true ∧ State.reset.canon = true ∧ State.reset.pending = []

/-- From R3, R7, R12. Whatever command comes, and from whatever state with a canonical register file and tables of their lengths, a step that
goes on leaves such a state, and the variant of the device never changes. Conventions that the model chose, in the log: entry 10. -/
def Obligations.EveryStepKeepsTheTables : Prop :=
  ∀ s t : State, s.inv = true → step s = .next t → t.inv = true ∧ t.variant = s.variant

/-- From R47, R303, R462. Only STATE enters RUN, and only SAFE_CONFIRM puts a safety configuration in force; a boot that restores one leaves it
pending. Every other command leaves a configuration in force as it is, or ends it with its power. Conventions that the model chose, in the
log: entry 191. -/
def Obligations.OnlyTheirCommandsEnterRunAndSafety : Prop :=
  ∀ (i : Instr) (s t : State), exec i s = .next t →
    (s.dev ≠ .run → t.dev = .run → ∃ tag, i = .state tag) ∧
    (s.safe.inForce = false → t.safe.inForce = true → ∃ tag, i = .safeConfirm tag) ∧
    (s.safe.inForce = true → t.safe.inForce = true → t.safe.cfg ≠ s.safe.cfg → ∃ tag, i = .safeConfirm tag)

/-- From R184, R185. Every recipe word decodes to the instruction that it encodes, with every operand at every value that its field has room
for. -/
def Obligations.RecipeWordsRoundTrip : Prop :=
  ∀ (i : Instr) (n : Nat), encodeKet i = some n → n < 2 ^ 64 ∧ ∃ b, decodeKet b n = some i
end

