-- ==== Sys2Proof/Laws/Frame.lean ====
section
/-!
SUPPORT. Frames: which parts of the state the shared operations leave alone, and how frames compose.
-/
namespace Sys2Proof.Machine

theorem State.keeps_refl (s : State) (m : List Part) : s.keeps s m := by simp [State.keeps]

theorem State.keeps_trans {s t u : State} {m : List Part} (h : s.keeps t m) (k : t.keeps u m) : s.keeps u m := by
  unfold State.keeps at *
  refine ⟨?_, ?_, ?_, ?_, ?_, ?_, ?_, ?_, ?_, ?_, ?_, ?_, ?_, ?_, ?_, ?_, ?_, ?_, ?_, ?_, ?_, ?_, ?_, ?_, ?_, ?_, ?_⟩ <;> grind

theorem State.keeps_mono {s t : State} {m n : List Part} (h : s.keeps t m) (hm : ∀ p ∈ m, p ∈ n) : s.keeps t n := by
  unfold State.keeps at *
  refine ⟨?_, ?_, ?_, ?_, ?_, ?_, ?_, ?_, ?_, ?_, ?_, ?_, ?_, ?_, ?_, ?_, ?_, ?_, ?_, ?_, ?_, ?_, ?_, ?_, ?_, ?_, ?_⟩ <;> grind

/-- Where GT goes. -/
theorem State.gtTo_gt (s : State) (t : Nat) :
    (s.gtTo t).gt = if s.gt ≤ t then (if s.omits t then t + 1 else t) % 2 ^ 64 else s.gt := by unfold State.gtTo; split <;> rfl

end Sys2Proof.Machine
end

