-- ==== Sys2Proof/Laws/PerInstr.lean ====
section
/-!
SUPPORT. A law of every command as syntax: where it has a recipe word, the word has 64 bits (R184).
-/
namespace Sys2Proof.Machine

/-- What fields are packed to stays below the power of two of their widths. -/
theorem pack_lt (l : List (Nat × Nat)) : pack l < 2 ^ (l.foldr (fun f n => f.1 + n) 0) := by
  induction l with
  | nil => simp [pack]
  | cons e r ih =>
    obtain ⟨w, v⟩ := e
    simp only [pack, List.foldr_cons]
    have h : v % 2 ^ w < 2 ^ w := Nat.mod_lt _ (by positivity)
    calc (v % 2 ^ w) * 2 ^ (r.foldr (fun f n => f.1 + n) 0) + pack r
        < (v % 2 ^ w) * 2 ^ (r.foldr (fun f n => f.1 + n) 0) + 2 ^ (r.foldr (fun f n => f.1 + n) 0) := by omega
      _ = (v % 2 ^ w + 1) * 2 ^ (r.foldr (fun f n => f.1 + n) 0) := by ring
      _ ≤ 2 ^ w * 2 ^ (r.foldr (fun f n => f.1 + n) 0) := Nat.mul_le_mul_right _ h
      _ = 2 ^ (w + r.foldr (fun f n => f.1 + n) 0) := by rw [pow_add]

end Sys2Proof.Machine

namespace Sys2Proof.Laws.KetWord

/-- The word of the command, where it has one, has 64 bits. -/
def Statement (i : Instr) : Prop := ∀ n, encodeKet i = some n → n < 2 ^ 64

/-- From the width of one packed word. -/
theorem of_word {i : Instr} {k : Nat} (e : encodeKet i = some k) (h : k < 2 ^ 64) : Statement i := by
  intro n hn
  rw [e] at hn
  cases hn
  exact h

/-- A command without a word. -/
theorem of_none {i : Instr} (e : encodeKet i = none) : Statement i := by
  intro n hn
  rw [e] at hn
  cases hn

theorem pantryWrite (owner slot ord : Nat) (dest : Dest) (val : Word) : Statement (.pantryWrite owner slot ord dest val) := of_none rfl
theorem pantryRead (slot cidx : Nat) : Statement (.pantryRead slot cidx) := of_none rfl
theorem commit : Statement .commit := of_none rfl
theorem breachIntervalClose (cause : Fin 6) : Statement (.breachIntervalClose cause) := of_none rfl
theorem epochBoundary : Statement .epochBoundary := of_none rfl
theorem halfEpochPoint : Statement .halfEpochPoint := of_none rfl
theorem gtSnapRead : Statement .gtSnapRead := of_none rfl
theorem ppsInEdge : Statement .ppsInEdge := of_none rfl
theorem sourceLossTimeout : Statement .sourceLossTimeout := of_none rfl
theorem gtStep : Statement .gtStep := of_none rfl
theorem ppsOutPulse : Statement .ppsOutPulse := of_none rfl
theorem ppsOutEnd : Statement .ppsOutEnd := of_none rfl
theorem keepcalMeasure (ticks : Nat) : Statement (.keepcalMeasure ticks) := of_none rfl
theorem epLenTakeEffect : Statement .epLenTakeEffect := of_none rfl
theorem pllLock (net : Bool) : Statement (.pllLock net) := of_none rfl
theorem syspllUnlock : Statement .syspllUnlock := of_none rfl
theorem netpllUnlock : Statement .netpllUnlock := of_none rfl
theorem fallbackReturn (net : Bool) : Statement (.fallbackReturn net) := of_none rfl
theorem freqMonitorWindow (island : Fin 10) (count : Nat) : Statement (.freqMonitorWindow island count) := of_none rfl
theorem dllLock (code : Nat) (correction : Int) : Statement (.dllLock code correction) := of_none rfl
theorem dllUnlock : Statement .dllUnlock := of_none rfl
theorem refclkLost : Statement .refclkLost := of_none rfl
theorem refclkReturn : Statement .refclkReturn := of_none rfl
theorem xt32Stop : Statement .xt32Stop := of_none rfl
theorem dllFull : Statement .dllFull := of_none rfl
theorem clkPdivUpdGo : Statement .clkPdivUpdGo := of_none rfl
theorem pdivLoad : Statement .pdivLoad := of_none rfl
theorem adcSequenceTrigger (core : Fin 8) (inj : Bool) : Statement (.adcSequenceTrigger core inj) := of_none rfl
theorem sequenceStart (core : Fin 8) (inj : Bool) : Statement (.sequenceStart core inj) := of_none rfl
theorem conversionEnd (core : Fin 8) (code : Fin 65536) : Statement (.conversionEnd core code) := of_none rfl
theorem adcResultWrite (src : AdcRes) : Statement (.adcResultWrite src) := of_none rfl
theorem anaSwtrig (val : Word) : Statement (.anaSwtrig val) := of_none rfl
theorem atmrFire (t : Fin 4) : Statement (.atmrFire t) := of_none rfl
theorem openWireRound (core : Fin 8) : Statement (.openWireRound core) := of_none rfl
theorem openWireStep (core : Fin 8) (codeUp codeDown : Fin 65536) : Statement (.openWireStep core codeUp codeDown) := of_none rfl
theorem openWireTimeout (core : Fin 8) : Statement (.openWireTimeout core) := of_none rfl
theorem calReq (core : Fin 8) : Statement (.calReq core) := of_none rfl
theorem calAuto (core : Fin 8) : Statement (.calAuto core) := of_none rfl
theorem calComplete (core : Fin 8) (coef : DWord) : Statement (.calComplete core coef) := of_none rfl
theorem calTimeout (core : Fin 8) : Statement (.calTimeout core) := of_none rfl
theorem sinc3Output (n : Fin 48) (bits : List Bool) : Statement (.sinc3Output n bits) := of_none rfl
theorem ocFilterOutput (n : Fin 48) (bits : List Bool) : Statement (.ocFilterOutput n bits) := of_none rfl
theorem sddStuck (n : Fin 48) : Statement (.sddStuck n) := of_none rfl
theorem sddStuckClear (n : Fin 48) : Statement (.sddStuckClear n) := of_none rfl
theorem comparatorCrossing (n : Fin 64) (vin cref : Int) : Statement (.comparatorCrossing n vin cref) := of_none rfl
theorem blankingEnd (n : Fin 64) : Statement (.blankingEnd n) := of_none rfl
theorem blankingLimit (n : Fin 64) : Statement (.blankingLimit n) := of_none rfl
theorem seedingComplete (n : Fin 64) (vin vth : Int) : Statement (.seedingComplete n vin vth) := of_none rfl
theorem seedStarved (n : Fin 64) : Statement (.seedStarved n) := of_none rfl
theorem cmpReadbackCheck (n : Fin 64) (dac thr : Int) : Statement (.cmpReadbackCheck n dac thr) := of_none rfl
theorem cmpSnapshot : Statement .cmpSnapshot := of_none rfl
theorem kettleCompletion (b : Fin 12) : Statement (.kettleCompletion b) := of_none rfl
theorem sectionDrainEnd (b : Fin 12) (waits : Nat) : Statement (.sectionDrainEnd b waits) := of_none rfl
theorem escalationReset (b : Fin 12) : Statement (.escalationReset b) := of_none rfl
theorem fallbackAutoReturn (b : Fin 12) : Statement (.fallbackAutoReturn b) := of_none rfl
theorem engineModeAtEpoch (b : Fin 12) : Statement (.engineModeAtEpoch b) := of_none rfl
theorem swapRequest (b : Fin 12) (val : Word) : Statement (.swapRequest b val) := of_none rfl
theorem swapAtEpoch (b : Fin 12) : Statement (.swapAtEpoch b) := of_none rfl
theorem rotationStart : Statement .rotationStart := of_none rfl
theorem copyComplete : Statement .copyComplete := of_none rfl
theorem handover (agree : Bool) : Statement (.handover agree) := of_none rfl
theorem bistComplete (pass : Bool) : Statement (.bistComplete pass) := of_none rfl
theorem ketCycmaxRead (b : Fin 12) : Statement (.ketCycmaxRead b) := of_none rfl
theorem nop (b : Fin 12) (h : KHead) : Statement (.nop b h) := of_word rfl (Machine.pack_lt _)
theorem loop (b : Fin 12) (f : KL) : Statement (.loop b f) := of_word rfl (Machine.pack_lt _)
theorem cmpp (b : Fin 12) (h : KHead) (f : KE) : Statement (.cmpp b h f) := of_word rfl (Machine.pack_lt _)
theorem plog (b : Fin 12) (h : KHead) (f : KC) : Statement (.plog b h f) := of_word rfl (Machine.pack_lt _)
theorem pbit (b : Fin 12) (h : KHead) (f : KB) : Statement (.pbit b h f) := of_word rfl (Machine.pack_lt _)
theorem pfresh (b : Fin 12) (h : KHead) (f : KT) : Statement (.pfresh b h f) := of_word rfl (Machine.pack_lt _)
theorem ldp (b : Fin 12) (h : KHead) (f : KP) : Statement (.ldp b h f) := of_word rfl (Machine.pack_lt _)
theorem ldr (b : Fin 12) (h : KHead) (f : KT) : Statement (.ldr b h f) := of_word rfl (Machine.pack_lt _)
theorem stp (b : Fin 12) (h : KHead) (f : KP) : Statement (.stp b h f) := of_word rfl (Machine.pack_lt _)
theorem str (b : Fin 12) (h : KHead) (f : KT) : Statement (.str b h f) := of_word rfl (Machine.pack_lt _)
theorem vadd (b : Fin 12) (h : KHead) (f : KS) : Statement (.vadd b h f) := of_word rfl (Machine.pack_lt _)
theorem vsub (b : Fin 12) (h : KHead) (f : KS) : Statement (.vsub b h f) := of_word rfl (Machine.pack_lt _)
theorem vmul (b : Fin 12) (h : KHead) (f : KS) : Statement (.vmul b h f) := of_word rfl (Machine.pack_lt _)
theorem vmax (b : Fin 12) (h : KHead) (f : KS) : Statement (.vmax b h f) := of_word rfl (Machine.pack_lt _)
theorem vmin (b : Fin 12) (h : KHead) (f : KS) : Statement (.vmin b h f) := of_word rfl (Machine.pack_lt _)
theorem vabs (b : Fin 12) (h : KHead) (f : KS) : Statement (.vabs b h f) := of_word rfl (Machine.pack_lt _)
theorem vneg (b : Fin 12) (h : KHead) (f : KS) : Statement (.vneg b h f) := of_word rfl (Machine.pack_lt _)
theorem vclamp (b : Fin 12) (h : KHead) (f : KS) : Statement (.vclamp b h f) := of_word rfl (Machine.pack_lt _)
theorem vmov (b : Fin 12) (h : KHead) (f : KS) : Statement (.vmov b h f) := of_word rfl (Machine.pack_lt _)
theorem macz (b : Fin 12) (h : KHead) (f : KA) : Statement (.macz b h f) := of_word rfl (Machine.pack_lt _)
theorem mac (b : Fin 12) (h : KHead) (f : KE) : Statement (.mac b h f) := of_word rfl (Machine.pack_lt _)
theorem macv (b : Fin 12) (h : KHead) (f : KS) : Statement (.macv b h f) := of_word rfl (Machine.pack_lt _)
theorem accred (b : Fin 12) (h : KHead) (f : KA) : Statement (.accred b h f) := of_word rfl (Machine.pack_lt _)
theorem macw (b : Fin 12) (h : KHead) (f : KE) : Statement (.macw b h f) := of_word rfl (Machine.pack_lt _)
theorem mns (b : Fin 12) (h : KHead) (f : KE) : Statement (.mns b h f) := of_word rfl (Machine.pack_lt _)
theorem sexp (b : Fin 12) (h : KHead) (f : KS) : Statement (.sexp b h f) := of_word rfl (Machine.pack_lt _)
theorem sadj (b : Fin 12) (h : KHead) (f : KS) : Statement (.sadj b h f) := of_word rfl (Machine.pack_lt _)
theorem norm (b : Fin 12) (h : KHead) (f : KS) : Statement (.norm b h f) := of_word rfl (Machine.pack_lt _)
theorem sqrt (b : Fin 12) (h : KHead) (f : KE) : Statement (.sqrt b h f) := of_word rfl (Machine.pack_lt _)
theorem recip (b : Fin 12) (h : KHead) (f : KE) : Statement (.recip b h f) := of_word rfl (Machine.pack_lt _)
theorem sincos (b : Fin 12) (h : KHead) (f : KX) : Statement (.sincos b h f) := of_word rfl (Machine.pack_lt _)
theorem atan2 (b : Fin 12) (h : KHead) (f : KX) : Statement (.atan2 b h f) := of_word rfl (Machine.pack_lt _)
theorem angf (b : Fin 12) (h : KHead) (f : KX) : Statement (.angf b h f) := of_word rfl (Machine.pack_lt _)
theorem fang (b : Fin 12) (h : KHead) (f : KX) : Statement (.fang b h f) := of_word rfl (Machine.pack_lt _)
theorem itof (b : Fin 12) (h : KHead) (f : KX) : Statement (.itof b h f) := of_word rfl (Machine.pack_lt _)
theorem iadd (b : Fin 12) (h : KHead) (f : KW) : Statement (.iadd b h f) := of_word rfl (Machine.pack_lt _)
theorem isub (b : Fin 12) (h : KHead) (f : KW) : Statement (.isub b h f) := of_word rfl (Machine.pack_lt _)
theorem iand (b : Fin 12) (h : KHead) (f : KW) : Statement (.iand b h f) := of_word rfl (Machine.pack_lt _)
theorem ior (b : Fin 12) (h : KHead) (f : KW) : Statement (.ior b h f) := of_word rfl (Machine.pack_lt _)
theorem ixor (b : Fin 12) (h : KHead) (f : KW) : Statement (.ixor b h f) := of_word rfl (Machine.pack_lt _)
theorem ish (b : Fin 12) (h : KHead) (f : KW) : Statement (.ish b h f) := of_word rfl (Machine.pack_lt _)
theorem imov (b : Fin 12) (h : KHead) (f : KI) : Statement (.imov b h f) := of_word rfl (Machine.pack_lt _)
theorem periodBoundary (g : Fin 32) : Statement (.periodBoundary g) := of_none rfl
theorem midPeriodPoint (g : Fin 32) : Statement (.midPeriodPoint g) := of_none rfl
theorem triggerCompare (g : Fin 32) : Statement (.triggerCompare g) := of_none rfl
theorem scheduledEdge (n : Fin 192) : Statement (.scheduledEdge n) := of_none rfl
theorem pwmHupdArm (g : Fin 32) : Statement (.pwmHupdArm g) := of_none rfl
theorem pwmTripctlClr (g : Fin 32) : Statement (.pwmTripctlClr g) := of_none rfl
theorem syncInPulse (frac : Fin 32) : Statement (.syncInPulse frac) := of_none rfl
theorem syncLoss : Statement .syncLoss := of_none rfl
theorem pwmSnapshot : Statement .pwmSnapshot := of_none rfl
theorem shootThroughHold (g : Fin 32) (q : Fin 3) : Statement (.shootThroughHold g q) := of_none rfl
theorem gfbTransition (n : Fin 192) (level : Bool) (frac : Fin 32) (stable : Bool) : Statement (.gfbTransition n level frac stable) := of_none rfl
theorem confWindowClose (n : Fin 192) : Statement (.confWindowClose n) := of_none rfl
theorem gfbLevelTimeout (n : Fin 192) : Statement (.gfbLevelTimeout n) := of_none rfl
theorem retryWaitEnd (n : Fin 192) : Statement (.retryWaitEnd n) := of_none rfl
theorem tryCountReset (n : Fin 192) : Statement (.tryCountReset n) := of_none rfl
theorem coincWindowExpire (v : Fin 12) : Statement (.coincWindowExpire v) := of_none rfl
theorem gsetFrame (g : Fin 32) : Statement (.gsetFrame g) := of_none rfl
theorem glClrLatch (n : Fin 192) : Statement (.glClrLatch n) := of_none rfl
theorem glClrShoot (g : Fin 32) (q : Fin 3) : Statement (.glClrShoot g q) := of_none rfl
theorem glPrbcmdGo : Statement .glPrbcmdGo := of_none rfl
theorem probeStep (v0 vp vm : Fin 65536) : Statement (.probeStep v0 vp vm) := of_none rfl
theorem probeTimeout : Statement .probeTimeout := of_none rfl
theorem offdlyExpire (v : Fin 12) : Statement (.offdlyExpire v) := of_none rfl
theorem monitorInternalFault : Statement .monitorInternalFault := of_none rfl
theorem missingCommitTimeout (v : Fin 12) : Statement (.missingCommitTimeout v) := of_none rfl
theorem sinSample (i : Fin 8) (chB : Bool) (uv : Int) : Statement (.sinSample i chB uv) := of_none rfl
theorem sinTestSlot (i : Fin 8) (chB : Bool) (uv : Int) : Statement (.sinTestSlot i chB uv) := of_none rfl
theorem sinDiscrepancyTimeout (i : Fin 8) : Statement (.sinDiscrepancyTimeout i) := of_none rfl
theorem soutSwitchOn (j : Fin 4) : Statement (.soutSwitchOn j) := of_none rfl
theorem soutHClose (j : Fin 4) : Statement (.soutHClose j) := of_none rfl
theorem soutTest (j : Fin 4) (kind : Fin 7) : Statement (.soutTest j kind) := of_none rfl
theorem safetyTelegramRx (r : Fin 8) (bytes : List Byte) : Statement (.safetyTelegramRx r bytes) := of_none rfl
theorem safecomWdogExpire (r : Fin 8) : Statement (.safecomWdogExpire r) := of_none rfl
theorem safetyTelegramTx (t : Fin 8) : Statement (.safetyTelegramTx t) := of_none rfl
theorem monitorDiagnostic (elem : MonDiag) (ok : Bool) : Statement (.monitorDiagnostic elem ok) := of_none rfl
theorem padReadbackMismatch (n : Fin 192) (agree : Bool) : Statement (.padReadbackMismatch n agree) := of_none rfl
theorem checkerSelfTest (ok : Bool) : Statement (.checkerSelfTest ok) := of_none rfl
theorem frameStart (diverged : Bool) (entries : Nat) : Statement (.frameStart diverged entries) := of_none rfl
theorem lockstepMismatch (group : Fin 16) (kind : Fin 3) (addr : Word) (entries : Nat) : Statement (.lockstepMismatch group kind addr entries) := of_none rfl
theorem rerunComplete (agree testOk : Bool) : Statement (.rerunComplete agree testOk) := of_none rfl
theorem stewardWriteIssue : Statement .stewardWriteIssue := of_none rfl
theorem split : Statement .split := of_none rfl
theorem splitReady (outcome : SplitBoot) : Statement (.splitReady outcome) := of_none rfl
theorem splitHandover : Statement .splitHandover := of_none rfl
theorem splitAccept (accept : Bool) : Statement (.splitAccept accept) := of_none rfl
theorem rejoin : Statement .rejoin := of_none rfl
theorem splitTimeout : Statement .splitTimeout := of_none rfl
theorem scrubSlot (err : SramErr) (region : Fin 4) (hit : List (Fin 64)) : Statement (.scrubSlot err region hit) := of_none rfl
theorem frameRx (port : Fin 2) (f : NetFrame) : Statement (.frameRx port f) := of_none rfl
theorem nodeTableAge : Statement .nodeTableAge := of_none rfl
theorem prpSupervisionTx : Statement .prpSupervisionTx := of_none rfl
theorem linkLoss (port : Fin 3) : Statement (.linkLoss port) := of_none rfl
theorem pathError (mac : BitVec 48) : Statement (.pathError mac) := of_none rfl
theorem announceRx (port : Fin 2) (a : PtpAnnounce) : Statement (.announceRx port a) := of_none rfl
theorem syncRx (port : Fin 2) (m : PtpSync) : Statement (.syncRx port m) := of_none rfl
theorem pdelayReqRx (port : Fin 2) (domain seq : Nat) : Statement (.pdelayReqRx port domain seq) := of_none rfl
theorem pdelayReqTx (port : Fin 2) : Statement (.pdelayReqTx port) := of_none rfl
theorem pdelayRespRx (port : Fin 2) (m : PtpDelay) : Statement (.pdelayRespRx port m) := of_none rfl
theorem announceTimeout : Statement .announceTimeout := of_none rfl
theorem svFrameRx (port : Fin 2) (f : SvFrame) : Statement (.svFrameRx port f) := of_none rfl
theorem svSampleWrite (stream : Fin 16) : Statement (.svSampleWrite stream) := of_none rfl
theorem svStreamLost (stream : Fin 16) : Statement (.svStreamLost stream) := of_none rfl
theorem svPublish (stream : Fin 4) : Statement (.svPublish stream) := of_none rfl
theorem gooseRx (m : GooseMsg) : Statement (.gooseRx m) := of_none rfl
theorem gooseExpiry (n : Fin 64) : Statement (.gooseExpiry n) := of_none rfl
theorem gooseRetransmit (u : Fin 16) : Statement (.gooseRetransmit u) := of_none rfl
theorem beacon : Statement .beacon := of_none rfl
theorem statusReq (seq : Fin 65536) : Statement (.statusReq seq) := of_none rfl
theorem logReq (seq : Fin 65536) (start : Word) (count : Nat) : Statement (.logReq seq start count) := of_none rfl
theorem watchIdleTimeout : Statement .watchIdleTimeout := of_none rfl
theorem p2Wake : Statement .p2Wake := of_none rfl
theorem mtrERead (m : Fin 4) (r : Fin 7) : Statement (.mtrERead m r) := of_none rfl
theorem plsPulse (k : Fin 8) : Statement (.plsPulse k) := of_none rfl
theorem plsPulseEnd (k : Fin 8) : Statement (.plsPulseEnd k) := of_none rfl
theorem mcntEdge (i : Fin 4) (closed : Bool) : Statement (.mcntEdge i closed) := of_none rfl
theorem mcntCfgWrite (i : Fin 4) (val : Word) : Statement (.mcntCfgWrite i val) := of_none rfl
theorem trackChange (g : Fin 16) : Statement (.trackChange g) := of_none rfl
theorem analogSample (a : Fin 64) : Statement (.analogSample a) := of_none rfl
theorem recCtrlArm : Statement .recCtrlArm := of_none rfl
theorem rearmComplete : Statement .rearmComplete := of_none rfl
theorem recorderTrigger (ev : Fin 16) : Statement (.recorderTrigger ev) := of_none rfl
theorem recCtrlSwtrig : Statement .recCtrlSwtrig := of_none rfl
theorem recCtrlStop : Statement .recCtrlStop := of_none rfl
theorem postEnd : Statement .postEnd := of_none rfl
theorem sqDoorbell (q : Fin 4) (val : Word) : Statement (.sqDoorbell q val) := of_none rfl
theorem cqHeadWrite (q : Fin 4) (val : Word) : Statement (.cqHeadWrite q val) := of_none rfl
theorem commandFetch : Statement .commandFetch := of_none rfl
theorem commandTimeout (tag : Fin 64) : Statement (.commandTimeout tag) := of_none rfl
theorem mailboxReset : Statement .mailboxReset := of_none rfl
theorem mbxStkRead : Statement .mbxStkRead := of_none rfl
theorem qspiFrame (f : QspiFrame) : Statement (.qspiFrame f) := of_none rfl
theorem sessionExpire : Statement .sessionExpire := of_none rfl
theorem authLockoutEnd : Statement .authLockoutEnd := of_none rfl
theorem identify (tag : Fin 64) : Statement (.identify tag) := of_none rfl
theorem status (tag : Fin 64) : Statement (.status tag) := of_none rfl
theorem state (tag : Fin 64) : Statement (.state tag) := of_none rfl
theorem timeSet (tag : Fin 64) : Statement (.timeSet tag) := of_none rfl
theorem cfgLoad (tag : Fin 64) (dma : List Byte) : Statement (.cfgLoad tag dma) := of_none rfl
theorem sticky (tag : Fin 64) : Statement (.sticky tag) := of_none rfl
theorem logRead (tag : Fin 64) : Statement (.logRead tag) := of_none rfl
theorem cal (tag : Fin 64) : Statement (.cal tag) := of_none rfl
theorem recover (tag : Fin 64) (tests : List TdacTest) : Statement (.recover tag tests) := of_none rfl
theorem diag (tag : Fin 64) (readings : List (Int × Int)) : Statement (.diag tag readings) := of_none rfl
theorem recipeLoad (tag : Fin 64) (dma : List Byte) : Statement (.recipeLoad tag dma) := of_none rfl
theorem recipeSwap (tag : Fin 64) : Statement (.recipeSwap tag) := of_none rfl
theorem engFallback (tag : Fin 64) : Statement (.engFallback tag) := of_none rfl
theorem engResume (tag : Fin 64) : Statement (.engResume tag) := of_none rfl
theorem engDump (tag : Fin 64) : Statement (.engDump tag) := of_none rfl
theorem lawParam (tag : Fin 64) : Statement (.lawParam tag) := of_none rfl
theorem panWrite (tag : Fin 64) (dma : List Byte) : Statement (.panWrite tag dma) := of_none rfl
theorem pwmSet (tag : Fin 64) (dma : List Byte) : Statement (.pwmSet tag dma) := of_none rfl
theorem tripClear (tag : Fin 64) : Statement (.tripClear tag) := of_none rfl
theorem glCal (tag : Fin 64) (trips : List (Nat × Nat)) : Statement (.glCal tag trips) := of_none rfl
theorem glClear (tag : Fin 64) : Statement (.glClear tag) := of_none rfl
theorem lprbRun (tag : Fin 64) : Statement (.lprbRun tag) := of_none rfl
theorem safeCfg (tag : Fin 64) (cfg : Option SafeConfig) (dma : List Byte) : Statement (.safeCfg tag cfg dma) := of_none rfl
theorem safeConfirm (tag : Fin 64) : Statement (.safeConfirm tag) := of_none rfl
theorem spo (tag : Fin 64) : Statement (.spo tag) := of_none rfl
theorem spoReset (tag : Fin 64) : Statement (.spoReset tag) := of_none rfl
theorem netTable (tag : Fin 64) (dma : List Byte) : Statement (.netTable tag dma) := of_none rfl
theorem meterRead (tag : Fin 64) : Statement (.meterRead tag) := of_none rfl
theorem meterPreset (tag : Fin 64) (dma : List Byte) : Statement (.meterPreset tag dma) := of_none rfl
theorem recArm (tag : Fin 64) : Statement (.recArm tag) := of_none rfl
theorem recTrig (tag : Fin 64) : Statement (.recTrig tag) := of_none rfl
theorem recStop (tag : Fin 64) : Statement (.recStop tag) := of_none rfl
theorem recRead (tag : Fin 64) : Statement (.recRead tag) := of_none rfl
theorem fwStage (tag : Fin 64) (dma : List Byte) : Statement (.fwStage tag dma) := of_none rfl
theorem fwActivate (tag : Fin 64) : Statement (.fwActivate tag) := of_none rfl
theorem fwCommit (tag : Fin 64) : Statement (.fwCommit tag) := of_none rfl
theorem expOpen (tag : Fin 64) : Statement (.expOpen tag) := of_none rfl
theorem expAuth (tag : Fin 64) (dma : List Byte) : Statement (.expAuth tag dma) := of_none rfl
theorem expClose (tag : Fin 64) : Statement (.expClose tag) := of_none rfl
theorem expKeyprog (tag : Fin 64) (dma : List Byte) : Statement (.expKeyprog tag dma) := of_none rfl
theorem expertWindowWrite (a : Fin 1048576) (val : Word) : Statement (.expertWindowWrite a val) := of_none rfl
theorem registerWrite (a : Fin 67108864) (val : Word) : Statement (.registerWrite a val) := of_none rfl
theorem panCtrlClear : Statement .panCtrlClear := of_none rfl
theorem stickyClear (a : Fin 1048576) (val sets : Word) : Statement (.stickyClear a val sets) := of_none rfl
theorem counterClear (a : Fin 1048576) : Statement (.counterClear a) := of_none rfl
theorem stkFgtRead (n : Fin 128) : Statement (.stkFgtRead n) := of_none rfl
theorem logPinrel (seq : Word) : Statement (.logPinrel seq) := of_none rfl
theorem mramRecordWrite (out : MramOut) : Statement (.mramRecordWrite out) := of_none rfl
theorem porstNReset : Statement .porstNReset := of_none rfl
theorem keepPowerUp (mainOk : Bool) : Statement (.keepPowerUp mainOk) := of_none rfl
theorem brownOut (rails : Fin 64) (latched : Bool) : Statement (.brownOut rails latched) := of_none rfl
theorem boot (t : BootTests) : Statement (.boot t) := of_none rfl
theorem bootComplete : Statement .bootComplete := of_none rfl
theorem storeRewriteComplete : Statement .storeRewriteComplete := of_none rfl
theorem mainSupplyLoss (rails : Fin 64) : Statement (.mainSupplyLoss rails) := of_none rfl
theorem mainSupplyValid : Statement .mainSupplyValid := of_none rfl
theorem wakeAdmit : Statement .wakeAdmit := of_none rfl
theorem lightWake : Statement .lightWake := of_none rfl
theorem energyPolicyDormant : Statement .energyPolicyDormant := of_none rfl
theorem keepMonitorConversion (r : KeepReading) : Statement (.keepMonitorConversion r) := of_none rfl
theorem darknessTimeout : Statement .darknessTimeout := of_none rfl
theorem hsetFault : Statement .hsetFault := of_none rfl
theorem hstoreShort : Statement .hstoreShort := of_none rfl
theorem jtagInstruction (ins : JtagIns) (porstLow : Bool) : Statement (.jtagInstruction ins porstLow) := of_none rfl
theorem outputFoldback (pin : OutPin) : Statement (.outputFoldback pin) := of_none rfl
theorem readbackCheckTimeout (n : Fin 64) : Statement (.readbackCheckTimeout n) := of_none rfl
theorem dllRelockTimeout : Statement .dllRelockTimeout := of_none rfl
theorem linkUp (port : Fin 3) (amp : Bool) : Statement (.linkUp port amp) := of_none rfl
theorem safeStartUpTestsDone : Statement .safeStartUpTestsDone := of_none rfl
theorem soutCurrentLimit (j : Fin 4) : Statement (.soutCurrentLimit j) := of_none rfl
theorem xt32Restart : Statement .xt32Restart := of_none rfl
theorem testEnHigh : Statement .testEnHigh := of_none rfl

end Sys2Proof.Laws.KetWord
end

