-- ==== Sys2Proof/WellFormed.lean ====
section
/-!
DEFINITION. Which operands a command can bring: the numbers that a field or a wire has room for. The meanings are total; what lies outside
these bounds stands for nothing that reaches the block.
-/
namespace Sys2Proof

/-- A destination: a GT value or a commit index of 64 bits (R16, R28). -/
def Dest.wf : Dest → Bool
  | .sampled gt => gt < 2 ^ 64
  | .commit cidx => cidx < 2 ^ 64

/-- The fields of a PTP Announce (R354, R356). -/
def PtpAnnounce.wf (a : PtpAnnounce) : Bool :=
  a.domain < 256 && a.prio1 < 256 && a.cls < 256 && a.acc < 256 && a.var < 65536 && a.prio2 < 256 && a.steps < 65536 &&
    -32768 ≤ a.utcOffset && a.utcOffset < 32768

/-- A Sync's time fields: 48-bit seconds, a 64-bit correction (R356). -/
def PtpSync.wf (m : PtpSync) : Bool :=
  m.domain < 256 && m.rxGt < 2 ^ 64 && m.origin < 2 ^ 48 * 10 ^ 9 && -(2 ^ 63) ≤ m.corr && m.corr < 2 ^ 63

/-- A peer-delay response's time fields (R354). -/
def PtpDelay.wf (m : PtpDelay) : Bool :=
  m.domain < 256 && m.rxGt < 2 ^ 64 && m.t2 < 2 ^ 48 * 10 ^ 9 && m.t3 < 2 ^ 48 * 10 ^ 9 && -(2 ^ 63) ≤ m.corr && m.corr < 2 ^ 63

/-- A sampled-values frame: an svID of 64 characters, 16-bit counters, at most eight ASDUs (R363). -/
def SvFrame.wf (f : SvFrame) : Bool :=
  f.appid < 65536 && f.svid.length == 64 && f.noAsdu < 256 && f.asdus.length ≤ f.noAsdu &&
    f.asdus.all (fun a => a.smpCnt < 65536 && a.smpSynch < 256)

/-- A GOOSE message: references of 130 characters, and its header numbers (R370, R371). -/
def GooseMsg.wf (m : GooseMsg) : Bool :=
  m.appid < 65536 && m.gocb.length == 130 && m.datset.length == 130 && m.goid.length == 130 && m.ttlMs < 2 ^ 32 && m.numEntries < 2 ^ 32

/-- What a frame carries. -/
def NetBody.wf : NetBody → Bool
  | .pause => true
  | .announce a => a.wf
  | .sync m => m.wf
  | .pdelayReq d q => d < 256 && q < 65536
  | .pdelayResp m => m.wf
  | .sv f => f.wf
  | .goose m => m.wf
  | .telegram bs => bs.length ≤ 1500
  | .other => true

/-- A frame on P0 or P1 (R349). -/
def NetFrame.wf (f : NetFrame) : Bool := f.len < 65536 && f.tags < 256 && f.body.wf

/-- A quad-SPI frame: word-aligned (R422). -/
def QspiFrame.wf : QspiFrame → Bool
  | .write a _ => a.toNat % 4 == 0
  | .read a _ => a.toNat % 4 == 0

/-- A safety configuration names converters, pairs, outputs and connections that exist (R303, R315, R318, R320). -/
def SafeConfig.wf (c : SafeConfig) : Bool :=
  c.convs.length ≤ 12 && c.pairs.length ≤ 8 && c.outs.length ≤ 4 && c.rx.length ≤ 8 && c.tx.length ≤ 8 &&
    c.cmps.all (fun e => e.1 < 64) && c.convs.all (fun v => v.fns.length ≤ 4)

/-- A command's operands are ones that can reach the block. -/
def Instr.wf : Instr → Bool
  | .pantryWrite owner slot _ dest _ => owner < 256 && slot < 65536 && dest.wf
  | .pantryRead slot cidx => slot < 65536 && cidx < 2 ^ 64
  | .keepcalMeasure ticks => 0 < ticks && ticks < 2 ^ 32
  | .freqMonitorWindow _ count => count < 2 ^ 16
  | .dllLock code correction => code < 64 && -15259 ≤ correction && correction ≤ 15259
  | .sinc3Output _ bits => !bits.isEmpty
  | .ocFilterOutput _ bits => !bits.isEmpty
  | .safetyTelegramRx _ bytes => bytes.length ≤ 1500
  | .frameStart _ entries => entries ≤ 16384
  | .lockstepMismatch _ _ _ entries => entries ≤ 16384
  | .scrubSlot err _ hit => err != .none || hit.isEmpty
  | .frameRx _ f => f.wf
  | .announceRx _ a => a.wf
  | .syncRx _ m => m.wf
  | .pdelayReqRx _ domain seq => domain < 256 && seq < 65536
  | .pdelayRespRx _ m => m.wf
  | .svFrameRx _ f => f.wf
  | .gooseRx m => m.wf
  | .logReq _ _ count => count < 65536
  | .qspiFrame f => f.wf
  | .recover _ tests => tests.length ≤ 104
  | .diag _ readings => readings.length ≤ 64
  | .glCal _ trips => trips.length ≤ 192
  | .safeCfg _ cfg dma => dma.length < 2 ^ 32 && (match cfg with | some c => c.wf | none => true)
  | .cfgLoad _ dma | .recipeLoad _ dma | .panWrite _ dma | .pwmSet _ dma | .netTable _ dma | .meterPreset _ dma | .fwStage _ dma | .expAuth _ dma | .expKeyprog _ dma => dma.length < 2 ^ 32
  | .commit | .breachIntervalClose .. | .epochBoundary | .halfEpochPoint | .gtSnapRead | .ppsInEdge | .sourceLossTimeout | .gtStep | .ppsOutPulse
  | .ppsOutEnd | .epLenTakeEffect | .pllLock .. | .syspllUnlock | .netpllUnlock | .fallbackReturn .. | .dllUnlock | .refclkLost | .refclkReturn
  | .xt32Stop | .dllFull | .clkPdivUpdGo | .pdivLoad | .adcSequenceTrigger .. | .sequenceStart .. | .conversionEnd .. | .adcResultWrite ..
  | .anaSwtrig .. | .atmrFire .. | .openWireRound .. | .openWireStep .. | .openWireTimeout .. | .calReq .. | .calAuto .. | .calComplete ..
  | .calTimeout .. | .sddStuck .. | .sddStuckClear .. | .comparatorCrossing .. | .blankingEnd .. | .blankingLimit .. | .seedingComplete ..
  | .seedStarved .. | .cmpReadbackCheck .. | .cmpSnapshot | .kettleCompletion .. | .sectionDrainEnd .. | .escalationReset .. | .fallbackAutoReturn ..
  | .engineModeAtEpoch .. | .swapRequest .. | .swapAtEpoch .. | .rotationStart | .copyComplete | .handover .. | .bistComplete .. | .ketCycmaxRead ..
  | .nop .. | .loop .. | .cmpp .. | .plog .. | .pbit .. | .pfresh .. | .ldp .. | .ldr .. | .stp .. | .str .. | .vadd .. | .vsub .. | .vmul ..
  | .vmax .. | .vmin .. | .vabs .. | .vneg .. | .vclamp .. | .vmov .. | .macz .. | .mac .. | .macv .. | .accred .. | .macw .. | .mns ..
  | .sexp .. | .sadj .. | .norm .. | .sqrt .. | .recip .. | .sincos .. | .atan2 .. | .angf .. | .fang .. | .itof .. | .iadd .. | .isub ..
  | .iand .. | .ior .. | .ixor .. | .ish .. | .imov .. | .periodBoundary .. | .midPeriodPoint .. | .triggerCompare .. | .scheduledEdge ..
  | .pwmHupdArm .. | .pwmTripctlClr .. | .syncInPulse .. | .syncLoss | .pwmSnapshot | .shootThroughHold .. | .gfbTransition .. | .confWindowClose ..
  | .gfbLevelTimeout .. | .retryWaitEnd .. | .tryCountReset .. | .coincWindowExpire .. | .gsetFrame .. | .glClrLatch .. | .glClrShoot ..
  | .glPrbcmdGo | .probeStep .. | .probeTimeout | .offdlyExpire .. | .monitorInternalFault | .missingCommitTimeout .. | .sinSample .. | .sinTestSlot ..
  | .sinDiscrepancyTimeout .. | .soutSwitchOn .. | .soutHClose .. | .soutTest .. | .safecomWdogExpire .. | .safetyTelegramTx .. | .monitorDiagnostic ..
  | .padReadbackMismatch .. | .checkerSelfTest .. | .rerunComplete .. | .stewardWriteIssue | .split | .splitReady .. | .splitHandover | .splitAccept ..
  | .rejoin | .splitTimeout | .nodeTableAge | .prpSupervisionTx | .linkLoss .. | .pathError .. | .pdelayReqTx .. | .announceTimeout | .svSampleWrite ..
  | .svStreamLost .. | .svPublish .. | .gooseExpiry .. | .gooseRetransmit .. | .beacon | .statusReq .. | .watchIdleTimeout | .p2Wake | .mtrERead ..
  | .plsPulse .. | .plsPulseEnd .. | .mcntEdge .. | .mcntCfgWrite .. | .trackChange .. | .analogSample .. | .recCtrlArm | .rearmComplete
  | .recorderTrigger .. | .recCtrlSwtrig | .recCtrlStop | .postEnd | .sqDoorbell .. | .cqHeadWrite .. | .commandFetch | .commandTimeout ..
  | .mailboxReset | .mbxStkRead | .sessionExpire | .authLockoutEnd | .identify .. | .status .. | .state .. | .timeSet .. | .sticky .. | .logRead ..
  | .cal .. | .recipeSwap .. | .engFallback .. | .engResume .. | .engDump .. | .lawParam .. | .tripClear .. | .glClear .. | .lprbRun ..
  | .safeConfirm .. | .spo .. | .spoReset .. | .meterRead .. | .recArm .. | .recTrig .. | .recStop .. | .recRead .. | .fwActivate .. | .fwCommit ..
  | .expOpen .. | .expClose .. | .expertWindowWrite .. | .registerWrite .. | .panCtrlClear | .stickyClear .. | .counterClear .. | .stkFgtRead ..
  | .logPinrel .. | .mramRecordWrite .. | .porstNReset | .keepPowerUp .. | .brownOut .. | .boot .. | .bootComplete | .storeRewriteComplete
  | .mainSupplyLoss .. | .mainSupplyValid | .wakeAdmit | .lightWake | .energyPolicyDormant | .keepMonitorConversion .. | .darknessTimeout
  | .hsetFault | .hstoreShort | .jtagInstruction .. | .outputFoldback .. | .readbackCheckTimeout .. | .dllRelockTimeout | .linkUp .. | .safeStartUpTestsDone
  | .soutCurrentLimit .. | .xt32Restart | .testEnHigh => true

end Sys2Proof
end

