-- ==== Sys2Proof/Tests/Slice0.lean ====
section
/-!
SUPPORT. Tests of the model, each about at most one command on a small state: the bounds of the operands, recipe words written out from R184 and R185, the
spec's worked examples, and for each statement of Certificates/Slice0/Obligations.lean with hypotheses states and operands that meet them
(witness_ and the statement's name), at the bounds of their ranges. Expected values come from the spec's text and tables.
-/
namespace Sys2Proof.Tests
set_option maxRecDepth 20000
set_option Elab.async false
open Sys2Proof.Machine

/-! ## Small states -/

/-- `s` with some fields of registers set. -/
def sf (s : State) (l : List (Nat × Fld × Nat)) : State := l.foldl (fun t e => t.setFld e.1 e.2.1 e.2.2) s

/-- `s` with some registers set. -/
def sr (s : State) (l : List (Nat × Nat)) : State := l.foldl (fun t e => t.setRegN e.1 e.2) s

/-- STANDBY with the clocks locked and the image running. -/
def up : State :=
  sf { State.reset with gt := 100000, fw := { State.reset.fw with booting := false, selected := true } }
    [(Reg.CLK_STAT, F.CLK_STAT_DLL_LOCK, 1), (Reg.CLK_STAT, F.CLK_STAT_REF_OK, 1), (Reg.CLK_STAT, F.CLK_STAT_XT32_OK, 1),
     (Reg.CLK_STAT, F.CLK_STAT_SYSPLL_LOCK, 1), (Reg.CLK_STAT, F.CLK_STAT_NETPLL_LOCK, 1), (Reg.MBX_STAT, F.MBX_STAT_READY, 1)]

/-- `up` with QUAL. -/
def upQ (q : Nat) : State := sf up [(Reg.GT_STAT, F.GT_STAT_QUAL, q)]

/-- `up` in RUN. -/
def run : State := { up with dev := .run }

/-- A descriptor that gives slots to an owner. -/
def owned (s : State) (n first last owner : Nat) : State :=
  sf s [(Reg.PAN_DESC_RANGE n, F.PAN_DESC_RANGE_FIRST, first), (Reg.PAN_DESC_RANGE n, F.PAN_DESC_RANGE_LAST, last),
    (Reg.PAN_DESC_ATTR n, F.PAN_DESC_ATTR_OWNER, owner), (Reg.PAN_DESC_ATTR n, F.PAN_DESC_ATTR_VALID, 1)]

/-! ## Witnesses: states and operands that meet the hypotheses of each statement -/

def queued : State := { up with pending := [.commit, .gtSnapRead] }

theorem witness_StepRunsFrontCommand : queued.pending = .commit :: [.gtSnapRead] := by decide +kernel

/-- Due at nothing, in an epoch with a slip, at its last tick but one. -/
def idleTick (k : Slip) (g : Nat) : State :=
  { up with gt := g, tim := { up.tim with epDone := 19, slip := k }, pan := { up.pan with anyCommit := true, cidx := 40, cinst := 97500 } }

theorem witness_GridTimeAdvancesAndSkips :
    ((idleTick .lengthen 99999).pending = [] ∧ (idleTick .lengthen 99999).pwr.keepOff = false ∧ (idleTick .lengthen 99999).pin.testEn = false ∧
      (idleTick .lengthen 99999).qual < 4 ∧ (idleTick .lengthen 99999).powered = true ∧ (idleTick .lengthen 99999).dueNow = false ∧
      (idleTick .lengthen 99999).flag Reg.CLK_STAT F.CLK_STAT_DLL_LOCK = true ∧ (idleTick .lengthen 99999).gt + 2 < 2 ^ 64) ∧
    (idleTick .shorten 99998).dueNow = false ∧
    ((idleTick .shorten 99998).tim.slip = .shorten ∧ 0 < (idleTick .shorten 99998).tim.epLen ∧
      (idleTick .shorten 99998).gt + 1 ≠ ((idleTick .shorten 99998).tim.epDone + 1) * (idleTick .shorten 99998).tim.epLen ∧
      ((idleTick .shorten 99998).tim.epDone + 1) * (idleTick .shorten 99998).tim.epLen < 2 ^ 64) := by decide +kernel

/-- `up` at a commit's instant plus one tick, with the commit of that instant behind it. -/
def pantry : State := { up with gt := 100001, pan := { up.pan with anyCommit := true, cidx := 40, cinst := 100000 }, tim := { up.tim with epDone := 20 } }

theorem witness_PantryWritesAndReads :
    (pantry.ownerOf 0xE000 = 0x20 ∧ pantry.gt < pantry.instantOf 42 ∧ pantry.nextCommit ≤ 42 ∧ 42 ≤ pantry.commitAfter pantry.nextCommit ∧
      ((pantry.pan.pend.find 42).getD []).find 0xE000 = none) ∧
    (pantry.ownerOf 0 = 1 ∧ pantry.gt < pantry.instantOf (pantry.destOf 0 100001) ∧ pantry.nextCommit ≤ pantry.destOf 0 100001 ∧
      pantry.destOf 0 100001 ≤ pantry.commitAfter pantry.nextCommit ∧ ((pantry.pan.pend.find (pantry.destOf 0 100001)).getD []).find 0 = none) ∧
    pantry.regsOk = true ∧ pantry.pan.anyCommit = true ∧ 39 < pantry.pan.cidx ∧ pantry.pan.cidx ≤ 40 ∧ pantry.ownerOf 0xFFFF = 0 := by decide +kernel

/-- An open interval of cause 1 whose last breach lies an epoch back. -/
def breached : State := { pantry with pan := { pantry.pan with breach := pantry.pan.breach.mod 1 (fun x => { x with isOpen := true, lastGt := 95001 }) } }

theorem witness_RefusedWritesAndBreachIntervals :
    (pantry.regsOk = true ∧ pantry.ownerOf 0xE000 ≠ 0x10 ∧ 0x20 ≠ 0 ∧ pantry.ownerOf 0xE000 = 0x20 ∧ pantry.instantOf 40 ≤ pantry.gt ∧
      40 < pantry.nextCommit) ∧
    (breached.pan.breach.at (1 : Fin 6)).isOpen = true ∧ breached.causeStands 1 = false := by decide +kernel

/-- A write pending for the commit that is due, and a slot with an old value. -/
def commitDue : State :=
  { pantry with pan := { pantry.pan with pend := [(42, [(0xE000, { val := 7, ord := 1 })])], committed := [(0, 5)], fresh := [(0, 1)], clearNext := true } }

theorem witness_CommitSwapsEverySlot :
    commitDue.commitsOn = true ∧ commitDue.panOk = true ∧ KMap.wf ((commitDue.pan.pend.find commitDue.nextCommit).getD []) = true ∧
      commitDue.nextCommit = 42 ∧ (((commitDue.pan.pend.find 42).getD []).find 0xE000).isSome = true ∧
      ((commitDue.pan.pend.find 42).getD []).find 0 = none ∧ (∀ b, b < 12 → commitDue.ketOverruns b 42 = false) := by decide +kernel

theorem witness_SnapReadCopiesHighWord :
    ({ up with gt := 2 ^ 64 - 1 } : State).regsOk = true ∧ ({ up with gt := 2 ^ 64 - 1 } : State).gt < 2 ^ 64 := by decide +kernel

def ppsOn : State := sf (upQ 2) [(Reg.GT_CTRL, F.GT_CTRL_SRC, 2), (Reg.GT_CTRL, F.GT_CTRL_PPSOUT_EN, 1), (Reg.GT_CTRL, F.GT_CTRL_PPSOUT_W, 100)]

/-- A PPS source in ACQUIRE with seven measurements. -/
def ppsNear : State := let s := sf ppsOn [(Reg.GT_STAT, F.GT_STAT_QUAL, 1)]; { s with gt := 500000025, tim := { s.tim with lockCount := 7 } }

theorem witness_PpsOutputAndDiscipline :
    (ppsOn.powered = true ∧ ppsOn.flag Reg.GT_CTRL F.GT_CTRL_PPSOUT_EN = true ∧ ppsOn.tim.ppsOut = false) ∧
    ({ ppsOn with tim := { ppsOn.tim with ppsOut := true, ppsRise := 0 } } : State).tim.ppsOut = true ∧
    (ppsNear.regsOk = true ∧ ppsNear.powered = true ∧ ppsNear.fld Reg.GT_CTRL F.GT_CTRL_SRC = 2 ∧ ppsNear.qual ≠ 4 ∧ ppsNear.qual ≠ 2 ∧
      2 * ppsNear.ppsOffset.natAbs ≤ ppsNear.lockThrNs ∧ ppsNear.qual = 1 ∧ ppsNear.tim.lockCount = 7) ∧
    (ppsOn.regsOk = true ∧ ppsOn.powered = true ∧ ppsOn.fld Reg.GT_CTRL F.GT_CTRL_SRC = 2 ∧ ppsOn.qual = 2 ∧
      ppsOn.ppsWinNs < 2 * ppsOn.ppsOffset.natAbs ∧ ppsOn.tim.rejects < 3) ∧
    ({ ppsOn with tim := { ppsOn.tim with rejects := 2 } } : State).tim.rejects < 3 ∧
    (let s : State := { ppsOn with gt := 500000500 }
     2 * s.ppsOffset.natAbs ≤ s.ppsWinNs ∧ s.qual = 2) := by decide +kernel

def stepDue : State := { pantry with tim := { pantry.tim with stepPend := some (-500000000) } }

/-- RATE at its end, so that the accumulator passes a tick in one epoch. -/
def rated (r : Nat) (acc : Int) : State := let s := sr pantry [(Reg.GT_RATE, r)]; { s with tim := { s.tim with accum := acc } }

theorem witness_StepsAndEpochPoints :
    (stepDue.tim.stepPend = some (-500000000) ∧ stepDue.dev = .standby ∧ stepDue.commitsOn = true ∧ stepDue.pan.cinst ≠ stepDue.gt) ∧
    ((rated 1099512 (2 ^ 40 - 1)).regsOk = true ∧ (rated 1099512 (2 ^ 40 - 1)).powered = true ∧ (rated 1099512 (2 ^ 40 - 1)).qual < 4 ∧
      (rated 1099512 (2 ^ 40 - 1)).pwr.leaving = none ∧ (rated 1099512 (2 ^ 40 - 1)).tim.rateNext = none ∧
      2 ^ 40 ≤ (rated 1099512 (2 ^ 40 - 1)).tim.accum + sgn 32 ((rated 1099512 (2 ^ 40 - 1)).regN Reg.GT_RATE) * ((rated 1099512 (2 ^ 40 - 1)).tim.epLen : Int)) ∧
    (rated (2 ^ 32 - 1) (-(2 ^ 40) + 1)).tim.accum +
      sgn 32 ((rated (2 ^ 32 - 1) (-(2 ^ 40) + 1)).regN Reg.GT_RATE) * ((rated (2 ^ 32 - 1) (-(2 ^ 40) + 1)).tim.epLen : Int) ≤ -(2 ^ 40) ∧
    ((upQ 5).powered = true ∧ (upQ 5).qual = 5) ∧ (up.powered = true ∧ 0 < up.tim.epLen) ∧
    ({ up with tim := { up.tim with epLenPend := some 10000 } } : State).tim.epLenPend = some 10000 := by decide +kernel

theorem witness_KeepAliveAndClockFlags :
    ((upQ 2).regsOk = true ∧ (upQ 2).qual = 2 ∧ (upQ 2).flag Reg.CLK_STAT F.CLK_STAT_XT32_OK = true) ∧ (upQ 3).qual = 3 ∧ (up.qual ≠ 2 ∧ up.qual ≠ 3) ∧
    (up.regsOk = true ∧ up.powered = true ∧ up.flag Reg.CLK_STAT F.CLK_STAT_XT32_OK = true ∧ up.pwr.keepOff = false ∧
      up.flag Reg.CLK_PDIV_UPD F.CLK_PDIV_UPD_GO = false) ∧
    (let s := sf up [(Reg.CLK_PDIV_UPD, F.CLK_PDIV_UPD_GO, 1)]
     s.regsOk = true ∧ s.powered = true ∧ s.flag Reg.CLK_PDIV_UPD F.CLK_PDIV_UPD_GO = true ∧ s.qual ≠ 5) := by decide +kernel

/-- Both PLLs locked with their islands still on the fallback. -/
def onFallback : State := sf up [(Reg.CLK_STAT, F.CLK_STAT_ON_FALLBACK, 31)]

theorem witness_PllLossAndFrequencyMonitor :
    (up.regsOk = true ∧ up.powered = true ∧ up.flag Reg.CLK_STAT F.CLK_STAT_SYSPLL_LOCK = true ∧ up.flag Reg.CLK_STAT F.CLK_STAT_NETPLL_LOCK = true) ∧
    (onFallback.regsOk = true ∧ onFallback.powered = true ∧ onFallback.flag Reg.CLK_STAT F.CLK_STAT_NETPLL_LOCK = true ∧
      onFallback.flag Reg.CLK_STAT F.CLK_STAT_SYSPLL_LOCK = true ∧ onFallback.fld Reg.CLK_STAT F.CLK_STAT_ON_FALLBACK &&& 16 ≠ 0 ∧
      onFallback.fld Reg.CLK_STAT F.CLK_STAT_ON_FALLBACK &&& 15 ≠ 0) ∧
    (up.tim.outOfRange.length = 10 ∧ 4 * (7 - 5) < up.engines ∧ up.inRange 7 0 = false ∧ up.tim.outOfRange.at 7 = 0 ∧
      (up.inRange 1 4096 = true ∨ up.inRange 5 4096 = true ∨ up.inRange 0 4096 = true)) ∧
    (let s : State := { up with tim := { up.tim with outOfRange := up.tim.outOfRange.mod 7 (fun _ => 1) } }
     s.inRange 7 0 = false ∧ 1 ≤ s.tim.outOfRange.at 7 ∧ s.tim.outOfRange.length = 10) := by decide +kernel

/-- The DLL unlocked while the reference is good. -/
def unlocked (q : Nat) : State := sf (upQ q) [(Reg.CLK_STAT, F.CLK_STAT_DLL_LOCK, 0)]

theorem witness_DllLockAndLoss :
    (∀ q, q = 0 ∨ q = 4 ∨ q = 5 → (unlocked q).regsOk = true ∧ (unlocked q).powered = true ∧ (unlocked q).flag Reg.CLK_STAT F.CLK_STAT_DLL_LOCK = false ∧
      (unlocked q).flag Reg.CLK_STAT F.CLK_STAT_REF_OK = true ∧ 15259 ≤ (unlocked q).gt ∧ (unlocked q).gt + 15259 < 2 ^ 64 ∧ (unlocked q).qual = q) ∧
    (up.regsOk = true ∧ up.powered = true ∧ up.flag Reg.CLK_STAT F.CLK_STAT_REF_OK = true ∧ up.flag Reg.CLK_STAT F.CLK_STAT_DLL_LOCK = true) ∧
    (up.regsOk = true ∧ ({ up with tim := { up.tim with relockCmd := true } } : State).tim.relockCmd = true) := by
  refine ⟨?_, by decide +kernel, by decide +kernel⟩
  rintro q (rfl | rfl | rfl) <;> decide +kernel

/-! ### Converters and comparators -/

/-- Core 7 enabled, its sequences as given. -/
def core (f : AdcCore → AdcCore) : State :=
  let s := sf up [(Reg.ADC_CTRL 7, F.ADC_CTRL_EN, 1)]
  { s with ana := { s.ana with cores := s.ana.cores.mod 7 f } }

/-- An analog timer and a sequence that follows it, and one that software triggers. -/
def triggers : State :=
  sf up [(Reg.ADC_CTRL 7, F.ADC_CTRL_EN, 1), (Reg.ADC_SEQCFG 7, F.ADC_SEQCFG_REG_TRIG, 7), (Reg.ANA_ATMR_PH 3, F.ANA_ATMR_PH_EN, 1),
    (Reg.ADC_CTRL 0, F.ADC_CTRL_EN, 1), (Reg.ADC_SEQCFG 0, F.ADC_SEQCFG_REG_TRIG, 3)]

theorem witness_TriggersReachSequences :
    ((core id).inv = true ∧ (core id).anaOn = true ∧ (core id).flag (Reg.ADC_CTRL 7) F.ADC_CTRL_EN = true ∧
      ((core id).ana.cores.at 7).reg.phase = .idle ∧ ((core id).ana.cores.at 7).inj.phase = .idle) ∧
    (let s := core (fun c => { c with reg := { c.reg with phase := .running }, inj := { c.inj with phase := .waiting } })
     s.inv = true ∧ s.anaOn = true ∧ s.flag (Reg.ADC_CTRL 7) F.ADC_CTRL_EN = true ∧ (s.ana.cores.at 7).reg.phase ≠ .idle ∧
       (s.ana.cores.at 7).inj.phase ≠ .idle) ∧
    (triggers.inv = true ∧ triggers.anaOn = true ∧ triggers.fld (Reg.ADC_SEQCFG 0) F.ADC_SEQCFG_INJ_TRIG ≠ 3 ∧
      triggers.fld (Reg.ADC_SEQCFG 0) F.ADC_SEQCFG_REG_TRIG = 3 ∧ triggers.flag (Reg.ADC_CTRL 0) F.ADC_CTRL_EN = true ∧
      (triggers.ana.cores.at 0).reg.phase = .idle ∧ triggers.flag (Reg.ANA_ATMR_PH 3) F.ANA_ATMR_PH_EN = true ∧
      triggers.fld (Reg.ADC_SEQCFG 7) F.ADC_SEQCFG_REG_TRIG = 4 + 3 ∧ triggers.flag (Reg.ADC_CTRL 7) F.ADC_CTRL_EN = true ∧
      (triggers.ana.cores.at 7).reg.phase = .idle) := by decide +kernel

/-- Sequences of core 7 in every phase that the statement names, and a conversion in progress. -/
def seqs (p q : SeqPhase) (inj : Bool) (n : Nat) : State :=
  core (fun c => { c with
    reg := { c.reg with phase := p, plan := List.replicate n {} }, inj := { c.inj with phase := q, plan := List.replicate n {} },
    conv := some { inj := inj, cfg := {}, start := 100000, len := 40 }, results := [{ slot := 0, sample := 100001, due := 100002, val := 3#32 }] })

theorem witness_SequencesConvertAndWriteResults :
    ((seqs .waiting .idle false 1).inv = true ∧ ((seqs .waiting .idle false 1).ana.cores.at 7).reg.phase = .waiting ∧
      ((seqs .waiting .idle false 1).ana.cores.at 7).reg.plan = {} :: [] ∧ ((seqs .waiting .idle false 1).ana.cores.at 7).inj.phase = .idle) ∧
    ((seqs .running .waiting false 1).inv = true ∧ ((seqs .running .waiting false 1).ana.cores.at 7).inj.phase = .waiting ∧
      ((seqs .running .waiting false 1).ana.cores.at 7).inj.plan = {} :: [] ∧ (((seqs .running .waiting false 1).ana.cores.at 7).conv.map (·.inj)) = some false) ∧
    ((seqs .waiting .running true 1).inv = true ∧ ((seqs .waiting .running true 1).ana.cores.at 7).reg.phase = .waiting ∧
      ((seqs .waiting .running true 1).ana.cores.at 7).inj.phase = .running) ∧
    (((seqs .running .idle false 2).ana.cores.at 7).conv.isSome = true ∧ ((seqs .running .idle false 2).ana.cores.at 7).reg.plan = {} :: {} :: []) ∧
    (((seqs .idle .running true 2).ana.cores.at 7).conv.map (·.inj) = some true ∧ ((seqs .idle .running true 2).ana.cores.at 7).inj.plan = {} :: {} :: []) ∧
    (let s := seqs .running .idle false 1
     let u := s.gtTo 100002
     let c := s.destOf 0 100001
     s.inv = true ∧ (s.ana.cores.at 7).results = [{ slot := 0, sample := 100001, due := 100002, val := 3#32 }] ∧ s.ownerOf 0 = 1 ∧
       u.gt < s.instantOf c ∧ u.nextCommit ≤ c ∧ c ≤ u.commitAfter u.nextCommit ∧ ((s.pan.pend.find c).getD []).find 0 = none) := by decide +kernel

/-- The open-wire diagnosis of core 7 with all of its pins, before and in a round, and a calibration that waits. -/
def owCore (f : AdcCore → AdcCore) : State :=
  sf (core f) [(Reg.ADC_OWCFG 7, F.ADC_OWCFG_OW_EN, 4095), (Reg.ADC_CALCFG 7, F.ADC_CALCFG_AUTO_INT, 255)]

theorem witness_OpenWireAndCalibration :
    (let s := owCore (fun c => { c with owAny := true })
     s.inv = true ∧ s.anaOn = true ∧ (s.ana.cores.at 7).owActive = false ∧ bitsOf 12 (s.fld (Reg.ADC_OWCFG 7) F.ADC_OWCFG_OW_EN) ≠ [] ∧
       s.flag (Reg.ADC_CTRL 7) F.ADC_CTRL_EN = true ∧ (s.ana.cores.at 7).owAny = true) ∧
    (let s := owCore (fun c => { c with owActive := true, owLeft := [11] })
     s.inv = true ∧ s.anaOn = true ∧ (s.ana.cores.at 7).owLeft = 11 :: [] ∧ (s.ana.cores.at 7).owActive = true ∧
       (s.ana.cores.at 7).calPending = false ∧ (s.ana.cores.at 7).conv = none ∧ s.flag (Reg.ADC_CTRL 7) F.ADC_CTRL_EN = true ∧
       s.fld (Reg.ADC_OWSET 7) F.ADC_OWSET_DELTA + 0 < 65535 ∧ (s.ana.cores.at 7).owStarved = false) ∧
    (let s := owCore id
     s.inv = true ∧ s.anaOn = true ∧ (s.ana.cores.at 7).calPending = false ∧ s.fld (Reg.ADC_CALCFG 7) F.ADC_CALCFG_AUTO_INT ≠ 0) ∧
    (let s := owCore (fun c => { c with calPending := true })
     s.inv = true ∧ (s.ana.cores.at 7).calPending = true) := by decide +kernel

/-- Channel 47 of the sigma-delta inputs enabled. -/
def sdf : State := sf up [(Reg.SDF_CFG 47, F.SDF_CFG_EN, 1), (Reg.SDF_CFG 47, F.SDF_CFG_OC_EN, 1), (Reg.SDF_OCTHR 47, F.SDF_OCTHR_HI, 0x7FFF)]

theorem witness_SigmaDeltaFiltersAndStuckFlag :
    (sdf.inv = true ∧ sdf.anaOn = true ∧ sdf.flag (Reg.SDF_CFG 47) F.SDF_CFG_EN = true ∧ sdf.flag (Reg.SDF_CFG 47) F.SDF_CFG_OC_EN = true ∧
      (sdf.ana.sdf.at 47).outputs < 2) ∧
    (let t := nextOf sdf (exec (.sddStuck 47) sdf)
     t.inv = true ∧ t.sdfStuck 47 = true) := by decide +kernel

/-- Comparator 63 enabled, in the state given. -/
def cmp63 (f : CmpState → CmpState) : State :=
  let s := sf up [(Reg.CMP_CFG 63, F.CMP_CFG_EN, 1)]
  { s with cmp := { s.cmp with cmps := s.cmp.cmps.mod 63 f } }

def resolved (c : CmpState) : CmpState := { c with unres := false }

theorem witness_ComparatorOutAndSnapshot :
    ((cmp63 resolved).inv = true ∧ (cmp63 resolved).flag (Reg.CMP_CFG 63) F.CMP_CFG_EN = true ∧ (cmp63 resolved).cmpAlive 63 = true ∧
      ((cmp63 resolved).cmp.cmps.at 63).unres = false ∧ ((cmp63 resolved).cmp.cmps.at 63).blank = false ∧ ((cmp63 resolved).cmp.cmps.at 63).held = false ∧
      ((cmp63 resolved).cmp.cmps.at 63).settleUntil ≤ (cmp63 resolved).gt ∧ (cmp63 resolved).commitsOn = true) ∧
    (let s := cmp63 (fun c => { c with unres := false, blank := true, blankSince := 100000, blankEnd := 102049, raw := true })
     s.inv = true ∧ s.flag (Reg.CMP_CFG 63) F.CMP_CFG_EN = true ∧ (s.cmp.cmps.at 63).blank = true ∧ (s.cmp.cmps.at 63).unres = false ∧
       (s.cmp.cmps.at 63).held = false ∧ (s.cmp.cmps.at 63).settleUntil ≤ s.gt ∧
       (s.cmp.cmps.at 63).blankSince + 2048 < (s.cmp.cmps.at 63).blankEnd) := by decide +kernel

/-- Comparator 63 unresolved, and safety-assigned. -/
def seeding (pol : Nat) : State := sf (cmp63 (fun c => { c with unres := true })) [(Reg.CMP_CFG 63, F.CMP_CFG_POL, pol)]
def assigned : State := sf (sr (cmp63 id) [(Reg.CMP_SAFEASG_HI, 2 ^ 31)]) [(Reg.CMP_CFG 63, F.CMP_CFG_REFSEL, 17)]

theorem witness_SeedingAndReadback :
    ((seeding 0).inv = true ∧ (seeding 0).flag (Reg.CMP_CFG 63) F.CMP_CFG_EN = true ∧ (seeding 0).powered = true ∧
      ((seeding 0).cmp.cmps.at 63).unres = true ∧ (seeding 0).cmpPol 63 = false ∧ (seeding 1).cmpPol 63 = true ∧ (seeding 1).inv = true) ∧
    (assigned.inv = true ∧ assigned.cmpSafe 63 = true ∧ assigned.powered = true ∧ assigned.flag (Reg.CMP_CFG 63) F.CMP_CFG_EN = true ∧
      assigned.cmpCheckOk 63 1508000000001 1500000000000 = false ∧ assigned.cmpCheckOk 63 1508000000000 1492000000000 = true) := by
  decide +kernel

/-! ### Engines -/

/-- Binding 11 in the state given. -/
def bnd (f : Binding → Binding) : State := { up with ket := { up.ket with bind := up.ket.bind.mod 11 f } }

/-- A bank with one stage of three elements at word 16381, and one word of a program. -/
def bank1 (w : Nat) : KBank := { loaded := true, mark := true, stages := [{ base := 16381, len := 3, exp := 0 }], prog := [BitVec.ofNat 64 w], secs := [{ start := 0, count := 1 }] }

/-- Binding 11 at that word, with some words of data memory. -/
def engine (w : Nat) (data : List (Nat × Nat) := []) : State :=
  bnd (fun x => { x with banks := [bank1 w, {}], mode := .main, data := data.map (fun e => (e.1, BitVec.ofNat 32 e.2)),
                         run := { x.run with active := true, epoch := 20, due := [0] } })

/-- Between two commits of epoch 20, at the boundary that opens it. -/
def atBoundary (s : State) : State := { s with pan := { s.pan with anyCommit := true, cidx := 40, cinst := 100000 }, tim := { s.tim with epDone := 19 } }

theorem witness_EnginesEndEpochsAndChangeModes :
    (let s := bnd (fun x => { x with run := { x.run with active := true, ended := true } })
     s.inv = true ∧ (s.bd 11).run.active = true ∧ (s.bd 11).run.ended = true ∧ s.pwr.leaving = none) ∧
    (let s := bnd (fun x => { x with banks := [bank1 0, {}], run := { x.run with active := true, drain := true, due := [0, 0] } })
     s.inv = true ∧ (s.bd 11).run.active = true ∧ (s.bd 11).run.drain = true ∧ (s.bd 11).run.ended = false ∧ (s.bd 11).run.due.tail = [0]) ∧
    (let s := atBoundary (bnd (fun x => { x with mode := .main, good := 65535 }))
     s.inv = true ∧ s.openEpoch.isSome = true ∧ (s.bd 11).mode ≠ .stopped ∧
       max 1 (s.fld (Reg.KET_OVRCFG 11) F.KET_OVRCFG_FB_DWELL) ≤ (s.bd 11).good ∧ s.panOk = true) ∧
    (let s := atBoundary (sf { bnd (fun x => { x with mode := .fallback, fbGood := 65535, modeCmd := some { resume := true, epoch := 20, tag := 1 } }) with dev := .run }
       [(Reg.KET_BCTRL 11, F.KET_BCTRL_AUTO_RET, 1)])
     s.inv = true ∧ s.openEpoch = some 20 ∧ s.dev = .run ∧ (s.bd 11).mode = .fallback ∧ (s.bd 11).fbAt = none ∧
       s.flag (Reg.KET_BCTRL 11) F.KET_BCTRL_AUTO_RET = true ∧ max 1 (s.fld (Reg.KET_OVRCFG 11) F.KET_OVRCFG_FB_DWELL) ≤ (s.bd 11).fbGood) ∧
    (let s := sr (bnd id) [(Reg.KET_SWAPEP_LO 11, 22)]
     s.inv = true ∧ 11 < s.engines ∧ (s.bd 11).swap = none ∧ s.swapStatus 11 = stOk ∧ (0x80000000#32).getLsbD 31 = true ∧ s.gt < 22 * s.tim.epLen) ∧
    (bnd id).swapStatus 11 = stOk ∧
    (let s := atBoundary (bnd (fun x => { x with banks := [bank1 0, bank1 0], mode := .main, swap := some { epoch := 20 } }))
     s.inv = true ∧ s.dataOk = true ∧ (s.bd 11).swap = some { epoch := 20 } ∧ s.openEpoch = some 20 ∧ (s.bd 11).fbAt = none ∧
       (s.bd 11).ovrAt ≠ some 40 ∧ (s.bd 11).mode ≠ .stopped ∧ (s.bd 11).other.mark = true) := by decide +kernel

/-- A rotation in the state given: engine 11 is the spare, engine 0 the donor. -/
def rotating (r : RotStep) (f : KetState → KetState := id) : State :=
  let s := sf up [(Reg.KET_SPARECFG, F.KET_SPARECFG_EN, 1)]
  { s with ket := f { s.ket with spare := some 11, donor := some 0, rot := r, phys := s.ket.phys.mod 11 (fun _ => none) } }

theorem witness_RotationMovesBindingToSpare :
    ((rotating .idle).ket.spare = some 11 ∧ (rotating .idle).ket.rot = .idle ∧ (rotating .idle).flag Reg.KET_SPARECFG F.KET_SPARECFG_EN = true ∧
      (rotating .idle).dev = .standby) ∧
    ((rotating .copy).ket.rot = .copy ∧ (rotating .copy).ket.spare = some 11 ∧ (rotating .copy).ket.donor = some 0 ∧
      (rotating .copy).donorIdle 0 = true) ∧
    ({ sf (rotating .copy) [(Reg.KET_BCTRL 0, F.KET_BCTRL_RUN_EN, 1)] with dev := .run } : State).donorIdle 0 = false ∧
    (let s := atBoundary (rotating .shadow (fun k => { k with shadowed := 16 }))
     s.inv = true ∧ s.ket.rot = .shadow ∧ s.ket.spare = some 11 ∧ s.ket.donor = some 0 ∧ s.openEpoch.isSome = true ∧ 16 ≤ s.ket.shadowed) ∧
    (let s := rotating .bist (fun k => { k with testing := some 11 })
     s.inv = true ∧ s.ket.rot = .bist ∧ s.ket.testing = some 11) := by decide +kernel

/-- Engine 11 at `w` meets what an instruction's statement asks for. -/
def meets (w : Nat) (data : List (Nat × Nat) := []) : Bool := (engine w data).inv && (engine w data).dataOk && ((engine w data).bd 11).atWord w

theorem witness_NopLoopAndFlagInstructions :
    meets (encN 0x00 { pn := true, qsel := 7, jen := true, jsel := 3 }) = true ∧ meets (encL 0x01 { jl := 3, n1 := 4095, l1 := 255 }) = true ∧
    meets (encE 0x08 {} { sa := 0, ea := 2, sb := 0, eb := 2, qd := 7, cond := 5 }) = true ∧ 5 < 6 ∧
    meets (encE 0x08 {} { cond := 6 }) = true ∧ meets (encC 0x09 {} { qd := 7, qa := 7, qb := 7, fn := 3 }) = true ∧
    meets (encB 0x0A {} { qd := 7, bit := 31, w := 16383 }) = true ∧ meets (encT 0x0B {} { w := 0, qd := 7, slot := 65535 }) = true := by decide +kernel

theorem witness_RawWordInstructionsWriteOneWord :
    (∀ op, op < 5 → meets (encW (0x50 + op) {} { wd := 16383, wa := 16383, wb := 16383, sht := 0, shn := 0 }) = true) ∧
    (∀ k, k < 4 → meets (encW 0x55 {} { wd := 16383, wa := 0, wb := 0, sht := Fin.ofNat 4 k, shn := 31 }) = true) ∧
    meets (encI 0x56 {} { wd := 16383, imm := 4294967295 }) = true := by decide +kernel

theorem witness_VectorInstructionsActElementWise :
    (∀ op, op < 9 → meets (encS (0x20 + op) {} { sd := 0, sa := 0, sb := 0, bcb := true, eb := 2, imm := 0 }) = true) ∧
    meets (encS 0x20 {} { sd := 63, sa := 63, sb := 63, bcb := false, eb := 63, imm := 255 }) = true ∧
    (let s := engine (encS 0x20 {} {}) [(16381, 0x7FFFFF00)]
     (s.bd 11).mantOf 0 ((s.bd 11).elem 0 0 |>.add ((s.bd 11).elem 0 0)) ≠ (s.bd 11).rounded 0 ((s.bd 11).elem 0 0 |>.add ((s.bd 11).elem 0 0))) := by
  decide +kernel

theorem witness_AccumulatorAndExponentInstructions :
    meets (encA 0x30 {} { an := 3, x := 255 }) = true ∧ meets (encE 0x31 {} { an := 3, ea := 2, eb := 2 }) = true ∧
    meets (encE 0x35 {} { an := 3, ea := 2, eb := 2 }) = true ∧ meets (encS 0x32 {} { bcb := true, eb := 2 }) = true ∧
    meets (encA 0x33 {} {}) = true ∧ meets (encE 0x34 {} { an := 3, ed := 2 }) = true ∧
    (∀ op, op < 3 → meets (encS (0x38 + op) {} { imm := 128 }) = true) ∧
    ((engine 0).bd 11).act < 2 ∧ 0 < ((engine 0).bd 11).bank.stages.length := by decide +kernel

theorem witness_FunctionInstructionsWriteTheirResult :
    (∀ op, op < 2 → meets (encE (0x40 + op) {} { ed := 2, ea := 2 }) [(16383, 0x7FFFFF00)] = true) ∧
    (∀ op, op < 5 → meets (encX (0x42 + op) {} { ed := 1, w := 16380, eb := 2 }) [(16380, 0xC0000000)] = true) ∧
    0 ≤ (((engine 0 [(16383, 0x7FFFFF00)]).bd 11).elem 0 2).m ∧ (((engine 0 [(16383, 0x80000000)]).bd 11).elem 0 2).m < 0 ∧
    (((engine 0).bd 11).elem 0 2).m = 0 := by decide +kernel

/-- Engine 0 at `w` in epoch 20, after the commit of its boundary. -/
def engine0 (w : Nat) : State :=
  { pantry with ket := { up.ket with bind := up.ket.bind.mod 0 (fun x =>
      { x with banks := [bank1 w, {}], mode := .main, run := { x.run with active := true, epoch := 20, due := [0] } }) } }

theorem witness_PortInstructionsMoveSlots :
    meets (encP 0x10 {} { sd := 0, e0 := 1, c1 := 1, slot := 0xFFFF }) = true ∧ meets (encT 0x11 {} { w := 16383, slot := 0xFFFF }) = true ∧
    (let w := encP 0x18 {} { sd := 0, e0 := 1, c1 := 1, slot := 0x2000 }
     let s := engine0 w
     s.inv = true ∧ s.gt < s.instantOf (s.bd 0).dest ∧ s.nextCommit ≤ (s.bd 0).dest ∧ (s.bd 0).dest ≤ s.commitAfter s.nextCommit ∧
       (s.bd 0).atWord w = true ∧ (∀ i, i ≤ 1 → s.ownerOf (0x2000 + i) = 0x10 ∧ ((s.pan.pend.find (s.bd 0).dest).getD []).find (0x2000 + i) = none)) ∧
    (let w := encT 0x19 {} { w := 16383, slot := 0x2FFF }
     (engine0 w).inv = true ∧ ((engine0 w).bd 0).atWord w = true ∧ (engine0 w).ownerOf 0x2FFF = 0x10) := by decide +kernel

/-! ### Leg groups and gate links -/

/-- Group 31 enabled with a period of 5000 ticks, its last boundary at 100000. -/
def group (f : LegGroup → LegGroup) (l : List (Nat × Fld × Nat) := []) : State :=
  let s := sf run ([(Reg.PWM_LGCFG 31, F.PWM_LGCFG_EN, 1), (Reg.PWM_LGCFG 31, F.PWM_LGCFG_SRC, 1), (Reg.PWM_PER 31, F.PWM_PER_PER, 5000)] ++ l)
  { s with pwm := { s.pwm with lgs := s.pwm.lgs.mod 31 (fun x => f { x with bnd := 100000, segAt := 100000, anyBnd := true }) } }

/-- Channel 191 of that group in the state given. -/
def chan (f : PwmCh → PwmCh) (h : GlCh → GlCh) (l : List (Nat × Fld × Nat) := []) : State :=
  let s := group id l
  { s with pwm := { s.pwm with chs := s.pwm.chs.mod 191 f }, gl := { s.gl with chs := s.gl.chs.mod 191 h } }

/-- Channel 191 with a pulse to come: the pair is INDEP and its word compares in the middle of the carrier. -/
def pulse : State := sr (chan id id [(Reg.PWM_LGCFG 31, F.PWM_LGCFG_PAIRMODE, 16)]) [(Reg.PWM_ACT 31 5, 80000)]

theorem witness_CarrierPointsAndEdges :
    (let s := sr (group id [(Reg.PWM_HUPD 31, F.PWM_HUPD_ARM, 1)]) [(Reg.PWM_ACT 31 6, 32 * 4999)]
     s.inv = true ∧ s.powered = true ∧ s.flag Reg.CLK_STAT F.CLK_STAT_DLL_LOCK = true ∧ 31 < s.groups ∧
       s.flag (Reg.PWM_LGCFG 31) F.PWM_LGCFG_EN = true ∧ s.pwr.leaving = none ∧ s.dev = .run ∧ s.fld (Reg.PWM_LGCFG 31) F.PWM_LGCFG_SRC ≠ 0 ∧
       s.flag (Reg.PWM_HUPD 31) F.PWM_HUPD_ARM = true ∧ (s.pwm.lgs.at 31).armGt < 100000 ∧ s.cmpOk 31 (s.regN (Reg.PWM_CMPA 31)) = true ∧
       (s.pwm.lgs.at 31).anyBnd = true ∧ (s.pwm.lgs.at 31).midFor ≠ 100001 ∧ (s.pwm.lgs.at 31).trgFor ≠ 100001 ∧
       s.regN (Reg.PWM_ACT 31 6) + 32 ≤ 32 * max 500 (s.fld (Reg.PWM_PER 31) F.PWM_PER_PER)) ∧
    (let s := chan (fun c => { c with lvl := true, off := some 3200064 }) id
     s.inv = true ∧ (s.pwm.lgs.at (lgOf 191)).anyBnd = true ∧ (s.pwm.chs.at 191).lvl = true ∧ (s.pwm.chs.at 191).off = some 3200064 ∧
       3200064 < 32 * s.boundaryFrom (lgOf 191) ((s.pwm.lgs.at (lgOf 191)).bnd + 1) ∧ s.permitOpen (lgOf 191) = false) ∧
    (let s := chan id id
     s.inv = true ∧ (s.pwm.chs.at 191).lvl = false ∧ (s.pwm.chs.at 191).carry = 0 ∧ s.planOn 191 = none) ∧
    (pulse.inv = true ∧ (pulse.pwm.lgs.at (lgOf 191)).anyBnd = true ∧ (pulse.pwm.chs.at 191).lvl = false ∧ (pulse.pwm.chs.at 191).carry = 0 ∧
      (pulse.planOn 191).isSome = true ∧ (pulse.planOn 191).any (fun p => p.due < 32 * pulse.boundaryFrom 31 100001 ∧ p.off = some 3280000 ∧
        p.due + pulse.minpOf 191 ≤ 3280000) ∧ pulse.glBlocked 191 = false) := by decide +kernel

/-- The end of a sync chain. -/
def chained : State := sf run [(Reg.PWM_SYNCCFG, F.PWM_SYNCCFG_ROLE, 2), (Reg.PWM_SYNCWIN, F.PWM_SYNCWIN_WIN, 1000)]

theorem witness_PwmControlsAndSync :
    (group id).inv = true ∧
    (let s := group (fun x => { x with latched := true }) [(Reg.PWM_TRIP 31, F.PWM_TRIP_LATMASK, 1)]
     s.inv = true ∧ (s.pwm.lgs.at 31).latched = true ∧ s.fld (Reg.PWM_TRIP 31) F.PWM_TRIP_LATMASK &&& s.cmp.bus = 0 ∧
       s.fld (Reg.PWM_TRIP 31) F.PWM_TRIP_LATMASK &&& ({ s with cmp := { s.cmp with bus := 1 } } : State).cmp.bus ≠ 0) ∧
    (chained.inv = true ∧ chained.fld Reg.PWM_SYNCCFG F.PWM_SYNCCFG_ROLE = 2 ∧ chained.pwm.chain.lost = false) ∧
    (run.commitsOn = true ∧ run.flag Reg.CLK_STAT F.CLK_STAT_DLL_LOCK = true) := by decide +kernel

theorem witness_GateFeedbackConfirmsOrFaults :
    (let s := chan id (fun c => { c with win := some { rising := true, start := 3200031, stop := 3200032 } })
     s.inv = true ∧ s.powered = true ∧ 191 < s.channels ∧ (s.gl.chs.at 191).gfb ≠ true ∧ (s.gl.chs.at 191).sig = 0 ∧
       (s.gl.chs.at 191).win = some { rising := true, start := 3200031, stop := 3200032 } ∧ 3200031 ≤ 32 * s.gt + 31 ∧ 32 * s.gt + 31 < 3200032 ∧
       s.dev = .run ∧ s.glBlocked 191 = false) ∧
    (let s := chan id (fun c => { c with gfb := true })
     s.inv = true ∧ s.powered = true ∧ (s.gl.chs.at 191).gfb ≠ s.gcmdPin 191 ∧ s.dev = .run ∧ s.glBlocked 191 = false) := by decide +kernel

/-- Pair 2 of group 31, INDEP, with both levels at 1 for 4000 ticks. -/
def both : State :=
  { sr (group (fun x => { x with both := [none, none, some 3072000] }) [(Reg.PWM_LGCFG 31, F.PWM_LGCFG_PAIRMODE, 16)])
      [(Reg.PWM_ACT 31 4, 0x1FFFFFFF), (Reg.PWM_ACT 31 5, 0x1FFFFFFF)] with gt := 100001 }

/-- Probes 30 and 31 still to measure. -/
def probing : State := { up with gl := { up.gl with prbRun := true, prbStart := 99999, prbLeft := [30, 31] } }

theorem witness_GateFaultsAndLegProbes :
    (let s := chan id (fun c => { c with waiting := true, waitEnd := 100500, tries := 15 })
     s.inv = true ∧ (s.gl.chs.at 191).waiting = true ∧ s.tim.lossHold = false ∧ (s.gl.chs.at 191).tries ≠ 0 ∧
       (s.gtTo (s.gl.chs.at 191).waitEnd).gfbQuiet 191 = true ∧ (s.gl.chs.at 191).sig = 0) ∧
    (let s := group id [(Reg.GL_CFG 31, F.GL_CFG_GSET_EN, 1)]
     s.inv = true ∧ (s.pwm.lgs.at 31).anyBnd = true ∧ (s.pwm.lgs.at 31).frameFor ≠ (s.pwm.lgs.at 31).bnd + 1 ∧
       s.frameDue 31 (s.pwm.lgs.at 31).bnd = true ∧ s.tim.pwmHalted = false) ∧
    (let s := chan id (fun c => { c with latched := true })
     s.inv = true ∧ s.latchClearable 191 = true ∧ (chan id id).latchClearable 191 = false) ∧
    (let s := { group id with gl := { (group id).gl with shoot := (group id).gl.shoot.mod 31 (fun _ => 4) } }
     s.inv = true ∧ s.shootHeld 31 2 = true ∧ s.bothIdeal 31 2 = false ∧ both.bothIdeal 31 2 = true) ∧
    (let u := both.gtTo ((3072000 + 32 * both.perOf 31) / 32 + 1)
     both.inv = true ∧ both.dev = .run ∧ both.shootHeld 31 2 = false ∧ both.bothSince 31 2 both.gt = some 3072000 ∧
       u.gt ≤ u.nextBoundary 31 ∧ u.bothSince 31 2 u.gt = some 3072000) ∧
    (let s := sr up [(Reg.GL_PRBEN, 2 ^ 31)]
     s.inv = true ∧ s.dev = .standby ∧ s.gl.prbRun = false ∧ s.regN Reg.GL_PRBEN % 2 ^ s.groups ≠ 0) ∧
    (probing.inv = true ∧ probing.gl.prbRun = true ∧ probing.dev = .standby ∧ probing.gl.prbLeft = 30 :: 31 :: []) := by decide +kernel

/-! ### Safety functions and the Supervisor pair -/

/-- A safety configuration in force: converter 11 with a limit, pair 7 an emergency stop, output 3, connection 7 both ways. -/
def safeUp (f : SafeState → SafeState := id) : State :=
  { sr run [(Reg.GL_CONV 11, 2 ^ 31)] with safe := f { up.safe with
      inForce := true, startTests := true,
      cfg := { convs := List.replicate 11 {} ++ [{ lgs := 2 ^ 31, outs := 8, offDly := 0xFFFE, fns := [{ on := true }] }],
               pairs := List.replicate 7 {} ++ [{ func := 1, convs := 2048, outs := 8 }], outs := List.replicate 4 { spo := 2048 },
               rx := List.replicate 7 {} ++ [{ on := true, plen := 4, id := 9#32 }], tx := List.replicate 7 {} ++ [{ on := true, plen := 60 }] } } }

theorem witness_MonitorFaultsLatchSpo :
    ((safeUp).inv = true ∧ (safeUp).dev ≠ .dormant) ∧
    (let s := sr (safeUp) [(Reg.SAFE_SPOLAT, 2048)]
     s.inv = true ∧ (s.safe.cfg.convs[11]?).isSome = true ∧ s.safe.inForce = true ∧ s.spoLatched 11 = true ∧
       (s.safe.cfg.convs.getD 11 {}).offDly ≠ 0xFFFF ∧ s.dev = .run ∧ (s.safe.cfg.convs.getD 11 {}).outs.testBit 3 = true) ∧
    ((safeUp).convOf (lgOf 191) = some 11 ∧ (safeUp).safe.demands = []) ∧
    ((safeUp).safe.inForce = true ∧ (safeUp).dev = .run ∧ ((safeUp).safe.cfg.convs.getD 11 {}).fns.any (fun f => f.on) = true) ∧
    (up.dev ≠ .dormant ∧ up.pin.testEn = false ∧ up.safe.intFault = false) := by decide +kernel

theorem witness_SafetyInputsAndOutputs :
    ((safeUp).inv = true ∧ (safeUp).dev ≠ .dormant ∧ (safeUp).safe.inForce = true ∧ ((safeUp).safe.cfg.pairs.getD 7 {}).func = 1 ∧
      ((safeUp).safe.cfg.pairs.getD 7 {}).convs ≠ 0) ∧
    (let s := safeUp (fun x => { x with sin := x.sin.mod 7 (fun y => { y with b := { y.b with same := 2, lastClass := .closed }, discFrom := some 99999 }) })
     s.inv = true ∧ (s.safe.sin.at 7).b.same = 2 ∧ (s.safe.sin.at 7).discFrom = some 99999) ∧
    (let s := safeUp (fun x => { x with sin := x.sin.mod 7 (fun y => { y with a := { y.a with cls := .closed, known := true }, b := { y.b with cls := .closed, known := true } }) })
     s.inv = true ∧ (s.safe.sout.at 3).cmd = false ∧ s.outAllowed 3 = true ∧ 3 < s.safe.cfg.outs.length) ∧
    (let s := safeUp (fun x => { x with sout := x.sout.mod 3 (fun y => { y with cmd := true }) })
     s.inv = true ∧ (s.safe.sout.at 3).cmd = true ∧ (s.safe.sout.at 3).hClosed = false) ∧
    (let s := safeUp (fun x => { x with sout := x.sout.mod 3 (fun y => { y with fault := 6 }) })
     s.inv = true ∧ (s.safe.sout.at 3).fault ≠ 0 ∧ (s.safe.sout.at 3).cmd = false) := by decide +kernel

/-- The bytes of a telegram of connection 9 with four bytes of payload, with its CRC. -/
def telegram (seq : Nat) : List Byte :=
  let b := beBytes 1 1 ++ beBytes 1 1 ++ beBytes 2 4 ++ beBytes 4 9 ++ beBytes 4 seq ++ beBytes 8 0 ++ beBytes 4 0 ++ beBytes 4 7
  b ++ beBytes 4 (crc32c b).toNat

theorem witness_SafetyTelegrams :
    (let s := safeUp (fun x => { x with rx := x.rx.mod 7 (fun y => { y with st := 1, base := true, lastSeq := 4294967294 }) })
     let bs := telegram 4294967295
     s.inv = true ∧ s.safe.inForce = true ∧ (s.rxCfg 7).on = true ∧ s.dev ≠ .dormant ∧ (s.safe.rx.at 7).st = 1 ∧ bs.length = 28 + (s.rxCfg 7).plen ∧
       beAt bs 0 1 = 1 ∧ beAt bs 1 1 = 1 ∧ beAt bs 2 2 = (s.rxCfg 7).plen ∧
       beAt bs (24 + (s.rxCfg 7).plen) 4 = (crc32c (bs.take (24 + (s.rxCfg 7).plen))).toNat ∧ beAt bs 4 4 = (s.rxCfg 7).id.toNat ∧
       beAt bs 8 4 ≠ (s.safe.rx.at 7).lastSeq ∧ s.rxAgeOk (s.rxCfg 7) (beAt bs 20 1) (beAt bs 12 8) = true ∧
       beAt bs 8 4 = seqNext (s.safe.rx.at 7).lastSeq) ∧
    (let s := safeUp (fun x => { x with rx := x.rx.mod 7 (fun y => { y with st := 2 }) })
     s.inv = true ∧ s.safe.inForce = true ∧ (s.rxCfg 7).on = true ∧ s.dev ≠ .dormant ∧ (s.safe.rx.at 7).st = 2) ∧
    ((safeUp).inv = true ∧ (safeUp).safe.inForce = true ∧ ((safeUp).safe.cfg.tx.getD 7 {}).on = true ∧ (safeUp).powered = true) := by decide +kernel

/-- The pair in the state `n` of SUP_STAT. -/
def pair (n : Nat) (f : SupState → SupState := id) (l : List (Nat × Fld × Nat) := []) : State :=
  let s := sf up ([(Reg.SUP_STAT, F.SUP_STAT_STATE, n)] ++ l)
  { s with sup := f s.sup }

theorem witness_SupervisorPairRecoversOrFails :
    ((pair 0).inv = true ∧ (pair 0).pairLocked = true ∧ (pair 0).dev = .standby ∧ (pair 0).supState < 3 ∧ (pair 0).sup.rejoinDue = false ∧
      (pair 0).supState = 0 ∧ (pair 0).sup.split = none) ∧
    (pair 0 (fun u => { u with anyFrame := true, lastFrame := 4500000 })).sup.anyFrame = true ∧
    (pair 0 (fun u => { u with injFails := 1 })).sup.injFails = 1 ∧
    ((pair 1).inv = true ∧ (pair 1).supState = 1 ∧ (pair 1).sup.journalFull = false ∧ (pair 1).recov60.length < 3 ∧
      (pair 1 (fun u => { u with journalFull := true })).sup.journalFull = true ∧
      (pair 1 (fun u => { u with recovs := [100000, 100000, 100000] })).recov60.length = 3) ∧
    (let w : HeldWrite := { slot := 0xE000, val := 1#32, dest := 42 }
     let s := { pantry with sup := { pantry.sup with held := [w] } }
     s.inv = true ∧ s.stewardOn = true ∧ s.commitsOn = true ∧ s.sup.held = [w] ∧ w.dest = s.nextCommit ∧ s.gt + 64 ≤ s.instantOf w.dest ∧
       s.ownerOf w.slot = 0x20 ∧ ((s.pan.pend.find w.dest).getD []).find w.slot = none) ∧
    524288 ≤ (pair 0 (fun u => { u with scrubWord := 524287 })).sup.scrubWord + 1 := by decide +kernel

theorem witness_SplitRunsThroughItsPhases :
    (let s := pair 0 (fun u => { u with split := some {} })
     s.inv = true ∧ s.sup.split = some {} ∧ s.pairLocked = true) ∧
    (let s := pair 3 (fun u => { u with split := some { started := true, start := 100000 } })
     s.inv = true ∧ s.sup.split = some { started := true, start := 100000 }) ∧
    (let s := pair 3 (fun u => { u with split := some { started := true, start := 100000, ready := true } }) [(Reg.SUP_STAT, F.SUP_STAT_PHASE, 2)]
     s.inv = true ∧ s.sup.split = some { started := true, start := 100000, ready := true } ∧ s.fld Reg.SUP_STAT F.SUP_STAT_PHASE = 2) ∧
    (let s := pair 3 (fun u => { u with split := some { started := true, start := 100000, ready := true } }) [(Reg.SUP_STAT, F.SUP_STAT_PHASE, 3)]
     s.inv = true ∧ s.sup.split = some { started := true, start := 100000, ready := true } ∧ s.fld Reg.SUP_STAT F.SUP_STAT_PHASE = 3 ∧
       s.gt + 500000 ≤ 100000 + 1000000000) ∧
    (let s := pair 3 (fun u => { u with split := some { started := true, rejoin := true } })
     s.inv = true ∧ s.sup.split = some { started := true, rejoin := true }) := by decide +kernel

/-! ### Network -/

/-- Both ports with their links, P2 with its own, PTP on both. -/
def net (f : NetState → NetState := id) (l : List (Nat × Fld × Nat) := []) : State :=
  let s := sf (upQ 2) ([(Reg.NET_STAT, F.NET_STAT_LINK0, 1), (Reg.NET_STAT, F.NET_STAT_LINK1, 1), (Reg.NET_CTRL, F.NET_CTRL_PTP_EN, 1),
    (Reg.NET_CTRL, F.NET_CTRL_PTP_DAC, 1), (Reg.NET_TLSTAT, F.NET_TLSTAT_LINK, 1)] ++ l)
  { s with net := f s.net }

/-- A node heard on path 0 only, whose frame 65535 has arrived. -/
def node : NetNode := { lastAt := 5000100000, firstAt := 100000, path0 := some 5000100000, seqs := [{ seq := 65535, at_ := 5000100000 }] }
def nodes : State := { net (fun n => { n with nodes := [(1, node)] }) with gt := 5000100000 }

theorem witness_FramesNodesAndLinks :
    ((net).inv = true ∧ (net).portOn 1 = true ∧ (net).netMode ≠ 2) ∧
    (nodes.inv = true ∧ nodes.portOn 1 = true ∧ nodes.netMode = 0 ∧ (nodes.nodesNow.find 1).any (fun n => n.seen 65535) ∧ nodes.powered = true ∧
      (nodes.nodesNow.find 1).any (fun n => n.pathErr = false ∧ n.onePath nodes.gt = true) ∧ bodyPtp .other = false) ∧
    (net).linkBit 1 = true ∧ (net (fun n => { n with supAt := 1 })).net.supAt ≠ 0 ∧ (net).outPorts ≠ 0 ∧
    (up.inv = true ∧ up.powered = true ∧ up.flag Reg.CLK_STAT F.CLK_STAT_NETPLL_LOCK = true ∧ up.netMode ≠ 2) := by decide +kernel

theorem witness_PtpFollowsItsTimePort :
    ((net).inv = true ∧ (net).ptpOn 1 = true ∧ (net).annOf 0 = none ∧ (net).pState 1 ≠ 4 ∧ (net).ptpDomain = ({ domain := (net).ptpDomain } : PtpAnnounce).domain) ∧
    (let s := net (fun n => { n with ptp := n.ptp.mod 1 (fun p => { p with reqSeq := 65535 }) }) [(Reg.NET_STAT, F.NET_STAT_PSTATE1, 3), (Reg.NET_STAT, F.NET_STAT_TPORT, 1)]
     s.inv = true ∧ s.ptpOn 1 = true ∧ s.pState 1 = 3 ∧ s.fld Reg.GT_CTRL F.GT_CTRL_SRC ≠ 1 ∧ (s.net.ptp.at 1).reqSeq ≠ 0 ∧
       s.fld Reg.NET_STAT F.NET_STAT_TPORT = 1) := by decide +kernel

/-- Tables: one stream of one quantity, one publication of two samples, a subscription of one BOOLEAN, one publication of GOOSE. -/
def file (kind : Nat) (e : List Byte) : List Byte :=
  [0#8, 0#8, 0#8, 0#8, 0#8, 0#8, BitVec.ofNat 8 kind, 1#8, 0#8, 0#8, 0#8, 0#8, 0#8, 0#8, 0#8, 0#8] ++ e ++ List.replicate (tblSize kind - 24) 0#8

def tables (f : NetState → NetState := id) : State :=
  { net (fun n => f { n with files := [file 1 (List.replicate 9 0#8 ++ [1#8, 1#8] ++ List.replicate 10 0#8 ++ [1#8, 1#8, 0#8]), file 2 (List.replicate 9 0#8 ++ [2#8, 1#8] ++ List.replicate 13 0#8),
      file 3 (List.replicate 9 0#8 ++ [1#8] ++ List.replicate 6 0#8 ++ [1#8] ++ List.replicate 7 0#8), file 4 (List.replicate 24 0#8)] })
    with gt := 499895933 }

/-- The last sample of a second, 100 ticks old. -/
def asdu : SvAsdu := { smpCnt := 4799, data := List.replicate 8 0#8 }
def svFrame : SvFrame := { svid := List.replicate 64 0#8, noAsdu := 1, asdus := [asdu] }
def goose (ok : Bool) : GooseMsg :=
  { gocb := List.replicate 130 0#8, datset := List.replicate 130 0#8, goid := List.replicate 130 0#8, numEntries := 1, mems := if ok then [.bool true] else [] }

theorem witness_SampledValuesAndGoose :
    ((tables).inv = true ∧ (tables).portOn 1 = true ∧ (tables).tblCount 1 = 1 ∧ (tables).svMatch 0 svFrame = true ∧
      (let b := (tables).tblAt 1 0
       let ofs := 4799 * 500000000 / svRate b
       let tm := ((tables).gt + 2500 - ofs) / 500000000 * 500000000 + ofs
       svFrame.noAsdu = 1 ∧ leAt b 9 1 = 1 ∧ (leAt b 11 1).testBit 4 = false ∧ asdu.data.length = 8 * svNq b ∧ svFrame.sim = (leAt b 11 1).testBit 0 ∧
         4799 < svRate b ∧ leAt b 11 1 / 4 % 4 ≤ asdu.smpSynch ∧ 1 < (tables).qual ∧ ofs ≤ (tables).gt + 2500 ∧
         ((tables).net.sv.at 0).lastTm = none ∧ (tables).gt ≤ tm + svDly b + svLat b - 128)) ∧
    (let s := tables (fun n => { n with sv := n.sv.mod 0 (fun x => { x with buf := [{ tm := 499895833 }] }) })
     s.inv = true ∧ (s.net.sv.at 0).buf = { tm := 499895833 } :: [] ∧ 0 < s.tblCount 1 ∧ s.powered = true ∧
       s.destOf 0x400 (499895833 + svDly (s.tblAt 1 0)) ≤ s.nextCommit ∧ (s.net.sv.at 0).lost = false) ∧
    (let s := tables (fun n => { n with pub := n.pub.mod 0 (fun x => { x with taken := [{}, {}], next := 4800 }) })
     s.inv = true ∧ 0 < s.tblCount 2 ∧ s.pubOn = true ∧ s.outPorts ≠ 0 ∧
       leAt (s.tblAt 2 0) 9 1 ≤ ((s.pubCatchUp s.gt (s.gt < s.instantOf s.nextCommit)).net.pub.at 0).taken.length) ∧
    ((tables).tblCount 3 = 1 ∧ (tables).goMatch 0 (goose true) = true ∧ (goose true).test = false ∧
      (goose true).sim = (leAt ((tables).tblAt 3 0) 8 1).testBit 1 ∧ goBad ((tables).tblAt 3 0) (goose true) = false ∧
      (tables).goMatch 0 (goose false) = true ∧ goBad ((tables).tblAt 3 0) (goose false) = true ∧ ((tables).net.goSub.at 0).any = false) ∧
    (let s := tables (fun n => { n with goSub := n.goSub.mod 0 (fun x => { x with valid := true }), goPub := n.goPub.mod 0 (fun x => { x with any := true }) })
     s.inv = true ∧ (s.net.goSub.at 0).valid = true ∧ 0 < s.tblCount 3 ∧ s.powered = true ∧ (s.net.goPub.at 0).any = true ∧ 0 < s.tblCount 4) := by
  refine ⟨by decide +kernel, by decide +kernel, by decide +kernel, by decide +kernel, by decide +kernel⟩

theorem witness_WatchLinkAnswers :
    ((net).inv = true ∧ (net).p2Up = true ∧ (net).p2Admits = true) ∧
    (let s := { net id [(Reg.CLK_PWRSTAT, F.CLK_PWRSTAT_MAINOK, 0)] with dev := DevState.watch, pwr := { (net).pwr with admitted := 1000000000 } }
     s.inv = true ∧ s.p2Up = true ∧ s.p2Admits = false) ∧
    (let s : State := { sf net [(Reg.NET_TLCFG, F.NET_TLCFG_IDLE, 1)] with dev := .watch }
     s.inv = true ∧ s.dev = .watch ∧ s.fld Reg.NET_TLCFG F.NET_TLCFG_IDLE ≠ 0) ∧
    (let s : State := { sf net [(Reg.CLK_WAKEEN, F.CLK_WAKEEN_P2, 1)] with dev := .dormant }
     s.dev = .dormant ∧ s.pwr.keepOff = false ∧ s.flag Reg.CLK_WAKEEN F.CLK_WAKEEN_P2 = true) := by decide +kernel

/-! ### Metering, recorder, mailbox -/

/-- Pulse output 7 with pulses to send, or sending one; pulse input 3. -/
def meter (f : MtrState → MtrState := id) : State :=
  let s := sr (sf up [(Reg.PLS_CFG 7, F.PLS_CFG_EN, 1), (Reg.MCNT_CFG 3, F.MCNT_CFG_EN, 1)]) [(Reg.PLS_BACKLOG 7, 2 ^ 32 - 1)]
  { s with mtr := f s.mtr }

/-- The recorder's clock runs, group 15 records a leg, track 63 a converter entry; its state as given. -/
def rec (n : Nat) (l : List (Nat × Fld × Nat) := []) : State :=
  let s := sf up ([(Reg.CLK_PDIV_REC, F.CLK_PDIV_REC_ACT, 5), (Reg.REC_STAT, F.REC_STAT_STATE, n), (Reg.REC_GSRC 15, F.REC_GSRC_KIND, 1),
    (Reg.REC_ASRC 63, F.REC_ASRC_EN, 1), (Reg.REC_ASRC 63, F.REC_ASRC_ENTRY, 39), (Reg.REC_EVTRIG, F.REC_EVTRIG_EV, 8)] ++ l)
  { s with ana := { s.ana with cores := s.ana.cores.mod 0 (fun c => { c with last := [(39, { ended := 99999, val := 5#32 })] }) } }

theorem witness_MeteringPinsAndRecorder :
    ((meter).inv = true ∧ (meter).powered = true ∧ (meter).flag (Reg.PLS_CFG 7) F.PLS_CFG_EN = true ∧ ((meter).mtr.pls.at 7).active = false ∧
      (meter).regN (Reg.PLS_BACKLOG 7) ≠ 0 ∧ ((meter).mtr.mcnt.at 3).closed ≠ true ∧ (meter).flag (Reg.MCNT_CFG 3) F.MCNT_CFG_EN = true ∧
      (meter).flag (Reg.MCNT_CFG 3) F.MCNT_CFG_EDGE ≠ true) ∧
    (let s := meter (fun m => { m with pls := m.pls.mod 7 (fun p => { p with active := true }) })
     s.inv = true ∧ s.powered = true ∧ (s.mtr.pls.at 7).active = true) ∧
    ((rec 0).inv = true ∧ (rec 0).recClocked = true ∧ (rec 0).recKind 15 ≠ 0 ∧ (rec 0).recState = 0 ∧ (rec 0).trackOn 63 = true ∧
      ((rec 0).ana.cores.at ((rec 0).fld (Reg.REC_ASRC 63) F.REC_ASRC_CORE)).last.find ((rec 0).fld (Reg.REC_ASRC 63) F.REC_ASRC_ENTRY) =
        some { ended := 99999, val := 5#32 } ∧
      (let per := 5 * max 100 ((rec 0).fld Reg.REC_ACFG F.REC_ACFG_APER)
       99999 < ((rec 0).gt + per - 1) / per * per)) ∧
    ((rec 1).inv = true ∧ (rec 1).recClocked = true ∧ (rec 1).recState = 1 ∧ (rec 2).recState = 2 ∧ (rec 3).recState = 3 ∧ (rec 4).recState = 4 ∧
      (rec 2).inv = true ∧ (rec 3).inv = true ∧ (rec 3).hop.trigAt ≠ ((rec 3).gt + 4) / 5 * 5 ∧
      (15 : Fin 16).val &&& (rec 2).fld Reg.REC_EVTRIG F.REC_EVTRIG_EV ≠ 0) := by decide +kernel

theorem witness_EnergyReadBelongsToOneInstant :
    (meter (fun m => { m with pts := m.pts.mod 3 (fun p => { p with e := p.e.mod 6 (fun _ => 2 ^ 95 - 1), wrap := p.wrap.mod 6 (fun _ => 255) }) })).inv = true := by
  decide +kernel

/-- Queue 3 with one entry at 63, whose descriptor has the code and the tag given. -/
def queue (opc tag : Nat) (f : MbxState → MbxState := id) : State :=
  let s := sr (sf up [(Reg.MBX_SQHEAD 3, F.MBX_SQHEAD_HEAD, 63), (Reg.MBX_SQTAIL 3, F.MBX_SQTAIL_TAIL, 0)])
    [(sqBase 3 + 64 * 63, opc + 2 ^ 16 * tag)]
  { s with mbx := f s.mbx }

/-- A completion that waits for room. -/
def waiting : State := let s := queue 1 63; { s with mbx := { s.mbx with wait := s.mbx.wait.mod 3 (fun _ => [{ tag := 63, q := 3 }]) } }

/-- A command that has been fetched under tag 63. -/
def fetched : State := queue 1 63 (fun m => { m with cmds := [(63, { opc := 1, timeout := 65535 })] })

theorem witness_MailboxQueuesAndTimes :
    ((queue 1 63).inv = true ∧ (queue 1 63).hostOn = true ∧ (queue 1 63).flag Reg.MBX_STAT F.MBX_STAT_READY = true ∧
      (62 + 64 - 0) % 64 + ((0 + 64 - 63) % 64) ≤ 63 ∧ 63 < (63 + 64 - 0) % 64 + ((0 + 64 - 63) % 64) ∧ (queue 1 63).mbx.wait.at 3 = []) ∧
    (waiting.inv = true ∧ waiting.mbx.wait.at 3 = [{ tag := 63, q := 3 }] ∧ waiting.mbx.cmds.find 63 = none ∧
      5 % 64 ≠ (waiting.fld (Reg.MBX_CQTAIL 3) F.MBX_CQTAIL_TAIL + 1) % 64) ∧
    ((queue 1 63).stewardOn = true ∧ (queue 1 63).supFailed = false ∧ (queue 1 63).nextQueue = some 3 ∧
      (queue 1 63).fld (Reg.MBX_SQHEAD 3) F.MBX_SQHEAD_HEAD = 63 ∧ ((queue 1 63).readDescr 3 63).1 = 63 ∧ (queue 1 63).tagOut 63 = false ∧
      (opInfo ((queue 1 63).readDescr 3 63).2.opc).isSome = true ∧ opInfo ((queue 0xFFFF 63).readDescr 3 63).2.opc = none ∧
      KMap.wf (queue 0xFFFF 63).mbx.cmds = true ∧ (queue 0xFFFF 63).cqFull 3 = false ∧ 64 ≤ ((queue 1 255).readDescr 3 63).1) ∧
    (fetched.inv = true ∧ KMap.wf fetched.mbx.cmds = true ∧ fetched.mbx.cmds.find 63 = some { opc := 1, timeout := 65535 } ∧ fetched.cqFull 0 = false) ∧
    (let s := sf up [(Reg.MBX_EXPSESS, F.MBX_EXPSESS_OPEN, 1)]
     s.inv = true ∧ s.hostOn = true ∧ s.flag Reg.MBX_EXPSESS F.MBX_EXPSESS_OPEN = true) ∧
    (let s : State := { up with mbx := { up.mbx with lockUntil := 100001 } }
     s.hostOn = true ∧ s.gt < s.mbx.lockUntil) := by decide +kernel

/-- A command of code `opc` under tag 63 that may start, with the state around it. -/
def cmd (opc : Nat) (p : List Nat) (len : Nat := 0) (f : State → State := id) (g : MCmd → MCmd := id) : State :=
  let c : MCmd := { opc := opc, p := (p ++ List.replicate (8 - p.length) 0).map (fun n => BitVec.ofNat 32 n), len := len,
                    addr := if len = 0 then 0#64 else 0x8000000000000000#64, q := 3 }
  let s := f up
  { s with mbx := { s.mbx with cmds := [(63, g c)] } }

/-- The command under tag 63. -/
def theCmd (s : State) : MCmd := (s.mbx.cmds.find 63).getD {}

/-- It waits under its tag and may start; beside that it passes its checks. -/
def waits (s : State) : Bool :=
  let c := theCmd s
  s.inv && KMap.wf s.mbx.cmds && (s.mbx.cmds.find 63).isSome && !c.dropped && s.canStart c && !s.startLate c && (s.mbx.wait.at c.q).isEmpty &&
    !s.cqFull c.q && Store.wf zeroes s.mbx.buf
def starts (s : State) (opc : Nat) : Bool :=
  let c := theCmd s
  waits s && c.opc == opc && (opInfo opc).any (fun i => (c.err i s.mbx.qspi).isNone && !s.cmdBusy c i)

/-- What `starts` says is what the statements ask of a command that runs. -/
theorem starts_runs {s : State} {opc : Nat} (h : starts s opc = true) : s.runs 63 opc (theCmd s) := by
  simp only [starts, waits, Bool.and_eq_true, Option.any_eq_true, Bool.not_eq_true', beq_iff_eq, List.isEmpty_iff, Option.isNone_iff_eq_none] at h
  obtain ⟨⟨⟨⟨⟨⟨⟨⟨⟨⟨h1, h2⟩, h3⟩, h4⟩, h5⟩, h6⟩, h7⟩, h8⟩, h9⟩, h10⟩, i, h11, h12, h13⟩ := h
  refine ⟨⟨h1, h2, ?_, h4, h5, h6, h7, h8, h9⟩, h10, i, h11, h12, h13⟩
  obtain ⟨c, hc⟩ := Option.isSome_iff_exists.mp h3
  simp [theCmd, hc]

theorem witness_ChecksComeBeforeEffects :
    hostCmd (.identify 63) = some (1, 63) ∧
    (let s := cmd 2 []
     (s.mbx.cmds.find 63).any (fun c => c.opc ≠ 1) = true) ∧
    (let s := { cmd 1 [] 0 id (fun c => { c with timeout := 1 }) with gt := 500001 }
     s.inv = true ∧ KMap.wf s.mbx.cmds = true ∧ (theCmd s).opc = 1 ∧ s.canStart (theCmd s) = true ∧ (theCmd s).dropped = false ∧
       s.mbx.wait.at (theCmd s).q = [] ∧ s.cqFull (theCmd s).q = false ∧ s.startLate (theCmd s) = true) ∧
    (let s := cmd 1 [1]
     waits s = true ∧ (opInfo 1).any (fun f => (theCmd s).err f s.mbx.qspi = some 8) = true) ∧
    (let s := cmd 0x601 [] 96 (fun u => { u with fw := { u.fw with service := true } })
     waits s = true ∧ (opInfo 0x601).any (fun f => (theCmd s).err f s.mbx.qspi = none ∧ s.cmdBusy (theCmd s) f = true) = true) := by decide +kernel

/-! ### Registers, log, power and boot -/

/-- A session with a WRITE grant of every block. -/
def granted : State :=
  sf up [(Reg.MBX_EXPSESS, F.MBX_EXPSESS_OPEN, 1), (Reg.MBX_EXPSESS, F.MBX_EXPSESS_WRITE, 1), (Reg.MBX_EXPSESS, F.MBX_EXPSESS_GRANT, 0xFFFF)]

theorem witness_RegisterWritesAndFrames :
    (up.inv = true ∧ up.hostOn = true ∧ (blockOf (0x4FFFF / 4 * 4)).isSome = true ∧ (∀ b, b < 16 → up.grants b true = false)) ∧
    (granted.inv = true ∧ granted.hostOn = true ∧ granted.powered = true ∧ (∀ b, b < 16 → granted.grants b true = true) ∧ 31 < granted.groups ∧
      blockOf (0x30040 + 0x100 * 31 + 4 * 6) = some 13 ∧ granted.log.queue.length < 56 ∧ Reg.CMP_THR 63 < 1048576 ∧ Reg.PWM_PER 31 < 1048576 ∧
      granted.dev = .standby ∧ run.dev ≠ .standby) ∧
    (let s : State := { up with mbx := { up.mbx with qspi := true } }
     s.inv = true ∧ s.hostOn = true ∧ s.mbx.qspi = true ∧ Store.wf zeroes s.mbx.buf = true ∧ 0x7FFFC % 4 = 0 ∧ 0x7FFFC < 0x80000 ∧
       0x7FFFC + 4 * 1 ≤ 0x80000) := by decide +kernel

/-- A record that waits, pinned or not, in MRAM with a full or a free pinned area. -/
def logged (pin : Bool) (f : LogState → LogState := id) : State := { up with log := f { up.log with queue := [{ typ := 1, pin := pin }] } }

theorem witness_ClearsAndLogWrites :
    (up.dev = .standby ∧ run.dev ≠ .standby) ∧
    (up.inv = true ∧ up.powered = true ∧ 0x10010 ≤ Reg.CLK_STK ∧
      (regRow (fileView Reg.CLK_STK)).any (fun r => r.w1c ≠ 0) = true ∧ up.absentReg (fileView Reg.CLK_STK) = false ∧
      ¬ (0x44100 ≤ fileView Reg.CLK_STK ∧ fileView Reg.CLK_STK < 0x50000) ∧ 0x1000C = 0x10000 + 4 * 3 ∧
      (regRow Reg.PAN_LATECNT).any (fun r => r.sat) = true ∧ up.absentReg Reg.PAN_LATECNT = false) ∧
    (let t := (up.stick Stk.GT_HOLDOVER)
     t.fileBit Stk.GT_HOLDOVER.file = true ∧ Stk.GT_HOLDOVER.file ≠ 88 ∧ (t.log.fgt.find Stk.GT_HOLDOVER.file).isSome = true ∧ Store.wf zeroes t.log.fgtHi = true) ∧
    ((logged false).inv = true ∧ (logged false).pwr.keepOff = false ∧ (logged false).log.queue = [{ typ := 1, pin := false }] ∧
      (logged false).admits (logged false).logCost false = true ∧ (logged false).log.nextCirc = 1024 ∧ (logged false).log.dropped = 0 ∧
      (logged false (fun l => { l with nextCirc := 8191 })).log.nextCirc = 8191 ∧ (logged true).log.pinFree 0 = true) ∧
    (let s := sf (logged true) [(Reg.CLK_PWRSTAT, F.CLK_PWRSTAT_MAINOK, 0)]
     s.inv = true ∧ s.admits s.logCost false = false) := by decide +kernel

theorem witness_PinReleaseFreesOldRecords :
    (let s : State := { granted with log := { granted.log with mram := [(1023, { seq := 4294967295, typ := 1, pin := true }), (1024, { seq := 5, typ := 1 })] } }
     s.inv = true ∧ s.hostOn = true ∧ s.grants 0 true = true ∧ seqLater 4 4294967295 = false ∧ seqLater 4 5 = true ∧ s.log.queue.length < 56) ∧
    up.grants 0 true = false := by decide +kernel

/-- HSTORE full, on the main supply. -/
def stored : State := sf up [(Reg.CLK_HRVMON0, F.CLK_HRVMON0_HSTORE, 500), (Reg.CLK_PWRSTAT, F.CLK_PWRSTAT_MAINOK, 1)]

theorem witness_ResetsAndPins :
    (up.inv = true ∧ up.pwr.keepOff = false) ∧
    (stored.inv = true ∧ stored.powered = true ∧ stored.pwr.keepOff = false ∧ 2800 < stored.hstoreMv ∧ (63 : Fin 64).val ≠ 0) ∧
    (let s : State := { up with log := { up.log with mram := [(1024, { seq := 4294967295, typ := 1 })] } }
     s.inv = true ∧ s.log.mram = [(1024, { seq := 4294967295, typ := 1 })] ∧ ({ seq := 4294967295, typ := 1 } : LogRec).ok = true ∧ up.log.mram = []) ∧
    up.hasPin (.gcmd 191) = true := by decide +kernel

/-- A boot in STANDBY with the slots and the commit records given. -/
def booting (slots : Tab FlashSlot) (commits : Tab (Option CommitRec)) : State :=
  { State.reset with fw := { State.reset.fw with slots := slots, commits := commits } }

theorem witness_BootRunsTheCommittedImage :
    (let s := booting [{ valid := true }, { valid := true }] [some {}, none]
     s.inv = true ∧ s.fw.booting = true ∧ s.fw.selected = false ∧ s.dev = .standby ∧ s.pin.testEn = false ∧ s.supFailed = false ∧
       s.fw.copies = [none, none] ∧ s.commitNowRec = some {} ∧ s.slotValid 0 = true ∧ (s.fw.slots.at 0).hash = 0#384) ∧
    (let s := booting [{}, { valid := true }] [some {}, none]
     s.inv = true ∧ s.commitNowRec = some {} ∧ s.slotValid 0 = false ∧ s.slotValid (1 - 0) = true) ∧
    (let s := booting [{}, {}] [none, none]
     s.inv = true ∧ s.slotValid 0 = false ∧ s.slotValid 1 = false ∧ s.commitNowRec = none) ∧
    (let s : State := { State.reset with fw := { State.reset.fw with selected := true } }
     s.inv = true ∧ s.fw.booting = true ∧ s.fw.selected = true ∧ s.gl.prbRun = false ∧ s.dev = .standby ∧ s.supFailed = false) ∧
    (let s : State := { up with fw := { up.fw with rewrite := true } }
     s.inv = true ∧ s.fw.rewrite = true ∧ s.powered = true ∧ s.stewardOn = true) := by decide +kernel

/-- Without the main supply, in the device state given, HSTORE at `mv` in units of 8 mV. -/
def weak (d : DevState) (mv : Nat) (f : PowerState → PowerState := id) (l : List (Nat × Fld × Nat) := []) : State :=
  let s := sf up ([(Reg.CLK_HRVMON0, F.CLK_HRVMON0_HSTORE, mv), (Reg.CLK_PWRSTAT, F.CLK_PWRSTAT_MAINOK, 0)] ++ l)
  { s with dev := d, pwr := f s.pwr }

theorem witness_SuppliesMoveTheDeviceState :
    (stored.inv = true ∧ stored.powered = true ∧ stored.pwr.keepOff = false ∧ 2800 < stored.hstoreMv ∧ stored.mainOk = true) ∧
    ((weak .dormant 500).inv = true ∧ (weak .dormant 500).mainOk = false ∧ (weak .dormant 500).pwr.keepOff = false ∧ (weak .dormant 500).dev = .dormant ∧
      (weak .dormant 500).pwr.held = none) ∧
    (weak .watch 500 (fun p => { p with held := some 7 })).pwr.held = some 7 ∧
    (let s := weak .dormant 500 (fun p => { p with wakes := [4, 0] })
     s.inv = true ∧ s.dev = .dormant ∧ s.pwr.keepOff = false ∧ s.pwr.wakes ≠ [] ∧ s.wakeMv ≤ s.hstoreMv ∧ (∀ n, n ∈ s.pwr.wakes → n ≤ 4)) ∧
    (let s := weak .dormant 500 id [(Reg.CLK_WAKEEN, F.CLK_WAKEEN_LIGHT, 1), (Reg.CLK_PWRSTAT, F.CLK_PWRSTAT_LIGHT, 1)]
     s.dev = .dormant ∧ s.pwr.keepOff = false ∧ s.flag Reg.CLK_WAKEEN F.CLK_WAKEEN_LIGHT = true ∧ s.flag Reg.CLK_PWRSTAT F.CLK_PWRSTAT_LIGHT = true ∧
       s.lwakeMv ≤ s.hstoreMv) ∧
    (let s := weak .watch 0 (fun p => { p with below := some 99999 })
     s.inv = true ∧ s.dev = .watch ∧ s.mainOk = false ∧ s.pwr.below = some 99999) ∧
    (up.inv = true ∧ up.pwr.keepOff = false ∧ up.mainOk = true) ∧
    (8 * (237 : Fin 1024).val < 1900 ∧ 8 * (337 : Fin 1024).val < 2700 ∧ 500 ≤ 8 * (63 : Fin 1024).val) ∧
    (up.flag Reg.CLK_PWRSTAT F.CLK_PWRSTAT_LIGHT = false ∧ up.pwr.hsetFallback = false ∧
      ({ up with pwr := { up.pwr with shortSince := some 99999 } } : State).pwr.shortSince = some 99999) := by decide +kernel

/-! ### Commands of the host -/

/-- A command whose data block lies in the host's memory. -/
def cmdH (opc : Nat) (p : List Nat) (len : Nat) (f : State → State := id) : State := cmd opc p len f (fun c => { c with addr := 0x1000#64 })

theorem witness_HostReadsReturnTheirBlocks :
    (starts (cmd 0x01 [] 64) 0x01 = true ∧ (theCmd (cmd 0x01 [] 64)).len = 64 ∧ starts (cmd 0x01 [] 63) 0x01 = true ∧ (theCmd (cmd 0x01 [] 63)).len = 63) ∧
    starts (cmd 0x02 []) 0x02 = true ∧
    (let s := cmd 0x06 [1] 4096 (fun u => u.stick Stk.GT_HOLDOVER);
     starts s 0x06 = true ∧ (theCmd s).len ≠ 0) ∧
    (let old : LogRec := { seq := 4294967295, typ := 1 };
     let s := cmd 0x07 [0xFFFFFFF0, 256] 32 (fun u => { u with log := { u.log with mram := [(1024, old)] } });
     starts s 0x07 = true ∧ (theCmd s).pw 1 = 256 ∧ (s.logRead ((theCmd s).pw 0) (min ((theCmd s).pw 1) ((theCmd s).len / 32))).2 ≠ []) ∧
    (starts (cmd 0x07 [0, 0]) 0x07 = true ∧ (theCmd (cmd 0x07 [0, 0])).pw 1 = 0 ∧ starts (cmd 0x07 [0, 257]) 0x07 = true) ∧
    (let s := cmd 0x105 [11, 16383, 1] 4;
     starts s 0x105 = true ∧ (theCmd s).pw 0 < s.engines ∧ (theCmd s).pw 1 + (theCmd s).pw 2 ≤ 16384 ∧ 4 * (theCmd s).pw 2 ≤ (theCmd s).len) ∧
    (let s := cmd 0x601 [3] 96;
     starts s 0x601 = true ∧ (theCmd s).pw 0 < 4 ∧ 96 ≤ (theCmd s).len) ∧
    (let s := cmd 0x704 [15, 0x1FFFF, 1] 8;
     starts s 0x704 = true ∧ (theCmd s).pw 0 < 16 ∧ (theCmd s).pw 1 + (theCmd s).pw 2 ≤ 0x20000 ∧ 8 * (theCmd s).pw 2 ≤ (theCmd s).len ∧
       s.recState ≠ 2 ∧ s.recState ≠ 3) ∧
    (let s := cmd 0x704 [15, 0x1FFFF, 1] 8 (fun u => sf u [(Reg.REC_STAT, F.REC_STAT_STATE, 2)]);
     starts s 0x704 = true ∧ s.recState = 2) := by decide +kernel

def inRun (f : State → State := id) : State → State := fun u => { f u with dev := .run }

theorem witness_StateAndTimeCommands :
    (let s := cmd 0x03 [0] 0 (fun u => { u.setRegN Reg.SAFE_SPOLAT 0 with safe := { u.safe with inForce := true } });
     starts s 0x03 = true ∧ s.pwr.leaving = none ∧ (theCmd s).pw 0 = 0 ∧ s.dev = .standby ∧ s.runBars.all (fun e => e.2 == 0) = true) ∧
    (let s := cmd 0x03 [0] 0 (fun u => { u.setRegN Reg.SAFE_SPOLAT 0x800 with tim := { u.tim with epLenPend := some 4000 } });
     starts s 0x03 = true ∧ s.pwr.leaving = none ∧ s.runBars.find? (fun e => e.2 ≠ 0) = some (stSafety, 1) ∧ s.regN Reg.SAFE_SPOLAT ≠ 0) ∧
    (let s := cmd 0x03 [0] 0 inRun;
     starts s 0x03 = true ∧ s.pwr.leaving = none ∧ (theCmd s).pw 0 = 0 ∧ s.dev = .run) ∧
    (let s := cmd 0x03 [1] 0 inRun;
     starts s 0x03 = true ∧ s.pwr.leaving = none ∧ (theCmd s).pw 0 = 1) ∧
    (let s := cmd 0x03 [2] 0 inRun;
     starts s 0x03 = true ∧ s.pwr.leaving = none ∧ (theCmd s).pw 0 = 2) ∧
    (let s := cmd 0x03 [2];
     starts s 0x03 = true ∧ s.pwr.leaving = none ∧ (theCmd s).pw 0 = 2 ∧ s.dev = .standby) ∧
    (let s := cmd 0x03 [3];
     starts s 0x03 = true ∧ s.pwr.leaving = none ∧ (theCmd s).pw 0 = 3) ∧
    (let s := cmd 0x03 [2] 0 (fun u => { u with pwr := { u.pwr with leaving := some (false, 9) } });
     starts s 0x03 = true ∧ s.pwr.leaving ≠ none) ∧
    (let s := cmd 0x04 [2533749779, 8] 0 (fun u => sf u [(Reg.GT_CTRL, F.GT_CTRL_STEP_EN, 1)]);
     starts s 0x04 = true ∧ s.flag Reg.GT_CTRL F.GT_CTRL_STEP_EN = true ∧ (2533749779 + 2 ^ 32 * 8) * 500000000 < 2 ^ 64 ∧ s.commitsOn = true) ∧
    (let s := cmd 0x04 [2533749780, 8] 0 (fun u => sf u [(Reg.GT_CTRL, F.GT_CTRL_STEP_EN, 1)]);
     starts s 0x04 = true ∧ 2 ^ 64 ≤ (2533749780 + 2 ^ 32 * 8) * 500000000) ∧
    (let s := cmd 0x04 [1, 0] 0 (fun u => sf u [(Reg.GT_CTRL, F.GT_CTRL_STEP_EN, 0)]);
     starts s 0x04 = true ∧ s.flag Reg.GT_CTRL F.GT_CTRL_STEP_EN = false) := by decide +kernel

/-- Below 2^32 a mask names numbers below 32. -/
theorem mask_lt {n g : Nat} (hn : n < 2 ^ 32) (h : n.testBit g = true) : g < 32 := by
  apply Nat.lt_of_not_le
  intro hg
  simp [Nat.testBit_lt_two_pow (Nat.lt_of_lt_of_le hn (Nat.pow_le_pow_right (by decide) hg))] at h

theorem witness_CalibrationAndLegGroupCommands :
    ((starts (cmd 0x08 [0]) 0x08 = true) ∧
     (let s := cmd 0x08 [0x81];
      starts s 0x08 = true ∧ (theCmd s).pw 0 ≠ 0 ∧ ∀ k, k < 8 → ((theCmd s).pw 0).testBit k = true → s.coreBusy k = false) ∧
     (let s := cmd 0x08 [0x80] 0 (fun u => { u with ana := { u.ana with cores := u.ana.cores.mod 7 (fun k => { k with calPending := true }) } });
      starts s 0x08 = true ∧ ((theCmd s).pw 0).testBit 7 = true ∧ s.coreBusy 7 = true) ∧
     starts (cmd 0x09 [0xFF]) 0x09 = true ∧ starts (cmd 0x0A [1, 0x80000000]) 0x0A = true) := by decide +kernel

theorem witness_LegGroupCommands_sets_trips_delays :
    ((let s := cmdH 0x301 [31] 32 (inRun (fun u => sf u [(Reg.PWM_LGCFG 31, F.PWM_LGCFG_SRC, 1), (Reg.PWM_LGCFG 31, F.PWM_LGCFG_EN, 1)]));
      let ws := fun (dma : List Byte) => (List.range 8).map (fun i => w32 (leAt (s.dataIn (theCmd s) dma) (4 * i) 4));
      starts s 0x301 = true ∧ 31 < s.groups ∧ s.fld (Reg.PWM_LGCFG 31) F.PWM_LGCFG_SRC ≠ 0 ∧ s.flag (Reg.PWM_LGCFG 31) F.PWM_LGCFG_EN = true ∧
        (theCmd s).len = 32 ∧ s.setOk 31 (ws []) = true ∧ s.setOk 31 (ws (List.replicate 32 0xFF#8)) = false) ∧
     (let s := cmd 0x302 [0x80000000] 0 (fun u => { u with pwm := { u.pwm with lgs := u.pwm.lgs.mod 31 (fun l => { l with latched := true }) } });
      starts s 0x302 = true ∧ s.absentGroups ((theCmd s).pw 0) = false ∧ (theCmd s).pw 0 < 2 ^ 32 ∧ (s.pwm.lgs.at 31).latched = true ∧
        ∀ g, g < 32 → ((theCmd s).pw 0).testBit g = true → (s.pwm.lgs.at g).latched = true → s.tripClearable g = true) ∧
     (let s := cmd 0x302 [0x80000000] 0 (fun u => { sf u [(Reg.PWM_TRIP 31, F.PWM_TRIP_LATMASK, 1)] with pwm := { u.pwm with lgs := u.pwm.lgs.mod 31 (fun l => { l with latched := true }) }, cmp := { u.cmp with bus := 1 } });
      starts s 0x302 = true ∧ s.absentGroups ((theCmd s).pw 0) = false ∧ ((theCmd s).pw 0).testBit 31 = true ∧ (s.pwm.lgs.at 31).latched = true ∧
        s.tripClearable 31 = false) ∧
     (let s := cmd 0x303 [0x80000000, 0x8000003F];
      starts s 0x303 = true ∧ s.absentGroups ((theCmd s).pw 0) = false ∧ s.dev = .standby ∧ s.pwr.leaving = none ∧ ((theCmd s).pw 1).testBit 31 = true) ∧
     (starts (cmd 0x303 [1, 0x3F]) 0x303 = true ∧ (0x3F : Nat).testBit 31 = false)) := by decide +kernel

theorem witness_LegGroupCommands_clears_probes :
    ((let s := cmd 0x304 [31, 0x73F] 0 (fun u => { u with gl := { u.gl with chs := u.gl.chs.mod 191 (fun c => { c with latched := true }) } });
      starts s 0x304 = true ∧ (theCmd s).pw 0 < s.groups ∧ (s.gl.chs.at 191).latched = true ∧
        ((∀ k, k < 6 → ((theCmd s).pw 1).testBit k = true → (s.gl.chs.at (6 * 31 + k)).latched = true → s.latchClearable (6 * 31 + k) = true) ∧
          ∀ q, q < 3 → ((theCmd s).pw 1).testBit (8 + q) = true → s.shootHeld 31 q = true → s.bothIdeal 31 q = false)) ∧
     (let s := cmd 0x304 [31, 0x73F] 0 (fun u => { u with gl := { u.gl with chs := u.gl.chs.mod 191 (fun c => { c with latched := true, gfb := true }) } });
      starts s 0x304 = true ∧ (theCmd s).pw 0 < s.groups ∧ ((theCmd s).pw 1).testBit 5 = true ∧ (s.gl.chs.at 191).latched = true ∧ s.latchClearable 191 = false) ∧
     (let s := cmd 0x305 [0x80000001];
      starts s 0x305 = true ∧ s.absentGroups ((theCmd s).pw 0) = false ∧ s.gl.prbRun = false ∧ (theCmd s).pw 0 ≠ 0) ∧
     (starts (cmd 0x305 [0]) 0x305 = true ∧ (cmd 0x305 [0]).absentGroups 0 = false)) := by decide +kernel

/-- Bytes with their CRC-32C behind them. -/
def sealed (bs : List Byte) : List Byte := bs ++ leBytes 4 (crc32c bs).toNat

/-- The smallest recipe image: one section and one fallback section, both of the one NOP in the program (R190 to R192). -/
def smallImage : List Byte :=
  sealed (leBytes 4 0x4C54454B ++ leBytes 2 1 ++ leBytes 2 0x40 ++ leBytes 4 0x5C ++ [0xFF#8, 0#8, 1#8, 1#8] ++ leBytes 2 1 ++ [0#8, 0#8] ++
    leBytes 4 0 ++ leBytes 4 0x40 ++ leBytes 4 0 ++ leBytes 4 0 ++ leBytes 4 0 ++ leBytes 4 0 ++ leBytes 4 0x50 ++ leBytes 4 0 ++
    List.replicate 12 0#8 ++ (leBytes 2 0 ++ leBytes 2 1 ++ [0#8, 0#8, 0#8, 0#8]) ++ (leBytes 2 0 ++ leBytes 2 1 ++ [0#8, 1#8, 0#8, 0#8]) ++
    leBytes 8 0)

theorem witness_EngineCommandsAndHeldWrites :
    ((let s := cmdH 0x101 [2] 92;
      starts s 0x101 = true ∧ (theCmd s).pw 0 < s.engines ∧ s.loadErr 2 (s.dataIn (theCmd s) smallImage) = none ∧ (s.bd 2).act < 2) ∧
     (let s := cmdH 0x101 [2] 92;
      starts s 0x101 = true ∧ s.loadErr 2 (s.dataIn (theCmd s) (smallImage.set 0x30 1#8)) = some 0xFFFFFF02) ∧
     (let s := cmd 0x102 [11, 1, 27, 0];
      starts s 0x102 = true ∧ (theCmd s).pw 0 < s.engines ∧ ((theCmd s).pw 1).testBit 0 = true ∧ s.epochNow + 2 ≤ (theCmd s).epoch ∧ s.swapStatus 11 = stOk) ∧
     (let s := cmd 0x102 [11, 0, 0, 0] 0 (fun u => u.ketMod 11 (fun x => { x with swap := some {} }));
      starts s 0x102 = true ∧ ((theCmd s).pw 1).testBit 0 = false ∧ (theCmd s).pw 2 = 0 ∧ (theCmd s).pw 3 = 0 ∧ s.swapStatus 11 ≠ stOk) ∧
     (let s := cmd 0x104 [11, 0, 27, 0] 0 inRun;
      starts s 0x104 = true ∧ s.epochNow + 2 ≤ (theCmd s).epoch ∧ (s.bd 11).modeCmd = none) ∧
     (let s := cmd 0x103 [0, 0, 0, 0] 0 (fun u => { inRun id u with gt := 10000000000 });
      starts s 0x103 = true ∧ (theCmd s).epoch < s.epochNow + 2) ∧
     (let s := cmd 0x103 [11, 0, 27, 0] 0 (fun u => (inRun id u).ketMod 11 (fun x => { x with modeCmd := some {} }));
      starts s 0x103 = true ∧ s.epochNow + 2 ≤ (theCmd s).epoch ∧ (s.bd 11).modeCmd ≠ none)) ∧
    ((let s := cmd 0x201 [0x100];
      starts s 0x201 = true ∧ s.parErr (theCmd s) = some 8) ∧
     (let s := cmd 0x201 [0x1FF, 0, 0];
      starts s 0x201 = true ∧ s.parErr (theCmd s) = none ∧ ((theCmd s).pairs.find? (s.parUnsafe 0xFF)).isNone = true ∧
        (theCmd s).at_ = false ∧ (theCmd s).pairs.any (s.modeWaits 0xFF) = false) ∧
     (let s := cmd 0x201 [0x1FF, 9, 0x40000002] 0 (fun u => { u with law := { u.law with inst := [{ typ := 0, coord := { mode := 2 } }, { typ := 2, frt := { st := 1 } }] } });
      starts s 0x201 = true ∧ s.parErr (theCmd s) = none ∧ ((theCmd s).pairs.find? (s.parUnsafe 0xFF)).isNone = true ∧
        (theCmd s).at_ = false ∧ (theCmd s).pairs.any (s.modeWaits 0xFF) = true)) := by decide +kernel

theorem witness_HeldWrites_refusals_slots :
    (let s := cmd 0x201 [0x1FF, 0, 0xC0000000] 0 (fun u => { u with safe := { u.safe with inForce := true, cfg := { convs := [{ fns := [{}, {}, {}, { on := true, mode := 1 }] }] } } });
     starts s 0x201 = true ∧ s.parErr (theCmd s) = none ∧ ((theCmd s).pairs.find? (s.parUnsafe 0xFF)).isSome = true) ∧
    (let s := cmd 0x201 [0x1FF, 0, 0] 0 id (fun c => { c with flags := 2, cidx := 1 });
     starts s 0x201 = true ∧ (theCmd s).at_ = true ∧ s.atOk (theCmd s).cidx = false ∧ s.parErr (theCmd s) = none ∧
       ((theCmd s).pairs.find? (s.parUnsafe 0xFF)).isNone = true) ∧
    (let s := cmdH 0x202 [] 16;
     let slot := fun (dma : List Byte) (k : Nat) => leAt (s.dataIn (theCmd s) dma) (8 * k) 2;
     let pad := fun (dma : List Byte) (k : Nat) => leAt (s.dataIn (theCmd s) dma) (8 * k + 2) 2;
     let good : List Byte := [0xFF#8, 0xEF#8, 0#8, 0#8, 1#8, 0#8, 0#8, 0#8, 0x00#8, 0xE0#8, 0#8, 0#8, 0#8, 0#8, 0#8, 0#8];
     let bad : List Byte := [0x00#8, 0xF0#8, 0#8, 0#8];
     starts s 0x202 = true ∧ (theCmd s).len / 8 = 2 ∧ (theCmd s).len % 8 = 0 ∧ (theCmd s).at_ = false ∧
       (∀ k, k < 2 → pad good k = 0 ∧ 0xE000 ≤ slot good k ∧ slot good k < 0xF000 ∧ s.lawSlot (slot good k) = false) ∧ 0xF000 ≤ slot bad 0) := by decide +kernel

/-- A configuration image of some entries (R439). -/
def cfgImage (es : List (Nat × Nat × Nat)) : List Byte :=
  sealed (leBytes 4 0x44474643 ++ leBytes 2 1 ++ [0x10#8, 0#8] ++ leBytes 4 (20 + 8 * es.length) ++ leBytes 4 0 ++
    es.flatMap (fun e => leBytes 1 e.1 ++ [0#8] ++ leBytes 2 e.2.1 ++ leBytes 4 e.2.2))

/-- A table file of a kind with no entries (R358). -/
def tableFile (kind : Nat) : List Byte := sealed (leBytes 4 0x56454953 ++ leBytes 2 1 ++ leBytes 1 kind ++ [0#8] ++ leBytes 4 20 ++ leBytes 4 0)

theorem witness_ConfigurationCommandsActWhole_images :
    (let s := cmdH 0x05 [] 28;
     let u := s.begun 63 (theCmd s);
     let es := fun (dma : List Byte) => cfgEntries (s.dataIn (theCmd s) dma);
     let good := cfgImage [(12, 0, 0)];
     let bad := cfgImage [(0, 0, 0)];
     starts s 0x05 = true ∧ cfgHeadOk (s.dataIn (theCmd s) []) = false ∧ cfgHeadOk (s.dataIn (theCmd s) good) = true ∧
       s.writeOpen (cfgWrites (es good)) = false ∧ u.cfgCheck (es good) = .good ∧ cfgHeadOk (s.dataIn (theCmd s) bad) = true ∧
       s.writeOpen (cfgWrites (es bad)) = false ∧ u.cfgCheck (es bad) = .entry 0 stRange) := by decide +kernel

theorem witness_ConfigurationCommandsActWhole_tables :
    (let s := cmdH 0x501 [] 20;
     let f := s.dataIn (theCmd s) (tableFile 4);
     starts s 0x501 = true ∧ tblError (s.dataIn (theCmd s) []) = some (none, 0) ∧ tblError f = none ∧
       reqsOk ((s.begun 63 (theCmd s)).tblInstall f).deferredAll.latFixed.reqsNeeded = true ∧
       ((s.begun 63 (theCmd s)).tblInstall f).deferredAll.latFixed.reqsNeeded.length ≤ 106) ∧
    (let s := cmdH 0x602 [3, 0x7F] 84;
     let bs := s.dataIn (theCmd s) ((List.range 7).flatMap (fun _ => leBytes 8 (2 ^ 63 - 1) ++ [0xFF#8, 0#8, 0#8, 0#8]));
     starts s 0x602 = true ∧ (theCmd s).pw 0 < 4 ∧ (theCmd s).len = 84 ∧ (∀ r, r < 7 → ((theCmd s).pw 1).testBit r = true → leAt bs (12 * r) 8 < 2 ^ 63 ∧ leAt bs (12 * r + 8) 4 < 256) ∧
       (s.mtrPt 3).e.length = 7 ∧ (s.mtrPt 3).wrap.length = 7) := by decide +kernel

/-- The recorder's clock runs, in a state of the recorder. -/
def recOn (st : Nat) : State → State := fun u => sf u [(Reg.CLK_PDIV_REC, F.CLK_PDIV_REC_ACT, 5), (Reg.REC_STAT, F.REC_STAT_STATE, st)]

theorem witness_ConfigurationCommandsActWhole_recorder :
    (starts (cmd 0x701 [] 0 (recOn 4)) 0x701 = true ∧ (cmd 0x701 [] 0 (recOn 4)).recClocked = true ∧ (cmd 0x701 [] 0 (recOn 4)).recState = 4) ∧
    (starts (cmd 0x701 [] 0 (recOn 2)) 0x701 = true ∧ (cmd 0x701 [] 0 (recOn 2)).recState = 2) ∧
    (starts (cmd 0x702 [] 0 (recOn 2)) 0x702 = true ∧ (cmd 0x702 [] 0 (recOn 2)).recClocked = true) ∧
    (starts (cmd 0x703 [] 0 (recOn 3)) 0x703 = true ∧ (cmd 0x703 [] 0 (recOn 3)).recState = 3) := by decide +kernel

/-- A safety configuration with one converter of the last leg group. -/
def oneConv : SafeConfig := { convs := [{ lgs := 0x80000000, staleN := 1 }] }

/-- Converters latched. -/
def latched (m : Nat) (f : SafeState → SafeState := id) : State → State := fun u => { u.setRegN Reg.SAFE_SPOLAT m with safe := f { u.safe with inForce := true } }

theorem witness_SafetyCommands :
    (let s := cmdH 0x401 [] 4;
     starts s 0x401 = true ∧ (theCmd s).len ≠ 0 ∧ s.safeRanges oneConv = true ∧ s.safeAllowed oneConv = true ∧
       s.safeRanges { convs := [{ lgs := 1, staleN := 17 }] } = false ∧
       s.safeRanges { cmps := [(63, 0x800)] } = true ∧ s.safeAllowed { cmps := [(63, 0x800)] } = false) ∧
    (let s := cmd 0x402 [7] 0 (fun u => { u with safe := { u.safe with pending := true, pendCrc := 7#32, pendCfg := oneConv } });
     starts s 0x402 = true ∧ s.safe.pending = true ∧ s.safe.pendCrc = (theCmd s).p.getD 0 0#32 ∧ s.writeOpen (cfgAssigns s.safe.pendCfg) = false ∧
       s.safeAllowed s.safe.pendCfg = true) ∧
    (let s := cmd 0x402 [8] 0 (fun u => { u with safe := { u.safe with pending := true, pendCrc := 7#32, pendCfg := oneConv } });
     starts s 0x402 = true ∧ s.safe.pendCrc ≠ (theCmd s).p.getD 0 0#32) ∧
    (starts (cmd 0x403 [0xFFF] 0 (latched 0)) 0x403 = true ∧ (theCmd (cmd 0x403 [0xFFF])).pw 0 < 4096 ∧ (cmd 0x403 [0xFFF] 0 (latched 0)).spoLatched 11 = false ∧
      starts (cmd 0x403 [0x1000]) 0x403 = true) ∧
    (let s := cmd 0x404 [0x800, 8] 0 (latched 0xFFF (fun x => { x with sout := x.sout.mod 3 (fun o => { o with fault := 1, testPassed := true }) }));
     let u := (bitsOf 4 ((theCmd s).pw 1)).foldl (fun (x : State) j => x.soutClear j) s;
     starts s 0x404 = true ∧ (∀ j, j < 4 → ((theCmd s).pw 1).testBit j = true → (s.safe.sout.at j).fault ≠ 0 → s.soutClearable j = true) ∧
       (∀ v, v < 12 → ((theCmd s).pw 0).testBit v = true → u.spoClearable v = true)) ∧
    (let s := cmd 0x404 [0, 8] 0 (latched 0 (fun x => { x with sout := x.sout.mod 3 (fun o => { o with fault := 1 }) }));
     starts s 0x404 = true ∧ ((theCmd s).pw 1).testBit 3 = true ∧ (s.safe.sout.at 3).fault ≠ 0 ∧ s.soutClearable 3 = false) := by decide +kernel

/-- A firmware with two valid slots and a commit record. -/
def slots2 (f : BootState → BootState := id) : State → State := fun u =>
  { u with fw := f { u.fw with slots := [{ valid := true }, { valid := true }], commits := [some {}, none] } }

theorem witness_FirmwareCommands :
    (let s := cmdH 0x801 [0] 262144 (slots2 id);
     starts s 0x801 = true ∧ s.uncommitted = false ∧ s.sup.split.isNone = true ∧ 0 < (theCmd s).len ∧ (theCmd s).len ≤ 262144 ∧ (theCmd s).pw 0 = 0) ∧
    (let s := cmdH 0x801 [8388607] 1 (slots2 (fun x => { x with slots := x.slots.mod 1 (fun _ => { bytes := [] }) }));
     starts s 0x801 = true ∧ s.uncommitted = false ∧ (theCmd s).len = 1) ∧
    (let s := cmdH 0x801 [4] 4 (slots2 (fun x => { x with slots := x.slots.mod 1 (fun _ => { bytes := [1#8, 2#8, 3#8, 4#8] }) }));
     starts s 0x801 = true ∧ s.uncommitted = false ∧ s.sup.split.isNone = true ∧ (theCmd s).pw 0 = (s.fw.slots.at s.staging).bytes.length ∧
       (s.fw.slots.at s.staging).bytes.length + (theCmd s).len ≤ 8388608 ∧ ((s.fw.slots.at s.staging).bytes ++ s.dataIn (theCmd s) []).length < 256) ∧
    (let s := cmdH 0x801 [0] 352 (slots2 id);
     starts s 0x801 = true ∧ (s.dataIn (theCmd s) []).length = 352 ∧ imgLen (s.dataIn (theCmd s) []) = 352) ∧
    (let s := cmd 0x802 [] 0 (slots2 id);
     starts s 0x802 = true ∧ s.slotValid s.staging = true ∧ s.supState = 0 ∧ s.sup.split.isNone = true ∧ s.sup.anyAct = false ∧
       s.flag Reg.MBX_EXPSESS F.MBX_EXPSESS_OPEN = false) ∧
    (starts (cmd 0x802 []) 0x802 = true ∧ (cmd 0x802 []).slotValid (cmd 0x802 []).staging = false) ∧
    (let s := cmd 0x802 [] 0 (fun u => sf (slots2 id u) [(Reg.SUP_STAT, F.SUP_STAT_STATE, 3)]);
     starts s 0x802 = true ∧ s.slotValid s.staging = true ∧ s.supState ≠ 0) ∧
    (let s := cmd 0x803 [0x100] 0 (slots2 id);
     starts s 0x803 = true ∧ s.slotValid 0 = true ∧ s.fw.running = 0 ∧ s.fw.service = false ∧ s.commitNowRec = some {}) ∧
    (let s := cmd 0x803 [1] 0 (slots2 (fun x => { x with service := true }));
     starts s 0x803 = true ∧ s.slotValid 1 = true ∧ ((theCmd s).pw 0).testBit 8 = false ∧ s.fw.service = true) ∧
    (starts (cmd 0x803 [1]) 0x803 = true ∧ (cmd 0x803 [1]).slotValid 1 = false) := by decide +kernel

/-- An open challenge of the parameters of an EXP_AUTH. -/
def chalOf (f : MbxState → MbxState := id) : State → State := fun u =>
  { u with mbx := f { u.mbx with chal := some { at_ := 99999, p0 := 0xFFFF#32, p1 := 0x0E100001#32, p2 := 3#32 }, keys := [[], [], [], [4#8]] } }

/-- The 97 bytes of the generator of P-384. -/
def p384G : List Byte := [4#8] ++ beBytes 48 0xaa87ca22be8b05378eb1c71ef320ad746e1d3b628ba79b9859f741e082542a385502f25dbf55296c3a545e3872760ab7 ++
  beBytes 48 0x3617de4a96262c6f5d9e98bf9292dc29f8f41dbd289a147ce9da3113b5f0b8c00a60b1ce1d7e819d7a431d7c90ea0e5f

theorem witness_ExpertSessions :
    (let s := cmd 0x901 [0xFFFF, 0x0E100001, 3] 32;
     starts s 0x901 = true ∧ (theCmd s).seconds = 3600 ∧ 32 ≤ (theCmd s).len ∧ s.mbx.lockUntil ≤ s.gt ∧
       s.flag Reg.MBX_EXPSESS F.MBX_EXPSESS_OPEN = false ∧ s.grantUnsafe (theCmd s) = false) ∧
    (let s := cmd 0x901 [0xFFFF, 0x00010001, 3] 32 (fun u => { u with mbx := { u.mbx with lockUntil := 100001 } });
     starts s 0x901 = true ∧ (theCmd s).seconds = 1 ∧ s.gt < s.mbx.lockUntil) ∧
    (let s := cmd 0x901 [0, 0x00010000, 0] 32 (fun u => sf u [(Reg.MBX_EXPSESS, F.MBX_EXPSESS_OPEN, 1)]);
     starts s 0x901 = true ∧ s.mbx.lockUntil ≤ s.gt ∧ s.flag Reg.MBX_EXPSESS F.MBX_EXPSESS_OPEN = true) ∧
    (let s := cmd 0x901 [0x80, 0x00010001, 0] 32 (fun u => { u with safe := { u.safe with inForce := true } });
     starts s 0x901 = true ∧ s.mbx.lockUntil ≤ s.gt ∧ s.flag Reg.MBX_EXPSESS F.MBX_EXPSESS_OPEN = false ∧ s.grantUnsafe (theCmd s) = true) ∧
    (let s := cmdH 0x902 [0xFFFF, 0x0E100001, 2] 96 (chalOf id);
     starts s 0x902 = true ∧ (theCmd s).len = 96 ∧ s.authOk (theCmd s) (s.dataIn (theCmd s) []) = false) ∧
    (let s := cmd 0x903 [] 0 (fun u => { sf u [(Reg.MBX_EXPSESS, F.MBX_EXPSESS_OPEN, 1)] with mbx := { u.mbx with sesId := 5#32 } }) (fun c => { c with session := 5#32 });
     starts s 0x903 = true ∧ s.flag Reg.MBX_EXPSESS F.MBX_EXPSESS_OPEN = true ∧ s.mbx.sesId = (theCmd s).session) ∧
    starts (cmd 0x903 []) 0x903 = true ∧
    (let s := cmdH 0x904 [3] 97;
     starts s 0x904 = true ∧ (theCmd s).pw 0 < 4 ∧ s.mbx.keys.at 3 = [] ∧ (theCmd s).len = 97 ∧ keyOk (s.dataIn (theCmd s) p384G) = true ∧
       keyOk (s.dataIn (theCmd s) []) = false) ∧
    (starts (cmdH 0x904 [4] 97) 0x904 = true ∧ starts (cmdH 0x904 [3] 97 (chalOf id)) 0x904 = true ∧ (cmdH 0x904 [3] 97 (chalOf id)).mbx.keys.at 3 ≠ []) := by
  decide +kernel

/-- Where the signature verifies, the authentication passes. -/
theorem witness_ExpertSessions_signed :
    let s := cmdH 0x902 [0xFFFF, 0x0E100001, 3] 96 (chalOf id)
    Config.signed (Config.sha384 ((s.mbx.chal.getD {}).message)) [4#8] (s.dataIn (theCmd s) []) = true →
      starts s 0x902 = true ∧ (theCmd s).len = 96 ∧ s.authOk (theCmd s) (s.dataIn (theCmd s) []) = true ∧ s.grantUnsafe (theCmd s) = false := by
  intro s h
  refine ⟨by decide +kernel, by decide +kernel, ?_, by decide +kernel⟩
  have hk : s.mbx.chal = some { at_ := 99999, p0 := 0xFFFF#32, p1 := 0x0E100001#32, p2 := 3#32 } := by rfl
  have hkey : s.mbx.keys.at ((theCmd s).pw 2 % 4) = [4#8] := by decide +kernel
  have hp : ((theCmd s).p.getD 0 0#32, (theCmd s).p.getD 1 0#32, (theCmd s).p.getD 2 0#32, s.gt) = (0xFFFF#32, 0x0E100001#32, 3#32, 100000) := by decide +kernel
  simp only [Prod.mk.injEq] at hp
  rw [hk] at h
  simp only [State.authOk, hk, hkey, hp]
  simpa [tickSec] using h

/-! ## Operands that cannot reach the block -/

/-- One ill-formed term for each check of `Instr.wf`, and the same term at its bound. -/
theorem test_wf_refuses_wide_operands :
    [Instr.pantryWrite 256 0 0 (.commit 0) 0#32, .pantryWrite 0 65536 0 (.commit 0) 0#32, .pantryWrite 0 0 0 (.commit (2 ^ 64)) 0#32,
     .pantryWrite 0 0 0 (.sampled (2 ^ 64)) 0#32, .pantryRead 65536 0, .pantryRead 0 (2 ^ 64), .keepcalMeasure 0, .keepcalMeasure (2 ^ 32),
     .freqMonitorWindow 0 65536, .dllLock 64 0, .dllLock 0 15260, .dllLock 0 (-15260), .sinc3Output 0 [], .ocFilterOutput 0 [],
     .safetyTelegramRx 0 (List.replicate 1501 0#8), .frameStart false 16385, .lockstepMismatch 0 0 0#32 16385, .scrubSlot .none 0 [0]].all
      (fun i => !i.wf) = true ∧
    [Instr.pantryWrite 255 65535 0 (.commit (2 ^ 64 - 1)) 0#32, .pantryWrite 0 0 0 (.sampled (2 ^ 64 - 1)) 0#32, .pantryRead 65535 (2 ^ 64 - 1),
     .keepcalMeasure 1, .freqMonitorWindow 9 65535, .dllLock 63 15259, .dllLock 63 (-15259), .sinc3Output 47 [true], .ocFilterOutput 47 [false],
     .safetyTelegramRx 7 (List.replicate 1500 0#8), .frameStart true 16384, .lockstepMismatch 15 2 0#32 16384, .scrubSlot .none 3 [], .commit].all
      Instr.wf = true := by decide +kernel

theorem test_wf_refuses_network_operands :
    [Instr.frameRx 0 { len := 65536 }, .frameRx 0 { tags := 256 }, .frameRx 0 { body := .telegram (List.replicate 1501 0#8) },
     .announceRx 0 { domain := 256 }, .announceRx 0 { prio1 := 256 }, .announceRx 0 { cls := 256 }, .announceRx 0 { acc := 256 }, .announceRx 0 { var := 65536 },
     .announceRx 0 { prio2 := 256 }, .announceRx 0 { steps := 65536 }, .announceRx 0 { utcOffset := 32768 }, .announceRx 0 { utcOffset := -32769 },
     .syncRx 0 { domain := 256 }, .syncRx 0 { rxGt := 2 ^ 64 }, .syncRx 0 { origin := 2 ^ 48 * 10 ^ 9 }, .syncRx 0 { corr := 2 ^ 63 }, .syncRx 0 { corr := -(2 ^ 63) - 1 },
     .pdelayReqRx 0 256 0, .pdelayReqRx 0 0 65536, .pdelayRespRx 0 { domain := 256 }, .pdelayRespRx 0 { rxGt := 2 ^ 64 }, .pdelayRespRx 0 { t2 := 2 ^ 48 * 10 ^ 9 },
     .pdelayRespRx 0 { t3 := 2 ^ 48 * 10 ^ 9 }, .pdelayRespRx 0 { corr := 2 ^ 63 }, .pdelayRespRx 0 { corr := -(2 ^ 63) - 1 }].all (fun i => !i.wf) = true ∧
    (let z := List.replicate 64 0#8;
     [Instr.svFrameRx 0 { svid := [] }, .svFrameRx 0 { svid := z, appid := 65536 }, .svFrameRx 0 { svid := z, noAsdu := 256 }, .svFrameRx 0 { svid := z, noAsdu := 0, asdus := [{}] },
      .svFrameRx 0 { svid := z, asdus := [{ smpCnt := 65536 }] }, .svFrameRx 0 { svid := z, asdus := [{ smpSynch := 256 }] }].all (fun i => !i.wf) = true ∧
     (Instr.svFrameRx 1 { svid := z, appid := 65535, asdus := [{ smpCnt := 65535, smpSynch := 255 }] }).wf = true) ∧
    (let z := List.replicate 130 0#8;
     [Instr.gooseRx { gocb := [], datset := z, goid := z }, .gooseRx { gocb := z, datset := [], goid := z }, .gooseRx { gocb := z, datset := z, goid := [] },
      .gooseRx { gocb := z, datset := z, goid := z, appid := 65536 }, .gooseRx { gocb := z, datset := z, goid := z, ttlMs := 2 ^ 32 },
      .gooseRx { gocb := z, datset := z, goid := z, numEntries := 2 ^ 32 }].all (fun i => !i.wf) = true ∧ (Instr.gooseRx { gocb := z, datset := z, goid := z }).wf = true) := by
  decide +kernel

theorem test_wf_refuses_host_operands :
    [Instr.logReq 0 0#32 65536, .qspiFrame (.write 2#32 []), .qspiFrame (.read 1#32 1), .recover 0 (List.replicate 105 {}), .diag 0 (List.replicate 65 (0, 0)),
     .glCal 0 (List.replicate 193 (0, 0)), .safeCfg 0 (some { convs := List.replicate 13 {} }) [], .safeCfg 0 (some { pairs := List.replicate 9 {} }) [],
     .safeCfg 0 (some { outs := List.replicate 5 {} }) [], .safeCfg 0 (some { rx := List.replicate 9 {} }) [], .safeCfg 0 (some { tx := List.replicate 9 {} }) [],
     .safeCfg 0 (some { cmps := [(64, 0)] }) [], .safeCfg 0 (some { convs := [{ fns := List.replicate 5 {} }] }) []].all (fun i => !i.wf) = true ∧
    [Instr.logReq 65535 0#32 65535, .qspiFrame (.write 4#32 []), .qspiFrame (.read 4#32 1), .recover 0 (List.replicate 104 {}), .diag 0 (List.replicate 64 (0, 0)),
     .glCal 0 (List.replicate 192 (0, 0)), .safeCfg 0 none [], .safeCfg 0 (some { convs := List.replicate 12 {} }) [], .cfgLoad 0 []].all Instr.wf = true := by
  decide +kernel

/-! ## Recipe words -/

/-- The words of the worked example of chapter 6, as the spec prints them. -/
theorem test_words_of_the_worked_example :
    decodeKet 0 0x1000000000118000 = some (.ldp 0 {} { sd := 0, e0 := 0, c1 := 0, slot := 0x0023 }) ∧
    decodeKet 0 0x2100102000000000 = some (.vsub 0 {} { sd := 2, sa := 1, sb := 0 }) ∧
    decodeKet 0 0x3000028000000000 = some (.macz 0 {} { an := 0, x := 5 }) ∧
    decodeKet 0 0x3100000100180000 = some (.mac 0 {} { sa := 2, ea := 0, sb := 3, eb := 0, an := 0 }) ∧
    decodeKet 0 0x3100000200280000 = some (.mac 0 {} { sa := 4, ea := 0, sb := 5, eb := 0, an := 0 }) ∧
    decodeKet 0 0x3400300000000000 = some (.macw 0 {} { sd := 6, ed := 0, an := 0 }) ∧
    decodeKet 0 0x1800300010200000 = some (.stp 0 {} { sd := 6, e0 := 0, c1 := 0, slot := 0x2040 }) := by decide +kernel

/-- A word of each other format of R185, its fields written side by side. -/
theorem test_words_of_the_other_formats :
    decodeKet 3 (0x00#8 ++ 1#1 ++ 7#3 ++ 0#1 ++ 0#2 ++ 0#49).toNat = some (.nop 3 { pn := true, qsel := 7 }) ∧
    decodeKet 3 (0x01#8 ++ 0#1 ++ 0#3 ++ 0#1 ++ 0#2 ++ 2#2 ++ 9#12 ++ 2#8 ++ 0#27).toNat = some (.loop 3 { jl := 2, n1 := 9, l1 := 2 }) ∧
    decodeKet 3 (0x11#8 ++ 0#1 ++ 0#3 ++ 1#1 ++ 3#2 ++ 0x2ABC#14 ++ 0#3 ++ 0#16 ++ 0xF123#16).toNat =
      some (.ldr 3 { jen := true, jsel := 3 } { w := 0x2ABC, qd := 0, slot := 0xF123 }) ∧
    decodeKet 3 (0x55#8 ++ 1#1 ++ 2#3 ++ 0#1 ++ 0#2 ++ 1#14 ++ 2#14 ++ 3#14 ++ 2#2 ++ 31#5).toNat =
      some (.ish 3 { pn := true, qsel := 2 } { wd := 1, wa := 2, wb := 3, sht := 2, shn := 31 }) ∧
    decodeKet 3 (0x56#8 ++ 0#1 ++ 0#3 ++ 0#1 ++ 0#2 ++ 5#14 ++ 0#3 ++ 0xDEADBEEF#32).toNat = some (.imov 3 {} { wd := 5, imm := 0xDEADBEEF }) ∧
    decodeKet 3 (0x42#8 ++ 0#1 ++ 0#3 ++ 0#1 ++ 0#2 ++ 1#6 ++ 2#6 ++ 0x3FFF#14 ++ 0#6 ++ 0#6 ++ 0#11).toNat =
      some (.sincos 3 {} { sd := 1, ed := 2, w := 0x3FFF }) ∧
    decodeKet 3 (0x0A#8 ++ 0#1 ++ 0#3 ++ 0#1 ++ 0#2 ++ 4#3 ++ 17#5 ++ 9#14 ++ 0#27).toNat = some (.pbit 3 {} { qd := 4, bit := 17, w := 9 }) ∧
    decodeKet 3 (0x09#8 ++ 0#1 ++ 0#3 ++ 0#1 ++ 0#2 ++ 1#3 ++ 2#3 ++ 3#3 ++ 1#2 ++ 0#38).toNat = some (.plog 3 {} { qd := 1, qa := 2, qb := 3, fn := 1 }) ∧
    decodeKet 3 (0x20#8 ++ 0#1 ++ 0#3 ++ 0#1 ++ 0#2 ++ 1#6 ++ 2#6 ++ 3#6 ++ 1#1 ++ 4#6 ++ 0#16 ++ 0#8).toNat =
      some (.vadd 3 {} { sd := 1, sa := 2, sb := 3, bcb := true, eb := 4 }) ∧
    decodeKet 3 (0x08#8 ++ 0#1 ++ 0#3 ++ 0#1 ++ 0#2 ++ 0#6 ++ 0#6 ++ 1#6 ++ 2#6 ++ 3#6 ++ 4#6 ++ 5#3 ++ 4#3 ++ 0#2 ++ 0#5).toNat =
      some (.cmpp 3 {} { sa := 1, ea := 2, sb := 3, eb := 4, qd := 5, cond := 4 }) := by decide +kernel

/-- R184, R185: an undefined opcode and a bit that a format marks 0 are refused. -/
theorem test_words_refused : decodeKet 0 0x02FFFFFFFFFFFFFF = none ∧ decodeKet 0 0x1000000000118001 = none ∧ decodeKet 0 0x5700000000000000 = none := by decide +kernel

/-- The worked example of R19: 0.75 and -400.0 as Pantry words. -/
theorem test_bf24_worked_example : (ratBF (3 / 4)).w = 0x60000000#32 ∧ (ratBF (-400)).w = 0x9C000009#32 ∧ (bfVal 0x9C000009#32).toRat = -400 := by decide +kernel

/-- The destination of the worked example of R29: a sample at 2,500 with LATWIN 200 in epochs of 5,000 goes to commit 2. -/
theorem test_sampled_destination : up.tim.epLen = 5000 ∧ up.commitFrom (2500 + 200) = 2 := by decide +kernel

/-- R149: the budgets of the worked example, 7,993 and 3,993 cycles at 800 MHz and 1,498 at 150 MHz. -/
theorem test_budgets_worked_example : budget 5000 800 1 = (7993, 3993) ∧ (budget 5000 150 1).1 = 1498 := by decide +kernel

/-- Binding 0 at a word of the worked example of chapter 5: MEAS, REF, ERR, KP, INT, ONE and OUT at words 0 to 6. -/
def currentLoop (w : Nat) (data : List (Nat × Nat)) (acc : KAcc := {}) : State :=
  let st := fun (i : Nat) (e : Int) => ({ base := i, len := 1, decl := e, exp := e } : KStage)
  let bank : KBank := { loaded := true, mark := true, prog := [BitVec.ofNat 64 w], secs := [{ start := 0, count := 1 }],
                        stages := [st 0 9, st 1 9, st 2 9, st 3 (-4), st 4 0, st 5 1, st 6 0] }
  { up with ket := { up.ket with bind := up.ket.bind.mod 0 (fun x =>
      { x with banks := [bank, {}], mode := .main, data := data.map (fun e => (e.1, BitVec.ofNat 32 e.2)),
               run := { x.run with active := true, epoch := 20, due := [0], acc := [acc, {}, {}, {}] } }) } }

/-- What a command leaves, seen through a function. -/
def after (i : Instr) (s : State) (f : State → α) : Option α :=
  match exec i s with
  | .next t => some (f t)
  | _ => none

/-- ERR = REF - MEAS = 14.0 A. -/
theorem test_vsub_worked_example :
    after (.vsub 0 {} { sd := 2, sa := 1, sb := 0 }) (currentLoop 0x2100102000000000 [(0, 0x38800000), (1, 0x3C000000)])
      (fun t => (t.bd 0).mant 2 0) = some 229376 := by decide +kernel

/-- The product p = 1,539,316,187,136 enters the accumulator unshifted, the integrator's 2^43 shifted by 4. -/
theorem test_mac_worked_example :
    after (.mac 0 {} { sa := 2, sb := 3 }) (currentLoop 0x3100000100180000 [(2, 0x03800000), (3, 0x66666600)] { x := 5 })
      (fun t => ((t.bd 0).run.acc.at 0).a) = some 1539316187136 ∧
    after (.mac 0 {} { sa := 4, sb := 5 }) (currentLoop 0x3100000200280000 [(4, 0x20000000), (5, 0x40000000)] { a := 1539316187136, x := 5 })
      (fun t => ((t.bd 0).run.acc.at 0).a) = some 2089072001024 := by decide +kernel

/-- A = 2,089,072,001,024 writes 0x79_9999 to OUT; the sum at 16.0 A saturates it. -/
theorem test_macw_worked_example :
    after (.macw 0 {} { sd := 6 }) (currentLoop 0x3400300000000000 [] { a := 2089072001024, x := 5 }) (fun t => ((t.bd 0).mant 6 0, t.stuck (Stk.KET_SAT 0))) =
      some (0x799999, false) ∧
    after (.macw 0 {} { sd := 6 }) (currentLoop 0x3400300000000000 [] { a := 2309002649600, x := 5 }) (fun t => ((t.bd 0).mant 6 0, t.stuck (Stk.KET_SAT 0))) =
      some (0x7FFFFF, true) := by decide +kernel

/-- The image of the worked example of chapter 6, with the slot of its store. -/
def loopImage (slot : Nat) : List Byte :=
  let sec := fun (start count part : Nat) => leBytes 2 start ++ leBytes 2 count ++ [0#8, BitVec.ofNat 8 part, 0#8, 0#8]
  let stage := fun (i : Nat) (e : Int) => leBytes 2 i ++ [0#8, BitVec.ofInt 8 e]
  let tot := 0x40 + 16 + 32 + 64 + 4
  sealed (leBytes 4 0x4C54454B ++ leBytes 2 1 ++ leBytes 2 0x40 ++ leBytes 4 tot ++ [0#8, 0#8, 1#8, 1#8] ++ leBytes 2 8 ++ [7#8, 0#8] ++ leBytes 4 0 ++
    leBytes 4 0x40 ++ leBytes 4 0x50 ++ leBytes 4 0 ++ leBytes 4 0 ++ leBytes 4 0 ++ leBytes 4 0x70 ++ leBytes 4 0 ++ List.replicate 12 0#8 ++
    sec 0 7 0 ++ sec 7 1 1 ++
    (stage 0 9 ++ stage 1 9 ++ stage 2 9 ++ stage 3 (-4) ++ stage 4 0 ++ stage 5 1 ++ stage 6 0 ++ leBytes 4 0) ++
    ([0x1000000000118000, 0x2100102000000000, 0x3000028000000000, 0x3100000100180000, 0x3100000200280000, 0x3400300000000000,
      0x1800300000000000 + slot * 2 ^ 15, 0x1800300010200000].flatMap (leBytes 8)))

/-- The loader takes the worked example, and stops with 0x0006_000E where word 6 names slot 0x3040. -/
theorem test_loader_worked_example : up.loadErr 0 (loopImage 0x2040) = none ∧ up.loadErr 0 (loopImage 0x3040) = some 0x0006000E := by decide +kernel

/-- The record of the worked example of R493: bytes 0x0C to 0x13 are 00 82 2B 00 07 00 00 00. -/
theorem test_log_record_worked_example :
    ((((({ upQ 2 with gt := 0x300000000 } : State).stick (Stk.PWM_SHORT 7)).log.queue.map LogRec.bytes).getD 0 []).drop 0x0C).take 8 =
      [0x00#8, 0x82#8, 0x2B#8, 0x00#8, 0x07#8, 0x00#8, 0x00#8, 0x00#8] := by decide +kernel

/-- The trim of the worked example of R266 rises by 32/32 tick per update to 138/32. -/
theorem test_trim_worked_example :
    let s := fun (t : Int) => ({ sf run [(Reg.PWM_SYNCCFG, F.PWM_SYNCCFG_ROLE, 2), (Reg.PWM_SYNCWIN, F.PWM_SYNCWIN_TRIMSTEP, 32)] with
                                 pwm := { run.pwm with chain := { err := 138, valid := true, trim := t } } } : State);
    [0, 32, 64, 96, 128, 138].map (fun t => ((s t).trimUpdate 0).pwm.chain.trim) = [32, 64, 96, 128, 138, 138] := by decide +kernel

/-- The descriptor of the worked example of R446's chapter: LAW_PARAM with tag 17, its P0 and its P2. -/
theorem test_descriptor_worked_example :
    let d := (sr up [(sqBase 1 + 64 * 5, 0x00110201), (sqBase 1 + 64 * 5 + 0x20, 0x1FF), (sqBase 1 + 64 * 5 + 0x28, 0x4CCCCD00)]).readDescr 1 5;
    d.1 = 17 ∧ d.2.opc = 0x0201 ∧ d.2.pw 0 = 0x1FF ∧ d.2.p.getD 2 0#32 = 0x4CCCCD00#32 ∧ up.parErr d.2 = none ∧ setSlot (d.2.pw 1) = 0xEF00 ∧
      (ratBF (6 / 10)).w = 0x4CCCCD00#32 := by decide +kernel

/-! ## The whole block -/

theorem witness_EveryStepKeepsTheTables :
    queued.inv = true ∧ (match step queued with | .next _ => true | _ => false) = true := by decide +kernel

/-- STATE enters RUN from here. -/
def toRunState : State := cmd 0x03 [0] 0 (fun u => { u.setRegN Reg.SAFE_SPOLAT 0 with safe := { u.safe with inForce := true } })

theorem witness_OnlyTheirCommandsEnterRunAndSafety :
    (toRunState.dev ≠ .run ∧ after (.state 63) toRunState (fun t => t.dev) = some .run) ∧
    (let s := cmd 0x402 [7] 0 (fun u => { u with safe := { u.safe with pending := true, pendCrc := 7#32, pendCfg := oneConv } });
     s.safe.inForce = false ∧ after (.safeConfirm 63) s (fun t => t.safe.inForce) = some true) ∧
    (let s := cmd 0x402 [7] 0 (fun u => { u with safe := { u.safe with inForce := true, pending := true, pendCrc := 7#32, pendCfg := oneConv } });
     s.safe.inForce = true ∧ after (.safeConfirm 63) s (fun t => (t.safe.inForce, decide (t.safe.cfg ≠ s.safe.cfg))) = some (true, true)) := by decide +kernel

theorem witness_RecipeWordsRoundTrip : encodeKet (.stp 0 {} { sd := 6, slot := 0x2040 }) = some 0x1800300010200000 := by decide +kernel

/-- The queue: a step runs its front command and keeps the rest; on an empty queue the block goes one tick on. -/
theorem test_step_takes_the_front : (match step queued with | .next t => some t.pending | _ => none) = some [.gtSnapRead] := by decide +kernel

/-- No row of the table has bits, so that no word of it is a command. -/
theorem test_no_table_word : decodeTableWord 64 0 = none ∧ decodeTableWord 8 0xFF = none := by decide +kernel

end Sys2Proof.Tests
end

section
/-!
PROOFS. The snapshot of grid time (R50): what a read of GT_SNAP_LO gives, what it writes, and what it leaves alone.
-/
namespace Sys2Proof.Machine

/-! ## Rules for register reads after a write, and for `give` -/

@[simp] theorem State.reg_setRegN {s : State} (a n : Nat) (h : s.regsOk = true) : (s.setRegN a n).reg a = BitVec.ofNat 32 n :=
  State.reg_setReg a _ h

@[simp] theorem State.give_reg (s : State) (v : Word) (a : Nat) : (s.give v).reg a = s.reg a := State.reg_of_regs (State.give_regs s v) a

/-! ## The state after a read of GT_SNAP_LO -/

/-- What a read of GT_SNAP_LO leaves behind: both halves of GT in their registers, and the low one given to the reader (R50). -/
def State.snapRead (s : State) : State :=
  ((s.setRegN Reg.GT_SNAP_LO s.gt).setRegN Reg.GT_SNAP_HI (s.gt / 2 ^ 32)).give (w32 s.gt)

theorem exec_gtSnapRead (s : State) : exec .gtSnapRead s = .next s.snapRead := rfl

theorem State.snapRead_value (s : State) : s.snapRead.out.value = BitVec.ofNat 32 (s.gt % 2 ^ 32) :=
  BitVec.eq_of_toNat_eq (by simp [State.snapRead, w32])

theorem State.snapRead_high {s : State} (h : s.regsOk = true) :
    s.snapRead.reg Reg.GT_SNAP_HI = BitVec.ofNat 32 (s.gt / 2 ^ 32) := by
  simp [State.snapRead, h]

theorem State.snapRead_keeps (s : State) : s.keeps s.snapRead [.regs, .out] := by
  simp [State.keeps, State.snapRead]

theorem State.snapRead_sameRegs {s : State} (h : s.regsOk = true) : s.sameRegs s.snapRead [Reg.GT_SNAP_LO, Reg.GT_SNAP_HI] := by
  intro a ha
  obtain ⟨hlo, hhi⟩ : a ≠ Reg.GT_SNAP_LO ∧ a ≠ Reg.GT_SNAP_HI := by simpa using ha
  calc s.snapRead.reg a
      = ((s.setRegN Reg.GT_SNAP_LO s.gt).setRegN Reg.GT_SNAP_HI (s.gt / 2 ^ 32)).reg a := State.give_reg _ _ a
    _ = (s.setRegN Reg.GT_SNAP_LO s.gt).reg a := State.reg_setRegN_ne _ (State.setRegN_ok _ _ h) hhi
    _ = s.reg a := State.reg_setRegN_ne _ h hlo

/-- As long as the register file stands, the copied high word and the low word given make up the GT of the read: 64 bits lose nothing
when they are cut in two words. -/
theorem State.snapRead_oneInstant {s u : State} (h : s.regsOk = true) (hgt : s.gt < 2 ^ 64) (hu : u.regs = s.snapRead.regs) :
    u.regN Reg.GT_SNAP_HI * 2 ^ 32 + s.snapRead.out.value.toNat = s.gt := by
  have hhigh : u.regN Reg.GT_SNAP_HI = s.gt / 2 ^ 32 := by
    rw [State.regN, State.reg_of_regs hu, State.snapRead_high h, BitVec.toNat_ofNat]
    exact Nat.mod_eq_of_lt (by omega)
  have hlow : s.snapRead.out.value.toNat = s.gt % 2 ^ 32 := by
    rw [State.snapRead_value, BitVec.toNat_ofNat, Nat.mod_mod]
  rw [hhigh, hlow]
  exact Nat.div_add_mod' s.gt (2 ^ 32)

/-- Settles O6: the read leaves `State.snapRead`, whose two words are the halves of one GT value. -/
theorem snapReadCopiesHighWord : Obligations.SnapReadCopiesHighWord := by
  intro s h hgt
  exact ⟨s.snapRead, exec_gtSnapRead s, s.snapRead_value, State.snapRead_high h, fun _ hu => State.snapRead_oneInstant h hgt hu,
    s.snapRead_keeps, State.snapRead_sameRegs h⟩

end Sys2Proof.Machine
end

section
/-!
PROOFS. A read of a live energy register (R392): what a read of MTR_E_LO gives, what it writes, and what it leaves alone.
-/
namespace Sys2Proof.Machine

/-! ## Two words of one number -/

/-- Two words cut out of one number above bit `k` are the 64 bits of it there. -/
theorem two_words_of_one_number (n k : Nat) :
    n / 2 ^ (k + 32) % 2 ^ 32 * 2 ^ 32 + n / 2 ^ k % 2 ^ 32 = n / 2 ^ k % 2 ^ 64 := by
  have hdiv : n / 2 ^ (k + 32) = n / 2 ^ k / 2 ^ 32 := by rw [Nat.pow_add, Nat.div_div_eq_div_mul]
  rw [hdiv]
  omega

@[simp] theorem w32_toNat (n : Nat) : (w32 n).toNat = n % 2 ^ 32 := BitVec.toNat_ofNat n 32

@[simp] theorem State.give_regN (s : State) (v : Word) (a : Nat) : (s.give v).regN a = s.regN a :=
  congrArg BitVec.toNat (State.give_reg s v a)

theorem State.regN_of_regs {s t : State} (h : t.regs = s.regs) (a : Nat) : t.regN a = s.regN a :=
  congrArg BitVec.toNat (State.reg_of_regs h a)

/-! ## The words of the wrap counters -/

theorem wrapWords_low (w : Tab Nat) :
    (wrapWords w).at 0 = w.at 0 + 256 * w.at 1 + 65536 * w.at 2 + 16777216 * w.at 3 := by
  simp [wrapWords, Tab.at, List.range_succ, Nat.mul_comm]

theorem wrapWords_high (w : Tab Nat) : (wrapWords w).at 1 = w.at 4 + 256 * w.at 5 + 65536 * w.at 6 := by
  simp [wrapWords, Tab.at, List.range_succ, Nat.mul_comm]

/-! ## The addresses of the read registers of a point -/

theorem energyHigh_ne_wrap0 (m : Nat) (r : Fin 7) : Reg.MTR_E_HI m r ≠ Reg.MTR_WRAP0 m := by
  unfold Reg.MTR_E_HI Reg.MTR_WRAP0; omega

theorem energyHigh_ne_wrap1 (m : Nat) (r : Fin 7) : Reg.MTR_E_HI m r ≠ Reg.MTR_WRAP1 m := by
  unfold Reg.MTR_E_HI Reg.MTR_WRAP1; omega

theorem wrap0_ne_wrap1 (m : Nat) : Reg.MTR_WRAP0 m ≠ Reg.MTR_WRAP1 m := by
  unfold Reg.MTR_WRAP0 Reg.MTR_WRAP1; omega

/-! ## The state after a read of MTR_E_LO -/

/-- The read registers as a read of register `r` of point `m` leaves them: the high word and the wrap counters of that instant (R392). -/
def State.energyCopy (s : State) (m : Fin 4) (r : Fin 7) : State :=
  ((s.setRegN (Reg.MTR_E_HI m r) ((s.mtrPt m).e.at r / 2 ^ 64)).setRegN (Reg.MTR_WRAP0 m) ((wrapWords (s.mtrPt m).wrap).at 0)).setRegN
    (Reg.MTR_WRAP1 m) ((wrapWords (s.mtrPt m).wrap).at 1)

/-- What a read of MTR_E_LO leaves behind: the copies, and the low word of the same instant given to the reader (R392). -/
def State.energyRead (s : State) (m : Fin 4) (r : Fin 7) : State := (s.energyCopy m r).give (w32 ((s.mtrPt m).e.at r / 2 ^ 32))

theorem exec_mtrERead (s : State) (m : Fin 4) (r : Fin 7) : exec (.mtrERead m r) s = .next (s.energyRead m r) := rfl

theorem State.energyRead_value (s : State) (m : Fin 4) (r : Fin 7) :
    (s.energyRead m r).out.value = w32 ((s.mtrPt m).e.at r / 2 ^ 32) := State.give_value _ _

theorem State.energyRead_keeps (s : State) (m : Fin 4) (r : Fin 7) : s.keeps (s.energyRead m r) [.regs, .out] := by
  simp [State.keeps, State.energyRead, State.energyCopy]

section
variable {s : State} (h : s.regsOk = true) (m : Fin 4) (r : Fin 7)
include h

theorem State.energyRead_high : (s.energyRead m r).regN (Reg.MTR_E_HI m r) = (s.mtrPt m).e.at r / 2 ^ 64 % 2 ^ 32 := by
  rw [State.energyRead, State.give_regN, State.energyCopy,
    State.regN_setRegN_ne _ (State.setRegN_ok _ _ (State.setRegN_ok _ _ h)) (energyHigh_ne_wrap1 m r),
    State.regN_setRegN_ne _ (State.setRegN_ok _ _ h) (energyHigh_ne_wrap0 m r), State.regN_setRegN _ _ h]

theorem State.energyRead_wrap0 : (s.energyRead m r).regN (Reg.MTR_WRAP0 m) = (wrapWords (s.mtrPt m).wrap).at 0 % 2 ^ 32 := by
  rw [State.energyRead, State.give_regN, State.energyCopy,
    State.regN_setRegN_ne _ (State.setRegN_ok _ _ (State.setRegN_ok _ _ h)) (wrap0_ne_wrap1 m),
    State.regN_setRegN _ _ (State.setRegN_ok _ _ h)]

theorem State.energyRead_wrap1 : (s.energyRead m r).regN (Reg.MTR_WRAP1 m) = (wrapWords (s.mtrPt m).wrap).at 1 % 2 ^ 32 := by
  rw [State.energyRead, State.give_regN, State.energyCopy, State.regN_setRegN _ _ (State.setRegN_ok _ _ (State.setRegN_ok _ _ h))]

theorem State.energyRead_sameRegs : s.sameRegs (s.energyRead m r) [Reg.MTR_E_HI m r, Reg.MTR_WRAP0 m, Reg.MTR_WRAP1 m] := by
  intro a ha
  obtain ⟨hhigh, hwrap0, hwrap1⟩ : a ≠ Reg.MTR_E_HI m r ∧ a ≠ Reg.MTR_WRAP0 m ∧ a ≠ Reg.MTR_WRAP1 m := by simpa using ha
  rw [State.energyRead, State.give_reg, State.energyCopy, State.reg_setRegN_ne _ (State.setRegN_ok _ _ (State.setRegN_ok _ _ h)) hwrap1,
    State.reg_setRegN_ne _ (State.setRegN_ok _ _ h) hwrap0, State.reg_setRegN_ne _ h hhigh]

/-- As long as the register file stands, the copied high word and the low word given are the 64 bits of the register that the read found. -/
theorem State.energyRead_oneInstant {u : State} (hu : u.regs = (s.energyRead m r).regs) :
    u.regN (Reg.MTR_E_HI m r) * 2 ^ 32 + (s.energyRead m r).out.value.toNat = (s.mtrPt m).e.at r / 2 ^ 32 % 2 ^ 64 := by
  rw [State.regN_of_regs hu, State.energyRead_high h, State.energyRead_value, w32_toNat]
  exact two_words_of_one_number _ 32

end

/-- Settles O40: the read leaves `State.energyRead`, whose words are all of the point as the read found it. -/
theorem energyReadBelongsToOneInstant : Obligations.EnergyReadBelongsToOneInstant := by
  intro s m r hinv
  obtain ⟨h, -⟩ : s.regsOk = true ∧ s.sized = true := by simpa [State.inv] using hinv
  refine ⟨s.energyRead m r, exec_mtrERead s m r, s.energyRead_keeps m r, State.energyRead_sameRegs h m r, s.energyRead_value m r,
    State.energyRead_high h m r, ?_, ?_, fun _ hu => State.energyRead_oneInstant h m r hu⟩
  · rw [State.energyRead_wrap0 h, wrapWords_low]
  · rw [State.energyRead_wrap1 h, wrapWords_high]

end Sys2Proof.Machine
end

section
/-!
PROOFS. Recipe words (R184, R185): the fields that were packed into a word are the ones that are read from it.
-/
namespace Sys2Proof.Machine

/-! ## Packing and unpacking -/

theorem foldr_width (l : List (Nat × Nat)) : l.foldr (fun f n => f.1 + n) 0 = (l.map Prod.fst).sum := by
  simp [List.sum, List.foldr_map]

theorem pack_cons (w v : Nat) (r : List (Nat × Nat)) : pack ((w, v) :: r) = v % 2 ^ w * 2 ^ (r.map Prod.fst).sum + pack r := by
  rw [pack, foldr_width]

theorem unpack_cons (w : Nat) (ws : List Nat) (n : Nat) : unpack (w :: ws) n = n / 2 ^ ws.sum % 2 ^ w :: unpack ws n := rfl

theorem pack_lt_width (l : List (Nat × Nat)) : pack l < 2 ^ (l.map Prod.fst).sum := foldr_width l ▸ pack_lt l

/-- What lies above its fields does not reach a word's reading. -/
theorem unpack_mul_add (ws : List Nat) (a n : Nat) : unpack ws (a * 2 ^ ws.sum + n) = unpack ws n := by
  induction ws generalizing a with
  | nil => rfl
  | cons w ws ih =>
    have hsplit : a * 2 ^ (w :: ws).sum + n = a * 2 ^ w * 2 ^ ws.sum + n := by rw [List.sum_cons, pow_add]; ring
    rw [unpack_cons, unpack_cons, hsplit, ih, Nat.add_comm, Nat.add_mul_div_right _ _ (by positivity), Nat.add_mul_mod_self_right]

/-- Unpacking gives every field back, cut to its width. -/
theorem unpack_pack (l : List (Nat × Nat)) : unpack (l.map Prod.fst) (pack l) = l.map (fun e => e.2 % 2 ^ e.1) := by
  induction l with
  | nil => rfl
  | cons e r ih =>
    obtain ⟨w, v⟩ := e
    have htop : pack ((w, v) :: r) / 2 ^ (r.map Prod.fst).sum % 2 ^ w = v % 2 ^ w := by
      rw [pack_cons, Nat.add_comm, Nat.add_mul_div_right _ _ (by positivity), Nat.div_eq_of_lt (pack_lt_width r), Nat.zero_add, Nat.mod_mod]
    rw [List.map_cons, List.map_cons, unpack_cons, htop, pack_cons, unpack_mul_add, ih]

theorem pack_lt_word {l : List (Nat × Nat)} (hw : (l.map Prod.fst).sum = 64) : pack l < 2 ^ 64 := hw ▸ pack_lt_width l

theorem pack_append (a b : List (Nat × Nat)) : pack (a ++ b) = pack a * 2 ^ (b.map Prod.fst).sum + pack b := by
  induction a with
  | nil => simp [pack]
  | cons e r ih =>
    obtain ⟨w, v⟩ := e
    rw [List.cons_append, pack_cons, ih, pack_cons, List.map_append, List.sum_append, pow_add]
    ring

/-! ## The common fields and the fields of a format -/

/-- What a word of opcode `op` and format `m` reads as, its format's fields as they were given. -/
def insOf (op : Nat) (h : KHead) (m : KFmt) (fs : List Nat) : KIns :=
  { op := op, pn := kbit h.pn, qsel := h.qsel.val, jen := kbit h.jen, jsel := h.jsel.val, fmt := m, f := fs }

/-- Every value fits in its field. -/
def fieldsFit (body : List (Nat × Nat)) : Prop := ∀ e ∈ body, e.2 < 2 ^ e.1

theorem kbit_mod (b : Bool) : kbit b % 2 = kbit b := by cases b <;> rfl

theorem headOf_pack (op : Nat) (h : KHead) (body : List (Nat × Nat)) (hop : op < 256) (hw : (body.map Prod.fst).sum = 49) :
    headOf (pack (headFields op h ++ body)) = [op, kbit h.pn, h.qsel.val, kbit h.jen, h.jsel.val, pack body] := by
  have hbody : pack body % 2 ^ 49 = pack body := Nat.mod_eq_of_lt (hw ▸ pack_lt_width body)
  have hone : pack (headFields op h ++ body) = pack (headFields op h ++ [(49, pack body)]) := by
    rw [pack_append, pack_append, hw, pack_cons, hbody]
    simp [pack]
  have hq : h.qsel.val % 8 = h.qsel.val := Nat.mod_eq_of_lt h.qsel.isLt
  have hj : h.jsel.val % 4 = h.jsel.val := Nat.mod_eq_of_lt h.jsel.isLt
  rw [hone]
  refine (unpack_pack (headFields op h ++ [(49, pack body)])).trans ?_
  simpa [headFields, Nat.mod_eq_of_lt hop, hq, hj, kbit_mod] using hbody

theorem body_of_word (op : Nat) (h : KHead) (body : List (Nat × Nat)) (hw : (body.map Prod.fst).sum = 49) :
    pack (headFields op h ++ body) % 2 ^ 49 = pack body := by
  rw [pack_append, hw, Nat.mul_add_mod_self_right, Nat.mod_eq_of_lt (hw ▸ pack_lt_width body)]

/-- A packed word reads as the fields that it was packed from. -/
theorem readWord_pack {op : Nat} {h : KHead} {m : KFmt} {body : List (Nat × Nat)} (hop : op < 256) (hm : fmtOf op = some m)
    (hws : body.map Prod.fst = fmtWidths m) (hfit : fieldsFit body) :
    readWord (pack (headFields op h ++ body)) = some (insOf op h m (body.map Prod.snd)) := by
  have hw : (body.map Prod.fst).sum = 49 := by rw [hws]; cases m <;> rfl
  have hread : unpack (fmtWidths m) (pack (headFields op h ++ body) % 2 ^ 49) = body.map Prod.snd := by
    rw [body_of_word op h body hw, ← hws, unpack_pack]
    exact List.map_congr_left fun e he => Nat.mod_eq_of_lt (hfit e he)
  simp only [readWord, headOf_pack op h body hop hw, hread, List.getD_cons_zero, List.getD_cons_succ, hm, insOf]

/-! ## Reading each format back -/

@[simp] theorem fin_val {n : Nat} (v : Fin (n + 1)) : fin n v.val = v := Fin.ofNat_val_eq_self v

@[simp] theorem kbit_beq_one (b : Bool) : (kbit b == 1) = b := by cases b <;> rfl

@[simp] theorem kbit_le (b : Bool) : kbit b ≤ 1 := by cases b <;> decide

@[simp] theorem headOfIns_insOf (op : Nat) (h : KHead) (m : KFmt) (fs : List Nat) : headOfIns (insOf op h m fs) = h := by
  simp [headOfIns, insOf]

@[simp] theorem insOf_op (op : Nat) (h : KHead) (m : KFmt) (fs : List Nat) : (insOf op h m fs).op = op := rfl

@[simp] theorem insOf_fld (op : Nat) (h : KHead) (m : KFmt) (fs : List Nat) (i : Nat) : (insOf op h m fs).fld i = fs.getD i 0 := rfl

@[simp] theorem zerosOk_insOf (op : Nat) (h : KHead) (m : KFmt) (fs : List Nat) :
    zerosOk (insOf op h m fs) = (match fmtZero m with | some i => fs.getD i 0 == 0 | none => true) := by
  cases m <;> rfl

section
variable {op : Nat} (h : KHead)

theorem encN_lt : encN op h < 2 ^ 64 := pack_lt_word rfl

@[simp] theorem readWord_encN (hop : op < 256) (hm : fmtOf op = some .n) :
    readWord (encN op h) = some (insOf op h .n [0]) :=
  readWord_pack hop hm rfl (by simp [fieldsFit])

theorem encS_lt (f : KS) : encS op h f < 2 ^ 64 := pack_lt_word rfl

@[simp] theorem readWord_encS (f : KS) (hop : op < 256) (hm : fmtOf op = some .s) :
    readWord (encS op h f) = some (insOf op h .s [f.sd.val, f.sa.val, f.sb.val, kbit f.bcb, f.eb.val, 0, f.imm.val]) :=
  readWord_pack hop hm rfl (by simp [fieldsFit])

@[simp] theorem readS_insOf (f : KS) : readS (insOf op h .s [f.sd.val, f.sa.val, f.sb.val, kbit f.bcb, f.eb.val, 0, f.imm.val]) = f := by
  simp [readS]

theorem encE_lt (f : KE) : encE op h f < 2 ^ 64 := pack_lt_word rfl

@[simp] theorem readWord_encE (f : KE) (hop : op < 256) (hm : fmtOf op = some .e) :
    readWord (encE op h f) = some (insOf op h .e [f.sd.val, f.ed.val, f.sa.val, f.ea.val, f.sb.val, f.eb.val, f.qd.val, f.cond.val, f.an.val, 0]) :=
  readWord_pack hop hm rfl (by simp [fieldsFit])

@[simp] theorem readE_insOf (f : KE) : readE (insOf op h .e [f.sd.val, f.ed.val, f.sa.val, f.ea.val, f.sb.val, f.eb.val, f.qd.val, f.cond.val, f.an.val, 0]) = f := by
  simp [readE]

theorem encA_lt (f : KA) : encA op h f < 2 ^ 64 := pack_lt_word rfl

@[simp] theorem readWord_encA (f : KA) (hop : op < 256) (hm : fmtOf op = some .a) :
    readWord (encA op h f) = some (insOf op h .a [f.an.val, f.x.val, 0]) :=
  readWord_pack hop hm rfl (by simp [fieldsFit])

@[simp] theorem readA_insOf (f : KA) : readA (insOf op h .a [f.an.val, f.x.val, 0]) = f := by
  simp [readA]

theorem encP_lt (f : KP) : encP op h f < 2 ^ 64 := pack_lt_word rfl

@[simp] theorem readWord_encP (f : KP) (hop : op < 256) (hm : fmtOf op = some .p) :
    readWord (encP op h f) = some (insOf op h .p [f.sd.val, f.e0.val, f.c1.val, f.slot.val, 0]) :=
  readWord_pack hop hm rfl (by simp [fieldsFit])

@[simp] theorem readP_insOf (f : KP) : readP (insOf op h .p [f.sd.val, f.e0.val, f.c1.val, f.slot.val, 0]) = f := by
  simp [readP]

theorem encT_lt (f : KT) : encT op h f < 2 ^ 64 := pack_lt_word rfl

@[simp] theorem readWord_encT (f : KT) (hop : op < 256) (hm : fmtOf op = some .t) :
    readWord (encT op h f) = some (insOf op h .t [f.w.val, f.qd.val, 0, f.slot.val]) :=
  readWord_pack hop hm rfl (by simp [fieldsFit])

@[simp] theorem readT_insOf (f : KT) : readT (insOf op h .t [f.w.val, f.qd.val, 0, f.slot.val]) = f := by
  simp [readT]

theorem encW_lt (f : KW) : encW op h f < 2 ^ 64 := pack_lt_word rfl

@[simp] theorem readWord_encW (f : KW) (hop : op < 256) (hm : fmtOf op = some .w) :
    readWord (encW op h f) = some (insOf op h .w [f.wd.val, f.wa.val, f.wb.val, f.sht.val, f.shn.val]) :=
  readWord_pack hop hm rfl (by simp [fieldsFit])

@[simp] theorem readW_insOf (f : KW) : readW (insOf op h .w [f.wd.val, f.wa.val, f.wb.val, f.sht.val, f.shn.val]) = f := by
  simp [readW]

theorem encI_lt (f : KI) : encI op h f < 2 ^ 64 := pack_lt_word rfl

@[simp] theorem readWord_encI (f : KI) (hop : op < 256) (hm : fmtOf op = some .i) :
    readWord (encI op h f) = some (insOf op h .i [f.wd.val, 0, f.imm.val]) :=
  readWord_pack hop hm rfl (by simp [fieldsFit])

@[simp] theorem readI_insOf (f : KI) : readI (insOf op h .i [f.wd.val, 0, f.imm.val]) = f := by
  simp [readI]

theorem encX_lt (f : KX) : encX op h f < 2 ^ 64 := pack_lt_word rfl

@[simp] theorem readWord_encX (f : KX) (hop : op < 256) (hm : fmtOf op = some .x) :
    readWord (encX op h f) = some (insOf op h .x [f.sd.val, f.ed.val, f.w.val, f.sb.val, f.eb.val, 0]) :=
  readWord_pack hop hm rfl (by simp [fieldsFit])

@[simp] theorem readX_insOf (f : KX) : readX (insOf op h .x [f.sd.val, f.ed.val, f.w.val, f.sb.val, f.eb.val, 0]) = f := by
  simp [readX]

theorem encB_lt (f : KB) : encB op h f < 2 ^ 64 := pack_lt_word rfl

@[simp] theorem readWord_encB (f : KB) (hop : op < 256) (hm : fmtOf op = some .b) :
    readWord (encB op h f) = some (insOf op h .b [f.qd.val, f.bit.val, f.w.val, 0]) :=
  readWord_pack hop hm rfl (by simp [fieldsFit])

@[simp] theorem readB_insOf (f : KB) : readB (insOf op h .b [f.qd.val, f.bit.val, f.w.val, 0]) = f := by
  simp [readB]

theorem encC_lt (f : KC) : encC op h f < 2 ^ 64 := pack_lt_word rfl

@[simp] theorem readWord_encC (f : KC) (hop : op < 256) (hm : fmtOf op = some .c) :
    readWord (encC op h f) = some (insOf op h .c [f.qd.val, f.qa.val, f.qb.val, f.fn.val, 0]) :=
  readWord_pack hop hm rfl (by simp [fieldsFit])

@[simp] theorem readC_insOf (f : KC) : readC (insOf op h .c [f.qd.val, f.qa.val, f.qb.val, f.fn.val, 0]) = f := by
  simp [readC]

theorem encL_lt (f : KL) : encL op f < 2 ^ 64 := pack_lt_word rfl

@[simp] theorem readWord_encL (f : KL) (hop : op < 256) (hm : fmtOf op = some .l) :
    readWord (encL op f) = some (insOf op {} .l [f.jl.val, f.n1.val, f.l1.val, 0]) :=
  readWord_pack hop hm rfl (by simp [fieldsFit])

@[simp] theorem readL_insOf (f : KL) : readL (insOf op {} .l [f.jl.val, f.n1.val, f.l1.val, 0]) = f := by
  simp [readL]

end

/-- A word of 64 bits that spells `i` settles what was said of `i`. -/
theorem spells {i : Instr} {w n : Nat} (b : Fin 12) (hlt : w < 2 ^ 64) (hd : decodeKet b w = some i) (hn : some w = some n) :
    n < 2 ^ 64 ∧ ∃ b, decodeKet b n = some i := by
  cases hn
  exact ⟨hlt, b, hd⟩

/-- Settles O60: by the formats, a word reads as the fields it was packed from, and its opcode names the constructor. -/
theorem recipeWordsRoundTrip : Obligations.RecipeWordsRoundTrip := by
  intro i n hn
  unfold encodeKet at hn
  split at hn
  case h_1 b h =>
    exact spells b (encN_lt h) (by rw [decodeKet, readWord_encN h (by decide) (by rfl)]; exact congrArg some (by simp)) hn
  case h_2 b f =>
    exact spells b (encL_lt f) (by rw [decodeKet, readWord_encL f (by decide) (by rfl)]; exact congrArg some (by simp)) hn
  case h_3 b h f | h_21 b h f | h_24 b h f | h_25 b h f | h_29 b h f | h_30 b h f =>
    exact spells b (encE_lt h f) (by rw [decodeKet, readWord_encE h f (by decide) (by rfl)]; exact congrArg some (by simp)) hn
  case h_4 b h f =>
    exact spells b (encC_lt h f) (by rw [decodeKet, readWord_encC h f (by decide) (by rfl)]; exact congrArg some (by simp)) hn
  case h_5 b h f =>
    exact spells b (encB_lt h f) (by rw [decodeKet, readWord_encB h f (by decide) (by rfl)]; exact congrArg some (by simp)) hn
  case h_6 b h f | h_8 b h f | h_10 b h f =>
    exact spells b (encT_lt h f) (by rw [decodeKet, readWord_encT h f (by decide) (by rfl)]; exact congrArg some (by simp)) hn
  case h_7 b h f | h_9 b h f =>
    exact spells b (encP_lt h f) (by rw [decodeKet, readWord_encP h f (by decide) (by rfl)]; exact congrArg some (by simp)) hn
  case h_11 b h f | h_12 b h f | h_13 b h f | h_14 b h f | h_15 b h f | h_16 b h f | h_17 b h f | h_18 b h f | h_19 b h f | h_22 b
    h f | h_26 b h f | h_27 b h f | h_28 b h f =>
    exact spells b (encS_lt h f) (by rw [decodeKet, readWord_encS h f (by decide) (by rfl)]; exact congrArg some (by simp)) hn
  case h_20 b h f | h_23 b h f =>
    exact spells b (encA_lt h f) (by rw [decodeKet, readWord_encA h f (by decide) (by rfl)]; exact congrArg some (by simp)) hn
  case h_31 b h f | h_32 b h f | h_33 b h f | h_34 b h f | h_35 b h f =>
    exact spells b (encX_lt h f) (by rw [decodeKet, readWord_encX h f (by decide) (by rfl)]; exact congrArg some (by simp)) hn
  case h_36 b h f | h_37 b h f | h_38 b h f | h_39 b h f | h_40 b h f | h_41 b h f =>
    exact spells b (encW_lt h f) (by rw [decodeKet, readWord_encW h f (by decide) (by rfl)]; exact congrArg some (by simp)) hn
  case h_42 b h f =>
    exact spells b (encI_lt h f) (by rw [decodeKet, readWord_encI h f (by decide) (by rfl)]; exact congrArg some (by simp)) hn
  case h_43 => cases hn

end Sys2Proof.Machine
end

section
/-!
PROOFS. What a step can do to the state as a whole: which parts it may change, that it keeps the invariant, and that it neither enters RUN nor
puts a safety configuration in force. One lemma per operation of the model says it once; the commands compose them.
-/
namespace Sys2Proof.Machine

/-! ## The lengths of the tables, part by part -/

/-- The tables of each part have the lengths that the chapters give them. -/
def Pantry.Sized (x : Pantry) : Prop := x.breach.length = 6
def TimeState.Sized (x : TimeState) : Prop := x.outOfRange.length = 10
def AnaState.Sized (x : AnaState) : Prop := x.cores.length = 8 ∧ x.sdf.length = 48 ∧ x.atmr.length = 4
def CmpBlock.Sized (x : CmpBlock) : Prop := x.cmps.length = 64
def PwmState.Sized (x : PwmState) : Prop := x.chs.length = 192 ∧ x.lgs.length = 32
def GlState.Sized (x : GlState) : Prop := x.chs.length = 192 ∧ x.shoot.length = 32
def SafeState.Sized (x : SafeState) : Prop :=
  x.spoAt.length = 12 ∧ x.offDone.length = 12 ∧ x.sin.length = 8 ∧ x.sout.length = 4 ∧ x.rx.length = 8 ∧ x.txSeq.length = 8 ∧ x.txAt.length = 8 ∧
    x.txLast.length = 8 ∧ x.limits.length = 12 ∧ x.fmon.length = 12
def Binding.Sized (x : Binding) : Prop := x.banks.length = 2 ∧ x.run.acc.length = 4
def KetState.Sized (x : KetState) : Prop := x.bind.length = 12 ∧ ∀ b ∈ x.bind, b.Sized
def NetState.Sized (x : NetState) : Prop :=
  x.files.length = 4 ∧ x.ptp.length = 2 ∧ x.sv.length = 16 ∧ x.pub.length = 4 ∧ x.goSub.length = 64 ∧ x.goPub.length = 16
def MtrState.Sized (x : MtrState) : Prop := x.pts.length = 4 ∧ x.pls.length = 8 ∧ x.mcnt.length = 4
def RecState.Sized (x : RecState) : Prop := x.banks.length = 16 ∧ x.tracks.length = 64
def MbxState.Sized (x : MbxState) : Prop := x.wait.length = 4 ∧ x.phases.length = 4 ∧ x.keys.length = 4
def BootState.Sized (x : BootState) : Prop := x.slots.length = 2 ∧ x.commits.length = 2 ∧ x.copies.length = 2

theorem Binding.Sized.modBank {x : Binding} (h : x.Sized) (f : KBank → KBank) : (x.modBank f).Sized :=
  ⟨by simpa [Binding.modBank, Tab.mod] using h.1, h.2⟩

theorem Binding.Sized.modStage {x : Binding} (h : x.Sized) (i : Nat) (f : KStage → KStage) : (x.modStage i f).Sized := h.modBank _

theorem Binding.Sized.setWord {x : Binding} (h : x.Sized) (a : Nat) (v : Word) : (x.setWord a v).Sized := h

theorem Binding.Sized.modRun {x : Binding} (h : x.Sized) {f : KRun → KRun} (hf : (f x.run).acc.length = 4) : (x.modRun f).Sized := ⟨h.1, hf⟩

theorem Binding.Sized.reinit {x : Binding} (h : x.Sized) : x.reinit.Sized :=
  ⟨by simpa [Binding.reinit, Binding.modBank, Tab.mod] using h.1, rfl⟩

theorem Binding.Sized.beginSec {x : Binding} (h : x.Sized) : x.beginSec.Sized := by
  unfold Binding.beginSec
  split <;> exact ⟨h.1, by simp [Binding.modRun, h.2]⟩

theorem Binding.Sized.beginEpoch {x : Binding} (h : x.Sized) (k pre : Nat) (fb : Bool) : (x.beginEpoch k pre fb).Sized :=
  Binding.Sized.beginSec ⟨h.1, rfl⟩

theorem Binding.Sized.exchange {x : Binding} (h : x.Sized) : x.exchange.Sized := ⟨by simpa [Binding.exchange, Tab.mod] using h.1, h.2⟩

/-- The binding that a state shows at any index, the default one where no binding stands. -/
theorem KetState.Sized.bind {x : KetState} (h : x.Sized) (b : Nat) : (x.bind.at b).Sized := by
  by_cases hb : b < x.bind.length
  · rw [Tab.at, List.getD_eq_getElem _ _ hb]
    exact h.2 _ (List.getElem_mem hb)
  · rw [Tab.at, List.getD_eq_default _ _ (Nat.le_of_not_lt hb)]
    exact ⟨rfl, rfl⟩

/-- Every table of the state has its length. -/
structure State.Sized (s : State) : Prop where
  pan : s.pan.Sized
  tim : s.tim.Sized
  ana : s.ana.Sized
  cmp : s.cmp.Sized
  pwm : s.pwm.Sized
  gl : s.gl.Sized
  safe : s.safe.Sized
  ket : s.ket.Sized
  net : s.net.Sized
  mtr : s.mtr.Sized
  hop : s.hop.Sized
  mbx : s.mbx.Sized
  fw : s.fw.Sized

theorem State.sized_iff (s : State) : s.sized = true ↔ s.Sized := by
  simp only [State.sized, Bool.and_eq_true, beq_iff_eq, List.all_eq_true]
  constructor
  · intro h
    constructor <;> simp_all only [Pantry.Sized, TimeState.Sized, AnaState.Sized, CmpBlock.Sized, PwmState.Sized, GlState.Sized, SafeState.Sized,
      Binding.Sized, KetState.Sized, NetState.Sized, MtrState.Sized, RecState.Sized, MbxState.Sized, BootState.Sized, and_self, implies_true]
  · rintro ⟨hpan, htim, hana, hcmp, hpwm, hgl, hsafe, hket, hnet, hmtr, hhop, hmbx, hfw⟩
    simp_all only [Pantry.Sized, TimeState.Sized, AnaState.Sized, CmpBlock.Sized, PwmState.Sized, GlState.Sized, SafeState.Sized,
      Binding.Sized, KetState.Sized, NetState.Sized, MtrState.Sized, RecState.Sized, MbxState.Sized, BootState.Sized, and_self, implies_true]

theorem State.inv_iff (s : State) : s.inv = true ↔ s.regsOk = true ∧ s.Sized := by
  rw [State.inv, Bool.and_eq_true, State.sized_iff]

theorem State.regsOk_of_inv {s : State} (h : s.inv = true) : s.regsOk = true := (s.inv_iff.1 h).1

theorem State.sized_of_inv {s : State} (h : s.inv = true) : s.Sized := (s.inv_iff.1 h).2

theorem State.Sized.survive {s : State} (z : s.Sized) (keep : Nat → Bool) (ns : List Nat) : (s.survive keep ns).Sized where
  pan := rfl
  tim := rfl
  ana := ⟨rfl, rfl, rfl⟩
  cmp := by simp [CmpBlock.Sized, State.survive]
  pwm := ⟨rfl, rfl⟩
  gl := ⟨rfl, rfl⟩
  safe := ⟨rfl, rfl, rfl, rfl, rfl, rfl, rfl, rfl, rfl, rfl⟩
  ket := ⟨rfl, fun _ hb => List.eq_of_mem_replicate hb ▸ ⟨rfl, rfl⟩⟩
  net := ⟨rfl, rfl, rfl, rfl, rfl, rfl⟩
  mtr := ⟨rfl, rfl, rfl⟩
  hop := ⟨rfl, rfl⟩
  mbx := ⟨rfl, rfl, z.mbx.2.2⟩
  fw := z.fw

/-! ## The relation -/

/-- `t` comes from `s` by steps that change no part but those of `may`, keep the invariant, and neither enter RUN, unless `.dev ∈ own`, nor put
a safety configuration in force or change the one that is, unless `.safe ∈ own`. -/
structure State.Moves (own may : List Part) (s t : State) : Prop where
  keeps : s.keeps t may
  inv : s.inv = true → t.inv = true
  run : .dev ∈ own ∨ (t.dev = .run → s.dev = .run)
  force : .safe ∈ own ∨ (t.safe.inForce = true → s.safe.inForce = true ∧ t.safe.cfg = s.safe.cfg)

/-- Whatever next state an outcome answers, `s` moves there. -/
def State.Onward (own may : List Part) (s : State) (o : Host.Outcome State Fault Refusal) : Prop := ∀ t, o = .next t → s.Moves own may t

namespace State.Moves

variable {own may m : List Part} {s t u : State}

theorem refl (s : State) : s.Moves own may s :=
  ⟨State.keeps_refl s may, id, .inr id, .inr fun h => ⟨h, rfl⟩⟩

theorem trans (h : s.Moves own may t) (k : t.Moves own may u) : s.Moves own may u where
  keeps := State.keeps_trans h.keeps k.keeps
  inv := k.inv ∘ h.inv
  run := by
    rcases h.run with h | h
    · exact .inl h
    · exact k.run.imp id fun k hu => h (k hu)
  force := by
    rcases h.force with h | h
    · exact .inl h
    · refine k.force.imp id fun k hu => ?_
      obtain ⟨ht, hcfg⟩ := k hu
      exact ⟨(h ht).1, hcfg.trans (h ht).2⟩

theorem mono (h : s.Moves own m t) (hm : m ⊆ may) : s.Moves own may t :=
  ⟨State.keeps_mono h.keeps hm, h.inv, h.run, h.force⟩

/-- One operation more, whose parts are among those that may change. -/
theorem andThen (h : s.Moves own may t) (hm : m ⊆ may) (k : t.Moves own m u) : s.Moves own may u := h.trans (k.mono hm)

/-- What is not among the parts that may change is as it was. -/
theorem fw_kept (h : s.Moves own may t) (hm : .fw ∉ may) : t.fw = s.fw := by
  have hk := h.keeps
  simp_all [State.keeps]

theorem ite {c : Prop} [Decidable c] (ht : s.Moves own may t) (hu : s.Moves own may u) : s.Moves own may (if c then t else u) := by
  split
  · exact ht
  · exact hu

theorem foldl {α : Type} {f : State → α → State} {l : List α} (hf : ∀ v x, s.Moves own may v → s.Moves own may (f v x)) (h : s.Moves own may t) :
    s.Moves own may (l.foldl f t) := by
  induction l generalizing t with
  | nil => exact h
  | cons x l ih => exact ih (hf t x h)

/-- A change of the state that keeps the lengths of its tables and its register file, and its device state and safety. -/
theorem of_parts (hk : s.keeps t may) (hr : s.regsOk = true → t.regsOk = true) (hz : s.Sized → t.Sized) (hd : t.dev = s.dev)
    (hs : t.safe.inForce = true → s.safe.inForce = true ∧ t.safe.cfg = s.safe.cfg) : s.Moves own may t where
  keeps := hk
  inv h := (t.inv_iff).2 ⟨hr (State.regsOk_of_inv h), hz (State.sized_of_inv h)⟩
  run := .inr fun h => hd ▸ h
  force := .inr hs

/-! ## One part set -/

theorem set_pan (h : s.Moves own may t) {x : Pantry} (hx : t.pan.Sized → x.Sized := by simp +contextual [Pantry.Sized, Tab.mod])
    (hm : [.pan] ⊆ may := by decide) : s.Moves own may { t with pan := x } :=
  h.andThen hm (.of_parts (by simp [State.keeps]) id (fun z => { z with pan := hx z.pan }) rfl fun h => ⟨h, rfl⟩)

theorem set_tim (h : s.Moves own may t) {x : TimeState} (hx : t.tim.Sized → x.Sized := by simp +contextual [TimeState.Sized, Tab.mod])
    (hm : [.tim] ⊆ may := by decide) : s.Moves own may { t with tim := x } :=
  h.andThen hm (.of_parts (by simp [State.keeps]) id (fun z => { z with tim := hx z.tim }) rfl fun h => ⟨h, rfl⟩)

theorem set_ana (h : s.Moves own may t) {x : AnaState} (hx : t.ana.Sized → x.Sized := by simp +contextual [AnaState.Sized, Tab.mod])
    (hm : [.ana] ⊆ may := by decide) : s.Moves own may { t with ana := x } :=
  h.andThen hm (.of_parts (by simp [State.keeps]) id (fun z => { z with ana := hx z.ana }) rfl fun h => ⟨h, rfl⟩)

theorem set_cmp (h : s.Moves own may t) {x : CmpBlock} (hx : t.cmp.Sized → x.Sized := by simp +contextual [CmpBlock.Sized, Tab.mod])
    (hm : [.cmp] ⊆ may := by decide) : s.Moves own may { t with cmp := x } :=
  h.andThen hm (.of_parts (by simp [State.keeps]) id (fun z => { z with cmp := hx z.cmp }) rfl fun h => ⟨h, rfl⟩)

theorem set_pwm (h : s.Moves own may t) {x : PwmState} (hx : t.pwm.Sized → x.Sized := by simp +contextual [PwmState.Sized, Tab.mod])
    (hm : [.pwm] ⊆ may := by decide) : s.Moves own may { t with pwm := x } :=
  h.andThen hm (.of_parts (by simp [State.keeps]) id (fun z => { z with pwm := hx z.pwm }) rfl fun h => ⟨h, rfl⟩)

theorem set_gl (h : s.Moves own may t) {x : GlState} (hx : t.gl.Sized → x.Sized := by simp +contextual [GlState.Sized, Tab.mod])
    (hm : [.gl] ⊆ may := by decide) : s.Moves own may { t with gl := x } :=
  h.andThen hm (.of_parts (by simp [State.keeps]) id (fun z => { z with gl := hx z.gl }) rfl fun h => ⟨h, rfl⟩)

theorem set_ket (h : s.Moves own may t) {x : KetState} (hx : t.ket.Sized → x.Sized := by simp +contextual [KetState.Sized, Tab.mod])
    (hm : [.ket] ⊆ may := by decide) : s.Moves own may { t with ket := x } :=
  h.andThen hm (.of_parts (by simp [State.keeps]) id (fun z => { z with ket := hx z.ket }) rfl fun h => ⟨h, rfl⟩)

theorem set_net (h : s.Moves own may t) {x : NetState} (hx : t.net.Sized → x.Sized := by simp +contextual [NetState.Sized, Tab.mod])
    (hm : [.net] ⊆ may := by decide) : s.Moves own may { t with net := x } :=
  h.andThen hm (.of_parts (by simp [State.keeps]) id (fun z => { z with net := hx z.net }) rfl fun h => ⟨h, rfl⟩)

theorem set_mtr (h : s.Moves own may t) {x : MtrState} (hx : t.mtr.Sized → x.Sized := by simp +contextual [MtrState.Sized, Tab.mod])
    (hm : [.mtr] ⊆ may := by decide) : s.Moves own may { t with mtr := x } :=
  h.andThen hm (.of_parts (by simp [State.keeps]) id (fun z => { z with mtr := hx z.mtr }) rfl fun h => ⟨h, rfl⟩)

theorem set_hop (h : s.Moves own may t) {x : RecState} (hx : t.hop.Sized → x.Sized := by simp +contextual [RecState.Sized, Tab.mod])
    (hm : [.hop] ⊆ may := by decide) : s.Moves own may { t with hop := x } :=
  h.andThen hm (.of_parts (by simp [State.keeps]) id (fun z => { z with hop := hx z.hop }) rfl fun h => ⟨h, rfl⟩)

theorem set_mbx (h : s.Moves own may t) {x : MbxState} (hx : t.mbx.Sized → x.Sized := by simp +contextual [MbxState.Sized, Tab.mod])
    (hm : [.mbx] ⊆ may := by decide) : s.Moves own may { t with mbx := x } :=
  h.andThen hm (.of_parts (by simp [State.keeps]) id (fun z => { z with mbx := hx z.mbx }) rfl fun h => ⟨h, rfl⟩)

theorem set_fw (h : s.Moves own may t) {x : BootState} (hx : t.fw.Sized → x.Sized := by simp +contextual [BootState.Sized, Tab.mod])
    (hm : [.fw] ⊆ may := by decide) : s.Moves own may { t with fw := x } :=
  h.andThen hm (.of_parts (by simp [State.keeps]) id (fun z => { z with fw := hx z.fw }) rfl fun h => ⟨h, rfl⟩)

theorem set_gt (h : s.Moves own may t) {x : Nat} (hm : [.gt] ⊆ may := by decide) : s.Moves own may { t with gt := x } :=
  h.andThen hm (.of_parts (by simp [State.keeps]) id (fun z => { z with }) rfl fun h => ⟨h, rfl⟩)

theorem set_deferred (h : s.Moves own may t) {x : KMap Word} (hm : [.deferred] ⊆ may := by decide) : s.Moves own may { t with deferred := x } :=
  h.andThen hm (.of_parts (by simp [State.keeps]) id (fun z => { z with }) rfl fun h => ⟨h, rfl⟩)

theorem set_spareReqs (h : s.Moves own may t) {x : KMap (Word × Word)} (hm : [.spareReqs] ⊆ may := by decide) : s.Moves own may { t with spareReqs := x } :=
  h.andThen hm (.of_parts (by simp [State.keeps]) id (fun z => { z with }) rfl fun h => ⟨h, rfl⟩)

theorem set_log (h : s.Moves own may t) {x : LogState} (hm : [.log] ⊆ may := by decide) : s.Moves own may { t with log := x } :=
  h.andThen hm (.of_parts (by simp [State.keeps]) id (fun z => { z with }) rfl fun h => ⟨h, rfl⟩)

theorem set_pwr (h : s.Moves own may t) {x : PowerState} (hm : [.pwr] ⊆ may := by decide) : s.Moves own may { t with pwr := x } :=
  h.andThen hm (.of_parts (by simp [State.keeps]) id (fun z => { z with }) rfl fun h => ⟨h, rfl⟩)

theorem set_law (h : s.Moves own may t) {x : LawState} (hm : [.law] ⊆ may := by decide) : s.Moves own may { t with law := x } :=
  h.andThen hm (.of_parts (by simp [State.keeps]) id (fun z => { z with }) rfl fun h => ⟨h, rfl⟩)

theorem set_sup (h : s.Moves own may t) {x : SupState} (hm : [.sup] ⊆ may := by decide) : s.Moves own may { t with sup := x } :=
  h.andThen hm (.of_parts (by simp [State.keeps]) id (fun z => { z with }) rfl fun h => ⟨h, rfl⟩)

theorem set_pin (h : s.Moves own may t) {x : PinState} (hm : [.pin] ⊆ may := by decide) : s.Moves own may { t with pin := x } :=
  h.andThen hm (.of_parts (by simp [State.keeps]) id (fun z => { z with }) rfl fun h => ⟨h, rfl⟩)

theorem set_freeN (h : s.Moves own may t) {x : Nat} (hm : [.freeN] ⊆ may := by decide) : s.Moves own may { t with freeN := x } :=
  h.andThen hm (.of_parts (by simp [State.keeps]) id (fun z => { z with }) rfl fun h => ⟨h, rfl⟩)

theorem set_out (h : s.Moves own may t) {x : OutPort} (hm : [.out] ⊆ may := by decide) : s.Moves own may { t with out := x } :=
  h.andThen hm (.of_parts (by simp [State.keeps]) id (fun z => { z with }) rfl fun h => ⟨h, rfl⟩)

theorem set_pending (h : s.Moves own may t) {x : List Instr} (hm : [.pending] ⊆ may := by decide) : s.Moves own may { t with pending := x } :=
  h.andThen hm (.of_parts (by simp [State.keeps]) id (fun z => { z with }) rfl fun h => ⟨h, rfl⟩)

theorem set_regs (h : s.Moves own may t) {x : Store 32} (hx : Store.wf regReset t.regs = true → Store.wf regReset x = true)
    (hm : [.regs] ⊆ may := by decide) : s.Moves own may { t with regs := x } :=
  h.andThen hm (.of_parts (by simp [State.keeps]) hx (fun z => { z with }) rfl fun h => ⟨h, rfl⟩)

theorem set_safe (h : s.Moves own may t) {x : SafeState} (hx : t.safe.Sized → x.Sized := by simp +contextual [SafeState.Sized, Tab.mod])
    (hf : x.inForce = true → t.safe.inForce = true ∧ x.cfg = t.safe.cfg := by simp only [and_true, imp_self]) (hm : [.safe] ⊆ may := by decide) :
    s.Moves own may { t with safe := x } :=
  h.andThen hm (.of_parts (by simp [State.keeps]) id (fun z => { z with safe := hx z.safe }) rfl hf)

theorem set_dev (h : s.Moves own may t) {x : DevState} (hd : .dev ∈ own ∨ (x = .run → s.dev = .run)) (hm : [.dev] ⊆ may := by decide) :
    s.Moves own may { t with dev := x } where
  keeps := State.keeps_trans h.keeps (State.keeps_mono (m := [.dev]) (s := t) (by simp [State.keeps]) hm)
  inv hi := by
    have ht := h.inv hi
    exact (State.inv_iff _).2 ⟨State.regsOk_of_inv ht, { State.sized_of_inv ht with }⟩
  run := hd
  force := h.force

/-- Several parts at once. -/
theorem set_parts (h : s.Moves own may t) (hk : t.keeps u m) (hr : t.regsOk = true → u.regsOk = true) (hz : t.Sized → u.Sized)
    (hd : u.dev = t.dev) (hs : u.safe.inForce = true → t.safe.inForce = true ∧ u.safe.cfg = t.safe.cfg) (hm : m ⊆ may := by decide) :
    s.Moves own may u :=
  h.andThen hm (.of_parts hk hr hz hd hs)

/-- The safety part as a command that owns it sets it. -/
theorem set_safe_owned (h : s.Moves own may t) {x : SafeState} (hx : t.safe.Sized → x.Sized) (ho : .safe ∈ own) (hm : [.safe] ⊆ may := by decide) :
    s.Moves own may { t with safe := x } where
  keeps := State.keeps_trans h.keeps (State.keeps_mono (m := [.safe]) (s := t) (by simp [State.keeps]) hm)
  inv hi := by
    have ht := h.inv hi
    have hz := State.sized_of_inv ht
    exact (State.inv_iff _).2 ⟨State.regsOk_of_inv (s := t) ht, { hz with safe := hx hz.safe }⟩
  run := h.run
  force := .inl ho

theorem setReg (h : s.Moves own may t) {a : Nat} {v : Word} (hm : [.regs] ⊆ may := by decide) : s.Moves own may (t.setReg a v) :=
  h.set_regs Store.put_wf hm

theorem ketModOf (h : s.Moves own may t) {b : Nat} {f : Binding → Binding} (hf : t.ket.Sized → ∀ x : Binding, x.Sized → (f x).Sized)
    (hm : [.ket] ⊆ may := by decide) : s.Moves own may (t.ketMod b f) := by
  refine h.set_ket (fun z => ⟨by simpa [Tab.mod] using z.1, fun x hx => ?_⟩) hm
  obtain ⟨i, hi, rfl⟩ := List.mem_iff_getElem.1 hx
  simp only [Tab.mod, List.length_modify] at hi
  simp only [Tab.mod, List.getElem_modify]
  split
  · exact hf z _ (z.2 _ (List.getElem_mem _))
  · exact z.2 _ (List.getElem_mem _)

theorem ketMod (h : s.Moves own may t) {b : Nat} {f : Binding → Binding} (hf : ∀ x : Binding, x.Sized → (f x).Sized := by exact fun _ z => z)
    (hm : [.ket] ⊆ may := by decide) : s.Moves own may (t.ketMod b f) := h.ketModOf (fun _ => hf) hm

theorem timMod (h : s.Moves own may t) {f : TimeState → TimeState}
    (hf : t.tim.Sized → (f t.tim).Sized := by simp +contextual [TimeState.Sized, Tab.mod]) (hm : [.tim] ⊆ may := by decide) :
    s.Moves own may (t.timMod f) := h.set_tim hf hm

theorem netMod (h : s.Moves own may t) {f : NetState → NetState}
    (hf : t.net.Sized → (f t.net).Sized := by simp +contextual [NetState.Sized, Tab.mod]) (hm : [.net] ⊆ may := by decide) :
    s.Moves own may (t.netMod f) := h.set_net hf hm

theorem safeMod (h : s.Moves own may t) {f : SafeState → SafeState}
    (hx : t.safe.Sized → (f t.safe).Sized := by simp +contextual [SafeState.Sized, Tab.mod])
    (hf : (f t.safe).inForce = true → t.safe.inForce = true ∧ (f t.safe).cfg = t.safe.cfg := by simp only [and_true, imp_self]) (hm : [.safe] ⊆ may := by decide) :
    s.Moves own may (t.safeMod f) := h.set_safe hx hf hm

end State.Moves

namespace State.Onward

variable {own may m : List Part} {s t : State} {o p : Host.Outcome State Fault Refusal}

theorem next (h : s.Moves own may t) : s.Onward own may (.next t) := by
  rintro _ ⟨⟩
  exact h

theorem fault (r : Fault) : s.Onward own may (.fault r) := by
  rintro _ ⟨⟩

theorem mono (h : s.Onward own m o) (hm : m ⊆ may) : s.Onward own may o := fun t ht => (h t ht).mono hm

theorem ite {c : Prop} [Decidable c] (ho : s.Onward own may o) (hp : s.Onward own may p) : s.Onward own may (if c then o else p) := by
  split
  · exact ho
  · exact hp

end State.Onward

end Sys2Proof.Machine
end

section
/-!
PROOFS. One operation after another: time, Pantry, PWM, gates, safety, comparators, mailbox, recorder.
-/
namespace Sys2Proof.Machine.State.Moves

-- A default argument by `decide` waits for every earlier proof, so the proofs here run one at a time.
set_option Elab.async false

variable {own may m : List Part} {s t u : State}

theorem setRegN (h : s.Moves own may t) {a : Nat} {n : Nat} (hm : [.regs] ⊆ may := by decide) :
    s.Moves own may (t.setRegN a n) := by
  refine h.andThen hm ?_
  unfold State.setRegN
  exact .setReg (.refl _)

theorem setFld (h : s.Moves own may t) {a : Nat} {f : Fld} {v : Nat} (hm : [.regs] ⊆ may := by decide) :
    s.Moves own may (t.setFld a f v) := by
  refine h.andThen hm ?_
  unfold State.setFld
  exact .setRegN (.refl _)

theorem setBit (h : s.Moves own may t) {a : Nat} {i : Nat} {b : Bool} (hm : [.regs] ⊆ may := by decide) :
    s.Moves own may (t.setBit a i b) := by
  refine h.andThen hm ?_
  unfold State.setBit
  exact .setFld (.refl _)

theorem bumpBy (h : s.Moves own may t) {a : Nat} {n : Nat} (hm : [.regs] ⊆ may := by decide) :
    s.Moves own may (t.bumpBy a n) := by
  refine h.andThen hm ?_
  unfold State.bumpBy
  exact .setRegN (.refl _)

theorem bump (h : s.Moves own may t) {a : Nat} (hm : [.regs] ⊆ may := by decide) :
    s.Moves own may (t.bump a) := by
  refine h.andThen hm ?_
  unfold State.bump
  exact .bumpBy (.refl _)

theorem tickReg (h : s.Moves own may t) {a : Nat} (hm : [.regs] ⊆ may := by decide) :
    s.Moves own may (t.tickReg a) := by
  refine h.andThen hm ?_
  unfold State.tickReg
  exact .setRegN (.refl _)

theorem freeStep (h : s.Moves own may t) (hm : [.freeN] ⊆ may := by decide) :
    s.Moves own may (t.freeStep) := by
  refine h.andThen hm ?_
  unfold State.freeStep
  exact .set_freeN (.refl _)

theorem gtTo (h : s.Moves own may t) {t' : Nat} (hm : [.gt] ⊆ may := by decide) :
    s.Moves own may (t.gtTo t') := by
  refine h.andThen hm ?_
  unfold State.gtTo
  exact .ite (.set_gt (.refl _)) (.refl _)

theorem enqueue (h : s.Moves own may t) {rs : List LogRec} {pin : Bool} (hm : [.regs, .log] ⊆ may := by decide) :
    s.Moves own may (t.enqueue rs pin) := by
  refine h.andThen hm ?_
  unfold State.enqueue
  refine .ite ?_ ?_
  · exact .set_log (.refl _)
  · extract_lets +onlyGivenNames src
    have hsrc : t.Moves own [.regs, .log] src := .bumpBy (.refl _)
    exact hsrc.set_log

theorem hostEvent (h : s.Moves own may t) (hm : [.mbx, .out] ⊆ may := by decide) :
    s.Moves own may (t.hostEvent) := by
  refine h.andThen hm ?_
  unfold State.hostEvent
  exact .ite (.ite (.set_mbx (.refl _)) (.set_out (.refl _))) (.refl _)

theorem markStk (h : s.Moves own may t) {k : Stk} (hm : logParts ⊆ may := by decide) :
    s.Moves own may (t.markStk k) := by
  refine h.andThen hm ?_
  unfold State.markStk
  have ht : t.Moves own logParts t := .refl t
  extract_lets +onlyGivenNames t'
  have ht' : t.Moves own logParts t' := .hostEvent (.setBit (.refl _))
  split
  · exact ht'
  · exact ht'.set_log

theorem stkRecord (h : s.Moves own may t) {k : Stk} (hm : [.regs, .log] ⊆ may := by decide) :
    s.Moves own may (t.stkRecord k) := by
  refine h.andThen hm ?_
  unfold State.stkRecord
  have ht : t.Moves own [.regs, .log] t := .refl t
  extract_lets +onlyGivenNames u
  refine .ite ?_ ?_
  · exact .set_log (.refl _)
  · extract_lets +onlyGivenNames r
    refine .ite ?_ ?_
    · extract_lets +onlyGivenNames t'
      have ht' : t.Moves own [.regs, .log] t' := .enqueue (.refl _)
      exact ht'.set_log
    · exact .enqueue (.refl _)

theorem overflowStk (h : s.Moves own may t) {before : Nat} (hm : logParts ⊆ may := by decide) :
    s.Moves own may (State.overflowStk before t) := by
  refine h.andThen hm ?_
  unfold State.overflowStk
  exact .ite (.refl _) (.stkRecord (.markStk (.refl _)))

theorem stick (h : s.Moves own may t) {k : Stk} (hm : logParts ⊆ may := by decide) :
    s.Moves own may (t.stick k) := by
  refine h.andThen hm ?_
  unfold State.stick
  exact .ite (.refl _) (.overflowStk (.stkRecord (.markStk (.refl _))))

theorem stickIf (h : s.Moves own may t) {c : Bool} {k : Stk} (hm : logParts ⊆ may := by decide) :
    s.Moves own may (t.stickIf c k) := by
  refine h.andThen hm ?_
  unfold State.stickIf
  exact .ite (.stick (.refl _)) (.refl _)

theorem logRec (h : s.Moves own may t) {typ : Nat} {code : Nat} {ws : List Word} {pin : Bool} (hm : logParts ⊆ may := by decide) :
    s.Moves own may (t.logRec typ code ws pin) := by
  refine h.andThen hm ?_
  unfold State.logRec
  exact .overflowStk (.enqueue (.refl _))

theorem clearStkBits (h : s.Moves own may t) {a : Nat} {mask : Nat} (hm : [.regs] ⊆ may := by decide) :
    s.Moves own may (t.clearStkBits a mask) := by
  refine h.andThen hm ?_
  unfold State.clearStkBits
  exact .setReg (.refl _)

theorem clearFile (h : s.Moves own may t) {n : Nat} (hm : [.regs, .log] ⊆ may := by decide) :
    s.Moves own may (t.clearFile n) := by
  refine h.andThen hm ?_
  unfold State.clearFile
  have ht : t.Moves own [.regs, .log] t := .refl t
  extract_lets +onlyGivenNames m
  split
  · exact .refl _
  · extract_lets +onlyGivenNames t'
    have ht' : t.Moves own [.regs, .log] t' := .foldl (fun _ _ hv => hv.setBit) (.refl _)
    exact ht'.set_log

theorem tidyFgt (h : s.Moves own may t) (hm : [.log] ⊆ may := by decide) :
    s.Moves own may (t.tidyFgt) := by
  refine h.andThen hm ?_
  unfold State.tidyFgt
  exact .set_log (.refl _)

theorem clearSum (h : s.Moves own may t) {i : Nat} {mask : Word} (hm : [.regs, .log] ⊆ may := by decide) :
    s.Moves own may (t.clearSum i mask) := by
  refine h.andThen hm ?_
  unfold State.clearSum
  exact .foldl (fun _ _ hv => .ite hv.clearFile hv) (.refl _)

theorem breachOf (h : s.Moves own may t) {c : Nat} {slot : Nat} {cidx : Nat} (hm : (.pan :: logParts) ⊆ may := by decide) :
    s.Moves own may (t.breachOf c slot cidx) := by
  refine h.andThen hm ?_
  unfold State.breachOf
  extract_lets +onlyGivenNames s1 s2 b
  have hs1 : t.Moves own (.pan :: logParts) s1 := .ite (.setRegN (.setRegN (.setRegN (.refl _)))) (.refl _)
  have hs2 : t.Moves own (.pan :: logParts) s2 := hs1.stick
  refine .ite ?_ ?_
  · exact hs2.set_pan
  · extract_lets +onlyGivenNames src s3
    have hs3 : t.Moves own (.pan :: logParts) s3 := hs2.set_pan
    exact hs3.logRec

theorem pendPut (h : s.Moves own may t) {dest : Nat} {slot : Nat} {ord : Nat} {v : Word} (hm : [.pan] ⊆ may := by decide) :
    s.Moves own may (t.pendPut dest slot ord v) := by
  refine h.andThen hm ?_
  unfold State.pendPut
  extract_lets +onlyGivenNames bank
  split
  · exact .ite (.refl _) (.set_pan (.refl _))
  · exact .set_pan (.refl _)

theorem panWriteAt (h : s.Moves own may t) {t' : Nat} {owner : Nat} {slot : Nat} {ord : Nat} {dest : Nat} {v : Word} (hm : (.pan :: logParts) ⊆ may := by decide) :
    s.Moves own may (t.panWriteAt t' owner slot ord dest v) := by
  refine h.andThen hm ?_
  unfold State.panWriteAt
  refine .ite ?_ ?_
  · exact .breachOf (.bump (.refl _))
  · exact .ite (.breachOf (.bump (.refl _))) (.ite (.breachOf (.refl _)) (.pendPut (.refl _)))

theorem panWrite (h : s.Moves own may t) {owner : Nat} {slot : Nat} {ord : Nat} {dest : Nat} {v : Word} (hm : (.pan :: logParts) ⊆ may := by decide) :
    s.Moves own may (t.panWrite owner slot ord dest v) := by
  refine h.andThen hm ?_
  unfold State.panWrite
  exact .panWriteAt (.refl _)

theorem panSampleAt (h : s.Moves own may t) {t' : Nat} {owner : Nat} {slot : Nat} {sampleGt : Nat} {v : Word} (hm : (.pan :: logParts) ⊆ may := by decide) :
    s.Moves own may (t.panSampleAt t' owner slot sampleGt v) := by
  refine h.andThen hm ?_
  unfold State.panSampleAt
  exact .panWriteAt (.refl _)

theorem panSample (h : s.Moves own may t) {owner : Nat} {slot : Nat} {ord : Nat} {sampleGt : Nat} {v : Word} (hm : (.pan :: logParts) ⊆ may := by decide) :
    s.Moves own may (t.panSample owner slot ord sampleGt v) := by
  refine h.andThen hm ?_
  unfold State.panSample
  exact .panWrite (.refl _)

theorem staleCheck (h : s.Moves own may t) {slot : Nat} {cidx : Nat} (hm : (.pan :: logParts) ⊆ may := by decide) :
    s.Moves own may (t.staleCheck slot cidx) := by
  refine h.andThen hm ?_
  unfold State.staleCheck
  exact .ite (.breachOf (.refl _)) (.refl _)

theorem panSamples (h : s.Moves own may t) {owner : Nat} {slot : Nat} {sampleGt : Nat} {vs : List Word} (hm : (.pan :: logParts) ⊆ may := by decide) :
    s.Moves own may (t.panSamples owner slot sampleGt vs) := by
  refine h.andThen hm ?_
  unfold State.panSamples
  exact .foldl (fun _ _ hv => hv.panSample) (.refl _)

theorem panWrites (h : s.Moves own may t) {owner : Nat} {slot : Nat} {dest : Nat} {vs : List Word} (hm : (.pan :: logParts) ⊆ may := by decide) :
    s.Moves own may (t.panWrites owner slot dest vs) := by
  refine h.andThen hm ?_
  unfold State.panWrites
  exact .foldl (fun _ _ hv => hv.panWrite) (.refl _)

theorem give (h : s.Moves own may t) {v : Word} (hm : [.out] ⊆ may := by decide) :
    s.Moves own may (t.give v) := by
  refine h.andThen hm ?_
  unfold State.give
  exact .set_out (.refl _)

theorem chMod (h : s.Moves own may t) {n : Nat} {f : PwmCh → PwmCh} (hm : [.pwm] ⊆ may := by decide) :
    s.Moves own may (t.chMod n f) := by
  refine h.andThen hm ?_
  unfold State.chMod
  exact .set_pwm (.refl _)

theorem glMod (h : s.Moves own may t) {n : Nat} {f : GlCh → GlCh} (hm : [.gl] ⊆ may := by decide) :
    s.Moves own may (t.glMod n f) := by
  refine h.andThen hm ?_
  unfold State.glMod
  exact .set_gl (.refl _)

theorem lgMod (h : s.Moves own may t) {g : Nat} {f : LegGroup → LegGroup} (hm : [.pwm] ⊆ may := by decide) :
    s.Moves own may (t.lgMod g f) := by
  refine h.andThen hm ?_
  unfold State.lgMod
  exact .set_pwm (.refl _)

theorem dropCarry (h : s.Moves own may t) {n : Nat} (hm : (.pwm :: logParts) ⊆ may := by decide) :
    s.Moves own may (t.dropCarry n) := by
  refine h.andThen hm ?_
  unfold State.dropCarry
  exact .ite (.refl _) (.stick (.chMod (.refl _)))

theorem dropCarries (h : s.Moves own may t) {g : Nat} (hm : (.pwm :: logParts) ⊆ may := by decide) :
    s.Moves own may (t.dropCarries g) := by
  refine h.andThen hm ?_
  unfold State.dropCarries
  exact .foldl (fun _ _ hv => hv.dropCarry) (.refl _)

theorem blankEdge (h : s.Moves own may t) {g : Nat} {e : Nat} {rising : Bool} (hm : [.cmp] ⊆ may := by decide) :
    s.Moves own may (t.blankEdge g e rising) := by
  refine h.andThen hm ?_
  unfold State.blankEdge
  exact .set_cmp (.refl _)

theorem openWindow (h : s.Moves own may t) {n : Nat} {t' : Nat} {rising : Bool} (hm : [.gl] ⊆ may := by decide) :
    s.Moves own may (t.openWindow n t' rising) := by
  refine h.andThen hm ?_
  unfold State.openWindow
  extract_lets +onlyGivenNames tmo
  exact .glMod (.refl _)

theorem driveOff (h : s.Moves own may t) {n : Nat} {t' : Nat} (hm : [.cmp, .pwm, .gl] ⊆ may := by decide) :
    s.Moves own may (t.driveOff n t') := by
  refine h.andThen hm ?_
  unfold State.driveOff
  extract_lets +onlyGivenNames s1 d
  have hs1 : t.Moves own [.cmp, .pwm, .gl] s1 := .chMod (.refl _)
  exact hs1.openWindow.blankEdge

theorem driveOn (h : s.Moves own may t) {n : Nat} {t' : Nat} {off : Option Nat} (hm : [.cmp, .pwm, .gl] ⊆ may := by decide) :
    s.Moves own may (t.driveOn n t' off) := by
  refine h.andThen hm ?_
  unfold State.driveOn
  extract_lets +onlyGivenNames s1 d
  have hs1 : t.Moves own [.cmp, .pwm, .gl] s1 := .chMod (.refl _)
  exact hs1.openWindow.blankEdge

theorem forceOff (h : s.Moves own may t) {n : Nat} (hm : [.cmp, .pwm, .gl] ⊆ may := by decide) :
    s.Moves own may (t.forceOff n) := by
  refine h.andThen hm ?_
  unfold State.forceOff
  exact .ite (.driveOff (.refl _)) (.refl _)

theorem forceIdeal (h : s.Moves own may t) {g : Nat} (hm : [.cmp, .pwm, .gl] ⊆ may := by decide) :
    s.Moves own may (t.forceIdeal g) := by
  refine h.andThen hm ?_
  unfold State.forceIdeal
  exact .foldl (fun _ _ hv => .ite hv hv.forceOff) (.refl _)

theorem allGcmdLow (h : s.Moves own may t) (hm : (.cmp :: .pwm :: .gl :: logParts) ⊆ may := by decide) : s.Moves own may t.allGcmdLow := by
  refine h.andThen hm ?_
  unfold State.allGcmdLow
  exact .set_pwm (.foldl (fun _ _ hv => hv.forceOff.dropCarry) (.refl _))

theorem shortPulse (h : s.Moves own may t) {n : Nat} (hm : (.pwm :: logParts) ⊆ may := by decide) :
    s.Moves own may (t.shortPulse n) := by
  refine h.andThen hm ?_
  unfold State.shortPulse
  exact .chMod (.stick (.bump (.refl _)))

theorem rangeHit (h : s.Moves own may t) {g : Nat} (hm : (.pwm :: logParts) ⊆ may := by decide) :
    s.Moves own may (t.rangeHit g) := by
  refine h.andThen hm ?_
  unfold State.rangeHit
  exact .lgMod (.stick (.bump (.refl _)))

theorem loadWords (h : s.Moves own may t) {g : Nat} {ws : List Word} (hm : (.pwm :: logParts) ⊆ may := by decide) :
    s.Moves own may (t.loadWords g ws) := by
  refine h.andThen hm ?_
  unfold State.loadWords
  extract_lets +onlyGivenNames s1 w6 s2 w7
  have hs1 : t.Moves own (.pwm :: logParts) s1 := by
    refine .foldl (fun v k hv => ?_) (.refl _)
    extract_lets +onlyGivenNames w
    exact .ite hv.setRegN hv.rangeHit
  have hs2 : t.Moves own (.pwm :: logParts) s2 := .ite hs1.setRegN (.ite hs1.setRegN hs1.rangeHit)
  exact .ite hs2.setRegN.rangeHit hs2.setRegN

theorem reloadCh (h : s.Moves own may t) {n r : Nat} (hm : (.pwm :: logParts) ⊆ may := by decide) : s.Moves own may (t.reloadCh n r) := by
  refine h.andThen hm ?_
  unfold State.reloadCh
  extract_lets +onlyGivenNames c
  refine .ite ?_ (.chMod (.refl _))
  extract_lets +onlyGivenNames stop hold
  cases stop with
  | none => exact .chMod (.refl _)
  | some => exact .ite (.chMod (.shortPulse (.refl _))) (.chMod (.refl _))

theorem loadSet (h : s.Moves own may t) {g : Nat} {r : Nat} {ws : List Word} {cidx : Nat} (hm : (.pwm :: logParts) ⊆ may := by decide) :
    s.Moves own may (t.loadSet g r ws cidx) := by
  refine h.andThen hm ?_
  unfold State.loadSet
  extract_lets +onlyGivenNames old s1 new s2
  have hs1 : t.Moves own (.pwm :: logParts) s1 := .setRegN (.loadWords (.refl _))
  have hs2 : t.Moves own (.pwm :: logParts) s2 := .foldl (fun _ _ hv => .ite hv.dropCarry hv) hs1
  exact .ite hs2 (.foldl (fun _ _ hv => hv.reloadCh) hs2)

theorem engineReload (h : s.Moves own may t) {g : Nat} {r : Nat} (hm : (.pwm :: logParts) ⊆ may := by decide) :
    s.Moves own may (t.engineReload g r) := by
  refine h.andThen hm ?_
  unfold State.engineReload
  extract_lets +onlyGivenNames l
  refine .ite ?_ ?_
  · exact .loadSet (.refl _)
  · extract_lets +onlyGivenNames c
    clear_value c
    split
    · exact .loadSet (.refl _)
    · exact .refl _

theorem hostReload (h : s.Moves own may t) {g : Nat} {r : Nat} (hm : (.pwm :: logParts) ⊆ may := by decide) :
    s.Moves own may (t.hostReload g r) := by
  refine h.andThen hm ?_
  unfold State.hostReload
  refine .ite ?_ ?_
  · extract_lets +onlyGivenNames ws
    exact .setFld (.loadSet (.refl _))
  · exact .refl _

theorem skipPulse (h : s.Moves own may t) {n : Nat} {p : OnPlan} (hm : [.pwm] ⊆ may := by decide) :
    s.Moves own may (t.skipPulse n p) := by
  refine h.andThen hm ?_
  unfold State.skipPulse
  exact .chMod (.refl _)

theorem handleShort (h : s.Moves own may t) {n : Nat} {p : OnPlan} {e : Nat} (hm : (.cmp :: .pwm :: .gl :: logParts) ⊆ may := by decide) :
    s.Moves own may (t.handleShort n p e) := by
  refine h.andThen hm ?_
  unfold State.handleShort
  extract_lets +onlyGivenNames s1 spp
  have hs1 : t.Moves own (.cmp :: .pwm :: .gl :: logParts) s1 := .shortPulse (.refl _)
  refine .ite ?_ ?_
  · exact hs1.driveOn
  · extract_lets +onlyGivenNames s2
    have hs2 : t.Moves own (.cmp :: .pwm :: .gl :: logParts) s2 := hs1.skipPulse
    refine .ite ?_ ?_
    · extract_lets +onlyGivenNames room s3
      have hs3 : t.Moves own (.cmp :: .pwm :: .gl :: logParts) s3 := hs2.chMod
      exact hs3.stickIf
    · exact hs2

theorem ilCount (h : s.Moves own may t) {n : Nat} {p : OnPlan} (hm : (.pwm :: logParts) ⊆ may := by decide) :
    s.Moves own may (t.ilCount n p) := by
  refine h.andThen hm ?_
  unfold State.ilCount
  exact .ite (.lgMod (.stick (.bump (.refl _)))) (.refl _)

theorem nextEdge (h : s.Moves own may t) {n : Nat} (hm : (.gt :: .cmp :: .pwm :: .gl :: logParts) ⊆ may := by decide) :
    s.Moves own may (t.nextEdge n) := by
  refine h.andThen hm ?_
  unfold State.nextEdge
  extract_lets +onlyGivenNames s g c limit
  have hs : t.Moves own (.gt :: .cmp :: .pwm :: .gl :: logParts) s := .ite (.refl _) (.dropCarry (.refl _))
  refine .ite ?_ ?_
  · split
    · exact .ite hs.gtTo.driveOff hs
    · exact hs
  · split
    · exact hs
    · refine .ite ?_ ?_
      · exact hs
      · extract_lets +onlyGivenNames s1
        have hs1 : t.Moves own (.gt :: .cmp :: .pwm :: .gl :: logParts) s1 := hs.gtTo
        refine .ite ?_ ?_
        · exact hs1.skipPulse
        · extract_lets +onlyGivenNames s2
          have hs2 : t.Moves own (.gt :: .cmp :: .pwm :: .gl :: logParts) s2 := hs1.ilCount
          split
          · exact .ite hs2.handleShort hs2.driveOn
          · exact hs2.driveOn

theorem demandView (h : s.Moves own may t) (hm : [.regs] ⊆ may := by decide) :
    s.Moves own may (t.demandView) := by
  refine h.andThen hm ?_
  unfold State.demandView
  exact .setRegN (.refl _)

theorem spoLatch (h : s.Moves own may t) {v : Nat} {cause : Nat} {src : Nat} (hm : (.pwm :: .safe :: logParts) ⊆ may := by decide) :
    s.Moves own may (t.spoLatch v cause src) := by
  refine h.andThen hm ?_
  unfold State.spoLatch
  extract_lets +onlyGivenNames s1
  have hs1 : t.Moves own (.pwm :: .safe :: logParts) s1 := .setFld (.refl _)
  refine .ite ?_ ?_
  · exact hs1
  · extract_lets +onlyGivenNames s2 src' s3
    have hs2 : t.Moves own (.pwm :: .safe :: logParts) s2 := hs1.setBit.setFld.setFld.bump.stick
    have hs3 : t.Moves own (.pwm :: .safe :: logParts) s3 := .set_safe hs2 (by simp [SafeState.Sized, Tab.mod, src']) (fun h => ⟨h, rfl⟩)
    exact .foldl (fun _ _ hv => hv.dropCarries) hs3

theorem soutOff (h : s.Moves own may t) {j : Nat} (hm : [.regs, .safe] ⊆ may := by decide) :
    s.Moves own may (t.soutOff j) := by
  refine h.andThen hm ?_
  unfold State.soutOff
  have ht : t.Moves own [.regs, .safe] t := .refl t
  extract_lets +onlyGivenNames src t'
  have ht' : t.Moves own [.regs, .safe] t' := .set_safe (.refl _) (by simp [SafeState.Sized, Tab.mod, src]) (fun h => ⟨h, rfl⟩)
  exact ht'.setFld.setFld.setFld

theorem soutCheck (h : s.Moves own may t) (hm : [.regs, .safe] ⊆ may := by decide) :
    s.Moves own may (t.soutCheck) := by
  refine h.andThen hm ?_
  unfold State.soutCheck
  exact .foldl (fun _ _ hv => .ite hv.soutOff hv) (.refl _)

theorem demandOn (h : s.Moves own may t) {cause : Nat} {src : Nat} {convs : Nat} (hm : (.pwm :: .safe :: logParts) ⊆ may := by decide) :
    s.Moves own may (t.demandOn cause src convs) := by
  refine h.andThen hm ?_
  unfold State.demandOn
  extract_lets +onlyGivenNames ds src' s1
  have hs1 : t.Moves own (.pwm :: .safe :: logParts) s1 := .set_safe (.refl _) (by simp [SafeState.Sized, Tab.mod, src', ds]) (fun h => ⟨h, rfl⟩)
  exact .soutCheck (.demandView (.foldl (fun _ _ hv => hv.spoLatch) hs1))

theorem demandOff (h : s.Moves own may t) {cause : Nat} {src : Nat} {convs : Nat} (hm : [.regs, .safe] ⊆ may := by decide) :
    s.Moves own may (t.demandOff cause src convs) := by
  refine h.andThen hm ?_
  unfold State.demandOff
  exact .demandView (.set_safe (.refl _))

theorem demandDrop (h : s.Moves own may t) {cause : Nat} {src : Nat} (hm : [.regs, .safe] ⊆ may := by decide) :
    s.Moves own may (t.demandDrop cause src) := by
  refine h.andThen hm ?_
  unfold State.demandDrop
  exact .demandView (.set_safe (.refl _))

theorem demandSet (h : s.Moves own may t) {hold : Bool} {cause : Nat} {src : Nat} {convs : Nat} (hm : (.pwm :: .safe :: logParts) ⊆ may := by decide) :
    s.Moves own may (t.demandSet hold cause src convs) := by
  refine h.andThen hm ?_
  unfold State.demandSet
  exact .ite (.ite (.refl _) (.demandOn (.refl _))) (.ite (.demandOff (.refl _)) (.refl _))

theorem demandPulse (h : s.Moves own may t) {cause : Nat} {src : Nat} {convs : Nat} (hm : (.pwm :: .safe :: logParts) ⊆ may := by decide) :
    s.Moves own may (t.demandPulse cause src convs) := by
  refine h.andThen hm ?_
  unfold State.demandPulse
  exact .soutCheck (.demandView (.foldl (fun _ _ hv => hv.spoLatch) (.refl _)))

theorem spoClear (h : s.Moves own may t) {v : Nat} (hm : [.regs, .pwm, .gl, .safe] ⊆ may := by decide) : s.Moves own may (t.spoClear v) := by
  refine h.andThen hm ?_
  unfold State.spoClear
  refine .ite (.refl _) ?_
  extract_lets +onlyGivenNames s1 src src' s2
  have hs1 : t.Moves own [.regs, .pwm, .gl, .safe] s1 := .setFld (.setFld (.setBit (.refl _)))
  have hs2 : t.Moves own [.regs, .pwm, .gl, .safe] s2 := by
    clear_value s1
    exact hs1.set_parts (m := [.gl, .safe]) (by simp [State.keeps, s2]) id
      (fun z => { z with gl := z.gl, safe := by simpa [SafeState.Sized, Tab.mod, s2, src'] using z.safe }) rfl fun h => ⟨h, rfl⟩
  exact .foldl (fun _ _ hv => .ite hv.lgMod hv) hs2

theorem safeState (h : s.Moves own may t) (hm : (.pwm :: .safe :: logParts) ⊆ may := by decide) :
    s.Moves own may (t.safeState) := by
  refine h.andThen hm ?_
  unfold State.safeState
  extract_lets +onlyGivenNames src s1 s2 s3 s4
  have hs1 : t.Moves own (.pwm :: .safe :: logParts) s1 := .set_safe (.refl _) (by simp [SafeState.Sized, Tab.mod, src]) (fun h => ⟨h, rfl⟩)
  have hs2 : t.Moves own (.pwm :: .safe :: logParts) s2 := hs1.setFld
  have hs3 : t.Moves own (.pwm :: .safe :: logParts) s3 := hs2.demandPulse
  have hs4 : t.Moves own (.pwm :: .safe :: logParts) s4 := .foldl (fun _ _ hv => hv.soutOff) hs3
  exact hs4.stick.logRec

theorem send (h : s.Moves own may t) {port : Nat} {bytes : List Byte} (hm : [.out] ⊆ may := by decide) :
    s.Moves own may (t.send port bytes) := by
  refine h.andThen hm ?_
  unfold State.send
  exact .set_out (.refl _)

theorem coreMod (h : s.Moves own may t) {c : Nat} {f : AdcCore → AdcCore} (hm : [.ana] ⊆ may := by decide) :
    s.Moves own may (t.coreMod c f) := by
  refine h.andThen hm ?_
  unfold State.coreMod
  exact .set_ana (.refl _)

theorem sdfMod (h : s.Moves own may t) {n : Nat} {f : SdfCh → SdfCh} (hm : [.ana] ⊆ may := by decide) :
    s.Moves own may (t.sdfMod n f) := by
  refine h.andThen hm ?_
  unfold State.sdfMod
  exact .set_ana (.refl _)

theorem adcTrig (h : s.Moves own may t) {c : Nat} {inj : Bool} (hm : (.ana :: logParts) ⊆ may := by decide) :
    s.Moves own may (t.adcTrig c inj) := by
  refine h.andThen hm ?_
  unfold State.adcTrig
  refine .ite ?_ ?_
  · exact .refl _
  · refine .ite ?_ ?_
    · exact .ite (.setFld (.coreMod (.refl _))) (.coreMod (.stick (.bump (.refl _))))
    · exact .ite (.setFld (.coreMod (.refl _))) (.coreMod (.stick (.bump (.refl _))))

theorem adcFire (h : s.Moves own may t) {code : Nat} (hm : (.ana :: logParts) ⊆ may := by decide) :
    s.Moves own may (t.adcFire code) := by
  refine h.andThen hm ?_
  unfold State.adcFire
  refine .foldl (fun v k hv => ?_) (.refl _)
  extract_lets +onlyGivenNames t1
  have ht1 : t.Moves own (.ana :: logParts) t1 := .ite hv.adcTrig hv
  exact .ite ht1.adcTrig ht1

theorem tripGroup (h : s.Moves own may t) {g : Nat} (hm : (.cmp :: .pwm :: .gl :: logParts) ⊆ may := by decide) :
    s.Moves own may (t.tripGroup g) := by
  refine h.andThen hm ?_
  unfold State.tripGroup
  extract_lets +onlyGivenNames cbcM latM l s1
  have hs1 : t.Moves own (.cmp :: .pwm :: .gl :: logParts) s1 := .ite (.forceIdeal (.dropCarries (.stick (.lgMod (.refl _))))) (.refl _)
  refine .ite ?_ ?_
  · extract_lets +onlyGivenNames b s2
    have hs2 : t.Moves own (.cmp :: .pwm :: .gl :: logParts) s2 := hs1.lgMod.stick.dropCarries.forceIdeal
    exact hs2.logRec
  · exact hs1

theorem tripEval (h : s.Moves own may t) (hm : (.cmp :: .pwm :: .gl :: logParts) ⊆ may := by decide) : s.Moves own may t.tripEval := by
  refine h.andThen hm ?_
  unfold State.tripEval
  have ht : t.Moves own (.cmp :: .pwm :: .gl :: logParts) t := .refl t
  exact .ite ht (.foldl (fun _ _ hv => .ite hv.tripGroup hv) ht.set_cmp.setFld)

theorem cmpMod (h : s.Moves own may t) {n : Nat} {f : CmpState → CmpState} (hm : [.cmp] ⊆ may := by decide) :
    s.Moves own may (t.cmpMod n f) := by
  refine h.andThen hm ?_
  unfold State.cmpMod
  exact .set_cmp (.refl _)

theorem windowCheck (h : s.Moves own may t) {n : Nat} (hm : logParts ⊆ may := by decide) :
    s.Moves own may (t.windowCheck n) := by
  refine h.andThen hm ?_
  unfold State.windowCheck
  extract_lets +onlyGivenNames w st
  refine .ite ?_ ?_
  · exact .refl _
  · extract_lets +onlyGivenNames s1
    have hs1 : t.Moves own logParts s1 := .setFld (.refl _)
    exact .ite hs1.stick.logRec hs1

theorem wakeCmp (h : s.Moves own may t) {n : Nat} (hm : (.cmp :: .pwr :: logParts) ⊆ may := by decide) :
    s.Moves own may (t.wakeCmp n) := by
  refine h.andThen hm ?_
  unfold State.wakeCmp
  extract_lets +onlyGivenNames c
  refine .ite ?_ ?_
  · exact .refl _
  · extract_lets +onlyGivenNames s1
    have hs1 : t.Moves own (.cmp :: .pwr :: logParts) s1 := .cmpMod (.refl _)
    split
    · exact hs1.set_pwr
    · exact hs1.logRec
    · exact hs1

theorem cmpView (h : s.Moves own may t) {n : Nat} (hm : [.regs] ⊆ may := by decide) :
    s.Moves own may (t.cmpView n) := by
  refine h.andThen hm ?_
  unfold State.cmpView
  extract_lets +onlyGivenNames c
  exact .setRegN (.refl _)

theorem cmpRoute (h : s.Moves own may t) {n : Nat} (hm : (.ana :: .cmp :: .pwm :: .gl :: .safe :: .pwr :: logParts) ⊆ may := by decide) :
    s.Moves own may (t.cmpRoute n) := by
  refine h.andThen hm ?_
  unfold State.cmpRoute
  extract_lets +onlyGivenNames v
  refine .ite ?_ ?_
  · exact .cmpView (.refl _)
  · extract_lets +onlyGivenNames s1 s2 s3 s4
    have hs1 : t.Moves own (.ana :: .cmp :: .pwm :: .gl :: .safe :: .pwr :: logParts) s1 := .cmpMod (.refl _)
    have hs2 : t.Moves own (.ana :: .cmp :: .pwm :: .gl :: .safe :: .pwr :: logParts) s2 := hs1.cmpView.windowCheck
    have hs3 : t.Moves own (.ana :: .cmp :: .pwm :: .gl :: .safe :: .pwr :: logParts) s3 := .ite hs2.adcFire.wakeCmp hs2
    have hs4 : t.Moves own (.ana :: .cmp :: .pwm :: .gl :: .safe :: .pwr :: logParts) s4 := .ite hs3.demandSet hs3
    exact hs4.tripEval

theorem glView (h : s.Moves own may t) {g : Nat} (hm : [.regs] ⊆ may := by decide) :
    s.Moves own may (t.glView g) := by
  refine h.andThen hm ?_
  unfold State.glView
  extract_lets +onlyGivenNames m
  exact .setRegN (.refl _)

theorem glLatch (h : s.Moves own may t) {n : Nat} (hm : (.gl :: logParts) ⊆ may := by decide) :
    s.Moves own may (t.glLatch n) := by
  refine h.andThen hm ?_
  unfold State.glLatch
  exact .glView (.stick (.glMod (.refl _)))

theorem escalate (h : s.Moves own may t) {v : Nat} (hm : (.pwm :: .gl :: .safe :: logParts) ⊆ may := by decide) :
    s.Moves own may (t.escalate v) := by
  refine h.andThen hm ?_
  unfold State.escalate
  extract_lets +onlyGivenNames legs
  refine .ite ?_ ?_
  · exact .refl _
  · refine .ite ?_ ?_
    · exact .demandSet (.refl _)
    · extract_lets +onlyGivenNames src s1 s2 s3
      have hs1 : t.Moves own (.pwm :: .gl :: .safe :: logParts) s1 := .set_gl (.refl _) (fun z => by simpa [GlState.Sized, Tab.mod] using z)
      have hs2 : t.Moves own (.pwm :: .gl :: .safe :: logParts) s2 := hs1.demandOn
      have hs3 : t.Moves own (.pwm :: .gl :: .safe :: logParts) s3 := .foldl (fun _ _ hv => .ite hv.glLatch hv) hs2
      exact hs3.stick.logRec

theorem declareFault (h : s.Moves own may t) {n : Nat} {cause : Nat} (hm : (.cmp :: .pwm :: .gl :: .safe :: logParts) ⊆ may := by decide) :
    s.Moves own may (t.declareFault n cause) := by
  refine h.andThen hm ?_
  unfold State.declareFault
  refine .ite ?_ ?_
  · exact .refl _
  · extract_lets +onlyGivenNames g tries wait escal latch s1 s2 s3 s4 s5
    have hs1 : t.Moves own (.cmp :: .pwm :: .gl :: .safe :: logParts) s1 := .glMod (.refl _)
    have hs2 : t.Moves own (.cmp :: .pwm :: .gl :: .safe :: logParts) s2 := hs1.forceOff.dropCarry.stick.bump
    have hs3 : t.Moves own (.cmp :: .pwm :: .gl :: .safe :: logParts) s3 := hs2.stickIf
    have hs4 : t.Moves own (.cmp :: .pwm :: .gl :: .safe :: logParts) s4 := hs3.logRec
    have hs5 : t.Moves own (.cmp :: .pwm :: .gl :: .safe :: logParts) s5 := .ite hs4.glLatch hs4.glView
    refine .ite ?_ ?_
    · extract_lets +onlyGivenNames src s6
      have hs6 : t.Moves own (.cmp :: .pwm :: .gl :: .safe :: logParts) s6 := .set_gl hs5 (fun z => by simpa [GlState.Sized, Tab.mod] using z)
      split
      · exact hs6.escalate
      · exact hs6
    · exact hs5

theorem setTagOut (h : s.Moves own may t) {tag : Nat} {b : Bool} (hm : [.regs] ⊆ may := by decide) :
    s.Moves own may (t.setTagOut tag b) := by
  refine h.andThen hm ?_
  unfold State.setTagOut
  exact .ite (.setBit (.refl _)) (.setBit (.refl _))

theorem setWords (h : s.Moves own may t) {a : Nat} {ws : List Word} (hm : [.regs] ⊆ may := by decide) :
    s.Moves own may (t.setWords a ws) := by
  refine h.andThen hm ?_
  unfold State.setWords
  exact .foldl (fun _ _ hv => hv.setReg) (.refl _)

theorem cqWrite (h : s.Moves own may t) {c : MComp} (hm : [.regs, .mbx, .out] ⊆ may := by decide) :
    s.Moves own may (t.cqWrite c) := by
  refine h.andThen hm ?_
  unfold State.cqWrite
  extract_lets +onlyGivenNames t' s1 src s2 src' s3
  have hs1 : t.Moves own [.regs, .mbx, .out] s1 := .setFld (.setWords (.refl _))
  have hs2 : t.Moves own [.regs, .mbx, .out] s2 := .ite (.set_mbx hs1 (fun z => by simpa [MbxState.Sized, Tab.mod] using z)) hs1
  have hs3 : t.Moves own [.regs, .mbx, .out] s3 := .ite hs2.set_out hs2
  exact .ite hs3 hs3.setTagOut

theorem cqDrain (h : s.Moves own may t) {q fuel : Nat} (hm : [.regs, .mbx, .out] ⊆ may := by decide) : s.Moves own may (State.cqDrain q fuel t) := by
  refine h.andThen hm ?_
  suffices H : ∀ u, t.Moves own [.regs, .mbx, .out] u → t.Moves own [.regs, .mbx, .out] (State.cqDrain q fuel u) from H t (.refl t)
  induction fuel with
  | zero => exact fun _ hu => hu
  | succ fuel ih =>
    intro u hu
    unfold State.cqDrain
    split
    · exact hu
    · exact .ite hu (ih _ (.cqWrite (hu.set_mbx (by simp [MbxState.Sized, Tab.mod]))))

theorem postComp (h : s.Moves own may t) {c : MComp} (hm : [.regs, .mbx, .out] ⊆ may := by decide) :
    s.Moves own may (t.postComp c) := by
  refine h.andThen hm ?_
  unfold State.postComp
  exact .cqDrain (.set_mbx (.refl _))

theorem mboxReady (h : s.Moves own may t) (hm : [.regs] ⊆ may := by decide) :
    s.Moves own may (t.mboxReady) := by
  refine h.andThen hm ?_
  unfold State.mboxReady
  exact .ite (.setFld (.setFld (.refl _))) (.refl _)

theorem finish (h : s.Moves own may t) {tag : Nat} {status : Nat} {result : Word} {dlen : Nat} {cidx : Nat} {v0 : Word} {v1 : Word} (hm : [.regs, .mbx, .out] ⊆ may := by decide) :
    s.Moves own may (t.finish tag status result dlen cidx v0 v1) := by
  refine h.andThen hm ?_
  unfold State.finish
  refine .ite ?_ ?_
  · exact .refl _
  · split
    · exact .refl _
    · extract_lets +onlyGivenNames src s1
      have hs1 : t.Moves own [.regs, .mbx, .out] s1 := .set_mbx (.refl _) (fun z => by simpa [MbxState.Sized, Tab.mod] using z)
      exact .ite hs1.mboxReady hs1.postComp

theorem finishOpt (h : s.Moves own may t) {tag : Option Nat} {status : Nat} {cidx : Nat} (hm : [.regs, .mbx, .out] ⊆ may := by decide) :
    s.Moves own may (t.finishOpt tag status cidx) := by
  refine h.andThen hm ?_
  unfold State.finishOpt
  split
  · exact .finish (.refl _)
  · exact .refl _

theorem closeSession (h : s.Moves own may t) {code : Nat} (hm : logParts ⊆ may := by decide) : s.Moves own may (t.closeSession code) := by
  refine h.andThen hm ?_
  unfold State.closeSession
  refine .ite ?_ (.refl _)
  extract_lets +onlyGivenNames u
  have hu : t.Moves own logParts u := .logRec (.refl _)
  exact hu.set_mbx.setReg.setReg.setFld

theorem bankMod (h : s.Moves own may t) {b : Nat} {f : RecBank → RecBank} (hm : [.hop] ⊆ may := by decide) :
    s.Moves own may (t.bankMod b f) := by
  refine h.andThen hm ?_
  unfold State.bankMod
  exact .set_hop (.refl _)

theorem trackMod (h : s.Moves own may t) {a : Nat} {f : RecTrack → RecTrack} (hm : [.hop] ⊆ may := by decide) :
    s.Moves own may (t.trackMod a f) := by
  refine h.andThen hm ?_
  unfold State.trackMod
  exact .set_hop (.refl _)

theorem setRec (h : s.Moves own may t) {n : Nat} (hm : [.regs] ⊆ may := by decide) :
    s.Moves own may (t.setRec n) := by
  refine h.andThen hm ?_
  unfold State.setRec
  exact .setFld (.refl _)

theorem bankView (h : s.Moves own may t) {b : Nat} (hm : [.regs] ⊆ may := by decide) :
    s.Moves own may (t.bankView b) := by
  refine h.andThen hm ?_
  unfold State.bankView
  extract_lets +onlyGivenNames y
  exact .setFld (.setRegN (.refl _))

theorem bankPut (h : s.Moves own may t) {b : Nat} {w : DWord} (hm : [.hop] ⊆ may := by decide) :
    s.Moves own may (t.bankPut b w) := by
  refine h.andThen hm ?_
  unfold State.bankPut
  exact .bankMod (.refl _)

theorem recPut (h : s.Moves own may t) {b : Nat} {w : DWord} (hm : [.regs, .hop] ⊆ may := by decide) :
    s.Moves own may (t.recPut b w) := by
  refine h.andThen hm ?_
  unfold State.recPut
  exact .bump (.bankPut (.refl _))

theorem recDone (h : s.Moves own may t) (hm : [.regs] ⊆ may := by decide) :
    s.Moves own may (t.recDone) := by
  refine h.andThen hm ?_
  unfold State.recDone
  refine .ite ?_ ?_
  · extract_lets +onlyGivenNames one
    exact .setFld (.setRec (.refl _))
  · exact .refl _

theorem bankClose (h : s.Moves own may t) {b : Nat} {cause : Nat} {t' : Nat} (hm : [.regs, .hop] ⊆ may := by decide) :
    s.Moves own may (t.bankClose b cause t') := by
  refine h.andThen hm ?_
  unfold State.bankClose
  extract_lets +onlyGivenNames s1
  have hs1 : t.Moves own [.regs, .hop] s1 := .setFld (.bankMod (.refl _))
  exact .ite hs1.setFld hs1

theorem bankOpen (h : s.Moves own may t) {b : Nat} {t' : Nat} {start : Bool} {changed : Word} (hm : (.hop :: logParts) ⊆ may := by decide) :
    s.Moves own may (t.bankOpen b t' start changed) := by
  refine h.andThen hm ?_
  unfold State.bankOpen
  extract_lets +onlyGivenNames y n
  refine .ite ?_ ?_
  · exact .stick (.bankClose (.refl _))
  · extract_lets +onlyGivenNames base keys s1 s2
    have hs1 : t.Moves own (.hop :: logParts) s1 := .bankMod (.refl _)
    have hs2 : t.Moves own (.hop :: logParts) s2 := hs1.bankPut
    refine .ite ?_ ?_
    · exact hs2
    · extract_lets +onlyGivenNames f
      exact hs2.recPut

theorem slotOne (h : s.Moves own may t) {b : Nat} {t' : Nat} (hm : [.regs, .hop] ⊆ may := by decide) :
    s.Moves own may (t.slotOne b t') := by
  refine h.andThen hm ?_
  unfold State.slotOne
  extract_lets +onlyGivenNames y
  split
  · exact .recPut (.bankMod (.refl _))
  · exact .refl _

theorem bankDrain (h : s.Moves own may t) {b tick fuel : Nat} (hm : (.hop :: logParts) ⊆ may := by decide) :
    s.Moves own may (State.bankDrain b tick fuel t) := by
  refine h.andThen hm ?_
  suffices H : ∀ u, t.Moves own (.hop :: logParts) u → t.Moves own (.hop :: logParts) (State.bankDrain b tick fuel u) from H t (.refl t)
  induction fuel with
  | zero => exact fun _ hu => hu
  | succ fuel ih =>
    intro u hu
    unfold State.bankDrain
    exact .ite hu (ih _ (.ite hu.bankOpen hu.slotOne))

theorem bankAt (h : s.Moves own may t) {b : Nat} {t' : Nat} (hm : (.hop :: logParts) ⊆ may := by decide) :
    s.Moves own may (t.bankAt b t') := by
  refine h.andThen hm ?_
  unfold State.bankAt
  extract_lets +onlyGivenNames s1
  have hs1 : t.Moves own (.hop :: logParts) s1 := .bankDrain (.refl _)
  exact hs1.bankMod

theorem digital (h : s.Moves own may t) {b : Nat} {t' : Nat} {changed : Word} (hm : (.hop :: logParts) ⊆ may := by decide) :
    s.Moves own may (t.digital b t' changed) := by
  refine h.andThen hm ?_
  unfold State.digital
  extract_lets +onlyGivenNames s1 y
  have hs1 : t.Moves own (.hop :: logParts) s1 := .bankAt (.refl _)
  refine .ite ?_ ?_
  · exact hs1
  · refine .ite ?_ ?_
    · exact hs1.bankOpen
    · extract_lets +onlyGivenNames s2 f
      have hs2 : t.Moves own (.hop :: logParts) s2 := .ite hs1.slotOne hs1
      exact hs2.recPut

theorem analog (h : s.Moves own may t) {a : Nat} {t' : Nat} {v : Word} (hm : (.hop :: logParts) ⊆ may := by decide) :
    s.Moves own may (t.analog a t' v) := by
  refine h.andThen hm ?_
  unfold State.analog
  extract_lets +onlyGivenNames b s1
  have hs1 : t.Moves own (.hop :: logParts) s1 := .bankAt (.refl _)
  refine .ite ?_ ?_
  · exact hs1
  · extract_lets +onlyGivenNames s2
    have hs2 : t.Moves own (.hop :: logParts) s2 := .ite hs1.bankOpen hs1
    exact .ite hs2.bankMod.trackMod hs2

theorem bankTrigger (h : s.Moves own may t) {b : Nat} {t' : Nat} (hm : (.hop :: logParts) ⊆ may := by decide) :
    s.Moves own may (t.bankTrigger b t') := by
  refine h.andThen hm ?_
  unfold State.bankTrigger
  extract_lets +onlyGivenNames y
  refine .ite ?_ ?_
  · exact .refl _
  · extract_lets +onlyGivenNames from_ cut p ext
    exact .setFld (.stickIf (.bankMod (.refl _)))

theorem recTrigger (h : s.Moves own may t) {t' : Nat} {src : Nat} (hm : (.hop :: logParts) ⊆ may := by decide) :
    s.Moves own may (t.recTrigger t' src) := by
  refine h.andThen hm ?_
  unfold State.recTrigger
  split
  · extract_lets +onlyGivenNames s0 src' s1 s2
    have hs0 : t.Moves own (.hop :: logParts) s0 := .foldl (fun _ k hv => hv.bankAt) (.refl _)
    have hs1 : t.Moves own (.hop :: logParts) s1 := .set_hop hs0 (fun z => by simpa [RecState.Sized, Tab.mod] using z)
    have hs2 : t.Moves own (.hop :: logParts) s2 := hs1.setRegN.setRegN.setRegN
    exact .recDone (.setRec (.foldl (fun _ k hv => hv.bankTrigger) hs2))
  · exact .ite (.setRegN (.refl _)) (.bump (.refl _))
  · exact .stick (.bump (.refl _))
  · exact .stick (.bump (.refl _))
  · exact .refl _

theorem recArm (h : s.Moves own may t) (hm : [.regs, .hop] ⊆ may := by decide) : s.Moves own may t.recArm := by
  refine h.andThen hm ?_
  unfold State.recArm
  refine .ite (.refl _) ?_
  extract_lets +onlyGivenNames tick banks s1 s2 s3
  have hs1 : t.Moves own [.regs, .hop] s1 := .set_hop (.refl _) (fun z => ⟨by simpa [banks] using z.1, rfl⟩)
  have hs2 : t.Moves own [.regs, .hop] s2 := hs1.setRec.setFld.setRegN
  have hs3 : t.Moves own [.regs, .hop] s3 := hs2.setRegN.setRegN
  exact .foldl (fun _ _ hv => hv.setRegN.setRegN.setRegN.setRegN.setRegN) hs3

theorem recArmed (h : s.Moves own may t) (hm : (.gt :: .hop :: logParts) ⊆ may := by decide) :
    s.Moves own may (t.recArmed) := by
  refine h.andThen hm ?_
  unfold State.recArmed
  extract_lets +onlyGivenNames s0 t' src s1
  have hs0 : t.Moves own (.gt :: .hop :: logParts) s0 := .gtTo (.refl _)
  have hs1 : t.Moves own (.gt :: .hop :: logParts) s1 := .setRegN (.setRegN (.setRec (.set_hop hs0 (fun z => by simpa [RecState.Sized, Tab.mod] using z))))
  exact .foldl (fun _ k hv => .ite hv.bankMod.bankOpen.bankView hv) hs1

theorem recEnd (h : s.Moves own may t) {cause : Nat} {t' : Nat} (hm : (.hop :: logParts) ⊆ may := by decide) :
    s.Moves own may (t.recEnd cause t') := by
  refine h.andThen hm ?_
  unfold State.recEnd
  refine .ite ?_ ?_
  · exact .refl _
  · extract_lets +onlyGivenNames s1
    have hs1 : t.Moves own (.hop :: logParts) s1 := .foldl (fun _ k hv => .ite hv.bankAt.bankClose.bankView hv) (.refl _)
    exact hs1.setRec.setFld.stickIf

theorem recPostEnd (h : s.Moves own may t) (hm : (.gt :: .hop :: logParts) ⊆ may := by decide) :
    s.Moves own may (t.recPostEnd) := by
  refine h.andThen hm ?_
  unfold State.recPostEnd
  refine .ite ?_ ?_
  · exact .refl _
  · extract_lets +onlyGivenNames t' s1
    have hs1 : t.Moves own (.gt :: .hop :: logParts) s1 := .gtTo (.refl _)
    exact .recDone (.foldl (fun _ k hv => .ite hv.bankAt.bankClose.bankView hv) hs1)

theorem trackChange (h : s.Moves own may t) {g : Nat} (hm : (.gt :: .hop :: logParts) ⊆ may := by decide) :
    s.Moves own may (t.trackChange g) := by
  refine h.andThen hm ?_
  unfold State.trackChange
  refine .ite ?_ ?_
  · exact .refl _
  · extract_lets +onlyGivenNames t' s1 v old
    have hs1 : t.Moves own (.gt :: .hop :: logParts) s1 := .gtTo (.refl _)
    refine .ite ?_ ?_
    · exact hs1.bankMod
    · refine .ite ?_ ?_
      · exact hs1
      · extract_lets +onlyGivenNames ch s2 s3 hit
        have hs2 : t.Moves own (.gt :: .hop :: logParts) s2 := hs1.bankMod
        have hs3 : t.Moves own (.gt :: .hop :: logParts) s3 := .ite hs2.digital.bankView.recDone hs2
        exact .ite hs3.recTrigger hs3

theorem analogSample (h : s.Moves own may t) {a : Nat} (hm : (.gt :: .hop :: logParts) ⊆ may := by decide) :
    s.Moves own may (t.analogSample a) := by
  refine h.andThen hm ?_
  unfold State.analogSample
  refine .ite ?_ ?_
  · exact .refl _
  · extract_lets +onlyGivenNames per t' s1 r val
    have hs1 : t.Moves own (.gt :: .hop :: logParts) s1 := .gtTo (.refl _)
    clear_value val
    split
    · exact hs1
    · extract_lets +onlyGivenNames y far s2 lv trig rise fall s3
      have hs2 : t.Moves own (.gt :: .hop :: logParts) s2 := .ite hs1.analog.bankView.recDone hs1
      have hs3 : t.Moves own (.gt :: .hop :: logParts) s3 := hs2.trackMod
      exact .ite hs3.recTrigger hs3

theorem setQual (h : s.Moves own may t) {q : Nat} (hm : [.regs, .tim] ⊆ may := by decide) :
    s.Moves own may (t.setQual q) := by
  refine h.andThen hm ?_
  unfold State.setQual
  have ht : t.Moves own [.regs, .tim] t := .refl t
  extract_lets +onlyGivenNames t'
  have ht' : t.Moves own [.regs, .tim] t' := .setFld (.refl _)
  exact ht'.set_tim

theorem enterQual (h : s.Moves own may t) {q : Nat} (hm : (.pan :: .tim :: logParts) ⊆ may := by decide) :
    s.Moves own may (t.enterQual q) := by
  refine h.andThen hm ?_
  unfold State.enterQual
  refine .ite ?_ ?_
  · exact .refl _
  · extract_lets +onlyGivenNames s1
    have hs1 : t.Moves own (.pan :: .tim :: logParts) s1 := .stickIf (.setQual (.refl _))
    exact .ite hs1.set_pan.logRec hs1

theorem bigOffset (h : s.Moves own may t) {o : Int} (hm : (.tim :: logParts) ⊆ may := by decide) :
    s.Moves own may (t.bigOffset o) := by
  refine h.andThen hm ?_
  unfold State.bigOffset
  refine .ite ?_ ?_
  · exact .set_tim (.refl _)
  · extract_lets +onlyGivenNames r src s1
    have hs1 : t.Moves own (.tim :: logParts) s1 := .set_tim (.refl _) (fun z => by simpa [TimeState.Sized, Tab.mod] using z)
    exact hs1.setFld.stickIf

theorem servoRate (h : s.Moves own may t) (hm : [.regs, .tim, .freeN] ⊆ may := by decide) :
    s.Moves own may (t.servoRate) := by
  refine h.andThen hm ?_
  unfold State.servoRate
  extract_lets +onlyGivenNames r src src' s1
  have hsrc : t.Moves own [.regs, .tim, .freeN] src := .freeStep (.refl _)
  have hs1 : t.Moves own [.regs, .tim, .freeN] s1 := .set_tim hsrc (fun z => by simpa [TimeState.Sized, Tab.mod] using z)
  exact hs1.setFld

theorem measure (h : s.Moves own may t) {o : Int} (hm : (.pan :: .tim :: .freeN :: logParts) ⊆ may := by decide) :
    s.Moves own may (t.measure o) := by
  refine h.andThen hm ?_
  unfold State.measure
  extract_lets +onlyGivenNames s1 src s2
  have hs1 : t.Moves own (.pan :: .tim :: .freeN :: logParts) s1 := .setRegN (.refl _)
  have hs2 : t.Moves own (.pan :: .tim :: .freeN :: logParts) s2 := .set_tim hs1 (fun z => by simpa [TimeState.Sized, Tab.mod] using z)
  refine .ite ?_ ?_
  · exact hs2
  · extract_lets +onlyGivenNames near s3 fresh n src' s4
    have hs3 : t.Moves own (.pan :: .tim :: .freeN :: logParts) s3 := .ite hs2.bigOffset hs2.servoRate
    have hs4 : t.Moves own (.pan :: .tim :: .freeN :: logParts) s4 := .set_tim hs3 (fun z => by simpa [TimeState.Sized, Tab.mod] using z)
    exact .ite hs4 hs4.enterQual

theorem slipSchedule (h : s.Moves own may t) (hm : [.regs, .tim] ⊆ may := by decide) : s.Moves own may t.slipSchedule := by
  refine h.andThen hm ?_
  unfold State.slipSchedule
  extract_lets +onlyGivenNames ended s1 s2 acc sl acc2
  have hs1 : t.Moves own [.regs, .tim] s1 := by
    dsimp only [s1, ended]
    split
    · exact .bump (.refl _)
    · exact .bump (.refl _)
    · exact .refl _
  have hs2 : t.Moves own [.regs, .tim] s2 := by
    dsimp only [s2]
    split
    · exact hs1.setRegN
    · exact hs1
  exact hs2.set_tim

theorem adcHalt (h : s.Moves own may t) (hm : [.regs, .ana] ⊆ may := by decide) :
    s.Moves own may (t.adcHalt) := by
  refine h.andThen hm ?_
  unfold State.adcHalt
  extract_lets +onlyGivenNames src s1
  have hs1 : t.Moves own [.regs, .ana] s1 := .set_ana (.refl _) (fun z => by simpa [AnaState.Sized, Tab.mod] using z)
  exact .foldl (fun _ _ hv => hv.setFld.setFld) hs1

end Sys2Proof.Machine.State.Moves
end

section
/-!
PROOFS. One operation after another: safety functions, engines and their bindings, analog inputs, network.
-/
namespace Sys2Proof.Machine.State.Moves

-- A default argument by `decide` waits for every earlier proof, so the proofs here run one at a time.
set_option Elab.async false

variable {own may m : List Part} {s t u : State}

theorem adcReload (h : s.Moves own may t) (hm : [.regs, .ana] ⊆ may := by decide) :
    s.Moves own may (t.adcReload) := by
  refine h.andThen hm ?_
  unfold State.adcReload
  extract_lets +onlyGivenNames src s1
  have hs1 : t.Moves own [.regs, .ana] s1 := .set_ana (.refl _) (fun z => by simpa [AnaState.Sized, Tab.mod] using z)
  refine .foldl (fun v k hv => ?_) hs1
  split
  · exact hv.bump.coreMod
  · exact hv

theorem dllLoss (h : s.Moves own may t) (hm : (.pan :: .tim :: .ana :: .cmp :: .pwm :: .gl :: .hop :: logParts) ⊆ may := by decide) :
    s.Moves own may (t.dllLoss) := by
  refine h.andThen hm ?_
  unfold State.dllLoss
  extract_lets +onlyGivenNames s1 src s2
  have hs1 : t.Moves own (.pan :: .tim :: .ana :: .cmp :: .pwm :: .gl :: .hop :: logParts) s1 := .setFld (.refl _)
  have hs2 : t.Moves own (.pan :: .tim :: .ana :: .cmp :: .pwm :: .gl :: .hop :: logParts) s2 := .set_tim hs1 (fun z => by simpa [TimeState.Sized, Tab.mod] using z)
  exact hs2.allGcmdLow.adcHalt.recEnd.breachOf.enterQual

theorem startEntry (h : s.Moves own may t) {c : Nat} {inj : Bool} {t' : Nat} (hm : [.regs, .ana] ⊆ may := by decide) :
    s.Moves own may (t.startEntry c inj t') := by
  refine h.andThen hm ?_
  unfold State.startEntry
  extract_lets +onlyGivenNames q
  split
  · exact .refl _
  · exact .setFld (.coreMod (.refl _))

theorem abandon (h : s.Moves own may t) {c : Nat} (hm : [.regs, .ana] ⊆ may := by decide) :
    s.Moves own may (t.abandon c) := by
  refine h.andThen hm ?_
  unfold State.abandon
  split
  · exact .ite (.refl _) (.coreMod (.bump (.refl _)))
  · exact .refl _

theorem afterEntry (h : s.Moves own may t) {c : Nat} {inj : Bool} (hm : [.regs, .ana] ⊆ may := by decide) :
    s.Moves own may (t.afterEntry c inj) := by
  refine h.andThen hm ?_
  unfold State.afterEntry
  refine .ite ?_ ?_
  · extract_lets +onlyGivenNames s1
    have hs1 : t.Moves own [.regs, .ana] s1 := .coreMod (.refl _)
    refine .ite ?_ ?_
    · extract_lets +onlyGivenNames s2 p
      have hs2 : t.Moves own [.regs, .ana] s2 := hs1.coreMod.setFld
      exact .ite hs2.coreMod.startEntry hs2
    · exact hs1.startEntry
  · extract_lets +onlyGivenNames s1
    have hs1 : t.Moves own [.regs, .ana] s1 := .coreMod (.refl _)
    exact .ite hs1.coreMod.setFld hs1.startEntry

theorem calQueue (h : s.Moves own may t) {c : Nat} (hm : [.regs, .ana] ⊆ may := by decide) :
    s.Moves own may (t.calQueue c) := by
  refine h.andThen hm ?_
  unfold State.calQueue
  exact .ite (.refl _) (.setFld (.setFld (.coreMod (.refl _))))

theorem calTags (h : s.Moves own may t) {c : Nat} {ok : Bool} (hm : [.regs, .mbx, .out] ⊆ may := by decide) :
    s.Moves own may (t.calTags c ok) := by
  refine h.andThen hm ?_
  unfold State.calTags
  extract_lets +onlyGivenNames next
  exact .foldl (fun _ _ hv => hv.finish) (.set_mbx (.refl _))

theorem calEnd (h : s.Moves own may t) {c : Nat} {ok : Bool} (hm : [.regs, .ana] ⊆ may := by decide) :
    s.Moves own may (t.calEnd c ok) := by
  refine h.andThen hm ?_
  unfold State.calEnd
  exact .setFld (.setFld (.setFld (.coreMod (.refl _))))

theorem calFinish (h : s.Moves own may t) {c : Nat} {ok : Bool} (hm : [.regs, .ana, .mbx, .out] ⊆ may := by decide) :
    s.Moves own may (t.calFinish c ok) := by
  refine h.andThen hm ?_
  unfold State.calFinish
  exact .calTags (.calEnd (.refl _))

theorem setStuck (h : s.Moves own may t) {n : Nat} {b : Bool} (hm : [.regs] ⊆ may := by decide) :
    s.Moves own may (t.setStuck n b) := by
  refine h.andThen hm ?_
  unfold State.setStuck
  exact .ite (.setBit (.refl _)) (.setBit (.refl _))

theorem sdfWrite (h : s.Moves own may t) {n : Nat} {slot : Nat} {outputs : Nat} {v : Word} (hm : (.pan :: logParts) ⊆ may := by decide) :
    s.Moves own may (t.sdfWrite n slot outputs v) := by
  refine h.andThen hm ?_
  unfold State.sdfWrite
  exact .ite (.refl _) (.panSampleAt (.refl _))

theorem cmpFail (h : s.Moves own may t) {n : Nat} {k : Stk} (hm : (.ana :: .cmp :: .pwm :: .gl :: .safe :: .pwr :: logParts) ⊆ may := by decide) :
    s.Moves own may (t.cmpFail n k) := by
  refine h.andThen hm ?_
  unfold State.cmpFail
  exact .cmpRoute (.cmpMod (.logRec (.stick (.refl _))))

theorem cmpCheck (h : s.Moves own may t) {n : Nat} {dac : Int} {thr : Int} (hm : (.ana :: .cmp :: .pwm :: .gl :: .safe :: .pwr :: logParts) ⊆ may := by decide) :
    s.Moves own may (t.cmpCheck n dac thr) := by
  refine h.andThen hm ?_
  unfold State.cmpCheck
  extract_lets +onlyGivenNames t'
  have ht' : t.Moves own (.ana :: .cmp :: .pwm :: .gl :: .safe :: .pwr :: logParts) t' := .cmpMod (.refl _)
  exact .ite ht'.cmpMod.cmpRoute ht'.cmpFail

theorem setCode (h : s.Moves own may t) {n : Nat} {on : Bool} {v : Nat} (hm : [.regs] ⊆ may := by decide) :
    s.Moves own may (t.setCode n on v) := by
  refine h.andThen hm ?_
  unfold State.setCode
  exact .setFld (.refl _)

theorem initCodes (h : s.Moves own may t) {n : Nat} (hm : [.regs, .gl] ⊆ may := by decide) :
    s.Moves own may (t.initCodes n) := by
  refine h.andThen hm ?_
  unfold State.initCodes
  exact .glMod (.setCode (.setCode (.refl _)))

theorem adaptDir (h : s.Moves own may t) {n : Nat} {on : Bool} {tsw : Option Int} (hm : logParts ⊆ may := by decide) :
    s.Moves own may (t.adaptDir n on tsw) := by
  refine h.andThen hm ?_
  unfold State.adaptDir
  extract_lets +onlyGivenNames g
  refine .ite ?_ ?_
  · exact .setCode (.refl _)
  · split
    · exact .refl _
    · extract_lets +onlyGivenNames tgt hys c
      refine .ite ?_ ?_
      · exact .ite (.setCode (.refl _)) (.stick (.refl _))
      · exact .ite (.ite (.setCode (.refl _)) (.stick (.refl _))) (.refl _)

theorem adaptGroup (h : s.Moves own may t) {g : Nat} (hm : (.gl :: logParts) ⊆ may := by decide) :
    s.Moves own may (t.adaptGroup g) := by
  refine h.andThen hm ?_
  unfold State.adaptGroup
  refine .foldl (fun v k hv => ?_) (.refl _)
  extract_lets +onlyGivenNames n y
  exact hv.adaptDir.adaptDir.glMod

theorem releaseCh (h : s.Moves own may t) {n : Nat} {b : Nat} (hm : [.regs, .pwm, .gl] ⊆ may := by decide) :
    s.Moves own may (t.releaseCh n b) := by
  refine h.andThen hm ?_
  unfold State.releaseCh
  extract_lets +onlyGivenNames g
  refine .ite ?_ ?_
  · exact .refl _
  · extract_lets +onlyGivenNames s1
    have hs1 : t.Moves own [.regs, .pwm, .gl] s1 := .initCodes (.glMod (.refl _))
    exact hs1.chMod.glView

theorem latchClear (h : s.Moves own may t) {n : Nat} (hm : [.regs, .pwm, .gl] ⊆ may := by decide) :
    s.Moves own may (t.latchClear n) := by
  refine h.andThen hm ?_
  unfold State.latchClear
  refine .ite ?_ ?_
  · exact .refl _
  · extract_lets +onlyGivenNames s1
    have hs1 : t.Moves own [.regs, .pwm, .gl] s1 := .initCodes (.glMod (.refl _))
    exact hs1.chMod.glView

theorem shootClear (h : s.Moves own may t) {g : Nat} {q : Nat} (hm : [.regs, .pwm, .gl] ⊆ may := by decide) :
    s.Moves own may (t.shootClear g q) := by
  refine h.andThen hm ?_
  unfold State.shootClear
  refine .ite ?_ ?_
  · exact .refl _
  · extract_lets +onlyGivenNames src s1 b
    have hs1 : t.Moves own [.regs, .pwm, .gl] s1 := .set_gl (.refl _) (fun z => by simpa [GlState.Sized, Tab.mod] using z)
    exact hs1.chMod.chMod.lgMod.glView

theorem tripClear (h : s.Moves own may t) {g : Nat} (hm : [.pwm] ⊆ may := by decide) :
    s.Moves own may (t.tripClear g) := by
  refine h.andThen hm ?_
  unfold State.tripClear
  exact .ite (.lgMod (.refl _)) (.refl _)

theorem bothMark (h : s.Moves own may t) {g : Nat} {t' : Nat} (hm : [.pwm] ⊆ may := by decide) :
    s.Moves own may (t.bothMark g t') := by
  refine h.andThen hm ?_
  unfold State.bothMark
  extract_lets +onlyGivenNames bs
  exact .lgMod (.refl _)

theorem probeGo (h : s.Moves own may t) (hm : [.regs, .gl] ⊆ may := by decide) :
    s.Moves own may (t.probeGo) := by
  refine h.andThen hm ?_
  unfold State.probeGo
  extract_lets +onlyGivenNames en
  refine .ite ?_ ?_
  · exact .refl _
  · extract_lets +onlyGivenNames s1
    have hs1 : t.Moves own [.regs, .gl] s1 := .foldl (fun _ _ hv => .ite hv hv.setFld) (.refl _)
    exact .ite hs1 hs1.set_gl.setFld

theorem probeResult (h : s.Moves own may t) {g : Nat} {cls : Nat} (hm : (.pwm :: .safe :: logParts) ⊆ may := by decide) :
    s.Moves own may (t.probeResult g cls) := by
  refine h.andThen hm ?_
  unfold State.probeResult
  extract_lets +onlyGivenNames s1
  have hs1 : t.Moves own (.pwm :: .safe :: logParts) s1 := .stickIf (.setFld (.refl _))
  refine .ite ?_ ?_
  · split
    · exact hs1.demandSet
    · exact hs1
  · exact hs1

theorem probeEnd (h : s.Moves own may t) (hm : (.pwm :: .gl :: .safe :: logParts) ⊆ may := by decide) :
    s.Moves own may (t.probeEnd) := by
  refine h.andThen hm ?_
  unfold State.probeEnd
  extract_lets +onlyGivenNames src s1 s2
  have hs1 : t.Moves own (.pwm :: .gl :: .safe :: logParts) s1 := .set_gl (.refl _) (fun z => by simpa [GlState.Sized, Tab.mod] using z)
  have hs2 : t.Moves own (.pwm :: .gl :: .safe :: logParts) s2 := hs1.setFld.logRec
  refine .foldl (fun v k hv => ?_) hs2
  extract_lets +onlyGivenNames gs
  exact .ite (.foldl (fun _ _ hv' => hv'.demandSet) hv) hv

theorem fabricRun (h : s.Moves own may t) (hm : [.regs, .tim, .pwm, .gl] ⊆ may := by decide) : s.Moves own may t.fabricRun := by
  refine h.andThen hm ?_
  unfold State.fabricRun
  extract_lets +onlyGivenNames src src' s1 s2
  have hs1 : t.Moves own [.regs, .tim, .pwm, .gl] s1 :=
    (refl t).set_parts (m := [.tim, .pwm]) (by simp [State.keeps, s1]) id
      (fun z => { z with tim := z.tim, pwm := by simpa [PwmState.Sized, s1, src'] using z.pwm }) rfl (fun h => ⟨h, rfl⟩)
  have hs2 : t.Moves own [.regs, .tim, .pwm, .gl] s2 := .foldl (fun _ _ hv => .setRegN (.foldl (fun _ _ hu => hu.setReg) hv)) hs1
  exact .foldl (fun _ _ hv => hv.initCodes) hs2

theorem fabricLeave (h : s.Moves own may t) (hm : [.pwm] ⊆ may := by decide) :
    s.Moves own may (t.fabricLeave) := by
  refine h.andThen hm ?_
  unfold State.fabricLeave
  exact .set_pwm (.refl _)

theorem groupOff (h : s.Moves own may t) {g : Nat} {b : Nat} (hm : (.cmp :: .pwm :: .gl :: logParts) ⊆ may := by decide) :
    s.Moves own may (t.groupOff g b) := by
  refine h.andThen hm ?_
  unfold State.groupOff
  exact .dropCarries (.forceIdeal (.loadSet (.lgMod (.refl _))))

theorem gateThaw (h : s.Moves own may t) {d : Nat} (hm : [.gl] ⊆ may := by decide) :
    s.Moves own may (t.gateThaw d) := by
  refine h.andThen hm ?_
  unfold State.gateThaw
  exact .set_gl (.refl _)

theorem glConfirm (h : s.Moves own may t) {n : Nat} {t' : Nat} {level : Bool} (hm : [.regs, .gl] ⊆ may := by decide) :
    s.Moves own may (t.glConfirm n t' level) := by
  refine h.andThen hm ?_
  unfold State.glConfirm
  extract_lets +onlyGivenNames c g
  split
  · refine .ite ?_ ?_
    · extract_lets +onlyGivenNames ldly tsw s1
      have hs1 : t.Moves own [.regs, .gl] s1 := .setFld (.refl _)
      exact hs1.glMod
    · exact .refl _
  · exact .ite (.refl _) (.ite (.glMod (.refl _)) (.glMod (.refl _)))

theorem probeDone (h : s.Moves own may t) (hm : [.regs, .mbx, .out] ⊆ may := by decide) :
    s.Moves own may (t.probeDone) := by
  refine h.andThen hm ?_
  unfold State.probeDone
  split
  · exact .finish (.set_mbx (.refl _))
  · exact .refl _

theorem ketSat (h : s.Moves own may t) {b : Nat} {sat : Bool} {acc : Bool} (hm : (.ket :: logParts) ⊆ may := by decide) :
    s.Moves own may (t.ketSat b sat acc) := by
  refine h.andThen hm ?_
  unfold State.ketSat
  extract_lets +onlyGivenNames s1
  have hs1 : t.Moves own (.ket :: logParts) s1 := .stickIf (.stickIf (.refl _))
  exact .ite (.ketMod (.ite hs1 hs1.bump)) hs1

theorem kStep (h : s.Moves own may t) {b w : Nat} {k : KHead} {cost : Nat} {eff : State → State} (he : s.Moves own may (eff t))
    (hm : [.ket] ⊆ may := by decide) : s.Moves own may (t.kStep b w k cost eff) := by
  unfold State.kStep
  exact .ite (.ketMod (.ite he h) (fun _ z => z.modRun z.2) hm) h

theorem kPure (h : s.Moves own may t) {b : Nat} {f : Binding → KOut} (hf : ∀ x : Binding, x.Sized → (f x).x.Sized)
    (hm : (.ket :: logParts) ⊆ may := by decide) : s.Moves own may (State.kPure b f t) := by
  refine h.andThen hm ?_
  unfold State.kPure
  exact .ketSat (.ketModOf (.refl _) fun z _ _ => hf _ (z.bind b))

theorem kLoad (h : s.Moves own may t) {b : Nat} {slot : Nat} (hm : (.pan :: logParts) ⊆ may := by decide) :
    s.Moves own may (t.kLoad b slot) := by
  refine h.andThen hm ?_
  unfold State.kLoad
  exact .staleCheck (.refl _)

theorem kStore (h : s.Moves own may t) {b : Nat} {slot : Nat} {v : Word} (hm : (.pan :: logParts) ⊆ may := by decide) :
    s.Moves own may (t.kStore b slot v) := by
  refine h.andThen hm ?_
  unfold State.kStore
  exact .panWrite (.refl _)

theorem ketDemand (h : s.Moves own may t) {b : Nat} (hm : (.pwm :: .safe :: logParts) ⊆ may := by decide) :
    s.Moves own may (t.ketDemand b) := by
  refine h.andThen hm ?_
  unfold State.ketDemand
  exact .demandSet (.refl _)

theorem ketFallback (h : s.Moves own may t) {b : Nat} (hm : (.ket :: logParts) ⊆ may := by decide) : s.Moves own may (t.ketFallback b) := by
  refine h.andThen hm ?_
  unfold State.ketFallback
  exact .ite (.stick (.ketMod (.refl _))) (.refl _)

theorem ketFbDue (h : s.Moves own may t) {b : Nat} {k : Nat} (hm : (.ket :: logParts) ⊆ may := by decide) :
    s.Moves own may (t.ketFbDue b k) := by
  refine h.andThen hm ?_
  unfold State.ketFbDue
  split
  · exact .ite (.ketMod (.ite (.ketFallback (.refl _)) (.refl _))) (.refl _)
  · exact .refl _

theorem rotAbort (h : s.Moves own may t) (hm : [.ket] ⊆ may := by decide) :
    s.Moves own may (t.rotAbort) := by
  refine h.andThen hm ?_
  unfold State.rotAbort
  exact .set_ket (.refl _)

theorem ketRefresh (h : s.Moves own may t) {b : Nat} (hm : [.pan] ⊆ may := by decide) :
    s.Moves own may (t.ketRefresh b) := by
  refine h.andThen hm ?_
  unfold State.ketRefresh
  exact .ite (.set_pan (.refl _)) (.refl _)

theorem ketDrop (h : s.Moves own may t) {b : Nat} {c : Nat} (hm : [.pan] ⊆ may := by decide) :
    s.Moves own may (t.ketDrop b c) := by
  refine h.andThen hm ?_
  unfold State.ketDrop
  exact .set_pan (.refl _)

theorem ketOverrun (h : s.Moves own may t) {b c : Nat} (hm : (.pan :: .pwm :: .safe :: .ket :: logParts) ⊆ may := by decide) :
    s.Moves own may (t.ketOverrun b c) := by
  refine h.andThen hm ?_
  unfold State.ketOverrun
  extract_lets +onlyGivenNames y k secNo s1 s2 s3 s4
  have hs1 : t.Moves own (.pan :: .pwm :: .safe :: .ket :: logParts) s1 := .ite (.rotAbort (.refl _)) (.refl _)
  have hs2 : t.Moves own (.pan :: .pwm :: .safe :: .ket :: logParts) s2 := .ketMod hs1.ketDrop fun _ z => ⟨z.1, rfl⟩
  have hs4 : t.Moves own (.pan :: .pwm :: .safe :: .ket :: logParts) s4 := hs2.stick.breachOf.bump.logRec
  exact .ite hs4 (.ite hs4.ketMod.stick.ketDemand hs4.ketMod)

theorem ketChecks (h : s.Moves own may t) {c : Nat} (hm : (.pan :: .pwm :: .safe :: .ket :: logParts) ⊆ may := by decide) :
    s.Moves own may (t.ketChecks c) := by
  refine h.andThen hm ?_
  unfold State.ketChecks
  exact .foldl (fun _ k hv => .ite hv.ketOverrun (.ite hv.ketMod hv)) (.refl _)

theorem ketShow (h : s.Moves own may t) {b : Nat} (hm : [.ket] ⊆ may := by decide) :
    s.Moves own may (t.ketShow b) := by
  refine h.andThen hm ?_
  unfold State.ketShow
  exact .ketMod (.refl _)

theorem feFire (h : s.Moves own may t) {b : Nat} {i : Nat} {k : Nat} {d : KDesc} (hm : (.ket :: logParts) ⊆ may := by decide) :
    s.Moves own may (t.feFire b i k d) := by
  refine h.andThen hm ?_
  unfold State.feFire
  refine .ite ?_ ?_
  · exact .refl _
  · extract_lets +onlyGivenNames s1 s2
    have hs1 : t.Moves own (.ket :: logParts) s1 := .logRec (.ketMod (.stick (.refl _)))
    have hs2 : t.Moves own (.ket :: logParts) s2 := .ite hs1.ketMod hs1
    exact .ite hs2.stick hs2

theorem supervise (h : s.Moves own may t) {b : Nat} {k : Nat} (hm : (.pwm :: .safe :: .ket :: logParts) ⊆ may := by decide) :
    s.Moves own may (t.supervise b k) := by
  refine h.andThen hm ?_
  unfold State.supervise
  refine .ketDemand ?_
  refine .foldl (fun v k' hv => ?_) (.refl _)
  refine .ite ?_ ?_
  · extract_lets +onlyGivenNames n m t1
    have ht1 : t.Moves own (.pwm :: .safe :: .ket :: logParts) t1 := hv.ketMod
    exact .ite ht1.feFire ht1
  · exact hv

theorem ketReinit (h : s.Moves own may t) (hm : [.ket] ⊆ may := by decide) : s.Moves own may t.ketReinit := by
  refine h.andThen hm ?_
  unfold State.ketReinit
  exact .foldl (fun _ _ hv => .ite (hv.ketMod fun _ z => z.reinit) hv) (.refl _)

theorem ketLeave (h : s.Moves own may t) (hm : [.regs, .safe, .ket, .mbx, .out] ⊆ may := by decide) :
    s.Moves own may (t.ketLeave) := by
  refine h.andThen hm ?_
  unfold State.ketLeave
  extract_lets +onlyGivenNames s1
  have hs1 : t.Moves own [.regs, .safe, .ket, .mbx, .out] s1 := .ite (.rotAbort (.refl _)) (.refl _)
  refine .foldl (fun v k hv => ?_) hs1
  extract_lets +onlyGivenNames t1
  have ht1 : t.Moves own [.regs, .safe, .ket, .mbx, .out] t1 := by
    dsimp only [t1]
    split
    · exact hv.finish
    · exact hv
  exact ht1.ketMod.demandDrop

theorem ketStart (h : s.Moves own may t) {b k : Nat} (hm : (.pan :: .ket :: logParts) ⊆ may := by decide) : s.Moves own may (t.ketStart b k) := by
  refine h.andThen hm ?_
  unfold State.ketStart
  extract_lets +onlyGivenNames s1 y pre
  have hs1 : t.Moves own (.pan :: .ket :: logParts) s1 := .ketFbDue (.refl _)
  exact .ite (.ketMod hs1.ketRefresh fun _ z => z.beginEpoch _ _ _) hs1.ketRefresh

theorem swapCancel (h : s.Moves own may t) {b : Nat} {q : KSwap} {status : Nat} (hm : (.ket :: logParts) ⊆ may := by decide) :
    s.Moves own may (t.swapCancel b q status) := by
  refine h.andThen hm ?_
  unfold State.swapCancel
  exact .finishOpt (.stick (.ketMod (.refl _)))

theorem swapDo (h : s.Moves own may t) {b : Nat} {q : KSwap} (hm : (.pan :: .ket :: .fw :: logParts) ⊆ may := by decide) :
    s.Moves own may (t.swapDo b q) := by
  refine h.andThen hm ?_
  unfold State.swapDo
  have ht : t.Moves own (.pan :: .ket :: .fw :: logParts) t := .refl t
  have hcancel (status : Nat) : t.Moves own (.pan :: .ket :: .fw :: logParts) (t.swapCancel b q status) := ht.swapCancel
  refine .ite (hcancel _) (.ite ?_ (.ite (hcancel _) ?_))
  · exact .finishOpt ht.ketMod
  extract_lets +onlyGivenNames s1 s2 s3 s4 src
  have hs1 : t.Moves own (.pan :: .ket :: .fw :: logParts) s1 := ht.ketMod fun _ z => z.exchange
  have hs2 : t.Moves own (.pan :: .ket :: .fw :: logParts) s2 := .ite hs1.logRec hs1
  have hs3 : t.Moves own (.pan :: .ket :: .fw :: logParts) s3 := .ite hs2.rotAbort.logRec hs2
  have hs4 : t.Moves own (.pan :: .ket :: .fw :: logParts) s4 := hs3.logRec.ketRefresh
  clear_value s4
  have hfw : src.fw = s4.fw := (finishOpt (.refl s4) : s4.Moves [] logParts src).fw_kept (by decide)
  have hsrc : t.Moves own (.pan :: .ket :: .fw :: logParts) src := hs4.finishOpt
  clear_value src
  exact hsrc.set_fw (by simp [BootState.Sized, hfw])

theorem ketClearSat (h : s.Moves own may t) {p i : Nat} (hm : [.ket] ⊆ may := by decide) : s.Moves own may (t.ketClearSat p i) := by
  refine h.andThen hm ?_
  unfold State.ketClearSat
  split
  · exact .ketMod (.refl _) fun _ z => z.modStage _ _
  · exact .refl _

theorem retireTake (h : s.Moves own may t) {p : Nat} (hm : [.ket] ⊆ may := by decide) : s.Moves own may (t.retireTake p) := by
  refine h.andThen hm ?_
  unfold State.retireTake
  extract_lets +onlyGivenNames src k
  have hk : t.ket.Sized → k.Sized := fun z => by
    unfold k
    split
    · exact z
    · exact z
  split
  · exact .set_ket (.refl _) hk
  · exact .set_ket (.refl _) hk

theorem ketSpareSet (h : s.Moves own may t) (hm : [.ket] ⊆ may := by decide) :
    s.Moves own may (t.ketSpareSet) := by
  refine h.andThen hm ?_
  unfold State.ketSpareSet
  have ht : t.Moves own [.ket] t := .refl t
  refine .ite ?_ ?_
  · exact .refl _
  · extract_lets +onlyGivenNames p src t'
    have ht' : t.Moves own [.ket] t' := by
      refine .ite ?_ ?_
      · exact .set_ket (.refl _) (fun z => by simpa [KetState.Sized, Tab.mod] using z)
      · exact .set_ket (.refl _) (fun z => by simpa [KetState.Sized, Tab.mod] using z)
    exact .foldl (fun _ k hv => hv.retireTake) ht'

theorem limitFn (h : s.Moves own may t) {v k : Nat} {c : SafeConv} {f : LimitFn} (hm : (.pwm :: .safe :: logParts) ⊆ may := by decide) :
    s.Moves own may (t.limitFn v k c f) := by
  refine h.andThen hm ?_
  unfold State.limitFn
  refine .ite (.refl _) ?_
  extract_lets +onlyGivenNames q put
  have hput (q2 : LimitCount) : t.Moves own (.pwm :: .safe :: logParts) (put q2) :=
    .safeMod (.refl _) (fun z => by simpa [SafeState.Sized, Tab.mod] using z) (fun h => ⟨h, rfl⟩)
  exact .ite (.ite (hput _).stick.demandSet (hput _)) (hput _).stickIf.demandSet

theorem freqMon (h : s.Moves own may t) {v : Nat} {f : LimitFn} (hm : [.safe] ⊆ may := by decide) :
    s.Moves own may (t.freqMon v f) := by
  refine h.andThen hm ?_
  unfold State.freqMon
  extract_lets +onlyGivenNames m vs w aged y0 y1 m1 z m2
  exact .safeMod (.refl _)

theorem limitEval (h : s.Moves own may t) (hm : (.pwm :: .safe :: logParts) ⊆ may := by decide) :
    s.Moves own may (t.limitEval) := by
  refine h.andThen hm ?_
  unfold State.limitEval
  refine .ite ?_ ?_
  · exact .refl _
  · extract_lets +onlyGivenNames s1
    have hs1 : t.Moves own (.pwm :: .safe :: logParts) s1 := .safeMod (.refl _)
    refine .foldl (fun v k hv => ?_) hs1
    split
    extract_lets +onlyGivenNames t1
    have ht1 : t.Moves own (.pwm :: .safe :: logParts) t1 := by
      dsimp only [t1]
      split
      · exact .ite hv.freqMon hv
      · exact hv
    refine .foldl (fun v' k hv' => ?_) ht1
    split
    exact hv'.limitFn

theorem limitReset (h : s.Moves own may t) (hm : [.regs, .safe] ⊆ may := by decide) :
    s.Moves own may (t.limitReset) := by
  refine h.andThen hm ?_
  unfold State.limitReset
  extract_lets +onlyGivenNames s1
  have hs1 : t.Moves own [.regs, .safe] s1 := .safeMod (.refl _)
  exact .foldl (fun _ _ hv => hv.demandDrop) hs1

theorem sinView (h : s.Moves own may t) {i : Nat} (hm : [.regs] ⊆ may := by decide) :
    s.Moves own may (t.sinView i) := by
  refine h.andThen hm ?_
  unfold State.sinView
  extract_lets +onlyGivenNames p
  exact .setRegN (.refl _)

theorem pairMod (h : s.Moves own may t) {i : Nat} {f : SinPair → SinPair} (hm : [.safe] ⊆ may := by decide) :
    s.Moves own may (t.pairMod i f) := by
  refine h.andThen hm ?_
  unfold State.pairMod
  exact .safeMod (.refl _)

theorem pairAct (h : s.Moves own may t) {i : Nat} {was : Bool} (hm : (.pwm :: .gl :: .safe :: logParts) ⊆ may := by decide) :
    s.Moves own may (t.pairAct i was) := by
  refine h.andThen hm ?_
  unfold State.pairAct
  extract_lets +onlyGivenNames c now p
  refine .ite ?_ ?_
  · exact .sinView (.soutCheck (.demandSet (.refl _)))
  · refine .ite ?_ ?_
    · refine .ite ?_ ?_
      · exact .sinView (.pairMod (.refl _))
      · refine .ite ?_ ?_
        · extract_lets +onlyGivenNames s1
          have hs1 : t.Moves own (.pwm :: .gl :: .safe :: logParts) s1 := .pairMod (.refl _)
          split
          · exact .ite (.sinView (.foldl (fun _ _ hv => .ite hv.spoClear hv) hs1)) hs1.sinView
          · exact hs1.sinView
        · exact .sinView (.refl _)
    · exact .sinView (.refl _)

theorem pairEval (h : s.Moves own may t) {i : Nat} {was : Bool} (hm : (.pwm :: .gl :: .safe :: logParts) ⊆ may := by decide) :
    s.Moves own may (t.pairEval i was) := by
  refine h.andThen hm ?_
  unfold State.pairEval
  extract_lets +onlyGivenNames c p pa pb bad disc late from_ latched saw clear inv revFrom rev s1 s2
  have hs1 : t.Moves own (.pwm :: .gl :: .safe :: logParts) s1 := .pairMod (.refl _)
  have hs2 : t.Moves own (.pwm :: .gl :: .safe :: logParts) s2 := hs1.stickIf.stickIf
  exact hs2.pairAct

theorem soutMod (h : s.Moves own may t) {j : Nat} {f : SoutState → SoutState} (hm : [.safe] ⊆ may := by decide) :
    s.Moves own may (t.soutMod j f) := by
  refine h.andThen hm ?_
  unfold State.soutMod
  exact .safeMod (.refl _)

theorem soutFault (h : s.Moves own may t) {j : Nat} {kind : Nat} (hm : (.pwm :: .safe :: logParts) ⊆ may := by decide) :
    s.Moves own may (t.soutFault j kind) := by
  refine h.andThen hm ?_
  unfold State.soutFault
  extract_lets +onlyGivenNames s1 s2
  have hs1 : t.Moves own (.pwm :: .safe :: logParts) s1 := .soutMod (.soutOff (.refl _))
  have hs2 : t.Moves own (.pwm :: .safe :: logParts) s2 := hs1.setFld.setFld
  exact hs2.stick.demandSet

theorem soutClear (h : s.Moves own may t) {j : Nat} (hm : [.regs, .safe] ⊆ may := by decide) :
    s.Moves own may (t.soutClear j) := by
  refine h.andThen hm ?_
  unfold State.soutClear
  refine .ite ?_ ?_
  · exact .refl _
  · extract_lets +onlyGivenNames s1
    have hs1 : t.Moves own [.regs, .safe] s1 := .soutMod (.refl _)
    exact hs1.setFld.setFld.demandDrop

theorem rxMod (h : s.Moves own may t) {r : Nat} {f : RxState → RxState} (hm : [.safe] ⊆ may := by decide) :
    s.Moves own may (t.rxMod r f) := by
  refine h.andThen hm ?_
  unfold State.rxMod
  exact .safeMod (.refl _)

theorem rxView (h : s.Moves own may t) {r : Nat} (hm : [.regs] ⊆ may := by decide) :
    s.Moves own may (t.rxView r) := by
  refine h.andThen hm ?_
  unfold State.rxView
  extract_lets +onlyGivenNames y n
  exact .setRegN (.setRegN (.refl _))

theorem rxDemand (h : s.Moves own may t) {r : Nat} (hm : (.pwm :: .safe :: logParts) ⊆ may := by decide) :
    s.Moves own may (t.rxDemand r) := by
  refine h.andThen hm ?_
  unfold State.rxDemand
  extract_lets +onlyGivenNames y m s1 want s2
  have hs1 : t.Moves own (.pwm :: .safe :: logParts) s1 := .demandSet (.refl _)
  have hs2 : t.Moves own (.pwm :: .safe :: logParts) s2 := .ite hs1 hs1.demandDrop.demandSet
  exact hs2.soutCheck.rxView

theorem rxFail (h : s.Moves own may t) {r : Nat} {k : Stk} (hm : (.pwm :: .safe :: logParts) ⊆ may := by decide) :
    s.Moves own may (t.rxFail r k) := by
  refine h.andThen hm ?_
  unfold State.rxFail
  extract_lets +onlyGivenNames s1 s2
  have hs1 : t.Moves own (.pwm :: .safe :: logParts) s1 := .logRec (.stick (.refl _))
  have hs2 : t.Moves own (.pwm :: .safe :: logParts) s2 := hs1.rxMod
  exact hs2.rxDemand

theorem rxError (h : s.Moves own may t) {r : Nat} (hm : (.pwm :: .safe :: logParts) ⊆ may := by decide) :
    s.Moves own may (t.rxError r) := by
  refine h.andThen hm ?_
  unfold State.rxError
  extract_lets +onlyGivenNames s1 y
  have hs1 : t.Moves own (.pwm :: .safe :: logParts) s1 := .rxMod (.bump (.refl _))
  exact .ite hs1.rxFail hs1.rxView

theorem rxAccept (h : s.Moves own may t) {r : Nat} {seq : Nat} {pay : List Word} (hm : (.pan :: .pwm :: .safe :: logParts) ⊆ may := by decide) :
    s.Moves own may (t.rxAccept r seq pay) := by
  refine h.andThen hm ?_
  unfold State.rxAccept
  extract_lets +onlyGivenNames y st s1 s2
  have hs1 : t.Moves own (.pan :: .pwm :: .safe :: logParts) s1 := .rxMod (.refl _)
  have hs2 : t.Moves own (.pan :: .pwm :: .safe :: logParts) s2 := .ite hs1.panSamples hs1
  exact hs2.rxDemand

theorem telegramRx (h : s.Moves own may t) {r : Nat} {bs : List Byte} (hm : (.pan :: .pwm :: .safe :: logParts) ⊆ may := by decide) :
    s.Moves own may (t.telegramRx r bs) := by
  refine h.andThen hm ?_
  unfold State.telegramRx
  extract_lets +onlyGivenNames c
  refine .ite ?_ ?_
  · exact .refl _
  · extract_lets +onlyGivenNames s y seq
    have hs : t.Moves own (.pan :: .pwm :: .safe :: logParts) s := .ite (.rxFail (.refl _)) (.refl _)
    refine .ite ?_ ?_
    · exact hs.rxError
    · exact .ite hs.rxError (.ite hs.rxError (.ite hs.bump (.ite hs.rxError (.ite hs.rxError hs.rxAccept))))

theorem safeConfirm (h : s.Moves own may t) {cfg : SafeConfig} {crc : Word} (ho : .safe ∈ own)
    (hm : (.ana :: .cmp :: .pwm :: .gl :: .safe :: .pwr :: logParts) ⊆ may := by decide) : s.Moves own may (t.safeConfirm cfg crc) := by
  refine h.andThen hm ?_
  unfold State.safeConfirm
  extract_lets +onlyGivenNames rx0 keep s0 s1 s2 asg s3 s4 s5 s6 s7 s8
  have hs0 : t.Moves own (.ana :: .cmp :: .pwm :: .gl :: .safe :: .pwr :: logParts) s0 := .set_safe_owned (.refl _) id ho
  have hs1 : t.Moves own (.ana :: .cmp :: .pwm :: .gl :: .safe :: .pwr :: logParts) s1 :=
    hs0.safeMod (fun z => by simp_all [SafeState.Sized, rx0]) (fun h => ⟨h, rfl⟩)
  have hs2 : t.Moves own (.ana :: .cmp :: .pwm :: .gl :: .safe :: .pwr :: logParts) s2 := .foldl (fun _ _ hv => hv.setRegN) hs1
  have hs4 : t.Moves own (.ana :: .cmp :: .pwm :: .gl :: .safe :: .pwr :: logParts) s4 := hs2.setRegN.setRegN.setReg.setFld.setFld
  have hs5 : t.Moves own (.ana :: .cmp :: .pwm :: .gl :: .safe :: .pwr :: logParts) s5 := .foldl (fun _ _ hv => hv.setRegN) hs4
  have hs6 : t.Moves own (.ana :: .cmp :: .pwm :: .gl :: .safe :: .pwr :: logParts) s6 := .foldl (fun _ _ hv => hv.cmpRoute.demandSet) hs5
  have hs7 : t.Moves own (.ana :: .cmp :: .pwm :: .gl :: .safe :: .pwr :: logParts) s7 := .foldl (fun _ _ hv => .ite hv.rxDemand hv) hs6
  exact .demandView (.foldl (fun _ _ hv => hv.pairAct) hs7)

theorem latFixed (h : s.Moves own may t) (hm : [.regs] ⊆ may := by decide) :
    s.Moves own may (t.latFixed) := by
  refine h.andThen hm ?_
  unfold State.latFixed
  refine .foldl (fun v k hv => ?_) (.refl _)
  extract_lets +onlyGivenNames d
  exact hv.setFld

theorem writeSpares (h : s.Moves own may t) {l : List SpareReq} (hm : [.regs] ⊆ may := by decide) :
    s.Moves own may (t.writeSpares l) := by
  refine h.andThen hm ?_
  unfold State.writeSpares
  refine .foldl (fun v k hv => ?_) (.refl _)
  split
  · extract_lets +onlyGivenNames t1 t2
    have ht1 : t.Moves own [.regs] t1 := hv.setRegN
    have ht2 : t.Moves own [.regs] t2 := ht1.setRegN.setFld
    exact ht2.setFld.setFld.setFld
  · exact hv.setFld

theorem spareFull (h : s.Moves own may t) {n : Nat} (hm : logParts ⊆ may := by decide) :
    s.Moves own may (t.spareFull n) := by
  refine h.andThen hm ?_
  unfold State.spareFull
  exact .logRec (.refl _)

theorem rxErr (h : s.Moves own may t) {p : Nat} (hm : logParts ⊆ may := by decide) :
    s.Moves own may (t.rxErr p) := by
  refine h.andThen hm ?_
  unfold State.rxErr
  exact .stick (.bump (.refl _))

theorem netSend (h : s.Moves own may t) {x : NetTx} (hm : [.net, .out] ⊆ may := by decide) :
    s.Moves own may (t.netSend x) := by
  refine h.andThen hm ?_
  unfold State.netSend
  exact .ite (.refl _) (.ite (.set_out (.refl _)) (.netMod (.set_out (.refl _))))

theorem netSendOn (h : s.Moves own may t) {p : Nat} {seq : Option Nat} {x : NetTx} (hm : [.out] ⊆ may := by decide) :
    s.Moves own may (t.netSendOn p seq x) := by
  refine h.andThen hm ?_
  unfold State.netSendOn
  exact .ite (.set_out (.refl _)) (.refl _)

theorem ptpMod (h : s.Moves own may t) {p : Nat} {f : PtpPort → PtpPort} (hm : [.net] ⊆ may := by decide) :
    s.Moves own may (t.ptpMod p f) := by
  refine h.andThen hm ?_
  unfold State.ptpMod
  exact .netMod (.refl _)

theorem setPState (h : s.Moves own may t) {p : Nat} {v : Nat} (hm : [.regs] ⊆ may := by decide) :
    s.Moves own may (t.setPState p v) := by
  refine h.andThen hm ?_
  unfold State.setPState
  exact .setFld (.refl _)

theorem portSwitch (h : s.Moves own may t) {p : Nat} (hm : logParts ⊆ may := by decide) :
    s.Moves own may (t.portSwitch p) := by
  refine h.andThen hm ?_
  unfold State.portSwitch
  exact .logRec (.stick (.setFld (.refl _)))

theorem showGm (h : s.Moves own may t) {a : PtpAnnounce} (hm : logParts ⊆ may := by decide) :
    s.Moves own may (t.showGm a) := by
  refine h.andThen hm ?_
  unfold State.showGm
  exact .stickIf (.setFld (.setRegN (.setRegN (.refl _))))

end Sys2Proof.Machine.State.Moves
end

section
/-!
PROOFS. One operation after another: network, metering, power, configuration, state changes.
-/
namespace Sys2Proof.Machine.State.Moves

-- A default argument by `decide` waits for every earlier proof, so the proofs here run one at a time.
set_option Elab.async false

variable {own may m : List Part} {s t u : State}

theorem bmca (h : s.Moves own may t) (hm : logParts ⊆ may := by decide) :
    s.Moves own may (t.bmca) := by
  refine h.andThen hm ?_
  unfold State.bmca
  split
  · exact .refl _
  · extract_lets +onlyGivenNames o old
    refine .ite ?_ ?_
    · exact .refl _
    · extract_lets +onlyGivenNames wasSlave s1 s2 s3
      have hs1 : t.Moves own logParts s1 := .setPState (.refl _)
      have hs2 : t.Moves own logParts s2 := by
        dsimp only [s2]
        split
        · exact hs1.setPState
        · exact .ite hs1.setPState hs1
        · exact hs1
      have hs3 : t.Moves own logParts s3 := .ite hs2.portSwitch hs2.setFld
      split
      · exact hs3.showGm
      · exact hs3

theorem svMod (h : s.Moves own may t) {i : Nat} {f : SvStream → SvStream} (hm : [.net] ⊆ may := by decide) :
    s.Moves own may (t.svMod i f) := by
  refine h.andThen hm ?_
  unfold State.svMod
  exact .netMod (.refl _)

theorem svWrite (h : s.Moves own may t) {i : Nat} {x : SvSample} (hm : (.pan :: .net :: logParts) ⊆ may := by decide) :
    s.Moves own may (t.svWrite i x) := by
  refine h.andThen hm ?_
  unfold State.svWrite
  extract_lets +onlyGivenNames b base ts dest g same count late miss s1 s2
  have hs1 : t.Moves own (.pan :: .net :: logParts) s1 := .svMod (.refl _)
  have hs2 : t.Moves own (.pan :: .net :: logParts) s2 := by
    refine .foldl (fun v k hv => ?_) hs1
    split
    extract_lets +onlyGivenNames t1
    have ht1 : t.Moves own (.pan :: .net :: logParts) t1 := .ite hv.panSample hv
    exact ht1.panSample
  exact hs2.panSample.panSample.panSample

theorem svAccept (h : s.Moves own may t) {i : Nat} {f : SvFrame} {a : SvAsdu} {tm : Nat} {missed : Nat} (hm : (.net :: logParts) ⊆ may := by decide) :
    s.Moves own may (t.svAccept i f a tm missed) := by
  refine h.andThen hm ?_
  unfold State.svAccept
  extract_lets +onlyGivenNames b y smp s1 s2 s3
  have hs1 : t.Moves own (.net :: logParts) s1 := .ite (.refl _) (.stick (.bumpBy (.refl _)))
  have hs2 : t.Moves own (.net :: logParts) s2 := .ite hs1.logRec hs1
  have hs3 : t.Moves own (.net :: logParts) s3 := hs2.bump.svMod
  exact hs3.setFld.setFld.setFld.setFld

theorem svAsdu (h : s.Moves own may t) {p : Nat} {i : Nat} {f : SvFrame} {a : SvAsdu} (hm : (.pan :: .net :: logParts) ⊆ may := by decide) :
    s.Moves own may (t.svAsdu p i f a) := by
  refine h.andThen hm ?_
  unfold State.svAsdu
  extract_lets +onlyGivenNames b rate ofs
  refine .ite ?_ ?_
  · exact .rxErr (.refl _)
  · refine .ite ?_ ?_
    · exact .setFld (.refl _)
    · refine .ite ?_ ?_
      · exact .refl _
      · extract_lets +onlyGivenNames tm last
        refine .ite ?_ ?_
        · exact .refl _
        · refine .ite ?_ ?_
          · exact .svMod (.breachOf (.bump (.refl _)))
          · extract_lets +onlyGivenNames idx missed
            exact .svAccept (.refl _)

theorem svFrame (h : s.Moves own may t) {p : Nat} {i : Nat} {f : SvFrame} (hm : (.pan :: .net :: logParts) ⊆ may := by decide) :
    s.Moves own may (t.svFrame p i f) := by
  refine h.andThen hm ?_
  unfold State.svFrame
  extract_lets +onlyGivenNames b fl bad
  exact .ite (.rxErr (.refl _)) (.foldl (fun _ _ hv => hv.svAsdu) (.refl _))

theorem svRx (h : s.Moves own may t) {p : Nat} {f : SvFrame} (hm : (.pan :: .net :: logParts) ⊆ may := by decide) :
    s.Moves own may (t.svRx p f) := by
  refine h.andThen hm ?_
  unfold State.svRx
  exact .foldl (fun _ _ hv => .ite hv.svFrame hv) (.refl _)

theorem pubMod (h : s.Moves own may t) {k : Nat} {f : SvPub → SvPub} (hm : [.net] ⊆ may := by decide) :
    s.Moves own may (t.pubMod k f) := by
  refine h.andThen hm ?_
  unfold State.pubMod
  exact .netMod (.refl _)

theorem pubTake (h : s.Moves own may t) {tick : Nat} {incl : Bool} {k fuel : Nat} (hm : (.net :: logParts) ⊆ may := by decide) :
    s.Moves own may (State.pubTake tick incl k fuel t) := by
  refine h.andThen hm ?_
  suffices H : ∀ u, t.Moves own (.net :: logParts) u → t.Moves own (.net :: logParts) (State.pubTake tick incl k fuel u) from H t (.refl t)
  induction fuel with
  | zero => exact fun _ hu => hu
  | succ fuel ih =>
    intro u hu
    unfold State.pubTake
    exact .ite (ih _ hu.stickIf.pubMod) hu

theorem pubCatchUp (h : s.Moves own may t) {t' : Nat} {incl : Bool} (hm : (.net :: logParts) ⊆ may := by decide) :
    s.Moves own may (t.pubCatchUp t' incl) := by
  refine h.andThen hm ?_
  unfold State.pubCatchUp
  refine .foldl (fun v k hv => ?_) (.refl _)
  extract_lets +onlyGivenNames rate first
  exact .ite hv.pubMod (.ite hv.pubMod hv.pubTake)

theorem pubFresh (h : s.Moves own may t) (hm : [.net] ⊆ may := by decide) :
    s.Moves own may (t.pubFresh) := by
  refine h.andThen hm ?_
  unfold State.pubFresh
  exact .foldl (fun _ _ hv => .foldl (fun _ _ hv' => .ite hv'.pubMod hv') hv) (.refl _)

theorem goMod (h : s.Moves own may t) {n : Nat} {f : GooseSub → GooseSub} (hm : [.net] ⊆ may := by decide) :
    s.Moves own may (t.goMod n f) := by
  refine h.andThen hm ?_
  unfold State.goMod
  exact .netMod (.refl _)

theorem gpMod (h : s.Moves own may t) {u' : Nat} {f : GoosePub → GoosePub} (hm : [.net] ⊆ may := by decide) :
    s.Moves own may (t.gpMod u' f) := by
  refine h.andThen hm ?_
  unfold State.gpMod
  exact .netMod (.refl _)

theorem goStatus (h : s.Moves own may t) {n : Nat} {sample : Nat} (hm : (.pan :: logParts) ⊆ may := by decide) :
    s.Moves own may (t.goStatus n sample) := by
  refine h.andThen hm ?_
  unfold State.goStatus
  extract_lets +onlyGivenNames y s1
  have hs1 : t.Moves own (.pan :: logParts) s1 := .ite (.setBit (.refl _)) (.setBit (.refl _))
  exact hs1.panSample

theorem goTelegram (h : s.Moves own may t) {bs : List Byte} (hm : (.pan :: .pwm :: .safe :: logParts) ⊆ may := by decide) :
    s.Moves own may (t.goTelegram bs) := by
  refine h.andThen hm ?_
  unfold State.goTelegram
  split
  · exact .telegramRx (.refl _)
  · exact .refl _

theorem goMembers (h : s.Moves own may t) {n : Nat} {m' : GooseMsg} (hm : (.pan :: .pwm :: .safe :: .net :: logParts) ⊆ may := by decide) :
    s.Moves own may (t.goMembers n m') := by
  refine h.andThen hm ?_
  unfold State.goMembers
  extract_lets +onlyGivenNames b ws nan s1 s2
  have hs1 : t.Moves own (.pan :: .pwm :: .safe :: .net :: logParts) s1 := .stickIf (.goMod (.refl _))
  have hs2 : t.Moves own (.pan :: .pwm :: .safe :: .net :: logParts) s2 := .foldl (fun _ _ hv => hv.panSample) hs1
  refine .foldl (fun v k hv => ?_) hs2
  split
  · exact .ite hv.goTelegram hv
  · exact hv

theorem goMessage (h : s.Moves own may t) {n : Nat} {m' : GooseMsg} (hm : (.pan :: .pwm :: .safe :: .net :: logParts) ⊆ may := by decide) :
    s.Moves own may (t.goMessage n m') := by
  refine h.andThen hm ?_
  unfold State.goMessage
  extract_lets +onlyGivenNames b y
  refine .ite ?_ ?_
  · exact .refl _
  · refine .ite ?_ ?_
    · exact .goStatus (.goMod (.stick (.refl _)))
    · extract_lets +onlyGivenNames new ahead
      refine .ite ?_ ?_
      · exact .refl _
      · extract_lets +onlyGivenNames s1 s2
        have hs1 : t.Moves own (.pan :: .pwm :: .safe :: .net :: logParts) s1 := .goMod (.refl _)
        have hs2 : t.Moves own (.pan :: .pwm :: .safe :: .net :: logParts) s2 := hs1.goStatus.panSample.panSample
        exact .ite hs2.goMembers hs2

theorem goRx (h : s.Moves own may t) {m' : GooseMsg} (hm : (.pan :: .pwm :: .safe :: .net :: logParts) ⊆ may := by decide) :
    s.Moves own may (t.goRx m') := by
  refine h.andThen hm ?_
  unfold State.goRx
  exact .foldl (fun _ _ hv => .ite hv.goMessage hv) (.refl _)

theorem gpSend (h : s.Moves own may t) {u' : Nat} (hm : [.net, .out] ⊆ may := by decide) :
    s.Moves own may (t.gpSend u') := by
  refine h.andThen hm ?_
  unfold State.gpSend
  extract_lets +onlyGivenNames b y nx
  exact .netSend (.gpMod (.refl _))

theorem gpCompare (h : s.Moves own may t) (hm : [.net, .out] ⊆ may := by decide) :
    s.Moves own may (t.gpCompare) := by
  refine h.andThen hm ?_
  unfold State.gpCompare
  refine .ite ?_ ?_
  · exact .refl _
  · refine .foldl (fun v k hv => ?_) (.refl _)
    extract_lets +onlyGivenNames y ms
    exact .ite hv hv.gpMod.gpSend

theorem svDrop (h : s.Moves own may t) (hm : [.net] ⊆ may := by decide) :
    s.Moves own may (t.svDrop) := by
  refine h.andThen hm ?_
  unfold State.svDrop
  exact .netMod (.refl _)

theorem showBudget (h : s.Moves own may t) {b : Nat} (hm : [.regs] ⊆ may := by decide) :
    s.Moves own may (t.showBudget b) := by
  refine h.andThen hm ?_
  unfold State.showBudget
  exact .setFld (.setFld (.refl _))

theorem recheckBanks (h : s.Moves own may t) (hm : [.regs, .ket] ⊆ may := by decide) :
    s.Moves own may (t.recheckBanks) := by
  refine h.andThen hm ?_
  unfold State.recheckBanks
  exact .foldl (fun _ k hv => .showBudget (.ketMod hv (fun z => by simpa [Binding.Sized, Tab.mod] using z))) (.refl _)

theorem mtrMod (h : s.Moves own may t) {m' : Nat} {f : MtrPoint → MtrPoint} (hm : [.mtr] ⊆ may := by decide) :
    s.Moves own may (t.mtrMod m' f) := by
  refine h.andThen hm ?_
  unfold State.mtrMod
  exact .set_mtr (.refl _)

theorem plsCount (h : s.Moves own may t) {k : Nat} {n : Nat} (hm : (.mtr :: logParts) ⊆ may := by decide) :
    s.Moves own may (t.plsCount k n) := by
  refine h.andThen hm ?_
  unfold State.plsCount
  extract_lets +onlyGivenNames u a due room src s1 s2
  have hs1 : t.Moves own (.mtr :: logParts) s1 := .set_mtr (.refl _) (fun z => by simpa [MtrState.Sized, Tab.mod] using z)
  have hs2 : t.Moves own (.mtr :: logParts) s2 := hs1.setRegN
  exact .ite hs2.bumpBy.stick hs2

theorem plsFollow (h : s.Moves own may t) {m' : Nat} {r : Nat} {n : Nat} (hm : (.mtr :: logParts) ⊆ may := by decide) :
    s.Moves own may (t.plsFollow m' r n) := by
  refine h.andThen hm ?_
  unfold State.plsFollow
  exact .foldl (fun _ _ hv => .ite hv.plsCount hv) (.refl _)

theorem energyAdd (h : s.Moves own may t) {m' : Nat} {r : Nat} {x : Nat} (hm : (.mtr :: logParts) ⊆ may := by decide) :
    s.Moves own may (t.energyAdd m' r x) := by
  refine h.andThen hm ?_
  unfold State.energyAdd
  extract_lets +onlyGivenNames old new carry s1
  have hs1 : t.Moves own (.mtr :: logParts) s1 := .mtrMod (.refl _)
  exact hs1.stickIf.plsFollow

theorem energySample (h : s.Moves own may t) {m' : Nat} {x : MtrSample} (hm : (.mtr :: logParts) ⊆ may := by decide) :
    s.Moves own may (t.energySample m' x) := by
  refine h.andThen hm ?_
  unfold State.energySample
  extract_lets +onlyGivenNames s1 quad
  have hs1 : t.Moves own (.mtr :: logParts) s1 := .ite (.energyAdd (.refl _)) (.ite (.energyAdd (.refl _)) (.refl _))
  exact hs1.energyAdd

theorem latchLog (h : s.Moves own may t) {m' : Nat} {gt : Nat} {e : Nat} (hm : logParts ⊆ may := by decide) :
    s.Moves own may (t.latchLog m' gt e) := by
  refine h.andThen hm ?_
  unfold State.latchLog
  exact .overflowStk (.enqueue (.refl _))

theorem mcntLatch (h : s.Moves own may t) {m' : Nat} (hm : (.mtr :: logParts) ⊆ may := by decide) :
    s.Moves own may (t.mcntLatch m') := by
  refine h.andThen hm ?_
  unfold State.mcntLatch
  have ht : t.Moves own (.mtr :: logParts) t := .refl t
  refine .foldl (fun v k hv => ?_) (.refl _)
  refine .ite ?_ ?_
  · extract_lets +onlyGivenNames y e u gain d src t1 t2
    have ht1 : t.Moves own (.mtr :: logParts) t1 := .set_mtr hv (fun z => by simpa [MtrState.Sized, Tab.mod] using z)
    have ht2 : t.Moves own (.mtr :: logParts) t2 := ht1.setRegN
    exact .ite ht2.stick.logRec ht2
  · exact hv

theorem latch (h : s.Moves own may t) {m' : Nat} {gt : Nat} (hm : (.mtr :: logParts) ⊆ may := by decide) :
    s.Moves own may (t.latch m' gt) := by
  refine h.andThen hm ?_
  unfold State.latch
  extract_lets +onlyGivenNames y w s1 s2 s3
  have hs1 : t.Moves own (.mtr :: logParts) s1 := .foldl (fun _ _ hv => hv.setRegN.setRegN) (.refl _)
  have hs2 : t.Moves own (.mtr :: logParts) s2 := hs1.setRegN.setRegN.setReg
  have hs3 : t.Moves own (.mtr :: logParts) s3 := hs2.setRegN.setRegN.tickReg
  exact hs3.mcntLatch.mtrMod

theorem eventEnd (h : s.Moves own may t) {m' : Nat} {typ : Nat} {v : MtrEvent} {cut : Bool} {stop : Nat} (hm : (.mtr :: logParts) ⊆ may := by decide) :
    s.Moves own may (t.eventEnd m' typ v cut stop) := by
  refine h.andThen hm ?_
  unfold State.eventEnd
  extract_lets +onlyGivenNames y
  refine .ite ?_ ?_
  · exact .refl _
  · extract_lets +onlyGivenNames ws h s1 s2
    have hs1 : t.Moves own (.mtr :: logParts) s1 := .foldl (fun _ _ hv => hv.setReg) (.refl _)
    have hs2 : t.Moves own (.mtr :: logParts) s2 := hs1.setFld.setFld
    exact hs2.mtrMod.stick.logRec

theorem events (h : s.Moves own may t) {m' : Nat} {t' : Nat} {l : List Rat} (hm : (.mtr :: logParts) ⊆ may := by decide) :
    s.Moves own may (t.events m' t' l) := by
  refine h.andThen hm ?_
  unfold State.events
  extract_lets +onlyGivenNames y u hys sagT swlT intT lowAny lowAll highAny intr1 intrEnd sag1 sag2 sagEnd swl1 swlEnd s1 s2 s3
  have hs1 : t.Moves own (.mtr :: logParts) s1 := .mtrMod (.refl _)
  have hs2 : t.Moves own (.mtr :: logParts) s2 := .ite hs1.eventEnd hs1
  have hs3 : t.Moves own (.mtr :: logParts) s3 := .ite hs2.eventEnd hs2
  exact .ite hs3.eventEnd hs3

theorem mtrBf (h : s.Moves own may t) {m' : Nat} {k : Nat} {qs : List Rat} (hm : (.pan :: logParts) ⊆ may := by decide) :
    s.Moves own may (t.mtrBf m' k qs) := by
  refine h.andThen hm ?_
  unfold State.mtrBf
  exact .panWrites (.refl _)

theorem mtrRaw (h : s.Moves own may t) {m' : Nat} {k : Nat} {ws : List Word} (hm : (.pan :: logParts) ⊆ may := by decide) :
    s.Moves own may (t.mtrRaw m' k ws) := by
  refine h.andThen hm ?_
  unfold State.mtrRaw
  exact .panWrites (.refl _)

theorem halfValues (h : s.Moves own may t) {m' : Nat} {l : List MtrSample} (hm : (.pan :: logParts) ⊆ may := by decide) :
    s.Moves own may (t.halfValues m' l) := by
  refine h.andThen hm ?_
  unfold State.halfValues
  exact .mtrBf (.mtrBf (.refl _))

theorem intvValues (h : s.Moves own may t) {m' : Nat} {t0 : Nat} {t1 : Nat} {n : Nat} (hm : (.pan :: .freeN :: logParts) ⊆ may := by decide) :
    s.Moves own may (t.intvValues m' t0 t1 n) := by
  refine h.andThen hm ?_
  unfold State.intvValues
  extract_lets +onlyGivenNames l
  refine .ite ?_ ?_
  · exact .refl _
  · extract_lets +onlyGivenNames vs is_ d p q sApp r pf f va vb vc e s1 s2 s3 s4 s5
    have hs1 : t.Moves own (.pan :: .freeN :: logParts) s1 := .mtrBf (.mtrBf (.refl _))
    have hs2 : t.Moves own (.pan :: .freeN :: logParts) s2 := hs1.mtrBf.mtrBf
    have hs3 : t.Moves own (.pan :: .freeN :: logParts) s3 := hs2.mtrRaw
    have hs4 : t.Moves own (.pan :: .freeN :: logParts) s4 := hs3.freeStep.freeStep
    have hs5 : t.Moves own (.pan :: .freeN :: logParts) s5 := .foldl (fun _ _ hv => hv.mtrRaw.freeStep) hs4
    exact hs5.mtrBf.mtrBf

theorem mtrLoad (h : s.Moves own may t) {m' : Nat} (hm : [.mtr] ⊆ may := by decide) :
    s.Moves own may (t.mtrLoad m') := by
  refine h.andThen hm ?_
  unfold State.mtrLoad
  exact .mtrMod (.refl _)

theorem intvEnd (h : s.Moves own may t) {m' : Nat} {t' : Nat} {bad : Bool} (hm : (.pan :: .mtr :: .freeN :: logParts) ⊆ may := by decide) :
    s.Moves own may (t.intvEnd m' t' bad) := by
  refine h.andThen hm ?_
  unfold State.intvEnd
  extract_lets +onlyGivenNames y s1
  have hs1 : t.Moves own (.pan :: .mtr :: .freeN :: logParts) s1 := by
    dsimp only [s1]
    split
    · exact .intvValues (.refl _)
    · exact .refl _
  exact hs1.mtrMod.mtrLoad

theorem boundary (h : s.Moves own may t) {m' : Nat} {b : MtrBound} (hm : (.pan :: .mtr :: .freeN :: logParts) ⊆ may := by decide) :
    s.Moves own may (t.boundary m' b) := by
  refine h.andThen hm ?_
  unfold State.boundary
  extract_lets +onlyGivenNames y l bs first ok s0 s1 s2 prev a s3 s4 n t' s5 fresh s6
  have hs0 : t.Moves own (.pan :: .mtr :: .freeN :: logParts) s0 := .mtrMod (.stickIf (.refl _))
  have hs1 : t.Moves own (.pan :: .mtr :: .freeN :: logParts) s1 := .ite hs0 hs0.halfValues
  have hs2 : t.Moves own (.pan :: .mtr :: .freeN :: logParts) s2 := by
    dsimp only [s2]
    split
    · exact hs1.mtrMod.mtrBf
    · exact hs1
  have hs3 : t.Moves own (.pan :: .mtr :: .freeN :: logParts) s3 := .ite hs2.energyAdd.events hs2
  have hs4 : t.Moves own (.pan :: .mtr :: .freeN :: logParts) s4 := .ite hs3.tickReg hs3
  have ht' : t.Moves own (.pan :: .mtr :: .freeN :: logParts) t' := hs4.latch
  have hs5 : t.Moves own (.pan :: .mtr :: .freeN :: logParts) s5 := .ite (.ite ht'.latchLog ht') hs4
  have hfresh : t.Moves own (.pan :: .mtr :: .freeN :: logParts) fresh := hs5.mtrMod
  have hs6 : t.Moves own (.pan :: .mtr :: .freeN :: logParts) s6 := .ite hfresh.mtrLoad (.ite hs5.intvEnd hs5)
  exact hs6.mtrMod

theorem mtrBreak (h : s.Moves own may t) {m' : Nat} (hm : (.pan :: .mtr :: .freeN :: logParts) ⊆ may := by decide) :
    s.Moves own may (t.mtrBreak m') := by
  refine h.andThen hm ?_
  unfold State.mtrBreak
  extract_lets +onlyGivenNames y s1 s2
  have hs1 : t.Moves own (.pan :: .mtr :: .freeN :: logParts) s1 := .ite (.refl _) (.halfValues (.refl _))
  have hs2 : t.Moves own (.pan :: .mtr :: .freeN :: logParts) s2 := .ite hs1.intvEnd hs1
  exact hs2.mtrMod

theorem boundaries (h : s.Moves own may t) {i tick : Nat} {cross : Option MtrBound} {fuel : Nat}
    (hm : (.pan :: .mtr :: .freeN :: logParts) ⊆ may := by decide) : s.Moves own may (State.boundaries i tick cross fuel t) := by
  refine h.andThen hm ?_
  have hlast : ∀ u, t.Moves own (.pan :: .mtr :: .freeN :: logParts) u →
      t.Moves own (.pan :: .mtr :: .freeN :: logParts) (match cross with | some c => u.boundary i c | none => u) := by
    intro u hu
    split
    · exact hu.boundary
    · exact hu
  suffices H : ∀ u, t.Moves own (.pan :: .mtr :: .freeN :: logParts) u →
      t.Moves own (.pan :: .mtr :: .freeN :: logParts) (State.boundaries i tick cross fuel u) from H t (.refl t)
  induction fuel with
  | zero => exact fun _ hu => hu
  | succ fuel ih =>
    intro u hu
    unfold State.boundaries
    extract_lets +onlyGivenNames p
    split
    · exact hlast u hu
    · exact .ite (ih _ hu.boundary) (hlast u hu)

theorem mtrView (h : s.Moves own may t) {m' : Nat} (hm : [.regs] ⊆ may := by decide) :
    s.Moves own may (t.mtrView m') := by
  refine h.andThen hm ?_
  unfold State.mtrView
  extract_lets +onlyGivenNames y
  exact .setRegN (.refl _)

theorem mtrWrite (h : s.Moves own may t) {m' : Nat} {p : Rat} {q : Rat} (hm : (.pan :: .mtr :: logParts) ⊆ may := by decide) :
    s.Moves own may (t.mtrWrite m' p q) := by
  refine h.andThen hm ?_
  unfold State.mtrWrite
  extract_lets +onlyGivenNames y st b s1
  have hs1 : t.Moves own (.pan :: .mtr :: logParts) s1 := .mtrBf (.mtrRaw (.mtrRaw (.refl _)))
  exact hs1.mtrMod

theorem mtrSample (h : s.Moves own may t) {i tick : Nat} (hm : (.pan :: .mtr :: .freeN :: logParts) ⊆ may := by decide) :
    s.Moves own may (t.mtrSample i tick) := by
  refine h.andThen hm ?_
  unfold State.mtrSample
  extract_lets +onlyGivenNames y d late far s1 s2 new s3 ph y' cross z h2 armed add s4 s5
  have hs1 : t.Moves own (.pan :: .mtr :: .freeN :: logParts) s1 := .ite (.mtrMod (.stick (.bump (.refl _)))) (.refl _)
  have hs2 : t.Moves own (.pan :: .mtr :: .freeN :: logParts) s2 := .ite hs1.mtrBreak hs1
  have hs3 : t.Moves own (.pan :: .mtr :: .freeN :: logParts) s3 := hs2.set_freeN
  have hadd {u : State} (hu : t.Moves own (.pan :: .mtr :: .freeN :: logParts) u) : t.Moves own (.pan :: .mtr :: .freeN :: logParts) (add u) :=
    hu.energySample.mtrMod
  have hs4 : t.Moves own (.pan :: .mtr :: .freeN :: logParts) s4 := by
    clear_value s3 add
    dsimp only [s4]
    cases cross with
    | none => exact hadd hs3.boundaries
    | some c => exact .ite (hadd hs3).boundaries (hadd hs3.boundaries)
  exact hs4.mtrMod.mtrWrite.mtrView

theorem meterCommit (h : s.Moves own may t) (hm : (.pan :: .mtr :: .freeN :: logParts) ⊆ may := by decide) :
    s.Moves own may (t.meterCommit) := by
  refine h.andThen hm ?_
  unfold State.meterCommit
  refine .ite ?_ ?_
  · exact .refl _
  · refine .foldl (fun v k hv => ?_) (.refl _)
    refine .ite ?_ ?_
    · split
      · exact hv.mtrSample
      · exact hv
    · exact hv

theorem eventsCut (h : s.Moves own may t) {m' : Nat} (hm : (.mtr :: logParts) ⊆ may := by decide) :
    s.Moves own may (t.eventsCut m') := by
  refine h.andThen hm ?_
  unfold State.eventsCut
  extract_lets +onlyGivenNames y t' s1 s2 s3
  have hs1 : t.Moves own (.mtr :: logParts) s1 := .mtrMod (.refl _)
  have hs2 : t.Moves own (.mtr :: logParts) s2 := .ite hs1.eventEnd hs1
  have hs3 : t.Moves own (.mtr :: logParts) s3 := .ite hs2.eventEnd hs2
  exact .ite hs3.eventEnd hs3

theorem mtrRestart (h : s.Moves own may t) {m' : Nat} {enabled : Bool} (hm : [.regs, .mtr] ⊆ may := by decide) :
    s.Moves own may (t.mtrRestart m' enabled) := by
  refine h.andThen hm ?_
  unfold State.mtrRestart
  exact .mtrView (.mtrMod (.refl _))

theorem mtrFinal (h : s.Moves own may t) (hm : (.mtr :: logParts) ⊆ may := by decide) :
    s.Moves own may (t.mtrFinal) := by
  refine h.andThen hm ?_
  unfold State.mtrFinal
  refine .foldl (fun v k hv => ?_) (.refl _)
  refine .ite ?_ ?_
  · extract_lets +onlyGivenNames g
    exact hv.eventsCut.latch.latchLog
  · exact hv

theorem plsMod (h : s.Moves own may t) {k : Nat} {f : PlsOut → PlsOut} (hm : [.mtr] ⊆ may := by decide) :
    s.Moves own may (t.plsMod k f) := by
  refine h.andThen hm ?_
  unfold State.plsMod
  exact .set_mtr (.refl _)

theorem mcntMod (h : s.Moves own may t) {i : Nat} {f : McntIn → McntIn} (hm : [.mtr] ⊆ may := by decide) :
    s.Moves own may (t.mcntMod i f) := by
  refine h.andThen hm ?_
  unfold State.mcntMod
  exact .set_mtr (.refl _)

theorem mcntCfg (h : s.Moves own may t) {i : Nat} {val : Word} (hm : [.regs, .mtr] ⊆ may := by decide) :
    s.Moves own may (t.mcntCfg i val) := by
  refine h.andThen hm ?_
  unfold State.mcntCfg
  extract_lets +onlyGivenNames s1 e
  have hs1 : t.Moves own [.regs, .mtr] s1 := .setRegN (.setReg (.refl _))
  exact hs1.mcntMod

theorem annRx (h : s.Moves own may t) {p : Nat} {a : PtpAnnounce} (hm : (.net :: logParts) ⊆ may := by decide) :
    s.Moves own may (t.annRx p a) := by
  refine h.andThen hm ?_
  unfold State.annRx
  exact .ite (.refl _) (.bmca (.ptpMod (.refl _)))

theorem syncRx (h : s.Moves own may t) {p : Nat} {m' : PtpSync} (hm : (.pan :: .tim :: .freeN :: logParts) ⊆ may := by decide) :
    s.Moves own may (t.syncRx p m') := by
  refine h.andThen hm ?_
  unfold State.syncRx
  refine .ite ?_ ?_
  · exact .refl _
  · extract_lets +onlyGivenNames s1
    have hs1 : t.Moves own (.pan :: .tim :: .freeN :: logParts) s1 := .ite (.portSwitch (.setPState (.refl _))) (.refl _)
    refine .ite ?_ ?_
    · exact hs1
    · extract_lets +onlyGivenNames o s2
      have hs2 : t.Moves own (.pan :: .tim :: .freeN :: logParts) s2 := hs1.setRegN
      refine .ite ?_ ?_
      · exact hs2
      · extract_lets +onlyGivenNames ok s3
        have hs3 : t.Moves own (.pan :: .tim :: .freeN :: logParts) s3 := hs2.setFld
        exact .ite hs3 (.ite hs3.measure hs3.setRegN)

theorem pdelayReqRx (h : s.Moves own may t) {p : Nat} {domain : Nat} {seq : Nat} (hm : [.freeN, .out] ⊆ may := by decide) :
    s.Moves own may (t.pdelayReqRx p domain seq) := by
  refine h.andThen hm ?_
  unfold State.pdelayReqRx
  exact .ite (.refl _) (.freeStep (.netSendOn (.netSendOn (.refl _))))

theorem pdelayRespRx (h : s.Moves own may t) {p : Nat} {m' : PtpDelay} (hm : [.regs, .net] ⊆ may := by decide) :
    s.Moves own may (t.pdelayRespRx p m') := by
  refine h.andThen hm ?_
  unfold State.pdelayRespRx
  extract_lets +onlyGivenNames y
  refine .ite ?_ ?_
  · exact .refl _
  · extract_lets +onlyGivenNames d
    exact .ptpMod (.setRegN (.refl _))

theorem deliver (h : s.Moves own may t) {p : Nat} {b : NetBody} (hm : (.pan :: .tim :: .pwm :: .safe :: .net :: .freeN :: logParts) ⊆ may := by decide) :
    s.Moves own may (t.deliver p b) := by
  refine h.andThen hm ?_
  unfold State.deliver
  split
  · exact .annRx (.refl _)
  · exact .syncRx (.refl _)
  · exact .pdelayReqRx (.refl _)
  · exact .pdelayRespRx (.refl _)
  · exact .svRx (.refl _)
  · exact .goRx (.refl _)
  · exact .goTelegram (.refl _)
  · exact .refl _
  · exact .refl _

theorem forward (h : s.Moves own may t) {p : Nat} {f : NetFrame} (hm : [.regs, .out] ⊆ may := by decide) :
    s.Moves own may (t.forward p f) := by
  refine h.andThen hm ?_
  unfold State.forward
  extract_lets +onlyGivenNames o corr
  exact .ite (.netSendOn (.bump (.refl _))) (.refl _)

theorem frameRx (h : s.Moves own may t) {p : Nat} {f : NetFrame} (hm : (.pan :: .tim :: .pwm :: .safe :: .net :: .freeN :: logParts) ⊆ may := by decide) :
    s.Moves own may (t.frameRx p f) := by
  refine h.andThen hm ?_
  unfold State.frameRx
  refine .ite ?_ ?_
  · exact .refl _
  · extract_lets +onlyGivenNames s1 hsr
    have hs1 : t.Moves own (.pan :: .tim :: .pwm :: .safe :: .net :: .freeN :: logParts) s1 := .bump (.refl _)
    refine .ite ?_ ?_
    · exact hs1.rxErr
    · refine .ite ?_ ?_
      · exact hs1
      · refine .ite ?_ ?_
        · exact hs1.deliver
        · refine .ite ?_ ?_
          · exact hs1
          · extract_lets +onlyGivenNames tbl s2 o
            have hs2 : t.Moves own (.pan :: .tim :: .pwm :: .safe :: .net :: .freeN :: logParts) s2 := hs1.netMod
            split
            · exact .deliver (.ite hs2.forward hs2)
            · extract_lets +onlyGivenNames n
              split
              · extract_lets +onlyGivenNames s3
                have hs3 : t.Moves own (.pan :: .tim :: .pwm :: .safe :: .net :: .freeN :: logParts) s3 := hs2.netMod
                exact .deliver (.ite hs3.forward hs3)
              · extract_lets +onlyGivenNames fwd s3 s4
                have hs3 : t.Moves own (.pan :: .tim :: .pwm :: .safe :: .net :: .freeN :: logParts) s3 := hs2.netMod
                have hs4 : t.Moves own (.pan :: .tim :: .pwm :: .safe :: .net :: .freeN :: logParts) s4 := .ite hs3.forward hs3
                exact .ite hs4.bump hs4.deliver

theorem linkLoss (h : s.Moves own may t) {p : Nat} (hm : (.net :: logParts) ⊆ may := by decide) :
    s.Moves own may (t.linkLoss p) := by
  refine h.andThen hm ?_
  unfold State.linkLoss
  refine .ite ?_ ?_
  · exact .setFld (.refl _)
  · refine .ite ?_ ?_
    · exact .refl _
    · extract_lets +onlyGivenNames s1 s2
      have hs1 : t.Moves own (.net :: logParts) s1 := .ptpMod (.setBit (.refl _))
      have hs2 : t.Moves own (.net :: logParts) s2 := .ite hs1.setPState hs1
      exact hs2.stick.logRec

theorem netCtrlSet (h : s.Moves own may t) (hm : [.regs, .net] ⊆ may := by decide) :
    s.Moves own may (t.netCtrlSet) := by
  refine h.andThen hm ?_
  unfold State.netCtrlSet
  extract_lets +onlyGivenNames s1 s2
  have hs1 : t.Moves own [.regs, .net] s1 := .netMod (.refl _)
  have hs2 : t.Moves own [.regs, .net] s2 := .ite hs1.setBit hs1
  exact .foldl (fun _ _ hv => .ite (.ite hv.setPState hv) hv.setPState.ptpMod) hs2

theorem tblInstall (h : s.Moves own may t) {f : List Byte} (hm : [.regs, .net] ⊆ may := by decide) : s.Moves own may (t.tblInstall f) := by
  refine h.andThen hm ?_
  unfold State.tblInstall
  extract_lets +onlyGivenNames kind s1 n
  have hs1 : t.Moves own [.regs, .net] s1 := .netMod (.refl _) (fun z => by simpa [NetState.Sized, Tab.mod] using z)
  clear_value kind
  split
  · exact .foldl (fun _ _ hv => hv.setRegN) (hs1.netMod fun z => by simp_all [NetState.Sized])
  · exact hs1.netMod fun z => by simp_all [NetState.Sized]
  · exact .setRegN (.setRegN (hs1.netMod fun z => by simp_all [NetState.Sized]))
  · exact hs1.netMod fun z => by simp_all [NetState.Sized]

theorem pwrMod (h : s.Moves own may t) {f : PowerState → PowerState} (hm : [.pwr] ⊆ may := by decide) :
    s.Moves own may (t.pwrMod f) := by
  refine h.andThen hm ?_
  unfold State.pwrMod
  exact .set_pwr (.refl _)

theorem logMod (h : s.Moves own may t) {f : LogState → LogState} (hm : [.log] ⊆ may := by decide) :
    s.Moves own may (t.logMod f) := by
  refine h.andThen hm ?_
  unfold State.logMod
  exact .set_log (.refl _)

theorem readChecks (h : s.Moves own may t) {rs : List LogRec} (hm : logParts ⊆ may := by decide) :
    s.Moves own may (t.readChecks rs) := by
  refine h.andThen hm ?_
  unfold State.readChecks
  exact .foldl (fun _ k hv => .ite hv.stick (.ite hv hv.bump.stick)) (.refl _)

theorem dropReport (h : s.Moves own may t) (hm : [.regs, .log] ⊆ may := by decide) :
    s.Moves own may (t.dropReport) := by
  refine h.andThen hm ?_
  unfold State.dropReport
  exact .ite (.refl _) (.logMod (.enqueue (.refl _)))

theorem mramPut (h : s.Moves own may t) {out : MramOut} (hm : logParts ⊆ may := by decide) :
    s.Moves own may (t.mramPut out) := by
  refine h.andThen hm ?_
  unfold State.mramPut
  split
  · exact .refl _
  · extract_lets +onlyGivenNames r
    split
    extract_lets +onlyGivenNames s1 n rep t' s2
    have hs1 : t.Moves own logParts s1 := .logMod (.refl _)
    have ht' : t.Moves own logParts t' := .ite hs1.logMod hs1.enqueue.overflowStk
    have hs2 : t.Moves own logParts s2 := .ite ht'.stick hs1
    exact hs2.dropReport

theorem mramScan (h : s.Moves own may t) (hm : [.log] ⊆ may := by decide) :
    s.Moves own may (t.mramScan) := by
  refine h.andThen hm ?_
  unfold State.mramScan
  extract_lets +onlyGivenNames good n circ c at_
  exact .logMod (.refl _)

theorem charge (h : s.Moves own may t) {cost : Nat} (hm : [.pwr] ⊆ may := by decide) :
    s.Moves own may (t.charge cost) := by
  refine h.andThen hm ?_
  unfold State.charge
  exact .ite (.refl _) (.pwrMod (.refl _))

theorem deferBurst (h : s.Moves own may t) (hm : logParts ⊆ may := by decide) :
    s.Moves own may (t.deferBurst) := by
  refine h.andThen hm ?_
  unfold State.deferBurst
  exact .stick (.bump (.refl _))

theorem p2Send (h : s.Moves own may t) {bytes : List Byte} (hm : [.pwr, .out] ⊆ may := by decide) :
    s.Moves own may (t.p2Send bytes) := by
  refine h.andThen hm ?_
  unfold State.p2Send
  exact .send (.ite (.charge (.refl _)) (.refl _))

theorem p2Defer (h : s.Moves own may t) (hm : logParts ⊆ may := by decide) :
    s.Moves own may (t.p2Defer) := by
  refine h.andThen hm ?_
  unfold State.p2Defer
  exact .stick (.bump (.deferBurst (.refl _)))

theorem beaconSend (h : s.Moves own may t) (hm : [.pwr, .net, .out] ⊆ may := by decide) :
    s.Moves own may (t.beaconSend) := by
  refine h.andThen hm ?_
  unfold State.beaconSend
  extract_lets +onlyGivenNames t'
  have ht' : t.Moves own [.pwr, .net, .out] t' := .p2Send (.refl _)
  exact ht'.netMod

theorem beaconRetry (h : s.Moves own may t) (hm : [.pwr, .net, .out] ⊆ may := by decide) :
    s.Moves own may (t.beaconRetry) := by
  refine h.andThen hm ?_
  unfold State.beaconRetry
  exact .ite (.beaconSend (.refl _)) (.refl _)

theorem reply (h : s.Moves own may t) {bytes : List Byte} (hm : (.pwr :: logParts) ⊆ may := by decide) :
    s.Moves own may (t.reply bytes) := by
  refine h.andThen hm ?_
  unfold State.reply
  exact .ite (.p2Send (.refl _)) (.p2Defer (.refl _))

theorem setSource (h : s.Moves own may t) {src : Nat} (hm : (.pwr :: logParts) ⊆ may := by decide) :
    s.Moves own may (t.setSource src) := by
  refine h.andThen hm ?_
  unfold State.setSource
  refine .ite ?_ ?_
  · exact .refl _
  · extract_lets +onlyGivenNames s1
    have hs1 : t.Moves own (.pwr :: logParts) s1 := .setFld (.refl _)
    exact .ite hs1.pwrMod.stick.logRec hs1.logRec

theorem transition (h : s.Moves own may t) {to_ : DevState} {cause : Nat} {srcs : List Nat} (hd : .dev ∈ own ∨ (to_ = .run → s.dev = .run))
    (hm : (.dev :: logParts) ⊆ may := by decide) : s.Moves own may (t.transition to_ cause srcs) := by
  unfold State.transition
  exact .set_dev (.overflowStk (.enqueue h (List.Subset.trans (by decide) hm)) (List.Subset.trans (by decide) hm)) hd
    (List.Subset.trans (by decide) hm)

theorem survive (h : s.Moves own may t) {keep : Nat → Bool} {ns : List Nat}
    (hm : [.regs, .deferred, .spareReqs, .pan, .tim, .ana, .cmp, .pwm, .gl, .safe, .log, .ket, .net, .mtr, .hop, .law, .sup, .mbx, .pin] ⊆ may := by decide) :
    s.Moves own may (t.survive keep ns) :=
  h.set_parts (by simp [State.keeps, State.survive]) (Store.filter_wf _) (fun z => z.survive keep ns) rfl nofun hm

theorem keepBits (h : s.Moves own may t) {old : State} {qual : Nat} (hm : [.regs, .log] ⊆ may := by decide) :
    s.Moves own may (t.keepBits old qual) := by
  refine h.andThen hm ?_
  unfold State.keepBits
  exact .tidyFgt (.setReg (.setFld (.setFld (.setRegN (.refl _)))))

theorem holdKeep (h : s.Moves own may t) (hm : [.tim] ⊆ may := by decide) :
    s.Moves own may (t.holdKeep) := by
  refine h.andThen hm ?_
  unfold State.holdKeep
  exact .set_tim (.refl _)

end Sys2Proof.Machine.State.Moves
end

section
/-!
PROOFS. The instructions of a recipe: each keeps the sizes of its binding, so the step that carries it out keeps the invariant.
-/
namespace Sys2Proof.Machine

/-! ## What an instruction does to a binding keeps its sizes -/

theorem KOut.sized_putMant {o : KOut} (h : o.x.Sized) (sd i : Nat) (r : Int) : (o.putMant sd i r).x.Sized := by
  unfold KOut.putMant
  extract_lets m y
  split
  · exact h
  · exact Binding.Sized.modStage h _ _

theorem KOut.sized_putElem {o : KOut} (h : o.x.Sized) (sd i : Nat) (v : Dy) : (o.putElem sd i v).x.Sized := KOut.sized_putMant h _ _ _

theorem KOut.sized_putElems {o : KOut} (h : o.x.Sized) (sd e0 : Nat) (vs : List Dy) : (o.putElems sd e0 vs).x.Sized := by
  unfold KOut.putElems
  induction vs.zipIdx generalizing o with
  | nil => exact h
  | cons e es ih => exact ih (KOut.sized_putElem h _ _ _)

theorem KOut.sized_setFlag {o : KOut} (h : o.x.Sized) (q : Nat) (v : Bool) : (o.setFlag q v).x.Sized := by
  unfold KOut.setFlag
  split
  · exact h
  · exact h.modRun h.2

theorem KOut.sized_accAdd {o : KOut} (h : o.x.Sized) (i : Nat) (p s : Int) : (o.accAdd i p s).x.Sized :=
  h.modRun (by simpa [Tab.mod] using h.2)

theorem rescale_sized {x : Binding} (h : x.Sized) (sd : Nat) (e : Int) : (rescale sd e x).x.Sized := KOut.sized_putElems (h.modStage _ _) _ _ _

namespace State

-- A default argument by `decide` waits for every earlier proof, so the proofs here run one at a time.
set_option Elab.async false

variable {own may m : List Part} {s t u : State} {b : Fin 12} {k : KHead}

/-! ## The instructions -/

/-- An instruction that acts on its binding alone. -/
theorem Onward.kStep_pure {n w cost : Nat} {f : Binding → KOut} (hf : ∀ x : Binding, x.Sized → (f x).x.Sized)
    (hm : (.ket :: logParts) ⊆ may := by decide) : t.Onward own may (.next (t.kStep n w k cost (State.kPure n f))) :=
  .mono (.next (.kStep (.refl _) (.kPure (.refl _) hf))) hm

theorem Onward.execNop (hm : [.ket] ⊆ may := by decide) : t.Onward own may (execNop b k t) := .mono (.next (.kStep (.refl _) (.refl _))) hm

theorem Onward.execLoop {f : KL} (hm : [.ket] ⊆ may := by decide) : t.Onward own may (execLoop b f t) :=
  .mono (.next (.ite (.ketMod (.refl _) fun _ z => z.modRun z.2) (.refl _))) hm

theorem Onward.execCmpp {f : KE} (hm : (.ket :: logParts) ⊆ may := by decide) : t.Onward own may (execCmpp b k f t) :=
  .ite (.fault _) (.kStep_pure (fun _ z => KOut.sized_setFlag z _ _) hm)

theorem Onward.execPlog {f : KC} (hm : (.ket :: logParts) ⊆ may := by decide) : t.Onward own may (execPlog b k f t) :=
  .kStep_pure (fun _ z => KOut.sized_setFlag z _ _) hm

theorem Onward.execPbit {f : KB} (hm : (.ket :: logParts) ⊆ may := by decide) : t.Onward own may (execPbit b k f t) :=
  .kStep_pure (fun _ z => KOut.sized_setFlag z _ _) hm

theorem Onward.execPfresh {f : KT} (hm : (.pan :: .ket :: logParts) ⊆ may := by decide) : t.Onward own may (execPfresh b k f t) := by
  refine .mono (.next (.kStep (.refl _) ?_)) hm
  have hload (slot : Nat) : t.Moves own (.pan :: .ket :: logParts) (t.kLoad b slot) := .kLoad (.refl _)
  exact (hload _).kPure fun _ z => KOut.sized_setFlag z _ _

theorem Onward.execLdp {f : KP} (hm : (.pan :: .ket :: logParts) ⊆ may := by decide) : t.Onward own may (execLdp b k f t) := by
  refine .mono (.next (.kStep (.refl _) ?_)) hm
  have hload (slots : List Nat) : t.Moves own (.pan :: .ket :: logParts) (slots.foldl (fun u i => u.kLoad b i) t) :=
    .foldl (fun _ _ hv => hv.kLoad) (.refl _)
  exact (hload _).kPure fun _ z => KOut.sized_putElems z _ _ _

theorem Onward.execLdr {f : KT} (hm : (.pan :: .ket :: logParts) ⊆ may := by decide) : t.Onward own may (execLdr b k f t) := by
  refine .mono (.next (.kStep (.refl _) ?_)) hm
  have hload (slot : Nat) : t.Moves own (.pan :: .ket :: logParts) (t.kLoad b slot) := .kLoad (.refl _)
  exact (hload _).kPure fun _ z => z

theorem Onward.execStp {f : KP} (hm : (.pan :: .ket :: logParts) ⊆ may := by decide) : t.Onward own may (execStp b k f t) :=
  .mono (.next (.kStep (.refl _) (.foldl (fun _ _ hv => hv.kStore) (.refl _)))) hm

theorem Onward.execStr {f : KT} (hm : (.pan :: .ket :: logParts) ⊆ may := by decide) : t.Onward own may (execStr b k f t) :=
  .mono (.next (.kStep (.refl _) (.kStore (.refl _)))) hm

theorem Onward.execMacz {f : KA} (hm : (.ket :: logParts) ⊆ may := by decide) : t.Onward own may (execMacz b k f t) :=
  .kStep_pure (fun _ z => z.modRun (by simpa [Tab.mod] using z.2)) hm

theorem Onward.execMacv {f : KS} (hm : (.ket :: logParts) ⊆ may := by decide) : t.Onward own may (execMacv b k f t) := by
  refine .kStep_pure (fun x z => ?_) hm
  exact List.foldlRecOn (motive := fun o : KOut => o.x.Sized) _ _ z fun _ ho _ _ => KOut.sized_accAdd ho _ _ _

theorem Onward.execAccred {f : KA} (hm : (.ket :: logParts) ⊆ may := by decide) : t.Onward own may (execAccred b k f t) := by
  refine .kStep_pure (fun x z => ?_) hm
  refine List.foldlRecOn (motive := fun o : KOut => o.x.Sized) _ _ z fun o ho i _ => ?_
  have hadd := KOut.sized_accAdd ho 0 (x.run.acc.at i).a (x.run.acc.at i).x
  exact hadd.modRun (by simpa [Tab.mod] using hadd.2)

theorem Onward.execSadj {f : KS} (hm : (.ket :: logParts) ⊆ may := by decide) : t.Onward own may (execSadj b k f t) := by
  refine .kStep_pure (fun x z => ?_) hm
  dsimp only
  split
  · exact rescale_sized z _ _
  · exact (rescale_sized z _ _).modStage _ _

theorem Onward.execSqrt {f : KE} (hm : (.ket :: logParts) ⊆ may := by decide) : t.Onward own may (execSqrt b k f t) := by
  refine .kStep_pure (fun x z => ?_) hm
  dsimp only
  split
  · exact (KOut.sized_putMant z _ _ _).modStage _ _
  · exact KOut.sized_putElem z _ _ _

theorem Onward.execRecip {f : KE} (hm : (.ket :: logParts) ⊆ may := by decide) : t.Onward own may (execRecip b k f t) := by
  refine .kStep_pure (fun x z => ?_) hm
  dsimp only
  split
  · exact (KOut.sized_putMant z _ _ _).modStage _ _
  · exact KOut.sized_putMant z _ _ _

theorem Onward.execIsh {f : KW} (hm : (.ket :: logParts) ⊆ may := by decide) : t.Onward own may (execIsh b k f t) :=
  .ite (.fault _) (.kStep_pure (fun _ z => z) hm)

theorem Onward.execVadd {f : KS} (hm : (.ket :: logParts) ⊆ may := by decide) : t.Onward own may (execVadd b k f t) :=
  .kStep_pure (fun _ z => KOut.sized_putElems z _ _ _) hm

theorem Onward.execVsub {f : KS} (hm : (.ket :: logParts) ⊆ may := by decide) : t.Onward own may (execVsub b k f t) :=
  .kStep_pure (fun _ z => KOut.sized_putElems z _ _ _) hm

theorem Onward.execVmul {f : KS} (hm : (.ket :: logParts) ⊆ may := by decide) : t.Onward own may (execVmul b k f t) :=
  .kStep_pure (fun _ z => KOut.sized_putElems z _ _ _) hm

theorem Onward.execVmax {f : KS} (hm : (.ket :: logParts) ⊆ may := by decide) : t.Onward own may (execVmax b k f t) :=
  .kStep_pure (fun _ z => KOut.sized_putElems z _ _ _) hm

theorem Onward.execVmin {f : KS} (hm : (.ket :: logParts) ⊆ may := by decide) : t.Onward own may (execVmin b k f t) :=
  .kStep_pure (fun _ z => KOut.sized_putElems z _ _ _) hm

theorem Onward.execVabs {f : KS} (hm : (.ket :: logParts) ⊆ may := by decide) : t.Onward own may (execVabs b k f t) :=
  .kStep_pure (fun _ z => KOut.sized_putElems z _ _ _) hm

theorem Onward.execVneg {f : KS} (hm : (.ket :: logParts) ⊆ may := by decide) : t.Onward own may (execVneg b k f t) :=
  .kStep_pure (fun _ z => KOut.sized_putElems z _ _ _) hm

theorem Onward.execVclamp {f : KS} (hm : (.ket :: logParts) ⊆ may := by decide) : t.Onward own may (execVclamp b k f t) :=
  .kStep_pure (fun _ z => KOut.sized_putElems z _ _ _) hm

theorem Onward.execVmov {f : KS} (hm : (.ket :: logParts) ⊆ may := by decide) : t.Onward own may (execVmov b k f t) :=
  .kStep_pure (fun _ z => KOut.sized_putElems z _ _ _) hm

theorem Onward.execMac {f : KE} (hm : (.ket :: logParts) ⊆ may := by decide) : t.Onward own may (execMac b k f t) :=
  .kStep_pure (fun _ z => KOut.sized_accAdd z _ _ _) hm

theorem Onward.execMns {f : KE} (hm : (.ket :: logParts) ⊆ may := by decide) : t.Onward own may (execMns b k f t) :=
  .kStep_pure (fun _ z => KOut.sized_accAdd z _ _ _) hm

theorem Onward.execMacw {f : KE} (hm : (.ket :: logParts) ⊆ may := by decide) : t.Onward own may (execMacw b k f t) :=
  .kStep_pure (fun _ z => KOut.sized_putElem z _ _ _) hm

theorem Onward.execSexp {f : KS} (hm : (.ket :: logParts) ⊆ may := by decide) : t.Onward own may (execSexp b k f t) :=
  .kStep_pure (fun _ z => rescale_sized z _ _) hm

theorem Onward.execNorm {f : KS} (hm : (.ket :: logParts) ⊆ may := by decide) : t.Onward own may (execNorm b k f t) :=
  .kStep_pure (fun _ z => rescale_sized z _ _) hm

theorem Onward.execSincos {f : KX} (hm : (.ket :: logParts) ⊆ may := by decide) : t.Onward own may (execSincos b k f t) :=
  .kStep_pure (fun _ z => KOut.sized_putElems z _ _ _) hm

theorem Onward.execAngf {f : KX} (hm : (.ket :: logParts) ⊆ may := by decide) : t.Onward own may (execAngf b k f t) :=
  .kStep_pure (fun _ z => KOut.sized_putElem z _ _ _) hm

theorem Onward.execItof {f : KX} (hm : (.ket :: logParts) ⊆ may := by decide) : t.Onward own may (execItof b k f t) :=
  .kStep_pure (fun _ z => KOut.sized_putElem z _ _ _) hm

theorem Onward.execAtan2 {f : KX} (hm : (.ket :: logParts) ⊆ may := by decide) : t.Onward own may (execAtan2 b k f t) :=
  .kStep_pure (fun _ z => z) hm

theorem Onward.execFang {f : KX} (hm : (.ket :: logParts) ⊆ may := by decide) : t.Onward own may (execFang b k f t) :=
  .kStep_pure (fun _ z => z) hm

theorem Onward.execIadd {f : KW} (hm : (.ket :: logParts) ⊆ may := by decide) : t.Onward own may (execIadd b k f t) :=
  .kStep_pure (fun _ z => z) hm

theorem Onward.execIsub {f : KW} (hm : (.ket :: logParts) ⊆ may := by decide) : t.Onward own may (execIsub b k f t) :=
  .kStep_pure (fun _ z => z) hm

theorem Onward.execIand {f : KW} (hm : (.ket :: logParts) ⊆ may := by decide) : t.Onward own may (execIand b k f t) :=
  .kStep_pure (fun _ z => z) hm

theorem Onward.execIor {f : KW} (hm : (.ket :: logParts) ⊆ may := by decide) : t.Onward own may (execIor b k f t) :=
  .kStep_pure (fun _ z => z) hm

theorem Onward.execIxor {f : KW} (hm : (.ket :: logParts) ⊆ may := by decide) : t.Onward own may (execIxor b k f t) :=
  .kStep_pure (fun _ z => z) hm

theorem Onward.execImov {f : KI} (hm : (.ket :: logParts) ⊆ may := by decide) : t.Onward own may (execImov b k f t) :=
  .kStep_pure (fun _ z => z) hm

end State

end Sys2Proof.Machine
end

section
/-!
PROOFS. Which parts the instructions of the units move: converters, comparators, gate links, safety, network, leg groups, recorder.
-/
namespace Sys2Proof.Machine.State

-- A default argument by `decide` waits for every earlier proof, so the proofs here run one at a time.
set_option Elab.async false

variable {own may m : List Part} {s t u : State}

theorem Onward.execAdcSequenceTrigger {core : Fin 8} {inj : Bool} (hm : (.ana :: logParts) ⊆ may := by decide) : t.Onward own may (execAdcSequenceTrigger core inj t) := by
  refine .mono ?_ hm
  unfold Machine.execAdcSequenceTrigger
  exact .next (.adcTrig (.refl _))

theorem Onward.execSequenceStart {core : Fin 8} {inj : Bool} (hm : [.gt, .regs, .ana] ⊆ may := by decide) : t.Onward own may (execSequenceStart core inj t) := by
  refine .mono ?_ hm
  unfold Machine.execSequenceStart
  refine .next ?_
  extract_lets +onlyGivenNames k q
  refine .ite ?_ ?_
  · exact .refl _
  · extract_lets +onlyGivenNames t'
    have ht' : t.Moves own [.gt, .regs, .ana] t' := .gtTo (.refl _)
    exact .ite ht'.abandon.coreMod.startEntry (.ite ht'.coreMod ht'.coreMod.startEntry)

theorem Onward.execConversionEnd {core : Fin 8} {code : Fin 65536} (hm : (.gt :: .ana :: logParts) ⊆ may := by decide) : t.Onward own may (execConversionEnd core code t) := by
  refine .mono ?_ hm
  unfold Machine.execConversionEnd
  refine .next ?_
  split
  · exact .refl _
  · extract_lets +onlyGivenNames t' val r t1 t2
    have ht' : t.Moves own (.gt :: .ana :: logParts) t' := .gtTo (.refl _)
    have ht1 : t.Moves own (.gt :: .ana :: logParts) t1 := ht'.coreMod
    have ht2 : t.Moves own (.gt :: .ana :: logParts) t2 := ht1.stickIf
    exact ht2.afterEntry

theorem Onward.execAdcResultWrite {src : AdcRes} (hm : (.gt :: .pan :: .ana :: logParts) ⊆ may := by decide) : t.Onward own may (execAdcResultWrite src t) := by
  refine .mono ?_ hm
  unfold Machine.execAdcResultWrite
  refine .next ?_
  split
  · split
    · exact .refl _
    · extract_lets +onlyGivenNames t'
      have ht' : t.Moves own (.gt :: .pan :: .ana :: logParts) t' := .coreMod (.gtTo (.refl _))
      exact ht'.panSampleAt
  · extract_lets +onlyGivenNames t'
    have ht' : t.Moves own (.gt :: .pan :: .ana :: logParts) t' := .gtTo (.refl _)
    exact ht'.panSampleAt

theorem Onward.execAnaSwtrig {val : Word} (hm : (.ana :: logParts) ⊆ may := by decide) : t.Onward own may (execAnaSwtrig val t) := by
  refine .mono ?_ hm
  unfold Machine.execAnaSwtrig
  refine .next ?_
  refine .foldl (fun v k hv => ?_) (.refl _)
  extract_lets +onlyGivenNames t1
  have ht1 : t.Moves own (.ana :: logParts) t1 := .ite hv.adcTrig hv
  exact .ite ht1.adcTrig ht1

theorem Onward.execAtmrFire {t' : Fin 4} (hm : (.gt :: .ana :: logParts) ⊆ may := by decide) : t.Onward own may (execAtmrFire t' t) := by
  refine .mono ?_ hm
  unfold Machine.execAtmrFire
  refine .next ?_
  extract_lets +onlyGivenNames p ph
  refine .ite ?_ ?_
  · exact .refl _
  · extract_lets +onlyGivenNames u
    have hu : t.Moves own (.gt :: .ana :: logParts) u := .gtTo (.refl _)
    exact hu.set_ana.adcFire

theorem Onward.execOpenWireRound {core : Fin 8} (hm : [.gt, .ana] ⊆ may := by decide) : t.Onward own may (execOpenWireRound core t) := by
  refine .mono ?_ hm
  unfold Machine.execOpenWireRound
  refine .next ?_
  extract_lets +onlyGivenNames k pins
  refine .ite ?_ ?_
  · exact .refl _
  · extract_lets +onlyGivenNames t'
    have ht' : t.Moves own [.gt, .ana] t' := .ite (.gtTo (.refl _)) (.refl _)
    exact ht'.coreMod

theorem Onward.execOpenWireStep {core : Fin 8} {codeUp : Fin 65536} {codeDown : Fin 65536} (hm : (.ana :: logParts) ⊆ may := by decide) : t.Onward own may (execOpenWireStep core codeUp codeDown t) := by
  refine .mono ?_ hm
  unfold Machine.execOpenWireStep
  refine .next ?_
  extract_lets +onlyGivenNames k
  split
  · exact .refl _
  · refine .ite ?_ ?_
    · exact .refl _
    · extract_lets +onlyGivenNames open_ t'
      have ht' : t.Moves own (.ana :: logParts) t' := .stickIf (.setBit (.refl _))
      exact ht'.coreMod

theorem Onward.execOpenWireTimeout {core : Fin 8} (hm : (.gt :: .ana :: logParts) ⊆ may := by decide) : t.Onward own may (execOpenWireTimeout core t) := by
  refine .mono ?_ hm
  unfold Machine.execOpenWireTimeout
  refine .next ?_
  extract_lets +onlyGivenNames k
  refine .ite ?_ ?_
  · exact .refl _
  · extract_lets +onlyGivenNames t'
    have ht' : t.Moves own (.gt :: .ana :: logParts) t' := .gtTo (.refl _)
    exact ht'.stick.coreMod

theorem Onward.execCalReq {core : Fin 8} (hm : [.regs, .ana] ⊆ may := by decide) : t.Onward own may (execCalReq core t) := by
  refine .mono ?_ hm
  unfold Machine.execCalReq
  exact .next (.calQueue (.refl _))

theorem Onward.execCalAuto {core : Fin 8} (hm : [.gt, .regs, .ana] ⊆ may := by decide) : t.Onward own may (execCalAuto core t) := by
  refine .mono ?_ hm
  unfold Machine.execCalAuto
  refine .next ?_
  extract_lets +onlyGivenNames m
  exact .ite (.refl _) (.calQueue (.gtTo (.refl _)))

theorem Onward.execCalComplete {core : Fin 8} {coef : DWord} (hm : (.ana :: logParts) ⊆ may := by decide) : t.Onward own may (execCalComplete core coef t) := by
  refine .mono ?_ hm
  unfold Machine.execCalComplete
  refine .next ?_
  refine .ite ?_ ?_
  · exact .refl _
  · extract_lets +onlyGivenNames t'
    have ht' : t.Moves own (.ana :: logParts) t' := .coreMod (.calFinish (.refl _))
    exact ht'.logRec

theorem Onward.execCalTimeout {core : Fin 8} (hm : (.gt :: .ana :: logParts) ⊆ may := by decide) : t.Onward own may (execCalTimeout core t) := by
  refine .mono ?_ hm
  unfold Machine.execCalTimeout
  refine .next ?_
  extract_lets +onlyGivenNames k
  exact .ite (.refl _) (.stick (.calFinish (.gtTo (.refl _))))

theorem Onward.execSinc3Output {n : Fin 48} {bits : List Bool} (hm : (.pan :: .ana :: logParts) ⊆ may := by decide) : t.Onward own may (execSinc3Output n bits t) := by
  refine .mono ?_ hm
  unfold Machine.execSinc3Output
  refine .next ?_
  refine .ite ?_ ?_
  · exact .refl _
  · split
    extract_lets +onlyGivenNames t'
    have ht' : t.Moves own (.pan :: .ana :: logParts) t' := .sdfMod (.refl _)
    exact ht'.sdfWrite

theorem Onward.execOcFilterOutput {n : Fin 48} {bits : List Bool} (hm : (.pan :: .ana :: .cmp :: .pwm :: .gl :: logParts) ⊆ may := by decide) : t.Onward own may (execOcFilterOutput n bits t) := by
  refine .mono ?_ hm
  unfold Machine.execOcFilterOutput
  refine .next ?_
  refine .ite ?_ ?_
  · exact .refl _
  · split
    extract_lets +onlyGivenNames d hi lo t' t1 t2
    have ht' : t.Moves own (.pan :: .ana :: .cmp :: .pwm :: .gl :: logParts) t' := .sdfMod (.refl _)
    have ht1 : t.Moves own (.pan :: .ana :: .cmp :: .pwm :: .gl :: logParts) t1 := ht'.sdfWrite
    have ht2 : t.Moves own (.pan :: .ana :: .cmp :: .pwm :: .gl :: logParts) t2 := ht1.stickIf
    exact .tripEval (.ite ht2.adcFire ht2)

theorem Onward.execSddStuck {n : Fin 48} (hm : logParts ⊆ may := by decide) : t.Onward own may (execSddStuck n t) := by
  refine .mono ?_ hm
  unfold Machine.execSddStuck
  exact .next (.ite (.refl _) (.stick (.setStuck (.refl _))))

theorem Onward.execSddStuckClear {n : Fin 48} (hm : [.regs, .ana] ⊆ may := by decide) : t.Onward own may (execSddStuckClear n t) := by
  refine .mono ?_ hm
  unfold Machine.execSddStuckClear
  exact .next (.ite (.refl _) (.sdfMod (.setStuck (.refl _))))

theorem Onward.execComparatorCrossing {n : Fin 64} {vin : Int} {cref : Int} (hm : (.ana :: .cmp :: .pwm :: .gl :: .safe :: .pwr :: logParts) ⊆ may := by decide) : t.Onward own may (execComparatorCrossing n vin cref t) := by
  refine .mono ?_ hm
  unfold Machine.execComparatorCrossing
  refine .next ?_
  extract_lets +onlyGivenNames c
  refine .ite ?_ ?_
  · exact .refl _
  · extract_lets +onlyGivenNames raw hit s1 s2
    have hs1 : t.Moves own (.ana :: .cmp :: .pwm :: .gl :: .safe :: .pwr :: logParts) s1 := .cmpMod (.refl _)
    have hs2 : t.Moves own (.ana :: .cmp :: .pwm :: .gl :: .safe :: .pwr :: logParts) s2 := hs1.stickIf
    exact .cmpRoute (.ite hs2.bump hs2)

theorem Onward.execBlankingEnd {n : Fin 64} (hm : (.gt :: .ana :: .cmp :: .pwm :: .gl :: .safe :: .pwr :: logParts) ⊆ may := by decide) : t.Onward own may (execBlankingEnd n t) := by
  refine .mono ?_ hm
  unfold Machine.execBlankingEnd
  refine .next ?_
  extract_lets +onlyGivenNames c
  exact .ite (.refl _) (.cmpRoute (.cmpMod (.gtTo (.refl _))))

theorem Onward.execBlankingLimit {n : Fin 64} (hm : (.gt :: .ana :: .cmp :: .pwm :: .gl :: .safe :: .pwr :: logParts) ⊆ may := by decide) : t.Onward own may (execBlankingLimit n t) := by
  refine .mono ?_ hm
  unfold Machine.execBlankingLimit
  refine .next ?_
  extract_lets +onlyGivenNames c t'
  exact .ite (.refl _) (.cmpRoute (.stick (.cmpMod (.gtTo (.refl _)))))

theorem Onward.execSeedingComplete {n : Fin 64} {vin : Int} {vth : Int} (hm : (.ana :: .cmp :: .pwm :: .gl :: .safe :: .pwr :: logParts) ⊆ may := by decide) : t.Onward own may (execSeedingComplete n vin vth t) := by
  refine .mono ?_ hm
  unfold Machine.execSeedingComplete
  refine .next ?_
  extract_lets +onlyGivenNames c
  refine .ite ?_ ?_
  · exact .refl _
  · extract_lets +onlyGivenNames h pol lo hi inside raw s1
    have hs1 : t.Moves own (.ana :: .cmp :: .pwm :: .gl :: .safe :: .pwr :: logParts) s1 := .cmpMod (.refl _)
    exact hs1.stickIf.cmpRoute

theorem Onward.execSeedStarved {n : Fin 64} (hm : (.gt :: logParts) ⊆ may := by decide) : t.Onward own may (execSeedStarved n t) := by
  refine .mono ?_ hm
  unfold Machine.execSeedStarved
  refine .next ?_
  extract_lets +onlyGivenNames c
  exact .ite (.refl _) (.stick (.gtTo (.refl _)))

theorem Onward.execCmpReadbackCheck {n : Fin 64} {dac : Int} {thr : Int} (hm : (.ana :: .cmp :: .pwm :: .gl :: .safe :: .pwr :: logParts) ⊆ may := by decide) : t.Onward own may (execCmpReadbackCheck n dac thr t) := by
  refine .mono ?_ hm
  unfold Machine.execCmpReadbackCheck
  exact .next (.ite (.refl _) (.cmpCheck (.refl _)))

theorem Onward.execReadbackCheckTimeout {n : Fin 64} (hm : (.gt :: .ana :: .cmp :: .pwm :: .gl :: .safe :: .pwr :: logParts) ⊆ may := by decide) : t.Onward own may (execReadbackCheckTimeout n t) := by
  refine .mono ?_ hm
  unfold Machine.execReadbackCheckTimeout
  refine .next ?_
  refine .ite ?_ ?_
  · exact .refl _
  · extract_lets +onlyGivenNames t'
    have ht' : t.Moves own (.gt :: .ana :: .cmp :: .pwm :: .gl :: .safe :: .pwr :: logParts) t' := .gtTo (.refl _)
    exact ht'.cmpMod.cmpFail

theorem Onward.execCmpSnapshot (hm : (.gt :: .pan :: .cmp :: logParts) ⊆ may := by decide) : t.Onward own may (execCmpSnapshot t) := by
  refine .mono (.next (.ite (.refl _) ?_)) hm
  extract_lets +onlyGivenNames c u t1 cs
  have hu : t.Moves own (.gt :: .pan :: .cmp :: logParts) u := .gtTo (.refl _)
  have ht1 : t.Moves own (.gt :: .pan :: .cmp :: logParts) t1 := .foldl (fun _ _ hv => hv.panSampleAt) hu
  exact .set_cmp ht1 (by simp [CmpBlock.Sized, cs])

theorem Onward.execGfbTransition {n : Fin 192} {level : Bool} {frac : Fin 32} {stable : Bool} (hm : (.cmp :: .pwm :: .gl :: .safe :: logParts) ⊆ may := by decide) : t.Onward own may (execGfbTransition n level frac stable t) := by
  refine .mono ?_ hm
  unfold Machine.execGfbTransition
  refine .next ?_
  refine .ite ?_ ?_
  · exact .refl _
  · extract_lets +onlyGivenNames t' c inWin s1 s2 counted s3
    have hs1 : t.Moves own (.cmp :: .pwm :: .gl :: .safe :: logParts) s1 := .glMod (.refl _)
    have hs2 : t.Moves own (.cmp :: .pwm :: .gl :: .safe :: logParts) s2 := .ite hs1.glMod (.ite hs1.glMod hs1.glMod)
    have hs3 : t.Moves own (.cmp :: .pwm :: .gl :: .safe :: logParts) s3 := .ite hs2.glConfirm.glMod hs2
    exact .ite hs3.declareFault hs3

theorem Onward.execConfWindowClose {n : Fin 192} (hm : (.gt :: .cmp :: .pwm :: .gl :: .safe :: logParts) ⊆ may := by decide) : t.Onward own may (execConfWindowClose n t) := by
  refine .mono ?_ hm
  unfold Machine.execConfWindowClose
  refine .next ?_
  split
  · exact .refl _
  · extract_lets +onlyGivenNames t'
    have ht' : t.Moves own (.gt :: .cmp :: .pwm :: .gl :: .safe :: logParts) t' := .glMod (.gtTo (.refl _))
    exact .ite (.ite ht'.declareFault ht') ht'.declareFault

theorem Onward.execGfbLevelTimeout {n : Fin 192} (hm : (.gt :: .cmp :: .pwm :: .gl :: .safe :: logParts) ⊆ may := by decide) : t.Onward own may (execGfbLevelTimeout n t) := by
  refine .mono ?_ hm
  unfold Machine.execGfbLevelTimeout
  refine .next ?_
  extract_lets +onlyGivenNames c p cmd
  refine .ite ?_ ?_
  · exact .refl _
  · extract_lets +onlyGivenNames since to_
    exact .declareFault (.gtTo (.refl _))

theorem Onward.execRetryWaitEnd {n : Fin 192} (hm : [.gt, .regs, .gl] ⊆ may := by decide) : t.Onward own may (execRetryWaitEnd n t) := by
  refine .mono ?_ hm
  unfold Machine.execRetryWaitEnd
  refine .next ?_
  extract_lets +onlyGivenNames c
  refine .ite ?_ ?_
  · exact .refl _
  · extract_lets +onlyGivenNames g t' tries wait ok
    have ht' : t.Moves own [.gt, .regs, .gl] t' := .gtTo (.refl _)
    exact ht'.glMod.glView

theorem Onward.execTryCountReset {n : Fin 192} (hm : [.gt, .gl] ⊆ may := by decide) : t.Onward own may (execTryCountReset n t) := by
  refine .mono ?_ hm
  unfold Machine.execTryCountReset
  refine .next ?_
  extract_lets +onlyGivenNames c
  exact .ite (.refl _) (.glMod (.gtTo (.refl _)))

theorem Onward.execCoincWindowExpire {v : Fin 12} (hm : (.gt :: .pwm :: .gl :: .safe :: logParts) ⊆ may := by decide) : t.Onward own may (execCoincWindowExpire v t) := by
  refine .mono ?_ hm
  unfold Machine.execCoincWindowExpire
  have ht : t.Moves own (.gt :: .pwm :: .gl :: .safe :: logParts) t := .refl t
  refine .next ?_
  refine .ite ?_ ?_
  · exact .refl _
  · extract_lets +onlyGivenNames t' src u
    have ht' : t.Moves own (.gt :: .pwm :: .gl :: .safe :: logParts) t' := by
      dsimp only [t']
      split
      · exact .gtTo (.refl _)
      · exact .refl _
    have hu : t.Moves own (.gt :: .pwm :: .gl :: .safe :: logParts) u := .set_gl ht' (fun z => by simpa [GlState.Sized, Tab.mod] using z)
    exact hu.demandSet

theorem Onward.execGsetFrame {g : Fin 32} (hm : (.gt :: .pwm :: logParts) ⊆ may := by decide) : t.Onward own may (execGsetFrame g t) := by
  refine .mono ?_ hm
  unfold Machine.execGsetFrame
  refine .next ?_
  extract_lets +onlyGivenNames l
  refine .ite ?_ ?_
  · exact .refl _
  · extract_lets +onlyGivenNames t' a
    have ht' : t.Moves own (.gt :: .pwm :: logParts) t' := .gtTo (.refl _)
    refine .ite ?_ ?_
    · exact ht'.lgMod.bump.stick
    · extract_lets +onlyGivenNames codes bits
      exact ht'.lgMod.send

theorem Onward.execGlClrLatch {n : Fin 192} (hm : [.regs, .pwm, .gl] ⊆ may := by decide) : t.Onward own may (execGlClrLatch n t) := by
  refine .mono ?_ hm
  unfold Machine.execGlClrLatch
  exact .next (.latchClear (.refl _))

theorem Onward.execGlClrShoot {g : Fin 32} {q : Fin 3} (hm : [.regs, .pwm, .gl] ⊆ may := by decide) : t.Onward own may (execGlClrShoot g q t) := by
  refine .mono ?_ hm
  unfold Machine.execGlClrShoot
  exact .next (.shootClear (.refl _))

theorem Onward.execShootThroughHold {g : Fin 32} {q : Fin 3} (hm : (.gt :: .cmp :: .pwm :: .gl :: logParts) ⊆ may := by decide) : t.Onward own may (execShootThroughHold g q t) := by
  refine .mono ?_ hm
  unfold Machine.execShootThroughHold
  have ht : t.Moves own (.gt :: .cmp :: .pwm :: .gl :: logParts) t := .refl t
  refine .next ?_
  split
  · exact .refl _
  · extract_lets +onlyGivenNames t'
    have ht' : t.Moves own (.gt :: .cmp :: .pwm :: .gl :: logParts) t' := .gtTo (.refl _)
    refine .ite ?_ ?_
    · exact .refl _
    · extract_lets +onlyGivenNames n src u
      have hu : t.Moves own (.gt :: .cmp :: .pwm :: .gl :: logParts) u := .set_gl ht' (fun z => by simpa [GlState.Sized, Tab.mod] using z)
      exact hu.forceOff.forceOff.stick.glView.logRec

theorem Onward.execGlPrbcmdGo (hm : [.regs, .gl] ⊆ may := by decide) : t.Onward own may (execGlPrbcmdGo t) := by
  refine .mono ?_ hm
  unfold Machine.execGlPrbcmdGo
  exact .next (.probeGo (.refl _))

theorem Onward.execProbeStep {v0 : Fin 65536} {vp : Fin 65536} {vm : Fin 65536} (hm : (.pwm :: .gl :: .safe :: logParts) ⊆ may := by decide) : t.Onward own may (execProbeStep v0 vp vm t) := by
  refine .mono ?_ hm
  unfold Machine.execProbeStep
  have ht : t.Moves own (.pwm :: .gl :: .safe :: logParts) t := .refl t
  refine .next ?_
  split
  · exact .refl _
  · refine .ite ?_ ?_
    · exact .refl _
    · extract_lets +onlyGivenNames cls ws src t'
      have ht' : t.Moves own (.pwm :: .gl :: .safe :: logParts) t' := .probeResult (.set_gl (.refl _) (fun z => by simpa [GlState.Sized, Tab.mod] using z))
      exact .ite ht'.probeEnd.probeDone ht'

theorem Onward.execProbeTimeout (hm : (.gt :: .pwm :: .gl :: .safe :: logParts) ⊆ may := by decide) : t.Onward own may (execProbeTimeout t) := by
  refine .mono ?_ hm
  unfold Machine.execProbeTimeout
  refine .next ?_
  refine .ite ?_ ?_
  · exact .refl _
  · extract_lets +onlyGivenNames t' u
    have ht' : t.Moves own (.gt :: .pwm :: .gl :: .safe :: logParts) t' := .gtTo (.refl _)
    have hu : t.Moves own (.gt :: .pwm :: .gl :: .safe :: logParts) u := .foldl (fun _ _ hv => hv.probeResult) ht'
    exact hu.stick.probeEnd.probeDone

theorem Onward.execMissingCommitTimeout {v : Fin 12} (hm : (.gt :: .pwm :: .safe :: logParts) ⊆ may := by decide) : t.Onward own may (execMissingCommitTimeout v t) := by
  refine .mono ?_ hm
  unfold Machine.execMissingCommitTimeout
  refine .next ?_
  split
  · exact .refl _
  · refine .ite ?_ ?_
    · exact .refl _
    · extract_lets +onlyGivenNames t'
      have ht' : t.Moves own (.gt :: .pwm :: .safe :: logParts) t' := .stick (.gtTo (.refl _))
      refine .foldl (fun v' k hv => ?_) ht'
      split
      exact .ite hv.demandSet hv

theorem Onward.execOffdlyExpire {v : Fin 12} (hm : [.gt, .regs, .safe] ⊆ may := by decide) : t.Onward own may (execOffdlyExpire v t) := by
  refine .mono ?_ hm
  unfold Machine.execOffdlyExpire
  refine .next ?_
  split
  · exact .refl _
  · exact .ite (.refl _) (.soutCheck (.safeMod (.gtTo (.refl _))))

theorem Onward.execMonitorInternalFault (hm : (.pwm :: .safe :: logParts) ⊆ may := by decide) : t.Onward own may (execMonitorInternalFault t) := by
  refine .mono ?_ hm
  unfold Machine.execMonitorInternalFault
  exact .next (.ite (.safeState (.refl _)) (.refl _))

theorem Onward.execMonitorDiagnostic {elem : MonDiag} {ok : Bool} (hm : (.pwm :: .safe :: logParts) ⊆ may := by decide) : t.Onward own may (execMonitorDiagnostic elem ok t) := by
  refine .mono ?_ hm
  unfold Machine.execMonitorDiagnostic
  refine .next ?_
  refine .ite ?_ ?_
  · exact .refl _
  · extract_lets +onlyGivenNames t'
    have ht' : t.Moves own (.pwm :: .safe :: logParts) t' := .ite (.setFld (.refl _)) (.refl _)
    exact .ite ht' ht'.safeState

theorem Onward.execPadReadbackMismatch {n : Fin 192} {agree : Bool} (hm : (.pwm :: .safe :: logParts) ⊆ may := by decide) : t.Onward own may (execPadReadbackMismatch n agree t) := by
  refine .mono ?_ hm
  unfold Machine.execPadReadbackMismatch
  refine .next ?_
  refine .ite ?_ ?_
  · exact .refl _
  · extract_lets +onlyGivenNames cs
    refine .ite ?_ ?_
    · exact .demandDrop (.safeMod (.refl _))
    · extract_lets +onlyGivenNames ms
      exact .demandSet (.safeMod (.refl _))

theorem Onward.execSinSample {i : Fin 8} {chB : Bool} {uv : Int} (hm : (.pwm :: .gl :: .safe :: logParts) ⊆ may := by decide) : t.Onward own may (execSinSample i chB uv t) := by
  refine .mono ?_ hm
  unfold Machine.execSinSample
  refine .next ?_
  refine .ite ?_ ?_
  · exact .refl _
  · extract_lets +onlyGivenNames was
    exact .pairEval (.pairMod (.refl _))

theorem Onward.execSinTestSlot {i : Fin 8} {chB : Bool} {uv : Int} (hm : (.pwm :: .gl :: .safe :: logParts) ⊆ may := by decide) : t.Onward own may (execSinTestSlot i chB uv t) := by
  refine .mono ?_ hm
  unfold Machine.execSinTestSlot
  refine .next ?_
  refine .ite ?_ ?_
  · exact .refl _
  · extract_lets +onlyGivenNames was bad
    exact .pairEval (.pairMod (.refl _))

theorem Onward.execSinDiscrepancyTimeout {i : Fin 8} (hm : (.gt :: .pwm :: .gl :: .safe :: logParts) ⊆ may := by decide) : t.Onward own may (execSinDiscrepancyTimeout i t) := by
  refine .mono ?_ hm
  unfold Machine.execSinDiscrepancyTimeout
  refine .next ?_
  extract_lets +onlyGivenNames c p
  refine .ite ?_ ?_
  · exact .refl _
  · split
    · extract_lets +onlyGivenNames was u
      have hu : t.Moves own (.gt :: .pwm :: .gl :: .safe :: logParts) u := .pairMod (.gtTo (.refl _))
      exact hu.stick.pairAct
    · split
      · refine .ite ?_ ?_
        · exact .refl _
        · extract_lets +onlyGivenNames was u
          have hu : t.Moves own (.gt :: .pwm :: .gl :: .safe :: logParts) u := .pairMod (.gtTo (.refl _))
          exact hu.stick.pairAct
      · exact .refl _

theorem Onward.execSoutSwitchOn {j : Fin 4} (hm : [.regs, .safe] ⊆ may := by decide) : t.Onward own may (execSoutSwitchOn j t) := by
  refine .mono ?_ hm
  unfold Machine.execSoutSwitchOn
  refine .next ?_
  refine .ite ?_ ?_
  · exact .refl _
  · extract_lets +onlyGivenNames t'
    have ht' : t.Moves own [.regs, .safe] t' := .soutMod (.refl _)
    exact ht'.setFld.setFld

theorem Onward.execSoutHClose {j : Fin 4} (hm : [.gt, .regs, .safe] ⊆ may := by decide) : t.Onward own may (execSoutHClose j t) := by
  refine .mono ?_ hm
  unfold Machine.execSoutHClose
  refine .next ?_
  extract_lets +onlyGivenNames o
  refine .ite ?_ ?_
  · exact .refl _
  · extract_lets +onlyGivenNames t'
    have ht' : t.Moves own [.gt, .regs, .safe] t' := .soutMod (.gtTo (.refl _))
    exact ht'.setFld

theorem Onward.execSoutTest {j : Fin 4} {kind : Fin 7} (hm : (.pwm :: .safe :: logParts) ⊆ may := by decide) : t.Onward own may (execSoutTest j kind t) := by
  refine .mono ?_ hm
  unfold Machine.execSoutTest
  exact .next (.ite (.refl _) (.ite (.soutFault (.refl _)) (.ite (.soutMod (.refl _)) (.refl _))))

theorem Onward.execSoutCurrentLimit {j : Fin 4} (hm : (.pwm :: .safe :: .freeN :: logParts) ⊆ may := by decide) : t.Onward own may (execSoutCurrentLimit j t) := by
  refine .mono ?_ hm
  unfold Machine.execSoutCurrentLimit
  exact .next (.ite (.refl _) (.soutFault (.freeStep (.refl _))))

theorem Onward.execSafetyTelegramRx {r : Fin 8} {bytes : List Byte} (hm : (.pan :: .pwm :: .safe :: logParts) ⊆ may := by decide) : t.Onward own may (execSafetyTelegramRx r bytes t) := by
  refine .mono ?_ hm
  unfold Machine.execSafetyTelegramRx
  exact .next (.telegramRx (.refl _))

theorem Onward.execSafecomWdogExpire {r : Fin 8} (hm : (.gt :: .pwm :: .safe :: logParts) ⊆ may := by decide) : t.Onward own may (execSafecomWdogExpire r t) := by
  refine .mono ?_ hm
  unfold Machine.execSafecomWdogExpire
  exact .next (.ite (.refl _) (.rxFail (.gtTo (.refl _))))

theorem Onward.execSafetyTelegramTx {t' : Fin 8} (hm : [.gt, .regs, .safe, .out] ⊆ may := by decide) : t.Onward own may (execSafetyTelegramTx t' t) := by
  refine .mono ?_ hm
  unfold Machine.execSafetyTelegramTx
  refine .next ?_
  extract_lets +onlyGivenNames c
  refine .ite ?_ ?_
  · exact .refl _
  · extract_lets +onlyGivenNames u seq pay full body tele v
    have hu : t.Moves own [.gt, .regs, .safe, .out] u := .gtTo (.refl _)
    have hv : t.Moves own [.gt, .regs, .safe, .out] v := hu.safeMod
    exact hv.setRegN.send

theorem Onward.execMtrERead {m' : Fin 4} {r : Fin 7} (hm : [.regs, .out] ⊆ may := by decide) : t.Onward own may (execMtrERead m' r t) := by
  refine .mono ?_ hm
  unfold Machine.execMtrERead
  refine .next ?_
  extract_lets +onlyGivenNames y w s1
  have hs1 : t.Moves own [.regs, .out] s1 := .setRegN (.refl _)
  exact hs1.setRegN.setRegN.give

theorem Onward.execPlsPulse {k : Fin 8} (hm : [.gt, .regs, .mtr] ⊆ may := by decide) : t.Onward own may (execPlsPulse k t) := by
  refine .mono ?_ hm
  unfold Machine.execPlsPulse
  refine .next ?_
  extract_lets +onlyGivenNames y
  refine .ite ?_ ?_
  · exact .refl _
  · extract_lets +onlyGivenNames s1
    have hs1 : t.Moves own [.gt, .regs, .mtr] s1 := .gtTo (.refl _)
    exact hs1.setRegN.plsMod

theorem Onward.execPlsPulseEnd {k : Fin 8} (hm : [.gt, .mtr] ⊆ may := by decide) : t.Onward own may (execPlsPulseEnd k t) := by
  refine .mono ?_ hm
  unfold Machine.execPlsPulseEnd
  refine .next ?_
  extract_lets +onlyGivenNames y
  refine .ite ?_ ?_
  · exact .refl _
  · extract_lets +onlyGivenNames s1
    have hs1 : t.Moves own [.gt, .mtr] s1 := .gtTo (.refl _)
    exact hs1.plsMod

theorem Onward.execMcntEdge {i : Fin 4} {closed : Bool} (hm : [.regs, .mtr] ⊆ may := by decide) : t.Onward own may (execMcntEdge i closed t) := by
  refine .mono ?_ hm
  unfold Machine.execMcntEdge
  refine .next ?_
  extract_lets +onlyGivenNames y
  refine .ite ?_ ?_
  · exact .refl _
  · extract_lets +onlyGivenNames s1
    have hs1 : t.Moves own [.regs, .mtr] s1 := .mcntMod (.refl _)
    exact .ite hs1.tickReg.mcntMod hs1

theorem Onward.execMcntCfgWrite {i : Fin 4} {val : Word} (hm : [.regs, .mtr] ⊆ may := by decide) : t.Onward own may (execMcntCfgWrite i val t) := by
  refine .mono ?_ hm
  unfold Machine.execMcntCfgWrite
  exact .next (.mcntCfg (.refl _))

theorem Onward.execAnnounceRx {port : Fin 2} {a : PtpAnnounce} (hm : (.net :: logParts) ⊆ may := by decide) : t.Onward own may (execAnnounceRx port a t) := by
  refine .mono ?_ hm
  unfold Machine.execAnnounceRx
  exact .next (.annRx (.refl _))

theorem Onward.execSyncRx {port : Fin 2} {m' : PtpSync} (hm : (.pan :: .tim :: .freeN :: logParts) ⊆ may := by decide) : t.Onward own may (execSyncRx port m' t) := by
  refine .mono ?_ hm
  unfold Machine.execSyncRx
  exact .next (.syncRx (.refl _))

theorem Onward.execPdelayReqRx {port : Fin 2} {domain : Nat} {seq : Nat} (hm : [.freeN, .out] ⊆ may := by decide) : t.Onward own may (execPdelayReqRx port domain seq t) := by
  refine .mono ?_ hm
  unfold Machine.execPdelayReqRx
  exact .next (.pdelayReqRx (.refl _))

theorem Onward.execPdelayReqTx {port : Fin 2} (hm : [.gt, .net, .out] ⊆ may := by decide) : t.Onward own may (execPdelayReqTx port t) := by
  refine .mono ?_ hm
  unfold Machine.execPdelayReqTx
  refine .next ?_
  refine .ite ?_ ?_
  · exact .refl _
  · extract_lets +onlyGivenNames y s1
    have hs1 : t.Moves own [.gt, .net, .out] s1 := .ite (.refl _) (.gtTo (.refl _))
    exact hs1.netSendOn.ptpMod

theorem Onward.execPdelayRespRx {port : Fin 2} {m' : PtpDelay} (hm : [.regs, .net] ⊆ may := by decide) : t.Onward own may (execPdelayRespRx port m' t) := by
  refine .mono ?_ hm
  unfold Machine.execPdelayRespRx
  exact .next (.pdelayRespRx (.refl _))

theorem Onward.execAnnounceTimeout (hm : [.gt, .regs, .net] ⊆ may := by decide) : t.Onward own may (execAnnounceTimeout t) := by
  refine .mono ?_ hm
  unfold Machine.execAnnounceTimeout
  refine .next ?_
  extract_lets +onlyGivenNames p
  refine .ite ?_ ?_
  · exact .refl _
  · extract_lets +onlyGivenNames s1
    have hs1 : t.Moves own [.gt, .regs, .net] s1 := .gtTo (.refl _)
    exact hs1.setPState.setFld.ptpMod

theorem Onward.execFrameRx {port : Fin 2} {f : NetFrame} (hm : (.pan :: .tim :: .pwm :: .safe :: .net :: .freeN :: logParts) ⊆ may := by decide) : t.Onward own may (execFrameRx port f t) := by
  refine .mono ?_ hm
  unfold Machine.execFrameRx
  exact .next (.frameRx (.refl _))

theorem Onward.execNodeTableAge (hm : [.net] ⊆ may := by decide) : t.Onward own may (execNodeTableAge t) := by
  refine .mono ?_ hm
  unfold Machine.execNodeTableAge
  exact .next (.netMod (.refl _))

theorem Onward.execPrpSupervisionTx (hm : [.gt, .net, .out] ⊆ may := by decide) : t.Onward own may (execPrpSupervisionTx t) := by
  refine .mono ?_ hm
  unfold Machine.execPrpSupervisionTx
  refine .next ?_
  refine .ite ?_ ?_
  · exact .refl _
  · extract_lets +onlyGivenNames s1
    have hs1 : t.Moves own [.gt, .net, .out] s1 := .ite (.refl _) (.gtTo (.refl _))
    exact hs1.netSend.netMod

theorem Onward.execLinkLoss {port : Fin 3} (hm : (.net :: logParts) ⊆ may := by decide) : t.Onward own may (execLinkLoss port t) := by
  refine .mono ?_ hm
  unfold Machine.execLinkLoss
  exact .next (.linkLoss (.refl _))

theorem Onward.execLinkUp {port : Fin 3} {amp : Bool} (hm : [.regs] ⊆ may := by decide) : t.Onward own may (execLinkUp port amp t) := by
  refine .mono ?_ hm
  unfold Machine.execLinkUp
  refine .next ?_
  refine .ite ?_ ?_
  · exact .ite (.refl _) (.setFld (.setFld (.refl _)))
  · refine .ite ?_ ?_
    · exact .refl _
    · extract_lets +onlyGivenNames s1
      have hs1 : t.Moves own [.regs] s1 := .setBit (.refl _)
      exact .ite hs1.setPState hs1.setPState

theorem Onward.execPathError {mac : BitVec 48} (hm : (.net :: logParts) ⊆ may := by decide) : t.Onward own may (execPathError mac t) := by
  refine .mono ?_ hm
  unfold Machine.execPathError
  refine .next ?_
  split
  · refine .ite ?_ ?_
    · exact .refl _
    · extract_lets +onlyGivenNames s1
      have hs1 : t.Moves own (.net :: logParts) s1 := .bump (.netMod (.refl _))
      exact hs1.stick.logRec
  · exact .refl _

theorem Onward.execSvFrameRx {port : Fin 2} {f : SvFrame} (hm : (.pan :: .net :: logParts) ⊆ may := by decide) : t.Onward own may (execSvFrameRx port f t) := by
  refine .mono ?_ hm
  unfold Machine.execSvFrameRx
  exact .next (.ite (.svRx (.refl _)) (.refl _))

theorem Onward.execSvSampleWrite {stream : Fin 16} (hm : (.pan :: .net :: logParts) ⊆ may := by decide) : t.Onward own may (execSvSampleWrite stream t) := by
  refine .mono ?_ hm
  unfold Machine.execSvSampleWrite
  refine .next ?_
  split
  · exact .refl _
  · exact .ite (.svWrite (.svMod (.refl _))) (.refl _)

theorem Onward.execSvStreamLost {stream : Fin 16} (hm : (.gt :: .pan :: .net :: logParts) ⊆ may := by decide) : t.Onward own may (execSvStreamLost stream t) := by
  refine .mono ?_ hm
  unfold Machine.execSvStreamLost
  refine .next ?_
  extract_lets +onlyGivenNames y
  refine .ite ?_ ?_
  · exact .refl _
  · extract_lets +onlyGivenNames s1 s2
    have hs1 : t.Moves own (.gt :: .pan :: .net :: logParts) s1 := .gtTo (.refl _)
    have hs2 : t.Moves own (.gt :: .pan :: .net :: logParts) s2 := hs1.svMod.setFld.stick
    exact hs2.logRec.panSample

theorem Onward.execSvPublish {stream : Fin 4} (hm : (.net :: logParts) ⊆ may := by decide) : t.Onward own may (execSvPublish stream t) := by
  refine .mono ?_ hm
  unfold Machine.execSvPublish
  refine .next ?_
  refine .ite ?_ ?_
  · exact .refl _
  · extract_lets +onlyGivenNames s1 n t'
    have hs1 : t.Moves own (.net :: logParts) s1 := .pubCatchUp (.refl _)
    exact .ite hs1 hs1.pubMod.bump.netSend

theorem Onward.execGooseRx {m' : GooseMsg} (hm : (.pan :: .pwm :: .safe :: .net :: logParts) ⊆ may := by decide) : t.Onward own may (execGooseRx m' t) := by
  refine .mono ?_ hm
  unfold Machine.execGooseRx
  exact .next (.ite (.goRx (.refl _)) (.refl _))

theorem Onward.execGooseExpiry {n : Fin 64} (hm : (.gt :: .pan :: .net :: logParts) ⊆ may := by decide) : t.Onward own may (execGooseExpiry n t) := by
  refine .mono ?_ hm
  unfold Machine.execGooseExpiry
  refine .next ?_
  extract_lets +onlyGivenNames y
  refine .ite ?_ ?_
  · exact .refl _
  · extract_lets +onlyGivenNames b marks ws t' s1 s2
    have hs1 : t.Moves own (.gt :: .pan :: .net :: logParts) s1 := .goStatus (.goMod (.gtTo (.refl _)))
    have hs2 : t.Moves own (.gt :: .pan :: .net :: logParts) s2 := .foldl (fun _ _ hv => .ite hv.panSample hv) hs1
    exact hs2.bump.stick.logRec

theorem Onward.execGooseRetransmit {u' : Fin 16} (hm : [.gt, .net, .out] ⊆ may := by decide) : t.Onward own may (execGooseRetransmit u' t) := by
  refine .mono ?_ hm
  unfold Machine.execGooseRetransmit
  refine .next ?_
  extract_lets +onlyGivenNames y
  exact .ite (.refl _) (.gpSend (.gpMod (.gtTo (.refl _))))

theorem Moves.powerDown (h : s.Moves own may t)
    (hm : (.deferred :: .spareReqs :: .pan :: .tim :: .ana :: .cmp :: .pwm :: .gl :: .safe :: .ket :: .net :: .mtr :: .hop :: .law :: .sup :: .pin :: logParts) ⊆ may := by decide) :
    s.Moves own may t.powerDown := by
  refine h.andThen hm ?_
  unfold State.powerDown
  extract_lets +onlyGivenNames ns v u q src
  have hv : t.Moves own (.deferred :: .spareReqs :: .pan :: .tim :: .ana :: .cmp :: .pwm :: .gl :: .safe :: .ket :: .net :: .mtr :: .hop :: .law :: .sup :: .pin :: logParts) v :=
    .holdKeep (.stickIf (.refl _))
  clear_value v
  have hz (z : v.Sized) : u.Sized := z.survive _ _
  have hx : t.Moves own (.deferred :: .spareReqs :: .pan :: .tim :: .ana :: .cmp :: .pwm :: .gl :: .safe :: .ket :: .net :: .mtr :: .hop :: .law :: .sup :: .pin :: logParts)
      { u with safe := v.safe, net := { u.net with lastWatch := t.gt } } :=
    hv.set_parts (m := [.regs, .deferred, .spareReqs, .pan, .tim, .ana, .cmp, .pwm, .gl, .safe, .log, .ket, .net, .mtr, .hop, .law, .sup, .mbx, .pin])
      (by simp [State.keeps, State.survive, u]) (Store.filter_wf _)
      (fun z => { hz z with safe := z.safe, net := (hz z).net }) rfl fun h => ⟨h, rfl⟩
  exact hx.keepBits

theorem Moves.toWatch (h : s.Moves own may t) {cause : Nat}
    (hm : (.dev :: .deferred :: .spareReqs :: .pan :: .tim :: .ana :: .cmp :: .pwm :: .gl :: .safe :: .ket :: .net :: .mtr :: .hop :: .law :: .sup :: .pin :: logParts) ⊆ may := by decide) :
    s.Moves own may (t.toWatch cause) := by
  refine h.andThen hm ?_
  unfold State.toWatch
  exact .soutCheck (.powerDown (.transition (.mtrFinal (.closeSession (.refl _))) (.inr nofun)))

theorem Moves.toDormant (h : s.Moves own may t) {cause : Nat} (hm : (.dev :: .safe :: .pwr :: .net :: logParts) ⊆ may := by decide) :
    s.Moves own may (t.toDormant cause) := by
  refine h.andThen hm ?_
  unfold State.toDormant
  extract_lets +onlyGivenNames s1 s2 s3
  have hs1 : t.Moves own (.dev :: .safe :: .pwr :: .net :: logParts) s1 := .ite (.netMod (.stick (.bump (.refl _)))) (.refl _)
  have hs2 : t.Moves own (.dev :: .safe :: .pwr :: .net :: logParts) s2 := hs1.transition (.inr nofun)
  clear_value s2
  have hs3 : t.Moves own (.dev :: .safe :: .pwr :: .net :: logParts) s3 :=
    hs2.set_parts (m := [.regs, .safe]) (by simp [State.keeps, s3]) (Store.filter_wf _)
      (fun z => { z with safe := ⟨rfl, rfl, rfl, rfl, rfl, rfl, rfl, rfl, rfl, rfl⟩ }) rfl nofun
  exact hs3.setFld.setFld.tidyFgt.pwrMod

theorem Moves.wakeTo (h : s.Moves own may t) {srcs : List Nat} (hm : (.dev :: .pwr :: .net :: logParts) ⊆ may := by decide) :
    s.Moves own may (t.wakeTo srcs) := by
  refine h.andThen hm ?_
  unfold State.wakeTo
  extract_lets +onlyGivenNames w s1 s2 src src'
  have hs1 : t.Moves own (.dev :: .pwr :: .net :: logParts) s1 := transition (.refl t) (.inr nofun)
  have hs2 : t.Moves own (.dev :: .pwr :: .net :: logParts) s2 := hs1.setFld.setFld
  clear_value s2
  exact hs2.set_parts (m := [.pwr, .net]) (by simp [State.keeps]) id (fun z => { z with net := z.net }) rfl fun h => ⟨h, rfl⟩

theorem Moves.deviceReset (h : s.Moves own may t) {cause : Nat}
    (hm : (.dev :: .deferred :: .spareReqs :: .pan :: .tim :: .ana :: .cmp :: .pwm :: .gl :: .safe :: .pwr :: .ket :: .net :: .mtr :: .hop :: .law :: .sup :: .fw :: .pin :: logParts) ⊆ may
      := by decide) : s.Moves own may (t.deviceReset cause) := by
  refine h.andThen hm ?_
  unfold State.deviceReset
  extract_lets +onlyGivenNames ns u v lost q w src src' src'' x
  have hu : t.Moves own (.dev :: .deferred :: .spareReqs :: .pan :: .tim :: .ana :: .cmp :: .pwm :: .gl :: .safe :: .pwr :: .ket :: .net :: .mtr :: .hop :: .law :: .sup :: .fw :: .pin :: logParts) u := .ite (.holdKeep (.refl _)) (.refl _)
  have hw : t.Moves own (.dev :: .deferred :: .spareReqs :: .pan :: .tim :: .ana :: .cmp :: .pwm :: .gl :: .safe :: .pwr :: .ket :: .net :: .mtr :: .hop :: .law :: .sup :: .fw :: .pin :: logParts) w := hu.survive.keepBits.setFld
  clear_value w
  have hdev : x.dev = .run → t.dev = .run := by
    dsimp only [x]
    split
    · exact nofun
    · split
      · exact nofun
      · exact id
  have hx := (hw.set_dev (.inr hdev)).set_parts (u := x) (m := [.tim, .fw, .pwr]) (by simp [State.keeps, x]) id
    (fun z => { z with tim := z.tim, fw := z.fw }) rfl fun h => ⟨h, rfl⟩
  exact hx.stickIf

theorem Moves.keepLost (h : s.Moves own may t)
    (hm : [.gt, .dev, .regs, .deferred, .spareReqs, .pan, .tim, .ana, .cmp, .pwm, .gl, .safe, .log, .pwr, .ket, .net, .mtr, .hop, .law, .sup, .fw, .mbx,
      .pin] ⊆ may := by decide) : s.Moves own may t.keepLost := by
  refine h.andThen hm ?_
  unfold State.keepLost
  extract_lets +onlyGivenNames u
  have hu : t.Moves own [.gt, .dev, .regs, .deferred, .spareReqs, .pan, .tim, .ana, .cmp, .pwm, .gl, .safe, .log, .pwr, .ket, .net, .mtr, .hop, .law,
    .sup, .fw, .mbx, .pin] u := .survive (.refl _)
  exact (hu.set_dev (x := .dormant) (.inr nofun)).set_parts (m := [.gt, .log, .tim, .net, .pwr, .fw]) (by simp [State.keeps]) id
    (fun z => { z with tim := rfl, net := ⟨rfl, rfl, rfl, rfl, rfl, rfl⟩, fw := z.fw }) rfl fun h => ⟨h, rfl⟩

theorem Moves.toRun (h : s.Moves own may t) {tag : Nat} (ho : .dev ∈ own)
    (hm : (.dev :: .tim :: .ana :: .pwm :: .gl :: .pwr :: .ket :: .law :: logParts) ⊆ may := by decide) : s.Moves own may (t.toRun tag) := by
  refine h.andThen hm ?_
  unfold State.toRun
  extract_lets +onlyGivenNames v u sdf
  have hv : t.Moves own (.dev :: .tim :: .ana :: .pwm :: .gl :: .pwr :: .ket :: .law :: logParts) v := .pwrMod (transition (.refl t) (.inl ho))
  have hu : t.Moves own (.dev :: .tim :: .ana :: .pwm :: .gl :: .pwr :: .ket :: .law :: logParts) u := hv.ketReinit.fabricRun
  clear_value u
  exact hu.set_parts (m := [.law, .ana]) (by simp [State.keeps]) id
    (fun z => { z with ana := ⟨z.ana.1, by simpa [sdf] using z.ana.2.1, z.ana.2.2⟩ }) rfl fun h => ⟨h, rfl⟩

theorem Moves.enterDone (h : s.Moves own may t) (hm : [.regs, .pwr, .mbx, .out] ⊆ may := by decide) :
    s.Moves own may (t.enterDone) := by
  refine h.andThen hm ?_
  unfold State.enterDone
  split
  · exact .finish (.pwrMod (.refl _))
  · exact .refl _

theorem Moves.leaveRun (h : s.Moves own may t) {watch : Bool} {tag : Nat}
    (hm : (.dev :: .tim :: .pwm :: .gl :: .cmp :: .safe :: .pwr :: .ket :: .mtr :: .law :: logParts) ⊆ may := by decide) : s.Moves own may (t.leaveRun watch tag) := by
  refine h.andThen hm ?_
  unfold State.leaveRun
  extract_lets +onlyGivenNames v u w pts
  have hv : t.Moves own (.dev :: .tim :: .pwm :: .gl :: .cmp :: .safe :: .pwr :: .ket :: .mtr :: .law :: logParts) v :=
    .fabricLeave (transition (.enterDone (.refl t)) (.inr nofun))
  have hu : t.Moves own (.dev :: .tim :: .pwm :: .gl :: .cmp :: .safe :: .pwr :: .ket :: .mtr :: .law :: logParts) u := hv.ketLeave.limitReset
  have hw : t.Moves own (.dev :: .tim :: .pwm :: .gl :: .cmp :: .safe :: .pwr :: .ket :: .mtr :: .law :: logParts) w :=
    .foldl (fun _ _ hv => .ite hv (.foldl (fun _ _ hy => hy.finish) hv.setFld.lgMod)) hu
  clear_value w
  exact hw.set_parts (m := [.mtr, .pwr, .law]) (by simp [State.keeps]) id
    (fun z => { z with mtr := ⟨by simpa [pts] using z.mtr.1, z.mtr.2⟩ }) rfl fun h => ⟨h, rfl⟩

theorem Moves.leaveCheck (h : s.Moves own may t) (hm : (.dev :: .deferred :: .spareReqs :: .pan :: .tim :: .ana :: .cmp :: .pwm :: .gl :: .safe :: .pwr :: .ket :: .net :: .mtr :: .hop :: .law :: .sup :: .pin :: logParts) ⊆ may := by decide) :
    s.Moves own may (t.leaveCheck) := by
  refine h.andThen hm ?_
  unfold State.leaveCheck
  split
  · refine .ite ?_ ?_
    · exact .refl _
    · extract_lets +onlyGivenNames t'
      have ht' : t.Moves own (.dev :: .deferred :: .spareReqs :: .pan :: .tim :: .ana :: .cmp :: .pwm :: .gl :: .safe :: .pwr :: .ket :: .net :: .mtr :: .hop :: .law :: .sup :: .pin :: logParts) t' := .finish (.pwrMod (.refl _))
      exact .ite ht'.toWatch ht'
  · exact .refl _

theorem Moves.trimUpdate (h : s.Moves own may t) {g : Nat} (hm : [.regs, .pwm] ⊆ may := by decide) :
    s.Moves own may (t.trimUpdate g) := by
  refine h.andThen hm ?_
  unfold State.trimUpdate
  extract_lets +onlyGivenNames c
  refine .ite ?_ ?_
  · exact .refl _
  · extract_lets +onlyGivenNames step t' src s1
    have hs1 : t.Moves own [.regs, .pwm] s1 := .set_pwm (.refl _) (fun z => by simpa [PwmState.Sized, Tab.mod] using z)
    exact .ite hs1.setFld hs1

theorem Moves.takeTrim (h : s.Moves own may t) {g : Nat} (hm : [.regs] ⊆ may := by decide) :
    s.Moves own may (t.takeTrim g) := by
  refine h.andThen hm ?_
  unfold State.takeTrim
  extract_lets +onlyGivenNames run
  exact .setRegN (.refl _)

theorem Moves.syncOut (h : s.Moves own may t) {g : Nat} {b : Nat} (hm : [.pwm] ⊆ may := by decide) :
    s.Moves own may (t.syncOut g b) := by
  refine h.andThen hm ?_
  unfold State.syncOut
  extract_lets +onlyGivenNames role div
  exact .ite (.set_pwm (.refl _)) (.refl _)

theorem Moves.cbcRelease (h : s.Moves own may t) {g : Nat} {r : Nat} (hm : (.pwm :: logParts) ⊆ may := by decide) :
    s.Moves own may (t.cbcRelease g r) := by
  refine h.andThen hm ?_
  unfold State.cbcRelease
  exact .ite (.foldl (fun _ _ hv => hv.reloadCh) (.lgMod (.refl _))) (.refl _)

theorem Moves.confirmLow (h : s.Moves own may t) {g : Nat} {b : Nat} (hm : [.gl] ⊆ may := by decide) :
    s.Moves own may (t.confirmLow g b) := by
  refine h.andThen hm ?_
  unfold State.confirmLow
  refine .foldl (fun v k hv => ?_) (.refl _)
  extract_lets +onlyGivenNames n y
  exact .ite hv.glMod hv

theorem Moves.boundaryRun (h : s.Moves own may t) {g : Nat} {b : Nat} (hm : (.pwm :: .gl :: logParts) ⊆ may := by decide) :
    s.Moves own may (t.boundaryRun g b) := by
  refine h.andThen hm ?_
  unfold State.boundaryRun
  extract_lets +onlyGivenNames s1 s2 s3
  have hs1 : t.Moves own (.pwm :: .gl :: logParts) s1 := .ite (.foldl (fun _ _ hv => hv.reloadCh) (.lgMod (.refl _))) (.refl _)
  have hs2 : t.Moves own (.pwm :: .gl :: logParts) s2 := .ite hs1.engineReload hs1.hostReload
  have hs3 : t.Moves own (.pwm :: .gl :: logParts) s3 := hs2.cbcRelease
  exact .foldl (fun _ _ hv => hv.releaseCh) hs3

theorem Moves.hupdDone (h : s.Moves own may t) {g : Nat} {b : Nat} (hm : [.regs, .pwm, .mbx, .out] ⊆ may := by decide) :
    s.Moves own may (t.hupdDone g b) := by
  refine h.andThen hm ?_
  unfold State.hupdDone
  exact .ite (.refl _) (.foldl (fun _ _ hv => hv.finish) (.lgMod (.refl _)))

theorem Onward.execPeriodBoundary {g : Fin 32} (hm : (.gt :: .dev :: .deferred :: .spareReqs :: .pan :: .tim :: .ana :: .cmp :: .pwm :: .gl :: .safe :: .pwr :: .ket :: .net :: .mtr :: .hop :: .law :: .sup :: .pin :: logParts) ⊆ may := by decide) : t.Onward own may (execPeriodBoundary g t) := by
  refine .mono ?_ hm
  unfold Machine.execPeriodBoundary
  refine .next ?_
  refine .ite ?_ ?_
  · exact .refl _
  · extract_lets +onlyGivenNames b s1 s2 s3 s4 s5 s6
    have hs1 : t.Moves own (.gt :: .dev :: .deferred :: .spareReqs :: .pan :: .tim :: .ana :: .cmp :: .pwm :: .gl :: .safe :: .pwr :: .ket :: .net :: .mtr :: .hop :: .law :: .sup :: .pin :: logParts) s1 := .tickReg (.gtTo (.refl _))
    have hs2 : t.Moves own (.gt :: .dev :: .deferred :: .spareReqs :: .pan :: .tim :: .ana :: .cmp :: .pwm :: .gl :: .safe :: .pwr :: .ket :: .net :: .mtr :: .hop :: .law :: .sup :: .pin :: logParts) s2 := hs1.bothMark
    have hs3 : t.Moves own (.gt :: .dev :: .deferred :: .spareReqs :: .pan :: .tim :: .ana :: .cmp :: .pwm :: .gl :: .safe :: .pwr :: .ket :: .net :: .mtr :: .hop :: .law :: .sup :: .pin :: logParts) s3 := hs2.lgMod
    have hs4 : t.Moves own (.gt :: .dev :: .deferred :: .spareReqs :: .pan :: .tim :: .ana :: .cmp :: .pwm :: .gl :: .safe :: .pwr :: .ket :: .net :: .mtr :: .hop :: .law :: .sup :: .pin :: logParts) s4 := hs3.trimUpdate.takeTrim.confirmLow
    have hs5 : t.Moves own (.gt :: .dev :: .deferred :: .spareReqs :: .pan :: .tim :: .ana :: .cmp :: .pwm :: .gl :: .safe :: .pwr :: .ket :: .net :: .mtr :: .hop :: .law :: .sup :: .pin :: logParts) s5 := .ite hs4.adaptGroup hs4
    have hs6 : t.Moves own (.gt :: .dev :: .deferred :: .spareReqs :: .pan :: .tim :: .ana :: .cmp :: .pwm :: .gl :: .safe :: .pwr :: .ket :: .net :: .mtr :: .hop :: .law :: .sup :: .pin :: logParts) s6 := .ite hs5.boundaryRun (.ite hs5.groupOff hs5.lgMod)
    exact hs6.syncOut.adcFire.hupdDone.leaveCheck

theorem Onward.execMidPeriodPoint {g : Fin 32} (hm : (.gt :: .ana :: .pwm :: logParts) ⊆ may := by decide) : t.Onward own may (execMidPeriodPoint g t) := by
  refine .mono ?_ hm
  unfold Machine.execMidPeriodPoint
  refine .next ?_
  extract_lets +onlyGivenNames l
  refine .ite ?_ ?_
  · exact .refl _
  · extract_lets +onlyGivenNames m s1 s2
    have hs1 : t.Moves own (.gt :: .ana :: .pwm :: logParts) s1 := .lgMod (.gtTo (.refl _))
    have hs2 : t.Moves own (.gt :: .ana :: .pwm :: logParts) s2 := .ite hs1.bothMark.engineReload.cbcRelease hs1
    exact hs2.adcFire

theorem Onward.execTriggerCompare {g : Fin 32} (hm : (.gt :: .ana :: .pwm :: logParts) ⊆ may := by decide) : t.Onward own may (execTriggerCompare g t) := by
  refine .mono ?_ hm
  unfold Machine.execTriggerCompare
  refine .next ?_
  extract_lets +onlyGivenNames l trga
  exact .ite (.refl _) (.adcFire (.lgMod (.gtTo (.refl _))))

theorem Onward.execScheduledEdge {n : Fin 192} (hm : (.gt :: .cmp :: .pwm :: .gl :: logParts) ⊆ may := by decide) : t.Onward own may (execScheduledEdge n t) := by
  refine .mono ?_ hm
  unfold Machine.execScheduledEdge
  refine .next ?_
  extract_lets +onlyGivenNames t'
  have ht' : t.Moves own (.gt :: .cmp :: .pwm :: .gl :: logParts) t' := .nextEdge (.refl _)
  refine .ite ?_ ?_
  · exact ht'
  · extract_lets +onlyGivenNames y
    exact ht'.glMod.dropCarry

theorem Onward.execPwmHupdArm {g : Fin 32} (hm : [.regs, .pwm] ⊆ may := by decide) : t.Onward own may (execPwmHupdArm g t) := by
  refine .mono ?_ hm
  unfold Machine.execPwmHupdArm
  exact .next (.lgMod (.setFld (.refl _)))

theorem Onward.execPwmTripctlClr {g : Fin 32} (hm : [.pwm] ⊆ may := by decide) : t.Onward own may (execPwmTripctlClr g t) := by
  refine .mono ?_ hm
  unfold Machine.execPwmTripctlClr
  exact .next (.tripClear (.refl _))

theorem Onward.execSyncInPulse {frac : Fin 32} (hm : (.pwm :: logParts) ⊆ may := by decide) : t.Onward own may (execSyncInPulse frac t) := by
  refine .mono ?_ hm
  unfold Machine.execSyncInPulse
  refine .next ?_
  refine .ite ?_ ?_
  · exact .refl _
  · extract_lets +onlyGivenNames g p tin e0 near e s1
    have hs1 : t.Moves own (.pwm :: logParts) s1 := .setFld (.refl _)
    exact .ite hs1.set_pwm hs1.stick

theorem Onward.execSyncLoss (hm : (.pwm :: logParts) ⊆ may := by decide) : t.Onward own may (execSyncLoss t) := by
  refine .mono (.next (.ite (.refl _) (.ite ?_ ?_))) hm
  · have hb : t.Moves own (.pwm :: logParts) (t.bump Reg.PWM_SYNCMISS) := .bump (.refl _)
    exact .set_pwm hb (by simp [PwmState.Sized])
  · extract_lets +onlyGivenNames n src src' s1
    have hs1 : t.Moves own (.pwm :: logParts) s1 := .set_pwm (.refl _) (by simp [PwmState.Sized, src])
    exact hs1.setFld.stick.bumpBy.logRec

theorem Onward.execPwmSnapshot (hm : (.gt :: .pan :: .pwm :: .gl :: logParts) ⊆ may := by decide) : t.Onward own may (execPwmSnapshot t) := by
  refine .mono (.next ?_) hm
  refine .ite (.refl _) ?_
  extract_lets +onlyGivenNames c u put t1 ls
  have hu : t.Moves own (.gt :: .pan :: .pwm :: .gl :: logParts) u := .gtTo (.refl _)
  have hput {o base : Nat} {ws : List Word} {v : State} (hv : t.Moves own (.gt :: .pan :: .pwm :: .gl :: logParts) v) :
      t.Moves own (.gt :: .pan :: .pwm :: .gl :: logParts) (put o base ws v) := .foldl (fun _ _ hw => hw.panSampleAt) hv
  have ht1 : t.Moves own (.gt :: .pan :: .pwm :: .gl :: logParts) t1 := .foldl (fun _ _ hv => hput (hput hv)) hu
  clear_value t1
  exact ht1.set_parts (m := [.pwm, .gl]) (by simp [State.keeps]) id
    (fun z => { z with pwm := by simpa [PwmState.Sized, ls] using z.pwm, gl := by simpa [GlState.Sized] using z.gl }) rfl fun h => ⟨h, rfl⟩

theorem Onward.execTrackChange {g : Fin 16} (hm : (.gt :: .hop :: logParts) ⊆ may := by decide) : t.Onward own may (execTrackChange g t) := by
  refine .mono ?_ hm
  unfold Machine.execTrackChange
  exact .next (.trackChange (.refl _))

theorem Onward.execAnalogSample {a : Fin 64} (hm : (.gt :: .hop :: logParts) ⊆ may := by decide) : t.Onward own may (execAnalogSample a t) := by
  refine .mono ?_ hm
  unfold Machine.execAnalogSample
  exact .next (.analogSample (.refl _))

theorem Onward.execRecCtrlArm (hm : [.regs, .hop] ⊆ may := by decide) : t.Onward own may (execRecCtrlArm t) := by
  refine .mono ?_ hm
  unfold Machine.execRecCtrlArm
  exact .next (.recArm (.refl _))

theorem Onward.execRearmComplete (hm : (.gt :: .hop :: logParts) ⊆ may := by decide) : t.Onward own may (execRearmComplete t) := by
  refine .mono ?_ hm
  unfold Machine.execRearmComplete
  exact .next (.ite (.recArmed (.refl _)) (.refl _))

theorem Onward.execRecorderTrigger {ev : Fin 16} (hm : (.gt :: .hop :: logParts) ⊆ may := by decide) : t.Onward own may (execRecorderTrigger ev t) := by
  refine .mono ?_ hm
  unfold Machine.execRecorderTrigger
  refine .next ?_
  extract_lets +onlyGivenNames m t'
  exact .ite (.refl _) (.recTrigger (.gtTo (.refl _)))

theorem Moves.recSwTrig (h : s.Moves own may t) (hm : (.gt :: .hop :: logParts) ⊆ may := by decide) :
    s.Moves own may (t.recSwTrig) := by
  refine h.andThen hm ?_
  unfold State.recSwTrig
  extract_lets +onlyGivenNames t'
  exact .ite (.recTrigger (.gtTo (.refl _))) (.refl _)

theorem Onward.execRecCtrlSwtrig (hm : (.gt :: .hop :: logParts) ⊆ may := by decide) : t.Onward own may (execRecCtrlSwtrig t) := by
  refine .mono ?_ hm
  unfold Machine.execRecCtrlSwtrig
  exact .next (.recSwTrig (.refl _))

theorem Onward.execRecCtrlStop (hm : (.hop :: logParts) ⊆ may := by decide) : t.Onward own may (execRecCtrlStop t) := by
  refine .mono ?_ hm
  unfold Machine.execRecCtrlStop
  exact .next (.recEnd (.refl _))

theorem Onward.execPostEnd (hm : (.gt :: .hop :: logParts) ⊆ may := by decide) : t.Onward own may (execPostEnd t) := by
  refine .mono ?_ hm
  unfold Machine.execPostEnd
  exact .next (.recPostEnd (.refl _))

end Sys2Proof.Machine.State
end

section
/-!
PROOFS. Which parts the instructions of time, engines and the mailbox move.
-/
namespace Sys2Proof.Machine.State

-- A default argument by `decide` waits for every earlier proof, so the proofs here run one at a time.
set_option Elab.async false

variable {own may m : List Part} {s t u : State}

theorem Moves.setSup (h : s.Moves own may t) {n : Nat} (hm : [.regs] ⊆ may := by decide) :
    s.Moves own may (t.setSup n) := by
  refine h.andThen hm ?_
  unfold State.setSup
  exact .setFld (.refl _)

theorem Moves.supMod (h : s.Moves own may t) {f : SupState → SupState} (hm : [.sup] ⊆ may := by decide) :
    s.Moves own may (t.supMod f) := by
  refine h.andThen hm ?_
  unfold State.supMod
  exact .set_sup (.refl _)

theorem Moves.supActed (h : s.Moves own may t) (hm : [.sup] ⊆ may := by decide) :
    s.Moves own may (t.supActed) := by
  refine h.andThen hm ?_
  unfold State.supActed
  exact .supMod (.refl _)

theorem Moves.supFail (h : s.Moves own may t) {cls : Nat} (hm : (.sup :: logParts) ⊆ may := by decide) :
    s.Moves own may (t.supFail cls) := by
  refine h.andThen hm ?_
  unfold State.supFail
  extract_lets +onlyGivenNames s1 s2
  have hs1 : t.Moves own (.sup :: logParts) s1 := .setFld (.setSup (.closeSession (.refl _)))
  have hs2 : t.Moves own (.sup :: logParts) s2 := hs1.setFld.setFld.setFld.supMod
  exact hs2.stick.logRec

theorem Moves.resync (h : s.Moves own may t) (hm : [.regs, .sup] ⊆ may := by decide) :
    s.Moves own may (t.resync) := by
  refine h.andThen hm ?_
  unfold State.resync
  exact .supActed (.setSup (.bump (.refl _)))

theorem Moves.hold (h : s.Moves own may t) {w : HeldWrite} (hm : [.sup] ⊆ may := by decide) :
    s.Moves own may (t.hold w) := by
  refine h.andThen hm ?_
  unfold State.hold
  exact .supMod (.refl _)

theorem Moves.issueHeld (h : s.Moves own may t) {dest : Nat} (hm : (.pan :: .sup :: logParts) ⊆ may := by decide) :
    s.Moves own may (t.issueHeld dest) := by
  refine h.andThen hm ?_
  unfold State.issueHeld
  extract_lets +onlyGivenNames now s1 s2 tags
  have hs1 : t.Moves own (.pan :: .sup :: logParts) s1 := .supMod (.refl _)
  have hs2 : t.Moves own (.pan :: .sup :: logParts) s2 := .foldl (fun _ _ hv => hv.panWrite) hs1
  exact .foldl (fun _ _ hv => hv.finish) hs2

theorem Moves.retargetHeld (h : s.Moves own may t) {late : HeldWrite → Bool} (hm : [.sup] ⊆ may := by decide) :
    s.Moves own may (t.retargetHeld late) := by
  refine h.andThen hm ?_
  unfold State.retargetHeld
  extract_lets +onlyGivenNames d
  exact .supMod (.refl _)

theorem Moves.heldRedo (h : s.Moves own may t) (hm : [.regs, .sup, .mbx, .out] ⊆ may := by decide) :
    s.Moves own may (t.heldRedo) := by
  refine h.andThen hm ?_
  unfold State.heldRedo
  extract_lets +onlyGivenNames n gone dead s1
  have hs1 : t.Moves own [.regs, .sup, .mbx, .out] s1 := .supMod (.refl _)
  exact .retargetHeld (.foldl (fun _ _ hv => hv.finish) hs1)

theorem Moves.splitEnd (h : s.Moves own may t) {p : SplitState} {r : Nat} (hm : [.regs, .sup] ⊆ may := by decide) :
    s.Moves own may (t.splitEnd p r) := by
  refine h.andThen hm ?_
  unfold State.splitEnd
  extract_lets +onlyGivenNames s1
  have hs1 : t.Moves own [.regs, .sup] s1 := .setFld (.setRegN (.refl _))
  exact hs1.setFld.setFld.setFld.supMod.supActed

theorem Moves.splitAbort (h : s.Moves own may t) {p : SplitState} {r : Nat} (hm : (.sup :: .fw :: logParts) ⊆ may := by decide) :
    s.Moves own may (t.splitAbort p r) := by
  refine h.andThen hm ?_
  unfold State.splitAbort
  extract_lets +onlyGivenNames s1 src s2
  have hs1 : t.Moves own (.sup :: .fw :: logParts) s1 := .supMod (.setSup (.splitEnd (.refl _)))
  have hs2 : t.Moves own (.sup :: .fw :: logParts) s2 := .set_fw hs1 (fun z => by simpa [BootState.Sized, Tab.mod] using z)
  exact hs2.stick.finish

theorem Onward.execGtSnapRead (hm : [.regs, .out] ⊆ may := by decide) : t.Onward own may (execGtSnapRead t) := by
  refine .mono ?_ hm
  unfold Machine.execGtSnapRead
  exact .next (.give (.setRegN (.setRegN (.refl _))))

theorem Onward.execHalfEpochPoint (hm : (.gt :: .tim :: .ana :: logParts) ⊆ may := by decide) : t.Onward own may (execHalfEpochPoint t) := by
  refine .mono ?_ hm
  unfold Machine.execHalfEpochPoint
  refine .next ?_
  refine .ite ?_ ?_
  · exact .refl _
  · extract_lets +onlyGivenNames k h t' u
    have hu : t.Moves own (.gt :: .tim :: .ana :: logParts) u := .timMod (.gtTo (.refl _))
    exact .ite hu hu.adcFire

theorem Onward.execPpsOutPulse (hm : [.gt, .tim] ⊆ may := by decide) : t.Onward own may (execPpsOutPulse t) := by
  refine .mono ?_ hm
  unfold Machine.execPpsOutPulse
  refine .next ?_
  refine .ite ?_ ?_
  · exact .refl _
  · extract_lets +onlyGivenNames t'
    exact .timMod (.gtTo (.refl _))

theorem Onward.execPpsOutEnd (hm : [.gt, .tim] ⊆ may := by decide) : t.Onward own may (execPpsOutEnd t) := by
  refine .mono ?_ hm
  unfold Machine.execPpsOutEnd
  exact .next (.ite (.refl _) (.timMod (.gtTo (.refl _))))

theorem Onward.execPpsInEdge (hm : (.pan :: .tim :: .freeN :: logParts) ⊆ may := by decide) : t.Onward own may (execPpsInEdge t) := by
  refine .mono ?_ hm
  unfold Machine.execPpsInEdge
  refine .next ?_
  extract_lets +onlyGivenNames o
  refine .ite ?_ ?_
  · exact .refl _
  · refine .ite ?_ ?_
    · exact .ite (.timMod (.stick (.bump (.refl _)))) (.measure (.timMod (.enterQual (.refl _))))
    · exact .measure (.refl _)

theorem Onward.execSourceLossTimeout (hm : (.gt :: .pan :: .tim :: logParts) ⊆ may := by decide) : t.Onward own may (execSourceLossTimeout t) := by
  refine .mono ?_ hm
  unfold Machine.execSourceLossTimeout
  exact .next (.ite (.enterQual (.timMod (.gtTo (.refl _)))) (.refl _))

theorem Moves.srcSet (h : s.Moves own may t) (hm : (.pan :: .tim :: logParts) ⊆ may := by decide) :
    s.Moves own may (t.srcSet) := by
  refine h.andThen hm ?_
  unfold State.srcSet
  extract_lets +onlyGivenNames t' src
  have ht' : t.Moves own (.pan :: .tim :: logParts) t' := .timMod (.refl _)
  exact .ite ht' (.ite ht'.enterQual (.ite ht'.enterQual ht'))

theorem Moves.timeAnew (h : s.Moves own may t) {done : Bool} (hm : [.pan, .tim, .pwm] ⊆ may := by decide) : s.Moves own may (t.timeAnew done) :=
  h.set_parts (m := [.pan, .tim, .pwm]) (by simp [State.keeps, State.timeAnew]) id
    (fun z => { z with pan := z.pan, tim := z.tim, pwm := ⟨z.pwm.1, by simpa [State.timeAnew] using z.pwm.2⟩ }) rfl (fun h => ⟨h, rfl⟩) hm

theorem Onward.execGtStep (hm : (.gt :: .pan :: .tim :: .pwm :: .net :: .hop :: .sup :: logParts) ⊆ may := by decide) : t.Onward own may (execGtStep t) := by
  refine .mono ?_ hm
  unfold Machine.execGtStep
  refine .next ?_
  split
  · exact .refl _
  · refine .ite ?_ ?_
    · exact .refl _
    · extract_lets +onlyGivenNames s1 s2 g src src' s3 s4
      have hs1 : t.Moves own (.gt :: .pan :: .tim :: .pwm :: .net :: .hop :: .sup :: logParts) s1 := .ite (.refl _) (.gtTo (.refl _))
      have hs2 : t.Moves own (.gt :: .pan :: .tim :: .pwm :: .net :: .hop :: .sup :: logParts) s2 := hs1.recEnd
      have hs3 : t.Moves own (.gt :: .pan :: .tim :: .pwm :: .net :: .hop :: .sup :: logParts) s3 := ((hs1.recEnd.set_gt).set_pan (fun z => by simpa [Pantry.Sized, Tab.mod] using z)).set_tim (fun z => by simpa [TimeState.Sized, Tab.mod] using z)
      have hs4 : t.Moves own (.gt :: .pan :: .tim :: .pwm :: .net :: .hop :: .sup :: logParts) s4 := hs3.timeAnew.heldRedo.svDrop
      exact hs4.logRec

theorem Onward.execKeepcalMeasure {ticks : Nat} (hm : [.regs, .tim] ⊆ may := by decide) : t.Onward own may (execKeepcalMeasure ticks t) := by
  refine .mono ?_ hm
  unfold Machine.execKeepcalMeasure
  exact .next (.ite (.setFld (.timMod (.refl _))) (.refl _))

theorem Onward.execEpLenTakeEffect (hm : [.gt, .regs, .pan, .tim, .pwm, .sup, .mbx, .out] ⊆ may := by decide) :
    t.Onward own may (execEpLenTakeEffect t) := by
  refine .mono (.next ?_) hm
  split
  · exact .refl _
  · refine .ite (.refl _) ?_
    extract_lets +onlyGivenNames s1 done met s2 src s3 s4 k src' src'' s5
    have hs1 : t.Moves own [.gt, .regs, .pan, .tim, .pwm, .sup, .mbx, .out] s1 := .gtTo (.refl _)
    have hs2 : t.Moves own [.gt, .regs, .pan, .tim, .pwm, .sup, .mbx, .out] s2 := hs1.timMod
    have hs3 : t.Moves own [.gt, .regs, .pan, .tim, .pwm, .sup, .mbx, .out] s3 := .set_pan hs2 (by simp [Pantry.Sized, src])
    have hs4 : t.Moves own [.gt, .regs, .pan, .tim, .pwm, .sup, .mbx, .out] s4 := hs3.timeAnew
    clear_value s4
    have hs5 : t.Moves own [.gt, .regs, .pan, .tim, .pwm, .sup, .mbx, .out] s5 :=
      hs4.set_parts (m := [.pan, .tim]) (by simp [State.keeps, s5]) id (fun z => { z with pan := z.pan, tim := z.tim }) rfl fun h => ⟨h, rfl⟩
    exact hs5.heldRedo

theorem Onward.execPllLock {net : Bool} (hm : [.regs, .tim] ⊆ may := by decide) : t.Onward own may (execPllLock net t) := by
  refine .mono ?_ hm
  unfold Machine.execPllLock
  exact .next (.ite (.refl _) (.ite (.timMod (.setFld (.refl _))) (.timMod (.setFld (.refl _)))))

theorem Onward.execSyspllUnlock (hm : (.pan :: .tim :: logParts) ⊆ may := by decide) : t.Onward own may (execSyspllUnlock t) := by
  refine .mono ?_ hm
  unfold Machine.execSyspllUnlock
  refine .next ?_
  refine .ite ?_ ?_
  · exact .refl _
  · extract_lets +onlyGivenNames f s1 s2
    have hs1 : t.Moves own (.pan :: .tim :: logParts) s1 := .setFld (.setFld (.refl _))
    have hs2 : t.Moves own (.pan :: .tim :: logParts) s2 := hs1.stick.logRec
    exact .ite hs2.holdKeep.enterQual hs2

theorem Onward.execNetpllUnlock (hm : (.net :: logParts) ⊆ may := by decide) : t.Onward own may (execNetpllUnlock t) := by
  refine .mono ?_ hm
  unfold Machine.execNetpllUnlock
  refine .next ?_
  refine .ite ?_ ?_
  · exact .refl _
  · extract_lets +onlyGivenNames f s1 s2
    have hs1 : t.Moves own (.net :: logParts) s1 := .setFld (.setFld (.refl _))
    have hs2 : t.Moves own (.net :: logParts) s2 := hs1.stick.logRec
    exact hs2.linkLoss.linkLoss

theorem Onward.execFallbackReturn {net : Bool} (hm : [.gt, .regs] ⊆ may := by decide) : t.Onward own may (execFallbackReturn net t) := by
  refine .mono ?_ hm
  unfold Machine.execFallbackReturn
  refine .next ?_
  extract_lets +onlyGivenNames m f
  exact .ite (.refl _) (.setFld (.gtTo (.refl _)))

theorem Onward.execFreqMonitorWindow {island : Fin 10} {count : Nat} (hm : (.pan :: .tim :: logParts) ⊆ may := by decide) : t.Onward own may (execFreqMonitorWindow island count t) := by
  refine .mono ?_ hm
  unfold Machine.execFreqMonitorWindow
  refine .next ?_
  refine .ite ?_ ?_
  · exact .refl _
  · extract_lets +onlyGivenNames n low t'
    have ht' : t.Moves own (.pan :: .tim :: logParts) t' := .timMod (.refl _)
    exact .ite ht'.breachOf ht'

theorem Onward.execDllLock {code : Nat} {correction : Int} (hm : (.gt :: .pan :: .tim :: .gl :: logParts) ⊆ may := by decide) :
    t.Onward own may (execDllLock code correction t) := by
  refine .mono (.next ?_) hm
  refine .ite (.refl _) ?_
  extract_lets +onlyGivenNames m s1 r c g src s2 s3 s4
  have hs1 : t.Moves own (.gt :: .pan :: .tim :: .gl :: logParts) s1 := .setFld (.setRegN (.refl _))
  have hs2 : t.Moves own (.gt :: .pan :: .tim :: .gl :: logParts) s2 := by
    clear_value s1
    exact hs1.set_parts (m := [.gt, .tim]) (by simp [State.keeps, s2]) id (fun z => { z with tim := z.tim }) rfl fun h => ⟨h, rfl⟩
  have hs3 : t.Moves own (.gt :: .pan :: .tim :: .gl :: logParts) s3 := hs2.enterQual
  have hs4 : t.Moves own (.gt :: .pan :: .tim :: .gl :: logParts) s4 := .ite hs3.gateThaw.logRec hs3
  exact hs4.timMod

theorem Moves.clockLost (h : s.Moves own may t) {k : Stk} {e : Nat} (hm : (.pan :: .tim :: .ana :: .cmp :: .pwm :: .gl :: .hop :: logParts) ⊆ may := by decide) :
    s.Moves own may (t.clockLost k e) := by
  refine h.andThen hm ?_
  unfold State.clockLost
  extract_lets +onlyGivenNames s1 s2 s3
  have hs1 : t.Moves own (.pan :: .tim :: .ana :: .cmp :: .pwm :: .gl :: .hop :: logParts) s1 := .ite (.timMod (.refl _)) (.refl _)
  have hs2 : t.Moves own (.pan :: .tim :: .ana :: .cmp :: .pwm :: .gl :: .hop :: logParts) s2 := hs1.stick.logRec.dllLoss
  have hs3 : t.Moves own (.pan :: .tim :: .ana :: .cmp :: .pwm :: .gl :: .hop :: logParts) s3 := .ite hs2.stick hs2
  exact .ite hs3.holdKeep hs3

theorem Onward.execRefclkLost (hm : (.pan :: .tim :: .ana :: .cmp :: .pwm :: .gl :: .hop :: logParts) ⊆ may := by decide) : t.Onward own may (execRefclkLost t) := by
  refine .mono ?_ hm
  unfold Machine.execRefclkLost
  refine .next ?_
  refine .ite ?_ ?_
  · exact .refl _
  · extract_lets +onlyGivenNames s1 e
    have hs1 : t.Moves own (.pan :: .tim :: .ana :: .cmp :: .pwm :: .gl :: .hop :: logParts) s1 := .setFld (.refl _)
    exact .ite hs1.clockLost hs1.stick.logRec

theorem Onward.execDllUnlock (hm : (.pan :: .tim :: .ana :: .cmp :: .pwm :: .gl :: .hop :: logParts) ⊆ may := by decide) : t.Onward own may (execDllUnlock t) := by
  refine .mono ?_ hm
  unfold Machine.execDllUnlock
  exact .next (.ite (.refl _) (.clockLost (.refl _)))

theorem Onward.execRefclkReturn (hm : [.regs] ⊆ may := by decide) : t.Onward own may (execRefclkReturn t) := by
  refine .mono ?_ hm
  unfold Machine.execRefclkReturn
  exact .next (.ite (.setFld (.refl _)) (.refl _))

theorem Onward.execXt32Stop (hm : (.tim :: logParts) ⊆ may := by decide) : t.Onward own may (execXt32Stop t) := by
  refine .mono ?_ hm
  unfold Machine.execXt32Stop
  refine .next ?_
  refine .ite ?_ ?_
  · exact .refl _
  · extract_lets +onlyGivenNames s1 s2
    have hs1 : t.Moves own (.tim :: logParts) s1 := .setFld (.setFld (.refl _))
    have hs2 : t.Moves own (.tim :: logParts) s2 := .ite hs1.holdKeep hs1
    exact hs2.stick.logRec

theorem Onward.execXt32Restart (hm : [.regs] ⊆ may := by decide) : t.Onward own may (execXt32Restart t) := by
  refine .mono ?_ hm
  unfold Machine.execXt32Restart
  exact .next (.ite (.refl _) (.setFld (.refl _)))

theorem Onward.execDllFull (hm : [.tim] ⊆ may := by decide) : t.Onward own may (execDllFull t) := by
  refine .mono ?_ hm
  unfold Machine.execDllFull
  exact .next (.ite (.timMod (.refl _)) (.refl _))

theorem Moves.modeSet (h : s.Moves own may t) (hm : (.pan :: .tim :: .ana :: logParts) ⊆ may := by decide) :
    s.Moves own may (t.modeSet) := by
  refine h.andThen hm ?_
  unfold State.modeSet
  refine .ite ?_ ?_
  · exact .refl _
  · extract_lets +onlyGivenNames s1
    have hs1 : t.Moves own (.pan :: .tim :: .ana :: logParts) s1 := .setFld (.timMod (.refl _))
    exact hs1.adcHalt.enterQual.logRec

theorem Onward.execDllRelockTimeout (hm : (.gt :: .pan :: .tim :: .ana :: .cmp :: .pwm :: .gl :: .hop :: logParts) ⊆ may := by decide) : t.Onward own may (execDllRelockTimeout t) := by
  refine .mono ?_ hm
  unfold Machine.execDllRelockTimeout
  exact .next (.ite (.refl _) (.clockLost (.gtTo (.refl _))))

theorem Onward.execClkPdivUpdGo (hm : [.regs, .tim] ⊆ may := by decide) : t.Onward own may (execClkPdivUpdGo t) := by
  refine .mono ?_ hm
  unfold Machine.execClkPdivUpdGo
  exact .next (.ite (.refl _) (.timMod (.setFld (.refl _))))

theorem Moves.divLoad (h : s.Moves own may t) {a : Nat} {div : Fld} {act : Fld} {ok : Nat → Bool} (hm : [.regs] ⊆ may := by decide) :
    s.Moves own may (t.divLoad a div act ok) := by
  refine h.andThen hm ?_
  unfold State.divLoad
  exact .ite (.setFld (.refl _)) (.refl _)

theorem Onward.execPdivLoad (hm : (.gt :: .ana :: .hop :: logParts) ⊆ may := by decide) : t.Onward own may (execPdivLoad t) := by
  refine .mono ?_ hm
  unfold Machine.execPdivLoad
  refine .next ?_
  refine .ite ?_ ?_
  · exact .refl _
  · extract_lets +onlyGivenNames s1 s2 s3 s4 s5 on src s5b s6
    have hs1 : t.Moves own (.gt :: .ana :: .hop :: logParts) s1 := .gtTo (.refl _)
    have hs2 : t.Moves own (.gt :: .ana :: .hop :: logParts) s2 := hs1.divLoad
    have hs3 : t.Moves own (.gt :: .ana :: .hop :: logParts) s3 := hs2.divLoad
    have hs4 : t.Moves own (.gt :: .ana :: .hop :: logParts) s4 := hs3.divLoad
    have hs5 : t.Moves own (.gt :: .ana :: .hop :: logParts) s5 := .foldl (fun _ _ hv => hv.divLoad) hs4
    have hs5b : t.Moves own (.gt :: .ana :: .hop :: logParts) s5b := .set_ana hs5 (fun z => by simpa [AnaState.Sized, Tab.mod] using z)
    have hs6 : t.Moves own (.gt :: .ana :: .hop :: logParts) s6 := hs5b.setFld.adcReload
    exact .ite hs6.recEnd hs6

theorem Moves.cmpUnresolve (h : s.Moves own may t) {n : Nat} (hm : (.ana :: .cmp :: .pwm :: .gl :: .safe :: .pwr :: logParts) ⊆ may := by decide) :
    s.Moves own may (t.cmpUnresolve n) := by
  refine h.andThen hm ?_
  unfold State.cmpUnresolve
  exact .cmpRoute (.cmpMod (.refl _))

theorem Moves.cmpCfgSet (h : s.Moves own may t) {old : State} {n : Nat} (hm : (.ana :: .cmp :: .pwm :: .gl :: .safe :: .pwr :: logParts) ⊆ may := by decide) :
    s.Moves own may (t.cmpCfgSet old n) := by
  refine h.andThen hm ?_
  unfold State.cmpCfgSet
  extract_lets +onlyGivenNames d
  exact .ite (.cmpUnresolve (.refl _)) (.cmpRoute (.refl _))

theorem Moves.cmpWinSet (h : s.Moves own may t) {old : State} (hm : (.ana :: .cmp :: .pwm :: .gl :: .safe :: .pwr :: logParts) ⊆ may := by decide) :
    s.Moves own may (t.cmpWinSet old) := by
  refine h.andThen hm ?_
  unfold State.cmpWinSet
  extract_lets +onlyGivenNames d
  refine .foldl (fun v k hv => ?_) (.refl _)
  extract_lets +onlyGivenNames u
  have hu : t.Moves own (.ana :: .cmp :: .pwm :: .gl :: .safe :: .pwr :: logParts) u := hv.cmpUnresolve.cmpUnresolve
  exact .ite hu hu.setFld

theorem Moves.epLenSet (h : s.Moves own may t) {v : Nat} (hm : [.regs, .tim, .ket] ⊆ may := by decide) :
    s.Moves own may (t.epLenSet v) := by
  refine h.andThen hm ?_
  unfold State.epLenSet
  exact .ite (.recheckBanks (.timMod (.setRegN (.refl _)))) (.refl _)

theorem Moves.descSet (h : s.Moves own may t) {n : Nat} (hm : [.regs, .ket] ⊆ may := by decide) :
    s.Moves own may (t.descSet n) := by
  refine h.andThen hm ?_
  unfold State.descSet
  extract_lets +onlyGivenNames req valid clash
  exact .recheckBanks (.ite (.setFld (.refl _)) (.refl _))

theorem Moves.hrvClamp (h : s.Moves own may t) (hm : [.regs] ⊆ may := by decide) :
    s.Moves own may (t.hrvClamp) := by
  refine h.andThen hm ?_
  unfold State.hrvClamp
  extract_lets +onlyGivenNames vmax lwake wake off
  exact .setFld (.setFld (.setFld (.setFld (.refl _))))

theorem Moves.regEffect (h : s.Moves own may t) {old : State} (hold : s.Moves own may old) {a : Nat}
    (hm : (.tim :: .pan :: .ana :: .cmp :: .pwm :: .gl :: .safe :: .pwr :: .ket :: .net :: .mtr :: logParts) ⊆ may := by decide) : s.Moves own may (t.regEffect old a) := by
  have sub {ps : List Part} (hp : ps ⊆ (.tim :: .pan :: .ana :: .cmp :: .pwm :: .gl :: .safe :: .pwr :: .ket :: .net :: .mtr :: logParts)) : ps ⊆ may := List.Subset.trans hp hm
  have hbanks : s.Moves own may t.recheckBanks := h.recheckBanks (sub (by decide))
  have hspare : s.Moves own may t.ketSpareSet := h.ketSpareSet (sub (by decide))
  unfold State.regEffect
  exact .ite h (.ite hbanks (.ite (h.descSet (sub (by decide))) (.ite (.ite h (h.srcSet (sub (by decide)))) (.ite (h.modeSet (sub (by decide)))
    (.ite (.ite hbanks hold) (.ite (h.hrvClamp (sub (by decide))) (.ite (h.cmpWinSet (sub (by decide))) (.ite (h.cmpCfgSet (sub (by decide)))
    (.ite (hspare.recheckBanks (sub (by decide))) (.ite (h.netCtrlSet (sub (by decide))) (.ite (.ite (h.mtrRestart (sub (by decide))) h)
    (.ite (h.lgMod (sub (by decide))) h))))))))))))

theorem Moves.w1c (h : s.Moves own may t) {a : Nat} {mask : Nat} {v : Word} (hm : [.regs, .log, .ket] ⊆ may := by decide) :
    s.Moves own may (t.w1c a mask v) := by
  refine h.andThen hm ?_
  unfold State.w1c
  extract_lets +onlyGivenNames m
  refine .ite ?_ ?_
  · exact .refl _
  · refine .ite ?_ ?_
    · exact .ketClearSat (.refl _)
    · extract_lets +onlyGivenNames t'
      have ht' : t.Moves own [.regs, .log, .ket] t' := .ite (.clearStkBits (.refl _)) (.refl _)
      exact ht'.clearStkBits.tidyFgt

theorem Moves.regWrite (h : s.Moves own may t) {a : Nat} {v : Word} (hm : (.deferred :: .pan :: .tim :: .ana :: .cmp :: .pwm :: .gl :: .safe :: .pwr :: .ket :: .net :: .mtr :: logParts) ⊆ may := by decide) :
    s.Moves own may (t.regWrite a v) := by
  refine h.andThen hm ?_
  unfold State.regWrite
  split
  · exact .refl _
  · refine .ite ?_ ?_
    · exact .refl _
    · refine .ite ?_ ?_
      · exact .setReg (.refl _)
      · extract_lets +onlyGivenNames s1
        have hs1 : t.Moves own (.deferred :: .pan :: .tim :: .ana :: .cmp :: .pwm :: .gl :: .safe :: .pwr :: .ket :: .net :: .mtr :: logParts) s1 := .w1c (.refl _)
        refine .ite ?_ ?_
        · exact .ite hs1.epLenSet hs1
        · extract_lets +onlyGivenNames s2 w
          have hs2 : t.Moves own (.deferred :: .pan :: .tim :: .ana :: .cmp :: .pwm :: .gl :: .safe :: .pwr :: .ket :: .net :: .mtr :: logParts) s2 := .regEffect hs1.setReg hs1
          exact .ite hs2 hs2.set_deferred

theorem Moves.sdfRestart (h : s.Moves own may t) {n : Nat} (hm : [.ana] ⊆ may := by decide) :
    s.Moves own may (t.sdfRestart n) := by
  refine h.andThen hm ?_
  unfold State.sdfRestart
  exact .sdfMod (.refl _)

theorem Moves.deferredWrite (h : s.Moves own may t) {a : Nat} {v : Word} (hm : (.ana :: .cmp :: .pwm :: .gl :: logParts) ⊆ may := by decide) :
    s.Moves own may (t.deferredWrite a v) := by
  refine h.andThen hm ?_
  unfold State.deferredWrite
  split
  · exact .refl _
  · extract_lets +onlyGivenNames t'
    have ht' : t.Moves own (.ana :: .cmp :: .pwm :: .gl :: logParts) t' := .setReg (.refl _)
    exact .ite (.ite ht'.sdfRestart ht') (.ite ht'.cmpMod (.ite ht'.tripEval ht'))

theorem Moves.deferredAll (h : s.Moves own may t) (hm : (.deferred :: .ana :: .cmp :: .pwm :: .gl :: logParts) ⊆ may := by decide) :
    s.Moves own may (t.deferredAll) := by
  refine h.andThen hm ?_
  unfold State.deferredAll
  exact .foldl (fun _ _ hv => hv.deferredWrite) (.set_deferred (.refl _))

theorem Onward.execCounterClear {a : Fin 1048576} (hm : [.regs] ⊆ may := by decide) : t.Onward own may (execCounterClear a t) := by
  refine .mono ?_ hm
  unfold Machine.execCounterClear
  refine .next ?_
  split
  · exact .ite (.setReg (.refl _)) (.refl _)
  · exact .refl _

theorem Onward.execPanCtrlClear (hm : [.pan] ⊆ may := by decide) : t.Onward own may (execPanCtrlClear t) := by
  refine .mono ?_ hm
  unfold Machine.execPanCtrlClear
  exact .next (.ite (.set_pan (.refl _)) (.refl _))

theorem Moves.stickyClear (h : s.Moves own may t) {a : Nat} {v : Word} (hm : [.regs, .log, .ket] ⊆ may := by decide) :
    s.Moves own may (t.stickyClear a v) := by
  refine h.andThen hm ?_
  unfold State.stickyClear
  refine .ite ?_ ?_
  · exact .ite (.clearSum (.refl _)) (.refl _)
  · split
    · exact .ite (.refl _) (.w1c (.refl _))
    · exact .refl _

theorem Onward.execStickyClear {a : Fin 1048576} {val : Word} {sets : Word} (hm : [.regs, .log, .ket] ⊆ may := by decide) : t.Onward own may (execStickyClear a val sets t) := by
  refine .mono ?_ hm
  unfold Machine.execStickyClear
  exact .next (.ite (.stickyClear (.refl _)) (.refl _))

theorem Onward.execStkFgtRead {n : Fin 128} (hm : [.log, .out] ⊆ may := by decide) : t.Onward own may (execStkFgtRead n t) := by
  refine .mono ?_ hm
  unfold Machine.execStkFgtRead
  refine .next ?_
  extract_lets +onlyGivenNames t'
  exact .give (.logMod (.refl _))

theorem Moves.pinRelease (h : s.Moves own may t) {q : Nat} (hm : logParts ⊆ may := by decide) :
    s.Moves own may (t.pinRelease q) := by
  refine h.andThen hm ?_
  unfold State.pinRelease
  extract_lets +onlyGivenNames free seqs t'
  have ht' : t.Moves own logParts t' := .logMod (.refl _)
  exact ht'.enqueue.overflowStk

theorem Onward.execKettleCompletion {b : Fin 12} (hm : (.dev :: .deferred :: .spareReqs :: .pan :: .tim :: .ana :: .cmp :: .pwm :: .gl :: .safe :: .pwr :: .ket :: .net :: .mtr :: .hop :: .law :: .sup :: .pin :: logParts) ⊆ may := by decide) : t.Onward own may (execKettleCompletion b t) := by
  refine .mono ?_ hm
  unfold Machine.execKettleCompletion
  refine .next ?_
  extract_lets +onlyGivenNames y
  refine .ite ?_ ?_
  · extract_lets +onlyGivenNames s1
    have hs1 : t.Moves own (.dev :: .deferred :: .spareReqs :: .pan :: .tim :: .ana :: .cmp :: .pwm :: .gl :: .safe :: .pwr :: .ket :: .net :: .mtr :: .hop :: .law :: .sup :: .pin :: logParts) s1 := .setFld (.setFld (.refl _))
    exact hs1.ketMod.leaveCheck
  · exact .refl _

theorem Onward.execSectionDrainEnd {b : Fin 12} {waits : Nat} (hm : [.ket] ⊆ may := by decide) : t.Onward own may (execSectionDrainEnd b waits t) :=
  .mono (.next (.ite (.ketMod (.refl _) fun _ z => (z.modRun z.2).beginSec) (.refl _))) hm

theorem Onward.execEscalationReset {b : Fin 12} (hm : [.pan, .ket] ⊆ may := by decide) : t.Onward own may (execEscalationReset b t) := by
  refine .mono ?_ hm
  unfold Machine.execEscalationReset
  exact .next (.ite (.ketRefresh (.ketMod (.refl _))) (.refl _))

theorem Onward.execFallbackAutoReturn {b : Fin 12} (hm : [.pan, .ket] ⊆ may := by decide) : t.Onward own may (execFallbackAutoReturn b t) := by
  refine .mono ?_ hm
  unfold Machine.execFallbackAutoReturn
  exact .next (.ite (.ketRefresh (.ketMod (.refl _))) (.refl _))

theorem Onward.execEngineModeAtEpoch {b : Fin 12} (hm : (.pan :: .ket :: logParts) ⊆ may := by decide) : t.Onward own may (execEngineModeAtEpoch b t) := by
  refine .mono ?_ hm
  unfold Machine.execEngineModeAtEpoch
  refine .next ?_
  split
  · refine .ite ?_ ?_
    · extract_lets +onlyGivenNames s1
      have hs1 : t.Moves own (.pan :: .ket :: logParts) s1 := .ketMod (.ketFbDue (.refl _))
      refine .ite ?_ ?_
      · exact hs1.ketRefresh.finish
      · extract_lets +onlyGivenNames s2
        have hs2 : t.Moves own (.pan :: .ket :: logParts) s2 := .ite (.ite hs1.ketMod hs1) hs1.ketFallback
        exact hs2.ketRefresh.finish
    · exact .refl _
  · exact .refl _

theorem Onward.execSwapRequest {b : Fin 12} {val : Word} (hm : (.ket :: logParts) ⊆ may := by decide) : t.Onward own may (execSwapRequest b val t) := by
  refine .mono ?_ hm
  unfold Machine.execSwapRequest
  refine .next ?_
  refine .ite ?_ ?_
  · exact .refl _
  · extract_lets +onlyGivenNames s1 e
    have hs1 : t.Moves own (.ket :: logParts) s1 := .setFld (.refl _)
    exact .ite hs1 (.ite hs1.stick hs1.ketMod)

theorem Onward.execSwapAtEpoch {b : Fin 12} (hm : (.pan :: .ket :: .fw :: logParts) ⊆ may := by decide) : t.Onward own may (execSwapAtEpoch b t) := by
  refine .mono ?_ hm
  unfold Machine.execSwapAtEpoch
  refine .next ?_
  split
  · exact .refl _
  · exact .ite (.swapDo (.ketFbDue (.refl _))) (.ite (.swapCancel (.refl _)) (.refl _))

theorem Onward.execKetCycmaxRead {b : Fin 12} (hm : [.regs, .out] ⊆ may := by decide) : t.Onward own may (execKetCycmaxRead b t) := by
  refine .mono ?_ hm
  unfold Machine.execKetCycmaxRead
  exact .next (.setReg (.give (.refl _)))

theorem Onward.execRotationStart (hm : [.gt, .ket] ⊆ may := by decide) : t.Onward own may (execRotationStart t) := by
  refine .mono ?_ hm
  unfold Machine.execRotationStart
  refine .next ?_
  split
  · refine .ite ?_ ?_
    · extract_lets +onlyGivenNames s1
      have hs1 : t.Moves own [.gt, .ket] s1 := .gtTo (.refl _)
      exact hs1.set_ket
    · exact .refl _
  · exact .refl _

theorem Moves.rotMove (h : s.Moves own may t) {sp : Nat} {dn : Nat} (hm : [.ket] ⊆ may := by decide) :
    s.Moves own may (t.rotMove sp dn) := by
  refine h.andThen hm ?_
  unfold State.rotMove
  exact .set_ket (.refl _)

theorem Onward.execCopyComplete (hm : [.ket] ⊆ may := by decide) : t.Onward own may (execCopyComplete t) := by
  refine .mono ?_ hm
  unfold Machine.execCopyComplete
  refine .next ?_
  split
  · exact .ite (.rotMove (.refl _)) (.set_ket (.refl _))
  · exact .refl _

theorem Onward.execHandover {agree : Bool} (hm : (.pan :: .ket :: logParts) ⊆ may := by decide) : t.Onward own may (execHandover agree t) := by
  refine .mono ?_ hm
  unfold Machine.execHandover
  have ht : t.Moves own (.pan :: .ket :: logParts) t := .refl t
  refine .next ?_
  split
  · refine .ite ?_ ?_
    · exact .stick (.set_ket (.refl _))
    · refine .ite ?_ ?_
      · extract_lets +onlyGivenNames t'
        have ht' : t.Moves own (.pan :: .ket :: logParts) t' := .bump (.rotMove (.refl _))
        split
        · exact ht'.ketRefresh
        · exact ht'
      · exact .refl _
  · exact .refl _

theorem Onward.execBistComplete {pass : Bool} (hm : (.ket :: logParts) ⊆ may := by decide) : t.Onward own may (execBistComplete pass t) := by
  refine .mono ?_ hm
  unfold Machine.execBistComplete
  refine .next ?_
  split
  · extract_lets +onlyGivenNames src idle
    have hidle : t.Moves own (.ket :: logParts) idle := .set_ket (.refl _) (fun z => by simpa [KetState.Sized, Tab.mod] using z)
    refine .ite ?_ ?_
    · extract_lets +onlyGivenNames src' s1
      have hs1 : t.Moves own (.ket :: logParts) s1 := .bump (.set_ket hidle (fun z => by simpa [KetState.Sized, Tab.mod] using z))
      exact .ite hs1.set_ket (.ite hs1.stick.logRec hs1.set_ket)
    · exact hidle.set_ket.stick.stick
  · exact .refl _

theorem Moves.nextOf (h : s.Moves own may t) {o : Host.Outcome State Fault Refusal} (ho : t.Onward own may o) : s.Moves own may (Machine.nextOf t o) := by
  unfold Machine.nextOf
  split
  · exact h.trans (ho _ rfl)
  · exact h

theorem Moves.bufPut (h : s.Moves own may t) {o : Nat} {v : Word} (hm : [.mbx] ⊆ may := by decide) :
    s.Moves own may (t.bufPut o v) := by
  refine h.andThen hm ?_
  unfold State.bufPut
  exact .set_mbx (.refl _)

theorem Moves.bufPutByte (h : s.Moves own may t) {o : Nat} {b : Byte} (hm : [.mbx] ⊆ may := by decide) :
    s.Moves own may (t.bufPutByte o b) := by
  refine h.andThen hm ?_
  unfold State.bufPutByte
  exact .bufPut (.refl _)

theorem Moves.bufPutBytes (h : s.Moves own may t) {o : Nat} {bs : List Byte} (hm : [.mbx] ⊆ may := by decide) :
    s.Moves own may (t.bufPutBytes o bs) := by
  refine h.andThen hm ?_
  unfold State.bufPutBytes
  exact .foldl (fun _ _ hv => hv.bufPutByte) (.refl _)

theorem Moves.readEffect (h : s.Moves own may t) {a : Nat} (hm : logParts ⊆ may := by decide) :
    s.Moves own may (t.readEffect a) := by
  refine h.andThen hm ?_
  unfold State.readEffect
  refine .ite ?_ ?_
  · exact .nextOf (.refl _) .execGtSnapRead
  · refine .ite ?_ ?_
    · exact .set_mbx (.refl _)
    · refine .ite ?_ ?_
      · exact .nextOf (.refl _) .execStkFgtRead
      · exact .ite (.nextOf (.refl _) .execMtrERead) (.ite (.setReg (.refl _)) (.refl _))

theorem Moves.doorbell (h : s.Moves own may t) {q : Nat} {v : Word} (hm : logParts ⊆ may := by decide) :
    s.Moves own may (t.doorbell q v) := by
  refine h.andThen hm ?_
  unfold State.doorbell
  extract_lets +onlyGivenNames tail held
  exact .ite (.refl _) (.ite (.stick (.refl _)) (.setFld (.refl _)))

theorem Onward.execSqDoorbell {q : Fin 4} {val : Word} (hm : logParts ⊆ may := by decide) : t.Onward own may (execSqDoorbell q val t) := by
  refine .mono ?_ hm
  unfold Machine.execSqDoorbell
  exact .next (.doorbell (.refl _))

theorem Moves.cqHead (h : s.Moves own may t) {q : Nat} {v : Word} (hm : [.regs, .mbx, .out] ⊆ may := by decide) :
    s.Moves own may (t.cqHead q v) := by
  refine h.andThen hm ?_
  unfold State.cqHead
  exact .ite (.refl _) (.cqDrain (.setFld (.refl _)))

theorem Onward.execCqHeadWrite {q : Fin 4} {val : Word} (hm : [.regs, .mbx, .out] ⊆ may := by decide) : t.Onward own may (execCqHeadWrite q val t) := by
  refine .mono ?_ hm
  unfold Machine.execCqHeadWrite
  exact .next (.cqHead (.refl _))

theorem Moves.mboxReset (h : s.Moves own may t) (hm : logParts ⊆ may := by decide) : s.Moves own may t.mboxReset := by
  refine h.andThen hm ?_
  unfold State.mboxReset
  refine .ite (.refl _) ?_
  extract_lets +onlyGivenNames s1 keep src s2 s3
  have hs1 : t.Moves own logParts s1 := .closeSession (.refl _)
  have hs2 : t.Moves own logParts s2 := (hs1.set_regs (Store.filter_wf _)).set_mbx fun z => ⟨rfl, rfl, z.2.2⟩
  exact hs2.setFld.setFld.stick.logRec.mboxReady

theorem Onward.execMailboxReset (hm : logParts ⊆ may := by decide) : t.Onward own may (execMailboxReset t) := by
  refine .mono ?_ hm
  unfold Machine.execMailboxReset
  exact .next (.mboxReset (.refl _))

theorem Onward.execMbxStkRead (hm : logParts ⊆ may := by decide) : t.Onward own may (execMbxStkRead t) := by
  refine .mono ?_ hm
  unfold Machine.execMbxStkRead
  exact .next (.ite (.give (.readEffect (.refl _))) (.refl _))

theorem Onward.execLogPinrel {seq : Word} (hm : logParts ⊆ may := by decide) : t.Onward own may (execLogPinrel seq t) := by
  refine .mono ?_ hm
  unfold Machine.execLogPinrel
  exact .next (.ite (.pinRelease (.refl _)) (.refl _))

theorem Moves.blockWrite (h : s.Moves own may t) {a : Nat} {v : Word} (hm : (.gt :: .deferred :: .pan :: .tim :: .ana :: .cmp :: .pwm :: .gl :: .safe :: .pwr :: .ket :: .net :: .mtr :: .hop :: logParts) ⊆ may := by decide) :
    s.Moves own may (t.blockWrite a v) := by
  refine h.andThen hm ?_
  unfold State.blockWrite
  refine .ite ?_ ?_
  · exact .stickyClear (.refl _)
  · refine .ite ?_ ?_
    · exact .pinRelease (.refl _)
    · refine .ite ?_ ?_
      · exact .regWrite (.ite (.nextOf (.refl _) .execPanCtrlClear) (.refl _))
      · refine .ite ?_ ?_
        · exact .ite (.nextOf (.refl _) .execClkPdivUpdGo) (.refl _)
        · refine .ite ?_ ?_
          · exact .regWrite (.ite (.nextOf (.refl _) .execDllFull) (.refl _))
          · refine .ite ?_ ?_
            · exact .nextOf (.refl _) .execAnaSwtrig
            · refine .ite ?_ ?_
              · exact .regWrite (.ite (.calQueue (.refl _)) (.refl _))
              · refine .ite ?_ ?_
                · exact .ite (.probeGo (.refl _)) (.refl _)
                · refine .ite ?_ ?_
                  · extract_lets +onlyGivenNames s1 s2
                    have hs1 : t.Moves own (.gt :: .deferred :: .pan :: .tim :: .ana :: .cmp :: .pwm :: .gl :: .safe :: .pwr :: .ket :: .net :: .mtr :: .hop :: logParts) s1 := .ite (.recArm (.refl _)) (.refl _)
                    have hs2 : t.Moves own (.gt :: .deferred :: .pan :: .tim :: .ana :: .cmp :: .pwm :: .gl :: .safe :: .pwr :: .ket :: .net :: .mtr :: .hop :: logParts) s2 := .ite hs1.recSwTrig hs1
                    exact .ite hs2.recEnd hs2
                  · refine .ite ?_ ?_
                    · exact .mcntCfg (.refl _)
                    · refine .ite ?_ ?_
                      · extract_lets +onlyGivenNames g
                        refine .ite ?_ ?_
                        · exact .ite (.nextOf (.refl _) .execPwmHupdArm) (.refl _)
                        · exact .ite (.regWrite (.ite (.tripClear (.refl _)) (.refl _))) (.regWrite (.refl _))
                      · refine .ite ?_ ?_
                        · extract_lets +onlyGivenNames g s1
                          have hs1 : t.Moves own (.gt :: .deferred :: .pan :: .tim :: .ana :: .cmp :: .pwm :: .gl :: .safe :: .pwr :: .ket :: .net :: .mtr :: .hop :: logParts) s1 := .foldl (fun _ _ hv => .ite hv.latchClear hv) (.refl _)
                          exact .foldl (fun _ _ hv => .ite hv.shootClear hv) hs1
                        · refine .ite ?_ ?_
                          · extract_lets +onlyGivenNames b
                            exact .ite (.nextOf (.refl _) .execSwapRequest) (.ite (.ite (.refl _) (.regWrite (.refl _))) (.regWrite (.refl _)))
                          · exact .regWrite (.refl _)

theorem Moves.openWrite (h : s.Moves own may t) {a : Nat} {v : Word} (hm : (.deferred :: .pan :: .tim :: .ana :: .cmp :: .pwm :: .gl :: .safe :: .pwr :: .ket :: .net :: .mtr :: logParts) ⊆ may := by decide) :
    s.Moves own may (t.openWrite a v) := by
  refine h.andThen hm ?_
  unfold State.openWrite
  refine .ite ?_ ?_
  · exact .bufPut (.refl _)
  · refine .ite ?_ ?_
    · exact .setReg (.refl _)
    · refine .ite ?_ ?_
      · exact .doorbell (.refl _)
      · refine .ite ?_ ?_
        · exact .cqHead (.refl _)
        · exact .ite (.ite (.mboxReset (.refl _)) (.refl _)) (.ite (.regWrite (.refl _)) (.refl _))

theorem Moves.busWrite (h : s.Moves own may t) {a : Nat} {v : Word} (hm : (.gt :: .deferred :: .pan :: .tim :: .ana :: .cmp :: .pwm :: .gl :: .safe :: .pwr :: .ket :: .net :: .mtr :: .hop :: logParts) ⊆ may := by decide) :
    s.Moves own may (t.busWrite a v) := by
  refine h.andThen hm ?_
  unfold State.busWrite
  exact .ite (.refl _) (.ite (.blockWrite (.refl _)) (.openWrite (.refl _)))

theorem Onward.execRegisterWrite {a : Fin 67108864} {val : Word} (hm : (.gt :: .deferred :: .pan :: .tim :: .ana :: .cmp :: .pwm :: .gl :: .safe :: .pwr :: .ket :: .net :: .mtr :: .hop :: logParts) ⊆ may := by decide) : t.Onward own may (execRegisterWrite a val t) := by
  refine .mono ?_ hm
  unfold Machine.execRegisterWrite
  exact .next (.busWrite (.refl _))

theorem Moves.windowWrite (h : s.Moves own may t) {a : Nat} {v : Word} (hm : (.gt :: .deferred :: .pan :: .tim :: .ana :: .cmp :: .pwm :: .gl :: .safe :: .pwr :: .ket :: .net :: .mtr :: .hop :: logParts) ⊆ may := by decide) :
    s.Moves own may (t.windowWrite a v) := by
  refine h.andThen hm ?_
  unfold State.windowWrite
  refine .ite ?_ ?_
  · exact .refl _
  · split
    · exact .openWrite (.refl _)
    · refine .ite ?_ ?_
      · exact .stick (.bump (.refl _))
      · extract_lets +onlyGivenNames s1
        have hs1 : t.Moves own (.gt :: .deferred :: .pan :: .tim :: .ana :: .cmp :: .pwm :: .gl :: .safe :: .pwr :: .ket :: .net :: .mtr :: .hop :: logParts) s1 := by
          refine .ite ?_ ?_
          · split
            · exact .w1c (.refl _)
            · exact .refl _
          · exact .blockWrite (.refl _)
        exact hs1.logRec

theorem Onward.execExpertWindowWrite {a : Fin 1048576} {val : Word} (hm : (.gt :: .deferred :: .pan :: .tim :: .ana :: .cmp :: .pwm :: .gl :: .safe :: .pwr :: .ket :: .net :: .mtr :: .hop :: logParts) ⊆ may := by decide) : t.Onward own may (execExpertWindowWrite a val t) := by
  refine .mono ?_ hm
  unfold Machine.execExpertWindowWrite
  exact .next (.windowWrite (.refl _))

theorem Moves.busRead (h : s.Moves own may t) {a : Nat} (hm : (.gt :: logParts) ⊆ may := by decide) : s.Moves own may (t.busRead a).1 := by
  refine h.andThen hm ?_
  unfold State.busRead
  split
  · exact .refl _
  · split
    · exact .refl _
    · split
      · exact .refl _
      · split
        · exact .refl _
        · exact .readEffect (.refl _)

theorem Onward.execQspiFrame {f : QspiFrame} (hm : (.gt :: .deferred :: .pan :: .tim :: .ana :: .cmp :: .pwm :: .gl :: .safe :: .pwr :: .ket :: .net :: .mtr ::
    .hop :: logParts) ⊆ may := by decide) : t.Onward own may (execQspiFrame f t) := by
  refine .mono (.next (.ite (.refl _) ?_)) hm
  split
  · exact .foldl (fun _ _ hv => hv.windowWrite) (.refl _)
  · refine .send ?_
    exact List.foldlRecOn (motive := fun e : State × List Byte => t.Moves own _ e.1) _ _ (.refl t) fun e he i _ => Moves.busRead he

theorem Moves.fetch (h : s.Moves own may t) (hm : logParts ⊆ may := by decide) :
    s.Moves own may (t.fetch) := by
  refine h.andThen hm ?_
  unfold State.fetch
  refine .ite ?_ ?_
  · exact .refl _
  · split
    · exact .refl _
    · extract_lets +onlyGivenNames e d s1 src s2
      have hs1 : t.Moves own logParts s1 := .setFld (.refl _)
      have hs2 : t.Moves own logParts s2 := .set_mbx hs1 (fun z => by simpa [MbxState.Sized, Tab.mod] using z)
      refine .ite ?_ ?_
      · exact hs2.stick.postComp
      · extract_lets +onlyGivenNames s3 src' s4
        have hs3 : t.Moves own logParts s3 := hs2.setTagOut
        have hs4 : t.Moves own logParts s4 := .set_mbx hs3 (fun z => by simpa [MbxState.Sized, Tab.mod] using z)
        exact .ite hs4.finish hs4

theorem Onward.execCommandFetch (hm : logParts ⊆ may := by decide) : t.Onward own may (execCommandFetch t) := by
  refine .mono ?_ hm
  unfold Machine.execCommandFetch
  exact .next (.fetch (.refl _))

theorem Onward.execCommandTimeout {tag : Fin 64} (hm : [.gt, .regs, .mbx, .out] ⊆ may := by decide) : t.Onward own may (execCommandTimeout tag t) := by
  refine .mono ?_ hm
  unfold Machine.execCommandTimeout
  refine .next ?_
  split
  · exact .ite (.finish (.gtTo (.refl _))) (.refl _)
  · exact .refl _

theorem Moves.command (h : s.Moves own may t) {tag opc : Nat} {body : State → MCmd → State} (hb : ∀ u c, s.Moves own may u → s.Moves own may (body u c))
    (hm : [.regs, .mbx, .out] ⊆ may := by decide) : s.Moves own may (t.command tag opc body) := by
  have hfin {u : State} {status : Nat} {v0 : Word} (hu : s.Moves own may u) : s.Moves own may (u.finish tag status v0) := hu.finish hm
  unfold State.command
  split
  · exact h
  next c _ =>
    refine .ite h (.ite (hfin h) ?_)
    have hsub : [.mbx] ⊆ may := List.Subset.trans (by decide) hm
    have hs1 : s.Moves own may { t with mbx := { t.mbx with cmds := t.mbx.cmds.put tag { c with started := true } } } :=
      State.Moves.set_mbx h (by simp [MbxState.Sized]) hsub
    dsimp only
    split
    · exact hfin hs1
    · exact .ite (hfin hs1) (hb _ _ hs1)

end Sys2Proof.Machine.State
end

section
/-!
PROOFS. Which parts the host's commands move, and the commit and the boot.
-/
namespace Sys2Proof.Machine.State

-- A default argument by `decide` waits for every earlier proof, so the proofs here run one at a time.
set_option Elab.async false

variable {own may m : List Part} {s t u : State}

theorem Moves.refuse (h : s.Moves own may t) {tag : Nat} {status : Nat} {word : Nat} (hm : [.regs, .mbx, .out] ⊆ may := by decide) :
    s.Moves own may (t.refuse tag status word) := by
  refine h.andThen hm ?_
  unfold State.refuse
  exact .finish (.refl _)

theorem Moves.dataOut (h : s.Moves own may t) {c : MCmd} {bs : List Byte} (hm : [.mbx, .out] ⊆ may := by decide) :
    s.Moves own may (t.dataOut c bs) := by
  refine h.andThen hm ?_
  unfold State.dataOut
  exact .ite (.bufPutBytes (.refl _)) (.set_out (.refl _))

theorem Moves.finishData (h : s.Moves own may t) {tag : Nat} {c : MCmd} {bs : List Byte} {cidx : Nat} {v0 : Word} (hm : [.regs, .mbx, .out] ⊆ may := by decide) :
    s.Moves own may (t.finishData tag c bs cidx v0) := by
  refine h.andThen hm ?_
  unfold State.finishData
  exact .finish (.ite (.refl _) (.dataOut (.refl _)))

theorem Moves.storeDue (h : s.Moves own may t) (hm : [.fw] ⊆ may := by decide) :
    s.Moves own may (t.storeDue) := by
  refine h.andThen hm ?_
  unfold State.storeDue
  exact .set_fw (.refl _)

theorem Onward.execSessionExpire (hm : (.gt :: logParts) ⊆ may := by decide) : t.Onward own may (execSessionExpire t) := by
  refine .mono ?_ hm
  unfold Machine.execSessionExpire
  exact .next (.ite (.closeSession (.gtTo (.refl _))) (.refl _))

theorem Onward.execAuthLockoutEnd (hm : [.gt, .mbx] ⊆ may := by decide) : t.Onward own may (execAuthLockoutEnd t) := by
  refine .mono ?_ hm
  unfold Machine.execAuthLockoutEnd
  have ht : t.Moves own [.gt, .mbx] t := .refl t
  refine .next ?_
  refine .ite ?_ ?_
  · extract_lets +onlyGivenNames t'
    have ht' : t.Moves own [.gt, .mbx] t' := .gtTo (.refl _)
    exact ht'.set_mbx
  · exact .refl _

theorem Moves.settledWrites (h : s.Moves own may t) (hm : (.deferred :: .ana :: .cmp :: .pwm :: .gl :: logParts) ⊆ may := by decide) :
    s.Moves own may (t.settledWrites) := by
  refine h.andThen hm ?_
  unfold State.settledWrites
  extract_lets +onlyGivenNames d
  have hd : t.Moves own (.deferred :: .ana :: .cmp :: .pwm :: .gl :: logParts) d := .latFixed (.deferredAll (.refl _))
  exact hd.writeSpares

theorem Moves.takeDescs (h : s.Moves own may t) {v : State} (hm : [.regs] ⊆ may := by decide) : s.Moves own may (t.takeDescs v) := by
  refine h.andThen hm ?_
  unfold State.takeDescs
  exact .foldl (fun _ _ hv => hv.setReg.setReg) (.refl _)

theorem Moves.allocate (h : s.Moves own may t) (hm : (.deferred :: .ana :: .cmp :: .pwm :: .gl :: .ket :: logParts) ⊆ may := by decide) :
    s.Moves own may (t.allocate) := by
  refine h.andThen hm ?_
  unfold State.allocate
  exact .recheckBanks (.takeDescs (.refl _))

theorem Onward.execNetTable {tag : Fin 64} {dma : List Byte} (hm : (.deferred :: .ana :: .cmp :: .pwm :: .gl :: .ket :: .net :: .fw :: logParts) ⊆ may := by decide) : t.Onward own may (execNetTable tag dma t) := by
  refine .mono ?_ hm
  unfold Machine.execNetTable
  refine .next ?_
  refine .command (.refl _) ?_
  intro u c hu
  extract_lets +onlyGivenNames f
  split
  · exact hu.finish
  · extract_lets +onlyGivenNames u' need
    have hu' : t.Moves own (.deferred :: .ana :: .cmp :: .pwm :: .gl :: .ket :: .net :: .fw :: logParts) u' := hu.tblInstall
    exact .ite hu.finish (.ite hu.spareFull.finish hu'.allocate.logRec.storeDue.finish)

theorem Onward.execMeterRead {tag : Fin 64} (hm : [.regs, .mbx, .out] ⊆ may := by decide) : t.Onward own may (execMeterRead tag t) := by
  refine .mono ?_ hm
  unfold Machine.execMeterRead
  refine .next ?_
  refine .command (.refl _) ?_
  intro u c hu
  exact .ite hu.refuse (.ite hu.refuse hu.finishData)

theorem Moves.meterPreset (h : s.Moves own may t) {m' : Nat} {r : Nat} {v : Nat} {w : Nat} (hm : (.mtr :: logParts) ⊆ may := by decide) :
    s.Moves own may (t.meterPreset m' r v w) := by
  refine h.andThen hm ?_
  unfold State.meterPreset
  extract_lets +onlyGivenNames y s1
  have hs1 : t.Moves own (.mtr :: logParts) s1 := .mtrMod (.refl _)
  exact hs1.logRec

theorem Onward.execMeterPreset {tag : Fin 64} {dma : List Byte} (hm : (.mtr :: logParts) ⊆ may := by decide) : t.Onward own may (execMeterPreset tag dma t) := by
  refine .mono ?_ hm
  unfold Machine.execMeterPreset
  refine .next ?_
  refine .command (.refl _) ?_
  intro u c hu
  extract_lets +onlyGivenNames bs rs
  exact .ite hu.refuse (.ite hu.refuse (.ite hu.refuse (.finish (.foldl (fun _ _ hv => hv.meterPreset) hu))))

theorem Onward.execRecArm {tag : Fin 64} (hm : [.regs, .hop, .mbx, .out] ⊆ may := by decide) : t.Onward own may (execRecArm tag t) := by
  refine .mono ?_ hm
  unfold Machine.execRecArm
  refine .next ?_
  refine .command (.refl _) ?_
  intro u c hu
  exact .ite hu.finish hu.recArm.finish

theorem Onward.execRecTrig {tag : Fin 64} (hm : (.gt :: .hop :: logParts) ⊆ may := by decide) : t.Onward own may (execRecTrig tag t) := by
  refine .mono ?_ hm
  unfold Machine.execRecTrig
  refine .next ?_
  refine .command (.refl _) ?_
  intro u c hu
  exact .ite hu.finish hu.recSwTrig.finish

theorem Onward.execRecStop {tag : Fin 64} (hm : (.hop :: logParts) ⊆ may := by decide) : t.Onward own may (execRecStop tag t) := by
  refine .mono ?_ hm
  unfold Machine.execRecStop
  refine .next ?_
  refine .command (.refl _) ?_
  intro u c hu
  exact hu.recEnd.finish

theorem Onward.execRecRead {tag : Fin 64} (hm : [.regs, .mbx, .out] ⊆ may := by decide) : t.Onward own may (execRecRead tag t) := by
  refine .mono ?_ hm
  unfold Machine.execRecRead
  refine .next ?_
  refine .command (.refl _) ?_
  intro u c hu
  extract_lets +onlyGivenNames n
  exact .ite hu.refuse (.ite hu.refuse (.ite hu.refuse (.ite hu.refuse (.ite hu.finish hu.finishData))))

theorem Moves.safePend (h : s.Moves own may t) {cfg : SafeConfig} {crc : Word} (hm : [.regs, .safe] ⊆ may := by decide) :
    s.Moves own may (t.safePend cfg crc) := by
  refine h.andThen hm ?_
  unfold State.safePend
  exact .setFld (.set_safe (.refl _))

theorem Onward.execSafeCfg {tag : Fin 64} {cfg : Option SafeConfig} {dma : List Byte} (hm : [.regs, .safe, .mbx, .out] ⊆ may := by decide) : t.Onward own may (execSafeCfg tag cfg dma t) := by
  refine .mono ?_ hm
  unfold Machine.execSafeCfg
  refine .next ?_
  refine .command (.refl _) ?_
  intro u c hu
  refine .ite ?_ ?_
  · exact hu.refuse
  · split
    · exact hu.refuse
    · refine .ite ?_ ?_
      · exact hu.refuse
      · refine .ite ?_ ?_
        · exact hu.refuse
        · extract_lets +onlyGivenNames crc
          exact hu.safePend.finish

theorem Onward.execSafeConfirm {tag : Fin 64} (ho : .safe ∈ own)
    (hm : (.ana :: .cmp :: .pwm :: .gl :: .safe :: .pwr :: .fw :: logParts) ⊆ may := by decide) : t.Onward own may (execSafeConfirm tag t) := by
  refine .mono (.next (.command (.refl _) ?_)) hm
  intro u c hu
  refine .ite hu.refuse (.ite hu.finish (.ite hu.refuse ?_))
  exact .finish (.storeDue (.logRec (.safeConfirm hu ho)))

theorem Onward.execSpo {tag : Fin 64} (hm : (.pwm :: .safe :: logParts) ⊆ may := by decide) : t.Onward own may (execSpo tag t) := by
  refine .mono ?_ hm
  unfold Machine.execSpo
  refine .next ?_
  refine .command (.refl _) ?_
  intro u c hu
  exact .ite hu.refuse hu.demandPulse.finish

theorem Onward.execSpoReset {tag : Fin 64} (hm : [.regs, .pwm, .gl, .safe, .mbx, .out] ⊆ may := by decide) : t.Onward own may (execSpoReset tag t) := by
  refine .mono ?_ hm
  unfold Machine.execSpoReset
  refine .next ?_
  refine .command (.refl _) ?_
  intro u c hu
  extract_lets +onlyGivenNames os u'
  have hu' : t.Moves own [.regs, .pwm, .gl, .safe, .mbx, .out] u' := .foldl (fun _ _ hv => hv.soutClear) hu
  exact .ite hu.refuse (.ite hu.refuse (.finish (.foldl (fun _ _ hv => hv.spoClear) hu')))

theorem Moves.lawStep (h : s.Moves own may t) {s0 : State} {k b : Nat} {fb : Bool} {i : Nat} (hm : (.law :: .pan :: logParts) ⊆ may := by decide) :
    s.Moves own may (s0.lawStep k b fb t i) := by
  refine h.andThen hm ?_
  unfold State.lawStep
  extract_lets +onlyGivenNames c o src l src' t1 t2 t3
  have ht : t.Moves own (.law :: .pan :: logParts) t := .refl t
  have ht2 : t.Moves own (.law :: .pan :: logParts) t2 := .foldl (fun _ _ hv => hv.panWrite) ht.set_law
  have ht3 : t.Moves own (.law :: .pan :: logParts) t3 := .foldl (fun _ _ hv => hv.logRec) ht2
  exact .foldl (fun _ _ hv => hv.logRec) ht3

theorem Moves.lawBind (h : s.Moves own may t) {s0 : State} {k b : Nat} (hm : (.law :: .pan :: .ket :: logParts) ⊆ may := by decide) :
    s.Moves own may (s0.lawBind k t b) := by
  refine h.andThen hm ?_
  unfold State.lawBind
  extract_lets +onlyGivenNames x
  refine .ite ?_ (.refl _)
  extract_lets +onlyGivenNames ids t1 u cyc
  clear_value ids cyc
  have ht1 : t.Moves own (.law :: .pan :: .ket :: logParts) t1 := .ketMod (.refl _) fun _ z => z.modBank _
  clear_value t1
  have hu : t.Moves own (.law :: .pan :: .ket :: logParts) u := .foldl (fun _ _ hv => hv.lawStep) ht1
  clear_value u
  exact hu.ketMod fun _ z => z.modRun z.2

theorem Moves.laws (h : s.Moves own may t) {k : Nat} (hm : (.pan :: .ket :: .law :: .freeN :: logParts) ⊆ may := by decide) :
    s.Moves own may (t.laws k) := by
  refine h.andThen hm ?_
  unfold State.laws
  have ht : t.Moves own (.pan :: .ket :: .law :: .freeN :: logParts) t := .refl t
  refine .ite ?_ ?_
  · exact .refl _
  · extract_lets +onlyGivenNames t'
    have ht' : t.Moves own (.pan :: .ket :: .law :: .freeN :: logParts) t' := .foldl (fun _ _ hv => hv.lawBind) (.refl _)
    exact ht'.set_freeN

theorem Moves.declPut (h : s.Moves own may t) {e : CfgEntry} (hm : [.cmp] ⊆ may := by decide) :
    s.Moves own may (t.declPut e) := by
  refine h.andThen hm ?_
  unfold State.declPut
  extract_lets +onlyGivenNames n
  refine .ite ?_ ?_
  · exact .refl _
  · split
    · exact .ite (.set_cmp (.refl _)) (.refl _)
    · exact .set_cmp (.refl _)

theorem Moves.reqPut (h : s.Moves own may t) {n : Nat} {attr : Bool} {v : Word} (hm : [.spareReqs] ⊆ may := by decide) :
    s.Moves own may (t.reqPut n attr v) := by
  refine h.andThen hm ?_
  unfold State.reqPut
  extract_lets +onlyGivenNames d
  exact .set_spareReqs (.refl _)

theorem Moves.blockPut (h : s.Moves own may t) {e : CfgEntry} (hm : (.gt :: .deferred :: .spareReqs :: .pan :: .tim :: .ana :: .cmp :: .pwm :: .gl :: .safe :: .pwr :: .ket :: .net :: .mtr :: .hop :: logParts) ⊆ may := by decide) :
    s.Moves own may (t.blockPut e) := by
  refine h.andThen hm ?_
  unfold State.blockPut
  extract_lets +onlyGivenNames a
  exact .ite (.refl _) (.ite (.reqPut (.refl _)) (.ite (.setReg (.refl _)) (.blockWrite (.refl _))))

theorem Moves.lawNew (h : s.Moves own may t) {es : List CfgEntry} (hm : [.law] ⊆ may := by decide) :
    s.Moves own may (t.lawNew es) := by
  refine h.andThen hm ?_
  unfold State.lawNew
  refine .foldl (fun v k hv => ?_) (.refl _)
  split
  · exact hv
  · extract_lets +onlyGivenNames l n
    exact .ite hv.set_law (.ite hv.set_law hv)

theorem Moves.lawFieldPut (h : s.Moves own may t) {e : CfgEntry} (hm : [.law] ⊆ may := by decide) :
    s.Moves own may (t.lawFieldPut e) := by
  refine h.andThen hm ?_
  unfold State.lawFieldPut
  exact .ite (.refl _) (.set_law (.refl _))

theorem Moves.lawLeg (h : s.Moves own may t) {g : Nat} (hm : [.regs] ⊆ may := by decide) :
    s.Moves own may (t.lawLeg g) := by
  refine h.andThen hm ?_
  unfold State.lawLeg
  refine .ite ?_ ?_
  · exact .refl _
  · extract_lets +onlyGivenNames a
    exact .setFld (.setFld (.setFld (.setReg (.refl _))))

theorem Moves.lawCompose (h : s.Moves own may t) (hm : [.ket, .freeN] ⊆ may := by decide) : s.Moves own may t.lawCompose := by
  refine h.andThen hm ?_
  unfold State.lawCompose
  refine .set_freeN (.foldl (fun _ _ hv => hv.ketMod fun x z => ?_) (.refl _))
  dsimp only
  split
  · exact ⟨by simpa using z.1, z.2⟩
  · exact ⟨by simpa using z.1, z.2⟩

theorem Moves.marksFrom (h : s.Moves own may t) {old : State} (hm : [.ket] ⊆ may := by decide) : s.Moves own may (t.marksFrom old) := by
  refine h.andThen hm ?_
  unfold State.marksFrom
  exact .foldl (fun _ _ hv => hv.ketMod fun _ z => ⟨by simpa using z.1, z.2⟩) (.refl _)

theorem Moves.cfgApply (h : s.Moves own may t) {es : List CfgEntry} (hm : (.gt :: .deferred :: .spareReqs :: .pan :: .tim :: .ana :: .cmp :: .pwm :: .gl :: .safe :: .pwr :: .ket :: .net :: .mtr :: .hop :: .law :: .freeN :: logParts) ⊆ may := by decide) :
    s.Moves own may (t.cfgApply es) := by
  refine h.andThen hm ?_
  unfold State.cfgApply
  have ht : t.Moves own (.gt :: .deferred :: .spareReqs :: .pan :: .tim :: .ana :: .cmp :: .pwm :: .gl :: .safe :: .pwr :: .ket :: .net :: .mtr :: .hop :: .law :: .freeN :: logParts) t := .refl t
  extract_lets +onlyGivenNames decl t' u src v
  have ht' : t.Moves own (.gt :: .deferred :: .spareReqs :: .pan :: .tim :: .ana :: .cmp :: .pwm :: .gl :: .safe :: .pwr :: .ket :: .net :: .mtr :: .hop :: .law :: .freeN :: logParts) t' := .lawNew (.marksFrom (.foldl (fun _ k hv => hv.blockPut) (.foldl (fun _ _ hv => hv.declPut) (.refl _))))
  have hu : t.Moves own (.gt :: .deferred :: .spareReqs :: .pan :: .tim :: .ana :: .cmp :: .pwm :: .gl :: .safe :: .pwr :: .ket :: .net :: .mtr :: .hop :: .law :: .freeN :: logParts) u := .foldl (fun _ _ hv => hv.lawFieldPut) ht'
  have hv : t.Moves own (.gt :: .deferred :: .spareReqs :: .pan :: .tim :: .ana :: .cmp :: .pwm :: .gl :: .safe :: .pwr :: .ket :: .net :: .mtr :: .hop :: .law :: .freeN :: logParts) v := hu.set_law
  exact .ite hv (.lawCompose (.foldl (fun _ _ hv' => hv'.lawLeg) hv))

theorem Onward.execCfgLoad {tag : Fin 64} {dma : List Byte} (hm : (.gt :: .deferred :: .spareReqs :: .pan :: .tim :: .ana :: .cmp :: .pwm :: .gl :: .safe :: .pwr :: .ket :: .net :: .mtr :: .hop :: .law :: .fw :: .freeN :: logParts) ⊆ may := by decide) : t.Onward own may (execCfgLoad tag dma t) := by
  refine .mono ?_ hm
  unfold Machine.execCfgLoad
  refine .next ?_
  refine .command (.refl _) ?_
  intro u c hu
  extract_lets +onlyGivenNames bs es
  refine .ite ?_ ?_
  · exact hu.finish
  · refine .ite ?_ ?_
    · exact hu.finish
    · split
      · exact hu.finish
      · exact hu.spareFull.finish
      · exact hu.logRec.finish
      · exact hu.cfgApply.allocate.storeDue.finish

theorem Onward.execStoreRewriteComplete (hm : (.fw :: logParts) ⊆ may := by decide) : t.Onward own may (execStoreRewriteComplete t) := by
  refine .mono ?_ hm
  unfold Machine.execStoreRewriteComplete
  refine .next ?_
  refine .ite ?_ ?_
  · exact .refl _
  · extract_lets +onlyGivenNames cur i c
    exact .logRec (.set_fw (.refl _))

theorem Moves.commitWrite (h : s.Moves own may t) {slot : Nat} (hm : [.fw] ⊆ may := by decide) :
    s.Moves own may (t.commitWrite slot) := by
  refine h.andThen hm ?_
  unfold State.commitWrite
  extract_lets +onlyGivenNames old f r i
  exact .set_fw (.refl _)

theorem Moves.slotPut (h : s.Moves own may t) {i : Nat} {f : FlashSlot} (hm : [.fw] ⊆ may := by decide) :
    s.Moves own may (t.slotPut i f) := by
  refine h.andThen hm ?_
  unfold State.slotPut
  exact .set_fw (.refl _)

theorem Onward.execFwStage {tag : Fin 64} {dma : List Byte} (hm : [.regs, .fw, .mbx, .out] ⊆ may := by decide) : t.Onward own may (execFwStage tag dma t) := by
  refine .mono ?_ hm
  unfold Machine.execFwStage
  refine .next ?_
  refine .command (.refl _) ?_
  intro u c hu
  extract_lets +onlyGivenNames i have_
  refine .ite ?_ ?_
  · exact hu.finish
  · refine .ite ?_ ?_
    · exact hu.refuse
    · refine .ite ?_ ?_
      · exact hu.finish
      · refine .ite ?_ ?_
        · exact hu.refuse
        · extract_lets +onlyGivenNames bs
          refine .ite ?_ ?_
          · exact hu.slotPut.finish
          · extract_lets +onlyGivenNames r u'
            have hu' : t.Moves own [.regs, .fw, .mbx, .out] u' := hu.slotPut
            exact .ite hu'.finish hu'.finish

theorem Onward.execFwActivate {tag : Fin 64} (hm : [.regs, .sup, .mbx, .out] ⊆ may := by decide) : t.Onward own may (execFwActivate tag t) := by
  refine .mono ?_ hm
  unfold Machine.execFwActivate
  refine .next ?_
  refine .command (.refl _) ?_
  intro u c hu
  exact .ite hu.refuse (.ite hu.finish hu.supMod)

theorem Onward.execFwCommit {tag : Fin 64} (hm : (.dev :: .deferred :: .spareReqs :: .pan :: .tim :: .ana :: .cmp :: .pwm :: .gl :: .safe :: .pwr :: .ket :: .net :: .mtr :: .hop :: .law :: .sup :: .fw :: .pin :: logParts) ⊆ may := by decide) : t.Onward own may (execFwCommit tag t) := by
  refine .mono ?_ hm
  unfold Machine.execFwCommit
  refine .next ?_
  refine .command (.refl _) ?_
  intro u c hu
  extract_lets +onlyGivenNames i raise sec
  refine .ite ?_ ?_
  · exact hu.refuse
  · extract_lets +onlyGivenNames u' src v w
    have hu' : t.Moves own (.dev :: .deferred :: .spareReqs :: .pan :: .tim :: .ana :: .cmp :: .pwm :: .gl :: .safe :: .pwr :: .ket :: .net :: .mtr :: .hop :: .law :: .sup :: .fw :: .pin :: logParts) u' := hu.commitWrite
    have hv : t.Moves own (.dev :: .deferred :: .spareReqs :: .pan :: .tim :: .ana :: .cmp :: .pwm :: .gl :: .safe :: .pwr :: .ket :: .net :: .mtr :: .hop :: .law :: .sup :: .fw :: .pin :: logParts) v := .ite (.logRec (.set_fw hu' (fun z => by simpa [BootState.Sized, Tab.mod] using z))) hu'
    have hw : t.Moves own (.dev :: .deferred :: .spareReqs :: .pan :: .tim :: .ana :: .cmp :: .pwm :: .gl :: .safe :: .pwr :: .ket :: .net :: .mtr :: .hop :: .law :: .sup :: .fw :: .pin :: logParts) w := hv.finish
    exact .ite hw.deviceReset hw

theorem Onward.execIdentify {tag : Fin 64} (hm : [.regs, .mbx, .out] ⊆ may := by decide) : t.Onward own may (execIdentify tag t) := by
  refine .mono ?_ hm
  unfold Machine.execIdentify
  refine .next ?_
  refine .command (.refl _) ?_
  intro u c hu
  exact .ite hu.refuse hu.finishData

theorem Onward.execStatus {tag : Fin 64} (hm : [.regs, .mbx, .freeN, .out] ⊆ may := by decide) : t.Onward own may (execStatus tag t) := by
  refine .mono ?_ hm
  unfold Machine.execStatus
  refine .next ?_
  refine .command (.refl _) ?_
  intro u c hu
  extract_lets +onlyGivenNames d r
  exact .finish (.ite hu hu.freeStep)

theorem Moves.askRun (h : s.Moves own may t) {tag : Nat} (ho : .dev ∈ own)
    (hm : (.dev :: .tim :: .ana :: .pwm :: .gl :: .pwr :: .ket :: .law :: logParts) ⊆ may := by decide) : s.Moves own may (t.askRun tag) := by
  refine h.andThen hm ?_
  unfold State.askRun
  refine .ite (.finish (.refl _)) ?_
  split
  · exact .finish (.refl _)
  · exact .toRun (.refl _) ho

theorem Onward.execState {tag : Fin 64} (ho : .dev ∈ own) (hm : (.dev :: .deferred :: .spareReqs :: .pan :: .tim :: .ana :: .cmp :: .pwm :: .gl :: .safe ::
    .pwr :: .ket :: .net :: .mtr :: .hop :: .law :: .sup :: .pin :: logParts) ⊆ may := by decide) : t.Onward own may (execState tag t) := by
  refine .mono (.next (.command (.refl _) ?_)) hm
  intro u c hu
  refine .ite hu.refuse (.ite hu.finish (.ite (.askRun hu ho) ?_))
  exact .ite (.ite hu.leaveRun.leaveCheck hu.finish) (.ite hu.leaveRun.leaveCheck hu.finish.toWatch)

theorem Onward.execTimeSet {tag : Fin 64} (hm : [.regs, .tim, .mbx, .out] ⊆ may := by decide) : t.Onward own may (execTimeSet tag t) := by
  refine .mono ?_ hm
  unfold Machine.execTimeSet
  refine .next ?_
  refine .command (.refl _) ?_
  intro u c hu
  extract_lets +onlyGivenNames sec
  refine .ite ?_ ?_
  · exact hu.refuse
  · refine .ite ?_ ?_
    · exact hu.refuse
    · refine .ite ?_ ?_
      · exact hu.finish
      · extract_lets +onlyGivenNames o
        exact hu.set_tim.finish

theorem Onward.execSticky {tag : Fin 64} (hm : logParts ⊆ may := by decide) : t.Onward own may (execSticky tag t) := by
  refine .mono ?_ hm
  unfold Machine.execSticky
  refine .next ?_
  refine .command (.refl _) ?_
  intro u c hu
  extract_lets +onlyGivenNames u'
  have hu' : t.Moves own logParts u' := .foldl (fun _ _ hv => hv.clearSum) hu
  exact hu'.finishData

theorem Onward.execLogRead {tag : Fin 64} (hm : (.pwr :: .net :: logParts) ⊆ may := by decide) : t.Onward own may (execLogRead tag t) := by
  refine .mono (.next (.command (.refl _) ?_)) hm
  intro u c hu
  exact .ite hu.refuse (.finishData (.readChecks hu))

theorem Onward.execCal {tag : Fin 64} (hm : [.regs, .ana, .mbx, .out] ⊆ may := by decide) : t.Onward own may (execCal tag t) := by
  refine .mono ?_ hm
  unfold Machine.execCal
  refine .next ?_
  refine .command (.refl _) ?_
  intro u c hu
  extract_lets +onlyGivenNames cs u'
  have hu' : t.Moves own [.regs, .ana, .mbx, .out] u' := .foldl (fun _ _ hv => hv.calQueue) hu
  exact .ite hu.finish (.ite hu'.finish hu'.set_mbx)

theorem Moves.tdacFail (h : s.Moves own may t) {c : Nat} {pin : Option (Fin 12)} (hm : logParts ⊆ may := by decide) :
    s.Moves own may (t.tdacFail c pin) := by
  refine h.andThen hm ?_
  unfold State.tdacFail
  exact .logRec (.stick (.refl _))

theorem Onward.execRecover {tag : Fin 64} {tests : List TdacTest} (hm : logParts ⊆ may := by decide) : t.Onward own may (execRecover tag tests t) := by
  refine .mono ?_ hm
  unfold Machine.execRecover
  refine .next ?_
  refine .command (.refl _) ?_
  intro u c hu
  extract_lets +onlyGivenNames cs coreBad bad u' pins
  have hu' : t.Moves own logParts u' := .foldl (fun _ _ hv => hv.tdacFail) hu
  exact .finish (.foldl (fun _ _ hv => hv.tdacFail) hu')

theorem Onward.execDiag {tag : Fin 64} {readings : List (Int × Int)} (hm : (.ana :: .cmp :: .pwm :: .gl :: .safe :: .pwr :: logParts) ⊆ may := by decide) : t.Onward own may (execDiag tag readings t) := by
  refine .mono ?_ hm
  unfold Machine.execDiag
  refine .next ?_
  refine .command (.refl _) ?_
  intro u c hu
  extract_lets +onlyGivenNames es bad
  exact .finish (.foldl (fun _ k hv => hv.cmpCheck) hu)

theorem Moves.bootImage (h : s.Moves own may t) (hm : (.fw :: logParts) ⊆ may := by decide) :
    s.Moves own may (t.bootImage) := by
  refine h.andThen hm ?_
  unfold State.bootImage
  extract_lets +onlyGivenNames r refused
  split
  · exact .stickIf (.set_fw (.refl _))
  · extract_lets +onlyGivenNames a
    exact .stick (.set_fw (.refl _))

theorem Moves.romTests (h : s.Moves own may t) {t' : BootTests} (hm : (.sup :: logParts) ⊆ may := by decide) :
    s.Moves own may (t.romTests t') := by
  refine h.andThen hm ?_
  unfold State.romTests
  exact .ite (.stick (.supFail (.refl _))) (.ite (.logRec (.refl _)) (.refl _))

theorem Moves.stewardTests (h : s.Moves own may t) {t' : BootTests} (hm : (.ket :: logParts) ⊆ may := by decide) :
    s.Moves own may (t.stewardTests t') := by
  refine h.andThen hm ?_
  unfold State.stewardTests
  extract_lets +onlyGivenNames bad src s1
  have hs1 : t.Moves own (.ket :: logParts) s1 := .stickIf (.set_ket (.refl _) (fun z => by simpa [KetState.Sized, Tab.mod] using z))
  exact .foldl (fun _ _ hv => hv.tdacFail) hs1

theorem Moves.skipped (h : s.Moves own may t) {n : Nat} (hm : logParts ⊆ may := by decide) :
    s.Moves own may (t.skipped n) := by
  refine h.andThen hm ?_
  unfold State.skipped
  exact .stickIf (.foldl (fun _ _ hv => hv.logRec) (.refl _))

theorem Moves.banksPut (h : s.Moves own may t) {c : StoreCopy} (hm : [.regs, .ket] ⊆ may := by decide) : s.Moves own may (t.banksPut c) := by
  refine h.andThen hm ?_
  unfold State.banksPut
  refine .foldl (fun v b hv => ?_) (.refl _)
  extract_lets +onlyGivenNames bs
  clear_value bs
  refine .showBudget (.ketMod hv ?_)
  intro x z
  refine ⟨?_, z.2⟩
  dsimp only
  split
  · assumption
  · exact z.1

theorem Moves.restore (h : s.Moves own may t) {c : StoreCopy} (hm : (.gt :: .deferred :: .spareReqs :: .pan :: .tim :: .ana :: .cmp :: .pwm :: .gl :: .safe :: .pwr ::
    .ket :: .net :: .mtr :: .hop :: .law :: .freeN :: logParts) ⊆ may := by decide) : s.Moves own may (t.restore c) := by
  refine h.andThen hm ?_
  unfold State.restore
  extract_lets +onlyGivenNames r s1 bad files src s2 s3
  have hs1 : t.Moves own (.gt :: .deferred :: .spareReqs :: .pan :: .tim :: .ana :: .cmp :: .pwm :: .gl :: .safe :: .pwr :: .ket :: .net :: .mtr :: .hop ::
    .law :: .freeN :: logParts) s1 := .skipped (.cfgApply (.refl _))
  have hs2 : t.Moves own (.gt :: .deferred :: .spareReqs :: .pan :: .tim :: .ana :: .cmp :: .pwm :: .gl :: .safe :: .pwr :: .ket :: .net :: .mtr :: .hop ::
      .law :: .freeN :: logParts) s2 := by
    refine .allocate (.skipped ?_)
    split
    case isTrue hlen => exact .set_net hs1 fun z => ⟨by simpa [files] using hlen, z.2⟩
    case isFalse => exact hs1
  exact .ite hs2.banksPut.safePend hs2.banksPut

theorem Moves.latchPreset (h : s.Moves own may t) {m' : Nat} (hm : (.mtr :: logParts) ⊆ may := by decide) :
    s.Moves own may (t.latchPreset m') := by
  refine h.andThen hm ?_
  unfold State.latchPreset
  split
  · exact .refl _
  · extract_lets +onlyGivenNames ws w t'
    have ht' : t.Moves own (.mtr :: logParts) t' := .mtrMod (.refl _)
    exact ht'.mtrView.stick.logRec

theorem Moves.bootSteward (h : s.Moves own may t) {t' : BootTests} (hm : (.gt :: .deferred :: .spareReqs :: .pan :: .tim :: .ana :: .cmp :: .pwm :: .gl :: .safe :: .pwr :: .ket :: .net :: .mtr :: .hop :: .law :: .freeN :: logParts) ⊆ may := by decide) :
    s.Moves own may (t.bootSteward t') := by
  refine h.andThen hm ?_
  unfold State.bootSteward
  extract_lets +onlyGivenNames s1 s2 s3 s4
  have hs1 : t.Moves own (.gt :: .deferred :: .spareReqs :: .pan :: .tim :: .ana :: .cmp :: .pwm :: .gl :: .safe :: .pwr :: .ket :: .net :: .mtr :: .hop :: .law :: .freeN :: logParts) s1 := .stewardTests (.refl _)
  have hs2 : t.Moves own (.gt :: .deferred :: .spareReqs :: .pan :: .tim :: .ana :: .cmp :: .pwm :: .gl :: .safe :: .pwr :: .ket :: .net :: .mtr :: .hop :: .law :: .freeN :: logParts) s2 := by
    dsimp only [s2]
    split
    · exact hs1.restore
    · exact hs1.stick
  have hs3 : t.Moves own (.gt :: .deferred :: .spareReqs :: .pan :: .tim :: .ana :: .cmp :: .pwm :: .gl :: .safe :: .pwr :: .ket :: .net :: .mtr :: .hop :: .law :: .freeN :: logParts) s3 := .foldl (fun _ _ hv => hv.latchPreset) hs2
  have hs4 : t.Moves own (.gt :: .deferred :: .spareReqs :: .pan :: .tim :: .ana :: .cmp :: .pwm :: .gl :: .safe :: .pwr :: .ket :: .net :: .mtr :: .hop :: .law :: .freeN :: logParts) s4 := .foldl (fun _ k hv => hv.retireTake) hs3
  exact .ite hs4 hs4.probeGo

theorem Onward.execBoot {t' : BootTests} (hm : (.gt :: .deferred :: .spareReqs :: .pan :: .tim :: .ana :: .cmp :: .pwm :: .gl :: .safe :: .pwr :: .ket :: .net :: .mtr :: .hop :: .law :: .sup :: .fw :: .freeN :: logParts) ⊆ may := by decide) : t.Onward own may (execBoot t' t) := by
  refine .mono ?_ hm
  unfold Machine.execBoot
  refine .next ?_
  refine .ite ?_ ?_
  · exact .refl _
  · extract_lets +onlyGivenNames src s1 s2
    have hs1 : t.Moves own (.gt :: .deferred :: .spareReqs :: .pan :: .tim :: .ana :: .cmp :: .pwm :: .gl :: .safe :: .pwr :: .ket :: .net :: .mtr :: .hop :: .law :: .sup :: .fw :: .freeN :: logParts) s1 := .setFld (.set_mbx (.refl _) (fun z => by simpa [MbxState.Sized, Tab.mod] using z))
    have hs2 : t.Moves own (.gt :: .deferred :: .spareReqs :: .pan :: .tim :: .ana :: .cmp :: .pwm :: .gl :: .safe :: .pwr :: .ket :: .net :: .mtr :: .hop :: .law :: .sup :: .fw :: .freeN :: logParts) s2 := hs1.stickIf.romTests
    refine .ite ?_ ?_
    · exact hs2
    · extract_lets +onlyGivenNames s3
      have hs3 : t.Moves own (.gt :: .deferred :: .spareReqs :: .pan :: .tim :: .ana :: .cmp :: .pwm :: .gl :: .safe :: .pwr :: .ket :: .net :: .mtr :: .hop :: .law :: .sup :: .fw :: .freeN :: logParts) s3 := hs2.stickIf.bootImage
      exact .ite hs3 hs3.bootSteward

theorem Moves.bootRecord (h : s.Moves own may t) (hm : logParts ⊆ may := by decide) :
    s.Moves own may (t.bootRecord) := by
  refine h.andThen hm ?_
  unfold State.bootRecord
  extract_lets +onlyGivenNames f seq
  exact .logRec (.refl _)

theorem Onward.execBootComplete (hm : (.fw :: logParts) ⊆ may := by decide) : t.Onward own may (execBootComplete t) := by
  refine .mono ?_ hm
  unfold Machine.execBootComplete
  have ht : t.Moves own (.fw :: logParts) t := .refl t
  refine .next ?_
  refine .ite ?_ ?_
  · exact .refl _
  · extract_lets +onlyGivenNames src t'
    have ht' : t.Moves own (.fw :: logParts) t' := .set_fw (.refl _) (fun z => by simpa [BootState.Sized, Tab.mod] using z)
    exact ht'.setFld.bootRecord

theorem Moves.anaTaken (h : s.Moves own may t) (hm : [.ana] ⊆ may := by decide) :
    s.Moves own may (t.anaTaken) := by
  refine h.andThen hm ?_
  unfold State.anaTaken
  exact .set_ana (.refl _)

theorem Moves.swapBanks (h : s.Moves own may t) {c : Nat} (hm : [.pan] ⊆ may := by decide) :
    s.Moves own may (t.swapBanks c) := by
  refine h.andThen hm ?_
  unfold State.swapBanks
  extract_lets +onlyGivenNames ws old
  exact .set_pan (.refl _)

theorem Moves.copySet (h : s.Moves own may t) {g : Nat} {c : Nat} (hm : (.pwm :: logParts) ⊆ may := by decide) :
    s.Moves own may (t.copySet g c) := by
  refine h.andThen hm ?_
  unfold State.copySet
  refine .ite ?_ ?_
  · exact .refl _
  · extract_lets +onlyGivenNames l base lim fr all none_ first n stale t'
    have ht' : t.Moves own (.pwm :: logParts) t' := .lgMod (.refl _)
    exact ht'.stickIf

theorem Moves.settled (h : s.Moves own may t) (hm : (.ana :: .cmp :: .pwm :: .gl :: .safe :: .pwr :: logParts) ⊆ may := by decide) :
    s.Moves own may (t.settled) := by
  refine h.andThen hm ?_
  unfold State.settled
  exact .foldl (fun _ _ hv => .ite hv.cmpMod.cmpRoute hv) (.refl _)

theorem Moves.commitReaders (h : s.Moves own may t) {c : Nat} (hm : (.pan :: .pwm :: .safe :: .ket :: .net :: .mtr :: .freeN :: logParts) ⊆ may := by decide) :
    s.Moves own may (t.commitReaders c) := by
  refine h.andThen hm ?_
  unfold State.commitReaders
  extract_lets +onlyGivenNames s1 s2 s3
  have hs1 : t.Moves own (.pan :: .pwm :: .safe :: .ket :: .net :: .mtr :: .freeN :: logParts) s1 := .ite (.foldl (fun _ _ hv => hv.copySet) (.refl _)) (.refl _)
  have hs2 : t.Moves own (.pan :: .pwm :: .safe :: .ket :: .net :: .mtr :: .freeN :: logParts) s2 := .ite (.foldl (fun _ _ hv => hv.supervise) hs1) hs1
  have hs3 : t.Moves own (.pan :: .pwm :: .safe :: .ket :: .net :: .mtr :: .freeN :: logParts) s3 := .ite hs2.limitEval.gpCompare hs2
  exact hs3.meterCommit.pubFresh

theorem Moves.noteWritten (h : s.Moves own may t) {c : Nat} (hm : [.law] ⊆ may := by decide) :
    s.Moves own may (t.noteWritten c) := by
  refine h.andThen hm ?_
  unfold State.noteWritten
  extract_lets +onlyGivenNames new
  exact .ite (.refl _) (.set_law (.refl _))

theorem Moves.commitNow (h : s.Moves own may t) {c : Nat} (hm : (.pan :: .ana :: .cmp :: .pwm :: .gl :: .safe :: .pwr :: .ket :: .net :: .mtr :: .law :: .freeN :: logParts) ⊆ may := by decide) :
    s.Moves own may (t.commitNow c) := by
  refine h.andThen hm ?_
  unfold State.commitNow
  extract_lets +onlyGivenNames src s1 s2 s3
  have hs1 : t.Moves own (.pan :: .ana :: .cmp :: .pwm :: .gl :: .safe :: .pwr :: .ket :: .net :: .mtr :: .law :: .freeN :: logParts) s1 := .ite (.logRec (.set_pan (.refl _) (fun z => by simpa [Pantry.Sized, Tab.mod] using z))) (.refl _)
  have hs2 : t.Moves own (.pan :: .ana :: .cmp :: .pwm :: .gl :: .safe :: .pwr :: .ket :: .net :: .mtr :: .law :: .freeN :: logParts) s2 := hs1.settled.ketChecks.pubCatchUp
  have hs3 : t.Moves own (.pan :: .ana :: .cmp :: .pwm :: .gl :: .safe :: .pwr :: .ket :: .net :: .mtr :: .law :: .freeN :: logParts) s3 := .ite (.foldl (fun _ k hv => hv.ketShow) hs2) hs2
  exact hs3.noteWritten.swapBanks.anaTaken.commitReaders

theorem Onward.execCommit (hm : (.gt :: .pan :: .ana :: .cmp :: .pwm :: .gl :: .safe :: .pwr :: .ket :: .net :: .mtr :: .law :: .freeN :: logParts) ⊆ may := by decide) : t.Onward own may (execCommit t) := by
  refine .mono ?_ hm
  unfold Machine.execCommit
  exact .next (.ite (.commitNow (.gtTo (.refl _))) (.refl _))

theorem Moves.trimUse (h : s.Moves own may t) (hm : [.ana] ⊆ may := by decide) :
    s.Moves own may (t.trimUse) := by
  refine h.andThen hm ?_
  unfold State.trimUse
  exact .foldl (fun _ _ hv => hv.coreMod) (.refl _)

theorem Moves.shadowCount (h : s.Moves own may t) (hm : [.ket] ⊆ may := by decide) :
    s.Moves own may (t.shadowCount) := by
  refine h.andThen hm ?_
  unfold State.shadowCount
  exact .ite (.set_ket (.refl _)) (.refl _)

theorem Moves.epochBegin (h : s.Moves own may t) {k : Nat} (hm : (.dev :: .deferred :: .spareReqs :: .pan :: .tim :: .ana :: .cmp :: .pwm :: .gl :: .safe :: .pwr :: .ket :: .net :: .mtr :: .hop :: .law :: .sup :: .pin :: .freeN :: logParts) ⊆ may := by decide) :
    s.Moves own may (t.epochBegin k) := by
  refine h.andThen hm ?_
  unfold State.epochBegin
  extract_lets +onlyGivenNames src s1
  have hs1 : t.Moves own (.dev :: .deferred :: .spareReqs :: .pan :: .tim :: .ana :: .cmp :: .pwm :: .gl :: .safe :: .pwr :: .ket :: .net :: .mtr :: .hop :: .law :: .sup :: .pin :: .freeN :: logParts) s1 := .set_tim (.refl _) (fun z => by simpa [TimeState.Sized, Tab.mod] using z)
  refine .ite ?_ ?_
  · exact hs1
  · extract_lets +onlyGivenNames s2
    have hs2 : t.Moves own (.dev :: .deferred :: .spareReqs :: .pan :: .tim :: .ana :: .cmp :: .pwm :: .gl :: .safe :: .pwr :: .ket :: .net :: .mtr :: .hop :: .law :: .sup :: .pin :: .freeN :: logParts) s2 := hs1.slipSchedule.deferredAll.trimUse.adcFire
    exact .leaveCheck (.enterDone (.shadowCount (.laws (.foldl (fun _ _ hv => hv.ketStart) hs2))))

theorem Onward.execEpochBoundary (hm : (.gt :: .dev :: .deferred :: .spareReqs :: .pan :: .tim :: .ana :: .cmp :: .pwm :: .gl :: .safe :: .pwr :: .ket :: .net :: .mtr :: .hop :: .law :: .sup :: .pin :: .freeN :: logParts) ⊆ may := by decide) : t.Onward own may (execEpochBoundary t) := by
  refine .mono ?_ hm
  unfold Machine.execEpochBoundary
  exact .next (.ite (.epochBegin (.gtTo (.refl _))) (.refl _))

theorem Moves.recipeLoad (h : s.Moves own may t) {n : Nat} {bs : List Byte} (hm : (.ket :: logParts) ⊆ may := by decide) :
    s.Moves own may (t.recipeLoad n bs).1 := by
  refine h.andThen hm ?_
  have hbank (f : Binding → KBank → KBank) :
      t.Moves own (.ket :: logParts) (t.ketMod n (fun x => { x with banks := x.banks.mod (1 - x.act) (f x) })) :=
    .ketMod (.refl _) fun _ z => ⟨by simpa [Tab.mod] using z.1, z.2⟩
  unfold State.recipeLoad
  split
  · exact .showBudget (hbank _)
  · exact .logRec (hbank _)

theorem Onward.execRecipeLoad {tag : Fin 64} {dma : List Byte} (hm : (.ket :: .fw :: logParts) ⊆ may := by decide) :
    t.Onward own may (execRecipeLoad tag dma t) := by
  refine .mono (.next (.command (.refl _) ?_)) hm
  intro u c hu
  exact .ite (.finish (.storeDue (.recipeLoad hu))) (.finish (.recipeLoad hu))

theorem Onward.execRecipeSwap {tag : Fin 64} (hm : [.regs, .ket, .mbx, .out] ⊆ may := by decide) : t.Onward own may (execRecipeSwap tag t) := by
  refine .mono ?_ hm
  unfold Machine.execRecipeSwap
  refine .next ?_
  refine .command (.refl _) ?_
  intro u c hu
  extract_lets +onlyGivenNames b given e
  refine .ite ?_ ?_
  · exact hu.refuse
  · refine .ite ?_ ?_
    · exact hu.refuse
    · refine .ite ?_ ?_
      · exact hu.refuse
      · refine .ite ?_ ?_
        · exact hu.refuse
        · refine .ite ?_ ?_
          · exact hu.finish
          · refine .ite ?_ ?_
            · exact hu.refuse
            · extract_lets +onlyGivenNames u'
              have hu' : t.Moves own [.regs, .ket, .mbx, .out] u' := hu.setRegN.setFld
              exact hu'.ketMod

theorem Moves.modeAsk (h : s.Moves own may t) {tag : Nat} {c : MCmd} {resume : Bool} (hm : [.regs, .ket, .mbx, .out] ⊆ may := by decide) :
    s.Moves own may (t.modeAsk tag c resume) := by
  refine h.andThen hm ?_
  unfold State.modeAsk
  extract_lets +onlyGivenNames b
  exact .ite (.refuse (.refl _)) (.ite (.refuse (.refl _)) (.ite (.finish (.refl _)) (.ketMod (.refl _))))

theorem Onward.execEngFallback {tag : Fin 64} (hm : [.regs, .ket, .mbx, .out] ⊆ may := by decide) : t.Onward own may (execEngFallback tag t) := by
  refine .mono ?_ hm
  unfold Machine.execEngFallback
  refine .next ?_
  refine .command (.refl _) ?_
  intro u c hu
  exact hu.modeAsk

theorem Onward.execEngResume {tag : Fin 64} (hm : [.regs, .ket, .mbx, .out] ⊆ may := by decide) : t.Onward own may (execEngResume tag t) := by
  refine .mono ?_ hm
  unfold Machine.execEngResume
  refine .next ?_
  refine .command (.refl _) ?_
  intro u c hu
  exact hu.modeAsk

theorem Onward.execEngDump {tag : Fin 64} (hm : [.regs, .mbx, .out] ⊆ may := by decide) : t.Onward own may (execEngDump tag t) := by
  refine .mono ?_ hm
  unfold Machine.execEngDump
  refine .next ?_
  refine .command (.refl _) ?_
  intro u c hu
  extract_lets +onlyGivenNames b n
  exact .ite hu.refuse (.ite hu.refuse (.ite hu.refuse (.ite hu.refuse hu.finishData)))

theorem Onward.execExpKeyprog {tag : Fin 64} {dma : List Byte} (hm : [.regs, .mbx, .out] ⊆ may := by decide) : t.Onward own may (execExpKeyprog tag dma t) := by
  refine .mono ?_ hm
  unfold Machine.execExpKeyprog
  refine .next ?_
  refine .command (.refl _) ?_
  intro u c hu
  extract_lets +onlyGivenNames k
  exact .ite hu.refuse (.ite hu.refuse (.ite hu.refuse hu.set_mbx.finish))

theorem Onward.execExpOpen {tag : Fin 64} (hm : [.regs, .mbx, .freeN, .out] ⊆ may := by decide) : t.Onward own may (execExpOpen tag t) := by
  refine .mono (.next (.command (.refl _) ?_)) hm
  intro u c hu
  refine .ite hu.refuse (.ite hu.refuse (.ite hu.finish (.ite hu.finish (.ite hu.refuse ?_))))
  extract_lets bs ch
  have hx : t.Moves own [.regs, .mbx, .freeN, .out]
      { u with freeN := u.freeN + 4, mbx := { u.mbx with chal := some ch } } :=
    hu.set_parts (m := [.freeN, .mbx]) (by simp [State.keeps]) id
      (fun hz => { hz with mbx := { hz.mbx with } }) rfl fun h => ⟨h, rfl⟩
  exact hx.finishData

theorem Moves.authFail (h : s.Moves own may t) (hm : logParts ⊆ may := by decide) :
    s.Moves own may (t.authFail) := by
  refine h.andThen hm ?_
  unfold State.authFail
  have ht : t.Moves own logParts t := .refl t
  extract_lets +onlyGivenNames t' n
  have ht' : t.Moves own logParts t' := .stick (.bump (.refl _))
  exact ht'.set_mbx

theorem Moves.sessionOpen (h : s.Moves own may t) {c : MCmd} (hm : (.freeN :: logParts) ⊆ may := by decide) :
    s.Moves own may (t.sessionOpen c) := by
  refine h.andThen hm ?_
  unfold State.sessionOpen
  have ht : t.Moves own (.freeN :: logParts) t := .refl t
  extract_lets +onlyGivenNames f id_ w t'
  have ht' : t.Moves own (.freeN :: logParts) t' := .setFld (.setReg (.freeStep (.refl _)))
  exact ht'.set_mbx.logRec

theorem Onward.execExpAuth {tag : Fin 64} {dma : List Byte} (hm : (.freeN :: logParts) ⊆ may := by decide) : t.Onward own may (execExpAuth tag dma t) := by
  refine .mono ?_ hm
  unfold Machine.execExpAuth
  refine .next ?_
  refine .command (.refl _) ?_
  intro u c hu
  extract_lets +onlyGivenNames src u'
  have hu' : t.Moves own (.freeN :: logParts) u' := .set_mbx hu (fun z => by simpa [MbxState.Sized, Tab.mod] using z)
  refine .ite ?_ ?_
  · exact hu.refuse
  · refine .ite ?_ ?_
    · exact hu'.authFail.finish
    · refine .ite ?_ ?_
      · exact hu'.refuse
      · extract_lets +onlyGivenNames v
        have hv : t.Moves own (.freeN :: logParts) v := hu'.sessionOpen
        exact hv.finish

theorem Onward.execExpClose {tag : Fin 64} (hm : logParts ⊆ may := by decide) : t.Onward own may (execExpClose tag t) := by
  refine .mono ?_ hm
  unfold Machine.execExpClose
  refine .next ?_
  refine .command (.refl _) ?_
  intro u c hu
  exact .ite hu.closeSession.finish hu.finish

theorem Moves.holdAll (h : s.Moves own may t) {c : MCmd} {tag : Option Nat} {dest : Nat} {ws : List (Nat × Word)} (hm : [.sup] ⊆ may := by decide) :
    s.Moves own may (t.holdAll c tag dest ws) := by
  refine h.andThen hm ?_
  unfold State.holdAll
  exact .foldl (fun _ _ hv => hv.hold) (.refl _)

theorem Onward.execLawParam {tag : Fin 64} (hm : [.regs, .sup, .mbx, .out] ⊆ may := by decide) : t.Onward own may (execLawParam tag t) := by
  refine .mono ?_ hm
  unfold Machine.execLawParam
  refine .next ?_
  refine .command (.refl _) ?_
  intro u c hu
  extract_lets +onlyGivenNames i
  split
  · exact hu.refuse
  · split
    · exact hu.refuse
    · refine .ite ?_ ?_
      · exact hu.refuse
      · extract_lets +onlyGivenNames dest ws
        exact .ite hu.holdAll.finish hu.holdAll

theorem Onward.execPanWrite {tag : Fin 64} {dma : List Byte} (hm : [.regs, .sup, .mbx, .out] ⊆ may := by decide) : t.Onward own may (execPanWrite tag dma t) := by
  refine .mono ?_ hm
  unfold Machine.execPanWrite
  refine .next ?_
  refine .command (.refl _) ?_
  intro u c hu
  extract_lets +onlyGivenNames bs n ws
  exact .ite hu.refuse (.ite hu.refuse (.ite hu.refuse hu.holdAll))

theorem Moves.shadowPut (h : s.Moves own may t) {g : Nat} {ws : List Word} (hm : [.regs] ⊆ may := by decide) :
    s.Moves own may (t.shadowPut g ws) := by
  refine h.andThen hm ?_
  unfold State.shadowPut
  exact .foldl (fun _ _ hv => hv.setReg) (.refl _)

theorem Onward.execPwmSet {tag : Fin 64} {dma : List Byte} (hm : [.regs, .pwm, .mbx, .out] ⊆ may := by decide) : t.Onward own may (execPwmSet tag dma t) := by
  refine .mono ?_ hm
  unfold Machine.execPwmSet
  refine .next ?_
  refine .command (.refl _) ?_
  intro u c hu
  extract_lets +onlyGivenNames g bs ws
  exact .ite hu.refuse (.ite hu.refuse (.ite hu.refuse hu.shadowPut.setFld.lgMod))

theorem Onward.execTripClear {tag : Fin 64} (hm : [.regs, .pwm, .mbx, .out] ⊆ may := by decide) : t.Onward own may (execTripClear tag t) := by
  refine .mono ?_ hm
  unfold Machine.execTripClear
  refine .next ?_
  refine .command (.refl _) ?_
  intro u c hu
  extract_lets +onlyGivenNames gs
  exact .ite hu.refuse (.ite hu.refuse (.finish (.foldl (fun _ _ hv => hv.tripClear) hu)))

theorem Onward.execGlCal {tag : Fin 64} {trips : List (Nat × Nat)} (hm : [.regs, .fw, .mbx, .out] ⊆ may := by decide) : t.Onward own may (execGlCal tag trips t) := by
  refine .mono ?_ hm
  unfold Machine.execGlCal
  refine .next ?_
  refine .command (.refl _) ?_
  intro u c hu
  refine .ite ?_ ?_
  · exact hu.refuse
  · refine .ite ?_ ?_
    · exact hu.refuse
    · extract_lets +onlyGivenNames u'
      have hu' : t.Moves own [.regs, .fw, .mbx, .out] u' := by
        refine .foldl (fun v k hv => ?_) hu
        extract_lets +onlyGivenNames m
        exact hv.setRegN
      exact hu'.storeDue.finish

theorem Onward.execGlClear {tag : Fin 64} (hm : [.regs, .pwm, .gl, .mbx, .out] ⊆ may := by decide) : t.Onward own may (execGlClear tag t) := by
  refine .mono ?_ hm
  unfold Machine.execGlClear
  refine .next ?_
  refine .command (.refl _) ?_
  intro u c hu
  extract_lets +onlyGivenNames g ns qs
  refine .ite ?_ ?_
  · exact hu.refuse
  · exact .ite hu.refuse (.finish (.foldl (fun _ _ hv => hv.shootClear) (.foldl (fun _ _ hv => hv.latchClear) hu)))

theorem Onward.execLprbRun {tag : Fin 64} (hm : [.regs, .gl, .mbx, .out] ⊆ may := by decide) : t.Onward own may (execLprbRun tag t) := by
  refine .mono ?_ hm
  unfold Machine.execLprbRun
  refine .next ?_
  refine .command (.refl _) ?_
  intro u c hu
  refine .ite ?_ ?_
  · exact hu.refuse
  · refine .ite ?_ ?_
    · exact hu.finish
    · extract_lets +onlyGivenNames u' src v
      have hu' : t.Moves own [.regs, .gl, .mbx, .out] u' := hu.setRegN.probeGo
      have hv : t.Moves own [.regs, .gl, .mbx, .out] v := .set_mbx hu' (fun z => by simpa [MbxState.Sized, Tab.mod] using z)
      exact .ite hv hv.probeDone

end Sys2Proof.Machine.State
end

section
/-!
PROOFS. Which parts the Pantry, power and Supervisor instructions move, and the tick.
-/
namespace Sys2Proof.Machine.State

-- A default argument by `decide` waits for every earlier proof, so the proofs here run one at a time.
set_option Elab.async false

variable {own may m : List Part} {s t u : State}

theorem Onward.execPantryWrite {owner : Nat} {slot : Nat} {ord : Nat} {dest : Dest} {val : Word} (hm : (.pan :: logParts) ⊆ may := by decide) : t.Onward own may (execPantryWrite owner slot ord dest val t) := by
  refine .mono ?_ hm
  unfold Machine.execPantryWrite
  refine .next ?_
  split
  · exact .panSample (.refl _)
  · exact .panWrite (.refl _)

theorem Onward.execPantryRead {slot : Nat} {cidx : Nat} (hm : (.pan :: logParts) ⊆ may := by decide) : t.Onward own may (execPantryRead slot cidx t) := by
  refine .mono ?_ hm
  unfold Machine.execPantryRead
  have ht : t.Moves own (.pan :: logParts) t := .refl t
  refine .next ?_
  extract_lets +onlyGivenNames t'
  have ht' : t.Moves own (.pan :: logParts) t' := .staleCheck (.refl _)
  exact ht'.set_out

theorem Onward.execBreachIntervalClose {cause : Fin 6} (hm : (.gt :: .pan :: logParts) ⊆ may := by decide) : t.Onward own may (execBreachIntervalClose cause t) := by
  refine .mono ?_ hm
  unfold Machine.execBreachIntervalClose
  have ht : t.Moves own (.gt :: .pan :: logParts) t := .refl t
  refine .next ?_
  extract_lets +onlyGivenNames b
  refine .ite ?_ ?_
  · exact .refl _
  · extract_lets +onlyGivenNames t'
    have ht' : t.Moves own (.gt :: .pan :: logParts) t' := .gtTo (.refl _)
    exact ht'.set_pan.logRec

theorem Onward.execJtagInstruction {ins : JtagIns} {porstLow : Bool} (hm : [.pin] ⊆ may := by decide) : t.Onward own may (execJtagInstruction ins porstLow t) := by
  refine .mono ?_ hm
  unfold Machine.execJtagInstruction
  exact .next (.set_pin (.refl _))

theorem Onward.execOutputFoldback {pin : OutPin} (hm : [.pin] ⊆ may := by decide) : t.Onward own may (execOutputFoldback pin t) := by
  refine .mono ?_ hm
  unfold Machine.execOutputFoldback
  exact .next (.ite (.refl _) (.set_pin (.refl _)))

theorem Onward.execSafeStartUpTestsDone (hm : [.safe] ⊆ may := by decide) : t.Onward own may (execSafeStartUpTestsDone t) := by
  refine .mono ?_ hm
  unfold Machine.execSafeStartUpTestsDone
  exact .next (.ite (.refl _) (.set_safe (.refl _)))

theorem Onward.execTestEnHigh (hm : (.dev :: .deferred :: .spareReqs :: .pan :: .tim :: .ana :: .cmp :: .pwm :: .gl :: .safe :: .pwr :: .ket :: .net :: .mtr :: .hop :: .law :: .sup :: .fw :: .pin :: logParts) ⊆ may := by decide) : t.Onward own may (execTestEnHigh t) := by
  refine .mono ?_ hm
  unfold Machine.execTestEnHigh
  have ht : t.Moves own (.dev :: .deferred :: .spareReqs :: .pan :: .tim :: .ana :: .cmp :: .pwm :: .gl :: .safe :: .pwr :: .ket :: .net :: .mtr :: .hop :: .law :: .sup :: .fw :: .pin :: logParts) t := .refl t
  refine .next ?_
  extract_lets +onlyGivenNames t'
  have ht' : t.Moves own (.dev :: .deferred :: .spareReqs :: .pan :: .tim :: .ana :: .cmp :: .pwm :: .gl :: .safe :: .pwr :: .ket :: .net :: .mtr :: .hop :: .law :: .sup :: .fw :: .pin :: logParts) t' := .deviceReset (.refl _)
  exact ht'.set_pin

theorem Onward.execMramRecordWrite {out : MramOut} (hm : (.pwr :: logParts) ⊆ may := by decide) : t.Onward own may (execMramRecordWrite out t) := by
  refine .mono ?_ hm
  unfold Machine.execMramRecordWrite
  exact .next (.ite (.refl _) (.ite (.mramPut (.ite (.charge (.refl _)) (.refl _))) (.deferBurst (.refl _))))

theorem Onward.execBeacon (hm : (.gt :: .pwr :: .net :: logParts) ⊆ may := by decide) : t.Onward own may (execBeacon t) := by
  refine .mono ?_ hm
  unfold Machine.execBeacon
  refine .next ?_
  refine .ite ?_ ?_
  · exact .refl _
  · extract_lets +onlyGivenNames t' u
    have ht' : t.Moves own (.gt :: .pwr :: .net :: logParts) t' := .gtTo (.refl _)
    have hu : t.Moves own (.gt :: .pwr :: .net :: logParts) u := ht'.netMod
    exact .ite hu.beaconSend hu.p2Defer.netMod

theorem Onward.execStatusReq {seq : Fin 65536} (hm : (.pwr :: .net :: logParts) ⊆ may := by decide) : t.Onward own may (execStatusReq seq t) := by
  refine .mono ?_ hm
  unfold Machine.execStatusReq
  refine .next ?_
  refine .ite ?_ ?_
  · exact .refl _
  · extract_lets +onlyGivenNames t'
    have ht' : t.Moves own (.pwr :: .net :: logParts) t' := .netMod (.refl _)
    exact ht'.reply

theorem Onward.execLogReq {seq : Fin 65536} {start : Word} {count : Nat} (hm : (.pwr :: .net :: logParts) ⊆ may := by decide) :
    t.Onward own may (execLogReq seq start count t) := by
  refine .mono (.next (.ite (.refl _) ?_)) hm
  extract_lets +onlyGivenNames u
  have hu : t.Moves own (.pwr :: .net :: logParts) u := .netMod (.refl _)
  exact .ite hu.p2Defer (.p2Send (.readChecks hu))

theorem Onward.execWatchIdleTimeout (hm : (.gt :: .dev :: .safe :: .pwr :: .net :: logParts) ⊆ may := by decide) : t.Onward own may (execWatchIdleTimeout t) := by
  refine .mono ?_ hm
  unfold Machine.execWatchIdleTimeout
  refine .next ?_
  extract_lets +onlyGivenNames n
  exact .ite (.refl _) (.toDormant (.gtTo (.refl _)))

theorem Moves.addWake (h : s.Moves own may t) {n : Nat} (hm : [.pwr] ⊆ may := by decide) :
    s.Moves own may (t.addWake n) := by
  refine h.andThen hm ?_
  unfold State.addWake
  exact .ite (.refl _) (.pwrMod (.refl _))

theorem Onward.execP2Wake (hm : [.pwr] ⊆ may := by decide) : t.Onward own may (execP2Wake t) := by
  refine .mono ?_ hm
  unfold Machine.execP2Wake
  exact .next (.ite (.addWake (.refl _)) (.refl _))

theorem Onward.execLightWake (hm : [.gt, .pwr] ⊆ may := by decide) : t.Onward own may (execLightWake t) := by
  refine .mono ?_ hm
  unfold Machine.execLightWake
  exact .next (.ite (.addWake (.gtTo (.refl _))) (.refl _))

theorem Onward.execWakeAdmit (hm : (.dev :: .pwr :: .net :: logParts) ⊆ may := by decide) : t.Onward own may (execWakeAdmit t) := by
  refine .mono ?_ hm
  unfold Machine.execWakeAdmit
  exact .next (.ite (.wakeTo (.refl _)) (.refl _))

theorem Onward.execMainSupplyLoss {rails : Fin 64} (hm : (.gt :: .dev :: .deferred :: .spareReqs :: .pan :: .tim :: .ana :: .cmp :: .pwm :: .gl :: .safe :: .pwr :: .ket :: .net :: .mtr :: .hop :: .law :: .sup :: .fw :: .pin :: logParts) ⊆ may := by decide) : t.Onward own may (execMainSupplyLoss rails t) := by
  refine .mono ?_ hm
  unfold Machine.execMainSupplyLoss
  refine .next ?_
  refine .ite ?_ ?_
  · exact .refl _
  · extract_lets +onlyGivenNames s1 s2 s3
    have hs1 : t.Moves own (.gt :: .dev :: .deferred :: .spareReqs :: .pan :: .tim :: .ana :: .cmp :: .pwm :: .gl :: .safe :: .pwr :: .ket :: .net :: .mtr :: .hop :: .law :: .sup :: .fw :: .pin :: logParts) s1 := .setFld (.refl _)
    have hs2 : t.Moves own (.gt :: .dev :: .deferred :: .spareReqs :: .pan :: .tim :: .ana :: .cmp :: .pwm :: .gl :: .safe :: .pwr :: .ket :: .net :: .mtr :: .hop :: .law :: .sup :: .fw :: .pin :: logParts) s2 := .ite hs1.allGcmdLow.stick.toWatch hs1
    have hs3 : t.Moves own (.gt :: .dev :: .deferred :: .spareReqs :: .pan :: .tim :: .ana :: .cmp :: .pwm :: .gl :: .safe :: .pwr :: .ket :: .net :: .mtr :: .hop :: .law :: .sup :: .fw :: .pin :: logParts) s3 := hs2.setFld.setFld
    split
    · exact hs3.setSource.pwrMod
    · exact hs3.keepLost

theorem Onward.execBrownOut {rails : Fin 64} {latched : Bool} (hm : (.gt :: .dev :: .deferred :: .spareReqs :: .pan :: .tim :: .ana :: .cmp :: .pwm :: .gl ::
    .safe :: .pwr :: .ket :: .net :: .mtr :: .hop :: .law :: .sup :: .fw :: .pin :: logParts) ⊆ may := by decide) :
    t.Onward own may (execBrownOut rails latched t) := by
  refine .mono (.next (.ite (.refl _) ?_)) hm
  extract_lets +onlyGivenNames s1 src s2 s3 s4
  have hs1 : t.Moves own (.gt :: .dev :: .deferred :: .spareReqs :: .pan :: .tim :: .ana :: .cmp :: .pwm :: .gl :: .safe :: .pwr :: .ket :: .net :: .mtr ::
      .hop :: .law :: .sup :: .fw :: .pin :: logParts) s1 := .stick (.allGcmdLow (.setFld (.refl _)))
  have hsrc : t.Moves own (.gt :: .dev :: .deferred :: .spareReqs :: .pan :: .tim :: .ana :: .cmp :: .pwm :: .gl :: .safe :: .pwr :: .ket :: .net :: .mtr ::
      .hop :: .law :: .sup :: .fw :: .pin :: logParts) src := hs1.mtrFinal.transition (.inr nofun)
  have hs2 : t.Moves own (.gt :: .dev :: .deferred :: .spareReqs :: .pan :: .tim :: .ana :: .cmp :: .pwm :: .gl :: .safe :: .pwr :: .ket :: .net :: .mtr ::
      .hop :: .law :: .sup :: .fw :: .pin :: logParts) s2 := .ite (hsrc.set_dev (.inr id)) hs1
  have hs4 : t.Moves own (.gt :: .dev :: .deferred :: .spareReqs :: .pan :: .tim :: .ana :: .cmp :: .pwm :: .gl :: .safe :: .pwr :: .ket :: .net :: .mtr ::
      .hop :: .law :: .sup :: .fw :: .pin :: logParts) s4 := hs2.stick.setFld.setFld.deviceReset
  split
  · exact hs4.setSource
  · exact hs4.keepLost

theorem Onward.execMainSupplyValid (hm : (.dev :: .deferred :: .spareReqs :: .pan :: .tim :: .ana :: .cmp :: .pwm :: .gl :: .safe :: .pwr :: .ket :: .net ::
    .mtr :: .hop :: .law :: .sup :: .fw :: .pin :: logParts) ⊆ may := by decide) : t.Onward own may (execMainSupplyValid t) := by
  refine .mono (.next (.ite (.refl _) ?_)) hm
  extract_lets +onlyGivenNames s1
  have hs1 : t.Moves own (.dev :: .deferred :: .spareReqs :: .pan :: .tim :: .ana :: .cmp :: .pwm :: .gl :: .safe :: .pwr :: .ket :: .net :: .mtr :: .hop ::
      .law :: .sup :: .fw :: .pin :: logParts) s1 := .setSource (.setFld (.refl _))
  split
  · exact hs1.deviceReset
  · extract_lets +onlyGivenNames s2 src
    have hs2 : t.Moves own (.dev :: .deferred :: .spareReqs :: .pan :: .tim :: .ana :: .cmp :: .pwm :: .gl :: .safe :: .pwr :: .ket :: .net :: .mtr :: .hop ::
        .law :: .sup :: .fw :: .pin :: logParts) s2 := .ite hs1.wakeTo hs1.setFld
    have hsrc : t.Moves own (.dev :: .deferred :: .spareReqs :: .pan :: .tim :: .ana :: .cmp :: .pwm :: .gl :: .safe :: .pwr :: .ket :: .net :: .mtr :: .hop ::
        .law :: .sup :: .fw :: .pin :: logParts) src := hs2.transition (.inr nofun)
    have hdev : t.Moves own (.dev :: .deferred :: .spareReqs :: .pan :: .tim :: .ana :: .cmp :: .pwm :: .gl :: .safe :: .pwr :: .ket :: .net :: .mtr :: .hop ::
        .law :: .sup :: .fw :: .pin :: logParts) { src with dev := .watch } := hsrc.set_dev (.inr nofun)
    exact .ite hdev.deviceReset hs2

theorem Onward.execPorstNReset (hm : (.dev :: .deferred :: .spareReqs :: .pan :: .tim :: .ana :: .cmp :: .pwm :: .gl :: .safe :: .pwr :: .ket :: .net :: .mtr :: .hop :: .law :: .sup :: .fw :: .pin :: logParts) ⊆ may := by decide) : t.Onward own may (execPorstNReset t) := by
  refine .mono ?_ hm
  unfold Machine.execPorstNReset
  exact .next (.ite (.refl _) (.deviceReset (.refl _)))

theorem Onward.execKeepPowerUp {mainOk : Bool} (hm : (.gt :: .dev :: .deferred :: .spareReqs :: .pan :: .tim :: .ana :: .cmp :: .pwm :: .gl :: .safe :: .pwr :: .ket :: .net :: .mtr :: .hop :: .law :: .sup :: .fw :: .pin :: logParts) ⊆ may := by decide) : t.Onward own may (execKeepPowerUp mainOk t) := by
  refine .mono ?_ hm
  unfold Machine.execKeepPowerUp
  refine .next ?_
  extract_lets +onlyGivenNames s1 s2
  have hs1 : t.Moves own (.gt :: .dev :: .deferred :: .spareReqs :: .pan :: .tim :: .ana :: .cmp :: .pwm :: .gl :: .safe :: .pwr :: .ket :: .net :: .mtr :: .hop :: .law :: .sup :: .fw :: .pin :: logParts) s1 := .mramScan (.pwrMod (.keepLost (.refl _)))
  have hs2 : t.Moves own (.gt :: .dev :: .deferred :: .spareReqs :: .pan :: .tim :: .ana :: .cmp :: .pwm :: .gl :: .safe :: .pwr :: .ket :: .net :: .mtr :: .hop :: .law :: .sup :: .fw :: .pin :: logParts) s2 := hs1.setFld.setFld
  exact hs2.deviceReset

theorem Moves.chargeView (h : s.Moves own may t) {drawing : Bool} (hm : [.regs, .pwr] ⊆ may := by decide) :
    s.Moves own may (t.chargeView drawing) := by
  refine h.andThen hm ?_
  unfold State.chargeView
  extract_lets +onlyGivenNames v h c s1
  have hs1 : t.Moves own [.regs, .pwr] s1 := .pwrMod (.refl _)
  exact hs1.setFld.setFld

theorem Moves.batCount (h : s.Moves own may t) {dt : Nat} (hm : [.regs, .pwr] ⊆ may := by decide) :
    s.Moves own may (t.batCount dt) := by
  refine h.andThen hm ?_
  unfold State.batCount
  refine .ite ?_ ?_
  · exact .refl _
  · extract_lets +onlyGivenNames n
    exact .pwrMod (.bumpBy (.refl _))

theorem Onward.execKeepMonitorConversion {r : KeepReading} (hm : (.gt :: .dev :: .deferred :: .spareReqs :: .pan :: .tim :: .ana :: .cmp :: .pwm :: .gl :: .safe :: .pwr :: .ket :: .net :: .mtr :: .hop :: .law :: .sup :: .fw :: .pin :: logParts) ⊆ may := by decide) : t.Onward own may (execKeepMonitorConversion r t) := by
  refine .mono ?_ hm
  unfold Machine.execKeepMonitorConversion
  refine .next ?_
  refine .ite ?_ ?_
  · exact .refl _
  · extract_lets +onlyGivenNames s1 s2 s3 s4 s5 lit was s6 s7
    have hs1 : t.Moves own (.gt :: .dev :: .deferred :: .spareReqs :: .pan :: .tim :: .ana :: .cmp :: .pwm :: .gl :: .safe :: .pwr :: .ket :: .net :: .mtr :: .hop :: .law :: .sup :: .fw :: .pin :: logParts) s1 := .gtTo (.refl _)
    have hs2 : t.Moves own (.gt :: .dev :: .deferred :: .spareReqs :: .pan :: .tim :: .ana :: .cmp :: .pwm :: .gl :: .safe :: .pwr :: .ket :: .net :: .mtr :: .hop :: .law :: .sup :: .fw :: .pin :: logParts) s2 := hs1.batCount.pwrMod
    have hs3 : t.Moves own (.gt :: .dev :: .deferred :: .spareReqs :: .pan :: .tim :: .ana :: .cmp :: .pwm :: .gl :: .safe :: .pwr :: .ket :: .net :: .mtr :: .hop :: .law :: .sup :: .fw :: .pin :: logParts) s3 := hs2.setRegN.setRegN.setRegN
    have hs4 : t.Moves own (.gt :: .dev :: .deferred :: .spareReqs :: .pan :: .tim :: .ana :: .cmp :: .pwm :: .gl :: .safe :: .pwr :: .ket :: .net :: .mtr :: .hop :: .law :: .sup :: .fw :: .pin :: logParts) s4 := .ite hs3.stick.logRec hs3.stickIf
    have hs5 : t.Moves own (.gt :: .dev :: .deferred :: .spareReqs :: .pan :: .tim :: .ana :: .cmp :: .pwm :: .gl :: .safe :: .pwr :: .ket :: .net :: .mtr :: .hop :: .law :: .sup :: .fw :: .pin :: logParts) s5 := hs4.stickIf.stickIf
    have hs6 : t.Moves own (.gt :: .dev :: .deferred :: .spareReqs :: .pan :: .tim :: .ana :: .cmp :: .pwm :: .gl :: .safe :: .pwr :: .ket :: .net :: .mtr :: .hop :: .law :: .sup :: .fw :: .pin :: logParts) s6 := hs5.setFld.pwrMod
    have hs7 : t.Moves own (.gt :: .dev :: .deferred :: .spareReqs :: .pan :: .tim :: .ana :: .cmp :: .pwm :: .gl :: .safe :: .pwr :: .ket :: .net :: .mtr :: .hop :: .law :: .sup :: .fw :: .pin :: logParts) s7 := hs6.chargeView
    split
    · exact hs7.setSource.beaconRetry
    · exact hs7.keepLost

theorem Onward.execDarknessTimeout (hm : (.gt :: .pwr :: logParts) ⊆ may := by decide) : t.Onward own may (execDarknessTimeout t) := by
  refine .mono ?_ hm
  unfold Machine.execDarknessTimeout
  refine .next ?_
  refine .ite ?_ ?_
  · exact .refl _
  · extract_lets +onlyGivenNames t'
    have ht' : t.Moves own (.gt :: .pwr :: logParts) t' := .pwrMod (.gtTo (.refl _))
    split
    · exact ht'.setSource
    · exact ht'

theorem Onward.execEnergyPolicyDormant (hm : (.gt :: .dev :: .safe :: .pwr :: .net :: logParts) ⊆ may := by decide) : t.Onward own may (execEnergyPolicyDormant t) := by
  refine .mono ?_ hm
  unfold Machine.execEnergyPolicyDormant
  refine .next ?_
  split
  · exact .ite (.refl _) (.toDormant (.logRec (.gtTo (.refl _))))
  · exact .refl _

theorem Onward.execHsetFault (hm : (.pwr :: logParts) ⊆ may := by decide) : t.Onward own may (execHsetFault t) := by
  refine .mono ?_ hm
  unfold Machine.execHsetFault
  exact .next (.ite (.refl _) (.logRec (.stick (.pwrMod (.refl _)))))

theorem Onward.execHstoreShort (hm : (.gt :: logParts) ⊆ may := by decide) : t.Onward own may (execHstoreShort t) := by
  refine .mono ?_ hm
  unfold Machine.execHstoreShort
  refine .next ?_
  split
  · exact .ite (.stick (.gtTo (.refl _))) (.refl _)
  · exact .refl _

theorem Onward.execCheckerSelfTest {ok : Bool} (hm : (.gt :: .sup :: logParts) ⊆ may := by decide) : t.Onward own may (execCheckerSelfTest ok t) := by
  refine .mono ?_ hm
  unfold Machine.execCheckerSelfTest
  refine .next ?_
  refine .ite ?_ ?_
  · exact .refl _
  · extract_lets +onlyGivenNames s1
    have hs1 : t.Moves own (.gt :: .sup :: logParts) s1 := .supMod (.gtTo (.refl _))
    refine .ite ?_ ?_
    · exact hs1.tickReg.supMod
    · extract_lets +onlyGivenNames s2
      have hs2 : t.Moves own (.gt :: .sup :: logParts) s2 := hs1.stick.logRec.supMod
      exact .ite hs2.supFail hs2

theorem Moves.journalAt (h : s.Moves own may t) {n : Nat} (hm : (.sup :: logParts) ⊆ may := by decide) :
    s.Moves own may (t.journalAt n) := by
  refine h.andThen hm ?_
  unfold State.journalAt
  exact .ite (.supMod (.stick (.refl _))) (.refl _)

theorem Onward.execFrameStart {diverged : Bool} {entries : Nat} (hm : (.gt :: .sup :: logParts) ⊆ may := by decide) : t.Onward own may (execFrameStart diverged entries t) := by
  refine .mono ?_ hm
  unfold Machine.execFrameStart
  refine .next ?_
  refine .ite ?_ ?_
  · exact .refl _
  · extract_lets +onlyGivenNames t' s1 s2 s3
    have hs1 : t.Moves own (.gt :: .sup :: logParts) s1 := .supMod (.gtTo (.refl _))
    have hs2 : t.Moves own (.gt :: .sup :: logParts) s2 := .ite hs1 hs1.tickReg
    have hs3 : t.Moves own (.gt :: .sup :: logParts) s3 := .ite hs2 hs2.journalAt.supMod
    refine .ite ?_ ?_
    · exact hs3.resync.supMod
    · refine .ite ?_ ?_
      · extract_lets +onlyGivenNames s4
        have hs4 : t.Moves own (.gt :: .sup :: logParts) s4 := hs3.stick.bump.setFld
        exact hs4.logRec.resync
      · exact hs3

theorem Onward.execLockstepMismatch {group : Fin 16} {kind : Fin 3} {addr : Word} {entries : Nat} (hm : (.sup :: logParts) ⊆ may := by decide) : t.Onward own may (execLockstepMismatch group kind addr entries t) := by
  refine .mono ?_ hm
  unfold Machine.execLockstepMismatch
  refine .next ?_
  refine .ite ?_ ?_
  · exact .refl _
  · extract_lets +onlyGivenNames s1
    have hs1 : t.Moves own (.sup :: logParts) s1 := .setSup (.journalAt (.refl _))
    exact hs1.setRegN.setReg.stick.bump

theorem Onward.execRerunComplete {agree : Bool} {testOk : Bool} (hm : (.sup :: logParts) ⊆ may := by decide) : t.Onward own may (execRerunComplete agree testOk t) := by
  refine .mono ?_ hm
  unfold Machine.execRerunComplete
  refine .next ?_
  refine .ite ?_ ?_
  · exact .refl _
  · extract_lets +onlyGivenNames c s1
    have hs1 : t.Moves own (.sup :: logParts) s1 := .logRec (.supActed (.setFld (.refl _)))
    refine .ite ?_ ?_
    · exact hs1.supFail
    · extract_lets +onlyGivenNames s2
      have hs2 : t.Moves own (.sup :: logParts) s2 := hs1.supMod
      exact .ite hs2.supFail hs2.setSup.retargetHeld

theorem Onward.execStewardWriteIssue (hm : (.pan :: .sup :: logParts) ⊆ may := by decide) : t.Onward own may (execStewardWriteIssue t) := by
  refine .mono ?_ hm
  unfold Machine.execStewardWriteIssue
  refine .next ?_
  refine .ite ?_ ?_
  · exact .refl _
  · extract_lets +onlyGivenNames late s1
    have hs1 : t.Moves own (.pan :: .sup :: logParts) s1 := .ite (.retargetHeld (.refl _)) (.refl _)
    exact hs1.issueHeld

theorem Onward.execSplit (hm : [.gt, .regs, .sup] ⊆ may := by decide) : t.Onward own may (execSplit t) := by
  refine .mono ?_ hm
  unfold Machine.execSplit
  refine .next ?_
  split
  · refine .ite ?_ ?_
    · exact .refl _
    · extract_lets +onlyGivenNames s1
      have hs1 : t.Moves own [.gt, .regs, .sup] s1 := .gtTo (.refl _)
      exact hs1.setSup.setFld.setRegN.setFld.supMod
  · exact .refl _

theorem Onward.execSplitReady {outcome : SplitBoot} (hm : (.sup :: .fw :: logParts) ⊆ may := by decide) : t.Onward own may (execSplitReady outcome t) := by
  refine .mono ?_ hm
  unfold Machine.execSplitReady
  refine .next ?_
  split
  · refine .ite ?_ ?_
    · exact .refl _
    · split
      · exact .supMod (.refl _)
      · exact .splitAbort (.refl _)
      · exact .splitAbort (.refl _)
  · exact .refl _

theorem Onward.execSplitHandover (hm : [.gt, .regs] ⊆ may := by decide) : t.Onward own may (execSplitHandover t) := by
  refine .mono ?_ hm
  unfold Machine.execSplitHandover
  refine .next ?_
  split
  · exact .ite (.setFld (.gtTo (.refl _))) (.refl _)
  · exact .refl _

theorem Onward.execSplitAccept {accept : Bool} (hm : (.sup :: .fw :: logParts) ⊆ may := by decide) : t.Onward own may (execSplitAccept accept t) := by
  refine .mono ?_ hm
  unfold Machine.execSplitAccept
  refine .next ?_
  split
  · exact .ite (.refl _) (.ite (.splitAbort (.refl _)) (.ite (.splitAbort (.refl _)) (.supMod (.setFld (.refl _)))))
  · exact .refl _

theorem Onward.execRejoin (hm : [.regs, .sup, .fw, .mbx, .out] ⊆ may := by decide) : t.Onward own may (execRejoin t) := by
  refine .mono ?_ hm
  unfold Machine.execRejoin
  refine .next ?_
  split
  · refine .ite ?_ ?_
    · exact .refl _
    · extract_lets +onlyGivenNames s1
      have hs1 : t.Moves own [.regs, .sup, .fw, .mbx, .out] s1 := .bump (.setSup (.splitEnd (.refl _)))
      exact hs1.set_fw.finish
  · exact .refl _

theorem Onward.execSplitTimeout (hm : (.gt :: .sup :: .fw :: logParts) ⊆ may := by decide) : t.Onward own may (execSplitTimeout t) := by
  refine .mono ?_ hm
  unfold Machine.execSplitTimeout
  refine .next ?_
  split
  · exact .ite (.refl _) (.splitAbort (.gtTo (.refl _)))
  · exact .refl _

theorem Moves.sramErr (h : s.Moves own may t) {word : Nat} {region : Nat} {ue : Bool} (hm : logParts ⊆ may := by decide) :
    s.Moves own may (t.sramErr word region ue) := by
  refine h.andThen hm ?_
  unfold State.sramErr
  extract_lets +onlyGivenNames s1
  have hs1 : t.Moves own logParts s1 := .setRegN (.refl _)
  exact .ite hs1.stick.bump hs1.stick.bump

theorem Onward.execScrubSlot {err : SramErr} {region : Fin 4} {hit : List (Fin 64)} (hm : (.sup :: .fw :: logParts) ⊆ may := by decide) : t.Onward own may (execScrubSlot err region hit t) := by
  refine .mono ?_ hm
  unfold Machine.execScrubSlot
  refine .next ?_
  extract_lets +onlyGivenNames w t' t1 s1
  have ht' : t.Moves own (.sup :: .fw :: logParts) t' := .sramErr (.refl _)
  have ht1 : t.Moves own (.sup :: .fw :: logParts) t1 := .ite (.foldl (fun _ _ hv => hv.finish) ht') ht'
  have hs1 : t.Moves own (.sup :: .fw :: logParts) s1 := by
    dsimp only [s1]
    split
    · exact .refl _
    · exact .sramErr (.refl _)
    · split
      · exact .ite ht1.splitAbort ht1
      · exact ht1
  refine .ite ?_ ?_
  · exact hs1.supMod
  · refine .ite ?_ ?_
    · exact hs1.supMod
    · extract_lets +onlyGivenNames d s2
      have hs2 : t.Moves own (.sup :: .fw :: logParts) s2 := hs1.bump.setRegN.stickIf
      exact hs2.supMod

theorem Moves.dllTick (h : s.Moves own may t) (hm : [.gt, .tim] ⊆ may := by decide) :
    s.Moves own may (t.dllTick) := by
  refine h.andThen hm ?_
  unfold State.dllTick
  exact .ite (.set_tim (.refl _)) (.gtTo (.refl _))

theorem Moves.tick (h : s.Moves own may t) (hm : [.gt, .tim] ⊆ may := by decide) :
    s.Moves own may (t.tick) := by
  refine h.andThen hm ?_
  unfold State.tick
  refine .ite ?_ ?_
  · exact .refl _
  · refine .ite ?_ ?_
    · exact .ite (.gtTo (.refl _)) (.refl _)
    · exact .ite (.refl _) (.ite (.ite (.gtTo (.refl _)) (.refl _)) (.ite (.dllTick (.refl _)) (.refl _)))

theorem Moves.withPending (h : s.Moves own may t) {q : List Instr} (hm : [.pending] ⊆ may := by decide) :
    s.Moves own may (t.withPending q) := by
  refine h.andThen hm ?_
  unfold State.withPending
  exact .set_pending (.refl _)

theorem Moves.withFetchWord (h : s.Moves own may t) {nbits : Nat} {w : Nat} (hm : [.pending] ⊆ may := by decide) :
    s.Moves own may (t.withFetchWord nbits w) := by
  refine h.andThen hm ?_
  unfold State.withFetchWord
  split
  · exact .withPending (.refl _)
  · exact .refl _

theorem Moves.begun (h : s.Moves own may t) {tag : Nat} {c : MCmd} (hm : [.mbx] ⊆ may := by decide) :
    s.Moves own may (t.begun tag c) := by
  refine h.andThen hm ?_
  unfold State.begun
  exact .set_mbx (.refl _)

theorem Moves.snapRead (h : s.Moves own may t) (hm : [.regs, .out] ⊆ may := by decide) :
    s.Moves own may (t.snapRead) := by
  refine h.andThen hm ?_
  unfold State.snapRead
  exact .give (.setRegN (.setRegN (.refl _)))

theorem Moves.energyCopy (h : s.Moves own may t) {m' : Fin 4} {r : Fin 7} (hm : [.regs] ⊆ may := by decide) :
    s.Moves own may (t.energyCopy m' r) := by
  refine h.andThen hm ?_
  unfold State.energyCopy
  exact .setRegN (.setRegN (.setRegN (.refl _)))

theorem Moves.energyRead (h : s.Moves own may t) {m' : Fin 4} {r : Fin 7} (hm : [.regs, .out] ⊆ may := by decide) :
    s.Moves own may (t.energyRead m' r) := by
  refine h.andThen hm ?_
  unfold State.energyRead
  exact .give (.energyCopy (.refl _))

end Sys2Proof.Machine.State
end

section
/-!
PROOFS. What every step keeps: the invariant, the device state and the configuration in force (O58, O59).
-/
namespace Sys2Proof.Machine

-- A default argument by `decide` waits for every earlier proof, so the proofs here run one at a time.
set_option Elab.async false

variable {s t : State}

/-- The parts that an instruction owns: the device state is STATE's, the safety configuration in force SAFE_CONFIRM's. -/
def ownedBy : Instr → List Part
  | .state _ => [.dev]
  | .safeConfirm _ => [.safe]
  | _ => []

theorem dev_mem_ownedBy {i : Instr} : .dev ∈ ownedBy i → ∃ tag, i = .state tag := by
  unfold ownedBy
  split
  · exact fun _ => ⟨_, rfl⟩
  · simp
  · simp

theorem safe_mem_ownedBy {i : Instr} : .safe ∈ ownedBy i → ∃ tag, i = .safeConfirm tag := by
  unfold ownedBy
  split
  · simp
  · exact fun _ => ⟨_, rfl⟩
  · simp

/-- What an instruction may move: all but the variant and the queue. -/
def blockParts : List Part :=
  .gt :: .dev :: .deferred :: .spareReqs :: .pan :: .tim :: .ana :: .cmp :: .pwm :: .gl :: .safe :: .pwr :: .ket :: .net :: .mtr :: .hop ::
    .law :: .sup :: .fw :: .pin :: .freeN :: logParts

/-- Every instruction, one by one. -/
theorem State.Onward.exec : ∀ i : Instr, t.Onward (ownedBy i) blockParts (exec i t)
  | .pantryWrite .. => .execPantryWrite
  | .pantryRead .. => .execPantryRead
  | .commit => .execCommit
  | .breachIntervalClose .. => .execBreachIntervalClose
  | .epochBoundary => .execEpochBoundary
  | .halfEpochPoint => .execHalfEpochPoint
  | .gtSnapRead => .execGtSnapRead
  | .ppsInEdge => .execPpsInEdge
  | .sourceLossTimeout => .execSourceLossTimeout
  | .gtStep => .execGtStep
  | .ppsOutPulse => .execPpsOutPulse
  | .ppsOutEnd => .execPpsOutEnd
  | .keepcalMeasure .. => .execKeepcalMeasure
  | .epLenTakeEffect => .execEpLenTakeEffect
  | .pllLock .. => .execPllLock
  | .syspllUnlock => .execSyspllUnlock
  | .netpllUnlock => .execNetpllUnlock
  | .fallbackReturn .. => .execFallbackReturn
  | .freqMonitorWindow .. => .execFreqMonitorWindow
  | .dllLock .. => .execDllLock
  | .dllUnlock => .execDllUnlock
  | .refclkLost => .execRefclkLost
  | .refclkReturn => .execRefclkReturn
  | .xt32Stop => .execXt32Stop
  | .dllFull => .execDllFull
  | .clkPdivUpdGo => .execClkPdivUpdGo
  | .pdivLoad => .execPdivLoad
  | .adcSequenceTrigger .. => .execAdcSequenceTrigger
  | .sequenceStart .. => .execSequenceStart
  | .conversionEnd .. => .execConversionEnd
  | .adcResultWrite .. => .execAdcResultWrite
  | .anaSwtrig .. => .execAnaSwtrig
  | .atmrFire .. => .execAtmrFire
  | .openWireRound .. => .execOpenWireRound
  | .openWireStep .. => .execOpenWireStep
  | .openWireTimeout .. => .execOpenWireTimeout
  | .calReq .. => .execCalReq
  | .calAuto .. => .execCalAuto
  | .calComplete .. => .execCalComplete
  | .calTimeout .. => .execCalTimeout
  | .sinc3Output .. => .execSinc3Output
  | .ocFilterOutput .. => .execOcFilterOutput
  | .sddStuck .. => .execSddStuck
  | .sddStuckClear .. => .execSddStuckClear
  | .comparatorCrossing .. => .execComparatorCrossing
  | .blankingEnd .. => .execBlankingEnd
  | .blankingLimit .. => .execBlankingLimit
  | .seedingComplete .. => .execSeedingComplete
  | .seedStarved .. => .execSeedStarved
  | .cmpReadbackCheck .. => .execCmpReadbackCheck
  | .cmpSnapshot => .execCmpSnapshot
  | .kettleCompletion .. => .execKettleCompletion
  | .sectionDrainEnd .. => .execSectionDrainEnd
  | .escalationReset .. => .execEscalationReset
  | .fallbackAutoReturn .. => .execFallbackAutoReturn
  | .engineModeAtEpoch .. => .execEngineModeAtEpoch
  | .swapRequest .. => .execSwapRequest
  | .swapAtEpoch .. => .execSwapAtEpoch
  | .rotationStart => .execRotationStart
  | .copyComplete => .execCopyComplete
  | .handover .. => .execHandover
  | .bistComplete .. => .execBistComplete
  | .ketCycmaxRead .. => .execKetCycmaxRead
  | .nop .. => .execNop
  | .loop .. => .execLoop
  | .cmpp .. => .execCmpp
  | .plog .. => .execPlog
  | .pbit .. => .execPbit
  | .pfresh .. => .execPfresh
  | .ldp .. => .execLdp
  | .ldr .. => .execLdr
  | .stp .. => .execStp
  | .str .. => .execStr
  | .vadd .. => .execVadd
  | .vsub .. => .execVsub
  | .vmul .. => .execVmul
  | .vmax .. => .execVmax
  | .vmin .. => .execVmin
  | .vabs .. => .execVabs
  | .vneg .. => .execVneg
  | .vclamp .. => .execVclamp
  | .vmov .. => .execVmov
  | .macz .. => .execMacz
  | .mac .. => .execMac
  | .macv .. => .execMacv
  | .accred .. => .execAccred
  | .macw .. => .execMacw
  | .mns .. => .execMns
  | .sexp .. => .execSexp
  | .sadj .. => .execSadj
  | .norm .. => .execNorm
  | .sqrt .. => .execSqrt
  | .recip .. => .execRecip
  | .sincos .. => .execSincos
  | .atan2 .. => .execAtan2
  | .angf .. => .execAngf
  | .fang .. => .execFang
  | .itof .. => .execItof
  | .iadd .. => .execIadd
  | .isub .. => .execIsub
  | .iand .. => .execIand
  | .ior .. => .execIor
  | .ixor .. => .execIxor
  | .ish .. => .execIsh
  | .imov .. => .execImov
  | .periodBoundary .. => .execPeriodBoundary
  | .midPeriodPoint .. => .execMidPeriodPoint
  | .triggerCompare .. => .execTriggerCompare
  | .scheduledEdge .. => .execScheduledEdge
  | .pwmHupdArm .. => .execPwmHupdArm
  | .pwmTripctlClr .. => .execPwmTripctlClr
  | .syncInPulse .. => .execSyncInPulse
  | .syncLoss => .execSyncLoss
  | .pwmSnapshot => .execPwmSnapshot
  | .shootThroughHold .. => .execShootThroughHold
  | .gfbTransition .. => .execGfbTransition
  | .confWindowClose .. => .execConfWindowClose
  | .gfbLevelTimeout .. => .execGfbLevelTimeout
  | .retryWaitEnd .. => .execRetryWaitEnd
  | .tryCountReset .. => .execTryCountReset
  | .coincWindowExpire .. => .execCoincWindowExpire
  | .gsetFrame .. => .execGsetFrame
  | .glClrLatch .. => .execGlClrLatch
  | .glClrShoot .. => .execGlClrShoot
  | .glPrbcmdGo => .execGlPrbcmdGo
  | .probeStep .. => .execProbeStep
  | .probeTimeout => .execProbeTimeout
  | .offdlyExpire .. => .execOffdlyExpire
  | .monitorInternalFault => .execMonitorInternalFault
  | .missingCommitTimeout .. => .execMissingCommitTimeout
  | .sinSample .. => .execSinSample
  | .sinTestSlot .. => .execSinTestSlot
  | .sinDiscrepancyTimeout .. => .execSinDiscrepancyTimeout
  | .soutSwitchOn .. => .execSoutSwitchOn
  | .soutHClose .. => .execSoutHClose
  | .soutTest .. => .execSoutTest
  | .safetyTelegramRx .. => .execSafetyTelegramRx
  | .safecomWdogExpire .. => .execSafecomWdogExpire
  | .safetyTelegramTx .. => .execSafetyTelegramTx
  | .monitorDiagnostic .. => .execMonitorDiagnostic
  | .padReadbackMismatch .. => .execPadReadbackMismatch
  | .checkerSelfTest .. => .execCheckerSelfTest
  | .frameStart .. => .execFrameStart
  | .lockstepMismatch .. => .execLockstepMismatch
  | .rerunComplete .. => .execRerunComplete
  | .stewardWriteIssue => .execStewardWriteIssue
  | .split => .execSplit
  | .splitReady .. => .execSplitReady
  | .splitHandover => .execSplitHandover
  | .splitAccept .. => .execSplitAccept
  | .rejoin => .execRejoin
  | .splitTimeout => .execSplitTimeout
  | .scrubSlot .. => .execScrubSlot
  | .frameRx .. => .execFrameRx
  | .nodeTableAge => .execNodeTableAge
  | .prpSupervisionTx => .execPrpSupervisionTx
  | .linkLoss .. => .execLinkLoss
  | .pathError .. => .execPathError
  | .announceRx .. => .execAnnounceRx
  | .syncRx .. => .execSyncRx
  | .pdelayReqRx .. => .execPdelayReqRx
  | .pdelayReqTx .. => .execPdelayReqTx
  | .pdelayRespRx .. => .execPdelayRespRx
  | .announceTimeout => .execAnnounceTimeout
  | .svFrameRx .. => .execSvFrameRx
  | .svSampleWrite .. => .execSvSampleWrite
  | .svStreamLost .. => .execSvStreamLost
  | .svPublish .. => .execSvPublish
  | .gooseRx .. => .execGooseRx
  | .gooseExpiry .. => .execGooseExpiry
  | .gooseRetransmit .. => .execGooseRetransmit
  | .beacon => .execBeacon
  | .statusReq .. => .execStatusReq
  | .logReq .. => .execLogReq
  | .watchIdleTimeout => .execWatchIdleTimeout
  | .p2Wake => .execP2Wake
  | .mtrERead .. => .execMtrERead
  | .plsPulse .. => .execPlsPulse
  | .plsPulseEnd .. => .execPlsPulseEnd
  | .mcntEdge .. => .execMcntEdge
  | .mcntCfgWrite .. => .execMcntCfgWrite
  | .trackChange .. => .execTrackChange
  | .analogSample .. => .execAnalogSample
  | .recCtrlArm => .execRecCtrlArm
  | .rearmComplete => .execRearmComplete
  | .recorderTrigger .. => .execRecorderTrigger
  | .recCtrlSwtrig => .execRecCtrlSwtrig
  | .recCtrlStop => .execRecCtrlStop
  | .postEnd => .execPostEnd
  | .sqDoorbell .. => .execSqDoorbell
  | .cqHeadWrite .. => .execCqHeadWrite
  | .commandFetch => .execCommandFetch
  | .commandTimeout .. => .execCommandTimeout
  | .mailboxReset => .execMailboxReset
  | .mbxStkRead => .execMbxStkRead
  | .qspiFrame .. => .execQspiFrame
  | .sessionExpire => .execSessionExpire
  | .authLockoutEnd => .execAuthLockoutEnd
  | .identify .. => .execIdentify
  | .status .. => .execStatus
  | .state .. => .execState (.head _)
  | .timeSet .. => .execTimeSet
  | .cfgLoad .. => .execCfgLoad
  | .sticky .. => .execSticky
  | .logRead .. => .execLogRead
  | .cal .. => .execCal
  | .recover .. => .execRecover
  | .diag .. => .execDiag
  | .recipeLoad .. => .execRecipeLoad
  | .recipeSwap .. => .execRecipeSwap
  | .engFallback .. => .execEngFallback
  | .engResume .. => .execEngResume
  | .engDump .. => .execEngDump
  | .lawParam .. => .execLawParam
  | .panWrite .. => .execPanWrite
  | .pwmSet .. => .execPwmSet
  | .tripClear .. => .execTripClear
  | .glCal .. => .execGlCal
  | .glClear .. => .execGlClear
  | .lprbRun .. => .execLprbRun
  | .safeCfg .. => .execSafeCfg
  | .safeConfirm .. => .execSafeConfirm (.head _)
  | .spo .. => .execSpo
  | .spoReset .. => .execSpoReset
  | .netTable .. => .execNetTable
  | .meterRead .. => .execMeterRead
  | .meterPreset .. => .execMeterPreset
  | .recArm .. => .execRecArm
  | .recTrig .. => .execRecTrig
  | .recStop .. => .execRecStop
  | .recRead .. => .execRecRead
  | .fwStage .. => .execFwStage
  | .fwActivate .. => .execFwActivate
  | .fwCommit .. => .execFwCommit
  | .expOpen .. => .execExpOpen
  | .expAuth .. => .execExpAuth
  | .expClose .. => .execExpClose
  | .expKeyprog .. => .execExpKeyprog
  | .expertWindowWrite .. => .execExpertWindowWrite
  | .registerWrite .. => .execRegisterWrite
  | .panCtrlClear => .execPanCtrlClear
  | .stickyClear .. => .execStickyClear
  | .counterClear .. => .execCounterClear
  | .stkFgtRead .. => .execStkFgtRead
  | .logPinrel .. => .execLogPinrel
  | .mramRecordWrite .. => .execMramRecordWrite
  | .porstNReset => .execPorstNReset
  | .keepPowerUp .. => .execKeepPowerUp
  | .brownOut .. => .execBrownOut
  | .boot .. => .execBoot
  | .bootComplete => .execBootComplete
  | .storeRewriteComplete => .execStoreRewriteComplete
  | .mainSupplyLoss .. => .execMainSupplyLoss
  | .mainSupplyValid => .execMainSupplyValid
  | .wakeAdmit => .execWakeAdmit
  | .lightWake => .execLightWake
  | .energyPolicyDormant => .execEnergyPolicyDormant
  | .keepMonitorConversion .. => .execKeepMonitorConversion
  | .darknessTimeout => .execDarknessTimeout
  | .hsetFault => .execHsetFault
  | .hstoreShort => .execHstoreShort
  | .jtagInstruction .. => .execJtagInstruction
  | .outputFoldback .. => .execOutputFoldback
  | .readbackCheckTimeout .. => .execReadbackCheckTimeout
  | .dllRelockTimeout => .execDllRelockTimeout
  | .linkUp .. => .execLinkUp
  | .safeStartUpTestsDone => .execSafeStartUpTestsDone
  | .soutCurrentLimit .. => .execSoutCurrentLimit
  | .xt32Restart => .execXt32Restart
  | .testEnHigh => .execTestEnHigh

/-- A step is a cycle of the DLL or the instruction at the front of the queue. -/
theorem State.Onward.step (h : step s = .next t) : ∃ own, s.Moves own (.pending :: blockParts) t := by
  unfold Machine.step at h
  split at h
  · obtain rfl : s.tick = t := by simpa using h
    exact ⟨[], .tick (.refl s)⟩
  · next i rest _ =>
    have hq : s.Moves (ownedBy i) (.pending :: blockParts) (s.withPending rest) := .withPending (.refl s)
    exact ⟨ownedBy i, hq.andThen (by decide) (State.Onward.exec i t h)⟩

/-- Settles O58: every step moves from a state that meets the invariant to one that does, and the variant is no part that moves. -/
theorem everyStepKeepsTheTables : Obligations.EveryStepKeepsTheTables := by
  unfold Obligations.EveryStepKeepsTheTables
  intro s t hs h
  obtain ⟨own, hm⟩ := State.Onward.step h
  obtain ⟨-, hvariant, -⟩ := hm.keeps
  exact ⟨hm.inv hs, hvariant.resolve_left (by decide)⟩

/-- Settles O59: what an instruction does to the device state and the configuration in force, it owns, and STATE and SAFE_CONFIRM alone own them. -/
theorem onlyTheirCommandsEnterRunAndSafety : Obligations.OnlyTheirCommandsEnterRunAndSafety := by
  unfold Obligations.OnlyTheirCommandsEnterRunAndSafety
  intro i s t h
  have hm := State.Onward.exec i t h
  refine ⟨fun hs ht => dev_mem_ownedBy ?_, fun hs ht => safe_mem_ownedBy ?_, fun hs ht hc => safe_mem_ownedBy ?_⟩
  · exact hm.run.resolve_right fun k => hs (k ht)
  · exact hm.force.resolve_right fun k => by simp [(k ht).1] at hs
  · exact hm.force.resolve_right fun k => hc (k ht).2

end Sys2Proof.Machine
end

section
/-!
PROOFS. The front of the queue, the state after reset, and GT in an idle step (O1, O57, O2).
-/
namespace Sys2Proof.Machine

/-- Settles O1: it is the equation of `step` for a queue that is not empty. -/
theorem stepRunsFrontCommand : Obligations.StepRunsFrontCommand := by
  unfold Obligations.StepRunsFrontCommand
  intro c rest s h
  simp [step, h]

/-- Settles O57, by evaluation of the state after reset. -/
theorem resetIsSound : Obligations.ResetIsSound := by
  unfold Obligations.ResetIsSound
  exact ⟨by decide +kernel, by decide +kernel, rfl⟩

/-- An idle step of a device whose GT runs from the DLL is a cycle of the DLL. -/
theorem State.tick_eq_dllTick {s : State} (hk : s.pwr.keepOff = false) (ht : s.pin.testEn = false) (hq : s.qual < 4) (hp : s.powered = true)
    (hd : s.dueNow = false) (hl : s.flag Reg.CLK_STAT F.CLK_STAT_DLL_LOCK = true) : s.tick = s.dllTick := by
  simp [State.tick, hk, ht, hp, hd, hl, show s.qual ≠ 5 by omega, show s.qual ≠ 4 by omega]

theorem State.lastTick_iff (s : State) : s.lastTick = true ↔ s.gt + 1 = (s.tim.epDone + 1) * s.tim.epLen := by
  simp [State.lastTick]

theorem State.omits_iff (s : State) (g : Nat) :
    s.omits g = true ↔ s.tim.slip = .shorten ∧ g + 1 = (s.tim.epDone + 1) * s.tim.epLen := by
  simp [State.omits]

/-- Where one cycle of the DLL brings GT. -/
theorem State.dllTick_gt {s : State} (hg : s.gt + 2 < 2 ^ 64) : s.dllTick.gt =
    if s.gt + 1 = (s.tim.epDone + 1) * s.tim.epLen ∧ s.tim.slip = .lengthen ∧ s.tim.slipHeld = false then s.gt
    else if s.gt + 2 = (s.tim.epDone + 1) * s.tim.epLen ∧ s.tim.slip = .shorten then s.gt + 2 else s.gt + 1 := by
  unfold State.dllTick
  by_cases hheld : s.lastTick && s.tim.slip == .lengthen && !s.tim.slipHeld
  · have h : s.gt + 1 = (s.tim.epDone + 1) * s.tim.epLen ∧ s.tim.slip = .lengthen ∧ s.tim.slipHeld = false := by
      simpa [State.lastTick_iff, and_assoc] using hheld
    rw [if_pos hheld, if_pos h]
  · have h : ¬ (s.gt + 1 = (s.tim.epDone + 1) * s.tim.epLen ∧ s.tim.slip = .lengthen ∧ s.tim.slipHeld = false) := by
      simpa [State.lastTick_iff, and_assoc] using hheld
    rw [if_neg hheld, if_neg h, State.gtTo_gt, if_pos (Nat.le_succ _)]
    by_cases ho : s.omits (s.gt + 1)
    · obtain ⟨hs, he⟩ := (s.omits_iff _).1 ho
      rw [if_pos ho, if_pos ⟨he, hs⟩, Nat.mod_eq_of_lt hg]
    · have hn : ¬ (s.gt + 2 = (s.tim.epDone + 1) * s.tim.epLen ∧ s.tim.slip = .shorten) :=
        fun ⟨he, hs⟩ => ho ((s.omits_iff _).2 ⟨hs, he⟩)
      rw [if_neg ho, if_neg hn, Nat.mod_eq_of_lt (by omega)]

theorem State.dllTick_slipHeld (s : State) : s.dllTick.tim.slipHeld =
    (s.tim.slipHeld || (s.gt + 1 == (s.tim.epDone + 1) * s.tim.epLen && s.tim.slip == .lengthen)) := by
  unfold State.dllTick State.lastTick
  split
  · next h =>
    simp only [Bool.and_eq_true] at h
    simp [h]
  · next h => cases hs : s.tim.slipHeld <;> simp_all

/-- GT never comes to rest on the value that a shortening slip leaves out. -/
theorem State.gtTo_passes_omitted {s : State} {g : Nat} (hs : s.tim.slip = .shorten) (hn : s.gt + 1 ≠ (s.tim.epDone + 1) * s.tim.epLen)
    (he : (s.tim.epDone + 1) * s.tim.epLen < 2 ^ 64) (hg : g < 2 ^ 64) : (s.gtTo g).gt + 1 ≠ (s.tim.epDone + 1) * s.tim.epLen := by
  rw [State.gtTo_gt]
  split
  · by_cases ho : s.omits g
    · obtain ⟨-, h⟩ := (s.omits_iff g).1 ho
      rw [if_pos ho, h, Nat.mod_eq_of_lt he]
      omega
    · rw [if_neg ho, Nat.mod_eq_of_lt hg]
      exact fun h => ho ((s.omits_iff g).2 ⟨hs, h⟩)
  · exact hn

/-- Settles O2: an idle step is a cycle of the DLL, and GT passes over the omitted tick. -/
theorem gridTimeAdvancesAndSkips : Obligations.GridTimeAdvancesAndSkips := by
  unfold Obligations.GridTimeAdvancesAndSkips
  refine ⟨fun s hp hk ht hq hw hd hl hg => ?_, fun s g hs _ hn he hg => State.gtTo_passes_omitted hs hn he hg⟩
  refine ⟨s.dllTick, ?_, (State.Moves.dllTick (own := []) (.refl s) (by decide)).keeps, State.dllTick_gt hg, s.dllTick_slipHeld⟩
  simp [step, hp, State.tick_eq_dllTick hk ht hq hw hd hl]

end Sys2Proof.Machine
end

section
/-!
PROOFS. What an operation leaves in the registers: which of them it may write, what the one it writes reads, and which sticky bits stay set.
-/
namespace Sys2Proof.Machine

/-! ## Reads of a register that is as it was -/

section
variable {s t : State} {a : Nat} (h : t.reg a = s.reg a)
include h

theorem State.regN_of_reg : t.regN a = s.regN a := congrArg BitVec.toNat h

theorem State.fld_of_reg (f : Fld) : t.fld a f = s.fld a f := by simp only [State.fld, State.regN_of_reg h]

theorem State.flag_of_reg (f : Fld) : t.flag a f = s.flag a f := by simp only [State.flag, State.fld_of_reg h]

end

theorem State.stuck_of_reg {s t : State} {k : Stk} (h : t.reg k.reg = s.reg k.reg) : t.stuck k = s.stuck k := by
  simp only [State.stuck, h]

/-! ## Which registers may be written -/

/-- `t` comes from `s`, whose register file is canonical, by writes of registers in `m` alone. -/
structure State.Writes (m : Nat → Prop) (s t : State) : Prop where
  ok : t.regsOk = true
  same : ∀ a, ¬ m a → t.reg a = s.reg a

/-- The registers that setting `k` can write: its own and the log's (R498). -/
def stickRegs (k : Stk) : List Nat := [k.reg, Reg.LOG_DROPCNT, Stk.LOG_QOVR.reg]

/-- The registers that a breach can write: its capture, its sticky bit and the log's (R43). -/
def breachRegs : List Nat :=
  [Reg.PAN_FIRST_SLOT, Reg.PAN_FIRST_CIDX_LO, Reg.PAN_FIRST_CIDX_HI, Reg.PAN_STK, Reg.LOG_DROPCNT, Stk.LOG_QOVR.reg]

namespace State.Writes

variable {m m' : Nat → Prop} {s t u : State} {a : Nat}

theorem refl (h : s.regsOk = true) : s.Writes m s := ⟨h, fun _ _ => rfl⟩

/-- A change that is not one of registers. -/
theorem of_regs (h : s.Writes m t) (hu : u.regs = t.regs) : s.Writes m u :=
  ⟨(State.regsOk_of_regs hu).trans h.ok, fun a ha => (State.reg_of_regs hu a).trans (h.same a ha)⟩

theorem trans (h : s.Writes m t) (k : t.Writes m u) : s.Writes m u := ⟨k.ok, fun a ha => (k.same a ha).trans (h.same a ha)⟩

theorem mono (h : s.Writes m t) (hm : ∀ a, m a → m' a) : s.Writes m' t := ⟨h.ok, fun a ha => h.same a fun k => ha (hm a k)⟩

theorem reg (h : s.Writes m t) (ha : ¬ m a) : t.reg a = s.reg a := h.same a ha

theorem regN (h : s.Writes m t) (ha : ¬ m a) : t.regN a = s.regN a := State.regN_of_reg (h.reg ha)

theorem fld (h : s.Writes m t) (f : Fld) (ha : ¬ m a) : t.fld a f = s.fld a f := State.fld_of_reg (h.reg ha) f

theorem flag (h : s.Writes m t) (f : Fld) (ha : ¬ m a) : t.flag a f = s.flag a f := State.flag_of_reg (h.reg ha) f

theorem stuck (h : s.Writes m t) {k : Stk} (ha : ¬ m k.reg) : t.stuck k = s.stuck k := State.stuck_of_reg (h.reg ha)

theorem qual (h : s.Writes m t) (ha : ¬ m Reg.GT_STAT) : t.qual = s.qual := h.fld _ ha

theorem setReg (h : s.Writes m t) (v : Word) (ha : m a) : s.Writes m (t.setReg a v) :=
  ⟨State.setReg_ok _ _ h.ok, fun _ hb => (State.reg_setReg_ne _ h.ok (by rintro rfl; exact hb ha)).trans (h.reg hb)⟩

theorem setRegN (h : s.Writes m t) (n : Nat) (ha : m a) : s.Writes m (t.setRegN a n) := h.setReg _ ha

theorem setFld (h : s.Writes m t) (f : Fld) (n : Nat) (ha : m a) : s.Writes m (t.setFld a f n) := h.setRegN _ ha

theorem setBit (h : s.Writes m t) (i : Nat) (v : Bool) (ha : m a) : s.Writes m (t.setBit a i v) := h.setFld ⟨i, 1⟩ (bit v) ha

theorem bumpBy (h : s.Writes m t) (n : Nat) (ha : m a) : s.Writes m (t.bumpBy a n) := h.setRegN _ ha

theorem bump (h : s.Writes m t) (ha : m a) : s.Writes m (t.bump a) := h.bumpBy 1 ha

theorem tickReg (h : s.Writes m t) (ha : m a) : s.Writes m (t.tickReg a) := h.setRegN _ ha

theorem stick (h : s.Writes m t) (k : Stk) (hk : ∀ a ∈ stickRegs k, m a) : s.Writes m (t.stick k) := by
  refine ⟨State.stick_ok _ h.ok, fun b hb => ?_⟩
  have hb' : b ∉ stickRegs k := fun h => hb (hk b h)
  simp only [stickRegs, List.mem_cons, List.not_mem_nil, or_false, not_or] at hb'
  exact (State.stick_reg k h.ok hb'.1 hb'.2.1 hb'.2.2).trans (h.reg hb)

theorem ite {c : Prop} [Decidable c] (ht : s.Writes m t) (hu : s.Writes m u) : s.Writes m (if c then t else u) := by
  split
  · exact ht
  · exact hu

theorem stickIf (h : s.Writes m t) (c : Bool) (k : Stk) (hk : ∀ a ∈ stickRegs k, m a) : s.Writes m (t.stickIf c k) := .ite (h.stick k hk) h

theorem logRec (h : s.Writes m t) (typ code : Nat) (ws : List Word) (pin : Bool) (hm : ∀ a ∈ logRegs, m a) :
    s.Writes m (t.logRec typ code ws pin) := by
  refine ⟨State.logRec_ok _ _ _ _ h.ok, fun b hb => ?_⟩
  have hb' : b ∉ logRegs := fun h => hb (hm b h)
  simp only [logRegs, List.mem_cons, List.not_mem_nil, or_false, not_or] at hb'
  exact (State.logRec_reg _ _ _ _ h.ok hb'.1 hb'.2).trans (h.reg hb)

theorem foldl {α : Type} {f : State → α → State} {l : List α} (hf : ∀ v x, s.Writes m v → s.Writes m (f v x)) (h : s.Writes m t) :
    s.Writes m (l.foldl f t) := by
  induction l generalizing t with
  | nil => exact h
  | cons x l ih => exact ih (hf t x h)

theorem breachOf (h : s.Writes m t) (c slot i : Nat) (hm : ∀ a ∈ breachRegs, m a) : s.Writes m (t.breachOf c slot i) := by
  unfold State.breachOf
  extract_lets +onlyGivenNames s1 s2 b
  have hs1 : s.Writes m s1 :=
    .ite (((h.setRegN _ (hm _ (by decide))).setRegN _ (hm _ (by decide))).setRegN _ (hm _ (by decide))) h
  have hk : ∀ a ∈ stickRegs (breachStk c), a ∈ breachRegs := by
    show ∀ a ∈ [Reg.PAN_STK, Reg.LOG_DROPCNT, Stk.LOG_QOVR.reg], a ∈ breachRegs
    decide
  have hs2 : s.Writes m s2 := hs1.stick _ fun a ha => hm a (hk a ha)
  have hlog : ∀ a ∈ logRegs, a ∈ breachRegs := by decide
  split
  · exact hs2.of_regs rfl
  · dsimp only
    refine .logRec ?_ _ _ _ _ fun a ha => hm a (hlog a ha)
    exact hs2.of_regs rfl

end State.Writes

/-! ## What a written register reads -/

section
variable {s : State} (h : s.regsOk = true)
include h

/-- A SAT counter that has counted once (R13). -/
theorem State.regN_bump (a : Nat) : (s.bump a).regN a = min (s.regN a + 1) (2 ^ 32 - 1) := by
  rw [State.bump, State.bumpBy, State.regN_setRegN _ _ h]
  omega

/-- The sticky bit of a breach (R43). -/
theorem State.stuck_breachOf (c slot i : Nat) (hc : c < 32) : (s.breachOf c slot i).stuck (breachStk c) = true := by
  unfold State.breachOf
  extract_lets +onlyGivenNames s1 s2 b
  have hs1 : s1.regsOk = true :=
    (State.Writes.ite (m := (· ∈ breachRegs)) (((State.Writes.refl h).setRegN _ (by decide)).setRegN _ (by decide) |>.setRegN _ (by decide))
      (State.Writes.refl h)).ok
  have hs2 : s2.stuck (breachStk c) = true := State.stick_stuck _ hs1 hc (by decide : Reg.PAN_STK ≠ Reg.LOG_DROPCNT)
  split
  · exact hs2
  · exact State.logRec_mono _ _ _ _ _ (State.stick_ok _ hs1) (by decide : Reg.PAN_STK ≠ Reg.LOG_DROPCNT) hs2

end

/-! ## What a breach leaves of the Pantry -/

/-- A breach changes the breach intervals of the Pantry alone. -/
theorem State.breachOf_pan (s : State) (c slot i : Nat) : ∃ l, (s.breachOf c slot i).pan = { s.pan with breach := l } := by
  unfold State.breachOf
  extract_lets +onlyGivenNames s1 s2 b
  have hs2 : s2.pan = s.pan := by
    simp only [s2, s1, State.stick_pan]
    split <;> simp
  rw [← hs2]
  split
  · exact ⟨_, rfl⟩
  · exact ⟨_, State.logRec_pan _ _ _ _ _⟩

section
variable (s : State) (c slot i : Nat)

@[simp] theorem State.breachOf_committed : (s.breachOf c slot i).pan.committed = s.pan.committed := by
  obtain ⟨_, h⟩ := s.breachOf_pan c slot i
  rw [h]

@[simp] theorem State.breachOf_fresh : (s.breachOf c slot i).pan.fresh = s.pan.fresh := by
  obtain ⟨_, h⟩ := s.breachOf_pan c slot i
  rw [h]

@[simp] theorem State.breachOf_pend : (s.breachOf c slot i).pan.pend = s.pan.pend := by
  obtain ⟨_, h⟩ := s.breachOf_pan c slot i
  rw [h]

end

/-! ## Frames -/

/-- The frame of an instruction that answers a next state. -/
theorem State.Onward.keeps {own may : List Part} {s t : State} {o : Host.Outcome State Fault Refusal} (h : s.Onward own may o)
    (e : o = .next t) : s.keeps t may := (h t e).keeps

end Sys2Proof.Machine
end

section
/-!
PROOFS. Writes and reads of the Pantry, and the closing of a breach interval (O3, O4).
-/
namespace Sys2Proof.Machine

/-! ## One write -/

/-- A write that no later write of its slot stands before enters the bank of its destination. -/
theorem State.pendPut_eq {s : State} {c slot ord : Nat} (v : Word)
    (h : ∀ w, ((s.pan.pend.find c).getD []).find slot = some w → w.ord ≤ ord) : s.pendPut c slot ord v =
      { s with pan := { s.pan with pend := s.pan.pend.put c (((s.pan.pend.find c).getD []).put slot { val := v, ord := ord }) } } := by
  unfold State.pendPut
  dsimp only
  split
  · next old hold => rw [if_neg (Nat.not_lt.2 (h old hold))]
  · rfl

/-- What stands at another destination or in another slot after an entry of a bank is set. -/
theorem bank_put_find_ne {α : Type} (m : KMap (KMap α)) {c c' n n' : Nat} (v : α) (h : c' ≠ c ∨ n' ≠ n) :
    (((m.put c (((m.find c).getD []).put n v)).find c').getD []).find n' = ((m.find c').getD []).find n' := by
  by_cases hc : c' = c
  · subst hc
    rw [KMap.find_put_same, Option.getD_some, KMap.find_put_ne _ _ (h.resolve_left (not_not_intro rfl))]
  · rw [KMap.find_put_ne _ _ hc]

/-- An owned write for a destination that has not passed and lies no more than one commit ahead of the next. -/
theorem State.panWrite_inTime {s : State} {owner slot ord c : Nat} (v : Word) (ho : owner ≠ 0) (hown : s.ownerOf slot = owner)
    (hi : s.gt < s.instantOf c) (hn : s.nextCommit ≤ c) (ha : c ≤ s.commitAfter s.nextCommit) :
    s.panWrite owner slot ord c v = s.pendPut c slot ord v := by
  simp [State.panWrite, State.panWriteAt, State.commitAt, ho, hown, Nat.not_le.2 hi, Nat.not_lt.2 hn, Nat.not_lt.2 ha]

theorem State.panWrite_foreign {s : State} {owner slot : Nat} (ord c : Nat) (v : Word) (h : owner = 0 ∨ s.ownerOf slot ≠ owner) :
    s.panWrite owner slot ord c v = (s.bump Reg.PAN_OWNCNT).breachOf 1 slot s.nextCommit := by
  simp [State.panWrite, State.panWriteAt, h]

theorem State.panWrite_late {s : State} {owner slot c : Nat} (ord : Nat) (v : Word) (ho : owner ≠ 0) (hown : s.ownerOf slot = owner)
    (h : s.instantOf c ≤ s.gt ∨ c < s.nextCommit) : s.panWrite owner slot ord c v = (s.bump Reg.PAN_LATECNT).breachOf 0 slot c := by
  simp [State.panWrite, State.panWriteAt, ho, hown, h]

/-! ## Reads -/

theorem State.staleCheck_of_stale {s : State} (slot : Nat) {cidx : Nat} (h : s.pan.anyCommit = true ∧ cidx < s.pan.cidx) :
    s.staleCheck slot cidx = s.breachOf 2 slot cidx := by
  simp [State.staleCheck, h]

theorem State.staleCheck_of_current {s : State} (slot : Nat) {cidx : Nat} (h : s.pan.anyCommit = false ∨ s.pan.cidx ≤ cidx) :
    s.staleCheck slot cidx = s := by
  unfold State.staleCheck
  rw [if_neg]
  rcases h with h | h
  · simp [h]
  · simp [Nat.not_lt.2 h]

/-- The check of a read moves no bank and no time. -/
theorem State.staleCheck_kept (s : State) (slot cidx : Nat) :
    (s.staleCheck slot cidx).pan.committed = s.pan.committed ∧ (s.staleCheck slot cidx).pan.fresh = s.pan.fresh ∧
      (s.staleCheck slot cidx).pan.pend = s.pan.pend ∧ (s.staleCheck slot cidx).gt = s.gt := by
  unfold State.staleCheck
  split <;> simp

/-- Settles O3: an owned write in time is `pendPut`, and a read is a stale check and a value. -/
theorem pantryWritesAndReads : Obligations.PantryWritesAndReads := by
  unfold Obligations.PantryWritesAndReads
  constructor
  · intro s owner slot ord c d v hd ho hown hi hn ha hord
    have hexec : exec (.pantryWrite owner slot ord d v) s = .next (s.pendPut c slot ord v) := by
      rw [← State.panWrite_inTime v ho hown hi hn ha]
      obtain rfl | ⟨g, rfl, rfl⟩ := hd
      · rfl
      · rfl
    refine ⟨_, hexec, ?_⟩
    rw [State.pendPut_eq v hord]
    refine ⟨by simp [State.keeps], ?_, fun c' n h => bank_put_find_ne _ _ h, rfl, rfl⟩
    simp [KMap.find_put_same]
  · intro s slot cidx hs
    obtain ⟨hcommitted, hfresh, hpend, hgt⟩ := s.staleCheck_kept slot cidx
    refine ⟨_, rfl, rfl, rfl, fun h => ?_, fun h => ?_, hcommitted, hfresh, hpend, hgt⟩
    · rw [State.staleCheck_of_stale slot h]
      exact State.stuck_breachOf hs 2 slot cidx (by decide)
    · rw [State.staleCheck_of_current slot h]
      simp [State.keeps]

/-! ## Refused writes -/

/-- A breach leaves a register that a breach does not write. -/
theorem State.regN_breachOf {s : State} (hs : s.regsOk = true) (c slot i : Nat) {a : Nat} (ha : a ∉ breachRegs) :
    (s.breachOf c slot i).regN a = s.regN a :=
  ((State.Writes.refl hs).breachOf (m := (· ∈ breachRegs)) c slot i fun _ => id).regN ha

/-- A write that is counted and is a breach reaches no bank. -/
theorem State.bump_breachOf {s : State} (hs : s.regsOk = true) (a : Nat) (ha : a ∉ breachRegs) (c slot i : Nat) (hc : c < 32) :
    ((s.bump a).breachOf c slot i).pan.pend = s.pan.pend ∧ ((s.bump a).breachOf c slot i).pan.committed = s.pan.committed ∧
      ((s.bump a).breachOf c slot i).regN a = min (s.regN a + 1) (2 ^ 32 - 1) ∧
      ((s.bump a).breachOf c slot i).stuck (breachStk c) = true := by
  have hb : (s.bump a).regsOk = true := State.bump_ok a hs
  refine ⟨by simp, by simp, ?_, State.stuck_breachOf hb c slot i hc⟩
  rw [State.regN_breachOf hb c slot i ha, State.regN_bump hs]

/-- Entry `i` of a row after a change of it, where there is one. -/
theorem Tab.at_mod_same {α : Type} [Inhabited α] (t : Tab α) (i : Nat) (f : α → α) (h : i < t.length) : (t.mod i f).at i = f (t.at i) := by
  simp [Tab.at, Tab.mod, h]

theorem Tab.at_mod_ne {α : Type} [Inhabited α] (t : Tab α) {i k : Nat} (f : α → α) (h : k ≠ i) : (t.mod i f).at k = t.at k := by
  simp [Tab.at, Tab.mod, List.getD_eq_getElem?_getD, h.symm]

/-- The closing of an interval that is open and whose cause no longer stands. -/
theorem execBreachIntervalClose_eq {s : State} {cause : Fin 6} (ho : (s.pan.breach.at cause).isOpen = true) (hc : s.causeStands cause = false) :
    ∃ t, execBreachIntervalClose cause s = .next t ∧ t.gt = (s.gtTo (s.epochFrom ((s.pan.breach.at cause).lastGt + s.tim.epLen))).gt ∧
      t.pan = { s.pan with breach := s.pan.breach.mod cause (fun x => { x with isOpen := false }) } := by
  refine ⟨_, rfl, ?_⟩
  simp [ho, hc]

/-- Settles O4: a refused write is counted and a breach; the closing of an interval changes its entry alone. -/
theorem refusedWritesAndBreachIntervals : Obligations.RefusedWritesAndBreachIntervals := by
  unfold Obligations.RefusedWritesAndBreachIntervals
  constructor
  · intro s owner slot ord c v hs
    refine ⟨s.panWrite owner slot ord c v, rfl, fun h => ?_, fun ho hown h => ?_⟩
    · rw [State.panWrite_foreign ord c v h]
      exact State.bump_breachOf hs _ (by decide) 1 slot _ (by decide)
    · rw [State.panWrite_late ord v ho hown h]
      exact State.bump_breachOf hs _ (by decide) 0 slot c (by decide)
  · intro s cause ho hc
    obtain ⟨t, ht, hgt, hpan⟩ := execBreachIntervalClose_eq ho hc
    refine ⟨t, ht, (State.Onward.execBreachIntervalClose (own := []) (by decide)).keeps ht, ?_, hgt, by rw [hpan], fun k hk => ?_⟩
    · have hlen : cause.val < s.pan.breach.length := by
        by_contra h
        simp [Tab.at, Nat.not_lt.1 h] at ho
        exact absurd ho (by decide)
      rw [hpan, Tab.at_mod_same _ _ _ hlen]
    · rw [hpan]
      exact Tab.at_mod_ne _ _ hk

end Sys2Proof.Machine
end

section
/-!
PROOFS. A commit: what stands in the Pantry before the swap, and what the readers of the new bank leave of it (O5).
-/
namespace Sys2Proof.Machine

-- A default argument by `decide` waits for every earlier proof, so the proofs here run one at a time.
set_option Elab.async false

/-- All parts but the Pantry and the times. -/
def besidePan : List Part :=
  [.gt, .variant, .dev, .regs, .deferred, .spareReqs, .ana, .cmp, .pwm, .gl, .safe, .log, .pwr, .ket, .net, .mtr, .hop, .law, .sup, .fw, .mbx,
    .pin, .freeN, .out, .pending]

theorem State.Moves.pan_kept {own may : List Part} {s t : State} (h : s.Moves own may t) (hm : .pan ∉ may) : t.pan = s.pan := by
  obtain ⟨-, -, -, -, -, -, hpan, -⟩ := h.keeps
  exact hpan.resolve_left hm

theorem State.Moves.tim_kept {own may : List Part} {s t : State} (h : s.Moves own may t) (hm : .tim ∉ may) : t.tim = s.tim := by
  obtain ⟨-, -, -, -, -, -, -, htim, -⟩ := h.keeps
  exact htim.resolve_left hm

theorem State.Moves.ket_kept {own may : List Part} {s t : State} (h : s.Moves own may t) (hm : .ket ∉ may) : t.ket = s.ket := by
  obtain ⟨-, -, -, -, -, -, -, -, -, -, -, -, -, -, -, hket, -⟩ := h.keeps
  exact hket.resolve_left hm

theorem State.Moves.gt_kept {own may : List Part} {s t : State} (h : s.Moves own may t) (hm : .gt ∉ may) : t.gt = s.gt :=
  h.keeps.1.resolve_left hm

/-! ## After the swap -/

/-- `t` comes from `s`, where commit `c` is the newest, and has its banks; nothing has become pending for `c` again. -/
structure State.AfterSwap (c : Nat) (s t : State) : Prop where
  cidx : t.pan.cidx = c
  committed : t.pan.committed = s.pan.committed
  fresh : t.pan.fresh = s.pan.fresh
  anyCommit : t.pan.anyCommit = s.pan.anyCommit
  clearNext : t.pan.clearNext = s.pan.clearNext
  bank : t.pan.pend.find c = s.pan.pend.find c
  tim : t.tim = s.tim

/-- The commit after `c` is another one, but with epochs of no length, where every instant is 0. -/
theorem State.commitAfter_ne (s : State) (c : Nat) : s.commitAfter c ≠ c ∨ s.instantOf c = 0 := by
  by_cases he : s.tim.epLen = 0
  · simp [State.instantOf, he]
  left
  have hk : c / 2 ≤ (s.instantOf c + 1) / s.tim.epLen := by
    rw [Nat.le_div_iff_mul_le (Nat.pos_of_ne_zero he)]
    simp only [State.instantOf]
    omega
  have hdm := Nat.div_add_mod' (s.instantOf c + 1) s.tim.epLen
  intro hc
  simp only [State.commitAfter, State.commitFrom] at hc
  split at hc
  · next hmod =>
    have hq : (s.instantOf c + 1) / s.tim.epLen = c / 2 := by omega
    rw [hq, hmod] at hdm
    have heven : ¬ c % 2 = 1 := by omega
    simp only [State.instantOf, if_neg heven] at hdm
    omega
  · split at hc
    · next hhalf =>
      have hq : (s.instantOf c + 1) / s.tim.epLen = c / 2 := by omega
      rw [hq] at hdm
      have hodd : c % 2 = 1 := by omega
      have hle : (s.instantOf c + 1) % s.tim.epLen ≤ s.tim.epLen / 2 := by simp_all
      simp only [State.instantOf, if_pos hodd] at hdm hle
      omega
    · omega

namespace State.AfterSwap

variable {c : Nat} {s t u : State}

theorem refl (h : s.pan.cidx = c) : s.AfterSwap c s := ⟨h, rfl, rfl, rfl, rfl, rfl, rfl⟩

theorem trans (h : s.AfterSwap c t) (k : t.AfterSwap c u) : s.AfterSwap c u :=
  ⟨k.cidx, k.committed.trans h.committed, k.fresh.trans h.fresh, k.anyCommit.trans h.anyCommit, k.clearNext.trans h.clearNext,
    k.bank.trans h.bank, k.tim.trans h.tim⟩

theorem of_kept (h : s.AfterSwap c t) (hp : u.pan = t.pan) (ht : u.tim = t.tim) : s.AfterSwap c u :=
  ⟨by rw [hp, h.cidx], by rw [hp, h.committed], by rw [hp, h.fresh], by rw [hp, h.anyCommit], by rw [hp, h.clearNext], by rw [hp, h.bank],
    by rw [ht, h.tim]⟩

theorem moved (h : s.AfterSwap c t) (k : t.Moves [] besidePan u) : s.AfterSwap c u :=
  h.of_kept (k.pan_kept (by decide)) (k.tim_kept (by decide))

theorem ite {p : Prop} [Decidable p] (ht : s.AfterSwap c t) (hu : s.AfterSwap c u) : s.AfterSwap c (if p then t else u) := by
  split
  · exact ht
  · exact hu

theorem foldl {α : Type} {f : State → α → State} {l : List α} (hf : ∀ v x, s.AfterSwap c v → s.AfterSwap c (f v x)) (h : s.AfterSwap c t) :
    s.AfterSwap c (l.foldl f t) := by
  induction l generalizing t with
  | nil => exact h
  | cons x l ih => exact ih (hf t x h)

theorem breachOf (h : s.AfterSwap c t) (k slot i : Nat) : s.AfterSwap c (t.breachOf k slot i) := by
  obtain ⟨l, hl⟩ := t.breachOf_pan k slot i
  have htim : (t.breachOf k slot i).tim = t.tim := State.breachOf_tim t k slot i
  exact ⟨by rw [hl, h.cidx], by rw [hl, h.committed], by rw [hl, h.fresh], by rw [hl, h.anyCommit], by rw [hl, h.clearNext],
    by rw [hl, h.bank], by rw [htim, h.tim]⟩

theorem pendPut (h : s.AfterSwap c t) {dest : Nat} (hd : dest ≠ c) (slot ord : Nat) (v : Word) :
    s.AfterSwap c (t.pendPut dest slot ord v) := by
  have hput (bank : KMap PendWrite) : s.AfterSwap c { t with pan := { t.pan with pend := t.pan.pend.put dest bank } } :=
    ⟨h.cidx, h.committed, h.fresh, h.anyCommit, h.clearNext, (KMap.find_put_ne _ _ hd.symm).trans h.bank, h.tim⟩
  unfold State.pendPut
  dsimp only
  split
  · exact .ite h (hput _)
  · exact hput _

/-- No write enters the bank of a commit that lies at another index, or whose instant has passed. -/
theorem panWrite (h : s.AfterSwap c t) {dest : Nat} (hd : dest ≠ c ∨ s.instantOf dest = 0) (owner slot ord : Nat) (v : Word) :
    s.AfterSwap c (t.panWrite owner slot ord dest v) := by
  unfold State.panWrite State.panWriteAt
  split
  · exact .breachOf (h.of_kept (State.bump_pan _ _) (State.bump_tim _ _)) _ _ _
  split
  · exact .breachOf (h.of_kept (State.bump_pan _ _) (State.bump_tim _ _)) _ _ _
  next hlate =>
  have hi : t.instantOf dest = s.instantOf dest := by simp only [State.instantOf, h.tim]
  have hne : dest ≠ c := hd.resolve_right fun h0 => hlate (by simp [hi, h0])
  exact .ite (h.breachOf _ _ _) (h.pendPut hne _ _ _)

theorem panWrites (h : s.AfterSwap c t) {dest : Nat} (hd : dest ≠ c ∨ s.instantOf dest = 0) (owner slot : Nat) (vs : List Word) :
    s.AfterSwap c (t.panWrites owner slot dest vs) := .foldl (fun _ _ hv => hv.panWrite hd _ _ _ _) h

/-- The meters write for the commit after the newest. -/
theorem next_ne (h : s.AfterSwap c t) : t.commitAfter t.pan.cidx ≠ c ∨ s.instantOf (t.commitAfter t.pan.cidx) = 0 := by
  rw [h.cidx]
  by_cases hc : t.commitAfter c = c
  · right
    have h0 := (t.commitAfter_ne c).resolve_left (not_not_intro hc)
    simp_all [State.instantOf, h.tim]
  · exact .inl hc

theorem mtrBf (h : s.AfterSwap c t) {m k : Nat} {qs : List Rat} : s.AfterSwap c (t.mtrBf m k qs) := h.panWrites h.next_ne _ _ _

theorem mtrRaw (h : s.AfterSwap c t) {m k : Nat} {ws : List Word} : s.AfterSwap c (t.mtrRaw m k ws) := h.panWrites h.next_ne _ _ _

theorem mtrMod (h : s.AfterSwap c t) {m : Nat} {f : MtrPoint → MtrPoint} : s.AfterSwap c (t.mtrMod m f) := h.moved (.mtrMod (.refl _))

theorem freeStep (h : s.AfterSwap c t) : s.AfterSwap c t.freeStep := h.moved (.freeStep (.refl _))

theorem halfValues (h : s.AfterSwap c t) {m : Nat} {l : List MtrSample} : s.AfterSwap c (t.halfValues m l) := h.mtrBf.mtrBf

theorem intvValues (h : s.AfterSwap c t) {m t0 t1 n : Nat} : s.AfterSwap c (t.intvValues m t0 t1 n) := by
  unfold State.intvValues
  extract_lets +onlyGivenNames l
  refine .ite h ?_
  extract_lets +onlyGivenNames vs is_ d p q sApp r pf f va vb vc e s1 s2 s3 s4 s5
  have hs2 : s.AfterSwap c s2 := h.mtrBf.mtrBf.mtrBf.mtrBf
  have hs4 : s.AfterSwap c s4 := hs2.mtrRaw.freeStep.freeStep
  have hs5 : s.AfterSwap c s5 := .foldl (fun _ _ hv => hv.mtrRaw.freeStep) hs4
  exact hs5.mtrBf.mtrBf

theorem intvEnd (h : s.AfterSwap c t) {m i : Nat} {bad : Bool} : s.AfterSwap c (t.intvEnd m i bad) := by
  unfold State.intvEnd
  extract_lets +onlyGivenNames y s1
  have hs1 : s.AfterSwap c s1 := by
    dsimp only [s1]
    split
    · exact h.intvValues
    · exact h
  exact hs1.mtrMod.moved (.mtrLoad (.refl _))

theorem boundary (h : s.AfterSwap c t) {m : Nat} {b : MtrBound} : s.AfterSwap c (t.boundary m b) := by
  unfold State.boundary
  extract_lets +onlyGivenNames y l bs first ok s0 s1 s2 prev a s3 s4 n t' s5 fresh s6
  have hs0 : s.AfterSwap c s0 := mtrMod (h.moved (.stickIf (.refl _)))
  have hs1 : s.AfterSwap c s1 := .ite hs0 hs0.halfValues
  have hs2 : s.AfterSwap c s2 := by
    dsimp only [s2]
    split
    · exact hs1.mtrMod.mtrBf
    · exact hs1
  have hs3 : s.AfterSwap c s3 := .ite (hs2.moved (.events (.energyAdd (.refl _)))) hs2
  have hs4 : s.AfterSwap c s4 := .ite (hs3.moved (.tickReg (.refl _))) hs3
  have ht' : s.AfterSwap c t' := hs4.moved (.latch (.refl _))
  have hs5 : s.AfterSwap c s5 := .ite (.ite (ht'.moved (.latchLog (.refl _))) ht') hs4
  have hfresh : s.AfterSwap c fresh := hs5.mtrMod
  have hs6 : s.AfterSwap c s6 := .ite (hfresh.moved (.mtrLoad (.refl _))) (.ite hs5.intvEnd hs5)
  exact hs6.mtrMod

theorem boundaries (h : s.AfterSwap c t) {i tick : Nat} {cross : Option MtrBound} {fuel : Nat} :
    s.AfterSwap c (State.boundaries i tick cross fuel t) := by
  have hlast (u : State) (hu : s.AfterSwap c u) : s.AfterSwap c (match cross with | some c => u.boundary i c | none => u) := by
    split
    · exact hu.boundary
    · exact hu
  induction fuel generalizing t with
  | zero => exact h
  | succ fuel ih =>
    unfold State.boundaries
    extract_lets +onlyGivenNames p
    split
    · exact hlast t h
    · exact .ite (ih h.boundary) (hlast t h)

theorem mtrBreak (h : s.AfterSwap c t) {m : Nat} : s.AfterSwap c (t.mtrBreak m) := by
  unfold State.mtrBreak
  extract_lets +onlyGivenNames y s1 s2
  have hs1 : s.AfterSwap c s1 := .ite h h.halfValues
  have hs2 : s.AfterSwap c s2 := .ite hs1.intvEnd hs1
  exact hs2.mtrMod

theorem mtrWrite (h : s.AfterSwap c t) {m : Nat} {p q : Rat} : s.AfterSwap c (t.mtrWrite m p q) := h.mtrRaw.mtrRaw.mtrBf.mtrMod

theorem mtrSample (h : s.AfterSwap c t) {i tick : Nat} : s.AfterSwap c (t.mtrSample i tick) := by
  unfold State.mtrSample
  extract_lets +onlyGivenNames y d late far s1 s2 new s3 ph y' cross z h2 armed add s4 s5
  have hs1 : s.AfterSwap c s1 := .ite (h.moved (.mtrMod (.stick (.bump (.refl _))))) h
  have hs2 : s.AfterSwap c s2 := .ite hs1.mtrBreak hs1
  have hs3 : s.AfterSwap c s3 := hs2.moved (.set_freeN (.refl _))
  have hadd {u : State} (hu : s.AfterSwap c u) : s.AfterSwap c (add u) := hu.moved (.mtrMod (.energySample (.refl _)))
  have hs4 : s.AfterSwap c s4 := by
    clear_value s3 add
    dsimp only [s4]
    cases cross with
    | none => exact hadd hs3.boundaries
    | some b => exact .ite (hadd hs3).boundaries (hadd hs3.boundaries)
  exact hs4.mtrMod.mtrWrite.moved (.mtrView (.refl _))

theorem meterCommit (h : s.AfterSwap c t) : s.AfterSwap c t.meterCommit := by
  unfold State.meterCommit
  refine .ite h (.foldl (fun v k hv => ?_) h)
  refine .ite ?_ hv
  split
  · exact hv.mtrSample
  · exact hv

theorem commitReaders (h : s.AfterSwap c t) {n : Nat} : s.AfterSwap c (t.commitReaders n) := by
  unfold State.commitReaders
  extract_lets +onlyGivenNames s1 s2 s3
  have hs1 : s.AfterSwap c s1 := .ite (.foldl (fun _ _ hv => hv.moved (.copySet (.refl _))) h) h
  have hs2 : s.AfterSwap c s2 := .ite (.foldl (fun _ _ hv => hv.moved (.supervise (.refl _))) hs1) hs1
  have hs3 : s.AfterSwap c s3 := .ite (hs2.moved (.gpCompare (.limitEval (.refl _)))) hs2
  exact hs3.meterCommit.moved (.pubFresh (.refl _))

end State.AfterSwap

/-! ## Before the swap -/

theorem KMap.find_map {α β : Type} (f : Nat → α → β) (m : KMap α) (a : Nat) :
    KMap.find (m.map fun e => (e.1, f e.1 e.2)) a = (KMap.find m a).map (f a) := by
  induction m with
  | nil => rfl
  | cons e r ih =>
    obtain ⟨k, x⟩ := e
    simp only [List.map_cons, KMap.find, ih]
    split
    · next hk => simp [hk]
    · rfl

theorem KMap.find_filter {α : Type} (p : Nat → Bool) (m : KMap α) {a : Nat} (ha : p a = true) :
    KMap.find (m.filter fun e => p e.1) a = KMap.find m a := by
  induction m with
  | nil => rfl
  | cons e r ih =>
    obtain ⟨k, x⟩ := e
    by_cases hk : p k = true
    · simp [hk, KMap.find, ih]
    · have hka : k ≠ a := fun h => hk (h ▸ ha)
      simp [hk, KMap.find, hka, ih]

/-- The keys of a canonical map rise, so no key comes twice. -/
theorem KMap.wf_iff {α : Type} (m : KMap α) : KMap.wf m = true ↔ m.Pairwise fun d e => d.1 < e.1 := by
  induction m with
  | nil => simp [KMap.wf]
  | cons e r ih =>
    obtain ⟨k, x⟩ := e
    rw [List.pairwise_cons, ← ih]
    cases r with
    | nil => simp [KMap.wf]
    | cons f r =>
      simp only [KMap.wf, Bool.and_eq_true, decide_eq_true_eq, List.mem_cons, forall_eq_or_imp]
      refine ⟨fun ⟨hk, hr⟩ => ⟨⟨hk, fun d hd => ?_⟩, hr⟩, fun ⟨⟨hk, _⟩, hr⟩ => ⟨hk, hr⟩⟩
      have hall : (f :: r).Pairwise fun d e => d.1 < e.1 := ih.1 (by simpa [KMap.wf] using hr)
      exact hk.trans ((List.pairwise_cons.1 hall).1 d hd)

theorem KMap.wf_filter {α : Type} (p : Nat × α → Bool) {m : KMap α} (h : KMap.wf m = true) : KMap.wf (m.filter p) = true :=
  (KMap.wf_iff _).2 (((KMap.wf_iff m).1 h).filter p)

/-- `t` comes from `s`, which is about to commit `c`, with the same committed bank, and with what stands in slot `n` for `c`. -/
structure State.BeforeSwap (c n : Nat) (s t : State) : Prop where
  committed : t.pan.committed = s.pan.committed
  clearNext : t.pan.clearNext = s.pan.clearNext
  wf : KMap.wf ((s.pan.pend.find c).getD []) = true → KMap.wf ((t.pan.pend.find c).getD []) = true
  find : ((t.pan.pend.find c).getD []).find n = ((s.pan.pend.find c).getD []).find n

namespace State.BeforeSwap

variable {c n : Nat} {s t u : State}

theorem refl (s : State) : s.BeforeSwap c n s := ⟨rfl, rfl, id, rfl⟩

theorem of_pend (h : s.BeforeSwap c n t) (hc : u.pan.committed = t.pan.committed) (hn : u.pan.clearNext = t.pan.clearNext)
    (hp : u.pan.pend = t.pan.pend) : s.BeforeSwap c n u :=
  ⟨hc.trans h.committed, hn.trans h.clearNext, by rw [hp]; exact h.wf, by rw [hp, h.find]⟩

theorem moved (h : s.BeforeSwap c n t) (k : t.Moves [] besidePan u) : s.BeforeSwap c n u := by
  have hp : u.pan = t.pan := k.pan_kept (by decide)
  exact h.of_pend (by rw [hp]) (by rw [hp]) (by rw [hp])

theorem ite {p : Prop} [Decidable p] (ht : s.BeforeSwap c n t) (hu : s.BeforeSwap c n u) : s.BeforeSwap c n (if p then t else u) := by
  split
  · exact ht
  · exact hu

theorem breachOf (h : s.BeforeSwap c n t) (k slot i : Nat) : s.BeforeSwap c n (t.breachOf k slot i) := by
  obtain ⟨l, hl⟩ := t.breachOf_pan k slot i
  exact h.of_pend (by rw [hl]) (by rw [hl]) (by rw [hl])

/-- The writes of a binding are dropped; slot `n` is not one of its slots. -/
theorem ketDrop (h : s.BeforeSwap c n t) {b : Nat} (hn : n < ketSlots b ∨ ketSlots b + 0x1000 ≤ n) : s.BeforeSwap c n (t.ketDrop b c) := by
  have hbank : ((t.ketDrop b c).pan.pend.find c).getD [] =
      ((t.pan.pend.find c).getD []).filter (fun w => !(ketSlots b ≤ w.1 && w.1 < ketSlots b + 0x1000)) := by
    have hmap := KMap.find_map (fun d (m : KMap PendWrite) =>
      if c ≤ d then m.filter (fun w => !(ketSlots b ≤ w.1 && w.1 < ketSlots b + 0x1000)) else m) t.pan.pend c
    have hpend : (t.ketDrop b c).pan.pend = t.pan.pend.map (fun e =>
        (e.1, if c ≤ e.1 then e.2.filter (fun w => !(ketSlots b ≤ w.1 && w.1 < ketSlots b + 0x1000)) else e.2)) := by
      unfold State.ketDrop
      refine List.map_congr_left fun e _ => ?_
      split <;> rfl
    rw [hpend, hmap]
    cases KMap.find t.pan.pend c <;> simp
  refine ⟨h.committed, h.clearNext, fun hs => ?_, ?_⟩
  · rw [hbank]
    exact KMap.wf_filter _ (h.wf hs)
  · rw [hbank, ← h.find]
    refine KMap.find_filter (fun k => !(ketSlots b ≤ k && k < ketSlots b + 0x1000)) _ ?_
    simpa using hn

theorem ketOverrun (h : s.BeforeSwap c n t) {b : Nat} (hn : n < ketSlots b ∨ ketSlots b + 0x1000 ≤ n) :
    s.BeforeSwap c n (t.ketOverrun b c) := by
  unfold State.ketOverrun
  extract_lets +onlyGivenNames y k secNo s1 s2 s3 s4
  have hs1 : s.BeforeSwap c n s1 := .ite (h.moved (.rotAbort (.refl _))) h
  have hs2 : s.BeforeSwap c n s2 := (hs1.ketDrop hn).of_pend rfl rfl rfl
  have hs3 : s.BeforeSwap c n s3 := ((hs2.moved (.stick (.refl _))).breachOf _ _ _).moved (.bump (.refl _))
  have hs4 : s.BeforeSwap c n s4 := hs3.moved (.logRec (.refl _))
  have hmod (f : Binding → Binding) : s.BeforeSwap c n (s4.ketMod b f) := hs4.of_pend rfl rfl rfl
  exact .ite hs4 (.ite ((hmod _).moved (.ketDemand (.stick (.refl _)))) (hmod _))

end State.BeforeSwap

/-- Overruns are a matter of the engines and of the clocks that run below their frequency. -/
theorem State.ketOverruns_of_kept {s t : State} (hk : t.ket = s.ket) (ht : t.tim = s.tim) (b c : Nat) :
    t.ketOverruns b c = s.ketOverruns b c := by
  unfold State.ketOverruns State.clusterBelow State.bd
  rw [hk, ht]

/-- Counting an epoch without overrun is no overrun of any binding. -/
theorem State.ketOverruns_good (s : State) (b k c : Nat) :
    (s.ketMod b (fun x => { x with good := x.good + 1, fbGood := x.fbGood + 1 })).ketOverruns k c = s.ketOverruns k c := by
  have hbd : ∃ g f, (s.ketMod b (fun x => { x with good := x.good + 1, fbGood := x.fbGood + 1 })).bd k = { s.bd k with good := g, fbGood := f } := by
    by_cases hk : k = b
    · subst hk
      by_cases hlen : k < s.ket.bind.length
      · exact ⟨_, _, Tab.at_mod_same _ _ _ hlen⟩
      · exact ⟨(s.bd k).good, (s.bd k).fbGood, by simp [State.bd, State.ketMod, Tab.at, Tab.mod, Nat.not_lt.1 hlen]⟩
    · exact ⟨(s.bd k).good, (s.bd k).fbGood, Tab.at_mod_ne _ _ hk⟩
  obtain ⟨g, f, h⟩ := hbd
  unfold State.ketOverruns
  rw [h]
  rfl

/-- What stands in slot `n` passes the checks of a commit: it belongs to no engine, or no engine overruns. -/
theorem State.BeforeSwap.ketChecks {c n : Nat} {s t : State} (h : s.BeforeSwap c n t)
    (hn : (n < 0x2000 ∨ 0xE000 ≤ n) ∨ ∀ b, t.ketOverruns b c = false) : s.BeforeSwap c n (t.ketChecks c) := by
  have hengines (u : State) : u.engines ≤ 12 := by unfold State.engines; split <;> decide
  unfold State.ketChecks
  rcases hn with hn | hn
  · refine List.foldlRecOn _ _ h fun u hu b hb => .ite (hu.ketOverrun ?_) (.ite (hu.of_pend rfl rfl rfl) hu)
    have hb' := (List.mem_range.1 hb).trans_le (hengines _)
    simp only [ketSlots]
    omega
  · refine (List.foldlRecOn (motive := fun u => s.BeforeSwap c n u ∧ ∀ b, u.ketOverruns b c = false) _ _ ⟨h, hn⟩ ?_).1
    rintro u ⟨hu, hno⟩ b -
    rw [if_neg (by simp [hno b])]
    split
    · exact ⟨hu.of_pend rfl rfl rfl, fun k => (u.ketOverruns_good b k c).trans (hno k)⟩
    · exact ⟨hu, hno⟩

/-! ## The swap -/

section
variable {w : Nat} {d : Nat → BitVec w}

theorem Store.wf_foldl_put {α : Type} (g : α → Nat × BitVec w) (l : List α) {m : Store w} (h : Store.wf d m = true) :
    Store.wf d (l.foldl (fun m e => m.put d (g e).1 (g e).2) m) = true :=
  List.foldlRecOn (motive := fun m => Store.wf d m = true) _ _ h fun _ hm _ _ => Store.put_wf hm

/-- Words that are put at other addresses. -/
theorem Store.get_foldl_put_ne {α : Type} (g : α → Nat × BitVec w) (l : List α) {m : Store w} (h : Store.wf d m = true) {n : Nat}
    (hn : ∀ e ∈ l, (g e).1 ≠ n) : (l.foldl (fun m e => m.put d (g e).1 (g e).2) m).get d n = m.get d n := by
  induction l generalizing m with
  | nil => rfl
  | cons e r ih =>
    rw [List.foldl_cons, ih (Store.put_wf h) fun x hx => hn x (List.mem_cons_of_mem _ hx)]
    exact Store.get_put_ne _ _ h (hn e List.mem_cons_self).symm

/-- A bank put over a store: its entry where it has one, else what stood there. -/
theorem Store.get_foldl_bank {α : Type} (g : α → BitVec w) {l : KMap α} (hl : KMap.wf l = true) {m : Store w} (h : Store.wf d m = true) (n : Nat) :
    (l.foldl (fun m e => m.put d e.1 (g e.2)) m).get d n = ((l.find n).map g).getD (m.get d n) := by
  have hp := (KMap.wf_iff l).1 hl
  clear hl
  induction l generalizing m with
  | nil => rfl
  | cons e r ih =>
    obtain ⟨k, x⟩ := e
    obtain ⟨hk, hr⟩ := List.pairwise_cons.1 hp
    rw [List.foldl_cons, KMap.find]
    split
    · next hkn =>
      subst hkn
      rw [Store.get_foldl_put_ne (fun e : Nat × α => (e.1, g e.2)) r (Store.put_wf h) fun e he => (hk e he).ne']
      exact Store.get_put_same _ _ _ h
    · next hkn => rw [ih (Store.put_wf h) hr, Store.get_put_ne _ _ h (Ne.symm hkn)]

end

theorem le_of_mem_slotsAt {a : Nat} {ws : List Word} {e : Nat × Word} (h : e ∈ slotsAt a ws) : a ≤ e.1 := by
  obtain ⟨x, -, rfl⟩ := List.mem_map.1 h
  exact Nat.le_add_right _ _

/-- The status blocks lie at 0xF000 and above (R37). -/
theorem State.le_of_mem_statusSlots {s : State} {c : Nat} {e : Nat × Word} (h : e ∈ s.statusSlots c) : 0xF000 ≤ e.1 := by
  simp only [State.statusSlots, List.mem_append, or_assoc] at h
  rcases h with h | h | h | h
  · exact le_of_mem_slotsAt h
  · exact le_trans (by decide) (le_of_mem_slotsAt h)
  · split at h
    · simp only [List.mem_append, List.mem_flatMap, List.mem_cons, List.not_mem_nil, or_false] at h
      obtain ⟨b, -, rfl | rfl⟩ | rfl := h
      · exact le_trans (by decide) (Nat.le_add_right 0xF020 b)
      · exact le_trans (by decide) (Nat.le_add_right 0xF030 b)
      · exact Nat.le_add_right 0xF000 0x2C
    · cases h
  · exact le_trans (by decide) (le_of_mem_slotsAt h)

/-- The swap puts what was pending over the committed bank, outside the status blocks. -/
theorem State.swapBanks_get {s : State} {c n : Nat} (hc : Store.wf zeroes s.pan.committed = true)
    (hwf : KMap.wf ((s.pan.pend.find c).getD []) = true) (hn : n < 0xF000) :
    (s.swapBanks c).pan.committed.get zeroes n =
        ((((s.pan.pend.find c).getD []).find n).map PendWrite.val).getD (if s.pan.clearNext then 0#32 else s.pan.committed.get zeroes n) ∧
      (s.swapBanks c).pan.fresh.get zeroes n = ((((s.pan.pend.find c).getD []).find n).map fun _ => 1#1).getD 0#1 := by
  have hstatus : ∀ e ∈ s.statusSlots c, e.1 ≠ n := fun e he => by
    have := State.le_of_mem_statusSlots he
    omega
  have hold : Store.wf zeroes (if s.pan.clearNext then [] else s.pan.committed) = true := by
    split
    · rfl
    · exact hc
  have hempty : Store.wf (w := 1) zeroes [] = true := rfl
  simp only [State.swapBanks, List.foldl_append, List.foldl_map]
  constructor
  · refine (Store.get_foldl_put_ne id _ (Store.wf_foldl_put (fun e : Nat × PendWrite => (e.1, e.2.val)) _ hold) hstatus).trans ?_
    rw [Store.get_foldl_bank PendWrite.val hwf hold]
    split <;> rfl
  · refine (Store.get_foldl_put_ne (fun e : Nat × Word => (e.1, 1#1)) _
      (Store.wf_foldl_put (fun e : Nat × PendWrite => (e.1, 1#1)) _ hempty) hstatus).trans ?_
    exact Store.get_foldl_bank (fun _ : PendWrite => 1#1) hwf hempty n

theorem KMap.find_filter_none {α : Type} {p : Nat → Bool} (m : KMap α) {a : Nat} (ha : p a = false) :
    KMap.find (m.filter fun e => p e.1) a = none := by
  induction m with
  | nil => rfl
  | cons e r ih =>
    obtain ⟨k, x⟩ := e
    by_cases hk : p k = true
    · have hka : k ≠ a := by
        rintro rfl
        simp [hk] at ha
      simp [hk, KMap.find, hka, ih]
    · simp [hk, ih]

/-- A commit, from the checks to the readers: its bank as before the checks, swapped, and then read. -/
theorem State.commitNow_swap {s : State} {c n : Nat}
    (hn : (n < 0x2000 ∨ 0xE000 ≤ n) ∨ ∀ b, s.ketOverruns b c = false) :
    ∃ u, s.BeforeSwap c n u ∧ (u.swapBanks c).AfterSwap c (s.commitNow c) := by
  unfold State.commitNow
  extract_lets _ s1 s2 s3
  have hs1 : s.BeforeSwap c n s1 := by
    refine .ite (.moved ?_ (.logRec (.refl _))) (.refl s)
    exact State.BeforeSwap.of_pend (.refl s) rfl rfl rfl
  have hno : (∀ b, s.ketOverruns b c = false) → ∀ b, s1.settled.ketOverruns b c = false := by
    intro h b
    have hk1 : s1.settled.ket = s1.ket := (State.Moves.settled (own := []) (may := besidePan.erase .ket) (.refl s1)).ket_kept (by decide)
    have ht1 : s1.settled.tim = s1.tim := (State.Moves.settled (own := []) (may := besidePan) (.refl s1)).tim_kept (by decide)
    have hk : s1.ket = s.ket := by
      dsimp only [s1]
      split <;> simp
    have ht : s1.tim = s.tim := by
      dsimp only [s1]
      split <;> simp
    exact (State.ketOverruns_of_kept (hk1.trans hk) (ht1.trans ht) b c).trans (h b)
  have hs2 : s.BeforeSwap c n s2 := ((hs1.moved (.settled (.refl _))).ketChecks (hn.imp id hno)).moved (.pubCatchUp (.refl _))
  have hs3 : s.BeforeSwap c n s3 := .ite (List.foldlRecOn _ _ hs2 fun _ hu _ _ => hu.moved (.ketShow (.refl _))) hs2
  have hw : ((s3.noteWritten c).swapBanks c).AfterSwap c ((s3.noteWritten c).swapBanks c) := .refl rfl
  exact ⟨_, hs3.moved (.noteWritten (.refl _)), (hw.moved (.anaTaken (.refl _))).commitReaders⟩

/-- Settles O5: at a commit instant, the swap of the banks between what comes before it and what reads them. -/
theorem commitSwapsEverySlot : Obligations.CommitSwapsEverySlot := by
  unfold Obligations.CommitSwapsEverySlot
  intro s hon hok hwf
  obtain ⟨hcommitted, -⟩ : Store.wf zeroes s.pan.committed = true ∧ Store.wf zeroes s.pan.fresh = true := by
    simpa [State.panOk] using hok
  have hexec : exec .commit s = .next ((s.gtTo (s.instantOf s.nextCommit)).commitNow s.nextCommit) := by
    show execCommit s = _
    simp [execCommit, hon]
  have hgt : ((s.gtTo (s.instantOf s.nextCommit)).commitNow s.nextCommit).gt = (s.gtTo (s.instantOf s.nextCommit)).gt :=
    (State.Moves.commitNow (own := []) (may := besidePan.erase .gt ++ [.pan]) (.refl _)).gt_kept (by decide)
  obtain ⟨u, -, ha⟩ := State.commitNow_swap (s := s.gtTo (s.instantOf s.nextCommit)) (c := s.nextCommit) (n := 0) (.inl (by decide))
  refine ⟨_, hexec, ha.cidx, ha.anyCommit, ha.clearNext, ?_, hgt, fun n hn => ?_⟩
  · rw [ha.bank]
    exact KMap.find_filter_none (p := fun k => decide (s.nextCommit < k)) _ (by simp)
  · have hover (h : ∀ b, s.ketOverruns b s.nextCommit = false) (b : Nat) :
        (s.gtTo (s.instantOf s.nextCommit)).ketOverruns b s.nextCommit = false :=
      (State.ketOverruns_of_kept (State.gtTo_ket _ _) (State.gtTo_tim _ _) b _).trans (h b)
    obtain ⟨u, hb, ha⟩ := State.commitNow_swap (s := s.gtTo (s.instantOf s.nextCommit)) (c := s.nextCommit) (n := n)
      (by rcases hn with hn | hn | ⟨-, hn⟩
          · exact .inl (.inl hn)
          · exact .inl (.inr hn.1)
          · exact .inr (hover hn))
    have hn' : n < 0xF000 := by omega
    have hsame : (s.gtTo (s.instantOf s.nextCommit)).pan = s.pan := State.gtTo_pan _ _
    obtain ⟨hget, hfresh⟩ := State.swapBanks_get (s := u) (c := s.nextCommit) (by rw [hb.committed, hsame]; exact hcommitted)
      (hb.wf (by rw [hsame]; exact hwf)) hn'
    rw [ha.committed, ha.fresh, hget, hfresh, hb.find, hb.clearNext, hb.committed, hsame]
    exact ⟨fun w hw => by simp [hw], fun hw => by simp [hw]⟩

end Sys2Proof.Machine
end

section
/-!
PROOFS. The tiers of GT, PPS_OUT and the measurements of the PPS input (O7).
-/
namespace Sys2Proof.Machine

-- A default argument by `decide` waits for every earlier proof, so the proofs here run one at a time.
set_option Elab.async false

/-! ## A change of the tier -/

/-- The registers that a change of the tier can write. -/
def qualRegs : List Nat := [Reg.GT_STAT, Reg.CLK_STK, Reg.LOG_DROPCNT, Stk.LOG_QOVR.reg]

theorem State.setQual_qual {s : State} (h : s.regsOk = true) {q : Nat} (hq : q < 8) : (s.setQual q).qual = q :=
  (State.fld_setFld Reg.GT_STAT F.GT_STAT_QUAL q h (by decide)).trans (Nat.mod_eq_of_lt hq)

/-- The stop of the commits in HOLD_KEEP, on the state of the new tier. -/
theorem State.enterQual_eq (s : State) (q : Nat) : ∃ p : Pantry,
    p.committed = s.pan.committed ∧ p.pend = s.pan.pend ∧
    (s.enterQual q = s ∧ s.qual = q ∨
      s.qual ≠ q ∧ (s.enterQual q = (s.setQual q).stickIf (3 ≤ q && !(q = 4 && s.tim.relockCmd)) Stk.GT_HOLDOVER ∨
        s.enterQual q = ({ (s.setQual q).stickIf (3 ≤ q && !(q = 4 && s.tim.relockCmd)) Stk.GT_HOLDOVER with pan := p }).logRec 0x02
          (evCode 0xFF 1) (cidxWords s.pan.cidx))) := by
  unfold State.enterQual
  split
  · next h => exact ⟨s.pan, rfl, rfl, .inl ⟨rfl, h⟩⟩
  · next h =>
    extract_lets +onlyGivenNames s1
    split
    · refine ⟨{ s1.pan with stopped := true }, ?_, ?_, .inr ⟨h, .inr rfl⟩⟩
      · simp [s1, State.setQual]
      · simp [s1, State.setQual]
    · exact ⟨s.pan, rfl, rfl, .inr ⟨h, .inl rfl⟩⟩

theorem State.Writes.setQual {m : Nat → Prop} {s t : State} (h : s.Writes m t) (q : Nat) (hm : m Reg.GT_STAT) : s.Writes m (t.setQual q) :=
  (h.setFld F.GT_STAT_QUAL q hm).of_regs rfl

theorem State.Writes.enterQual {m : Nat → Prop} {s t : State} (h : s.Writes m t) (q : Nat) (hm : ∀ a ∈ qualRegs, m a) :
    s.Writes m (t.enterQual q) := by
  have hk : ∀ a ∈ stickRegs Stk.GT_HOLDOVER, a ∈ qualRegs := by decide
  have hl : ∀ a ∈ logRegs, a ∈ qualRegs := by decide
  have h1 : s.Writes m ((t.setQual q).stickIf (3 ≤ q && !(q = 4 && t.tim.relockCmd)) Stk.GT_HOLDOVER) :=
    (h.setQual q (hm _ (by decide))).stickIf _ _ fun a ha => hm a (hk a ha)
  obtain ⟨p, -, -, ⟨e, -⟩ | ⟨-, e | e⟩⟩ := t.enterQual_eq q
  · rwa [e]
  · rwa [e]
  · rw [e]
    refine .logRec ?_ _ _ _ _ fun a ha => hm a (hl a ha)
    exact h1.of_regs rfl

/-- GT is in the tier that it enters (R61). -/
theorem State.enterQual_qual {s : State} (h : s.regsOk = true) {q : Nat} (hq : q < 8) : (s.enterQual q).qual = q := by
  have h1 : (State.stickIf (s.setQual q) (3 ≤ q && !(q = 4 && s.tim.relockCmd)) Stk.GT_HOLDOVER).qual = q := by
    have hw := (State.Writes.refl (m := (· ∈ stickRegs Stk.GT_HOLDOVER)) (State.Writes.setQual (.refl h) q trivial (m := fun _ => True)).ok).stickIf
      (3 ≤ q && !(q = 4 && s.tim.relockCmd)) Stk.GT_HOLDOVER fun _ => id
    rw [hw.qual (by decide), State.setQual_qual h hq]
  obtain ⟨p, -, -, ⟨e, hs⟩ | ⟨-, e | e⟩⟩ := s.enterQual_eq q
  · rw [e, hs]
  · rw [e, h1]
  · have hok : (State.stickIf (s.setQual q) (3 ≤ q && !(q = 4 && s.tim.relockCmd)) Stk.GT_HOLDOVER).regsOk = true :=
      ((State.Writes.setQual (.refl h) q trivial (m := fun _ => True)).stickIf _ _ fun _ _ => trivial).ok
    have hw := (State.Writes.refl (m := (· ∈ logRegs)) hok).of_regs (u := { State.stickIf (s.setQual q) (3 ≤ q && !(q = 4 && s.tim.relockCmd))
      Stk.GT_HOLDOVER with pan := p }) rfl |>.logRec 0x02 (evCode 0xFF 1) (cidxWords s.pan.cidx) false fun _ => id
    rw [e, hw.qual (by decide), h1]

/-- Entering a tier notes its GT alone among the times. -/
theorem State.enterQual_tim (s : State) (q : Nat) : ∃ g, (s.enterQual q).tim = { s.tim with qualAt := g } := by
  obtain ⟨p, -, -, ⟨e, -⟩ | ⟨-, e | e⟩⟩ := s.enterQual_eq q
  · exact ⟨s.tim.qualAt, by rw [e]⟩
  · exact ⟨s.gt, by rw [e]; simp [State.setQual]⟩
  · exact ⟨s.gt, by rw [e]; simp [State.setQual]⟩

/-- Entering a holdover sets STK_GT_HOLDOVER, but HOLD_SYS after a commanded relock (R61, R77). -/
theorem State.enterQual_holdover {s : State} (h : s.regsOk = true) {q : Nat} (hq : 3 ≤ q) (hr : ¬ (q = 4 ∧ s.tim.relockCmd = true))
    (hs : s.qual ≠ q) : (s.enterQual q).stuck Stk.GT_HOLDOVER = true := by
  have hok : (s.setQual q).regsOk = true := (State.Writes.setQual (.refl h) q trivial (m := fun _ => True)).ok
  have hc : (3 ≤ q && !(q = 4 && s.tim.relockCmd)) = true := by simpa [hq, imp_iff_not_or] using hr
  have h1 : (State.stickIf (s.setQual q) (3 ≤ q && !(q = 4 && s.tim.relockCmd)) Stk.GT_HOLDOVER).stuck Stk.GT_HOLDOVER = true := by
    rw [hc]
    exact State.stick_stuck _ hok (by decide) (by decide)
  obtain ⟨p, -, -, ⟨-, e⟩ | ⟨-, e | e⟩⟩ := s.enterQual_eq q
  · exact absurd e hs
  · rw [e, h1]
  · rw [e]
    exact State.logRec_mono _ _ _ _ _ (State.stickIf_ok _ _ hok) (by decide) h1

/-! ## PPS_OUT -/

/-- The next whole second. -/
theorem secondFrom_spec (t : Nat) : secondFrom t % 500000000 = 0 ∧ t ≤ secondFrom t ∧ secondFrom t < t + 500000000 := by
  unfold secondFrom tickSec
  omega

/-- PPS_OUT rises at a whole second that has not passed (R60). -/
theorem ppsOutRises {s : State} (hp : s.powered = true) (he : s.flag Reg.GT_CTRL F.GT_CTRL_PPSOUT_EN = true) (ho : s.tim.ppsOut = false) :
    ∃ t, exec .ppsOutPulse s = .next t ∧ t.tim.ppsOut = true ∧ t.tim.ppsRise % 500000000 = 0 ∧ s.gt ≤ t.tim.ppsRise ∧
      t.tim.ppsRise ≤ s.gt + 500000000 ∧ t.gt = (s.gtTo t.tim.ppsRise).gt ∧ s.keeps t [.gt, .tim] := by
  have hexec : exec .ppsOutPulse s = .next ((s.gtTo (secondFrom (if s.tim.ppsRise = s.gt then s.gt + 1 else s.gt))).timMod
      (fun x => { x with ppsOut := true, ppsRise := secondFrom (if s.tim.ppsRise = s.gt then s.gt + 1 else s.gt) })) := by
    show execPpsOutPulse s = _
    simp [execPpsOutPulse, hp, he, ho]
  obtain ⟨hmod, hle, hlt⟩ := secondFrom_spec (if s.tim.ppsRise = s.gt then s.gt + 1 else s.gt)
  refine ⟨_, hexec, rfl, hmod, ?_, ?_, rfl, (State.Onward.execPpsOutPulse (own := []) (by decide)).keeps hexec⟩
  · exact le_trans (by split <;> omega) hle
  · refine Nat.le_of_lt_succ (hlt.trans_le ?_)
    split <;> omega

theorem ppsOutFalls {s : State} (ho : s.tim.ppsOut = true) :
    ∃ t, exec .ppsOutEnd s = .next t ∧ t.tim.ppsOut = false ∧ s.keeps t [.gt, .tim] ∧
      t.gt = (s.gtTo (s.tim.ppsRise + max 1 (s.fld Reg.GT_CTRL F.GT_CTRL_PPSOUT_W) * 500000)).gt := by
  have hexec : exec .ppsOutEnd s =
      .next ((s.gtTo (s.tim.ppsRise + max 1 (s.fld Reg.GT_CTRL F.GT_CTRL_PPSOUT_W) * tickMs)).timMod (fun x => { x with ppsOut := false })) := by
    show execPpsOutEnd s = _
    simp [execPpsOutEnd, ho]
  exact ⟨_, hexec, rfl, (State.Onward.execPpsOutEnd (own := []) (by decide)).keeps hexec, rfl⟩

/-! ## A measurement -/

/-- The rate that follows a small offset. -/
theorem State.Writes.servoRate {m : Nat → Prop} {s t : State} (h : s.Writes m t) (hm : m Reg.GT_STAT) : s.Writes m t.servoRate := by
  unfold State.servoRate
  extract_lets r src src' s1
  have hs1 : s.Writes m s1 := h.of_regs rfl
  exact hs1.setFld _ _ hm

theorem State.Writes.bigOffset {m : Nat → Prop} {s t : State} (h : s.Writes m t) (o : Int) (hm : ∀ a ∈ qualRegs, m a) :
    s.Writes m (t.bigOffset o) := by
  have hk : ∀ a ∈ stickRegs Stk.GT_STEP_DENIED, a ∈ qualRegs := by decide
  unfold State.bigOffset
  split
  · exact h.of_regs rfl
  · extract_lets r src s1
    have hs1 : s.Writes m s1 := h.of_regs rfl
    exact (hs1.setFld _ _ (hm _ (by decide))).stickIf _ _ fun a ha => hm a (hk a ha)


theorem satTo_lowBits_lt (w : Nat) (x : Int) : lowBits w x < 2 ^ w := by
  have hpos : (0 : Int) < 2 ^ w := by positivity
  have h1 := Int.emod_nonneg x hpos.ne'
  have h2 := Int.emod_lt_of_pos x hpos
  unfold lowBits
  zify
  rwa [Int.toNat_of_nonneg h1]

/-- What every measurement leaves: GT_OFFSET, the count of rejected edges and the GT of the measurement (R56, R57). -/
theorem State.measure_spec {s : State} (hs : s.regsOk = true) (o : Int) :
    (s.measure o).regN Reg.GT_OFFSET = lowBits 32 (satTo 32 o) ∧ (s.measure o).tim.rejects = 0 ∧ (s.measure o).tim.lastMeas = s.gt := by
  have hoff : (s.setRegN Reg.GT_OFFSET (lowBits 32 (satTo 32 o))).regN Reg.GT_OFFSET = lowBits 32 (satTo 32 o) := by
    rw [State.regN_setRegN _ _ hs, Nat.mod_eq_of_lt (satTo_lowBits_lt 32 _)]
  unfold State.measure
  extract_lets s1 src s2 near s3 fresh n src3 s4
  have hs1 : s1.regsOk = true := State.setRegN_ok _ _ hs
  have hs2 : s1.Writes (· ∈ qualRegs) s2 := .of_regs (.refl hs1) rfl
  have hs3 : s1.Writes (· ∈ qualRegs) s3 := .ite (hs2.bigOffset o fun _ => id) (hs2.servoRate (by decide))
  have hs4 : s1.Writes (· ∈ qualRegs) s4 := hs3.of_regs rfl
  have ht3 : s3.tim.rejects = 0 ∧ s3.tim.lastMeas = s.gt := by
    dsimp only [s3]
    split
    · unfold State.bigOffset
      split <;> simp [s2]
    · simp [State.servoRate, s2]
  split
  · exact ⟨(hs2.regN (by decide)).trans hoff, rfl, rfl⟩
  split
  · exact ⟨(hs4.regN (by decide)).trans hoff, ht3⟩
  · obtain ⟨g, hg⟩ := s4.enterQual_tim (if n = 8 then 2 else 1)
    rw [hg]
    exact ⟨((hs4.enterQual _ fun _ => id).regN (by decide)).trans hoff, ht3⟩

/-- The eighth near measurement in a row locks GT (R57). -/
theorem State.measure_locks {s : State} (hs : s.regsOk = true) (hp : s.powered = true) {o : Int} (hn : 2 * o.natAbs ≤ s.lockThrNs)
    (hq : s.qual = 1) (hl : s.tim.lockCount = 7) : (s.measure o).qual = 2 := by
  unfold State.measure
  extract_lets s1 src s2 near s3 fresh n src3 s4
  have hs4 : s4.regsOk = true := by
    have hs2 : s.Writes (fun _ => True) s2 := .of_regs (.setRegN (.refl hs) _ trivial) rfl
    exact (State.Writes.of_regs (.ite (hs2.bigOffset o fun _ _ => trivial) (hs2.servoRate trivial)) rfl).ok
  have hn8 : n = 8 := by simp [n, near, fresh, hn, hq, hl]
  rw [if_neg (by simp [hq, hp]), if_neg (by omega), if_pos hn8]
  exact State.enterQual_qual hs4 (by decide)

/-- An edge of the PPS source that is a measurement. -/
theorem execPpsInEdge_measure {s : State} (hp : s.powered = true) (hsrc : s.fld Reg.GT_CTRL F.GT_CTRL_SRC = 2)
    (hw : s.qual ≠ 2 ∨ 2 * s.ppsOffset.natAbs ≤ s.ppsWinNs) : exec .ppsInEdge s = .next (s.measure s.ppsOffset) := by
  have h : ¬ (s.qual = 2 ∧ s.ppsWinNs < 2 * s.ppsOffset.natAbs) := by omega
  show execPpsInEdge s = _
  simp [execPpsInEdge, hp, hsrc, h]

/-- An edge that a LOCKED device rejects (R57). -/
theorem execPpsInEdge_reject {s : State} (hp : s.powered = true) (hsrc : s.fld Reg.GT_CTRL F.GT_CTRL_SRC = 2) (hq : s.qual = 2)
    (hw : s.ppsWinNs < 2 * s.ppsOffset.natAbs) (hr : s.tim.rejects < 3) :
    exec .ppsInEdge s = .next (((s.bump Reg.GT_PPSREJ).stick Stk.PPS_REJECT).timMod (fun x => { x with rejects := x.rejects + 1 })) := by
  show execPpsInEdge s = _
  simp [execPpsInEdge, hp, hsrc, hq, hw, hr]

theorem ppsEdgeRejected {s : State} (hs : s.regsOk = true) (hp : s.powered = true) (hsrc : s.fld Reg.GT_CTRL F.GT_CTRL_SRC = 2) (hq : s.qual = 2)
    (hw : s.ppsWinNs < 2 * s.ppsOffset.natAbs) (hr : s.tim.rejects < 3) :
    ∃ t, exec .ppsInEdge s = .next t ∧ t.regN Reg.GT_PPSREJ = min (s.regN Reg.GT_PPSREJ + 1) (2 ^ 32 - 1) ∧ t.stuck Stk.PPS_REJECT = true ∧
      t.tim.rejects = s.tim.rejects + 1 ∧ t.qual = 2 ∧ t.regN Reg.GT_OFFSET = s.regN Reg.GT_OFFSET ∧ s.keeps t (.tim :: logParts) := by
  have hb : (s.bump Reg.GT_PPSREJ).regsOk = true := State.bump_ok _ hs
  have hst : (s.bump Reg.GT_PPSREJ).Writes (· ∈ stickRegs Stk.PPS_REJECT) ((s.bump Reg.GT_PPSREJ).stick Stk.PPS_REJECT) :=
    .stick (.refl hb) _ fun _ => id
  have hbw : s.Writes (· ∈ [Reg.GT_PPSREJ]) (s.bump Reg.GT_PPSREJ) := .bump (.refl hs) (by decide)
  refine ⟨_, execPpsInEdge_reject hp hsrc hq hw hr, ?_, State.stick_stuck _ hb (by decide) (by decide), by simp, ?_, ?_, ?_⟩
  · exact (hst.regN (by decide)).trans (State.regN_bump hs _)
  · exact ((hst.qual (by decide)).trans (hbw.qual (by decide))).trans hq
  · exact (hst.regN (by decide)).trans (hbw.regN (by decide))
  · exact (State.Moves.timMod (own := []) (.stick (.bump (.refl s)))).keeps

/-- Without a measurement for LOSSTO the source is lost (R57). -/
theorem sourceIsLost {s : State} (hs : s.regsOk = true) (hq : s.qual = 2) :
    ∃ t, exec .sourceLossTimeout s = .next t ∧ t.qual = 3 ∧ t.stuck Stk.GT_HOLDOVER = true ∧ t.tim.stepPend = none ∧
      t.gt = (s.gtTo (s.tim.lastMeas + s.lossTicks)).gt ∧ s.keeps t ([.gt, .tim, .pan] ++ logParts) := by
  let u := (s.gtTo (s.tim.lastMeas + s.lossTicks)).timMod (fun x => { x with lockCount := 0, stepPend := none })
  have hexec : exec .sourceLossTimeout s = .next (u.enterQual 3) := by
    show execSourceLossTimeout s = _
    simp [execSourceLossTimeout, hq, u]
  have hu : s.Writes (fun _ => False) u := .of_regs (.refl hs) (by simp [u])
  have huq : u.qual = 2 := (hu.qual id).trans hq
  obtain ⟨g, hg⟩ := u.enterQual_tim 3
  refine ⟨_, hexec, State.enterQual_qual hu.ok (by decide), State.enterQual_holdover hu.ok le_rfl (by simp) (by omega), by rw [hg]; rfl, ?_,
    (State.Onward.execSourceLossTimeout (own := [])).keeps hexec⟩
  exact (State.Moves.enterQual (own := []) (may := .pan :: .tim :: logParts) (.refl u)).gt_kept (by decide)

/-- Settles O7: PPS_OUT by its whole seconds, and the cases of an edge by `measure` and the tiers. -/
theorem ppsOutputAndDiscipline : Obligations.PpsOutputAndDiscipline := by
  unfold Obligations.PpsOutputAndDiscipline
  refine ⟨⟨fun s hp he ho => ppsOutRises hp he ho, fun s ho => ppsOutFalls ho⟩, fun s hs hp hsrc hq4 hw => ?_,
    fun s hs hp hsrc hq hw hr => ppsEdgeRejected hs hp hsrc hq hw hr, fun s hs hq => sourceIsLost hs hq⟩
  have hexec := execPpsInEdge_measure hp hsrc hw
  obtain ⟨hoff, hrej, hlast⟩ := State.measure_spec hs s.ppsOffset
  exact ⟨_, hexec, hoff, hrej, hlast, fun hn hq hl => State.measure_locks hs hp hn hq hl,
    (State.Onward.execPpsInEdge (own := [])).keeps hexec⟩

end Sys2Proof.Machine
end

section
/-!
PROOFS. Operations of the converters, the recorder and the leg groups write no register below 0x20000 but the log's.
-/
namespace Sys2Proof.Machine

-- A default argument by `decide` waits for every earlier proof, so the proofs here run one at a time.
set_option Elab.async false

theorem State.Moves.regs_kept {own may : List Part} {s t : State} (h : s.Moves own may t) (hm : .regs ∉ may) : t.regs = s.regs := by
  obtain ⟨-, -, -, hregs, -⟩ := h.keeps
  exact hregs.resolve_left hm

/-- All parts but the registers. -/
def besideRegs : List Part :=
  [.gt, .variant, .dev, .deferred, .spareReqs, .pan, .tim, .ana, .cmp, .pwm, .gl, .safe, .log, .pwr, .ket, .net, .mtr, .hop, .law, .sup, .fw, .mbx,
    .pin, .freeN, .out, .pending]

/-- The registers of the units, those of the log beside them. -/
structure HighRegs (m : Nat → Prop) : Prop where
  high : ∀ a, 0x20000 ≤ a → m a
  log : ∀ a ∈ logRegs, m a

theorem HighRegs.stick {m : Nat → Prop} (hm : HighRegs m) {k : Stk} (hk : 0x20000 ≤ k.reg) : ∀ a ∈ stickRegs k, m a := by
  intro a ha
  obtain rfl | ha := List.mem_cons.1 ha
  · exact hm.high _ hk
  · exact hm.log a ha

namespace State.Writes

variable {m : Nat → Prop} {s t : State}

/-- An operation that moves no register. -/
theorem moved {u : State} (h : s.Writes m t) (k : t.Moves [] besideRegs u) : s.Writes m u := h.of_regs (k.regs_kept (by decide))

theorem bankMod (h : s.Writes m t) {b : Nat} {f : RecBank → RecBank} : s.Writes m (t.bankMod b f) := h.of_regs rfl

section
variable (hm : HighRegs m)
include hm

/-- A write of a register of a unit. -/
theorem highReg (h : s.Writes m t) {a : Nat} (n : Nat) (ha : 0x20000 ≤ a) : s.Writes m (t.setRegN a n) := h.setRegN n (hm.high a ha)

theorem highFld (h : s.Writes m t) {a : Nat} (f : Fld) (n : Nat) (ha : 0x20000 ≤ a) : s.Writes m (t.setFld a f n) := h.setFld f n (hm.high a ha)

/-! ### The recorder -/

theorem recPut (h : s.Writes m t) {b : Nat} {w : DWord} : s.Writes m (t.recPut b w) := by
  unfold State.recPut
  exact (h.moved (.bankPut (.refl t))).bump (hm.high _ (Nat.le_add_right_of_le (by decide)))

theorem bankClose (h : s.Writes m t) {b cause i : Nat} : s.Writes m (t.bankClose b cause i) := by
  unfold State.bankClose
  extract_lets +onlyGivenNames s1
  have hs1 : s.Writes m s1 := (h.bankMod).highFld hm _ _ (Nat.le_add_right_of_le (by decide))
  exact .ite (hs1.highFld hm _ _ (Nat.le_add_right_of_le (by decide))) hs1

theorem bankOpen (h : s.Writes m t) {b i : Nat} {start : Bool} {changed : Word} : s.Writes m (t.bankOpen b i start changed) := by
  unfold State.bankOpen
  extract_lets +onlyGivenNames y n
  refine .ite ((h.bankClose hm).stick _ (hm.stick (by decide))) ?_
  extract_lets +onlyGivenNames base keys s1 s2
  have hs1 : s.Writes m s1 := h.bankMod
  have hs2 : s.Writes m s2 := hs1.moved (.bankPut (.refl s1))
  exact .ite hs2 (hs2.recPut hm)

theorem slotOne (h : s.Writes m t) {b i : Nat} : s.Writes m (t.slotOne b i) := by
  unfold State.slotOne
  extract_lets +onlyGivenNames y
  split
  · exact (h.bankMod).recPut hm
  · exact h

theorem bankDrain (h : s.Writes m t) {b i fuel : Nat} : s.Writes m (State.bankDrain b i fuel t) := by
  induction fuel generalizing t with
  | zero => exact h
  | succ fuel ih =>
    unfold State.bankDrain
    exact .ite h (ih (.ite (h.bankOpen hm) (h.slotOne hm)))

theorem bankView (h : s.Writes m t) {b : Nat} : s.Writes m (t.bankView b) :=
  (h.highReg hm _ (Nat.le_add_right_of_le (by decide))).highFld hm _ _ (Nat.le_add_right_of_le (by decide))

theorem recEnd (h : s.Writes m t) {cause i : Nat} : s.Writes m (t.recEnd cause i) := by
  unfold State.recEnd
  refine .ite h ?_
  extract_lets +onlyGivenNames s1
  have hs1 : s.Writes m s1 := .foldl (fun _ _ hv => .ite ((((hv.bankDrain hm).bankMod).bankClose hm).bankView hm) hv) h
  exact ((hs1.highFld hm _ _ (by decide)).highFld hm _ _ (by decide)).stickIf _ _ (hm.stick (by decide))

/-! ### The converters -/

theorem adcHalt (h : s.Writes m t) : s.Writes m t.adcHalt := by
  unfold State.adcHalt
  extract_lets src s1
  have hs1 : s.Writes m s1 := h.of_regs rfl
  exact .foldl (fun _ _ hv => (hv.highFld hm _ _ (Nat.le_add_right_of_le (by decide))).highFld hm _ _ (Nat.le_add_right_of_le (by decide))) hs1

theorem adcReload (h : s.Writes m t) : s.Writes m t.adcReload := by
  unfold State.adcReload
  extract_lets src s1
  have hs1 : s.Writes m s1 := h.of_regs rfl
  refine .foldl (fun v k hv => ?_) hs1
  split
  · exact .of_regs (hv.bump (hm.high _ (Nat.le_add_right_of_le (by decide)))) rfl
  · exact hv

/-! ### The leg groups -/

theorem dropCarry (h : s.Writes m t) {n : Nat} : s.Writes m (t.dropCarry n) := by
  unfold State.dropCarry
  exact .ite h ((h.moved (.chMod (.refl t))).stick _ (hm.stick (k := Stk.PWM_CARRY_LOST _) (Nat.le_add_right_of_le (by decide))))

theorem allGcmdLow (h : s.Writes m t) : s.Writes m t.allGcmdLow := by
  unfold State.allGcmdLow
  extract_lets +onlyGivenNames u
  have hu : s.Writes m u := .foldl (fun v _ hv => (hv.moved (.forceOff (.refl v))).dropCarry hm) h
  clear_value u
  exact hu.of_regs rfl

end

end State.Writes

end Sys2Proof.Machine
end

section
/-!
PROOFS. The clocks: the keep-alive oscillator, the PLLs and their fallback, the frequency monitors and the DLL (O9, O10, O11).
-/
namespace Sys2Proof.Machine

-- A default argument by `decide` waits for every earlier proof, so the proofs here run one at a time.
set_option Elab.async false

/-! ## One-bit fields -/

section
variable {s : State} (h : s.regsOk = true)
include h

theorem State.flag_setFld (a : Nat) (f : Fld) (n : Nat) (hf : f.lo + f.w ≤ 32) : (s.setFld a f n).flag a f = (n % 2 ^ f.w == 1) := by
  rw [State.flag, State.fld_setFld a f n h hf]

theorem State.flag_setFld_other (a : Nat) (f g : Fld) (n : Nat) (hf : f.lo + f.w ≤ 32) (hg : g.lo + g.w ≤ f.lo ∨ f.lo + f.w ≤ g.lo) :
    (s.setFld a f n).flag a g = s.flag a g := by
  rw [State.flag, State.flag, State.fld_setFld_other a f g n h hf hg]

/-- A change of one field leaves every other register. -/
theorem State.setFld_sameRegs (a : Nat) (f : Fld) (n : Nat) : s.sameRegs (s.setFld a f n) [a] :=
  fun _ hb => State.reg_setFld_ne f n h fun e => hb (by simp [e])

end

/-! ## The keep-alive oscillator -/

theorem keepAliveMeasured {s : State} (ticks : Nat) (hs : s.regsOk = true) :
    ∃ t, exec (.keepcalMeasure ticks) s = .next t ∧
      ((s.qual = 2 ∨ s.qual = 3) → s.flag Reg.CLK_STAT F.CLK_STAT_XT32_OK = true →
        t.tim.keepTicks = ticks ∧ t.flag Reg.GT_STAT F.GT_STAT_KEEPCAL_OK = true ∧ t.qual = s.qual ∧ s.keeps t [.tim, .regs] ∧
          s.sameRegs t [Reg.GT_STAT]) ∧
      (s.qual ≠ 2 → s.qual ≠ 3 → t = s) := by
  have hkeeps := (State.Onward.execKeepcalMeasure (t := s) (ticks := ticks) (own := []) (may := [.tim, .regs]))
  refine ⟨_, rfl, fun hq hx => ?_, fun h2 h3 => by simp [h2, h3]⟩
  have hexec : execKeepcalMeasure ticks s =
      .next ((s.timMod (fun x => { x with keepTicks := ticks })).setFld Reg.GT_STAT F.GT_STAT_KEEPCAL_OK 1) := by
    simp [execKeepcalMeasure, State.clkStat, hq, hx]
  have hc : ((s.qual = 2 || s.qual = 3) && s.clkStat F.CLK_STAT_XT32_OK) = true := by simp [State.clkStat, hq, hx]
  rw [if_pos hc]
  have ht : (s.timMod (fun x => { x with keepTicks := ticks })).regsOk = true := hs
  exact ⟨rfl, State.flag_setFld ht _ _ _ (by decide), State.fld_setFld_other _ _ _ _ ht (by decide) (by decide), hkeeps.keeps hexec,
    State.setFld_sameRegs ht _ _ _⟩

/-- A field of CLK_STAT that is set in a state with the registers of `s`, and the other fields of CLK_STAT. -/
theorem clkStatSet {s : State} (hs : s.regsOk = true) (f g : Fld) (hf : f.lo + f.w ≤ 32 ∧ f.w = 1)
    (hg : g.lo + g.w ≤ f.lo ∨ f.lo + f.w ≤ g.lo) :
    s.sameRegs (s.setFld Reg.CLK_STAT f 1) [Reg.CLK_STAT] ∧ (s.setFld Reg.CLK_STAT f 1).flag Reg.CLK_STAT f = true ∧
      (s.setFld Reg.CLK_STAT f 1).fld Reg.CLK_STAT g = s.fld Reg.CLK_STAT g :=
  ⟨State.setFld_sameRegs hs _ _ _, by rw [State.flag_setFld hs _ _ _ hf.1, hf.2]; rfl, State.fld_setFld_other _ _ _ _ hs hf.1 hg⟩

theorem refclkReturns {s : State} (hs : s.regsOk = true) (hp : s.powered = true) :
    ∃ t, exec .refclkReturn s = .next t ∧ s.keeps t [.regs] ∧ s.sameRegs t [Reg.CLK_STAT] ∧ t.flag Reg.CLK_STAT F.CLK_STAT_REF_OK = true ∧
      t.fld Reg.CLK_STAT F.CLK_STAT_DLL_LOCK = s.fld Reg.CLK_STAT F.CLK_STAT_DLL_LOCK := by
  have hexec : exec .refclkReturn s = .next (s.setFld Reg.CLK_STAT F.CLK_STAT_REF_OK 1) := by
    show execRefclkReturn s = _
    simp [execRefclkReturn, hp]
  exact ⟨_, hexec, (State.Onward.execRefclkReturn (own := [])).keeps hexec, clkStatSet hs _ _ (by decide) (by decide)⟩

/-- The state in which the keep-alive oscillator has stopped (R76). -/
def State.xt32Stopped (s : State) : State :=
  let s1 := (s.setFld Reg.CLK_STAT F.CLK_STAT_XT32_OK 0).setFld Reg.GT_STAT F.GT_STAT_KEEPCAL_OK 0
  if s.qual = 5 then s1.holdKeep else s1

theorem State.xt32Stopped_regs (s : State) : s.xt32Stopped.regs =
    ((s.setFld Reg.CLK_STAT F.CLK_STAT_XT32_OK 0).setFld Reg.GT_STAT F.GT_STAT_KEEPCAL_OK 0).regs := by
  unfold State.xt32Stopped
  split <;> rfl

theorem keepAliveStops {s : State} (hs : s.regsOk = true) (hx : s.flag Reg.CLK_STAT F.CLK_STAT_XT32_OK = true) :
    ∃ t, exec .xt32Stop s = .next t ∧ s.keeps t (.tim :: logParts) ∧ t.flag Reg.CLK_STAT F.CLK_STAT_XT32_OK = false ∧
      t.flag Reg.GT_STAT F.GT_STAT_KEEPCAL_OK = false ∧ t.stuck Stk.XT32_LOST = true ∧ t.qual = s.qual := by
  have hexec : exec .xt32Stop s = .next ((s.xt32Stopped.stick Stk.XT32_LOST).logRec 0x03 (evCode Stk.XT32_LOST.file 5) []) := by
    show execXt32Stop s = _
    simp [execXt32Stop, State.clkStat, hx, State.xt32Stopped]
  have h1 : (s.setFld Reg.CLK_STAT F.CLK_STAT_XT32_OK 0).regsOk = true := State.setFld_ok _ _ _ hs
  have h2 : s.xt32Stopped.regsOk = true := (State.regsOk_of_regs s.xt32Stopped_regs).trans (State.setFld_ok _ _ _ h1)
  have hw : s.xt32Stopped.Writes (· ∈ stickRegs Stk.XT32_LOST) ((s.xt32Stopped.stick Stk.XT32_LOST).logRec 0x03 (evCode Stk.XT32_LOST.file 5) []) :=
    (State.Writes.stick (.refl h2) _ fun _ => id).logRec _ _ _ _ (by decide)
  have hreg (a : Nat) : s.xt32Stopped.reg a = _ := State.reg_of_regs s.xt32Stopped_regs a
  refine ⟨_, hexec, (State.Onward.execXt32Stop (own := [])).keeps hexec, ?_, ?_, ?_, ?_⟩
  · rw [hw.flag _ (by decide), State.flag_of_reg (hreg _), State.flag_of_reg (State.reg_setFld_ne _ _ h1 (by decide)),
      State.flag_setFld hs _ _ _ (by decide)]
    rfl
  · rw [hw.flag _ (by decide), State.flag_of_reg (hreg _), State.flag_setFld h1 _ _ _ (by decide)]
    rfl
  · exact State.logRec_mono _ _ _ _ _ (State.stick_ok _ h2) (by decide) (State.stick_stuck _ h2 (by decide) (by decide))
  · rw [hw.qual (by decide), State.qual, State.fld_of_reg (hreg _), State.fld_setFld_other _ _ _ _ h1 (by decide) (by decide),
      State.fld_of_reg (State.reg_setFld_ne _ _ hs (by decide)), State.qual]

theorem keepAliveRestarts {s : State} (hs : s.regsOk = true) (hk : s.pwr.keepOff = false) :
    ∃ t, exec .xt32Restart s = .next t ∧ s.keeps t [.regs] ∧ s.sameRegs t [Reg.CLK_STAT] ∧ t.flag Reg.CLK_STAT F.CLK_STAT_XT32_OK = true ∧
      t.flag Reg.GT_STAT F.GT_STAT_KEEPCAL_OK = s.flag Reg.GT_STAT F.GT_STAT_KEEPCAL_OK := by
  have hexec : exec .xt32Restart s = .next (s.setFld Reg.CLK_STAT F.CLK_STAT_XT32_OK 1) := by
    show execXt32Restart s = _
    simp [execXt32Restart, hk]
  obtain ⟨hsame, hflag, -⟩ := clkStatSet hs F.CLK_STAT_XT32_OK F.CLK_STAT_DLL_LOCK (by decide) (by decide)
  exact ⟨_, hexec, (State.Onward.execXt32Restart (own := [])).keeps hexec, hsame, hflag, State.flag_of_reg (hsame _ (by decide)) _⟩

/-! ## The dividers -/

theorem fullSearchAsked {s : State} (hp : s.powered = true) :
    ∃ t, exec .dllFull s = .next t ∧ s.keeps t [.tim] ∧ t.tim.dllFull = true ∧ t.tim.epLen = s.tim.epLen := by
  have hexec : exec .dllFull s = .next (s.timMod (fun x => { x with dllFull := true })) := by
    show execDllFull s = _
    simp [execDllFull, hp]
  exact ⟨_, hexec, (State.Onward.execDllFull (own := [])).keeps hexec, rfl, rfl⟩

theorem dividerLoadAsked {s : State} (hs : s.regsOk = true) (hp : s.powered = true) (hg : s.flag Reg.CLK_PDIV_UPD F.CLK_PDIV_UPD_GO = false) :
    ∃ t, exec .clkPdivUpdGo s = .next t ∧ s.keeps t [.regs, .tim] ∧ s.sameRegs t [Reg.CLK_PDIV_UPD] ∧
      t.flag Reg.CLK_PDIV_UPD F.CLK_PDIV_UPD_GO = true ∧ t.tim.goAt = s.gt := by
  have hexec : exec .clkPdivUpdGo s = .next ((s.setFld Reg.CLK_PDIV_UPD F.CLK_PDIV_UPD_GO 1).timMod (fun x => { x with goAt := s.gt })) := by
    show execClkPdivUpdGo s = _
    simp [execClkPdivUpdGo, hp, hg]
  exact ⟨_, hexec, (State.Onward.execClkPdivUpdGo (own := [])).keeps hexec, State.setFld_sameRegs hs _ _ _,
    State.flag_setFld hs Reg.CLK_PDIV_UPD F.CLK_PDIV_UPD_GO 1 (by decide), rfl⟩

theorem State.Writes.divLoad {m : Nat → Prop} {s t : State} (h : s.Writes m t) {a : Nat} {div act : Fld} {ok : Nat → Bool} (ha : m a) :
    s.Writes m (t.divLoad a div act ok) := by
  unfold State.divLoad
  exact .ite (h.setFld _ _ ha) h

/-- What the load of a divider leaves in force. -/
theorem State.divLoad_act {s : State} (h : s.regsOk = true) (a : Nat) (div act : Fld) (ok : Nat → Bool) (hact : act.lo + act.w ≤ 32)
    (hw : act.w = div.w) : (s.divLoad a div act ok).fld a act = if ok (s.fld a div) then s.fld a div else s.fld a act := by
  unfold State.divLoad
  split
  · rw [State.fld_setFld a act _ h hact, hw]
    exact Nat.mod_eq_of_lt (Nat.mod_lt _ (by positivity))
  · rfl

/-- The registers of the units and the log's. -/
abbrev unitRegs (a : Nat) : Prop := a ∈ logRegs ∨ 0x20000 ≤ a

theorem unitRegs_high : HighRegs unitRegs := ⟨fun _ => .inr, fun _ => .inl⟩

/-- The registers that the load of the dividers writes after that of CLK_PDIV_ADC. -/
abbrev divRegs (a : Nat) : Prop := a ∈ [Reg.CLK_PDIV_SDF, Reg.CLK_PDIV_REC, Reg.CLK_PDIV_UPD] ∨ a ∈ logRegs ∨ 0x14000 ≤ a

theorem divRegs_high : HighRegs divRegs := ⟨fun _ h => .inr (.inr (le_trans (by decide) h)), fun _ h => .inr (.inl h)⟩

theorem dividersLoad {s : State} (hs : s.regsOk = true) (hp : s.powered = true) (hg : s.flag Reg.CLK_PDIV_UPD F.CLK_PDIV_UPD_GO = true)
    (hq : s.qual ≠ 5) :
    ∃ t, exec .pdivLoad s = .next t ∧ s.keeps t ([.gt, .ana, .hop] ++ logParts) ∧ t.flag Reg.CLK_PDIV_UPD F.CLK_PDIV_UPD_GO = false ∧
      t.fld Reg.CLK_PDIV_ADC F.CLK_PDIV_ADC_ACT =
        (let d := s.fld Reg.CLK_PDIV_ADC F.CLK_PDIV_ADC_DIV
         if 2 ≤ d ∧ d ≤ 4 then d else s.fld Reg.CLK_PDIV_ADC F.CLK_PDIV_ADC_ACT) ∧
      t.gt = (s.gtTo (s.epochFrom (s.tim.goAt + 1))).gt := by
  have hc : ¬ (!s.powered || !s.flag Reg.CLK_PDIV_UPD F.CLK_PDIV_UPD_GO || s.qual = 5) = true := by simp [hp, hg, hq]
  refine ⟨_, rfl, (State.Onward.execPdivLoad (own := []) (by decide)).keeps rfl, ?_⟩
  rw [if_neg hc]
  extract_lets +onlyGivenNames s1 s2 s3 s4 s5 on src s5b s6
  have hs1 : s1.regsOk = true := (State.regsOk_of_regs (State.gtTo_regs s _)).trans hs
  have hs2 : s2.regsOk = true := (State.Writes.divLoad (m := fun _ => True) (.refl hs1) trivial).ok
  have hs4 : s2.Writes divRegs s4 := .divLoad (.divLoad (.refl hs2) (.inl (by decide))) (.inl (by decide))
  have hs5 : s2.Writes divRegs s5 :=
    .foldl (fun v k hv => hv.divLoad (.inr (.inr (le_trans (by decide) (Nat.le_add_right 0x15000 (0x4 * k)))))) hs4
  have hs5b : s2.Writes divRegs s5b := hs5.of_regs rfl
  have hgo : (s5b.setFld Reg.CLK_PDIV_UPD F.CLK_PDIV_UPD_GO 0).flag Reg.CLK_PDIV_UPD F.CLK_PDIV_UPD_GO = false :=
    State.flag_setFld hs5b.ok _ _ _ (by decide)
  have hs6 : (s5b.setFld Reg.CLK_PDIV_UPD F.CLK_PDIV_UPD_GO 0).Writes unitRegs s6 := .adcReload unitRegs_high (.refl (State.setFld_ok _ _ _ hs5b.ok))
  have hm5 : s1.Moves [] (.ana :: .hop :: logParts) s5 := .foldl (fun _ _ hv => hv.divLoad) (.divLoad (.divLoad (.divLoad (.refl s1))))
  have hm5b : s1.Moves [] (.ana :: .hop :: logParts) s5b := hm5.set_ana (fun z => by simpa [AnaState.Sized, src] using z)
  have hm6 : s1.Moves [] (.ana :: .hop :: logParts) s6 := hm5b.setFld.adcReload
  have hend : s6.Writes unitRegs (if s6.fld Reg.CLK_PDIV_REC F.CLK_PDIV_REC_ACT = 0 && s.fld Reg.CLK_PDIV_REC F.CLK_PDIV_REC_ACT ≠ 0
      then s6.recEnd 4 (s6.gt / 5 * 5) else s6) := .ite (.recEnd unitRegs_high (.refl hs6.ok)) (.refl hs6.ok)
  refine ⟨?_, ?_, (State.Moves.ite hm6.recEnd hm6).gt_kept (by decide)⟩
  · exact (hend.flag _ (by decide)).trans ((hs6.flag _ (by decide)).trans hgo)
  · have hsame : (s5b.setFld Reg.CLK_PDIV_UPD F.CLK_PDIV_UPD_GO 0).fld Reg.CLK_PDIV_ADC F.CLK_PDIV_ADC_ACT =
        s2.fld Reg.CLK_PDIV_ADC F.CLK_PDIV_ADC_ACT := (hs5b.setFld F.CLK_PDIV_UPD_GO 0 (.inl (by decide))).fld _ (by decide)
    have hgtTo (f : Fld) : s1.fld Reg.CLK_PDIV_ADC f = s.fld Reg.CLK_PDIV_ADC f := State.fld_of_reg (State.reg_of_regs (State.gtTo_regs s _) _) f
    have hact := State.divLoad_act hs1 Reg.CLK_PDIV_ADC F.CLK_PDIV_ADC_DIV F.CLK_PDIV_ADC_ACT (fun n => 2 ≤ n && n ≤ 4) (by decide) rfl
    rw [hgtTo, hgtTo] at hact
    rw [hend.fld _ (by decide), hs6.fld _ (by decide), hsame, hact]
    simp only [Bool.and_eq_true, decide_eq_true_eq]

/-- Settles O9, one flag or divider at a time. -/
theorem keepAliveAndClockFlags : Obligations.KeepAliveAndClockFlags := by
  unfold Obligations.KeepAliveAndClockFlags
  exact ⟨fun s ticks hs => keepAliveMeasured ticks hs, fun s hs hp => refclkReturns hs hp, fun s hs hx => keepAliveStops hs hx,
    fun s hs hk => keepAliveRestarts hs hk, fun s hp => fullSearchAsked hp, fun s hs hp hg => dividerLoadAsked hs hp hg,
    fun s hs hp hg hq => dividersLoad hs hp hg hq⟩

/-! ## The PLLs -/

/-- A set sticky bit stays set when GT changes its tier. -/
theorem State.enterQual_mono {s : State} (h : s.regsOk = true) (q : Nat) {k : Stk} (hk : k.reg ≠ Reg.LOG_DROPCNT) (hg : k.reg ≠ Reg.GT_STAT)
    (hs : s.stuck k = true) : (s.enterQual q).stuck k = true := by
  have hq : (s.setQual q).stuck k = true := (State.stuck_of_reg (State.reg_setFld_ne _ _ h hg)).trans hs
  have hok : (s.setQual q).regsOk = true := State.setFld_ok _ _ _ h
  have h1 : (State.stickIf (s.setQual q) (3 ≤ q && !(q = 4 && s.tim.relockCmd)) Stk.GT_HOLDOVER).stuck k = true := by
    unfold State.stickIf
    split
    · exact State.stick_mono _ _ hok (by decide) hk hq
    · exact hq
  obtain ⟨p, -, -, ⟨e, -⟩ | ⟨-, e | e⟩⟩ := s.enterQual_eq q
  · rw [e, hs]
  · rw [e, h1]
  · rw [e]
    exact State.logRec_mono _ _ _ _ _ (State.stickIf_ok _ _ hok) hk h1

theorem pllLocks {s : State} (net : Bool) (hs : s.regsOk = true) (hp : s.powered = true) :
    ∃ t, exec (.pllLock net) s = .next t ∧ s.keeps t [.regs, .tim] ∧ s.sameRegs t [Reg.CLK_STAT] ∧
      t.flag Reg.CLK_STAT (if net then F.CLK_STAT_NETPLL_LOCK else F.CLK_STAT_SYSPLL_LOCK) = true ∧
      t.fld Reg.CLK_STAT F.CLK_STAT_ON_FALLBACK = s.fld Reg.CLK_STAT F.CLK_STAT_ON_FALLBACK := by
  cases net with
  | true =>
    have hexec : exec (.pllLock true) s =
        .next ((s.setFld Reg.CLK_STAT F.CLK_STAT_NETPLL_LOCK 1).timMod (fun x => { x with netLockSince := s.gt })) := by
      show execPllLock true s = _
      simp [execPllLock, hp]
    exact ⟨_, hexec, (State.Onward.execPllLock (own := [])).keeps hexec,
      clkStatSet hs F.CLK_STAT_NETPLL_LOCK F.CLK_STAT_ON_FALLBACK (by decide) (by decide)⟩
  | false =>
    have hexec : exec (.pllLock false) s =
        .next ((s.setFld Reg.CLK_STAT F.CLK_STAT_SYSPLL_LOCK 1).timMod (fun x => { x with sysLockSince := s.gt })) := by
      show execPllLock false s = _
      simp [execPllLock, hp]
    exact ⟨_, hexec, (State.Onward.execPllLock (own := [])).keeps hexec,
      clkStatSet hs F.CLK_STAT_SYSPLL_LOCK F.CLK_STAT_ON_FALLBACK (by decide) (by decide)⟩

/-- A PLL has lost its lock: its flag, and the islands that run from their fallback. -/
def State.pllLost (s : State) (f : Fld) (islands : Nat) : State :=
  (s.setFld Reg.CLK_STAT f 0).setFld Reg.CLK_STAT F.CLK_STAT_ON_FALLBACK (s.fld Reg.CLK_STAT F.CLK_STAT_ON_FALLBACK ||| islands)

section
variable {s : State} (hs : s.regsOk = true) (f : Fld) (islands : Nat)
include hs

theorem State.pllLost_ok : (s.pllLost f islands).regsOk = true := State.setFld_ok _ _ _ (State.setFld_ok _ _ _ hs)

theorem State.pllLost_writes : s.Writes (· ∈ [Reg.CLK_STAT]) (s.pllLost f islands) :=
  .setFld (.setFld (.refl hs) _ _ (by decide)) _ _ (by decide)

theorem State.pllLost_flag (hf : f.lo + f.w ≤ 8 ∧ f.w = 1) : (s.pllLost f islands).flag Reg.CLK_STAT f = false := by
  have hlo : f.lo + f.w ≤ F.CLK_STAT_ON_FALLBACK.lo := hf.1
  rw [State.pllLost, State.flag_setFld_other (State.setFld_ok _ _ _ hs) _ _ _ _ (by decide) (.inl hlo),
    State.flag_setFld hs _ _ _ (hf.1.trans (by decide)), hf.2]
  rfl

theorem State.pllLost_fallback (hi : islands < 32) : (s.pllLost f islands).fld Reg.CLK_STAT F.CLK_STAT_ON_FALLBACK =
    s.fld Reg.CLK_STAT F.CLK_STAT_ON_FALLBACK ||| islands := by
  have hlt : s.fld Reg.CLK_STAT F.CLK_STAT_ON_FALLBACK < 2 ^ 5 := Nat.mod_lt _ (by decide)
  rw [State.pllLost, State.fld_setFld _ _ _ (State.setFld_ok _ _ _ hs) (by decide)]
  exact Nat.mod_eq_of_lt (Nat.or_lt_two_pow hlt hi)

end

theorem sysPllUnlocks {s : State} (hs : s.regsOk = true) (hp : s.powered = true) (hl : s.flag Reg.CLK_STAT F.CLK_STAT_SYSPLL_LOCK = true) :
    ∃ t, exec .syspllUnlock s = .next t ∧ s.keeps t ([.tim, .pan] ++ logParts) ∧ t.flag Reg.CLK_STAT F.CLK_STAT_SYSPLL_LOCK = false ∧
      t.fld Reg.CLK_STAT F.CLK_STAT_ON_FALLBACK = s.fld Reg.CLK_STAT F.CLK_STAT_ON_FALLBACK ||| 15 ∧ t.stuck Stk.SYSPLL_UNLOCK = true ∧
      t.qual = (if s.qual = 4 then 5 else s.qual) := by
  let u := ((s.pllLost F.CLK_STAT_SYSPLL_LOCK 15).stick Stk.SYSPLL_UNLOCK).logRec 0x03 (evCode Stk.SYSPLL_UNLOCK.file 1) []
  have hc : ¬ (!s.powered || !s.clkStat F.CLK_STAT_SYSPLL_LOCK) = true := by simp [State.clkStat, hp, hl]
  have hexec : exec .syspllUnlock s = .next (if u.qual = 4 then u.holdKeep.enterQual 5 else u) := congrArg Host.Outcome.next (if_neg hc)
  have h1 := State.pllLost_ok hs F.CLK_STAT_SYSPLL_LOCK 15
  have hw : (s.pllLost F.CLK_STAT_SYSPLL_LOCK 15).Writes (· ∈ qualRegs) u := .logRec (.stick (.refl h1) _ (by decide)) _ _ _ _ (by decide)
  have hstuck : u.stuck Stk.SYSPLL_UNLOCK = true :=
    State.logRec_mono _ _ _ _ _ (State.stick_ok _ h1) (by decide) (State.stick_stuck _ h1 (by decide) (by decide))
  have hqual : u.qual = s.qual := by
    have hw' : s.Writes (· ∈ Reg.CLK_STAT :: stickRegs Stk.SYSPLL_UNLOCK) u :=
      .logRec (.stick ((State.pllLost_writes hs _ _).mono (by simp)) _ fun _ => List.mem_cons_of_mem _) _ _ _ _ (by decide)
    exact hw'.qual (by decide)
  clear_value u
  have hk : u.holdKeep.regsOk = true := hw.ok
  have hwk : (s.pllLost F.CLK_STAT_SYSPLL_LOCK 15).Writes (· ∈ qualRegs) u.holdKeep := hw.of_regs rfl
  have hwt : (s.pllLost F.CLK_STAT_SYSPLL_LOCK 15).Writes (· ∈ qualRegs) (if u.qual = 4 then u.holdKeep.enterQual 5 else u) :=
    .ite (hwk.enterQual 5 fun _ => id) hw
  refine ⟨_, hexec, (State.Onward.execSyspllUnlock (own := []) (by decide)).keeps hexec, ?_, ?_, ?_, ?_⟩
  · exact (hwt.flag _ (by decide)).trans (State.pllLost_flag hs _ _ (by decide))
  · exact (hwt.fld _ (by decide)).trans (State.pllLost_fallback hs _ _ (by decide))
  · split
    · exact State.enterQual_mono hk 5 (by decide) (by decide) hstuck
    · exact hstuck
  · rw [hqual]
    split
    · exact State.enterQual_qual hk (by decide)
    · exact hqual

/-- The registers that a lost link writes. -/
def linkRegs : List Nat := [Reg.NET_TLSTAT, Reg.NET_STAT, Reg.NET_STK, Reg.LOG_DROPCNT, Stk.LOG_QOVR.reg]

theorem State.Writes.setPState {m : Nat → Prop} {s t : State} (h : s.Writes m t) (p v : Nat) (hm : m Reg.NET_STAT) : s.Writes m (t.setPState p v) :=
  h.setFld _ _ hm

theorem State.Writes.linkLoss {m : Nat → Prop} {s t : State} (h : s.Writes m t) (p : Nat) (hm : ∀ a ∈ linkRegs, m a) :
    s.Writes m (t.linkLoss p) := by
  have hk : ∀ a ∈ stickRegs Stk.NET_LINK, a ∈ linkRegs := by decide
  have hl : ∀ a ∈ logRegs, a ∈ linkRegs := by decide
  unfold State.linkLoss
  refine .ite (h.setFld _ _ (hm _ (by decide))) (.ite h ?_)
  extract_lets +onlyGivenNames s1 s2
  have hs1 : s.Writes m s1 := (h.setBit p false (hm _ (by decide))).moved (.ptpMod (.refl _))
  have hs2 : s.Writes m s2 := .ite (hs1.setPState _ _ (hm _ (by decide))) hs1
  exact (hs2.stick _ fun a ha => hm a (hk a ha)).logRec _ _ _ _ fun a ha => hm a (hl a ha)

theorem netPllUnlocks {s : State} (hs : s.regsOk = true) (hp : s.powered = true) (hl : s.flag Reg.CLK_STAT F.CLK_STAT_NETPLL_LOCK = true) :
    ∃ t, exec .netpllUnlock s = .next t ∧ s.keeps t (.net :: logParts) ∧ t.flag Reg.CLK_STAT F.CLK_STAT_NETPLL_LOCK = false ∧
      t.fld Reg.CLK_STAT F.CLK_STAT_ON_FALLBACK = s.fld Reg.CLK_STAT F.CLK_STAT_ON_FALLBACK ||| 16 ∧ t.stuck Stk.NETPLL_UNLOCK = true ∧
      t.qual = s.qual := by
  let u := ((s.pllLost F.CLK_STAT_NETPLL_LOCK 16).stick Stk.NETPLL_UNLOCK).logRec 0x03 (evCode Stk.NETPLL_UNLOCK.file 2) []
  have hc : ¬ (!s.powered || !s.clkStat F.CLK_STAT_NETPLL_LOCK) = true := by simp [State.clkStat, hp, hl]
  have hexec : exec .netpllUnlock s = .next ((u.linkLoss 0).linkLoss 1) := congrArg Host.Outcome.next (if_neg hc)
  have h1 := State.pllLost_ok hs F.CLK_STAT_NETPLL_LOCK 16
  have hw : (s.pllLost F.CLK_STAT_NETPLL_LOCK 16).Writes (· ∈ qualRegs) u := .logRec (.stick (.refl h1) _ (by decide)) _ _ _ _ (by decide)
  have hstuck : u.stuck Stk.NETPLL_UNLOCK = true :=
    State.logRec_mono _ _ _ _ _ (State.stick_ok _ h1) (by decide) (State.stick_stuck _ h1 (by decide) (by decide))
  have hqual : u.qual = s.qual := by
    have hw' : s.Writes (· ∈ Reg.CLK_STAT :: stickRegs Stk.NETPLL_UNLOCK) u :=
      .logRec (.stick ((State.pllLost_writes hs _ _).mono (by simp)) _ fun _ => List.mem_cons_of_mem _) _ _ _ _ (by decide)
    exact hw'.qual (by decide)
  clear_value u
  have ht : u.Writes (· ∈ linkRegs) ((u.linkLoss 0).linkLoss 1) := .linkLoss (.linkLoss (.refl hw.ok) 0 fun _ => id) 1 fun _ => id
  refine ⟨_, hexec, (State.Onward.execNetpllUnlock (own := []) (by decide)).keeps hexec, ?_, ?_, ?_, (ht.qual (by decide)).trans hqual⟩
  · exact (ht.flag _ (by decide)).trans ((hw.flag _ (by decide)).trans (State.pllLost_flag hs _ _ (by decide)))
  · exact (ht.fld _ (by decide)).trans ((hw.fld _ (by decide)).trans (State.pllLost_fallback hs _ _ (by decide)))
  · exact (ht.stuck (by decide)).trans hstuck

/-- Masking a field of five bits with the islands of the other PLL clears those of this one. -/
theorem fallback_clear {f : Nat} (hf : f < 32) (net : Bool) :
    f &&& (31 - if net then 16 else 15) < 32 ∧ (f &&& (31 - if net then 16 else 15)) &&& (if net then 16 else 15) = 0 := by
  revert f
  cases net <;> decide

theorem islandsReturn {s : State} (net : Bool) (hs : s.regsOk = true) (hp : s.powered = true)
    (hl : s.flag Reg.CLK_STAT (if net then F.CLK_STAT_NETPLL_LOCK else F.CLK_STAT_SYSPLL_LOCK) = true)
    (hf : s.fld Reg.CLK_STAT F.CLK_STAT_ON_FALLBACK &&& (if net then 16 else 15) ≠ 0) :
    ∃ t, exec (.fallbackReturn net) s = .next t ∧ s.keeps t [.gt, .regs] ∧ s.sameRegs t [Reg.CLK_STAT] ∧
      t.fld Reg.CLK_STAT F.CLK_STAT_ON_FALLBACK &&& (if net then 16 else 15) = 0 ∧
      t.gt = (s.gtTo (s.epochFrom ((if net then s.tim.netLockSince else s.tim.sysLockSince) + 500000))).gt := by
  have hc : ¬ (!s.powered || !s.clkStat (if net then F.CLK_STAT_NETPLL_LOCK else F.CLK_STAT_SYSPLL_LOCK) ||
      s.fld Reg.CLK_STAT F.CLK_STAT_ON_FALLBACK &&& (if net then 16 else 15) = 0) = true := by
    simp [State.clkStat, hp, hl, hf]
  let u := s.gtTo (s.epochFrom ((if net then s.tim.netLockSince else s.tim.sysLockSince) + tickMs))
  let v := s.fld Reg.CLK_STAT F.CLK_STAT_ON_FALLBACK &&& (31 - if net then 16 else 15)
  have hexec : exec (.fallbackReturn net) s = .next (u.setFld Reg.CLK_STAT F.CLK_STAT_ON_FALLBACK v) := congrArg Host.Outcome.next (if_neg hc)
  have hu : u.regs = s.regs := State.gtTo_regs _ _
  have huok : u.regsOk = true := (State.regsOk_of_regs hu).trans hs
  obtain ⟨hlt, hclear⟩ := fallback_clear (Nat.mod_lt (s.regN Reg.CLK_STAT / 2 ^ 8) (by decide : 0 < 2 ^ 5)) net
  refine ⟨_, hexec, (State.Onward.execFallbackReturn (own := []) (by decide)).keeps hexec, fun a ha => ?_, ?_, rfl⟩
  · exact (State.setFld_sameRegs huok _ _ _ a ha).trans (State.reg_of_regs hu a)
  · rw [State.fld_setFld _ _ _ huok (by decide)]
    exact (congrArg (· &&& (if net then 16 else 15)) (Nat.mod_eq_of_lt hlt)).trans hclear

/-! ## The frequency monitors -/

/-- The windows out of range in a row, after one of `count` cycles (R42). -/
def State.windowsOut (s : State) (island : Fin 10) (count : Nat) : Nat :=
  if s.inRange island count then 0 else min 2 (s.tim.outOfRange.at island + 1)

/-- A window of an island whose clock runs: its count, and a breach with the second window out of range. -/
theorem freqMonitor_eq {s : State} {island : Fin 10} (count : Nat) (hp : s.powered = true)
    (he : 5 ≤ island.val → island.val < 8 → 4 * (island.val - 5) < s.engines) :
    ∃ b, exec (.freqMonitorWindow island count) s =
      .next (let t := s.timMod (fun x => { x with outOfRange := x.outOfRange.mod island (fun _ => s.windowsOut island count), below := b })
        if s.windowsOut island count = 2 then t.breachOf 3 0 t.nextCommit else t) := by
  have hc : ¬ (!s.powered || (5 ≤ island.val && island.val < 8 && s.engines ≤ 4 * (island.val - 5))) = true := by
    simp only [hp, Bool.not_true, Bool.false_or, Bool.and_eq_true, decide_eq_true_eq, not_and, not_le, and_imp]
    exact he
  exact ⟨_, congrArg Host.Outcome.next (if_neg hc)⟩

theorem islandWindow {s : State} (island : Fin 10) (count : Nat) (hs : s.regsOk = true) (hp : s.powered = true)
    (he : 5 ≤ island.val → island.val < 8 → 4 * (island.val - 5) < s.engines) (hlen : s.tim.outOfRange.length = 10) :
    ∃ t, exec (.freqMonitorWindow island count) s = .next t ∧ s.keeps t ([.tim, .pan] ++ logParts) ∧
      (s.inRange island.val count = true → t.tim.outOfRange.at island.val = 0 ∧ t.regs = s.regs ∧ t.pan = s.pan) ∧
      (s.inRange island.val count = false → s.tim.outOfRange.at island.val = 0 → t.tim.outOfRange.at island.val = 1 ∧ t.pan = s.pan) ∧
      (s.inRange island.val count = false → 1 ≤ s.tim.outOfRange.at island.val → t.tim.outOfRange.at island.val = 2 ∧ t.stuck (breachStk 3) = true) ∧
      ∀ k, k ≠ island.val → t.tim.outOfRange.at k = s.tim.outOfRange.at k := by
  obtain ⟨b, hexec⟩ := freqMonitor_eq count hp he
  have hkeeps := (State.Onward.execFreqMonitorWindow (own := []) (may := [.tim, .pan] ++ logParts) (by decide)).keeps hexec
  let u := s.timMod (fun x => { x with outOfRange := x.outOfRange.mod island (fun _ => s.windowsOut island count), below := b })
  have hsame : u.tim.outOfRange.at island = s.windowsOut island count := Tab.at_mod_same _ _ _ (by omega)
  have hother (k : Nat) (hk : k ≠ island.val) : u.tim.outOfRange.at k = s.tim.outOfRange.at k := Tab.at_mod_ne _ _ hk
  have htim : (if s.windowsOut island count = 2 then u.breachOf 3 0 u.nextCommit else u).tim = u.tim := by
    split
    · exact State.breachOf_tim _ _ _ _
    · rfl
  refine ⟨_, hexec, hkeeps, fun hin => ?_, fun hin h0 => ?_, fun hin h1 => ?_, fun k hk => ?_⟩
  · have hw : s.windowsOut island count = 0 := if_pos hin
    refine ⟨(congrArg (fun x => x.outOfRange.at island) htim).trans (hsame.trans hw), ?_⟩
    simp [hw]
  · have hw : s.windowsOut island count = 1 := by simp [State.windowsOut, hin, h0]
    refine ⟨(congrArg (fun x => x.outOfRange.at island) htim).trans (hsame.trans hw), ?_⟩
    simp [hw]
  · have hw : s.windowsOut island count = 2 := by
      simp only [State.windowsOut, hin, Bool.false_eq_true, if_false]
      omega
    refine ⟨(congrArg (fun x => x.outOfRange.at island) htim).trans (hsame.trans hw), ?_⟩
    have huok : u.regsOk = true := hs
    exact (congrArg (State.stuck · (breachStk 3)) (if_pos hw)).trans (State.stuck_breachOf huok 3 0 _ (by decide))
  · exact (congrArg (fun x => x.outOfRange.at k) htim).trans (hother k hk)

/-- Settles O10: the PLLs by their flags and fallback islands, the monitors by their counts. -/
theorem pllLossAndFrequencyMonitor : Obligations.PllLossAndFrequencyMonitor := by
  unfold Obligations.PllLossAndFrequencyMonitor
  exact ⟨⟨fun s net hs hp => pllLocks net hs hp, fun s hs hp hl => sysPllUnlocks hs hp hl, fun s hs hp hl => netPllUnlocks hs hp hl,
    fun s net hs hp hl hf => islandsReturn net hs hp hl hf⟩, fun s island count hs hp he hlen => islandWindow island count hs hp he hlen⟩

end Sys2Proof.Machine
end

section
/-!
PROOFS. The lock of the DLL and its loss (O11).
-/
namespace Sys2Proof.Machine

-- A default argument by `decide` waits for every earlier proof, so the proofs here run one at a time.
set_option Elab.async false

theorem State.Moves.dev_kept {own may : List Part} {s t : State} (h : s.Moves own may t) (hm : .dev ∉ may) : t.dev = s.dev := by
  obtain ⟨-, -, hdev, -⟩ := h.keeps
  exact hdev.resolve_left hm

theorem State.Moves.safe_kept {own may : List Part} {s t : State} (h : s.Moves own may t) (hm : .safe ∉ may) : t.safe = s.safe := by
  obtain ⟨-, -, -, -, -, -, -, -, -, -, -, -, hsafe, -⟩ := h.keeps
  exact hsafe.resolve_left hm

/-! ## The loss -/

/-- The registers that the loss of the DLL writes, beside CLK_STAT. -/
abbrev lossRegs (a : Nat) : Prop := a ∈ breachRegs ∨ a ∈ qualRegs ∨ 0x20000 ≤ a

theorem lossRegs_high : HighRegs lossRegs :=
  ⟨fun _ h => .inr (.inr h), fun a h => .inl ((by decide : ∀ a ∈ logRegs, a ∈ breachRegs) a h)⟩

/-- What the loss of the DLL leaves (R76). -/
structure State.DllLost (s t : State) : Prop where
  ok : t.regsOk = true
  halted : t.tim.pwmHalted = true
  command : t.tim.relockCmd = false
  flag : t.flag Reg.CLK_STAT F.CLK_STAT_DLL_LOCK = false
  others : ∀ g : Fld, 1 ≤ g.lo → t.flag Reg.CLK_STAT g = s.flag Reg.CLK_STAT g
  breach : t.stuck (breachStk 3) = true
  sticky : ∀ k, k.reg = Reg.CLK_STK → s.stuck k = true → t.stuck k = true
  tier : t.qual = s.lossTier

theorem State.lossTier_lt (s : State) : s.lossTier < 8 := by
  unfold State.lossTier
  split <;> decide

theorem State.dllLoss_spec {s : State} (hs : s.regsOk = true) : s.DllLost s.dllLoss := by
  unfold State.dllLoss
  extract_lets +onlyGivenNames s1 src s2
  have hs1 : s1.regsOk = true := State.setFld_ok _ _ _ hs
  have hs2 : s1.Writes unitRegs s2 := .of_regs (.refl hs1) rfl
  have htim : s2.tim.pwmHalted = true ∧ s2.tim.relockCmd = false := ⟨rfl, rfl⟩
  have hflag : s1.flag Reg.CLK_STAT F.CLK_STAT_DLL_LOCK = false := State.flag_setFld hs _ _ _ (by decide)
  have hothers (g : Fld) (hg : 1 ≤ g.lo) : s1.flag Reg.CLK_STAT g = s.flag Reg.CLK_STAT g :=
    State.flag_setFld_other hs _ _ _ _ (by decide) (.inr hg)
  have hsticky (k : Stk) (hk : k.reg = Reg.CLK_STK) : s1.stuck k = s.stuck k :=
    State.stuck_of_reg (State.reg_setFld_ne _ _ hs (by rw [hk]; decide))
  clear_value s1 s2
  let s3 := ((s2.allGcmdLow).adcHalt).recEnd 4 (s.gt / 5 * 5)
  have hs3 : s1.Writes unitRegs s3 := .recEnd unitRegs_high (.adcHalt unitRegs_high (.allGcmdLow unitRegs_high hs2))
  have ht3 : s3.tim = s2.tim :=
    (State.Moves.recEnd (own := []) (may := besidePan) (.adcHalt (.allGcmdLow (.refl s2)))).tim_kept (by decide)
  let s4 := s3.breachOf 3 0 s.nextCommit
  have hs4 : s1.Writes lossRegs s4 := (hs3.mono fun _ h => h.elim (lossRegs_high.log _) (lossRegs_high.high _)).breachOf _ _ _ fun _ => .inl
  have ht4 : s4.tim = s2.tim := (State.breachOf_tim _ _ _ _).trans ht3
  have hbreach : s4.stuck (breachStk 3) = true := State.stuck_breachOf hs3.ok 3 0 _ (by decide)
  have hclk (k : Stk) (hk : k.reg = Reg.CLK_STK) (h : s.stuck k = true) : s4.stuck k = true := by
    have h3 : s3.stuck k = true := (hs3.stuck (by rw [hk]; decide)).trans ((hsticky k hk).trans h)
    have hw : s3.Writes (· ∈ breachRegs) s4 := .breachOf (.refl hs3.ok) _ _ _ fun _ => id
    exact (hw.stuck (by rw [hk]; decide)).trans h3
  show s.DllLost (s4.enterQual s.lossTier)
  clear_value s3 s4
  obtain ⟨g, hg⟩ := s4.enterQual_tim s.lossTier
  have hw := hs4.enterQual s.lossTier fun _ h => .inr (.inl h)
  refine ⟨hw.ok, ?_, ?_, (hw.flag _ (by decide)).trans hflag, fun g h => (hw.flag _ (by decide)).trans (hothers g h),
    State.enterQual_mono hs4.ok _ (by decide) (by decide) hbreach, fun k hk h => ?_, State.enterQual_qual hs4.ok s.lossTier_lt⟩
  · rw [hg, ht4, htim.1]
  · rw [hg, ht4, htim.2]
  · exact State.enterQual_mono hs4.ok _ (by rw [hk]; decide) (by rw [hk]; decide) (hclk k hk h)

/-- The loss of a clock of the DLL: its sticky bit, its record, and the loss of the DLL (R76, R77). -/
theorem State.clockLost_spec {s : State} (hs : s.regsOk = true) (k : Stk) (hk : k.reg = Reg.CLK_STK) (hb : k.bit < 32) (e : Nat) :
    let t := s.clockLost k e
    t.tim.pwmHalted = true ∧ t.tim.relockCmd = false ∧ t.flag Reg.CLK_STAT F.CLK_STAT_DLL_LOCK = false ∧
      (∀ g : Fld, 1 ≤ g.lo → t.flag Reg.CLK_STAT g = s.flag Reg.CLK_STAT g) ∧ t.stuck (breachStk 3) = true ∧ t.stuck k = true ∧
      (s.tim.relockCmd = true → t.stuck Stk.GT_HOLDOVER = true) ∧ t.qual = s.lossTier := by
  have hkd : k.reg ≠ Reg.LOG_DROPCNT := by rw [hk]; decide
  unfold State.clockLost
  extract_lets +onlyGivenNames s1 s2 s3
  have hs1 : s1.regs = s.regs := by
    dsimp only [s1]
    split <;> rfl
  have hcmd : s1.tim.relockCmd = s.tim.relockCmd := by
    dsimp only [s1]
    split <;> rfl
  have hok1 : s1.regsOk = true := (State.regsOk_of_regs hs1).trans hs
  have hreg (g : Fld) : s1.flag Reg.CLK_STAT g = s.flag Reg.CLK_STAT g := State.flag_of_reg (State.reg_of_regs hs1 _) g
  clear_value s1
  let u := (s1.stick k).logRec 0x03 (evCode k.file e) []
  have hu : s1.Writes (· ∈ stickRegs k) u :=
    .logRec (.stick (.refl hok1) _ fun _ => id) _ _ _ _ (by simp [stickRegs, logRegs])
  have huk : u.stuck k = true := State.logRec_mono _ _ _ _ _ (State.stick_ok _ hok1) hkd (State.stick_stuck _ hok1 hb hkd)
  have huf (g : Fld) : u.flag Reg.CLK_STAT g = s.flag Reg.CLK_STAT g :=
    (hu.flag g (by simp only [stickRegs, hk]; decide)).trans (hreg g)
  have hl : s2 = u.dllLoss := rfl
  clear_value u s2
  subst hl
  have h := State.dllLoss_spec hu.ok
  have h3 : u.dllLoss.Writes (· ∈ stickRegs Stk.GT_HOLDOVER) s3 := .ite (.stick (.refl h.ok) _ fun _ => id) (.refl h.ok)
  have ht3 : s3.tim = u.dllLoss.tim := by
    dsimp only [s3]
    split
    · exact State.stick_tim _ _
    · rfl
  have hk3 : s3.stuck k = true := by
    dsimp only [s3]
    split
    · exact State.stick_mono _ _ h.ok (by decide) hkd (h.sticky k hk huk)
    · exact h.sticky k hk huk
  have hover : s.tim.relockCmd = true → s3.stuck Stk.GT_HOLDOVER = true := by
    intro hr
    exact (congrArg (State.stuck · Stk.GT_HOLDOVER) (if_pos (hcmd.trans hr))).trans (State.stick_stuck _ h.ok (by decide) (by decide))
  clear_value s3
  have hend : s3.Writes (fun _ => False) (if s3.qual = 5 then s3.holdKeep else s3) := .ite (.of_regs (.refl h3.ok) rfl) (.refl h3.ok)
  have htend : (if s3.qual = 5 then s3.holdKeep else s3).tim.pwmHalted = s3.tim.pwmHalted ∧
      (if s3.qual = 5 then s3.holdKeep else s3).tim.relockCmd = s3.tim.relockCmd := by
    split
    · exact ⟨rfl, rfl⟩
    · exact ⟨rfl, rfl⟩
  refine ⟨?_, ?_, ?_, fun g hg => ?_, ?_, (hend.stuck id).trans hk3, fun hr => (hend.stuck id).trans (hover hr), ?_⟩
  · rw [htend.1, ht3, h.halted]
  · rw [htend.2, ht3, h.command]
  · exact (hend.flag _ id).trans ((h3.flag _ (by decide)).trans h.flag)
  · exact (hend.flag _ id).trans ((h3.flag _ (by decide)).trans ((h.others g hg).trans (huf g)))
  · exact (hend.stuck id).trans ((h3.stuck (by decide : ¬ Reg.PAN_STK ∈ stickRegs Stk.GT_HOLDOVER)).trans h.breach)
  · refine (hend.qual id).trans ((h3.qual (by decide)).trans (h.tier.trans ?_))
    simp only [State.lossTier, huf]

/-- The parts that the loss of the DLL can change. -/
def lossParts : List Part := .pan :: .tim :: .ana :: .cmp :: .pwm :: .gl :: .hop :: logParts

theorem refclkIsLost {s : State} (hs : s.regsOk = true) (hp : s.powered = true) (hr : s.flag Reg.CLK_STAT F.CLK_STAT_REF_OK = true)
    (hd : s.flag Reg.CLK_STAT F.CLK_STAT_DLL_LOCK = true) :
    ∃ t, exec .refclkLost s = .next t ∧ t.tim.pwmHalted = true ∧ t.flag Reg.CLK_STAT F.CLK_STAT_REF_OK = false ∧
      t.flag Reg.CLK_STAT F.CLK_STAT_DLL_LOCK = false ∧ t.stuck Stk.REF_LOST = true ∧ t.stuck (breachStk 3) = true ∧
      t.qual = (if s.flag Reg.CLK_STAT F.CLK_STAT_SYSPLL_LOCK then 4 else 5) ∧ t.ket = s.ket ∧ t.safe = s.safe ∧ t.dev = s.dev := by
  have hc : ¬ (!s.powered || !s.clkStat F.CLK_STAT_REF_OK) = true := by simp [State.clkStat, hp, hr]
  have hl : (s.clkStat F.CLK_STAT_DLL_LOCK || s.tim.relockCmd) = true := by simp [State.clkStat, hd]
  have hexec : exec .refclkLost s = .next ((s.setFld Reg.CLK_STAT F.CLK_STAT_REF_OK 0).clockLost Stk.REF_LOST
      (if s.clkStat F.CLK_STAT_SYSPLL_LOCK then 3 else 4)) := congrArg Host.Outcome.next ((if_neg hc).trans (if_pos hl))
  have hs1 : (s.setFld Reg.CLK_STAT F.CLK_STAT_REF_OK 0).regsOk = true := State.setFld_ok _ _ _ hs
  obtain ⟨hhalt, -, hdll, hoth, hbr, hst, -, hq⟩ := State.clockLost_spec hs1 Stk.REF_LOST rfl (by decide)
    (if s.clkStat F.CLK_STAT_SYSPLL_LOCK then 3 else 4)
  have hm := State.Onward.execRefclkLost (own := []) (by decide : _ ⊆ lossParts) _ hexec
  refine ⟨_, hexec, hhalt, ?_, hdll, hst, hbr, ?_, hm.ket_kept (by decide), hm.safe_kept (by decide), hm.dev_kept (by decide)⟩
  · exact (hoth _ (by decide)).trans (State.flag_setFld hs _ _ _ (by decide))
  · exact hq.trans (congrArg (fun b : Bool => if b then 4 else 5) (State.flag_setFld_other hs _ _ _ _ (by decide) (by decide)))

theorem dllUnlocks {s : State} (hs : s.regsOk = true) (hp : s.powered = true) (hd : s.flag Reg.CLK_STAT F.CLK_STAT_DLL_LOCK = true) :
    ∃ t, exec .dllUnlock s = .next t ∧ t.tim.pwmHalted = true ∧ t.flag Reg.CLK_STAT F.CLK_STAT_DLL_LOCK = false ∧
      t.stuck Stk.DLL_UNLOCK = true ∧ t.stuck (breachStk 3) = true ∧
      t.qual = (if s.flag Reg.CLK_STAT F.CLK_STAT_SYSPLL_LOCK then 4 else 5) ∧ t.ket = s.ket ∧ t.safe = s.safe ∧ t.dev = s.dev := by
  have hc : ¬ (!s.powered || !s.clkStat F.CLK_STAT_DLL_LOCK) = true := by simp [State.clkStat, hp, hd]
  have hexec : exec .dllUnlock s = .next (s.clockLost Stk.DLL_UNLOCK 3) := congrArg Host.Outcome.next (if_neg hc)
  obtain ⟨hhalt, -, hdll, -, hbr, hst, -, hq⟩ := State.clockLost_spec hs Stk.DLL_UNLOCK rfl (by decide) 3
  have hm := State.Onward.execDllUnlock (own := []) (by decide : _ ⊆ lossParts) _ hexec
  exact ⟨_, hexec, hhalt, hdll, hst, hbr, hq, hm.ket_kept (by decide), hm.safe_kept (by decide), hm.dev_kept (by decide)⟩

theorem relockIsMissed {s : State} (hs : s.regsOk = true) (hr : s.tim.relockCmd = true) :
    ∃ t, exec .dllRelockTimeout s = .next t ∧ t.tim.pwmHalted = true ∧ t.tim.relockCmd = false ∧ t.stuck Stk.DLL_UNLOCK = true ∧
      t.stuck Stk.GT_HOLDOVER = true ∧ t.gt = (s.gtTo (s.tim.relockSince + s.relockBound)).gt ∧ t.ket = s.ket ∧ t.dev = s.dev := by
  have hc : ¬ (!s.tim.relockCmd) = true := by simp [hr]
  have hexec : exec .dllRelockTimeout s = .next ((s.gtTo (s.tim.relockSince + s.relockBound)).clockLost Stk.DLL_UNLOCK 3) :=
    congrArg Host.Outcome.next (if_neg hc)
  have hs1 : (s.gtTo (s.tim.relockSince + s.relockBound)).regsOk = true := (State.regsOk_of_regs (State.gtTo_regs _ _)).trans hs
  obtain ⟨hhalt, hcmd, -, -, -, hst, hover, -⟩ := State.clockLost_spec hs1 Stk.DLL_UNLOCK rfl (by decide) 3
  have hm := State.Onward.execDllRelockTimeout (own := []) (by decide : _ ⊆ .gt :: lossParts) _ hexec
  have hg := (State.Moves.clockLost (own := []) (may := lossParts) (k := Stk.DLL_UNLOCK) (e := 3)
    (.refl (s.gtTo (s.tim.relockSince + s.relockBound))) (by decide)).gt_kept (by decide)
  exact ⟨_, hexec, hhalt, hcmd, hst, hover (by simp [hr]), hg, hm.ket_kept (by decide), hm.dev_kept (by decide)⟩

/-! ## The lock -/

/-- How far a lock may move GT (R77). -/
def State.lockBound (s : State) : Int := if s.qual = 5 then 15259 else 1

/-- By how much a lock moves GT. -/
def State.lockMove (s : State) (correction : Int) : Int :=
  if s.qual = 4 || s.qual = 5 then clampInt (-s.lockBound) s.lockBound correction else 0

theorem clampInt_bounds {r : Int} (hr : 0 ≤ r) (x : Int) : -r ≤ clampInt (-r) r x ∧ clampInt (-r) r x ≤ r := by
  unfold clampInt
  split
  · omega
  · split <;> omega

/-- GT after a lock, no less than a bound and no more than a bound away. -/
theorem lowBits_near {g : Nat} {c r : Int} (hc : -r ≤ c ∧ c ≤ r) (hlo : r ≤ g) (hhi : g + r < 2 ^ 64) :
    (lowBits 64 ((g : Int) + c) : Int) = g + c := by
  unfold lowBits
  rw [Int.emod_eq_of_lt (by omega) (by omega), Int.toNat_of_nonneg (by omega)]

theorem dllLocks {s : State} (code : Nat) (correction : Int) (hs : s.regsOk = true) (hp : s.powered = true)
    (hd : s.flag Reg.CLK_STAT F.CLK_STAT_DLL_LOCK = false) (hr : s.flag Reg.CLK_STAT F.CLK_STAT_REF_OK = true) (hlo : 15259 ≤ s.gt)
    (hhi : s.gt + 15259 < 2 ^ 64) :
    ∃ t, exec (.dllLock code correction) s = .next t ∧ s.keeps t ([.gt, .tim, .pan, .gl] ++ logParts) ∧ t.flag Reg.CLK_STAT F.CLK_STAT_DLL_LOCK = true ∧
      t.regN (Reg.CLK_DLL_CSTORE (s.fld Reg.CLK_CTRL F.CLK_CTRL_DLL_MODE)) = code % 64 + 2 ^ 31 ∧
      t.tim.relockCmd = false ∧ t.tim.lossHold = false ∧ t.tim.dllFull = false ∧
      (s.qual ≠ 4 → s.qual ≠ 5 → t.gt = s.gt) ∧ (s.qual = 4 → t.gt ≤ s.gt + 1 ∧ s.gt ≤ t.gt + 1) ∧
      (s.qual = 5 → t.gt ≤ s.gt + 15259 ∧ s.gt ≤ t.gt + 15259) := by
  have hc : ¬ (!s.powered || s.clkStat F.CLK_STAT_DLL_LOCK || !s.clkStat F.CLK_STAT_REF_OK) = true := by simp [State.clkStat, hp, hd, hr]
  have hm : s.fld Reg.CLK_CTRL F.CLK_CTRL_DLL_MODE < 2 := Nat.mod_lt _ (by decide)
  let a := Reg.CLK_DLL_CSTORE (s.fld Reg.CLK_CTRL F.CLK_CTRL_DLL_MODE)
  have ha : a = 0x13020 ∨ a = 0x13024 := by
    simp only [a, Reg.CLK_DLL_CSTORE]
    omega
  refine ⟨_, rfl, (State.Onward.execDllLock (own := []) (by decide)).keeps rfl, ?_⟩
  rw [if_neg hc]
  extract_lets +onlyGivenNames m s1 r c g src s2 s3 s4
  have hok0 : (s.setRegN a (code % 64 + 2 ^ 31)).regsOk = true := State.setRegN_ok _ _ hs
  have hs1 : (s.setRegN a (code % 64 + 2 ^ 31)).Writes (· ∈ [Reg.CLK_STAT]) s1 := .setFld (.refl hok0) _ _ (by decide)
  have hlock : s1.flag Reg.CLK_STAT F.CLK_STAT_DLL_LOCK = true := State.flag_setFld hok0 _ _ _ (by decide)
  have hs2 : s1.Writes (· ∈ qualRegs) s2 := .of_regs (.refl hs1.ok) rfl
  have hg2 : s2.gt = g ∧ s2.tim.dllFull = false := ⟨rfl, rfl⟩
  have hstored : s1.regN a = code % 64 + 2 ^ 31 := by
    rw [hs1.regN (by rcases ha with h | h <;> rw [h] <;> decide), State.regN_setRegN _ _ hs]
    omega
  have hmove : -s.lockBound ≤ s.lockMove correction ∧ s.lockMove correction ≤ s.lockBound := by
    have hr : 0 ≤ s.lockBound := by unfold State.lockBound; split <;> decide
    unfold State.lockMove
    split
    · exact clampInt_bounds hr _
    · omega
  have hgt : g = lowBits 64 ((s.gt : Int) + s.lockMove correction) := rfl
  clear_value s1 s2 g
  obtain ⟨q, hq⟩ := s2.enterQual_tim s.tierAfter
  have hs3 : s1.Writes (· ∈ qualRegs) s3 := hs2.enterQual _ fun _ => id
  have hg3 : s3.gt = g ∧ s3.tim.dllFull = false := by
    refine ⟨((State.Moves.enterQual (own := []) (may := .pan :: .tim :: logParts) (.refl s2)).gt_kept (by decide)).trans hg2.1, ?_⟩
    rw [show s3.tim = _ from hq, hg2.2]
  clear_value s3
  have hs4 : s1.Writes (· ∈ qualRegs) s4 := by
    have hthaw : s1.Writes (· ∈ qualRegs) (s3.gateThaw (s.gt - s.tim.lostAt)) := hs3.of_regs rfl
    exact .ite (hthaw.logRec _ _ _ _ (by decide)) hs3
  have hg4 : s4.gt = g ∧ s4.tim.dllFull = false := by
    dsimp only [s4]
    split
    · simpa [State.gateThaw] using hg3
    · exact hg3
  clear_value s4
  have hend : s1.Writes (· ∈ qualRegs) (s4.timMod (fun x => { x with relockCmd := false, lossHold := false, xtLostHeld := false })) := hs4.of_regs rfl
  have hnear : (g : Int) = s.gt + s.lockMove correction := by
    rw [hgt]
    have hb : s.lockBound ≤ 15259 := by unfold State.lockBound; split <;> decide
    exact lowBits_near hmove (by omega) (by omega)
  have hgend : (s4.timMod (fun x => { x with relockCmd := false, lossHold := false, xtLostHeld := false })).gt = g := hg4.1
  refine ⟨(hend.flag _ (by decide)).trans hlock,
    (hend.regN (by show a ∉ qualRegs; rcases ha with h | h <;> rw [h] <;> decide)).trans hstored, rfl, rfl, hg4.2, ?_, ?_, ?_⟩
  · intro h4 h5
    have h0 : s.lockMove correction = 0 := by simp [State.lockMove, h4, h5]
    omega
  · intro h4
    have h1 : s.lockBound = 1 := if_neg (by omega)
    omega
  · intro h5
    have h1 : s.lockBound = 15259 := if_pos h5
    omega

/-- Settles O11: the lock by its code and bound, the three losses by `clockLost`. -/
theorem dllLockAndLoss : Obligations.DllLockAndLoss := by
  unfold Obligations.DllLockAndLoss
  exact ⟨fun s code correction hs hp hd hr hlo hhi => dllLocks code correction hs hp hd hr hlo hhi,
    fun s hs hp hr hd => refclkIsLost hs hp hr hd, fun s hs hp hd => dllUnlocks hs hp hd, fun s hs hr => relockIsMissed hs hr⟩

end Sys2Proof.Machine
end

section
/-!
PROOFS. Triggers of the converter sequences (O12).
-/
namespace Sys2Proof.Machine

/-! ## Folds over the cores -/

/-- A fold that visits `c` once: what the other visits keep before and after, and what the visit of `c` makes of it. -/
theorem foldl_visit {α β : Type} {f : α → β → α} {P Q : α → Prop} {c : β} {l : List β} (hl : l.Nodup) (hc : c ∈ l)
    (hP : ∀ t k, k ∈ l → k ≠ c → P t → P (f t k)) (hvisit : ∀ t, P t → Q (f t c)) (hQ : ∀ t k, k ∈ l → k ≠ c → Q t → Q (f t k)) {s : α}
    (hs : P s) : Q (l.foldl f s) := by
  obtain ⟨l₁, l₂, rfl⟩ := List.append_of_mem hc
  have hnd := List.nodup_middle.1 hl
  have hnot : c ∉ l₁ ++ l₂ := (List.nodup_cons.1 hnd).1
  rw [List.foldl_append, List.foldl_cons]
  have h₁ : P (l₁.foldl f s) := List.foldlRecOn _ _ hs fun t ht k hk =>
    hP t k (by simp [hk]) (by rintro rfl; exact hnot (by simp [hk])) ht
  exact List.foldlRecOn _ _ (hvisit _ h₁) fun t ht k hk => hQ t k (by simp [hk]) (by rintro rfl; exact hnot (by simp [hk])) ht

/-! ## One trigger -/

/-- A core after a change of a core. -/
theorem State.core_coreMod_same {s : State} {c : Nat} (f : AdcCore → AdcCore) (hc : c < s.ana.cores.length) :
    (s.coreMod c f).ana.cores.at c = f (s.ana.cores.at c) := Tab.at_mod_same _ _ _ hc

theorem State.core_coreMod_ne (s : State) {c k : Nat} (f : AdcCore → AdcCore) (hk : k ≠ c) :
    (s.coreMod c f).ana.cores.at k = s.ana.cores.at k := Tab.at_mod_ne _ _ hk

theorem State.cores_length {s : State} (h : s.inv = true) : s.ana.cores.length = 8 := (State.sized_of_inv h).ana.1

/-- The registers that triggers write: the status and the counters of the cores, their sticky bits and the log's. -/
def trigRegs (a : Nat) : Prop :=
  (∃ c, a = Reg.ADC_STAT c ∨ a = Reg.ADC_OVRCNT c ∨ a = Reg.ADC_INJMISS c ∨ a = Reg.ADC_STK c) ∨ a ∈ logRegs

theorem not_trigRegs {a : Nat} (ha : a ≠ Reg.LOG_DROPCNT ∧ a ≠ Stk.LOG_QOVR.reg)
    (hr : a < 0x20000 ∨ a % 0x400 = 0 ∨ a % 0x400 = 4) : ¬ trigRegs a := by
  rintro (⟨c, h | h | h | h⟩ | h)
  · simp only [Reg.ADC_STAT] at h; omega
  · simp only [Reg.ADC_OVRCNT] at h; omega
  · simp only [Reg.ADC_INJMISS] at h; omega
  · simp only [Reg.ADC_STK] at h; omega
  · simp only [logRegs, List.mem_cons, List.not_mem_nil, or_false] at h
    exact h.elim ha.1 ha.2

/-- Triggers leave the configuration of the cores. -/
theorem not_trigRegs_seqcfg (c : Nat) : ¬ trigRegs (Reg.ADC_SEQCFG c) := by
  have hlt : Reg.LOG_DROPCNT < 0x20000 ∧ Stk.LOG_QOVR.reg < 0x20000 := by decide
  exact not_trigRegs (by unfold Reg.ADC_SEQCFG; omega) (by unfold Reg.ADC_SEQCFG; omega)

theorem not_trigRegs_ctrl (c : Nat) : ¬ trigRegs (Reg.ADC_CTRL c) := by
  have hlt : Reg.LOG_DROPCNT < 0x20000 ∧ Stk.LOG_QOVR.reg < 0x20000 := by decide
  exact not_trigRegs (by unfold Reg.ADC_CTRL; omega) (by unfold Reg.ADC_CTRL; omega)

theorem stickRegs_trig {k : Stk} {c : Nat} (hk : k.reg = Reg.ADC_STK c) : ∀ a ∈ stickRegs k, trigRegs a := by
  intro a ha
  obtain rfl | ha := List.mem_cons.1 ha
  · exact .inl ⟨c, by simp [hk]⟩
  · exact .inr ha

section
variable {s : State} {c : Nat} (hon : s.anaOn = true) (hen : s.flag (Reg.ADC_CTRL c) F.ADC_CTRL_EN = true)
include hon hen

/-- A trigger that reaches an idle regular sequence (R88). -/
theorem State.adcTrig_reg_idle (h : (s.ana.cores.at c).reg.phase = .idle) : s.adcTrig c false =
    (s.coreMod c (fun k =>
      { k with reg := { phase := .waiting, due := s.gt + s.fld (Reg.ADC_TRIGDLY c) F.ADC_TRIGDLY_REG_DLY, plan := s.seqPlan c false } })).setFld (Reg.ADC_STAT c) F.ADC_STAT_REG_RUN 1 := by
  simp [State.adcTrig, hon, hen, h]

theorem State.adcTrig_inj_idle (h : (s.ana.cores.at c).inj.phase = .idle) : s.adcTrig c true =
    (s.coreMod c (fun k =>
      { k with inj := { phase := .waiting, due := s.gt + s.fld (Reg.ADC_TRIGDLY c) F.ADC_TRIGDLY_INJ_DLY, plan := s.seqPlan c true } })).setFld (Reg.ADC_STAT c) F.ADC_STAT_INJ_RUN 1 := by
  simp [State.adcTrig, hon, hen, h]

/-- A trigger that reaches a regular sequence in progress (R90). -/
theorem State.adcTrig_reg_busy (h : (s.ana.cores.at c).reg.phase ≠ .idle) : s.adcTrig c false =
    ((s.bump (Reg.ADC_OVRCNT c)).stick (Stk.ADC_SEQ_OVR c)).coreMod c (fun k => { k with ovr := true }) := by
  simp [State.adcTrig, hon, hen, h]

theorem State.adcTrig_inj_busy (h : (s.ana.cores.at c).inj.phase ≠ .idle) : s.adcTrig c true =
    ((s.bump (Reg.ADC_INJMISS c)).stick (Stk.ADC_INJ_MISS c)).coreMod c (fun k => { k with miss := true }) := by
  simp [State.adcTrig, hon, hen, h]

end

/-- A trigger leaves the other cores. -/
theorem State.adcTrig_core_ne (s : State) {c k : Nat} (inj : Bool) (hk : k ≠ c) : (s.adcTrig c inj).ana.cores.at k = s.ana.cores.at k := by
  have hmod (t : State) (f : AdcCore → AdcCore) (ht : t.ana = s.ana) : (t.coreMod c f).ana.cores.at k = s.ana.cores.at k := by
    rw [State.core_coreMod_ne _ _ hk, ht]
  unfold State.adcTrig
  split
  · rfl
  split
  · split
    · exact hmod s _ rfl
    · exact hmod _ _ (by simp)
  · split
    · exact hmod s _ rfl
    · exact hmod _ _ (by simp)

/-- A trigger of one sequence of a core leaves the other one. -/
theorem State.adcTrig_inj_reg (s : State) (c : Nat) : ((s.adcTrig c true).ana.cores.at c).reg = (s.ana.cores.at c).reg := by
  have hmod (t : State) (f : AdcCore → AdcCore) (ht : t.ana = s.ana) (hf : ∀ k, (f k).reg = k.reg) :
      ((t.coreMod c f).ana.cores.at c).reg = (s.ana.cores.at c).reg := by
    by_cases hc : c < t.ana.cores.length
    · rw [State.core_coreMod_same _ hc, hf, ht]
    · rw [← ht]
      simp [State.coreMod, Tab.at, Tab.mod, Nat.not_lt.1 hc]
  unfold State.adcTrig
  split
  · rfl
  rw [if_pos rfl]
  split
  · exact hmod s _ rfl fun _ => rfl
  · exact hmod _ _ (by simp) fun _ => rfl

theorem State.Writes.adcTrig {s t : State} (h : s.Writes trigRegs t) (c : Nat) (inj : Bool) : s.Writes trigRegs (t.adcTrig c inj) := by
  have hstat : trigRegs (Reg.ADC_STAT c) := .inl ⟨c, by simp⟩
  have hset (f : AdcCore → AdcCore) (g : Fld) : s.Writes trigRegs ((t.coreMod c f).setFld (Reg.ADC_STAT c) g 1) := by
    have hmod : s.Writes trigRegs (t.coreMod c f) := h.of_regs rfl
    exact hmod.setFld _ _ hstat
  have hcount (a : Nat) (k : Stk) (f : AdcCore → AdcCore) (ha : trigRegs a) (hk : k.reg = Reg.ADC_STK c) :
      s.Writes trigRegs (((t.bump a).stick k).coreMod c f) :=
    ((h.bump ha).stick k (stickRegs_trig hk)).of_regs rfl
  unfold State.adcTrig
  refine .ite h ?_
  split
  · exact .ite (hset _ _) (hcount _ _ _ (.inl ⟨c, by simp⟩) rfl)
  · exact .ite (hset _ _) (hcount _ _ _ (.inl ⟨c, by simp⟩) rfl)

theorem triggerReachesSequence {s : State} (core : Fin 8) (inj : Bool) (hs : s.inv = true) (hon : s.anaOn = true)
    (hen : s.flag (Reg.ADC_CTRL core) F.ADC_CTRL_EN = true) :
    ∃ t, exec (.adcSequenceTrigger core inj) s = .next t ∧ s.keeps t (.ana :: logParts) ∧
      (inj = false → (s.ana.cores.at core).reg.phase = .idle →
        (t.ana.cores.at core).reg.phase = .waiting ∧ (t.ana.cores.at core).reg.due = s.gt + s.fld (Reg.ADC_TRIGDLY core) F.ADC_TRIGDLY_REG_DLY ∧
          t.flag (Reg.ADC_STAT core) F.ADC_STAT_REG_RUN = true ∧ (t.ana.cores.at core).inj = (s.ana.cores.at core).inj) ∧
      (inj = true → (s.ana.cores.at core).inj.phase = .idle →
        (t.ana.cores.at core).inj.phase = .waiting ∧ (t.ana.cores.at core).inj.due = s.gt + s.fld (Reg.ADC_TRIGDLY core) F.ADC_TRIGDLY_INJ_DLY ∧
          t.flag (Reg.ADC_STAT core) F.ADC_STAT_INJ_RUN = true ∧ (t.ana.cores.at core).reg = (s.ana.cores.at core).reg) ∧
      (inj = false → (s.ana.cores.at core).reg.phase ≠ .idle →
        (t.ana.cores.at core).reg = (s.ana.cores.at core).reg ∧ t.stuck (Stk.ADC_SEQ_OVR core) = true ∧
          t.regN (Reg.ADC_OVRCNT core) = min (s.regN (Reg.ADC_OVRCNT core) + 1) (2 ^ 32 - 1)) ∧
      (inj = true → (s.ana.cores.at core).inj.phase ≠ .idle →
        (t.ana.cores.at core).inj = (s.ana.cores.at core).inj ∧ t.stuck (Stk.ADC_INJ_MISS core) = true ∧
          t.regN (Reg.ADC_INJMISS core) = min (s.regN (Reg.ADC_INJMISS core) + 1) (2 ^ 32 - 1)) ∧
      ∀ k, k ≠ core.val → t.ana.cores.at k = s.ana.cores.at k := by
  have hok := State.regsOk_of_inv hs
  have hlen : core.val < s.ana.cores.length := by rw [State.cores_length hs]; exact core.isLt
  have hlog : Reg.LOG_DROPCNT < 0x20000 ∧ Stk.LOG_QOVR.reg < 0x20000 := by decide
  refine ⟨s.adcTrig core inj, rfl, (State.Onward.execAdcSequenceTrigger (own := []) (by decide)).keeps (s := s) (o := exec (.adcSequenceTrigger core inj) s) rfl,
    ?_, ?_, ?_, ?_, fun k hk => State.adcTrig_core_ne s inj hk⟩
  · rintro rfl hidle
    rw [State.adcTrig_reg_idle hon hen hidle]
    have hcore := State.core_coreMod_same (s := s) (fun k =>
      { k with reg := { phase := .waiting, due := s.gt + s.fld (Reg.ADC_TRIGDLY core) F.ADC_TRIGDLY_REG_DLY, plan := s.seqPlan core false } }) hlen
    simp only [State.setFld_ana, hcore]
    exact ⟨trivial, trivial, State.flag_setFld (s := s.coreMod _ _) hok _ _ _ (by decide), trivial⟩
  · rintro rfl hidle
    rw [State.adcTrig_inj_idle hon hen hidle]
    have hcore := State.core_coreMod_same (s := s) (fun k =>
      { k with inj := { phase := .waiting, due := s.gt + s.fld (Reg.ADC_TRIGDLY core) F.ADC_TRIGDLY_INJ_DLY, plan := s.seqPlan core true } }) hlen
    simp only [State.setFld_ana, hcore]
    exact ⟨trivial, trivial, State.flag_setFld (s := s.coreMod _ _) hok _ _ _ (by decide), trivial⟩
  · rintro rfl hbusy
    rw [State.adcTrig_reg_busy hon hen hbusy]
    have hb := State.bump_ok (Reg.ADC_OVRCNT core) hok
    have hst : (s.bump (Reg.ADC_OVRCNT core)).Writes (· ∈ stickRegs (Stk.ADC_SEQ_OVR core)) _ := .stick (.refl hb) _ fun _ => id
    refine ⟨?_, State.stick_stuck _ hb (by decide : 0 < 32) (by simp only [Stk.ADC_SEQ_OVR, Reg.ADC_STK]; omega), ?_⟩
    · rw [State.core_coreMod_same _ (by simpa using hlen)]
      simp
    · refine (hst.regN ?_).trans (State.regN_bump hok _)
      simp only [stickRegs, Stk.ADC_SEQ_OVR, Reg.ADC_STK, Reg.ADC_OVRCNT, List.mem_cons, List.not_mem_nil, or_false]
      omega
  · rintro rfl hbusy
    rw [State.adcTrig_inj_busy hon hen hbusy]
    have hb := State.bump_ok (Reg.ADC_INJMISS core) hok
    have hst : (s.bump (Reg.ADC_INJMISS core)).Writes (· ∈ stickRegs (Stk.ADC_INJ_MISS core)) _ := .stick (.refl hb) _ fun _ => id
    refine ⟨?_, State.stick_stuck _ hb (by decide : 1 < 32) (by simp only [Stk.ADC_INJ_MISS, Reg.ADC_STK]; omega), ?_⟩
    · rw [State.core_coreMod_same _ (by simpa using hlen)]
      simp
    · refine (hst.regN ?_).trans (State.regN_bump hok _)
      simp only [stickRegs, Stk.ADC_INJ_MISS, Reg.ADC_STK, Reg.ADC_INJMISS, List.mem_cons, List.not_mem_nil, or_false]
      omega

/-! ## Software triggers and timers -/

/-- What the triggers of the other cores keep of core `c`: itself, the configuration, and that the island converts. -/
structure State.Untriggered (c : Nat) (s t : State) : Prop where
  writes : s.Writes trigRegs t
  dev : t.dev = s.dev
  length : t.ana.cores.length = 8
  core : t.ana.cores.at c = s.ana.cores.at c

namespace State.Untriggered

variable {c : Nat} {s t : State}

theorem refl (h : s.inv = true) : s.Untriggered c s := ⟨.refl (State.regsOk_of_inv h), rfl, State.cores_length h, rfl⟩

theorem adcTrig (h : s.Untriggered c t) {k : Nat} (hk : k ≠ c) (inj : Bool) : s.Untriggered c (t.adcTrig k inj) where
  writes := h.writes.adcTrig k inj
  dev := ((State.Moves.adcTrig (own := []) (.refl t) (by decide : _ ⊆ .ana :: logParts)).dev_kept (by decide)).trans h.dev
  length := by
    rw [← h.length]
    unfold State.adcTrig
    split
    · rfl
    split
    · split <;> simp [State.coreMod, Tab.mod]
    · split <;> simp [State.coreMod, Tab.mod]
  core := (State.adcTrig_core_ne t inj hk.symm).trans h.core

theorem ite {u : State} {p : Prop} [Decidable p] (ht : s.Untriggered c t) (hu : s.Untriggered c u) : s.Untriggered c (if p then t else u) := by
  split
  · exact ht
  · exact hu

theorem anaOn (h : s.Untriggered c t) (hon : s.anaOn = true) : t.anaOn = true := by
  rw [State.anaOn, h.dev, h.writes.flag F.CLK_STAT_DLL_LOCK (not_trigRegs (by decide) (by decide))]
  exact hon

theorem en (h : s.Untriggered c t) (hen : s.flag (Reg.ADC_CTRL c) F.ADC_CTRL_EN = true) : t.flag (Reg.ADC_CTRL c) F.ADC_CTRL_EN = true :=
  (h.writes.flag _ (not_trigRegs_ctrl c)).trans hen

theorem seqcfg (h : s.Untriggered c t) (f : Fld) : t.fld (Reg.ADC_SEQCFG c) f = s.fld (Reg.ADC_SEQCFG c) f := h.writes.fld f (not_trigRegs_seqcfg c)

/-- A trigger finds the regular sequence of core `c` idle and leaves it waiting. -/
theorem waits (h : s.Untriggered c t) (hc : c < 8) (hon : s.anaOn = true) (hen : s.flag (Reg.ADC_CTRL c) F.ADC_CTRL_EN = true)
    (hidle : (s.ana.cores.at c).reg.phase = .idle) : ((t.adcTrig c false).ana.cores.at c).reg.phase = .waiting := by
  rw [State.adcTrig_reg_idle (h.anaOn hon) (h.en hen) (by rw [h.core, hidle])]
  have hcore := State.core_coreMod_same (s := t) (fun k =>
    { k with reg := { phase := .waiting, due := t.gt + t.fld (Reg.ADC_TRIGDLY c) F.ADC_TRIGDLY_REG_DLY, plan := t.seqPlan c false } })
    (by rw [h.length]; exact hc)
  simp only [State.setFld_ana, hcore]

end State.Untriggered

/-- A software trigger at core `k`: its regular sequence, then its injected one (R85). -/
def State.swtrigCore (val : Word) (t : State) (c : Nat) : State :=
  let t1 := if val.getLsbD c && t.fld (Reg.ADC_SEQCFG c) F.ADC_SEQCFG_REG_TRIG = 3 then t.adcTrig c false else t
  if val.getLsbD (8 + c) && t1.fld (Reg.ADC_SEQCFG c) F.ADC_SEQCFG_INJ_TRIG = 3 then t1.adcTrig c true else t1

theorem softwareTriggersReach {s : State} (val : Word) (hs : s.inv = true) (hon : s.anaOn = true) :
    ∃ t, exec (.anaSwtrig val) s = .next t ∧ s.keeps t (.ana :: logParts) ∧
      ∀ c, c < 8 → s.fld (Reg.ADC_SEQCFG c) F.ADC_SEQCFG_INJ_TRIG ≠ 3 →
        (val.getLsbD c = true → s.fld (Reg.ADC_SEQCFG c) F.ADC_SEQCFG_REG_TRIG = 3 → s.flag (Reg.ADC_CTRL c) F.ADC_CTRL_EN = true →
          (s.ana.cores.at c).reg.phase = .idle → (t.ana.cores.at c).reg.phase = .waiting) ∧
        (val.getLsbD c = false → t.ana.cores.at c = s.ana.cores.at c) := by
  have hexec : exec (.anaSwtrig val) s = .next ((List.range 8).foldl (State.swtrigCore val) s) := rfl
  refine ⟨_, hexec, (State.Onward.execAnaSwtrig (own := []) (by decide)).keeps hexec, fun c hc hinj => ?_⟩
  have hother (t : State) (k : Nat) (hk : k ≠ c) (ht : s.Untriggered c t) : s.Untriggered c (State.swtrigCore val t k) :=
    .ite (.adcTrig (.ite (ht.adcTrig hk _) ht) hk _) (.ite (ht.adcTrig hk _) ht)
  have hlater (t : State) (k : Nat) (hk : k ≠ c) : (State.swtrigCore val t k).ana.cores.at c = t.ana.cores.at c := by
    unfold State.swtrigCore
    extract_lets t1
    have ht1 : t1.ana.cores.at c = t.ana.cores.at c := by
      dsimp only [t1]
      split
      · exact State.adcTrig_core_ne _ _ hk.symm
      · rfl
    split
    · exact (State.adcTrig_core_ne _ _ hk.symm).trans ht1
    · exact ht1
  constructor
  · intro hbit hreg hen hidle
    refine foldl_visit (P := s.Untriggered c) (Q := fun t => (t.ana.cores.at c).reg.phase = .waiting) List.nodup_range (List.mem_range.2 hc)
      (fun t k _ hk ht => hother t k hk ht) (fun t ht => ?_) (fun t k _ hk ht => by rw [hlater t k hk, ht]) (.refl hs)
    unfold State.swtrigCore
    have hcond : (val.getLsbD c && t.fld (Reg.ADC_SEQCFG c) F.ADC_SEQCFG_REG_TRIG = 3) = true := by simp [hbit, ht.seqcfg, hreg]
    extract_lets t1
    have ht1 : t1 = t.adcTrig c false := if_pos hcond
    have hwait : (t1.ana.cores.at c).reg.phase = .waiting := by rw [ht1]; exact ht.waits hc hon hen hidle
    split
    · rw [State.adcTrig_inj_reg, hwait]
    · exact hwait
  · intro hbit
    refine (foldl_visit (P := s.Untriggered c) (Q := s.Untriggered c) List.nodup_range (List.mem_range.2 hc)
      (fun t k _ hk ht => hother t k hk ht) (fun t ht => ?_) (fun t k _ hk ht => hother t k hk ht) (.refl hs)).core
    have hinj' : t.fld (Reg.ADC_SEQCFG c) F.ADC_SEQCFG_INJ_TRIG ≠ 3 := by rw [ht.seqcfg]; exact hinj
    simpa [State.swtrigCore, hbit, hinj'] using ht

/-- The next tick at the phase of a period (R87). -/
theorem phaseFrom_spec {p ph : Nat} (t : Nat) (h : ph < p) : phaseFrom p ph t % p = ph ∧ t ≤ phaseFrom p ph t ∧ phaseFrom p ph t < t + p := by
  have hm := Nat.mod_lt t (by omega : 0 < p)
  have hd := Nat.mod_lt (ph + p - t % p) (by omega : 0 < p)
  refine ⟨?_, Nat.le_add_right _ _, Nat.add_lt_add_left hd _⟩
  have he : t % p + (ph + p - t % p) = ph + p := by omega
  rw [phaseFrom, Nat.add_mod, Nat.mod_mod, ← Nat.add_mod, Nat.add_mod, ← Nat.mod_add_mod, ← Nat.add_mod, he, Nat.add_mod_right, Nat.mod_eq_of_lt h]

/-- A trigger source at core `c` (R86). -/
def State.fireCore (code : Nat) (t : State) (c : Nat) : State :=
  let t1 := if code < 0x80 && t.fld (Reg.ADC_SEQCFG c) F.ADC_SEQCFG_REG_TRIG = code then t.adcTrig c false else t
  if t1.fld (Reg.ADC_SEQCFG c) F.ADC_SEQCFG_INJ_TRIG = code then t1.adcTrig c true else t1

/-- A source reaches the idle regular sequences that are set to its code. -/
theorem State.adcFire_waits {s : State} (hs : s.inv = true) (hon : s.anaOn = true) {code c : Nat} (hcode : code < 0x80) (hc : c < 8)
    (hreg : s.fld (Reg.ADC_SEQCFG c) F.ADC_SEQCFG_REG_TRIG = code) (hen : s.flag (Reg.ADC_CTRL c) F.ADC_CTRL_EN = true)
    (hidle : (s.ana.cores.at c).reg.phase = .idle) : ((s.adcFire code).ana.cores.at c).reg.phase = .waiting := by
  show (((List.range 8).foldl (State.fireCore code) s).ana.cores.at c).reg.phase = .waiting
  refine foldl_visit (P := s.Untriggered c) (Q := fun t => (t.ana.cores.at c).reg.phase = .waiting) List.nodup_range (List.mem_range.2 hc)
    (fun t k _ hk ht => ?_) (fun t ht => ?_) (fun t k _ hk ht => ?_) (.refl hs)
  · exact .ite (.adcTrig (.ite (ht.adcTrig hk _) ht) hk _) (.ite (ht.adcTrig hk _) ht)
  · unfold State.fireCore
    have hcond : (code < 0x80 && t.fld (Reg.ADC_SEQCFG c) F.ADC_SEQCFG_REG_TRIG = code) = true := by simp [hcode, ht.seqcfg, hreg]
    extract_lets t1
    have ht1 : t1 = t.adcTrig c false := if_pos hcond
    have hwait : (t1.ana.cores.at c).reg.phase = .waiting := by rw [ht1]; exact ht.waits hc hon hen hidle
    split
    · rw [State.adcTrig_inj_reg, hwait]
    · exact hwait
  · unfold State.fireCore
    extract_lets t1
    have ht1 : (t1.ana.cores.at c).reg.phase = .waiting := by
      dsimp only [t1]
      split
      · rw [State.adcTrig_core_ne _ _ hk.symm, ht]
      · exact ht
    split
    · rw [State.adcTrig_core_ne _ _ hk.symm, ht1]
    · exact ht1

theorem analogTimerFires {s : State} (k : Fin 4) (hs : s.inv = true) (hon : s.anaOn = true)
    (hen : s.flag (Reg.ANA_ATMR_PH k) F.ANA_ATMR_PH_EN = true) :
    ∃ t u, exec (.atmrFire k) s = .next t ∧ s.keeps t ([.gt, .ana] ++ logParts) ∧
      (let p := clampNat 100 1000000 (s.fld (Reg.ANA_ATMR_PER k) F.ANA_ATMR_PER_PER)
       u % p = min (s.fld (Reg.ANA_ATMR_PH k) F.ANA_ATMR_PH_PH) (p - 1) ∧ s.gt ≤ u ∧ s.ana.atmr.at k ≤ u ∧ u < max s.gt (s.ana.atmr.at k) + p) ∧
      t.gt = (s.gtTo u).gt ∧
      ∀ c, c < 8 → s.fld (Reg.ADC_SEQCFG c) F.ADC_SEQCFG_REG_TRIG = 4 + k.val → s.flag (Reg.ADC_CTRL c) F.ADC_CTRL_EN = true →
        (s.ana.cores.at c).reg.phase = .idle → (t.ana.cores.at c).reg.phase = .waiting := by
  let p := clampNat 100 1000000 (s.fld (Reg.ANA_ATMR_PER k) F.ANA_ATMR_PER_PER)
  let ph := min (s.fld (Reg.ANA_ATMR_PH k) F.ANA_ATMR_PH_PH) (p - 1)
  let u := phaseFrom p ph (max s.gt (s.ana.atmr.at k))
  let v : State := { s.gtTo u with ana := { (s.gtTo u).ana with atmr := (s.gtTo u).ana.atmr.mod k (fun _ => (s.gtTo u).gt + 1) } }
  have hp : 100 ≤ p := by
    dsimp only [p, clampNat]
    split
    · omega
    · split <;> omega
  have hc : ¬ (!s.flag (Reg.ANA_ATMR_PH k) F.ANA_ATMR_PH_EN || !s.anaOn) = true := by simp [hen, hon]
  have hexec : exec (.atmrFire k) s = .next (v.adcFire (4 + k)) := congrArg Host.Outcome.next (if_neg hc)
  obtain ⟨hmod, hle, hlt⟩ := phaseFrom_spec (p := p) (ph := ph) (max s.gt (s.ana.atmr.at k)) (by omega)
  have hvregs : v.regs = s.regs := State.gtTo_regs s u
  have hvana : v.ana.cores = s.ana.cores :=
    (congrArg AnaState.cores (State.gtTo_ana s u) : (s.gtTo u).ana.cores = s.ana.cores)
  have hvdev : v.dev = s.dev := State.gtTo_dev s u
  have hvinv : v.inv = true :=
    (State.Moves.set_ana (own := []) (may := [.gt, .ana]) (.gtTo (.refl s) (by decide)) (by simp [AnaState.Sized, Tab.mod]) (by decide)).inv hs
  have hvon : v.anaOn = true := by
    rw [State.anaOn, hvdev, State.flag_of_reg (State.reg_of_regs hvregs _)]
    exact hon
  have hgt : (v.adcFire (4 + k)).gt = v.gt := (State.Moves.adcFire (own := []) (.refl v) (by decide : _ ⊆ .ana :: logParts)).gt_kept (by decide)
  refine ⟨_, u, hexec, (State.Onward.execAtmrFire (own := []) (by decide)).keeps hexec,
    ⟨hmod, (le_max_left _ _).trans hle, (le_max_right _ _).trans hle, hlt⟩, hgt, fun c hc' hreg hen' hidle => ?_⟩
  have hk := k.isLt
  refine State.adcFire_waits hvinv hvon (by omega) hc' ?_ ?_ (by rw [hvana, hidle])
  · exact (State.fld_of_reg (State.reg_of_regs hvregs _) _).trans hreg
  · exact (State.flag_of_reg (State.reg_of_regs hvregs _) _).trans hen'

/-- Settles O12: one trigger, and the folds of the software trigger and of a timer over the cores. -/
theorem triggersReachSequences : Obligations.TriggersReachSequences := by
  unfold Obligations.TriggersReachSequences
  exact ⟨fun s core inj hs hon hen => triggerReachesSequence core inj hs hon hen, fun s val hs hon => softwareTriggersReach val hs hon,
    fun s k hs hon hen => analogTimerFires k hs hon hen⟩

end Sys2Proof.Machine
end

section
/-!
PROOFS. The converter sequences: their starts, the ends of conversions and the writes of results (O13).
-/
namespace Sys2Proof.Machine

/-! ## One entry -/

/-- A change of a core that keeps a field of it keeps that field of every core. -/
theorem State.core_coreMod_kept {β : Type} (s : State) (c k : Nat) {f : AdcCore → AdcCore} (g : AdcCore → β) (hg : ∀ x, g (f x) = g x) :
    g ((s.coreMod c f).ana.cores.at k) = g (s.ana.cores.at k) := by
  by_cases hk : k = c
  · subst hk
    by_cases hc : k < s.ana.cores.length
    · rw [State.core_coreMod_same _ hc, hg]
    · simp [State.coreMod, Tab.at, Tab.mod, Nat.not_lt.1 hc]
  · rw [State.core_coreMod_ne _ _ hk]

theorem State.cores_length_coreMod (s : State) (c : Nat) (f : AdcCore → AdcCore) : (s.coreMod c f).ana.cores.length = s.ana.cores.length := by
  simp [State.coreMod, Tab.mod]

theorem State.convLen_of_reg {s t : State} (h : t.reg Reg.CLK_PDIV_ADC = s.reg Reg.CLK_PDIV_ADC) (n : Nat) : t.convLen n = s.convLen n := by
  rw [State.convLen, State.convLen, State.fld_of_reg h]

/-- A core with the conversion of `cfg` that starts at `t` (R91). -/
def State.started (s : State) (inj : Bool) (cfg : EntryCfg) (t : Nat) (k : AdcCore) : AdcCore :=
  { k with conv := some { inj := inj, cfg := cfg, start := t, len := s.convLen cfg.smp } }

/-- What an entry's start leaves (R91, R92). -/
structure State.EntryStarted (c : Nat) (inj : Bool) (cfg : EntryCfg) (t : Nat) (s u : State) : Prop where
  writes : s.Writes (· = Reg.ADC_STAT c) u
  core : u.ana.cores.at c = s.started inj cfg t (s.ana.cores.at c)
  gt : u.gt = s.gt
  entry : u.fld (Reg.ADC_STAT c) F.ADC_STAT_ENTRY = cfg.e % 64

theorem State.startEntry_spec {s : State} {c : Nat} {inj : Bool} {cfg : EntryCfg} {rest : List EntryCfg} (t : Nat) (hs : s.regsOk = true)
    (hc : c < s.ana.cores.length) (hp : (if inj then (s.ana.cores.at c).inj else (s.ana.cores.at c).reg).plan = cfg :: rest) :
    s.EntryStarted c inj cfg t (s.startEntry c inj t) := by
  have heq : s.startEntry c inj t = (s.coreMod c (s.started inj cfg t)).setFld (Reg.ADC_STAT c) F.ADC_STAT_ENTRY cfg.e := by
    simp only [State.startEntry, hp]
    rfl
  have hmod : s.Writes (· = Reg.ADC_STAT c) (s.coreMod c (s.started inj cfg t)) := (State.Writes.refl hs).of_regs rfl
  rw [heq]
  exact ⟨hmod.setFld _ _ rfl, State.core_coreMod_same _ hc, rfl, State.fld_setFld _ _ _ hmod.ok (by decide)⟩

/-! ## Starts of sequences -/

/-- A sequence of a core whose phase is `p`. -/
def AdcCore.setRegPhase (p : SeqPhase) (k : AdcCore) : AdcCore := { k with reg := { k.reg with phase := p } }

def AdcCore.setInjPhase (p : SeqPhase) (k : AdcCore) : AdcCore := { k with inj := { k.inj with phase := p } }

theorem regularStartsEntry {s : State} {core : Fin 8} {cfg : EntryCfg} {rest : List EntryCfg} (hs : s.inv = true)
    (hw : (s.ana.cores.at core).reg.phase = .waiting) (hp : (s.ana.cores.at core).reg.plan = cfg :: rest)
    (hi : (s.ana.cores.at core).inj.phase = .idle) :
    ∃ t, exec (.sequenceStart core false) s = .next t ∧ s.keeps t [.gt, .regs, .ana] ∧ t.gt = (s.gtTo (s.ana.cores.at core).reg.due).gt ∧
      (t.ana.cores.at core).conv = some { inj := false, cfg := cfg, start := t.gt, len := s.convLen cfg.smp } ∧
      (t.ana.cores.at core).reg.phase = .running ∧ t.fld (Reg.ADC_STAT core) F.ADC_STAT_ENTRY = cfg.e % 64 := by
  let u := s.gtTo (s.ana.cores.at core).reg.due
  let v := u.coreMod core (AdcCore.setRegPhase .running)
  have hexec : exec (.sequenceStart core false) s = .next (v.startEntry core false u.gt) := by
    show execSequenceStart core false s = _
    simp [execSequenceStart, hw, hi, v, u]
    rfl
  have huana : u.ana = s.ana := State.gtTo_ana s _
  have huregs : u.regs = s.regs := State.gtTo_regs s _
  have hlen : core.val < u.ana.cores.length := by
    rw [huana, State.cores_length hs]
    exact core.isLt
  have hv : v.ana.cores.at core = AdcCore.setRegPhase .running (s.ana.cores.at core) := by
    rw [State.core_coreMod_same _ hlen, huana]
  have hstart : v.EntryStarted core false cfg u.gt (v.startEntry core false u.gt) :=
    State.startEntry_spec _ ((State.regsOk_of_regs huregs).trans (State.regsOk_of_inv hs)) (by rw [State.cores_length_coreMod]; exact hlen) (rest := rest) (by rw [hv]; exact hp)
  have hconv : v.convLen cfg.smp = s.convLen cfg.smp := State.convLen_of_reg (State.reg_of_regs huregs _) _
  refine ⟨_, hexec, (State.Onward.execSequenceStart (own := []) (by decide)).keeps hexec, hstart.gt, ?_, ?_, hstart.entry⟩
  · rw [hstart.core, hstart.gt]
    simp only [State.started, hconv]
    rfl
  · rw [hstart.core, hv]
    rfl

/-- What the start of an injected sequence makes of a regular entry in progress (R92). -/
structure State.Abandoned (c : Nat) (s t : State) : Prop where
  writes : s.Writes (· = Reg.ADC_PREEMPT c) t
  gt : t.gt = s.gt
  length : t.ana.cores.length = s.ana.cores.length
  inj : (t.ana.cores.at c).inj = (s.ana.cores.at c).inj
  counted : ∀ v, (s.ana.cores.at c).conv = some v → v.inj = false →
    t.regN (Reg.ADC_PREEMPT c) = min (s.regN (Reg.ADC_PREEMPT c) + 1) (2 ^ 32 - 1)

theorem State.abandon_spec {s : State} (c : Nat) (hs : s.regsOk = true) : s.Abandoned c (s.abandon c) := by
  unfold State.abandon
  split
  case h_2 hnone => exact ⟨.refl hs, rfl, rfl, rfl, fun v hv => by simp [hnone] at hv⟩
  case h_1 v hv =>
    by_cases hi : v.inj = true
    · rw [if_pos hi]
      refine ⟨.refl hs, rfl, rfl, rfl, fun w hw hwi => ?_⟩
      obtain rfl := Option.some.inj (hv.symm.trans hw)
      simp [hi] at hwi
    · rw [if_neg hi]
      have hb : s.Writes (· = Reg.ADC_PREEMPT c) (s.bump (Reg.ADC_PREEMPT c)) := (State.Writes.refl hs).bump rfl
      refine ⟨hb.of_regs rfl, rfl, State.cores_length_coreMod _ _ _, State.core_coreMod_kept _ c c (·.inj) fun _ => rfl, fun _ _ _ => State.regN_bump hs _⟩

theorem injectedStartsEntry {s : State} {core : Fin 8} {cfg : EntryCfg} {rest : List EntryCfg} (hs : s.inv = true)
    (hw : (s.ana.cores.at core).inj.phase = .waiting) (hp : (s.ana.cores.at core).inj.plan = cfg :: rest) :
    ∃ t, exec (.sequenceStart core true) s = .next t ∧ s.keeps t [.gt, .regs, .ana] ∧ t.gt = (s.gtTo (s.ana.cores.at core).inj.due).gt ∧
      (t.ana.cores.at core).conv = some { inj := true, cfg := cfg, start := t.gt, len := s.convLen cfg.smp } ∧
      (t.ana.cores.at core).inj.phase = .running ∧
      (∀ v, (s.ana.cores.at core).conv = some v → v.inj = false →
        t.regN (Reg.ADC_PREEMPT core) = min (s.regN (Reg.ADC_PREEMPT core) + 1) (2 ^ 32 - 1)) := by
  let u := s.gtTo (s.ana.cores.at core).inj.due
  let a := u.abandon core
  let v := a.coreMod core (AdcCore.setInjPhase .running)
  have hexec : exec (.sequenceStart core true) s = .next (v.startEntry core true u.gt) := by
    show execSequenceStart core true s = _
    simp [execSequenceStart, hw, v, u, a]
    rfl
  have huana : u.ana = s.ana := State.gtTo_ana s _
  have huregs : u.regs = s.regs := State.gtTo_regs s _
  have hlen : core.val < u.ana.cores.length := by
    rw [huana, State.cores_length hs]
    exact core.isLt
  have hu : u.regsOk = true := (State.regsOk_of_regs huregs).trans (State.regsOk_of_inv hs)
  have ha : u.Abandoned core a := State.abandon_spec core hu
  have hv : v.ana.cores.at core = AdcCore.setInjPhase .running (a.ana.cores.at core) := State.core_coreMod_same _ (by rw [ha.length]; exact hlen)
  have hvinj : (v.ana.cores.at core).inj = { (s.ana.cores.at core).inj with phase := .running } := by
    rw [hv]
    exact congrArg (fun q : AdcSeq => { q with phase := .running }) (ha.inj.trans (congrArg (fun x => (x.cores.at core).inj) huana))
  have hvw : u.Writes (· = Reg.ADC_PREEMPT core) v := ha.writes.of_regs rfl
  have hstart : v.EntryStarted core true cfg u.gt (v.startEntry core true u.gt) :=
    State.startEntry_spec _ hvw.ok (by rw [State.cores_length_coreMod, ha.length]; exact hlen) (rest := rest) (by rw [if_pos rfl, hvinj]; exact hp)
  have hgt : (v.startEntry core true u.gt).gt = u.gt := hstart.gt.trans ha.gt
  have hdiv : Reg.CLK_PDIV_ADC ≠ Reg.ADC_PREEMPT core := by unfold Reg.ADC_PREEMPT; exact ne_of_lt (Nat.lt_add_right _ (by decide))
  refine ⟨_, hexec, (State.Onward.execSequenceStart (own := []) (by decide)).keeps hexec, hgt, ?_, ?_, fun w hw' hwi => ?_⟩
  · rw [hstart.core, hgt]
    have hlen' : v.convLen cfg.smp = s.convLen cfg.smp :=
      State.convLen_of_reg ((hvw.reg hdiv).trans (State.reg_of_regs huregs _)) _
    simp only [State.started, hlen']
  · rw [hstart.core]
    exact congrArg AdcSeq.phase hvinj
  · refine (hstart.writes.regN ?_).trans ((ha.counted w (by rw [huana]; exact hw') hwi).trans ?_)
    · unfold Reg.ADC_PREEMPT Reg.ADC_STAT
      omega
    · rw [State.regN_of_regs huregs]

theorem regularWaitsForInjected {s : State} {core : Fin 8} (hs : s.inv = true) (hw : (s.ana.cores.at core).reg.phase = .waiting)
    (hi : (s.ana.cores.at core).inj.phase = .running) :
    ∃ t, exec (.sequenceStart core false) s = .next t ∧ s.keeps t [.gt, .ana] ∧ (t.ana.cores.at core).reg.phase = .held ∧
      (t.ana.cores.at core).conv = (s.ana.cores.at core).conv := by
  let u := s.gtTo (s.ana.cores.at core).reg.due
  have hexec : exec (.sequenceStart core false) s = .next (u.coreMod core (AdcCore.setRegPhase .held)) := by
    show execSequenceStart core false s = _
    simp [execSequenceStart, hw, hi, u]
    rfl
  have huana : u.ana = s.ana := State.gtTo_ana s _
  have huregs : u.regs = s.regs := State.gtTo_regs s _
  have hlen : core.val < u.ana.cores.length := by
    rw [huana, State.cores_length hs]
    exact core.isLt
  refine ⟨_, hexec, (State.Moves.coreMod (own := []) (.gtTo (.refl s) (by decide)) (by decide)).keeps, ?_, ?_⟩
  · rw [State.core_coreMod_same _ hlen]
    rfl
  · rw [State.core_coreMod_same _ hlen, huana]
    rfl

/-! ## Ends of conversions -/

/-- The plan of a sequence without its first entry (R91). -/
def AdcSeq.next (q : AdcSeq) : AdcSeq := { q with plan := q.plan.tail }

theorem State.Moves.ana_kept {own may : List Part} {s t : State} (h : s.Moves own may t) (hm : .ana ∉ may) : t.ana = s.ana := by
  obtain ⟨-, -, -, -, -, -, -, -, hana, -⟩ := h.keeps
  exact hana.resolve_left hm

theorem State.Writes.coreMod {m : Nat → Prop} {s t : State} (h : s.Writes m t) (c : Nat) (f : AdcCore → AdcCore) : s.Writes m (t.coreMod c f) :=
  h.of_regs rfl

theorem State.Writes.startEntry {m : Nat → Prop} {s t : State} (h : s.Writes m t) (c : Nat) (inj : Bool) (u : Nat) (hm : m (Reg.ADC_STAT c)) :
    s.Writes m (t.startEntry c inj u) := by
  unfold State.startEntry
  extract_lets q
  split
  · exact h
  · exact State.Writes.setFld (h.coreMod _ _) _ _ hm

theorem State.Writes.afterEntry {m : Nat → Prop} {s t : State} (h : s.Writes m t) (c : Nat) (inj : Bool) (hm : m (Reg.ADC_STAT c)) :
    s.Writes m (t.afterEntry c inj) := by
  unfold State.afterEntry
  refine .ite ?_ ?_
  · extract_lets s1 s2 p
    have hs1 : s.Writes m s1 := h.of_regs rfl
    have hs2 : s.Writes m s2 := State.Writes.setFld (hs1.coreMod _ _) _ _ hm
    exact .ite (.ite (.startEntry (hs2.coreMod _ _) _ _ _ hm) hs2) (hs1.startEntry _ _ _ hm)
  · extract_lets s1
    have hs1 : s.Writes m s1 := h.of_regs rfl
    exact .ite (State.Writes.setFld (hs1.coreMod _ _) _ _ hm) (hs1.startEntry _ _ _ hm)

theorem State.startEntry_results (s : State) (c : Nat) (inj : Bool) (t : Nat) :
    ((s.startEntry c inj t).ana.cores.at c).results = (s.ana.cores.at c).results := by
  unfold State.startEntry
  extract_lets q
  split
  · rfl
  · exact State.core_coreMod_kept s c c (·.results) fun _ => rfl

/-- The next entry of a core leaves the results that wait. -/
theorem State.afterEntry_results (s : State) (c : Nat) (inj : Bool) :
    ((s.afterEntry c inj).ana.cores.at c).results = (s.ana.cores.at c).results := by
  have hmod (t : State) (f : AdcCore → AdcCore) (hf : ∀ x, (f x).results = x.results) :
      ((t.coreMod c f).ana.cores.at c).results = (t.ana.cores.at c).results := State.core_coreMod_kept t c c (·.results) hf
  have hset (t : State) (f : AdcCore → AdcCore) (g : Fld) (hf : ∀ x, (f x).results = x.results) :
      (((t.coreMod c f).setFld (Reg.ADC_STAT c) g 0).ana.cores.at c).results = (t.ana.cores.at c).results := hmod t f hf
  unfold State.afterEntry
  split
  · extract_lets s1 s2 p
    have hs1 : (s1.ana.cores.at c).results = (s.ana.cores.at c).results := hmod _ _ fun _ => rfl
    have hs2 : (s2.ana.cores.at c).results = (s.ana.cores.at c).results := (hset _ _ _ (by exact fun _ => rfl)).trans hs1
    split
    · split
      · exact (State.startEntry_results _ _ _ _).trans ((hmod _ _ (by exact fun _ => rfl)).trans hs2)
      · exact hs2
    · exact (State.startEntry_results _ _ _ _).trans hs1
  · extract_lets s1
    have hs1 : (s1.ana.cores.at c).results = (s.ana.cores.at c).results := hmod _ _ fun _ => rfl
    split
    · exact (hset _ _ _ (by exact fun _ => rfl)).trans hs1
    · exact (State.startEntry_results _ _ _ _).trans hs1

section
variable {s : State} {c : Nat} (hs : s.regsOk = true) (hc : c < s.ana.cores.length)
include hs hc

/-- The entry after one of a regular sequence (R91). -/
theorem State.afterEntry_regular {a b : EntryCfg} {r : List EntryCfg} (hp : (s.ana.cores.at c).reg.plan = a :: b :: r) :
    ((s.afterEntry c false).ana.cores.at c).conv = some { inj := false, cfg := b, start := s.gt, len := s.convLen b.smp } ∧
      ((s.afterEntry c false).ana.cores.at c).reg.plan = b :: r := by
  let s1 := s.coreMod c (fun k => { k with reg := k.reg.next })
  have hcore : s1.ana.cores.at c = { s.ana.cores.at c with reg := (s.ana.cores.at c).reg.next } := State.core_coreMod_same _ hc
  have hplan : (s1.ana.cores.at c).reg.plan = b :: r := by
    rw [hcore]
    show (s.ana.cores.at c).reg.plan.tail = _
    rw [hp]
    rfl
  have heq : s.afterEntry c false = s1.startEntry c false s.gt := by
    show (if (s1.ana.cores.at c).reg.plan.isEmpty = true then _ else _) = _
    rw [if_neg (by simp [hplan])]
    rfl
  have hstart : s1.EntryStarted c false b s.gt (s1.startEntry c false s.gt) :=
    State.startEntry_spec _ hs (by rw [State.cores_length_coreMod]; exact hc) hplan
  rw [heq, hstart.core]
  exact ⟨rfl, hplan⟩

theorem State.afterEntry_injected {a b : EntryCfg} {r : List EntryCfg} (hp : (s.ana.cores.at c).inj.plan = a :: b :: r) :
    ((s.afterEntry c true).ana.cores.at c).conv = some { inj := true, cfg := b, start := s.gt, len := s.convLen b.smp } ∧
      ((s.afterEntry c true).ana.cores.at c).inj.plan = b :: r := by
  let s1 := s.coreMod c (fun k => { k with inj := k.inj.next })
  have hcore : s1.ana.cores.at c = { s.ana.cores.at c with inj := (s.ana.cores.at c).inj.next } := State.core_coreMod_same _ hc
  have hplan : (s1.ana.cores.at c).inj.plan = b :: r := by
    rw [hcore]
    show (s.ana.cores.at c).inj.plan.tail = _
    rw [hp]
    rfl
  have heq : s.afterEntry c true = s1.startEntry c true s.gt := by
    show (if (s1.ana.cores.at c).inj.plan.isEmpty = true then _ else _) = _
    rw [if_neg (by simp [hplan])]
    rfl
  have hstart : s1.EntryStarted c true b s.gt (s1.startEntry c true s.gt) :=
    State.startEntry_spec _ hs (by rw [State.cores_length_coreMod]; exact hc) hplan
  rw [heq, hstart.core]
  exact ⟨rfl, hplan⟩

/-- The end of a regular sequence (R88). -/
theorem State.afterEntry_regularEnd {a : EntryCfg} (hp : (s.ana.cores.at c).reg.plan = [a]) (hconv : (s.ana.cores.at c).conv = none) :
    ((s.afterEntry c false).ana.cores.at c).conv = none ∧ ((s.afterEntry c false).ana.cores.at c).reg.phase = .idle ∧
      (s.afterEntry c false).flag (Reg.ADC_STAT c) F.ADC_STAT_REG_RUN = false := by
  let s1 := s.coreMod c (fun k => { k with reg := k.reg.next })
  let s2 := s1.coreMod c (fun k => { k with reg := {}, regDone := min 255 (k.regDone + 1) })
  have hcore : s1.ana.cores.at c = { s.ana.cores.at c with reg := (s.ana.cores.at c).reg.next } := State.core_coreMod_same _ hc
  have hplan : (s1.ana.cores.at c).reg.plan = [] := by
    rw [hcore]
    show (s.ana.cores.at c).reg.plan.tail = _
    rw [hp]
    rfl
  have heq : s.afterEntry c false = s2.setFld (Reg.ADC_STAT c) F.ADC_STAT_REG_RUN 0 := by
    show (if (s1.ana.cores.at c).reg.plan.isEmpty = true then _ else _) = _
    rw [if_pos (by simp [hplan])]
    rfl
  have hcore2 : s2.ana.cores.at c = { s1.ana.cores.at c with reg := {}, regDone := min 255 ((s1.ana.cores.at c).regDone + 1) } :=
    State.core_coreMod_same _ (by rw [State.cores_length_coreMod]; exact hc)
  have hcore2' : (s2.setFld (Reg.ADC_STAT c) F.ADC_STAT_REG_RUN 0).ana.cores.at c = _ := hcore2
  rw [heq, hcore2', hcore]
  exact ⟨hconv, rfl, State.flag_setFld (s := s2) hs _ _ _ (by decide)⟩

end

/-- A sticky bit outside the system block, where the log's registers lie. -/
theorem State.stuck_stick_high {s : State} {k : Stk} (h : s.regsOk = true) (hb : k.bit < 32) (hr : 0x20000 ≤ k.reg) : (s.stick k).stuck k = true :=
  State.stick_stuck k h hb (ne_of_gt (Nat.lt_of_lt_of_le (by decide) hr))

/-- A core whose conversion `v` has ended with the result `r` (R91, R92). -/
def AdcCore.converted (v : AdcConv) (r : AdcResult) (k : AdcCore) : AdcCore :=
  { k with conv := none, results := k.results ++ [r],
           last := k.last.put v.cfg.e { val := r.val, ended := v.start + v.len, before := (k.last.find v.cfg.e).map (fun x => x.val) } }

theorem conversionEnds {s : State} {core : Fin 8} {code : Fin 65536} {v : AdcConv} (hs : s.inv = true) (hv : (s.ana.cores.at core).conv = some v) :
    ∃ t, exec (.conversionEnd core code) s = .next t ∧ s.keeps t ([.gt, .ana] ++ logParts) ∧ t.gt = (s.gtTo (v.start + v.len)).gt ∧
      (t.ana.cores.at core).results = (s.ana.cores.at core).results ++
        [{ slot := adcSlot core v.cfg.e, sample := v.start, due := v.start + v.len + 12, val := adcResult v.cfg code }] ∧
      (code.val = 0 ∨ code.val = 65535 → t.stuck (Stk.ADC_RANGE core) = true) ∧
      (∀ a b r, v.inj = false → (s.ana.cores.at core).reg.plan = a :: b :: r →
        (t.ana.cores.at core).conv = some { inj := false, cfg := b, start := t.gt, len := s.convLen b.smp } ∧ (t.ana.cores.at core).reg.plan = b :: r) ∧
      (∀ a, v.inj = false → (s.ana.cores.at core).reg.plan = [a] →
        (t.ana.cores.at core).conv = none ∧ (t.ana.cores.at core).reg.phase = .idle ∧ t.flag (Reg.ADC_STAT core) F.ADC_STAT_REG_RUN = false) ∧
      (∀ a b r, v.inj = true → (s.ana.cores.at core).inj.plan = a :: b :: r →
        (t.ana.cores.at core).conv = some { inj := true, cfg := b, start := t.gt, len := s.convLen b.smp } ∧ (t.ana.cores.at core).inj.plan = b :: r) := by
  let r : AdcResult := { slot := adcSlot core v.cfg.e, sample := v.start, due := v.start + v.len + 12, val := adcResult v.cfg code }
  let u := s.gtTo (v.start + v.len)
  let u1 := u.coreMod core (AdcCore.converted v r)
  let u2 := u1.stickIf (code.val = 0 || code.val = 65535 || reservedCh core v.cfg.ch) (Stk.ADC_RANGE core)
  have hexec : exec (.conversionEnd core code) s = .next (u2.afterEntry core v.inj) := by
    show execConversionEnd core code s = _
    simp only [execConversionEnd, hv]
    rfl
  have huana : u.ana = s.ana := State.gtTo_ana s _
  have huregs : u.regs = s.regs := State.gtTo_regs s _
  have hlen : core.val < u.ana.cores.length := by
    rw [huana, State.cores_length hs]
    exact core.isLt
  have hu1ok : u1.regsOk = true := (State.regsOk_of_regs huregs).trans (State.regsOk_of_inv hs)
  have hu2 : u1.Writes (· ∈ stickRegs (Stk.ADC_RANGE core)) u2 := (State.Writes.refl hu1ok).stickIf _ _ fun _ => id
  have hu2ana : u2.ana = u1.ana := State.stickIf_ana _ _ _
  have hu2gt : u2.gt = u.gt := State.stickIf_gt _ _ _
  have hcore : u2.ana.cores.at core = AdcCore.converted v r (s.ana.cores.at core) := by
    rw [hu2ana, State.core_coreMod_same _ hlen, huana]
  have hlen2 : core.val < u2.ana.cores.length := by
    rw [hu2ana, State.cores_length_coreMod]
    exact hlen
  have hgt : (u2.afterEntry core v.inj).gt = u.gt :=
    ((State.Moves.afterEntry (own := []) (.refl u2) (by decide : _ ⊆ [Part.regs, Part.ana])).gt_kept (by decide)).trans hu2gt
  have hconv (n : Nat) : u2.convLen n = s.convLen n := by
    have hdiv : Reg.CLK_PDIV_ADC ∉ stickRegs (Stk.ADC_RANGE core) := by
      simp only [stickRegs, Stk.ADC_RANGE, Reg.ADC_STK, List.mem_cons, List.not_mem_nil, or_false, not_or]
      exact ⟨ne_of_lt (Nat.lt_add_right _ (by decide)), by decide, by decide⟩
    exact State.convLen_of_reg ((hu2.reg hdiv).trans (State.reg_of_regs huregs _)) n
  refine ⟨_, hexec, (State.Onward.execConversionEnd (own := []) (by decide)).keeps hexec, hgt, ?_, fun hcode => ?_, fun a b q hi hp => ?_,
    fun a hi hp => ?_, fun a b q hi hp => ?_⟩
  · rw [State.afterEntry_results, hcore]
    rfl
  · have hset : u2 = u1.stick (Stk.ADC_RANGE core) := if_pos (by rw [Bool.or_eq_true, Bool.or_eq_true, decide_eq_true_iff, decide_eq_true_iff]; exact .inl hcode)
    have hstk : u2.stuck (Stk.ADC_RANGE core) = true := by
      rw [hset]
      exact State.stuck_stick_high hu1ok (by decide : 3 < 32) (by simp only [Stk.ADC_RANGE, Reg.ADC_STK]; omega)
    have hw : u2.Writes (· = Reg.ADC_STAT core) (u2.afterEntry core v.inj) := (State.Writes.refl hu2.ok).afterEntry _ _ rfl
    refine (hw.stuck ?_).trans hstk
    simp only [Stk.ADC_RANGE, Reg.ADC_STK, Reg.ADC_STAT]
    omega
  · rw [hgt, ← hu2gt, ← hconv, hi]
    exact State.afterEntry_regular hu2.ok hlen2 (by rw [hcore]; exact hp)
  · rw [hi]
    exact State.afterEntry_regularEnd hu2.ok hlen2 (by rw [hcore]; exact hp) (by rw [hcore]; rfl)
  · rw [hgt, ← hu2gt, ← hconv, hi]
    exact State.afterEntry_injected hu2.ok hlen2 (by rw [hcore]; exact hp)

/-! ## Writes of results -/

section
variable {s t : State} (hr : t.regs = s.regs) (ht : t.tim = s.tim) (hv : t.variant = s.variant)

include ht in
theorem State.instantOf_of_tim (n : Nat) : t.instantOf n = s.instantOf n := by rw [State.instantOf, State.instantOf, ht]

include hr hv in
theorem State.ownerOf_of_kept (slot : Nat) : t.ownerOf slot = s.ownerOf slot := by
  have hof (u : State) : u.ownerOf slot = ({ s with variant := u.variant, regs := u.regs } : State).ownerOf slot := rfl
  rw [hof t, hof s, hr, hv]

include hr ht in
theorem State.commitFrom_of_kept (n : Nat) : t.commitFrom n = s.commitFrom n := by
  have hof (u : State) : u.commitFrom n = ({ s with regs := u.regs, tim := u.tim } : State).commitFrom n := rfl
  rw [hof t, hof s, hr, ht]

include hr ht hv in
theorem State.destOf_of_kept (slot n : Nat) : t.destOf slot n = s.destOf slot n := by
  have hof (u : State) : u.destOf slot n = ({ s with variant := u.variant, regs := u.regs, tim := u.tim } : State).destOf slot n := rfl
  rw [hof t, hof s, hr, ht, hv]

end

theorem resultReachesPantry {s : State} {core : Fin 8} {r : AdcResult} {rest : List AdcResult} (hs : s.inv = true)
    (hr : (s.ana.cores.at core).results = r :: rest) :
    ∃ t, exec (.adcResultWrite (.seq core)) s = .next t ∧ s.keeps t ([.gt, .ana, .pan] ++ logParts) ∧ (t.ana.cores.at core).results = rest ∧
      t.gt = (s.gtTo r.due).gt ∧
      (let u := s.gtTo r.due
       let c := s.destOf r.slot r.sample
       s.ownerOf r.slot = 1 → u.gt < s.instantOf c → u.nextCommit ≤ c → c ≤ u.commitAfter u.nextCommit →
       ((s.pan.pend.find c).getD []).find r.slot = none →
       ((t.pan.pend.find c).getD []).find r.slot = some { val := r.val, ord := r.sample }) := by
  let u := s.gtTo r.due
  let v := u.coreMod core (fun k => { k with results := rest })
  have hexec : exec (.adcResultWrite (.seq core)) s = .next (v.panSampleAt v.gt 0x01 r.slot r.sample r.val) := by
    show execAdcResultWrite (.seq core) s = _
    simp only [execAdcResultWrite, hr]
    rfl
  have huana : u.ana = s.ana := State.gtTo_ana s _
  have hlen : core.val < u.ana.cores.length := by
    rw [huana, State.cores_length hs]
    exact core.isLt
  have hwrite : v.Moves [] (.pan :: logParts) (v.panSampleAt v.gt 0x01 r.slot r.sample r.val) := .panSampleAt (.refl v) (by decide)
  refine ⟨_, hexec, (State.Onward.execAdcResultWrite (src := .seq core) (own := []) (by decide)).keeps hexec, ?_, hwrite.gt_kept (by decide), ?_⟩
  · rw [hwrite.ana_kept (by decide), State.core_coreMod_same _ hlen]
  · intro _ c hown hi hn ha hfree
    have huregs : v.regs = s.regs := State.gtTo_regs s _
    have hvar : v.variant = s.variant := State.gtTo_variant s _
    have hutim : v.tim = s.tim := State.gtTo_tim s _
    have hpan : v.pan = s.pan := State.gtTo_pan s _
    have hput : v.panSampleAt v.gt 0x01 r.slot r.sample r.val = v.pendPut c r.slot r.sample r.val := by
      rw [show c = v.destOf r.slot r.sample from (State.destOf_of_kept huregs hutim hvar _ _).symm] at hi hn ha ⊢
      refine State.panWrite_inTime r.val (by decide) ((State.ownerOf_of_kept huregs hvar _).trans hown) ?_ hn ha
      rw [State.instantOf_of_tim hutim]
      exact hi
    rw [hput, State.pendPut_eq, hpan]
    · simp [KMap.find_put_same]
    · intro w hw
      rw [hpan, hfree] at hw
      cases hw

/-- Settles O13: the starts, the end of a conversion and the write of its result. -/
theorem sequencesConvertAndWriteResults : Obligations.SequencesConvertAndWriteResults := by
  unfold Obligations.SequencesConvertAndWriteResults
  exact ⟨fun s core cfg rest hs => ⟨fun hw hp hi => regularStartsEntry hs hw hp hi, fun hw hp => injectedStartsEntry hs hw hp,
      fun hw hi => regularWaitsForInjected hs hw hi⟩,
    fun s core code v hs hv => conversionEnds hs hv, fun s core r rest hs hr => resultReachesPantry hs hr⟩

end Sys2Proof.Machine
end

section
/-!
PROOFS. What the end of a command writes in the registers: the registers of the mailbox alone.
-/
namespace Sys2Proof.Machine

/-- The registers of the mailbox, with its completion rings (R425). -/
def mailRegs (a : Nat) : Prop := a < 0xA000

/-- A register above the mailbox. -/
theorem not_mailRegs {a : Nat} (h : 0xA000 ≤ a) : ¬ mailRegs a := Nat.not_lt.2 h

theorem cqBase_high (q : Fin 4) : cqBase q ≤ 0x9800 := by
  have := q.isLt
  unfold cqBase
  omega

theorem MComp.words_length (c : MComp) (p : Bool) : (c.words p).length = 8 := rfl

namespace State.Writes

variable {m : Nat → Prop} {s t : State}

/-- Consecutive registers. -/
theorem setWords (h : s.Writes m t) {a : Nat} {ws : List Word} (hm : ∀ i, i < ws.length → m (a + 4 * i)) : s.Writes m (t.setWords a ws) := by
  unfold State.setWords
  refine List.foldlRecOn _ _ h fun u hu e he => hu.setReg _ (hm e.2 ?_)
  exact (List.mem_zipIdx' he).1

section
variable (hm : ∀ a, mailRegs a → m a)
include hm

theorem setTagOut (h : s.Writes m t) {tag : Nat} {b : Bool} : s.Writes m (t.setTagOut tag b) :=
  .ite (h.setBit _ _ (hm _ (by unfold mailRegs; decide))) (h.setBit _ _ (hm _ (by unfold mailRegs; decide)))

theorem cqWrite (h : s.Writes m t) {c : MComp} : s.Writes m (t.cqWrite c) := by
  have hq := c.q.isLt
  unfold State.cqWrite
  extract_lets +onlyGivenNames n s1 srcMbx s2 srcOut s3
  have hn : n < 64 := Nat.mod_lt _ (by decide)
  have hs1 : s.Writes m s1 := by
    refine .setFld (.setWords h fun i hi => hm _ ?_) _ _ (hm _ ?_)
    · have hb := cqBase_high c.q
      rw [MComp.words_length] at hi
      unfold mailRegs
      omega
    · unfold mailRegs Reg.MBX_CQTAIL
      omega
  have hs2 : s.Writes m s2 := .ite (hs1.of_regs rfl) hs1
  have hs3 : s.Writes m s3 := .ite (hs2.of_regs rfl) hs2
  exact .ite hs3 (hs3.setTagOut hm)

theorem cqDrain (h : s.Writes m t) {q n : Nat} : s.Writes m (State.cqDrain q n t) := by
  induction n generalizing t with
  | zero => exact h
  | succ n ih =>
    unfold State.cqDrain
    split
    · exact h
    · refine .ite h (ih (State.Writes.cqWrite hm ?_))
      exact h.of_regs rfl

theorem postComp (h : s.Writes m t) {c : MComp} : s.Writes m (t.postComp c) := by
  unfold State.postComp
  refine State.Writes.cqDrain hm ?_
  exact h.of_regs rfl

theorem mboxReady (h : s.Writes m t) : s.Writes m t.mboxReady :=
  .ite ((h.setFld _ _ (hm _ (by unfold mailRegs; decide))).setFld _ _ (hm _ (by unfold mailRegs; decide))) h

theorem finish (h : s.Writes m t) {tag status : Nat} {result : Word} {dlen cidx : Nat} {v0 v1 : Word} :
    s.Writes m (t.finish tag status result dlen cidx v0 v1) := by
  unfold State.finish
  refine .ite h ?_
  split
  · exact h
  · extract_lets srcMbx s1
    have hs1 : s.Writes m s1 := h.of_regs rfl
    exact .ite (hs1.mboxReady hm) (hs1.postComp hm)

end

end State.Writes

end Sys2Proof.Machine
end

section
/-!
PROOFS. Open-wire rounds and calibrations of the converter cores (O14).
-/
namespace Sys2Proof.Machine

/-! ## Open-wire rounds -/

theorem openWireRoundStarts {s : State} {core : Fin 8} (hs : s.inv = true) (hon : s.anaOn = true) (hact : (s.ana.cores.at core).owActive = false)
    (hpins : bitsOf 12 (s.fld (Reg.ADC_OWCFG core) F.ADC_OWCFG_OW_EN) ≠ []) (hen : s.flag (Reg.ADC_CTRL core) F.ADC_CTRL_EN = true) :
    ∃ t, exec (.openWireRound core) s = .next t ∧ s.keeps t [.gt, .ana] ∧ (t.ana.cores.at core).owActive = true ∧
      (t.ana.cores.at core).owLeft = bitsOf 12 (s.fld (Reg.ADC_OWCFG core) F.ADC_OWCFG_OW_EN) ∧ (t.ana.cores.at core).owStart = t.gt ∧
      ((s.ana.cores.at core).owAny = true →
        t.gt = (s.gtTo ((s.ana.cores.at core).owStart + max 1 (s.fld (Reg.ADC_OWCFG core) F.ADC_OWCFG_PERIOD) * 500000)).gt) := by
  let k := s.ana.cores.at core
  let pins := bitsOf 12 (s.fld (Reg.ADC_OWCFG core) F.ADC_OWCFG_OW_EN)
  let u := if k.owAny then s.gtTo (k.owStart + max 1 (s.fld (Reg.ADC_OWCFG core) F.ADC_OWCFG_PERIOD) * tickMs) else s
  have hc : ¬ (k.owActive || pins.isEmpty || !s.flag (Reg.ADC_CTRL core) F.ADC_CTRL_EN || !s.anaOn) = true := by
    simp [k, pins, hact, hen, hon, hpins]
  have hexec : exec (.openWireRound core) s =
      .next (u.coreMod core (fun x => { x with owActive := true, owAny := true, owStart := u.gt, owLeft := pins, owStarved := false })) :=
    congrArg Host.Outcome.next (if_neg hc)
  have huana : u.ana = s.ana := by
    dsimp only [u]
    split
    · exact State.gtTo_ana _ _
    · rfl
  have hlen : core.val < u.ana.cores.length := by
    rw [huana, State.cores_length hs]
    exact core.isLt
  refine ⟨_, hexec, (State.Onward.execOpenWireRound (own := []) (by decide)).keeps hexec, ?_, ?_, ?_, fun hany => ?_⟩
  · rw [State.core_coreMod_same _ hlen]
  · rw [State.core_coreMod_same _ hlen]
  · rw [State.core_coreMod_same _ hlen]
    rfl
  · show u.gt = _
    exact congrArg State.gt (if_pos hany)

theorem openWireStepTests {s : State} {core : Fin 8} {up down : Fin 65536} {p : Nat} {rest : List Nat} (hs : s.inv = true) (hon : s.anaOn = true)
    (hleft : (s.ana.cores.at core).owLeft = p :: rest) (hp : p < 12) (hact : (s.ana.cores.at core).owActive = true)
    (hcal : (s.ana.cores.at core).calPending = false) (hconv : (s.ana.cores.at core).conv = none)
    (hen : s.flag (Reg.ADC_CTRL core) F.ADC_CTRL_EN = true) :
    ∃ t, exec (.openWireStep core up down) s = .next t ∧ s.keeps t (.ana :: logParts) ∧
      (t.reg (Reg.ADC_OWFLAG core)).getLsbD p = decide (s.fld (Reg.ADC_OWSET core) F.ADC_OWSET_DELTA + down.val < up.val) ∧
      (s.fld (Reg.ADC_OWSET core) F.ADC_OWSET_DELTA + down.val < up.val → t.stuck (Stk.ADC_OPEN core) = true) ∧
      (t.ana.cores.at core).owLeft = rest ∧ (t.ana.cores.at core).owActive = !rest.isEmpty := by
  let o := decide (s.fld (Reg.ADC_OWSET core) F.ADC_OWSET_DELTA + down.val < up.val)
  let s1 := s.setBit (Reg.ADC_OWFLAG core) p o
  let u := s1.stickIf o (Stk.ADC_OPEN core)
  have hexec : exec (.openWireStep core up down) s = .next (u.coreMod core (fun x => { x with owLeft := rest, owActive := !rest.isEmpty })) := by
    show execOpenWireStep core up down s = _
    simp only [execOpenWireStep, hleft, hact, hcal, hconv, hen, hon]
    simp [u, s1, o]
  have hok := State.regsOk_of_inv hs
  have hs1 : s1.regsOk = true := State.setBit_ok _ _ _ hok
  have hu : s1.Writes (· ∈ stickRegs (Stk.ADC_OPEN core)) u := (State.Writes.refl hs1).stickIf _ _ fun _ => id
  have hlen : core.val < u.ana.cores.length := by
    rw [State.stickIf_ana, State.setBit_ana, State.cores_length hs]
    exact core.isLt
  refine ⟨_, hexec, (State.Onward.execOpenWireStep (own := []) (by decide)).keeps hexec, ?_, fun ho => ?_, ?_, ?_⟩
  · have hne : Reg.ADC_OWFLAG core ∉ stickRegs (Stk.ADC_OPEN core) := by
      simp only [stickRegs, Stk.ADC_OPEN, Reg.ADC_STK, Reg.ADC_OWFLAG, List.mem_cons, List.not_mem_nil, or_false, not_or]
      exact ⟨by omega, ne_of_gt (Nat.lt_add_right _ (by decide)), ne_of_gt (Nat.lt_add_right _ (by decide))⟩
    exact (congrArg (·.getLsbD p) (hu.reg hne)).trans (State.bit_setBit _ _ _ hok (by omega))
  · have hset : u = s1.stick (Stk.ADC_OPEN core) := if_pos (decide_eq_true ho)
    show u.stuck _ = true
    rw [hset]
    exact State.stuck_stick_high hs1 (by decide : 2 < 32) (Nat.le_add_right_of_le (by decide))
  all_goals rw [State.core_coreMod_same _ hlen]

theorem openWireStarves {s : State} {core : Fin 8} (hs : s.inv = true) (hact : (s.ana.cores.at core).owActive = true)
    (hst : (s.ana.cores.at core).owStarved = false) :
    ∃ t, exec (.openWireTimeout core) s = .next t ∧ s.keeps t ([.gt, .ana] ++ logParts) ∧ t.stuck (Stk.ADC_DIAG_STARVED core) = true ∧
      (t.ana.cores.at core).owActive = true ∧ (t.ana.cores.at core).owLeft = (s.ana.cores.at core).owLeft ∧
      t.gt = (s.gtTo ((s.ana.cores.at core).owStart + 500000000)).gt := by
  let u := s.gtTo ((s.ana.cores.at core).owStart + tickSec)
  let v := u.stick (Stk.ADC_DIAG_STARVED core)
  have hexec : exec (.openWireTimeout core) s = .next (v.coreMod core (fun x => { x with owStarved := true })) := by
    show execOpenWireTimeout core s = _
    simp [execOpenWireTimeout, hact, hst, u, v]
  have huok : u.regsOk = true := (State.regsOk_of_regs (State.gtTo_regs s _)).trans (State.regsOk_of_inv hs)
  have hvana : v.ana = s.ana := (State.stick_ana _ _).trans (State.gtTo_ana _ _)
  have hlen : core.val < v.ana.cores.length := by
    rw [hvana, State.cores_length hs]
    exact core.isLt
  refine ⟨_, hexec, (State.Onward.execOpenWireTimeout (own := []) (by decide)).keeps hexec,
    State.stuck_stick_high huok (by decide : 5 < 32) (Nat.le_add_right_of_le (by decide)), ?_, ?_, State.stick_gt _ _⟩
  all_goals rw [State.core_coreMod_same _ hlen, hvana]
  exact hact

/-! ## Calibrations -/

/-- A calibration that is queued (R100). -/
theorem State.calQueue_spec {s : State} {c : Nat} (hs : s.regsOk = true) (hc : c < s.ana.cores.length)
    (hp : (s.ana.cores.at c).calPending = false) :
    ((s.calQueue c).ana.cores.at c).calPending = true ∧ ((s.calQueue c).ana.cores.at c).calReq = s.gt ∧
      (s.calQueue c).flag (Reg.ADC_CALCFG c) F.ADC_CALCFG_REQ = true ∧ (s.calQueue c).flag (Reg.ADC_STAT c) F.ADC_STAT_CAL_RUN = true := by
  let u := s.coreMod c (fun k => { k with calPending := true, calReq := s.gt, calLast := s.gt })
  let v := u.setFld (Reg.ADC_CALCFG c) F.ADC_CALCFG_REQ 1
  have heq : s.calQueue c = v.setFld (Reg.ADC_STAT c) F.ADC_STAT_CAL_RUN 1 := if_neg (by simp [hp])
  have hu : u.regsOk = true := hs
  have hv : v.regsOk = true := State.setFld_ok _ _ _ hu
  have hcore : u.ana.cores.at c = { s.ana.cores.at c with calPending := true, calReq := s.gt, calLast := s.gt } := State.core_coreMod_same _ hc
  have hne : Reg.ADC_CALCFG c ≠ Reg.ADC_STAT c := by unfold Reg.ADC_CALCFG Reg.ADC_STAT; omega
  rw [heq]
  refine ⟨?_, ?_, ?_, State.flag_setFld hv _ _ _ (by decide)⟩
  · rw [State.setFld_ana, State.setFld_ana, hcore]
  · rw [State.setFld_ana, State.setFld_ana, hcore]
  · rw [State.flag_of_reg (State.reg_setFld_ne _ _ hv hne)]
    exact State.flag_setFld hu _ _ _ (by decide)

theorem calibrationRequestQueues {s : State} {core : Fin 8} (hs : s.inv = true) (hp : (s.ana.cores.at core).calPending = false) :
    ∃ t, exec (.calReq core) s = .next t ∧ s.keeps t [.regs, .ana] ∧ (t.ana.cores.at core).calPending = true ∧ (t.ana.cores.at core).calReq = s.gt ∧
      t.flag (Reg.ADC_CALCFG core) F.ADC_CALCFG_REQ = true ∧ t.flag (Reg.ADC_STAT core) F.ADC_STAT_CAL_RUN = true := by
  have hlen : core.val < s.ana.cores.length := by
    rw [State.cores_length hs]
    exact core.isLt
  have hexec : exec (.calReq core) s = .next (s.calQueue core) := rfl
  exact ⟨_, hexec, (State.Onward.execCalReq (own := []) (by decide)).keeps hexec, State.calQueue_spec (State.regsOk_of_inv hs) hlen hp⟩

theorem calibrationIntervalQueues {s : State} {core : Fin 8} (hs : s.inv = true) (hp : (s.ana.cores.at core).calPending = false) (hon : s.anaOn = true)
    (hint : s.fld (Reg.ADC_CALCFG core) F.ADC_CALCFG_AUTO_INT ≠ 0) :
    ∃ t, exec (.calAuto core) s = .next t ∧ s.keeps t [.gt, .regs, .ana] ∧ (t.ana.cores.at core).calPending = true ∧
      t.gt = (s.gtTo ((s.ana.cores.at core).calLast + s.fld (Reg.ADC_CALCFG core) F.ADC_CALCFG_AUTO_INT * 60 * 500000000)).gt := by
  let u := s.gtTo ((s.ana.cores.at core).calLast + s.fld (Reg.ADC_CALCFG core) F.ADC_CALCFG_AUTO_INT * 60 * tickSec)
  have huana : u.ana = s.ana := State.gtTo_ana _ _
  have hlen : core.val < u.ana.cores.length := by
    rw [huana, State.cores_length hs]
    exact core.isLt
  have hexec : exec (.calAuto core) s = .next (u.calQueue core) := by
    refine congrArg Host.Outcome.next (if_neg ?_)
    simp [hint, hon]
  obtain ⟨hpend, -⟩ := State.calQueue_spec ((State.regsOk_of_regs (State.gtTo_regs s _)).trans (State.regsOk_of_inv hs) : u.regsOk = true) hlen
    (by rw [huana]; exact hp)
  exact ⟨_, hexec, (State.Onward.execCalAuto (own := []) (by decide)).keeps hexec, hpend,
    (State.Moves.calQueue (own := []) (.refl u) (by decide : _ ⊆ [Part.regs, Part.ana])).gt_kept (by decide)⟩

/-- What the end of a calibration leaves of the core and of its registers (R100). -/
structure State.CalEnded (c : Nat) (ok : Bool) (s t : State) : Prop where
  regsOk : t.regsOk = true
  cores : t.ana.cores = s.ana.cores.mod c (fun k => { k with calPending := false })
  gt : t.gt = s.gt
  done : t.flag (Reg.ADC_CALCFG c) F.ADC_CALCFG_DONE = ok
  req : t.flag (Reg.ADC_CALCFG c) F.ADC_CALCFG_REQ = false

theorem State.Writes.calTags {m : Nat → Prop} {s t : State} (hm : ∀ a, mailRegs a → m a) (h : s.Writes m t) (c : Nat) (ok : Bool) :
    s.Writes m (t.calTags c ok) := by
  unfold State.calTags
  extract_lets next
  refine .foldl (fun v x hv => hv.finish hm) ?_
  exact h.of_regs rfl

theorem State.calFinish_spec {s : State} {c : Nat} {ok : Bool} (hs : s.regsOk = true) : s.CalEnded c ok (s.calFinish c ok) := by
  let s1 := s.coreMod c (fun k => { k with calPending := false })
  let s2 := s1.setFld (Reg.ADC_CALCFG c) F.ADC_CALCFG_REQ 0
  let s3 := s2.setFld (Reg.ADC_CALCFG c) F.ADC_CALCFG_DONE (bit ok)
  let s4 := s3.setFld (Reg.ADC_STAT c) F.ADC_STAT_CAL_RUN 0
  have hs2 : s2.regsOk = true := State.setFld_ok (s := s1) _ _ _ hs
  have hs3 : s3.regsOk = true := State.setFld_ok _ _ _ hs2
  have hs4 : s4.regsOk = true := State.setFld_ok _ _ _ hs3
  have hwrite : s4.Writes mailRegs (s4.calTags c ok) := (State.Writes.refl hs4).calTags (fun _ => id) _ _
  have hmove : s4.Moves [] [.regs, .mbx, .out] (s4.calTags c ok) := .calTags (.refl s4) (by decide)
  have hne : Reg.ADC_CALCFG c ≠ Reg.ADC_STAT c := by unfold Reg.ADC_CALCFG Reg.ADC_STAT; omega
  have hreg : (s4.calTags c ok).reg (Reg.ADC_CALCFG c) = s3.reg (Reg.ADC_CALCFG c) :=
    (hwrite.reg (not_mailRegs (Nat.le_add_right_of_le (by decide)))).trans (State.reg_setFld_ne _ _ hs3 hne)
  refine ⟨hwrite.ok, congrArg AnaState.cores (hmove.ana_kept (by decide)), hmove.gt_kept (by decide), ?_, ?_⟩
  · refine (State.flag_of_reg hreg _).trans ((State.flag_setFld hs2 _ _ _ (by decide)).trans ?_)
    cases ok <;> rfl
  · refine (State.flag_of_reg hreg _).trans ((State.flag_setFld_other hs2 _ _ _ _ (by decide) (by decide)).trans ?_)
    exact State.flag_setFld (s := s1) hs _ _ _ (by decide)

theorem calibrationCompletes {s : State} {core : Fin 8} {coef : DWord} (hs : s.inv = true) (hp : (s.ana.cores.at core).calPending = true) :
    ∃ t, exec (.calComplete core coef) s = .next t ∧ s.keeps t (.ana :: logParts) ∧ (t.ana.cores.at core).calPending = false ∧
      (t.ana.cores.at core).trimNext = some coef ∧ (t.ana.cores.at core).trim = (s.ana.cores.at core).trim ∧
      t.flag (Reg.ADC_CALCFG core) F.ADC_CALCFG_DONE = true ∧ t.flag (Reg.ADC_CALCFG core) F.ADC_CALCFG_REQ = false := by
  let u := s.calFinish core true
  let v := u.coreMod core (fun k => { k with trimNext := some coef })
  let t := v.logRec 0x0A (evCode 0xFF 1) ([w32 core, coef.setWidth 32, (coef >>> 32).setWidth 32] ++ cidxWords (2 * (s.gt / s.tim.epLen + 1)))
  have hexec : exec (.calComplete core coef) s = .next t := congrArg Host.Outcome.next (if_neg (by simp [hp]))
  have hu : s.CalEnded core true u := State.calFinish_spec (State.regsOk_of_inv hs)
  have hlen : core.val < s.ana.cores.length := by
    rw [State.cores_length hs]
    exact core.isLt
  have hucore : u.ana.cores.at core = { s.ana.cores.at core with calPending := false } := by
    rw [hu.cores, Tab.at_mod_same _ _ _ hlen]
  have hcore : t.ana.cores.at core = { u.ana.cores.at core with trimNext := some coef } := by
    rw [State.logRec_ana, State.core_coreMod_same]
    rw [hu.cores]
    simpa [Tab.mod] using hlen
  have hvok : v.regsOk = true := hu.regsOk
  have hlog : v.Writes (· ∈ logRegs) t := (State.Writes.refl hvok).logRec _ _ _ _ fun _ => id
  have hne : Reg.ADC_CALCFG core ∉ logRegs := by
    simp only [logRegs, List.mem_cons, List.not_mem_nil, or_false, not_or]
    exact ⟨ne_of_gt (Nat.lt_add_right _ (by decide)), ne_of_gt (Nat.lt_add_right _ (by decide))⟩
  refine ⟨t, hexec, (State.Onward.execCalComplete (own := []) (by decide)).keeps hexec, ?_, ?_, ?_, (hlog.flag _ hne).trans hu.done,
    (hlog.flag _ hne).trans hu.req⟩
  all_goals rw [hcore]
  all_goals rw [hucore]

theorem calibrationStarves {s : State} {core : Fin 8} (hs : s.inv = true) (hp : (s.ana.cores.at core).calPending = true) :
    ∃ t, exec (.calTimeout core) s = .next t ∧ s.keeps t ([.gt, .ana] ++ logParts) ∧ (t.ana.cores.at core).calPending = false ∧
      (t.ana.cores.at core).trimNext = (s.ana.cores.at core).trimNext ∧ t.flag (Reg.ADC_CALCFG core) F.ADC_CALCFG_DONE = false ∧
      t.stuck (Stk.CAL_STARVED core) = true ∧ t.gt = (s.gtTo ((s.ana.cores.at core).calReq + 500000000)).gt := by
  let u := s.gtTo ((s.ana.cores.at core).calReq + tickSec)
  let v := u.calFinish core false
  have hexec : exec (.calTimeout core) s = .next (v.stick (Stk.CAL_STARVED core)) := congrArg Host.Outcome.next (if_neg (by simp [hp]))
  have huok : u.regsOk = true := (State.regsOk_of_regs (State.gtTo_regs s _)).trans (State.regsOk_of_inv hs)
  have huana : u.ana = s.ana := State.gtTo_ana _ _
  have hv : u.CalEnded core false v := State.calFinish_spec huok
  have hlen : core.val < u.ana.cores.length := by
    rw [huana, State.cores_length hs]
    exact core.isLt
  have hcore : (v.stick (Stk.CAL_STARVED core)).ana.cores.at core = { s.ana.cores.at core with calPending := false } := by
    rw [State.stick_ana, hv.cores, Tab.at_mod_same _ _ _ hlen, huana]
  have hstk : v.Writes (· ∈ stickRegs (Stk.CAL_STARVED core)) (v.stick (Stk.CAL_STARVED core)) := (State.Writes.refl hv.regsOk).stick _ fun _ => id
  have hne : Reg.ADC_CALCFG core ∉ stickRegs (Stk.CAL_STARVED core) := by
    simp only [stickRegs, Stk.CAL_STARVED, Reg.ADC_STK, Reg.ADC_CALCFG, List.mem_cons, List.not_mem_nil, or_false, not_or]
    exact ⟨by omega, ne_of_gt (Nat.lt_add_right _ (by decide)), ne_of_gt (Nat.lt_add_right _ (by decide))⟩
  refine ⟨_, hexec, (State.Onward.execCalTimeout (own := []) (by decide)).keeps hexec, ?_, ?_, (hstk.flag _ hne).trans hv.done,
    State.stuck_stick_high hv.regsOk (by decide : 4 < 32) (Nat.le_add_right_of_le (by decide)), (State.stick_gt _ _).trans hv.gt⟩
  all_goals rw [hcore]

/-- Settles O14: the rounds, then the calibrations. -/
theorem openWireAndCalibration : Obligations.OpenWireAndCalibration := by
  unfold Obligations.OpenWireAndCalibration
  exact ⟨⟨fun s core hs hon hact hpins hen => openWireRoundStarts hs hon hact hpins hen,
      fun s core up down p rest hs hon hleft hp hact hcal hconv hen => openWireStepTests hs hon hleft hp hact hcal hconv hen,
      fun s core hs hact hst => openWireStarves hs hact hst⟩,
    fun s core hs hp => calibrationRequestQueues hs hp, fun s core hs hp hon hint => calibrationIntervalQueues hs hp hon hint,
    fun s core coef hs hp => calibrationCompletes hs hp, fun s core hs hp => calibrationStarves hs hp⟩

end Sys2Proof.Machine
end

section
/-!
PROOFS. Where the outputs of the comparators and of the sigma-delta channels go: the registers and the comparator states that the trip buses,
the triggers, the demands and the wakes leave (R115 to R119, R127, R130).
-/
namespace Sys2Proof.Machine

/-! ## What a route leaves -/

/-- A comparator without its blanking window and its wake. -/
def CmpState.core (c : CmpState) : CmpState := { c with blank := false, blankEnd := 0, blankSince := 0, blankHit := false, wakeArmed := false }

/-- The registers of the comparators, the safety functions and the units above them, and the log's. -/
def routeRegs (a : Nat) : Prop := 0x16000 ≤ a ∨ a ∈ logRegs

theorem routeRegs_high : HighRegs routeRegs := ⟨fun _ h => .inl (Nat.le_trans (by decide) h), fun _ h => .inr h⟩

theorem not_routeRegs {a : Nat} (h : a < 0x16000) (hl : a ∉ logRegs) : ¬ routeRegs a := by
  rintro (h' | h')
  · omega
  · exact hl h'

/-- `t` comes from `s` by such writes; the sticky bits of the comparators stay set, and their states are the same up to blanking and wakes. -/
structure State.Routes (s t : State) : Prop where
  writes : s.Writes routeRegs t
  sticks : ∀ k : Stk, k.reg = Reg.CMP_STK → s.stuck k = true → t.stuck k = true
  cmps : ∀ n, (t.cmp.cmps.at n).core = (s.cmp.cmps.at n).core

/-- All parts but the registers and the comparators. -/
def besideCmp : List Part :=
  [.gt, .variant, .dev, .deferred, .spareReqs, .pan, .tim, .ana, .pwm, .gl, .safe, .log, .pwr, .ket, .net, .mtr, .hop, .law, .sup, .fw, .mbx,
    .pin, .freeN, .out, .pending]

theorem State.Moves.cmp_kept {own may : List Part} {s t : State} (h : s.Moves own may t) (hm : .cmp ∉ may) : t.cmp = s.cmp := by
  obtain ⟨-, -, -, -, -, -, -, -, -, hcmp, -⟩ := h.keeps
  exact hcmp.resolve_left hm

/-- The registers of a route that are not the comparators' sticky bits. -/
def routeOther (a : Nat) : Prop := routeRegs a ∧ a ≠ Reg.CMP_STK

theorem routeOther_high : HighRegs routeOther :=
  ⟨fun a h => ⟨routeRegs_high.high a h, ne_of_gt (Nat.lt_of_lt_of_le (by decide) h)⟩, fun a h => ⟨.inr h, by
    simp only [logRegs, List.mem_cons, List.not_mem_nil, or_false] at h
    have hlog : Reg.LOG_DROPCNT ≠ Reg.CMP_STK ∧ Stk.LOG_QOVR.reg ≠ Reg.CMP_STK := by decide
    rcases h with rfl | rfl
    · exact hlog.1
    · exact hlog.2⟩⟩

theorem routeOther_of {a : Nat} (h : 0x16000 ≤ a) (hn : a ≠ Reg.CMP_STK) : routeOther a := ⟨.inl h, hn⟩

theorem routeOther_stick {k : Stk} (h : routeOther k.reg) : ∀ a ∈ stickRegs k, routeOther a := by
  intro a ha
  obtain rfl | ha := List.mem_cons.1 ha
  · exact h
  · exact routeOther_high.log a ha

namespace State.Routes

variable {s t u : State}

theorem refl (h : s.regsOk = true) : s.Routes s := ⟨.refl h, fun _ _ => id, fun _ => rfl⟩

/-- A step that writes other registers than the comparators' sticky bits and keeps the comparators. -/
theorem andThen (h : s.Routes t) (w : t.Writes routeOther u) (c : ∀ n, (u.cmp.cmps.at n).core = (t.cmp.cmps.at n).core) : s.Routes u where
  writes := h.writes.trans (w.mono fun _ ha => ha.1)
  sticks k hk hs := (w.stuck (by rw [hk]; exact fun ha => ha.2 rfl)).trans (h.sticks k hk hs)
  cmps n := (c n).trans (h.cmps n)

theorem ok (h : s.Routes t) : t.regsOk = true := h.writes.ok

/-- A change of neither registers nor comparators. -/
theorem moved (h : s.Routes t) (k : t.Moves [] besideCmp u) : s.Routes u :=
  h.andThen ((State.Writes.refl h.ok).of_regs (k.regs_kept (by decide))) fun n => by rw [k.cmp_kept (by decide)]

/-- A step that writes such registers and moves no comparator. -/
theorem wrote (h : s.Routes t) (w : t.Writes routeOther u) (c : u.cmp = t.cmp) : s.Routes u := h.andThen w fun n => by rw [c]

theorem setRegN (h : s.Routes t) {a n : Nat} (ha : routeOther a) : s.Routes (t.setRegN a n) := h.wrote ((State.Writes.refl h.ok).setRegN _ ha) rfl

theorem setFld (h : s.Routes t) {a n : Nat} {f : Fld} (ha : routeOther a) : s.Routes (t.setFld a f n) := h.setRegN ha

theorem setBit (h : s.Routes t) {a i : Nat} {b : Bool} (ha : routeOther a) : s.Routes (t.setBit a i b) := h.setFld ha

theorem bump (h : s.Routes t) {a : Nat} (ha : routeOther a) : s.Routes (t.bump a) := h.setRegN ha

theorem stick (h : s.Routes t) {k : Stk} (hk : routeOther k.reg) : s.Routes (t.stick k) :=
  h.wrote ((State.Writes.refl h.ok).stick k (routeOther_stick hk)) (State.stick_cmp _ _)

/-- A sticky bit of the comparators. -/
theorem stickCmp (h : s.Routes t) {k : Stk} (hk : k.reg = Reg.CMP_STK) (hb : k.bit < 32) : s.Routes (t.stick k) where
  writes := h.writes.stick k fun a ha => by
    obtain rfl | ha := List.mem_cons.1 ha
    · rw [hk]
      exact .inl (by decide)
    · exact .inr ha
  sticks j hj hs := State.stick_mono k j h.ok hb (by rw [hj]; decide) (h.sticks j hj hs)
  cmps n := by rw [State.stick_cmp, h.cmps]

theorem logRec (h : s.Routes t) {typ code : Nat} {ws : List Word} {pin : Bool} : s.Routes (t.logRec typ code ws pin) :=
  h.wrote ((State.Writes.refl h.ok).logRec _ _ _ _ routeOther_high.log) (State.logRec_cmp _ _ _ _ _)

theorem ite {c : Prop} [Decidable c] (ht : s.Routes t) (hu : s.Routes u) : s.Routes (if c then t else u) := by
  split
  · exact ht
  · exact hu

theorem foldl {α : Type} {f : State → α → State} {l : List α} (hf : ∀ v x, s.Routes v → s.Routes (f v x)) (h : s.Routes t) :
    s.Routes (l.foldl f t) := List.foldlRecOn _ _ h fun v hv x _ => hf v x hv

/-! ## Trips -/

theorem blankEdge_core (v : State) (g e : Nat) (r : Bool) (n : Nat) : ((v.blankEdge g e r).cmp.cmps.at n).core = (v.cmp.cmps.at n).core := by
  unfold State.blankEdge
  simp only [Tab.at, List.getD_eq_getElem?_getD, List.getElem?_map, List.getElem?_zipIdx]
  cases v.cmp.cmps[n]? with
  | none => rfl
  | some c =>
    simp only [Option.map_some, Option.getD_some]
    split
    · split <;> rfl
    · rfl

theorem driveOff (h : s.Routes t) {n e : Nat} : s.Routes (t.driveOff n e) := by
  unfold State.driveOff
  extract_lets +onlyGivenNames s1 d
  have hs1 : s.Routes s1 := h.moved (.chMod (.refl t) (by decide))
  have hs2 : s.Routes (s1.openWindow n d false) := hs1.moved (.openWindow (.refl s1) (by decide))
  exact hs2.andThen ((State.Writes.refl hs2.ok).of_regs rfl) (blankEdge_core _ _ _ _)

theorem forceIdeal (h : s.Routes t) {g : Nat} : s.Routes (t.forceIdeal g) := .foldl (fun _ _ hv => .ite hv (.ite hv.driveOff hv)) h

theorem dropCarries (h : s.Routes t) {g : Nat} : s.Routes (t.dropCarries g) :=
  .foldl (fun v _ hv => hv.wrote ((State.Writes.refl hv.ok).dropCarry routeOther_high)
    ((State.Moves.dropCarry (own := []) (.refl v) (by decide : _ ⊆ .pwm :: logParts)).cmp_kept (by decide))) h

theorem tripGroup (h : s.Routes t) {g : Nat} : s.Routes (t.tripGroup g) := by
  have hstk (k : Stk) (hk : k.reg = Reg.PWM_STK g) : routeOther k.reg := by
    rw [hk]
    exact routeOther_high.high _ (Nat.le_add_right_of_le (by decide))
  unfold State.tripGroup
  extract_lets +onlyGivenNames cbcM latM l s1
  have hs1 : s.Routes s1 := .ite (((h.moved (.lgMod (.refl t) (by decide))).stick (hstk _ rfl)).dropCarries.forceIdeal) h
  refine .ite ?_ hs1
  extract_lets +onlyGivenNames b s2
  have hs2 : s.Routes s2 := ((hs1.moved (.lgMod (.refl s1) (by decide))).stick (hstk _ rfl)).dropCarries.forceIdeal
  exact hs2.logRec

/-- New levels of the trip buses (R130). -/
theorem setBus (h : s.Routes t) {b seen : Nat} : s.Routes { t with cmp := { t.cmp with bus := b, busSeen := seen } } :=
  h.andThen ((State.Writes.refl h.ok).of_regs rfl) fun _ => rfl

theorem tripEval (h : s.Routes t) : s.Routes t.tripEval := by
  unfold State.tripEval
  exact .ite h (.foldl (fun _ _ hv => .ite hv.tripGroup hv) (h.setBus.setFld (routeOther_of (by decide) (by decide))))

/-! ## Triggers, demands and wakes -/

theorem adcFire (h : s.Routes t) {code : Nat} : s.Routes (t.adcFire code) := by
  have hw : t.Writes routeOther (t.adcFire code) := by
    refine .foldl (fun v k hv => ?_) (.refl h.ok)
    have hm (a : Nat) (ha : trigRegs a) : routeOther a := by
      rcases ha with ⟨c, ha⟩ | ha
      · refine routeOther_high.high _ ?_
        unfold Reg.ADC_STAT Reg.ADC_OVRCNT Reg.ADC_INJMISS Reg.ADC_STK at ha
        omega
      · exact routeOther_high.log _ ha
    have htrig {v : State} (hv : t.Writes routeOther v) (inj : Bool) : t.Writes routeOther (v.adcTrig k inj) :=
      hv.trans (((State.Writes.refl hv.ok).adcTrig k inj).mono hm)
    exact .ite (htrig (.ite (htrig hv _) hv) _) (.ite (htrig hv _) hv)
  exact h.wrote hw ((State.Moves.adcFire (own := []) (.refl t) (by decide : _ ⊆ .ana :: logParts)).cmp_kept (by decide))

theorem soutOff (h : s.Routes t) {j : Nat} : s.Routes (t.soutOff j) := by
  have hreg : routeOther (Reg.SAFE_SOUT j) := routeOther_of (Nat.le_add_right_of_le (by decide)) (ne_of_gt (Nat.lt_add_right _ (by decide)))
  unfold State.soutOff
  extract_lets src v
  have hv : s.Routes v := h.andThen ((State.Writes.refl h.ok).of_regs rfl) fun _ => rfl
  exact ((hv.setFld hreg).setFld hreg).setFld hreg

theorem soutCheck (h : s.Routes t) : s.Routes t.soutCheck := .foldl (fun _ _ hv => .ite hv.soutOff hv) h

theorem spoLatch (h : s.Routes t) {v cause src : Nat} : s.Routes (t.spoLatch v cause src) := by
  have hreg : routeOther (Reg.SAFE_CAUSE v) := routeOther_of (Nat.le_add_right_of_le (by decide)) (ne_of_gt (Nat.lt_add_right _ (by decide)))
  unfold State.spoLatch
  extract_lets +onlyGivenNames s1
  have hs1 : s.Routes s1 := h.setFld hreg
  refine .ite hs1 ?_
  extract_lets +onlyGivenNames s2 srcSafe s3
  have hs2 : s.Routes s2 :=
    ((((hs1.setBit (routeOther_of (by decide) (by decide))).setFld hreg).setFld hreg).bump (routeOther_of (by decide) (by decide))).stick
      (routeOther_of (by decide) (by decide))
  have hs3 : s.Routes s3 := hs2.andThen ((State.Writes.refl hs2.ok).of_regs rfl) fun _ => rfl
  exact .foldl (fun _ _ hv => hv.dropCarries) hs3

theorem demandView (h : s.Routes t) : s.Routes t.demandView := h.setRegN (routeOther_of (by decide) (by decide))

theorem demandOn (h : s.Routes t) {cause src convs : Nat} : s.Routes (t.demandOn cause src convs) := by
  unfold State.demandOn
  extract_lets +onlyGivenNames ds srcSafe s1
  have hs1 : s.Routes s1 := h.andThen ((State.Writes.refl h.ok).of_regs rfl) fun _ => rfl
  exact (State.Routes.demandView (.foldl (fun _ _ hv => hv.spoLatch) hs1)).soutCheck

theorem demandOff (h : s.Routes t) {cause src convs : Nat} : s.Routes (t.demandOff cause src convs) := by
  unfold State.demandOff
  refine State.Routes.demandView ?_
  exact h.andThen ((State.Writes.refl h.ok).of_regs rfl) fun _ => rfl

theorem demandSet (h : s.Routes t) {hold : Bool} {cause src convs : Nat} : s.Routes (t.demandSet hold cause src convs) :=
  .ite (.ite h h.demandOn) (.ite h.demandOff h)

/-- A change of a comparator that keeps its core. -/
theorem cmpMod (h : s.Routes t) {n : Nat} {f : CmpState → CmpState} (hf : ∀ c, (f c).core = c.core) : s.Routes (t.cmpMod n f) := by
  refine h.andThen ((State.Writes.refl h.ok).of_regs rfl) fun k => ?_
  by_cases hk : k = n
  · subst hk
    by_cases hl : k < t.cmp.cmps.length
    · rw [show (t.cmpMod k f).cmp.cmps.at k = f (t.cmp.cmps.at k) from Tab.at_mod_same _ _ _ hl, hf]
    · simp [State.cmpMod, Tab.at, Tab.mod, Nat.not_lt.1 hl]
  · rw [show (t.cmpMod n f).cmp.cmps.at k = t.cmp.cmps.at k from Tab.at_mod_ne _ _ hk]

theorem wakeCmp (h : s.Routes t) {n : Nat} : s.Routes (t.wakeCmp n) := by
  unfold State.wakeCmp
  extract_lets +onlyGivenNames c
  refine .ite h ?_
  extract_lets +onlyGivenNames s1
  have hs1 : s.Routes s1 := h.cmpMod fun _ => rfl
  split
  · exact hs1.andThen ((State.Writes.refl hs1.ok).of_regs rfl) fun _ => rfl
  · exact hs1.logRec
  · exact hs1

/-! ## One comparator -/

theorem cmpView (h : s.Routes t) {n : Nat} : s.Routes (t.cmpView n) := by
  refine h.setRegN (routeOther_of (Nat.le_add_right_of_le (by decide)) ?_)
  unfold Reg.CMP_STAT Reg.CMP_STK
  omega

theorem windowCheck (h : s.Routes t) {n : Nat} : s.Routes (t.windowCheck n) := by
  unfold State.windowCheck
  extract_lets +onlyGivenNames w st
  refine .ite h ?_
  extract_lets +onlyGivenNames s1
  have hs1 : s.Routes s1 := h.setFld (routeOther_of (Nat.le_add_right_of_le (by decide)) (ne_of_gt (Nat.lt_add_right _ (by decide))))
  exact .ite (hs1.stickCmp rfl (by decide)).logRec hs1

end State.Routes

end Sys2Proof.Machine
end

section
/-!
PROOFS. The sigma-delta channels (O15).
-/
namespace Sys2Proof.Machine

/-! ## The channels under the other operations -/

theorem State.adcTrig_sdf (s : State) (c : Nat) (inj : Bool) : (s.adcTrig c inj).ana.sdf = s.ana.sdf := by
  have hmod (t : State) (f : AdcCore → AdcCore) (ht : t.ana = s.ana) : (t.coreMod c f).ana.sdf = s.ana.sdf :=
    (congrArg AnaState.sdf ht : t.ana.sdf = s.ana.sdf)
  unfold State.adcTrig
  split
  · rfl
  split
  · split
    · rfl
    · exact hmod _ _ (by simp)
  · split
    · rfl
    · exact hmod _ _ (by simp)

/-- The triggers leave the sigma-delta channels. -/
theorem State.adcFire_sdf (s : State) (code : Nat) : (s.adcFire code).ana.sdf = s.ana.sdf := by
  unfold State.adcFire
  refine List.foldlRecOn (motive := fun t : State => t.ana.sdf = s.ana.sdf) _ _ rfl fun t ht c _ => ?_
  have hite (u : State) (p : Prop) [Decidable p] (inj : Bool) : (if p then u.adcTrig c inj else u).ana.sdf = u.ana.sdf := by
    split
    · exact State.adcTrig_sdf _ _ _
    · rfl
  exact (hite _ _ _).trans ((hite _ _ _).trans ht)

theorem State.sdf_length {s : State} (h : s.inv = true) : s.ana.sdf.length = 48 := (State.sized_of_inv h).ana.2.1

theorem State.sdf_sdfMod_same {s : State} {n : Nat} (f : SdfCh → SdfCh) (hn : n < s.ana.sdf.length) :
    (s.sdfMod n f).ana.sdf.at n = f (s.ana.sdf.at n) := Tab.at_mod_same _ _ _ hn

theorem State.sdf_sdfMod_ne (s : State) {n k : Nat} (f : SdfCh → SdfCh) (hk : k ≠ n) : (s.sdfMod n f).ana.sdf.at k = s.ana.sdf.at k :=
  Tab.at_mod_ne _ _ hk

/-- The write of a filter's value leaves the channels. -/
theorem State.sdfWrite_ana (s : State) (n slot outputs : Nat) (v : Word) : (s.sdfWrite n slot outputs v).ana = s.ana :=
  (State.Moves.sdfWrite (own := []) (.refl s) (by decide : _ ⊆ .pan :: logParts)).ana_kept (by decide)

/-- The first two outputs and those of a stuck channel are not written (R104, R106). -/
theorem State.sdfWrite_none {s : State} {n outputs : Nat} (slot : Nat) (v : Word) (h : outputs < 3 ∨ s.sdfStuck n = true) :
    s.sdfWrite n slot outputs v = s := if_pos (by simpa using h)

/-! ## The filters -/

theorem SdfCh.sinc3_outputs (c : SdfCh) (bits : List Bool) : (c.sinc3 bits).1.outputs = c.outputs := by
  show (bits.foldl _ c).outputs = c.outputs
  exact List.foldlRecOn (motive := fun x : SdfCh => x.outputs = c.outputs) _ _ rfl fun _ hx _ _ => hx

/-- A channel after a capture of its filter (R103). -/
def SdfCh.filtered (x : SdfCh) (bits : List Bool) : SdfCh := { (x.sinc3 bits).1 with outputs := min 3 ((x.sinc3 bits).1.outputs + 1) }

theorem filterOutput {s : State} {n : Fin 48} {bits : List Bool} (hs : s.inv = true) (hon : s.anaOn = true)
    (hen : s.flag (Reg.SDF_CFG n) F.SDF_CFG_EN = true) :
    ∃ t, exec (.sinc3Output n bits) s = .next t ∧ s.keeps t ([.ana, .pan] ++ logParts) ∧
      (t.ana.sdf.at n).outputs = min 3 ((s.ana.sdf.at n).outputs + 1) ∧ (t.ana.sdf.at n).i3 = ((s.ana.sdf.at n).sinc3 bits).1.i3 ∧
      ((s.ana.sdf.at n).outputs < 2 ∨ s.sdfStuck n = true → t.pan = s.pan ∧ t.regs = s.regs) ∧
      ∀ k, k ≠ n.val → t.ana.sdf.at k = s.ana.sdf.at k := by
  let x := s.ana.sdf.at n
  let u := s.sdfMod n (fun _ => x.filtered bits)
  let v := u.sdfVal n (x.sinc3 bits).2 (u.osrOf n ^ 3)
  have hexec : exec (.sinc3Output n bits) s = .next (u.sdfWrite n (0x300 + n) (x.filtered bits).outputs v) :=
    congrArg Host.Outcome.next (if_neg (by simp [hon, hen]))
  have hlen : n.val < s.ana.sdf.length := by
    rw [State.sdf_length hs]
    exact n.isLt
  have hout : (x.filtered bits).outputs = min 3 (x.outputs + 1) := congrArg (fun k => min 3 (k + 1)) (x.sinc3_outputs bits)
  have hcore : (u.sdfWrite n (0x300 + n) (x.filtered bits).outputs v).ana.sdf.at n = x.filtered bits := by
    rw [State.sdfWrite_ana, State.sdf_sdfMod_same _ hlen]
  refine ⟨_, hexec, (State.Onward.execSinc3Output (own := []) (by decide)).keeps hexec, ?_, ?_, fun hnone => ?_, fun k hk => ?_⟩
  · rw [hcore, hout]
  · rw [hcore]
    rfl
  · rw [State.sdfWrite_none]
    · exact ⟨rfl, rfl⟩
    · rw [hout]
      refine hnone.imp (fun h => ?_) id
      show min 3 ((s.ana.sdf.at n).outputs + 1) < 3
      omega
  · rw [State.sdfWrite_ana, State.sdf_sdfMod_ne _ _ hk]

theorem overcurrentOutput {s : State} {n : Fin 48} {bits : List Bool} (hs : s.inv = true) (hon : s.anaOn = true)
    (hen : s.flag (Reg.SDF_CFG n) F.SDF_CFG_EN = true) (hoc : s.flag (Reg.SDF_CFG n) F.SDF_CFG_OC_EN = true) :
    ∃ t, exec (.ocFilterOutput n bits) s = .next t ∧ s.keeps t ([.ana, .pan, .cmp, .pwm, .gl] ++ logParts) ∧
      (let y := ((s.ana.sdf.at n).sinc2 bits).2 * 2 ^ 15
       let d : Int := (s.ocOsrOf n ^ 2 : Nat)
       let hi := sgn 16 (s.fld (Reg.SDF_OCTHR n) F.SDF_OCTHR_HI) * d < y
       let lo := y < sgn 16 (s.fld (Reg.SDF_OCTHR n) F.SDF_OCTHR_LO) * d
       ((hi ∨ lo) → (t.ana.sdf.at n).oc = true ∧ (t.ana.sdf.at n).ocSeen = true ∧ t.stuck Stk.SDF_OC = true) ∧
       (¬ hi → ¬ lo → (t.ana.sdf.at n).oc = false)) := by
  let x := (s.ana.sdf.at n).sinc2 bits
  let d : Int := (s.ocOsrOf n ^ 2 : Nat)
  let hi := sgn 16 (s.fld (Reg.SDF_OCTHR n) F.SDF_OCTHR_HI) * d < x.2 * 2 ^ 15
  let lo := x.2 * 2 ^ 15 < sgn 16 (s.fld (Reg.SDF_OCTHR n) F.SDF_OCTHR_LO) * d
  let ch : SdfCh :=
    { x.1 with ocOutputs := min 3 (x.1.ocOutputs + 1), oc := decide hi || decide lo, ocSeen := x.1.ocSeen || decide hi || decide lo }
  let u := s.sdfMod n (fun _ => ch)
  let u1 := u.sdfWrite n (0x330 + n) (min 3 (x.1.ocOutputs + 1)) (u.sdfVal n x.2 (s.ocOsrOf n ^ 2))
  let u2 := u1.stickIf (decide hi || decide lo) Stk.SDF_OC
  let u3 := if hi then u2.adcFire (0xC0 + n) else u2
  have hc : ¬ (!s.anaOn || !s.flag (Reg.SDF_CFG n) F.SDF_CFG_EN || !s.flag (Reg.SDF_CFG n) F.SDF_CFG_OC_EN) = true := by simp [hon, hen, hoc]
  have hexec : exec (.ocFilterOutput n bits) s = .next u3.tripEval := congrArg Host.Outcome.next (if_neg hc)
  have hlen : n.val < s.ana.sdf.length := by
    rw [State.sdf_length hs]
    exact n.isLt
  have hu1 : u1.regsOk = true := by
    have hu : s.Moves [] (.ana :: .pan :: logParts) u1 := .sdfWrite (.sdfMod (.refl s) (by decide)) (by decide)
    exact State.regsOk_of_inv (hu.inv hs)
  have hu2 : u2.regsOk = true := State.stickIf_ok _ _ hu1
  have hroute : u2.Routes u3.tripEval := .tripEval (.ite (.adcFire (.refl hu2)) (.refl hu2))
  have hsdf : u3.tripEval.ana.sdf = u.ana.sdf := by
    have htrip : u3.tripEval.ana = u3.ana :=
      (State.Moves.tripEval (own := []) (.refl u3) (by decide : _ ⊆ .cmp :: .pwm :: .gl :: logParts)).ana_kept (by decide)
    have hu3 : u3.ana.sdf = u2.ana.sdf := by
      dsimp only [u3]
      split
      · exact State.adcFire_sdf _ _
      · rfl
    rw [htrip, hu3, State.stickIf_ana, State.sdfWrite_ana]
  have hch : u3.tripEval.ana.sdf.at n = ch := by
    rw [hsdf]
    exact State.sdf_sdfMod_same _ hlen
  refine ⟨_, hexec, (State.Onward.execOcFilterOutput (own := []) (by decide)).keeps hexec, fun h => ?_, fun hnhi hnlo => ?_⟩
  · have hor : (decide hi || decide lo) = true := by
      rw [Bool.or_eq_true, decide_eq_true_iff, decide_eq_true_iff]
      exact h
    rw [hch]
    refine ⟨hor, ?_, ?_⟩
    · show (x.1.ocSeen || decide hi || decide lo) = true
      rw [Bool.or_assoc, hor, Bool.or_true]
    · have hset : u2 = u1.stick Stk.SDF_OC := if_pos hor
      refine (hroute.writes.stuck (not_routeRegs (by decide) (by decide))).trans ?_
      rw [hset]
      exact State.stick_stuck _ hu1 (by decide) (by decide)
  · rw [hch]
    show (decide hi || decide lo) = false
    rw [Bool.or_eq_false_iff, decide_eq_false_iff_not, decide_eq_false_iff_not]
    exact ⟨hnhi, hnlo⟩

/-! ## The stuck flag -/

theorem State.sdfStuck_setStuck {s : State} {n : Nat} (b : Bool) (hs : s.regsOk = true) (hn : n < 48) : (s.setStuck n b).sdfStuck n = b := by
  unfold State.setStuck State.sdfStuck
  split
  · exact State.bit_setBit _ _ _ hs (by omega)
  · exact State.bit_setBit _ _ _ hs (by omega)

theorem State.setStuck_ok {s : State} (n : Nat) (b : Bool) (hs : s.regsOk = true) : (s.setStuck n b).regsOk = true := by
  unfold State.setStuck
  split <;> exact State.setBit_ok _ _ _ hs

theorem State.setStuck_ana (s : State) (n : Nat) (b : Bool) : (s.setStuck n b).ana = s.ana := by
  unfold State.setStuck
  split <;> rfl

/-- The stuck flags are as the registers that hold them. -/
theorem State.Writes.sdfStuck {m : Nat → Prop} {s t : State} (h : s.Writes m t) (n : Nat) (hl : ¬ m Reg.SDF_STUCK_LO) (hh : ¬ m Reg.SDF_STUCK_HI) :
    t.sdfStuck n = s.sdfStuck n := by
  rw [State.sdfStuck, State.sdfStuck, h.reg hl, h.reg hh]

theorem stuckChannel {s : State} {n : Fin 48} (hs : s.inv = true) (hon : s.anaOn = true) (hen : s.flag (Reg.SDF_CFG n) F.SDF_CFG_EN = true) :
    ∃ t, exec (.sddStuck n) s = .next t ∧ s.keeps t logParts ∧ t.sdfStuck n = true ∧ t.stuck Stk.SDD_STUCK = true := by
  let u := s.setStuck n true
  have hc : ¬ (!s.flag (Reg.SDF_CFG n) F.SDF_CFG_EN || !s.anaOn) = true := by simp [hon, hen]
  have hexec : exec (.sddStuck n) s = .next (u.stick Stk.SDD_STUCK) := congrArg Host.Outcome.next (if_neg hc)
  have hu : u.regsOk = true := State.setStuck_ok _ _ (State.regsOk_of_inv hs)
  have hw : u.Writes (· ∈ stickRegs Stk.SDD_STUCK) (u.stick Stk.SDD_STUCK) := (State.Writes.refl hu).stick _ fun _ => id
  exact ⟨_, hexec, (State.Onward.execSddStuck (own := []) (by decide)).keeps hexec,
    (hw.sdfStuck n (by decide) (by decide)).trans (State.sdfStuck_setStuck _ (State.regsOk_of_inv hs) n.isLt),
    State.stick_stuck _ hu (by decide) (by decide)⟩

theorem stuckChannelClears {s : State} {n : Fin 48} (hs : s.inv = true) (hst : s.sdfStuck n = true) :
    ∃ t, exec (.sddStuckClear n) s = .next t ∧ s.keeps t [.regs, .ana] ∧ t.sdfStuck n = false ∧ (t.ana.sdf.at n).outputs = 0 := by
  let u := s.setStuck n false
  have hexec : exec (.sddStuckClear n) s = .next (u.sdfMod n (fun c => { c with outputs := 0, ocOutputs := 0 })) :=
    congrArg Host.Outcome.next (if_neg (by simp [hst]))
  have hlen : n.val < u.ana.sdf.length := by
    rw [State.setStuck_ana, State.sdf_length hs]
    exact n.isLt
  refine ⟨_, hexec, (State.Onward.execSddStuckClear (own := []) (by decide)).keeps hexec,
    State.sdfStuck_setStuck _ (State.regsOk_of_inv hs) n.isLt, ?_⟩
  rw [State.sdf_sdfMod_same _ hlen]

/-- Settles O15: the two filters, then the stuck flag. -/
theorem sigmaDeltaFiltersAndStuckFlag : Obligations.SigmaDeltaFiltersAndStuckFlag := by
  unfold Obligations.SigmaDeltaFiltersAndStuckFlag
  exact ⟨fun s n bits hs hon hen => filterOutput hs hon hen, fun s n bits hs hon hen hoc => overcurrentOutput hs hon hen hoc,
    fun s n hs hon hen => stuckChannel hs hon hen, fun s n hs hst => stuckChannelClears hs hst⟩

end Sys2Proof.Machine
end

section
/-!
PROOFS. The comparators: blanking past the wrap of GT (O16), seeding and the readback check (O17).
-/
namespace Sys2Proof.Machine

/-! ## The end of a blanking window past the wrap of GT -/

/-- Comparator 0 with OUT at 1, held by its settling time, in a blanking window that ends with the wrap of GT. -/
def blankedPastWrap : State :=
  ({ State.reset with gt := 1, cmp := { State.reset.cmp with cmps := State.reset.cmp.cmps.mod 0 fun c =>
      { c with out := true, unres := false, blank := true, blankEnd := 2 ^ 64, settleUntil := 1 } } }).setFld (Reg.CMP_CFG 0) F.CMP_CFG_EN 1

/-- OUT of comparator 0 after an instruction. -/
def outAfter : Host.Outcome State Fault Refusal → Option Bool
  | .next t => some (t.cmp.cmps.at 0).out
  | _ => none

theorem blankingEnd_pastWrap : outAfter (exec (.blankingEnd 0) blankedPastWrap) = some true := by decide +kernel

/-- Refutes O16: the statement leaves the end of the window unbounded. At the wrap GT is 0 again, before the end of the settling time that had
passed when the window stood, so OUT stays at 1 while RAW is 0. -/
theorem not_comparatorOutAndSnapshot : ¬ Obligations.ComparatorOutAndSnapshot := by
  unfold Obligations.ComparatorOutAndSnapshot
  rintro ⟨⟨-, hblank⟩, -⟩
  obtain ⟨⟨t, ht, hout, -⟩, -⟩ := hblank blankedPastWrap 0 (by decide +kernel) (by decide +kernel) (by decide +kernel) (by decide +kernel)
    (by decide +kernel) (by decide +kernel)
  have hraw : (blankedPastWrap.cmp.cmps.at 0).raw = false := by decide +kernel
  have hafter := blankingEnd_pastWrap
  rw [ht] at hafter
  exact absurd ((Option.some.inj hafter).symm.trans (hout.trans hraw)) (by decide)

/-! ## The routing of a comparator -/

/-- A comparator without OUT and its edges. -/
def CmpState.still (c : CmpState) : CmpState := { c with out := false, rise := false, fall := false, rises := 0 }

/-- A comparator without what its routing changes. -/
def CmpState.inner (c : CmpState) : CmpState := c.core.still


/-- What the routing of comparator `n` leaves (R115, R121). -/
structure State.Routed (n : Nat) (s t : State) : Prop where
  writes : s.Writes routeRegs t
  sticks : ∀ k : Stk, k.reg = Reg.CMP_STK → s.stuck k = true → t.stuck k = true
  out : (t.cmp.cmps.at n).out = s.cmpOutVal n
  inner : (t.cmp.cmps.at n).inner = (s.cmp.cmps.at n).inner

theorem State.cmps_length {s : State} (h : s.inv = true) : s.cmp.cmps.length = 64 := (State.sized_of_inv h).cmp

theorem State.cmp_cmpMod_same {s : State} {n : Nat} (f : CmpState → CmpState) (hn : n < s.cmp.cmps.length) :
    (s.cmpMod n f).cmp.cmps.at n = f (s.cmp.cmps.at n) := Tab.at_mod_same _ _ _ hn

/-- A comparator whose OUT has become `v`. -/
def CmpState.turned (v : Bool) (c : CmpState) : CmpState :=
  { c with out := v, rise := c.rise || v, fall := c.fall || !v, rises := min 255 (c.rises + bit v), wakeArmed := c.wakeArmed || !v }

theorem State.Routes.routed {s s1 t : State} {n : Nat} (hw : s.Writes routeRegs s1) (hs : s1.cmp.cmps.at n = (s.cmp.cmps.at n).turned (s.cmpOutVal n))
    (hk : ∀ k : Stk, k.reg = Reg.CMP_STK → s.stuck k = true → s1.stuck k = true) (h : s1.Routes t) : s.Routed n t where
  writes := hw.trans h.writes
  sticks k hr hset := h.sticks k hr (hk k hr hset)
  out := (congrArg CmpState.out (h.cmps n)).trans (by rw [hs]; rfl)
  inner := (congrArg CmpState.still (h.cmps n)).trans (by rw [hs]; rfl)

theorem State.cmpRoute_spec {s : State} {n : Nat} (hs : s.regsOk = true) (hn : n < s.cmp.cmps.length) : s.Routed n (s.cmpRoute n) := by
  unfold State.cmpRoute
  extract_lets +onlyGivenNames v
  split
  case isTrue hv =>
    have hr : s.Routes (s.cmpView n) := .cmpView (.refl hs)
    exact ⟨hr.writes, hr.sticks, (congrArg CmpState.out (hr.cmps n)).trans hv.symm, congrArg CmpState.still (hr.cmps n)⟩
  case isFalse =>
    extract_lets +onlyGivenNames s1 s2 s3 s4
    have hs1 : s1.Routes s1 := .refl hs
    have hs2 : s1.Routes s2 := hs1.cmpView.windowCheck
    have hs3 : s1.Routes s3 := .ite hs2.adcFire.wakeCmp hs2
    have hs4 : s1.Routes s4 := .ite hs3.demandSet hs3
    have hw : s.Writes routeRegs s1 := (State.Writes.refl hs).of_regs rfl
    exact hs4.tripEval.routed hw (State.cmp_cmpMod_same _ hn) fun _ _ => id

/-! ## Values of OUT -/

theorem State.cmpOutVal_held {s : State} {n : Nat} (hen : s.flag (Reg.CMP_CFG n) F.CMP_CFG_EN = true) (hh : (s.cmp.cmps.at n).held = true) :
    s.cmpOutVal n = true := by
  simp [State.cmpOutVal, hen, hh]

/-! ## Seeding -/

theorem seedingResolves {s : State} {n : Fin 64} {vin vth : Int} (hs : s.inv = true) (hen : s.flag (Reg.CMP_CFG n) F.CMP_CFG_EN = true)
    (hpow : s.powered = true) (hun : (s.cmp.cmps.at n).unres = true) :
    ∃ t, exec (.seedingComplete n vin vth) s = .next t ∧ (t.cmp.cmps.at n).unres = false ∧
      (s.cmpPol n = false → vth + 4000000000 < vin → (t.cmp.cmps.at n).raw = true ∧ (t.cmp.cmps.at n).seedSafe = false) ∧
      (s.cmpPol n = false → vin < vth - s.cmpHyst n - 4000000000 → (t.cmp.cmps.at n).raw = false ∧ (t.cmp.cmps.at n).seedSafe = false) ∧
      (s.cmpPol n = false → vth - s.cmpHyst n - 4000000000 ≤ vin → vin ≤ vth + 4000000000 →
        (t.cmp.cmps.at n).raw = s.cmpSafeVal n ∧ (t.cmp.cmps.at n).seedSafe = true ∧ t.stuck Stk.CMP_SEED_SAFE = true) ∧
      (s.cmpPol n = true → vin < vth - 4000000000 → (t.cmp.cmps.at n).raw = true) ∧
      (s.cmpPol n = true → vth + s.cmpHyst n + 4000000000 < vin → (t.cmp.cmps.at n).raw = false) := by
  let lo := (if s.cmpPol n then vth else vth - s.cmpHyst n) - 4000000000
  let hi := (if s.cmpPol n then vth + s.cmpHyst n else vth) + 4000000000
  let inside := decide (lo ≤ vin) && decide (vin ≤ hi)
  let raw := if inside then s.cmpSafeVal n else decide (hi < vin) != s.cmpPol n
  let u := s.cmpMod n (fun x => { x with raw := raw, unres := false, seedSafe := inside })
  let v := u.stickIf inside Stk.CMP_SEED_SAFE
  have hexec : exec (.seedingComplete n vin vth) s = .next (v.cmpRoute n) := congrArg Host.Outcome.next (if_neg (by simp [hun, hen, hpow]))
  have hlen : n.val < s.cmp.cmps.length := by
    rw [State.cmps_length hs]
    exact n.isLt
  have hok := State.regsOk_of_inv hs
  have hu : u.regsOk = true := hok
  have hvcmp : v.cmp = u.cmp := State.stickIf_cmp _ _ _
  have hcore : v.cmp.cmps.at n = { s.cmp.cmps.at n with raw := raw, unres := false, seedSafe := inside } := by
    rw [hvcmp]
    exact State.cmp_cmpMod_same _ hlen
  have hvlen : n.val < v.cmp.cmps.length := by
    rw [hvcmp]
    simpa [u, State.cmpMod, Tab.mod] using hlen
  have hroute : v.Routed n (v.cmpRoute n) := State.cmpRoute_spec (State.stickIf_ok _ _ hu) hvlen
  have hraw : ((v.cmpRoute n).cmp.cmps.at n).raw = raw := (congrArg CmpState.raw hroute.inner).trans (congrArg CmpState.raw hcore)
  have hsafe : ((v.cmpRoute n).cmp.cmps.at n).seedSafe = inside := (congrArg CmpState.seedSafe hroute.inner).trans (congrArg CmpState.seedSafe hcore)
  have hunres : ((v.cmpRoute n).cmp.cmps.at n).unres = false := (congrArg CmpState.unres hroute.inner).trans (congrArg CmpState.unres hcore)
  have hhyst : 0 ≤ s.cmpHyst n := by
    unfold State.cmpHyst
    omega
  have hbelow (h : vin < lo) : inside = false := by simp [inside, not_le.2 h]
  have habove (h : hi < vin) : inside = false := by simp [inside, not_le.2 h]
  refine ⟨_, hexec, hunres, fun hp h => ?_, fun hp h => ?_, fun hp h h' => ?_, fun hp h => ?_, fun hp h => ?_⟩
  · have hin : inside = false := habove (by simpa [hi, hp] using h)
    rw [hraw, hsafe, hin]
    simp [raw, hin, hi, hp, h]
  · have hin : inside = false := hbelow (by simpa [lo, hp] using h)
    have hnot : ¬ vth + 4000000000 < vin := by omega
    rw [hraw, hsafe, hin]
    simp [raw, hin, hi, hp, hnot]
  · have hin : inside = true := by simp [inside, lo, hi, hp, h, h']
    have hset : v = u.stick Stk.CMP_SEED_SAFE := if_pos hin
    rw [hraw, hsafe, hin]
    refine ⟨if_pos hin, rfl, hroute.sticks _ rfl ?_⟩
    rw [hset]
    exact State.stick_stuck _ hu (by decide) (by decide)
  · have hin : inside = false := hbelow (by simpa [lo, hp] using h)
    have hnot : ¬ vth + s.cmpHyst n + 4000000000 < vin := by omega
    rw [hraw]
    simp [raw, hin, hi, hp, hnot]
  · have hin : inside = false := habove (by simpa [hi, hp] using h)
    rw [hraw]
    simp [raw, hin, hi, hp, h]

theorem seedingStarves {s : State} {n : Fin 64} (hs : s.inv = true) (hen : s.flag (Reg.CMP_CFG n) F.CMP_CFG_EN = true) (hpow : s.powered = true)
    (hun : (s.cmp.cmps.at n).unres = true) :
    ∃ t, exec (.seedStarved n) s = .next t ∧ s.keeps t (.gt :: logParts) ∧ t.stuck Stk.CMP_SEED_STARVED = true ∧
      t.gt = (s.gtTo ((s.cmp.cmps.at n).unresSince + 500000)).gt := by
  let u := s.gtTo ((s.cmp.cmps.at n).unresSince + tickMs)
  have hexec : exec (.seedStarved n) s = .next (u.stick Stk.CMP_SEED_STARVED) :=
    congrArg Host.Outcome.next (if_neg (by simp [hun, hen, hpow]))
  have hu : u.regsOk = true := (State.regsOk_of_regs (State.gtTo_regs s _)).trans (State.regsOk_of_inv hs)
  exact ⟨_, hexec, (State.Onward.execSeedStarved (own := []) (by decide)).keeps hexec, State.stick_stuck _ hu (by decide) (by decide),
    State.stick_gt _ _⟩

/-! ## The readback check -/

/-- A failed check: its sticky bit, and OUT held at 1 (R126). -/
theorem State.cmpFail_spec {s : State} {n : Nat} {k : Stk} (hs : s.regsOk = true) (hn : n < s.cmp.cmps.length) (hk : k.reg = Reg.CMP_STK)
    (hb : k.bit < 32) :
    ((s.cmpFail n k).cmp.cmps.at n).held = true ∧ (s.cmpFail n k).stuck k = true ∧
      (s.flag (Reg.CMP_CFG n) F.CMP_CFG_EN = true → n < 64 → ((s.cmpFail n k).cmp.cmps.at n).out = true) := by
  let u := (s.stick k).logRec 0x06 (evCode k.file 2) [w32 n]
  let v := u.cmpMod n (fun x => { x with held := true })
  have hlow : k.reg ≠ Reg.LOG_DROPCNT := by rw [hk]; decide
  have hstick : (s.stick k).regsOk = true := State.stick_ok _ hs
  have hu : s.Writes (· ∈ stickRegs k) u := ((State.Writes.refl hs).stick k fun _ => id).logRec _ _ _ _ fun _ h => List.mem_cons_of_mem _ h
  have hucmp : u.cmp = s.cmp := (State.logRec_cmp _ _ _ _ _).trans (State.stick_cmp _ _)
  have hustk : u.stuck k = true := State.logRec_mono _ _ _ _ _ hstick hlow (State.stick_stuck k hs hb hlow)
  have hlen : n < u.cmp.cmps.length := by rw [hucmp]; exact hn
  have hheld : (v.cmp.cmps.at n).held = true := by rw [State.cmp_cmpMod_same _ hlen]
  have hroute : v.Routed n (v.cmpRoute n) := State.cmpRoute_spec (hu.ok : v.regsOk = true) (by simpa [v, State.cmpMod, Tab.mod] using hlen)
  refine ⟨(congrArg CmpState.held hroute.inner).trans hheld, hroute.sticks k hk hustk, fun hen hlt => hroute.out.trans (State.cmpOutVal_held ?_ hheld)⟩
  refine (hu.flag (a := Reg.CMP_CFG n) _ ?_).trans hen
  have hlog : Reg.LOG_DROPCNT < 0x16000 ∧ Stk.LOG_QOVR.reg < 0x16000 := by decide
  simp only [stickRegs, hk, List.mem_cons, List.not_mem_nil, or_false, Reg.CMP_CFG, Reg.CMP_STK]
  omega

theorem readbackCheck {s : State} {n : Fin 64} {dac thr : Int} (hs : s.inv = true) (hsafe : s.cmpSafe n = true) (hpow : s.powered = true) :
    ∃ t, exec (.cmpReadbackCheck n dac thr) s = .next t ∧
      (s.cmpCheckOk n dac thr = true → (t.cmp.cmps.at n).held = false) ∧
      (s.cmpCheckOk n dac thr = false → (t.cmp.cmps.at n).held = true ∧ t.stuck Stk.CMP_DAC_FAIL = true ∧
        (s.flag (Reg.CMP_CFG n) F.CMP_CFG_EN = true → (t.cmp.cmps.at n).out = true)) ∧
      s.keeps t ([.ana, .cmp, .pwm, .gl, .safe, .pwr, .sup] ++ logParts) := by
  have hexec : exec (.cmpReadbackCheck n dac thr) s = .next (s.cmpCheck n dac thr) := congrArg Host.Outcome.next (if_neg (by simp [hsafe, hpow]))
  let u := s.cmpMod n (fun x => { x with checkedAt := s.gt })
  have hok := State.regsOk_of_inv hs
  have hu : u.regsOk = true := hok
  have hlen : n.val < u.cmp.cmps.length := by
    simp only [u, State.cmpMod, Tab.mod, List.length_modify, State.cmps_length hs]
    exact n.isLt
  refine ⟨_, hexec, fun h => ?_, fun h => ?_, (State.Onward.execCmpReadbackCheck (own := []) (by decide)).keeps hexec⟩
  · let v := u.cmpMod n (fun x => { x with held := false })
    have heq : s.cmpCheck n dac thr = v.cmpRoute n := if_pos h
    have hroute : v.Routed n (v.cmpRoute n) := State.cmpRoute_spec (hu : v.regsOk = true) (by simpa [v, State.cmpMod, Tab.mod] using hlen)
    rw [heq]
    refine (congrArg CmpState.held hroute.inner).trans ?_
    show (v.cmp.cmps.at n).held = false
    rw [State.cmp_cmpMod_same _ hlen]
  · have heq : s.cmpCheck n dac thr = u.cmpFail n Stk.CMP_DAC_FAIL := if_neg (by simp [h])
    obtain ⟨hheld, hstk, hout⟩ := State.cmpFail_spec (k := Stk.CMP_DAC_FAIL) hu hlen rfl (by decide)
    rw [heq]
    exact ⟨hheld, hstk, fun hen => hout hen n.isLt⟩

theorem readbackTimeout {s : State} {n : Fin 64} (hs : s.inv = true) (hsafe : s.cmpSafe n = true) (hpow : s.powered = true) :
    ∃ t, exec (.readbackCheckTimeout n) s = .next t ∧ (t.cmp.cmps.at n).held = true ∧ t.stuck Stk.CMP_DIAG_STARVED = true ∧
      (s.flag (Reg.CMP_CFG n) F.CMP_CFG_EN = true → (t.cmp.cmps.at n).out = true) ∧
      t.gt = (s.gtTo ((s.cmp.cmps.at n).checkedAt + 5000000)).gt ∧
      s.keeps t ([.gt, .ana, .cmp, .pwm, .gl, .safe, .pwr, .sup] ++ logParts) := by
  let u := s.gtTo ((s.cmp.cmps.at n).checkedAt + 10 * tickMs)
  let v := u.cmpMod n (fun x => { x with checkedAt := u.gt })
  have hexec : exec (.readbackCheckTimeout n) s = .next (v.cmpFail n Stk.CMP_DIAG_STARVED) :=
    congrArg Host.Outcome.next (if_neg (by simp [hsafe, hpow]))
  have huregs : u.regs = s.regs := State.gtTo_regs _ _
  have hv : v.regsOk = true := (State.regsOk_of_regs huregs).trans (State.regsOk_of_inv hs)
  have hlen : n.val < v.cmp.cmps.length := by
    simp only [v, State.cmpMod, Tab.mod, List.length_modify, u, State.gtTo_cmp, State.cmps_length hs]
    exact n.isLt
  obtain ⟨hheld, hstk, hout⟩ := State.cmpFail_spec (k := Stk.CMP_DIAG_STARVED) hv hlen rfl (by decide)
  refine ⟨_, hexec, hheld, hstk, fun hen => hout ((State.flag_of_reg (State.reg_of_regs huregs _) _).trans hen) n.isLt, ?_,
    (State.Onward.execReadbackCheckTimeout (own := []) (by decide)).keeps hexec⟩
  exact (State.Moves.cmpFail (own := []) (.refl v) (by decide : _ ⊆ .ana :: .cmp :: .pwm :: .gl :: .safe :: .pwr :: logParts)).gt_kept (by decide)

/-- Settles O17: the two conversions of a seeding and its bound, the check and its bound. -/
theorem seedingAndReadback : Obligations.SeedingAndReadback := by
  unfold Obligations.SeedingAndReadback
  exact ⟨⟨fun s n vin vth hs hen hpow hun => seedingResolves hs hen hpow hun, fun s n hs hen hpow hun => seedingStarves hs hen hpow hun⟩,
    fun s n dac thr hs hsafe hpow => readbackCheck hs hsafe hpow, fun s n hs hsafe hpow => readbackTimeout hs hsafe hpow⟩

end Sys2Proof.Machine
end

section
/-!
PROOFS. The engines at the ends of sections and epochs, and the modes and swaps at epoch boundaries (O18).
-/
namespace Sys2Proof.Machine

/-! ## Bindings -/

theorem State.binds_length {s : State} (h : s.inv = true) : s.ket.bind.length = 12 := (State.sized_of_inv h).ket.1

theorem State.bd_ketMod_same {s : State} {b : Nat} (f : Binding → Binding) (hb : b < s.ket.bind.length) : (s.ketMod b f).bd b = f (s.bd b) :=
  Tab.at_mod_same _ _ _ hb

theorem State.binds_length_ketMod (s : State) (b : Nat) (f : Binding → Binding) : (s.ketMod b f).ket.bind.length = s.ket.bind.length := by
  simp [State.ketMod, Tab.mod]

theorem State.bd_lt {s : State} (h : s.inv = true) (b : Fin 12) : b.val < s.ket.bind.length := by
  rw [State.binds_length h]
  exact b.isLt

theorem State.bd_of_ket {s t : State} (h : t.ket = s.ket) (b : Nat) : t.bd b = s.bd b := by rw [State.bd, State.bd, h]

/-- The end of a command moves no binding. -/
theorem State.bd_finish (s : State) (b tag status : Nat) (r : Word) (dlen cidx : Nat) (v0 v1 : Word) :
    (s.finish tag status r dlen cidx v0 v1).bd b = s.bd b :=
  State.bd_of_ket ((State.Moves.finish (own := []) (.refl s) (by decide : _ ⊆ [Part.regs, Part.mbx, Part.out])).ket_kept (by decide)) b

theorem State.bd_finishOpt (s : State) (b : Nat) (tag : Option Nat) (status cidx : Nat) : (s.finishOpt tag status cidx).bd b = s.bd b := by
  unfold State.finishOpt
  split
  · exact State.bd_finish _ _ _ _ _ _ _ _ _
  · rfl

/-- A sticky bit of a unit is as it was after the end of a command. -/
theorem State.stuck_finish {s : State} {k : Stk} (hs : s.regsOk = true) (hk : 0xA000 ≤ k.reg) (tag status : Nat) (r : Word) (dlen cidx : Nat)
    (v0 v1 : Word) : (s.finish tag status r dlen cidx v0 v1).stuck k = s.stuck k :=
  ((State.Writes.refl hs).finish (m := mailRegs) fun _ => id).stuck (not_mailRegs hk)

theorem State.stuck_finishOpt {s : State} {k : Stk} (hs : s.regsOk = true) (hk : 0xA000 ≤ k.reg) (tag : Option Nat) (status cidx : Nat) :
    (s.finishOpt tag status cidx).stuck k = s.stuck k := by
  unfold State.finishOpt
  split
  · exact State.stuck_finish hs hk _ _ _ _ _ _ _
  · rfl

theorem State.bd_ketRefresh (s : State) (b k : Nat) : (s.ketRefresh b).bd k = s.bd k := by
  unfold State.ketRefresh
  split <;> rfl

theorem State.ketRefresh_regs (s : State) (b : Nat) : (s.ketRefresh b).regs = s.regs := by
  unfold State.ketRefresh
  split <;> rfl

/-- A binding that is due for no fallback has none. -/
theorem State.ketFbDue_none {s : State} {b : Nat} (k : Nat) (h : (s.bd b).fbAt = none) : s.ketFbDue b k = s := by
  rw [State.ketFbDue, h]

/-! ## The end of an epoch and of a section -/

theorem epochIsOver {s : State} {b : Fin 12} (hs : s.inv = true) (hact : (s.bd b).run.active = true) (hend : (s.bd b).run.ended = true)
    (hleave : s.pwr.leaving = none) :
    ∃ t, exec (.kettleCompletion b) s = .next t ∧ s.keeps t [.regs, .ket] ∧ s.sameRegs t [Reg.KET_CYC b, Reg.KET_CYCMAX b] ∧
      (t.bd b).run.active = false ∧ (t.bd b).dump = (s.bd b).data ∧ (t.bd b).data = (s.bd b).data ∧
      t.fld (Reg.KET_CYC b) F.KET_CYC_CYC = (s.bd b).run.cyc % 2 ^ 20 ∧
      t.fld (Reg.KET_CYCMAX b) F.KET_CYCMAX_CYC = max (s.fld (Reg.KET_CYCMAX b) F.KET_CYCMAX_CYC) ((s.bd b).run.cyc % 2 ^ 20) := by
  let x := s.bd b
  let s1 := s.setFld (Reg.KET_CYC b) F.KET_CYC_CYC x.run.cyc
  let s2 := s1.setFld (Reg.KET_CYCMAX b) F.KET_CYCMAX_CYC (max (s.fld (Reg.KET_CYCMAX b) F.KET_CYCMAX_CYC) (x.run.cyc % 2 ^ 20))
  let t := s2.ketMod b (fun y => { y.modRun (fun r => { r with active := false }) with dump := x.data, dumpIdx := 2 * x.run.epoch })
  have hcond : ((s.bd b).run.active && (s.bd b).run.ended) = true := by simp [hact, hend]
  have hstay : t.leaveCheck = t := by
    have hl : t.pwr.leaving = none := hleave
    rw [State.leaveCheck, hl]
  have hexec : exec (.kettleCompletion b) s = .next t := (congrArg Host.Outcome.next (if_pos hcond)).trans (congrArg Host.Outcome.next hstay)
  have hok := State.regsOk_of_inv hs
  have hs1 : s1.regsOk = true := State.setFld_ok _ _ _ hok
  have hlen := State.bd_lt hs b
  have hw : s.Writes (· ∈ [Reg.KET_CYC b, Reg.KET_CYCMAX b]) s2 :=
    ((State.Writes.refl hok).setFld _ _ (by simp)).setFld _ _ (by simp)
  have hbd : t.bd b = { (s.bd b).modRun (fun r => { r with active := false }) with dump := x.data, dumpIdx := 2 * x.run.epoch } :=
    State.bd_ketMod_same (s := s2) _ hlen
  have hne : Reg.KET_CYC b ≠ Reg.KET_CYCMAX b := by unfold Reg.KET_CYC Reg.KET_CYCMAX; omega
  have hcyc : s1.fld (Reg.KET_CYC b) F.KET_CYC_CYC = x.run.cyc % 2 ^ 20 := State.fld_setFld _ _ _ hok (by decide)
  have hlt : s.fld (Reg.KET_CYCMAX b) F.KET_CYCMAX_CYC < 2 ^ 20 := Nat.mod_lt _ (by decide)
  refine ⟨t, hexec, (State.Moves.ketMod (own := []) (.setFld (.setFld (.refl s) (by decide)) (by decide)) (hm := by decide)).keeps, fun a ha => hw.reg ha,
    ?_, ?_, ?_, ?_, ?_⟩
  · rw [hbd]
    rfl
  · rw [hbd]
  · rw [hbd]
    rfl
  · exact (State.fld_of_reg (State.reg_setFld_ne _ _ hs1 hne) _).trans hcyc
  · refine (State.fld_setFld _ _ _ hs1 (by decide)).trans (Nat.mod_eq_of_lt ?_)
    exact max_lt hlt (Nat.mod_lt _ (by decide))

theorem drainEnds {s : State} {b : Fin 12} {waits : Nat} (hs : s.inv = true) (hact : (s.bd b).run.active = true) (hdrain : (s.bd b).run.drain = true)
    (hend : (s.bd b).run.ended = false) :
    ∃ t, exec (.sectionDrainEnd b waits) s = .next t ∧ s.keeps t [.ket] ∧ (t.bd b).run.drain = false ∧
      (t.bd b).run.due = (s.bd b).run.due.tail ∧ (t.bd b).data = (s.bd b).data ∧
      ((s.bd b).run.due.tail = [] → (t.bd b).run.ended = true ∧ (s.fabricSlow = false → (t.bd b).run.cyc = (s.bd b).run.cyc + 16)) ∧
      (∀ i r, (s.bd b).run.due.tail = i :: r → (t.bd b).run.pc = ((s.bd b).part.at i).start ∧ (t.bd b).run.acc = List.replicate 4 {} ∧
        (t.bd b).run.ended = false) := by
  let x := s.bd b
  let y := x.modRun (fun r => { r with due := r.due.tail, drain := false, cyc := r.cyc + 16 + (if s.fabricSlow then waits else 0) })
  have hcond : ((s.bd b).run.active && (s.bd b).run.drain && !(s.bd b).run.ended) = true := by simp [hact, hdrain, hend]
  have hexec : exec (.sectionDrainEnd b waits) s =
      .next (s.ketMod b (fun y => (y.modRun (fun r =>
        { r with due := r.due.tail, drain := false, cyc := r.cyc + 16 + (if s.fabricSlow then waits else 0) })).beginSec)) :=
    congrArg Host.Outcome.next (if_pos hcond)
  refine ⟨_, hexec, (State.Onward.execSectionDrainEnd (own := []) (by decide)).keeps hexec, ?_⟩
  rw [State.bd_ketMod_same _ (State.bd_lt hs b)]
  show y.beginSec.run.drain = false ∧ y.beginSec.run.due = x.run.due.tail ∧ _
  have hdue : y.run.due = x.run.due.tail := rfl
  cases hcase : x.run.due.tail with
  | nil =>
    have hb : y.beginSec = y.modRun (fun r => { r with ended := true }) := by
      unfold Binding.beginSec
      rw [hdue, hcase]
    rw [hb]
    refine ⟨rfl, hcase, rfl, fun _ => ⟨rfl, fun hslow => ?_⟩, fun i r h => ?_⟩
    · show x.run.cyc + 16 + (if s.fabricSlow = true then waits else 0) = _
      rw [hslow]
      rfl
    · cases h
  | cons i r =>
    have hb : y.beginSec =
        y.modRun (fun r => { r with pc := (y.part.at i).start, loops := [], acc := List.replicate 4 {}, drain := false, cyc := r.cyc + 4 }) := by
      unfold Binding.beginSec
      rw [hdue, hcase]
    rw [hb]
    refine ⟨rfl, hcase, rfl, fun h => ?_, fun j q h => ?_⟩
    · cases h
    · obtain ⟨rfl, -⟩ := List.cons.inj h
      exact ⟨rfl, rfl, hend⟩

theorem cycmaxRead {s : State} {b : Fin 12} (hs : s.inv = true) :
    ∃ t, exec (.ketCycmaxRead b) s = .next t ∧ s.keeps t [.regs, .out] ∧ s.sameRegs t [Reg.KET_CYCMAX b] ∧
      t.out.value = s.reg (Reg.KET_CYCMAX b) ∧ t.reg (Reg.KET_CYCMAX b) = 0#32 := by
  let u := s.give (s.reg (Reg.KET_CYCMAX b))
  have hu : u.regsOk = true := State.regsOk_of_inv hs
  have hexec : exec (.ketCycmaxRead b) s = .next (u.setReg (Reg.KET_CYCMAX b) 0#32) := rfl
  refine ⟨_, hexec, (State.Onward.execKetCycmaxRead (own := []) (by decide)).keeps hexec, fun a ha => ?_, rfl, State.reg_setReg _ _ hu⟩
  exact State.reg_setReg_ne _ hu (by simpa using ha)

/-! ## Epoch boundaries -/

/-- The status slot of a binding that is refreshed at its boundary (R176). -/
theorem State.ketRefresh_slot {s : State} {b : Nat} (ho : s.openEpoch.isSome = true) (hp : Store.wf zeroes s.pan.committed = true) :
    (s.ketRefresh b).pan.committed.get zeroes (0xF020 + b) = (s.ketRefresh b).ketStatus b := by
  rw [State.ketRefresh, if_pos ho]
  exact Store.get_put_same _ _ _ hp

theorem escalationEnds {s : State} {b : Fin 12} (hs : s.inv = true) (ho : s.openEpoch.isSome = true) (hm : (s.bd b).mode ≠ .stopped)
    (hd : max 1 (s.fld (Reg.KET_OVRCFG b) F.KET_OVRCFG_FB_DWELL) ≤ (s.bd b).good) :
    ∃ t, exec (.escalationReset b) s = .next t ∧ s.keeps t [.ket, .pan] ∧ (t.bd b).esc = 0 ∧ (t.bd b).mode = (s.bd b).mode ∧
      (s.panOk = true → t.pan.committed.get zeroes (0xF020 + b.val) = t.ketStatus b) := by
  let u := s.ketMod b (fun x => { x with esc := 0 })
  have hcond : (s.openEpoch.isSome && s.fbDwell b ≤ (s.bd b).good && (s.bd b).mode != .stopped) = true := by
    simp only [Bool.and_eq_true, decide_eq_true_iff, bne_iff_ne]
    exact ⟨⟨ho, hd⟩, hm⟩
  have hexec : exec (.escalationReset b) s = .next (u.ketRefresh b) := congrArg Host.Outcome.next (if_pos hcond)
  have hbd : u.bd b = { s.bd b with esc := 0 } := State.bd_ketMod_same _ (State.bd_lt hs b)
  refine ⟨_, hexec, (State.Onward.execEscalationReset (own := []) (by decide)).keeps hexec, ?_, ?_, fun hp => ?_⟩
  · rw [State.bd_ketRefresh, hbd]
  · rw [State.bd_ketRefresh, hbd]
  · obtain ⟨hc, -⟩ := (Bool.and_eq_true _ _).mp hp
    exact State.ketRefresh_slot (s := u) ho hc

theorem fallbackReturns {s : State} {b : Fin 12} (hs : s.inv = true) (ho : s.openEpoch.isSome = true) (hdev : s.dev = .run)
    (hm : (s.bd b).mode = .fallback) (hfb : (s.bd b).fbAt = none) (hret : s.flag (Reg.KET_BCTRL b) F.KET_BCTRL_AUTO_RET = true)
    (hd : max 1 (s.fld (Reg.KET_OVRCFG b) F.KET_OVRCFG_FB_DWELL) ≤ (s.bd b).fbGood) :
    ∃ t, exec (.fallbackAutoReturn b) s = .next t ∧ s.keeps t [.ket, .pan] ∧ (t.bd b).mode = .main ∧ (t.bd b).esc = (s.bd b).esc := by
  let u := s.ketMod b (fun x => { x with mode := .main })
  have hdwell : s.fbDwell b ≤ (s.bd b).fbGood := hd
  have hexec : exec (.fallbackAutoReturn b) s = .next (u.ketRefresh b) :=
    congrArg Host.Outcome.next (if_pos (by simp [ho, hdev, hm, hfb, hret, hdwell]))
  have hbd : u.bd b = { s.bd b with mode := .main } := State.bd_ketMod_same _ (State.bd_lt hs b)
  refine ⟨_, hexec, (State.Onward.execFallbackAutoReturn (own := []) (by decide)).keeps hexec, ?_, ?_⟩
  · rw [State.bd_ketRefresh, hbd]
  · rw [State.bd_ketRefresh, hbd]

theorem State.KET_stk_high (b : Nat) : 0xA000 ≤ Reg.KET_BSTK b := Nat.le_add_right_of_le (by decide)

/-- A binding that goes to FALLBACK (R156). -/
theorem State.ketFallback_main {s : State} {b : Nat} (hs : s.regsOk = true) (hb : b < s.ket.bind.length) (hm : (s.bd b).mode = .main) :
    ((s.ketFallback b).bd b).mode = .fallback ∧ (s.ketFallback b).stuck (Stk.KET_FB b) = true ∧ (s.ketFallback b).regsOk = true := by
  let u := s.ketMod b (fun x => { x with mode := .fallback, fbGood := 0 })
  have heq : s.ketFallback b = u.stick (Stk.KET_FB b) := if_pos (by rw [hm]; rfl)
  have hu : u.regsOk = true := hs
  have hbd : u.bd b = { s.bd b with mode := .fallback, fbGood := 0 } := State.bd_ketMod_same _ hb
  rw [heq]
  refine ⟨?_, State.stuck_stick_high hu (by decide : 4 < 32) (Nat.le_add_right_of_le (by decide)), State.stick_ok _ hu⟩
  rw [State.bd_of_ket (State.stick_ket _ _), hbd]

theorem State.ketFallback_bd (s : State) (b : Nat) : ((s.ketFallback b).bd b).modeCmd = (s.bd b).modeCmd := by
  unfold State.ketFallback
  split
  · rw [State.bd_of_ket (State.stick_ket _ _)]
    by_cases hb : b < s.ket.bind.length
    · rw [State.bd_ketMod_same _ hb]
    · simp [State.bd, State.ketMod, Tab.at, Tab.mod, Nat.not_lt.1 hb]
  · rfl

theorem modeCommandActs {s : State} {b : Fin 12} {m : KModeCmd} (hs : s.inv = true) (hcmd : (s.bd b).modeCmd = some m)
    (ho : s.openEpoch = some m.epoch) (hfb : (s.bd b).fbAt = none) :
    ∃ t, exec (.engineModeAtEpoch b) s = .next t ∧ s.keeps t ([.ket, .pan] ++ logParts) ∧ (t.bd b).modeCmd = none ∧
      (s.dev = .run → m.resume = true → (s.bd b).mode = .fallback → (t.bd b).mode = .main) ∧
      (s.dev = .run → m.resume = false → (s.bd b).mode = .main → (t.bd b).mode = .fallback ∧ t.stuck (Stk.KET_FB b) = true) ∧
      ((s.bd b).mode = .stopped → (t.bd b).mode = .stopped) := by
  let s1 := s.ketMod b (fun x => { x with modeCmd := none })
  let s2 := if m.resume then (if (s1.bd b).mode == .fallback then s1.ketMod b (fun x => { x with mode := .main }) else s1) else s1.ketFallback b
  let t := if (s1.bd b).mode == .stopped || s1.dev != .run then (s1.ketRefresh b).finish m.tag stBusy (cidx := m.epoch)
    else (s2.ketRefresh b).finish m.tag stOk (cidx := m.epoch)
  have hexec : exec (.engineModeAtEpoch b) s = .next t := by
    show execEngineModeAtEpoch b s = _
    simp only [execEngineModeAtEpoch, hcmd, ho, State.ketFbDue_none _ hfb]
    rfl
  have hok := State.regsOk_of_inv hs
  have hlen := State.bd_lt hs b
  have hs1 : s1.bd b = { s.bd b with modeCmd := none } := State.bd_ketMod_same _ hlen
  have hlen1 : b.val < s1.ket.bind.length := by rw [State.binds_length_ketMod]; exact hlen
  have hs2cmd : (s2.bd b).modeCmd = none := by
    dsimp only [s2]
    split
    · split
      · rw [State.bd_ketMod_same _ hlen1, hs1]
      · rw [hs1]
    · rw [State.ketFallback_bd, hs1]
  have hrun (hdev : s.dev = .run) (hmode : (s.bd b).mode ≠ .stopped) : t = (s2.ketRefresh b).finish m.tag stOk (cidx := m.epoch) := by
    refine if_neg ?_
    have hd1 : s1.dev = .run := hdev
    rw [hs1, hd1]
    simpa using hmode
  refine ⟨t, hexec, (State.Onward.execEngineModeAtEpoch (own := []) (by decide)).keeps hexec, ?_, fun hdev hres hmode => ?_,
    fun hdev hres hmode => ?_, fun hmode => ?_⟩
  · dsimp only [t]
    split
    · rw [State.bd_finish, State.bd_ketRefresh, hs1]
    · rw [State.bd_finish, State.bd_ketRefresh, hs2cmd]
  · have hs2 : s2 = s1.ketMod b (fun x => { x with mode := .main }) := by
      refine (if_pos hres).trans (if_pos ?_)
      rw [hs1, hmode]
      rfl
    rw [hrun hdev (by simp [hmode]), State.bd_finish, State.bd_ketRefresh, hs2, State.bd_ketMod_same _ hlen1]
  · have hs2 : s2 = s1.ketFallback b := if_neg (by simp [hres])
    obtain ⟨hfall, hstk, hok2⟩ := State.ketFallback_main (s := s1) hok hlen1 (by rw [hs1, hmode])
    have hregs := State.ketRefresh_regs (s1.ketFallback b) b
    rw [hrun hdev (by simp [hmode]), State.bd_finish, State.bd_ketRefresh, hs2]
    refine ⟨hfall, ?_⟩
    rw [State.stuck_finish ((State.regsOk_of_regs hregs).trans hok2) (State.KET_stk_high b), State.stuck_of_reg (State.reg_of_regs hregs _), hstk]
  · have ht : t = (s1.ketRefresh b).finish m.tag stBusy (cidx := m.epoch) := if_pos (by rw [hs1, hmode]; rfl)
    rw [ht, State.bd_finish, State.bd_ketRefresh, hs1, hmode]

theorem swapIsRequested {s : State} {b : Fin 12} {val : Word} (hs : s.inv = true) (hb : b.val < s.engines) (hnone : (s.bd b).swap = none)
    (hst : s.swapStatus b = stOk) (hreq : val.getLsbD 31 = true) :
    let e := s.regN (Reg.KET_SWAPEP_LO b) + 2 ^ 32 * (val.toNat % 65536)
    ∃ t, exec (.swapRequest b val) s = .next t ∧ s.keeps t (.ket :: logParts) ∧ (t.bd b).act = (s.bd b).act ∧
      (s.gt < e * s.tim.epLen → (t.bd b).swap = some { epoch := e }) ∧
      (e * s.tim.epLen ≤ s.gt → (t.bd b).swap = none ∧ t.stuck (Stk.KET_SWAP_CANCEL b) = true) := by
  intro e
  let s1 := s.setFld (Reg.KET_SWAPEP_HI b) F.KET_SWAPEP_HI_EP (val.toNat % 65536)
  let u := s1.ketMod b (fun x => { x with swap := some { epoch := e } })
  let t := if e * s.tim.epLen ≤ s.gt then s1.stick (Stk.KET_SWAP_CANCEL b) else u
  have hok := State.regsOk_of_inv hs
  have hne : Reg.KET_SWAPEP_LO b ≠ Reg.KET_SWAPEP_HI b := by unfold Reg.KET_SWAPEP_LO Reg.KET_SWAPEP_HI; omega
  have hlo : s1.regN (Reg.KET_SWAPEP_LO b) = s.regN (Reg.KET_SWAPEP_LO b) := State.regN_of_reg (State.reg_setFld_ne _ _ hok hne)
  have hst1 : s1.swapStatus b = stOk := hst
  have hexec : exec (.swapRequest b val) s = .next t := by
    have h0 : ¬ ((s.bd b).swap.isSome || s.engines ≤ b.val) = true := by simp [hnone, hb]
    have h1 : ¬ (!val.getLsbD 31 || s1.swapStatus b ≠ stOk) = true := by simp [hreq, hst1]
    refine congrArg Host.Outcome.next ((if_neg h0).trans ((if_neg h1).trans ?_))
    show (if (s1.regN (Reg.KET_SWAPEP_LO b) + 2 ^ 32 * (val.toNat % 65536)) * s.tim.epLen ≤ s.gt then _ else
      s1.ketMod b (fun x => { x with swap := some { epoch := s1.regN (Reg.KET_SWAPEP_LO b) + 2 ^ 32 * (val.toNat % 65536) } })) = t
    rw [hlo]
  have hubd : u.bd b = { s.bd b with swap := some { epoch := e } } := State.bd_ketMod_same (s := s1) _ (State.bd_lt hs b)
  have hstick : (s1.stick (Stk.KET_SWAP_CANCEL b)).bd b = s.bd b := State.bd_of_ket (State.stick_ket _ _) b
  refine ⟨t, hexec, (State.Onward.execSwapRequest (own := []) (by decide)).keeps hexec, ?_, fun h => ?_, fun h => ?_⟩
  · dsimp only [t]
    split
    · rw [hstick]
    · rw [hubd]
  · have ht : t = u := if_neg (Nat.not_le.2 h)
    rw [ht, hubd]
  · have ht : t = s1.stick (Stk.KET_SWAP_CANCEL b) := if_pos h
    rw [ht, hstick]
    exact ⟨hnone, State.stuck_stick_high (State.setFld_ok _ _ _ hok) (by decide : 6 < 32) (Nat.le_add_right_of_le (by decide))⟩

/-! ## Swaps -/

/-- A word that a filter of a memory keeps. -/
theorem Store.get_filter {w : Nat} {d : Nat → BitVec w} {p : Nat × BitVec w → Bool} {m : Store w} {a : Nat} (hp : ∀ v, p (a, v) = true) :
    Store.get d (m.filter p) a = Store.get d m a := by
  induction m with
  | nil => rfl
  | cons e r ih =>
    obtain ⟨k, v⟩ := e
    by_cases hk : k = a
    · subst hk
      rw [List.filter_cons_of_pos (hp v)]
      simp [Store.get]
    · by_cases hkeep : p (k, v) = true
      · rw [List.filter_cons_of_pos hkeep]
        simp [Store.get, hk, ih]
      · rw [List.filter_cons_of_neg hkeep]
        simp [Store.get, hk, ih]

/-- A word outside the INIT ranges stays when the banks exchange (R162). -/
theorem Binding.exchange_word {x : Binding} (hx : Store.wf zeroes x.data = true) {a : Nat} (ha : x.other.inInit a = false)
    (hi : ∀ e, e ∈ x.other.inits → e.1 ≠ a) : x.exchange.word a = x.word a := by
  show Store.get zeroes (x.other.inits.foldl (fun (m : Store 32) e => m.put zeroes e.1 e.2) (x.data.filter fun e => !x.other.inInit e.1)) a = _
  rw [Store.get_foldl_put_ne (fun e => e) _ (Store.filter_wf _ hx) hi, Store.get_filter fun _ => by simp [ha]]
  rfl

theorem State.data_wf {s : State} (h : s.dataOk = true) {b : Nat} (hb : b < s.ket.bind.length) : Store.wf zeroes (s.bd b).data = true := by
  have hmem : s.bd b ∈ s.ket.bind := by
    rw [State.bd, Tab.at, List.getD_eq_getElem _ _ hb]
    exact List.getElem_mem hb
  exact List.all_eq_true.1 h _ hmem

/-- A swap that is cancelled (R163). -/
theorem State.swapCancel_spec {s : State} {b : Nat} (q : KSwap) (status : Nat) (hs : s.regsOk = true) (hb : b < s.ket.bind.length) :
    (s.swapCancel b q status).bd b = { s.bd b with swap := none } ∧ (s.swapCancel b q status).stuck (Stk.KET_SWAP_CANCEL b) = true := by
  let u := s.ketMod b (fun x => { x with swap := none })
  have hu : u.regsOk = true := hs
  have hbd : u.bd b = { s.bd b with swap := none } := State.bd_ketMod_same _ hb
  constructor
  · rw [← hbd]
    exact (State.bd_finishOpt _ _ _ _ _).trans (State.bd_of_ket (State.stick_ket _ _) b)
  · exact (State.stuck_finishOpt (State.stick_ok _ hu) (State.KET_stk_high b) _ _ _).trans
      (State.stuck_stick_high hu (by decide : 6 < 32) (Nat.le_add_right_of_le (by decide)))

/-- A swap that is made leaves the binding as the exchange does (R161). -/
theorem State.swapDo_made {s : State} {b : Nat} {q : KSwap} (hb : b < s.ket.bind.length) (hov : (s.bd b).ovrAt ≠ some (2 * q.epoch))
    (hm : (s.bd b).mode ≠ .stopped) (hmark : (s.bd b).other.mark = true) : (s.swapDo b q).bd b = (s.bd b).exchange := by
  have hstop : ¬ ((s.bd b).mode == .stopped) = true := by simpa using hm
  have hmarked : ¬ (!(s.bd b).other.mark) = true := by simp [hmark]
  unfold State.swapDo
  extract_lets +onlyGivenNames x s1 s2 s3 s4
  rw [if_neg hov, if_neg hstop, if_neg hmarked]
  have hs1 : s1.bd b = (s.bd b).exchange := State.bd_ketMod_same _ hb
  have hs2 : s2.bd b = (s.bd b).exchange := by
    rw [← hs1]
    dsimp only [s2]
    split
    · exact State.bd_of_ket (State.logRec_ket _ _ _ _ _) b
    · rfl
  have hs3 : s3.bd b = (s.bd b).exchange := by
    rw [← hs2]
    dsimp only [s3]
    split
    · exact State.bd_of_ket (t := s2.rotAbort.logRec 0x0F (evCode 0xFF 4) []) (State.logRec_ket _ _ _ _ _) b
    · rfl
  have hs4 : s4.bd b = (s.bd b).exchange := by
    rw [← hs3]
    exact (State.bd_ketRefresh _ _ _).trans (State.bd_of_ket (State.logRec_ket _ _ _ _ _) b)
  exact (State.bd_finishOpt _ _ _ _ _).trans hs4

theorem swapActs {s : State} {b : Fin 12} {q : KSwap} (hs : s.inv = true) (hdata : s.dataOk = true) (hswap : (s.bd b).swap = some q)
    (ho : s.openEpoch = some q.epoch) (hfb : (s.bd b).fbAt = none) (hov : (s.bd b).ovrAt ≠ some (2 * q.epoch)) (hm : (s.bd b).mode ≠ .stopped) :
    ∃ t, exec (.swapAtEpoch b) s = .next t ∧ s.keeps t ([.ket, .pan, .fw] ++ logParts) ∧ (t.bd b).swap = none ∧
      ((s.bd b).other.mark = true → (t.bd b).act = 1 - (s.bd b).act ∧ ((s.bd b).mode = .fallback → (t.bd b).mode = .main) ∧
        ∀ a, (s.bd b).other.inInit a = false → (∀ e, e ∈ (s.bd b).other.inits → e.1 ≠ a) → (t.bd b).word a = (s.bd b).word a) ∧
      ((s.bd b).other.mark = false → (t.bd b).act = (s.bd b).act ∧ t.stuck (Stk.KET_SWAP_CANCEL b) = true ∧ (t.bd b).data = (s.bd b).data) := by
  have hlen := State.bd_lt hs b
  have hexec : exec (.swapAtEpoch b) s = .next (s.swapDo b q) := by
    show execSwapAtEpoch b s = _
    simp only [execSwapAtEpoch, hswap]
    rw [if_pos ho, State.ketFbDue_none _ hfb]
  have hkeeps := (State.Onward.execSwapAtEpoch (own := []) (by decide)).keeps (may := [.ket, .pan, .fw] ++ logParts) hexec
  cases hmark : (s.bd b).other.mark with
  | true =>
    refine ⟨_, hexec, hkeeps, ?_⟩
    rw [State.swapDo_made hlen hov hm hmark]
    refine ⟨rfl, fun _ => ⟨rfl, fun hfall => ?_, fun a ha hi => Binding.exchange_word (State.data_wf hdata hlen) ha hi⟩, fun h => absurd h (by decide)⟩
    show (if (s.bd b).mode == .fallback then KMode.main else (s.bd b).mode) = .main
    rw [hfall]
    rfl
  | false =>
    have hcancel : s.swapDo b q = s.swapCancel b q stRange := by
      have hstop : ¬ ((s.bd b).mode == .stopped) = true := by simpa using hm
      exact (if_neg hov).trans ((if_neg hstop).trans (if_pos (by simp [hmark])))
    obtain ⟨hbd, hstk⟩ := State.swapCancel_spec q stRange (State.regsOk_of_inv hs) hlen
    rw [hcancel] at hexec hkeeps
    refine ⟨_, hexec, hkeeps, ?_⟩
    rw [hbd]
    exact ⟨rfl, fun h => absurd h (by decide), fun _ => ⟨rfl, hstk, rfl⟩⟩

/-- Settles O18: the ends of epochs and sections, then what acts at a boundary. -/
theorem enginesEndEpochsAndChangeModes : Obligations.EnginesEndEpochsAndChangeModes := by
  unfold Obligations.EnginesEndEpochsAndChangeModes
  exact ⟨⟨fun s b hs hact hend hleave => epochIsOver hs hact hend hleave, fun s b waits hs hact hdrain hend => drainEnds hs hact hdrain hend,
      fun s b hs => cycmaxRead hs⟩,
    fun s b hs ho hm hd => escalationEnds hs ho hm hd, fun s b hs ho hdev hm hfb hret hd => fallbackReturns hs ho hdev hm hfb hret hd,
    fun s b m hs hcmd ho hfb => modeCommandActs hs hcmd ho hfb, fun s b val hs hb hnone hst hreq => swapIsRequested hs hb hnone hst hreq,
    fun s b q hs hdata hswap ho hfb hov hm => swapActs hs hdata hswap ho hfb hov hm⟩

end Sys2Proof.Machine
end

section
/-!
PROOFS. The rotation of the spare engine (O19).
-/
namespace Sys2Proof.Machine

theorem State.gtTo_eq (s : State) (t : Nat) : ∃ g, s.gtTo t = { s with gt := g } := by
  unfold State.gtTo
  split
  · exact ⟨_, rfl⟩
  · exact ⟨s.gt, rfl⟩

/-- The choice of the donor does not depend on GT (R165). -/
theorem State.nextDonor_gtTo (s : State) (t p : Nat) : (s.gtTo t).nextDonor p = s.nextDonor p := by
  obtain ⟨g, h⟩ := s.gtTo_eq t
  rw [h]
  rfl

theorem rotationStarts {s : State} {p : Nat} (hsp : s.ket.spare = some p) (hidle : s.ket.rot = .idle)
    (hen : s.flag Reg.KET_SPARECFG F.KET_SPARECFG_EN = true) (hdev : s.dev = .run ∨ s.dev = .standby) :
    ∃ t, exec .rotationStart s = .next t ∧ s.keeps t [.gt, .ket] ∧ t.ket.donor = s.nextDonor p ∧ t.ket.spare = some p ∧ t.ket.phys = s.ket.phys ∧
      t.gt = (s.gtTo (s.ket.rotAt + clampNat 1 3600 (s.fld Reg.KET_SPARECFG F.KET_SPARECFG_ROT_INT) * 500000000)).gt ∧
      t.ket.rot = (if (s.nextDonor p).isSome then .copy else .idle) := by
  let u := s.gtTo (s.ket.rotAt + s.rotTicks)
  have hcond : (s.ket.rot == .idle && s.flag Reg.KET_SPARECFG F.KET_SPARECFG_EN && (s.dev == .run || s.dev == .standby)) = true := by
    rcases hdev with h | h <;> simp [hidle, hen, h]
  have hexec : exec .rotationStart s = .next { u with ket := { u.ket with rotAt := u.gt, donor := u.nextDonor p, shadowed := 0,
                                                                          rot := if (u.nextDonor p).isSome then .copy else .idle } } := by
    show execRotationStart s = _
    simp only [execRotationStart, hsp]
    rw [if_pos hcond]
  have hdonor : u.nextDonor p = s.nextDonor p := s.nextDonor_gtTo _ p
  refine ⟨_, hexec, (State.Onward.execRotationStart (own := []) (by decide)).keeps hexec, hdonor, ?_, ?_, rfl, ?_⟩
  · show u.ket.spare = some p
    rw [State.gtTo_ket, hsp]
  · show u.ket.phys = s.ket.phys
    rw [State.gtTo_ket]
  · show (if (u.nextDonor p).isSome = true then RotStep.copy else RotStep.idle) = _
    rw [hdonor]

theorem copyEnds {s : State} {sp dn : Nat} (hrot : s.ket.rot = .copy) (hsp : s.ket.spare = some sp) (hdn : s.ket.donor = some dn) :
    ∃ t, exec .copyComplete s = .next t ∧ s.keeps t [.ket] ∧ t.ket.bind = s.ket.bind ∧
      (s.donorIdle dn = true → t.ket.rot = .bist ∧ t.ket.testing = some dn ∧ t.ket.phys = s.ket.phys.map (fun p => if p = some dn then some sp else p)) ∧
      (s.donorIdle dn = false → t.ket.rot = .shadow ∧ t.ket.shadowed = 0 ∧ t.ket.phys = s.ket.phys) := by
  have hexec : exec .copyComplete s =
      .next (if s.donorIdle dn then s.rotMove sp dn else { s with ket := { s.ket with rot := .shadow, shadowed := 0 } }) := by
    show execCopyComplete s = _
    simp only [execCopyComplete, hrot, hsp, hdn]
  have hkeeps := (State.Onward.execCopyComplete (own := []) (by decide)).keeps (may := [.ket]) hexec
  cases hidle : s.donorIdle dn with
  | true =>
    rw [hidle, if_pos rfl] at hexec hkeeps
    exact ⟨_, hexec, hkeeps, rfl, fun _ => ⟨rfl, rfl, rfl⟩, fun h => absurd h (by decide)⟩
  | false =>
    rw [hidle, if_neg (by decide)] at hexec hkeeps
    exact ⟨_, hexec, hkeeps, rfl, fun h => absurd h (by decide), fun _ => ⟨rfl, rfl, rfl⟩⟩

theorem handoverFails {s : State} {sp dn : Nat} (hs : s.inv = true) (hrot : s.ket.rot = .shadow) (hsp : s.ket.spare = some sp)
    (hdn : s.ket.donor = some dn) :
    ∃ t, exec (.handover false) s = .next t ∧ s.keeps t (.ket :: logParts) ∧ t.ket.rot = .bist ∧ t.ket.testing = some sp ∧ t.ket.spare = none ∧
      t.ket.phys = s.ket.phys ∧ t.stuck Stk.KET_SPARE_MISMATCH = true := by
  let u : State := { s with ket := { s.ket with rot := .bist, testing := some sp, spare := none, mismatched := true } }
  have hexec : exec (.handover false) s = .next (u.stick Stk.KET_SPARE_MISMATCH) := by
    show execHandover false s = _
    simp only [execHandover, hrot, hsp, hdn, u]
    rfl
  have hu : u.regsOk = true := State.regsOk_of_inv hs
  have hmove : s.Moves [] (.ket :: logParts) (u.stick Stk.KET_SPARE_MISMATCH) := .stick (.set_ket (.refl s)) (by decide)
  refine ⟨_, hexec, hmove.keeps, ?_⟩
  rw [State.stick_ket]
  exact ⟨rfl, rfl, rfl, rfl, State.stick_stuck _ hu (by decide) (by decide)⟩

theorem handoverAgrees {s : State} {sp dn : Nat} (hs : s.inv = true) (hrot : s.ket.rot = .shadow) (hsp : s.ket.spare = some sp)
    (hdn : s.ket.donor = some dn) (ho : s.openEpoch.isSome = true) (hsh : 16 ≤ s.ket.shadowed) :
    ∃ t, exec (.handover true) s = .next t ∧ s.keeps t ([.ket, .pan] ++ logParts) ∧ t.ket.rot = .bist ∧ t.ket.testing = some dn ∧
      t.ket.phys = s.ket.phys.map (fun p => if p = some dn then some sp else p) ∧
      t.regN Reg.KET_ROTCNT = min (s.regN Reg.KET_ROTCNT + 1) (2 ^ 32 - 1) := by
  let u := s.rotMove sp dn
  let v := u.bump Reg.KET_ROTCNT
  let t := match s.bindOn dn with
    | some b => v.ketRefresh b
    | none => v
  have hcond : (s.openEpoch.isSome && 16 ≤ s.ket.shadowed) = true := by simp [ho, hsh]
  have hexec : exec (.handover true) s = .next t := by
    show execHandover true s = _
    simp only [execHandover, hrot, hsp, hdn]
    exact congrArg Host.Outcome.next (if_pos hcond)
  have hu : u.regsOk = true := State.regsOk_of_inv hs
  have hket : t.ket = u.ket ∧ t.regs = v.regs := by
    dsimp only [t]
    split
    · exact ⟨(State.Moves.ketRefresh (own := []) (.refl v) (by decide : _ ⊆ [Part.pan])).ket_kept (by decide), State.ketRefresh_regs _ _⟩
    · exact ⟨rfl, rfl⟩
  obtain ⟨hk, hr⟩ := hket
  refine ⟨t, hexec, (State.Onward.execHandover (own := []) (by decide)).keeps hexec, ?_⟩
  rw [hk]
  exact ⟨rfl, rfl, rfl, (State.regN_of_regs hr _).trans (State.regN_bump hu _)⟩

/-- A test that has ended, whatever its result. -/
def State.tested (s : State) : State := { s with ket := { s.ket with rot := .idle, testing := none, donor := none, mismatched := false } }

theorem testPasses {s : State} {p : Nat} (hs : s.inv = true) (hrot : s.ket.rot = .bist) (ht : s.ket.testing = some p) :
    ∃ t, exec (.bistComplete true) s = .next t ∧ s.keeps t (.ket :: logParts) ∧ t.ket.rot = .idle ∧ t.ket.spare = some p ∧
      t.regN Reg.KET_BISTCNT = min (s.regN Reg.KET_BISTCNT + 1) (2 ^ 32 - 1) ∧ t.ket.retired = s.ket.retired := by
  let u : State := { s.tested with ket := { s.tested.ket with spare := some p } }
  let v := u.bump Reg.KET_BISTCNT
  let t := if !s.ket.mismatched then { v with ket := { v.ket with suspect := none } }
    else if s.ket.suspect.isSome && s.ket.suspect = s.ket.donor then
      (v.stick Stk.KET_DONOR_SUSPECT).logRec 0x0F (evCode Stk.KET_DONOR_SUSPECT.file 5) [w32 (engCode s.ket.donor)]
    else { v with ket := { v.ket with suspect := s.ket.donor } }
  have hexec : exec (.bistComplete true) s = .next t := by
    show execBistComplete true s = _
    simp only [execBistComplete, hrot, ht]
    rfl
  have hu : u.regsOk = true := State.regsOk_of_inv hs
  have hv : v.regsOk = true := State.bump_ok _ hu
  have hcount : v.regN Reg.KET_BISTCNT = min (s.regN Reg.KET_BISTCNT + 1) (2 ^ 32 - 1) := State.regN_bump hu _
  refine ⟨t, hexec, (State.Onward.execBistComplete (own := []) (by decide)).keeps hexec, ?_⟩
  dsimp only [t]
  split
  · exact ⟨rfl, rfl, hcount, rfl⟩
  · split
    · have hw : v.Writes (· ∈ stickRegs Stk.KET_DONOR_SUSPECT)
          ((v.stick Stk.KET_DONOR_SUSPECT).logRec 0x0F (evCode Stk.KET_DONOR_SUSPECT.file 5) [w32 (engCode s.ket.donor)]) :=
        ((State.Writes.refl hv).stick _ fun _ => id).logRec _ _ _ _ fun _ h => List.mem_cons_of_mem _ h
      rw [State.logRec_ket, State.stick_ket]
      exact ⟨rfl, rfl, (hw.regN (by decide)).trans hcount, rfl⟩
    · exact ⟨rfl, rfl, hcount, rfl⟩

theorem testFails {s : State} {p : Nat} (hs : s.inv = true) (hrot : s.ket.rot = .bist) (ht : s.ket.testing = some p) :
    ∃ t, exec (.bistComplete false) s = .next t ∧ s.keeps t (.ket :: logParts) ∧ t.ket.rot = .idle ∧ t.ket.retired = s.ket.retired ||| 2 ^ p ∧
      t.stuck Stk.KET_BIST_FAIL = true ∧ t.stuck Stk.KET_SPARE_LOST = true := by
  let u : State := { s.tested with ket := { s.tested.ket with retired := s.tested.ket.retired ||| 2 ^ p } }
  let v := u.stick Stk.KET_BIST_FAIL
  have hexec : exec (.bistComplete false) s = .next (v.stick Stk.KET_SPARE_LOST) := by
    show execBistComplete false s = _
    simp only [execBistComplete, hrot, ht]
    rfl
  have hu : u.regsOk = true := State.regsOk_of_inv hs
  have hv : v.regsOk = true := State.stick_ok _ hu
  refine ⟨_, hexec, (State.Onward.execBistComplete (own := []) (by decide)).keeps hexec, ?_⟩
  rw [State.stick_ket, State.stick_ket]
  exact ⟨rfl, rfl, State.stick_mono _ _ hv (by decide) (by decide) (State.stick_stuck _ hu (by decide) (by decide)),
    State.stick_stuck _ hv (by decide) (by decide)⟩

/-- Settles O19: the start, the copy, the handover and the test, with both outcomes of the last two. -/
theorem rotationMovesBindingToSpare : Obligations.RotationMovesBindingToSpare := by
  unfold Obligations.RotationMovesBindingToSpare
  exact ⟨fun s p hsp hidle hen hdev => rotationStarts hsp hidle hen hdev, fun s sp dn hrot hsp hdn => copyEnds hrot hsp hdn,
    fun s sp dn hs hrot hsp hdn => ⟨handoverFails hs hrot hsp hdn, fun ho hsh => handoverAgrees hs hrot hsp hdn ho hsh⟩,
    fun s p hs hrot ht => ⟨testPasses hs hrot ht, testFails hs hrot ht⟩⟩

end Sys2Proof.Machine
end

section
/-!
PROOFS. One instruction of a recipe: what it leaves of its binding and of the state, whatever its effect (R175 to R177), and the elements, words and
flags that it writes (R140, R143, R145, R173).
-/
namespace Sys2Proof.Machine

/-! ## Bindings up to their marks -/

/-- `y` has the data memory, the banks, the accumulators and the flags of `x`: it may stand elsewhere and have other marks. -/
structure Binding.Like (x y : Binding) : Prop where
  data : y.data = x.data
  banks : y.banks = x.banks
  act : y.act = x.act
  acc : y.run.acc = x.run.acc
  flags : y.run.flags = x.run.flags

/-- `y` stands at the word of `x`, after the same cycles. -/
structure Binding.SamePlace (x y : Binding) : Prop where
  pc : y.run.pc = x.run.pc
  loops : y.run.loops = x.run.loops
  cyc : y.run.cyc = x.run.cyc

namespace Binding

variable {x y z : Binding}

theorem Like.refl (x : Binding) : x.Like x := ⟨rfl, rfl, rfl, rfl, rfl⟩

theorem Like.trans (h : x.Like y) (k : y.Like z) : x.Like z :=
  ⟨k.data.trans h.data, k.banks.trans h.banks, k.act.trans h.act, k.acc.trans h.acc, k.flags.trans h.flags⟩

theorem Like.word (h : x.Like y) (a : Nat) : y.word a = x.word a := by rw [Binding.word, h.data]; rfl

theorem Like.stage (h : x.Like y) (sd : Nat) : y.stage sd = x.stage sd := by
  rw [Binding.stage, Binding.bank, h.banks, h.act]
  rfl

theorem Like.mant (h : x.Like y) (sd i : Nat) : y.mant sd i = x.mant sd i := by rw [Binding.mant, h.stage, h.word]; rfl

theorem SamePlace.refl (x : Binding) : x.SamePlace x := ⟨rfl, rfl, rfl⟩

theorem SamePlace.trans (h : x.SamePlace y) (k : y.SamePlace z) : x.SamePlace z :=
  ⟨k.pc.trans h.pc, k.loops.trans h.loops, k.cyc.trans h.cyc⟩

theorem SamePlace.of_run (h : y.run = x.run) : x.SamePlace y := by
  constructor <;> rw [h]

theorem stepOn_like (x : Binding) (cost : Nat) : x.Like (x.stepOn cost) := ⟨rfl, rfl, rfl, rfl, rfl⟩

end Binding

/-! ## Steps -/

theorem State.bd_ketMod_ne (s : State) {b k : Nat} (f : Binding → Binding) (hk : k ≠ b) : (s.ketMod b f).bd k = s.bd k := Tab.at_mod_ne _ _ hk

/-- What the effect of an instruction leaves beside its binding: the engine's place, the other bindings, and the number of them. -/
structure State.Acts (b : Nat) (may : List Part) (s u : State) : Prop where
  keeps : s.keeps u may
  place : (s.bd b).SamePlace (u.bd b)
  others : ∀ k, k ≠ b → u.bd k = s.bd k
  length : u.ket.bind.length = s.ket.bind.length

theorem State.Acts.refl (b : Nat) (may : List Part) (s : State) : s.Acts b may s := ⟨State.keeps_refl _ _, .refl _, fun _ _ => rfl, rfl⟩

/-- A change of the engines beside parts that may change anyway. -/
theorem State.keeps_ketMod {s u : State} {may : List Part} (h : s.keeps u may) (hm : .ket ∈ may) (b : Nat) (f : Binding → Binding) :
    s.keeps (u.ketMod b f) may := by
  obtain ⟨h1, h2, h3, h4, h5, h6, h7, h8, h9, h10, h11, h12, h13, h14, h15, -, h17⟩ := h
  exact ⟨h1, h2, h3, h4, h5, h6, h7, h8, h9, h10, h11, h12, h13, h14, h15, .inl hm, h17⟩

theorem State.idles_stepOn {s : State} {b : Fin 12} (hs : s.inv = true) (cost : Nat) : s.idles (s.ketMod b (fun x => x.stepOn cost)) b := by
  have hb := State.bd_ketMod_same (s := s) (fun x => x.stepOn cost) (State.bd_lt hs b)
  refine ⟨State.keeps_ketMod (State.keeps_refl _ _) (by decide) _ _, ?_⟩
  rw [hb]
  exact ⟨rfl, rfl, rfl, rfl⟩

/-- One instruction: its engine goes on; where the predicate holds its effect shows in the binding up to the engine's place (R175, R176). -/
theorem State.wordDoes_kStep {s : State} {b : Fin 12} {i : Instr} {h : KHead} {w cost : Nat} {eff : State → State} {may : List Part}
    {E : State → Prop} (hs : s.inv = true) (hat : (s.bd b).atWord w = true) (hexec : exec i s = .next (s.kStep b w h cost eff))
    (hket : .ket ∈ may) (hact : (s.bd b).takes h = true → s.Acts b may (eff s))
    (hE : (s.bd b).takes h = true → ∀ t, s.keeps t may → ((eff s).bd b).Like (t.bd b) → t.pan = (eff s).pan → t.regs = (eff s).regs → E t) :
    s.wordDoes b i h cost may E := by
  let u := if (s.bd b).takes h then eff s else s
  have hstep : s.kStep b w h cost eff = u.ketMod b (fun x => x.stepOn cost) := if_pos hat
  have hu : s.Acts b may u := by
    dsimp only [u]
    split
    · next ht => exact hact ht
    · exact .refl _ _ _
  have hlen : b.val < u.ket.bind.length := by
    rw [hu.length]
    exact State.bd_lt hs b
  have hbd : (u.ketMod b (fun x => x.stepOn cost)).bd b = (u.bd b).stepOn cost := State.bd_ketMod_same _ hlen
  refine ⟨_, hexec.trans (congrArg _ hstep), ⟨?_, ?_, fun k hk => ?_⟩, State.keeps_ketMod hu.keeps hket _ _, fun ht => ?_, fun ht => ?_⟩
  · rw [hbd]
    exact congrArg (· + cost) hu.place.cyc
  · rw [hbd, ← hu.place.pc, ← hu.place.loops]
    rfl
  · rw [State.bd_ketMod_ne _ _ hk, hu.others k hk]
  · have hue : u = eff s := if_pos ht
    rw [← hue] at hE
    refine hE ht _ (State.keeps_ketMod hu.keeps hket _ _) ?_ rfl rfl
    rw [hbd]
    exact Binding.stepOn_like _ _
  · have hue : u = s := if_neg (by simp [ht])
    rw [hue]
    exact State.idles_stepOn hs cost

/-! ## Effects on the binding alone -/

theorem State.stuck_ketMod (s : State) (b : Nat) (f : Binding → Binding) (k : Stk) : (s.ketMod b f).stuck k = s.stuck k := rfl

/-- The sticky bits of a saturation, and what stays (R145). -/
structure State.Marked (b : Nat) (sat acc : Bool) (s u : State) : Prop where
  acts : s.Acts b (.ket :: logParts) u
  quiet : sat = false → acc = false → u = s
  like : (s.bd b).Like (u.bd b)
  pan : u.pan = s.pan
  sat : sat = true → u.stuck (Stk.KET_SAT b) = true
  acc : acc = true → u.stuck (Stk.KET_ACCSAT b) = true

theorem State.ketSat_spec {s : State} {b : Nat} (sat acc : Bool) (hs : s.regsOk = true) (hb : b < s.ket.bind.length) :
    s.Marked b sat acc (s.ketSat b sat acc) := by
  let s1 := (s.stickIf sat (Stk.KET_SAT b)).stickIf acc (Stk.KET_ACCSAT b)
  let s2 := if (s.bd b).run.sat then s1 else s1.bump (Reg.KET_SATCNT b)
  let f : Binding → Binding := fun x => { x.modRun (fun r => { r with sat := true }) with satEp := true }
  have heq : s.ketSat b sat acc = if sat || acc then s2.ketMod b f else s1 := rfl
  have hreg : ∀ k : Stk, k.reg = Reg.KET_BSTK b → k.reg ≠ Reg.LOG_DROPCNT := fun k hk => by
    rw [hk]
    exact ne_of_gt (Nat.lt_add_right _ (by decide))
  have h0 : (s.stickIf sat (Stk.KET_SAT b)).regsOk = true := State.stickIf_ok _ _ hs
  have h1 : s1.regsOk = true := State.stickIf_ok _ _ h0
  have hket1 : s1.ket = s.ket := (State.stickIf_ket _ _ _).trans (State.stickIf_ket _ _ _)
  have hket2 : s2.ket = s.ket := by
    dsimp only [s2]
    split
    · exact hket1
    · exact hket1
  have hw2 : s1.Writes (· = Reg.KET_SATCNT b) s2 := .ite (.refl h1) ((State.Writes.refl h1).bump rfl)
  have hne : Reg.KET_BSTK b ≠ Reg.KET_SATCNT b := by unfold Reg.KET_BSTK Reg.KET_SATCNT; omega
  have hsat : sat = true → s1.stuck (Stk.KET_SAT b) = true := by
    rintro rfl
    have hset : (s.stickIf true (Stk.KET_SAT b)).stuck (Stk.KET_SAT b) = true := State.stick_stuck _ hs (by decide : 0 < 32) (hreg _ rfl)
    dsimp only [s1]
    cases acc with
    | true => exact State.stick_mono _ _ h0 (by decide : 1 < 32) (hreg (Stk.KET_SAT b) rfl) hset
    | false => exact hset
  have hacc : acc = true → s1.stuck (Stk.KET_ACCSAT b) = true := by
    rintro rfl
    exact State.stick_stuck _ h0 (by decide : 1 < 32) (hreg (Stk.KET_ACCSAT b) rfl)
  have hmove1 : s.Moves [] (.ket :: logParts) s1 := .stickIf (.stickIf (.refl s) (by decide)) (by decide)
  have hmove2 : s.Moves [] (.ket :: logParts) s2 := .ite hmove1 (hmove1.bump (by decide))
  have hpan2 : s2.pan = s.pan := by
    have hpan1 : s1.pan = s.pan := (State.stickIf_pan _ _ _).trans (State.stickIf_pan _ _ _)
    dsimp only [s2]
    split
    · exact hpan1
    · exact hpan1
  by_cases hor : (sat || acc) = true
  · rw [heq, if_pos hor]
    have hbd : (s2.ketMod b f).bd b = f (s.bd b) := by
      rw [State.bd_ketMod_same _ (by rw [hket2]; exact hb), State.bd_of_ket hket2]
    refine ⟨⟨State.keeps_ketMod hmove2.keeps (by decide) _ _, ?_, fun k hk => ?_, ?_⟩, fun h h' => ?_, ?_, hpan2, fun h => ?_, fun h => ?_⟩
    · rw [hbd]
      exact ⟨rfl, rfl, rfl⟩
    · rw [State.bd_ketMod_ne _ _ hk, State.bd_of_ket hket2]
    · rw [State.binds_length_ketMod, hket2]
    · simp [h, h'] at hor
    · rw [hbd]
      exact ⟨rfl, rfl, rfl, rfl, rfl⟩
    · exact (hw2.stuck hne).trans (hsat h)
    · exact (hw2.stuck hne).trans (hacc h)
  · rw [heq, if_neg hor]
    obtain ⟨rfl, rfl⟩ : sat = false ∧ acc = false := by simpa using hor
    exact ⟨.refl _ _ _, fun _ _ => rfl, .refl _, rfl, fun h => absurd h (by decide), fun h => absurd h (by decide)⟩

section

variable {s : State} {b : Fin 12} {i : Instr} {h : KHead} {w cost : Nat} {eff : State → State} {may : List Part} {E : State → Prop}

/-- An effect that is a function of the binding, computed after the loads that led from `s` to `l` (R145). -/
theorem State.wordDoes_pureAfter {l : State} {f : Binding → KOut} (hs : s.inv = true) (hat : (s.bd b).atWord w = true)
    (hexec : exec i s = .next (s.kStep b w h cost eff)) (heff : eff s = State.kPure b f l) (hload : s.Moves [] may l) (hloadket : l.ket = s.ket)
    (hrun : (s.bd b).SamePlace (f (s.bd b)).x) (hmay : .ket ∈ may ∧ (logParts ⊆ may ∨ (f (s.bd b)).sat = false ∧ (f (s.bd b)).acc = false))
    (hE : ∀ t, (f (s.bd b)).x.Like (t.bd b) → t.pan = l.pan → ((f (s.bd b)).sat = true → t.stuck (Stk.KET_SAT b) = true) →
      ((f (s.bd b)).acc = true → t.stuck (Stk.KET_ACCSAT b) = true) → E t) : s.wordDoes b i h cost may E := by
  let o := f (s.bd b)
  let u := l.ketMod b (fun _ => o.x)
  have hlen : b.val < l.ket.bind.length := by
    rw [hloadket]
    exact State.bd_lt hs b
  have heff : eff s = u.ketSat b o.sat o.acc := by
    rw [heff]
    show (l.ketMod b (fun _ => (f (l.bd b)).x)).ketSat b (f (l.bd b)).sat (f (l.bd b)).acc = _
    rw [State.bd_of_ket hloadket b]
  have hu : u.regsOk = true := State.regsOk_of_inv (s := l) (hload.inv hs)
  have hubd : u.bd b = o.x := State.bd_ketMod_same _ hlen
  have hmark : u.Marked b o.sat o.acc (u.ketSat b o.sat o.acc) := State.ketSat_spec _ _ hu (by rw [State.binds_length_ketMod]; exact hlen)
  obtain ⟨hket, hlog⟩ := hmay
  refine State.wordDoes_kStep hs hat hexec hket (fun _ => ?_) fun _ t _ hlike hpan hregs => ?_
  · rw [heff]
    have huk : s.keeps u may := State.keeps_ketMod hload.keeps hket _ _
    refine ⟨?_, ?_, fun k hk => ?_, ?_⟩
    · rcases hlog with hsub | ⟨hsat, hacc⟩
      · exact State.keeps_trans huk (State.keeps_mono hmark.acts.keeps (List.cons_subset.2 ⟨hket, hsub⟩))
      · rw [hmark.quiet hsat hacc]
        exact huk
    · refine Binding.SamePlace.trans ?_ hmark.acts.place
      rw [hubd]
      exact hrun
    · rw [hmark.acts.others k hk, State.bd_ketMod_ne _ _ hk, State.bd_of_ket hloadket]
    · rw [hmark.acts.length, State.binds_length_ketMod, hloadket]
  · rw [heff] at hlike hpan hregs
    have hx : o.x.Like (t.bd b) := by
      rw [← hubd]
      exact hmark.like.trans hlike
    exact hE t hx (hpan.trans hmark.pan) (fun h => (State.stuck_of_reg (State.reg_of_regs hregs _)).trans (hmark.sat h))
      fun h => (State.stuck_of_reg (State.reg_of_regs hregs _)).trans (hmark.acc h)

/-- An effect that is a function of the binding. -/
theorem State.wordDoes_pure {f : Binding → KOut} (hs : s.inv = true) (hat : (s.bd b).atWord w = true)
    (hexec : exec i s = .next (s.kStep b w h cost (State.kPure b f))) (hrun : (s.bd b).SamePlace (f (s.bd b)).x)
    (hmay : .ket ∈ may ∧ (logParts ⊆ may ∨ (f (s.bd b)).sat = false ∧ (f (s.bd b)).acc = false))
    (hE : ∀ t, (f (s.bd b)).x.Like (t.bd b) → ((f (s.bd b)).sat = true → t.stuck (Stk.KET_SAT b) = true) →
      ((f (s.bd b)).acc = true → t.stuck (Stk.KET_ACCSAT b) = true) → E t) : s.wordDoes b i h cost may E :=
  State.wordDoes_pureAfter hs hat hexec rfl (.refl s) rfl hrun hmay fun t hl _ => hE t hl

end

/-! ## Results -/

/-- `p` has of `o` the words but those of `may`, the run, the shape of every stage, and its marks. -/
structure KOut.Puts (o p : KOut) (may : Nat → Prop) : Prop where
  run : p.x.run = o.x.run
  shape : ∀ k, (p.x.stage k).base = (o.x.stage k).base ∧ (p.x.stage k).exp = (o.x.stage k).exp
  acc : p.acc = o.acc
  sat : o.sat = true → p.sat = true
  words : Store.wf zeroes o.x.data = true → ∀ a, ¬ may a → p.x.word a = o.x.word a
  wf : Store.wf zeroes o.x.data = true → Store.wf zeroes p.x.data = true

namespace KOut.Puts

variable {o p q : KOut} {may m : Nat → Prop}

theorem refl (o : KOut) : o.Puts o may := ⟨rfl, fun _ => ⟨rfl, rfl⟩, rfl, id, fun _ _ _ => rfl, id⟩

theorem trans (h : o.Puts p may) (k : p.Puts q may) : o.Puts q may where
  run := k.run.trans h.run
  shape j := ⟨(k.shape j).1.trans (h.shape j).1, (k.shape j).2.trans (h.shape j).2⟩
  acc := k.acc.trans h.acc
  sat := k.sat ∘ h.sat
  words ho a ha := (k.words (h.wf ho) a ha).trans (h.words ho a ha)
  wf := k.wf ∘ h.wf

theorem mono (h : o.Puts p m) (hm : ∀ a, m a → may a) : o.Puts p may := { h with words := fun ho a ha => h.words ho a (ha ∘ hm a) }

theorem rounded (h : o.Puts p may) (sd : Nat) (v : Dy) : p.x.rounded sd v = o.x.rounded sd v := by
  rw [Binding.rounded, (h.shape sd).2]
  rfl

theorem mantOf (h : o.Puts p may) (sd : Nat) (v : Dy) : p.x.mantOf sd v = o.x.mantOf sd v := by rw [Binding.mantOf, h.rounded]; rfl

/-- A mantissa outside the words that may change. -/
theorem mant (h : o.Puts p may) (ho : Store.wf zeroes o.x.data = true) {sd i : Nat} (hi : ¬ may ((o.x.stage sd).base + i)) : p.x.mant sd i = o.x.mant sd i := by
  rw [Binding.mant, (h.shape sd).1, h.words ho _ hi]
  rfl

theorem samePlace (h : o.Puts p may) : o.x.SamePlace p.x := .of_run h.run

/-- What stands in the words of the state after the instruction (R187). -/
theorem wordsBut {s t : State} {b : Fin 12} (h : (KOut.mk (s.bd b) false false).Puts p may) (ho : Store.wf zeroes (s.bd b).data = true)
    (hl : p.x.Like (t.bd b)) : s.wordsBut t b may :=
  ⟨hl.acc.trans (congrArg KRun.acc h.run), hl.flags.trans (congrArg KRun.flags h.run), fun a ha => (hl.word a).trans (h.words ho a ha)⟩

end KOut.Puts

theorem Binding.stage_modStage (x : Binding) (sd k : Nat) :
    ((x.modStage sd (fun t => { t with sat := true })).stage k).base = (x.stage k).base ∧
      ((x.modStage sd (fun t => { t with sat := true })).stage k).exp = (x.stage k).exp := by
  unfold Binding.stage Binding.bank Binding.modStage Binding.modBank Tab.at Tab.mod
  simp only [List.getD_eq_getElem?_getD, List.getElem?_modify]
  by_cases hact : x.act < x.banks.length
  · by_cases hsd : sd = k
    · subst hsd
      simp only [List.getElem?_eq_getElem hact]
      by_cases hk : sd < x.banks[x.act].stages.length
      · simp [hk]
      · simp [hk]
    · simp [hact, hsd]
  · simp [hact]

theorem KOut.markSat_puts (o : KOut) (sd : Nat) (may : Nat → Prop) : o.Puts (o.markSat sd) may :=
  ⟨rfl, fun k => Binding.stage_modStage _ _ k, rfl, fun _ => rfl, fun _ _ _ => rfl, id⟩

theorem KOut.setWord_puts (o : KOut) (a : Nat) (v : Word) : o.Puts (o.setWord a v) (· = a) :=
  ⟨rfl, fun _ => ⟨rfl, rfl⟩, rfl, id, fun ho _ hk => Store.get_put_ne _ _ ho hk, Store.put_wf⟩

theorem KOut.setWord_word {o : KOut} (a : Nat) (v : Word) (ho : Store.wf zeroes o.x.data = true) : (o.setWord a v).x.word a = v :=
  Store.get_put_same _ _ _ ho

theorem sgn_lowBits_satTo (r : Int) : sgn 24 ((BitVec.ofNat 32 (lowBits 24 (satTo 24 r) * 256)).toNat / 256) = satTo 24 r := by
  have hlo : -(2 ^ 23) ≤ satTo 24 r := by unfold satTo clampInt; omega
  have hhi : satTo 24 r ≤ 2 ^ 23 - 1 := by unfold satTo clampInt; omega
  generalize satTo 24 r = m at *
  unfold sgn lowBits
  simp only [BitVec.toNat_ofNat]
  omega

/-- A mantissa goes to its element, saturated; one that does not fit marks the stage (R140, R145). -/
theorem KOut.putMant_puts (o : KOut) (sd i : Nat) (r : Int) : o.Puts (o.putMant sd i r) (· = (o.x.stage sd).base + i) := by
  have hset : o.Puts (o.setWord ((o.x.stage sd).base + i) (BitVec.ofNat 32 (lowBits 24 (satTo 24 r) * 256))) (· = (o.x.stage sd).base + i) :=
    o.setWord_puts _ _
  unfold KOut.putMant
  dsimp only
  split
  · exact hset
  · exact hset.trans (KOut.markSat_puts _ sd _)

theorem KOut.putMant_sat {o : KOut} {sd i : Nat} {r : Int} (hr : satTo 24 r ≠ r) : (o.putMant sd i r).sat = true := by
  unfold KOut.putMant
  dsimp only
  rw [if_neg (Ne.symm hr)]

theorem KOut.putMant_mant {o : KOut} (sd i : Nat) (r : Int) (ho : Store.wf zeroes o.x.data = true) :
    (o.putMant sd i r).x.mant sd i = satTo 24 r := by
  have hw : (o.putMant sd i r).x.word ((o.x.stage sd).base + i) = BitVec.ofNat 32 (lowBits 24 (satTo 24 r) * 256) := by
    unfold KOut.putMant
    dsimp only
    split <;> exact Store.get_put_same _ _ _ ho
  rw [Binding.mant, ((o.putMant_puts sd i r).shape sd).1, hw, sgn_lowBits_satTo]

theorem KOut.putElem_eq (o : KOut) (sd i : Nat) (v : Dy) : o.putElem sd i v = o.putMant sd i (o.x.rounded sd v) := rfl

/-- Consecutive elements, one after the other. -/
theorem KOut.putElems_cons (o : KOut) (sd e0 : Nat) (v : Dy) (vs : List Dy) :
    o.putElems sd e0 (v :: vs) = (o.putElem sd e0 v).putElems sd (e0 + 1) vs := by
  unfold KOut.putElems
  rw [List.zipIdx_cons, List.foldl_cons, List.zipIdx_succ, List.foldl_map]
  simp only [Nat.add_zero, Nat.add_assoc, Nat.add_comm 1]

/-- What writing the elements of `vs` from element `e0` of stage `sd` leaves (R140, R143, R145). -/
structure KOut.PutsElems (o p : KOut) (sd e0 : Nat) (vs : List Dy) : Prop where
  puts : o.Puts p (fun a => (o.x.stage sd).base + e0 ≤ a ∧ a < (o.x.stage sd).base + e0 + vs.length)
  mant : ∀ i (hi : i < vs.length), p.x.mant sd (e0 + i) = o.x.mantOf sd vs[i]
  sat : ∀ i (hi : i < vs.length), o.x.mantOf sd vs[i] ≠ o.x.rounded sd vs[i] → p.sat = true

theorem KOut.putElems_spec {o : KOut} (sd e0 : Nat) (vs : List Dy) (ho : Store.wf zeroes o.x.data = true) :
    o.PutsElems (o.putElems sd e0 vs) sd e0 vs := by
  induction vs generalizing o e0 with
  | nil => exact ⟨.refl o, fun i hi => absurd hi (Nat.not_lt_zero i), fun i hi => absurd hi (Nat.not_lt_zero i)⟩
  | cons v vs ih =>
    rw [KOut.putElems_cons]
    let p := o.putElem sd e0 v
    have hp : o.Puts p (· = (o.x.stage sd).base + e0) := o.putMant_puts sd e0 _
    obtain ⟨hputs, hmant, hsat⟩ := ih (o := p) (e0 + 1) (hp.wf ho)
    have hbase : (p.x.stage sd).base = (o.x.stage sd).base := (hp.shape sd).1
    rw [hbase] at hputs
    refine ⟨(hp.mono ?_).trans (hputs.mono ?_), fun i hi => ?_, fun i hi hne => ?_⟩
    · rintro a rfl
      simp
    · intro a ha
      rw [List.length_cons]
      omega
    · cases i with
      | zero =>
        refine (hputs.mant (hp.wf ho) (by rw [hbase]; omega)).trans (KOut.putMant_mant sd e0 _ ho)
      | succ i =>
        have h := hmant i (Nat.lt_of_succ_lt_succ hi)
        rw [hp.mantOf, Nat.add_assoc, Nat.add_comm 1] at h
        exact h
    · cases i with
      | zero => exact hputs.sat (KOut.putMant_sat hne)
      | succ i => exact hsat i (Nat.lt_of_succ_lt_succ hi) (by rw [hp.mantOf, hp.rounded]; exact hne)

/-! ## Flags -/

/-- A bit of a value after a write of one bit. -/
theorem testBit_putFld_bit (n q : Nat) (v : Bool) (k : Nat) : (putFld n ⟨q, 1⟩ (bit v)).testBit k = if k = q then v else n.testBit k := by
  rw [Nat.testBit_eq_decide_div_mod_eq, Nat.testBit_eq_decide_div_mod_eq]
  split
  · next h =>
    subst h
    have := putFld_same n k 1 (bit v)
    rw [pow_one] at this
    rw [this]
    cases v <;> rfl
  · next h =>
    have := putFld_other n q 1 (bit v) k 1 (by omega)
    rw [pow_one] at this
    rw [this]

/-- `o` with flag `q` as `v`, where `q` is not 0 (R173). -/
structure KOut.Flags (o p : KOut) (q : Nat) (v : Bool) : Prop where
  data : p.x.data = o.x.data
  place : o.x.SamePlace p.x
  sat : p.sat = o.sat
  acc : p.acc = o.acc
  others : ∀ k, k ≠ q → p.x.run.flags.testBit k = o.x.run.flags.testBit k
  takes : q ≠ 0 → p.x.run.flags.testBit q = v
  zero : q = 0 → p.x.run.flags = o.x.run.flags

theorem KOut.setFlag_flags (o : KOut) (q : Nat) (v : Bool) : o.Flags (o.setFlag q v) q v := by
  by_cases hq : q = 0
  · have heq : o.setFlag q v = o := if_pos hq
    rw [heq]
    exact ⟨rfl, .refl _, rfl, rfl, fun _ _ => rfl, fun h => absurd hq h, fun _ => rfl⟩
  · have hbit : ∀ k, (o.setFlag q v).x.run.flags.testBit k = if k = q then v else o.x.run.flags.testBit k := fun k => by
      rw [KOut.setFlag, if_neg hq]
      exact testBit_putFld_bit _ _ _ _
    have hfields : (o.setFlag q v).x.data = o.x.data ∧ o.x.SamePlace (o.setFlag q v).x ∧ (o.setFlag q v).sat = o.sat ∧ (o.setFlag q v).acc = o.acc := by
      rw [KOut.setFlag, if_neg hq]
      exact ⟨rfl, ⟨rfl, rfl, rfl⟩, rfl, rfl⟩
    obtain ⟨hdata, hplace, hsat, hacc⟩ := hfields
    exact ⟨hdata, hplace, hsat, hacc, fun k hk => (hbit k).trans (if_neg hk), fun _ => (hbit q).trans (if_pos rfl), fun h => absurd h hq⟩

end Sys2Proof.Machine
end

section
/-!
PROOFS. NOP, LOOP and the instructions on flags and on raw words (R173, R175 to R177, R183, R186, R187): O20 and O21.
-/
namespace Sys2Proof.Machine

/-! ## Flags -/

/-- Flag `q` of the binding is `v` in `t`, where `q` is not 0, and no other flag and no data has changed (R173). -/
structure State.FlagSet (s t : State) (b q : Nat) (v : Bool) : Prop where
  data : (t.bd b).data = (s.bd b).data
  others : ∀ k, k ≠ q → (t.bd b).run.flags.testBit k = (s.bd b).run.flags.testBit k
  takes : q ≠ 0 → (t.bd b).run.flags.testBit q = v
  zero : q = 0 → (t.bd b).run.flags = (s.bd b).run.flags

section

variable {s : State} {b : Fin 12} {i : Instr} {h : KHead} {w cost : Nat} {may : List Part} {E : State → Prop}

/-- An instruction that writes flag `q`, after the loads that led from `s` to `l`. -/
theorem State.wordDoes_setFlag {eff : State → State} {l : State} {f : Binding → KOut} {q : Nat} {v : Bool} (hs : s.inv = true)
    (hat : (s.bd b).atWord w = true) (hexec : exec i s = .next (s.kStep b w h cost eff)) (heff : eff s = State.kPure b f l)
    (hload : s.Moves [] may l) (hloadket : l.ket = s.ket) (hf : f (s.bd b) = (KOut.mk (s.bd b) false false).setFlag q v) (hmay : .ket ∈ may)
    (hE : ∀ t, s.FlagSet t b q v → E t) : s.wordDoes b i h cost may E := by
  obtain ⟨hdata, hplace, hsat, hacc, hothers, htakes, hzero⟩ := (KOut.mk (s.bd b) false false).setFlag_flags q v
  rw [← hf] at hdata hplace hsat hacc hothers htakes hzero
  refine State.wordDoes_pureAfter hs hat hexec heff hload hloadket hplace ⟨hmay, .inr ⟨hsat, hacc⟩⟩ fun t hl _ _ _ => hE t ?_
  refine ⟨hl.data.trans hdata, fun k hk => ?_, fun hq => ?_, fun hq => hl.flags.trans (hzero hq)⟩
  · rw [hl.flags]
    exact hothers k hk
  · rw [hl.flags]
    exact htakes hq

end

/-- Settles O20: an engine's step with the effect on a flag; LOOP opens its loop in the run. -/
theorem nopLoopAndFlagInstructions : Obligations.NopLoopAndFlagInstructions := by
  refine ⟨⟨fun b h s hs hat => ?_, fun b f s hs hat => ?_⟩, fun b h f s hs hat => ⟨fun hc => ?_, fun hc => ?_⟩, fun b h f s hs hat => ?_,
    fun b h f s hs hat => ?_, fun b h f s hs hat => ?_⟩
  case refine_1 =>
    exact State.wordDoes_kStep hs hat rfl (by decide) (fun _ => .refl _ _ _) fun _ t hk hl _ _ => ⟨hk, hl.data, hl.banks, hl.flags, hl.acc⟩
  case refine_2 =>
    let g : KRun → KRun := fun r =>
      { r with pc := r.pc + 1, cyc := r.cyc + 1,
               loops := { j := f.jl.val, n := f.n1.val + 1, first := r.pc + 1, stop := r.pc + 2 + f.l1.val } :: r.loops }
    have hexec : exec (.loop b f) s = .next (s.ketMod b (fun x => x.modRun g)) := congrArg Host.Outcome.next (if_pos hat)
    have hbd : (s.ketMod b (fun x => x.modRun g)).bd b = (s.bd b).modRun g := State.bd_ketMod_same _ (State.bd_lt hs b)
    refine ⟨_, hexec, ⟨State.keeps_ketMod (State.keeps_refl _ _) (by decide) _ _, ?_⟩, ?_⟩
    · rw [hbd]
      exact ⟨rfl, rfl, rfl, rfl⟩
    · rw [hbd]
      exact ⟨rfl, rfl, rfl⟩
  case refine_3 => exact if_pos (by simp [hat, hc])
  case refine_4 =>
    have hc' : ¬ (decide (6 ≤ f.cond.val) && (s.bd b).atWord (encE 0x08 h f)) = true := by simp [hc]
    exact State.wordDoes_setFlag hs hat (if_neg hc') rfl (.refl s) rfl rfl (by decide) fun t k => ⟨k.data, k.others, k.takes, k.zero⟩
  case refine_5 =>
    refine State.wordDoes_setFlag hs hat rfl rfl (.refl s) rfl rfl (by decide) fun t k => ⟨k.data, k.others, fun hq => ?_, k.zero⟩
    rw [k.takes hq]
    exact ⟨fun h0 => by simp [h0], fun h1 => by simp [h1], fun h2 => by simp [h2], fun h3 => by simp [h3]⟩
  case refine_6 =>
    exact State.wordDoes_setFlag hs hat rfl rfl (.refl s) rfl rfl (by decide) fun t k => ⟨k.data, k.others, k.takes, k.zero⟩
  case refine_7 =>
    let l := s.kLoad b (f.slot.val + (s.bd b).jval h)
    have hload : s.Moves [] (.pan :: logParts) l := State.Moves.kLoad (.refl s) (by decide)
    refine State.wordDoes_setFlag hs hat rfl rfl (hload.mono (by decide)) (hload.ket_kept (by decide)) rfl (by decide) fun t k =>
      ⟨k.data, k.others, fun hq => ?_, k.zero⟩
    rw [k.takes hq]

/-! ## Raw words -/

section

variable {s : State} {b : Fin 12} {i : Instr} {h : KHead} {w cost : Nat} {may : List Part} {E : State → Prop}

/-- An instruction that writes the raw word `a`, after the loads that led from `s` to `l` (R183). -/
theorem State.wordDoes_setWord {eff : State → State} {l : State} {f : Binding → KOut} {a : Nat} {v : Word} (hs : s.inv = true)
    (hd : s.dataOk = true) (hat : (s.bd b).atWord w = true) (hexec : exec i s = .next (s.kStep b w h cost eff))
    (heff : eff s = State.kPure b f l) (hload : s.Moves [] may l) (hloadket : l.ket = s.ket)
    (hf : f (s.bd b) = (KOut.mk (s.bd b) false false).setWord a v) (hmay : .ket ∈ may)
    (hE : ∀ t, t.pan = l.pan → (t.bd b).word a = v → s.wordsBut t b (· = a) → E t) : s.wordDoes b i h cost may E := by
  have hwf : Store.wf zeroes (s.bd b).data = true := State.data_wf hd (State.bd_lt hs b)
  have hputs := (KOut.mk (s.bd b) false false).setWord_puts a v
  have hword := KOut.setWord_word (o := KOut.mk (s.bd b) false false) a v hwf
  rw [← hf] at hputs hword
  refine State.wordDoes_pureAfter hs hat hexec heff hload hloadket hputs.samePlace ⟨hmay, .inr ?_⟩ fun t hl hpan _ _ =>
    hE t hpan ((hl.word a).trans hword) (hputs.wordsBut hwf hl)
  rw [hf]
  exact ⟨rfl, rfl⟩

end

/-- An instruction on two raw words. -/
theorem rawClause_of {mk : Fin 12 → KHead → KW → Instr} {op : Nat} {g : KW → Word → Word → Word}
    (hexec : ∀ b h f s, exec (mk b h f) s = .next (s.kStep b (encW op h f) h 1 (State.kPure b (rawOp (g f) f)))) : rawClause mk op g :=
  fun b h f s hs hd hat => State.wordDoes_setWord hs hd hat (hexec b h f s) rfl (.refl s) rfl rfl (by decide) fun _ _ hw hbut => ⟨hw, hbut⟩

/-- Settles O21: one word of the binding's data memory is written. -/
theorem rawWordInstructionsWriteOneWord : Obligations.RawWordInstructionsWriteOneWord := by
  refine ⟨rawClause_of fun _ _ _ _ => rfl, rawClause_of fun _ _ _ _ => rfl, rawClause_of fun _ _ _ _ => rfl, rawClause_of fun _ _ _ _ => rfl,
    rawClause_of fun _ _ _ _ => rfl, fun b h f s hs hd hat => ⟨fun hc => if_pos (by simp [hat, hc]), fun hc => ?_⟩, fun b h f s hs hd hat =>
      State.wordDoes_setWord hs hd hat rfl rfl (.refl s) rfl rfl (by decide) fun _ _ hw hbut => ⟨hw, hbut⟩⟩
  have hc' : ¬ (decide (f.sht.val = 3) && (s.bd b).atWord (encW 0x55 h f)) = true := by simp [hc]
  refine State.wordDoes_setWord hs hd hat (if_neg hc') rfl (.refl s) rfl rfl (by decide) fun t _ hw hbut => ?_
  rw [hw]
  exact ⟨fun h0 => by simp [h0], fun h1 => by simp [h1], fun h2 => by simp [h2], hbut⟩

end Sys2Proof.Machine
end

section
/-!
PROOFS. The element-wise instructions, and the functions of one element or angle (R143, R145, R185, R187, R188): O22 and O24.
-/
namespace Sys2Proof.Machine

section

variable {s : State} {b : Fin 12} {i : Instr} {h : KHead} {w cost : Nat} {E : State → Prop} {f : Binding → KOut}

/-- An instruction that writes the words of `m`. -/
theorem State.wordDoes_puts {m : Nat → Prop} (hs : s.inv = true) (hd : s.dataOk = true) (hat : (s.bd b).atWord w = true)
    (hexec : exec i s = .next (s.kStep b w h cost (State.kPure b f))) (hputs : (KOut.mk (s.bd b) false false).Puts (f (s.bd b)) m)
    (hE : ∀ t, (f (s.bd b)).x.Like (t.bd b) → ((f (s.bd b)).sat = true → t.stuck (Stk.KET_SAT b) = true) → s.wordsBut t b m → E t) :
    s.wordDoes b i h cost (.ket :: logParts) E :=
  State.wordDoes_pure hs hat hexec hputs.samePlace ⟨by decide, .inl (List.subset_cons_self _ _)⟩ fun t hl hsat _ =>
    hE t hl hsat (hputs.wordsBut (State.data_wf hd (State.bd_lt hs b)) hl)

/-- An instruction that writes the mantissa of one element, and may mark the stage for another reason. -/
theorem State.wordDoes_putMant {sd e : Nat} {r : Int} (hs : s.inv = true) (hd : s.dataOk = true) (hat : (s.bd b).atWord w = true)
    (hexec : exec i s = .next (s.kStep b w h cost (State.kPure b f)))
    (hf : f (s.bd b) = (KOut.mk (s.bd b) false false).putMant sd e r ∨ f (s.bd b) = ((KOut.mk (s.bd b) false false).putMant sd e r).markSat sd)
    (hE : ∀ t, (t.bd b).mant sd e = satTo 24 r → ((f (s.bd b)).sat = true → t.stuck (Stk.KET_SAT b) = true) →
      s.wordsBut t b (· = ((s.bd b).stage sd).base + e) → E t) : s.wordDoes b i h cost (.ket :: logParts) E := by
  have hwf : Store.wf zeroes (s.bd b).data = true := State.data_wf hd (State.bd_lt hs b)
  let o : KOut := ⟨s.bd b, false, false⟩
  have hput : o.Puts (o.putMant sd e r) (· = ((s.bd b).stage sd).base + e) := o.putMant_puts sd e r
  have hmant : (o.putMant sd e r).x.mant sd e = satTo 24 r := KOut.putMant_mant sd e r hwf
  have hmark : (o.putMant sd e r).Puts ((o.putMant sd e r).markSat sd) (fun _ => False) := KOut.markSat_puts _ _ _
  have hputs : o.Puts (f (s.bd b)) (· = ((s.bd b).stage sd).base + e) ∧ (f (s.bd b)).x.mant sd e = satTo 24 r := by
    rcases hf with hf | hf
    · rw [hf]
      exact ⟨hput, hmant⟩
    · rw [hf]
      exact ⟨hput.trans (hmark.mono fun _ => False.elim), (hmark.mant (hput.wf hwf) not_false).trans hmant⟩
  exact State.wordDoes_puts hs hd hat hexec hputs.1 fun t hl hsat hbut => hE t ((hl.mant sd e).trans hputs.2) hsat hbut

/-- An instruction that writes one element. -/
theorem State.wordDoes_putElem {sd e : Nat} {v : Dy} (hs : s.inv = true) (hd : s.dataOk = true) (hat : (s.bd b).atWord w = true)
    (hexec : exec i s = .next (s.kStep b w h cost (State.kPure b f))) (hf : f (s.bd b) = (KOut.mk (s.bd b) false false).putElem sd e v) :
    s.wordDoes b i h cost (.ket :: logParts) (fun t => s.elemIs t b sd e v) :=
  State.wordDoes_putMant (r := (s.bd b).rounded sd v) hs hd hat hexec (.inl hf) fun _ hm _ hbut => ⟨hm, hbut⟩

end

/-! ## Element-wise instructions -/

theorem Binding.length_elems (x : Binding) (sd n : Nat) : (x.elems sd n).length = n := by simp [Binding.elems]

theorem Binding.getElem_elems {x : Binding} {sd n i : Nat} (hi : i < (x.elems sd n).length) : (x.elems sd n)[i] = x.elem sd i := by
  simp [Binding.elems]

/-- What an element-wise instruction writes. -/
structure KS.Gives (bcast : Bool) (g : Dy → Dy → Dy) (h : KHead) (f : KS) (x : Binding) (vs : List Dy) : Prop where
  length : vs.length = (x.stage f.sd.val).len
  get : ∀ i (hi : i < vs.length), vs[i] = g (x.elem f.sa.val i) (x.second h f bcast i)

theorem KS.gives_two (g : Dy → Dy → Dy) (h : KHead) (f : KS) (x : Binding) :
    KS.Gives true g h f x (List.zipWith g (x.elems f.sa.val (x.stage f.sd.val).len) (x.vecB h f (x.stage f.sd.val).len)) := by
  have hlen : (x.vecB h f (x.stage f.sd.val).len).length = (x.stage f.sd.val).len := by
    unfold Binding.vecB
    split
    · exact List.length_replicate
    · exact x.length_elems _ _
  refine ⟨by simp [hlen, Binding.length_elems], fun i hi => ?_⟩
  rw [List.getElem_zipWith, Binding.getElem_elems]
  congr 1
  unfold Binding.vecB Binding.second
  by_cases hb : f.bcb = true
  · simp [hb]
  · simp [hb, Binding.getElem_elems]

theorem KS.gives_one (g : Dy → Dy) (h : KHead) (f : KS) (x : Binding) :
    KS.Gives false (fun v _ => g v) h f x ((x.elems f.sa.val (x.stage f.sd.val).len).map g) :=
  ⟨by simp [Binding.length_elems], fun i hi => by rw [List.getElem_map, Binding.getElem_elems]⟩

theorem vecClause_of {mk : Fin 12 → KHead → KS → Instr} {op : Nat} {bcast : Bool} {g : Dy → Dy → Dy} {vs : KHead → KS → Binding → List Dy}
    (hgives : ∀ h f x, KS.Gives bcast g h f x (vs h f x))
    (hexec : ∀ b h f s, exec (mk b h f) s = .next (s.kStep b (encS op h f) h (s.vecCost b f.sd.val)
      (State.kPure b (fun x => (KOut.mk x false false).putElems f.sd.val 0 (vs h f x))))) : vecClause mk op bcast g := by
  intro b h f s hs hd hat
  obtain ⟨hlen, hget⟩ := hgives h f (s.bd b)
  obtain ⟨hputs, hmant, hsat⟩ := KOut.putElems_spec (o := ⟨s.bd b, false, false⟩) f.sd.val 0 (vs h f (s.bd b)) (State.data_wf hd (State.bd_lt hs b))
  rw [hlen] at hputs
  refine State.wordDoes_puts hs hd hat (hexec b h f s) hputs fun t hl hst hbut => ⟨fun i hi => ?_, fun hex => ?_, hbut⟩
  · have hm := hmant i (by rw [hlen]; exact hi)
    rw [hget, Nat.zero_add] at hm
    exact (hl.mant _ _).trans hm
  · obtain ⟨i, hi, hne⟩ := hex
    exact hst (hsat i (by rw [hlen]; exact hi) (by rw [hget]; exact hne))

/-- Settles O22: the results are a list of the old elements' values, written one after the other. -/
theorem vectorInstructionsActElementWise : Obligations.VectorInstructionsActElementWise :=
  ⟨vecClause_of (KS.gives_two _) fun _ _ _ _ => rfl, vecClause_of (KS.gives_two _) fun _ _ _ _ => rfl,
    vecClause_of (KS.gives_two _) fun _ _ _ _ => rfl, vecClause_of (KS.gives_two _) fun _ _ _ _ => rfl,
    vecClause_of (KS.gives_two _) fun _ _ _ _ => rfl, vecClause_of (KS.gives_one _) fun _ _ _ _ => rfl,
    vecClause_of (KS.gives_one _) fun _ _ _ _ => rfl, vecClause_of (KS.gives_two _) fun _ _ _ _ => rfl,
    vecClause_of (KS.gives_one id) fun _ _ _ _ => rfl⟩

/-! ## Functions -/

theorem satTo_of_le {r : Int} (hlo : -(2 ^ 23) ≤ r) (hhi : r ≤ 2 ^ 23 - 1) : satTo 24 r = r := by
  unfold satTo clampInt
  omega

theorem execSqrt_spec {b : Fin 12} {h : KHead} {f : KE} {s : State} (hs : s.inv = true) (hd : s.dataOk = true)
    (hat : (s.bd b).atWord (encE 0x40 h f) = true) : s.wordDoes b (.sqrt b h f) h 10 (.ket :: logParts) (fun t =>
      let v := (s.bd b).elem f.sa.val (f.ea.val + (s.bd b).jval h)
      let ed := f.ed.val + (s.bd b).jval h
      (0 ≤ v.m → s.elemIs t b f.sd.val ed (sqrtDy v.m.toNat v.e)) ∧
      (v.m < 0 → (t.bd b).mant f.sd.val ed = 0 ∧ t.stuck (Stk.KET_SAT b) = true ∧
        s.wordsBut t b (fun a => a = ((s.bd b).stage f.sd.val).base + ed))) := by
  let v := (s.bd b).elem f.sa.val (f.ea.val + (s.bd b).jval h)
  let ed := f.ed.val + (s.bd b).jval h
  let g : Binding → KOut := fun x =>
    if (x.elem f.sa.val (f.ea.val + x.jval h)).m < 0 then ((KOut.mk x false false).putMant f.sd.val (f.ed.val + x.jval h) 0).markSat f.sd.val
    else (KOut.mk x false false).putElem f.sd.val (f.ed.val + x.jval h)
      (sqrtDy (x.elem f.sa.val (f.ea.val + x.jval h)).m.toNat (x.elem f.sa.val (f.ea.val + x.jval h)).e)
  by_cases hv : v.m < 0
  · have hg : g (s.bd b) = ((KOut.mk (s.bd b) false false).putMant f.sd.val ed 0).markSat f.sd.val := if_pos hv
    exact State.wordDoes_putMant (f := g) (sd := f.sd.val) (e := ed) (r := 0) hs hd hat rfl (.inr hg) fun t hm hst hbut =>
      ⟨fun h => absurd hv (not_lt.2 h), fun _ => ⟨hm, hst (by rw [hg]; rfl), hbut⟩⟩
  · have hg : g (s.bd b) = (KOut.mk (s.bd b) false false).putElem f.sd.val ed (sqrtDy v.m.toNat v.e) := if_neg hv
    exact State.wordDoes_putMant (f := g) (sd := f.sd.val) (e := ed) (r := (s.bd b).rounded f.sd.val (sqrtDy v.m.toNat v.e)) hs hd hat rfl (.inl hg)
      fun t hm _ hbut => ⟨fun _ => ⟨hm, hbut⟩, fun h => absurd h hv⟩

theorem execRecip_spec {b : Fin 12} {h : KHead} {f : KE} {s : State} (hs : s.inv = true) (hd : s.dataOk = true)
    (hat : (s.bd b).atWord (encE 0x41 h f) = true) : s.wordDoes b (.recip b h f) h 10 (.ket :: logParts) (fun t =>
      let m := (s.bd b).mant f.sa.val (f.ea.val + (s.bd b).jval h)
      let ed := f.ed.val + (s.bd b).jval h
      s.wordsBut t b (fun a => a = ((s.bd b).stage f.sd.val).base + ed) ∧
      (m ≠ 0 → (t.bd b).mant f.sd.val ed = satTo 24 (recipMant m ((s.bd b).stage f.sa.val).exp ((s.bd b).stage f.sd.val).exp)) ∧
      (m = 0 → (t.bd b).mant f.sd.val ed = 2 ^ 23 - 1 ∧ t.stuck (Stk.KET_SAT b) = true)) := by
  let m := (s.bd b).mant f.sa.val (f.ea.val + (s.bd b).jval h)
  let ed := f.ed.val + (s.bd b).jval h
  let g : Binding → KOut := fun x =>
    if x.mant f.sa.val (f.ea.val + x.jval h) = 0 then
      ((KOut.mk x false false).putMant f.sd.val (f.ed.val + x.jval h) (2 ^ 23 - 1)).markSat f.sd.val
    else (KOut.mk x false false).putMant f.sd.val (f.ed.val + x.jval h)
      (recipMant (x.mant f.sa.val (f.ea.val + x.jval h)) (x.stage f.sa.val).exp (x.stage f.sd.val).exp)
  by_cases hm : m = 0
  · have hg : g (s.bd b) = ((KOut.mk (s.bd b) false false).putMant f.sd.val ed (2 ^ 23 - 1)).markSat f.sd.val := if_pos hm
    exact State.wordDoes_putMant (f := g) (sd := f.sd.val) (e := ed) (r := 2 ^ 23 - 1) hs hd hat rfl (.inr hg) fun t hmant hst hbut =>
      ⟨hbut, fun h => absurd hm h, fun _ => ⟨hmant.trans (satTo_of_le (by decide) (by decide)), hst (by rw [hg]; rfl)⟩⟩
  · have hg : g (s.bd b) = (KOut.mk (s.bd b) false false).putMant f.sd.val ed
        (recipMant m ((s.bd b).stage f.sa.val).exp ((s.bd b).stage f.sd.val).exp) := if_neg hm
    exact State.wordDoes_putMant (f := g) (sd := f.sd.val) (e := ed) hs hd hat rfl (.inl hg)
      fun t hmant _ hbut => ⟨hbut, fun _ => hmant, fun h => absurd h hm⟩

theorem execSincos_spec {b : Fin 12} {h : KHead} {f : KX} {s : State} (hs : s.inv = true) (hd : s.dataOk = true)
    (hat : (s.bd b).atWord (encX 0x42 h f) = true) : s.wordDoes b (.sincos b h f) h 6 (.ket :: logParts) (fun t =>
      let ed := f.ed.val + (s.bd b).jval h
      let w := (s.bd b).word f.w.val
      (t.bd b).mant f.sd.val ed = (s.bd b).mantOf f.sd.val ⟨(cosSin w.toNat).1, -256⟩ ∧
      (t.bd b).mant f.sd.val (ed + 1) = (s.bd b).mantOf f.sd.val ⟨(cosSin w.toNat).2, -256⟩ ∧
      s.wordsBut t b (fun a => a = ((s.bd b).stage f.sd.val).base + ed ∨ a = ((s.bd b).stage f.sd.val).base + ed + 1)) := by
  obtain ⟨hputs, hmant, -⟩ := KOut.putElems_spec (o := ⟨s.bd b, false, false⟩) f.sd.val (f.ed.val + (s.bd b).jval h)
    [⟨(cosSin ((s.bd b).word f.w.val).toNat).1, -256⟩, ⟨(cosSin ((s.bd b).word f.w.val).toNat).2, -256⟩] (State.data_wf hd (State.bd_lt hs b))
  refine State.wordDoes_puts hs hd hat rfl (hputs.mono fun a ha => ?_) fun t hl _ hbut =>
    ⟨(hl.mant _ _).trans (hmant 0 Nat.zero_lt_two), (hl.mant _ _).trans (hmant 1 Nat.one_lt_two), hbut⟩
  simp only [List.length_cons, List.length_nil] at ha
  omega

/-- Settles O24: each function's result, rounded once, is one element's mantissa, two elements', or one raw word. -/
theorem functionInstructionsWriteTheirResult : Obligations.FunctionInstructionsWriteTheirResult := by
  refine ⟨fun b h f s hs hd => ⟨execSqrt_spec hs hd, fun hat => ?_⟩, fun b h f s hs hd => ⟨execSincos_spec hs hd, fun hat => ?_, fun hat => ?_,
    fun hat => ?_, fun hat => ?_⟩⟩
  · exact execRecip_spec hs hd hat
  · exact State.wordDoes_setWord hs hd hat rfl rfl (.refl s) rfl rfl (by decide) fun _ _ hw hbut => ⟨hw, hbut⟩
  · exact State.wordDoes_putElem hs hd hat rfl rfl
  · exact State.wordDoes_setWord hs hd hat rfl rfl (.refl s) rfl rfl (by decide) fun _ _ hw hbut => ⟨hw, hbut⟩
  · exact State.wordDoes_putElem hs hd hat rfl rfl

end Sys2Proof.Machine
end

section
/-!
PROOFS. The accumulator instructions, and those that change the exponent of a stage (R141 to R144, R187): O23.
-/
namespace Sys2Proof.Machine

theorem State.acc_length {s : State} (hs : s.inv = true) (b : Fin 12) : (s.bd b).run.acc.length = 4 :=
  ((State.sized_of_inv hs).ket.bind b).2

/-! ## Accumulators -/

/-- `p` has of `o` the place, the data and the marks of its stages. -/
structure KOut.Sums (o p : KOut) : Prop where
  place : o.x.SamePlace p.x
  data : p.x.data = o.x.data
  sat : p.sat = o.sat
  length : p.x.run.acc.length = o.x.run.acc.length

theorem KOut.Sums.trans {o p q : KOut} (h : o.Sums p) (k : p.Sums q) : o.Sums q :=
  ⟨h.place.trans k.place, k.data.trans h.data, k.sat.trans h.sat, k.length.trans h.length⟩

theorem KOut.accAdd_sums (o : KOut) (i : Nat) (p e : Int) : o.Sums (o.accAdd i p e) := ⟨⟨rfl, rfl, rfl⟩, rfl, rfl, 
    by simp [KOut.accAdd, Binding.modRun, Tab.mod]⟩

theorem KOut.accAdd_same {o : KOut} {i : Nat} (p e : Int) (hi : i < o.x.run.acc.length) :
    (o.accAdd i p e).x.run.acc.at i = (o.x.run.acc.at i).add p e := Tab.at_mod_same _ _ _ hi

theorem KOut.accAdd_ne (o : KOut) {i k : Nat} (p e : Int) (hk : k ≠ i) : (o.accAdd i p e).x.run.acc.at k = o.x.run.acc.at k :=
  Tab.at_mod_ne _ _ hk

/-- Products that go to the accumulators in turn reach each of the four in their order (R187). -/
theorem KOut.foldl_accAdd (p : Nat → Int) (e : Int) (l : List Nat) {o : KOut} (ho : o.x.run.acc.length = 4) :
    o.Sums (l.foldl (fun o i => o.accAdd (i % 4) (p i) e) o) ∧ ∀ k, k < 4 →
      (l.foldl (fun o i => o.accAdd (i % 4) (p i) e) o).x.run.acc.at k =
        (l.filter (fun i => i % 4 = k)).foldl (fun c i => c.add (p i) e) (o.x.run.acc.at k) := by
  induction l generalizing o with
  | nil => exact ⟨⟨.refl _, rfl, rfl, rfl⟩, fun _ _ => rfl⟩
  | cons i l ih =>
    have hsum := o.accAdd_sums (i % 4) (p i) e
    obtain ⟨hs, hat⟩ := ih (o := o.accAdd (i % 4) (p i) e) (hsum.length.trans ho)
    refine ⟨hsum.trans hs, fun k hk => (hat k hk).trans ?_⟩
    by_cases hik : i % 4 = k
    · subst hik
      rw [KOut.accAdd_same _ _ (by rw [ho]; exact hk), List.filter_cons_of_pos (by simp)]
      rfl
    · rw [KOut.accAdd_ne _ _ _ (Ne.symm hik), List.filter_cons_of_neg (by simpa using hik)]

section

variable {s : State} {b : Fin 12} {i : Instr} {h : KHead} {w cost : Nat} {E : State → Prop} {f : Binding → KOut}

/-- An instruction that changes the accumulators only. -/
theorem State.wordDoes_sums (hs : s.inv = true) (hat : (s.bd b).atWord w = true)
    (hexec : exec i s = .next (s.kStep b w h cost (State.kPure b f))) (hsum : (KOut.mk (s.bd b) false false).Sums (f (s.bd b)))
    (hE : ∀ t, (t.bd b).data = (s.bd b).data → (t.bd b).run.acc = (f (s.bd b)).x.run.acc →
      ((f (s.bd b)).acc = true → t.stuck (Stk.KET_ACCSAT b) = true) → E t) : s.wordDoes b i h cost (.ket :: logParts) E :=
  State.wordDoes_pure hs hat hexec hsum.place ⟨by decide, .inl (List.subset_cons_self _ _)⟩ fun t hl _ hacc =>
    hE t (hl.data.trans hsum.data) hl.acc hacc

end

theorem execMac_spec {neg : Bool} {b : Fin 12} {h : KHead} {f : KE} {s : State} (hs : s.inv = true)
    (hat : (s.bd b).atWord (encE (if neg then 0x35 else 0x31) h f) = true) :
    s.wordDoes b (if neg then .mns b h f else .mac b h f) h 1 (.ket :: logParts) (fun t =>
      let p := (s.bd b).mant f.sa.val (f.ea.val + (s.bd b).jval h) * (s.bd b).mant f.sb.val (f.eb.val + (s.bd b).jval h)
      let c := (s.bd b).run.acc.at f.an.val
      let r := c.a + alignTo c.x (if neg then -p else p) (((s.bd b).stage f.sa.val).exp + ((s.bd b).stage f.sb.val).exp)
      (c.sat = true → (t.bd b).run.acc.at f.an.val = c) ∧
      (c.sat = false → ((t.bd b).run.acc.at f.an.val).a = satTo 56 r ∧ (satTo 56 r ≠ r → t.stuck (Stk.KET_ACCSAT b) = true)) ∧
      (t.bd b).data = (s.bd b).data ∧ ∀ k, k ≠ f.an.val → (t.bd b).run.acc.at k = (s.bd b).run.acc.at k) := by
  let p := (s.bd b).mant f.sa.val (f.ea.val + (s.bd b).jval h) * (s.bd b).mant f.sb.val (f.eb.val + (s.bd b).jval h)
  let e := ((s.bd b).stage f.sa.val).exp + ((s.bd b).stage f.sb.val).exp
  let c := (s.bd b).run.acc.at f.an.val
  let o : KOut := ⟨s.bd b, false, false⟩
  have hexec : exec (if neg then .mns b h f else .mac b h f) s =
      .next (s.kStep b (encE (if neg then 0x35 else 0x31) h f) h 1 (State.kPure b (macEff neg h f))) := by cases neg <;> rfl
  have hf : macEff neg h f (s.bd b) = o.accAdd f.an.val (if neg then -p else p) e := rfl
  have han : f.an.val < o.x.run.acc.length := by
    show f.an.val < (s.bd b).run.acc.length
    rw [State.acc_length hs]
    exact f.an.isLt
  refine State.wordDoes_sums hs hat hexec (o.accAdd_sums _ _ _) fun t hdata hacc hst => ⟨fun hc => ?_, fun hc => ⟨?_, fun hne => hst ?_⟩, hdata, fun k hk => ?_⟩
  · rw [hacc, hf, KOut.accAdd_same _ _ han]
    exact if_pos hc
  · rw [hacc, hf, KOut.accAdd_same _ _ han]
    exact congrArg KAcc.a (if_neg (by simpa using hc))
  · have hadd : (c.add (if neg then -p else p) e).sat = true := by
      have hc' : ¬ c.sat = true := by simpa using hc
      rw [KAcc.add, if_neg hc']
      exact bne_iff_ne.2 hne
    have hc' : c.sat = false := hc
    rw [hf]
    show (false || ((c.add (if neg then -p else p) e).sat && !c.sat)) = true
    rw [hadd, hc']
    rfl
  · rw [hacc, hf]
    exact KOut.accAdd_ne _ _ _ hk

/-- One step of ACCRED: accumulator `i`, as it stood in `x`, goes to A0 and is emptied (R187). -/
def KOut.gather (x : Binding) (o : KOut) (i : Nat) : KOut :=
  let c := x.run.acc.at i
  let p := o.accAdd 0 c.a c.x
  { p with x := p.x.modRun (fun r => { r with acc := r.acc.mod i (fun d => { d with a := 0, sat := false }) }) }

theorem KOut.gather_sums (x : Binding) (o : KOut) (i : Nat) : o.Sums (o.gather x i) :=
  ⟨⟨rfl, rfl, rfl⟩, rfl, rfl, by simp [KOut.gather, KOut.accAdd, Binding.modRun, Tab.mod]⟩

theorem KOut.gather_acc (x : Binding) (o : KOut) (i : Nat) : (o.gather x i).x.run.acc =
    (o.x.run.acc.mod 0 (fun _ => (o.x.run.acc.at 0).add (x.run.acc.at i).a (x.run.acc.at i).x)).mod i (fun d => { d with a := 0, sat := false }) := rfl

theorem execAccred_spec {b : Fin 12} {h : KHead} {f : KA} {s : State} (hs : s.inv = true) (hat : (s.bd b).atWord (encA 0x33 h f) = true) :
    s.wordDoes b (.accred b h f) h 2 (.ket :: logParts) (fun t =>
      let c := fun k => (s.bd b).run.acc.at k
      (t.bd b).run.acc.at 0 = (((c 0).add (c 1).a (c 1).x).add (c 2).a (c 2).x).add (c 3).a (c 3).x ∧ (t.bd b).data = (s.bd b).data ∧
      ∀ k, k = 1 ∨ k = 2 ∨ k = 3 → (t.bd b).run.acc.at k = { c k with a := 0, sat := false }) := by
  let g : Binding → KOut := fun x => (((KOut.mk x false false).gather x 1).gather x 2).gather x 3
  have hexec : exec (.accred b h f) s = .next (s.kStep b (encA 0x33 h f) h 2 (State.kPure b g)) := rfl
  have hsum : (KOut.mk (s.bd b) false false).Sums (g (s.bd b)) := ((KOut.gather_sums _ _ 1).trans (KOut.gather_sums _ _ 2)).trans (KOut.gather_sums _ _ 3)
  obtain ⟨c0, c1, c2, c3, hlist⟩ : ∃ c0 c1 c2 c3, (s.bd b).run.acc = [c0, c1, c2, c3] := by
    have hlen := State.acc_length hs b
    match hl : (s.bd b).run.acc, hlen with
    | [c0, c1, c2, c3], _ => exact ⟨c0, c1, c2, c3, rfl⟩
  have hg : (g (s.bd b)).x.run.acc = [((c0.add c1.a c1.x).add c2.a c2.x).add c3.a c3.x, { c1 with a := 0, sat := false },
      { c2 with a := 0, sat := false }, { c3 with a := 0, sat := false }] := by
    simp only [g, KOut.gather_acc, hlist]
    rfl
  refine State.wordDoes_sums hs hat hexec hsum fun t hdata hacc _ => ⟨?_, hdata, ?_⟩
  · rw [hacc, hg, hlist]
    rfl
  · rw [hacc, hg, hlist]
    rintro k (rfl | rfl | rfl) <;> rfl

/-! ## Exponents -/

/-- A change of the stage that keeps its place leaves every stage its place. -/
theorem Binding.base_modStage (x : Binding) (sd k : Nat) (e : Int) : ((x.modStage sd (fun t => { t with exp := e })).stage k).base = (x.stage k).base := by
  unfold Binding.stage Binding.bank Binding.modStage Binding.modBank Tab.at Tab.mod
  simp only [List.getD_eq_getElem?_getD, List.getElem?_modify]
  by_cases hact : x.act < x.banks.length
  · by_cases hsd : sd = k
    · subst hsd
      by_cases hk : sd < x.banks[x.act].stages.length
      · simp [hact, hk]
      · simp [hact, hk]
    · simp [hact, hsd]
  · simp [hact]

theorem Binding.exp_modStage {x : Binding} {sd : Nat} (e : Int) (hact : x.act < x.banks.length) (hsd : sd < x.bank.stages.length) :
    ((x.modStage sd (fun t => { t with exp := e })).stage sd).exp = e := by
  have hbank : (x.modStage sd (fun t => { t with exp := e })).bank = { x.bank with stages := x.bank.stages.mod sd (fun t => { t with exp := e }) } :=
    Tab.at_mod_same _ _ _ hact
  rw [Binding.stage, hbank]
  exact congrArg KStage.exp (Tab.at_mod_same _ _ _ hsd)

/-- A stage under a new exponent: its mantissas rescaled, rounded and saturated once (R144). -/
structure Binding.Rescaled (x : Binding) (sd : Nat) (e : Int) (y : Binding) : Prop where
  run : y.run = x.run
  exp : (y.stage sd).exp = e
  mant : ∀ i, i < (x.stage sd).len → y.mant sd i = satTo 24 (shiftRound (x.mant sd i) ((x.stage sd).exp - e))
  words : ∀ a, ¬ ((x.stage sd).base ≤ a ∧ a < (x.stage sd).base + (x.stage sd).len) → y.word a = x.word a

theorem rescale_spec {x : Binding} {sd : Nat} (e : Int) (hact : x.act < x.banks.length) (hsd : sd < x.bank.stages.length)
    (hwf : Store.wf zeroes x.data = true) : x.Rescaled sd e (rescale sd e x).x := by
  let o : KOut := ⟨x.modStage sd (fun t => { t with exp := e }), false, false⟩
  have hbase : (o.x.stage sd).base = (x.stage sd).base := x.base_modStage sd sd e
  have hexp : (o.x.stage sd).exp = e := Binding.exp_modStage e hact hsd
  obtain ⟨hputs, hmant, -⟩ := KOut.putElems_spec (o := o) sd 0 (x.elems sd (x.stage sd).len) hwf
  refine ⟨hputs.run, (hputs.shape sd).2.trans hexp, fun i hi => ?_, fun a ha => hputs.words hwf a ?_⟩
  · have hm := hmant i (by rw [Binding.length_elems]; exact hi)
    rw [Binding.getElem_elems, Nat.zero_add, Binding.mantOf, Binding.rounded, hexp] at hm
    refine hm.trans ?_
    have harg : (x.elem sd i).e - e + 23 = (x.stage sd).exp - e := by
      show (x.stage sd).exp - 23 - e + 23 = _
      omega
    rw [harg]
    rfl
  · rw [hbase, Binding.length_elems, Nat.add_zero]
    exact ha

section

variable {s : State} {b : Fin 12} {i : Instr} {h : KHead} {w cost sd : Nat} {e : Int} {f : Binding → KOut}

/-- An instruction that rescales stage `sd` to the exponent `e`, and may mark it. -/
theorem State.wordDoes_rescale (hs : s.inv = true) (hd : s.dataOk = true) (hact : (s.bd b).act < 2) (hsd : sd < (s.bd b).bank.stages.length)
    (hat : (s.bd b).atWord w = true) (hexec : exec i s = .next (s.kStep b w h cost (State.kPure b f)))
    (hf : f (s.bd b) = rescale sd e (s.bd b) ∨ f (s.bd b) = (rescale sd e (s.bd b)).markSat sd) :
    s.wordDoes b i h cost (.ket :: logParts) (fun t =>
      ((t.bd b).stage sd).exp = e ∧
      (∀ i, i < ((s.bd b).stage sd).len →
        (t.bd b).mant sd i = satTo 24 (shiftRound ((s.bd b).mant sd i) (((s.bd b).stage sd).exp - e))) ∧
      s.wordsBut t b (fun a => ((s.bd b).stage sd).base ≤ a ∧ a < ((s.bd b).stage sd).base + ((s.bd b).stage sd).len)) := by
  have hwf : Store.wf zeroes (s.bd b).data = true := State.data_wf hd (State.bd_lt hs b)
  have hbanks : (s.bd b).banks.length = 2 := ((State.sized_of_inv hs).ket.bind b).1
  have hres : (s.bd b).Rescaled sd e (rescale sd e (s.bd b)).x := rescale_spec e (by rw [hbanks]; exact hact) hsd hwf
  have hy : (s.bd b).Rescaled sd e (f (s.bd b)).x := by
    rcases hf with hf | hf
    · rw [hf]
      exact hres
    · rw [hf]
      have hm : (rescale sd e (s.bd b)).Puts ((rescale sd e (s.bd b)).markSat sd) (fun _ => False) := KOut.markSat_puts _ _ _
      have hbase : ∀ i, ((rescale sd e (s.bd b)).markSat sd).x.mant sd i = (rescale sd e (s.bd b)).x.mant sd i := fun i => by
        rw [Binding.mant, (hm.shape sd).1]
        rfl
      exact ⟨hm.run.trans hres.run, ((hm.shape sd).2).trans hres.exp, fun i hi => (hbase i).trans (hres.mant i hi), hres.words⟩
  obtain ⟨hrun, hexp, hmant, hwords⟩ := hy
  refine State.wordDoes_pure hs hat hexec (.of_run hrun) ⟨by decide, .inl (List.subset_cons_self _ _)⟩ fun t hl _ _ =>
    ⟨?_, fun i hi => (hl.mant _ _).trans (hmant i hi), ?_, ?_, fun a ha => (hl.word a).trans (hwords a ha)⟩
  · rw [hl.stage]
    exact hexp
  · rw [hl.acc, hrun]
  · rw [hl.flags, hrun]

end

theorem foldl_min_le (l : List Int) (g : Int → Int) (k : Int) : l.foldl (fun k m => min k (g m)) k ≤ k := by
  induction l generalizing k with
  | nil => exact Int.le_refl k
  | cons m l ih => exact (ih _).trans (min_le_left _ _)

/-- NORM shifts to the left only, and by no more than 23 places (R144). -/
theorem Binding.normBy_range (x : Binding) (sd : Nat) : 0 ≤ x.normBy sd ∧ x.normBy sd ≤ 23 := by
  unfold Binding.normBy
  dsimp only
  split
  · decide
  · refine ⟨le_max_left _ _, max_le (by decide) ((min_le_left _ _).trans (foldl_min_le _ _ _))⟩

/-- Settles O23: the accumulators as a table that each addition changes at one place; a stage rescaled to its new exponent. -/
theorem accumulatorAndExponentInstructions : Obligations.AccumulatorAndExponentInstructions := by
  refine ⟨⟨fun b h f s hs hat => ?_, fun neg b h f s hs hat => execMac_spec hs hat, fun b h f s hs hat => ?_,
    fun b h f s hs hat => execAccred_spec hs hat, fun b h f s hs hd hat => State.wordDoes_putElem hs hd hat rfl rfl⟩,
    fun b h f s hs hd hact hsd => ⟨fun hat => ?_, fun hat => ?_, fun hat => ⟨(s.bd b).normBy f.sd.val, ?_, ?_, ?_⟩⟩⟩
  case refine_1 =>
    have han : f.an.val < (s.bd b).run.acc.length := by
      rw [State.acc_length hs]
      exact f.an.isLt
    refine State.wordDoes_pure hs hat rfl ⟨rfl, rfl, rfl⟩ ⟨by decide, .inr ⟨rfl, rfl⟩⟩ fun t hl _ _ => ⟨?_, hl.data, fun k hk => ?_⟩
    · rw [hl.acc]
      exact Tab.at_mod_same _ _ _ han
    · rw [hl.acc]
      exact Tab.at_mod_ne _ _ hk
  case refine_2 =>
    obtain ⟨hsum, hfold⟩ := KOut.foldl_accAdd
      (fun i => (s.bd b).mant f.sa.val i * (s.bd b).mant f.sb.val (if f.bcb then f.eb.val + (s.bd b).jval h else i))
      (((s.bd b).stage f.sa.val).exp + ((s.bd b).stage f.sb.val).exp) (List.range ((s.bd b).stage f.sa.val).len)
      (o := ⟨s.bd b, false, false⟩) (State.acc_length hs b)
    refine State.wordDoes_sums hs hat rfl hsum fun t hdata hacc _ => ⟨hdata, fun k hk => ?_⟩
    rw [hacc]
    exact hfold k hk
  case refine_3 => exact State.wordDoes_rescale hs hd hact hsd hat rfl (.inl rfl)
  case refine_4 =>
    refine State.wordDoes_rescale hs hd hact hsd hat rfl ?_
    dsimp only
    split
    · exact .inl rfl
    · exact .inr rfl
  case refine_5 => exact ((s.bd b).normBy_range f.sd.val).1
  case refine_6 => exact ((s.bd b).normBy_range f.sd.val).2
  case refine_7 => exact State.wordDoes_rescale hs hd hact hsd hat rfl (.inl rfl)

end Sys2Proof.Machine
end

section
/-!
PROOFS. The Pantry ports of the engines (R32, R33, R148, R181, R182): O25.
-/
namespace Sys2Proof.Machine

/-! ## Loads -/

/-- Loads of the slots of a list: values, pending writes and bindings stay. -/
theorem State.foldl_kLoad (s : State) (b : Nat) (ks : List Nat) :
    let l := ks.foldl (fun u k => u.kLoad b k) s
    s.Moves [] (.pan :: logParts) l ∧ l.pan.committed = s.pan.committed ∧ l.pan.pend = s.pan.pend := by
  induction ks generalizing s with
  | nil => exact ⟨.refl s, rfl, rfl⟩
  | cons k ks ih =>
    have hload : s.Moves [] (.pan :: logParts) (s.kLoad b k) := State.Moves.kLoad (.refl s) (by decide)
    obtain ⟨hcommitted, -, hpend, -⟩ := s.staleCheck_kept k (2 * (s.bd b).run.epoch)
    obtain ⟨hmoves, hc, hp⟩ := ih (s.kLoad b k)
    exact ⟨hload.trans hmoves, hc.trans hcommitted, hp.trans hpend⟩

theorem execLdp_spec {b : Fin 12} {h : KHead} {f : KP} {s : State} (hs : s.inv = true) (hd : s.dataOk = true)
    (hat : (s.bd b).atWord (encP 0x10 h f) = true) :
    s.wordDoes b (.ldp b h f) h (18 + 2 * f.c1.val) ([.ket, .pan] ++ logParts) (fun t =>
      (∀ i, i ≤ f.c1.val → (t.bd b).mant f.sd.val (f.e0.val + i) =
        (s.bd b).mantOf f.sd.val (bfVal (s.slot (f.slot.val + (s.bd b).jval h + i)))) ∧
      t.pan.committed = s.pan.committed ∧ t.pan.pend = s.pan.pend ∧
      s.wordsBut t b (fun a => ((s.bd b).stage f.sd.val).base + f.e0.val ≤ a ∧ a ≤ ((s.bd b).stage f.sd.val).base + f.e0.val + f.c1.val)) := by
  let slots := (List.range (f.c1.val + 1)).map (fun i => f.slot.val + (s.bd b).jval h + i)
  let vs := slots.map (fun k => bfVal (s.slot k))
  have hwf : Store.wf zeroes (s.bd b).data = true := State.data_wf hd (State.bd_lt hs b)
  obtain ⟨hload, hcommitted, hpend⟩ := s.foldl_kLoad b slots
  obtain ⟨hputs, hmant, -⟩ := KOut.putElems_spec (o := ⟨s.bd b, false, false⟩) f.sd.val f.e0.val vs hwf
  have hlen : vs.length = f.c1.val + 1 := by simp [vs, slots]
  have hget : ∀ i (hi : i < vs.length), vs[i] = bfVal (s.slot (f.slot.val + (s.bd b).jval h + i)) := fun i hi => by simp [vs, slots]
  refine State.wordDoes_pureAfter hs hat rfl rfl (hload.mono (by decide)) (hload.ket_kept (by decide)) hputs.samePlace
    ⟨by decide, .inl (List.subset_append_right _ _)⟩ fun t hl hpan _ _ => ⟨fun i hi => ?_, ?_, ?_, ?_⟩
  · have hi' : i < vs.length := by rw [hlen]; omega
    rw [← hget i hi']
    exact (hl.mant _ _).trans (hmant i hi')
  · rw [hpan]
    exact hcommitted
  · rw [hpan]
    exact hpend
  · refine (hputs.mono fun a ha => ?_).wordsBut hwf hl
    rw [hlen] at ha
    dsimp only at ha
    omega

/-! ## Stores -/

/-- The state with other pending writes. -/
def State.withPend (s : State) (p : KMap (KMap PendWrite)) : State := { s with pan := { s.pan with pend := p } }

/-- What binding `b` needs of the state for its stores to be in time. -/
structure State.StoresInTime (s : State) (b : Fin 12) : Prop where
  ahead : s.gt < s.instantOf (s.bd b).dest
  next : s.nextCommit ≤ (s.bd b).dest
  near : (s.bd b).dest ≤ s.commitAfter s.nextCommit

/-- A store into a slot without a write pending goes to the pending bank of the section's destination. -/
theorem State.kStore_withPend {s : State} {b : Fin 12} (hin : s.StoresInTime b) {p : KMap (KMap PendWrite)} {slot : Nat} (v : Word)
    (hown : s.ownerOf slot = 0x10 + b.val) (hfree : ((p.find (s.bd b).dest).getD []).find slot = none) :
    (s.withPend p).kStore b slot v =
      s.withPend (p.put (s.bd b).dest (((p.find (s.bd b).dest).getD []).put slot { val := v, ord := (s.bd b).run.cyc })) := by
  have ho : ketOwner b.val ≠ 0 := by unfold ketOwner; omega
  refine (State.panWrite_inTime (s := s.withPend p) v ho hown hin.ahead hin.next hin.near).trans ?_
  refine (State.pendPut_eq (s := s.withPend p) v fun w hw => ?_).trans rfl
  exact absurd (hfree.symm.trans hw) (by simp)

/-- The first `n` stores of a row of slots. -/
theorem State.foldl_kStore {s : State} {b : Fin 12} (hin : s.StoresInTime b) (k : Nat) (v : Nat → Word) (n : Nat)
    (hfree : ∀ i, i < n → s.ownerOf (k + i) = 0x10 + b.val ∧ ((s.pan.pend.find (s.bd b).dest).getD []).find (k + i) = none) :
    ∃ p, (List.range n).foldl (fun u i => u.kStore b (k + i) (v i)) s = s.withPend p ∧
      (∀ i, i < n → ((p.find (s.bd b).dest).getD []).find (k + i) = some { val := v i, ord := (s.bd b).run.cyc }) ∧
      ∀ j, n ≤ j → ((p.find (s.bd b).dest).getD []).find (k + j) = ((s.pan.pend.find (s.bd b).dest).getD []).find (k + j) := by
  induction n with
  | zero => exact ⟨s.pan.pend, rfl, fun i hi => absurd hi (Nat.not_lt_zero i), fun _ _ => rfl⟩
  | succ n ih =>
    obtain ⟨p, heq, hsent, hrest⟩ := ih fun i hi => hfree i (Nat.lt_succ_of_lt hi)
    obtain ⟨hown, hnone⟩ := hfree n (Nat.lt_succ_self n)
    have hstore := State.kStore_withPend hin (v n) hown ((hrest n (Nat.le_refl n)).trans hnone)
    refine ⟨p.put (s.bd b).dest (((p.find (s.bd b).dest).getD []).put (k + n) { val := v n, ord := (s.bd b).run.cyc }), ?_, fun i hi => ?_,
      fun j hj => ?_⟩
    · rw [List.range_succ, List.foldl_append, heq]
      exact hstore
    · by_cases hin' : i = n
      · subst hin'
        rw [KMap.find_put_same, Option.getD_some, KMap.find_put_same]
      · rw [bank_put_find_ne _ _ (.inr (by omega))]
        exact hsent i (by omega)
    · rw [bank_put_find_ne _ _ (.inr (by omega))]
      exact hrest j (by omega)

section

variable {s : State} {b : Fin 12} {i : Instr} {h : KHead} {w cost : Nat} {eff : State → State} {E : State → Prop}

/-- An instruction whose effect is pending writes. -/
theorem State.wordDoes_withPend {p : KMap (KMap PendWrite)} (hs : s.inv = true) (hat : (s.bd b).atWord w = true)
    (hexec : exec i s = .next (s.kStep b w h cost eff)) (heff : eff s = s.withPend p)
    (hE : ∀ t, t.pan.pend = p → t.pan.committed = s.pan.committed → (t.bd b).data = (s.bd b).data → E t) : s.wordDoes b i h cost [.ket, .pan] E := by
  refine State.wordDoes_kStep hs hat hexec (by decide) (fun _ => ?_) fun _ t _ hl hpan _ => ?_
  · rw [heff]
    exact ⟨by simp [State.keeps, State.withPend], .refl _, fun _ _ => rfl, rfl⟩
  · rw [heff] at hl hpan
    exact hE t (by rw [hpan]; rfl) (by rw [hpan]; rfl) hl.data

end

/-- Settles O25: loads are stale checks before the elements are written; stores are pending writes, one after the other. -/
theorem portInstructionsMoveSlots : Obligations.PortInstructionsMoveSlots := by
  refine ⟨fun b h f s hs hd hat => execLdp_spec hs hd hat, fun b h f s hs hd hat => ?_, fun b h s hs hahead hnext hnear =>
    ⟨fun f hat hfree => ?_, fun f hat hfree => ?_⟩⟩
  case refine_1 =>
    obtain ⟨hcommitted, -, hpend, -⟩ := s.staleCheck_kept (f.slot.val + (s.bd b).jval h) (2 * (s.bd b).run.epoch)
    have hload : s.Moves [] (.pan :: logParts) (s.kLoad b (f.slot.val + (s.bd b).jval h)) := State.Moves.kLoad (.refl s) (by decide)
    refine State.wordDoes_setWord hs hd hat rfl rfl (hload.mono (by decide)) (hload.ket_kept (by decide)) rfl (by decide)
      fun t hpan hw hbut => ⟨hw, ?_, ?_, hbut⟩
    · rw [hpan]
      exact hcommitted
    · rw [hpan]
      exact hpend
  case refine_2 =>
    obtain ⟨p, heq, hsent, -⟩ := State.foldl_kStore ⟨hahead, hnext, hnear⟩ (f.slot.val + (s.bd b).jval h)
      (fun i => (toBF ((s.bd b).elem f.sd.val (f.e0.val + i))).w) (f.c1.val + 1) fun i hi => hfree i (Nat.lt_succ_iff.1 hi)
    refine State.wordDoes_withPend hs hat rfl heq fun t hpend hcommitted hdata => ⟨fun i hi => ?_, hcommitted, hdata⟩
    dsimp only
    rw [hpend]
    exact hsent i (Nat.lt_succ_iff.2 hi)
  case refine_3 =>
    obtain ⟨hown, hnone⟩ := hfree
    have hstore := State.kStore_withPend ⟨hahead, hnext, hnear⟩ (p := s.pan.pend) ((s.bd b).word f.w.val) hown hnone
    refine State.wordDoes_withPend hs hat rfl hstore fun t hpend hcommitted hdata => ⟨?_, hcommitted, hdata⟩
    dsimp only
    rw [hpend, KMap.find_put_same, Option.getD_some, KMap.find_put_same]

end Sys2Proof.Machine
end

section
/-!
PROOFS. Gate feedback: the filtered change that confirms an edge, and the fault that a missing response declares (R275 to R282): O28.
-/
namespace Sys2Proof.Machine

/-! ## Sticky bits that stay -/

/-- The sticky bits of the register `r` stay set from `s` to `t`. -/
structure State.Sticks (r : Nat) (s t : State) : Prop where
  ok : t.regsOk = true
  stays : ∀ k : Stk, k.reg = r → s.stuck k = true → t.stuck k = true

namespace State.Sticks

variable {r : Nat} {s t u : State}

theorem refl (h : s.regsOk = true) : s.Sticks r s := ⟨h, fun _ _ => id⟩

theorem trans (h : s.Sticks r t) (k : t.Sticks r u) : s.Sticks r u := ⟨k.ok, fun j hj => k.stays j hj ∘ h.stays j hj⟩

theorem of_regs (h : s.Sticks r t) (hu : u.regs = t.regs) : s.Sticks r u :=
  h.trans ⟨by rw [State.regsOk, hu]; exact h.ok, fun k _ hk => (State.stuck_of_reg (State.reg_of_regs hu _)).trans hk⟩

theorem wrote {m : Nat → Prop} (h : s.Sticks r t) (w : t.Writes m u) (hm : ¬ m r) : s.Sticks r u :=
  h.trans ⟨w.ok, fun k hk hs => (w.stuck (by rw [hk]; exact hm)).trans hs⟩

theorem bump (h : s.Sticks r t) {a : Nat} (ha : r ≠ a) : s.Sticks r (t.bump a) := h.wrote ((State.Writes.refl h.ok).bump (m := (· = a)) rfl) ha

theorem setRegN (h : s.Sticks r t) {a n : Nat} (ha : r ≠ a) : s.Sticks r (t.setRegN a n) :=
  h.wrote ((State.Writes.refl h.ok).setRegN (m := (· = a)) n rfl) ha

theorem stick (h : s.Sticks r t) {k : Stk} (hk : k.bit < 32) (hr : r ≠ Reg.LOG_DROPCNT) : s.Sticks r (t.stick k) :=
  h.trans ⟨State.stick_ok k h.ok, fun j hj hs => State.stick_mono k j h.ok hk (by rw [hj]; exact hr) hs⟩

theorem stickIf (h : s.Sticks r t) {c : Bool} {k : Stk} (hk : k.bit < 32) (hr : r ≠ Reg.LOG_DROPCNT) : s.Sticks r (t.stickIf c k) := by
  cases c with
  | true => exact h.stick hk hr
  | false => exact h

theorem logRec (h : s.Sticks r t) {typ code : Nat} {ws : List Word} {pin : Bool} (hr : r ≠ Reg.LOG_DROPCNT) :
    s.Sticks r (t.logRec typ code ws pin) :=
  h.trans ⟨State.logRec_ok _ _ _ _ h.ok, fun j hj hs => State.logRec_mono typ code ws pin j h.ok (by rw [hj]; exact hr) hs⟩

theorem ite {c : Prop} [Decidable c] (ht : s.Sticks r t) (hu : s.Sticks r u) : s.Sticks r (if c then t else u) := by
  split
  · exact ht
  · exact hu

end State.Sticks

/-! ## Channels -/

theorem State.glChs_length {s : State} (hs : s.inv = true) (n : Fin 192) : n.val < s.gl.chs.length := by
  rw [(State.sized_of_inv hs).gl.1]
  exact n.isLt

theorem State.pwmChs_length {s : State} (hs : s.inv = true) (n : Fin 192) : n.val < s.pwm.chs.length := by
  rw [(State.sized_of_inv hs).pwm.1]
  exact n.isLt

theorem State.gl_glMod_same {s : State} {n : Nat} (f : GlCh → GlCh) (h : n < s.gl.chs.length) : (s.glMod n f).gl.chs.at n = f (s.gl.chs.at n) :=
  Tab.at_mod_same _ _ _ h

theorem State.gl_length_glMod (s : State) (n : Nat) (f : GlCh → GlCh) : (s.glMod n f).gl.chs.length = s.gl.chs.length := by simp [State.glMod, Tab.mod]

/-- A channel that is off, with its declared fault: from `s` to `t` the command stays low, and the fault stays as it is. -/
structure State.Low (n : Nat) (s t : State) : Prop where
  low : (s.pwm.chs.at n).lvl = false → (t.pwm.chs.at n).lvl = false
  active : (t.gl.chs.at n).active = (s.gl.chs.at n).active
  cause : (t.gl.chs.at n).cause = (s.gl.chs.at n).cause

theorem State.Low.trans {n : Nat} {s t u : State} (h : s.Low n t) (k : t.Low n u) : s.Low n u :=
  ⟨k.low ∘ h.low, k.active.trans h.active, k.cause.trans h.cause⟩

theorem State.Low.of_eq {n : Nat} {s t : State} (hp : t.pwm = s.pwm) (hg : t.gl = s.gl) : s.Low n t := by
  constructor
  · rw [hp]
    exact id
  · rw [hg]
  · rw [hg]

theorem State.Low.glMod {n k : Nat} {s : State} {f : GlCh → GlCh} (ha : ∀ c, (f c).active = c.active) (hc : ∀ c, (f c).cause = c.cause) :
    s.Low n (s.glMod k f) := by
  have hat : (s.glMod k f).gl.chs.at n = s.gl.chs.at n ∨ (s.glMod k f).gl.chs.at n = f (s.gl.chs.at n) := by
    by_cases hn : n = k
    · subst hn
      by_cases hl : n < s.gl.chs.length
      · exact .inr (Tab.at_mod_same _ _ _ hl)
      · exact .inl (by simp [State.glMod, Tab.mod, Tab.at, hl])
    · exact .inl (Tab.at_mod_ne _ _ hn)
  rcases hat with hat | hat
  · exact ⟨id, by rw [hat], by rw [hat]⟩
  · exact ⟨id, by rw [hat, ha], by rw [hat, hc]⟩

theorem State.low_openWindow (s : State) (n k t : Nat) (r : Bool) : s.Low n (s.openWindow k t r) := by
  refine State.Low.glMod (fun _ => ?_) fun _ => ?_
  all_goals
    split
    · rfl
    · split <;> rfl

/-- A channel that is forced off is off, and its fault stays. -/
theorem State.forceOff_low {s : State} {n : Nat} (hn : n < s.pwm.chs.length) : ((s.forceOff n).pwm.chs.at n).lvl = false ∧ s.Low n (s.forceOff n) := by
  unfold State.forceOff
  split
  · have hlow : ((s.driveOff n (s.nominal (lgOf n) (32 * s.gt))).pwm.chs.at n).lvl = false := by
      show ((s.pwm.chs.mod n _).at n).lvl = false
      rw [Tab.at_mod_same _ _ _ hn]
    unfold State.driveOff
    extract_lets +onlyGivenNames s1 d
    have hwin := State.low_openWindow s1 n n d false
    exact ⟨hlow, fun _ => hlow, hwin.active, hwin.cause⟩
  · next hlvl => exact ⟨by simpa using hlvl, id, rfl, rfl⟩

theorem State.low_dropCarry (s : State) (n k : Nat) : s.Low n (s.dropCarry k) := by
  unfold State.dropCarry
  split
  · exact .of_eq rfl rfl
  · refine ⟨fun h => ?_, ?_, ?_⟩
    · rw [State.stick_pwm]
      show ((s.pwm.chs.mod k _).at n).lvl = false
      by_cases hk : n = k
      · subst hk
        by_cases hl : n < s.pwm.chs.length
        · rw [Tab.at_mod_same _ _ _ hl]
          exact h
        · simpa [Tab.mod, Tab.at, hl] using h
      · rw [Tab.at_mod_ne _ _ hk]
        exact h
    · rw [State.stick_gl]
      rfl
    · rw [State.stick_gl]
      rfl

theorem State.low_glLatch (s : State) (n k : Nat) : s.Low n (s.glLatch k) :=
  State.Low.trans (.glMod (f := fun c => { c with latched := true, waiting := false }) (fun _ => rfl) fun _ => rfl)
    (.of_eq (State.stick_pwm _ _) (State.stick_gl _ _))

/-! ## Declared faults -/

/-- A fault of a channel that is not blocked, as a missing response or a wrong level declares it (R281, R282). -/
def State.faulted (s : State) (n cause : Nat) (latch : Bool) : State :=
  let g := lgOf n
  let wait := clampNat 1 10000 (s.fld (Reg.GL_RETRY g) F.GL_RETRY_WAIT_MS)
  let s1 := s.glMod n (fun c => { c with cause := cause, active := true, lastFault := s.gt, faultSnap := min 255 (c.faultSnap + 1),
                                         waiting := !latch, waitEnd := s.gt + wait * tickMs, win := none, release := false })
  let s2 := (((s1.forceOff n).dropCarry n).stick (Stk.GL_FAULT g)).bump (Reg.GL_FLTCNT g)
  let s3 := s2.stick (Stk.GL_FB_TO g)
  let s4 := s3.logRec 0x0E (evCode (Stk.GL_FAULT g).file 0) ([w32 n, w32 cause] ++ gtWords s.gt)
  if latch then s4.glLatch n else s4.glView g

theorem State.declareFault_eq {s : State} {n cause : Nat} (hb : s.glBlocked n = false) (hc : cause ≠ 1) :
    ∃ latch, s.declareFault n cause = s.faulted n cause latch := by
  have hif (u : State) : u.stickIf (cause ≠ 1) (Stk.GL_FB_TO (lgOf n)) = u.stick (Stk.GL_FB_TO (lgOf n)) := if_pos (decide_eq_true hc)
  unfold State.declareFault
  rw [if_neg (by simp [hb])]
  extract_lets +onlyGivenNames g tries wait escal latch s1 s2 s3 s4 s5 s6
  have hs3 : s3 = s2.stick (Stk.GL_FB_TO g) := hif s2
  refine ⟨latch, (if_neg hc).trans ?_⟩
  dsimp only [s5, s4]
  rw [hs3]
  rfl

theorem State.Moves.faulted {own may : List Part} {s t : State} (h : s.Moves own may t) {n cause : Nat} {latch : Bool}
    (hm : (.cmp :: .pwm :: .gl :: logParts) ⊆ may) : s.Moves own may (t.faulted n cause latch) := by
  refine h.andThen hm ?_
  unfold State.faulted
  extract_lets +onlyGivenNames g wait s1 s2 s3 s4
  have hs1 : t.Moves own (.cmp :: .pwm :: .gl :: logParts) s1 := .glMod (.refl t) (by decide)
  have hs2 : t.Moves own (.cmp :: .pwm :: .gl :: logParts) s2 :=
    .bump (.stick (.dropCarry (.forceOff hs1 (by decide)) (by decide)) (by decide)) (by decide)
  have hs4 : t.Moves own (.cmp :: .pwm :: .gl :: logParts) s4 := .logRec (.stick hs2 (by decide)) (by decide)
  exact .ite (.glLatch hs4 (by decide)) (.glView hs4 (by decide))

/-- A fault is latched or shown: its channel and the group's sticky bits stay. -/
theorem State.showFault {s : State} (hs : s.regsOk = true) (n : Nat) (latch : Bool) :
    s.Low n (if latch then s.glLatch n else s.glView (lgOf n)) ∧
      s.Sticks (Reg.GL_STK (lgOf n)) (if latch then s.glLatch n else s.glView (lgOf n)) := by
  have hview (u : State) (hu : u.regsOk = true) : u.Sticks (Reg.GL_STK (lgOf n)) (u.glView (lgOf n)) :=
    (State.Sticks.refl hu).setRegN (by unfold Reg.GL_STK Reg.GL_STAT; omega)
  cases latch with
  | true =>
    have hst := ((State.Sticks.refl hs).of_regs (r := Reg.GL_STK (lgOf n)) (u := s.glMod n (fun c => { c with latched := true, waiting := false })) rfl).stick
      (k := Stk.GL_LATCH (lgOf n)) (by decide : 2 < 32) (ne_of_gt (Nat.lt_add_right _ (by decide)))
    exact ⟨State.low_glLatch s n n, hst.trans (hview _ hst.ok)⟩
  | false => exact ⟨.of_eq rfl rfl, hview s hs⟩

/-- What a declared fault leaves of its channel. -/
structure State.FaultOf (s t : State) (n cause : Nat) : Prop where
  moves : s.Moves [] (.cmp :: .pwm :: .gl :: logParts) t
  active : (t.gl.chs.at n).active = true
  cause : (t.gl.chs.at n).cause = cause
  low : (t.pwm.chs.at n).lvl = false
  fault : t.stuck (Stk.GL_FAULT (lgOf n)) = true
  timeout : t.stuck (Stk.GL_FB_TO (lgOf n)) = true

theorem State.declareFault_faultOf {s : State} {n : Fin 192} {cause : Nat} (hs : s.inv = true) (hb : s.glBlocked n = false) (hc : cause ≠ 1) :
    s.FaultOf (s.declareFault n cause) n cause := by
  obtain ⟨latch, heq⟩ := State.declareFault_eq hb hc
  rw [heq]
  have hmoves : s.Moves [] (.cmp :: .pwm :: .gl :: logParts) (s.faulted n cause latch) := .faulted (.refl s) (List.Subset.refl _)
  revert hmoves
  unfold State.faulted
  extract_lets +onlyGivenNames g wait s1 s2 s3 s4
  intro hmoves
  have hr : Reg.GL_STK g ≠ Reg.LOG_DROPCNT := ne_of_gt (Nat.lt_add_right _ (by decide))
  let v := (s1.forceOff n).dropCarry n
  have hs1 : s1.Low n s1 := .of_eq rfl rfl
  have hlen : n.val < s1.pwm.chs.length := State.pwmChs_length hs n
  have hc1 : (s1.gl.chs.at n).active = true ∧ (s1.gl.chs.at n).cause = cause := by
    dsimp only [s1]
    rw [State.gl_glMod_same _ (State.glChs_length hs n)]
    exact ⟨rfl, rfl⟩
  obtain ⟨hoff, hlow⟩ := State.forceOff_low (s := s1) hlen
  have hv : s1.Low n v := hlow.trans (State.low_dropCarry _ n n)
  have hvlow : (v.pwm.chs.at n).lvl = false := (State.low_dropCarry _ n n).low hoff
  have hs4 : v.Low n s4 := .of_eq
    ((State.logRec_pwm _ _ _ _ _).trans ((State.stick_pwm _ _).trans (State.stick_pwm _ _)))
    ((State.logRec_gl _ _ _ _ _).trans ((State.stick_gl _ _).trans (State.stick_gl _ _)))
  have hvok : v.regsOk = true :=
    State.regsOk_of_inv ((State.Moves.dropCarry (own := []) (.forceOff (.glMod (.refl s) (by decide)) (by decide))
      (by decide : _ ⊆ .cmp :: .pwm :: .gl :: logParts)).inv hs)
  have hfault : (v.stick (Stk.GL_FAULT g)).stuck (Stk.GL_FAULT g) = true := State.stick_stuck _ hvok (by decide : 0 < 32) hr
  have hs2 : (v.stick (Stk.GL_FAULT g)).Sticks (Reg.GL_STK g) s2 :=
    (State.Sticks.refl (State.stick_ok _ hvok)).bump (by unfold Reg.GL_STK Reg.GL_FLTCNT; omega)
  have hto : s3.stuck (Stk.GL_FB_TO g) = true := State.stick_stuck _ hs2.ok (by decide : 1 < 32) hr
  have hs3 : s2.Sticks (Reg.GL_STK g) s3 := (State.Sticks.refl hs2.ok).stick (by decide : 1 < 32) hr
  have hs4' : s3.Sticks (Reg.GL_STK g) s4 := (State.Sticks.refl hs3.ok).logRec hr
  obtain ⟨hlastLow, hlastSticks⟩ := State.showFault hs4'.ok n latch
  have hall := (hv.trans hs4).trans hlastLow
  exact ⟨hmoves, hall.active.trans hc1.1, hall.cause.trans hc1.2, (hs4.trans hlastLow).low hvlow,
    (((hs2.trans hs3).trans hs4').trans hlastSticks).stays _ rfl hfault, (hs4'.trans hlastSticks).stays _ rfl hto⟩

/-! ## Filtered changes -/

theorem GlCh.counting_of_sig {c : GlCh} (h : c.sig = 0) (t : Nat) : c.counting t = false := by simp [GlCh.counting, h]

theorem lowBits_lt (w : Nat) (x : Int) : lowBits w x % 2 ^ w = lowBits w x := by
  have h : (x % (2 ^ w : Int)) < 2 ^ w := Int.emod_lt_of_pos _ (by positivity)
  have h0 : 0 ≤ x % (2 ^ w : Int) := Int.emod_nonneg _ (by positivity)
  refine Nat.mod_eq_of_lt ?_
  unfold lowBits
  have : ((x % (2 ^ w : Int)).toNat : Int) < ((2 ^ w : Nat) : Int) := by
    rw [Int.toNat_of_nonneg h0]
    push_cast
    exact h
  exact_mod_cast this

/-- A response in its window confirms the edge and writes the switching time (R276, R277). -/
theorem State.glConfirm_window {s : State} {n t : Nat} {level : Bool} {w : RespWin} (hs : s.regsOk = true) (hn : n < s.gl.chs.length)
    (hw : (s.gl.chs.at n).win = some w) (hr : w.rising = level) (hstart : w.start ≤ t) (hstop : t < w.stop) (hsig : (s.gl.chs.at n).sig = 0) :
    let u := s.glConfirm n t level
    (u.gl.chs.at n).win = none ∧ (level = false → (u.gl.chs.at n).confOff = true ∧ (u.gl.chs.at n).confAt = t) ∧
      u.fld (Reg.GL_TSW (lgOf n) (n % 6)) (if level then F.GL_TSW_T_ON else F.GL_TSW_T_OFF) =
        lowBits 16 (satTo 16 ((t : Int) - w.start - s.fld (Reg.GL_LDLY (lgOf n) (n % 6)) (if level then F.GL_LDLY_LDLY_ON else F.GL_LDLY_LDLY_OFF))) := by
  let tsw := satTo 16 ((t : Int) - w.start - s.fld (Reg.GL_LDLY (lgOf n) (n % 6)) (if level then F.GL_LDLY_LDLY_ON else F.GL_LDLY_LDLY_OFF))
  let s1 := s.setFld (Reg.GL_TSW (lgOf n) (n % 6)) (if level then F.GL_TSW_T_ON else F.GL_TSW_T_OFF) (lowBits 16 tsw)
  let f : GlCh → GlCh := fun x => if level then { x with win := none, newOn := some tsw } else { x with win := none, newOff := some tsw, confOff := true, confAt := t }
  have hc : (w.rising = level && w.start ≤ t && t < w.stop && !(s.gl.chs.at n).counting t) = true := by
    simp [hr, hstart, hstop, GlCh.counting_of_sig hsig]
  have heq : s.glConfirm n t level = s1.glMod n f := by
    unfold State.glConfirm
    simp only [hw]
    exact if_pos hc
  have hat : (s1.glMod n f).gl.chs.at n = f (s.gl.chs.at n) := State.gl_glMod_same _ hn
  have hfld : (s1.glMod n f).fld (Reg.GL_TSW (lgOf n) (n % 6)) (if level then F.GL_TSW_T_ON else F.GL_TSW_T_OFF) = lowBits 16 tsw := by
    cases level <;> exact (State.fld_setFld _ _ _ hs (by decide)).trans (lowBits_lt 16 _)
  dsimp only
  rw [heq, hat]
  refine ⟨?_, fun h => ?_, hfld⟩
  · cases level <;> rfl
  · subst h
    exact ⟨rfl, rfl⟩

/-- A confirmation leaves the filter's state of its channel. -/
theorem State.glConfirm_kept {s : State} {n : Nat} (t : Nat) (level : Bool) (hn : n < s.gl.chs.length) :
    ((s.glConfirm n t level).gl.chs.at n).sig = (s.gl.chs.at n).sig ∧ ((s.glConfirm n t level).gl.chs.at n).raw = (s.gl.chs.at n).raw ∧
      (s.glConfirm n t level).gl.chs.length = s.gl.chs.length := by
  have hmod (u : State) (hu : u.gl = s.gl) (f : GlCh → GlCh) (hs : ∀ c, (f c).sig = c.sig) (hr : ∀ c, (f c).raw = c.raw) :
      ((u.glMod n f).gl.chs.at n).sig = (s.gl.chs.at n).sig ∧ ((u.glMod n f).gl.chs.at n).raw = (s.gl.chs.at n).raw ∧
        (u.glMod n f).gl.chs.length = s.gl.chs.length := by
    rw [State.gl_length_glMod, State.gl_glMod_same _ (by rw [hu]; exact hn), hs, hr, hu]
    exact ⟨rfl, rfl, rfl⟩
  unfold State.glConfirm
  dsimp only
  split
  · split
    · refine hmod _ rfl _ (fun c => ?_) fun c => ?_ <;> split <;> rfl
    · exact ⟨rfl, rfl, rfl⟩
  · split
    · exact ⟨rfl, rfl, rfl⟩
    · split
      · exact hmod s rfl _ (fun _ => rfl) fun _ => rfl
      · exact hmod s rfl _ (fun _ => rfl) fun _ => rfl

/-- The channel after an edge of GFB, before the filter: its level, and the count of a signature, which does not reach its end (R280). -/
structure State.EdgeSeen (n : Nat) (level : Bool) (s u : State) : Prop where
  moves : s.Moves [] [.gl] u
  length : u.gl.chs.length = s.gl.chs.length
  win : (u.gl.chs.at n).win = (s.gl.chs.at n).win
  sig : (u.gl.chs.at n).sig < 3
  raw : (u.gl.chs.at n).raw = level

theorem State.edgeSeen_glMod {s : State} {n : Nat} {level : Bool} {f : GlCh → GlCh} (hn : n < s.gl.chs.length)
    (hw : (f (s.gl.chs.at n)).win = (s.gl.chs.at n).win) (hs : (f (s.gl.chs.at n)).sig < 3) (hr : (f (s.gl.chs.at n)).raw = level) :
    s.EdgeSeen n level (s.glMod n f) := by
  refine ⟨.glMod (.refl s) (by decide), State.gl_length_glMod _ _ _, ?_, ?_, ?_⟩
  all_goals rw [State.gl_glMod_same _ hn]
  · exact hw
  · exact hs
  · exact hr

theorem State.EdgeSeen.glMod {s u : State} {n : Nat} {level : Bool} {f : GlCh → GlCh} (h : s.EdgeSeen n level u) (hn : n < s.gl.chs.length)
    (hw : ∀ c, (f c).win = c.win) (hs : (f (u.gl.chs.at n)).sig < 3) (hr : ∀ c, (f c).raw = c.raw) : s.EdgeSeen n level (u.glMod n f) := by
  have hu : n < u.gl.chs.length := by
    rw [h.length]
    exact hn
  refine ⟨h.moves.glMod (by decide), (State.gl_length_glMod _ _ _).trans h.length, ?_, ?_, ?_⟩
  all_goals rw [State.gl_glMod_same _ hu]
  · rw [hw, h.win]
  · exact hs
  · rw [hr, h.raw]

/-- A filtered change of a channel whose signature counter is empty (R275, R276, R280). -/
theorem State.gfbChange_spec {s : State} {n : Fin 192} {level : Bool} {frac : Fin 32} (hs : s.inv = true) (hp : s.powered = true)
    (hn : n.val < s.channels) (hgfb : (s.gl.chs.at n).gfb ≠ level) (hsig : (s.gl.chs.at n).sig = 0) :
    let t := 32 * s.gt + frac.val
    ∃ u, exec (.gfbTransition n level frac true) s =
        .next ((u.glConfirm n t level).glMod n (fun x => { x with gfb := level, gfbAt := t })) ∧ s.EdgeSeen n level u ∧
      ∀ w, (s.gl.chs.at n).win = some w → w.rising = level → w.start ≤ t → t < w.stop → (u.gl.chs.at n).sig = 0 := by
  intro t
  let c := s.gl.chs.at n
  let inWin := match c.win with | some w => w.rising = level && w.start ≤ t && t < w.stop | none => false
  let s1 := s.glMod n (fun x => { x with raw := level, rawAt := t })
  let s2 := if inWin then s1.glMod n (fun x => { x with exclNext := !true })
    else if c.exclNext then s1.glMod n (fun x => { x with exclNext := false })
    else s1.glMod n (fun x => x.counted t)
  let s3 := (s2.glConfirm n t level).glMod n (fun x => { x with gfb := level, gfbAt := t })
  have hlen : n.val < s.gl.chs.length := State.glChs_length hs n
  have h1 : s.EdgeSeen n level s1 := State.edgeSeen_glMod hlen rfl (by show c.sig < 3; rw [hsig]; decide) rfl
  have hsig1 : (s1.gl.chs.at n).sig = 0 := by
    dsimp only [s1]
    rw [State.gl_glMod_same _ hlen]
    exact hsig
  have h2 : s.EdgeSeen n level s2 := by
    dsimp only [s2]
    split
    · exact h1.glMod hlen (fun _ => rfl) h1.sig fun _ => rfl
    · split
      · exact h1.glMod hlen (fun _ => rfl) h1.sig fun _ => rfl
      · refine h1.glMod hlen (fun _ => rfl) ?_ fun _ => rfl
        simp [GlCh.counted, hsig1]
  have hlen2 : n.val < s2.gl.chs.length := by
    rw [h2.length]
    exact hlen
  have hsig3 : (s3.gl.chs.at n).sig < 3 := by
    obtain ⟨hk, -, hl⟩ := State.glConfirm_kept (s := s2) t level hlen2
    dsimp only [s3]
    rw [State.gl_glMod_same _ (by rw [hl]; exact hlen2)]
    exact lt_of_eq_of_lt hk h2.sig
  have hlevel : (true && level != c.gfb) = true := by
    have : level ≠ c.gfb := fun h => hgfb h.symm
    simpa using this
  have hexec : exec (.gfbTransition n level frac true) s = .next s3 := by
    show execGfbTransition n level frac true s = _
    unfold execGfbTransition
    rw [if_neg (by simp [hp, hn])]
    dsimp only
    rw [if_pos hlevel]
    refine congrArg Host.Outcome.next (if_neg fun h => ?_)
    rw [Bool.and_eq_true, decide_eq_true_eq] at h
    exact absurd h.2 (Nat.ne_of_lt hsig3)
  refine ⟨s2, hexec, h2, fun w hw hr hstart hstop => ?_⟩
  have hin : inWin = true := by
    have hcw : c.win = some w := hw
    dsimp only [inWin]
    rw [hcw]
    simp [hr, hstart, hstop]
  have h2eq : s2 = s1.glMod n (fun x => { x with exclNext := !true }) := if_pos hin
  rw [h2eq, State.gl_glMod_same _ (by rw [h1.length]; exact hlen)]
  exact hsig1

/-- Settles O28: a response in its window confirms its edge; without one, the declared fault takes the channel low. -/
theorem gateFeedbackConfirmsOrFaults : Obligations.GateFeedbackConfirmsOrFaults := by
  refine ⟨fun s n level frac hs hp hn hgfb hsig => ?_, fun s n w hs hw hdev hb => ?_, fun s n hs hp hgfb hdev hb => ?_⟩
  · obtain ⟨u, hexec, hu, hzero⟩ := State.gfbChange_spec (frac := frac) hs hp hn hgfb hsig
    have hlen : n.val < u.gl.chs.length := by
      rw [hu.length]
      exact State.glChs_length hs n
    obtain ⟨-, hraw, hl⟩ := State.glConfirm_kept (s := u) (32 * s.gt + frac.val) level hlen
    have hat : ((u.glConfirm n (32 * s.gt + frac.val) level).glMod n (fun x => { x with gfb := level, gfbAt := 32 * s.gt + frac.val })).gl.chs.at n =
        { (u.glConfirm n (32 * s.gt + frac.val) level).gl.chs.at n with gfb := level, gfbAt := 32 * s.gt + frac.val } :=
      State.gl_glMod_same _ (by rw [hl]; exact hlen)
    have hmoves := (State.Moves.glConfirm (may := [.regs, .gl]) (n := n.val) (t' := 32 * s.gt + frac.val) (level := level)
      (hu.moves.mono (by decide)) (by decide)).glMod (n := n.val) (f := fun x => { x with gfb := level, gfbAt := 32 * s.gt + frac.val }) (by decide)
    refine ⟨_, hexec, hmoves.keeps, ?_⟩
    rw [hat]
    refine ⟨rfl, rfl, hraw.trans hu.raw, fun w hw hr hstart hstop => ?_⟩
    obtain ⟨hwin, hoff, hfld⟩ := State.glConfirm_window (State.regsOk_of_inv (hu.moves.inv hs)) hlen (hu.win.trans hw) hr hstart hstop
      (hzero w hw hr hstart hstop)
    have hregs : ∀ a f, u.fld a f = s.fld a f := fun a f => State.fld_of_reg (State.reg_of_regs (hu.moves.regs_kept (by decide)) a) f
    rw [hregs] at hfld
    exact ⟨hwin, hoff, hfld⟩
  · let l := (s.gtTo ((w.stop + 31) / 32)).glMod n (fun x => { x with win := none })
    have hl : s.Moves [] [.gt, .gl] l := (State.Moves.gtTo (.refl s) (by decide)).glMod (by decide)
    have hglto : (s.gtTo ((w.stop + 31) / 32)).gl = s.gl := State.gtTo_gl _ _
    have hlat : l.gl.chs.at n = { s.gl.chs.at n with win := none } := by
      dsimp only [l]
      rw [State.gl_glMod_same _ (by rw [hglto]; exact State.glChs_length hs n), hglto]
    have hblocked : l.glBlocked n = false := by
      unfold State.glBlocked at hb ⊢
      rw [hlat]
      exact hb
    have hldev : l.dev = .run := (hl.dev_kept (by decide)).trans hdev
    have hexec : exec (.confWindowClose n) s = .next (l.declareFault n (if w.rising then 2 else 3)) := by
      show execConfWindowClose n s = _
      simp only [execConfWindowClose, hw]
      congr 1
      cases w.rising with
      | true =>
        have hrun : (l.dev == .run) = true := by rw [hldev]; rfl
        exact if_pos hrun
      | false => rfl
    have hfault : l.FaultOf (l.declareFault n (if w.rising then 2 else 3)) n (if w.rising then 2 else 3) :=
      State.declareFault_faultOf (hl.inv hs) hblocked (by split <;> decide)
    obtain ⟨hmoves, hactive, hcause, hlow, hstk, hto⟩ := hfault
    refine ⟨_, hexec, ((hl.mono (by decide)).trans (hmoves.mono (by decide))).keeps, hmoves.gt_kept (by decide), hactive, hcause, hlow, hstk, hto⟩
  · let since := max (s.gl.chs.at n).gfbAt (if s.gcmdPin n then s.driven (lgOf n) (s.pwm.chs.at n).onAt else s.driven (lgOf n) (s.pwm.chs.at n).lastOff)
    let l := s.gtTo (since / 32 + max 50 (s.fld (Reg.GL_TMO (lgOf n)) F.GL_TMO_CONF_TO) + 1)
    have hl : s.Moves [] [.gt] l := .gtTo (.refl s) (by decide)
    have hlgl : l.gl = s.gl := State.gtTo_gl _ _
    have hblocked : l.glBlocked n = false := by
      unfold State.glBlocked at hb ⊢
      rw [hlgl]
      exact hb
    have hexec : exec (.gfbLevelTimeout n) s = .next (l.declareFault n (if s.gcmdPin n then 2 else 3)) :=
      congrArg Host.Outcome.next (if_neg (by simp [hgfb, hp, hdev]))
    obtain ⟨hmoves, hactive, hcause, hlow, hstk, -⟩ := State.declareFault_faultOf (cause := if s.gcmdPin n then 2 else 3) (hl.inv hs) hblocked
      (by split <;> decide)
    exact ⟨_, hexec, ((hl.mono (by decide)).trans (hmoves.mono (by decide))).keeps, hactive, hcause, hlow, hstk⟩

end Sys2Proof.Machine
end

section
/-!
PROOFS. Arming and clearing of the leg groups, the sync pulses and the snapshot (R253, R263, R265, R268, R270): O27.
-/
namespace Sys2Proof.Machine

theorem State.lgs_length {s : State} (hs : s.inv = true) (g : Fin 32) : g.val < s.pwm.lgs.length := by
  rw [(State.sized_of_inv hs).pwm.2]
  exact g.isLt

theorem State.lg_lgMod_same {s : State} (hs : s.inv = true) (g : Fin 32) (f : LegGroup → LegGroup) : (s.lgMod g f).pwm.lgs.at g = f (s.pwm.lgs.at g) :=
  Tab.at_mod_same _ _ _ (State.lgs_length hs g)

theorem State.Moves.pwm_kept {own may : List Part} {s t : State} (h : s.Moves own may t) (hm : .pwm ∉ may) : t.pwm = s.pwm := by
  obtain ⟨-, -, -, -, -, -, -, -, -, -, hpwm, -⟩ := h.keeps
  exact hpwm.resolve_left hm

theorem State.Moves.gl_kept {own may : List Part} {s t : State} (h : s.Moves own may t) (hm : .gl ∉ may) : t.gl = s.gl := by
  obtain ⟨-, -, -, -, -, -, -, -, -, -, -, hgl, -⟩ := h.keeps
  exact hgl.resolve_left hm

/-! ## Sync pulses -/

/-- The multiple of a period next to a value leaves at most half a period. -/
theorem nearest_multiple (e : Int) {p : Nat} (hp : 0 < p) :
    2 * (e - (2 * e + p) / (2 * (p : Int)) * p) ≤ p ∧ -(p : Int) ≤ 2 * (e - (2 * e + p) / (2 * (p : Int)) * p) := by
  have hp' : (0 : Int) < 2 * (p : Int) := by omega
  have h1 := Int.emod_nonneg (2 * e + p) (ne_of_gt hp')
  have h2 := Int.emod_lt_of_pos (2 * e + p) hp'
  have h3 := Int.emod_add_mul_ediv (2 * e + p) (2 * (p : Int))
  generalize (2 * e + p) / (2 * (p : Int)) = q at *
  have hq : 2 * (p : Int) * q = 2 * (q * p) := by ring
  omega

theorem syncRegs_ne {a : Nat} (ha : a = Reg.PWM_SYNCSTAT ∨ a = Reg.PWM_SYNCMISS) (k : Stk) (hk : k.reg = Reg.PWM_SYNCSTK) : a ∉ stickRegs k := by
  have hne : a ≠ Reg.PWM_SYNCSTK ∧ a ≠ Reg.LOG_DROPCNT ∧ a ≠ Stk.LOG_QOVR.reg := by rcases ha with rfl | rfl <;> decide
  simp [stickRegs, hk, hne]

theorem execSyncInPulse_spec {s : State} {frac : Fin 32} (hs : s.inv = true) (hrole : s.fld Reg.PWM_SYNCCFG F.PWM_SYNCCFG_ROLE = 2) :
    let g := s.fld Reg.PWM_SYNCCFG F.PWM_SYNCCFG_ISRC
    let p : Int := (32 * s.perOf g * max 1 (s.fld Reg.PWM_SYNCCFG F.PWM_SYNCCFG_DIV) : Nat)
    let e0 : Int := 32 * (s.gt : Int) + frac.val - 32 * (s.phOf g : Int)
    ∃ (t : State) (k e : Int), exec (.syncInPulse frac) s = .next t ∧ s.keeps t (.pwm :: logParts) ∧ t.pwm.chs = s.pwm.chs ∧ t.pwm.lgs = s.pwm.lgs ∧
      2 * (e0 - k * p) ≤ p ∧ -p ≤ 2 * (e0 - k * p) ∧ e = e0 - k * p - (s.fld Reg.PWM_SYNCDLY F.PWM_SYNCDLY_CHAINDLY : Nat) ∧
      t.fld Reg.PWM_SYNCSTAT F.PWM_SYNCSTAT_ERR = lowBits 24 e ∧
      (e.natAbs ≤ 32 * clampNat 1 1000 (s.fld Reg.PWM_SYNCWIN F.PWM_SYNCWIN_WIN) →
        t.pwm.chain.err = e ∧ t.pwm.chain.valid = true ∧ t.pwm.chain.missed = 0 ∧ t.pwm.chain.lost = false) ∧
      (32 * clampNat 1 1000 (s.fld Reg.PWM_SYNCWIN F.PWM_SYNCWIN_WIN) < e.natAbs → t.pwm.chain = s.pwm.chain ∧ t.stuck Stk.SYNC_WIN = true) := by
  intro g p e0
  let q : Nat := 32 * s.perOf g * max 1 (s.fld Reg.PWM_SYNCCFG F.PWM_SYNCCFG_DIV)
  let tin : Int := (32 * s.gt + frac.val : Nat)
  let k : Int := (2 * (tin - 32 * (s.phOf g : Int)) + q) / (2 * (q : Int))
  let e : Int := tin - 32 * (s.phOf g : Int) - k * q - (s.fld Reg.PWM_SYNCDLY F.PWM_SYNCDLY_CHAINDLY : Nat)
  let s1 := s.setFld Reg.PWM_SYNCSTAT F.PWM_SYNCSTAT_ERR (lowBits 24 e)
  let inside : State := { s1 with pwm := { s1.pwm with chain := { s1.pwm.chain with err := e, valid := true, missed := 0, lost := false } } }
  have hexec : exec (.syncInPulse frac) s =
      .next (if e.natAbs ≤ 32 * clampNat 1 1000 (s.fld Reg.PWM_SYNCWIN F.PWM_SYNCWIN_WIN) then inside else s1.stick Stk.SYNC_WIN) :=
    congrArg Host.Outcome.next (if_neg (not_not_intro hrole))
  have he0 : e0 = tin - 32 * (s.phOf g : Int) := by
    dsimp only [e0, tin]
    push_cast
    rfl
  have hq : 0 < q := by
    have hper : 0 < s.perOf g := Nat.lt_of_lt_of_le (by decide) (le_max_left 500 _)
    have hdiv : 0 < max 1 (s.fld Reg.PWM_SYNCCFG F.PWM_SYNCCFG_DIV) := Nat.lt_of_lt_of_le Nat.one_pos (le_max_left 1 _)
    exact Nat.mul_pos (Nat.mul_pos (by decide) hper) hdiv
  obtain ⟨hhi, hlo⟩ := nearest_multiple e0 hq
  have hsok : s.regsOk = true := State.regsOk_of_inv hs
  have hs1 : s1.regsOk = true := State.setFld_ok _ _ _ hsok
  have herr : s1.fld Reg.PWM_SYNCSTAT F.PWM_SYNCSTAT_ERR = lowBits 24 e := (State.fld_setFld _ _ _ hsok (by decide)).trans (lowBits_lt 24 _)
  have hmove1 : s.Moves [] (.pwm :: logParts) s1 := .setFld (.refl s) (by decide)
  have hk : (2 * e0 + q) / (2 * (q : Int)) = k := by rw [he0]
  rw [hk] at hhi hlo
  by_cases hwin : e.natAbs ≤ 32 * clampNat 1 1000 (s.fld Reg.PWM_SYNCWIN F.PWM_SYNCWIN_WIN)
  · rw [if_pos hwin] at hexec
    refine ⟨inside, k, e, hexec, (hmove1.set_pwm (x := inside.pwm) id (by decide)).keeps, rfl, rfl, hhi, hlo, by rw [he0], herr, fun _ => ⟨rfl, rfl, rfl, rfl⟩,
      fun h => absurd hwin (not_le.2 h)⟩
  · rw [if_neg hwin] at hexec
    have hpwm : (s1.stick Stk.SYNC_WIN).pwm = s.pwm := State.stick_pwm _ _
    have hw : s1.Writes (· ∈ stickRegs Stk.SYNC_WIN) (s1.stick Stk.SYNC_WIN) := (State.Writes.refl hs1).stick _ fun _ => id
    exact ⟨_, k, e, hexec, (hmove1.stick (by decide)).keeps, by rw [hpwm], by rw [hpwm], hhi, hlo, by rw [he0],
      (hw.fld _ (syncRegs_ne (.inl rfl) Stk.SYNC_WIN rfl)).trans herr, fun h => absurd h hwin,
      fun _ => ⟨by rw [hpwm], State.stick_stuck _ hs1 (by decide) (by decide)⟩⟩

theorem execSyncLoss_spec {s : State} (hs : s.inv = true) (hrole : s.fld Reg.PWM_SYNCCFG F.PWM_SYNCCFG_ROLE = 2) (hlost : s.pwm.chain.lost = false) :
    ∃ t, exec .syncLoss s = .next t ∧ s.keeps t (.pwm :: logParts) ∧ t.pwm.chs = s.pwm.chs ∧ t.pwm.lgs = s.pwm.lgs ∧ t.pwm.chain.lost = true ∧
      t.flag Reg.PWM_SYNCSTAT F.PWM_SYNCSTAT_LOCK = false ∧ t.stuck Stk.SYNC_LOST = true ∧ t.pwm.chain.trim = s.pwm.chain.trim ∧
      t.regN Reg.PWM_SYNCMISS = min (s.regN Reg.PWM_SYNCMISS + max 1 (s.fld Reg.PWM_SYNCWIN F.PWM_SYNCWIN_LOSS_N)) (2 ^ 32 - 1) := by
  let n := max 1 (s.fld Reg.PWM_SYNCWIN F.PWM_SYNCWIN_LOSS_N)
  let s1 : State := { s with pwm := { s.pwm with chain := { s.pwm.chain with missed := n, lost := true } } }
  let s2 := s1.setFld Reg.PWM_SYNCSTAT F.PWM_SYNCSTAT_LOCK 0
  let s3 := s2.stick Stk.SYNC_LOST
  let s4 := s3.bumpBy Reg.PWM_SYNCMISS n
  let s5 := s4.logRec 0x0D (evCode Stk.SYNC_LOST.file 1) [w32 n]
  have hexec : exec .syncLoss s = .next s5 := by
    show execSyncLoss s = _
    unfold execSyncLoss
    rw [if_neg (not_not_intro hrole), if_neg (by simp [hlost])]
  have h1 : s1.regsOk = true := State.regsOk_of_inv (s := s) hs
  have h2 : s2.regsOk = true := State.setFld_ok _ _ _ h1
  have w3 : s2.Writes (· ∈ stickRegs Stk.SYNC_LOST) s3 := (State.Writes.refl h2).stick _ fun _ => id
  have w4 : s3.Writes (· = Reg.PWM_SYNCMISS) s4 := (State.Writes.refl w3.ok).bumpBy n rfl
  have w5 : s4.Writes (· ∈ logRegs) s5 := (State.Writes.refl w4.ok).logRec _ _ _ _ fun _ => id
  have hmoves : s.Moves [] (.pwm :: logParts) s5 :=
    .logRec (.bumpBy (.stick (.setFld (.set_pwm (x := s1.pwm) (.refl s) id (by decide)) (by decide)) (by decide)) (by decide)) (by decide)
  have hpwm : s5.pwm = s1.pwm := (State.logRec_pwm _ _ _ _ _).trans (State.stick_pwm _ _)
  have hmiss : s3.regN Reg.PWM_SYNCMISS = s.regN Reg.PWM_SYNCMISS :=
    (w3.regN (syncRegs_ne (.inr rfl) Stk.SYNC_LOST rfl)).trans (State.regN_setRegN_ne _ h1 (by decide))
  refine ⟨s5, hexec, hmoves.keeps, by rw [hpwm], by rw [hpwm], by rw [hpwm], ?_, ?_, by rw [hpwm], ?_⟩
  · rw [w5.flag _ (by decide), w4.flag _ (by decide), w3.flag _ (syncRegs_ne (.inl rfl) Stk.SYNC_LOST rfl)]
    exact (State.flag_setFld h1 _ _ _ (by decide)).trans (by decide)
  · rw [w5.stuck (by decide), w4.stuck (by decide)]
    exact State.stick_stuck _ h2 (by decide) (by decide)
  · rw [w5.regN (by decide)]
    refine (State.regN_setRegN _ _ w3.ok).trans ?_
    rw [hmiss]
    exact Nat.mod_eq_of_lt (lt_of_le_of_lt (min_le_right _ _) (by decide))

/-! ## The snapshot -/

theorem State.panSampleAt_committed (s : State) (t own slot g : Nat) (v : Word) : (s.panSampleAt t own slot g v).pan.committed = s.pan.committed := by
  unfold State.panSampleAt State.panWriteAt
  split
  · simp
  · split
    · simp
    · split
      · simp
      · unfold State.pendPut
        dsimp only
        split
        · split <;> rfl
        · rfl

theorem Tab.at_map {α β : Type} [Inhabited α] [Inhabited β] (l : Tab α) (f : α → β) (hf : f default = default) (n : Nat) :
    Tab.at (l.map f) n = f (l.at n) := by
  unfold Tab.at
  rw [← hf]
  exact List.getD_map _ _ f

/-- The samples that the snapshot of the leg groups writes (R270). -/
def State.lgSamples (s : State) (c : Nat) : State :=
  let put := fun (own base : Nat) (ws : List Word) (u : State) =>
    (ws.zipIdx).foldl (fun v e => v.panSampleAt (c - 2) own (base + e.2) (c - 4) e.1) u
  (List.range s.groups).foldl (fun u g =>
    let own := if g ≤ 15 then 0x04 else 0x05
    put own (lgSlot g + 8) (s.glWords g) (put own (lgSlot g) (s.lgWords g) u)) s

theorem State.lgSamples_spec (s : State) (c : Nat) :
    s.Moves [] (.pan :: logParts) (s.lgSamples c) ∧ (s.lgSamples c).pan.committed = s.pan.committed := by
  let good : State → Prop := fun u => s.Moves [] (.pan :: logParts) u ∧ u.pan.committed = s.pan.committed
  have hput (own base : Nat) (ws : List Word) (u : State) (hu : good u) :
      good ((ws.zipIdx).foldl (fun v e => v.panSampleAt (c - 2) own (base + e.2) (c - 4) e.1) u) :=
    List.foldlRecOn _ _ hu fun v hv e _ => ⟨hv.1.panSampleAt (by decide), (State.panSampleAt_committed _ _ _ _ _ _).trans hv.2⟩
  exact List.foldlRecOn _ _ (motive := good) ⟨.refl s, rfl⟩ fun v hv g _ => hput _ _ _ _ (hput _ _ _ _ hv)

theorem execPwmSnapshot_spec {s : State} (hc : s.commitsOn = true) (hdll : s.flag Reg.CLK_STAT F.CLK_STAT_DLL_LOCK = true) :
    ∃ t, exec .pwmSnapshot s = .next t ∧ s.keeps t ([.gt, .pan, .pwm, .gl] ++ logParts) ∧ t.pan.committed = s.pan.committed ∧
      t.gt = (s.gtTo (s.instantOf (s.commitFrom (max (s.gt + 4) (s.pwm.snapAt + 1))) - 4)).gt ∧
      ∀ n, (t.pwm.chs.at n).lvl = (s.pwm.chs.at n).lvl ∧ (t.pwm.chs.at n).spact = false ∧ (t.gl.chs.at n).faultSnap = 0 ∧
        (t.pwm.lgs.at n).bndSnap = 0 ∧ (t.pwm.lgs.at n).bnd = (s.pwm.lgs.at n).bnd := by
  let c := s.instantOf (s.commitFrom (max (s.gt + 4) (s.pwm.snapAt + 1)))
  let t := s.gtTo (c - 4)
  let t1 := t.lgSamples c
  let ls := t1.pwm.lgs.map (fun l => { l with rngSnap := false, cbcSnap := false, bndSnap := 0, frameSent := false, frameSkip := false, ilWait := 0 })
  let t2 : State := { t1 with pwm := { t1.pwm with snapAt := c, lgs := ls, chs := t1.pwm.chs.map (fun x => { x with spact := false }) },
                              gl := { t1.gl with chs := t1.gl.chs.map (fun x => { x with faultSnap := 0 }) } }
  have hexec : exec .pwmSnapshot s = .next t2 := congrArg Host.Outcome.next (if_neg (by simp [hc, hdll]))
  have ht : s.Moves [] [.gt] t := .gtTo (.refl s) (by decide)
  obtain ⟨h1, hcommitted⟩ := t.lgSamples_spec c
  have hpwm : t1.pwm = s.pwm := (h1.pwm_kept (by decide)).trans (State.gtTo_pwm _ _)
  have hk1 : s.keeps t1 ([.gt, .pan, .pwm, .gl] ++ logParts) := ((ht.mono (by decide)).trans (h1.mono (by decide))).keeps
  have hk2 : t1.keeps t2 ([.gt, .pan, .pwm, .gl] ++ logParts) := by simp [State.keeps, t2]
  refine ⟨t2, hexec, State.keeps_trans hk1 hk2, hcommitted.trans (by rw [State.gtTo_pan]), h1.gt_kept (by decide), fun n => ?_⟩
  have hch : t2.pwm.chs.at n = { t1.pwm.chs.at n with spact := false } := Tab.at_map t1.pwm.chs (fun x => { x with spact := false }) rfl n
  have hgch : t2.gl.chs.at n = { t1.gl.chs.at n with faultSnap := 0 } := Tab.at_map t1.gl.chs (fun x => { x with faultSnap := 0 }) rfl n
  have hlg : t2.pwm.lgs.at n =
      { t1.pwm.lgs.at n with rngSnap := false, cbcSnap := false, bndSnap := 0, frameSent := false, frameSkip := false, ilWait := 0 } :=
    Tab.at_map t1.pwm.lgs (fun l => { l with rngSnap := false, cbcSnap := false, bndSnap := 0, frameSent := false, frameSkip := false, ilWait := 0 }) rfl n
  rw [hch, hgch, hlg, hpwm]
  exact ⟨rfl, rfl, rfl, rfl, rfl⟩

/-- Settles O27: each control changes its group or the chain only, and the snapshot's samples are pending writes. -/
theorem pwmControlsAndSync : Obligations.PwmControlsAndSync := by
  refine ⟨fun s g hs => ?_, fun s g hs hl => ?_, fun s frac hs hrole => execSyncInPulse_spec hs hrole, fun s hs hrole hlost =>
    execSyncLoss_spec hs hrole hlost, fun s hc hdll => execPwmSnapshot_spec hc hdll⟩
  · have hsok : s.regsOk = true := State.regsOk_of_inv hs
    have hmove : s.Moves [] [.regs, .pwm] (s.setFld (Reg.PWM_HUPD g) F.PWM_HUPD_ARM 1) := .setFld (.refl s) (by decide)
    refine ⟨_, rfl, (hmove.lgMod (by decide)).keeps, fun a ha => ?_, ?_, ?_, rfl⟩
    · exact State.reg_setFld_ne _ _ hsok (List.ne_of_not_mem_cons ha)
    · exact (State.flag_setFld hsok _ _ _ (by decide)).trans (by decide)
    · exact congrArg LegGroup.armGt (State.lg_lgMod_same (hmove.inv hs) g _)
  · refine ⟨_, rfl, (State.Moves.tripClear (own := []) (.refl s) (by decide)).keeps, ?_, fun hbus => ?_, fun hbus => ?_⟩
    · unfold State.tripClear
      split <;> rfl
    · have hclr : s.tripClear g = s.lgMod g (fun l => { l with latched := false, resume := true }) :=
        if_pos (by simp [State.tripClearable, hl, hbus])
      rw [hclr, State.lg_lgMod_same hs]
      exact ⟨rfl, rfl⟩
    · exact if_neg (by simp [State.tripClearable, hbus])

end Sys2Proof.Machine
end

section
/-!
PROOFS. What the operations of the safety functions leave: the input pairs, the connections and the outputs through demands, SPO and checks of
the outputs (R305 to R307, R315 to R319).
-/
namespace Sys2Proof.Machine

/-- `y` is the output `x`, or that output opened. -/
structure SoutState.Kept (x y : SoutState) : Prop where
  fault : y.fault = x.fault
  tested : y.testPassed = x.testPassed
  cmd : x.cmd = false → y.cmd = false
  high : x.hClosed = false → y.hClosed = false

theorem SoutState.Kept.refl (x : SoutState) : x.Kept x := ⟨rfl, rfl, id, id⟩

theorem SoutState.Kept.trans {x y z : SoutState} (h : x.Kept y) (k : y.Kept z) : x.Kept z :=
  ⟨k.fault.trans h.fault, k.tested.trans h.tested, k.cmd ∘ h.cmd, k.high ∘ h.high⟩

/-- From `s` to `t` the safety functions' sticky bits stay set, the pairs, the connections and the configuration are as they were, and no
output has closed. -/
structure State.SafeSteps (s t : State) : Prop where
  sticks : s.Sticks Reg.SAFE_STK t
  sin : t.safe.sin = s.safe.sin
  rx : t.safe.rx = s.safe.rx
  cfg : t.safe.cfg = s.safe.cfg
  sout : ∀ j, (s.safe.sout.at j).Kept (t.safe.sout.at j)

/-- Beside that, the demands are as they were. -/
structure State.SafeQuiet (s t : State) : Prop extends s.SafeSteps t where
  demands : t.safe.demands = s.safe.demands

theorem State.SafeSteps.trans {s t u : State} (h : s.SafeSteps t) (k : t.SafeSteps u) : s.SafeSteps u :=
  ⟨h.sticks.trans k.sticks, k.sin.trans h.sin, k.rx.trans h.rx, k.cfg.trans h.cfg, fun j => (h.sout j).trans (k.sout j)⟩

theorem State.SafeSteps.refl {s : State} (h : s.regsOk = true) : s.SafeSteps s := ⟨.refl h, rfl, rfl, rfl, fun _ => .refl _⟩

theorem State.SafeSteps.ok {s t : State} (h : s.SafeSteps t) : t.regsOk = true := h.sticks.ok

namespace State.SafeQuiet

variable {s t u : State}

theorem refl (h : s.regsOk = true) : s.SafeQuiet s := ⟨.refl h, rfl⟩

theorem trans (h : s.SafeQuiet t) (k : t.SafeQuiet u) : s.SafeQuiet u := ⟨h.toSafeSteps.trans k.toSafeSteps, k.demands.trans h.demands⟩

theorem ok (h : s.SafeQuiet t) : t.regsOk = true := h.sticks.ok

/-- A step that keeps the safety part. -/
theorem of_safe (h : s.SafeQuiet t) (k : t.Sticks Reg.SAFE_STK u) (hs : u.safe = t.safe) : s.SafeQuiet u :=
  h.trans ⟨⟨k, by rw [hs], by rw [hs], by rw [hs], fun j => by rw [hs]; exact .refl _⟩, by rw [hs]⟩

theorem setRegN (h : s.SafeQuiet t) {a n : Nat} (ha : Reg.SAFE_STK ≠ a) : s.SafeQuiet (t.setRegN a n) :=
  h.of_safe ((State.Sticks.refl h.ok).setRegN ha) rfl

theorem setFld (h : s.SafeQuiet t) {a n : Nat} {f : Fld} (ha : Reg.SAFE_STK ≠ a) : s.SafeQuiet (t.setFld a f n) := h.setRegN ha

theorem setBit (h : s.SafeQuiet t) {a i : Nat} {b : Bool} (ha : Reg.SAFE_STK ≠ a) : s.SafeQuiet (t.setBit a i b) := h.setFld ha

theorem bump (h : s.SafeQuiet t) {a : Nat} (ha : Reg.SAFE_STK ≠ a) : s.SafeQuiet (t.bump a) := h.setRegN ha

theorem stick (h : s.SafeQuiet t) {k : Stk} (hk : k.bit < 32) : s.SafeQuiet (t.stick k) :=
  h.of_safe ((State.Sticks.refl h.ok).stick hk (by decide)) (State.stick_safe _ _)

theorem stickIf (h : s.SafeQuiet t) {c : Bool} {k : Stk} (hk : k.bit < 32) : s.SafeQuiet (t.stickIf c k) := by
  cases c with
  | true => exact h.stick hk
  | false => exact h

theorem logRec (h : s.SafeQuiet t) {typ code : Nat} {ws : List Word} {pin : Bool} : s.SafeQuiet (t.logRec typ code ws pin) :=
  h.of_safe ((State.Sticks.refl h.ok).logRec (by decide)) (State.logRec_safe _ _ _ _ _)

theorem ite {c : Prop} [Decidable c] (ht : s.SafeQuiet t) (hu : s.SafeQuiet u) : s.SafeQuiet (if c then t else u) := by
  split
  · exact ht
  · exact hu

theorem foldl {α : Type} {f : State → α → State} {l : List α} (hf : ∀ v x, s.SafeQuiet v → s.SafeQuiet (f v x)) (h : s.SafeQuiet t) :
    s.SafeQuiet (l.foldl f t) := List.foldlRecOn _ _ h fun v hv x _ => hf v x hv

/-- A change of the safety part beside the pairs, the connections, the configuration, the outputs and the demands. -/
theorem setSafe (h : s.SafeQuiet t) (hr : u.regs = t.regs) (hsin : u.safe.sin = t.safe.sin) (hrx : u.safe.rx = t.safe.rx)
    (hcfg : u.safe.cfg = t.safe.cfg) (hsout : u.safe.sout = t.safe.sout) (hd : u.safe.demands = t.safe.demands) : s.SafeQuiet u :=
  h.trans ⟨⟨(State.Sticks.refl h.ok).of_regs hr, hsin, hrx, hcfg, fun j => by rw [hsout]; exact .refl _⟩, hd⟩

/-- An output opens. -/
theorem soutOff (h : s.SafeQuiet t) {j : Nat} : s.SafeQuiet (t.soutOff j) := by
  unfold State.soutOff
  extract_lets +onlyGivenNames src u
  have hne : Reg.SAFE_STK ≠ Reg.SAFE_SOUT j := ne_of_lt (Nat.lt_add_right _ (by decide))
  have hopen : t.SafeQuiet u := by
    refine ⟨⟨(State.Sticks.refl h.ok).of_regs rfl, rfl, rfl, rfl, fun k => ?_⟩, rfl⟩
    show (t.safe.sout.at k).Kept ((t.safe.sout.mod j _).at k)
    by_cases hk : k = j
    · subst hk
      by_cases hl : k < t.safe.sout.length
      · rw [Tab.at_mod_same _ _ _ hl]
        exact ⟨rfl, rfl, fun _ => rfl, fun _ => rfl⟩
      · have heq : (t.safe.sout.mod k (fun o => { o with cmd := false, hClosed := false, lClosed := false })).at k = t.safe.sout.at k := by
          simp [Tab.mod, Tab.at, hl]
        rw [heq]
        exact .refl _
    · rw [Tab.at_mod_ne _ _ hk]
      exact .refl _
  exact (((h.trans hopen).setFld hne).setFld hne).setFld hne

theorem soutCheck (h : s.SafeQuiet t) : s.SafeQuiet t.soutCheck := .foldl (fun _ _ hv => .ite hv.soutOff hv) h

theorem dropCarries (h : s.SafeQuiet t) {g : Nat} : s.SafeQuiet (t.dropCarries g) := by
  have hhigh : HighRegs (fun a => 0x20000 ≤ a ∨ a ∈ logRegs) := ⟨fun _ => .inl, fun _ => .inr⟩
  refine .foldl (fun v _ hv => hv.of_safe ((State.Sticks.refl hv.ok).wrote ((State.Writes.refl hv.ok).dropCarry hhigh) (by decide)) ?_) h
  exact (State.Moves.dropCarry (own := []) (.refl v) (by decide : _ ⊆ .pwm :: logParts)).safe_kept (by decide)

theorem spoLatch (h : s.SafeQuiet t) {v cause src : Nat} : s.SafeQuiet (t.spoLatch v cause src) := by
  unfold State.spoLatch
  extract_lets +onlyGivenNames s1 s2 src s3
  have hne : Reg.SAFE_STK ≠ Reg.SAFE_CAUSE v := ne_of_lt (Nat.lt_add_right _ (by decide))
  have hs1 : s.SafeQuiet s1 := h.setFld hne
  have hs2 : s.SafeQuiet s2 := ((((hs1.setBit (by decide)).setFld hne).setFld hne).bump (by decide)).stick (by decide)
  have hs3 : s.SafeQuiet s3 := hs2.setSafe rfl rfl rfl rfl rfl rfl
  exact .ite hs1 (.foldl (fun _ _ hv => hv.dropCarries) hs3)

theorem demandView (h : s.SafeQuiet t) : s.SafeQuiet t.demandView := h.setRegN (by decide)

theorem sinView (h : s.SafeQuiet t) {i : Nat} : s.SafeQuiet (t.sinView i) := h.setRegN (ne_of_lt (Nat.lt_add_right _ (by decide)))

theorem rxView (h : s.SafeQuiet t) {r : Nat} : s.SafeQuiet (t.rxView r) :=
  (h.setRegN (ne_of_lt (Nat.lt_add_right _ (by decide)))).setRegN (ne_of_lt (Nat.lt_add_right _ (by decide)))

theorem lgMod (h : s.SafeQuiet t) {g : Nat} {f : LegGroup → LegGroup} : s.SafeQuiet (t.lgMod g f) := h.setSafe rfl rfl rfl rfl rfl rfl

theorem spoClear (h : s.SafeQuiet t) {v : Nat} : s.SafeQuiet (t.spoClear v) := by
  unfold State.spoClear
  refine .ite h ?_
  extract_lets +onlyGivenNames s1 srcSafe srcGl s2
  have hne : Reg.SAFE_STK ≠ Reg.SAFE_CAUSE v := ne_of_lt (Nat.lt_add_right _ (by decide))
  have hs1 : s.SafeQuiet s1 := ((h.setBit (by decide)).setFld hne).setFld hne
  have hs2 : s.SafeQuiet s2 := hs1.setSafe rfl rfl rfl rfl rfl rfl
  exact .foldl (fun _ _ hv => .ite hv.lgMod hv) hs2

end State.SafeQuiet

/-! ## Demands -/

/-- A change of the demands. -/
theorem State.safeSteps_demands {s : State} (h : s.regsOk = true) (ds : List Demand) : s.SafeSteps { s with safe := { s.safe with demands := ds } } :=
  ⟨(State.Sticks.refl h).of_regs rfl, rfl, rfl, rfl, fun _ => .refl _⟩

/-- A demand comes up: it stands among the demands (R305). -/
theorem State.demandOn_spec {s : State} (h : s.regsOk = true) (cause src convs : Nat) :
    s.SafeSteps (s.demandOn cause src convs) ∧ { cause := cause, src := src, convs := convs } ∈ (s.demandOn cause src convs).safe.demands := by
  unfold State.demandOn
  extract_lets +onlyGivenNames ds old s1
  have hs1 : s.SafeSteps s1 := State.safeSteps_demands h _
  have hq : s1.SafeQuiet (((bitsOf 12 convs).foldl (fun t v => t.spoLatch v cause src) s1).demandView).soutCheck :=
    (State.SafeQuiet.foldl (fun _ _ hv => hv.spoLatch) (.refl hs1.ok)).demandView.soutCheck
  refine ⟨hs1.trans hq.toSafeSteps, ?_⟩
  rw [hq.demands]
  exact List.mem_append_right _ List.mem_cons_self

theorem State.demandOff_steps {s : State} (h : s.regsOk = true) (cause src convs : Nat) : s.SafeSteps (s.demandOff cause src convs) := by
  have h1 := State.safeSteps_demands h (s.safe.demands.filter (fun d => !(d.cause = cause && d.src = src && d.convs = convs)))
  exact h1.trans (State.SafeQuiet.refl h1.ok).demandView.toSafeSteps

theorem State.demandDrop_steps {s : State} (h : s.regsOk = true) (cause src : Nat) : s.SafeSteps (s.demandDrop cause src) := by
  have h1 := State.safeSteps_demands h (s.safe.demands.filter (fun d => !(d.cause = cause && d.src = src)))
  exact h1.trans (State.SafeQuiet.refl h1.ok).demandView.toSafeSteps

theorem State.demandSet_steps {s : State} (h : s.regsOk = true) (hold : Bool) (cause src convs : Nat) :
    s.SafeSteps (s.demandSet hold cause src convs) := by
  unfold State.demandSet
  split
  · split
    · exact .refl h
    · exact (State.demandOn_spec h _ _ _).1
  · split
    · exact State.demandOff_steps h _ _ _
    · exact .refl h

/-- A demand that is held stands among the demands. -/
theorem State.demandSet_mem {s : State} (h : s.regsOk = true) (cause src : Nat) {convs : Nat} (hc : convs ≠ 0) :
    ∃ d, d ∈ (s.demandSet true cause src convs).safe.demands ∧ d.cause = cause ∧ d.src = src ∧ d.convs = convs := by
  unfold State.demandSet
  rw [if_pos (by simp [hc])]
  split
  · next hany =>
    obtain ⟨d, hd, heq⟩ := List.any_eq_true.1 hany
    simp only [Bool.and_eq_true, decide_eq_true_eq] at heq
    exact ⟨d, hd, heq.1.1, heq.1.2, heq.2⟩
  · exact ⟨_, (State.demandOn_spec h _ _ _).2, rfl, rfl, rfl⟩

end Sys2Proof.Machine
end

section
/-!
PROOFS. The safety inputs and outputs (R313 to R319): O31.
-/
namespace Sys2Proof.Machine

/-! ## Input pairs -/

/-- `y` has the channels and the faults of the pair `x`. -/
structure SinPair.Same (x y : SinPair) : Prop where
  a : y.a = x.a
  b : y.b = x.b
  fault : y.fault = x.fault
  disc : y.disc = x.disc
  rev : y.rev = x.rev

theorem SinPair.Same.refl (x : SinPair) : x.Same x := ⟨rfl, rfl, rfl, rfl, rfl⟩

theorem SinPair.Same.trans {x y z : SinPair} (h : x.Same y) (k : y.Same z) : x.Same z :=
  ⟨k.a.trans h.a, k.b.trans h.b, k.fault.trans h.fault, k.disc.trans h.disc, k.rev.trans h.rev⟩

/-- From `s` to `t` pair `i` keeps its channels and faults, and the safety functions' sticky bits stay set. -/
structure State.PairSteps (i : Nat) (s t : State) : Prop where
  sticks : s.Sticks Reg.SAFE_STK t
  cfg : t.safe.cfg = s.safe.cfg
  pair : (s.safe.sin.at i).Same (t.safe.sin.at i)

theorem State.PairSteps.trans {i : Nat} {s t u : State} (h : s.PairSteps i t) (k : t.PairSteps i u) : s.PairSteps i u :=
  ⟨h.sticks.trans k.sticks, k.cfg.trans h.cfg, h.pair.trans k.pair⟩

theorem State.SafeSteps.pair {s t : State} (h : s.SafeSteps t) (i : Nat) : s.PairSteps i t := ⟨h.sticks, h.cfg, by rw [h.sin]; exact .refl _⟩

theorem State.PairSteps.permit {i : Nat} {s t : State} (h : s.PairSteps i t) : t.pairPermit i = s.pairPermit i := by
  unfold State.pairPermit
  dsimp only
  rw [h.cfg, h.pair.a, h.pair.b, h.pair.fault, h.pair.disc, h.pair.rev]

theorem State.sin_length {s : State} (hs : s.inv = true) (i : Fin 8) : i.val < s.safe.sin.length := by
  rw [(State.sized_of_inv hs).safe.2.2.1]
  exact i.isLt

theorem State.pair_pairMod {s : State} {i : Nat} (f : SinPair → SinPair) (h : i < s.safe.sin.length) :
    (s.pairMod i f).safe.sin.at i = f (s.safe.sin.at i) := Tab.at_mod_same _ _ _ h

/-- A change of a pair beside its channels and faults. -/
theorem State.pairSteps_pairMod {s : State} {i : Nat} {f : SinPair → SinPair} (h : s.regsOk = true) (hf : ∀ p : SinPair, p.Same (f p)) :
    s.PairSteps i (s.pairMod i f) := by
  refine ⟨(State.Sticks.refl h).of_regs rfl, rfl, ?_⟩
  by_cases hl : i < s.safe.sin.length
  · rw [State.pair_pairMod _ hl]
    exact hf _
  · have heq : (s.pairMod i f).safe.sin.at i = s.safe.sin.at i := by simp [State.pairMod, State.safeMod, Tab.mod, Tab.at, hl]
    rw [heq]
    exact .refl _

/-- What follows from the state of a pair: its demand, its reset of SPO, its register (R315, R316). -/
theorem State.pairAct_steps {s : State} (h : s.regsOk = true) (i : Nat) (was : Bool) : s.PairSteps i (s.pairAct i was) := by
  have hset (hold : Bool) (c : Nat) : s.SafeSteps (s.demandSet hold 3 i c) := State.demandSet_steps h _ _ _ _
  have hview (v : State) (hv : s.PairSteps i v) : s.PairSteps i (v.sinView i) :=
    hv.trans ((State.SafeQuiet.refl hv.sticks.ok).sinView.toSafeSteps.pair i)
  have hfrom (o : Option Nat) : s.PairSteps i (s.pairMod i (fun x => { x with permitFrom := o })) :=
    State.pairSteps_pairMod h fun _ => ⟨rfl, rfl, rfl, rfl, rfl⟩
  unfold State.pairAct
  extract_lets +onlyGivenNames c now p s1
  split
  · have h1 := hset (!now) c.convs
    exact hview _ ((h1.trans (State.SafeQuiet.refl h1.ok).soutCheck.toSafeSteps).pair i)
  · split
    · split
      · exact hview _ (hfrom _)
      · split
        · split
          · split
            · have hclear := State.SafeQuiet.foldl (f := fun u v => if u.spoClearable v then u.spoClear v else u) (l := bitsOf 12 c.convs)
                (fun _ _ hv => .ite hv.spoClear hv) (.refl (hfrom none).sticks.ok)
              exact hview _ ((hfrom none).trans (hclear.toSafeSteps.pair i))
            · exact hview _ (hfrom none)
          · exact hview _ (hfrom none)
        · exact hview s ((State.SafeSteps.refl h).pair i)
    · exact hview s ((State.SafeSteps.refl h).pair i)

/-- A pair of FUNC 1 that is not in permit is a demand (R315). -/
theorem State.pairAct_demand {s : State} (h : s.regsOk = true) {i : Nat} (was : Bool) (hfunc : (s.safe.cfg.pairs.getD i {}).func = 1)
    (hp : s.pairPermit i = false) (hc : (s.safe.cfg.pairs.getD i {}).convs ≠ 0) :
    ∃ d, d ∈ (s.pairAct i was).safe.demands ∧ d.cause = 3 ∧ d.src = i ∧ d.convs = (s.safe.cfg.pairs.getD i {}).convs := by
  have heq : s.pairAct i was = ((s.demandSet true 3 i (s.safe.cfg.pairs.getD i {}).convs).soutCheck).sinView i := by
    unfold State.pairAct
    dsimp only
    rw [if_pos hfunc, hp]
    rfl
  have hok := (State.demandSet_steps h true 3 i (s.safe.cfg.pairs.getD i {}).convs).ok
  rw [heq, (State.SafeQuiet.refl hok).soutCheck.sinView.demands]
  exact State.demandSet_mem h 3 i hc

/-- The evaluation of a pair keeps its channels, and is a demand where a pair of FUNC 1 is not in permit. -/
theorem State.pairEval_spec {s : State} (h : s.regsOk = true) {i : Nat} (hi : i < s.safe.sin.length) (was : Bool) :
    let t := s.pairEval i was
    (t.safe.sin.at i).a = (s.safe.sin.at i).a ∧ (t.safe.sin.at i).b = (s.safe.sin.at i).b ∧
      ((s.safe.cfg.pairs.getD i {}).func = 1 → t.pairPermit i = false → (s.safe.cfg.pairs.getD i {}).convs ≠ 0 →
        ∃ d, d ∈ t.safe.demands ∧ d.cause = 3 ∧ d.src = i ∧ d.convs = (s.safe.cfg.pairs.getD i {}).convs) := by
  unfold State.pairEval
  extract_lets +onlyGivenNames c p pa pb bad disc late from_ latched saw clear inv revFrom rev s1 s2 t
  have h1 : s1.regsOk = true := h
  have ha : (s1.safe.sin.at i).a = (s.safe.sin.at i).a ∧ (s1.safe.sin.at i).b = (s.safe.sin.at i).b := by
    dsimp only [s1]
    rw [State.pair_pairMod _ hi]
    exact ⟨rfl, rfl⟩
  have hq : s1.SafeQuiet s2 := ((State.SafeQuiet.refl h1).stickIf (by decide)).stickIf (by decide)
  have hact : s2.PairSteps i t := State.pairAct_steps hq.ok i was
  have hcfg : s2.safe.cfg = s.safe.cfg := hq.cfg
  have hpair : (s1.safe.sin.at i).Same (t.safe.sin.at i) := (hq.toSafeSteps.pair i).pair.trans hact.pair
  refine ⟨hpair.a.trans ha.1, hpair.b.trans ha.2, fun hfunc hp hc => ?_⟩
  rw [hact.permit] at hp
  rw [← hcfg] at hfunc hc ⊢
  exact State.pairAct_demand hq.ok was hfunc hp hc

/-! ## Classes -/

theorem sinClass_closed {uv : Int} (h1 : 150000 ≤ uv) (h2 : uv ≤ 450000) : sinClass uv = .closed := by
  unfold sinClass
  rw [if_neg (by omega), if_pos (by simp [h1, h2])]

theorem sinClass_openLoop {uv : Int} (h1 : 2200000 ≤ uv) (h2 : uv ≤ 2950000) : sinClass uv = .openLoop := by
  unfold sinClass
  rw [if_neg (by omega), if_neg (by simp only [Bool.and_eq_true, decide_eq_true_eq]; omega), if_pos (by simp [h1, h2])]

theorem sinClass_shortGnd {uv : Int} (h : uv < 100000) : sinClass uv = .shortGnd := if_pos h

theorem sinClass_high {uv : Int} (h : 3050000 < uv) : sinClass uv = .high := by
  unfold sinClass
  rw [if_neg (by omega), if_neg (by simp only [Bool.and_eq_true, decide_eq_true_eq]; omega),
    if_neg (by simp only [Bool.and_eq_true, decide_eq_true_eq]; omega), if_pos h]

/-- The third equal sample gives the class; a sample of another class leaves it (R313). -/
theorem SinChan.sample_class (c : SinChan) (cl : SinClass) : (c.sample cl).lastClass = cl ∧
    (c.same = 2 → c.lastClass = cl → (c.sample cl).cls = cl ∧ (c.sample cl).known = true) ∧
    (c.lastClass ≠ cl → (c.sample cl).cls = c.cls) := by
  refine ⟨rfl, fun h2 hcl => ?_, fun hcl => ?_⟩
  · subst hcl
    simp [SinChan.sample, h2]
  · have hb : (cl == c.lastClass) = false := beq_false_of_ne (Ne.symm hcl)
    simp [SinChan.sample, hb]

/-! ## Outputs -/

theorem State.sout_length {s : State} (hs : s.inv = true) (j : Fin 4) : j.val < s.safe.sout.length := by
  rw [(State.sized_of_inv hs).safe.2.2.2.1]
  exact j.isLt

theorem State.sout_soutMod {s : State} {j : Nat} (f : SoutState → SoutState) (h : j < s.safe.sout.length) :
    (s.soutMod j f).safe.sout.at j = f (s.safe.sout.at j) := Tab.at_mod_same _ _ _ h

/-- A fault of an output opens it (R319). -/
theorem State.soutFault_spec {s : State} (h : s.regsOk = true) {j : Nat} (hj : j < s.safe.sout.length) (kind : Nat) :
    let t := s.soutFault j kind
    (t.safe.sout.at j).fault = kind ∧ (t.safe.sout.at j).cmd = false ∧ (t.safe.sout.at j).hClosed = false ∧ t.stuck Stk.SOUT_FAULT = true := by
  unfold State.soutFault
  extract_lets +onlyGivenNames s1 s2 t
  have hoff := (State.SafeQuiet.refl h).soutOff (j := j)
  have hlen : j < (s.soutOff j).safe.sout.length := by
    simp only [State.soutOff, State.setFld_safe, Tab.mod, List.length_modify]
    exact hj
  have hopen : ((s.soutOff j).safe.sout.at j).cmd = false ∧ ((s.soutOff j).safe.sout.at j).hClosed = false := by
    have hat : (s.soutOff j).safe.sout.at j = { s.safe.sout.at j with cmd := false, hClosed := false, lClosed := false } := Tab.at_mod_same _ _ _ hj
    rw [hat]
    exact ⟨rfl, rfl⟩
  have hat1 : s2.safe.sout.at j = { (s.soutOff j).safe.sout.at j with fault := kind, testPassed := false } := State.sout_soutMod _ hlen
  have hs2 : s2.regsOk = true := State.setFld_ok _ _ _ (State.setFld_ok _ _ _ hoff.ok)
  have hset : (s2.stick Stk.SOUT_FAULT).SafeSteps t := State.demandSet_steps (State.stick_ok _ hs2) _ _ _ _
  have hkept : (s2.safe.sout.at j).Kept (t.safe.sout.at j) := by
    have := hset.sout j
    rw [State.stick_safe] at this
    exact this
  rw [hat1] at hkept
  exact ⟨hkept.fault, hkept.cmd hopen.1, hkept.high hopen.2, hset.sticks.stays _ rfl (State.stick_stuck _ hs2 (by decide) (by decide))⟩

/-! ## The commands -/

section

variable {s : State} {i : Fin 8}

/-- The inputs of a pair in use are read. -/
theorem State.pairRead (hdev : s.dev ≠ .dormant) (hforce : s.safe.inForce = true) (hfunc : (s.safe.cfg.pairs.getD i {}).func ≠ 0) :
    ¬ (!s.safeOn || !s.safe.inForce || decide ((s.safe.cfg.pairs.getD i {}).func = 0)) = true := by
  simp only [State.safeOn, hforce, hfunc]
  simp [hdev]

/-- A sample of one channel (R313, R315). -/
theorem execSinSample_spec {chB : Bool} {uv : Int} (hs : s.inv = true) (hdev : s.dev ≠ .dormant) (hforce : s.safe.inForce = true)
    (hfunc : (s.safe.cfg.pairs.getD i {}).func ≠ 0) :
    let old := if chB then (s.safe.sin.at i).b else (s.safe.sin.at i).a
    ∃ t, exec (.sinSample i chB uv) s = .next t ∧ s.keeps t ([.pwm, .gl, .safe] ++ logParts) ∧
      (let new := if chB then (t.safe.sin.at i).b else (t.safe.sin.at i).a
       (if chB then (t.safe.sin.at i).a = (s.safe.sin.at i).a else (t.safe.sin.at i).b = (s.safe.sin.at i).b) ∧
       (150000 ≤ uv → uv ≤ 450000 → new.lastClass = .closed) ∧ (2200000 ≤ uv → uv ≤ 2950000 → new.lastClass = .openLoop) ∧
       (uv < 100000 → new.lastClass = .shortGnd) ∧ (3050000 < uv → new.lastClass = .high) ∧
       (old.same = 2 → old.lastClass = new.lastClass → new.cls = new.lastClass ∧ new.known = true) ∧
       (old.lastClass ≠ new.lastClass → new.cls = old.cls)) ∧
      ((s.safe.cfg.pairs.getD i {}).func = 1 → t.pairPermit i = false → (s.safe.cfg.pairs.getD i {}).convs ≠ 0 →
        ∃ d, d ∈ t.safe.demands ∧ d.cause = 3 ∧ d.src = i.val ∧ d.convs = (s.safe.cfg.pairs.getD i {}).convs) := by
  intro old
  let f : SinPair → SinPair := fun p => if chB then { p with b := p.b.sample (sinClass uv) } else { p with a := p.a.sample (sinClass uv) }
  let u := s.pairMod i f
  have hlen : i.val < s.safe.sin.length := State.sin_length hs i
  have hexec : exec (.sinSample i chB uv) s = .next (u.pairEval i (s.pairPermit i)) :=
    congrArg Host.Outcome.next (if_neg (State.pairRead hdev hforce hfunc))
  have hu : s.Moves [] [.safe] u := .pairMod (.refl s) (by decide)
  have hmoves : s.Moves [] ([.pwm, .gl, .safe] ++ logParts) (u.pairEval i (s.pairPermit i)) := .pairEval (hu.mono (by decide)) (by decide)
  have hat : u.safe.sin.at i = f (s.safe.sin.at i) := State.pair_pairMod _ hlen
  obtain ⟨ha, hb, hdem⟩ := State.pairEval_spec (s := u) (State.regsOk_of_inv (hu.inv hs)) (by simpa [u, State.pairMod, State.safeMod, Tab.mod] using hlen)
    (s.pairPermit i)
  refine ⟨_, hexec, hmoves.keeps, ?_, hdem⟩
  rw [ha, hb, hat]
  obtain ⟨hlast, hthird, hother⟩ := SinChan.sample_class old (sinClass uv)
  have hnew : (if chB then (f (s.safe.sin.at i)).b else (f (s.safe.sin.at i)).a) = old.sample (sinClass uv) := by cases chB <;> rfl
  dsimp only
  rw [hnew, hlast]
  refine ⟨?_, fun h1 h2 => sinClass_closed h1 h2, fun h1 h2 => sinClass_openLoop h1 h2, fun h => sinClass_shortGnd h, fun h => sinClass_high h,
    hthird, hother⟩
  cases chB <;> rfl

/-- A test slot of one channel (R314). -/
theorem execSinTestSlot_spec {chB : Bool} {uv : Int} (hs : s.inv = true) (hdev : s.dev ≠ .dormant) (hforce : s.safe.inForce = true)
    (hfunc : (s.safe.cfg.pairs.getD i {}).func ≠ 0) :
    ∃ t, exec (.sinTestSlot i chB uv) s = .next t ∧ s.keeps t ([.pwm, .gl, .safe] ++ logParts) ∧
      (if chB then (t.safe.sin.at i).b else (t.safe.sin.at i).a) =
        { (if chB then (s.safe.sin.at i).b else (s.safe.sin.at i).a) with test := decide (100000 ≤ uv) } := by
  let f : SinPair → SinPair := fun p =>
    if chB then { p with b := { p.b with test := decide (100000 ≤ uv) } } else { p with a := { p.a with test := decide (100000 ≤ uv) } }
  let u := s.pairMod i f
  have hlen : i.val < s.safe.sin.length := State.sin_length hs i
  have hexec : exec (.sinTestSlot i chB uv) s = .next (u.pairEval i (s.pairPermit i)) :=
    congrArg Host.Outcome.next (if_neg (State.pairRead hdev hforce hfunc))
  have hu : s.Moves [] [.safe] u := .pairMod (.refl s) (by decide)
  have hmoves : s.Moves [] ([.pwm, .gl, .safe] ++ logParts) (u.pairEval i (s.pairPermit i)) := .pairEval (hu.mono (by decide)) (by decide)
  have hat : u.safe.sin.at i = f (s.safe.sin.at i) := State.pair_pairMod _ hlen
  obtain ⟨ha, hb, -⟩ := State.pairEval_spec (s := u) (State.regsOk_of_inv (hu.inv hs)) (by simpa [u, State.pairMod, State.safeMod, Tab.mod] using hlen)
    (s.pairPermit i)
  refine ⟨_, hexec, hmoves.keeps, ?_⟩
  rw [ha, hb, hat]
  cases chB <;> rfl

/-- The end of the time in which the channels may disagree (R315). -/
theorem execSinDiscrepancyTimeout_spec (hs : s.inv = true) (hdev : s.dev ≠ .dormant) (hforce : s.safe.inForce = true)
    (hfunc : (s.safe.cfg.pairs.getD i {}).func ≠ 0) {t0 : Nat} (ht0 : (s.safe.sin.at i).discFrom = some t0) :
    ∃ t, exec (.sinDiscrepancyTimeout i) s = .next t ∧ s.keeps t ([.gt, .pwm, .gl, .safe] ++ logParts) ∧ (t.safe.sin.at i).disc = true ∧
      t.stuck Stk.SIN_DISC = true ∧ t.pairPermit i = false ∧ t.gt = (s.gtTo (t0 + (s.safe.cfg.pairs.getD i {}).disc * 500000)).gt := by
  let g := s.gtTo (t0 + (s.safe.cfg.pairs.getD i {}).disc * 500000)
  let u := g.pairMod i (fun x => { x with disc := true, sawDemand := false, discFrom := none })
  let v := u.stick Stk.SIN_DISC
  have hexec : exec (.sinDiscrepancyTimeout i) s = .next (v.pairAct i (s.pairPermit i)) := by
    refine congrArg Host.Outcome.next ((if_neg (State.pairRead hdev hforce hfunc)).trans ?_)
    simp only [ht0]
    rfl
  have hu : s.Moves [] [.gt, .safe] u := (State.Moves.gtTo (.refl s) (by decide)).pairMod (by decide)
  have hv : s.Moves [] ([.gt, .pwm, .gl, .safe] ++ logParts) v := (hu.mono (by decide)).stick (by decide)
  have hmoves : s.Moves [] ([.gt, .pwm, .gl, .safe] ++ logParts) (v.pairAct i (s.pairPermit i)) := hv.pairAct (by decide)
  have huok : u.regsOk = true := State.regsOk_of_inv (hu.inv hs)
  have hact : v.PairSteps i (v.pairAct i (s.pairPermit i)) := State.pairAct_steps (State.stick_ok _ huok) _ _
  have hdisc : (v.safe.sin.at i).disc = true := by
    rw [State.stick_safe]
    have hg : i.val < g.safe.sin.length := by
      rw [State.gtTo_safe]
      exact State.sin_length hs i
    exact congrArg SinPair.disc (State.pair_pairMod (s := g) _ hg)
  refine ⟨_, hexec, hmoves.keeps, hact.pair.disc.trans hdisc, hact.sticks.stays _ rfl (State.stick_stuck _ huok (by decide) (by decide)), ?_, ?_⟩
  · rw [hact.permit]
    simp [State.pairPermit, hdisc]
  · have hgt := (State.Moves.pairAct (own := []) (.refl v) (was := s.pairPermit i) (i := i) (by decide : _ ⊆ .pwm :: .gl :: .safe :: logParts)).gt_kept (by decide)
    exact hgt.trans (State.stick_gt _ _)

end

/-- Settles O31: the pairs' channels go through their evaluation unchanged, and an output only opens by a check. -/
theorem safetyInputsAndOutputs : Obligations.SafetyInputsAndOutputs := by
  refine ⟨fun s i chB uv hs hdev hforce hfunc => ⟨execSinSample_spec hs hdev hforce hfunc, execSinTestSlot_spec hs hdev hforce hfunc, fun t0 ht0 =>
    execSinDiscrepancyTimeout_spec hs hdev hforce hfunc ht0⟩, fun s j hs => ⟨fun hcmd hallow => ?_, fun hcmd hhigh => ?_,
    fun kind hdev hforce hj => ?_, fun hdev hcmd => ?_⟩⟩
  · let u := s.soutMod j (fun o => { o with cmd := true, lClosed := true, lAt := s.gt })
    have hexec : exec (.soutSwitchOn j) s =
        .next ((u.setFld (Reg.SAFE_SOUT j) F.SAFE_SOUT_CMD 1).setFld (Reg.SAFE_SOUT j) F.SAFE_SOUT_L_RB 1) :=
      congrArg Host.Outcome.next (if_neg (by simp [hcmd, hallow]))
    have hu : s.Moves [] [.regs, .safe] u := .soutMod (.refl s) (by decide)
    have huok : u.regsOk = true := State.regsOk_of_inv (hu.inv hs)
    have hat : u.safe.sout.at j = { s.safe.sout.at j with cmd := true, lClosed := true, lAt := s.gt } := State.sout_soutMod _ (State.sout_length hs j)
    refine ⟨_, hexec, ((hu.setFld (by decide)).setFld (by decide)).keeps, fun a ha => ?_, ?_⟩
    · have hne := List.ne_of_not_mem_cons ha
      rw [State.reg_setFld_ne _ _ (State.setFld_ok _ _ _ huok) hne, State.reg_setFld_ne _ _ huok hne]
      rfl
    · simp only [State.setFld_safe, hat, and_self]
  · let g := s.gtTo ((s.safe.sout.at j).lAt + 25000)
    let u := g.soutMod j (fun x => { x with hClosed := true })
    have hexec : exec (.soutHClose j) s = .next (u.setFld (Reg.SAFE_SOUT j) F.SAFE_SOUT_H_RB 1) :=
      congrArg Host.Outcome.next (if_neg (by simp [hcmd, hhigh]))
    have hu : s.Moves [] [.gt, .regs, .safe] u := (State.Moves.gtTo (.refl s) (by decide)).soutMod (by decide)
    have huok : u.regsOk = true := State.regsOk_of_inv (hu.inv hs)
    have hg : j.val < g.safe.sout.length := by
      rw [State.gtTo_safe]
      exact State.sout_length hs j
    have hat : u.safe.sout.at j = { s.safe.sout.at j with hClosed := true } := (State.sout_soutMod (s := g) _ hg).trans (by rw [State.gtTo_safe])
    refine ⟨_, hexec, (hu.setFld (by decide)).keeps, fun a ha => ?_, ?_, ?_, rfl⟩
    · rw [State.reg_setFld_ne _ _ huok (List.ne_of_not_mem_cons ha)]
      exact State.reg_of_regs (State.gtTo_regs _ _) a
    · simp only [State.setFld_safe, hat]
    · simp only [State.setFld_safe, hat]
      exact hcmd
  · have hc : ¬ (!s.safeOn || !s.safe.inForce || decide (s.safe.cfg.outs.length ≤ j.val)) = true := by simp [State.safeOn, hdev, hforce, hj]
    by_cases hk : kind.val = 0
    · by_cases hclear : ((s.safe.sout.at j).fault ≠ 0 && !(s.safe.sout.at j).cmd) = true
      · have hexec : exec (.soutTest j kind) s = .next (s.soutMod j (fun o => { o with testPassed := true })) :=
          congrArg Host.Outcome.next ((if_neg hc).trans ((if_neg (not_not_intro hk)).trans (if_pos hclear)))
        have hu : s.Moves [] ([.pwm, .safe] ++ logParts) (s.soutMod j (fun o => { o with testPassed := true })) := .soutMod (.refl s) (by decide)
        exact ⟨_, hexec, hu.keeps, fun h => absurd hk h,
          fun _ _ _ => ⟨congrArg SoutState.testPassed (State.sout_soutMod _ (State.sout_length hs j)), rfl⟩⟩
      · have hexec : exec (.soutTest j kind) s = .next s :=
          congrArg Host.Outcome.next ((if_neg hc).trans ((if_neg (not_not_intro hk)).trans (if_neg hclear)))
        exact ⟨s, hexec, State.keeps_refl _ _, fun h => absurd hk h, fun _ hf hcmd => absurd (by simp [hf, hcmd]) hclear⟩
    · have hexec : exec (.soutTest j kind) s = .next (s.soutFault j kind) := congrArg Host.Outcome.next ((if_neg hc).trans (if_pos hk))
      exact ⟨_, hexec, (State.Moves.soutFault (own := []) (.refl s) (by decide)).keeps,
        fun _ => State.soutFault_spec (State.regsOk_of_inv hs) (State.sout_length hs j) _, fun h => absurd h hk⟩
  · let kind := 1 + s.freeNow.toNat % 6
    have hexec : exec (.soutCurrentLimit j) s = .next (s.freeStep.soutFault j kind) :=
      congrArg Host.Outcome.next (if_neg (by simp [State.safeOn, hdev, hcmd]))
    have hfree : s.Moves [] ([.pwm, .safe, .freeN] ++ logParts) s.freeStep := .set_freeN (.refl s) (by decide)
    obtain ⟨hf, hcmd', -, hstk⟩ := State.soutFault_spec (s := s.freeStep) (State.regsOk_of_inv (hfree.inv hs)) (State.sout_length hs j) kind
    refine ⟨_, hexec, (hfree.soutFault (by decide)).keeps, ?_, ?_, hcmd', hstk⟩
    · rw [hf]
      exact Nat.le_add_right 1 _
    · rw [hf]
      have := Nat.mod_lt s.freeNow.toNat (by decide : 0 < 6)
      dsimp only [kind]
      omega

end Sys2Proof.Machine
end

section
/-!
PROOFS. Safety telegrams received, missed and sent (R320 to R323): O32.
-/
namespace Sys2Proof.Machine

/-! ## Connections -/

theorem State.rx_length {s : State} (hs : s.inv = true) (r : Fin 8) : r.val < s.safe.rx.length := by
  rw [(State.sized_of_inv hs).safe.2.2.2.2.1]
  exact r.isLt

theorem State.rx_rxMod {s : State} {r : Nat} (f : RxState → RxState) (h : r < s.safe.rx.length) : (s.rxMod r f).safe.rx.at r = f (s.safe.rx.at r) :=
  Tab.at_mod_same _ _ _ h

/-- The demands of a connection leave the connections (R322). -/
theorem State.rxDemand_steps {s : State} (h : s.regsOk = true) (r : Nat) : s.SafeSteps (s.rxDemand r) := by
  unfold State.rxDemand
  extract_lets +onlyGivenNames x m s1 want s2
  have hs1 : s.SafeSteps s1 := State.demandSet_steps h _ _ _ _
  have hs2 : s.SafeSteps s2 := by
    dsimp only [s2]
    split
    · exact hs1
    · have hdrop : s.SafeSteps (s1.demandDrop 4 r) := hs1.trans (State.demandDrop_steps hs1.ok 4 r)
      exact hdrop.trans (State.demandSet_steps hdrop.ok _ _ _ _)
  exact hs2.trans (State.SafeQuiet.refl hs2.ok).soutCheck.rxView.toSafeSteps

/-- A failed connection waits again (R321). -/
theorem State.rxFail_spec {s : State} (h : s.regsOk = true) {r : Nat} (hr : r < s.safe.rx.length) {k : Stk} (hk : k.reg = Reg.SAFE_STK)
    (hb : k.bit < 32) : ((s.rxFail r k).safe.rx.at r).st = 1 ∧ ((s.rxFail r k).safe.rx.at r).base = false ∧ (s.rxFail r k).stuck k = true := by
  unfold State.rxFail
  extract_lets +onlyGivenNames s1 s2
  have hne : Reg.SAFE_STK ≠ Reg.LOG_DROPCNT := by decide
  have hset : (s.stick k).stuck k = true := State.stick_stuck _ h hb (by rw [hk]; exact hne)
  have hlog : (s.stick k).Sticks Reg.SAFE_STK s1 := (State.Sticks.refl (State.stick_ok _ h)).logRec hne
  have hs2 : (s.stick k).Sticks Reg.SAFE_STK s2 := hlog.of_regs rfl
  have hsafe : s1.safe = s.safe := (State.logRec_safe _ _ _ _ _).trans (State.stick_safe _ _)
  have hat : s2.safe.rx.at r = { s1.safe.rx.at r with st := 1, base := false, permits := 0 } := State.rx_rxMod _ (by rw [hsafe]; exact hr)
  have hdem := State.rxDemand_steps hs2.ok r
  rw [hdem.rx, hat]
  exact ⟨rfl, rfl, (hs2.trans hdem.sticks).stays _ hk hset⟩

/-- An error while a connection waits is counted (R321). -/
theorem State.rxError_spec {s : State} (h : s.regsOk = true) {r : Nat} (hr : r < s.safe.rx.length) (hst : (s.safe.rx.at r).st = 1) :
    let t := s.rxError r
    t.regN (Reg.SAFE_RXERR r) = min (s.regN (Reg.SAFE_RXERR r) + 1) (2 ^ 32 - 1) ∧ (t.safe.rx.at r).st = 1 ∧
      (t.safe.rx.at r).lastSeq = (s.safe.rx.at r).lastSeq ∧ t.pan = s.pan := by
  unfold State.rxError
  extract_lets +onlyGivenNames s1 x t
  have hat : s1.safe.rx.at r = { s.safe.rx.at r with errs := (s.safe.rx.at r).errs.filter (fun t => s.gt < t + tickSec) ++ [s.gt] } :=
    State.rx_rxMod _ hr
  have hx : x.st = 1 := by
    dsimp only [x]
    rw [hat]
    exact hst
  have ht : t = s1.rxView r := if_neg (by simp [hx])
  have hs1 : s1.regsOk = true := State.bump_ok _ h
  have hview : s1.Writes (fun a => a = Reg.SAFE_RX r ∨ a = Reg.SAFE_RXSEQ r) t := by
    rw [ht]
    exact ((State.Writes.refl hs1).setRegN _ (.inl rfl)).setRegN _ (.inr rfl)
  have hsafe : t.safe = s1.safe := by rw [ht]; rfl
  refine ⟨?_, ?_, ?_, ?_⟩
  · rw [hview.regN (by unfold Reg.SAFE_RXERR Reg.SAFE_RX Reg.SAFE_RXSEQ; omega)]
    exact State.regN_bump h _
  · rw [hsafe, hat]
    exact hst
  · rw [hsafe, hat]
  · rw [ht]
    rfl

/-- A telegram that passes every check while the connection waits (R321). -/
theorem State.rxAccept_spec {s : State} (hs : s.inv = true) {r : Nat} (hr : r < s.safe.rx.length) (hst : (s.safe.rx.at r).st = 1) (seq : Nat)
    (pay : List Word) :
    let t := s.rxAccept r seq pay
    (t.safe.rx.at r).lastSeq = seq ∧ (t.safe.rx.at r).lastAt = s.gt ∧ (t.safe.rx.at r).payload = pay ∧
      (t.safe.rx.at r).st = (if (s.safe.rx.at r).base = true ∧ seq = seqNext (s.safe.rx.at r).lastSeq then 2 else 1) := by
  unfold State.rxAccept
  extract_lets +onlyGivenNames x st s1 s2 t
  have hstEq : st = if (s.safe.rx.at r).base = true ∧ seq = seqNext (s.safe.rx.at r).lastSeq then 2 else 1 := by
    refine (if_pos hst).trans ?_
    simp [x]
  have hat : s1.safe.rx.at r = { s.safe.rx.at r with st := st, base := true, lastSeq := seq, lastAt := s.gt, payload := pay, permits := if st = 2 then (pay.getD 0 0#32).toNat % 2 ^ 16 else 0 } :=
    State.rx_rxMod _ hr
  have hs1 : s.Moves [] [.safe] s1 := .rxMod (.refl s) (by decide)
  have hs2 : s1.Moves [] (.pan :: logParts) s2 := .ite (.panSamples (.refl s1) (by decide)) (.refl s1)
  have hsafe : s2.safe = s1.safe := hs2.safe_kept (by decide)
  have hdem : s2.SafeSteps t := State.rxDemand_steps (State.regsOk_of_inv (hs2.inv (hs1.inv hs))) r
  rw [hdem.rx, hsafe, hat]
  exact ⟨rfl, rfl, rfl, hstEq⟩

/-! ## Telegrams -/

theorem length_beBytes (n v : Nat) : (beBytes n v).length = n := by simp [beBytes]

theorem length_flatMap_beBytes (ws : List Word) : (ws.flatMap (fun w => beBytes 4 w.toNat)).length = 4 * ws.length := by
  induction ws with
  | nil => rfl
  | cons w ws ih =>
    rw [List.flatMap_cons, List.length_append, ih, length_beBytes, List.length_cons]
    omega

/-- The checks of a telegram for a connection that waits (R321). -/
theorem State.telegramRx_waiting {s : State} {r : Nat} {bs : List Byte} (hforce : s.safe.inForce = true) (hon : (s.rxCfg r).on = true)
    (hdev : s.dev ≠ .dormant) (hst : (s.safe.rx.at r).st = 1) (hlen : bs.length = 28 + (s.rxCfg r).plen) (h0 : beAt bs 0 1 = 1) (h1 : beAt bs 1 1 = 1)
    (h2 : beAt bs 2 2 = (s.rxCfg r).plen) :
    s.telegramRx r bs =
      if beAt bs (24 + (s.rxCfg r).plen) 4 ≠ (crc32c (bs.take (24 + (s.rxCfg r).plen))).toNat then s.rxError r
      else if beAt bs 4 4 ≠ (s.rxCfg r).id.toNat then s.rxError r
      else if (s.safe.rx.at r).lastSeq ≠ 0 && beAt bs 8 4 = (s.safe.rx.at r).lastSeq then s.bump (Reg.SAFE_RXREP r)
      else if !s.rxAgeOk (s.rxCfg r) (beAt bs 20 1) (beAt bs 12 8) then s.rxError r
      else s.rxAccept r (beAt bs 8 4) (wordsBe bs 24 ((s.rxCfg r).plen / 4)) := by
  unfold State.telegramRx
  extract_lets +onlyGivenNames c u x seq
  have hu : u = s := if_neg (by simp [hst])
  rw [if_neg (by simp [hforce, c, hon, State.safeOn, hdev])]
  clear_value u
  subst hu
  have hx : ¬ (decide (x.st = 2) && !(decide (1 ≤ seqStep x.lastSeq seq) && decide (seqStep x.lastSeq seq ≤ c.seqWin))) = true := by simp [x, hst]
  have hhead : ¬ (decide (bs.length ≠ 28 + c.plen) || decide (beAt bs 0 1 ≠ 1) || decide (beAt bs 1 1 ≠ 1) || decide (beAt bs 2 2 ≠ c.plen)) = true := by
    simp [c, hlen, h0, h1, h2]
  rw [if_neg hhead, if_neg hx]

/-- Settles O32: a connection's state through its checks, its loss and its demands; a telegram is its body and the CRC of it. -/
theorem safetyTelegrams : Obligations.SafetyTelegrams := by
  refine ⟨fun s r bs hs hforce hon hdev hst hlen h0 h1 h2 => ?_, fun s r hs hforce hon hdev hst => ?_, fun s c hs hforce hon hpow => ?_⟩
  · have heq := State.telegramRx_waiting hforce hon hdev hst hlen h0 h1 h2
    have hr := State.rx_length hs r
    refine ⟨_, rfl, (State.Moves.telegramRx (own := []) (.refl s) (by decide)).keeps, fun hcrc => ?_, fun hcrc hid hseq hage => ?_⟩
    · rw [heq, if_pos hcrc]
      exact State.rxError_spec (State.regsOk_of_inv hs) hr hst
    · have hnew : ¬ (decide ((s.safe.rx.at r).lastSeq ≠ 0) && decide (beAt bs 8 4 = (s.safe.rx.at r).lastSeq)) = true := by
        rcases hseq with h | h <;> simp [h]
      rw [heq, if_neg (not_not_intro hcrc), if_neg (not_not_intro hid), if_neg hnew, if_neg (by simp [hage])]
      exact State.rxAccept_spec hs hr hst _ _
  · let g := s.gtTo ((s.safe.rx.at r).lastAt + (s.rxCfg r).wdog * 500000)
    have hexec : exec (.safecomWdogExpire r) s = .next (g.rxFail r Stk.SAFECOM_WDOG) :=
      congrArg Host.Outcome.next (if_neg (by simp [hforce, hon, hst, State.safeOn, hdev]))
    have hg : s.Moves [] [.gt] g := .gtTo (.refl s) (by decide)
    have hfail : g.Moves [] (.pwm :: .safe :: logParts) (g.rxFail r Stk.SAFECOM_WDOG) := .rxFail (.refl g) (by decide)
    obtain ⟨hst1, hbase, hstk⟩ := State.rxFail_spec (s := g) (State.regsOk_of_inv (hg.inv hs)) (by rw [State.gtTo_safe]; exact State.rx_length hs r)
      (k := Stk.SAFECOM_WDOG) rfl (by decide)
    exact ⟨_, hexec, ((hg.mono (by decide)).trans (hfail.mono (by decide))).keeps, hst1, hbase, hstk, hfail.gt_kept (by decide)⟩
  · let cfg := s.safe.cfg.tx.getD c {}
    let u := s.gtTo (s.safe.txAt.at c + cfg.txPer * 500000)
    let seq := seqNext (u.safe.txSeq.at c)
    let pay := (u.safeWord :: cfg.slots.map (fun n => u.slot n)).take (cfg.plen / 4)
    let full := pay ++ List.replicate (cfg.plen / 4 - pay.length) 0#32
    let body := [0x01#8, 0x01#8] ++ beBytes 2 cfg.plen ++ beBytes 4 cfg.id.toNat ++ beBytes 4 seq ++ beBytes 8 u.gt ++
      beBytes 1 (bit (u.qual = 2 || u.qual = 3)) ++ beBytes 3 0 ++ full.flatMap (fun w => beBytes 4 w.toNat)
    let tele := body ++ beBytes 4 (crc32c body).toNat
    let v := u.safeMod (fun x => { x with txSeq := x.txSeq.mod c (fun _ => seq), txAt := x.txAt.mod c (fun _ => u.gt),
                                          txLast := x.txLast.mod c (fun _ => tele) })
    let t := (v.setRegN (Reg.SAFE_TXSEQ c) seq).send 4 tele
    have hexec : exec (.safetyTelegramTx c) s = .next t :=
      congrArg Host.Outcome.next (if_neg (by simp only [hforce, hon, hpow]; decide))
    have hsafe : u.safe = s.safe := State.gtTo_safe _ _
    have hu : s.Moves [] [.gt, .regs, .safe, .out] u := .gtTo (.refl s) (by decide)
    have hv : u.keeps v [.gt, .regs, .safe, .out] := by simp [State.keeps, v, State.safeMod]
    have ht : v.keeps t [.gt, .regs, .safe, .out] := by simp [State.keeps, t, State.send]
    have huok : u.regsOk = true := State.regsOk_of_inv (hu.inv hs)
    have hfull : full.length = cfg.plen / 4 := by
      have hpay : pay.length ≤ cfg.plen / 4 := by simp [pay]
      simp only [full, List.length_append, List.length_replicate]
      omega
    have hbody : body.length = 24 + 4 * (cfg.plen / 4) := by
      simp only [body, List.length_append, length_beBytes, length_flatMap_beBytes, hfull, List.length_cons, List.length_nil]
    have hz := (State.sized_of_inv hs).safe
    refine ⟨t, body, hexec, State.keeps_trans hu.keeps (State.keeps_trans hv ht), fun a ha => ?_, ?_, hbody, ?_, rfl, ?_⟩
    · exact (State.reg_setRegN_ne (s := v) _ huok (List.ne_of_not_mem_cons ha)).trans (State.reg_of_regs (State.gtTo_regs _ _) a)
    · show u.out.frames ++ _ = _
      rw [State.gtTo_out]
    · show (u.safe.txSeq.mod c (fun _ => seq)).at c = _
      rw [Tab.at_mod_same _ _ _ (by rw [hsafe, hz.2.2.2.2.2.1]; exact c.isLt)]
      dsimp only [seq]
      rw [hsafe]
    · exact Tab.at_mod_same _ _ _ (by rw [hsafe, hz.2.2.2.2.2.2.1]; exact c.isLt)

end Sys2Proof.Machine
end

section
/-!
PROOFS. The supervisor pair: its state word, its failure, and the steps of self-test, frame, mismatch, re-run, held writes and scrubber
(R331 to R346): O33.
-/
namespace Sys2Proof.Machine

theorem State.Moves.sup_kept {own may : List Part} {s t : State} (h : s.Moves own may t) (hm : .sup ∉ may) : t.sup = s.sup := by
  obtain ⟨-, -, -, -, -, -, -, -, -, -, -, -, -, -, -, -, -, -, -, -, hsup, -⟩ := h.keeps
  exact hsup.resolve_left hm

/-! ## The state word -/

section

variable {s t : State}

theorem State.supState_of_reg (h : t.reg Reg.SUP_STAT = s.reg Reg.SUP_STAT) : t.supState = s.supState := State.fld_of_reg h _

theorem State.Writes.supState {m : Nat → Prop} (h : s.Writes m t) (hm : ¬ m Reg.SUP_STAT) : t.supState = s.supState := State.supState_of_reg (h.reg hm)

theorem State.supState_setSup (h : s.regsOk = true) {n : Nat} (hn : n < 8) : (s.setSup n).supState = n :=
  (State.fld_setFld _ _ _ h (by decide)).trans (Nat.mod_eq_of_lt hn)

/-- Another field of the state word leaves the state. -/
theorem State.supState_setFld (h : s.regsOk = true) {f : Fld} (n : Nat) (hf : f.lo + f.w ≤ 32) (h3 : 3 ≤ f.lo) :
    (s.setFld Reg.SUP_STAT f n).supState = s.supState := State.fld_setFld_other _ _ _ _ h hf (.inl h3)

theorem State.supState_lt (s : State) : s.supState < 8 := Nat.mod_lt _ (by decide)

end

/-- The registers of the mailbox and of the log. -/
def mailLogRegs (a : Nat) : Prop := mailRegs a ∨ a ∈ logRegs

theorem mailLogRegs_sup {a : Nat} (h : 0xA000 ≤ a) (hl : a ∉ logRegs) : ¬ mailLogRegs a := by
  rintro (h' | h')
  · exact not_mailRegs h h'
  · exact hl h'

theorem State.Writes.closeSession {s t : State} (h : s.Writes mailLogRegs t) {code : Nat} : s.Writes mailLogRegs (t.closeSession code) := by
  have hmail {a : Nat} (ha : a < 0xA000) : mailLogRegs a := .inl ha
  unfold State.closeSession
  refine .ite ?_ h
  extract_lets +onlyGivenNames u
  have hu : s.Writes mailLogRegs u := h.logRec _ _ _ _ fun _ => .inr
  refine .setFld (.setReg (.setReg ?_ _ (hmail (by decide))) _ (hmail (by decide))) _ _ (hmail (by decide))
  exact hu.of_regs rfl

theorem State.Writes.finishMail {s t : State} (h : s.Writes mailLogRegs t) {tag status : Nat} {result : Word} {dlen cidx : Nat} {v0 v1 : Word} :
    s.Writes mailLogRegs (t.finish tag status result dlen cidx v0 v1) := h.finish fun _ => .inl

theorem State.Writes.supMod {m : Nat → Prop} {s t : State} (h : s.Writes m t) {f : SupState → SupState} : s.Writes m (t.supMod f) := h.of_regs rfl

theorem State.Sticks.supMod {r : Nat} {s t : State} (h : s.Sticks r t) {f : SupState → SupState} : s.Sticks r (t.supMod f) := h.of_regs rfl

theorem State.Writes.supActed {m : Nat → Prop} {s t : State} (h : s.Writes m t) : s.Writes m t.supActed := h.of_regs rfl

/-! ## Failure -/

/-- What a failure of the pair leaves (R341). -/
structure State.SupFailed (s t : State) (cls : Nat) : Prop where
  state : t.supState = 4
  cls : t.fld Reg.SUP_STAT F.SUP_STAT_CLASS = cls
  failed : t.stuck Stk.SUP_FAILED = true
  held : t.sup.held = []
  sticks : s.Sticks Reg.SUP_STK t

theorem State.supFail_failed {s : State} (h : s.regsOk = true) {cls : Nat} (hc : cls < 8) : s.SupFailed (s.supFail cls) cls := by
  unfold State.supFail
  extract_lets +onlyGivenNames s1 s2
  have hne : Reg.SUP_STK ≠ Reg.LOG_DROPCNT := by decide
  have hcl : s.Writes mailLogRegs (s.closeSession 2) := (State.Writes.refl h).closeSession
  have hset : ((s.closeSession 2).setSup 4).regsOk = true := State.setFld_ok _ _ _ hcl.ok
  have hs1 : s1.regsOk = true := State.setFld_ok _ _ _ hset
  have hstate1 : s1.supState = 4 := (State.supState_setFld hset _ (by decide) (by decide)).trans (State.supState_setSup hcl.ok (by decide))
  have hcls1 : s1.fld Reg.SUP_STAT F.SUP_STAT_CLASS = cls := (State.fld_setFld _ _ _ hset (by decide)).trans (Nat.mod_eq_of_lt hc)
  let p := s1.setFld Reg.SUP_STAT F.SUP_STAT_PHASE 0
  have hp : p.regsOk = true := State.setFld_ok _ _ _ hs1
  have hstate2 : p.supState = 4 := (State.supState_setFld hs1 _ (by decide) (by decide)).trans hstate1
  have hcls2 : p.fld Reg.SUP_STAT F.SUP_STAT_CLASS = cls := (State.fld_setFld_other _ _ _ _ hs1 (by decide) (by decide)).trans hcls1
  have hw2 : p.Writes mailLogRegs s2 :=
    (((State.Writes.refl hp).setFld _ _ (.inl (by unfold mailRegs; decide))).setFld _ _ (.inl (by unfold mailRegs; decide))).supMod
  have hw3 : s2.Writes (· ∈ stickRegs Stk.SUP_FAILED) (s2.stick Stk.SUP_FAILED) := (State.Writes.refl hw2.ok).stick _ fun _ => id
  have hw4 : (s2.stick Stk.SUP_FAILED).Writes (· ∈ logRegs) ((s2.stick Stk.SUP_FAILED).logRec 0x08 (evCode Stk.SUP_FAILED.file 3) [] true) :=
    (State.Writes.refl hw3.ok).logRec _ _ _ _ fun _ => id
  have hmail : ¬ mailLogRegs Reg.SUP_STAT := mailLogRegs_sup (by decide) (by decide)
  refine ⟨?_, ?_, ?_, ?_, ?_⟩
  · rw [hw4.supState (by decide), hw3.supState (by decide), hw2.supState hmail, hstate2]
  · rw [hw4.fld _ (by decide), hw3.fld _ (by decide), hw2.fld _ hmail, hcls2]
  · rw [hw4.stuck (by decide)]
    exact State.stick_stuck _ hw2.ok (by decide) (by decide)
  · rw [State.logRec_sup, State.stick_sup]
    rfl
  · have hq : s.Sticks Reg.SUP_STK (s.closeSession 2) := (State.Sticks.refl h).wrote hcl (mailLogRegs_sup (by decide) (by decide))
    have hq2 : s.Sticks Reg.SUP_STK s2 := ((hq.setRegN (by decide)).setRegN (by decide)).setRegN (a := Reg.SUP_STAT) (by decide) |>.wrote hw2
      (mailLogRegs_sup (by decide) (by decide))
    exact (hq2.stick (by decide) hne).logRec hne

/-! ## Self-test -/

section

variable {s : State}

theorem State.pairLocked_state (h : s.pairLocked = true) : s.supState = 0 := by
  have h' := ((Bool.and_eq_true _ _).mp h).2
  exact eq_of_beq h'

theorem execCheckerSelfTest_spec {ok : Bool} (hs : s.inv = true) (hl : s.pairLocked = true) :
    ∃ t, exec (.checkerSelfTest ok) s = .next t ∧ s.keeps t ([.gt, .sup] ++ logParts) ∧ t.gt = (s.gtTo (s.sup.injAt + 500000)).gt ∧
      (ok = true → t.regN Reg.SUP_INJCNT = (s.regN Reg.SUP_INJCNT + 1) % 2 ^ 32 ∧ t.sup.injFails = 0 ∧ t.supState = 0) ∧
      (ok = false → t.stuck Stk.LS_INJ_FAIL = true ∧ t.supState = (if 1 ≤ s.sup.injFails then 4 else 0)) := by
  let s1 := (s.gtTo (s.sup.injAt + 500000)).supMod (fun u => { u with injAt := s.sup.injAt + 500000 })
  have hc : ¬ (!s.pairLocked) = true := by simp [hl]
  have hm1 : s.Moves [] ([.gt, .sup] ++ logParts) s1 := (State.Moves.gtTo (.refl s) (by decide)).supMod (by decide)
  have hok1 : s1.regsOk = true := State.regsOk_of_inv (hm1.inv hs)
  have hregs1 : s1.regs = s.regs := State.gtTo_regs _ _
  have hstate1 : s1.supState = 0 := (State.supState_of_reg (State.reg_of_regs hregs1 _)).trans (State.pairLocked_state hl)
  cases ok with
  | true =>
    have hexec : exec (.checkerSelfTest true) s = .next ((s1.tickReg Reg.SUP_INJCNT).supMod (fun u => { u with injFails := 0 })) :=
      congrArg Host.Outcome.next (if_neg hc)
    have hw : s1.Writes (· = Reg.SUP_INJCNT) (s1.tickReg Reg.SUP_INJCNT) := (State.Writes.refl hok1).tickReg rfl
    refine ⟨_, hexec, ((hm1.tickReg (by decide)).supMod (by decide)).keeps, rfl, fun _ => ⟨?_, rfl, ?_⟩, fun h => absurd h (by decide)⟩
    · refine (State.regN_setRegN _ _ hok1).trans ?_
      rw [State.regN_of_reg (State.reg_of_regs hregs1 _)]
    · exact (hw.supState (by decide)).trans hstate1
  | false =>
    let s2 := ((s1.stick Stk.LS_INJ_FAIL).logRec 0x08 (evCode Stk.LS_INJ_FAIL.file 0) []).supMod (fun u => { u with injFails := u.injFails + 1 })
    have hexec : exec (.checkerSelfTest false) s = .next (if 2 ≤ s2.sup.injFails then s2.supFail 3 else s2) :=
      congrArg Host.Outcome.next (if_neg hc)
    have hm2 : s.Moves [] ([.gt, .sup] ++ logParts) s2 := ((hm1.stick (by decide)).logRec (by decide)).supMod (by decide)
    have hst : (s1.stick Stk.LS_INJ_FAIL).stuck Stk.LS_INJ_FAIL = true := State.stick_stuck _ hok1 (by decide) (by decide)
    have hq2 : (s1.stick Stk.LS_INJ_FAIL).Sticks Reg.SUP_STK s2 :=
      ((State.Sticks.refl (State.stick_ok _ hok1)).logRec (by decide)).supMod
    have hw2 : s1.Writes (· ∈ stickRegs Stk.LS_INJ_FAIL) s2 :=
      (((State.Writes.refl hok1).stick _ fun _ => id).logRec _ _ _ _ (by decide)).supMod
    have hgt2 : s2.gt = s1.gt := (State.logRec_gt _ _ _ _ _).trans (State.stick_gt _ _)
    have hfails : s2.sup.injFails = s.sup.injFails + 1 := by
      have hsup : ((s1.stick Stk.LS_INJ_FAIL).logRec 0x08 (evCode Stk.LS_INJ_FAIL.file 0) []).sup = s1.sup :=
        (State.logRec_sup _ _ _ _ _).trans (State.stick_sup _ _)
      show ((s1.stick Stk.LS_INJ_FAIL).logRec 0x08 (evCode Stk.LS_INJ_FAIL.file 0) []).sup.injFails + 1 = _
      rw [hsup]
      show (s.gtTo _).sup.injFails + 1 = _
      rw [State.gtTo_sup]
    by_cases hf : 1 ≤ s.sup.injFails
    · have hfail := State.supFail_failed (s := s2) hq2.ok (by decide : 3 < 8)
      rw [if_pos (by rw [hfails]; omega)] at hexec
      have hgt : (s2.supFail 3).gt = s2.gt :=
        (State.Moves.supFail (own := []) (.refl s2) (by decide : _ ⊆ .sup :: logParts)).gt_kept (by decide)
      refine ⟨_, hexec, (hm2.supFail (by decide)).keeps, hgt.trans hgt2, fun h => absurd h (by decide), fun _ => ⟨?_, ?_⟩⟩
      · exact (hq2.trans hfail.sticks).stays _ rfl hst
      · rw [if_pos hf]
        exact hfail.state
    · rw [if_neg (by rw [hfails]; omega)] at hexec
      refine ⟨_, hexec, hm2.keeps, hgt2, fun h => absurd h (by decide), fun _ => ⟨hq2.stays _ rfl hst, ?_⟩⟩
      rw [if_neg hf]
      exact (hw2.supState (by decide)).trans hstate1

end

/-! ## Frames -/

section

variable {s : State}

/-- A resynchronisation is counted and locks the pair (R334). -/
theorem State.resync_spec (h : s.regsOk = true) : s.resync.supState = 0 ∧
    s.resync.regN Reg.SUP_RSYNCNT = min (s.regN Reg.SUP_RSYNCNT + 1) (2 ^ 32 - 1) ∧ s.Sticks Reg.SUP_STK s.resync := by
  have hb : (s.bump Reg.SUP_RSYNCNT).regsOk = true := State.bump_ok _ h
  refine ⟨State.supState_setSup hb (by decide), ?_, (((State.Sticks.refl h).bump (by decide)).setRegN (by decide)).of_regs rfl⟩
  exact (State.regN_setRegN_ne _ hb (by decide)).trans (State.regN_bump h _)

/-- What a frame boundary leaves before the pair is compared: its time, its heartbeat, and an empty journal (R331, R345). -/
structure State.Framed (s t : State) (at_ : Nat) : Prop where
  moves : s.Moves [] ([.gt, .sup] ++ logParts) t
  heartbeat : t.regN Reg.MBX_HB = (s.regN Reg.MBX_HB + 1) % 2 ^ 32
  lastFrame : t.sup.lastFrame = at_
  rejoin : t.sup.rejoinDue = s.sup.rejoinDue
  state : t.supState = s.supState
  resyncs : t.regN Reg.SUP_RSYNCNT = s.regN Reg.SUP_RSYNCNT

/-- The comparison of a frame whose state differs is a latent divergence (R334). -/
def State.diverge (s : State) : State :=
  ((((s.stick Stk.LATENT_DIV).bump Reg.SUP_DIVCNT).setFld Reg.SUP_STAT F.SUP_STAT_CLASS 5).logRec 0x08 (evCode Stk.LATENT_DIV.file 2) [5#32]).resync

theorem State.resync_moves {own may : List Part} (s : State) (hm : [.regs, .sup] ⊆ may) : s.Moves own may s.resync := .resync (.refl s) hm

/-- A step of a frame keeps the time of the frame and the heartbeat. -/
theorem State.resync_kept (h : s.regsOk = true) : s.resync.sup.lastFrame = s.sup.lastFrame ∧ s.resync.regN Reg.MBX_HB = s.regN Reg.MBX_HB := by
  have hb : (s.bump Reg.SUP_RSYNCNT).regsOk = true := State.bump_ok _ h
  exact ⟨rfl, (State.regN_setRegN_ne _ hb (by decide)).trans (State.regN_setRegN_ne _ h (by decide))⟩

theorem State.diverge_spec (h : s.regsOk = true) : s.diverge.supState = 0 ∧
    s.diverge.regN Reg.SUP_RSYNCNT = min (s.regN Reg.SUP_RSYNCNT + 1) (2 ^ 32 - 1) ∧ s.diverge.stuck Stk.LATENT_DIV = true ∧
    s.diverge.sup.lastFrame = s.sup.lastFrame ∧ s.diverge.regN Reg.MBX_HB = s.regN Reg.MBX_HB := by
  let s1 := s.stick Stk.LATENT_DIV
  let s2 := ((s1.bump Reg.SUP_DIVCNT).setFld Reg.SUP_STAT F.SUP_STAT_CLASS 5).logRec 0x08 (evCode Stk.LATENT_DIV.file 2) [5#32]
  have hw : s.Writes (fun a => a ∈ [Reg.SUP_STK, Reg.SUP_DIVCNT, Reg.SUP_STAT] ∨ a ∈ logRegs) s2 :=
    ((((State.Writes.refl h).stick _ (by decide)).bump (.inl (by decide))).setFld _ _ (.inl (by decide))).logRec _ _ _ _ fun _ => .inr
  have hq : s1.Sticks Reg.SUP_STK s2 :=
    (((State.Sticks.refl (State.stick_ok _ h)).bump (by decide)).setRegN (by decide)).logRec (by decide)
  have hsup : s2.sup = s.sup := (State.logRec_sup _ _ _ _ _).trans (State.stick_sup _ _)
  obtain ⟨hstate, hcount, hst⟩ := State.resync_spec hw.ok
  obtain ⟨hlast, hhb⟩ := State.resync_kept hw.ok
  refine ⟨hstate, ?_, hst.stays _ rfl (hq.stays _ rfl (State.stick_stuck _ h (by decide) (by decide))), ?_, ?_⟩
  · rw [← hw.regN (a := Reg.SUP_RSYNCNT) (by decide)]
    exact hcount
  · exact hlast.trans (by rw [hsup])
  · exact hhb.trans (hw.regN (by decide))

/-- The frame boundary itself (R331, R345). -/
theorem State.framed (hs : s.inv = true) (hst : s.supState < 3) (at_ entries : Nat) :
    let s1 := (s.gtTo at_).supMod (fun u => { u with lastFrame := at_, anyFrame := true })
    let s2 := if s1.supState = 3 && 3 ≤ s1.fld Reg.SUP_STAT F.SUP_STAT_PHASE then s1 else s1.tickReg Reg.MBX_HB
    s.Framed (if s2.supState = 1 then s2 else (s2.journalAt entries).supMod (fun u => { u with journalFull := false })) at_ := by
  intro s1 s2
  have hm1 : s.Moves [] ([.gt, .sup] ++ logParts) s1 := (State.Moves.gtTo (.refl s) (by decide)).supMod (by decide)
  have hregs1 : s1.regs = s.regs := State.gtTo_regs _ _
  have hok1 : s1.regsOk = true := State.regsOk_of_inv (hm1.inv hs)
  have hstate1 : s1.supState = s.supState := State.supState_of_reg (State.reg_of_regs hregs1 _)
  have hs2 : s2 = s1.tickReg Reg.MBX_HB := if_neg (by simp [hstate1]; omega)
  have hrej : s1.sup.rejoinDue = s.sup.rejoinDue := by
    show (s.gtTo at_).sup.rejoinDue = _
    rw [State.gtTo_sup]
  have hw : s1.Writes (· = Reg.MBX_HB) (s1.tickReg Reg.MBX_HB) := (State.Writes.refl hok1).tickReg rfl
  have hhb : (s1.tickReg Reg.MBX_HB).regN Reg.MBX_HB = (s.regN Reg.MBX_HB + 1) % 2 ^ 32 := by
    refine (State.regN_setRegN _ _ hok1).trans ?_
    rw [State.regN_of_reg (State.reg_of_regs hregs1 _)]
  have hf2 : s.Framed (s1.tickReg Reg.MBX_HB) at_ :=
    ⟨hm1.tickReg (by decide), hhb, rfl, hrej, (hw.supState (by decide)).trans hstate1,
      (hw.regN (by decide)).trans (State.regN_of_reg (State.reg_of_regs hregs1 _))⟩
  rw [hs2]
  split
  · exact hf2
  · have hj : (s1.tickReg Reg.MBX_HB).Writes (· ∈ stickRegs Stk.LS_JOURNAL_FULL) ((s1.tickReg Reg.MBX_HB).journalAt entries) := by
      unfold State.journalAt
      refine .ite ?_ (.refl hw.ok)
      exact ((State.Writes.refl hw.ok).stick _ fun _ => id).supMod
    have hsup : ((s1.tickReg Reg.MBX_HB).journalAt entries).sup.lastFrame = at_ ∧
        ((s1.tickReg Reg.MBX_HB).journalAt entries).sup.rejoinDue = s.sup.rejoinDue := by
      unfold State.journalAt
      split
      · show ((s1.tickReg Reg.MBX_HB).stick _).sup.lastFrame = at_ ∧ ((s1.tickReg Reg.MBX_HB).stick _).sup.rejoinDue = _
        rw [State.stick_sup]
        exact ⟨rfl, hrej⟩
      · exact ⟨rfl, hrej⟩
    exact ⟨(hf2.moves.journalAt (by decide)).supMod (by decide), (hj.regN (by decide)).trans hhb, hsup.1, hsup.2,
      (hj.supState (by decide)).trans hf2.state, (hj.regN (by decide)).trans hf2.resyncs⟩

theorem execFrameStart_spec {diverged : Bool} {entries : Nat} (hs : s.inv = true) (hdev : s.dev = .run ∨ s.dev = .standby) (hst : s.supState < 3) :
    ∃ t, exec (.frameStart diverged entries) s = .next t ∧ s.keeps t ([.gt, .sup] ++ logParts) ∧
      t.regN Reg.MBX_HB = (s.regN Reg.MBX_HB + 1) % 2 ^ 32 ∧
      (s.sup.anyFrame = true → t.sup.lastFrame = s.sup.lastFrame + 500000) ∧ (s.sup.anyFrame = false → t.sup.lastFrame % 500000 = 0) ∧
      (s.sup.rejoinDue = false → s.supState = 0 → diverged = true → t.sup.lastFrame / 500000 % 10 = 0 →
        t.stuck Stk.LATENT_DIV = true ∧ t.supState = 0 ∧ t.regN Reg.SUP_RSYNCNT = min (s.regN Reg.SUP_RSYNCNT + 1) (2 ^ 32 - 1)) := by
  let at_ := if s.sup.anyFrame then s.sup.lastFrame + 500000 else (s.gt + 500000 - 1) / 500000 * 500000
  let s1 := (s.gtTo at_).supMod (fun u => { u with lastFrame := at_, anyFrame := true })
  let s2 := if s1.supState = 3 && 3 ≤ s1.fld Reg.SUP_STAT F.SUP_STAT_PHASE then s1 else s1.tickReg Reg.MBX_HB
  let s3 := if s2.supState = 1 then s2 else (s2.journalAt entries).supMod (fun u => { u with journalFull := false })
  have hc : ¬ (!(s.dev == .run || s.dev == .standby) || s.supFailed) = true := by
    have hnf : s.supFailed = false := beq_false_of_ne (by show s.supState ≠ 4; omega)
    rw [hnf]
    rcases hdev with h | h <;> rw [h] <;> decide
  have hexec : exec (.frameStart diverged entries) s = .next
      (if s3.sup.rejoinDue then (s3.resync).supMod (fun u => { u with rejoinDue := false })
       else if s3.supState = 0 && at_ / 500000 % 10 = 0 && diverged then s3.diverge else s3) := congrArg Host.Outcome.next (if_neg hc)
  obtain ⟨hmoves, hhb, hlast, hrej, hstate, hcount⟩ := State.framed hs hst at_ entries
  have hmoves : s.Moves [] ([.gt, .sup] ++ logParts) s3 := hmoves
  have hok : s3.regsOk = true := State.regsOk_of_inv (hmoves.inv hs)
  have hany : s.sup.anyFrame = true → at_ = s.sup.lastFrame + 500000 := fun h => if_pos h
  have hnone : s.sup.anyFrame = false → at_ % 500000 = 0 := fun h => by
    have hat : at_ = (s.gt + 500000 - 1) / 500000 * 500000 := if_neg (by simp [h])
    rw [hat]
    exact Nat.mul_mod_left _ _
  have hrest : ∀ t : State, t.sup.lastFrame = at_ → (s.sup.anyFrame = true → t.sup.lastFrame = s.sup.lastFrame + 500000) ∧
      (s.sup.anyFrame = false → t.sup.lastFrame % 500000 = 0) := fun t ht => by
    rw [ht]
    exact ⟨hany, hnone⟩
  by_cases hr : s3.sup.rejoinDue = true
  · rw [if_pos hr] at hexec
    obtain ⟨hrl, hrh⟩ := State.resync_kept hok
    obtain ⟨h1, h2⟩ := hrest ((s3.resync).supMod (fun u => { u with rejoinDue := false })) (hrl.trans hlast)
    refine ⟨_, hexec, ((hmoves.resync (by decide)).supMod (by decide)).keeps, hrh.trans hhb, h1, h2, fun h => absurd (hr.symm.trans (hrej.trans h)) (by decide)⟩
  · rw [if_neg hr] at hexec
    by_cases hd : (s3.supState = 0 && at_ / 500000 % 10 = 0 && diverged) = true
    · rw [if_pos hd] at hexec
      obtain ⟨hd0, hdc, hds, hdl, hdh⟩ := State.diverge_spec hok
      obtain ⟨h1, h2⟩ := hrest s3.diverge (hdl.trans hlast)
      have hmd : s.Moves [] ([.gt, .sup] ++ logParts) s3.diverge :=
        .resync (.logRec (.setFld (.bump (.stick hmoves (by decide)) (by decide)) (by decide)) (by decide)) (by decide)
      refine ⟨_, hexec, hmd.keeps, hdh.trans hhb, h1, h2, fun _ _ _ _ => ⟨hds, hd0, ?_⟩⟩
      rw [hdc, hcount]
    · rw [if_neg hd] at hexec
      obtain ⟨h1, h2⟩ := hrest s3 hlast
      refine ⟨_, hexec, hmoves.keeps, hhb, h1, h2, fun _ h0 hdiv h10 => absurd ?_ hd⟩
      rw [hlast] at h10
      have h0' : s3.supState = 0 := hstate.trans h0
      simp [h0', h10, hdiv]

/-! ## Mismatch and re-run -/

theorem execLockstepMismatch_spec {group : Fin 16} {kind : Fin 3} {addr : Word} {entries : Nat} (hs : s.inv = true) (hl : s.pairLocked = true) :
    ∃ t, exec (.lockstepMismatch group kind addr entries) s = .next t ∧ s.keeps t (.sup :: logParts) ∧ t.supState = 1 ∧
      t.stuck Stk.LS_MISMATCH = true ∧ t.reg Reg.SUP_MISADDR = addr ∧ t.regN Reg.SUP_MISINFO = group.val + 16 * kind.val + 2 ^ 31 ∧
      t.regN Reg.SUP_MISCNT = min (s.regN Reg.SUP_MISCNT + 1) (2 ^ 32 - 1) := by
  let j := s.journalAt entries
  let s1 := j.setSup 1
  let s2 := s1.setRegN Reg.SUP_MISINFO (group.val + 16 * kind.val + 2 ^ 31)
  let s3 := s2.setReg Reg.SUP_MISADDR addr
  let s4 := s3.stick Stk.LS_MISMATCH
  let s5 := s4.bump Reg.SUP_MISCNT
  have hexec : exec (.lockstepMismatch group kind addr entries) s = .next s5 := congrArg Host.Outcome.next (if_neg (by simp [hl]))
  have hsok : s.regsOk = true := State.regsOk_of_inv hs
  have wj : s.Writes (· ∈ stickRegs Stk.LS_JOURNAL_FULL) j := by
    dsimp only [j]
    unfold State.journalAt
    refine .ite ?_ (.refl hsok)
    exact ((State.Writes.refl hsok).stick _ fun _ => id).supMod
  have w1 : j.Writes (· = Reg.SUP_STAT) s1 := (State.Writes.refl wj.ok).setFld _ _ rfl
  have w2 : s1.Writes (· = Reg.SUP_MISINFO) s2 := (State.Writes.refl w1.ok).setRegN _ rfl
  have w3 : s2.Writes (· = Reg.SUP_MISADDR) s3 := (State.Writes.refl w2.ok).setReg _ rfl
  have w4 : s3.Writes (· ∈ stickRegs Stk.LS_MISMATCH) s4 := (State.Writes.refl w3.ok).stick _ fun _ => id
  have w5 : s4.Writes (· = Reg.SUP_MISCNT) s5 := (State.Writes.refl w4.ok).bump rfl
  have hmoves : s.Moves [] (.sup :: logParts) s5 :=
    .bump (.stick (.setReg (.setRegN (.setFld (.journalAt (.refl s) (by decide)) (by decide)) (by decide)) (by decide)) (by decide)) (by decide)
  refine ⟨s5, hexec, hmoves.keeps, ?_, ?_, ?_, ?_, ?_⟩
  · rw [w5.supState (by decide), w4.supState (by decide), w3.supState (by decide), w2.supState (by decide)]
    exact State.supState_setSup wj.ok (by decide)
  · rw [w5.stuck (by decide)]
    exact State.stick_stuck _ w3.ok (by decide) (by decide)
  · rw [w5.reg (by decide), w4.reg (by decide)]
    exact State.reg_setReg _ _ w2.ok
  · rw [w5.regN (by decide), w4.regN (by decide), w3.regN (by decide)]
    refine (State.regN_setRegN _ _ w1.ok).trans (Nat.mod_eq_of_lt ?_)
    have := group.isLt
    have := kind.isLt
    omega
  · refine (State.regN_bump w4.ok _).trans ?_
    rw [w4.regN (by decide), w3.regN (by decide), w2.regN (by decide), w1.regN (by decide), wj.regN (by decide)]

theorem rerunClass_eq : ∀ agree testOk full : Bool, rerunClass agree testOk full =
    (if testOk = false then 3 else if full = true then 4 else if agree = true then 1 else 2) := by decide

theorem rerunClass_lt : ∀ agree testOk full : Bool, rerunClass agree testOk full < 8 := by decide

theorem rerunClass_one : ∀ agree testOk full : Bool, rerunClass agree testOk full = 1 ↔ testOk = true ∧ full = false ∧ agree = true := by decide

theorem execRerunComplete_spec {agree testOk : Bool} (hs : s.inv = true) (hst : s.supState = 1) :
    ∃ t, exec (.rerunComplete agree testOk) s = .next t ∧ s.keeps t (.sup :: logParts) ∧
      t.fld Reg.SUP_STAT F.SUP_STAT_CLASS = (if testOk = false then 3 else if s.sup.journalFull = true then 4 else if agree = true then 1 else 2) ∧
      (testOk = false ∨ s.sup.journalFull = true ∨ agree = false → t.supState = 4 ∧ t.stuck Stk.SUP_FAILED = true ∧ t.sup.held = []) ∧
      (testOk = true → s.sup.journalFull = false → agree = true → t.supState = (if s.recov60.length < 3 then 0 else 4)) := by
  let c := rerunClass agree testOk s.sup.journalFull
  let s0 := s.setFld Reg.SUP_STAT F.SUP_STAT_CLASS c
  let s1 := (s0.supActed).logRec 0x08 (evCode 0xFF 1) [w32 c]
  let s2 := s1.supMod (fun u => { u with recovs := s1.recov60 ++ [s1.gt] })
  let good := (s2.setSup 0).retargetHeld (fun w => s2.instantOf w.dest < s2.gt + 64)
  have hexec : exec (.rerunComplete agree testOk) s =
      .next (if c ≠ 1 then s1.supFail c else if 4 ≤ s2.sup.recovs.length then s2.supFail 1 else good) :=
    congrArg Host.Outcome.next (if_neg (not_not_intro hst))
  have hone : c = 1 ↔ testOk = true ∧ s.sup.journalFull = false ∧ agree = true := rerunClass_one _ _ _
  have hc8 : c < 8 := rerunClass_lt _ _ _
  have hsok : s.regsOk = true := State.regsOk_of_inv hs
  have hok0 : s0.regsOk = true := State.setFld_ok _ _ _ hsok
  have w1 : s0.Writes (· ∈ logRegs) s1 := ((State.Writes.refl hok0).supActed).logRec _ _ _ _ fun _ => id
  have hm1 : s.Moves [] (.sup :: logParts) s1 := .logRec (.supMod (.setFld (.refl s) (by decide)) (by decide)) (by decide)
  have hm2 : s.Moves [] (.sup :: logParts) s2 := hm1.supMod (by decide)
  have hclass0 : s0.fld Reg.SUP_STAT F.SUP_STAT_CLASS = c := (State.fld_setFld _ _ _ hsok (by decide)).trans (Nat.mod_eq_of_lt hc8)
  rw [← rerunClass_eq]
  by_cases hc : c ≠ 1
  · rw [if_pos hc] at hexec
    obtain ⟨h4, hcl, hf, hheld, -⟩ := State.supFail_failed (s := s1) w1.ok hc8
    refine ⟨_, hexec, (hm1.supFail (by decide)).keeps, hcl, fun _ => ⟨h4, hf, hheld⟩, fun h1 h2 h3 => absurd (hone.2 ⟨h1, h2, h3⟩) hc⟩
  · rw [if_neg hc] at hexec
    have hc1 : c = 1 := not_not.1 hc
    have hlen : s2.sup.recovs.length = s.recov60.length + 1 := by
      have hgt : s1.gt = s.gt := State.logRec_gt _ _ _ _ _
      have hsup : s1.sup.recovs = s.sup.recovs := by
        rw [State.logRec_sup]
        rfl
      show (s1.recov60 ++ [s1.gt]).length = _
      rw [List.length_append, State.recov60, State.recov60, hgt, hsup]
      rfl
    obtain ⟨htest, hfull, hagree⟩ := hone.1 hc1
    have hbad : ¬ (testOk = false ∨ s.sup.journalFull = true ∨ agree = false) := by simp [htest, hfull, hagree]
    by_cases h4 : 4 ≤ s2.sup.recovs.length
    · rw [if_pos h4] at hexec
      obtain ⟨hst4, hcl, -, -, -⟩ := State.supFail_failed (s := s2) w1.supMod.ok (by decide : 1 < 8)
      refine ⟨_, hexec, (hm2.supFail (by decide)).keeps, hcl.trans hc1.symm, fun h => absurd h hbad, fun _ _ _ => ?_⟩
      rw [if_neg (by omega)]
      exact hst4
    · rw [if_neg h4] at hexec
      have hok2 : s2.regsOk = true := w1.supMod.ok
      have hmg : s.Moves [] (.sup :: logParts) (s2.setSup 0) := .setSup hm2 (by decide)
      have hregs : good.regs = (s2.setSup 0).regs := rfl
      refine ⟨good, hexec, (State.Moves.retargetHeld hmg (by decide)).keeps, ?_, fun h => absurd h hbad, fun _ _ _ => ?_⟩
      · rw [State.fld_of_reg (State.reg_of_regs hregs _), State.setSup, State.fld_setFld_other _ _ _ _ hok2 (by decide) (by decide),
          (w1.supMod (f := fun u => { u with recovs := s1.recov60 ++ [s1.gt] })).fld _ (by decide), hclass0]
      · rw [if_pos (by omega), State.supState_of_reg (State.reg_of_regs hregs _)]
        exact State.supState_setSup hok2 (by decide)

end

end Sys2Proof.Machine
end

section
/-!
PROOFS. The write that Steward holds for the commit ahead, and the scrubber (R337 to R340, R345, R346): O33.
-/
namespace Sys2Proof.Machine

/-! ## Held writes -/

/-- The commit after another one does not lie before it (R21). -/
theorem State.le_commitAfter {s : State} (c : Nat) (h : 0 < s.tim.epLen) : c ≤ s.commitAfter c := by
  unfold State.commitAfter State.commitFrom State.instantOf
  dsimp only
  generalize s.tim.epLen = e at *
  generalize hn : c / 2 * e + (if c % 2 = 1 then e / 2 else 0) + 1 = n
  have hle : c / 2 * e + 1 ≤ n := by omega
  have hk : c / 2 ≤ n / e := (Nat.le_div_iff_mul_le h).2 (by omega)
  split
  · next hz =>
    have hne : n / e ≠ c / 2 := fun heq => by
      have hdiv : n / e * e = n := Nat.div_mul_cancel (Nat.dvd_of_mod_eq_zero hz)
      rw [heq] at hdiv
      omega
    omega
  · split
    · omega
    · omega

section

variable {s : State}

theorem State.issueHeld_one {w : HeldWrite} (hheld : s.sup.held = [w]) (hdest : w.dest = s.nextCommit) (hahead : s.gt < s.instantOf w.dest)
    (hown : s.ownerOf w.slot = 0x20) (hfree : ((s.pan.pend.find w.dest).getD []).find w.slot = none) :
    (s.issueHeld s.nextCommit).sup.held = [] ∧ (s.issueHeld s.nextCommit).pan.committed = s.pan.committed ∧
      (((s.issueHeld s.nextCommit).pan.pend.find w.dest).getD []).find w.slot = some { val := w.val, ord := w.ord } := by
  let s1 := s.supMod (fun u => { u with held := u.held.filter (fun v => !(v.dest = s.nextCommit)) })
  let s2 := s1.panWrite hostOwner w.slot w.ord s.nextCommit w.val
  have hlen : 0 < s.tim.epLen := by
    rcases Nat.eq_zero_or_pos s.tim.epLen with h0 | h
    · have hz : s.instantOf w.dest = 0 := by simp [State.instantOf, h0]
      omega
    · exact h
  have hnow : s.sup.held.filter (fun v => v.dest = s.nextCommit) = [w] := by simp [hheld, hdest]
  have hs2 : s2 = s1.pendPut s.nextCommit w.slot w.ord w.val :=
    State.panWrite_inTime (s := s1) w.val (by decide) hown (by rw [← hdest]; exact hahead) (Nat.le_refl _) (State.le_commitAfter (s := s1) _ hlen)
  have hput := State.pendPut_eq (s := s1) (c := s.nextCommit) (slot := w.slot) (ord := w.ord) w.val fun v hv => by
    rw [← hdest] at hv
    exact absurd (hfree.symm.trans hv) (by simp)
  let tags := (([w].filterMap (fun v => v.tag)).eraseDups).filter
    (fun g => !s1.sup.held.any (fun v => v.tag == some g))
  have heq : s.issueHeld s.nextCommit = tags.foldl (fun t g => t.finish g stOk (cidx := s.nextCommit)) s2 := by
    unfold State.issueHeld
    dsimp only
    rw [hnow]
    rfl
  have hfin : s2.Moves [] [.regs, .mbx, .out] (tags.foldl (fun t g => t.finish g stOk (cidx := s.nextCommit)) s2) :=
    .foldl (fun _ _ hv => hv.finish (by decide)) (.refl s2)
  have hpan : (s.issueHeld s.nextCommit).pan = s2.pan := by rw [heq]; exact hfin.pan_kept (by decide)
  have hsup : (s.issueHeld s.nextCommit).sup = s1.sup := by
    rw [heq, hfin.sup_kept (by decide), hs2, hput]
  rw [hpan, hsup, hs2, hput]
  refine ⟨by simp [s1, State.supMod, hheld, hdest], rfl, ?_⟩
  dsimp only
  rw [hdest, KMap.find_put_same, Option.getD_some, KMap.find_put_same]

/-! ## The scrubber -/

/-- What an SRAM error leaves of the pair, with the commands that it ends (R345). -/
structure State.Erred (s t : State) (err : SramErr) : Prop where
  moves : s.Moves [] logParts t
  writes : s.Writes (fun a => a ∈ [Reg.SUP_ERRADDR, Reg.SUP_STK, Reg.SUP_SRAMCE, Reg.SUP_SRAMUE] ∨ mailLogRegs a) t
  single : err = .single → t.stuck Stk.SRAM_CE = true ∧ t.regN Reg.SUP_SRAMCE = min (s.regN Reg.SUP_SRAMCE + 1) (2 ^ 32 - 1)
  double : err = .double → t.stuck Stk.SRAM_UE = true ∧ t.regN Reg.SUP_SRAMUE = min (s.regN Reg.SUP_SRAMUE + 1) (2 ^ 32 - 1)

theorem sramErr_spec (h : s.regsOk = true) (word region : Nat) (ue : Bool) :
    s.Writes (fun a => a ∈ [Reg.SUP_ERRADDR, Reg.SUP_STK, Reg.SUP_SRAMCE, Reg.SUP_SRAMUE] ∨ mailLogRegs a) (s.sramErr word region ue) ∧
      (s.sramErr word region ue).stuck (if ue then Stk.SRAM_UE else Stk.SRAM_CE) = true ∧
      (s.sramErr word region ue).regN (if ue then Reg.SUP_SRAMUE else Reg.SUP_SRAMCE) =
        min (s.regN (if ue then Reg.SUP_SRAMUE else Reg.SUP_SRAMCE) + 1) (2 ^ 32 - 1) := by
  unfold State.sramErr
  extract_lets +onlyGivenNames s1
  have h1 : s1.regsOk = true := State.setRegN_ok _ _ h
  have w1 : s.Writes (fun a => a ∈ [Reg.SUP_ERRADDR, Reg.SUP_STK, Reg.SUP_SRAMCE, Reg.SUP_SRAMUE] ∨ mailLogRegs a) s1 :=
    (State.Writes.refl h).setRegN _ (.inl (by decide))
  have hlog {k : Stk} (hk : k.reg = Reg.SUP_STK) : ∀ a ∈ stickRegs k,
      a ∈ [Reg.SUP_ERRADDR, Reg.SUP_STK, Reg.SUP_SRAMCE, Reg.SUP_SRAMUE] ∨ mailLogRegs a := by
    intro a ha
    obtain rfl | ha := List.mem_cons.1 ha
    · rw [hk]
      exact .inl (by decide)
    · exact .inr (.inr ha)
  have hcount {k : Stk} {a : Nat} (hk : k.reg = Reg.SUP_STK) (hb : k.bit < 32)
      (ha : a ∈ [Reg.SUP_ERRADDR, Reg.SUP_STK, Reg.SUP_SRAMCE, Reg.SUP_SRAMUE]) (hs : a ∉ stickRegs k) (hn : Reg.SUP_STK ≠ a) (he : a ≠ Reg.SUP_ERRADDR) :
      s.Writes (fun a => a ∈ [Reg.SUP_ERRADDR, Reg.SUP_STK, Reg.SUP_SRAMCE, Reg.SUP_SRAMUE] ∨ mailLogRegs a) ((s1.stick k).bump a) ∧
        ((s1.stick k).bump a).stuck k = true ∧ ((s1.stick k).bump a).regN a = min (s.regN a + 1) (2 ^ 32 - 1) := by
    have hst : (s1.stick k).Writes (· = a) ((s1.stick k).bump a) := (State.Writes.refl (State.stick_ok _ h1)).bump rfl
    have hw1 : s1.Writes (· ∈ stickRegs k) (s1.stick k) := (State.Writes.refl h1).stick _ fun _ => id
    refine ⟨(w1.stick _ (hlog hk)).bump (.inl ha), ?_, ?_⟩
    · rw [hst.stuck (by rw [hk]; exact hn)]
      exact State.stick_stuck _ h1 hb (by rw [hk]; decide)
    · rw [State.regN_bump (State.stick_ok _ h1), hw1.regN hs, State.regN_setRegN_ne _ h he]
  cases ue with
  | true => exact hcount rfl (by decide) (by decide) (by decide) (by decide) (by decide)
  | false => exact hcount rfl (by decide) (by decide) (by decide) (by decide) (by decide)

/-- The place of the scrubber after a word of a region, on the state that the word's error left (R346). -/
def State.scrubMoved (s : State) (region : Fin 4) (w : Nat) : State :=
  let s2 := ((s.bump Reg.SUP_SCRUBPASS).setRegN Reg.SUP_SCRUBLAST (min 65535 ((s.gt - s.sup.passStart) / tickMs))).stickIf
    (10 * tickSec < s.gt - s.sup.passStart) Stk.SCRUB_LATE
  if region.val = 3 then s.supMod (fun u => { u with journalWord := (u.journalWord + 1) % 32768 })
  else if w + 1 < 524288 then s.supMod (fun u => { u with scrubWord := w + 1 })
  else s2.supMod (fun u => { u with scrubWord := 0, passStart := s.gt })

/-- Where no split runs, a scrubbed word leaves what its error leaves, and the scrubber at its next place. -/
theorem execScrubSlot_erred {err : SramErr} {region : Fin 4} {hit : List (Fin 64)} (hs : s.inv = true) (hsplit : s.sup.split = none) :
    ∃ s1, exec (.scrubSlot err region hit) s = .next (s1.scrubMoved region (if region.val = 3 then s.sup.journalWord else s.sup.scrubWord)) ∧
      s.Erred s1 err := by
  generalize hwd : (if region.val = 3 then s.sup.journalWord else s.sup.scrubWord) = w
  have hsok : s.regsOk = true := State.regsOk_of_inv hs
  cases err with
  | none =>
    exact ⟨s, by rw [← hwd]; rfl, .refl s, .refl hsok, fun h => absurd h (by decide), fun h => absurd h (by decide)⟩
  | single =>
    obtain ⟨hw, hst, hc⟩ := sramErr_spec hsok w region.val false
    exact ⟨_, by rw [← hwd]; rfl, .sramErr (.refl s) (by decide), hw, fun _ => ⟨hst, hc⟩, fun h => absurd h (by decide)⟩
  | double =>
    obtain ⟨hw, hst, hc⟩ := sramErr_spec hsok w region.val true
    let t := s.sramErr w region.val true
    let t1 := if region.val = 2 then hit.foldl (fun (u : State) (g : Fin 64) => u.finish g.val stTimeout) t else t
    have ht : s.Moves [] logParts t := .sramErr (.refl s) (by decide)
    have ht1 : t.Moves [] [.regs, .mbx, .out] t1 := .ite (.foldl (fun _ _ hv => hv.finish (by decide)) (.refl t)) (.refl t)
    have hw1 : t.Writes mailLogRegs t1 := .ite (.foldl (fun _ _ hv => hv.finishMail) (.refl hw.ok)) (.refl hw.ok)
    have hnone : t1.sup.split = none := by rw [ht1.sup_kept (by decide), ht.sup_kept (by decide), hsplit]
    have hq {a : Nat} (h : 0xA000 ≤ a) (hl : a ∉ logRegs) : ¬ mailLogRegs a := mailLogRegs_sup h hl
    refine ⟨t1, ?_, ht.trans (ht1.mono (by decide)), hw.trans (hw1.mono fun _ => .inr), fun h => absurd h (by decide), fun _ => ⟨?_, ?_⟩⟩
    · show execScrubSlot .double region hit s = _
      unfold execScrubSlot
      dsimp only
      simp only [hwd]
      rw [hnone]
      rfl
    · exact (hw1.stuck (hq (by decide) (by decide))).trans hst
    · exact (hw1.regN (hq (by decide) (by decide))).trans hc

theorem execScrubSlot_spec {err : SramErr} {region : Fin 4} {hit : List (Fin 64)} (hs : s.inv = true) (hsplit : s.sup.split = none) :
    ∃ t, exec (.scrubSlot err region hit) s = .next t ∧ s.keeps t (.sup :: logParts) ∧ t.supState = s.supState ∧
      (region.val = 3 → t.sup.journalWord = (s.sup.journalWord + 1) % 32768 ∧ t.sup.scrubWord = s.sup.scrubWord) ∧
      (region.val ≠ 3 → s.sup.scrubWord + 1 < 524288 → t.sup.scrubWord = s.sup.scrubWord + 1) ∧
      (region.val ≠ 3 → 524288 ≤ s.sup.scrubWord + 1 → t.sup.scrubWord = 0 ∧
        t.regN Reg.SUP_SCRUBPASS = min (s.regN Reg.SUP_SCRUBPASS + 1) (2 ^ 32 - 1)) ∧
      (err = .single → t.stuck Stk.SRAM_CE = true ∧ t.regN Reg.SUP_SRAMCE = min (s.regN Reg.SUP_SRAMCE + 1) (2 ^ 32 - 1)) ∧
      (err = .double → t.stuck Stk.SRAM_UE = true ∧ t.regN Reg.SUP_SRAMUE = min (s.regN Reg.SUP_SRAMUE + 1) (2 ^ 32 - 1)) := by
  obtain ⟨s1, hexec, herr⟩ := execScrubSlot_erred (err := err) (region := region) (hit := hit) hs hsplit
  generalize hwd : (if region.val = 3 then s.sup.journalWord else s.sup.scrubWord) = w at hexec
  unfold State.scrubMoved at hexec
  extract_lets +onlyGivenNames s2 at hexec
  obtain ⟨hmoves, hw, hsingle, hdouble⟩ := herr
  have hsup : s1.sup = s.sup := hmoves.sup_kept (by decide)
  have hstate : s1.supState = s.supState := hw.supState (by unfold mailLogRegs mailRegs; decide)
  have hm1 : s.Moves [] (.sup :: logParts) s1 := hmoves.mono (by decide)
  by_cases h3 : region.val = 3
  · rw [if_pos h3] at hexec
    refine ⟨_, hexec, (hm1.supMod (by decide)).keeps, hstate, fun _ => ?_, fun h => absurd h3 h, fun h => absurd h3 h, hsingle, hdouble⟩
    show (s1.sup.journalWord + 1) % 32768 = _ ∧ s1.sup.scrubWord = _
    rw [hsup]
    exact ⟨rfl, rfl⟩
  · have hweq : w = s.sup.scrubWord := hwd.symm.trans (if_neg h3)
    rw [if_neg h3] at hexec
    by_cases hlast : w + 1 < 524288
    · rw [if_pos hlast] at hexec
      refine ⟨_, hexec, (hm1.supMod (by decide)).keeps, hstate, fun h => absurd h h3, fun _ _ => ?_, fun _ h => ?_, hsingle, hdouble⟩
      · exact congrArg (· + 1) hweq
      · omega
    · rw [if_neg hlast] at hexec
      have wb : s1.Writes (fun a => a ∈ [Reg.SUP_SCRUBPASS, Reg.SUP_SCRUBLAST]) ((s1.bump Reg.SUP_SCRUBPASS).setRegN Reg.SUP_SCRUBLAST
          (min 65535 ((s1.gt - s1.sup.passStart) / tickMs))) := ((State.Writes.refl hw.ok).bump (by decide)).setRegN _ (by decide)
      have w2 : s1.Writes (fun a => a ∈ [Reg.SUP_SCRUBPASS, Reg.SUP_SCRUBLAST] ∨ a ∈ stickRegs Stk.SCRUB_LATE) s2 :=
        (wb.mono fun _ => .inl).stickIf _ _ fun _ => .inr
      have hst2 : s1.Sticks Reg.SUP_STK s2 := (((State.Sticks.refl hw.ok).bump (by decide)).setRegN (by decide)).stickIf (by decide) (by decide)
      have hm2 : s.Moves [] (.sup :: logParts) s2 := ((hm1.bump (by decide)).setRegN (by decide)).stickIf (by decide)
      have hpass : s2.regN Reg.SUP_SCRUBPASS = min (s.regN Reg.SUP_SCRUBPASS + 1) (2 ^ 32 - 1) := by
        have wl : (s1.bump Reg.SUP_SCRUBPASS).Writes (fun a => a = Reg.SUP_SCRUBLAST ∨ a ∈ stickRegs Stk.SCRUB_LATE) s2 :=
          ((State.Writes.refl (State.bump_ok _ hw.ok)).setRegN _ (.inl rfl)).stickIf _ _ fun _ => .inr
        rw [wl.regN (by decide), State.regN_bump hw.ok, hw.regN (by unfold mailLogRegs mailRegs; decide)]
      refine ⟨_, hexec, (hm2.supMod (by decide)).keeps, (w2.supState (by decide)).trans hstate, fun h => absurd h h3, fun _ h => absurd h (by omega),
        fun _ _ => ⟨rfl, hpass⟩, fun h => ?_, fun h => ?_⟩
      · exact ⟨hst2.stays _ rfl (hsingle h).1, (w2.regN (by decide)).trans (hsingle h).2⟩
      · exact ⟨hst2.stays _ rfl (hdouble h).1, (w2.regN (by decide)).trans (hdouble h).2⟩

theorem execStewardWriteIssue_spec {w : HeldWrite} (hon : s.stewardOn = true) (hc : s.commitsOn = true) (hheld : s.sup.held = [w])
    (hdest : w.dest = s.nextCommit) (hahead : s.gt + 64 ≤ s.instantOf w.dest) (hown : s.ownerOf w.slot = 0x20)
    (hfree : ((s.pan.pend.find w.dest).getD []).find w.slot = none) :
    ∃ t, exec .stewardWriteIssue s = .next t ∧ s.keeps t ([.pan, .sup] ++ logParts) ∧ t.sup.held = [] ∧ t.pan.committed = s.pan.committed ∧
      ((t.pan.pend.find w.dest).getD []).find w.slot = some { val := w.val, ord := w.ord } := by
  let late := fun (w : HeldWrite) => w.dest < s.nextCommit || s.instantOf w.dest < s.gt + 64
  have hlate : ¬ (s.sup.held.any late) = true := by
    have h1 : ¬ w.dest < s.nextCommit := by omega
    simp [late, hheld, h1, hahead]
  have hexec : exec .stewardWriteIssue s = .next (s.issueHeld s.nextCommit) := by
    have hguard : ¬ (!s.stewardOn || !s.commitsOn) = true := by simp [hon, hc]
    refine congrArg Host.Outcome.next ((if_neg hguard).trans ?_)
    dsimp only
    rw [if_neg hlate]
  obtain ⟨h1, h2, h3⟩ := State.issueHeld_one hheld hdest (by omega) hown hfree
  exact ⟨_, hexec, (State.Moves.issueHeld (own := []) (.refl s) (by decide)).keeps, h1, h2, h3⟩

end

/-- Settles O33: each step as a few writes of the pair's registers and of its state. -/
theorem supervisorPairRecoversOrFails : Obligations.SupervisorPairRecoversOrFails :=
  ⟨fun _ _ hs hl => execCheckerSelfTest_spec hs hl, fun _ _ _ hs hdev hst => execFrameStart_spec hs hdev hst, fun _ _ _ _ _ hs hl =>
    execLockstepMismatch_spec hs hl, fun _ _ _ hs hst => execRerunComplete_spec hs hst, fun _ _ _ hon hc hheld hdest hahead hown hfree =>
    execStewardWriteIssue_spec hon hc hheld hdest hahead hown hfree, fun _ _ _ _ hs hsplit => execScrubSlot_spec hs hsplit⟩

end Sys2Proof.Machine
end

section
/-!
PROOFS. A split of the pair: its start at a frame, READY, the hand-over, REJOIN and the aborts (R342, R344): O34.
-/
namespace Sys2Proof.Machine

section

variable {s : State} {p : SplitState}

/-! ## The end of a split -/

/-- What the end of a split with a result leaves (R342, R344). -/
structure State.SplitEnded (s t : State) (r : Nat) : Prop where
  writes : s.Writes (fun a => a ∈ [Reg.SUP_SPLIT, Reg.SUP_STAT, Reg.MBX_STAT]) t
  result : t.fld Reg.SUP_SPLIT F.SUP_SPLIT_RESULT = r
  split : t.sup.split = none

theorem State.splitEnd_ended (h : s.regsOk = true) {r : Nat} (hr : r < 2 ^ F.SUP_SPLIT_RESULT.w) : s.SplitEnded (s.splitEnd p r) r := by
  unfold State.splitEnd
  extract_lets +onlyGivenNames s1
  have w1 : s.Writes (fun a => a ∈ [Reg.SUP_SPLIT, Reg.SUP_STAT, Reg.MBX_STAT]) s1 :=
    ((State.Writes.refl h).setRegN _ (by decide)).setFld _ _ (by decide)
  have w2 := w1.setFld F.SUP_SPLIT_RESULT r (a := Reg.SUP_SPLIT) (by decide)
  have w3 : (s1.setFld Reg.SUP_SPLIT F.SUP_SPLIT_RESULT r).Writes (fun a => a ∈ [Reg.SUP_STAT, Reg.MBX_STAT])
      (((s1.setFld Reg.SUP_SPLIT F.SUP_SPLIT_RESULT r).setFld Reg.SUP_STAT F.SUP_STAT_PHASE 0).setFld Reg.MBX_STAT F.MBX_STAT_SPLIT 0) :=
    ((State.Writes.refl w2.ok).setFld _ _ (by decide)).setFld _ _ (by decide)
  refine ⟨(w2.trans (w3.mono fun _ => List.mem_cons_of_mem _)).supMod.supActed, ?_, rfl⟩
  exact (w3.fld _ (by decide)).trans ((State.fld_setFld _ _ _ w1.ok (by decide)).trans (Nat.mod_eq_of_lt hr))

/-- What an abort of a split leaves (R344). -/
structure State.SplitAborted (s t : State) (r : Nat) : Prop where
  moves : s.Moves [] ([.sup, .fw] ++ logParts) t
  split : t.sup.split = none
  state : t.supState = 2
  result : t.fld Reg.SUP_SPLIT F.SUP_SPLIT_RESULT = r
  aborted : t.stuck Stk.SPLIT_ABORT = true
  running : t.fw.running = s.fw.running
  gt : t.gt = s.gt

theorem State.splitAbort_aborted (h : s.regsOk = true) {r : Nat} (hr : r < 2 ^ F.SUP_SPLIT_RESULT.w) : s.SplitAborted (s.splitAbort p r) r := by
  have hmoves : s.Moves [] ([.sup, .fw] ++ logParts) (s.splitAbort p r) := .splitAbort (.refl s) (by decide)
  have hgt : (s.splitAbort p r).gt = s.gt := hmoves.gt_kept (by decide)
  let e := s.splitEnd p r
  let s1 := (e.setSup 2).supMod (fun u => { u with rejoinDue := true })
  let s2 := { s1 with fw := { s1.fw with slots := s1.fw.slots.mod (1 - s1.fw.running) (fun f => { f with valid := false }) } }
  have ht : s.splitAbort p r = (s2.stick Stk.SPLIT_ABORT).finish p.tag (if r = splitTimer then stTimeout else stRange) (result := w32 r) := rfl
  obtain ⟨hw0, hres0, hsplit0⟩ : s.SplitEnded e r := State.splitEnd_ended (p := p) h hr
  have hme : s.Moves [] [.regs, .sup] e := .splitEnd (.refl s) (by decide)
  clear_value e
  have hset : e.Writes (· = Reg.SUP_STAT) (e.setSup 2) := (State.Writes.refl hw0.ok).setFld _ _ rfl
  have w1 : e.Writes (· = Reg.SUP_STAT) s1 := hset.supMod
  have hstate1 : s1.supState = 2 := State.supState_setSup hw0.ok (by decide)
  have hsplit1 : s1.sup.split = none := hsplit0
  have hm1 : s.Moves [] [.regs, .sup] s1 := (hme.setSup (by decide)).supMod (by decide)
  have hfw1 : s1.fw = s.fw := hm1.fw_kept (by decide)
  clear_value s1
  have hok2 : s2.regsOk = true := w1.ok
  have hregs2 : s2.regs = s1.regs := rfl
  have hsup2 : s2.sup = s1.sup := rfl
  have hrun2 : s2.fw.running = s1.fw.running := rfl
  clear_value s2
  have hstk : s2.Writes (· ∈ stickRegs Stk.SPLIT_ABORT) (s2.stick Stk.SPLIT_ABORT) := (State.Writes.refl hok2).stick _ fun _ => id
  let t := (s2.stick Stk.SPLIT_ABORT).finish p.tag (if r = splitTimer then stTimeout else stRange) (result := w32 r)
  have hfin : (s2.stick Stk.SPLIT_ABORT).Writes mailLogRegs t := (State.Writes.refl hstk.ok).finishMail
  have hfm : (s2.stick Stk.SPLIT_ABORT).Moves [] [.regs, .mbx, .out] t := .finish (.refl _) (by decide)
  have hmail {a : Nat} (ha : 0xA000 ≤ a) (hl : a ∉ logRegs) : ¬ mailLogRegs a := mailLogRegs_sup ha hl
  replace ht : s.splitAbort p r = t := ht
  clear_value t
  refine ⟨hmoves, ?_, ?_, ?_, ?_, ?_, hgt⟩ <;> rw [ht]
  · rw [hfm.sup_kept (by decide), State.stick_sup, hsup2]
    exact hsplit1
  · rw [hfin.supState (hmail (by decide) (by decide)), hstk.supState (by decide), State.supState_of_reg (State.reg_of_regs hregs2 _)]
    exact hstate1
  · rw [hfin.fld _ (hmail (by decide) (by decide)), hstk.fld _ (by decide), State.fld_of_reg (State.reg_of_regs hregs2 _), w1.fld _ (by decide)]
    exact hres0
  · rw [hfin.stuck (hmail (by decide) (by decide))]
    exact State.stick_stuck _ hok2 (by decide) (by decide)
  · rw [hfm.fw_kept (by decide), State.stick_fw, hrun2, hfw1]

/-! ## The phases -/

section

variable (hs : s.inv = true) (hp : s.sup.split = some p)

include hs hp

theorem execSplit_spec (hstarted : p.started = false) (hl : s.pairLocked = true) :
    ∃ t, exec .split s = .next t ∧ s.keeps t [.gt, .regs, .sup] ∧ t.supState = 3 ∧ t.fld Reg.SUP_STAT F.SUP_STAT_PHASE = 2 ∧
      t.gt = (s.gtTo ((s.gt + 499999) / 500000 * 500000)).gt ∧ t.sup.split = some { p with started := true, start := t.gt } ∧
      t.flag Reg.MBX_STAT F.MBX_STAT_SPLIT = true := by
  have hframe : (s.gt + tickMs - 1) / tickMs * tickMs = (s.gt + 499999) / 500000 * 500000 := by
    rw [show tickMs = 500000 from rfl, Nat.add_sub_assoc (by decide)]
  let s1 := s.gtTo ((s.gt + 499999) / 500000 * 500000)
  let s2 := (s1.setSup 3).setFld Reg.SUP_STAT F.SUP_STAT_PHASE 2
  let s3 := (s2.setRegN Reg.SUP_SPLIT 0).setFld Reg.MBX_STAT F.MBX_STAT_SPLIT 1
  let s4 := s3.supMod (fun u => { u with split := some { p with started := true, start := s1.gt } })
  have hexec : exec .split s = .next s4 := by
    show execSplit s = _
    unfold execSplit
    rw [hp]
    refine (congrArg Host.Outcome.next (if_neg (by simp [hstarted, hl]))).trans ?_
    rw [hframe]
  have hm1 : s.Moves [] [.gt] s1 := .gtTo (.refl s) (by decide)
  have hgt1 : s1.gt = (s.gtTo ((s.gt + 499999) / 500000 * 500000)).gt := rfl
  have hok1 : s1.regsOk = true := State.regsOk_of_inv (hm1.inv hs)
  clear_value s1
  have hokS : (s1.setSup 3).regsOk = true := State.setFld_ok _ _ _ hok1
  have hok2 : s2.regsOk = true := State.setFld_ok _ _ _ hokS
  have w3 : s2.Writes (fun a => a ∈ [Reg.SUP_SPLIT, Reg.MBX_STAT]) s3 := ((State.Writes.refl hok2).setRegN _ (by decide)).setFld _ _ (by decide)
  have hm4 : s.Moves [] [.gt, .regs, .sup] s4 :=
    .supMod (.setFld (.setRegN (.setFld (.setSup (hm1.mono (by decide)) (by decide)) (by decide)) (by decide)) (by decide)) (by decide)
  refine ⟨s4, hexec, hm4.keeps, ?_, ?_, hgt1, rfl, ?_⟩
  · exact (w3.supState (by decide)).trans ((State.supState_setFld hokS _ (by decide) (by decide)).trans (State.supState_setSup hok1 (by decide)))
  · exact (w3.fld _ (by decide)).trans (State.fld_setFld _ _ _ hokS (by decide))
  · exact State.flag_setFld (State.setRegN_ok _ _ hok2) _ F.MBX_STAT_SPLIT 1 (by decide)

omit hs in
theorem execSplitReady_ready (hstarted : p.started = true) (hready : p.ready = false) :
    ∃ t, exec (.splitReady .ready) s = .next t ∧ s.keeps t [.sup] ∧ t.sup.split = some { p with ready := true, readyAt := s.gt } := by
  have hexec : exec (.splitReady .ready) s =
      .next (s.supMod (fun u => { u with split := some { p with ready := true, readyAt := s.gt } })) := by
    show execSplitReady .ready s = _
    unfold execSplitReady
    rw [hp]
    exact congrArg Host.Outcome.next (if_neg (by simp [hstarted, hready]))
  exact ⟨_, hexec, (State.Moves.supMod (own := []) (.refl s) (by decide)).keeps, rfl⟩

/-- A candidate that fails aborts the split with the result of its failure (R344). -/
theorem execSplitReady_fails {outcome : SplitBoot} {r : Nat} (hstarted : p.started = true) (hready : p.ready = false)
    (hr : outcome = .signature ∧ r = splitImage ∨ outcome = .selfTest ∧ r = splitTest) :
    ∃ t, exec (.splitReady outcome) s = .next t ∧ s.SplitAborted t r := by
  have hexec : exec (.splitReady outcome) s = .next (s.splitAbort p r) := by
    have hc : ¬ (!p.started || p.ready) = true := by simp [hstarted, hready]
    show execSplitReady outcome s = _
    unfold execSplitReady
    rw [hp]
    obtain ⟨rfl, rfl⟩ | ⟨rfl, rfl⟩ := hr
    · exact congrArg Host.Outcome.next (if_neg hc)
    · exact congrArg Host.Outcome.next (if_neg hc)
  refine ⟨_, hexec, State.splitAbort_aborted (State.regsOk_of_inv hs) ?_⟩
  obtain ⟨-, rfl⟩ | ⟨-, rfl⟩ := hr <;> decide

theorem execSplitHandover_spec (hstarted : p.started = true) (hready : p.ready = true) (hphase : s.fld Reg.SUP_STAT F.SUP_STAT_PHASE = 2) :
    ∃ t, exec .splitHandover s = .next t ∧ s.keeps t [.gt, .regs] ∧ s.sameRegs t [Reg.SUP_STAT] ∧ t.fld Reg.SUP_STAT F.SUP_STAT_PHASE = 3 ∧
      t.gt = (s.gtTo (s.epochFrom (p.readyAt + 1))).gt := by
  let s1 := s.gtTo (s.epochFrom (p.readyAt + 1))
  have hexec : exec .splitHandover s = .next (s1.setFld Reg.SUP_STAT F.SUP_STAT_PHASE 3) := by
    show execSplitHandover s = _
    unfold execSplitHandover
    rw [hp]
    exact congrArg Host.Outcome.next (if_pos (by simp [hstarted, hready, hphase]))
  have hm1 : s.Moves [] [.gt, .regs] s1 := .gtTo (.refl s) (by decide)
  have hok1 : s1.regsOk = true := State.regsOk_of_inv (hm1.inv hs)
  exact ⟨_, hexec, (hm1.setFld (by decide)).keeps, fun a ha => (State.setFld_sameRegs hok1 _ _ _ a ha).trans (State.reg_of_regs (State.gtTo_regs _ _) a),
    State.fld_setFld _ _ _ hok1 (by decide), rfl⟩

theorem execSplitAccept_takes (hstarted : p.started = true) (hphase : s.fld Reg.SUP_STAT F.SUP_STAT_PHASE = 3)
    (htime : s.gt + 500000 ≤ p.start + 1000000000) :
    ∃ t, exec (.splitAccept true) s = .next t ∧ s.keeps t [.regs, .sup] ∧ t.fld Reg.SUP_STAT F.SUP_STAT_PHASE = 4 ∧
      t.sup.split = some { p with rejoin := true } := by
  have hleft : ¬ s.splitLeft p < tickMs := by
    show ¬ p.start + 1000000000 - s.gt < 500000
    omega
  have hexec : exec (.splitAccept true) s =
      .next ((s.setFld Reg.SUP_STAT F.SUP_STAT_PHASE 4).supMod (fun u => { u with split := some { p with rejoin := true } })) := by
    have hc : ¬ (!p.started || s.fld Reg.SUP_STAT F.SUP_STAT_PHASE ≠ 3) = true := by simp [hstarted, hphase]
    show execSplitAccept true s = _
    unfold execSplitAccept
    rw [hp]
    exact congrArg Host.Outcome.next ((if_neg hc).trans ((if_neg (by decide)).trans (if_neg hleft)))
  exact ⟨_, hexec, ((State.Moves.setFld (own := []) (.refl s) (by decide)).supMod (by decide)).keeps,
    State.fld_setFld _ _ _ (State.regsOk_of_inv hs) (by decide), rfl⟩

theorem execSplitAccept_refuses (hstarted : p.started = true) (hphase : s.fld Reg.SUP_STAT F.SUP_STAT_PHASE = 3) :
    ∃ t, exec (.splitAccept false) s = .next t ∧ s.SplitAborted t 5 := by
  have hexec : exec (.splitAccept false) s = .next (s.splitAbort p splitState) := by
    have hc : ¬ (!p.started || s.fld Reg.SUP_STAT F.SUP_STAT_PHASE ≠ 3) = true := by simp [hstarted, hphase]
    show execSplitAccept false s = _
    unfold execSplitAccept
    rw [hp]
    exact congrArg Host.Outcome.next ((if_neg hc).trans (if_pos (by decide)))
  exact ⟨_, hexec, State.splitAbort_aborted (State.regsOk_of_inv hs) (by decide)⟩

theorem execRejoin_spec (hrejoin : p.rejoin = true) :
    ∃ t, exec .rejoin s = .next t ∧ s.keeps t [.regs, .sup, .fw, .mbx, .out] ∧ t.sup.split = none ∧ t.supState = 0 ∧
      t.fw.running = 1 - s.fw.running ∧ t.fw.commits = s.fw.commits ∧ t.fld Reg.SUP_SPLIT F.SUP_SPLIT_RESULT = 1 := by
  let s0 := s.splitEnd p splitDone
  let s1 := (s0.setSup 0).bump Reg.SUP_RSYNCNT
  let s2 := { s1 with fw := { s1.fw with running := 1 - s1.fw.running } }
  let t := s2.finish p.tag stOk (result := w32 splitDone)
  have hexec : exec .rejoin s = .next t := by
    show execRejoin s = _
    unfold execRejoin
    rw [hp]
    exact congrArg Host.Outcome.next (if_neg (by simp [hrejoin]))
  obtain ⟨hw0, hres0, hsplit0⟩ := State.splitEnd_ended (p := p) (State.regsOk_of_inv hs) (r := splitDone) (by decide)
  have hm0 : s.Moves [] [.regs, .sup] s0 := .splitEnd (.refl s) (by decide)
  have wS : s0.Writes (· = Reg.SUP_STAT) (s0.setSup 0) := (State.Writes.refl hw0.ok).setFld _ _ rfl
  have w1 : (s0.setSup 0).Writes (· = Reg.SUP_RSYNCNT) s1 := (State.Writes.refl wS.ok).bump rfl
  have hm1 : s0.Moves [] [.regs] s1 := (State.Moves.setSup (.refl s0) (by decide)).bump (by decide)
  have hsup1 : s1.sup = s0.sup := hm1.sup_kept (by decide)
  have hfw1 : s1.fw = s.fw := (hm1.fw_kept (by decide)).trans (hm0.fw_kept (by decide))
  clear_value s1
  have hok2 : s2.regsOk = true := w1.ok
  have hregs2 : s2.regs = s1.regs := rfl
  have hsup2 : s2.sup = s1.sup := rfl
  have hrun2 : s2.fw.running = 1 - s1.fw.running ∧ s2.fw.commits = s1.fw.commits := ⟨rfl, rfl⟩
  have hm2 : s.Moves [] [.regs, .sup, .fw, .mbx, .out] s2 := ((hm0.trans (hm1.mono (by decide))).mono (by decide)).set_fw id (by decide)
  clear_value s2
  have hfin : s2.Writes mailLogRegs t := (State.Writes.refl hok2).finishMail
  have hfm : s2.Moves [] [.regs, .mbx, .out] t := .finish (.refl _) (by decide)
  have hfw : t.fw = s2.fw := hfm.fw_kept (by decide)
  have hm : s.Moves [] [.regs, .sup, .fw, .mbx, .out] t := hm2.finish (by decide)
  have hsup : t.sup = s0.sup := (hfm.sup_kept (by decide)).trans (hsup2.trans hsup1)
  rw [← hfw, hfw1] at hrun2
  have hmail {a : Nat} (ha : 0xA000 ≤ a) (hl : a ∉ logRegs) : ¬ mailLogRegs a := mailLogRegs_sup ha hl
  refine ⟨t, hexec, hm.keeps, (congrArg SupState.split hsup).trans hsplit0, ?_, hrun2.1, hrun2.2, ?_⟩
  · rw [hfin.supState (hmail (by decide) (by decide)), State.supState_of_reg (State.reg_of_regs hregs2 _), w1.supState (by decide)]
    exact State.supState_setSup hw0.ok (by decide)
  · rw [hfin.fld _ (hmail (by decide) (by decide)), State.fld_of_reg (State.reg_of_regs hregs2 _), w1.fld _ (by decide), wS.fld _ (by decide)]
    exact hres0

theorem execSplitTimeout_spec (hstarted : p.started = true) (hrejoin : p.rejoin = false) :
    ∃ t, exec .splitTimeout s = .next t ∧ s.keeps t ([.gt, .sup, .fw] ++ logParts) ∧ t.sup.split = none ∧
      t.fld Reg.SUP_SPLIT F.SUP_SPLIT_RESULT = 2 ∧ t.stuck Stk.SPLIT_ABORT = true ∧ t.gt = (s.gtTo (p.start + 999500001)).gt := by
  let s1 := s.gtTo (p.start + 999500001)
  have htarget : p.start + 2 * tickSec - tickMs + 1 = p.start + 999500001 := by
    show p.start + 1000000000 - 500000 + 1 = _
    omega
  have hexec : exec .splitTimeout s = .next (s1.splitAbort p splitTimer) := by
    show execSplitTimeout s = _
    unfold execSplitTimeout
    rw [hp]
    refine (congrArg Host.Outcome.next (if_neg (by simp [hstarted, hrejoin]))).trans ?_
    rw [htarget]
  have hm1 : s.Moves [] ([.gt, .sup, .fw] ++ logParts) s1 := .gtTo (.refl s) (by decide)
  obtain ⟨hmoves, hsplit, -, hres, hab, -, hgt⟩ :=
    State.splitAbort_aborted (p := p) (State.regsOk_of_inv (hm1.inv hs)) (r := splitTimer) (by decide)
  exact ⟨_, hexec, (hm1.trans (hmoves.mono (by decide))).keeps, hsplit, hres, hab, hgt⟩

end

end

/-- Settles O34: each step by its equation, the aborts by what `splitAbort` leaves. -/
theorem splitRunsThroughItsPhases : Obligations.SplitRunsThroughItsPhases := by
  intro s p hs hp
  refine ⟨execSplit_spec hs hp, fun h1 h2 => ⟨execSplitReady_ready hp h1 h2, ?_, ?_⟩, execSplitHandover_spec hs hp,
    fun h1 h2 => ⟨execSplitAccept_takes hs hp h1 h2, ?_⟩, execRejoin_spec hs hp, execSplitTimeout_spec hs hp⟩
  · obtain ⟨t, hexec, hmoves, hsplit, hst, hres, hab, hrun, -⟩ := execSplitReady_fails hs hp h1 h2 (.inl ⟨rfl, rfl⟩)
    exact ⟨t, hexec, hmoves.keeps, hsplit, hst, hres, hab, hrun⟩
  · obtain ⟨t, hexec, hmoves, hsplit, -, hres, hab, -⟩ := execSplitReady_fails hs hp h1 h2 (.inr ⟨rfl, rfl⟩)
    exact ⟨t, hexec, hmoves.keeps, hsplit, hres, hab⟩
  · obtain ⟨t, hexec, hmoves, hsplit, -, hres, hab, -⟩ := execSplitAccept_refuses hs hp h1 h2
    exact ⟨t, hexec, hmoves.keeps, hsplit, hres, hab⟩

end Sys2Proof.Machine
end

section
/-!
PROOFS. Frames on P0 and P1, the node table, supervision frames and links (R349 to R352): O35.
-/
namespace Sys2Proof.Machine

section

variable {s t : State}

theorem State.Writes.netMod {m : Nat → Prop} (h : s.Writes m t) {f : NetState → NetState} : s.Writes m (t.netMod f) := h.of_regs rfl

theorem State.Sticks.netMod {r : Nat} (h : s.Sticks r t) {f : NetState → NetState} : s.Sticks r (t.netMod f) := h.of_regs rfl

theorem State.Writes.ptpMod {m : Nat → Prop} (h : s.Writes m t) {p : Nat} {f : PtpPort → PtpPort} : s.Writes m (t.ptpMod p f) := h.of_regs rfl

theorem State.linkBit_eq_flag (s : State) (p : Nat) : s.linkBit p = s.flag Reg.NET_STAT ⟨p, 1⟩ := by
  show (s.regN Reg.NET_STAT).testBit p = (s.regN Reg.NET_STAT / 2 ^ p % 2 ^ 1 == 1)
  rw [Nat.testBit_eq_decide_div_mod_eq]
  rfl

/-- The state of PTP on a port leaves the link bits. -/
theorem State.linkBit_setPState (h : s.regsOk = true) {p : Nat} (q v : Nat) (hp : p < 2) : (s.setPState q v).linkBit p = s.linkBit p := by
  rw [State.linkBit_eq_flag, State.linkBit_eq_flag]
  unfold State.setPState
  split
  · exact State.flag_setFld_other h Reg.NET_STAT F.NET_STAT_PSTATE0 ⟨p, 1⟩ v (by decide) (.inl (by show p + 1 ≤ 4; omega))
  · exact State.flag_setFld_other h Reg.NET_STAT F.NET_STAT_PSTATE1 ⟨p, 1⟩ v (by decide) (.inl (by show p + 1 ≤ 8; omega))

theorem State.Writes.linkBit {m : Nat → Prop} (h : s.Writes m t) (hm : ¬ m Reg.NET_STAT) (p : Nat) : t.linkBit p = s.linkBit p := by
  rw [State.linkBit, State.linkBit, h.reg hm]

/-! ## Frames -/

theorem execFrameRx_bad {port : Fin 2} {f : NetFrame} (hs : s.inv = true) (hon : s.portOn port = true) (hmode : s.netMode ≠ 2 ∨ port.val = 0)
    (hbad : 1536 < f.len ∨ f.crcOk = false) :
    ∃ t, exec (.frameRx port f) s = .next t ∧ s.keeps t logParts ∧ t.stuck Stk.NET_RXERR = true ∧
      t.regN (Reg.NET_RXCNT port) = min (s.regN (Reg.NET_RXCNT port) + 1) (2 ^ 32 - 1) ∧
      t.regN (Reg.NET_RXERR port) = min (s.regN (Reg.NET_RXERR port) + 1) (2 ^ 32 - 1) := by
  let s1 := s.bump (Reg.NET_RXCNT port)
  let s2 := s1.bump (Reg.NET_RXERR port)
  have hc1 : ¬ (!s.portOn port || (s.netMode = 2 && port.val = 1)) = true := by
    rw [hon]
    rcases hmode with h | h <;> simp [h]
  have hc2 : (1536 < f.len || !f.crcOk) = true := by rcases hbad with h | h <;> simp [h]
  have hexec : exec (.frameRx port f) s = .next (s2.stick Stk.NET_RXERR) := congrArg Host.Outcome.next ((if_neg hc1).trans (if_pos hc2))
  have hsok : s.regsOk = true := State.regsOk_of_inv hs
  have w1 : s.Writes (· = Reg.NET_RXCNT port) s1 := (State.Writes.refl hsok).bump rfl
  have w2 : s1.Writes (· = Reg.NET_RXERR port) s2 := (State.Writes.refl w1.ok).bump rfl
  have w3 : s2.Writes (· ∈ stickRegs Stk.NET_RXERR) (s2.stick Stk.NET_RXERR) := (State.Writes.refl w2.ok).stick _ fun _ => id
  have hne : ∀ p q : Fin 2, Reg.NET_RXCNT p ≠ Reg.NET_RXERR q ∧ Reg.NET_RXCNT p ∉ stickRegs Stk.NET_RXERR ∧
    Reg.NET_RXERR q ∉ stickRegs Stk.NET_RXERR := by decide
  obtain ⟨hce, hcs, hes⟩ := hne port port
  have hmoves : s.Moves [] logParts (s2.stick Stk.NET_RXERR) := .stick (.bump (.bump (.refl s) (by decide)) (by decide)) (by decide)
  refine ⟨_, hexec, hmoves.keeps, State.stick_stuck _ w2.ok (by decide) (by decide), ?_, ?_⟩
  · rw [w3.regN hcs, w2.regN hce]
    exact State.regN_bump hsok _
  · rw [w3.regN hes, State.regN_bump w1.ok, w1.regN (Ne.symm hce)]

/-- A node that has been heard on a path still knows the numbers it knew. -/
theorem NetNode.seen_heard (n : NetNode) (p t q : Nat) : (n.heard p t).seen q = n.seen q := by
  unfold NetNode.heard
  dsimp only
  split <;> rfl

/-- In PRP a second copy is counted and goes no further (R350, R351). -/
theorem execFrameRx_copy {port : Fin 2} {f : NetFrame} {q : BitVec 16} {n : NetNode} (hs : s.inv = true) (hon : s.portOn port = true)
    (hlen : f.len ≤ 1536) (hcrc : f.crcOk = true) (htags : f.tags < 2) (hmode : s.netMode = 0) (hpause : f.body ≠ .pause)
    (hptp : bodyPtp f.body = false) (hseq : f.seq = some q) (hnode : s.nodesNow.find f.src.toNat = some n) (hseen : n.seen q.toNat = true) :
    ∃ t, exec (.frameRx port f) s = .next t ∧ s.keeps t [.regs, .net] ∧ s.sameRegs t [Reg.NET_RXCNT port, Reg.NET_DUPCNT] ∧
      t.regN Reg.NET_DUPCNT = min (s.regN Reg.NET_DUPCNT + 1) (2 ^ 32 - 1) := by
  let s1 := s.bump (Reg.NET_RXCNT port)
  let s2 := s1.netMod (fun x => { x with nodes := s1.nodesNow })
  let s3 := s2.netMod (fun x => { x with nodes := x.nodes.put f.src.toNat ((n.heard port s.gt).note q.toNat s.gt 0) })
  have hc1 : ¬ (!s.portOn port || (s.netMode = 2 && port.val = 1)) = true := by simp [hon, hmode]
  have hc2 : ¬ (1536 < f.len || !f.crcOk) = true := by simp [hcrc, hlen]
  have hc3 : ¬ (2 ≤ f.tags || f.body == .pause) = true := by simp [htags, hpause]
  have hfor : nodeFor s1.nodesNow f.src.toNat s.gt = some n := by
    have hnode1 : s1.nodesNow.find f.src.toNat = some n := hnode
    rw [nodeFor, hnode1]
  have hdup : ((n.heard port s.gt).seen q.toNat && !bodyPtp f.body) = true := by rw [NetNode.seen_heard, hseen, hptp]; rfl
  have hexec : exec (.frameRx port f) s = .next (s3.bump Reg.NET_DUPCNT) := by
    refine congrArg Host.Outcome.next ((if_neg hc1).trans ((if_neg hc2).trans ((if_neg hc3).trans ?_)))
    rw [if_neg (by simp [hmode]), if_neg (by simp [hmode])]
    dsimp only
    rw [hfor]
    dsimp only
    rw [hseq]
    dsimp only
    rw [if_pos hdup, hmode]
    rfl
  have hsok : s.regsOk = true := State.regsOk_of_inv hs
  have w1 : s.Writes (· = Reg.NET_RXCNT port) s1 := (State.Writes.refl hsok).bump rfl
  have w3 : s.Writes (· = Reg.NET_RXCNT port) s3 := w1.netMod.netMod
  have hne : ∀ p : Fin 2, Reg.NET_DUPCNT ≠ Reg.NET_RXCNT p := by decide
  have hw : s.Writes (fun a => a ∈ [Reg.NET_RXCNT port, Reg.NET_DUPCNT]) (s3.bump Reg.NET_DUPCNT) :=
    (w3.mono fun _ h => h ▸ List.mem_cons_self).bump (by simp)
  have hmoves : s.Moves [] [.regs, .net] (s3.bump Reg.NET_DUPCNT) :=
    .bump (.netMod (.netMod (.bump (.refl s) (by decide)) id (by decide)) id (by decide)) (by decide)
  refine ⟨_, hexec, hmoves.keeps, fun a ha => hw.reg ha, ?_⟩
  rw [State.regN_bump w3.ok, w3.regN (hne port)]

/-! ## The node table -/

theorem State.mem_nodesNow {e : Nat × NetNode} : e ∈ s.nodesNow ↔ ∃ n, (e.1, n) ∈ s.net.nodes ∧ s.gt < n.lastAt + 60 * tickSec ∧ e.2 = n.fresh s.gt := by
  unfold State.nodesNow
  rw [List.mem_map]
  constructor
  · rintro ⟨d, hd, rfl⟩
    obtain ⟨hd, hlt⟩ := List.mem_filter.1 hd
    exact ⟨d.2, hd, of_decide_eq_true hlt, rfl⟩
  · rintro ⟨n, hn, hlt, he⟩
    exact ⟨(e.1, n), List.mem_filter.2 ⟨hn, decide_eq_true hlt⟩, by rw [← he]⟩

theorem execNodeTableAge_spec (s : State) : ∃ t, exec .nodeTableAge s = .next t ∧ s.keeps t [.net] ∧
    (∀ e, e ∈ t.net.nodes → s.gt < e.2.lastAt + 60 * 500000000 ∧ ∀ q, q ∈ e.2.seqs → s.gt < q.at_ + 400 * 500000) ∧
    (∀ e, e ∈ s.net.nodes → s.gt < e.2.lastAt + 60 * 500000000 → ∃ n, (e.1, n) ∈ t.net.nodes) := by
  refine ⟨_, rfl, (State.Moves.netMod (own := []) (.refl s) id (by decide)).keeps, fun e he => ?_, fun e he hlt => ?_⟩
  · obtain ⟨n, -, hlt, heq⟩ := State.mem_nodesNow.1 (show e ∈ s.nodesNow from he)
    rw [heq]
    exact ⟨hlt, fun q hq => of_decide_eq_true (List.mem_filter.1 hq).2⟩
  · exact ⟨e.2.fresh s.gt, State.mem_nodesNow.2 ⟨e.2, he, hlt, rfl⟩⟩

/-! ## Supervision frames -/

/-- Outside SINGLE a frame of the device's own leaves with its sequence number. -/
theorem State.netSend_out {x : NetTx} (hports : s.outPorts ≠ 0) (hmode : s.netMode ≠ 2) :
    (s.netSend x).out.net = s.out.net ++ [{ ports := s.outPorts, seq := some s.net.txSeq, tx := x }] := by
  unfold State.netSend
  rw [if_neg hports, if_neg hmode]
  rfl

theorem execPrpSupervisionTx_spec (hmode : s.netMode = 0) (hp : s.powered = true) :
    ∃ t, exec .prpSupervisionTx s = .next t ∧ s.keeps t [.gt, .net, .out] ∧ t.net.supAt = t.gt ∧
      (s.net.supAt ≠ 0 → t.gt = (s.gtTo (s.net.supAt + 1000000000)).gt) ∧
      (s.outPorts ≠ 0 → t.out.net = s.out.net ++ [{ ports := s.outPorts, seq := some s.net.txSeq, tx := .supervision }]) := by
  let s1 := if s.net.supAt = 0 then s else s.gtTo (s.net.supAt + 2 * tickSec)
  let t := (s1.netSend .supervision).netMod (fun n => { n with supAt := s1.gt })
  have hexec : exec .prpSupervisionTx s = .next t := congrArg Host.Outcome.next (if_neg (by simp [hmode, hp]))
  have hgt1 : s.net.supAt ≠ 0 → s1.gt = (s.gtTo (s.net.supAt + 1000000000)).gt := fun h => congrArg State.gt (if_neg h)
  obtain ⟨g, hs1⟩ : ∃ g, s1 = { s with gt := g } := by
    dsimp only [s1]
    split
    · exact ⟨s.gt, rfl⟩
    · exact State.gtTo_eq _ _
  have hm1 : s.Moves [] [.gt, .net, .out] s1 := .ite (.refl s) (.gtTo (.refl s) (by decide))
  have hms : s1.Moves [] [.net, .out] (s1.netSend .supervision) := .netSend (.refl s1) (by decide)
  have hgt : t.gt = s1.gt := hms.gt_kept (by decide)
  refine ⟨t, hexec, ((hm1.trans (hms.mono (by decide))).netMod id (by decide)).keeps, hgt.symm, fun h => hgt.trans (hgt1 h), fun h => ?_⟩
  have hports : s1.outPorts = s.outPorts := by rw [hs1]; rfl
  have hmode1 : s1.netMode = 0 := by rw [hs1]; exact hmode
  refine (State.netSend_out (by rw [hports]; exact h) (by rw [hmode1]; decide)).trans ?_
  rw [hports, hs1]

/-! ## Links and paths -/

theorem execLinkLoss_spec {port : Fin 3} (hs : s.inv = true) :
    ∃ t, exec (.linkLoss port) s = .next t ∧ s.keeps t (.net :: logParts) ∧
      (port.val = 2 → s.keeps t [.regs] ∧ s.sameRegs t [Reg.NET_TLSTAT] ∧ t.flag Reg.NET_TLSTAT F.NET_TLSTAT_LINK = false) ∧
      (port.val ≠ 2 → s.linkBit port = true → t.linkBit port = false ∧ t.stuck Stk.NET_LINK = true ∧ (t.net.ptp.at port).ann = none) := by
  have hsok : s.regsOk = true := State.regsOk_of_inv hs
  have hmoves : s.Moves [] (.net :: logParts) (s.linkLoss port) := .linkLoss (.refl s) (by decide)
  refine ⟨_, rfl, hmoves.keeps, fun h2 => ?_, fun h2 hl => ?_⟩
  · have heq : s.linkLoss port = s.setFld Reg.NET_TLSTAT F.NET_TLSTAT_LINK 0 := if_pos h2
    rw [heq]
    exact ⟨(State.Moves.setFld (own := []) (.refl s) (by decide)).keeps, State.setFld_sameRegs hsok _ _ _,
      State.flag_setFld hsok Reg.NET_TLSTAT F.NET_TLSTAT_LINK 0 (by decide)⟩
  · let s0 := s.setBit Reg.NET_STAT port false
    let s1 := s0.ptpMod port (fun x => { x with ann := none, delayAt := none })
    let s2 := if s.flag Reg.NET_CTRL F.NET_CTRL_PTP_EN then s1.setPState port 5 else s1
    let t := (s2.stick Stk.NET_LINK).logRec 0x09 (evCode Stk.NET_LINK.file 0) []
    have heq : s.linkLoss port = t := (if_neg h2).trans (if_neg (by simp [hl]))
    rw [heq]
    have hp : port.val < 2 := by omega
    have hlen : port.val < s0.net.ptp.length := by
      have hz : s0.net.ptp.length = 2 := (State.sized_of_inv hs).net.2.1
      omega
    have w0 : s.Writes (· = Reg.NET_STAT) s0 := (State.Writes.refl hsok).setBit _ _ rfl
    have w1 : s.Writes (· = Reg.NET_STAT) s1 := w0.ptpMod
    have hl1 : s1.linkBit port = false := State.bit_setBit _ _ _ hsok (by omega)
    have w2 : s1.Writes (· = Reg.NET_STAT) s2 := .ite ((State.Writes.refl w1.ok).setPState _ _ rfl) (.refl w1.ok)
    have hl2 : s2.linkBit port = false := by
      dsimp only [s2]
      split
      · exact (State.linkBit_setPState w1.ok _ _ hp).trans hl1
      · exact hl1
    have wt : s2.Writes (· ∈ stickRegs Stk.NET_LINK) t := ((State.Writes.refl w2.ok).stick _ fun _ => id).logRec _ _ _ _ (by decide)
    have hnet : t.net = s1.net := by
      have hn : (s2.stick Stk.NET_LINK).net = s1.net := by
        rw [State.stick_net]
        dsimp only [s2]
        split <;> rfl
      exact (State.logRec_net _ _ _ _ _).trans hn
    have hst : (s2.stick Stk.NET_LINK).Sticks Reg.NET_STK t := (State.Sticks.refl (State.stick_ok _ w2.ok)).logRec (by decide)
    refine ⟨(wt.linkBit (by decide) _).trans hl2, hst.stays _ rfl (State.stick_stuck _ w2.ok (by decide) (by decide)), ?_⟩
    rw [hnet]
    exact congrArg PtpPort.ann (Tab.at_mod_same s0.net.ptp port.val _ hlen)

theorem execLinkUp_spec {port : Fin 3} {amp : Bool} (hs : s.inv = true) (hp : s.powered = true)
    (hpll : s.flag Reg.CLK_STAT F.CLK_STAT_NETPLL_LOCK = true) (hmode : s.netMode ≠ 2 ∨ port.val ≠ 1) :
    ∃ t, exec (.linkUp port amp) s = .next t ∧ s.keeps t [.regs] ∧ s.sameRegs t [Reg.NET_STAT, Reg.NET_TLSTAT] ∧
      (port.val ≠ 2 → t.linkBit port = true) ∧ (port.val = 2 → t.flag Reg.NET_TLSTAT F.NET_TLSTAT_LINK = true) := by
  have hsok : s.regsOk = true := State.regsOk_of_inv hs
  by_cases h2 : port.val = 2
  · let s1 := s.setFld Reg.NET_TLSTAT F.NET_TLSTAT_LINK 1
    let t := s1.setFld Reg.NET_TLSTAT F.NET_TLSTAT_AMP (bit (amp && s.flag Reg.NET_CTRL F.NET_CTRL_AMP24))
    have hd : ¬ (s.dev == .dormant) = true := fun h => by
      have hdev : s.dev = .dormant := eq_of_beq h
      simp [State.powered, hdev] at hp
    have hexec : exec (.linkUp port amp) s = .next t := congrArg Host.Outcome.next ((if_pos h2).trans (if_neg hd))
    have h1 : s1.regsOk = true := State.setFld_ok _ _ _ hsok
    have w : s.Writes (fun a => a ∈ [Reg.NET_STAT, Reg.NET_TLSTAT]) t := ((State.Writes.refl hsok).setFld _ _ (by decide)).setFld _ _ (by decide)
    refine ⟨t, hexec, (State.Moves.setFld (own := []) (.setFld (.refl s) (by decide)) (by decide)).keeps, fun a ha => w.reg ha, fun h => absurd h2 h,
      fun _ => ?_⟩
    rw [State.flag_setFld_other h1 _ _ _ _ (by decide) (by decide)]
    exact State.flag_setFld hsok Reg.NET_TLSTAT F.NET_TLSTAT_LINK 1 (by decide)
  · let s1 := s.setBit Reg.NET_STAT port true
    have hc : ¬ (!s.powered || !s.flag Reg.CLK_STAT F.CLK_STAT_NETPLL_LOCK || (s.netMode = 2 && port.val = 1)) = true := by
      rcases hmode with h | h <;> simp [hp, hpll, h]
    have hexec : exec (.linkUp port amp) s = .next (if s1.ptpOn port then s1.setPState port 1 else s1.setPState port 0) :=
      congrArg Host.Outcome.next ((if_neg h2).trans (if_neg hc))
    have w1 : s.Writes (fun a => a ∈ [Reg.NET_STAT, Reg.NET_TLSTAT]) s1 := (State.Writes.refl hsok).setBit _ _ (by decide)
    have hl1 : s1.linkBit port = true := State.bit_setBit _ _ _ hsok (by omega)
    have hv : ∃ v, (if s1.ptpOn port then s1.setPState port 1 else s1.setPState port 0) = s1.setPState port v := by
      split
      · exact ⟨1, rfl⟩
      · exact ⟨0, rfl⟩
    obtain ⟨v, hv⟩ := hv
    rw [hv] at hexec
    refine ⟨_, hexec, (State.Moves.setPState (own := []) (.setBit (.refl s) (by decide)) (by decide)).keeps,
      fun a ha => (w1.setPState _ _ (by decide)).reg ha, fun _ => ?_, fun h => absurd h h2⟩
    rw [State.linkBit_setPState w1.ok _ _ (by omega)]
    exact hl1

theorem execPathError_spec {mac : BitVec 48} {n : NetNode} (hs : s.inv = true) (hnode : s.nodesNow.find mac.toNat = some n) (hmode : s.netMode ≠ 2)
    (hp : s.powered = true) (herr : n.pathErr = false) (hone : n.onePath s.gt = true) :
    ∃ t, exec (.pathError mac) s = .next t ∧ s.keeps t (.net :: logParts) ∧ t.stuck Stk.NET_PATH = true ∧
      t.regN Reg.NET_PATHERR = min (s.regN Reg.NET_PATHERR + 1) (2 ^ 32 - 1) := by
  let s0 := s.netMod (fun x => { x with nodes := s.nodesNow.put mac.toNat { n with pathErr := true } })
  let s1 := s0.bump Reg.NET_PATHERR
  let t := (s1.stick Stk.NET_PATH).logRec 0x09 (evCode Stk.NET_PATH.file 1) []
  have hc : ¬ (s.netMode = 2 || !s.powered || n.pathErr || !n.onePath s.gt) = true := by simp [hmode, hp, herr, hone]
  have hexec : exec (.pathError mac) s = .next t := by
    show execPathError mac s = _
    unfold execPathError
    rw [hnode]
    exact congrArg Host.Outcome.next (if_neg hc)
  have w0 : s.Writes (· = Reg.NET_PATHERR) s0 := (State.Writes.refl (State.regsOk_of_inv hs)).netMod
  have hok1 : s1.regsOk = true := State.bump_ok _ w0.ok
  have wt : s1.Writes (· ∈ stickRegs Stk.NET_PATH) t := ((State.Writes.refl hok1).stick _ fun _ => id).logRec _ _ _ _ (by decide)
  have hst : (s1.stick Stk.NET_PATH).Sticks Reg.NET_STK t := (State.Sticks.refl (State.stick_ok _ hok1)).logRec (by decide)
  have hmoves : s.Moves [] (.net :: logParts) t := .logRec (.stick (.bump (.netMod (.refl s) id (by decide)) (by decide)) (by decide)) (by decide)
  refine ⟨t, hexec, hmoves.keeps, hst.stays _ rfl (State.stick_stuck _ hok1 (by decide) (by decide)), ?_⟩
  rw [wt.regN (by decide)]
  exact State.regN_bump w0.ok _

end

/-- Settles O35: each step by its equation. -/
theorem framesNodesAndLinks : Obligations.FramesNodesAndLinks :=
  ⟨fun _ _ _ hs hon hmode => ⟨execFrameRx_bad hs hon hmode, fun _ _ hlen hcrc htags hm hpause hptp hseq hnode hseen =>
      execFrameRx_copy hs hon hlen hcrc htags hm hpause hptp hseq hnode hseen⟩,
    execNodeTableAge_spec, fun _ => execPrpSupervisionTx_spec, fun _ _ => execLinkLoss_spec, fun _ _ _ => execLinkUp_spec,
    fun _ _ _ => execPathError_spec⟩

end Sys2Proof.Machine
end

section
/-!
PROOFS. PTP on its ports (R354, R356, R357): O36.
-/
namespace Sys2Proof.Machine

/-! ## Reading rules -/

theorem State.Writes.measure {m : Nat → Prop} {s t : State} (h : s.Writes m t) (o : Int) (hm : ∀ a ∈ Reg.GT_OFFSET :: qualRegs, m a) :
    s.Writes m (t.measure o) := by
  have hq : ∀ a ∈ qualRegs, m a := fun a ha => hm a (List.mem_cons_of_mem _ ha)
  unfold State.measure
  extract_lets s1 src s2 near s3 fresh n src3 s4
  have hs2 : s.Writes m s2 := (h.setRegN _ (hm _ List.mem_cons_self)).of_regs rfl
  have hs3 : s.Writes m s3 := .ite (hs2.bigOffset o hq) (hs2.servoRate (hq _ (by decide)))
  have hs4 : s.Writes m s4 := hs3.of_regs rfl
  exact .ite hs2 (.ite hs4 (hs4.enterQual _ hq))

section

variable {s t : State}

theorem State.pState_setPState (h : s.regsOk = true) {p v : Nat} (hv : v < 8) : (s.setPState p v).pState p = v := by
  unfold State.setPState State.pState
  split
  · exact (State.fld_setFld _ _ _ h (by decide)).trans (Nat.mod_eq_of_lt hv)
  · exact (State.fld_setFld _ _ _ h (by decide)).trans (Nat.mod_eq_of_lt hv)

theorem State.pState_setPState_other (h : s.regsOk = true) {p o : Nat} (v : Nat) (hp : p < 2) (ho : o = 1 - p) :
    (s.setPState o v).pState p = s.pState p := by
  unfold State.setPState State.pState
  obtain rfl | rfl : p = 0 ∨ p = 1 := by omega
  · rw [ho]
    exact State.fld_setFld_other _ _ _ _ h (by decide) (by decide)
  · rw [ho]
    exact State.fld_setFld_other _ _ _ _ h (by decide) (by decide)

theorem State.pState_of_reg (h : t.reg Reg.NET_STAT = s.reg Reg.NET_STAT) (p : Nat) : t.pState p = s.pState p := State.fld_of_reg h _

/-- A field of NET_STAT below or above those of PTP's states leaves them. -/
theorem State.pState_setFld (h : s.regsOk = true) {f : Fld} (v p : Nat) (hf : f.lo + f.w ≤ 4 ∨ 16 ≤ f.lo ∧ f.lo + f.w ≤ 32) :
    (s.setFld Reg.NET_STAT f v).pState p = s.pState p := by
  unfold State.pState
  split
  · refine State.fld_setFld_other _ _ F.NET_STAT_PSTATE0 _ h (by omega) ?_
    show 4 + 3 ≤ f.lo ∨ f.lo + f.w ≤ 4
    omega
  · refine State.fld_setFld_other _ _ F.NET_STAT_PSTATE1 _ h (by omega) ?_
    show 8 + 3 ≤ f.lo ∨ f.lo + f.w ≤ 8
    omega

theorem State.portOn_of_ptpOn {p : Nat} (h : s.ptpOn p = true) : s.portOn p = true :=
  ((Bool.and_eq_true _ _).mp ((Bool.and_eq_true _ _).mp h).1).2

theorem State.netSendOn_out {p : Nat} (h : s.portOn p = true) (seq : Option Nat) (x : NetTx) :
    s.netSendOn p seq x = { s with out := { s.out with net := s.out.net ++ [{ ports := 2 ^ p, seq := seq, tx := x }] } } := if_pos h

/-- A register that PTP's configuration and state do not stand in leaves what runs, and what is valid. -/
theorem State.ptpOn_setRegN {a n : Nat} (hok : s.regsOk = true) (ha : a ∉ [Reg.NET_STAT, Reg.NET_CTRL, Reg.NET_PTPCFG]) (p : Nat) :
    (s.setRegN a n).ptpOn p = s.ptpOn p := by
  have hne : ∀ b ∈ [Reg.NET_STAT, Reg.NET_CTRL, Reg.NET_PTPCFG], (s.setRegN a n).reg b = s.reg b :=
    fun b hb => State.reg_setRegN_ne n hok fun h => ha (h ▸ hb)
  have hstat := hne Reg.NET_STAT (by decide)
  have hctrl := hne Reg.NET_CTRL (by decide)
  have hcfg := hne Reg.NET_PTPCFG (by decide)
  simp only [State.ptpOn, State.portOn, State.netMode, State.linkBit, State.flag, State.fld_of_reg hctrl, State.fld_of_reg hcfg, hstat]
  rfl

theorem State.ptpValid_setRegN {a n : Nat} (hok : s.regsOk = true) (ha : a ∉ [Reg.NET_STAT, Reg.NET_CTRL, Reg.NET_PTPCFG]) (p : Nat) :
    (s.setRegN a n).ptpValid p = s.ptpValid p := by
  have hne : ∀ b ∈ [Reg.NET_STAT, Reg.NET_CTRL, Reg.NET_PTPCFG], (s.setRegN a n).reg b = s.reg b :=
    fun b hb => State.reg_setRegN_ne n hok fun h => ha (h ▸ hb)
  have hann : (s.setRegN a n).annOf p = s.annOf p := by
    unfold State.annOf
    rw [State.ptpOn_setRegN hok ha]
    rfl
  unfold State.ptpValid
  rw [State.pState_of_reg (hne _ (by decide)), hann, State.fld_of_reg (hne Reg.NET_PTPCFG (by decide))]
  rfl

/-! ## Announces -/

theorem State.Moves.net_kept {own may : List Part} (h : s.Moves own may t) (hm : .net ∉ may) : t.net = s.net := by
  obtain ⟨-, -, -, -, -, -, -, -, -, -, -, -, -, -, -, -, hnet, -⟩ := h.keeps
  exact hnet.resolve_left hm


theorem State.Writes.portSwitch {m : Nat → Prop} (h : s.Writes m t) {p : Nat} (hm : ∀ a ∈ Reg.NET_STAT :: stickRegs Stk.PTP_PORTSW, m a) :
    s.Writes m (t.portSwitch p) :=
  ((h.setFld _ _ (hm _ (by decide))).stick _ fun a ha => hm a (List.mem_cons_of_mem _ ha)).logRec _ _ _ _ fun a ha =>
    hm a (List.mem_cons_of_mem _ ((by decide : ∀ a ∈ logRegs, a ∈ stickRegs Stk.PTP_PORTSW) a ha))

/-- What an Announce shows of its port (R356, R357). -/
structure State.Slaved (t : State) (p : Nat) (a : PtpAnnounce) : Prop where
  slave : t.pState p = 3
  tport : t.fld Reg.NET_STAT F.NET_STAT_TPORT = p
  cls : t.fld Reg.NET_STAT F.NET_STAT_GMCLASS = a.cls % 256
  lo : t.regN Reg.NET_GMID_LO = a.gm.toNat % 2 ^ 32
  hi : t.regN Reg.NET_GMID_HI = a.gm.toNat / 2 ^ 32

theorem State.showGm_slaved {a : PtpAnnounce} {p : Nat} (h : s.regsOk = true) (hp : s.pState p = 3) (ht : s.fld Reg.NET_STAT F.NET_STAT_TPORT = p) :
    (s.showGm a).Slaved p a := by
  let s1 := s.setRegN Reg.NET_GMID_LO a.gm.toNat
  let s2 := s1.setRegN Reg.NET_GMID_HI (a.gm.toNat / 2 ^ 32)
  let s3 := s2.setFld Reg.NET_STAT F.NET_STAT_GMCLASS a.cls
  let t := s3.stickIf (decide (s.fld Reg.NET_PTPCFG F.NET_PTPCFG_CLASSMAX < a.cls)) Stk.PTP_CLASS
  have heq : s.showGm a = t := rfl
  have w1 : s.Writes (· = Reg.NET_GMID_LO) s1 := (State.Writes.refl h).setRegN _ rfl
  have w2 : s1.Writes (· = Reg.NET_GMID_HI) s2 := (State.Writes.refl w1.ok).setRegN _ rfl
  have w3 : s2.Writes (· = Reg.NET_STAT) s3 := (State.Writes.refl w2.ok).setFld _ _ rfl
  have wt : s3.Writes (· ∈ stickRegs Stk.PTP_CLASS) t := (State.Writes.refl w3.ok).stickIf _ _ fun _ => id
  have hstat2 : s2.reg Reg.NET_STAT = s.reg Reg.NET_STAT := (w2.reg (by decide)).trans (w1.reg (by decide))
  rw [heq]
  refine ⟨?_, ?_, ?_, ?_, ?_⟩
  · rw [State.pState_of_reg (wt.reg (by decide)), State.pState_setFld w2.ok _ _ (by decide), State.pState_of_reg hstat2, hp]
  · rw [wt.fld _ (by decide), State.fld_setFld_other _ _ _ _ w2.ok (by decide) (by decide), State.fld_of_reg hstat2, ht]
  · rw [wt.fld _ (by decide)]
    exact State.fld_setFld _ _ _ w2.ok (by decide)
  · rw [wt.regN (by decide), w3.regN (by decide), w2.regN (by decide)]
    exact State.regN_setRegN _ _ h
  · rw [wt.regN (by decide), w3.regN (by decide)]
    have := a.gm.isLt
    exact (State.regN_setRegN _ _ w1.ok).trans (Nat.mod_eq_of_lt (by omega))

/-- Where only one port holds an Announce, the best master algorithm makes it the SLAVE and the time port (R357). -/
theorem State.bmca_slaved {a : PtpAnnounce} {p : Nat} (h : s.regsOk = true) (hp : p < 2) (hann : s.annOf p = some a) (hother : s.annOf (1 - p) = none)
    (hst : s.pState p ≠ 4) : s.bmca.Slaved p a := by
  have hbest : s.bestPort = some p := by
    unfold State.bestPort
    obtain rfl | rfl : p = 0 ∨ p = 1 := by omega
    · rw [hann, hother]
    · rw [hann, hother]
  let s1 := s.setPState p 3
  let s2 := if s1.ptpOn (1 - p) then s1.setPState (1 - p) 1 else s1
  let s3 := if s.pState (1 - p) == 3 && s.fld Reg.NET_STAT F.NET_STAT_TPORT ≠ p then s2.portSwitch p else s2.setFld Reg.NET_STAT F.NET_STAT_TPORT p
  have heq : s.bmca = s3.showGm a := by
    unfold State.bmca
    rw [hbest]
    dsimp only
    rw [if_neg (by simp [hst]), hann, hother]
  have w1 : s.Writes (· = Reg.NET_STAT) s1 := (State.Writes.refl h).setPState _ _ rfl
  have hp1 : s1.pState p = 3 := State.pState_setPState h (by decide)
  have w2 : s.Writes (· = Reg.NET_STAT) s2 := .ite (w1.setPState _ _ rfl) w1
  have hp2 : s2.pState p = 3 := by
    dsimp only [s2]
    split
    · exact (State.pState_setPState_other w1.ok _ hp rfl).trans hp1
    · exact hp1
  let u := s2.setFld Reg.NET_STAT F.NET_STAT_TPORT p
  have wu : s2.Writes (· = Reg.NET_STAT) u := (State.Writes.refl w2.ok).setFld _ _ rfl
  have hu : u.pState p = 3 := (State.pState_setFld w2.ok _ _ (by decide)).trans hp2
  have hut : u.fld Reg.NET_STAT F.NET_STAT_TPORT = p := (State.fld_setFld _ _ _ w2.ok (by decide)).trans (Nat.mod_eq_of_lt hp)
  have hus : u.Writes (· ∈ stickRegs Stk.PTP_PORTSW) (s2.portSwitch p) := ((State.Writes.refl wu.ok).stick _ fun _ => id).logRec _ _ _ _ (by decide)
  have w3 : u.Writes (· ∈ stickRegs Stk.PTP_PORTSW) s3 := .ite hus (.refl wu.ok)
  rw [heq]
  refine State.showGm_slaved w3.ok ?_ ?_
  · exact (State.pState_of_reg (w3.reg (by decide)) _).trans hu
  · exact (w3.fld _ (by decide)).trans hut

section

variable {port : Fin 2} (hs : s.inv = true) (hon : s.ptpOn port = true)

include hs

theorem State.ptp_length : port.val < s.net.ptp.length := by
  have h : s.net.ptp.length = 2 := (State.sized_of_inv hs).net.2.1
  omega

include hon

theorem execAnnounceRx_spec {a : PtpAnnounce} (hdom : a.domain = s.ptpDomain) :
    ∃ t, exec (.announceRx port a) s = .next t ∧ s.keeps t (.net :: logParts) ∧ (t.net.ptp.at port).ann = some a ∧
      (t.net.ptp.at port).annAt = s.gt ∧
      (s.annOf (1 - port.val) = none → s.pState port ≠ 4 →
        t.pState port = 3 ∧ t.fld Reg.NET_STAT F.NET_STAT_TPORT = port.val ∧ t.fld Reg.NET_STAT F.NET_STAT_GMCLASS = a.cls % 256 ∧
          t.regN Reg.NET_GMID_LO = a.gm.toNat % 2 ^ 32 ∧ t.regN Reg.NET_GMID_HI = a.gm.toNat / 2 ^ 32) := by
  let s1 := s.ptpMod port (fun x => { x with ann := some a, annAt := s.gt })
  have hc : ¬ (!s.ptpOn port || a.domain ≠ s.ptpDomain) = true := by simp [hon, hdom]
  have hexec : exec (.announceRx port a) s = .next s1.bmca := congrArg Host.Outcome.next (if_neg hc)
  have hm1 : s1.Moves [] logParts s1.bmca := .bmca (.refl s1) (by decide)
  have hm : s.Moves [] (.net :: logParts) s1 := .ptpMod (.refl s) (by decide)
  have hnet : s1.bmca.net = s1.net := hm1.net_kept (by decide)
  have hat : s1.net.ptp.at port = { s.net.ptp.at port with ann := some a, annAt := s.gt } := Tab.at_mod_same _ _ _ (State.ptp_length hs)
  refine ⟨_, hexec, (hm.trans (hm1.mono (by decide))).keeps, ?_, ?_, fun hother hst => ?_⟩
  · rw [hnet, hat]
  · rw [hnet, hat]
  · have hok1 : s1.regsOk = true := State.regsOk_of_inv (hm.inv hs)
    have hann : s1.annOf port = some a := by
      unfold State.annOf
      dsimp only
      rw [hat]
      exact if_pos (by simp [show s1.ptpOn port = true from hon, show s1.gt = s.gt from rfl, tickSec])
    have hne : s1.net.ptp.at (1 - port.val) = s.net.ptp.at (1 - port.val) := Tab.at_mod_ne _ _ (by omega)
    have hnone : s1.annOf (1 - port.val) = none := by
      unfold State.annOf at hother ⊢
      rw [hne]
      exact hother
    obtain ⟨h1, h2, h3, h4, h5⟩ := State.bmca_slaved hok1 port.isLt hann hnone hst
    exact ⟨h1, h2, h3, h4, h5⟩

/-! ## Syncs -/

theorem execSyncRx_spec {m : PtpSync} (hdom : m.domain = s.ptpDomain) (hst : s.pState port = 3) :
    ∃ t, exec (.syncRx port m) s = .next t ∧ s.keeps t ([.tim, .pan, .freeN] ++ logParts) ∧ t.net = s.net ∧
      t.regN (Reg.NET_PTPOFS port) = lowBits 32 (satTo 32 ((m.rxGt : Int) - s.regN (Reg.NET_PTPDLY port) -
        roundDiv ((m.origin : Int) * 2 ^ 16 + m.corr) (2 ^ 17))) ∧
      t.flag Reg.NET_STAT F.NET_STAT_TVALID = s.ptpValid port ∧
      (s.fld Reg.GT_CTRL F.GT_CTRL_SRC ≠ 1 → s.keeps t [.regs] ∧ s.sameRegs t [Reg.NET_PTPOFS port, Reg.NET_STAT]) := by
  let o := syncOffset m (s.regN (Reg.NET_PTPDLY port))
  let s2 := s.setRegN (Reg.NET_PTPOFS port) (lowBits 32 (satTo 32 o))
  let s3 := s2.setFld Reg.NET_STAT F.NET_STAT_TVALID (bit (s2.ptpValid port))
  let t := if s3.fld Reg.GT_CTRL F.GT_CTRL_SRC ≠ 1 then s3
    else if s2.ptpValid port then s3.measure o else s3.setRegN Reg.GT_OFFSET (lowBits 32 (satTo 32 o))
  have hc1 : ¬ (!s.ptpOn port || m.domain ≠ s.ptpDomain) = true := by simp [hon, hdom]
  have hc2 : ¬ (s.pState port = 4 && s.pState (1 - port.val) ≠ 3) = true := by simp [hst]
  have hexec : exec (.syncRx port m) s = .next t := by
    refine congrArg Host.Outcome.next ((if_neg hc1).trans ?_)
    dsimp only
    rw [if_neg hc2, if_neg (by simp [hst]), if_neg (by simp [hst])]
  have hregs : ∀ p : Fin 2, Reg.NET_PTPOFS p ∉ [Reg.NET_STAT, Reg.NET_CTRL, Reg.NET_PTPCFG] ∧ Reg.NET_PTPOFS p ∉ Reg.GT_OFFSET :: qualRegs ∧
    Reg.GT_CTRL ≠ Reg.NET_PTPOFS p := by decide
  obtain ⟨hcfg, hgt, hctrl⟩ := hregs port
  have hsok : s.regsOk = true := State.regsOk_of_inv hs
  have w2 : s.Writes (· = Reg.NET_PTPOFS port) s2 := (State.Writes.refl hsok).setRegN _ rfl
  have w3 : s2.Writes (· = Reg.NET_STAT) s3 := (State.Writes.refl w2.ok).setFld _ _ rfl
  have wt : s3.Writes (· ∈ Reg.GT_OFFSET :: qualRegs) t :=
    .ite (.refl w3.ok) (.ite ((State.Writes.refl w3.ok).measure _ fun _ => id) ((State.Writes.refl w3.ok).setRegN _ (by decide)))
  have hm3 : s.Moves [] [.regs] s3 := .setFld (.setRegN (.refl s) (by decide)) (by decide)
  have hmt : s3.Moves [] ([.tim, .pan, .freeN] ++ logParts) t :=
    .ite (.refl s3) (.ite (.measure (.refl s3) (by decide)) (.setRegN (.refl s3) (by decide)))
  have hne : Reg.NET_PTPOFS port ≠ Reg.NET_STAT := fun h => hcfg (h ▸ List.mem_cons_self)
  refine ⟨t, hexec, ((hm3.mono (by decide)).trans hmt).keeps, ?_, ?_, ?_, fun hsrc => ?_⟩
  · exact (hmt.net_kept (by decide)).trans (hm3.net_kept (by decide))
  · rw [wt.regN hgt, w3.regN hne, State.regN_setRegN _ _ hsok, Nat.mod_eq_of_lt (satTo_lowBits_lt 32 _)]
    rfl
  · rw [wt.flag _ (by decide), State.flag_setFld w2.ok _ _ _ (by decide), State.ptpValid_setRegN hsok hcfg]
    cases s.ptpValid port <;> rfl
  · have hsrc3 : s3.fld Reg.GT_CTRL F.GT_CTRL_SRC ≠ 1 := by rwa [w3.fld _ (by decide), w2.fld _ hctrl]
    have ht : t = s3 := if_pos hsrc3
    have w : s.Writes (fun a => a ∈ [Reg.NET_PTPOFS port, Reg.NET_STAT]) s3 :=
      (w2.mono fun _ h => h ▸ List.mem_cons_self).setFld _ _ (by simp)
    rw [ht]
    exact ⟨hm3.keeps, fun a ha => w.reg ha⟩

/-! ## Peer delays -/

omit hs in
theorem execPdelayReqRx_spec {domain seq : Nat} (hdom : domain = s.ptpDomain) :
    ∃ t t3, exec (.pdelayReqRx port domain seq) s = .next t ∧ s.keeps t [.out, .freeN] ∧
      t.out.net = s.out.net ++ [{ ports := 2 ^ port.val, seq := none, tx := .pdelayResp seq s.gt },
        { ports := 2 ^ port.val, seq := none, tx := .pdelayFollow seq t3 }] := by
  let s1 := s.netSendOn port none (.pdelayResp seq s.gt)
  let s2 := s1.netSendOn port none (.pdelayFollow seq s.freeNow)
  have hc : ¬ (!s.ptpOn port || domain ≠ s.ptpDomain) = true := by simp [hon, hdom]
  have hexec : exec (.pdelayReqRx port domain seq) s = .next s2.freeStep := congrArg Host.Outcome.next (if_neg hc)
  have hp : s.portOn port = true := State.portOn_of_ptpOn hon
  have h1 : s1 = { s with out := { s.out with net := s.out.net ++ [{ ports := 2 ^ port.val, seq := none, tx := .pdelayResp seq s.gt }] } } :=
    State.netSendOn_out hp _ _
  have hp1 : s1.portOn port = true := by rw [h1]; exact hp
  have h2 : s2 = { s1 with out := { s1.out with net := s1.out.net ++
      [{ ports := 2 ^ port.val, seq := none, tx := .pdelayFollow seq s.freeNow }] } } := State.netSendOn_out hp1 _ _
  have hmoves : s.Moves [] [.out, .freeN] s2.freeStep := .freeStep (.netSendOn (.netSendOn (.refl s) (by decide)) (by decide)) (by decide)
  refine ⟨_, s.freeNow, hexec, hmoves.keeps, ?_⟩
  show s2.out.net = _
  rw [h2, h1]
  exact List.append_assoc _ _ _

theorem execPdelayReqTx_spec :
    ∃ t, exec (.pdelayReqTx port) s = .next t ∧ s.keeps t [.gt, .net, .out] ∧ (t.net.ptp.at port).reqSeq = (s.net.ptp.at port).reqSeq + 1 ∧
      (t.net.ptp.at port).reqAt = t.gt ∧
      t.out.net = s.out.net ++ [{ ports := 2 ^ port.val, seq := none, tx := .pdelayReq (s.net.ptp.at port).reqSeq }] ∧
      ((s.net.ptp.at port).reqSeq ≠ 0 → t.gt = (s.gtTo ((s.net.ptp.at port).reqAt + 500000000)).gt) := by
  let x := s.net.ptp.at port
  let s1 := if x.reqSeq = 0 then s else s.gtTo (x.reqAt + tickSec)
  let s2 := s1.netSendOn port none (.pdelayReq x.reqSeq)
  let t := s2.ptpMod port (fun y => { y with reqSeq := y.reqSeq + 1, reqAt := s1.gt })
  have hexec : exec (.pdelayReqTx port) s = .next t := congrArg Host.Outcome.next (if_neg (by simp [hon]))
  have hgt1 : x.reqSeq ≠ 0 → s1.gt = (s.gtTo (x.reqAt + 500000000)).gt := fun h => congrArg State.gt (if_neg h)
  obtain ⟨g, hs1⟩ : ∃ g, s1 = { s with gt := g } := by
    dsimp only [s1]
    split
    · exact ⟨s.gt, rfl⟩
    · exact State.gtTo_eq _ _
  have hm1 : s.Moves [] [.gt, .net, .out] s1 := .ite (.refl s) (.gtTo (.refl s) (by decide))
  have hp1 : s1.portOn port = true := by rw [hs1]; exact State.portOn_of_ptpOn hon
  have hnet1 : s1.net = s.net := by rw [hs1]
  have hout1 : s1.out = s.out := by rw [hs1]
  have h2 : s2 = { s1 with out := { s1.out with net := s1.out.net ++ [{ ports := 2 ^ port.val, seq := none, tx := .pdelayReq x.reqSeq }] } } :=
    State.netSendOn_out hp1 _ _
  have hgt2 : s2.gt = s1.gt := by rw [h2]
  have hnet2 : s2.net = s.net := by rw [h2]; exact hnet1
  have hout2 : s2.out.net = s.out.net ++ [{ ports := 2 ^ port.val, seq := none, tx := .pdelayReq x.reqSeq }] := by
    rw [h2, ← hout1]
  have hm : s.Moves [] [.gt, .net, .out] t := .ptpMod (.netSendOn hm1 (by decide)) (by decide)
  have hat : t.net.ptp.at port = { x with reqSeq := x.reqSeq + 1, reqAt := s1.gt } := by
    show (s2.net.ptp.mod port _).at port = _
    rw [hnet2]
    exact Tab.at_mod_same _ _ _ (State.ptp_length hs)
  clear_value s2
  refine ⟨t, hexec, hm.keeps, ?_, ?_, hout2, fun h => hgt2.trans (hgt1 h)⟩
  · rw [hat]
  · rw [hat]
    exact hgt2.symm

theorem execPdelayRespRx_spec {m : PtpDelay} (hdom : m.domain = s.ptpDomain) (hseq : (s.net.ptp.at port).reqSeq ≠ 0) :
    ∃ t, exec (.pdelayRespRx port m) s = .next t ∧ s.keeps t [.regs, .net] ∧ s.sameRegs t [Reg.NET_PTPDLY port] ∧
      (t.net.ptp.at port).delayAt = some s.gt ∧
      t.regN (Reg.NET_PTPDLY port) = lowBits 32 (roundDiv
        ((((m.rxGt : Int) - (s.net.ptp.at port).reqAt) * 2 - ((m.t3 : Int) - m.t2)) * 2 ^ 16 - m.corr) (2 ^ 18)) := by
  let d := roundDiv ((((m.rxGt : Int) - (s.net.ptp.at port).reqAt) * 2 - ((m.t3 : Int) - m.t2)) * 2 ^ 16 - m.corr) (2 ^ 18)
  let s1 := s.setRegN (Reg.NET_PTPDLY port) (lowBits 32 d)
  let t := s1.ptpMod port (fun y => { y with delayAt := some s.gt })
  have hc : ¬ (!s.ptpOn port || m.domain ≠ s.ptpDomain || (s.net.ptp.at port).reqSeq = 0) = true := by simp [hon, hdom, hseq]
  have hexec : exec (.pdelayRespRx port m) s = .next t := congrArg Host.Outcome.next (if_neg hc)
  have hsok : s.regsOk = true := State.regsOk_of_inv hs
  have w1 : s.Writes (fun a => a ∈ [Reg.NET_PTPDLY port]) s1 := (State.Writes.refl hsok).setRegN _ List.mem_cons_self
  have hm : s.Moves [] [.regs, .net] t := .ptpMod (.setRegN (.refl s) (by decide)) (by decide)
  refine ⟨t, hexec, hm.keeps, fun a ha => w1.reg ha, ?_, ?_⟩
  · exact congrArg PtpPort.delayAt (Tab.at_mod_same s.net.ptp port.val _ (State.ptp_length hs))
  · exact (State.regN_setRegN _ _ hsok).trans (Nat.mod_eq_of_lt (satTo_lowBits_lt 32 _))

/-! ## The loss of the Announce -/

theorem execAnnounceTimeout_spec (htp : s.fld Reg.NET_STAT F.NET_STAT_TPORT = port.val) (hst : s.pState port = 3) :
    ∃ t, exec .announceTimeout s = .next t ∧ s.keeps t [.gt, .regs, .net] ∧ t.pState port = 1 ∧ t.flag Reg.NET_STAT F.NET_STAT_TVALID = false ∧
      (t.net.ptp.at port).ann = none ∧ t.gt = (s.gtTo ((s.net.ptp.at port).annAt + 1500000000)).gt := by
  let s1 := s.gtTo ((s.net.ptp.at port).annAt + 1500000000)
  let s2 := s1.setPState port 1
  let s3 := s2.setFld Reg.NET_STAT F.NET_STAT_TVALID 0
  let t := s3.ptpMod port (fun y => { y with ann := none })
  have hexec : exec .announceTimeout s = .next t := by
    show execAnnounceTimeout s = _
    unfold execAnnounceTimeout
    rw [htp]
    exact congrArg Host.Outcome.next (if_neg (by simp [hst, hon]))
  have hm1 : s.Moves [] [.gt, .regs, .net] s1 := .gtTo (.refl s) (by decide)
  have hgt1 : s1.gt = (s.gtTo ((s.net.ptp.at port).annAt + 1500000000)).gt := rfl
  have hnet1 : s1.net = s.net := State.gtTo_net _ _
  have hok1 : s1.regsOk = true := State.regsOk_of_inv (hm1.inv hs)
  clear_value s1
  have hok2 : s2.regsOk = true := State.setFld_ok _ _ _ hok1
  have hm : s.Moves [] [.gt, .regs, .net] t := .ptpMod (.setFld (.setPState hm1 (by decide)) (by decide)) (by decide)
  refine ⟨t, hexec, hm.keeps, ?_, State.flag_setFld hok2 Reg.NET_STAT F.NET_STAT_TVALID 0 (by decide), ?_, hgt1⟩
  · exact (State.pState_setFld hok2 _ _ (by decide)).trans (State.pState_setPState hok1 (by decide))
  · refine congrArg PtpPort.ann ((Tab.at_mod_same s1.net.ptp port.val _ ?_).trans rfl)
    rw [hnet1]
    exact State.ptp_length hs

end

end

/-- Settles O36: each step by its equation, the best master algorithm where one port alone holds an Announce. -/
theorem ptpFollowsItsTimePort : Obligations.PtpFollowsItsTimePort := by
  intro s port hs hon
  exact ⟨fun _ => execAnnounceRx_spec hs hon, fun _ => execSyncRx_spec hs hon, fun _ _ => execPdelayReqRx_spec hon, execPdelayReqTx_spec hs hon,
    fun _ => execPdelayRespRx_spec hs hon, execAnnounceTimeout_spec hs hon⟩

end Sys2Proof.Machine
end

section
/-!
PROOFS. What sticky bits and records change of the mailbox and of the output port: the interrupt to the host and the mark of a host event (R425, R491).
-/
namespace Sys2Proof.Machine

/-- The mailbox and the output port but for the interrupts to the host and the mark of its event. -/
structure State.Events (s t : State) : Prop where
  out : ∃ l, t.out = { s.out with msix := l }
  mbx : ∃ b, t.mbx = { s.mbx with evPend := b }

namespace State.Events

variable {s t u : State}

theorem of_eq (ho : t.out = s.out) (hm : t.mbx = s.mbx) : s.Events t := ⟨⟨s.out.msix, ho⟩, ⟨s.mbx.evPend, hm⟩⟩

theorem refl (s : State) : s.Events s := of_eq rfl rfl

theorem trans (h : s.Events t) (k : t.Events u) : s.Events u := by
  obtain ⟨⟨l, hl⟩, ⟨b, hb⟩⟩ := h
  obtain ⟨⟨l', hl'⟩, ⟨b', hb'⟩⟩ := k
  exact ⟨⟨l', by rw [hl', hl]⟩, ⟨b', by rw [hb', hb]⟩⟩

theorem andEq (h : s.Events t) (ho : u.out = t.out) (hm : u.mbx = t.mbx) : s.Events u := h.trans (of_eq ho hm)

theorem frames (h : s.Events t) : t.out.frames = s.out.frames := by
  obtain ⟨⟨l, hl⟩, -⟩ := h
  rw [hl]

theorem ite {c : Prop} [Decidable c] (ht : s.Events t) (hu : s.Events u) : s.Events (if c then t else u) := by
  split
  · exact ht
  · exact hu

theorem foldl {α : Type} {f : State → α → State} {l : List α} (hf : ∀ v x, s.Events v → s.Events (f v x)) (h : s.Events t) :
    s.Events (l.foldl f t) := by
  induction l generalizing t with
  | nil => exact h
  | cons x l ih => exact ih (hf t x h)

theorem setReg (h : s.Events t) {a : Nat} {v : Word} : s.Events (t.setReg a v) := h.andEq rfl rfl
theorem setRegN (h : s.Events t) {a n : Nat} : s.Events (t.setRegN a n) := h.andEq rfl rfl
theorem setFld (h : s.Events t) {a : Nat} {f : Fld} {n : Nat} : s.Events (t.setFld a f n) := h.andEq rfl rfl
theorem setBit (h : s.Events t) {a i : Nat} {b : Bool} : s.Events (t.setBit a i b) := h.andEq rfl rfl
theorem bump (h : s.Events t) {a : Nat} : s.Events (t.bump a) := h.andEq rfl rfl
theorem netMod (h : s.Events t) {f : NetState → NetState} : s.Events (t.netMod f) := h.andEq rfl rfl
theorem pwrMod (h : s.Events t) {f : PowerState → PowerState} : s.Events (t.pwrMod f) := h.andEq rfl rfl

theorem hostEvent (h : s.Events t) : s.Events t.hostEvent := by
  refine h.trans ?_
  unfold State.hostEvent
  split
  · split
    · exact ⟨⟨_, rfl⟩, ⟨_, rfl⟩⟩
    · exact ⟨⟨_, rfl⟩, ⟨_, rfl⟩⟩
  · exact refl t

theorem markStk (h : s.Events t) {k : Stk} : s.Events (t.markStk k) := by
  unfold State.markStk
  extract_lets +onlyGivenNames u
  have hu : s.Events u := h.setBit.hostEvent
  split
  · exact hu
  · exact hu.andEq rfl rfl

theorem enqueue (h : s.Events t) {rs : List LogRec} {pin : Bool} : s.Events (t.enqueue rs pin) := by
  unfold State.enqueue
  exact .ite (h.andEq rfl rfl) (h.andEq rfl rfl)

theorem stkRecord (h : s.Events t) {k : Stk} : s.Events (t.stkRecord k) := by
  unfold State.stkRecord
  dsimp only
  split
  · exact h.andEq rfl rfl
  · split
    · exact h.enqueue.andEq rfl rfl
    · exact h.enqueue

theorem overflowStk (h : s.Events t) {n : Nat} : s.Events (t.overflowStk n) := by
  unfold State.overflowStk
  exact .ite h h.markStk.stkRecord

theorem stick (h : s.Events t) {k : Stk} : s.Events (t.stick k) := by
  unfold State.stick
  exact .ite h h.markStk.stkRecord.overflowStk

theorem stickIf (h : s.Events t) {c : Bool} {k : Stk} : s.Events (t.stickIf c k) := .ite h.stick h

theorem logRec (h : s.Events t) {typ code : Nat} {ws : List Word} {pin : Bool} : s.Events (t.logRec typ code ws pin) := by
  unfold State.logRec
  exact h.enqueue.overflowStk

end State.Events

end Sys2Proof.Machine
end

section
/-!
PROOFS. The watch link: beacons, its requests, its end, and the wake by P2 (R378 to R380, R474): O38.
-/
namespace Sys2Proof.Machine

section

variable {s t : State}

/-! ## Admission and sending -/

theorem State.p2Admits_of_kept (hr : t.regs = s.regs) (hd : t.dev = s.dev) (hp : t.pwr = s.pwr) : t.p2Admits = s.p2Admits := by
  have hf : ∀ a f, t.fld a f = s.fld a f := fun a => State.fld_of_reg (State.reg_of_regs hr a)
  simp only [State.p2Admits, State.admits, State.mainOk, State.keepSrc, State.storeAdmits, State.hstoreMv, State.floorMv, State.offMv, State.p2Cost,
    State.flag, hf, hd, hp]
  rfl

/-- A frame of P2 leaves behind those that left before it, and beside the charge nothing changes. -/
theorem State.p2Send_spec (s : State) (bytes : List Byte) :
    s.Moves [] [.pwr, .out] (s.p2Send bytes) ∧ (s.p2Send bytes).out.frames = s.out.frames ++ [(2, bytes)] := by
  have hout : (if s.dev == .watch then s.charge s.p2Cost else s).out = s.out := by
    split
    · unfold State.charge
      split <;> rfl
    · rfl
  refine ⟨.p2Send (.refl s) (by decide), ?_⟩
  unfold State.p2Send State.send
  dsimp only
  rw [hout]

/-- What a burst that is not admitted leaves (R484). -/
theorem State.p2Defer_spec (h : s.regsOk = true) : s.p2Defer.stuck Stk.TL_DEFER = true ∧ s.p2Defer.out.frames = s.out.frames ∧
    s.p2Defer.regN Reg.NET_TLDEFER = min (s.regN Reg.NET_TLDEFER + 1) (2 ^ 32 - 1) := by
  let s1 := s.deferBurst
  let s2 := s1.bump Reg.NET_TLDEFER
  have heq : s.p2Defer = s2.stick Stk.TL_DEFER := rfl
  have w1 : s.Writes (fun a => a = Reg.CLK_DEFERCNT ∨ a ∈ stickRegs Stk.BURST_DEFER) s1 := ((State.Writes.refl h).bump (.inl rfl)).stick _ fun _ => .inr
  have h2 : s2.regsOk = true := State.bump_ok _ w1.ok
  have w3 : s2.Writes (· ∈ stickRegs Stk.TL_DEFER) (s2.stick Stk.TL_DEFER) := (State.Writes.refl h2).stick _ fun _ => id
  have hev : s.Events (s2.stick Stk.TL_DEFER) := (State.Events.refl s).bump.stick.bump.stick
  rw [heq]
  refine ⟨State.stick_stuck _ h2 (by decide) (by decide), hev.frames, ?_⟩
  rw [w3.regN (by decide), State.regN_bump w1.ok, w1.regN (by decide)]

theorem length_statusPayload (s : State) : s.statusPayload.length = 18 := by simp [State.statusPayload, length_beBytes]

/-! ## Beacons -/

theorem execBeacon_spec (hs : s.inv = true) (hup : s.p2Up = true) :
    ∃ t, exec .beacon s = .next t ∧ s.keeps t ([.gt, .pwr, .net] ++ logParts) ∧ t.net.beaconAt = t.gt ∧
      t.gt = (s.gtTo (s.net.beaconAt + clampNat 1 3600 (s.fld Reg.NET_TLCFG F.NET_TLCFG_BEACON) * 500000000)).gt ∧
      (s.p2Admits = true → t.net.watchSeq = (s.net.watchSeq + 1) % 65536 ∧ t.net.beaconDue = false ∧
        ∃ p, p.length = 18 ∧ t.out.frames = s.out.frames ++ [(2, watchFrame 1 s.net.watchSeq p)]) ∧
      (s.p2Admits = false → t.net.beaconDue = true ∧ t.stuck Stk.TL_DEFER = true ∧ t.out.frames = s.out.frames ∧
        t.regN Reg.NET_TLDEFER = min (s.regN Reg.NET_TLDEFER + 1) (2 ^ 32 - 1)) := by
  let s1 := s.gtTo (s.net.beaconAt + clampNat 1 3600 (s.fld Reg.NET_TLCFG F.NET_TLCFG_BEACON) * 500000000)
  let u := s1.netMod (fun n => { n with beaconAt := s1.gt })
  have hexec : exec .beacon s = .next (if u.p2Admits then u.beaconSend else (u.p2Defer).netMod (fun n => { n with beaconDue := true })) :=
    congrArg Host.Outcome.next (if_neg (by simp [hup]))
  have hmu : s.Moves [] ([.gt, .pwr, .net] ++ logParts) u := .netMod (.gtTo (.refl s) (by decide)) id (by decide)
  have hgtu : u.gt = (s.gtTo (s.net.beaconAt + clampNat 1 3600 (s.fld Reg.NET_TLCFG F.NET_TLCFG_BEACON) * 500000000)).gt := rfl
  have hnetu : u.net = { s.net with beaconAt := u.gt } := by
    show { s1.net with beaconAt := s1.gt } = _
    rw [show s1.net = s.net from State.gtTo_net _ _]
    rfl
  have hregsu : u.regs = s.regs := State.gtTo_regs _ _
  have houtu : u.out = s.out := State.gtTo_out _ _
  have hadm : u.p2Admits = s.p2Admits := State.p2Admits_of_kept hregsu (State.gtTo_dev _ _) (State.gtTo_pwr _ _)
  clear_value u
  rw [hadm] at hexec
  cases hb : s.p2Admits with
  | true =>
    rw [if_pos hb] at hexec
    let v := u.p2Send (watchFrame 1 u.net.watchSeq u.statusPayload)
    obtain ⟨hmv, hv⟩ : u.Moves [] [.pwr, .out] v ∧ v.out.frames = u.out.frames ++ [(2, watchFrame 1 u.net.watchSeq u.statusPayload)] :=
      State.p2Send_spec u _
    let t := v.netMod (fun n => { n with watchSeq := (n.watchSeq + 1) % 65536, beaconDue := false })
    have ht : u.beaconSend = t := rfl
    have hgtv : v.gt = u.gt := hmv.gt_kept (by decide)
    have hnet : t.net = { u.net with watchSeq := (u.net.watchSeq + 1) % 65536, beaconDue := false } := by
      show (fun n : NetState => { n with watchSeq := (n.watchSeq + 1) % 65536, beaconDue := false }) v.net = _
      rw [hmv.net_kept (by decide)]
    have hfr : t.out.frames = v.out.frames := rfl
    have hgt : t.gt = v.gt := rfl
    have hmt : s.Moves [] ([.gt, .pwr, .net] ++ logParts) t := (hmu.trans (hmv.mono (by decide))).netMod id (by decide)
    clear_value t v
    rw [ht] at hexec
    refine ⟨t, hexec, hmt.keeps, ?_, ?_, fun _ => ⟨?_, ?_, u.statusPayload, length_statusPayload u, ?_⟩, fun h => absurd h (by decide)⟩
    · rw [hnet, hnetu, hgt, hgtv]
    · rw [hgt, hgtv, hgtu]
    · rw [hnet, hnetu]
    · rw [hnet]
    · rw [hfr, hv, houtu, hnetu]
  | false =>
    rw [if_neg (by simp [hb])] at hexec
    have hmd : u.Moves [] logParts u.p2Defer := .p2Defer (.refl u) (by decide)
    have hoku : u.regsOk = true := State.regsOk_of_inv (hmu.inv hs)
    obtain ⟨hst, hfr, hcnt⟩ := State.p2Defer_spec hoku
    have hnet : u.p2Defer.net = u.net := hmd.net_kept (by decide)
    have hgt : u.p2Defer.gt = u.gt := hmd.gt_kept (by decide)
    refine ⟨_, hexec, ((hmu.trans (hmd.mono (by decide))).netMod id (by decide)).keeps, ?_, hgt.trans hgtu, fun h => absurd h (by decide),
      fun _ => ⟨rfl, hst, ?_, ?_⟩⟩
    · show u.p2Defer.net.beaconAt = u.p2Defer.gt
      rw [hnet, hgt, hnetu]
    · exact hfr.trans (by rw [houtu])
    · exact hcnt.trans (by rw [State.regN_of_reg (State.reg_of_regs hregsu _)])

/-! ## Requests -/

theorem execStatusReq_spec (seq : Fin 65536) (hup : s.p2Up = true) (hadm : s.p2Admits = true) :
    ∃ t, exec (.statusReq seq) s = .next t ∧ s.keeps t [.pwr, .net, .out] ∧ t.net.lastWatch = s.gt ∧
      t.out.frames = s.out.frames ++ [(2, watchFrame 3 seq s.statusPayload)] := by
  let u := s.netMod (fun n => { n with lastWatch := s.gt })
  have hadmu : u.p2Admits = true := hadm
  have hexec : exec (.statusReq seq) s = .next (u.p2Send (watchFrame 3 seq u.statusPayload)) :=
    congrArg Host.Outcome.next ((if_neg (by simp [hup])).trans (if_pos hadmu))
  obtain ⟨hm, hfr⟩ := State.p2Send_spec u (watchFrame 3 seq u.statusPayload)
  have hmu : s.Moves [] [.pwr, .net, .out] u := .netMod (.refl s) id (by decide)
  refine ⟨_, hexec, (hmu.trans (hm.mono (by decide))).keeps, ?_, hfr⟩
  rw [hm.net_kept (by decide)]
  rfl

/-- No more good records are taken than were asked for. -/
theorem length_takeGood_ok (n : Nat) (l : List LogRec) : ((takeGood n l).filter (fun r => r.ok)).length ≤ n := by
  induction l generalizing n with
  | nil => cases n <;> simp [takeGood]
  | cons r l ih =>
    cases n with
    | zero => simp [takeGood]
    | succ n =>
      rw [takeGood]
      by_cases hr : r.ok = true
      · rw [List.filter_cons_of_pos hr, if_pos hr, List.length_cons]
        exact Nat.succ_le_succ (ih n)
      · rw [List.filter_cons_of_neg hr, if_neg hr]
        exact ih (n + 1)

theorem State.Events.readChecks (h : s.Events t) {rs : List LogRec} : s.Events (t.readChecks rs) := by
  unfold State.readChecks
  exact .foldl (fun _ _ hv => .ite hv.stick (.ite hv hv.bump.stick)) h

theorem execLogReq_spec (seq : Fin 65536) (hup : s.p2Up = true) (hadm : s.p2Admits = true) (start : Word) (count : Nat) (h1 : 1 ≤ count)
    (h8 : count ≤ 8) :
    ∃ (t : State) (rs : List LogRec), exec (.logReq seq start count) s = .next t ∧ s.keeps t ([.pwr, .net] ++ logParts) ∧ t.net.lastWatch = s.gt ∧
      rs.length ≤ count ∧ t.out.frames = s.out.frames ++ [(2, watchFrame 5 seq (rs.flatMap LogRec.bytes))] := by
  let u := s.netMod (fun n => { n with lastWatch := s.gt })
  let rs := (takeGood count (u.logFrom start.toNat)).filter (fun r => r.ok)
  let v := u.readChecks (takeGood count (u.logFrom start.toNat))
  have hadmu : ¬ (!u.p2Admits) = true := by
    have : u.p2Admits = true := hadm
    simp [this]
  have hc : ¬ (!s.p2Up || count < 1 || 8 < count) = true := by simp [hup]; omega
  have hexec : exec (.logReq seq start count) s = .next (v.p2Send (watchFrame 5 seq (rs.flatMap LogRec.bytes))) :=
    congrArg Host.Outcome.next ((if_neg hc).trans (if_neg hadmu))
  have hmu : s.Moves [] ([.pwr, .net] ++ logParts) u := .netMod (.refl s) id (by decide)
  have hmv : u.Moves [] logParts v := .readChecks (.refl u) (by decide)
  have hfv : v.out.frames = s.out.frames := (State.Events.refl u).readChecks.frames
  obtain ⟨hm, hfr⟩ := State.p2Send_spec v (watchFrame 5 seq (rs.flatMap LogRec.bytes))
  refine ⟨_, rs, hexec, ((hmu.trans (hmv.mono (by decide))).trans (hm.mono (by decide))).keeps, ?_, length_takeGood_ok _ _, ?_⟩
  · rw [hm.net_kept (by decide), hmv.net_kept (by decide)]
    rfl
  · rw [hfr, hfv]

/-! ## The end of the watch, and its wake -/

/-- What the way into DORMANT leaves (R46, R47, R303). -/
theorem State.toDormant_spec (h : s.inv = true) (cause : Nat) : (s.toDormant cause).dev = .dormant ∧ (s.toDormant cause).safe = {} ∧
    (s.toDormant cause).flag Reg.NET_TLSTAT F.NET_TLSTAT_LINK = false := by
  unfold State.toDormant
  extract_lets +onlyGivenNames s1 s2 s3
  have hm1 : s.Moves [] (.net :: logParts) s1 := .ite (.netMod (.stick (.bump (.refl s) (by decide)) (by decide)) id (by decide)) (.refl s)
  have hm2 : s1.Moves [] (.dev :: logParts) s2 := .transition (.refl s1) (.inr nofun) (by decide)
  have hok2 : s2.regsOk = true := State.regsOk_of_inv (hm2.inv (hm1.inv h))
  have hdev2 : s2.dev = .dormant := rfl
  clear_value s2
  have hok3 : s3.regsOk = true := Store.filter_wf _ hok2
  have hdev3 : s3.dev = .dormant := hdev2
  have hsafe3 : s3.safe = {} := rfl
  clear_value s3
  let s4 := s3.setFld Reg.NET_TLSTAT F.NET_TLSTAT_LINK 0
  have hok4 : s4.regsOk = true := State.setFld_ok _ _ _ hok3
  have hlink4 : s4.flag Reg.NET_TLSTAT F.NET_TLSTAT_LINK = false := State.flag_setFld hok3 Reg.NET_TLSTAT F.NET_TLSTAT_LINK 0 (by decide)
  let t := ((s4.setFld Reg.NET_TLSTAT F.NET_TLSTAT_AMP 0).tidyFgt).pwrMod (fun p => { p with below := none, held := none })
  have hregs : t.regs = (s4.setFld Reg.NET_TLSTAT F.NET_TLSTAT_AMP 0).regs := rfl
  refine ⟨hdev3, hsafe3, ?_⟩
  have hkept : t.flag Reg.NET_TLSTAT F.NET_TLSTAT_LINK = s4.flag Reg.NET_TLSTAT F.NET_TLSTAT_LINK :=
    (State.flag_of_reg (State.reg_of_regs hregs _) _).trans (State.flag_setFld_other hok4 _ _ _ _ (by decide) (by decide))
  exact hkept.trans hlink4

theorem execWatchIdleTimeout_spec (hs : s.inv = true) (hdev : s.dev = .watch) (hidle : s.fld Reg.NET_TLCFG F.NET_TLCFG_IDLE ≠ 0) :
    ∃ t, exec .watchIdleTimeout s = .next t ∧ t.dev = .dormant ∧ t.safe = {} ∧ t.flag Reg.NET_TLSTAT F.NET_TLSTAT_LINK = false ∧
      t.gt = (s.gtTo (s.net.lastWatch + s.fld Reg.NET_TLCFG F.NET_TLCFG_IDLE * 500000000)).gt ∧
      s.keeps t ([.gt, .dev, .safe, .pwr, .net] ++ logParts) := by
  let s1 := s.gtTo (s.net.lastWatch + s.fld Reg.NET_TLCFG F.NET_TLCFG_IDLE * 500000000)
  have hexec : exec .watchIdleTimeout s = .next (s1.toDormant 3) := congrArg Host.Outcome.next (if_neg (by simp [hdev, hidle]))
  have hm1 : s.Moves [] ([.gt, .dev, .safe, .pwr, .net] ++ logParts) s1 := .gtTo (.refl s) (by decide)
  have hm : s1.Moves [] (.dev :: .safe :: .pwr :: .net :: logParts) (s1.toDormant 3) := .toDormant (.refl s1) (by decide)
  obtain ⟨h1, h2, h3⟩ := State.toDormant_spec (hm1.inv hs) 3
  exact ⟨_, hexec, h1, h2, h3, hm.gt_kept (by decide), (hm1.trans (hm.mono (by decide))).keeps⟩

theorem execP2Wake_spec (hdev : s.dev = .dormant) (hoff : s.pwr.keepOff = false) (hen : s.flag Reg.CLK_WAKEEN F.CLK_WAKEEN_P2 = true) :
    ∃ t, exec .p2Wake s = .next t ∧ s.keeps t [.pwr] ∧ 2 ∈ t.pwr.wakes ∧ t.dev = .dormant := by
  have hexec : exec .p2Wake s = .next (s.addWake 2) := congrArg Host.Outcome.next (if_pos (by simp [hdev, hoff, hen]))
  have hm : s.Moves [] [.pwr] (s.addWake 2) := .addWake (.refl s) (by decide)
  refine ⟨_, hexec, hm.keeps, ?_, (hm.dev_kept (by decide)).trans hdev⟩
  unfold State.addWake
  split
  · next h => exact List.contains_iff_mem.1 h
  · exact List.mem_append_right _ List.mem_cons_self

end

/-- Settles O38: each step by its equation, with what an admitted and what a deferred burst leaves. -/
theorem watchLinkAnswers : Obligations.WatchLinkAnswers :=
  ⟨fun _ => execBeacon_spec, fun _ seq _ hup hadm => ⟨execStatusReq_spec seq hup hadm, execLogReq_spec seq hup hadm⟩,
    fun _ => execWatchIdleTimeout_spec, fun _ => execP2Wake_spec⟩

end Sys2Proof.Machine
end

section
/-!
PROOFS. Pulse outputs and inputs of the meter (R395, R397), for O39.
-/
namespace Sys2Proof.Machine

section

variable {s : State} (hs : s.inv = true) (hp : s.powered = true)

include hs

theorem State.pls_length (k : Fin 8) : k.val < s.mtr.pls.length := by
  rw [(State.sized_of_inv hs).mtr.2.1]
  exact k.isLt

theorem State.mcnt_length (i : Fin 4) : i.val < s.mtr.mcnt.length := by
  rw [(State.sized_of_inv hs).mtr.2.2]
  exact i.isLt

theorem State.pls_plsMod_same (k : Fin 8) (f : PlsOut → PlsOut) : (s.plsMod k f).mtr.pls.at k = f (s.mtr.pls.at k) :=
  Tab.at_mod_same _ _ _ (State.pls_length hs k)

theorem State.mcnt_mcntMod_same (i : Fin 4) (f : McntIn → McntIn) : (s.mcntMod i f).mtr.mcnt.at i = f (s.mtr.mcnt.at i) :=
  Tab.at_mod_same _ _ _ (State.mcnt_length hs i)

/-! ## Pulses -/

include hp

theorem execPlsPulse_spec {k : Fin 8} (hen : s.flag (Reg.PLS_CFG k) F.PLS_CFG_EN = true) (hact : (s.mtr.pls.at k).active = false)
    (hlog : s.regN (Reg.PLS_BACKLOG k) ≠ 0) :
    ∃ t, exec (.plsPulse k) s = .next t ∧ s.keeps t [.gt, .regs, .mtr] ∧ s.sameRegs t [Reg.PLS_BACKLOG k] ∧ (t.mtr.pls.at k).active = true ∧
      (t.mtr.pls.at k).since = t.gt ∧ t.gt = (s.gtTo (s.mtr.pls.at k).restUntil).gt ∧ t.mtr.pts = s.mtr.pts ∧
      t.regN (Reg.PLS_BACKLOG k) = s.regN (Reg.PLS_BACKLOG k) - 1 := by
  let s1 := s.gtTo (s.mtr.pls.at k).restUntil
  let s2 := s1.setRegN (Reg.PLS_BACKLOG k) (s.regN (Reg.PLS_BACKLOG k) - 1)
  let t := s2.plsMod k (fun y => { y with active := true, since := s1.gt })
  have hexec : exec (.plsPulse k) s = .next t := congrArg Host.Outcome.next (if_neg (by simp [hp, hen, hact, hlog]))
  have hm1 : s.Moves [] [.gt, .regs, .mtr] s1 := .gtTo (.refl s) (by decide)
  have hgt1 : s1.gt = (s.gtTo (s.mtr.pls.at k).restUntil).gt := rfl
  have hmtr1 : s1.mtr = s.mtr := State.gtTo_mtr _ _
  have hregs1 : s1.regs = s.regs := State.gtTo_regs _ _
  clear_value s1
  have hm2 : s.Moves [] [.gt, .regs, .mtr] s2 := hm1.setRegN (by decide)
  have hok1 : s1.regsOk = true := State.regsOk_of_inv (hm1.inv hs)
  have w2 : s1.Writes (fun a => a ∈ [Reg.PLS_BACKLOG k]) s2 := (State.Writes.refl hok1).setRegN _ List.mem_cons_self
  have hat : t.mtr.pls.at k = { s2.mtr.pls.at k with active := true, since := s1.gt } := State.pls_plsMod_same (hm2.inv hs) k _
  refine ⟨t, hexec, (hm2.plsMod (by decide)).keeps, fun a ha => (w2.reg ha).trans (State.reg_of_regs hregs1 a), ?_, ?_, hgt1, ?_, ?_⟩
  · rw [hat]
  · rw [hat]
    rfl
  · show s1.mtr.pts = _
    rw [hmtr1]
  · refine (State.regN_setRegN _ _ hok1).trans (Nat.mod_eq_of_lt ?_)
    have : s.regN (Reg.PLS_BACKLOG k) < 2 ^ 32 := (s.reg (Reg.PLS_BACKLOG k)).isLt
    omega

theorem execPlsPulseEnd_spec {k : Fin 8} (hact : (s.mtr.pls.at k).active = true) :
    ∃ t, exec (.plsPulseEnd k) s = .next t ∧ s.keeps t [.gt, .mtr] ∧ (t.mtr.pls.at k).active = false ∧ t.mtr.pts = s.mtr.pts ∧
      (t.mtr.pls.at k).restUntil = t.gt + clampNat 1 1000 (s.fld (Reg.PLS_CFG k) F.PLS_CFG_WIDTH) * 500000 ∧
      t.gt = (s.gtTo ((s.mtr.pls.at k).since + clampNat 1 1000 (s.fld (Reg.PLS_CFG k) F.PLS_CFG_WIDTH) * 500000)).gt := by
  let w := clampNat 1 1000 (s.fld (Reg.PLS_CFG k) F.PLS_CFG_WIDTH) * 500000
  let s1 := s.gtTo ((s.mtr.pls.at k).since + w)
  let t := s1.plsMod k (fun y => { y with active := false, restUntil := s1.gt + w })
  have hexec : exec (.plsPulseEnd k) s = .next t := congrArg Host.Outcome.next (if_neg (by simp [hp, hact]))
  have hm1 : s.Moves [] [.gt, .mtr] s1 := .gtTo (.refl s) (by decide)
  have hgt1 : s1.gt = (s.gtTo ((s.mtr.pls.at k).since + w)).gt := rfl
  have hmtr1 : s1.mtr = s.mtr := State.gtTo_mtr _ _
  clear_value s1
  have hat : t.mtr.pls.at k = { s1.mtr.pls.at k with active := false, restUntil := s1.gt + w } := State.pls_plsMod_same (hm1.inv hs) k _
  refine ⟨t, hexec, (hm1.plsMod (by decide)).keeps, ?_, ?_, ?_, hgt1⟩
  · rw [hat]
  · show s1.mtr.pts = _
    rw [hmtr1]
  · rw [hat]
    rfl

/-! ## Pulse inputs -/

theorem execMcntEdge_spec {i : Fin 4} {closed : Bool} (hne : (s.mtr.mcnt.at i).closed ≠ closed) :
    ∃ t, exec (.mcntEdge i closed) s = .next t ∧ s.keeps t [.regs, .mtr] ∧ s.sameRegs t [Reg.MCNT_CNT i] ∧ (t.mtr.mcnt.at i).closed = closed ∧
      t.mtr.pts = s.mtr.pts ∧
      (s.flag (Reg.MCNT_CFG i) F.MCNT_CFG_EN = true → s.flag (Reg.MCNT_CFG i) F.MCNT_CFG_EDGE ≠ closed →
        t.regN (Reg.MCNT_CNT i) = (s.regN (Reg.MCNT_CNT i) + 1) % 2 ^ 32 ∧ (t.mtr.mcnt.at i).counted = (s.mtr.mcnt.at i).counted + 1) ∧
      (s.flag (Reg.MCNT_CFG i) F.MCNT_CFG_EN = false → t.regs = s.regs) := by
  let s1 := s.mcntMod i (fun y => { y with closed := closed })
  let s2 := s1.tickReg (Reg.MCNT_CNT i)
  let s3 := s2.mcntMod i (fun y => { y with counted := y.counted + 1 })
  have hexec : exec (.mcntEdge i closed) s =
      .next (if s.flag (Reg.MCNT_CFG i) F.MCNT_CFG_EN && closed != s.flag (Reg.MCNT_CFG i) F.MCNT_CFG_EDGE then s3 else s1) :=
    congrArg Host.Outcome.next (if_neg (by simp [hp, hne]))
  have hm1 : s.Moves [] [.regs, .mtr] s1 := .mcntMod (.refl s) (by decide)
  have hm2 : s.Moves [] [.regs, .mtr] s2 := hm1.tickReg (by decide)
  have hsok : s1.regsOk = true := State.regsOk_of_inv (hm1.inv hs)
  have hat1 : s1.mtr.mcnt.at i = { s.mtr.mcnt.at i with closed := closed } := State.mcnt_mcntMod_same hs i _
  by_cases hc : (s.flag (Reg.MCNT_CFG i) F.MCNT_CFG_EN && closed != s.flag (Reg.MCNT_CFG i) F.MCNT_CFG_EDGE) = true
  · rw [if_pos hc] at hexec
    have hmtr2 : s2.mtr = s1.mtr := rfl
    have hat3 : s3.mtr.mcnt.at i = { s.mtr.mcnt.at i with closed := closed, counted := (s.mtr.mcnt.at i).counted + 1 } := by
      refine (State.mcnt_mcntMod_same (hm2.inv hs) i _).trans ?_
      rw [hmtr2, hat1]
    have w2 : s1.Writes (fun a => a ∈ [Reg.MCNT_CNT i]) s2 := (State.Writes.refl hsok).tickReg List.mem_cons_self
    refine ⟨s3, hexec, (hm2.mcntMod (by decide)).keeps, fun a ha => w2.reg ha, ?_, rfl, fun _ _ => ⟨?_, ?_⟩, fun hen => ?_⟩
    · rw [hat3]
    · exact State.regN_setRegN _ _ hsok
    · rw [hat3]
    · rw [hen] at hc
      exact absurd hc (by simp)
  · rw [if_neg hc] at hexec
    refine ⟨s1, hexec, hm1.keeps, fun a _ => rfl, ?_, rfl, fun hen hed => absurd ?_ hc, fun _ => rfl⟩
    · rw [hat1]
    · rw [hen]
      simpa using Ne.symm hed

omit hp in
theorem execMcntCfgWrite_spec {i : Fin 4} {val : Word} :
    ∃ t, exec (.mcntCfgWrite i val) s = .next t ∧ s.keeps t [.regs, .mtr] ∧ s.sameRegs t [Reg.MCNT_CFG i, Reg.MCNT_DIFF i] ∧
      t.reg (Reg.MCNT_DIFF i) = 0#32 ∧ t.reg (Reg.MCNT_CFG i) = val &&& 0xFFFF0733#32 ∧ (t.mtr.mcnt.at i).counted = 0 ∧ t.mtr.pts = s.mtr.pts := by
  let s0 := s.setReg (Reg.MCNT_CFG i) (val &&& 0xFFFF0733#32)
  let s1 := s0.setRegN (Reg.MCNT_DIFF i) 0
  let e := (s1.mtrPt (s1.fld (Reg.MCNT_CFG i) F.MCNT_CFG_MP)).e.at (regNum (s1.fld (Reg.MCNT_CFG i) F.MCNT_CFG_REG)) / 2 ^ 32
  let t := s1.mcntMod i (fun y => { y with counted := 0, rem := 0, lastE := e })
  have hexec : exec (.mcntCfgWrite i val) s = .next t := rfl
  have hne : ∀ k : Fin 4, Reg.MCNT_CFG k ≠ Reg.MCNT_DIFF k := by decide
  have hsok : s.regsOk = true := State.regsOk_of_inv hs
  have w1 : s.Writes (fun a => a ∈ [Reg.MCNT_CFG i, Reg.MCNT_DIFF i]) s1 := ((State.Writes.refl hsok).setReg _ (by simp)).setRegN _ (by simp)
  have hok0 : s0.regsOk = true := State.setReg_ok _ _ hsok
  have hm1 : s.Moves [] [.regs, .mtr] s1 := .setRegN (.setReg (.refl s) (by decide)) (by decide)
  refine ⟨t, hexec, (hm1.mcntMod (by decide)).keeps, fun a ha => w1.reg ha, ?_, ?_, ?_, rfl⟩
  · exact State.reg_setRegN _ 0 hok0
  · exact (State.reg_setRegN_ne _ hok0 (hne i)).trans (State.reg_setReg _ _ hsok)
  · exact congrArg McntIn.counted (State.mcnt_mcntMod_same (hm1.inv hs) i _)

end

end Sys2Proof.Machine
end

section
/-!
PROOFS. The recorder: what the steps of its banks leave, and its way from REARM to DONE (R403 to R416): O39.
-/
namespace Sys2Proof.Machine

/-! ## Rows -/

theorem Tab.at_mod_cases {α : Type} [Inhabited α] (t : Tab α) (i : Nat) (f : α → α) (k : Nat) :
    (t.mod i f).at k = t.at k ∨ k = i ∧ (t.mod i f).at k = f (t.at k) := by
  by_cases hk : k = i
  · subst hk
    by_cases h : k < t.length
    · exact .inr ⟨rfl, Tab.at_mod_same t k f h⟩
    · exact .inl (by simp [Tab.at, Tab.mod, Nat.le_of_not_lt h])
  · exact .inl (Tab.at_mod_ne t f hk)

/-! ## The steps of a bank -/

/-- The registers that the steps of a bank write: those of the banks, and those of a sticky bit. -/
def bankRegs (a : Nat) : Prop := 0x28100 ≤ a ∨ a ∈ stickRegs Stk.REC_FULL

/-- What the steps of the banks leave: the other registers, the recorder's instants, the groups' states and the tracks' samples; no bank opens. -/
structure State.RecSteps (s t : State) : Prop where
  writes : s.Writes bankRegs t
  arm : t.hop.armAt = s.hop.armAt
  trig : t.hop.trigAt = s.hop.trigAt
  states : ∀ k, (t.bank k).state = (s.bank k).state
  samples : ∀ a, (t.hop.tracks.at a).sample = (s.hop.tracks.at a).sample
  closed : ∀ k, (s.bank k).isOpen = false → (t.bank k).isOpen = false

namespace State.RecSteps

variable {s t u : State}

theorem refl (h : s.regsOk = true) : s.RecSteps s := ⟨.refl h, rfl, rfl, fun _ => rfl, fun _ => rfl, fun _ => id⟩

theorem trans (h : s.RecSteps t) (k : t.RecSteps u) : s.RecSteps u :=
  ⟨h.writes.trans k.writes, k.arm.trans h.arm, k.trig.trans h.trig, fun i => (k.states i).trans (h.states i),
    fun a => (k.samples a).trans (h.samples a), fun i hi => k.closed i (h.closed i hi)⟩

theorem ite {c : Prop} [Decidable c] (ht : s.RecSteps t) (hu : s.RecSteps u) : s.RecSteps (if c then t else u) := by
  split
  · exact ht
  · exact hu

theorem foldl {α : Type} {f : State → α → State} {l : List α} (hf : ∀ v x, s.RecSteps v → s.RecSteps (f v x)) (h : s.RecSteps t) :
    s.RecSteps (l.foldl f t) := by
  induction l generalizing t with
  | nil => exact h
  | cons x l ih => exact ih (hf t x h)

/-- Writes of registers alone. -/
theorem wrote (h : s.RecSteps t) (hw : t.Writes bankRegs u) (hh : u.hop = t.hop) : s.RecSteps u := by
  refine h.trans ⟨hw, ?_, ?_, fun k => ?_, fun a => ?_, fun k hk => ?_⟩
  · rw [hh]
  · rw [hh]
  · rw [State.bank, State.bank, hh]
  · rw [hh]
  · rw [State.bank, hh]
    exact hk

theorem setFld (h : s.RecSteps t) {a : Nat} {f : Fld} {n : Nat} (ha : 0x28100 ≤ a) : s.RecSteps (t.setFld a f n) :=
  h.wrote ((State.Writes.refl h.writes.ok).setFld _ _ (.inl ha)) rfl

theorem setRegN (h : s.RecSteps t) {a n : Nat} (ha : 0x28100 ≤ a) : s.RecSteps (t.setRegN a n) :=
  h.wrote ((State.Writes.refl h.writes.ok).setRegN _ (.inl ha)) rfl

theorem bump (h : s.RecSteps t) {a : Nat} (ha : 0x28100 ≤ a) : s.RecSteps (t.bump a) :=
  h.wrote ((State.Writes.refl h.writes.ok).bump (.inl ha)) rfl

theorem stick (h : s.RecSteps t) {k : Stk} (hk : ∀ a ∈ stickRegs k, a ∈ stickRegs Stk.REC_FULL) : s.RecSteps (t.stick k) :=
  h.wrote ((State.Writes.refl h.writes.ok).stick _ fun a ha => .inr (hk a ha)) (State.stick_hop _ _)

theorem stickIf (h : s.RecSteps t) {c : Bool} {k : Stk} (hk : ∀ a ∈ stickRegs k, a ∈ stickRegs Stk.REC_FULL) : s.RecSteps (t.stickIf c k) :=
  .ite (h.stick hk) h

theorem bankMod (h : s.RecSteps t) {b : Nat} {f : RecBank → RecBank} (hst : ∀ x, (f x).state = x.state)
    (ho : ∀ x, x.isOpen = false → (f x).isOpen = false) : s.RecSteps (t.bankMod b f) := by
  refine h.trans ⟨(State.Writes.refl h.writes.ok).of_regs rfl, rfl, rfl, fun k => ?_, fun _ => rfl, fun k hk => ?_⟩
  · obtain he | ⟨-, he⟩ := Tab.at_mod_cases t.hop.banks b f k
    · exact congrArg RecBank.state he
    · exact (congrArg RecBank.state he).trans (hst _)
  · obtain he | ⟨-, he⟩ := Tab.at_mod_cases t.hop.banks b f k
    · exact (congrArg RecBank.isOpen he).trans hk
    · exact (congrArg RecBank.isOpen he).trans (ho _ hk)

theorem bankView (h : s.RecSteps t) {b : Nat} : s.RecSteps (t.bankView b) :=
  (h.setRegN (Nat.le_add_right_of_le (by decide))).setFld (Nat.le_add_right_of_le (by decide))

theorem bankPut (h : s.RecSteps t) {b : Nat} {w : DWord} : s.RecSteps (t.bankPut b w) := h.bankMod (fun _ => rfl) fun _ => id

theorem recPut (h : s.RecSteps t) {b : Nat} {w : DWord} : s.RecSteps (t.recPut b w) := h.bankPut.bump (Nat.le_add_right_of_le (by decide))

theorem bankClose (h : s.RecSteps t) {b cause g : Nat} : s.RecSteps (t.bankClose b cause g) := by
  unfold State.bankClose
  extract_lets +onlyGivenNames u
  have hm : s.RecSteps (t.bankMod b (fun x => { x with isOpen := false, queue := [] })) := h.bankMod (fun _ => rfl) fun _ _ => rfl
  have hu : s.RecSteps u := hm.setFld (Nat.le_add_right_of_le (by decide))
  exact .ite (hu.setFld (Nat.le_add_right_of_le (by decide))) hu

theorem bankOpen (h : s.RecSteps t) {b g : Nat} {start : Bool} {ch : Word} : s.RecSteps (t.bankOpen b g start ch) := by
  unfold State.bankOpen
  extract_lets +onlyGivenNames x n base keys u v f
  split
  · exact h.bankClose.stick (by decide)
  · have hu : s.RecSteps u := h.bankMod (fun _ => rfl) fun _ => id
    exact .ite hu.bankPut hu.bankPut.recPut

theorem slotOne (h : s.RecSteps t) {b g : Nat} : s.RecSteps (t.slotOne b g) := by
  unfold State.slotOne
  dsimp only
  split
  · refine .recPut ?_
    exact h.bankMod (fun _ => rfl) fun _ => id
  · exact h

theorem bankDrain (b g : Nat) : ∀ (n : Nat) {t : State}, s.RecSteps t → s.RecSteps (State.bankDrain b g n t)
  | 0, _, h => h
  | n + 1, t, h => by
    rw [State.bankDrain]
    exact .ite h (bankDrain b g n (.ite h.bankOpen h.slotOne))

theorem bankAt (h : s.RecSteps t) {b g : Nat} : s.RecSteps (t.bankAt b g) := (bankDrain b g 64 h).bankMod (fun _ => rfl) fun _ => id

theorem digital (h : s.RecSteps t) {b g : Nat} {ch : Word} : s.RecSteps (t.digital b g ch) := by
  unfold State.digital
  extract_lets +onlyGivenNames u x v f
  have hu : s.RecSteps u := h.bankAt
  have hv : s.RecSteps v := .ite hu.slotOne hu
  exact .ite hu (.ite hu.bankOpen hv.recPut)

theorem trackMod (h : s.RecSteps t) {a : Nat} {f : RecTrack → RecTrack} (hf : ∀ x, (f x).sample = x.sample) : s.RecSteps (t.trackMod a f) := by
  refine h.trans ⟨(State.Writes.refl h.writes.ok).of_regs rfl, rfl, rfl, fun _ => rfl, fun k => ?_, fun _ => id⟩
  obtain he | ⟨-, he⟩ := Tab.at_mod_cases t.hop.tracks a f k
  · exact congrArg RecTrack.sample he
  · exact (congrArg RecTrack.sample he).trans (hf _)

theorem analog (h : s.RecSteps t) {a g : Nat} {v : Word} : s.RecSteps (t.analog a g v) := by
  unfold State.analog
  extract_lets +onlyGivenNames b u w
  have hu : s.RecSteps u := h.bankAt
  have hw : s.RecSteps w := .ite hu.bankOpen hu
  refine .ite hu (.ite ?_ hw)
  refine .trackMod ?_ fun _ => rfl
  exact hw.bankMod (fun _ => rfl) fun _ => id

theorem bankTrigger (h : s.RecSteps t) {b g : Nat} : s.RecSteps (t.bankTrigger b g) := by
  unfold State.bankTrigger
  extract_lets +onlyGivenNames x frm cut p ext
  refine .ite h (.setFld (.stickIf ?_ (by decide)) (Nat.le_add_right_of_le (by decide)))
  exact h.bankMod (fun _ => rfl) fun _ => id

theorem recState (h : s.RecSteps t) : t.recState = s.recState := h.writes.fld _ (by unfold bankRegs; decide)

theorem regN (h : s.RecSteps t) {a : Nat} (ha : ¬ bankRegs a) : t.regN a = s.regN a := h.writes.regN ha

end State.RecSteps

section

variable {s t : State}

theorem State.Moves.hop_kept {own may : List Part} (h : s.Moves own may t) (hm : .hop ∉ may) : t.hop = s.hop := by
  obtain ⟨-, -, -, -, -, -, -, -, -, -, -, -, -, -, -, -, -, -, hhop, -⟩ := h.keeps
  exact hhop.resolve_left hm

theorem State.bank_of_hop (h : t.hop = s.hop) (k : Nat) : t.bank k = s.bank k := by rw [State.bank, State.bank, h]

theorem State.bank_bankMod_same (hs : s.inv = true) (g : Fin 16) (f : RecBank → RecBank) : (s.bankMod g f).bank g = f (s.bank g) := by
  refine Tab.at_mod_same _ _ _ ?_
  rw [(State.sized_of_inv hs).hop.1]
  exact g.isLt

theorem State.recState_of_reg (h : t.reg Reg.REC_STAT = s.reg Reg.REC_STAT) : t.recState = s.recState := State.fld_of_reg h _

theorem State.recState_of_regs (h : t.regs = s.regs) : t.recState = s.recState := State.recState_of_reg (State.reg_of_regs h _)

theorem State.recState_setRec (h : s.regsOk = true) {n : Nat} (hn : n < 8) : (s.setRec n).recState = n :=
  (State.fld_setFld _ _ _ h (by decide)).trans (Nat.mod_eq_of_lt hn)

/-- The state and the cause of an end. -/
theorem State.recEnded (h : s.regsOk = true) {c : Nat} (hc : c < 8) :
    ((s.setRec 4).setFld Reg.REC_STAT F.REC_STAT_CAUSE c).recState = 4 ∧
      ((s.setRec 4).setFld Reg.REC_STAT F.REC_STAT_CAUSE c).fld Reg.REC_STAT F.REC_STAT_CAUSE = c := by
  have h4 : (s.setRec 4).regsOk = true := State.setFld_ok _ _ _ h
  exact ⟨(State.fld_setFld_other _ _ _ _ h4 (by decide) (by decide)).trans (State.recState_setRec h (by decide)),
    (State.fld_setFld _ _ _ h4 (by decide)).trans (Nat.mod_eq_of_lt hc)⟩

/-! ## The end of a capture -/

theorem State.recDone_hop (s : State) : s.recDone.hop = s.hop := by
  unfold State.recDone
  split
  · rfl
  · rfl

theorem State.recDone_writes (h : s.regsOk = true) : s.Writes (· = Reg.REC_STAT) s.recDone := by
  unfold State.recDone
  split
  · have h1 : s.Writes (· = Reg.REC_STAT) (s.setRec 4) := (State.Writes.refl h).setFld _ _ rfl
    exact h1.setFld _ _ rfl
  · exact .refl h

/-- In POST the capture is done, or it goes on. -/
theorem State.recDone_state (h : s.regsOk = true) (h3 : s.recState = 3) : s.recDone.recState = 3 ∨ s.recDone.recState = 4 := by
  unfold State.recDone
  split
  · refine .inr (State.recEnded h ?_).1
    split <;> decide
  · exact .inl h3

/-- With every bank closed the capture is done, with cause 1 or 2 (R415). -/
theorem State.recDone_done (h : s.regsOk = true) (h3 : s.recState = 3) (hb : ∀ b, b < 16 → (s.bank b).isOpen = false) :
    s.recDone.recState = 4 ∧ (s.recDone.fld Reg.REC_STAT F.REC_STAT_CAUSE = 1 ∨ s.recDone.fld Reg.REC_STAT F.REC_STAT_CAUSE = 2) := by
  have hc : (s.recState = 3 && (List.range 16).all (fun b => !(s.bank b).isOpen)) = true := by
    rw [Bool.and_eq_true, List.all_eq_true]
    exact ⟨decide_eq_true h3, fun b hm => by rw [hb b (List.mem_range.1 hm)]; rfl⟩
  unfold State.recDone
  rw [if_pos hc]
  dsimp only
  split
  · exact ⟨(State.recEnded h (by decide)).1, .inl (State.recEnded h (by decide)).2⟩
  · exact ⟨(State.recEnded h (by decide)).1, .inr (State.recEnded h (by decide)).2⟩

/-- The close of one bank, where it is open. -/
def State.closeOne (cause g : Nat) (u : State) (b : Nat) : State :=
  if (u.bank b).isOpen then (((u.bankAt b g).bankClose b cause g).bankView b) else u

theorem State.RecSteps.closeOne {u : State} (h : s.RecSteps u) {cause g b : Nat} : s.RecSteps (State.closeOne cause g u b) :=
  .ite h.bankAt.bankClose.bankView h

theorem State.bankClose_closed (s : State) (b cause g : Nat) : ((s.bankClose b cause g).bank b).isOpen = false := by
  have hm : ((s.bankMod b (fun x => { x with isOpen := false, queue := [] })).bank b).isOpen = false := by
    by_cases hb : b < s.hop.banks.length
    · exact congrArg RecBank.isOpen (Tab.at_mod_same s.hop.banks b (fun x => { x with isOpen := false, queue := [] }) hb)
    · simp [State.bank, State.bankMod, Tab.at, Tab.mod, Nat.le_of_not_lt hb]
      rfl
  unfold State.bankClose
  dsimp only
  split
  · exact hm
  · exact hm

theorem State.closeOne_closed (u : State) (cause g b : Nat) : ((State.closeOne cause g u b).bank b).isOpen = false := by
  unfold State.closeOne
  split
  · exact State.bankClose_closed _ _ _ _
  · next h => exact eq_false_of_ne_true h

/-- After the close of each of the banks none of them is open. -/
theorem State.closeAll_closed (h : s.regsOk = true) (cause g : Nat) (b : Nat) (hb : b < 16) :
    (((List.range 16).foldl (State.closeOne cause g) s).bank b).isOpen = false := by
  have hstep {t : State} (ht : t.regsOk = true) (k : Nat) : t.RecSteps (State.closeOne cause g t k) := (State.RecSteps.refl ht).closeOne
  generalize List.range 16 = l, List.nodup_range (n := 16) = hl, List.mem_range.2 hb = hm
  exact (foldl_visit (f := State.closeOne cause g) (P := fun t => t.regsOk = true) (Q := fun t => t.regsOk = true ∧ (t.bank b).isOpen = false) hl hm
    (fun t k _ _ ht => (hstep ht k).writes.ok) (fun t ht => ⟨(hstep ht b).writes.ok, State.closeOne_closed t cause g b⟩)
    (fun t k _ _ ht => ⟨(hstep ht.1 k).writes.ok, (hstep ht.1 k).closed _ ht.2⟩) h).2

theorem State.RecSteps.closeAll (h : s.regsOk = true) (cause g : Nat) : s.RecSteps ((List.range 16).foldl (State.closeOne cause g) s) :=
  .foldl (fun _ _ hv => hv.closeOne) (.refl h)

theorem execRecCtrlStop_spec (hs : s.inv = true) (h1 : 1 ≤ s.recState) (h3 : s.recState ≤ 3) :
    ∃ t, exec .recCtrlStop s = .next t ∧ s.keeps t (.hop :: logParts) ∧ t.recState = 4 ∧ t.fld Reg.REC_STAT F.REC_STAT_CAUSE = 3 ∧
      ∀ b, b < 16 → (t.bank b).isOpen = false := by
  let u := (List.range 16).foldl (State.closeOne 3 (recTick s.gt)) s
  let t := (u.setRec 4).setFld Reg.REC_STAT F.REC_STAT_CAUSE 3
  have heq : s.recEnd 3 (recTick s.gt) = t := by
    have hc : ¬ (s.recState = 0 || s.recState = 4) = true := by simp; omega
    have hend : s.recEnd 3 (recTick s.gt) = t.stickIf (decide (3 = 4 ∨ 3 = 5)) Stk.REC_ABORT := if_neg hc
    rw [hend]
    unfold State.stickIf
    exact if_neg (by decide)
  have hexec : exec .recCtrlStop s = .next t := congrArg Host.Outcome.next heq
  have hm : s.Moves [] (.hop :: logParts) t := heq ▸ .recEnd (.refl s) (by decide)
  have hu : s.RecSteps u := .closeAll (State.regsOk_of_inv hs) _ _
  have hclosed : ∀ b, b < 16 → (u.bank b).isOpen = false := State.closeAll_closed (State.regsOk_of_inv hs) 3 (recTick s.gt)
  clear_value u
  obtain ⟨h4, hc⟩ := State.recEnded hu.writes.ok (by decide : 3 < 8)
  exact ⟨t, hexec, hm.keeps, h4, hc, hclosed⟩

theorem execPostEnd_spec (hs : s.inv = true) (h3 : s.recState = 3) :
    ∃ t, exec .postEnd s = .next t ∧ s.keeps t ([.gt, .hop] ++ logParts) ∧ t.recState = 4 ∧ t.gt = (s.gtTo (s.hop.trigAt + s.recPost)).gt ∧
      (t.fld Reg.REC_STAT F.REC_STAT_CAUSE = 1 ∨ t.fld Reg.REC_STAT F.REC_STAT_CAUSE = 2) ∧ ∀ b, b < 16 → (t.bank b).isOpen = false := by
  let s1 := s.gtTo (s.hop.trigAt + s.recPost)
  let u := (List.range 16).foldl (State.closeOne 1 (s.hop.trigAt + s.recPost)) s1
  have heq : s.recPostEnd = u.recDone := if_neg (not_not_intro h3)
  have hexec : exec .postEnd s = .next u.recDone := congrArg Host.Outcome.next heq
  have hm : s.Moves [] ([.gt, .hop] ++ logParts) u.recDone := heq ▸ .recPostEnd (.refl s) (by decide)
  have hm1 : s.Moves [] [.gt] s1 := .gtTo (.refl s) (by decide)
  have hok1 : s1.regsOk = true := State.regsOk_of_inv (hm1.inv hs)
  have hstate1 : s1.recState = 3 := (State.recState_of_regs (State.gtTo_regs _ _)).trans h3
  have hu : s1.RecSteps u := .closeAll hok1 _ _
  have hclosed : ∀ b, b < 16 → (u.bank b).isOpen = false := State.closeAll_closed hok1 _ _
  have hmu : s1.Moves [] (.hop :: logParts) u.recDone :=
    .recDone (.foldl (fun _ _ hv => .ite (.bankView (.bankClose (.bankAt hv (by decide)) (by decide)) (by decide)) hv) (.refl s1)) (by decide)
  obtain ⟨h4, hc⟩ := State.recDone_done hu.writes.ok (hu.recState.trans hstate1) hclosed
  refine ⟨_, hexec, hm.keeps, h4, hmu.gt_kept (by decide), hc, fun b hb => ?_⟩
  rw [State.bank_of_hop (State.recDone_hop u)]
  exact hclosed b hb

/-! ## Arming -/

/-- The registers of a bank's extent start anew (R411). -/
def State.extentClear (u : State) (b : Nat) : State :=
  ((((u.setRegN (Reg.REC_GEXT0 b) 0).setRegN (Reg.REC_GEXT1 b) 0).setRegN (Reg.REC_PREACT b) 0).setRegN (Reg.REC_POSTACT b) 0).setRegN
    (Reg.REC_GRECCNT b) 0

theorem State.RecSteps.extentClear {u : State} (h : s.RecSteps u) {b : Nat} : s.RecSteps (u.extentClear b) :=
  ((((h.setRegN (Nat.le_add_right_of_le (by decide))).setRegN (Nat.le_add_right_of_le (by decide))).setRegN
    (Nat.le_add_right_of_le (by decide))).setRegN (Nat.le_add_right_of_le (by decide))).setRegN (Nat.le_add_right_of_le (by decide))

/-- The record counts of the banks start at 0. -/
theorem State.extentsClear_count (h : s.regsOk = true) {b : Nat} (hb : b < 16) :
    ((List.range 16).foldl State.extentClear s).reg (Reg.REC_GRECCNT b) = 0#32 := by
  have hok {t : State} (ht : t.regsOk = true) (k : Nat) : (t.extentClear k).regsOk = true := (State.RecSteps.refl ht).extentClear.writes.ok
  have hsame {t : State} (ht : t.regsOk = true) (k : Nat) : (t.extentClear k).reg (Reg.REC_GRECCNT k) = 0#32 := by
    refine State.reg_setRegN _ 0 ?_
    exact State.setRegN_ok _ _ (State.setRegN_ok _ _ (State.setRegN_ok _ _ (State.setRegN_ok _ _ ht)))
  have hother {t : State} (ht : t.regsOk = true) (k : Nat) (hk : k ≠ b) :
      (t.extentClear k).reg (Reg.REC_GRECCNT b) = t.reg (Reg.REC_GRECCNT b) := by
    have hw : t.Writes (· ≠ Reg.REC_GRECCNT b) (t.extentClear k) := by
      unfold State.extentClear
      refine (((((State.Writes.refl ht).setRegN _ ?_).setRegN _ ?_).setRegN _ ?_).setRegN _ ?_).setRegN _ ?_ <;>
        simp only [Reg.REC_GEXT0, Reg.REC_GEXT1, Reg.REC_PREACT, Reg.REC_POSTACT, Reg.REC_GRECCNT, ne_eq] <;> omega
    exact hw.reg (not_not_intro rfl)
  generalize List.range 16 = l, List.nodup_range (n := 16) = hl, List.mem_range.2 hb = hm
  exact (foldl_visit (f := State.extentClear) (P := fun t => t.regsOk = true)
    (Q := fun t => t.regsOk = true ∧ t.reg (Reg.REC_GRECCNT b) = 0#32) hl hm (fun t k _ _ ht => hok ht k) (fun t ht => ⟨hok ht b, hsame ht b⟩)
    (fun t k _ hk ht => ⟨hok ht.1 k, (hother ht.1 k hk).trans ht.2⟩) h).2

theorem execRecCtrlArm_spec (hs : s.inv = true) (hclk : s.recClocked = true) (hst : s.recState = 0 ∨ s.recState = 4) :
    ∃ t, exec .recCtrlArm s = .next t ∧ s.keeps t [.regs, .hop] ∧ t.recState = 1 ∧ t.hop.armAt = (s.gt + 4) / 5 * 5 ∧
      t.reg Reg.REC_TRIGSRC = 0#32 ∧ ∀ b, b < 16 → (t.bank b).isOpen = false ∧ (t.bank b).mem = [] ∧ t.reg (Reg.REC_GRECCNT b) = 0#32 := by
  let empty := fun (x : RecBank) => { x with mem := [], isOpen := false, queue := [], prot := none, words := 0 }
  let s1 : State := { s with hop := { armAt := recTick s.gt, trigAt := 0, banks := s.hop.banks.map empty, tracks := List.replicate 64 {} } }
  let s2 := (s1.setRec 1).setFld Reg.REC_STAT F.REC_STAT_CAUSE 0
  let s3 := s2.setRegN Reg.REC_TRIGSRC 0
  let s4 := (s3.setRegN Reg.REC_TRIGGT_LO 0).setRegN Reg.REC_TRIGGT_HI 0
  let t := (List.range 16).foldl State.extentClear s4
  have hc : ¬ (!s.recClocked || (s.recState ≠ 0 && s.recState ≠ 4)) = true := by rcases hst with h | h <;> simp [hclk, h]
  have heq : s.recArm = t := if_neg hc
  have hexec : exec .recCtrlArm s = .next t := congrArg Host.Outcome.next heq
  have hm : s.Moves [] [.regs, .hop] t := heq ▸ .recArm (.refl s) (by decide)
  have hsok : s.regsOk = true := State.regsOk_of_inv hs
  have hok1 : s1.regsOk = true := hsok
  have hbank : ∀ k, s4.bank k = empty (s.bank k) := Tab.at_map s.hop.banks empty rfl
  have harm : s4.hop.armAt = (s.gt + 4) / 5 * 5 := rfl
  have hokR : (s1.setRec 1).regsOk = true := State.setFld_ok _ _ _ hok1
  have hok2 : s2.regsOk = true := State.setFld_ok _ _ _ hokR
  have hstate2 : s2.recState = 1 := (State.fld_setFld_other _ _ _ _ hokR (by decide) (by decide)).trans (State.recState_setRec hok1 (by decide))
  have w3 : s2.Writes (· = Reg.REC_TRIGSRC) s3 := (State.Writes.refl hok2).setRegN _ rfl
  have w4 : s3.Writes (· ∈ [Reg.REC_TRIGGT_LO, Reg.REC_TRIGGT_HI]) s4 := ((State.Writes.refl w3.ok).setRegN _ (by decide)).setRegN _ (by decide)
  have hsrc4 : s4.reg Reg.REC_TRIGSRC = 0#32 := (w4.reg (by decide)).trans (State.reg_setRegN _ 0 hok2)
  have hstate4 : s4.recState = 1 := (w4.fld _ (by decide)).trans ((w3.fld _ (by decide)).trans hstate2)
  have hcount : ∀ b, b < 16 → t.reg (Reg.REC_GRECCNT b) = 0#32 := fun b hb => State.extentsClear_count w4.ok hb
  have hsteps : s4.RecSteps t := .foldl (fun _ _ hv => hv.extentClear) (.refl w4.ok)
  have hhop : t.hop = s4.hop := List.foldlRecOn (motive := fun u : State => u.hop = s4.hop) _ _ rfl fun _ h _ _ => h
  clear_value t s4
  refine ⟨t, hexec, hm.keeps, hsteps.recState.trans hstate4, hsteps.arm.trans harm, (hsteps.writes.reg (by unfold bankRegs; decide)).trans hsrc4,
    fun b hb => ⟨?_, ?_, hcount b hb⟩⟩
  · rw [State.bank_of_hop hhop, hbank]
  · rw [State.bank_of_hop hhop, hbank]

/-- The opening of one bank at the end of the clear. -/
def State.openOne (s : State) (g : Nat) (u : State) (b : Nat) : State :=
  if u.bankOn b then
    ((u.bankMod b (fun x => { x with isOpen := true, first := 0, state := s.groupState b, known := true })).bankOpen b g true 0#32).bankView b
  else u

/-- The registers that are none of the banks, and the instants of the recorder, under the opening of the banks. -/
structure State.RecOpens (s t : State) : Prop where
  writes : s.Writes bankRegs t
  arm : t.hop.armAt = s.hop.armAt

theorem State.RecOpens.openOne {v : State} {g b : Nat} (h : s.RecOpens t) : s.RecOpens (State.openOne v g t b) := by
  unfold State.openOne
  split
  · let u := t.bankMod b (fun x => { x with isOpen := true, first := 0, state := v.groupState b, known := true })
    have hw : s.Writes bankRegs u := h.writes.of_regs rfl
    have ha : u.hop.armAt = s.hop.armAt := h.arm
    have hk : u.RecSteps ((u.bankOpen b g true 0#32).bankView b) := (State.RecSteps.refl hw.ok).bankOpen.bankView
    exact ⟨hw.trans hk.writes, hk.arm.trans ha⟩
  · exact h

theorem execRearmComplete_spec (hs : s.inv = true) (hclk : s.recClocked = true) (hst : s.recState = 1) :
    ∃ t, exec .rearmComplete s = .next t ∧ s.keeps t ([.gt, .hop] ++ logParts) ∧ t.recState = 2 ∧ t.gt = (s.gtTo (s.hop.armAt + 320)).gt ∧
      t.hop.armAt = s.hop.armAt + 320 ∧ t.regN Reg.REC_ARMGT_LO = (s.hop.armAt + 320) % 2 ^ 32 := by
  let s0 := s.gtTo (s.hop.armAt + 320)
  let s1 : State := { s0 with hop := { s0.hop with armAt := s.hop.armAt + 320 } }
  let s2 := s1.setRec 2
  let s3 := s2.setRegN Reg.REC_ARMGT_LO (s.hop.armAt + 320)
  let s4 := s3.setRegN Reg.REC_ARMGT_HI ((s.hop.armAt + 320) / 2 ^ 32)
  let t := (List.range 16).foldl (State.openOne s (s.hop.armAt + 320)) s4
  have hc : (s.recState = 1 && s.recClocked) = true := by simp [hst, hclk]
  have heq : s.recArmed = t := rfl
  have hexec : exec .rearmComplete s = .next t := congrArg Host.Outcome.next ((if_pos hc).trans heq)
  have hm : s.Moves [] ([.gt, .hop] ++ logParts) t := heq ▸ .recArmed (.refl s) (by decide)
  have hm0 : s.Moves [] [.gt] s0 := .gtTo (.refl s) (by decide)
  have hok1 : s1.regsOk = true := State.regsOk_of_inv (hm0.inv hs)
  have hgt0 : s0.gt = (s.gtTo (s.hop.armAt + 320)).gt := rfl
  clear_value s0
  have hstate2 : s2.recState = 2 := State.recState_setRec hok1 (by decide)
  have hok2 : s2.regsOk = true := State.setFld_ok _ _ _ hok1
  have w3 : s2.Writes (· = Reg.REC_ARMGT_LO) s3 := (State.Writes.refl hok2).setRegN _ rfl
  have w4 : s3.Writes (· = Reg.REC_ARMGT_HI) s4 := (State.Writes.refl w3.ok).setRegN _ rfl
  have hstate4 : s4.recState = 2 := (w4.fld _ (by decide)).trans ((w3.fld _ (by decide)).trans hstate2)
  have hlo4 : s4.regN Reg.REC_ARMGT_LO = (s.hop.armAt + 320) % 2 ^ 32 := (w4.regN (by decide)).trans (State.regN_setRegN _ _ hok2)
  have harm4 : s4.hop.armAt = s.hop.armAt + 320 := rfl
  have hgt4 : s4.gt = s0.gt := rfl
  obtain ⟨hw, harm⟩ : s4.RecOpens t := List.foldlRecOn _ _ ⟨.refl w4.ok, rfl⟩ fun _ h _ _ => h.openOne
  have hmt : s4.Moves [] (.hop :: logParts) t := .foldl (fun _ _ hv => .ite (.bankView (.bankOpen (.bankMod hv (by decide)) (by decide)) (by decide)) hv) (.refl s4)
  clear_value t s4
  refine ⟨t, hexec, hm.keeps, (hw.fld _ (by unfold bankRegs; decide)).trans hstate4, ?_, harm.trans harm4,
    (hw.regN (by unfold bankRegs; decide)).trans hlo4⟩
  rw [hmt.gt_kept (by decide), hgt4, hgt0]

end

end Sys2Proof.Machine
end

section
/-!
PROOFS. The triggers of the recorder, and the changes of groups and tracks (R406, R407, R412): O39.
-/
namespace Sys2Proof.Machine

section

variable {s t : State}

/-! ## Triggers -/

/-- What a trigger in ARMED does before the capture can be done (R412 to R414). -/
def State.recCaught (s : State) (g src : Nat) : State :=
  let s0 := (List.range 16).foldl (fun u b => u.bankAt b g) s
  let s1 : State := { s0 with hop := { s0.hop with trigAt := g } }
  let s2 := s1.setRegN Reg.REC_TRIGSRC src
  let s3 := (s2.setRegN Reg.REC_TRIGGT_LO g).setRegN Reg.REC_TRIGGT_HI (g / 2 ^ 32)
  let s4 := (List.range 16).foldl (fun u b => u.bankTrigger b g) s3
  s4.setRec 3

theorem State.recTrigger_armed (h : s.recState = 2) (g src : Nat) : s.recTrigger g src = (s.recCaught g src).recDone := by
  unfold State.recTrigger
  rw [h]
  rfl

theorem State.recTrigger_post (h : s.recState = 3) (g src : Nat) : s.recTrigger g src =
    if g = s.hop.trigAt then s.setRegN Reg.REC_TRIGSRC (s.regN Reg.REC_TRIGSRC ||| src) else s.bump Reg.REC_TRIGCNT := by
  unfold State.recTrigger
  rw [h]
  rfl

theorem State.recTrigger_missed (h : s.recState = 1 ∨ s.recState = 4) (g src : Nat) :
    s.recTrigger g src = (s.bump Reg.REC_MISSCNT).stick Stk.REC_REARM_MISS := by
  unfold State.recTrigger
  rcases h with h | h
  · rw [h]
    rfl
  · rw [h]
    rfl

/-- Beside the cases of R412 a trigger does nothing. -/
theorem State.recTrigger_none (h0 : s.recState ≠ 1) (h2 : s.recState ≠ 2) (h3 : s.recState ≠ 3) (h4 : s.recState ≠ 4) (g src : Nat) :
    s.recTrigger g src = s := by
  unfold State.recTrigger
  split
  · next h => exact absurd h h2
  · next h => exact absurd h h3
  · next h => exact absurd h h0
  · next h => exact absurd h h4
  · rfl

/-- What a caught trigger leaves. -/
structure State.Caught (s t : State) (g src : Nat) : Prop where
  ok : t.regsOk = true
  state : t.recState = 3
  trigAt : t.hop.trigAt = g
  source : t.regN Reg.REC_TRIGSRC = src % 2 ^ 32
  states : ∀ k, (t.bank k).state = (s.bank k).state
  samples : ∀ a, (t.hop.tracks.at a).sample = (s.hop.tracks.at a).sample

theorem State.recCaught_caught (h : s.regsOk = true) (g src : Nat) : s.Caught (s.recCaught g src) g src := by
  unfold State.recCaught
  extract_lets +onlyGivenNames s0 src' s1 s2 s3 s4
  have h0 : s.RecSteps s0 := .foldl (fun _ _ hv => hv.bankAt) (.refl h)
  have hok0 : s0.regsOk = true := h0.writes.ok
  clear_value s0
  have hok1 : s1.regsOk = true := hok0
  have hok2 : s2.regsOk = true := State.setRegN_ok _ _ hok1
  have hsrc2 : s2.regN Reg.REC_TRIGSRC = src % 2 ^ 32 := State.regN_setRegN _ _ hok1
  have w3 : s2.Writes (· ∈ [Reg.REC_TRIGGT_LO, Reg.REC_TRIGGT_HI]) s3 := ((State.Writes.refl hok2).setRegN _ (by decide)).setRegN _ (by decide)
  have hbank3 : ∀ k, s3.bank k = s0.bank k := fun _ => rfl
  have htracks3 : s3.hop.tracks = s0.hop.tracks := rfl
  have htrig3 : s3.hop.trigAt = g := rfl
  have h4 : s3.RecSteps s4 := .foldl (fun _ _ hv => hv.bankTrigger) (.refl w3.ok)
  clear_value s4 s3
  have w5 : s4.Writes (· = Reg.REC_STAT) (s4.setRec 3) := (State.Writes.refl h4.writes.ok).setFld _ _ rfl
  refine ⟨w5.ok, State.recState_setRec h4.writes.ok (by decide), h4.trig.trans htrig3, ?_, fun k => ?_, fun a => ?_⟩
  · rw [w5.regN (by decide), h4.regN (by unfold bankRegs; decide), w3.regN (by decide), hsrc2]
  · exact (h4.states k).trans ((congrArg RecBank.state (hbank3 k)).trans (h0.states k))
  · exact ((h4.samples a).trans (by rw [htracks3])).trans (h0.samples a)

/-- No trigger changes the state of a group or the sample of a track. -/
theorem State.recTrigger_tracks (h : s.regsOk = true) (g src : Nat) : (∀ k, ((s.recTrigger g src).bank k).state = (s.bank k).state) ∧
    ∀ a, ((s.recTrigger g src).hop.tracks.at a).sample = (s.hop.tracks.at a).sample := by
  have hkept : ∀ u : State, u.hop = s.hop → (∀ k, (u.bank k).state = (s.bank k).state) ∧
      ∀ a, (u.hop.tracks.at a).sample = (s.hop.tracks.at a).sample := fun u hu => by
    refine ⟨fun k => ?_, fun a => ?_⟩
    · rw [State.bank_of_hop hu]
    · rw [hu]
  by_cases h2 : s.recState = 2
  · obtain ⟨-, -, -, -, hst, hsa⟩ := State.recCaught_caught h g src
    have hd : (s.recTrigger g src).hop = (s.recCaught g src).hop := by rw [State.recTrigger_armed h2, State.recDone_hop]
    refine ⟨fun k => ?_, fun a => ?_⟩
    · rw [State.bank_of_hop hd, hst]
    · rw [hd, hsa]
  refine hkept _ ?_
  by_cases h3 : s.recState = 3
  · rw [State.recTrigger_post h3]
    split <;> rfl
  by_cases hm : s.recState = 1 ∨ s.recState = 4
  · rw [State.recTrigger_missed hm, State.stick_hop]
    rfl
  · rw [State.recTrigger_none (fun h => hm (.inl h)) h2 h3 fun h => hm (.inr h)]

/-- What a trigger makes of the recorder, by its state (R412, R413). -/
structure State.Triggered (s t : State) (g src : Nat) : Prop where
  armed : s.recState = 2 → (t.recState = 3 ∨ t.recState = 4) ∧ t.hop.trigAt = g ∧ t.regN Reg.REC_TRIGSRC = src % 2 ^ 32
  missed : s.recState = 1 ∨ s.recState = 4 → t.recState = s.recState ∧ t.stuck Stk.REC_REARM_MISS = true ∧
    t.regN Reg.REC_MISSCNT = min (s.regN Reg.REC_MISSCNT + 1) (2 ^ 32 - 1)
  counted : s.recState = 3 → g ≠ s.hop.trigAt → t.recState = 3 ∧ t.regN Reg.REC_TRIGCNT = min (s.regN Reg.REC_TRIGCNT + 1) (2 ^ 32 - 1)

theorem State.recTrigger_triggered (h : s.regsOk = true) (g src : Nat) : s.Triggered (s.recTrigger g src) g src := by
  refine ⟨fun h2 => ?_, fun hm => ?_, fun h3 hne => ?_⟩
  · obtain ⟨hok, hst, htr, hsrc, -⟩ := State.recCaught_caught h g src
    have wd := State.recDone_writes hok
    rw [State.recTrigger_armed h2]
    refine ⟨State.recDone_state hok hst, ?_, ?_⟩
    · rw [State.recDone_hop, htr]
    · rw [wd.regN (by decide), hsrc]
  · have w1 : s.Writes (· = Reg.REC_MISSCNT) (s.bump Reg.REC_MISSCNT) := (State.Writes.refl h).bump rfl
    have w2 : (s.bump Reg.REC_MISSCNT).Writes (· ∈ stickRegs Stk.REC_REARM_MISS) ((s.bump Reg.REC_MISSCNT).stick Stk.REC_REARM_MISS) :=
      (State.Writes.refl w1.ok).stick _ fun _ => id
    rw [State.recTrigger_missed hm]
    refine ⟨(w2.fld _ (by decide)).trans (w1.fld _ (by decide)), State.stick_stuck _ w1.ok (by decide) (by decide), ?_⟩
    rw [w2.regN (by decide)]
    exact State.regN_bump h _
  · have w1 : s.Writes (· = Reg.REC_TRIGCNT) (s.bump Reg.REC_TRIGCNT) := (State.Writes.refl h).bump rfl
    rw [State.recTrigger_post h3, if_neg hne]
    exact ⟨(w1.fld _ (by decide)).trans h3, State.regN_bump h _⟩

theorem execTrigger_spec {i : Instr} {src : Nat} (hs : s.inv = true) (hclk : s.recClocked = true)
    (hi : i = .recCtrlSwtrig ∧ src = 2 ^ 25 ∨ ∃ ev : Fin 16, i = .recorderTrigger ev ∧ ev.val &&& s.fld Reg.REC_EVTRIG F.REC_EVTRIG_EV ≠ 0 ∧
      src = 2 ^ 16 * (ev.val &&& s.fld Reg.REC_EVTRIG F.REC_EVTRIG_EV)) :
    ∃ t, exec i s = .next t ∧ s.keeps t ([.gt, .hop] ++ logParts) ∧ t.gt = (s.gtTo ((s.gt + 4) / 5 * 5)).gt ∧
      (s.recState = 2 → (t.recState = 3 ∨ t.recState = 4) ∧ t.hop.trigAt = (s.gt + 4) / 5 * 5 ∧ t.regN Reg.REC_TRIGSRC = src) ∧
      (s.recState = 1 ∨ s.recState = 4 → t.recState = s.recState ∧ t.stuck Stk.REC_REARM_MISS = true ∧
        t.regN Reg.REC_MISSCNT = min (s.regN Reg.REC_MISSCNT + 1) (2 ^ 32 - 1)) ∧
      (s.recState = 3 → (s.gt + 4) / 5 * 5 ≠ s.hop.trigAt → t.recState = 3 ∧
        t.regN Reg.REC_TRIGCNT = min (s.regN Reg.REC_TRIGCNT + 1) (2 ^ 32 - 1)) := by
  let g := (s.gt + 4) / 5 * 5
  let s1 := s.gtTo g
  have hexec : exec i s = .next (s1.recTrigger g src) := by
    obtain ⟨rfl, rfl⟩ | ⟨ev, rfl, hev, rfl⟩ := hi
    · exact congrArg Host.Outcome.next (if_pos hclk)
    · exact congrArg Host.Outcome.next (if_neg (by simp [hev, hclk]))
  have hsrc : src % 2 ^ 32 = src := by
    refine Nat.mod_eq_of_lt ?_
    obtain ⟨-, rfl⟩ | ⟨ev, -, -, rfl⟩ := hi
    · decide
    · have hle : ev.val &&& s.fld Reg.REC_EVTRIG F.REC_EVTRIG_EV ≤ ev.val := Nat.and_le_left
      have := ev.isLt
      omega
  have hm1 : s.Moves [] ([.gt, .hop] ++ logParts) s1 := .gtTo (.refl s) (by decide)
  have hok1 : s1.regsOk = true := State.regsOk_of_inv (hm1.inv hs)
  have hgt1 : s1.gt = (s.gtTo ((s.gt + 4) / 5 * 5)).gt := rfl
  have hregs1 : s1.regs = s.regs := State.gtTo_regs _ _
  have hhop1 : s1.hop = s.hop := State.gtTo_hop _ _
  clear_value s1
  have hst1 : s1.recState = s.recState := State.recState_of_regs hregs1
  have hm : s1.Moves [] (.hop :: logParts) (s1.recTrigger g src) := .recTrigger (.refl s1) (by decide)
  obtain ⟨ha, hmiss, hcnt⟩ := State.recTrigger_triggered hok1 g src
  rw [hsrc, hst1] at ha
  rw [hst1, State.regN_of_reg (State.reg_of_regs hregs1 _)] at hmiss
  rw [hst1, hhop1, State.regN_of_reg (State.reg_of_regs hregs1 _)] at hcnt
  exact ⟨_, hexec, (hm1.trans (hm.mono (by decide))).keeps, (hm.gt_kept (by decide)).trans hgt1, ha, hmiss, hcnt⟩

/-! ## Groups -/

/-- The states of the groups and the samples of the tracks, which neither the steps of the banks nor the end of a capture changes. -/
structure State.Tracked (s t : State) : Prop where
  ok : t.regsOk = true
  states : ∀ k, (t.bank k).state = (s.bank k).state
  samples : ∀ a, (t.hop.tracks.at a).sample = (s.hop.tracks.at a).sample

theorem State.RecSteps.tracked (h : s.RecSteps t) : s.Tracked t := ⟨h.writes.ok, h.states, h.samples⟩

theorem State.Tracked.ite {u : State} {c : Prop} [Decidable c] (ht : s.Tracked t) (hu : s.Tracked u) : s.Tracked (if c then t else u) := by
  split
  · exact ht
  · exact hu

theorem State.Tracked.recDone (h : s.Tracked t) : s.Tracked t.recDone := by
  refine ⟨(State.recDone_writes h.ok).ok, fun k => ?_, fun a => ?_⟩
  · rw [State.bank_of_hop (State.recDone_hop t), h.states]
  · rw [State.recDone_hop, h.samples]

theorem execTrackChange_spec {g : Fin 16} (hs : s.inv = true) (hclk : s.recClocked = true) (hk : s.recKind g ≠ 0) :
    let u := s.gtTo ((s.gt + 4) / 5 * 5)
    ∃ t, exec (.trackChange g) s = .next t ∧ s.keeps t ([.gt, .hop] ++ logParts) ∧ t.gt = u.gt ∧ (t.bank g).state = u.groupState g ∧
      (s.recState = 0 → s.keeps t [.gt, .hop]) ∧ (∀ k, k ≠ g.val → s.recState = 0 → t.bank k = s.bank k) := by
  intro u
  have hm : s.Moves [] ([.gt, .hop] ++ logParts) (s.trackChange g) := .trackChange (.refl s) (by decide)
  have hc : ¬ (!s.recClocked || s.recKind g = 0) = true := by simp [hclk, hk]
  have hmu : s.Moves [] [.gt, .hop] u := .gtTo (.refl s) (by decide)
  have hinvu : u.inv = true := hmu.inv hs
  have hhop : u.hop = s.hop := State.gtTo_hop _ _
  have hstu : u.recState = s.recState := State.recState_of_regs (State.gtTo_regs _ _)
  refine ⟨_, rfl, hm.keeps, ?_⟩
  unfold State.trackChange
  rw [if_neg hc]
  extract_lets g' s1 v old ch s2 s3 hit
  have h1 : s1 = u := rfl
  clear_value s1
  subst h1
  clear_value u
  by_cases hknown : (!(u.bank g).known) = true
  · rw [if_pos hknown]
    refine ⟨rfl, ?_, fun _ => (hmu.bankMod (by decide)).keeps, fun k hkg _ => ?_⟩
    · rw [State.bank_bankMod_same hinvu]
    · exact (Tab.at_mod_ne _ _ hkg).trans (congrArg (fun x : RecState => x.banks.at k) hhop)
  rw [if_neg hknown]
  by_cases hv : v = old
  · rw [if_pos hv]
    exact ⟨rfl, hv.symm, fun _ => hmu.keeps, fun k _ _ => State.bank_of_hop hhop k⟩
  rw [if_neg hv]
  have hm2 : u.Moves [] [.hop] s2 := .bankMod (.refl u) (by decide)
  have hok2 : s2.regsOk = true := State.regsOk_of_inv (hm2.inv hinvu)
  have hbank2 : (s2.bank g).state = v := congrArg RecBank.state (State.bank_bankMod_same hinvu g _)
  have hst2 : s2.recState = s.recState := hstu
  have hother2 : ∀ k, k ≠ g.val → s2.bank k = s.bank k := fun k hkg =>
    (Tab.at_mod_ne _ _ hkg).trans (congrArg (fun x : RecState => x.banks.at k) hhop)
  clear_value s2 hit
  have ht3 : s2.Tracked s3 := .ite ((State.RecSteps.refl hok2).digital.bankView).tracked.recDone (State.RecSteps.refl hok2).tracked
  have hm3 : s2.Moves [] (.hop :: logParts) s3 :=
    .ite (.recDone (.bankView (.digital (.refl s2) (by decide)) (by decide)) (by decide)) (.refl s2)
  have hidle3 : s.recState = 0 → s3 = s2 := fun h => if_neg (by simp [hst2, h])
  clear_value s3
  let t := if hit ≠ 0#32 then s3.recTrigger g' (2 ^ g.val) else s3
  have hmt : s3.Moves [] (.hop :: logParts) t := .ite (.recTrigger (.refl s3) (by decide)) (.refl s3)
  have hstates : ∀ k, (t.bank k).state = (s3.bank k).state := by
    dsimp only [t]
    split
    · exact (State.recTrigger_tracks ht3.ok _ _).1
    · exact fun _ => rfl
  have hidle : s.recState = 0 → t = s2 := fun h => by
    have h32 := hidle3 h
    have h0 : s3.recState = 0 := by rw [h32, hst2, h]
    dsimp only [t]
    rw [State.recTrigger_none (by omega) (by omega) (by omega) (by omega), ite_self, h32]
  show t.gt = u.gt ∧ (t.bank g).state = v ∧ (s.recState = 0 → s.keeps t [.gt, .hop]) ∧ ∀ k, k ≠ g.val → s.recState = 0 → t.bank k = s.bank k
  refine ⟨?_, ?_, fun h => ?_, fun k hkg h => ?_⟩
  · rw [hmt.gt_kept (by decide), hm3.gt_kept (by decide), hm2.gt_kept (by decide)]
  · rw [hstates, ht3.states, hbank2]
  · rw [hidle h]
    exact (hmu.trans (hm2.mono (by decide))).keeps
  · rw [hidle h]
    exact hother2 k hkg

/-! ## Tracks -/

/-- A sample of a track on its grid, with the decisions whether it is stored and whether it is a trigger (R407, R412). -/
def State.sampleWith (u : State) (a g : Nat) (v : Word) (far hit : Bool) : State :=
  let s2 := if far && (u.recState = 2 || u.recState = 3) then ((u.analog a g v).bankView (a / 4)).recDone else u
  let s3 := s2.trackMod a (fun y => { y with sample := some v })
  if hit then s3.recTrigger g (2 ^ 24) else s3

section

variable {a : Fin 64} {l : AdcLast} {v : Word} (hclk : s.recClocked = true) (hon : s.trackOn a = true)
  (hlast : (s.ana.cores.at (s.fld (Reg.REC_ASRC a) F.REC_ASRC_CORE)).last.find (s.fld (Reg.REC_ASRC a) F.REC_ASRC_ENTRY) = some l)
  (hval : l.val = v)

include hclk hon hlast hval

theorem State.analogSample_eq {g : Nat} (hg : g = (s.gt + 5 * max 100 (s.fld Reg.REC_ACFG F.REC_ACFG_APER) - 1) /
      (5 * max 100 (s.fld Reg.REC_ACFG F.REC_ACFG_APER)) * (5 * max 100 (s.fld Reg.REC_ACFG F.REC_ACFG_APER))) (hend : l.ended < g) :
    ∃ far hit, s.analogSample a = (s.gtTo g).sampleWith a g v far hit := by
  have hc : ¬ (!s.recClocked || !s.trackOn a) = true := by simp [hclk, hon]
  have hr : ((s.gtTo g).ana.cores.at (s.fld (Reg.REC_ASRC a) F.REC_ASRC_CORE)).last.find (s.fld (Reg.REC_ASRC a) F.REC_ASRC_ENTRY) = some l := by
    rw [State.gtTo_ana]
    exact hlast
  unfold State.analogSample
  rw [if_neg hc]
  dsimp only
  rw [← hg, hr]
  dsimp only
  rw [if_pos hend, hval]
  exact ⟨_, _, rfl⟩

theorem execAnalogSample_spec (hs : s.inv = true) :
    let per := 5 * max 100 (s.fld Reg.REC_ACFG F.REC_ACFG_APER)
    let g := (s.gt + per - 1) / per * per
    l.ended < g →
    ∃ t, exec (.analogSample a) s = .next t ∧ s.keeps t ([.gt, .hop] ++ logParts) ∧ t.gt = (s.gtTo g).gt ∧ (t.hop.tracks.at a).sample = some v ∧
      (s.recState = 0 → s.keeps t [.gt, .hop] ∧ t.hop.banks = s.hop.banks) := by
  intro per g hend
  have hm : s.Moves [] ([.gt, .hop] ++ logParts) (s.analogSample a) := .analogSample (.refl s) (by decide)
  obtain ⟨far, hit, heq⟩ := State.analogSample_eq hclk hon hlast hval (g := g) rfl hend
  let u := s.gtTo g
  have hmu : s.Moves [] [.gt, .hop] u := .gtTo (.refl s) (by decide)
  have hinvu : u.inv = true := hmu.inv hs
  have hhop : u.hop = s.hop := State.gtTo_hop _ _
  have hstu : u.recState = s.recState := State.recState_of_regs (State.gtTo_regs _ _)
  have hgt : u.gt = (s.gtTo g).gt := rfl
  refine ⟨_, rfl, hm.keeps, ?_⟩
  rw [show s.analogSample a = u.sampleWith a g v far hit from heq]
  unfold State.sampleWith
  extract_lets s2 s3
  clear_value u
  have hoku : u.regsOk = true := State.regsOk_of_inv hinvu
  have hm2 : u.Moves [] (.hop :: logParts) s2 :=
    .ite (.recDone (.bankView (.analog (.refl u) (by decide)) (by decide)) (by decide)) (.refl u)
  have hidle2 : s.recState = 0 → s2 = u := fun h => if_neg (by simp [hstu, h])
  clear_value s2
  have hinv2 : s2.inv = true := hm2.inv hinvu
  have hm3 : s2.Moves [] [.hop] s3 := .trackMod (.refl s2) (by decide)
  have hok3 : s3.regsOk = true := State.regsOk_of_inv (hm3.inv hinv2)
  have hsample3 : (s3.hop.tracks.at a).sample = some v := by
    have hlen : a.val < s2.hop.tracks.length := by
      rw [(State.sized_of_inv hinv2).hop.2]
      exact a.isLt
    exact congrArg RecTrack.sample (Tab.at_mod_same s2.hop.tracks a.val _ hlen)
  have hbanks3 : s3.hop.banks = s2.hop.banks := rfl
  have hst3 : s3.recState = s2.recState := rfl
  clear_value s3
  let t := if hit = true then s3.recTrigger g (2 ^ 24) else s3
  have hmt : s3.Moves [] (.hop :: logParts) t := .ite (.recTrigger (.refl s3) (by decide)) (.refl s3)
  have hsample : (t.hop.tracks.at a).sample = (s3.hop.tracks.at a).sample := by
    dsimp only [t]
    split
    · exact (State.recTrigger_tracks hok3 _ _).2 _
    · rfl
  have hidle : s.recState = 0 → t = s3 := fun h => by
    have h0 : s3.recState = 0 := by rw [hst3, hidle2 h, hstu, h]
    dsimp only [t]
    rw [State.recTrigger_none (by omega) (by omega) (by omega) (by omega), ite_self]
  show t.gt = (s.gtTo g).gt ∧ (t.hop.tracks.at a).sample = some v ∧ (s.recState = 0 → s.keeps t [.gt, .hop] ∧ t.hop.banks = s.hop.banks)
  refine ⟨?_, hsample.trans hsample3, fun h => ⟨?_, ?_⟩⟩
  · rw [hmt.gt_kept (by decide), hm3.gt_kept (by decide), hm2.gt_kept (by decide), hgt]
  · rw [hidle h]
    have hm23 : u.Moves [] [.gt, .hop] s3 := by
      rw [hidle2 h] at hm3
      exact hm3.mono (by decide)
    exact (hmu.trans hm23).keeps
  · rw [hidle h, hbanks3, hidle2 h, hhop]

end

end

/-- Settles O39: the pulses by their equations, the recorder by what the steps of its banks leave. -/
theorem meteringPinsAndRecorder : Obligations.MeteringPinsAndRecorder :=
  ⟨⟨fun _ _ hs hp => ⟨execPlsPulse_spec hs hp, execPlsPulseEnd_spec hs hp⟩, fun _ _ _ hs hp => execMcntEdge_spec hs hp,
      fun _ _ _ hs => execMcntCfgWrite_spec hs⟩,
    fun _ _ hs hclk hk => execTrackChange_spec hs hclk hk, fun _ _ _ _ hs hclk hon hlast hval => execAnalogSample_spec hclk hon hlast hval hs,
    fun _ => execRecCtrlArm_spec, fun _ => execRearmComplete_spec, fun _ _ _ hs hclk hi => execTrigger_spec hs hclk hi,
    fun _ hs h1 h3 => ⟨execRecCtrlStop_spec hs h1 h3, execPostEnd_spec hs⟩⟩

end Sys2Proof.Machine
end

section
/-!
PROOFS. The clearing of sticky bits, of summary bits and of counters, and the file's times (R13, R36, R490, R491): O44.
-/
namespace Sys2Proof.Machine

/-! ## The bits of the file -/

/-- NET_STK[4] is the bit of PAN_STK[5] (R489). -/
def fileNum (n : Nat) : Nat := if n = 88 then 5 else n

/-- The run that holds a file bit. -/
def fileRun (m : Nat) : Option StkRun := stkRuns.find? (fun r => r.file ≤ m && m < r.file + r.len)

/-- Bit `j` of register `a` is an instance of file bit `m` (R489). -/
def FileAt (m a j : Nat) : Prop := ∃ r i, fileRun m = some r ∧ i < r.count ∧ a = r.base + r.stride * i ∧ j = m - r.file + r.lo

theorem stkRuns_bits : ∀ r ∈ stkRuns, r.lo + r.len ≤ 32 := by decide

theorem stkRuns_apart : ∀ r ∈ stkRuns, ∀ q ∈ stkRuns,
    r = q ∨ r.base + r.stride * (r.count - 1) < q.base ∨ q.base + q.stride * (q.count - 1) < r.base := by decide

theorem fileRun_spec {m : Nat} {r : StkRun} (h : fileRun m = some r) : r ∈ stkRuns ∧ r.file ≤ m ∧ m < r.file + r.len := by
  have hp := List.find?_some h
  rw [Bool.and_eq_true, decide_eq_true_eq, decide_eq_true_eq] at hp
  exact ⟨List.mem_of_find?_eq_some h, hp⟩

/-- No bit of a register is an instance of two file bits. -/
theorem FileAt.unique {m n a j : Nat} (h : FileAt m a j) (k : FileAt n a j) : m = n := by
  obtain ⟨r, i, hr, hi, ha, hj⟩ := h
  obtain ⟨q, l, hq, hl, ha', hj'⟩ := k
  obtain ⟨hrm, hr1, hr2⟩ := fileRun_spec hr
  obtain ⟨hqm, hq1, hq2⟩ := fileRun_spec hq
  have hri : r.stride * i ≤ r.stride * (r.count - 1) := Nat.mul_le_mul_left _ (by omega)
  have hql : q.stride * l ≤ q.stride * (q.count - 1) := Nat.mul_le_mul_left _ (by omega)
  obtain rfl | hlt | hlt := stkRuns_apart r hrm q hqm
  · omega
  · omega
  · omega

theorem FileAt.sticky {m a j : Nat} (h : FileAt m a j) : stickyReg a ∧ j < 32 := by
  obtain ⟨r, i, hr, hi, ha, hj⟩ := h
  obtain ⟨hrm, hr1, hr2⟩ := fileRun_spec hr
  have := stkRuns_bits r hrm
  exact ⟨⟨r, i, hrm, hi, ha⟩, by omega⟩

section

variable {s t : State}

theorem State.fileBit_iff (s : State) (n : Nat) : s.fileBit n = true ↔ ∃ a j, FileAt (fileNum n) a j ∧ (s.reg a).getLsbD j = true := by
  have hdef : s.fileBit n = ((fileRun (fileNum n)).elim false fun r =>
      (List.range r.count).any (fun i => (s.reg (r.base + r.stride * i)).getLsbD (fileNum n - r.file + r.lo))) := by
    show (match fileRun (fileNum n) with | none => false | some r => _) = _
    cases fileRun (fileNum n) <;> rfl
  rw [hdef]
  constructor
  · intro h
    cases hr : fileRun (fileNum n) with
    | none =>
      rw [hr] at h
      exact absurd h Bool.false_ne_true
    | some r =>
      rw [hr] at h
      obtain ⟨i, hi, hb⟩ := List.any_eq_true.1 h
      exact ⟨_, _, ⟨r, i, hr, List.mem_range.1 hi, rfl, rfl⟩, hb⟩
  · rintro ⟨a, j, ⟨r, i, hr, hi, rfl, rfl⟩, hb⟩
    rw [hr]
    exact List.any_eq_true.2 ⟨i, List.mem_range.2 hi, hb⟩

/-! ## Clearing one bit of the file -/

/-- What clearing a bit of the file leaves: of the registers, all but the bit's instances. -/
structure State.FileCleared (s t : State) (m : Nat) : Prop where
  ok : t.regsOk = true
  clear : ∀ a j, FileAt m a j → (t.reg a).getLsbD j = false
  same : ∀ a j, ¬ FileAt m a j → (t.reg a).getLsbD j = (s.reg a).getLsbD j
  queue : t.log.queue = s.log.queue

theorem State.setBit_bit (h : s.regsOk = true) {a i : Nat} (hi : i < 32) (b : Bool) (a' j : Nat) :
    ((s.setBit a i b).reg a').getLsbD j = if a' = a ∧ j = i then b else (s.reg a').getLsbD j := by
  by_cases ha : a' = a
  · subst ha
    by_cases hj : j = i
    · rw [if_pos ⟨rfl, hj⟩, hj, State.bit_setBit _ _ _ h hi]
    · rw [if_neg (fun hc => hj hc.2), State.bit_setBit_ne _ _ _ _ h hi hj]
  · rw [if_neg (fun hc => ha hc.1)]
    exact congrArg (·.getLsbD j) (State.reg_setFld_ne _ _ h ha)

/-- The bit of one column of registers cleared. -/
theorem State.clearColumn (h : s.regsOk = true) (base stride k n : Nat) (hk : k < 32) :
    let t := (List.range n).foldl (fun u i => u.setBit (base + stride * i) k false) s
    t.regsOk = true ∧ t.log = s.log ∧ ∀ a j, (t.reg a).getLsbD j =
      ((s.reg a).getLsbD j && !decide (j = k ∧ ∃ i, i < n ∧ a = base + stride * i)) := by
  intro t
  induction n with
  | zero => exact ⟨h, rfl, fun a j => by simp [t]⟩
  | succ n ih =>
    obtain ⟨hok, hlog, hbits⟩ := ih
    have ht : t = State.setBit ((List.range n).foldl (fun u i => u.setBit (base + stride * i) k false) s) (base + stride * n) k false := by
      simp only [t, List.range_succ, List.foldl_append, List.foldl_cons, List.foldl_nil]
    rw [ht]
    refine ⟨State.setBit_ok _ _ _ hok, hlog, fun a j => ?_⟩
    rw [State.setBit_bit hok hk, hbits]
    have hsplit : (∃ i, i < n + 1 ∧ a = base + stride * i) ↔ (∃ i, i < n ∧ a = base + stride * i) ∨ a = base + stride * n := by
      constructor
      · rintro ⟨i, hi, rfl⟩
        rcases Nat.lt_succ_iff_lt_or_eq.1 hi with hi | rfl
        · exact .inl ⟨i, hi, rfl⟩
        · exact .inr rfl
      · rintro (⟨i, hi, rfl⟩ | rfl)
        · exact ⟨i, by omega, rfl⟩
        · exact ⟨n, by omega, rfl⟩
    simp only [hsplit]
    by_cases hj : j = k <;> by_cases ha : a = base + stride * n <;> simp [hj, ha]

theorem State.clearFile_cleared (h : s.regsOk = true) (n : Nat) : s.FileCleared (s.clearFile n) (fileNum n) := by
  have hdef : s.clearFile n = (fileRun (fileNum n)).elim s fun r =>
      let t := (List.range r.count).foldl (fun u i => u.setBit (r.base + r.stride * i) (fileNum n - r.file + r.lo) false) s
      { t with log := { t.log with fgt := t.log.fgt.drop (fileNum n) } } := by
    show (match fileRun (fileNum n) with | none => s | some r => _) = _
    cases fileRun (fileNum n) <;> rfl
  rw [hdef]
  cases hr : fileRun (fileNum n) with
  | none =>
    refine ⟨h, fun a j hat => ?_, fun _ _ _ => rfl, rfl⟩
    obtain ⟨r, -, hr', -⟩ := hat
    exact absurd (hr.symm.trans hr') (by simp)
  | some r =>
    obtain ⟨hrm, hr1, hr2⟩ := fileRun_spec hr
    have := stkRuns_bits r hrm
    obtain ⟨hok, hlog, hbits⟩ := State.clearColumn h r.base r.stride (fileNum n - r.file + r.lo) r.count (by omega)
    have hat : ∀ a j, FileAt (fileNum n) a j ↔ j = fileNum n - r.file + r.lo ∧ ∃ i, i < r.count ∧ a = r.base + r.stride * i := by
      intro a j
      constructor
      · rintro ⟨q, i, hq, hi, ha, hj⟩
        obtain rfl : r = q := Option.some.inj (hr.symm.trans hq)
        exact ⟨hj, i, hi, ha⟩
      · rintro ⟨hj, i, hi, ha⟩
        exact ⟨r, i, hr, hi, ha, hj⟩
    have hq : ∀ u : State, u.log = s.log → ({ u with log := { u.log with fgt := u.log.fgt.drop (fileNum n) } } : State).log.queue = s.log.queue :=
      fun u hu => (congrArg LogState.queue hu : u.log.queue = s.log.queue)
    refine ⟨hok, fun a j hf => ?_, fun a j hf => ?_, hq _ hlog⟩
    · refine (hbits a j).trans ?_
      rw [decide_eq_true ((hat a j).1 hf), Bool.not_true, Bool.and_false]
    · refine (hbits a j).trans ?_
      rw [decide_eq_false (fun hc => hf ((hat a j).2 hc)), Bool.not_false, Bool.and_true]

/-- No bit of the file is set by a clear; another bit keeps its value. -/
theorem State.FileCleared.fileBit {m : Nat} (h : s.FileCleared t m) :
    (∀ n, fileNum n = m → t.fileBit n = false) ∧ (∀ n, fileNum n ≠ m → t.fileBit n = s.fileBit n) := by
  refine ⟨fun n hn => ?_, fun n hn => ?_⟩
  · rw [Bool.eq_false_iff, ne_eq, State.fileBit_iff, hn]
    rintro ⟨a, j, hat, hb⟩
    exact absurd (hb.symm.trans (h.clear a j hat)) (by decide)
  · rw [Bool.eq_iff_iff, State.fileBit_iff, State.fileBit_iff]
    have hsame : ∀ a j, FileAt (fileNum n) a j → (t.reg a).getLsbD j = (s.reg a).getLsbD j :=
      fun a j hat => h.same a j fun hc => hn (hat.unique hc)
    constructor
    · rintro ⟨a, j, hat, hb⟩
      exact ⟨a, j, hat, (hsame a j hat).symm.trans hb⟩
    · rintro ⟨a, j, hat, hb⟩
      exact ⟨a, j, hat, (hsame a j hat).trans hb⟩

theorem State.FileCleared.reg {m : Nat} (h : s.FileCleared t m) {a : Nat} (ha : ¬ stickyReg a) : t.reg a = s.reg a :=
  BitVec.eq_of_getLsbD_eq fun j _ => h.same a j fun hf => ha hf.sticky.1

/-! ## Summary words -/

/-- What clearing some bits of the file leaves. -/
structure State.FilesCleared (s t : State) : Prop where
  ok : t.regsOk = true
  regs : ∀ a, ¬ stickyReg a → t.reg a = s.reg a
  queue : t.log.queue = s.log.queue
  bits : ∀ n, s.fileBit n = false → t.fileBit n = false

theorem State.FilesCleared.refl (h : s.regsOk = true) : s.FilesCleared s := ⟨h, fun _ _ => rfl, rfl, fun _ => id⟩

theorem State.FilesCleared.clearFile (h : s.FilesCleared t) (n : Nat) : s.FilesCleared (t.clearFile n) := by
  have hc := State.clearFile_cleared h.ok n
  refine ⟨hc.ok, fun a ha => (hc.reg ha).trans (h.regs a ha), hc.queue.trans h.queue, fun k hk => ?_⟩
  by_cases he : fileNum k = fileNum n
  · exact hc.fileBit.1 k he
  · exact (hc.fileBit.2 k he).trans (h.bits k hk)

/-- One step of the clearing of a summary word. -/
def clearSumBit (i : Nat) (mask : Word) (t : State) (b : Nat) : State := if mask.getLsbD b then t.clearFile (32 * i + b) else t

theorem State.FilesCleared.clearSumBit (h : s.FilesCleared t) (i : Nat) (mask : Word) (b : Nat) :
    s.FilesCleared (Machine.clearSumBit i mask t b) := by
  unfold Machine.clearSumBit
  split
  · exact h.clearFile _
  · exact h

theorem State.clearSum_cleared (h : s.regsOk = true) (i : Nat) (mask : Word) : s.FilesCleared (s.clearSum i mask) := by
  have hall : ∀ l : List Nat, s.FilesCleared (l.foldl (Machine.clearSumBit i mask) s) := fun l =>
    List.foldlRecOn l _ (State.FilesCleared.refl h) fun _ hv _ _ => hv.clearSumBit i mask _
  exact hall _

theorem State.clearSum_clear (h : s.regsOk = true) {i b : Nat} {mask : Word} (hb : b < 32) (hm : mask.getLsbD b = true) :
    (s.clearSum i mask).fileBit (32 * i + b) = false := by
  have hstep {t : State} (ht : t.regsOk = true) (k : Nat) : t.FilesCleared (clearSumBit i mask t k) := (State.FilesCleared.refl ht).clearSumBit i mask k
  have hall : ∀ l : List Nat, l.Nodup → b ∈ l → (l.foldl (clearSumBit i mask) s).fileBit (32 * i + b) = false := fun l hl hbl =>
    (foldl_visit (f := clearSumBit i mask) (P := fun t => t.regsOk = true) (Q := fun t => t.regsOk = true ∧ t.fileBit (32 * i + b) = false) hl hbl
      (fun t k _ _ ht => (hstep ht k).ok)
      (fun t ht => ⟨(hstep ht b).ok, by
        rw [clearSumBit, if_pos hm]
        exact (State.clearFile_cleared ht _).fileBit.1 _ rfl⟩)
      (fun t k _ _ ht => ⟨(hstep ht.1 k).ok, (hstep ht.1 k).bits _ ht.2⟩) h).2
  exact hall _ List.nodup_range (List.mem_range.2 hb)

theorem State.clearSum_keep (h : s.regsOk = true) {i n : Nat} {mask : Word} (h5 : n ≠ 5) (h88 : n ≠ 88)
    (hn : ∀ b, b < 32 → n = 32 * i + b → mask.getLsbD b = false) : (s.clearSum i mask).fileBit n = s.fileBit n := by
  have hnum : ∀ b, b < 32 → mask.getLsbD b = true → fileNum n ≠ fileNum (32 * i + b) := fun b hb hm he => by
    rw [fileNum, if_neg h88, fileNum] at he
    split at he
    · exact h5 he
    · exact absurd (hm.symm.trans (hn b hb he)) (by decide)
  have hall : ∀ l : List Nat, (∀ b ∈ l, b < 32) → (l.foldl (clearSumBit i mask) s).regsOk = true ∧
      (l.foldl (clearSumBit i mask) s).fileBit n = s.fileBit n := fun l hl =>
    List.foldlRecOn (motive := fun t : State => t.regsOk = true ∧ t.fileBit n = s.fileBit n) l _ ⟨h, rfl⟩ fun t ht b hb => by
      unfold clearSumBit
      split
      · next hm =>
        have hc := State.clearFile_cleared ht.1 (32 * i + b)
        exact ⟨hc.ok, (hc.fileBit.2 n (hnum b (hl b hb) hm)).trans ht.2⟩
      · exact ht
  exact (hall _ fun _ => List.mem_range.1).2

/-! ## The steps -/

theorem execPanCtrlClear_spec (s : State) :
    (s.dev = .standby → ∃ t, exec .panCtrlClear s = .next t ∧ s.keeps t [.pan] ∧ t.pan.clearNext = true ∧ t.pan.committed = s.pan.committed ∧
      t.pan.pend = s.pan.pend) ∧ (s.dev ≠ .standby → exec .panCtrlClear s = .next s) := by
  refine ⟨fun h => ⟨{ s with pan := { s.pan with clearNext := true } }, congrArg Host.Outcome.next (if_pos (by simp [h])), by simp [State.keeps], rfl,
    rfl, rfl⟩, fun h => congrArg Host.Outcome.next (if_neg (by simp [h]))⟩

theorem State.tidyFgt_regs (s : State) : s.tidyFgt.regs = s.regs := rfl

/-- A bit after the clear of a mask. -/
theorem State.clearStkBits_bit (h : s.regsOk = true) (a m i : Nat) (hi : i < 32) :
    ((s.clearStkBits a m).reg a).getLsbD i = ((s.reg a).getLsbD i && !m.testBit i) := by
  unfold State.clearStkBits
  rw [State.reg_setReg _ _ h, BitVec.getLsbD_and, BitVec.getLsbD_not, BitVec.getLsbD_ofNat]
  simp [hi]

/-- The write of ones to a sticky register. -/
theorem execStickyClear_register {a : Fin 1048576} {val sets : Word} {r : RegRow} (hs : s.inv = true) (hp : s.powered = true) (ha : 0x10010 ≤ a.val)
    (hrow : regRow (fileView a) = some r) (habs : s.absentReg (fileView a) = false) (hket : ¬ (0x44100 ≤ fileView a ∧ fileView a < 0x50000)) :
    ∃ t, exec (.stickyClear a val sets) s = .next t ∧ s.keeps t [.regs, .log] ∧ s.sameRegs t [fileView a, Reg.PAN_STK] ∧
      (fileView a ≠ Reg.NET_STK → s.sameRegs t [fileView a]) ∧ t.log.queue = s.log.queue ∧
      ∀ i, (t.reg (fileView a)).getLsbD i = ((s.reg (fileView a)).getLsbD i && !(val.getLsbD i && !sets.getLsbD i && r.w1c.testBit i)) := by
  let b := fileView a
  let m := (val &&& ~~~sets).toNat &&& r.w1c
  have hexec : exec (.stickyClear a val sets) s = .next (s.w1c b r.w1c (val &&& ~~~sets)) := by
    have hdef : s.stickyClear a (val &&& ~~~sets) = s.w1c b r.w1c (val &&& ~~~sets) := by
      unfold State.stickyClear
      rw [if_neg (by omega), hrow]
      exact if_neg (by simp [habs])
    exact congrArg Host.Outcome.next ((if_pos hp).trans hdef)
  have hbit : ∀ i, i < 32 → m.testBit i = (val.getLsbD i && !sets.getLsbD i && r.w1c.testBit i) := fun i hi => by
    show ((val &&& ~~~sets).toNat &&& r.w1c).testBit i = _
    rw [Nat.testBit_and]
    show ((val &&& ~~~sets).getLsbD i && _) = _
    rw [BitVec.getLsbD_and, BitVec.getLsbD_not]
    simp [hi]
  have hhigh : ∀ (w : Word) i, ¬ i < 32 → w.getLsbD i = false := fun w i hi => BitVec.getLsbD_of_ge _ _ (by omega)
  rw [hexec]
  have hsok : s.regsOk = true := State.regsOk_of_inv hs
  by_cases hm : m = 0
  · have heq : s.w1c b r.w1c (val &&& ~~~sets) = s := if_pos hm
    rw [heq]
    refine ⟨s, rfl, State.keeps_refl _ _, fun _ _ => rfl, fun _ _ _ => rfl, rfl, fun i => ?_⟩
    by_cases hi : i < 32
    · rw [← hbit i hi, hm, Nat.zero_testBit, Bool.not_false, Bool.and_true]
    · rw [hhigh _ i hi, Bool.false_and]
  · let u := if b = Reg.NET_STK && m.testBit 4 then s.clearStkBits Reg.PAN_STK 32 else s
    have heq : s.w1c b r.w1c (val &&& ~~~sets) = (u.clearStkBits b m).tidyFgt := by
      have hc : ¬ (0x44100 ≤ b && b < 0x50000) = true := by
        rw [Bool.and_eq_true, decide_eq_true_eq, decide_eq_true_eq]
        exact hket
      exact (if_neg hm).trans (if_neg hc)
    rw [heq]
    have hwu : s.Writes (· = Reg.PAN_STK) u := .ite ((State.Writes.refl hsok).setReg _ rfl) (.refl hsok)
    have hub : u.reg b = s.reg b := by
      by_cases hb : b = Reg.NET_STK
      · exact hwu.reg (by rw [hb]; decide)
      · have hu : u = s := if_neg (by simp [hb])
        rw [hu]
    have hmu : s.Moves [] [.regs, .log] u := .ite (.clearStkBits (.refl s) (by decide)) (.refl s)
    have hqu : u.log = s.log := by
      dsimp only [u]
      split <;> rfl
    have hnet : b ≠ Reg.NET_STK → u = s := fun hb => if_neg (by simp [hb])
    have hqueue : u.log.queue = s.log.queue := by rw [hqu]
    clear_value u
    have hwt : u.Writes (· = b) (u.clearStkBits b m) := (State.Writes.refl hwu.ok).setReg _ rfl
    have hmt : s.Moves [] [.regs, .log] (u.clearStkBits b m).tidyFgt := .tidyFgt (.clearStkBits hmu (by decide)) (by decide)
    have hreg : ∀ k, (u.clearStkBits b m).tidyFgt.reg k = (u.clearStkBits b m).reg k := fun k => State.reg_of_regs (State.tidyFgt_regs _) k
    refine ⟨_, rfl, hmt.keeps, fun k hk => ?_, fun hb k hk => ?_, hqueue, fun i => ?_⟩
    · rw [hreg, hwt.reg (fun h => hk (by simp [h, b])), hwu.reg (fun h => hk (by simp [h]))]
    · rw [hreg, hwt.reg (fun h => hk (by simp [h, b])), hnet hb]
    · show ((u.clearStkBits b m).tidyFgt.reg b).getLsbD i = _
      rw [hreg]
      by_cases hi : i < 32
      · rw [State.clearStkBits_bit hwu.ok _ _ _ hi, hub, hbit i hi]
      · rw [hhigh _ i hi, hhigh _ i hi, Bool.false_and]

theorem execStickyClear_summary {a : Fin 1048576} {val sets : Word} (hs : s.inv = true) (hp : s.powered = true) {i : Nat} (hi : i < 4)
    (ha : a.val = 0x10000 + 4 * i) :
    ∃ t, exec (.stickyClear a val sets) s = .next t ∧ s.keeps t [.regs, .log] ∧ t.log.queue = s.log.queue ∧ (∀ k, ¬ stickyReg k → t.reg k = s.reg k) ∧
      (∀ b, b < 32 → val.getLsbD b = true → sets.getLsbD b = false → t.fileBit (32 * i + b) = false) ∧
      ∀ n, n ≠ 5 → n ≠ 88 → (∀ b, b < 32 → n = 32 * i + b → val.getLsbD b = true → sets.getLsbD b = true) → t.fileBit n = s.fileBit n := by
  let t := s.clearSum i (val &&& ~~~sets)
  have hexec : exec (.stickyClear a val sets) s = .next t := by
    have hc : (0x10000 ≤ a.val && a.val % 4 = 0) = true := by
      rw [Bool.and_eq_true, decide_eq_true_eq, decide_eq_true_eq]
      omega
    have hidx : (a.val - 0x10000) / 4 = i := by omega
    have hdef : s.stickyClear a (val &&& ~~~sets) = s.clearSum ((a.val - 0x10000) / 4) (val &&& ~~~sets) := (if_pos (by omega)).trans (if_pos hc)
    refine congrArg Host.Outcome.next ((if_pos hp).trans (hdef.trans ?_))
    rw [hidx]
  have hbit : ∀ b, b < 32 → (val &&& ~~~sets).getLsbD b = (val.getLsbD b && !sets.getLsbD b) := fun b hb => by
    rw [BitVec.getLsbD_and, BitVec.getLsbD_not]
    simp [hb]
  have hsok : s.regsOk = true := State.regsOk_of_inv hs
  obtain ⟨-, hregs, hqueue, -⟩ := State.clearSum_cleared hsok i (val &&& ~~~sets)
  refine ⟨t, hexec, (State.Moves.clearSum (own := []) (.refl s) (by decide)).keeps, hqueue, hregs, fun b hb hv hset => ?_, fun n h5 h88 hn => ?_⟩
  · exact State.clearSum_clear hsok hb (by rw [hbit b hb, hv, hset]; rfl)
  · refine State.clearSum_keep hsok h5 h88 fun b hb he => ?_
    rw [hbit b hb]
    cases hv : val.getLsbD b with
    | false => rfl
    | true => rw [hn b hb he hv]; rfl

theorem execCounterClear_spec {a : Fin 1048576} {r : RegRow} (hs : s.inv = true) (hp : s.powered = true) (hrow : regRow a.val = some r)
    (hsat : r.sat = true) (habs : s.absentReg a = false) :
    ∃ t, exec (.counterClear a) s = .next t ∧ s.keeps t [.regs] ∧ s.sameRegs t [a.val] ∧ t.reg a = 0#32 := by
  have hexec : exec (.counterClear a) s = .next (s.setReg a 0#32) := by
    show execCounterClear a s = _
    unfold execCounterClear
    rw [hrow]
    exact congrArg Host.Outcome.next (if_pos (by simp [hsat, habs, hp]))
  have hsok : s.regsOk = true := State.regsOk_of_inv hs
  have hw : s.Writes (fun k => k ∈ [a.val]) (s.setReg a 0#32) := (State.Writes.refl hsok).setReg _ List.mem_cons_self
  exact ⟨_, hexec, (State.Moves.setReg (own := []) (.refl s) (by decide)).keeps, fun k hk => hw.reg hk, State.reg_setReg _ _ hsok⟩

theorem execStkFgtRead_spec {n : Fin 128} {g : Nat} (h88 : n.val ≠ 88) (hbit : s.fileBit n = true) (hfgt : s.log.fgt.find n = some g)
    (hwf : Store.wf zeroes s.log.fgtHi = true) :
    ∃ t, exec (.stkFgtRead n) s = .next t ∧ s.keeps t [.log, .out] ∧ t.out.value = w32 g ∧ t.log.fgtHi.get zeroes n = w32 (g / 2 ^ 32) ∧
      t.log.fgt = s.log.fgt ∧ t.log.queue = s.log.queue ∧ t.log.mram = s.log.mram := by
  let t := (s.logMod (fun l => { l with fgtHi := l.fgtHi.put zeroes n.val (w32 (g / 2 ^ 32)) })).give (w32 g)
  have hexec : exec (.stkFgtRead n) s = .next t := by
    have hv : (if s.fileBit n then (s.log.fgt.find (if n.val = 88 then 5 else n.val)).getD 0 else 0) = g := by
      rw [if_pos hbit, if_neg h88, hfgt]
      rfl
    show execStkFgtRead n s = _
    unfold execStkFgtRead
    rw [hv]
  exact ⟨t, hexec, by simp [State.keeps, t, State.logMod, State.give], rfl, Store.get_put_same _ _ _ hwf, rfl, rfl, rfl⟩

end

end Sys2Proof.Machine
end

section
/-!
PROOFS. The event log's queue only grows at its end, and its front record goes to its slot in the MRAM (R495, R498 to R500): O44.
-/
namespace Sys2Proof.Machine

variable {s t u : State}

/-- The queue has only grown at its end, and the slots and their counters are as they were. -/
structure State.Queued (s t : State) : Prop where
  queue : ∃ l, t.log.queue = s.log.queue ++ l
  mram : t.log.mram = s.log.mram
  released : t.log.released = s.log.released
  nextSeq : t.log.nextSeq = s.log.nextSeq
  nextCirc : t.log.nextCirc = s.log.nextCirc

namespace State.Queued

theorem of_log (h : t.log = s.log) : s.Queued t := by
  refine ⟨⟨[], ?_⟩, ?_, ?_, ?_, ?_⟩ <;> simp [h]

theorem refl (s : State) : s.Queued s := of_log rfl

theorem trans (h : s.Queued t) (k : t.Queued u) : s.Queued u := by
  obtain ⟨⟨l, hl⟩, hm, hr, hn, hc⟩ := h
  obtain ⟨⟨l', hl'⟩, hm', hr', hn', hc'⟩ := k
  exact ⟨⟨l ++ l', by rw [hl', hl, List.append_assoc]⟩, hm'.trans hm, hr'.trans hr, hn'.trans hn, hc'.trans hc⟩

theorem ite {c : Prop} [Decidable c] (ht : s.Queued t) (hu : s.Queued u) : s.Queued (if c then t else u) := by
  split
  · exact ht
  · exact hu

/-- A change of the log beside its queue and slots. -/
theorem aside (h : s.Queued t) (hq : u.log.queue = t.log.queue) (hm : u.log.mram = t.log.mram) (hr : u.log.released = t.log.released)
    (hn : u.log.nextSeq = t.log.nextSeq) (hc : u.log.nextCirc = t.log.nextCirc) : s.Queued u :=
  h.trans ⟨⟨[], by rw [hq, List.append_nil]⟩, hm, hr, hn, hc⟩

theorem bump (h : s.Queued t) {a : Nat} : s.Queued (t.bump a) := h.trans (of_log rfl)

theorem hostEvent (h : s.Queued t) : s.Queued t.hostEvent := by
  refine h.trans ?_
  unfold State.hostEvent
  exact .ite (.ite (of_log rfl) (of_log rfl)) (refl t)

theorem setBit (h : s.Queued t) {a i : Nat} {b : Bool} : s.Queued (t.setBit a i b) := h.trans (of_log rfl)

theorem markStk (h : s.Queued t) {k : Stk} : s.Queued (t.markStk k) := by
  unfold State.markStk
  extract_lets +onlyGivenNames u
  have hu : s.Queued u := h.setBit.hostEvent
  split
  · exact hu
  · exact hu.aside rfl rfl rfl rfl rfl

theorem enqueue (h : s.Queued t) {rs : List LogRec} {pin : Bool} : s.Queued (t.enqueue rs pin) := by
  refine h.trans ?_
  unfold State.enqueue
  exact .ite ⟨⟨rs, rfl⟩, rfl, rfl, rfl, rfl⟩ ((refl t).aside rfl rfl rfl rfl rfl)

theorem stkRecord (h : s.Queued t) {k : Stk} : s.Queued (t.stkRecord k) := by
  unfold State.stkRecord
  dsimp only
  split
  · exact h.aside rfl rfl rfl rfl rfl
  · exact .ite (h.enqueue.aside rfl rfl rfl rfl rfl) h.enqueue

theorem overflowStk (h : s.Queued t) {n : Nat} : s.Queued (t.overflowStk n) := by
  unfold State.overflowStk
  exact .ite h h.markStk.stkRecord

theorem stick (h : s.Queued t) {k : Stk} : s.Queued (t.stick k) := by
  unfold State.stick
  exact .ite h h.markStk.stkRecord.overflowStk

theorem pinFree (h : s.Queued t) (i : Nat) : t.log.pinFree i = s.log.pinFree i := by
  simp only [LogState.pinFree, h.mram, h.released]

end State.Queued

/-! ## A deferred record -/

theorem execMramRecordWrite_deferred (out : MramOut) {r : LogRec} {q : List LogRec} (hs : s.inv = true) (hk : s.pwr.keepOff = false)
    (hq : s.log.queue = r :: q) (ha : s.admits s.logCost false = false) :
    ∃ t, exec (.mramRecordWrite out) s = .next t ∧ s.keeps t logParts ∧ t.log.mram = s.log.mram ∧ t.log.nextSeq = s.log.nextSeq ∧
      t.stuck Stk.BURST_DEFER = true ∧ t.regN Reg.CLK_DEFERCNT = min (s.regN Reg.CLK_DEFERCNT + 1) (2 ^ 32 - 1) ∧
      ∃ rest, t.log.queue = r :: rest := by
  have hexec : exec (.mramRecordWrite out) s = .next s.deferBurst :=
    congrArg Host.Outcome.next ((if_neg (by simp [hk, hq])).trans (if_neg (by simp [ha])))
  have hok : s.regsOk = true := State.regsOk_of_inv hs
  have hb : (s.bump Reg.CLK_DEFERCNT).regsOk = true := State.bump_ok _ hok
  have hw : (s.bump Reg.CLK_DEFERCNT).Writes (· ∈ stickRegs Stk.BURST_DEFER) s.deferBurst := (State.Writes.refl hb).stick _ fun _ => id
  have hqd : s.Queued s.deferBurst := (State.Queued.refl s).bump.stick
  refine ⟨_, hexec, (State.Moves.deferBurst (own := []) (.refl s) (by decide)).keeps, hqd.mram, hqd.nextSeq,
    State.stick_stuck _ hb (by decide) (by decide), ?_, ?_⟩
  · rw [hw.regN (by decide), State.regN_bump hok]
  · obtain ⟨l, hl⟩ := hqd.queue
    exact ⟨q ++ l, by rw [hl, hq]; rfl⟩

/-! ## An admitted record -/

theorem State.Moves.log_kept {own may : List Part} (h : s.Moves own may t) (hm : .log ∉ may) : t.log = s.log := by
  obtain ⟨-, -, -, -, -, -, -, -, -, -, -, -, -, hx, -⟩ := h.keeps
  exact hx.resolve_left hm

/-- The front record is in its slot, and the rest of the queue waits. -/
def State.putAt (s : State) (i : Nat) (r : LogRec) (q : List LogRec) : State :=
  s.logMod (fun l => { l with queue := q, mram := l.mram.put i r, released := l.released.filter (fun j => j ≠ i), nextSeq := seqNext l.nextSeq,
                              nextCirc := if i < 1024 then l.nextCirc else if i = 8191 then 1024 else i + 1 })

theorem State.putAt_find (i : Nat) (r : LogRec) (q : List LogRec) : (s.putAt i r q).log.mram.find i = some r := KMap.find_put_same _ _ _

theorem State.putAt_find_ne (i : Nat) (r : LogRec) (q : List LogRec) {k : Nat} (h : k ≠ i) :
    (s.putAt i r q).log.mram.find k = s.log.mram.find k := KMap.find_put_ne _ _ h

theorem State.putAt_pinFree (i : Nat) (r : LogRec) (q : List LogRec) : (s.putAt i r q).log.pinFree i = false := by
  unfold LogState.pinFree
  rw [State.putAt_find]
  simp [State.putAt, State.logMod]

theorem State.enqueue_regs_of_fits {rs : List LogRec} {pin : Bool} (h : queueFits s.log.queue.length rs.length pin = true) :
    (s.enqueue rs pin).regs = s.regs := by
  unfold State.enqueue
  rw [if_pos h]

/-- A report of dropped records writes no register: it is made only where the queue has room. -/
theorem State.dropReport_regs (s : State) : s.dropReport.regs = s.regs := by
  unfold State.dropReport
  split
  · rfl
  next hc =>
    have hfit : queueFits s.log.queue.length 1 false = true := by simp_all
    exact State.enqueue_regs_of_fits hfit

theorem State.dropReport_queued (s : State) : s.Queued s.dropReport := by
  unfold State.dropReport
  exact .ite (.refl s) ((State.Queued.refl s).enqueue.aside rfl rfl rfl rfl rfl)

/-- What the write of a record leaves in the slots. -/
structure State.Slots (s t : State) : Prop where
  mram : t.log.mram = s.log.mram
  released : t.log.released = s.log.released
  nextSeq : t.log.nextSeq = s.log.nextSeq
  nextCirc : t.log.nextCirc = s.log.nextCirc

theorem State.Queued.slots (h : s.Queued t) : s.Slots t := ⟨h.mram, h.released, h.nextSeq, h.nextCirc⟩

theorem State.Slots.trans (h : s.Slots t) (k : t.Slots u) : s.Slots u :=
  ⟨k.mram.trans h.mram, k.released.trans h.released, k.nextSeq.trans h.nextSeq, k.nextCirc.trans h.nextCirc⟩

theorem State.Slots.pinFree (h : s.Slots t) (i : Nat) : t.log.pinFree i = s.log.pinFree i := by
  simp only [LogState.pinFree, h.mram, h.released]

/-- The record is written to the slot chosen for it; a pinned one that found no free slot leaves its report and its sticky bit (R500). -/
theorem State.mramPut_spec (hok : s.regsOk = true) (out : MramOut) {r w : LogRec} {q : List LogRec} (hq : s.log.queue = r :: q)
    (hw : w = { r with seq := s.log.nextSeq, whole := out != .torn, ecc := out == .broken }) {i : Nat} {bare : Bool}
    (hslot : s.log.slotFor w = (i, bare)) :
    (s.putAt i w q).Slots (s.mramPut out) ∧ (bare = true → (s.mramPut out).stuck Stk.LOG_PINFULL = true) ∧
      (bare = false → s.log.dropped = 0 → (s.mramPut out).log.queue = q) := by
  let s1 := s.putAt i w q
  have hok1 : s1.regsOk = true := hok
  cases bare with
  | false =>
    have heq : s.mramPut out = s1.dropReport := by
      subst hw
      unfold State.mramPut
      rw [hq]
      dsimp only
      rw [hslot]
      rfl
    rw [heq]
    refine ⟨(State.dropReport_queued s1).slots, nofun, fun _ h0 => ?_⟩
    have hsame : s1.dropReport = s1 := if_pos (by simp [s1, State.putAt, State.logMod, h0])
    rw [hsame]
    rfl
  | true =>
    have heq : ∃ v, s.mramPut out = (v.stick Stk.LOG_PINFULL).dropReport ∧ s1.Slots v ∧ v.regsOk = true := by
      let rep := chainFrom s.gt s.qual 0x12 3 false 8 0 [w32 w.seq]
      refine ⟨if queueFits s1.log.queue.length 1 false then s1.logMod (fun l => { l with queue := rep ++ l.queue })
        else (s1.enqueue rep false).overflowStk s1.log.dropped, ?_, ?_, ?_⟩
      · subst hw
        unfold State.mramPut
        rw [hq]
        dsimp only
        rw [hslot]
        rfl
      · split
        · exact ⟨rfl, rfl, rfl, rfl⟩
        · exact (State.Queued.refl s1).enqueue.overflowStk.slots
      · split
        · exact hok1
        · exact State.overflowStk_ok _ (State.enqueue_ok _ _ hok1)
    obtain ⟨v, heq, hv, hvok⟩ := heq
    rw [heq]
    refine ⟨hv.trans ((State.Queued.refl v).stick.trans (State.dropReport_queued _)).slots, fun _ => ?_, nofun⟩
    have hreg := State.reg_of_regs (State.dropReport_regs (v.stick Stk.LOG_PINFULL)) Stk.LOG_PINFULL.reg
    show ((v.stick Stk.LOG_PINFULL).dropReport.reg _).getLsbD _ = true
    rw [hreg]
    exact State.stick_stuck _ hvok (by decide) (by decide)

theorem LogState.slotFor_circular (l : LogState) {r : LogRec} (h : r.pin = false) : l.slotFor r = (l.nextCirc, false) := if_neg (by simp [h])

theorem LogState.slotFor_free (l : LogState) {r : LogRec} (h : r.pin = true) (hf : ∃ i, i < 1024 ∧ l.pinFree i = true) :
    ∃ i, l.slotFor r = (i, false) ∧ i < 1024 ∧ l.pinFree i = true ∧ ∀ j, j < i → l.pinFree j = false := by
  cases hfind : (List.range 1024).find? l.pinFree with
  | none =>
    obtain ⟨i, hi, hfree⟩ := hf
    exact absurd hfree (by simpa using List.find?_eq_none.mp hfind i (List.mem_range.mpr hi))
  | some i =>
    obtain ⟨hfree, hmem, hfirst⟩ := List.find?_range_eq_some.mp hfind
    refine ⟨i, ?_, List.mem_range.mp hmem, hfree, fun j hj => by simpa using hfirst j hj⟩
    unfold LogState.slotFor
    rw [if_pos h, hfind]

theorem LogState.slotFor_full (l : LogState) {r : LogRec} (h : r.pin = true) (hf : ∀ i, i < 1024 → l.pinFree i = false) :
    l.slotFor r = (l.nextCirc, true) := by
  have hfind : (List.range 1024).find? l.pinFree = none := List.find?_eq_none.mpr fun i hi => by simp [hf i (List.mem_range.mp hi)]
  unfold LogState.slotFor
  rw [if_pos h, hfind]

theorem execMramRecordWrite_admitted (out : MramOut) {r : LogRec} {q : List LogRec} (hs : s.inv = true) (hk : s.pwr.keepOff = false)
    (hq : s.log.queue = r :: q) (ha : s.admits s.logCost false = true) :
    ∃ t w, exec (.mramRecordWrite out) s = .next t ∧ s.keeps t (.pwr :: logParts) ∧ t.log.nextSeq = seqNext s.log.nextSeq ∧
      w = { r with seq := s.log.nextSeq, whole := out != .torn, ecc := out == .broken } ∧
      (r.pin = false → t.log.mram.find s.log.nextCirc = some w ∧ (∀ k, k ≠ s.log.nextCirc → t.log.mram.find k = s.log.mram.find k) ∧
        (1024 ≤ s.log.nextCirc → t.log.nextCirc = if s.log.nextCirc = 8191 then 1024 else s.log.nextCirc + 1) ∧
        (s.log.dropped = 0 → t.log.queue = q)) ∧
      (r.pin = true → (∃ i, i < 1024 ∧ s.log.pinFree i = true) →
        ∃ i, i < 1024 ∧ s.log.pinFree i = true ∧ (∀ j, j < i → s.log.pinFree j = false) ∧ t.log.mram.find i = some w ∧
          t.log.nextCirc = s.log.nextCirc ∧ t.log.pinFree i = false) ∧
      (r.pin = true → (∀ i, i < 1024 → s.log.pinFree i = false) → t.log.mram.find s.log.nextCirc = some w ∧ t.stuck Stk.LOG_PINFULL = true) := by
  let v := if s.keepSrc = 1 then s.charge s.logCost else s
  let w : LogRec := { r with seq := s.log.nextSeq, whole := out != .torn, ecc := out == .broken }
  have hexec : exec (.mramRecordWrite out) s = .next (v.mramPut out) :=
    congrArg Host.Outcome.next ((if_neg (by simp [hk, hq])).trans (if_pos ha))
  have hmv : s.Moves [] [.pwr] v := .ite (.charge (.refl s) (by decide)) (.refl s)
  have hm : s.Moves [] (.pwr :: logParts) (v.mramPut out) := .mramPut (hmv.mono (by decide)) (by decide)
  have hlog : v.log = s.log := hmv.log_kept (by decide)
  have hokv : v.regsOk = true := by
    have hregs : v.regs = s.regs := hmv.regs_kept (by decide)
    exact (congrArg _ hregs).trans (State.regsOk_of_inv hs)
  clear_value v
  have hput := fun {i bare} => State.mramPut_spec hokv out (hlog ▸ hq) (w := w) (by rw [hlog]) (i := i) (bare := bare)
  rw [hlog] at hput
  have hseq : (v.mramPut out).log.nextSeq = seqNext s.log.nextSeq := by
    rw [(hput rfl).1.nextSeq, ← hlog]
    rfl
  refine ⟨_, w, hexec, hm.keeps, hseq, rfl, fun hp => ?_, fun hp hf => ?_, fun hp hf => ?_⟩
  · obtain ⟨hsl, -, hqueue⟩ := hput (s.log.slotFor_circular (r := w) hp)
    refine ⟨by rw [hsl.mram, State.putAt_find], fun k hk => by rw [hsl.mram, State.putAt_find_ne _ _ _ hk, hlog], fun hc => ?_, hqueue rfl⟩
    rw [hsl.nextCirc]
    exact if_neg (Nat.not_lt.mpr hc)
  · obtain ⟨i, hslot, hi, hfree, hfirst⟩ := s.log.slotFor_free (r := w) hp hf
    obtain ⟨hsl, -⟩ := hput hslot
    refine ⟨i, hi, hfree, hfirst, by rw [hsl.mram, State.putAt_find], ?_, by rw [hsl.pinFree, State.putAt_pinFree]⟩
    rw [hsl.nextCirc, ← hlog]
    exact if_pos hi
  · obtain ⟨hsl, hst, -⟩ := hput (s.log.slotFor_full (r := w) hp hf)
    exact ⟨by rw [hsl.mram, State.putAt_find], hst rfl⟩

/-- Settles O44: sticky registers, summary words and counters clear by their rows, and the front of the queue goes to the slot chosen for it. -/
theorem clearsAndLogWrites : Obligations.ClearsAndLogWrites := by
  unfold Obligations.ClearsAndLogWrites
  refine ⟨⟨fun s => execPanCtrlClear_spec s, fun s a val sets hs hp => ⟨fun r ha hrow habs hket => ?_, fun i hi ha => ?_⟩,
    fun s a r hs hp hrow hsat habs => ?_, fun s n g h88 hbit hfgt hwf => execStkFgtRead_spec h88 hbit hfgt hwf⟩,
    fun s out r q hs hk hq => ⟨execMramRecordWrite_admitted out hs hk hq, execMramRecordWrite_deferred out hs hk hq⟩⟩
  · exact execStickyClear_register hs hp ha hrow habs hket
  · exact execStickyClear_summary hs hp hi ha
  · exact execCounterClear_spec hs hp hrow hsat habs

end Sys2Proof.Machine
end

section
/-!
PROOFS. The end of a command whose completion ring has room: its entry, the ring's tail and phase, and its tag (R425, R428, R431).
-/
namespace Sys2Proof.Machine

variable {s t u : State}

/-! ## Keyed rows -/

theorem KMap.find_drop_ne {α : Type} (m : KMap α) {a b : Nat} (h : b ≠ a) : KMap.find (KMap.drop m a) b = KMap.find m b := by
  induction m with
  | nil => rfl
  | cons e r ih =>
    obtain ⟨k, x⟩ := e
    simp only [KMap.drop]
    split
    · next hk =>
      subst hk
      simp [KMap.find, Ne.symm h]
    · simp only [KMap.find, ih]

theorem KMap.find_none_of_lt {α : Type} {m : KMap α} {a : Nat} (h : ∀ e ∈ m, a < e.1) : KMap.find m a = none := by
  induction m with
  | nil => rfl
  | cons e r ih =>
    simp only [KMap.find]
    rw [if_neg (ne_of_gt (h e List.mem_cons_self))]
    exact ih fun f hf => h f (List.mem_cons_of_mem _ hf)

theorem KMap.find_drop_same {α : Type} {m : KMap α} (hm : KMap.wf m = true) (a : Nat) : KMap.find (KMap.drop m a) a = none := by
  rw [KMap.wf_iff] at hm
  induction m with
  | nil => rfl
  | cons e r ih =>
    obtain ⟨k, x⟩ := e
    obtain ⟨hk, hr⟩ := List.pairwise_cons.mp hm
    simp only [KMap.drop]
    split
    · next heq =>
      subst heq
      exact KMap.find_none_of_lt hk
    · next hne =>
      simp only [KMap.find, if_neg (Ne.symm hne)]
      exact ih hr

theorem KMap.mem_put {α : Type} (m : KMap α) (a : Nat) (v : α) {e : Nat × α} (he : e ∈ KMap.put m a v) : e = (a, v) ∨ e ∈ m := by
  induction m with
  | nil => exact .inl (List.mem_singleton.mp he)
  | cons f r ih =>
    obtain ⟨k, x⟩ := f
    simp only [KMap.put] at he
    split at he
    · exact List.mem_cons.mp he
    · split at he
      · exact (List.mem_cons.mp he).imp_right (List.mem_cons_of_mem _)
      · rcases List.mem_cons.mp he with he | he
        · exact .inr (he ▸ List.mem_cons_self)
        · exact (ih he).imp_right (List.mem_cons_of_mem _)

theorem KMap.wf_put {α : Type} {m : KMap α} (h : KMap.wf m = true) (a : Nat) (v : α) : KMap.wf (KMap.put m a v) = true := by
  rw [KMap.wf_iff] at h ⊢
  induction m with
  | nil => exact List.pairwise_singleton _ _
  | cons e r ih =>
    obtain ⟨k, x⟩ := e
    obtain ⟨hk, hr⟩ := List.pairwise_cons.mp h
    simp only [KMap.put]
    split
    · next hlt =>
      refine List.pairwise_cons.mpr ⟨fun e he => ?_, h⟩
      rcases List.mem_cons.mp he with he | he
      · rw [he]
        exact hlt
      · exact hlt.trans (hk e he)
    · split
      · next heq => exact List.pairwise_cons.mpr ⟨fun e he => heq ▸ hk e he, hr⟩
      · next hnlt hne =>
        refine List.pairwise_cons.mpr ⟨fun e he => ?_, ih hr⟩
        rcases KMap.mem_put _ _ _ he with he | he
        · rw [he]
          exact Nat.lt_of_le_of_ne (Nat.le_of_not_lt hnlt) (Ne.symm hne)
        · exact hk e he

/-! ## Consecutive registers -/

theorem State.reg_setWords_from (hs : s.regsOk = true) (a k : Nat) (ws : List Word) :
    ((ws.zipIdx k).foldl (fun (t : State) e => t.setReg (a + 4 * e.2) e.1) s).regsOk = true ∧
      (∀ b, (b < a + 4 * k ∨ a + 4 * (k + ws.length) ≤ b) →
        ((ws.zipIdx k).foldl (fun (t : State) e => t.setReg (a + 4 * e.2) e.1) s).reg b = s.reg b) ∧
      ∀ i, i < ws.length → ((ws.zipIdx k).foldl (fun (t : State) e => t.setReg (a + 4 * e.2) e.1) s).reg (a + 4 * (k + i)) = ws.getD i 0#32 := by
  induction ws generalizing s k with
  | nil => exact ⟨hs, fun _ _ => rfl, fun i hi => absurd hi (Nat.not_lt_zero i)⟩
  | cons w ws ih =>
    have hw : (s.setReg (a + 4 * k) w).regsOk = true := State.setReg_ok _ _ hs
    obtain ⟨hok, hout, hin⟩ := ih hw (k + 1)
    rw [List.zipIdx_cons, List.foldl_cons]
    refine ⟨hok, fun b hb => ?_, fun i hi => ?_⟩
    · rw [List.length_cons] at hb
      rw [hout b (by omega), State.reg_setReg_ne _ hs (by omega)]
    · cases i with
      | zero => rw [hout _ (by omega), Nat.add_zero, State.reg_setReg _ _ hs, List.getD_cons_zero]
      | succ i =>
        rw [List.length_cons] at hi
        have hidx : a + 4 * (k + (i + 1)) = a + 4 * (k + 1 + i) := by omega
        rw [hidx, hin i (by omega), List.getD_cons_succ]

theorem State.reg_setWords (hs : s.regsOk = true) (a : Nat) (ws : List Word) {i : Nat} (hi : i < ws.length) :
    (s.setWords a ws).reg (a + 4 * i) = ws.getD i 0#32 := by
  have h := (State.reg_setWords_from hs a 0 ws).2.2 i hi
  rwa [Nat.zero_add] at h

/-! ## The entry of a completion -/

/-- The registers that a completion of queue `q` writes. -/
def cqRegs (q : Fin 4) (a : Nat) : Prop :=
  a = Reg.MBX_CQTAIL q ∨ a = Reg.MBX_OUTST_LO ∨ a = Reg.MBX_OUTST_HI ∨ (cqBase q ≤ a ∧ a < cqBase q + 2048)

/-- The tail of a completion ring. -/
def State.cqTail (s : State) (q : Fin 4) : Nat := s.fld (Reg.MBX_CQTAIL q) F.MBX_CQTAIL_TAIL

theorem State.cqTail_lt (s : State) (q : Fin 4) : s.cqTail q < 64 := Nat.mod_lt _ (by decide)

theorem State.setTagOut_spec (hs : s.regsOk = true) {tag : Nat} (ht : tag < 64) (b : Bool) :
    s.Writes (fun a => a = Reg.MBX_OUTST_LO ∨ a = Reg.MBX_OUTST_HI) (s.setTagOut tag b) ∧ (s.setTagOut tag b).tagOut tag = b ∧
      (∀ k, k < 64 → k ≠ tag → (s.setTagOut tag b).tagOut k = s.tagOut k) ∧ (s.setTagOut tag b).mbx = s.mbx ∧ (s.setTagOut tag b).out = s.out := by
  unfold State.setTagOut State.tagOut
  by_cases hlow : tag < 32
  · simp only [if_pos hlow]
    refine ⟨(State.Writes.refl hs).setBit _ _ (.inl rfl), ?_, fun k hk hne => ?_, rfl, rfl⟩
    · rw [State.setBit_bit hs hlow, if_pos ⟨rfl, rfl⟩]
    · simp only [State.setBit_bit hs hlow, hne, and_false, if_false, Reg.MBX_OUTST_HI, Reg.MBX_OUTST_LO]
      split <;> simp
  · simp only [if_neg hlow]
    have hhigh : tag - 32 < 32 := by omega
    refine ⟨(State.Writes.refl hs).setBit _ _ (.inr rfl), ?_, fun k hk hne => ?_, rfl, rfl⟩
    · rw [State.setBit_bit hs hhigh, if_pos ⟨rfl, rfl⟩]
    · simp only [State.setBit_bit hs hhigh]
      split
      · rw [if_neg (by simp [Reg.MBX_OUTST_LO, Reg.MBX_OUTST_HI])]
      · rw [if_neg (by omega)]

/-- What a completion leaves: its entry at the old tail, the tail one on, the phase of the next pass, and its tag free. -/
structure State.CqWritten (s t : State) (c : MComp) : Prop where
  writes : s.Writes (cqRegs c.q) t
  mbx : ∃ p, t.mbx = { s.mbx with phases := p } ∧ p.length = s.mbx.phases.length ∧
    p.at c.q = (if s.cqTail c.q = 63 then !s.mbx.phases.at c.q else s.mbx.phases.at c.q)
  out : ∃ l, t.out = { s.out with msix := l }
  tail : t.cqTail c.q = (s.cqTail c.q + 1) % 64
  entry : ∀ i, i < 8 → t.reg (cqBase c.q + 32 * s.cqTail c.q + 4 * i) = (c.words (s.mbx.phases.at c.q)).getD i 0#32
  tag : t.tagOut c.tag = false

theorem State.cqWrite_written (hs : s.regsOk = true) {c : MComp} (hdup : c.dup = false) (htag : c.tag < 64) (hph : s.mbx.phases.length = 4) :
    s.CqWritten (s.cqWrite c) c := by
  have hq := c.q.isLt
  let ws := c.words (s.mbx.phases.at c.q)
  have hlen : ws.length = 8 := rfl
  have htail := s.cqTail_lt c.q
  have hbase : cqBase c.q = 0x8000 + 0x800 * c.q.val := rfl
  unfold State.cqWrite
  extract_lets +onlyGivenNames n s1 srcMbx s2 srcOut s3
  rw [if_neg (by simp [hdup])]
  have hs1 : s.Writes (cqRegs c.q) s1 ∧ s1.cqTail c.q = (s.cqTail c.q + 1) % 64 ∧ s1.mbx = s.mbx ∧ s1.out = s.out ∧
      ∀ i, i < 8 → s1.reg (cqBase c.q + 32 * s.cqTail c.q + 4 * i) = ws.getD i 0#32 := by
    have hw0 : s.Writes (cqRegs c.q) (s.setWords (cqBase c.q + 32 * s.cqTail c.q) ws) :=
      (State.Writes.refl hs).setWords fun i hi => .inr (.inr (.inr (by rw [hlen] at hi; omega)))
    have hentry0 : ∀ i, i < 8 → (s.setWords (cqBase c.q + 32 * s.cqTail c.q) ws).reg (cqBase c.q + 32 * s.cqTail c.q + 4 * i) = ws.getD i 0#32 :=
      fun i hi => State.reg_setWords hs _ _ hi
    have hbeside : (s.setWords (cqBase c.q + 32 * s.cqTail c.q) ws).mbx = s.mbx ∧ (s.setWords (cqBase c.q + 32 * s.cqTail c.q) ws).out = s.out :=
      List.foldlRecOn (motive := fun (v : State) => v.mbx = s.mbx ∧ v.out = s.out) ws.zipIdx _ ⟨rfl, rfl⟩ fun v hv e _ => hv
    refine ⟨hw0.setFld _ _ (.inl rfl), ?_, hbeside.1, hbeside.2, fun i hi => ?_⟩
    · exact (State.fld_setFld _ _ _ hw0.ok (by decide)).trans (Nat.mod_eq_of_lt (Nat.mod_lt _ (by decide)))
    · rw [← hentry0 i hi]
      refine State.reg_setFld_ne _ _ hw0.ok ?_
      simp only [Reg.MBX_CQTAIL]
      omega
  have hn : n = s.cqTail c.q := rfl
  clear_value s1 n
  subst hn
  obtain ⟨hw1, htail1, hmbx1, hout1, hentry1⟩ := hs1
  have hs2 : s2.regs = s1.regs ∧ s2.out = s.out ∧ ∃ p, s2.mbx = { s.mbx with phases := p } ∧ p.length = s.mbx.phases.length ∧
      p.at c.q = (if s.cqTail c.q = 63 then !s.mbx.phases.at c.q else s.mbx.phases.at c.q) := by
    dsimp only [s2, srcMbx]
    split
    · refine ⟨rfl, hout1, s1.mbx.phases.mod c.q not, by rw [hmbx1], by rw [hmbx1]; simp [Tab.mod], ?_⟩
      rw [hmbx1]
      exact Tab.at_mod_same _ _ _ (by rw [hph]; exact hq)
    · exact ⟨rfl, hout1, s.mbx.phases, hmbx1, rfl, rfl⟩
  clear_value s2
  obtain ⟨hregs2, hout2, p, hmbx2, hplen, hpat⟩ := hs2
  have hs3 : s3.regs = s1.regs ∧ s3.mbx = s2.mbx ∧ ∃ l, s3.out = { s.out with msix := l } := by
    dsimp only [s3, srcOut]
    split
    · exact ⟨hregs2, rfl, _, by rw [hout2]⟩
    · exact ⟨hregs2, rfl, s.out.msix, hout2⟩
  clear_value s3
  obtain ⟨hregs3, hmbx3, l, hout3⟩ := hs3
  have hw3 : s1.Writes (fun _ => False) s3 := (State.Writes.refl hw1.ok).of_regs hregs3
  obtain ⟨hw4, htag4, -, hmbx4, hout4⟩ := State.setTagOut_spec hw3.ok htag false
  have hwall : s.Writes (cqRegs c.q) (s3.setTagOut c.tag false) :=
    hw1.trans ((hw3.mono fun a ha => ha.elim).trans (hw4.mono fun a ha => ha.elim (fun h => .inr (.inl h)) fun h => .inr (.inr (.inl h))))
  refine ⟨hwall, ⟨p, by rw [hmbx4, hmbx3, hmbx2], hplen, hpat⟩, ⟨l, by rw [hout4, hout3]⟩, ?_, fun i hi => ?_, htag4⟩
  · have hne : ¬ (Reg.MBX_CQTAIL c.q = Reg.MBX_OUTST_LO ∨ Reg.MBX_CQTAIL c.q = Reg.MBX_OUTST_HI) := by
      simp only [Reg.MBX_CQTAIL, Reg.MBX_OUTST_LO, Reg.MBX_OUTST_HI]
      omega
    exact ((hw4.fld _ hne).trans (hw3.fld _ id)).trans htail1
  · have hne : ¬ (cqBase c.q + 32 * s.cqTail c.q + 4 * i = Reg.MBX_OUTST_LO ∨ cqBase c.q + 32 * s.cqTail c.q + 4 * i = Reg.MBX_OUTST_HI) := by
      simp only [Reg.MBX_OUTST_LO, Reg.MBX_OUTST_HI]
      omega
    rw [hw4.reg hne, hw3.reg id, hentry1 i hi]

/-- The newest entry is the completion, once its command is gone. -/
theorem State.CqWritten.completed {c : MComp} (h : s.CqWritten t c) (hc : s.mbx.cmds.find c.tag = none) : t.completed c := by
  obtain ⟨p, hmbx, -, hp⟩ := h.mbx
  have hlt := s.cqTail_lt c.q
  have hold : (t.cqTail c.q + 63) % 64 = s.cqTail c.q := by
    rw [h.tail]
    omega
  refine ⟨by rw [hmbx]; exact hc, h.tag, fun i hi => ?_⟩
  show t.reg (cqBase c.q + 32 * ((t.cqTail c.q + 63) % 64) + 4 * i) = _
  rw [hold, h.entry i hi]
  have hphase : (t.mbx.phases.at c.q != (s.cqTail c.q == 63)) = s.mbx.phases.at c.q := by
    rw [hmbx]
    show (p.at c.q != _) = _
    rw [hp]
    by_cases h63 : s.cqTail c.q = 63
    · simp [h63]
    · rw [if_neg h63, beq_false_of_ne h63]
      simp
  show _ = (c.words (t.mbx.phases.at c.q != ((t.cqTail c.q + 63) % 64 == 63))).getD i 0#32
  rw [hold, hphase]

/-! ## The end of a command -/

/-- The command under this tag waits for its end, and its completion ring has room. -/
structure State.Ready (s : State) (tag : Nat) (c : MCmd) : Prop where
  ok : s.regsOk = true
  small : tag < 64
  find : s.mbx.cmds.find tag = some c
  wf : KMap.wf s.mbx.cmds = true
  live : c.dropped = false
  up : s.supFailed = false
  wait : s.mbx.wait.at c.q = []
  rows : s.mbx.wait.length = 4 ∧ s.mbx.phases.length = 4
  room : s.cqFull c.q = false

/-- The registers that say whether a completion can be written. -/
def ringRegs (a : Nat) : Prop := a = Reg.SUP_STAT ∨ ∃ q : Fin 4, a = Reg.MBX_CQTAIL q ∨ a = Reg.MBX_CQHEAD q

/-- The commands, the rings and the sessions of the mailbox are as they were. -/
structure State.MailKept (s t : State) : Prop where
  cmds : t.mbx.cmds = s.mbx.cmds
  wait : t.mbx.wait = s.mbx.wait
  phases : t.mbx.phases = s.mbx.phases
  keys : t.mbx.keys = s.mbx.keys
  session : t.mbx.sesId = s.mbx.sesId ∧ t.mbx.sesEnd = s.mbx.sesEnd ∧ t.mbx.chal = s.mbx.chal

theorem State.MailKept.of_eq (h : t.mbx = s.mbx) : s.MailKept t := by
  constructor <;> simp [h]

theorem State.MailKept.trans (h : s.MailKept t) (k : t.MailKept u) : s.MailKept u := by
  obtain ⟨hid, hend, hchal⟩ := h.session
  obtain ⟨kid, kend, kchal⟩ := k.session
  exact ⟨k.cmds.trans h.cmds, k.wait.trans h.wait, k.phases.trans h.phases, k.keys.trans h.keys, kid.trans hid, kend.trans hend, kchal.trans hchal⟩

theorem State.Events.mailKept (h : s.Events t) : s.MailKept t := by
  obtain ⟨-, b, hb⟩ := h
  constructor <;> simp [hb]

theorem State.Ready.moved {tag : Nat} {c : MCmd} (h : s.Ready tag c) {m : Nat → Prop} (hw : s.Writes m t) (hm : ∀ a, ringRegs a → ¬ m a)
    (hk : s.MailKept t) : t.Ready tag c := by
  have htail := hw.fld F.MBX_CQTAIL_TAIL (hm _ (.inr ⟨c.q, .inl rfl⟩))
  have hhead := hw.fld F.MBX_CQHEAD_HEAD (hm _ (.inr ⟨c.q, .inr rfl⟩))
  have hsup := hw.fld F.SUP_STAT_STATE (hm _ (.inl rfl))
  refine ⟨hw.ok, h.small, hk.cmds ▸ h.find, hk.cmds ▸ h.wf, h.live, ?_, hk.wait ▸ h.wait, ⟨hk.wait ▸ h.rows.1, hk.phases ▸ h.rows.2⟩, ?_⟩
  · rw [← h.up, State.supFailed, State.supFailed, hsup]
  · rw [← h.room, State.cqFull, State.cqFull, htail, hhead]

theorem State.Ready.of_eq {tag : Nat} {c : MCmd} (h : s.Ready tag c) (hregs : t.regs = s.regs) (hmbx : t.mbx = s.mbx) : t.Ready tag c :=
  h.moved (m := fun _ => False) ((State.Writes.refl h.ok).of_regs hregs) (fun _ _ => id) (.of_eq hmbx)

theorem Tab.mod_mod_wait {l : List (List MComp)} {q : Nat} (m : MComp) (hq : q < l.length) (h : Tab.at l q = []) :
    Tab.at (Tab.mod l q (fun x => x ++ [m])) q = [m] ∧ Tab.mod (Tab.mod l q (fun x => x ++ [m])) q (fun _ => []) = l := by
  have hl : Tab.at (Tab.mod l q (fun x => x ++ [m])) q = [m] := by rw [Tab.at_mod_same _ _ _ hq, h]; rfl
  refine ⟨hl, ?_⟩
  have hget : l[q] = [] := by simpa [Tab.at, hq] using h
  apply List.ext_getElem
  · simp [Tab.mod]
  · intro i h1 h2
    by_cases hi : q = i
    · subst hi
      simp [Tab.mod, hget]
    · simp [Tab.mod, hi]

/-- An empty waiting row and a ring with room: the completion is written at once. -/
theorem State.postComp_eq (m : MComp) (hq : m.q < s.mbx.wait.length) (hwait : s.mbx.wait.at m.q = []) (hroom : s.cqFull m.q = false) :
    s.postComp m = State.cqDrain m.q 63 (s.cqWrite m) := by
  obtain ⟨hone, hback⟩ := Tab.mod_mod_wait m hq hwait
  unfold State.postComp
  rw [State.cqDrain]
  dsimp only
  rw [hone]
  dsimp only
  rw [hback]
  exact if_neg (by rw [show State.cqFull { s with mbx := { s.mbx with wait := s.mbx.wait.mod m.q (fun l => l ++ [m]) } } m.q = s.cqFull m.q from rfl, hroom]; decide)

theorem State.cqDrain_of_empty {q n : Nat} (h : s.mbx.wait.at q = []) : State.cqDrain q n s = s := by
  cases n with
  | zero => rfl
  | succ n =>
    unfold State.cqDrain
    rw [h]

theorem State.Ready.finish_eq {tag : Nat} {c : MCmd} (h : s.Ready tag c) (status : Nat) (result : Word) (dlen cidx : Nat) (v0 v1 : Word) :
    s.finish tag status result dlen cidx v0 v1 =
      State.cqWrite { s with mbx := { s.mbx with cmds := s.mbx.cmds.drop tag } } (c.comp tag status result dlen cidx v0 v1) ∧
    State.CqWritten { s with mbx := { s.mbx with cmds := s.mbx.cmds.drop tag } } (s.finish tag status result dlen cidx v0 v1)
      (c.comp tag status result dlen cidx v0 v1) := by
  let u : State := { s with mbx := { s.mbx with cmds := s.mbx.cmds.drop tag } }
  let m := c.comp tag status result dlen cidx v0 v1
  have hw : u.CqWritten (u.cqWrite m) m := State.cqWrite_written (s := u) (c := m) h.ok rfl h.small h.rows.2
  have hfin : s.finish tag status result dlen cidx v0 v1 = u.postComp m := by
    unfold State.finish
    rw [if_neg (by simp [h.up]), h.find]
    exact if_neg (by simp [h.live])
  have hpost : u.postComp m = State.cqDrain m.q 63 (u.cqWrite m) :=
    State.postComp_eq m (by rw [show u.mbx.wait.length = 4 from h.rows.1]; exact m.q.isLt) h.wait h.room
  have hstop : State.cqDrain m.q 63 (u.cqWrite m) = u.cqWrite m := by
    refine State.cqDrain_of_empty ?_
    obtain ⟨p, hp, -⟩ := hw.mbx
    rw [hp]
    exact h.wait
  have heq := hfin.trans (hpost.trans hstop)
  exact ⟨heq, heq ▸ hw⟩

theorem State.Ready.finish_completed {tag : Nat} {c : MCmd} (h : s.Ready tag c) (status : Nat) (result : Word) (dlen cidx : Nat) (v0 v1 : Word) :
    (s.finish tag status result dlen cidx v0 v1).completed (c.comp tag status result dlen cidx v0 v1) :=
  (h.finish_eq status result dlen cidx v0 v1).2.completed (KMap.find_drop_same h.wf tag)

theorem State.Ready.finish_justEnds {tag : Nat} {c : MCmd} (h : s.Ready tag c) (status : Nat) (result : Word) (dlen cidx : Nat) (v0 v1 : Word) :
    s.justEnds (s.finish tag status result dlen cidx v0 v1) tag c := by
  have hw := (h.finish_eq status result dlen cidx v0 v1).2
  obtain ⟨p, hp, -⟩ := hw.mbx
  refine ⟨(State.Moves.finish (own := []) (.refl s) (by decide)).keeps, fun a _ h1 h2 h3 h4 => hw.writes.reg ?_, fun k hk => ?_, ?_, ?_, ?_, ?_⟩
  · have hq : (c.comp tag status result dlen cidx v0 v1).q = c.q := rfl
    rintro (ha | ha | ha | ⟨ha, hb⟩)
    · exact h1 ha
    · exact h2 ha
    · exact h3 ha
    · rw [hq] at ha hb
      rcases h4 with h4 | h4 <;> omega
  · rw [hp]
    exact KMap.find_drop_ne _ hk
  all_goals rw [hp]

end Sys2Proof.Machine
end

section
/-!
PROOFS. How a command of the host starts: the checks of its descriptor and of the device's state come before anything that it does
(R427, R429, R433, R436): O42.
-/
namespace Sys2Proof.Machine

variable {s t u : State} {tag opc : Nat} {c : MCmd} {body : State → MCmd → State}

/-! ## The start of a command -/

theorem State.command_none (h : s.mbx.cmds.find tag = none) : s.command tag opc body = s := by
  unfold State.command
  rw [h]

theorem State.command_skips (h : s.mbx.cmds.find tag = some c) (hc : c.opc ≠ opc ∨ s.canStart c = false) : s.command tag opc body = s := by
  unfold State.command
  rw [h]
  exact if_pos (by rcases hc with hc | hc <;> simp [hc])

theorem State.command_late (h : s.mbx.cmds.find tag = some c) (ho : c.opc = opc) (hc : s.canStart c = true) (hl : s.startLate c = true) :
    s.command tag opc body = s.finish tag stTimeout := by
  unfold State.command
  rw [h]
  exact (if_neg (by simp [ho, hc])).trans (if_pos hl)

theorem State.command_refused {i : OpInfo} (h : s.mbx.cmds.find tag = some c) (ho : c.opc = opc) (hc : s.canStart c = true) (hl : s.startLate c = false)
    (hi : opInfo opc = some i) {w : Nat} (hw : c.err i s.mbx.qspi = some w) :
    s.command tag opc body = (s.begun tag c).finish tag stRange (w32 w) := by
  unfold State.command
  rw [h]
  refine (if_neg (by simp [ho, hc])).trans ((if_neg (by simp [hl])).trans ?_)
  dsimp only
  rw [hi, Option.getD_some, hw]
  rfl

theorem State.command_starts {i : OpInfo} (h : s.mbx.cmds.find tag = some c) (ho : c.opc = opc) (hc : s.canStart c = true) (hl : s.startLate c = false)
    (hi : opInfo opc = some i) (hw : c.err i s.mbx.qspi = none) :
    s.command tag opc body = if s.cmdBusy c i then (s.begun tag c).finish tag stBusy else body (s.begun tag c) c := by
  unfold State.command
  rw [h]
  refine (if_neg (by simp [ho, hc])).trans ((if_neg (by simp [hl])).trans ?_)
  dsimp only
  rw [hi, Option.getD_some, hw]
  rfl

theorem State.command_runs (h : s.runs tag opc c) : s.command tag opc body = body (s.begun tag c) c := by
  obtain ⟨⟨-, -, hfind, -, hstart, hlate, -⟩, ho, i, hi, herr, hbusy⟩ := h
  exact (State.command_starts hfind ho hstart hlate hi herr).trans (if_neg (by simp [hbusy]))

/-! ## The way to the end -/

theorem State.canStart_up (h : s.canStart c = true) : s.supFailed = false := by
  simp only [State.canStart, Bool.and_eq_true, Bool.not_eq_true'] at h
  exact h.1.2

theorem State.mbx_rows (h : s.inv = true) : s.mbx.wait.length = 4 ∧ s.mbx.phases.length = 4 :=
  ⟨(State.sized_of_inv h).mbx.1, (State.sized_of_inv h).mbx.2.1⟩

theorem State.ready_of_canStart (ht : tag < 64) (hs : s.inv = true) (hwf : KMap.wf s.mbx.cmds = true) (hfind : s.mbx.cmds.find tag = some c)
    (hc : s.canStart c = true) (hd : c.dropped = false) (hwait : s.mbx.wait.at c.q = []) (hroom : s.cqFull c.q = false) : s.Ready tag c :=
  ⟨State.regsOk_of_inv hs, ht, hfind, hwf, hd, State.canStart_up hc, hwait, State.mbx_rows hs, hroom⟩

theorem State.Ready.begun (h : s.Ready tag c) : (s.begun tag c).Ready tag { c with started := true } :=
  ⟨h.ok, h.small, KMap.find_put_same _ _ _, KMap.wf_put h.wf _ _, h.live, h.up, h.wait, h.rows, h.room⟩

theorem State.runs.ready (h : s.runs tag opc c) (ht : tag < 64) : (s.begun tag c).Ready tag { c with started := true } := by
  obtain ⟨⟨hs, hwf, hfind, hd, hc, -, hwait, hroom, -⟩, -⟩ := h
  exact (State.ready_of_canStart ht hs hwf hfind hc hd hwait hroom).begun

theorem State.runs.inv (h : s.runs tag opc c) : s.inv = true := h.1.1

theorem State.runs.regsOk (h : s.runs tag opc c) : s.regsOk = true := State.regsOk_of_inv h.inv

/-- Beside `may`, the registers `regs` and its own row, nothing of command `tag` shows yet. -/
structure State.OnlyDid (s t : State) (tag : Nat) (may : List Part) (regs : Nat → Prop) : Prop where
  keeps : s.keeps t (.regs :: .mbx :: .out :: may)
  reg : ∀ a, ¬ regs a → t.reg a = s.reg a
  cmds : ∀ k, k ≠ tag → t.mbx.cmds.find k = s.mbx.cmds.find k
  keys : t.mbx.keys = s.mbx.keys
  session : t.mbx.sesId = s.mbx.sesId ∧ t.mbx.sesEnd = s.mbx.sesEnd ∧ t.mbx.chal = s.mbx.chal

theorem State.onlyDid_refl (s : State) (tag : Nat) : s.OnlyDid s tag [] (fun _ => False) :=
  ⟨State.keeps_refl _ _, fun _ _ => rfl, fun _ _ => rfl, rfl, rfl, rfl, rfl⟩

theorem State.onlyDid_begun (s : State) (tag : Nat) (c : MCmd) : s.OnlyDid (s.begun tag c) tag [] (fun _ => False) := by
  have hm : s.Moves [] [.mbx] (s.begun tag c) := .set_mbx (.refl s) id (by decide)
  exact ⟨State.keeps_mono hm.keeps (by decide), fun _ _ => rfl, fun k hk => KMap.find_put_ne _ _ hk, rfl, rfl, rfl, rfl⟩

/-- A change of other parts and of the registers `regs`. -/
theorem State.OnlyDid.then {may may' : List Part} {regs regs' : Nat → Prop} (h : s.OnlyDid t tag may regs) (hk : t.keeps u (.regs :: .mbx :: .out :: may'))
    (hw : t.Writes regs' u) (hm : may ⊆ may') (hr : ∀ a, regs a → regs' a) (he : t.MailKept u) : s.OnlyDid u tag may' regs' := by
  have hsub : (Part.regs :: .mbx :: .out :: may) ⊆ .regs :: .mbx :: .out :: may' :=
    List.cons_subset_cons _ (List.cons_subset_cons _ (List.cons_subset_cons _ hm))
  obtain ⟨hid, hend, hchal⟩ := he.session
  obtain ⟨sid, send, schal⟩ := h.session
  exact ⟨State.keeps_trans (State.keeps_mono h.keeps hsub) hk, fun a ha => (hw.reg ha).trans (h.reg a fun hc => ha (hr a hc)),
    fun k hne => by rw [he.cmds, h.cmds k hne], he.keys.trans h.keys, hid.trans sid, hend.trans send, hchal.trans schal⟩

theorem State.Ready.ends {may : List Part} {regs : Nat → Prop} {c' : MCmd} (h : u.Ready tag c') (hd : s.OnlyDid u tag may regs) (hc : c'.q = c.q)
    (status : Nat) (result : Word) (dlen cidx : Nat) (v0 v1 : Word) :
    s.endsOnly (u.finish tag status result dlen cidx v0 v1) tag c may regs := by
  obtain ⟨hk, hreg, hcmds, hkeys, hid, hend, hchal⟩ := h.finish_justEnds status result dlen cidx v0 v1
  obtain ⟨sid, send, schal⟩ := hd.session
  have hsub : [Part.regs, .mbx, .out] ⊆ .regs :: .mbx :: .out :: may :=
    List.cons_subset_cons _ (List.cons_subset_cons _ (List.cons_subset_cons _ (List.nil_subset _)))
  rw [hc] at hreg
  exact ⟨State.keeps_trans hd.keeps (State.keeps_mono hk hsub),
    fun a ha h1 h2 h3 h4 => (hreg a id h1 h2 h3 h4).trans (hd.reg a ha), fun k hne => (hcmds k hne).trans (hd.cmds k hne), hkeys.trans hd.keys,
    hid.trans sid, hend.trans send, hchal.trans schal⟩

/-- A command that does nothing but end. -/
theorem State.runs.ends (h : s.runs tag opc c) (ht : tag < 64) (status : Nat) (result : Word) (dlen cidx : Nat) (v0 v1 : Word) :
    ((s.begun tag c).finish tag status result dlen cidx v0 v1).completed (c.comp tag status result dlen cidx v0 v1) ∧
      s.justEnds ((s.begun tag c).finish tag status result dlen cidx v0 v1) tag c :=
  ⟨(h.ready ht).finish_completed status result dlen cidx v0 v1, (h.ready ht).ends (State.onlyDid_begun s tag c) rfl status result dlen cidx v0 v1⟩

/-! ## Every command of the host -/

theorem exec_hostCmd {i : Instr} (h : hostCmd i = some (opc, tag)) (s : State) : tag < 64 ∧ ∃ body, exec i s = .next (s.command tag opc body) := by
  unfold hostCmd at h
  split at h
  all_goals cases h
  all_goals exact ⟨Fin.isLt _, _, rfl⟩

/-- Settles O42: the front of every command is `State.command`, whose branches before the body only end the command. -/
theorem checksComeBeforeEffects : Obligations.ChecksComeBeforeEffects := by
  unfold Obligations.ChecksComeBeforeEffects
  intro i s opc tag hi
  obtain ⟨ht, body, hexec⟩ := exec_hostCmd hi s
  refine ⟨fun h => ?_, fun c f hf hs hwf hfind ho hc hd hwait hroom => ?_⟩
  · rw [hexec]
    rcases h with h | ⟨c, hfind, hc⟩
    · rw [State.command_none h]
    · rw [State.command_skips hfind hc]
  · have hready : s.Ready tag c := State.ready_of_canStart ht hs hwf hfind hc hd hwait hroom
    have hends : ∀ status result, ((s.begun tag c).finish tag status result).completed (c.comp tag status result) ∧
        s.justEnds ((s.begun tag c).finish tag status result) tag c := fun status result =>
      ⟨hready.begun.finish_completed status result 0 0 0#32 0#32, hready.begun.ends (State.onlyDid_begun s tag c) rfl status result 0 0 0#32 0#32⟩
    refine ⟨fun hl => ?_, fun w hl hw => ?_, fun hl hw hb => ?_⟩
    · rw [hexec, State.command_late hfind ho hc hl]
      exact ⟨_, rfl, hready.finish_completed stTimeout 0#32 0 0 0#32 0#32, hready.finish_justEnds stTimeout 0#32 0 0 0#32 0#32⟩
    · rw [hexec, State.command_refused hfind ho hc hl hf hw]
      exact ⟨_, rfl, hends stRange (w32 w)⟩
    · rw [hexec, State.command_starts hfind ho hc hl hf hw, if_pos hb]
      exact ⟨_, rfl, hends stBusy 0#32⟩

end Sys2Proof.Machine
end

section
/-!
PROOFS. The bytes of the transfer buffer, and the output block of a command (R430, R431).
-/
namespace Sys2Proof.Machine

variable {s t u : State}

/-! ## Bytes -/

/-- A byte of the transfer buffer. -/
def State.bufByte (s : State) (k : Nat) : Byte := BitVec.ofNat 8 ((s.bufWord k).toNat / 256 ^ (k % 4))

theorem ofNat_byte (n j : Nat) : BitVec.ofNat 8 (n / 256 ^ j) = BitVec.ofNat 8 (n / 2 ^ (8 * j) % 2 ^ 8) := by
  have h : 256 ^ j = 2 ^ (8 * j) := by rw [Nat.pow_mul]
  rw [h]
  apply BitVec.eq_of_toNat_eq
  simp

theorem State.bufByte_bufPutByte (hs : Store.wf zeroes s.mbx.buf = true) (o k : Nat) (b : Byte) :
    (s.bufPutByte o b).bufByte k = if k = o then b else s.bufByte k := by
  let w := w32 (putFld (s.bufWord o).toNat ⟨8 * (o % 4), 8⟩ b.toNat)
  have hword : (s.bufPutByte o b).bufWord k = if k / 4 = o / 4 then w else s.bufWord k := by
    split
    · next h =>
      show Store.get zeroes (Store.put zeroes s.mbx.buf (o / 4) w) (k / 4) = w
      rw [h, Store.get_put_same _ _ _ hs]
    · next h => exact Store.get_put_ne _ _ hs h
  have hlt : putFld (s.bufWord o).toNat ⟨8 * (o % 4), 8⟩ b.toNat < 2 ^ 32 :=
    putFld_lt _ _ _ _ (s.bufWord o).isLt (by have := Nat.mod_lt o (by decide : 0 < 4); omega)
  have hw : w.toNat = putFld (s.bufWord o).toNat ⟨8 * (o % 4), 8⟩ b.toNat := by
    rw [show w = BitVec.ofNat 32 _ from rfl, BitVec.toNat_ofNat, Nat.mod_eq_of_lt hlt]
  unfold State.bufByte
  rw [hword]
  by_cases hsame : k / 4 = o / 4
  · rw [if_pos hsame, hw, ofNat_byte]
    by_cases hk : k = o
    · subst hk
      rw [if_pos rfl, putFld_same]
      exact BitVec.eq_of_toNat_eq (by simpa using b.isLt)
    · rw [if_neg hk, putFld_other _ _ _ _ _ _ (by omega), ofNat_byte]
      rw [show s.bufWord o = s.bufWord k by simp only [State.bufWord, hsame]]
  · rw [if_neg hsame, if_neg (fun h => hsame (by rw [h]))]

/-- Bytes that were put stand at their places, and no other byte has changed. -/
theorem State.bufByte_bufPutBytes_from (hs : Store.wf zeroes s.mbx.buf = true) (o n : Nat) (bs : List Byte) :
    Store.wf zeroes (((bs.zipIdx n).foldl (fun t e => t.bufPutByte (o + e.2) e.1) s).mbx.buf) = true ∧
      (∀ i, i < bs.length → ((bs.zipIdx n).foldl (fun t e => t.bufPutByte (o + e.2) e.1) s).bufByte (o + (n + i)) = bs.getD i 0#8) ∧
      ∀ k, k < o + n ∨ o + (n + bs.length) ≤ k → ((bs.zipIdx n).foldl (fun t e => t.bufPutByte (o + e.2) e.1) s).bufByte k = s.bufByte k := by
  induction bs generalizing s n with
  | nil => exact ⟨hs, fun i hi => absurd hi (Nat.not_lt_zero i), fun _ _ => rfl⟩
  | cons b bs ih =>
    have hb : Store.wf zeroes (s.bufPutByte (o + n) b).mbx.buf = true := Store.put_wf hs
    obtain ⟨hwf, hin, hout⟩ := ih hb (n + 1)
    rw [List.zipIdx_cons, List.foldl_cons]
    refine ⟨hwf, fun i hi => ?_, fun k hk => ?_⟩
    · cases i with
      | zero => rw [hout _ (by omega), Nat.add_zero, State.bufByte_bufPutByte hs, if_pos rfl, List.getD_cons_zero]
      | succ i =>
        rw [List.length_cons] at hi
        rw [show o + (n + (i + 1)) = o + (n + 1 + i) by omega, hin i (by omega), List.getD_cons_succ]
    · rw [List.length_cons] at hk
      rw [hout k (by omega), State.bufByte_bufPutByte hs, if_neg (by omega)]

theorem State.bufBytes_bufPutBytes (hs : Store.wf zeroes s.mbx.buf = true) (o : Nat) (bs : List Byte) :
    (s.bufPutBytes o bs).bufBytes o bs.length = bs := by
  have h := (State.bufByte_bufPutBytes_from hs o 0 bs).2.1
  apply List.ext_getElem
  · simp [State.bufBytes]
  · intro i h1 h2
    have hi := h i h2
    rw [Nat.zero_add] at hi
    simp only [State.bufBytes, List.getElem_map, List.getElem_range]
    exact hi.trans (by simp [h2])

theorem State.bufPutBytes_buf (s : State) (o : Nat) (bs : List Byte) :
    (s.bufPutBytes o bs).regs = s.regs ∧ (s.bufPutBytes o bs).out = s.out ∧ ∃ b, (s.bufPutBytes o bs).mbx = { s.mbx with buf := b } := by
  refine List.foldlRecOn (motive := fun (v : State) => v.regs = s.regs ∧ v.out = s.out ∧ ∃ b, v.mbx = { s.mbx with buf := b }) bs.zipIdx _
    ⟨rfl, rfl, _, rfl⟩ fun v hv e _ => ?_
  obtain ⟨hregs, hout, b, hb⟩ := hv
  exact ⟨hregs, hout, _, by rw [State.bufPutByte, State.bufPut, hb]⟩

/-! ## Output blocks -/

theorem mailParts_subset (may : List Part) : [Part.mbx, .out] ⊆ .regs :: .mbx :: .out :: may :=
  List.subset_cons_of_subset _ (List.cons_subset_cons _ (List.cons_subset_cons _ (List.nil_subset _)))

/-- What an output block leaves: its bytes in their place, the commands and the registers as they were. -/
theorem State.dataOut_spec {c : MCmd} {bs : List Byte} (hwf : Store.wf zeroes s.mbx.buf = true) (hlen : bs.length ≤ c.len) :
    s.Moves [] [.mbx, .out] (s.dataOut c bs) ∧ (s.dataOut c bs).regs = s.regs ∧ s.MailKept (s.dataOut c bs) ∧
      (c.inBuf = true → (s.dataOut c bs).bufBytes c.off bs.length = bs) ∧
      (c.inBuf = false → (s.dataOut c bs).out.dma = s.out.dma ++ [(c.addr.toNat, bs)]) := by
  have hm : s.Moves [] [.mbx, .out] (s.dataOut c bs) := .dataOut (.refl s) (by decide)
  cases hb : c.inBuf with
  | true =>
    have heq : s.dataOut c bs = s.bufPutBytes c.off bs := by
      rw [State.dataOut, if_pos hb, List.take_of_length_le hlen]
    obtain ⟨hregs, hout, b, hbuf⟩ := s.bufPutBytes_buf c.off bs
    refine ⟨hm, heq ▸ hregs, ?_, fun _ => heq ▸ State.bufBytes_bufPutBytes hwf c.off bs, nofun⟩
    rw [heq]
    constructor <;> simp [hbuf]
  | false =>
    have heq : s.dataOut c bs = { s with out := { s.out with dma := s.out.dma ++ [(c.addr.toNat, bs)] } } := by
      rw [State.dataOut, if_neg (by simp [hb]), List.take_of_length_le hlen]
    refine ⟨hm, heq ▸ rfl, .of_eq (heq ▸ rfl), nofun, fun _ => heq ▸ rfl⟩

/-- Neither the transfer buffer nor the blocks already written change with a completion. -/
theorem State.Ready.finish_blocks {tag : Nat} {c : MCmd} (h : s.Ready tag c) (status : Nat) (result : Word) (dlen cidx : Nat) (v0 v1 : Word) :
    (s.finish tag status result dlen cidx v0 v1).mbx.buf = s.mbx.buf ∧ (s.finish tag status result dlen cidx v0 v1).out.dma = s.out.dma := by
  have hw := (h.finish_eq status result dlen cidx v0 v1).2
  obtain ⟨p, hp, -⟩ := hw.mbx
  obtain ⟨l, hl⟩ := hw.out
  exact ⟨by rw [hp], by rw [hl]⟩

/-- A command that ends with output data. -/
theorem State.Ready.finishData {tag : Nat} {c : MCmd} {may : List Part} {regs : Nat → Prop} (h : u.Ready tag { c with started := true })
    (hd : s.OnlyDid u tag may regs) (hwf : Store.wf zeroes u.mbx.buf = true) (hout : u.out.dma = s.out.dma) {bs : List Byte} (hlen : bs.length ≤ c.len)
    (cidx : Nat) (v0 : Word) :
    (u.finishData tag c bs cidx v0).completed (c.comp tag stOk (dlen := bs.length) (cidx := cidx) (v0 := v0)) ∧
      s.endsOnly (u.finishData tag c bs cidx v0) tag c may regs ∧ (bs ≠ [] → s.gave (u.finishData tag c bs cidx v0) c bs) := by
  let v := if bs.isEmpty then u else u.dataOut c bs
  have hv : u.Moves [] [.mbx, .out] v ∧ v.regs = u.regs ∧ u.MailKept v ∧ (bs ≠ [] → c.inBuf = true → v.bufBytes c.off bs.length = bs) ∧
      (bs ≠ [] → c.inBuf = false → v.out.dma = u.out.dma ++ [(c.addr.toNat, bs)]) := by
    obtain ⟨hm, hregs, hk, hin, hdma⟩ := State.dataOut_spec hwf hlen
    cases bs with
    | nil => exact ⟨.refl u, rfl, .of_eq rfl, fun h => absurd rfl h, fun h => absurd rfl h⟩
    | cons b bs => exact ⟨hm, hregs, hk, fun _ => hin, fun _ => hdma⟩
  have heq : u.finishData tag c bs cidx v0 = v.finish tag stOk 0#32 bs.length cidx v0 0#32 := by
    rw [State.finishData, Nat.min_eq_left hlen]
  clear_value v
  obtain ⟨hm, hregs, hk, hin, hdma⟩ := hv
  have hw : u.Writes (fun _ => False) v := (State.Writes.refl h.ok).of_regs hregs
  have hready : v.Ready tag { c with started := true } := h.moved hw (fun _ _ => id) hk
  have hdid : s.OnlyDid v tag may regs :=
    hd.then (State.keeps_mono hm.keeps (mailParts_subset may)) (hw.mono fun _ h => h.elim) (fun _ => id) (fun _ => id) hk
  obtain ⟨hbuf, hblk⟩ := hready.finish_blocks stOk 0#32 bs.length cidx v0 0#32
  rw [heq]
  refine ⟨hready.finish_completed stOk 0#32 bs.length cidx v0 0#32, hready.ends hdid rfl stOk 0#32 bs.length cidx v0 0#32, fun hne => ⟨fun hb => ?_, fun hb => ?_⟩⟩
  · have hbytes : (v.finish tag stOk 0#32 bs.length cidx v0 0#32).bufBytes c.off bs.length = v.bufBytes c.off bs.length := by
      unfold State.bufBytes State.bufWord
      rw [hbuf]
    rw [hbytes, hin hne hb]
  · rw [hblk, hdma hne hb, hout]

end Sys2Proof.Machine
end

section
/-!
PROOFS. The reading commands: each gives its block and ends with OK (R391, R417, R436, R438, R489, R502): O49.
-/
namespace Sys2Proof.Machine

variable {s t u : State} {tag : Fin 64} {c : MCmd} {opc : Nat}

theorem length_leBytes (n v : Nat) : (leBytes n v).length = n := by simp [leBytes]

theorem length_flatMap_const {α β : Type} (l : List α) (f : α → List β) {n : Nat} (h : ∀ x ∈ l, (f x).length = n) : (l.flatMap f).length = l.length * n := by
  rw [List.length_flatMap, List.map_congr_left h, List.map_const', List.sum_replicate, smul_eq_mul]

theorem State.runs.buf (h : s.runs tag opc c) : Store.wf zeroes s.mbx.buf = true := by
  obtain ⟨⟨-, -, -, -, -, -, -, -, hbuf⟩, -⟩ := h
  exact hbuf

/-- A command that gives a block and ends. -/
theorem State.runs.gives (h : s.runs tag opc c) {bs : List Byte} (hlen : bs.length ≤ c.len) (cidx : Nat) (v0 : Word) :
    ((s.begun tag c).finishData tag c bs cidx v0).completed (c.comp tag stOk (dlen := bs.length) (cidx := cidx) (v0 := v0)) ∧
      s.justEnds ((s.begun tag c).finishData tag c bs cidx v0) tag c ∧ (bs ≠ [] → s.gave ((s.begun tag c).finishData tag c bs cidx v0) c bs) :=
  (h.ready tag.isLt).finishData (State.onlyDid_begun s tag c) h.buf rfl hlen cidx v0

/-! ## IDENTIFY and STATUS -/

theorem State.length_identity (s : State) : s.identity.length = 64 := by
  simp [State.identity, length_leBytes, length_beBytes]

theorem execIdentify_spec (h : s.runs tag 0x01 c) :
    (64 ≤ c.len → ∃ t, exec (.identify tag) s = .next t ∧ t.completed (c.comp tag stOk (dlen := 64)) ∧ s.justEnds t tag c ∧ s.gave t c s.identity) ∧
      (c.len < 64 → ∃ t, exec (.identify tag) s = .next t ∧ t.completed (c.comp tag stRange 6#32) ∧ s.justEnds t tag c) := by
  refine ⟨fun hlen => ?_, fun hlen => ?_⟩
  · have hexec : exec (.identify tag) s = .next ((s.begun tag c).finishData tag c s.identity) :=
      congrArg Host.Outcome.next ((State.command_runs h).trans (if_neg (Nat.not_lt.mpr hlen)))
    obtain ⟨hc, he, hg⟩ := h.gives (s.length_identity.trans_le hlen) 0 0#32
    rw [s.length_identity] at hc
    exact ⟨_, hexec, hc, he, hg (List.ne_nil_of_length_pos (by rw [s.length_identity]; decide))⟩
  · have hexec : exec (.identify tag) s = .next ((s.begun tag c).finish tag stRange 6#32) :=
      congrArg Host.Outcome.next ((State.command_runs h).trans (if_pos hlen))
    exact ⟨_, hexec, h.ends tag.isLt stRange 6#32 0 0 0#32 0#32⟩

theorem devCode_lt (d : DevState) : devCode d % 4 = devCode d := by cases d <;> rfl

theorem execStatus_spec (h : s.runs tag 0x02 c) :
    ∃ t, exec (.status tag) s = .next t ∧ s.endsOnly t tag c [.freeN] (fun _ => False) ∧
      t.completed (c.comp tag stOk (w32 ((if s.fw.service then 1 else devCode s.dev) + 4 * s.qual + 32 * bit s.detOk + 64 * (s.supState % 8)))
        (cidx := s.latestCommit) (v0 := w32 s.logNewest) (v1 := s.utcNow)) := by
  let b := s.begun tag c
  let u := if (b.bestPort.bind b.annOf).isSome then b else b.freeStep
  let d := if s.fw.service then 1 else devCode s.dev
  have hd : d % 4 = d := by
    dsimp only [d]
    split
    · rfl
    · exact devCode_lt _
  have hexec : exec (.status tag) s = .next (u.finish tag stOk (w32 (d % 4 + 4 * s.qual + 32 * bit s.detOk + 64 * (s.supState % 8)))
      (cidx := s.latestCommit) (v0 := w32 s.logNewest) (v1 := s.utcNow)) := congrArg Host.Outcome.next (State.command_runs h)
  rw [hd] at hexec
  have hm : b.Moves [] [.freeN] u := .ite (.refl b) (.freeStep (.refl b) (by decide))
  have hregs : u.regs = b.regs := hm.regs_kept (by decide)
  have hmbx : u.mbx = b.mbx := by
    dsimp only [u]
    split <;> rfl
  have hready : u.Ready tag { c with started := true } := (h.ready tag.isLt).of_eq hregs hmbx
  have hdid : s.OnlyDid u tag [.freeN] (fun _ => False) :=
    (State.onlyDid_begun s tag c).then (State.keeps_mono hm.keeps (by decide)) ((State.Writes.refl (s := b) h.regsOk).of_regs hregs) (by decide) (fun _ => id) (.of_eq hmbx)
  clear_value u
  exact ⟨_, hexec, hready.ends hdid rfl _ _ _ _ _ _, hready.finish_completed _ _ _ _ _ _⟩

/-! ## STICKY -/

theorem stickyReg_not_ring {a : Nat} (h : stickyReg a) : ¬ ringRegs a := by
  obtain ⟨r, i, hr, hi, ha⟩ := h
  have hall : ∀ r ∈ stkRuns, ∀ i < r.count, r.base + r.stride * i ≠ Reg.SUP_STAT ∧
      ∀ q : Fin 4, r.base + r.stride * i ≠ Reg.MBX_CQTAIL q ∧ r.base + r.stride * i ≠ Reg.MBX_CQHEAD q := by decide
  obtain ⟨hsup, hq⟩ := hall r hr i hi
  rw [ha]
  rintro (hc | ⟨q, hc | hc⟩)
  · exact hsup hc
  · exact (hq q).1 hc
  · exact (hq q).2 hc

theorem stickyReg_not_cq {a : Nat} (h : stickyReg a) (q : Fin 4) : ¬ cqRegs q a := by
  obtain ⟨r, i, hr, hi, ha⟩ := h
  have hall : ∀ r ∈ stkRuns, ∀ i < r.count, r.base + r.stride * i ≠ Reg.MBX_OUTST_LO ∧ r.base + r.stride * i ≠ Reg.MBX_OUTST_HI ∧
      (r.base + r.stride * i < 0x8000 ∨ 0xA000 ≤ r.base + r.stride * i) ∧ ∀ q : Fin 4, r.base + r.stride * i ≠ Reg.MBX_CQTAIL q := by decide
  obtain ⟨hlo, hhi, hout, hq⟩ := hall r hr i hi
  rw [ha]
  have hlt := q.isLt
  rintro (hc | hc | hc | ⟨hc, hc'⟩)
  · exact hq q hc
  · exact hlo hc
  · exact hhi hc
  · unfold cqBase at hc hc'
    omega

theorem State.fileBit_of_regs (h : ∀ a, stickyReg a → t.reg a = s.reg a) (n : Nat) : t.fileBit n = s.fileBit n := by
  rw [Bool.eq_iff_iff, State.fileBit_iff, State.fileBit_iff]
  constructor
  · rintro ⟨a, j, hat, hb⟩
    exact ⟨a, j, hat, by rwa [← h a hat.sticky.1]⟩
  · rintro ⟨a, j, hat, hb⟩
    exact ⟨a, j, hat, by rwa [h a hat.sticky.1]⟩

theorem State.FilesCleared.trans (h : s.FilesCleared t) (k : t.FilesCleared u) : s.FilesCleared u :=
  ⟨k.ok, fun a ha => (k.regs a ha).trans (h.regs a ha), k.queue.trans h.queue, fun n hn => k.bits n (h.bits n hn)⟩

/-- The summary words of a list cleared in turn. -/
theorem State.clearSums (hs : s.regsOk = true) (m : Nat → Word) (l : List Nat) (hl : l.Nodup) :
    let t := l.foldl (fun x i => x.clearSum i (m i)) s
    s.FilesCleared t ∧ s.Moves [] [.regs, .log] t ∧ s.MailKept t ∧ t.out = s.out ∧ t.mbx = s.mbx ∧
      (∀ i b, i ∈ l → b < 32 → (m i).getLsbD b = true → t.fileBit (32 * i + b) = false) ∧
      ∀ n, n ≠ 5 → n ≠ 88 → (∀ i b, i ∈ l → b < 32 → n = 32 * i + b → (m i).getLsbD b = false) → t.fileBit n = s.fileBit n := by
  induction l generalizing s with
  | nil => exact ⟨.refl hs, .refl s, .of_eq rfl, rfl, rfl, fun _ _ h => absurd h List.not_mem_nil, fun _ _ _ _ => rfl⟩
  | cons i l ih =>
    obtain ⟨hi, hl⟩ := List.nodup_cons.mp hl
    have hc := State.clearSum_cleared hs i (m i)
    have hm : s.Moves [] [.regs, .log] (s.clearSum i (m i)) := .clearSum (.refl s) (by decide)
    have hmbx : (s.clearSum i (m i)).mbx = s.mbx ∧ (s.clearSum i (m i)).out = s.out := by
      obtain ⟨-, -, -, -, -, -, -, -, -, -, -, -, -, -, -, -, -, -, -, -, -, -, hmbx, -, -, hout, -⟩ := hm.keeps
      exact ⟨hmbx.resolve_left (by decide), hout.resolve_left (by decide)⟩
    obtain ⟨kc, km, -, kout, kmbx, kclear, kkeep⟩ := ih hc.ok hl
    refine ⟨hc.trans kc, hm.trans km, .of_eq (kmbx.trans hmbx.1), kout.trans hmbx.2, kmbx.trans hmbx.1, fun j b hj hb hbit => ?_, fun n h5 h88 hn => ?_⟩
    · rcases List.mem_cons.mp hj with rfl | hj
      · exact kc.bits _ (State.clearSum_clear hs hb hbit)
      · exact kclear j b hj hb hbit
    · exact (kkeep n h5 h88 fun j b hj => hn j b (List.mem_cons_of_mem _ hj)).trans
        (State.clearSum_keep hs h5 h88 fun b hb he => hn i b List.mem_cons_self hb he)

theorem State.length_stickyFile (s : State) : s.stickyFile.length = 4096 := by
  unfold State.stickyFile
  rw [length_flatMap_const _ _ (n := 4) fun i _ => length_leBytes 4 _, List.length_range]

section
variable (s : State) (n : Nat) (c : MCmd)

theorem State.begun_stkSum (i : Nat) : (s.begun n c).stkSum i = s.stkSum i := rfl
theorem State.begun_fileBit (i : Nat) : (s.begun n c).fileBit i = s.fileBit i := rfl
theorem State.begun_readLgstat (g : Nat) : (s.begun n c).readLgstat g = s.readLgstat g := rfl

/-- Branch by branch: the summary words, the first-set times and the leg groups' rows are compared at any index, never at their offset's value. -/
theorem State.begun_readView (a : Nat) : (s.begun n c).readView a = s.readView a := by
  unfold State.readView
  iterate 15 refine ite_congr rfl (fun _ => rfl) fun _ => ?_
  refine ite_congr rfl (fun _ => s.begun_stkSum n c _) fun _ => ?_
  refine ite_congr rfl (fun _ => ?_) fun _ => ?_
  · exact ite_congr (by rw [State.begun_fileBit]) (fun _ => rfl) fun _ => rfl
  · exact ite_congr rfl (fun _ => s.begun_readLgstat n c _) fun _ => rfl

theorem State.begun_fileWord (o : Nat) : (s.begun n c).fileWord o = s.fileWord o := by
  unfold State.fileWord
  refine ite_congr rfl (fun _ => ?_) fun _ => s.begun_readView n c _
  exact ite_congr (by rw [State.begun_fileBit]) (fun _ => rfl) fun _ => rfl

theorem State.begun_stickyFile : (s.begun n c).stickyFile = s.stickyFile := by
  unfold State.stickyFile
  rw [funext (s.begun_fileWord n c)]

end

theorem State.endsOnly.reg {n : Nat} {may : List Part} {regs : Nat → Prop} (h : s.endsOnly t n c may regs) {a : Nat} (ha : ¬ regs a) (hq : ¬ cqRegs c.q a) :
    t.reg a = s.reg a := by
  obtain ⟨-, hreg, -⟩ := h
  exact hreg a ha (fun h => hq (.inl h)) (fun h => hq (.inr (.inl h))) (fun h => hq (.inr (.inr (.inl h))))
    (Nat.lt_or_ge a (cqBase c.q) |>.imp_right fun h1 => Nat.le_of_not_lt fun h2 => hq (.inr (.inr (.inr ⟨h1, h2⟩))))

theorem State.log_of_keeps {may : List Part} (h : s.keeps t may) (hm : .log ∉ may) : t.log = s.log := by
  obtain ⟨-, -, -, -, -, -, -, -, -, -, -, -, -, hx, -⟩ := h
  exact hx.resolve_left hm

theorem execSticky_spec (h : s.runs tag 0x06 c) :
    ∃ t, exec (.sticky tag) s = .next t ∧ t.completed (c.comp tag stOk (dlen := min 4096 c.len)) ∧ s.endsOnly t tag c [.log] stickyReg ∧
      t.log.queue = s.log.queue ∧ (c.len ≠ 0 → s.gave t c (s.stickyFile.take c.len)) ∧
      (∀ n, n < 128 → (c.p.getD (n / 32) 0#32).getLsbD (n % 32) = true → t.fileBit n = false) ∧
      (∀ n, n ≠ 5 → n ≠ 88 → (c.p.getD (n / 32) 0#32).getLsbD (n % 32) = false → t.fileBit n = s.fileBit n) := by
  let b := s.begun tag c
  let u := (List.range 4).foldl (fun x i => x.clearSum i (c.p.getD i 0#32)) b
  have hexec : exec (.sticky tag) s = .next (u.finishData tag c (b.stickyFile.take c.len)) := congrArg Host.Outcome.next (State.command_runs h)
  rw [State.begun_stickyFile] at hexec
  have hbok : b.regsOk = true := h.regsOk
  obtain ⟨hc, hm, hk, hout, hmbx, hclear, hkeep⟩ := State.clearSums hbok (fun i => c.p.getD i 0#32) (List.range 4) List.nodup_range
  have hw : b.Writes stickyReg u := ⟨hc.ok, hc.regs⟩
  have hready : u.Ready tag { c with started := true } := (h.ready tag.isLt).moved hw (fun a ha hs => stickyReg_not_ring hs ha) hk
  have hdid : s.OnlyDid u tag [.log] stickyReg :=
    (State.onlyDid_begun s tag c).then (State.keeps_mono hm.keeps (by decide)) hw (by decide) (fun _ hf => hf.elim) hk
  have hlen : (s.stickyFile.take c.len).length = min 4096 c.len := by rw [List.length_take, s.length_stickyFile, Nat.min_comm]
  have hwf : Store.wf zeroes u.mbx.buf = true := by
    show Store.wf zeroes ((List.range 4).foldl (fun x i => x.clearSum i (c.p.getD i 0#32)) b).mbx.buf = true
    rw [hmbx]
    exact h.buf
  have hdma : u.out.dma = s.out.dma := by
    show ((List.range 4).foldl (fun x i => x.clearSum i (c.p.getD i 0#32)) b).out.dma = s.out.dma
    rw [hout]
    rfl
  obtain ⟨hcomp, hends, hgave⟩ := hready.finishData hdid hwf hdma (hlen.trans_le (Nat.min_le_right _ _)) 0 0#32
  rw [hlen] at hcomp
  obtain ⟨-, hjust, -⟩ := hready.finishData (State.onlyDid_refl u tag) hwf rfl (hlen.trans_le (Nat.min_le_right _ _)) 0 0#32
  have hsticky : ∀ a, stickyReg a → (u.finishData tag c (s.stickyFile.take c.len)).reg a = u.reg a := fun a ha => hjust.reg id (stickyReg_not_cq ha c.q)
  have hlog : (u.finishData tag c (s.stickyFile.take c.len)).log = u.log := State.log_of_keeps hjust.1 (by decide)
  refine ⟨_, hexec, hcomp, hends, (congrArg LogState.queue hlog).trans hc.queue, fun hne => hgave ?_, fun n hn hb => ?_, fun n h5 h88 hb => ?_⟩
  · exact List.ne_nil_of_length_pos (by rw [hlen]; omega)
  · rw [State.fileBit_of_regs hsticky, ← Nat.div_add_mod n 32]
    exact hclear (n / 32) (n % 32) (List.mem_range.mpr (by omega)) (Nat.mod_lt _ (by decide)) hb
  · rw [State.fileBit_of_regs hsticky]
    refine hkeep n h5 h88 fun i b hi hb' he => ?_
    rwa [show n / 32 = i by omega, show n % 32 = b by omega] at hb

/-! ## LOG_READ -/

theorem LogRec.length_bytes (r : LogRec) : r.bytes.length = 32 := by
  simp [LogRec.bytes, LogRec.body, length_leBytes]

theorem State.Queued.readChecks (s : State) (rs : List LogRec) : s.Queued (s.readChecks rs) := by
  unfold State.readChecks
  exact List.foldlRecOn (motive := fun v => s.Queued v) rs _ (.refl s) fun v hv r _ => .ite hv.stick (.ite hv hv.bump.stick)

/-- The registers that the checks of records may write. -/
def readRegs (a : Nat) : Prop := a ∈ Reg.LOG_TORNCNT :: logRegs

theorem State.Writes.readChecks (hs : s.regsOk = true) (rs : List LogRec) : s.Writes readRegs (s.readChecks rs) := by
  have hecc : ∀ a ∈ stickRegs Stk.LOG_ECC, readRegs a := by unfold readRegs; decide
  have htorn : ∀ a ∈ stickRegs Stk.LOG_TORN, readRegs a := by unfold readRegs; decide
  unfold State.readChecks
  exact List.foldlRecOn (motive := fun v => s.Writes readRegs v) rs _ (.refl hs) fun v hv r _ =>
    .ite (hv.stick _ hecc) (.ite hv ((hv.bump List.mem_cons_self).stick _ htorn))

theorem readRegs_not_ring {a : Nat} (h : ringRegs a) : ¬ readRegs a := by
  have hq : ∀ q : Fin 4, ¬ readRegs (Reg.MBX_CQTAIL q) ∧ ¬ readRegs (Reg.MBX_CQHEAD q) := by unfold readRegs; decide
  rcases h with h | ⟨q, h | h⟩
  · rw [h]
    unfold readRegs
    decide
  · exact h ▸ (hq q).1
  · exact h ▸ (hq q).2

theorem execLogRead_spec (h : s.runs tag 0x07 c) :
    (1 ≤ c.pw 1 → c.pw 1 ≤ 256 →
      (let rs := (s.logRead (c.pw 0) (min (c.pw 1) (c.len / 32))).2
       ∃ t, exec (.logRead tag) s = .next t ∧ t.completed (c.comp tag stOk (dlen := 32 * rs.length) (v0 := w32 rs.length)) ∧
         s.endsOnly t tag c [.log] (fun a => a ∈ Reg.LOG_TORNCNT :: logRegs) ∧ t.log.mram = s.log.mram ∧
         (rs ≠ [] → s.gave t c (rs.flatMap LogRec.bytes)))) ∧
      (c.pw 1 = 0 ∨ 256 < c.pw 1 → ∃ t, exec (.logRead tag) s = .next t ∧ t.completed (c.comp tag stRange 9#32) ∧ s.justEnds t tag c) := by
  refine ⟨fun h1 h2 => ?_, fun hbad => ?_⟩
  · let b := s.begun tag c
    let taken := takeGood (min (c.pw 1) (c.len / 32)) (s.logFrom (c.pw 0))
    let rs := taken.filter (fun r => r.ok)
    let u := b.readChecks taken
    have hexec : exec (.logRead tag) s = .next (u.finishData tag c (rs.flatMap LogRec.bytes) (v0 := w32 rs.length)) :=
      congrArg Host.Outcome.next ((State.command_runs h).trans (if_neg (by simp; omega)))
    have hbok : b.regsOk = true := h.regsOk
    have hev : b.Events u := (State.Events.refl b).readChecks
    have hw : b.Writes readRegs u := .readChecks hbok taken
    have hm : b.Moves [] logParts u := .readChecks (.refl b) (by decide)
    have hready : u.Ready tag { c with started := true } := (h.ready tag.isLt).moved hw (fun _ => readRegs_not_ring) hev.mailKept
    have hdid : s.OnlyDid u tag [.log] readRegs :=
      (State.onlyDid_begun s tag c).then (State.keeps_mono hm.keeps (by decide)) hw (by decide) (fun _ hf => hf.elim) hev.mailKept
    have hlen : (rs.flatMap LogRec.bytes).length = 32 * rs.length := by
      rw [length_flatMap_const _ _ fun r _ => r.length_bytes, Nat.mul_comm]
    have hshort : 32 * rs.length ≤ c.len := by
      have := length_takeGood_ok (min (c.pw 1) (c.len / 32)) (s.logFrom (c.pw 0))
      have hle : rs.length ≤ c.len / 32 := this.trans (Nat.min_le_right _ _)
      omega
    have hwf : Store.wf zeroes u.mbx.buf = true := by
      obtain ⟨-, e, he⟩ := hev
      rw [he]
      exact h.buf
    have hdma : u.out.dma = s.out.dma := by
      obtain ⟨⟨l, hl⟩, -⟩ := hev
      rw [hl]
      rfl
    have hmram : u.log.mram = s.log.mram := (State.Queued.readChecks b taken).mram
    clear_value u
    obtain ⟨hcomp, hends, hgave⟩ := hready.finishData hdid hwf hdma (hlen.trans_le hshort) 0 (w32 rs.length)
    have hlog : (u.finishData tag c (rs.flatMap LogRec.bytes) 0 (w32 rs.length)).log = u.log :=
      (State.Moves.finishData (own := []) (.refl u) (by decide) : u.Moves [] [.regs, .mbx, .out] _).log_kept (by decide)
    rw [hlen] at hcomp
    refine ⟨_, hexec, hcomp, hends, (congrArg LogState.mram hlog).trans hmram, fun hne => hgave (List.ne_nil_of_length_pos ?_)⟩
    have hpos : 0 < rs.length := List.length_pos_of_ne_nil hne
    rw [hlen]
    omega
  · have hexec : exec (.logRead tag) s = .next ((s.begun tag c).finish tag stRange 9#32) :=
      congrArg Host.Outcome.next ((State.command_runs h).trans (if_pos (by simp; omega)))
    exact ⟨_, hexec, h.ends tag.isLt stRange 9#32 0 0 0#32 0#32⟩

/-! ## ENG_DUMP, METER_READ and REC_READ -/

theorem execEngDump_spec (h : s.runs tag 0x105 c) (hb : c.pw 0 < s.engines) (h1 : 1 ≤ c.pw 2) (h2 : c.pw 1 + c.pw 2 ≤ 16384) (hlen : 4 * c.pw 2 ≤ c.len) :
    ∃ t, exec (.engDump tag) s = .next t ∧ t.completed (c.comp tag stOk (dlen := 4 * c.pw 2) (cidx := (s.bd (c.pw 0)).dumpIdx)) ∧ s.justEnds t tag c ∧
      s.gave t c ((List.range (c.pw 2)).flatMap (fun i => leBytes 4 ((s.bd (c.pw 0)).dump.get zeroes (c.pw 1 + i)).toNat)) := by
  let bs := (List.range (c.pw 2)).flatMap (fun i => leBytes 4 ((s.bd (c.pw 0)).dump.get zeroes (c.pw 1 + i)).toNat)
  have hexec : exec (.engDump tag) s = .next ((s.begun tag c).finishData tag c bs (cidx := (s.bd (c.pw 0)).dumpIdx)) := by
    refine congrArg Host.Outcome.next ((State.command_runs h).trans ((if_neg (Nat.not_le.mpr hb)).trans ?_))
    exact (if_neg (by simp; omega)).trans ((if_neg (by omega)).trans (if_neg (by omega)))
  have hbs : bs.length = 4 * c.pw 2 := by
    rw [length_flatMap_const _ _ fun i _ => length_leBytes 4 _, List.length_range, Nat.mul_comm]
  obtain ⟨hc, he, hg⟩ := h.gives (hbs.trans_le hlen) (s.bd (c.pw 0)).dumpIdx 0#32
  rw [hbs] at hc
  exact ⟨_, hexec, hc, he, hg (List.ne_nil_of_length_pos (by omega))⟩

theorem State.length_latchBytes (s : State) (m : Nat) : (s.latchBytes m).length = 96 := by
  have h : ∀ f : Nat → List Byte, (∀ r ∈ List.range 7, (f r).length = 8) → ((List.range 7).flatMap f).length = 56 := fun f hf =>
    length_flatMap_const _ _ hf
  simp only [State.latchBytes, List.length_append, length_leBytes, List.length_take, List.length_replicate]
  rw [h _ fun r _ => by simp [length_leBytes]]
  rfl

theorem execMeterRead_spec (h : s.runs tag 0x601 c) (hm : c.pw 0 < 4) (hlen : 96 ≤ c.len) :
    ∃ t, exec (.meterRead tag) s = .next t ∧ t.completed (c.comp tag stOk (dlen := 96)) ∧ s.justEnds t tag c ∧ s.gave t c (s.latchBytes (c.pw 0)) := by
  have hexec : exec (.meterRead tag) s = .next ((s.begun tag c).finishData tag c (s.latchBytes (c.pw 0))) :=
    congrArg Host.Outcome.next ((State.command_runs h).trans ((if_neg (by omega)).trans (if_neg (by omega))))
  have hbs := s.length_latchBytes (c.pw 0)
  obtain ⟨hc, he, hg⟩ := h.gives (hbs.trans_le hlen) 0 0#32
  rw [hbs] at hc
  exact ⟨_, hexec, hc, he, hg (List.ne_nil_of_length_pos (by omega))⟩

theorem execRecRead_spec (h : s.runs tag 0x704 c) (hb : c.pw 0 < 16) (h2 : c.pw 1 + c.pw 2 ≤ 0x20000) (hlen : 8 * c.pw 2 ≤ c.len) :
    (s.recState ≠ 2 → s.recState ≠ 3 →
      ∃ t, exec (.recRead tag) s = .next t ∧ t.completed (c.comp tag stOk (dlen := 8 * c.pw 2)) ∧ s.justEnds t tag c ∧
        (c.pw 2 ≠ 0 → s.gave t c ((List.range (c.pw 2)).flatMap (fun i => leBytes 8 ((s.bank (c.pw 0)).mem.get zeroes (c.pw 1 + i)).toNat)))) ∧
      (s.recState = 2 ∨ s.recState = 3 → ∃ t, exec (.recRead tag) s = .next t ∧ t.completed (c.comp tag stBusy) ∧ s.justEnds t tag c) := by
  let bs := (List.range (c.pw 2)).flatMap (fun i => leBytes 8 ((s.bank (c.pw 0)).mem.get zeroes (c.pw 1 + i)).toNat)
  have hexec : exec (.recRead tag) s = .next (if s.recState = 2 || s.recState = 3 then (s.begun tag c).finish tag stBusy else (s.begun tag c).finishData tag c bs) := by
    refine congrArg Host.Outcome.next ((State.command_runs h).trans ((if_neg (by omega)).trans ?_))
    exact (if_neg (by omega)).trans ((if_neg (by omega)).trans (if_neg (by omega)))
  have hbs : bs.length = 8 * c.pw 2 := by
    rw [length_flatMap_const _ _ fun i _ => length_leBytes 8 _, List.length_range, Nat.mul_comm]
  refine ⟨fun h2 h3 => ?_, fun hst => ?_⟩
  · rw [if_neg (by simp [h2, h3])] at hexec
    obtain ⟨hc, he, hg⟩ := h.gives (hbs.trans_le hlen) 0 0#32
    rw [hbs] at hc
    exact ⟨_, hexec, hc, he, fun hne => hg (List.ne_nil_of_length_pos (by omega))⟩
  · rw [if_pos (by simpa using hst)] at hexec
    exact ⟨_, hexec, h.ends tag.isLt stBusy 0#32 0 0 0#32 0#32⟩

/-- Settles O49: each reading command is `State.finishData` of its block. -/
theorem hostReadsReturnTheirBlocks : Obligations.HostReadsReturnTheirBlocks := by
  unfold Obligations.HostReadsReturnTheirBlocks
  exact fun s tag c => ⟨execIdentify_spec, execStatus_spec, execSticky_spec, execLogRead_spec, execEngDump_spec, execMeterRead_spec, execRecRead_spec⟩

end Sys2Proof.Machine
end

section
/-!
PROOFS. What a power-down and a device reset leave: the registers of KEEP, the log's slots, the fuses and the flash (R47, R448, R449, R467).
-/
namespace Sys2Proof.Machine

variable {s t u : State}

/-! ## KEEP's registers -/

theorem State.survive_reg (s : State) {keep : Nat → Bool} (ns : List Nat) {a : Nat} (h : keep a = true) : (s.survive keep ns).reg a = s.reg a :=
  Store.get_filter (p := fun e => keep e.1) fun _ => h

theorem State.survive_ok (hs : s.regsOk = true) (keep : Nat → Bool) (ns : List Nat) : (s.survive keep ns).regsOk = true := Store.filter_wf _ hs

/-- The registers that `keepBits` writes. -/
def bitRegs (a : Nat) : Prop := a = Reg.GT_STAT ∨ a = Reg.CLK_STAT ∨ a = Reg.STK_SUM 3

theorem State.keepBits_spec (hs : s.regsOk = true) (old : State) {q : Nat} (hq : q < 8) :
    s.Writes bitRegs (s.keepBits old q) ∧ (s.keepBits old q).qual = q ∧ s.Queued (s.keepBits old q) ∧ (s.keepBits old q).log.queue = s.log.queue ∧
      (s.keepBits old q).log.dropped = s.log.dropped ∧ ∃ r l, s.keepBits old q = { s with regs := r, log := l } := by
  let s0 := s.setRegN Reg.GT_STAT q
  let s1 := s0.setFld Reg.GT_STAT F.GT_STAT_KEEPCAL_OK (old.fld Reg.GT_STAT F.GT_STAT_KEEPCAL_OK)
  let s2 := s1.setFld Reg.CLK_STAT F.CLK_STAT_XT32_OK (old.fld Reg.CLK_STAT F.CLK_STAT_XT32_OK)
  let s3 := s2.setReg (Reg.STK_SUM 3) (old.reg (Reg.STK_SUM 3) &&& 0x1E000000#32)
  have heq : s.keepBits old q = s3.tidyFgt := rfl
  have w0 : s.Writes bitRegs s0 := (State.Writes.refl hs).setRegN _ (.inl rfl)
  have w1 : s0.Writes bitRegs s1 := (State.Writes.refl w0.ok).setFld _ _ (.inl rfl)
  have w2 : s1.Writes (· = Reg.CLK_STAT) s2 := (State.Writes.refl w1.ok).setFld _ _ rfl
  have w3 : s2.Writes (· = Reg.STK_SUM 3) s3 := (State.Writes.refl w2.ok).setReg _ rfl
  have hq0 : s0.qual = q := by
    have h : s0.regN Reg.GT_STAT = q := (State.regN_setRegN _ _ hs).trans (Nat.mod_eq_of_lt (by omega))
    show s0.regN Reg.GT_STAT / 2 ^ 0 % 2 ^ 3 = q
    rw [h]
    omega
  have hq1 : s1.qual = s0.qual := State.fld_setFld_other _ _ _ _ w0.ok (by decide) (by decide)
  have hq3 : s3.qual = s1.qual := (w3.fld _ (by decide)).trans (w2.fld _ (by decide))
  have hall : s.Writes bitRegs s3 := w0.trans (w1.trans ((w2.mono fun a h => .inr (.inl h)).trans (w3.mono fun a h => .inr (.inr h))))
  rw [heq]
  refine ⟨hall.of_regs (State.tidyFgt_regs s3), ?_, (State.Queued.refl s).aside rfl rfl rfl rfl rfl, rfl, rfl, _, _, rfl⟩
  exact (State.fld_of_reg (State.reg_of_regs (State.tidyFgt_regs s3) _) _).trans (hq3.trans (hq1.trans hq0))

/-- A register that stands in KEEP is none that `keepBits` writes. -/
theorem keepAddr_not_bitRegs {a : Nat} (h : keepAddr a = true) : ¬ bitRegs a := by
  rintro (rfl | rfl | rfl) <;> exact absurd h (by decide)

theorem State.flag_eq_of_fld {a b : Nat} {f : Fld} (h : t.fld a f = s.fld b f) : t.flag a f = s.flag b f := by
  rw [State.flag, State.flag, h]

/-! ## A device reset -/

/-- Outside the registers `t` has of `s` what stands in KEEP, in the fuses and in the flash; the rest is at reset. -/
structure State.Survived (s t : State) : Prop where
  gt : t.gt = s.gt
  variant : t.variant = s.variant
  pending : t.pending = s.pending
  dev : t.dev = s.dev
  fw : t.fw = s.fw
  pwr : t.pwr = s.pwr
  mbx : t.mbx = { keys := s.mbx.keys, qspi := s.mbx.qspi }
  pin : t.pin = { s.pin with folded := [] }
  empty : t.deferred = [] ∧ t.pan = {} ∧ t.ana = {} ∧ t.pwm = {} ∧ t.gl = {} ∧ t.safe = {} ∧ t.ket = {} ∧ t.mtr = {} ∧ t.hop = {} ∧ t.law = {} ∧ t.sup = {}
  log : s.Queued t
  queue : t.log.queue = s.log.queue
  dropped : t.log.dropped = s.log.dropped

theorem State.survived_survive (s : State) (keep : Nat → Bool) (ns : List Nat) : s.Survived (s.survive keep ns) :=
  ⟨rfl, rfl, rfl, rfl, rfl, rfl, rfl, rfl, ⟨rfl, rfl, rfl, rfl, rfl, rfl, rfl, rfl, rfl, rfl, rfl⟩, .aside (.refl s) rfl rfl rfl rfl rfl, rfl, rfl⟩

theorem State.Survived.holdKeep (h : s.holdKeep.Survived t) : s.Survived t :=
  ⟨h.gt, h.variant, h.pending, h.dev, h.fw, h.pwr, h.mbx, h.pin, h.empty, (State.Queued.of_log rfl : s.Queued s.holdKeep).trans h.log, h.queue, h.dropped⟩

/-- The bits that KEEP holds do not change the rest. -/
theorem State.Survived.keepBits (h : s.Survived t) (ht : t.regsOk = true) (old : State) {q : Nat} (hq : q < 8) : s.Survived (t.keepBits old q) := by
  obtain ⟨-, -, hlog, hqueue, hdrop, r, l, heq⟩ := State.keepBits_spec ht old hq
  refine ⟨?_, ?_, ?_, ?_, ?_, ?_, ?_, ?_, ?_, h.log.trans hlog, hqueue.trans h.queue, hdrop.trans h.dropped⟩
  all_goals rw [heq]
  exacts [h.gt, h.variant, h.pending, h.dev, h.fw, h.pwr, h.mbx, h.pin, h.empty]

theorem State.Survived.setFld (h : s.Survived t) (a : Nat) (f : Fld) (n : Nat) : s.Survived (t.setFld a f n) :=
  ⟨h.gt, h.variant, h.pending, h.dev, h.fw, h.pwr, h.mbx, h.pin, h.empty, h.log.trans (.of_log rfl), h.queue, h.dropped⟩

/-- What a device reset leaves before the record of a lost oscillator (R448, R449). -/
structure State.ResetTo (s w : State) (cause : Nat) (lost : Bool) : Prop where
  ok : w.regsOk = true
  gt : w.gt = s.gt
  variant : w.variant = s.variant
  pending : w.pending = s.pending
  dev : w.dev = if s.mainOk then .standby else if s.powered then .watch else s.dev
  fw : w.fw = { s.fw with booting := true, selected := false, service := false, refused := 0, rewrite := false, cause := cause }
  pwr : w.pwr = { s.pwr with leaving := none, entering := none, held := if s.mainOk then none else some cause }
  mbx : w.mbx = { keys := s.mbx.keys, qspi := s.mbx.qspi }
  pin : w.pin = { s.pin with folded := [] }
  empty : w.deferred = [] ∧ w.pan = {} ∧ w.ana = {} ∧ w.pwm = {} ∧ w.gl = {} ∧ w.safe = {} ∧ w.ket = {} ∧ w.mtr = {} ∧ w.hop = {} ∧ w.law = {} ∧ w.sup = {}
  log : s.Queued w ∧ w.log.queue = s.log.queue ∧ w.log.dropped = s.log.dropped
  keep : ∀ a, keepAddr a = true → a ≠ Reg.CLK_PWRSTAT → w.reg a = s.reg a
  cause : w.fld Reg.CLK_PWRSTAT F.CLK_PWRSTAT_RSTCAUSE = cause % 8
  flags : ∀ f : Fld, f.lo + f.w ≤ 24 → w.fld Reg.CLK_PWRSTAT f = s.fld Reg.CLK_PWRSTAT f
  qual : w.qual = if s.qual = 0 || lost then 0 else 5

/-- The state of the device at the end of a reset of `s`, from the registers and parts of `v`. -/
def State.afterReset (v s : State) (cause : Nat) : State :=
  { v with dev := if v.mainOk then .standby else if s.powered then .watch else s.dev,
           tim := { v.tim with xtLostHeld := false },
           fw := { v.fw with booting := true, selected := false, service := false, refused := 0, rewrite := false, cause := cause },
           pwr := { v.pwr with leaving := none, entering := none, held := if v.mainOk then none else some cause } }

theorem State.Survived.resetTo {v : State} (h : s.Survived v) (hok : v.regsOk = true) {cause : Nat} {lost : Bool}
    (hkeep : ∀ a, keepAddr a = true → a ≠ Reg.CLK_PWRSTAT → v.reg a = s.reg a) (hcause : v.fld Reg.CLK_PWRSTAT F.CLK_PWRSTAT_RSTCAUSE = cause % 8)
    (hflags : ∀ f : Fld, f.lo + f.w ≤ 24 → v.fld Reg.CLK_PWRSTAT f = s.fld Reg.CLK_PWRSTAT f) (hqual : v.qual = if s.qual = 0 || lost then 0 else 5) :
    s.ResetTo (v.afterReset s cause) cause lost := by
  have hmain : v.mainOk = s.mainOk := State.flag_eq_of_fld (hflags _ (by decide))
  refine ⟨hok, h.gt, h.variant, h.pending, ?_, ?_, ?_, h.mbx, h.pin, h.empty, ⟨h.log.trans (.of_log rfl), h.queue, h.dropped⟩, hkeep, hcause, hflags, hqual⟩
  · rw [← hmain]
    rfl
  · rw [← h.fw]
    rfl
  · rw [← hmain, ← h.pwr]
    rfl

/-- What `keepBits` and the cause leave of the registers, from those that survived. -/
theorem State.Survived.withCause (h : s.Survived u) (hu : u.regsOk = true) (hkeep : ∀ a, keepAddr a = true → u.reg a = s.reg a) (old : State) {q : Nat}
    (hq : q < 8) (cause : Nat) {lost : Bool} (hqual : q = if s.qual = 0 || lost then 0 else 5) :
    s.ResetTo (((u.keepBits old q).setFld Reg.CLK_PWRSTAT F.CLK_PWRSTAT_RSTCAUSE cause).afterReset s cause) cause lost := by
  obtain ⟨hwk, hqk, -⟩ := State.keepBits_spec hu old hq
  have hv := (h.keepBits hu old hq).setFld Reg.CLK_PWRSTAT F.CLK_PWRSTAT_RSTCAUSE cause
  have hwv : (u.keepBits old q).Writes (· = Reg.CLK_PWRSTAT) ((u.keepBits old q).setFld Reg.CLK_PWRSTAT F.CLK_PWRSTAT_RSTCAUSE cause) :=
    (State.Writes.refl hwk.ok).setFld _ _ rfl
  refine hv.resetTo hwv.ok (fun a ha hne => ?_) (State.fld_setFld _ _ _ hwk.ok (by decide)) (fun f hf => ?_) ((hwv.fld _ (by decide)).trans (hqk.trans hqual))
  · exact (hwv.reg hne).trans ((hwk.reg (keepAddr_not_bitRegs ha)).trans (hkeep a ha))
  · exact (State.fld_setFld_other _ _ _ _ hwk.ok (by decide) (.inl hf)).trans
      ((hwk.fld _ (keepAddr_not_bitRegs (by decide))).trans (State.fld_of_reg (hkeep _ (by decide)) _))

theorem State.deviceReset_eq (hs : s.regsOk = true) (cause : Nat) :
    ∃ w lost, s.deviceReset cause = w.stickIf lost Stk.XT32_LOST ∧ s.ResetTo w cause lost ∧ (s.powered = false → lost = s.tim.xtLostHeld) := by
  unfold State.deviceReset
  extract_lets +onlyGivenNames ns t0 u lost q v src src' src'' w
  have ht0 : t0 = s.holdKeep ∨ t0 = s := by
    dsimp only [t0]
    split
    · exact .inl rfl
    · exact .inr rfl
  have hregs : t0.regs = s.regs := by
    rcases ht0 with h | h <;> rw [h]
    rfl
  have hsurv : s.Survived u := by
    rcases ht0 with h | h
    · exact State.Survived.holdKeep (h ▸ t0.survived_survive _ _)
    · exact h ▸ t0.survived_survive _ _
  have hq8 : q < 8 := by
    dsimp only [q]
    split <;> decide
  have hqual : t0.qual = s.qual := State.fld_of_reg (State.reg_of_regs hregs _) _
  have hqval : q = if s.qual = 0 || lost then 0 else 5 := by rw [← hqual]
  have huok : u.regsOk = true := State.survive_ok ((State.regsOk_of_regs hregs).trans hs) _ _
  have hukeep : ∀ a, keepAddr a = true → u.reg a = s.reg a := fun a ha => (State.survive_reg _ _ (by simp [ha])).trans (State.reg_of_regs hregs a)
  have hw : w = v.afterReset s cause := rfl
  have hreset : s.ResetTo (v.afterReset s cause) cause lost := hsurv.withCause huok hukeep t0 hq8 cause hqval
  refine ⟨w, lost, rfl, hw.symm ▸ hreset, fun hp => ?_⟩
  dsimp only [lost, t0]
  rw [if_neg (by simp [hp])]

/-! ## Operations that write the units' registers and the log's queue -/

/-- Registers in `m` are written, and records enter the queue. -/
structure State.LogSteps (m : Nat → Prop) (s t : State) : Prop where
  writes : s.Writes m t
  queued : s.Queued t

namespace State.LogSteps

variable {m : Nat → Prop} {a : Nat}

theorem refl (h : s.regsOk = true) : s.LogSteps m s := ⟨.refl h, .refl s⟩

theorem trans (h : s.LogSteps m t) (k : t.LogSteps m u) : s.LogSteps m u := ⟨h.writes.trans k.writes, h.queued.trans k.queued⟩

theorem of_eq (h : s.LogSteps m t) (hr : u.regs = t.regs) (hl : u.log = t.log) : s.LogSteps m u := ⟨h.writes.of_regs hr, h.queued.trans (.of_log hl)⟩

/-- A change of other parts. -/
theorem moved {may : List Part} (h : s.LogSteps m t) (k : t.Moves [] may u) (hr : .regs ∉ may) (hl : .log ∉ may) : s.LogSteps m u :=
  h.of_eq (k.regs_kept hr) (k.log_kept hl)

theorem ite {c : Prop} [Decidable c] (ht : s.LogSteps m t) (hu : s.LogSteps m u) : s.LogSteps m (if c then t else u) := by
  split
  · exact ht
  · exact hu

theorem foldl {α : Type} {f : State → α → State} {l : List α} (hf : ∀ v x, s.LogSteps m v → s.LogSteps m (f v x)) (h : s.LogSteps m t) :
    s.LogSteps m (l.foldl f t) :=
  List.foldlRecOn l f h fun v hv x _ => hf v x hv

theorem setReg (h : s.LogSteps m t) (v : Word) (ha : m a) : s.LogSteps m (t.setReg a v) := ⟨h.writes.setReg v ha, h.queued.trans (.of_log rfl)⟩

theorem setRegN (h : s.LogSteps m t) (n : Nat) (ha : m a) : s.LogSteps m (t.setRegN a n) := h.setReg _ ha

theorem setFld (h : s.LogSteps m t) (f : Fld) (n : Nat) (ha : m a) : s.LogSteps m (t.setFld a f n) := h.setRegN _ ha

theorem stick (h : s.LogSteps m t) (k : Stk) (hk : ∀ a ∈ stickRegs k, m a) : s.LogSteps m (t.stick k) := ⟨h.writes.stick k hk, h.queued.stick⟩

theorem stickIf (h : s.LogSteps m t) (c : Bool) (k : Stk) (hk : ∀ a ∈ stickRegs k, m a) : s.LogSteps m (t.stickIf c k) := .ite (h.stick k hk) h

/-- Records of an event. -/
theorem records (h : s.LogSteps m t) (rs : List LogRec) (pin : Bool) (n : Nat) (hm : ∀ a ∈ logRegs, m a) :
    s.LogSteps m ((t.enqueue rs pin).overflowStk n) := by
  refine ⟨⟨State.overflowStk_ok _ (State.enqueue_ok _ _ h.writes.ok), fun b hb => ?_⟩, h.queued.enqueue.overflowStk⟩
  have hb' : b ∉ logRegs := fun hc => hb (hm b hc)
  simp only [logRegs, List.mem_cons, List.not_mem_nil, or_false, not_or] at hb'
  rw [State.overflowStk_reg _ (State.enqueue_ok _ _ h.writes.ok) hb'.1 hb'.2, State.enqueue_reg _ _ h.writes.ok hb'.1, h.writes.reg hb]

theorem logRec (h : s.LogSteps m t) (typ code : Nat) (ws : List Word) (pin : Bool) (hm : ∀ a ∈ logRegs, m a) : s.LogSteps m (t.logRec typ code ws pin) :=
  h.records _ _ _ hm

theorem transition (h : s.LogSteps m t) (to_ : DevState) (cause : Nat) (srcs : List Nat) (hm : ∀ a ∈ logRegs, m a) :
    s.LogSteps m (t.transition to_ cause srcs) :=
  (h.records _ _ _ hm).of_eq rfl rfl

end State.LogSteps

/-- The registers beside those of the supplies and the state of GT. -/
def offRegs (a : Nat) : Prop := ¬ (0x13400 ≤ a ∧ a < 0x13430) ∧ a ≠ Reg.GT_STAT

theorem offRegs_high {a : Nat} (h : 0x20000 ≤ a) : offRegs a := by
  unfold offRegs Reg.GT_STAT
  omega

theorem offRegs_low {a : Nat} (h : a < 0x12000) : offRegs a := by
  unfold offRegs Reg.GT_STAT
  omega

theorem offRegs_log : ∀ a ∈ logRegs, offRegs a := by
  intro a ha
  rcases List.mem_cons.mp ha with rfl | ha
  · exact offRegs_low (by decide)
  · rw [List.mem_singleton.mp ha]
    exact offRegs_low (by decide)

theorem offRegs_stick {k : Stk} (h : offRegs k.reg) : ∀ a ∈ stickRegs k, offRegs a := fun a ha => by
  rcases List.mem_cons.mp ha with rfl | ha
  · exact h
  · exact offRegs_log a ha

namespace State.LogSteps

theorem closeSession (h : s.LogSteps offRegs t) (code : Nat) : s.LogSteps offRegs (t.closeSession code) := by
  have hmail {a : Nat} (ha : a < 0x12000) : offRegs a := offRegs_low ha
  unfold State.closeSession
  refine .ite ?_ h
  extract_lets +onlyGivenNames u
  have hu : s.LogSteps offRegs u := h.logRec _ _ _ _ offRegs_log
  refine .setFld (.setReg (.setReg ?_ _ (hmail (by decide))) _ (hmail (by decide))) _ _ (hmail (by decide))
  exact hu.of_eq rfl rfl

/-! ### The meter -/

theorem mtrMod {m : Nat → Prop} (h : s.LogSteps m t) {k : Nat} {f : MtrPoint → MtrPoint} : s.LogSteps m (t.mtrMod k f) := h.of_eq rfl rfl

theorem eventEnd (h : s.LogSteps offRegs t) (m typ : Nat) (v : MtrEvent) (cut : Bool) (stop : Nat) : s.LogSteps offRegs (t.eventEnd m typ v cut stop) := by
  unfold State.eventEnd
  extract_lets +onlyGivenNames x
  refine .ite h ?_
  extract_lets +onlyGivenNames ws n s1 s2
  have hs1 : s.LogSteps offRegs s1 := .foldl (fun _ _ hv => hv.setReg _ (offRegs_high (by simp only [Reg.MTR_EVREC]; omega))) h
  have hhead : offRegs (Reg.MTR_EVHEAD m) := offRegs_high (by simp only [Reg.MTR_EVHEAD]; omega)
  have hs2 : s.LogSteps offRegs s2 := (hs1.setFld _ _ hhead).setFld _ _ hhead
  exact (hs2.mtrMod.stick _ (offRegs_stick (offRegs_high (by simp only [Stk.MTR_EVENT, Reg.MTR_STK]; omega)))).logRec _ _ _ _ offRegs_log

theorem eventsCut (h : s.LogSteps offRegs t) (m : Nat) : s.LogSteps offRegs (t.eventsCut m) := by
  unfold State.eventsCut
  extract_lets +onlyGivenNames x stop s1 s2 s3
  have hs1 : s.LogSteps offRegs s1 := h.of_eq rfl rfl
  have hs2 : s.LogSteps offRegs s2 := .ite (hs1.eventEnd _ _ _ _ _) hs1
  have hs3 : s.LogSteps offRegs s3 := .ite (hs2.eventEnd _ _ _ _ _) hs2
  exact .ite (hs3.eventEnd _ _ _ _ _) hs3

theorem mcntLatch (h : s.LogSteps offRegs t) (m : Nat) : s.LogSteps offRegs (t.mcntLatch m) := by
  unfold State.mcntLatch
  refine .foldl (fun v i hv => ?_) h
  refine .ite ?_ hv
  extract_lets +onlyGivenNames x e w gain d src t1 t2
  have ht1 : s.LogSteps offRegs t1 := hv.of_eq rfl rfl
  have ht2 : s.LogSteps offRegs t2 := ht1.setRegN _ (offRegs_high (by simp only [Reg.MCNT_DIFF]; omega))
  exact .ite ((ht2.stick _ (offRegs_stick (offRegs_high (by decide)))).logRec _ _ _ _ offRegs_log) ht2

theorem latch (h : s.LogSteps offRegs t) (m gt : Nat) : s.LogSteps offRegs (t.latch m gt) := by
  unfold State.latch
  extract_lets +onlyGivenNames x w s1 s2 s3
  have hs1 : s.LogSteps offRegs s1 := .foldl (fun _ _ hv =>
    (hv.setRegN _ (offRegs_high (by simp only [Reg.MTR_LATE_LO]; omega))).setRegN _ (offRegs_high (by simp only [Reg.MTR_LATE_HI]; omega))) h
  have hs2 : s.LogSteps offRegs s2 := ((hs1.setRegN _ (offRegs_high (by simp only [Reg.MTR_LATWRAP0]; omega))).setRegN _
    (offRegs_high (by simp only [Reg.MTR_LATWRAP1]; omega))).setReg _ (offRegs_high (by simp only [Reg.MTR_LATLCC]; omega))
  have hs3 : s.LogSteps offRegs s3 := ((hs2.setRegN _ (offRegs_high (by simp only [Reg.MTR_LATGT_LO]; omega))).setRegN _
    (offRegs_high (by simp only [Reg.MTR_LATGT_HI]; omega))).setRegN _ (offRegs_high (by simp only [Reg.MTR_LATSEQ]; omega))
  exact (hs3.mcntLatch m).of_eq rfl rfl

theorem mtrFinal (h : s.LogSteps offRegs t) : s.LogSteps offRegs t.mtrFinal := by
  unfold State.mtrFinal
  refine .foldl (fun v m hv => ?_) h
  refine .ite ?_ hv
  extract_lets +onlyGivenNames g
  exact ((hv.eventsCut m).latch m g).records _ _ _ offRegs_log

/-! ### The gate commands -/

theorem dropCarry (h : s.LogSteps offRegs t) (n : Nat) : s.LogSteps offRegs (t.dropCarry n) := by
  have hhigh : HighRegs offRegs := ⟨fun _ => offRegs_high, offRegs_log⟩
  unfold State.dropCarry
  refine .ite h ?_
  exact (h.moved (.chMod (.refl t) (by decide) : t.Moves [] [.pwm] _) (by decide) (by decide)).stick _
    (hhigh.stick (k := Stk.PWM_CARRY_LOST _) (Nat.le_add_right_of_le (by decide)))

theorem allGcmdLow (h : s.LogSteps offRegs t) : s.LogSteps offRegs t.allGcmdLow := by
  unfold State.allGcmdLow
  extract_lets +onlyGivenNames u
  have hu : s.LogSteps offRegs u := by
    refine .foldl (fun v n hv => ?_) h
    have hf : s.LogSteps offRegs (v.forceOff n) := hv.moved (.forceOff (.refl v) (by decide) : v.Moves [] [.cmp, .pwm, .gl] _) (by decide) (by decide)
    exact hf.dropCarry n
  clear_value u
  exact hu.of_eq rfl rfl

end State.LogSteps

end Sys2Proof.Machine
end

section
/-!
PROOFS. The ways between the device states: what a power-down, the way into WATCH and a change of KEEP's source leave (R47, R467, R470, R481).
-/
namespace Sys2Proof.Machine

variable {s t u : State}

section
variable {own may : List Part} (h : s.Moves own may t)
include h

theorem State.Moves.variant_kept (hm : .variant ∉ may) : t.variant = s.variant := by
  obtain ⟨-, hx, -⟩ := h.keeps
  exact hx.resolve_left hm

theorem State.Moves.pwr_kept (hm : .pwr ∉ may) : t.pwr = s.pwr := by
  obtain ⟨-, -, -, -, -, -, -, -, -, -, -, -, -, -, hx, -⟩ := h.keeps
  exact hx.resolve_left hm

theorem State.Moves.mbx_kept (hm : .mbx ∉ may) : t.mbx = s.mbx := by
  obtain ⟨-, -, -, -, -, -, -, -, -, -, -, -, -, -, -, -, -, -, -, -, -, -, hx, -⟩ := h.keeps
  exact hx.resolve_left hm

theorem State.Moves.pin_kept (hm : .pin ∉ may) : t.pin = s.pin := by
  obtain ⟨-, -, -, -, -, -, -, -, -, -, -, -, -, -, -, -, -, -, -, -, -, -, -, hx, -⟩ := h.keeps
  exact hx.resolve_left hm

end

theorem State.Writes.supply {a : Nat} (h : s.Writes offRegs t) (h1 : 0x13400 ≤ a) (h2 : a < 0x13430) : t.reg a = s.reg a :=
  h.reg fun hc => hc.1 ⟨h1, h2⟩

theorem State.Writes.tier (h : s.Writes offRegs t) : t.qual = s.qual := h.fld _ fun hc => hc.2 rfl

/-- What a power-down of every domain but KEEP, TLINK and SAFE leaves (R47, R467). -/
structure State.PoweredDown (s t : State) : Prop where
  ok : t.regsOk = true
  gt : t.gt = s.gt
  variant : t.variant = s.variant
  dev : t.dev = s.dev
  fw : t.fw = s.fw
  pwr : t.pwr = s.pwr
  safe : t.safe = s.safe
  keys : t.mbx.keys = s.mbx.keys
  cmds : t.mbx.cmds = []
  empty : t.pan = {} ∧ t.pwm = {} ∧ t.ket = {}
  queued : s.Queued t
  supply : ∀ a, 0x13400 ≤ a → a < 0x13430 → t.reg a = s.reg a
  qual : t.qual = if s.qual = 0 then 0 else 5

theorem State.powerDown_spec (hs : s.regsOk = true) : s.PoweredDown s.powerDown := by
  let s1 := s.stickIf (s.qual ≠ 5 && s.qual ≠ 0) Stk.GT_HOLDOVER
  have hl1 : s.LogSteps offRegs s1 := (State.LogSteps.refl hs).stickIf _ _ (offRegs_stick ⟨by decide, by decide⟩)
  have hm1 : s.Moves [] logParts s1 := .stickIf (.refl s) (by decide)
  have he1 : s.Events s1 := (State.Events.refl s).stickIf
  let keep := fun a => keepAddr a || linkAddr a || safeAddr a || cmpAddr s.keptCmps a
  let u := s1.holdKeep.survive keep s.keptCmps
  let x : State := { u with safe := s1.safe, net := { u.net with lastWatch := s.gt } }
  let q := if s1.qual = 0 then 0 else 5
  have heq : s.powerDown = x.keepBits s1.holdKeep q := rfl
  have hu : u.regsOk = true := State.survive_ok (s := s1.holdKeep) hl1.writes.ok keep s.keptCmps
  have hx : x.regsOk = true := hu
  have hq : q < 8 := by
    dsimp only [q]
    split <;> decide
  have hxsupply : ∀ a, 0x13400 ≤ a → a < 0x13430 → x.reg a = s.reg a := fun a h1 h2 => by
    have hk : keep a = true := by simp [keep, keepAddr, h1, h2]
    exact (State.survive_reg s1.holdKeep s.keptCmps hk).trans (hl1.writes.supply h1 h2)
  obtain ⟨hw, hqual, hqueued, -, -, r, l, hbits⟩ := State.keepBits_spec hx s1.holdKeep hq
  have hxq : s.Queued x := hl1.queued.trans ((State.Queued.refl s1).aside rfl rfl rfl rfl rfl)
  have hqval : q = if s.qual = 0 then 0 else 5 := by rw [← hl1.writes.tier]
  rw [heq]
  refine ⟨hw.ok, ?_, ?_, ?_, ?_, ?_, ?_, ?_, ?_, ?_, hxq.trans hqueued, fun a h1 h2 => (hw.reg ?_).trans (hxsupply a h1 h2), hqual.trans hqval⟩
  · rw [hbits]
    exact hm1.gt_kept (by decide)
  · rw [hbits]
    exact hm1.variant_kept (by decide)
  · rw [hbits]
    exact hm1.dev_kept (by decide)
  · rw [hbits]
    exact hm1.fw_kept (by decide)
  · rw [hbits]
    exact hm1.pwr_kept (by decide)
  · rw [hbits]
    exact hm1.safe_kept (by decide)
  · rw [hbits]
    exact he1.mailKept.keys
  · rw [hbits]
    rfl
  · rw [hbits]
    exact ⟨rfl, rfl, rfl⟩
  · rintro (rfl | rfl | rfl)
    · exact absurd h1 (by decide)
    · exact absurd h1 (by decide)
    · exact absurd h1 (by decide)

/-- What the way from RUN or STANDBY into WATCH leaves (R47, R470). -/
structure State.Watches (s t : State) : Prop where
  ok : t.regsOk = true
  gt : t.gt = s.gt
  dev : t.dev = .watch
  fw : t.fw = s.fw
  pwr : t.pwr = s.pwr
  safe : t.safe.cfg = s.safe.cfg ∧ t.safe.inForce = s.safe.inForce
  cmds : t.mbx.cmds = []
  empty : t.pan = {} ∧ t.pwm = {} ∧ t.ket = {}
  queued : s.Queued t
  supply : ∀ a, 0x13400 ≤ a → a < 0x13430 → t.reg a = s.reg a
  qual : t.qual = if s.qual = 0 then 0 else 5

theorem State.soutOff_safe (s : State) (j : Nat) : (s.soutOff j).safe.cfg = s.safe.cfg ∧ (s.soutOff j).safe.inForce = s.safe.inForce := ⟨rfl, rfl⟩

theorem State.soutCheck_spec (hs : s.regsOk = true) : s.LogSteps offRegs s.soutCheck ∧ s.soutCheck.safe.cfg = s.safe.cfg ∧
    s.soutCheck.safe.inForce = s.safe.inForce := by
  unfold State.soutCheck
  refine List.foldlRecOn (motive := fun v : State => s.LogSteps offRegs v ∧ v.safe.cfg = s.safe.cfg ∧ v.safe.inForce = s.safe.inForce) _ _
    ⟨.refl hs, rfl, rfl⟩ fun v hv j _ => ?_
  obtain ⟨hl, hcfg, hforce⟩ := hv
  split
  · have hreg : offRegs (Reg.SAFE_SOUT j) := by
      unfold offRegs Reg.SAFE_SOUT Reg.GT_STAT
      omega
    have hmid : s.LogSteps offRegs { v with safe := { v.safe with sout := v.safe.sout.mod j (fun o => { o with cmd := false, hClosed := false, lClosed := false }) } } :=
      hl.of_eq rfl rfl
    exact ⟨((hmid.setFld _ _ hreg).setFld _ _ hreg).setFld _ _ hreg, hcfg, hforce⟩
  · exact ⟨hl, hcfg, hforce⟩

theorem State.toWatch_spec (hs : s.regsOk = true) (cause : Nat) : s.Watches (s.toWatch cause) := by
  let s1 := ((s.closeSession 2).mtrFinal).transition .watch cause
  have hl1 : s.LogSteps offRegs s1 := (((State.LogSteps.refl hs).closeSession 2).mtrFinal).transition _ _ _ offRegs_log
  have hm1 : s.Moves [] (.dev :: .mtr :: logParts) s1 :=
    .transition (.mtrFinal (.closeSession (.refl s) (by decide)) (by decide)) (.inr nofun) (by decide)
  have hdev1 : s1.dev = .watch := rfl
  have heq : s.toWatch cause = s1.powerDown.soutCheck := rfl
  rw [heq]
  clear_value s1
  have hd := State.powerDown_spec hl1.writes.ok
  have hm : s1.powerDown.Moves [] [.regs, .safe] s1.powerDown.soutCheck := .soutCheck (.refl _) (by decide)
  obtain ⟨hl, hcfg, hforce⟩ := State.soutCheck_spec hd.ok
  obtain ⟨hpan, hpwm, hket⟩ := hd.empty
  have hmbx := hm.mbx_kept (by decide)
  have hsafe1 : s1.safe = s.safe := hm1.safe_kept (by decide)
  refine ⟨hl.writes.ok, ?_, ?_, ?_, ?_, ⟨?_, ?_⟩, ?_, ⟨?_, ?_, ?_⟩, hl1.queued.trans (hd.queued.trans hl.queued), fun a h1 h2 => ?_, ?_⟩
  · rw [hm.gt_kept (by decide), hd.gt, hm1.gt_kept (by decide)]
  · rw [hm.dev_kept (by decide), hd.dev, hdev1]
  · rw [hm.fw_kept (by decide), hd.fw, hm1.fw_kept (by decide)]
  · rw [hm.pwr_kept (by decide), hd.pwr, hm1.pwr_kept (by decide)]
  · rw [hcfg, hd.safe, hsafe1]
  · rw [hforce, hd.safe, hsafe1]
  · rw [hmbx, hd.cmds]
  · rw [hm.pan_kept (by decide), hpan]
  · rw [hm.pwm_kept (by decide), hpwm]
  · rw [hm.ket_kept (by decide), hket]
  · rw [hl.writes.supply h1 h2, hd.supply a h1 h2, hl1.writes.supply h1 h2]
  · rw [hl.writes.tier, hd.qual, hl1.writes.tier]

end Sys2Proof.Machine
end

section
/-!
PROOFS. The resets and the pins: PORST_N, TEST_EN, the supply monitor and KEEP's power-up, boundary scan and foldback (R448, R449, R471, R499,
R515, R517): O46.
-/
namespace Sys2Proof.Machine

variable {s t u : State}

/-! ## What a device reset leaves -/

/-- What a device reset leaves, with the parts of KEEP that `State.wasReset` does not name. -/
structure State.ResetBy (s t : State) (cause : Nat) : Prop where
  ok : t.regsOk = true
  was : s.wasReset t cause
  dev : t.dev = if s.mainOk then .standby else if s.powered then .watch else s.dev
  pwr : t.pwr = { s.pwr with leaving := none, entering := none, held := if s.mainOk then none else some cause }
  pin : t.pin = { s.pin with folded := [] }
  fw : t.fw = { s.fw with booting := true, selected := false, service := false, refused := 0, rewrite := false, cause := cause }
  queued : s.Queued t
  flags : ∀ f : Fld, f.lo + f.w ≤ 24 → t.fld Reg.CLK_PWRSTAT f = s.fld Reg.CLK_PWRSTAT f
  supply : ∀ a, 0x13400 ≤ a → a < 0x13430 → a ≠ Reg.CLK_PWRSTAT → t.reg a = s.reg a
  still : s.powered = false → s.tim.xtLostHeld = false → t.log.queue = s.log.queue ∧ t.qual = if s.qual = 0 then 0 else 5

theorem State.deviceReset_spec (hs : s.regsOk = true) {cause : Nat} (hc : cause < 8) : s.ResetBy (s.deviceReset cause) cause := by
  obtain ⟨w, lost, heq, hw, hlost⟩ := State.deviceReset_eq hs cause
  rw [heq]
  have hl : w.LogSteps (· ∈ stickRegs Stk.XT32_LOST) (w.stickIf lost Stk.XT32_LOST) := (State.LogSteps.refl hw.ok).stickIf _ _ fun _ => id
  have hm : w.Moves [] logParts (w.stickIf lost Stk.XT32_LOST) := .stickIf (.refl w) (by decide)
  have he : w.Events (w.stickIf lost Stk.XT32_LOST) := (State.Events.refl w).stickIf
  have hstill : lost = false → w.stickIf lost Stk.XT32_LOST = w := fun h => by rw [h]; rfl
  generalize hy : w.stickIf lost Stk.XT32_LOST = y at *
  have hfw : y.fw = w.fw := hm.fw_kept (by decide)
  have hqueued : s.Queued y := hw.log.1.trans hl.queued
  have hcmds : y.mbx.cmds = [] := he.mailKept.cmds.trans (by rw [hw.mbx])
  have hkeys : y.mbx.keys = s.mbx.keys := he.mailKept.keys.trans (by rw [hw.mbx])
  have hkeep : ∀ a, keepAddr a = true → a ≠ Reg.CLK_PWRSTAT → a ∉ logRegs → y.reg a = s.reg a := fun a ha hne hlog => by
    rw [← hw.keep a ha hne]
    refine hl.writes.reg fun hc => ?_
    rcases List.mem_cons.mp hc with rfl | hc
    · exact absurd ha (by decide)
    · exact hlog hc
  have hcause : y.fld Reg.CLK_PWRSTAT F.CLK_PWRSTAT_RSTCAUSE = cause :=
    (hl.writes.fld _ (by decide)).trans (hw.cause.trans (Nat.mod_eq_of_lt hc))
  obtain ⟨hdef, hpan, hana, hpwm, hgl, hsafe, hket, hmtr, hhop, hlaw, hsup⟩ := hw.empty
  have hparts := hm.keeps
  simp only [State.keeps, logParts, List.mem_cons, List.not_mem_nil, or_false, reduceCtorEq, false_or] at hparts
  obtain ⟨kgt, kvar, kdev, -, kdef, -, kpan, -, kana, -, kpwm, kgl, ksafe, -, kpwr, kket, -, kmtr, khop, klaw, ksup, kfw, -, kpin, -, -, kpend⟩ := hparts
  refine ⟨hl.writes.ok, ?_, kdev.trans hw.dev, kpwr.trans hw.pwr, kpin.trans hw.pin, hfw.trans hw.fw, hqueued,
    fun f hf => (hl.writes.fld _ (by decide)).trans (hw.flags f hf), fun a h1 h2 hne => ?_, fun hp hx => ?_⟩
  · refine ⟨?_, ?_, ?_, hcause, kgt.trans hw.gt, kvar.trans hw.variant, kpend.trans hw.pending, hqueued.mram, hqueued.nextSeq, ?_, ?_, ?_, ?_, hkeys, hcmds,
      kdef.trans hdef, kpan.trans hpan, kana.trans hana, kpwm.trans hpwm, kgl.trans hgl, ksafe.trans hsafe, kket.trans hket, kmtr.trans hmtr, khop.trans hhop,
      klaw.trans hlaw, ksup.trans hsup, hkeep⟩
    all_goals rw [hfw, hw.fw]
  · refine hkeep a (by simp [keepAddr, h1, h2]) hne fun hc => ?_
    rcases List.mem_cons.mp hc with rfl | hc
    · exact absurd h1 (by decide)
    · rw [List.mem_singleton.mp hc] at h1
      exact absurd h1 (by decide)
  · have hl0 : lost = false := (hlost hp).trans hx
    rw [hstill hl0]
    refine ⟨hw.log.2.1, ?_⟩
    rw [hw.qual, hl0, Bool.or_false]
    simp

/-! ## PORST_N and TEST_EN -/

theorem execPorstNReset_spec (hs : s.inv = true) (hk : s.pwr.keepOff = false) :
    ∃ t, exec .porstNReset s = .next t ∧ s.wasReset t 2 ∧
      t.dev = (if s.mainOk then .standby else if s.powered then .watch else s.dev) ∧ t.pwr.held = (if s.mainOk then none else some 2) := by
  have hexec : exec .porstNReset s = .next (s.deviceReset 2) := congrArg Host.Outcome.next (if_neg (by simp [hk]))
  have hr := State.deviceReset_spec (State.regsOk_of_inv hs) (by decide : 2 < 8)
  exact ⟨_, hexec, hr.was, hr.dev, by rw [hr.pwr]⟩

theorem execTestEnHigh_spec (hs : s.inv = true) :
    ∃ t, exec .testEnHigh s = .next t ∧ s.wasReset t 2 ∧ t.pin.testEn = true ∧ t.hostOn = false ∧ t.powered = false := by
  have hr := State.deviceReset_spec (State.regsOk_of_inv hs) (by decide : 2 < 8)
  let v := s.deviceReset 2
  have hexec : exec .testEnHigh s = .next { v with pin := { v.pin with testEn := true } } := rfl
  refine ⟨_, hexec, hr.was, rfl, ?_, ?_⟩
  · exact Bool.and_false _
  · exact Bool.and_false _

/-! ## The supply monitor and KEEP's power-up -/

/-- The registers that a change of KEEP's source to anything but HBAT writes. -/
def sourceRegs (a : Nat) : Prop := a = Reg.CLK_PWRSTAT ∨ a ∈ logRegs

theorem State.setSource_spec (hs : s.regsOk = true) {src : Nat} (h4 : src < 4) (h2 : src ≠ 2) :
    s.LogSteps sourceRegs (s.setSource src) ∧ s.Moves [] logParts (s.setSource src) ∧ (s.setSource src).keepSrc = src ∧
      ∀ f : Fld, f.lo + f.w ≤ 1 ∨ 3 ≤ f.lo → (s.setSource src).fld Reg.CLK_PWRSTAT f = s.fld Reg.CLK_PWRSTAT f := by
  by_cases hc : s.keepSrc = src
  · have heq : s.setSource src = s := if_pos hc
    rw [heq]
    exact ⟨.refl hs, .refl s, hc, fun _ _ => rfl⟩
  · let s1 := s.setFld Reg.CLK_PWRSTAT F.CLK_PWRSTAT_KEEPSRC src
    have heq : s.setSource src = s1.logRec 0x03 (evCode 0xFF 8) [] := (if_neg hc).trans (if_neg (by simp [h2]))
    have hl1 : s.LogSteps sourceRegs s1 := (State.LogSteps.refl hs).setFld _ _ (.inl rfl)
    have hm1 : s.Moves [] logParts s1 := .setFld (.refl s) (by decide)
    have hsrc1 : s1.keepSrc = src := (State.fld_setFld _ _ _ hs (by decide)).trans (Nat.mod_eq_of_lt h4)
    have hflds1 : ∀ f : Fld, f.lo + f.w ≤ 1 ∨ 3 ≤ f.lo → s1.fld Reg.CLK_PWRSTAT f = s.fld Reg.CLK_PWRSTAT f := fun f hf =>
      State.fld_setFld_other _ _ _ _ hs (by decide) hf
    have hl2 : s1.LogSteps (· ∈ logRegs) (s1.logRec 0x03 (evCode 0xFF 8) []) := (State.LogSteps.refl hl1.writes.ok).logRec _ _ _ _ fun _ => id
    rw [heq]
    refine ⟨hl1.logRec _ _ _ _ fun _ => .inr, hm1.logRec (by decide), (hl2.writes.fld _ (by decide)).trans hsrc1, fun f hf => ?_⟩
    exact (hl2.writes.fld _ (by decide)).trans (hflds1 f hf)

theorem State.sourceNow_stored (hm : s.mainOk = false) (hv : 2800 < s.hstoreMv) : s.sourceNow = some 1 := by
  unfold State.sourceNow
  dsimp only
  rw [if_neg (by simp [hm]), if_neg (by simp; omega), if_neg (by simp; omega), if_neg (by simp; omega), if_pos (by omega)]

/-- The stages of a supply-monitor reset before the reset itself: its rails, its sticky bits, and the supply that is gone (R471). -/
structure State.Browned (s p : State) (rails : Nat) : Prop where
  ok : p.regsOk = true
  gt : p.gt = s.gt
  fw : p.fw = s.fw
  powered : p.powered = s.powered
  queued : s.Queued p
  main : p.mainOk = false
  store : p.hstoreMv = s.hstoreMv
  rails : p.fld Reg.CLK_PWRSTAT F.CLK_PWRSTAT_RAILLOST = rails
  stuck : p.stuck Stk.HOLDUP_SHORT = true ∧ p.stuck Stk.SUPPLY_LOSS = true

theorem State.powered_of_parts (hd : t.dev = s.dev) (hf : t.fw = s.fw) (hp : t.pin = s.pin) : t.powered = s.powered := by
  unfold State.powered
  rw [hd, hf, hp]

/-- The state that the supply monitor resets (R471). -/
def State.brownPrep (s : State) (rails : Nat) (latched : Bool) : State :=
  let s1 := ((s.setFld Reg.CLK_PWRSTAT F.CLK_PWRSTAT_RAILLOST rails).allGcmdLow).stick Stk.SUPPLY_LOSS
  let s2 := if latched then ({ (s1.mtrFinal).transition .watch 2 with dev := s.dev } : State) else s1
  ((s2.stick Stk.HOLDUP_SHORT).setFld Reg.CLK_PWRSTAT F.CLK_PWRSTAT_MAINOK 0).setFld Reg.CLK_PWRSTAT F.CLK_PWRSTAT_CHARGE 0

theorem execBrownOut_eq (rails : Fin 64) (latched : Bool) (hp : s.powered = true) (hr : rails.val ≠ 0)
    (hsrc : ((s.brownPrep rails latched).deviceReset 3).sourceNow = some 1) :
    exec (.brownOut rails latched) s = .next (((s.brownPrep rails latched).deviceReset 3).setSource 1) := by
  refine congrArg Host.Outcome.next ((if_neg (by simp [hp, hr])).trans ?_)
  show (match ((s.brownPrep rails latched).deviceReset 3).sourceNow with
    | some k => ((s.brownPrep rails latched).deviceReset 3).setSource k
    | none => ((s.brownPrep rails latched).deviceReset 3).keepLost) = _
  rw [hsrc]

/-- The gate commands go low, and the sticky bit of the loss is set: the supplies' other registers stay. -/
theorem State.lossMarked (hs : s.regsOk = true) : s.LogSteps (fun a => offRegs a ∨ a = Reg.CLK_PWRSTK) ((s.allGcmdLow).stick Stk.SUPPLY_LOSS) ∧
    ((s.allGcmdLow).stick Stk.SUPPLY_LOSS).stuck Stk.SUPPLY_LOSS = true ∧
    s.Moves [] (.cmp :: .pwm :: .gl :: logParts) ((s.allGcmdLow).stick Stk.SUPPLY_LOSS) := by
  have h1 : s.LogSteps offRegs s.allGcmdLow := (State.LogSteps.refl hs).allGcmdLow
  have hm : s.Moves [] (.cmp :: .pwm :: .gl :: logParts) s.allGcmdLow := .allGcmdLow (.refl s) (by decide)
  refine ⟨⟨(h1.writes.mono fun a => .inl).stick _ fun a ha => ?_, h1.queued.stick⟩, State.stick_stuck _ h1.writes.ok (by decide) (by decide), hm.stick (by decide)⟩
  rcases List.mem_cons.mp ha with rfl | ha
  · exact .inr rfl
  · exact .inl (offRegs_log a ha)

theorem State.LogSteps.setDev {m : Nat → Prop} (h : s.LogSteps m t) (d : DevState) : s.LogSteps m { t with dev := d } :=
  h.of_eq rfl rfl

/-- Metering ends and the record of the transition is written, in a device whose state is set by the reset that follows (R471). -/
theorem State.finalWatch_spec (hs : s.regsOk = true) (d : DevState) : s.LogSteps offRegs { (s.mtrFinal).transition .watch 2 with dev := d } ∧
    s.Moves [] (.dev :: .mtr :: logParts) ((s.mtrFinal).transition .watch 2) :=
  ⟨(((State.LogSteps.refl hs).mtrFinal).transition _ _ _ offRegs_log).setDev d, .transition (.mtrFinal (.refl s) (by decide)) (.inr nofun) (by decide)⟩

theorem State.setDev_parts (d : DevState) : ({ s with dev := d } : State).gt = s.gt ∧ ({ s with dev := d } : State).fw = s.fw ∧
    ({ s with dev := d } : State).pin = s.pin ∧ ({ s with dev := d } : State).dev = d :=
  ⟨rfl, rfl, rfl, rfl⟩

/-- Everything of a supply-monitor reset before its last two fields: what a transition that is latched adds (R471). -/
theorem State.ifLatched_spec (hs : s.regsOk = true) {d : DevState} (hd : s.dev = d) (latched : Bool) :
    s.LogSteps offRegs (if latched then { (s.mtrFinal).transition .watch 2 with dev := d } else s) ∧
      (if latched then { (s.mtrFinal).transition .watch 2 with dev := d } else s : State).gt = s.gt ∧
      (if latched then { (s.mtrFinal).transition .watch 2 with dev := d } else s : State).fw = s.fw ∧
      (if latched then { (s.mtrFinal).transition .watch 2 with dev := d } else s : State).pin = s.pin ∧
      (if latched then { (s.mtrFinal).transition .watch 2 with dev := d } else s : State).dev = d := by
  cases latched with
  | false => exact ⟨.refl hs, rfl, rfl, rfl, hd⟩
  | true =>
    obtain ⟨hl, hm⟩ := State.finalWatch_spec hs d
    obtain ⟨hgt, hfw, hpin, hdev⟩ := State.setDev_parts (s := (s.mtrFinal).transition .watch 2) d
    exact ⟨hl, hgt.trans (hm.gt_kept (by decide)), hfw.trans (hm.fw_kept (by decide)), hpin.trans (hm.pin_kept (by decide)), hdev⟩

theorem State.brownPrep_spec (hs : s.regsOk = true) {rails : Nat} (hr : rails < 64) (latched : Bool) : s.Browned (s.brownPrep rails latched) rails := by
  unfold State.brownPrep
  extract_lets +onlyGivenNames s1 src s2
  let s0 := s.setFld Reg.CLK_PWRSTAT F.CLK_PWRSTAT_RAILLOST rails
  have w0 : s.Writes (· = Reg.CLK_PWRSTAT) s0 := (State.Writes.refl hs).setFld _ _ rfl
  have hrails0 : s0.fld Reg.CLK_PWRSTAT F.CLK_PWRSTAT_RAILLOST = rails :=
    (State.fld_setFld _ _ _ hs (by decide)).trans (Nat.mod_eq_of_lt hr)
  obtain ⟨hl1, hloss1, hm1⟩ := State.lossMarked w0.ok
  have hm01 : s.Moves [] (.cmp :: .pwm :: .gl :: logParts) s1 := (State.Moves.setFld (.refl s) (by decide)).trans hm1
  have hq01 : s.Queued s1 := (State.Queued.of_log rfl : s.Queued s0).trans hl1.queued
  have hrails1 : s1.fld Reg.CLK_PWRSTAT F.CLK_PWRSTAT_RAILLOST = rails := (hl1.writes.fld _ (by unfold offRegs; decide)).trans hrails0
  have hstore1 : s1.hstoreMv = s.hstoreMv := by
    rw [State.hstoreMv, hl1.writes.fld _ (by unfold offRegs; decide), w0.fld _ (by decide)]
    rfl
  have hloss1 : s1.stuck Stk.SUPPLY_LOSS = true := hloss1
  have hok1 : s1.regsOk = true := hl1.writes.ok
  clear_value s1
  have h2 : s1.LogSteps offRegs s2 ∧ s2.gt = s1.gt ∧ s2.fw = s1.fw ∧ s2.pin = s1.pin ∧ s2.dev = s.dev :=
    State.ifLatched_spec hok1 (hm01.dev_kept (by decide)) latched
  clear_value s2
  obtain ⟨hl2, hgt2, hfw2, hpin2, hdev2⟩ := h2
  let s3 := s2.stick Stk.HOLDUP_SHORT
  have hm3 : s2.Moves [] logParts s3 := .stick (.refl s2) (by decide)
  have hl3 : s2.LogSteps (· ∈ stickRegs Stk.HOLDUP_SHORT) s3 := (State.LogSteps.refl hl2.writes.ok).stick _ fun _ => id
  have hshort3 : s3.stuck Stk.HOLDUP_SHORT = true := State.stick_stuck _ hl2.writes.ok (by decide) (by decide)
  have hloss3 : s3.stuck Stk.SUPPLY_LOSS = true :=
    State.stick_mono _ _ hl2.writes.ok (by decide) (by decide) ((hl2.writes.stuck (by unfold offRegs; decide)).trans hloss1)
  have hrails3 : s3.fld Reg.CLK_PWRSTAT F.CLK_PWRSTAT_RAILLOST = rails :=
    (hl3.writes.fld _ (by decide)).trans ((hl2.writes.fld _ (by unfold offRegs; decide)).trans hrails1)
  have hstore3 : s3.hstoreMv = s.hstoreMv := by
    rw [← hstore1, State.hstoreMv, hl3.writes.fld _ (by decide), hl2.writes.fld _ (by unfold offRegs; decide)]
    rfl
  have hparts3 : s3.gt = s.gt ∧ s3.fw = s.fw ∧ s3.powered = s.powered ∧ s.Queued s3 := by
    have hfw : s3.fw = s.fw := by rw [hm3.fw_kept (by decide), hfw2, hm01.fw_kept (by decide)]
    refine ⟨by rw [hm3.gt_kept (by decide), hgt2, hm01.gt_kept (by decide)], hfw, State.powered_of_parts ?_ hfw ?_, hq01.trans (hl2.queued.trans hl3.queued)⟩
    · rw [hm3.dev_kept (by decide), hdev2]
    · rw [hm3.pin_kept (by decide), hpin2, hm01.pin_kept (by decide)]
  have hok3 := hl3.writes.ok
  show s.Browned ((s3.setFld Reg.CLK_PWRSTAT F.CLK_PWRSTAT_MAINOK 0).setFld Reg.CLK_PWRSTAT F.CLK_PWRSTAT_CHARGE 0) rails
  clear_value s3
  obtain ⟨hgt3, hfw3, hpow3, hq3⟩ := hparts3
  let s4 := s3.setFld Reg.CLK_PWRSTAT F.CLK_PWRSTAT_MAINOK 0
  have w4 : s3.Writes (· = Reg.CLK_PWRSTAT) s4 := (State.Writes.refl hok3).setFld _ _ rfl
  have w5 : s4.Writes (· = Reg.CLK_PWRSTAT) (s4.setFld Reg.CLK_PWRSTAT F.CLK_PWRSTAT_CHARGE 0) := (State.Writes.refl w4.ok).setFld _ _ rfl
  have hmain4 : s4.mainOk = false := State.flag_setFld hok3 _ _ _ (by decide)
  refine ⟨w5.ok, hgt3, hfw3, hpow3, hq3.trans (.of_log rfl), ?_, ?_, ?_, ?_, ?_⟩
  · exact (State.flag_setFld_other w4.ok _ _ _ _ (by decide) (by decide)).trans hmain4
  · rw [← hstore3, State.hstoreMv, w5.fld _ (by decide), w4.fld _ (by decide)]
    rfl
  · exact (State.fld_setFld_other _ _ _ _ w4.ok (by decide) (by decide)).trans ((State.fld_setFld_other _ _ _ _ hok3 (by decide) (by decide)).trans hrails3)
  · exact (w5.stuck (by decide)).trans ((w4.stuck (by decide)).trans hshort3)
  · exact (w5.stuck (by decide)).trans ((w4.stuck (by decide)).trans hloss3)

theorem execBrownOut_spec (hs : s.inv = true) (rails : Fin 64) (latched : Bool) (hp : s.powered = true) (hst : s.stored) (hr : rails.val ≠ 0) :
    ∃ t, exec (.brownOut rails latched) s = .next t ∧ t.dev = .watch ∧ t.pwr.held = some 3 ∧ t.fw.booting = true ∧ t.fw.cause = 3 ∧
      t.mainOk = false ∧ t.fld Reg.CLK_PWRSTAT F.CLK_PWRSTAT_RAILLOST = rails ∧ t.fld Reg.CLK_PWRSTAT F.CLK_PWRSTAT_RSTCAUSE = 3 ∧
      t.stuck Stk.HOLDUP_SHORT = true ∧ t.stuck Stk.SUPPLY_LOSS = true ∧ t.pwm = {} ∧ t.safe = {} ∧ t.ket = {} ∧ t.gt = s.gt ∧
      t.log.mram = s.log.mram ∧ t.fw.slots = s.fw.slots := by
  have hb := State.brownPrep_spec (State.regsOk_of_inv hs) rails.isLt latched
  have hexec := execBrownOut_eq rails latched hp hr
  generalize s.brownPrep rails latched = p at hb hexec
  have hd := State.deviceReset_spec hb.ok (by decide : 3 < 8)
  generalize p.deviceReset 3 = q at hd hexec
  have hmain : q.mainOk = false := (State.flag_eq_of_fld (hd.flags _ (by decide))).trans hb.main
  have hstore : q.hstoreMv = s.hstoreMv := by
    rw [← hb.store, State.hstoreMv, State.fld_of_reg (hd.supply Reg.CLK_HRVMON0 (by decide) (by decide) (by decide))]
    rfl
  have hstk {k : Stk} (hk : k.reg = Reg.CLK_PWRSTK) : q.stuck k = p.stuck k :=
    State.stuck_of_reg (hk ▸ hd.supply Reg.CLK_PWRSTK (by decide) (by decide) (by decide))
  obtain ⟨hl, hm, -, hflds⟩ := State.setSource_spec hd.ok (by decide : 1 < 4) (by decide : 1 ≠ 2)
  obtain ⟨hboot, -, hcause, hrst, hgt, -, -, hmram, -, hslots, -, -, -, -, -, -, -, -, hpwm, -, hsafe, hket, -⟩ := hd.was
  have hstk' {k : Stk} (hk : k.reg = Reg.CLK_PWRSTK) : (q.setSource 1).stuck k = p.stuck k :=
    (hl.writes.stuck (by rw [hk]; unfold sourceRegs; decide)).trans (hstk hk)
  refine ⟨_, hexec (State.sourceNow_stored hmain (hstore ▸ hst.2)), ?_, ?_, ?_, ?_, ?_, ?_, ?_, (hstk' rfl).trans hb.stuck.1, (hstk' rfl).trans hb.stuck.2,
    (hm.pwm_kept (by decide)).trans hpwm, (hm.safe_kept (by decide)).trans hsafe, (hm.ket_kept (by decide)).trans hket,
    (hm.gt_kept (by decide)).trans (hgt.trans hb.gt), hl.queued.mram.trans (hmram.trans hb.queued.mram), ?_⟩
  · rw [hm.dev_kept (by decide), hd.dev, hb.main, hb.powered, hp]
    rfl
  · rw [hm.pwr_kept (by decide), hd.pwr, hb.main]
    rfl
  · rw [hm.fw_kept (by decide), hboot]
  · rw [hm.fw_kept (by decide), hcause]
  · exact (State.flag_eq_of_fld (hflds _ (by decide))).trans hmain
  · rw [hflds _ (by decide), hd.flags _ (by decide), hb.rails]
  · rw [hflds _ (by decide), hrst]
  · rw [hm.fw_kept (by decide), hslots, hb.fw]

theorem newestSeq_singleton (r : LogRec) : newestSeq [r] = r.seq := rfl

theorem execKeepPowerUp_spec (mainOk : Bool) :
    ∃ t, exec (.keepPowerUp mainOk) s = .next t ∧ t.gt = 0 ∧ t.qual = 0 ∧ t.mainOk = mainOk ∧ t.pwr.keepOff = false ∧
      t.dev = (if mainOk then .standby else .dormant) ∧ t.fld Reg.CLK_PWRSTAT F.CLK_PWRSTAT_RSTCAUSE = 1 ∧ t.keepSrc = (if mainOk then 0 else 1) ∧
      t.fw.booting = true ∧ t.log.mram = s.log.mram ∧ t.log.queue = [] ∧ t.fw.slots = s.fw.slots ∧ t.fw.commits = s.fw.commits ∧
      t.mbx.keys = s.mbx.keys ∧ t.pan = {} ∧ t.pwm = {} ∧ t.safe = {} ∧ t.ket = {} ∧
      ((∀ e, e ∈ s.log.mram → e.2.ok = false) → t.log.nextSeq = 1) ∧
      (∀ e, s.log.mram = [e] → e.2.ok = true → t.log.nextSeq = seqNext e.2.seq) := by
  let s1 := (s.keepLost.pwrMod (fun _ => {})).mramScan
  let s2 := s1.setFld Reg.CLK_PWRSTAT F.CLK_PWRSTAT_MAINOK (bit mainOk)
  let s3 := s2.setFld Reg.CLK_PWRSTAT F.CLK_PWRSTAT_KEEPSRC (if mainOk then 0 else 1)
  have hexec : exec (.keepPowerUp mainOk) s = .next (s3.deviceReset 1) := rfl
  have hregs1 : s1.regs = [] := List.filter_eq_nil_iff.mpr fun _ _ => Bool.false_ne_true
  have hok1 : s1.regsOk = true := by
    rw [State.regsOk, hregs1]
    rfl
  have w2 : s1.Writes (· = Reg.CLK_PWRSTAT) s2 := (State.Writes.refl hok1).setFld _ _ rfl
  have w3 : s2.Writes (· = Reg.CLK_PWRSTAT) s3 := (State.Writes.refl w2.ok).setFld _ _ rfl
  have hqual3 : s3.qual = 0 := by
    have h1 : s1.reg Reg.GT_STAT = regReset Reg.GT_STAT := by
      rw [State.reg, hregs1]
      rfl
    have h3 : s3.qual = s1.qual := (w3.fld _ (by decide)).trans (w2.fld _ (by decide))
    rw [h3, State.qual, State.fld, State.regN, h1]
    decide
  have hmain3 : s3.mainOk = mainOk := by
    refine (State.flag_setFld_other w2.ok _ _ _ _ (by decide) (by decide)).trans ((State.flag_setFld hok1 _ _ _ (by decide)).trans ?_)
    cases mainOk <;> rfl
  have hsrc3 : s3.keepSrc = if mainOk then 0 else 1 := by
    refine (State.fld_setFld _ _ _ w2.ok (by decide)).trans ?_
    cases mainOk <;> rfl
  have hpow3 : s3.powered = false := rfl
  have hdev3 : s3.dev = .dormant := rfl
  have hlog3 : s3.log.mram = s.log.mram ∧ s3.log.queue = [] ∧
      s3.log.nextSeq = if (s.log.mram.filter (fun e => e.2.ok)).isEmpty then 1 else seqNext (newestSeq ((s.log.mram.filter (fun e => e.2.ok)).map (fun e => e.2))) :=
    ⟨rfl, rfl, rfl⟩
  have hparts3 : s3.gt = 0 ∧ s3.pwr = {} ∧ s3.fw.slots = s.fw.slots ∧ s3.fw.commits = s.fw.commits ∧ s3.mbx.keys = s.mbx.keys ∧ s3.tim.xtLostHeld = false :=
    ⟨rfl, rfl, rfl, rfl, rfl, rfl⟩
  have hok3 := w3.ok
  clear_value s3
  have hd := State.deviceReset_spec hok3 (by decide : 1 < 8)
  obtain ⟨hgt3, hpwr3, hslots3, hcommits3, hkeys3, hxt3⟩ := hparts3
  obtain ⟨hmram3, hqueue3, hnext3⟩ := hlog3
  obtain ⟨hqueue, hqual⟩ := hd.still hpow3 hxt3
  obtain ⟨hboot, -, -, hrst, hgt, -, -, hmram, hnext, hslots, hcommits, -, -, hkeys, -, -, hpan, -, hpwm, -, hsafe, hket, -⟩ := hd.was
  refine ⟨_, hexec, hgt.trans hgt3, ?_, ?_, ?_, ?_, hrst, (hd.flags _ (by decide)).trans hsrc3, hboot, hmram.trans hmram3, hqueue.trans hqueue3,
    hslots.trans hslots3, hcommits.trans hcommits3, hkeys.trans hkeys3, hpan, hpwm, hsafe, hket, fun hbad => ?_, fun e he hok => ?_⟩
  · rw [hqual, hqual3]
    rfl
  · exact (State.flag_eq_of_fld (hd.flags _ (by decide))).trans hmain3
  · rw [hd.pwr, hpwr3]
  · rw [hd.dev, hmain3, hpow3, hdev3]
    rfl
  · rw [hnext, hnext3, List.filter_eq_nil_iff.mpr fun e he => by simp [hbad e he]]
    rfl
  · rw [hnext, hnext3, he, List.filter_cons_of_pos (by simpa using hok)]
    rfl

/-! ## Boundary scan and foldback -/

theorem execJtagInstruction_spec (ins : JtagIns) (porstLow : Bool) :
    ∃ t, exec (.jtagInstruction ins porstLow) s = .next t ∧ s.keeps t [.pin] ∧ t.pin.folded = s.pin.folded ∧ t.pin.testEn = s.pin.testEn ∧
      (ins = .drive → porstLow = false → t.pin.jtag = .bypass) ∧ (ins ≠ .drive ∨ porstLow = true → t.pin.jtag = ins) := by
  refine ⟨_, rfl, by simp [State.keeps], rfl, rfl, fun hi hl => if_pos (by simp [hi, hl]), fun h => if_neg ?_⟩
  rcases h with h | h <;> simp [h]

theorem execOutputFoldback_spec (p : OutPin) (hp : s.hasPin p = true) :
    ∃ t, exec (.outputFoldback p) s = .next t ∧ s.keeps t [.pin] ∧ t.isFolded p = true ∧ (∀ o, o ≠ p → t.isFolded o = s.isFolded o) ∧
      ∀ u : State, u.pin = t.pin → u.levelMark p ≠ t.levelMark p → u.isFolded p = false := by
  let t : State := { s with pin := { s.pin with folded := s.pin.folded.filter (fun e => e.1 ≠ p) ++ [(p, s.levelMark p)] } }
  have hexec : exec (.outputFoldback p) s = .next t := congrArg Host.Outcome.next (if_neg (by simp [hp]))
  have hmark : ∀ o, t.levelMark o = s.levelMark o := fun o => by cases o <;> rfl
  refine ⟨t, hexec, by simp [State.keeps, t], ?_, fun o ho => ?_, fun u hu hne => ?_⟩
  · refine List.any_eq_true.mpr ⟨(p, s.levelMark p), List.mem_append_right _ List.mem_cons_self, ?_⟩
    rw [hmark]
    simp
  · simp only [State.isFolded, hmark]
    rw [Bool.eq_iff_iff, List.any_eq_true, List.any_eq_true]
    constructor
    · rintro ⟨e, he, hm⟩
      simp only [Bool.and_eq_true, decide_eq_true_eq] at hm
      rcases List.mem_append.mp he with he | he
      · exact ⟨e, (List.mem_filter.mp he).1, by simp [hm]⟩
      · exact absurd (hm.1.symm.trans (by rw [List.mem_singleton.mp he])) ho
    · rintro ⟨e, he, hm⟩
      have hm' := hm
      simp only [Bool.and_eq_true, decide_eq_true_eq] at hm'
      exact ⟨e, List.mem_append_left _ (List.mem_filter.mpr ⟨he, by simp [hm'.1, ho]⟩), hm⟩
  · rw [State.isFolded, hu, List.any_eq_false]
    intro e he hm
    simp only [Bool.and_eq_true, decide_eq_true_eq] at hm
    rcases List.mem_append.mp he with he | he
    · exact absurd hm.1 (by simpa using (List.mem_filter.mp he).2)
    · rw [List.mem_singleton.mp he] at hm
      exact hne (hm.2.symm.trans (hmark p).symm)

/-- Settles O46: each reset is `State.deviceReset` of a state whose KEEP registers are followed step by step. -/
theorem resetsAndPins : Obligations.ResetsAndPins :=
  ⟨⟨fun _ => execPorstNReset_spec, fun _ => execTestEnHigh_spec, fun _ rails latched hs => execBrownOut_spec hs rails latched,
    fun _ mainOk _ => execKeepPowerUp_spec mainOk⟩, fun _ ins porstLow => execJtagInstruction_spec ins porstLow, fun _ p => execOutputFoldback_spec p⟩

end Sys2Proof.Machine
end

section
/-!
PROOFS. Expert sessions: the challenge, the signature, the end of a session, and the keys (R440 to R445): O56.
-/
namespace Sys2Proof.Machine

variable {s t u : State} {tag : Fin 64} {c : MCmd} {opc : Nat}

/-! ## What the end of a command leaves -/

/-- What the end of a command leaves of the state in which it ends. -/
structure State.Finished (s t : State) (tag : Nat) (q : Fin 4) : Prop where
  keeps : s.keeps t [.regs, .mbx, .out]
  writes : s.Writes (cqRegs q) t
  mbx : ∃ p, t.mbx = { s.mbx with cmds := s.mbx.cmds.drop tag, phases := p }

theorem State.Ready.finished {n : Nat} (h : s.Ready n c) (status : Nat) (result : Word) (dlen cidx : Nat) (v0 v1 : Word) :
    s.Finished (s.finish n status result dlen cidx v0 v1) n c.q := by
  have hw := (h.finish_eq status result dlen cidx v0 v1).2
  obtain ⟨p, hp, -⟩ := hw.mbx
  exact ⟨(h.finish_justEnds status result dlen cidx v0 v1).1, ⟨hw.writes.ok, hw.writes.same⟩, p, hp⟩

/-- A change of the session alone, of what it asks and of what has failed. -/
theorem State.Ready.session {n : Nat} (h : s.Ready n c) (hregs : t.regs = s.regs) (hcmds : t.mbx.cmds = s.mbx.cmds) (hwait : t.mbx.wait = s.mbx.wait)
    (hph : t.mbx.phases = s.mbx.phases) : t.Ready n c := by
  refine ⟨(State.regsOk_of_regs hregs).trans h.ok, h.small, hcmds ▸ h.find, hcmds ▸ h.wf, h.live, ?_, hwait ▸ h.wait, ⟨hwait ▸ h.rows.1, hph ▸ h.rows.2⟩, ?_⟩
  · exact (congrArg (· == 4) (State.fld_of_reg (State.reg_of_regs hregs _) _)).trans h.up
  · rw [← h.room, State.cqFull, State.cqFull, State.fld_of_reg (State.reg_of_regs hregs _), State.fld_of_reg (State.reg_of_regs hregs _)]

theorem not_cqRegs {q : Fin 4} {a : Nat} (h : a < 0x100 ∨ 0x148 ≤ a) (h' : a < 0x8000 ∨ 0xA000 ≤ a) : ¬ cqRegs q a := by
  have hq := q.isLt
  unfold cqRegs cqBase Reg.MBX_CQTAIL Reg.MBX_OUTST_LO Reg.MBX_OUTST_HI
  omega

/-- The registers away from the rings and from the state of the pair. -/
def awayRegs (a : Nat) : Prop := (a < 0x100 ∨ 0x148 ≤ a) ∧ (a < 0x8000 ∨ 0xA000 ≤ a) ∧ a ≠ Reg.SUP_STAT

theorem awayRegs_ring {a : Nat} (h : ringRegs a) : ¬ awayRegs a := by
  rintro ⟨h1, h2, h3⟩
  rcases h with h | ⟨q, h | h⟩
  · exact h3 h
  · rw [h, Reg.MBX_CQTAIL] at h1
    have := q.isLt
    omega
  · rw [h, Reg.MBX_CQHEAD] at h1
    have := q.isLt
    omega

theorem awayRegs_cq {q : Fin 4} {a : Nat} (h : awayRegs a) : ¬ cqRegs q a := not_cqRegs h.1 h.2.1

/-- A command goes on to its end while registers away from the rings are written. -/
theorem State.Ready.away {n : Nat} (h : s.Ready n c) {m : Nat → Prop} (hw : s.Writes m t) (hm : ∀ a, m a → awayRegs a) (hk : s.MailKept t) : t.Ready n c :=
  h.moved hw (fun a ha hma => awayRegs_ring ha (hm a hma)) hk

theorem State.Finished.flag {n : Nat} {q : Fin 4} (h : s.Finished t n q) {a : Nat} (f : Fld) (ha : awayRegs a) : t.flag a f = s.flag a f :=
  h.writes.flag f (awayRegs_cq ha)

/-! ## The registers of a session -/

/-- The registers of a session, and the log's. -/
def sesRegs (a : Nat) : Prop := a ∈ Reg.MBX_EXPSESS :: Reg.MBX_EXPLEFT :: Reg.MBX_STAT :: Reg.MBX_AUTHFAIL :: Stk.EXP_AUTH_FAIL.reg :: logRegs

theorem sesRegs_log : ∀ a ∈ logRegs, sesRegs a := by unfold sesRegs; decide

theorem sesRegs_away {a : Nat} (h : sesRegs a) : awayRegs a := by
  have hall : ∀ a ∈ Reg.MBX_EXPSESS :: Reg.MBX_EXPLEFT :: Reg.MBX_STAT :: Reg.MBX_AUTHFAIL :: Stk.EXP_AUTH_FAIL.reg :: logRegs,
      (a < 0x100 ∨ 0x148 ≤ a) ∧ (a < 0x8000 ∨ 0xA000 ≤ a) ∧ a ≠ Reg.SUP_STAT := by decide
  exact hall a h

theorem State.grants_closed (h : s.flag Reg.MBX_EXPSESS F.MBX_EXPSESS_OPEN = false) (b : Nat) (w : Bool) : s.grants b w = false := by
  simp [State.grants, h]

/-- What the end of a session leaves: no session, and nothing else of the mailbox has changed. -/
structure State.Closed (s t : State) : Prop where
  writes : s.Writes sesRegs t
  closed : t.flag Reg.MBX_EXPSESS F.MBX_EXPSESS_OPEN = false
  mbx : ∃ i e b, t.mbx = { s.mbx with sesId := i, sesEnd := e, evPend := b }

theorem State.closeSession_spec (hs : s.regsOk = true) (code : Nat) : s.Closed (s.closeSession code) := by
  unfold State.closeSession
  split
  · next hopen =>
    extract_lets +onlyGivenNames t
    have hw : s.Writes sesRegs t := (State.Writes.refl hs).logRec _ _ _ _ sesRegs_log
    obtain ⟨b, hb⟩ := (State.Events.refl s).logRec (typ := 0x13) (code := code) (ws := [s.reg Reg.MBX_EXPSESS, s.mbx.sesId]) (pin := false) |>.mbx
    have hb : t.mbx = { s.mbx with evPend := b } := hb
    clear_value t
    let t1 : State := { t with mbx := { t.mbx with sesId := 0#32, sesEnd := 0 } }
    have hw1 : s.Writes sesRegs t1 := hw.of_regs rfl
    let t2 := t1.setReg Reg.MBX_EXPSESS 0#32
    have hw2 : s.Writes sesRegs t2 := hw1.setReg _ (by unfold sesRegs; decide)
    have h2 : t2.flag Reg.MBX_EXPSESS F.MBX_EXPSESS_OPEN = false := by
      rw [State.flag, State.fld, State.regN, State.reg_setReg _ _ hw1.ok]
      rfl
    let t3 := t2.setReg Reg.MBX_EXPLEFT 0#32
    have hw3 : t2.Writes (· ∈ [Reg.MBX_EXPLEFT, Reg.MBX_STAT]) (t3.setFld Reg.MBX_STAT F.MBX_STAT_SESSION 0) :=
      ((State.Writes.refl hw2.ok).setReg _ (by decide)).setFld _ _ (by decide)
    refine ⟨hw2.trans (hw3.mono fun a ha => ?_), (hw3.flag _ (by decide)).trans h2, 0#32, 0, b, ?_⟩
    · rcases List.mem_cons.mp ha with rfl | ha
      · unfold sesRegs
        decide
      · rw [List.mem_singleton.mp ha]
        unfold sesRegs
        decide
    · show { t.mbx with sesId := 0#32, sesEnd := 0 } = _
      rw [hb]
  · next hopen => exact ⟨.refl hs, by simpa using hopen, s.mbx.sesId, s.mbx.sesEnd, s.mbx.evPend, rfl⟩

theorem State.Closed.ready {n : Nat} (h : s.Closed t) (hr : s.Ready n c) : t.Ready n c := by
  obtain ⟨i, e, b, hmbx⟩ := h.mbx
  have hk : ({ s with mbx := t.mbx } : State).MailKept t := .of_eq rfl
  have hr' : ({ s with mbx := t.mbx } : State).Ready n c := hr.session rfl (by rw [hmbx]) (by rw [hmbx]) (by rw [hmbx])
  exact hr'.away (m := sesRegs) ⟨h.writes.ok, h.writes.same⟩ (fun _ => sesRegs_away) hk

/-! ## EXP_OPEN -/

theorem State.length_challengeBytes (s : State) : s.challengeBytes.length = 32 := by
  unfold State.challengeBytes
  rw [length_flatMap_const _ _ fun i _ => length_leBytes 8 _, List.length_range]

theorem execExpOpen_spec (h : s.runs tag 0x901 c) (h1 : 1 ≤ c.seconds) (h2 : c.seconds ≤ 3600) (hlen : 32 ≤ c.len) :
    (s.mbx.lockUntil ≤ s.gt → s.flag Reg.MBX_EXPSESS F.MBX_EXPSESS_OPEN = false → s.grantUnsafe c = false →
        ∃ t, exec (.expOpen tag) s = .next t ∧ s.keeps t [.regs, .mbx, .out, .freeN] ∧ t.completed (c.comp tag stOk (dlen := 32)) ∧
          s.gave t c s.challengeBytes ∧ s.challengeBytes.length = 32 ∧ t.freeN = s.freeN + 4 ∧ t.flag Reg.MBX_EXPSESS F.MBX_EXPSESS_OPEN = false ∧
          t.mbx.chal = some { at_ := s.gt, p0 := c.p.getD 0 0#32, p1 := c.p.getD 1 0#32, p2 := c.p.getD 2 0#32, bytes := s.challengeBytes }) ∧
      (s.gt < s.mbx.lockUntil → ∃ t, exec (.expOpen tag) s = .next t ∧ t.completed (c.comp tag stAuth) ∧ s.justEnds t tag c) ∧
      (s.mbx.lockUntil ≤ s.gt → s.flag Reg.MBX_EXPSESS F.MBX_EXPSESS_OPEN = true →
        ∃ t, exec (.expOpen tag) s = .next t ∧ t.completed (c.comp tag stBusy) ∧ s.justEnds t tag c) ∧
      (s.mbx.lockUntil ≤ s.gt → s.flag Reg.MBX_EXPSESS F.MBX_EXPSESS_OPEN = false → s.grantUnsafe c = true →
        ∃ t, exec (.expOpen tag) s = .next t ∧ t.completed (c.comp tag stSafety 8#32) ∧ s.justEnds t tag c) := by
  let b := s.begun tag c
  let bs := s.challengeBytes
  let ch : Challenge := { at_ := s.gt, p0 := c.p.getD 0 0#32, p1 := c.p.getD 1 0#32, p2 := c.p.getD 2 0#32, bytes := bs }
  let u : State := { b with freeN := s.freeN + 4, mbx := { b.mbx with chal := some ch } }
  have hexec : exec (.expOpen tag) s = .next (if s.gt < s.mbx.lockUntil then b.finish tag stAuth
      else if s.flag Reg.MBX_EXPSESS F.MBX_EXPSESS_OPEN then b.finish tag stBusy
      else if s.grantUnsafe c then b.finish tag stSafety 8#32 else u.finishData tag c bs) :=
    congrArg Host.Outcome.next ((State.command_runs h).trans ((if_neg (by simp; omega)).trans (if_neg (by omega))))
  have hends := h.ends tag.isLt
  refine ⟨fun hlock hopen hsafe => ?_, fun hlock => ?_, fun hlock hopen => ?_, fun hlock hopen hsafe => ?_⟩
  · rw [if_neg (by omega), if_neg (by simp [hopen]), if_neg (by simp [hsafe])] at hexec
    have hready : u.Ready tag { c with started := true } := (h.ready tag.isLt).session rfl rfl rfl rfl
    have hbs : bs.length = 32 := s.length_challengeBytes
    obtain ⟨hcomp, hends, hgave⟩ := hready.finishData (c := c) (State.onlyDid_refl u tag) h.buf rfl (hbs.trans_le hlen) 0 0#32
    rw [hbs] at hcomp
    have hkeep : s.keeps u [.mbx, .freeN] := by simp [State.keeps, u, b, State.begun]
    have hreg : (u.finishData tag c bs).flag Reg.MBX_EXPSESS F.MBX_EXPSESS_OPEN = u.flag Reg.MBX_EXPSESS F.MBX_EXPSESS_OPEN :=
      State.flag_of_reg (hends.reg id (not_cqRegs (by decide) (by decide))) _
    obtain ⟨hk, -, -, -, -, -, hchal⟩ := hends
    refine ⟨_, hexec, State.keeps_trans (State.keeps_mono hkeep (by decide)) (State.keeps_mono hk (by decide)), hcomp, ?_, hbs, ?_, hreg.trans hopen, hchal⟩
    · exact hgave (List.ne_nil_of_length_pos (by rw [hbs]; decide))
    · obtain ⟨-, -, -, -, -, -, -, -, -, -, -, -, -, -, -, -, -, -, -, -, -, -, -, -, hfree, -⟩ := hk
      exact hfree.resolve_left (by decide)
  · rw [if_pos hlock] at hexec
    exact ⟨_, hexec, hends stAuth 0#32 0 0 0#32 0#32⟩
  · rw [if_neg (by omega), if_pos hopen] at hexec
    exact ⟨_, hexec, hends stBusy 0#32 0 0 0#32 0#32⟩
  · rw [if_neg (by omega), if_neg (by simp [hopen]), if_pos hsafe] at hexec
    exact ⟨_, hexec, hends stSafety 8#32 0 0 0#32 0#32⟩

/-! ## EXP_AUTH -/

/-- The word that EXP_AUTH shows of a session (R442). -/
def MCmd.sesWord (c : MCmd) : Word := w32 (c.grant + 2 ^ 16 * bit c.asksWrite + 2 ^ 20 * (c.pw 2 % 4) + 2 ^ 31)

theorem MCmd.sesWord_spec (c : MCmd) : c.sesWord.toNat / 2 ^ 31 % 2 = 1 ∧ c.sesWord.toNat / 2 ^ 16 % 2 = bit c.asksWrite ∧
    ∀ b, b < 16 → c.sesWord.getLsbD b = c.grant.testBit b := by
  have hg : c.grant < 2 ^ 16 := Nat.mod_lt _ (by decide)
  have hb : bit c.asksWrite < 2 := by cases c.asksWrite <;> decide
  let k := c.pw 2 % 4
  have hk : k < 4 := Nat.mod_lt _ (by decide)
  have hval : c.sesWord.toNat = 2 ^ 16 * (bit c.asksWrite + 2 ^ 4 * k + 2 ^ 15) + c.grant := by
    show (w32 (c.grant + 2 ^ 16 * bit c.asksWrite + 2 ^ 20 * k + 2 ^ 31)).toNat = _
    rw [w32, BitVec.toNat_ofNat]
    omega
  refine ⟨by omega, by omega, fun b hb16 => ?_⟩
  rw [← BitVec.testBit_toNat, hval, Nat.testBit_two_pow_mul_add _ hg, if_pos hb16]

/-- The registers of a session that opens. -/
theorem State.showSession_spec (hs : s.regsOk = true) (w : Word) :
    s.Writes sesRegs ((s.freeStep.setReg Reg.MBX_EXPSESS w).setFld Reg.MBX_STAT F.MBX_STAT_SESSION 1) ∧
      ((s.freeStep.setReg Reg.MBX_EXPSESS w).setFld Reg.MBX_STAT F.MBX_STAT_SESSION 1).reg Reg.MBX_EXPSESS = w ∧
      ((s.freeStep.setReg Reg.MBX_EXPSESS w).setFld Reg.MBX_STAT F.MBX_STAT_SESSION 1).mbx = s.mbx := by
  have hw1 : s.Writes sesRegs (s.freeStep.setReg Reg.MBX_EXPSESS w) :=
    ((State.Writes.refl hs).of_regs (u := s.freeStep) rfl).setReg _ (by unfold sesRegs; decide)
  have hreg1 : (s.freeStep.setReg Reg.MBX_EXPSESS w).reg Reg.MBX_EXPSESS = w := State.reg_setReg _ _ hs
  exact ⟨hw1.setFld _ _ (by unfold sesRegs; decide), (State.reg_setFld_ne _ _ hw1.ok (by decide)).trans hreg1, rfl⟩

/-- The session itself, and its record. -/
theorem State.sessionRec_spec (hs : s.regsOk = true) (i : Word) (e : Nat) (ws : List Word) (v : State)
    (hv : v = { s with mbx := { s.mbx with sesId := i, sesEnd := e, authRow := 0 } }) :
    s.Writes (· ∈ logRegs) (v.logRec 0x13 1 ws) ∧ ∃ b, (v.logRec 0x13 1 ws).mbx = { s.mbx with sesId := i, sesEnd := e, authRow := 0, evPend := b } := by
  have hw : s.Writes (· ∈ logRegs) v := (State.Writes.refl hs).of_regs (by rw [hv])
  have hmbx : v.mbx = { s.mbx with sesId := i, sesEnd := e, authRow := 0 } := by rw [hv]
  obtain ⟨b, hb⟩ := (State.Events.refl v).logRec (typ := 0x13) (code := 1) (ws := ws) (pin := false) |>.mbx
  exact ⟨hw.logRec _ _ _ _ fun _ => id, b, hb.trans (congrArg (fun m : MbxState => { m with evPend := b }) hmbx)⟩

theorem State.sessionOpen_spec (hs : s.regsOk = true) (c : MCmd) :
    s.Writes sesRegs (s.sessionOpen c) ∧ (∃ i b, i ≠ 0#32 ∧ (s.sessionOpen c).mbx =
      { s.mbx with sesId := i, sesEnd := s.gt + c.seconds * 500000000, authRow := 0, evPend := b }) ∧
      (s.sessionOpen c).reg Reg.MBX_EXPSESS = c.sesWord := by
  unfold State.sessionOpen
  extract_lets +onlyGivenNames f id_ w t
  have hid : id_ ≠ 0#32 := by
    dsimp only [id_]
    split
    · decide
    · assumption
  obtain ⟨hwt, hregt, hmbx⟩ : s.Writes sesRegs t ∧ t.reg Reg.MBX_EXPSESS = w ∧ t.mbx = s.mbx := State.showSession_spec hs w
  have hw : w = c.sesWord := rfl
  clear_value t id_ w
  obtain ⟨hwv, b, hb⟩ := State.sessionRec_spec hwt.ok id_ (s.gt + c.seconds * tickSec) [w, id_] _ rfl
  exact ⟨hwt.trans (hwv.mono sesRegs_log), ⟨id_, b, hid, by rw [hb, hmbx]; rfl⟩, (hwv.reg (by decide)).trans (hregt.trans hw)⟩

theorem State.grants_opened (h : s.reg Reg.MBX_EXPSESS = c.sesWord) {b : Nat} (hb : b < 16) :
    s.grants b false = c.grant.testBit b ∧ s.grants b true = (c.grant.testBit b && c.asksWrite) := by
  obtain ⟨hopen, hwrite, hbit⟩ := c.sesWord_spec
  have h1 : s.flag Reg.MBX_EXPSESS F.MBX_EXPSESS_OPEN = true := by
    rw [State.flag, State.fld, State.regN, h]
    exact beq_iff_eq.mpr hopen
  have h2 : s.flag Reg.MBX_EXPSESS F.MBX_EXPSESS_WRITE = c.asksWrite := by
    rw [State.flag, State.fld, State.regN, h]
    show (c.sesWord.toNat / 2 ^ 16 % 2 == 1) = _
    rw [hwrite]
    cases c.asksWrite <;> rfl
  simp [State.grants, h1, h2, h, hbit b hb]

theorem State.authFail_spec (hs : s.regsOk = true) :
    s.Writes sesRegs s.authFail ∧ (∃ b, s.authFail.mbx =
      { s.mbx with authRow := s.mbx.authRow + 1, lockUntil := if s.mbx.authRow = 2 then s.gt + 30000000000 else s.mbx.lockUntil, evPend := b }) ∧
      s.authFail.stuck Stk.EXP_AUTH_FAIL = true ∧ s.authFail.regN Reg.MBX_AUTHFAIL = min (s.regN Reg.MBX_AUTHFAIL + 1) (2 ^ 32 - 1) := by
  let t := (s.bump Reg.MBX_AUTHFAIL).stick Stk.EXP_AUTH_FAIL
  have hb : s.Writes sesRegs (s.bump Reg.MBX_AUTHFAIL) := (State.Writes.refl hs).bump (by unfold sesRegs; decide)
  have hst : (s.bump Reg.MBX_AUTHFAIL).Writes (· ∈ stickRegs Stk.EXP_AUTH_FAIL) t := (State.Writes.refl hb.ok).stick _ fun _ => id
  have hstuck : t.stuck Stk.EXP_AUTH_FAIL = true := State.stick_stuck _ hb.ok (by decide) (by decide)
  have hcount : t.regN Reg.MBX_AUTHFAIL = min (s.regN Reg.MBX_AUTHFAIL + 1) (2 ^ 32 - 1) :=
    (hst.regN (by decide)).trans (State.regN_bump hs _)
  have hwt : s.Writes sesRegs t := hb.trans (hst.mono (by unfold sesRegs; decide))
  obtain ⟨b, hmbx⟩ := (State.Events.refl s).bump (a := Reg.MBX_AUTHFAIL) |>.stick (k := Stk.EXP_AUTH_FAIL) |>.mbx
  let l := if s.mbx.authRow + 1 = 3 then s.gt + 60 * tickSec else s.mbx.lockUntil
  have hl : l = if s.mbx.authRow = 2 then s.gt + 30000000000 else s.mbx.lockUntil := by simp [l, tickSec]
  have heq : s.authFail = { t with mbx := { t.mbx with authRow := s.mbx.authRow + 1, lockUntil := l } } := rfl
  have hmbx : t.mbx = { s.mbx with evPend := b } := hmbx
  rw [heq, ← hl]
  clear_value t l
  exact ⟨hwt.of_regs rfl, ⟨b, congrArg (fun m : MbxState => { m with authRow := s.mbx.authRow + 1, lockUntil := l }) hmbx⟩, hstuck, hcount⟩

theorem execExpAuth_spec (dma : List Byte) (h : s.runs tag 0x902 c) (hlen : c.len = 96) :
    (s.authOk c (s.dataIn c dma) = true → s.grantUnsafe c = false →
        ∃ t, exec (.expAuth tag dma) s = .next t ∧ s.keeps t ([.mbx, .freeN] ++ logParts) ∧ t.completed (c.comp tag stOk (v0 := t.mbx.sesId)) ∧
          t.mbx.chal = none ∧ t.mbx.authRow = 0 ∧ t.mbx.sesId ≠ 0#32 ∧ t.mbx.sesEnd = s.gt + c.seconds * 500000000 ∧
          ∀ b, b < 16 → t.grants b false = c.grant.testBit b ∧ t.grants b true = (c.grant.testBit b && c.asksWrite)) ∧
      (s.authOk c (s.dataIn c dma) = false →
        ∃ t, exec (.expAuth tag dma) s = .next t ∧ s.keeps t (.mbx :: logParts) ∧ t.completed (c.comp tag stAuth) ∧ t.mbx.chal = none ∧
          t.stuck Stk.EXP_AUTH_FAIL = true ∧ t.mbx.authRow = s.mbx.authRow + 1 ∧ t.mbx.sesId = s.mbx.sesId ∧
          t.regN Reg.MBX_AUTHFAIL = min (s.regN Reg.MBX_AUTHFAIL + 1) (2 ^ 32 - 1) ∧
          t.mbx.lockUntil = (if s.mbx.authRow = 2 then s.gt + 30000000000 else s.mbx.lockUntil)) := by
  let b := s.begun tag c
  let u : State := { b with mbx := { b.mbx with chal := none } }
  have hexec : exec (.expAuth tag dma) s = .next (if !s.authOk c (s.dataIn c dma) then u.authFail.finish tag stAuth
      else if s.grantUnsafe c then u.refuse tag stSafety 8
      else (u.sessionOpen c).finish tag stOk (v0 := (u.sessionOpen c).mbx.sesId)) :=
    congrArg Host.Outcome.next ((State.command_runs h).trans (if_neg (by simp [hlen])))
  have hkeep : s.Moves [] [.mbx] u := .set_mbx (.set_mbx (.refl s) id (by decide)) id (by decide)
  have huok : u.regsOk = true := h.regsOk
  have hready : u.Ready tag { c with started := true } := (h.ready tag.isLt).session rfl rfl rfl rfl
  refine ⟨fun hauth hsafe => ?_, fun hauth => ?_⟩
  · rw [if_neg (by simp [hauth]), if_neg (by simp [hsafe])] at hexec
    obtain ⟨hw, ⟨i, e, hi, hmbx⟩, hword⟩ := State.sessionOpen_spec huok c
    have hm : u.Moves [] (.freeN :: logParts) (u.sessionOpen c) := .sessionOpen (.refl u) (by decide)
    generalize u.sessionOpen c = v at *
    have hv : v.Ready tag { c with started := true } :=
      State.Ready.away (s := { u with mbx := v.mbx }) (hready.session rfl (by rw [hmbx]) (by rw [hmbx]) (by rw [hmbx])) ⟨hw.ok, hw.same⟩
        (fun _ => sesRegs_away) (.of_eq rfl)
    have hfin := hv.finished stOk 0#32 0 0 v.mbx.sesId 0#32
    have hcomp := hv.finish_completed stOk 0#32 0 0 v.mbx.sesId 0#32
    obtain ⟨p, hp⟩ := hfin.mbx
    have hid : (v.finish tag stOk (v0 := v.mbx.sesId)).mbx.sesId = v.mbx.sesId := by rw [hp]
    have hreg : (v.finish tag stOk (v0 := v.mbx.sesId)).reg Reg.MBX_EXPSESS = c.sesWord :=
      (hfin.writes.reg (not_cqRegs (by decide) (by decide))).trans hword
    refine ⟨_, hexec, State.keeps_trans (State.keeps_mono hkeep.keeps (by decide)) (State.keeps_trans (State.keeps_mono hm.keeps (by decide))
      (State.keeps_mono hfin.keeps (by decide))), ?_, ?_, ?_, ?_, ?_, fun b hb => State.grants_opened hreg hb⟩
    · rw [hid]
      exact hcomp
    · rw [hp, hmbx]
    · rw [hp, hmbx]
    · rw [hid, hmbx]
      exact hi
    · rw [hp, hmbx]
      rfl
  · rw [if_pos (by simp [hauth])] at hexec
    obtain ⟨hw, ⟨e, hmbx⟩, hstuck, hcount⟩ := State.authFail_spec huok
    have hm : u.Moves [] logParts u.authFail := .authFail (.refl u) (by decide)
    generalize u.authFail = v at *
    have hv : v.Ready tag { c with started := true } :=
      State.Ready.away (s := { u with mbx := v.mbx }) (hready.session rfl (by rw [hmbx]) (by rw [hmbx]) (by rw [hmbx])) ⟨hw.ok, hw.same⟩
        (fun _ => sesRegs_away) (.of_eq rfl)
    have hfin := hv.finished stAuth 0#32 0 0 0#32 0#32
    obtain ⟨p, hp⟩ := hfin.mbx
    refine ⟨_, hexec, State.keeps_trans (State.keeps_mono hkeep.keeps (by decide)) (State.keeps_trans (State.keeps_mono hm.keeps (by decide))
      (State.keeps_mono hfin.keeps (by decide))), hv.finish_completed stAuth 0#32 0 0 0#32 0#32, ?_,
      (hfin.writes.stuck (not_cqRegs (by decide) (by decide))).trans hstuck, ?_, ?_, (hfin.writes.regN (not_cqRegs (by decide) (by decide))).trans hcount, ?_⟩
    all_goals rw [hp, hmbx]
    all_goals rfl

/-! ## EXP_CLOSE and EXP_KEYPROG -/

theorem execExpClose_spec (h : s.runs tag 0x903 c) :
    (s.flag Reg.MBX_EXPSESS F.MBX_EXPSESS_OPEN = true → s.mbx.sesId = c.session →
        ∃ t, exec (.expClose tag) s = .next t ∧ s.keeps t (.mbx :: logParts) ∧ t.completed (c.comp tag stOk) ∧
          t.flag Reg.MBX_EXPSESS F.MBX_EXPSESS_OPEN = false ∧ ∀ b, t.grants b true = false ∧ t.grants b false = false) ∧
      (s.flag Reg.MBX_EXPSESS F.MBX_EXPSESS_OPEN = false ∨ s.mbx.sesId ≠ c.session →
        ∃ t, exec (.expClose tag) s = .next t ∧ t.completed (c.comp tag stAuth) ∧ s.justEnds t tag c) := by
  let b := s.begun tag c
  have hexec : exec (.expClose tag) s = .next (if s.flag Reg.MBX_EXPSESS F.MBX_EXPSESS_OPEN && s.mbx.sesId == c.session
      then (b.closeSession 2).finish tag stOk else b.finish tag stAuth) := congrArg Host.Outcome.next (State.command_runs h)
  refine ⟨fun hopen hid => ?_, fun hno => ?_⟩
  · rw [if_pos (by simp [hopen, hid])] at hexec
    have hcl : b.Closed (b.closeSession 2) := State.closeSession_spec (s := b) h.regsOk 2
    have hm : b.Moves [] logParts (b.closeSession 2) := .closeSession (.refl b) (by decide)
    have hready := hcl.ready (h.ready tag.isLt)
    have hfin := hready.finished stOk 0#32 0 0 0#32 0#32
    have hclosed := (hfin.writes.flag F.MBX_EXPSESS_OPEN (not_cqRegs (by decide) (by decide))).trans hcl.closed
    exact ⟨_, hexec, State.keeps_trans (State.keeps_mono (State.onlyDid_begun s tag c).keeps (by decide)) (State.keeps_trans (State.keeps_mono hm.keeps (by decide))
      (State.keeps_mono hfin.keeps (by decide))), hready.finish_completed stOk 0#32 0 0 0#32 0#32, hclosed,
      fun b => ⟨State.grants_closed hclosed b true, State.grants_closed hclosed b false⟩⟩
  · rw [if_neg (by rcases hno with hno | hno <;> simp [hno])] at hexec
    exact ⟨_, hexec, h.ends tag.isLt stAuth 0#32 0 0 0#32 0#32⟩

theorem execExpKeyprog_spec (dma : List Byte) (h : s.runs tag 0x904 c) :
    (c.pw 0 < 4 → s.mbx.keys.at (c.pw 0) = [] → c.len = 97 →
        (keyOk (s.dataIn c dma) = true →
          ∃ t, exec (.expKeyprog tag dma) s = .next t ∧ s.keeps t [.regs, .mbx, .out] ∧ t.completed (c.comp tag stOk) ∧
            t.mbx.keys.at (c.pw 0) = s.dataIn c dma ∧ (∀ k, k ≠ c.pw 0 → t.mbx.keys.at k = s.mbx.keys.at k) ∧ t.mbx.sesId = s.mbx.sesId) ∧
        (keyOk (s.dataIn c dma) = false →
          ∃ t, exec (.expKeyprog tag dma) s = .next t ∧ t.completed (c.comp tag stRange 0xFF#32) ∧ s.justEnds t tag c)) ∧
      (4 ≤ c.pw 0 ∨ s.mbx.keys.at (c.pw 0) ≠ [] →
        ∃ t, exec (.expKeyprog tag dma) s = .next t ∧ t.completed (c.comp tag stRange 8#32) ∧ s.justEnds t tag c) := by
  let b := s.begun tag c
  let k := s.dataIn c dma
  let u : State := { b with mbx := { b.mbx with keys := s.mbx.keys.mod (c.pw 0) (fun _ => k) } }
  have hexec : exec (.expKeyprog tag dma) s = .next (if 4 ≤ c.pw 0 || !(s.mbx.keys.at (c.pw 0)).isEmpty then b.refuse tag stRange 8
      else if c.len ≠ 97 then b.refuse tag stRange 6 else if !keyOk k then b.refuse tag stRange 0xFF else u.finish tag stOk) :=
    congrArg Host.Outcome.next (State.command_runs h)
  refine ⟨fun h4 hkey hlen => ?_, fun hbad => ?_⟩
  · rw [if_neg (by simp [hkey, h4]), if_neg (by simp [hlen])] at hexec
    refine ⟨fun hok => ?_, fun hok => ?_⟩
    · rw [if_neg (by simp [k, hok])] at hexec
      have hready : u.Ready tag { c with started := true } := (h.ready tag.isLt).session rfl rfl rfl rfl
      have hkeep : s.keeps u [.mbx] := by simp [State.keeps, u, b, State.begun]
      have hfin := hready.finished stOk 0#32 0 0 0#32 0#32
      obtain ⟨p, hp⟩ := hfin.mbx
      have hkeys : (u.finish tag stOk).mbx.keys = s.mbx.keys.mod (c.pw 0) (fun _ => k) := by rw [hp]
      have h4' : c.pw 0 < s.mbx.keys.length := by rw [(State.sized_of_inv h.inv).mbx.2.2]; exact h4
      refine ⟨_, hexec, State.keeps_trans (State.keeps_mono hkeep (by decide)) (State.keeps_mono hfin.keeps (by decide)),
        hready.finish_completed stOk 0#32 0 0 0#32 0#32, ?_, fun j hj => ?_, ?_⟩
      · rw [hkeys, Tab.at_mod_same _ _ _ h4']
      · rw [hkeys, Tab.at_mod_ne _ _ hj]
      · rw [hp]
        rfl
    · rw [if_pos (by simp [k, hok])] at hexec
      exact ⟨_, hexec, h.ends tag.isLt stRange 0xFF#32 0 0 0#32 0#32⟩
  · rw [if_pos (by rcases hbad with hb | hb <;> simp [hb])] at hexec
    exact ⟨_, hexec, h.ends tag.isLt stRange 8#32 0 0 0#32 0#32⟩

/-- Settles O56: the session's registers are `sesRegs`, which no completion writes. -/
theorem expertSessions : Obligations.ExpertSessions := by
  unfold Obligations.ExpertSessions
  exact fun s tag c => ⟨execExpOpen_spec, execExpAuth_spec, execExpClose_spec, execExpKeyprog_spec⟩

end Sys2Proof.Machine
end

section
/-!
PROOFS. The firmware commands: parts of an image, the activation and the commit record (R341, R453, R454, R463 to R465): O55.
-/
namespace Sys2Proof.Machine

variable {s t u : State} {tag : Fin 64} {c : MCmd} {opc : Nat}

/-- A command that changes one other part before it ends. -/
theorem State.runs.endsWith (h : s.runs tag opc c) {may : List Part} (hu : (s.begun tag c).Moves [] may u) (hr : .regs ∉ may) (hm : u.mbx = (s.begun tag c).mbx)
    (status : Nat) (result : Word) (dlen cidx : Nat) (v0 v1 : Word) :
    (u.finish tag status result dlen cidx v0 v1).completed (c.comp tag status result dlen cidx v0 v1) ∧
      s.endsOnly (u.finish tag status result dlen cidx v0 v1) tag c may (fun _ => False) := by
  have hregs := hu.regs_kept hr
  have hready : u.Ready tag { c with started := true } := (h.ready tag.isLt).of_eq hregs hm
  have hdid : s.OnlyDid u tag may (fun _ => False) :=
    (State.onlyDid_begun s tag c).then
      (State.keeps_mono hu.keeps (List.subset_cons_of_subset _ (List.subset_cons_of_subset _ (List.subset_cons_of_subset _ (List.Subset.refl _)))))
      ((State.Writes.refl (s := s.begun tag c) h.regsOk).of_regs hregs) (List.nil_subset _) (fun _ => id) (.of_eq hm)
  exact ⟨hready.finish_completed status result dlen cidx v0 v1, hready.ends hdid rfl status result dlen cidx v0 v1⟩

theorem State.endsOnly.fw {n : Nat} {may : List Part} {regs : Nat → Prop} (h : s.endsOnly t n c may regs) (hm : .fw ∉ may) : t.fw = s.fw := by
  obtain ⟨⟨-, -, -, -, -, -, -, -, -, -, -, -, -, -, -, -, -, -, -, -, -, hx, -⟩, -⟩ := h
  exact hx.resolve_left (by simpa using hm)

/-! ## FW_STAGE -/

theorem State.staging_lt (s : State) : s.staging < 2 := by
  unfold State.staging
  omega

/-- A part of an image that stands in its slot: the state that ends, and the slots. -/
theorem State.runs.staged (h : s.runs tag opc c) (f : FlashSlot) (status : Nat) (result v0 v1 : Word) :
    let t := ((s.begun tag c).slotPut s.staging f).finish tag status result 0 0 v0 v1
    t.completed (c.comp tag status result 0 0 v0 v1) ∧ s.endsOnly t tag c [.fw] (fun _ => False) ∧ t.fw.slots.at s.staging = f ∧
      t.fw.slots.at (1 - s.staging) = s.fw.slots.at (1 - s.staging) ∧ t.fw.commits = s.fw.commits := by
  have hm : (s.begun tag c).Moves [] [.fw] ((s.begun tag c).slotPut s.staging f) := .slotPut (.refl _) (by decide)
  obtain ⟨hcomp, hends⟩ := h.endsWith hm (by decide) rfl status result 0 0 v0 v1
  have hready : ((s.begun tag c).slotPut s.staging f).Ready tag { c with started := true } := (h.ready tag.isLt).of_eq rfl rfl
  have hfw := State.endsOnly.fw (hready.finish_justEnds status result 0 0 v0 v1) (by decide)
  have hlen : s.fw.slots.length = 2 := (State.sized_of_inv h.inv).fw.1
  have hlt := s.staging_lt
  refine ⟨hcomp, hends, ?_, ?_, ?_⟩
  · rw [hfw]
    exact Tab.at_mod_same _ _ _ (by rw [show (s.begun tag c).fw.slots.length = 2 from hlen]; exact hlt)
  · rw [hfw]
    exact Tab.at_mod_ne _ _ (by omega)
  · rw [hfw]
    rfl

theorem execFwStage_spec (dma : List Byte) (h : s.runs tag 0x801 c) (hun : s.uncommitted = false) (hsplit : s.sup.split = none) (h0 : 0 < c.len)
    (hmax : c.len ≤ 262144) :
    (let old := if c.pw 0 = 0 then [] else (s.fw.slots.at s.staging).bytes
     let bs := old ++ s.dataIn c dma
     c.pw 0 = old.length → old.length + c.len ≤ 8388608 →
     (bs.length < 256 ∨ bs.length < imgLen bs →
       ∃ t, exec (.fwStage tag dma) s = .next t ∧ t.completed (c.comp tag stOk (v0 := w32 bs.length)) ∧ s.endsOnly t tag c [.fw] (fun _ => False) ∧
         (t.fw.slots.at s.staging).bytes = bs ∧ (t.fw.slots.at s.staging).valid = false ∧ t.fw.commits = s.fw.commits) ∧
     (256 ≤ bs.length → imgLen bs ≤ bs.length →
       ∃ t, exec (.fwStage tag dma) s = .next t ∧ s.endsOnly t tag c [.fw] (fun _ => False) ∧ (t.fw.slots.at s.staging).bytes = bs ∧
         ((t.fw.slots.at s.staging).valid = true ↔ imgReason s.fw.minSec bs = 0) ∧ t.fw.slots.at (1 - s.staging) = s.fw.slots.at (1 - s.staging) ∧
         (imgReason s.fw.minSec bs = 0 → t.completed (c.comp tag stOk (v0 := w32 bs.length) (v1 := 1#32))) ∧
         (imgReason s.fw.minSec bs ≠ 0 →
           t.completed (c.comp tag stRange (w32 (0xFF + 256 * imgReason s.fw.minSec bs)) (v0 := w32 bs.length))))) := by
  intro old bs hold hfit
  let b := s.begun tag c
  let r := imgReason s.fw.minSec bs
  have hexec : exec (.fwStage tag dma) s = .next (if bs.length < 256 || bs.length < imgLen bs then (b.slotPut s.staging { bytes := bs }).finish tag stOk (v0 := w32 bs.length)
      else if r = 0 then (b.slotPut s.staging (slotOf bs (r == 0))).finish tag stOk (v0 := w32 bs.length) (v1 := 1#32)
      else (b.slotPut s.staging (slotOf bs (r == 0))).finish tag stRange (w32 (0xFF + 256 * r)) (v0 := w32 bs.length)) := by
    refine congrArg Host.Outcome.next ((State.command_runs h).trans ((if_neg ?_).trans ((if_neg ?_).trans ((if_neg (not_not.mpr hold)).trans (if_neg ?_)))))
    · rw [show (s.begun tag c).uncommitted = s.uncommitted from rfl, show (s.begun tag c).sup.split = s.sup.split from rfl, hun, hsplit]
      decide
    · have hp : partMax = 262144 := rfl
      rw [Bool.or_eq_true, decide_eq_true_eq, decide_eq_true_eq]
      omega
    · exact Nat.not_lt.mpr (hfit.trans (by decide))
  refine ⟨fun hpart => ?_, fun h256 hlen => ?_⟩
  · rw [if_pos (by simpa using hpart)] at hexec
    obtain ⟨hcomp, hends, hslot, -, hcom⟩ := h.staged { bytes := bs } stOk 0#32 (w32 bs.length) 0#32
    exact ⟨_, hexec, hcomp, hends, by rw [hslot], by rw [hslot], hcom⟩
  · rw [if_neg (by simp; omega)] at hexec
    by_cases hr : r = 0
    · rw [if_pos hr] at hexec
      obtain ⟨hcomp, hends, hslot, hother, -⟩ := h.staged (slotOf bs (r == 0)) stOk 0#32 (w32 bs.length) 1#32
      refine ⟨_, hexec, hends, by rw [hslot]; rfl, ?_, hother, fun _ => hcomp, fun hne => absurd hr hne⟩
      rw [hslot]
      exact beq_iff_eq
    · rw [if_neg hr] at hexec
      obtain ⟨hcomp, hends, hslot, hother, -⟩ := h.staged (slotOf bs (r == 0)) stRange (w32 (0xFF + 256 * r)) (w32 bs.length) 0#32
      refine ⟨_, hexec, hends, by rw [hslot]; rfl, ?_, hother, fun he => absurd he hr, fun _ => hcomp⟩
      rw [hslot]
      exact beq_iff_eq

/-! ## FW_ACTIVATE -/

theorem execFwActivate_spec (h : s.runs tag 0x802 c) :
    (s.slotValid s.staging = true → s.supState = 0 → s.sup.split = none → (s.sup.anyAct = true → s.sup.lastAct + 30000000000 ≤ s.gt) →
        s.flag Reg.MBX_EXPSESS F.MBX_EXPSESS_OPEN = false →
        ∃ t, exec (.fwActivate tag) s = .next t ∧ s.keeps t [.sup, .mbx] ∧ t.goesOn tag c ∧ t.sup.split = some { tag := tag }) ∧
      (s.slotValid s.staging = false → ∃ t, exec (.fwActivate tag) s = .next t ∧ t.completed (c.comp tag stRange 0#32) ∧ s.justEnds t tag c) ∧
      (s.slotValid s.staging = true → s.supState ≠ 0 → ∃ t, exec (.fwActivate tag) s = .next t ∧ t.completed (c.comp tag stBusy) ∧ s.justEnds t tag c) := by
  let b := s.begun tag c
  have hexec : exec (.fwActivate tag) s = .next (if !s.slotValid s.staging then b.refuse tag stRange 0
      else if s.supState ≠ 0 || s.sup.split.isSome || (s.sup.anyAct && s.gt < s.sup.lastAct + 60 * tickSec) ||
          s.flag Reg.MBX_EXPSESS F.MBX_EXPSESS_OPEN then b.finish tag stBusy
      else b.supMod (fun u => { u with split := some { tag := tag.val } })) := congrArg Host.Outcome.next (State.command_runs h)
  refine ⟨fun hv hst hsplit hact hopen => ?_, fun hv => ?_, fun hv hst => ?_⟩
  · have hlate : (s.sup.anyAct && decide (s.gt < s.sup.lastAct + 60 * tickSec)) = false := by
      cases ha : s.sup.anyAct with
      | false => rfl
      | true =>
        have := hact ha
        rw [Bool.true_and, decide_eq_false_iff_not, tickSec]
        omega
    rw [if_neg (by simp [hv]), if_neg (by rw [hlate]; simp [hst, hsplit, hopen])] at hexec
    exact ⟨_, hexec, by simp [State.keeps, State.supMod, b, State.begun], KMap.find_put_same _ _ _, rfl⟩
  · rw [if_pos (by simp [hv])] at hexec
    exact ⟨_, hexec, h.ends tag.isLt stRange 0#32 0 0 0#32 0#32⟩
  · rw [if_neg (by simp [hv]), if_pos (by simp [hst])] at hexec
    exact ⟨_, hexec, h.ends tag.isLt stBusy 0#32 0 0 0#32 0#32⟩

/-! ## FW_COMMIT -/

/-- The record that a commit writes (R454). -/
def State.nextRec (s : State) (slot : Nat) : CommitRec :=
  { seq := (s.commitNowRec.elim 0 (fun r => r.seq) + 1) % 2 ^ 32, active := slot, prev := s.commitNowRec.elim 0xFF (fun r => r.active),
    version := (s.fw.slots.at slot).version, hash := (s.fw.slots.at slot).hash }

theorem State.commitCopy_none (h : s.commitCopy = none) : s.fw.commits.at 0 = none ∧ s.fw.commits.at 1 = none := by
  unfold State.commitCopy at h
  split at h
  · exact ⟨by assumption, by assumption⟩
  · nomatch h
  · nomatch h
  · split at h <;> nomatch h

theorem State.commitCopy_some {k : Nat} (h : s.commitCopy = some k) : k < 2 ∧ ∃ r, s.fw.commits.at k = some r ∧ s.commitNowRec = some r := by
  have hk : k < 2 ∧ ∃ r, s.fw.commits.at k = some r := by
    unfold State.commitCopy at h
    split at h
    · nomatch h
    · next h0 _ => exact Option.some.inj h ▸ ⟨by decide, _, h0⟩
    · next _ h1 => exact Option.some.inj h ▸ ⟨by decide, _, h1⟩
    · next h0 h1 =>
      split at h
      · exact Option.some.inj h ▸ ⟨by decide, _, h1⟩
      · exact Option.some.inj h ▸ ⟨by decide, _, h0⟩
  obtain ⟨hlt, r, hr⟩ := hk
  exact ⟨hlt, r, hr, by rw [State.commitNowRec, h]; exact hr⟩

/-- The later of two records whose numbers follow each other. -/
theorem State.commitNowRec_of_next {a b : CommitRec} {k : Nat} (hk : k < 2) (ha : s.fw.commits.at k = some a) (hb : s.fw.commits.at (1 - k) = some b)
    (hlt : a.seq < 2 ^ 32) (hseq : b.seq = (a.seq + 1) % 2 ^ 32) : s.commitNowRec = some b := by
  rcases (by omega : k = 0 ∨ k = 1) with rfl | rfl
  · have hc : s.commitCopy = some 1 := by
      unfold State.commitCopy
      rw [ha, show s.fw.commits.at 1 = some b from hb]
      exact if_pos (by rw [hseq, Bool.and_eq_true, decide_eq_true_eq, decide_eq_true_eq]; omega)
    rw [State.commitNowRec, hc]
    exact hb
  · have hc : s.commitCopy = some 0 := by
      unfold State.commitCopy
      rw [ha, show s.fw.commits.at 0 = some b from hb]
      exact if_neg (by rw [hseq, Bool.and_eq_true, decide_eq_true_eq, decide_eq_true_eq]; omega)
    rw [State.commitNowRec, hc]
    exact hb

theorem State.commitNowRec_first {b : CommitRec} (h0 : s.fw.commits.at 0 = some b) (h1 : s.fw.commits.at 1 = none) : s.commitNowRec = some b := by
  have hc : s.commitCopy = some 0 := by
    unfold State.commitCopy
    rw [h0, h1]
  rw [State.commitNowRec, hc]
  exact h0

theorem State.commitNowRec_of_commits (h : t.fw.commits = s.fw.commits) : t.commitNowRec = s.commitNowRec := by
  unfold State.commitNowRec State.commitCopy
  rw [h]

/-- After a commit the record of that commit is the current one. -/
theorem State.commitWrite_rec (hlen : s.fw.commits.length = 2) (slot : Nat) (hseq : ∀ r, s.commitNowRec = some r → r.seq < 2 ^ 32) :
    (s.commitWrite slot).commitNowRec = some (s.nextRec slot) := by
  have hcommits : ∀ i, (match s.commitCopy with | some k => 1 - k | none => 0) = i →
      (s.commitWrite slot).fw.commits = s.fw.commits.mod i (fun _ => some (s.nextRec slot)) := by
    rintro i rfl
    rfl
  cases hcopy : s.commitCopy with
  | none =>
    obtain ⟨-, h1⟩ := State.commitCopy_none hcopy
    have hc := hcommits 0 (by rw [hcopy])
    refine State.commitNowRec_first (s := s.commitWrite slot) ?_ ?_
    · rw [hc, Tab.at_mod_same _ _ _ (by omega)]
    · rw [hc, Tab.at_mod_ne _ _ (by decide), h1]
  | some k =>
    obtain ⟨hk, r, hr, hnow⟩ := State.commitCopy_some hcopy
    have hc := hcommits (1 - k) (by rw [hcopy])
    refine State.commitNowRec_of_next (s := s.commitWrite slot) (a := r) hk ?_ ?_ (hseq r hnow) ?_
    · rw [hc, Tab.at_mod_ne _ _ (by omega), hr]
    · rw [hc, Tab.at_mod_same _ _ _ (by omega)]
    · rw [State.nextRec, hnow]
      rfl

/-- The fused minimum that a commit raises, and its record (R465). -/
def State.raiseMin (u : State) (i : Nat) (raise : Bool) (sec : Nat) : State :=
  if raise && u.fw.minSec < sec then ({ u with fw := { u.fw with minSec := sec } }).logRec 0x15 (evCode 0xFF 4) [w32 i, w32 sec] true else u

theorem State.raiseMin_spec (hu : u.regsOk = true) (i : Nat) (raise : Bool) (sec : Nat) :
    u.Moves [] (.fw :: logParts) (u.raiseMin i raise sec) ∧ u.Writes (· ∈ logRegs) (u.raiseMin i raise sec) ∧ u.Events (u.raiseMin i raise sec) ∧
      (u.raiseMin i raise sec).fw = { u.fw with minSec := if raise then max u.fw.minSec sec else u.fw.minSec } := by
  unfold State.raiseMin
  by_cases h : (raise && decide (u.fw.minSec < sec)) = true
  · rw [if_pos h]
    obtain ⟨hr, hlt⟩ := Bool.and_eq_true_iff.mp h
    let v : State := { u with fw := { u.fw with minSec := sec } }
    have hv : u.Moves [] (.fw :: logParts) v := .set_fw (.refl u) id (by decide)
    have hw : u.Writes (· ∈ logRegs) v := (State.Writes.refl hu).of_regs rfl
    have he : u.Events v := .of_eq rfl rfl
    have hm : v.Moves [] logParts (v.logRec 0x15 (evCode 0xFF 4) [w32 i, w32 sec] true) := .logRec (.refl v) (by decide)
    refine ⟨hv.logRec (by decide), hw.logRec _ _ _ _ fun _ => id, he.logRec, ?_⟩
    rw [hm.fw_kept (by decide), if_pos hr, Nat.max_eq_right (Nat.le_of_lt (of_decide_eq_true hlt))]
  · rw [if_neg h]
    refine ⟨.refl u, .refl hu, .refl u, ?_⟩
    cases raise with
    | false => rfl
    | true =>
      rw [if_pos rfl, Nat.max_eq_left (Nat.le_of_not_lt (by simpa using h))]

theorem State.deviceReset_fw (hs : s.regsOk = true) (cause : Nat) :
    (s.deviceReset cause).fw = { s.fw with booting := true, selected := false, service := false, refused := 0, rewrite := false, cause := cause } ∧
      (s.deviceReset cause).mbx.cmds = [] := by
  obtain ⟨w, lost, heq, hw, -⟩ := State.deviceReset_eq hs cause
  have hm : w.Moves [] logParts (w.stickIf lost Stk.XT32_LOST) := .stickIf (.refl w) (by decide)
  have he : w.Events (w.stickIf lost Stk.XT32_LOST) := (State.Events.refl w).stickIf
  rw [heq]
  exact ⟨(hm.fw_kept (by decide)).trans hw.fw, he.mailKept.cmds.trans (by rw [hw.mbx])⟩

theorem logRegs_away {a : Nat} (h : a ∈ logRegs) : awayRegs a := sesRegs_away (sesRegs_log a h)

theorem execFwCommit_spec (h : s.runs tag 0x803 c) :
    (let i := c.pw 0 % 2
     (s.slotValid i = true → ((c.pw 0).testBit 8 = true → i = s.fw.running) → s.fw.service = false → (∀ r, s.commitNowRec = some r → r.seq < 2 ^ 32) →
       ∃ t r, exec (.fwCommit tag) s = .next t ∧ t.completed (c.comp tag stOk) ∧ s.endsOnly t tag c [.fw, .log] (fun a => a ∈ logRegs) ∧
         t.commitNowRec = some r ∧ r.active = i ∧ r.hash = (s.fw.slots.at i).hash ∧
         (∀ o, s.commitNowRec = some o → r.seq = (o.seq + 1) % 2 ^ 32 ∧ r.prev = o.active) ∧ t.fw.slots = s.fw.slots ∧
         t.fw.minSec = (if (c.pw 0).testBit 8 then max s.fw.minSec (s.fw.slots.at i).secver else s.fw.minSec)) ∧
     (s.slotValid i = true → (c.pw 0).testBit 8 = false → s.fw.service = true →
       ∃ t, exec (.fwCommit tag) s = .next t ∧ t.fw.booting = true ∧ t.fw.service = false ∧ t.fw.cause = s.fw.cause ∧ t.fw.slots = s.fw.slots ∧
         t.mbx.cmds = []) ∧
     (s.slotValid i = false → ∃ t, exec (.fwCommit tag) s = .next t ∧ t.completed (c.comp tag stRange 8#32) ∧ s.justEnds t tag c)) := by
  intro i
  let b := s.begun tag c
  let raise := (c.pw 0).testBit 8
  let sec := (s.fw.slots.at i).secver
  let v := (b.commitWrite i).raiseMin i raise sec
  have hexec : exec (.fwCommit tag) s = .next (if !s.slotValid i || (raise && (i ≠ s.fw.running || s.fw.service)) then b.refuse tag stRange 8
      else if s.fw.service then (v.finish tag stOk).deviceReset s.fw.cause else v.finish tag stOk) := congrArg Host.Outcome.next (State.command_runs h)
  have hbw : b.Moves [] [.fw] (b.commitWrite i) := .commitWrite (.refl b) (by decide)
  have hwok : (b.commitWrite i).regsOk = true := h.regsOk
  have hmail : b.MailKept (b.commitWrite i) := .of_eq rfl
  obtain ⟨hm, hw, he, hfw⟩ := State.raiseMin_spec hwok i raise sec
  have hv : v.Ready tag { c with started := true } :=
    ((h.ready tag.isLt).of_eq (t := b.commitWrite i) rfl rfl).away hw (fun _ => logRegs_away) he.mailKept
  have hdid : s.OnlyDid v tag [.fw, .log] (· ∈ logRegs) :=
    (State.onlyDid_begun s tag c).then (State.keeps_trans (State.keeps_mono hbw.keeps (by decide)) (State.keeps_mono hm.keeps (by decide)))
      (((State.Writes.refl (s := b) h.regsOk).of_regs (u := b.commitWrite i) rfl).trans hw) (by decide) (fun _ hf => hf.elim)
      (hmail.trans he.mailKept)
  have hcommits : v.fw.commits = (b.commitWrite i).fw.commits ∧ v.fw.slots = s.fw.slots ∧
      v.fw.minSec = if raise then max s.fw.minSec sec else s.fw.minSec := by
    rw [show v.fw = _ from hfw]
    exact ⟨rfl, rfl, rfl⟩
  have hfin := hv.finish_justEnds stOk 0#32 0 0 0#32 0#32
  have hfwf := State.endsOnly.fw hfin (by decide)
  clear_value v
  obtain ⟨hcom, hslots, hmin⟩ := hcommits
  refine ⟨fun hvalid hrun hserv hseq => ?_, fun hvalid hraise hserv => ?_, fun hvalid => ?_⟩
  · rw [if_neg (by simp only [hvalid, hserv, raise]; cases hb : (c.pw 0).testBit 8 <;> simp [hrun, hb]), if_neg (by simp [hserv])] at hexec
    have hrec : (v.finish tag stOk).commitNowRec = some (s.nextRec i) := by
      rw [State.commitNowRec_of_commits (s := b.commitWrite i) (by rw [hfwf]; exact hcom)]
      exact State.commitWrite_rec (s := b) (State.sized_of_inv h.inv).fw.2.1 i hseq
    refine ⟨_, s.nextRec i, hexec, hv.finish_completed stOk 0#32 0 0 0#32 0#32, hv.ends hdid rfl stOk 0#32 0 0 0#32 0#32, hrec, rfl, rfl, fun o ho => ?_, ?_, ?_⟩
    · rw [State.nextRec, ho]
      exact ⟨rfl, rfl⟩
    · rw [hfwf, hslots]
    · rw [hfwf, hmin]
  · rw [if_neg (by simp [hvalid, raise, hraise]), if_pos hserv] at hexec
    have hok : (v.finish tag stOk).regsOk = true := (hv.finished stOk 0#32 0 0 0#32 0#32).writes.ok
    obtain ⟨hfwr, hcmds⟩ := State.deviceReset_fw hok s.fw.cause
    refine ⟨_, hexec, ?_, ?_, ?_, ?_, hcmds⟩
    all_goals rw [hfwr]
    rw [hfwf, hslots]
  · rw [if_pos (by simp [hvalid])] at hexec
    exact ⟨_, hexec, h.ends tag.isLt stRange 8#32 0 0 0#32 0#32⟩

/-- Settles O55: a part goes into `State.slotPut`, a commit record follows the current one by one. -/
theorem firmwareCommands : Obligations.FirmwareCommands := by
  unfold Obligations.FirmwareCommands
  exact fun s tag c => ⟨execFwStage_spec, execFwActivate_spec, execFwCommit_spec⟩

end Sys2Proof.Machine
end

section
/-!
PROOFS. What the work of the safety unit leaves: the configuration in force, its registers' own words, and the commands of the host (R303 to R327).
-/
namespace Sys2Proof.Machine

/-- The registers of a comparator's configuration and thresholds stand at the addresses 0 and 4 of its 16 bytes. -/
def notThreshold (a : Nat) : Prop := a < 0x16000 ∨ 0x16400 ≤ a ∨ 12 ≤ a % 16

/-- The registers that demands, trips, routes and views write: none of the configurations, and none of the pair's state. -/
def workRegs (a : Nat) : Prop :=
  (0x16000 ≤ a ∨ a ∈ logRegs) ∧ a ≠ Reg.SAFE_CFGID ∧ a ≠ Reg.SAFE_STAT ∧ a ≠ Reg.SUP_STAT ∧ notThreshold a

theorem workRegs_high : HighRegs workRegs :=
  ⟨fun a h => ⟨.inl (Nat.le_trans (by decide) h), ne_of_gt (Nat.lt_of_lt_of_le (by decide) h), ne_of_gt (Nat.lt_of_lt_of_le (by decide) h),
    ne_of_gt (Nat.lt_of_lt_of_le (by decide) h), .inr (.inl (Nat.le_trans (by decide) h))⟩, fun a h => by
    have hall : ∀ a ∈ logRegs, a ≠ Reg.SAFE_CFGID ∧ a ≠ Reg.SAFE_STAT ∧ a ≠ Reg.SUP_STAT ∧ notThreshold a := by
      unfold notThreshold
      decide
    exact ⟨.inr h, hall a h⟩⟩

/-- A register of the comparators or of the safety unit after its state. -/
theorem workRegs_of {a : Nat} (h : 0x16000 ≤ a ∧ a < 0x17000 ∧ (0x16400 ≤ a ∨ 12 ≤ a % 16) ∨ 0x17008 ≤ a ∧ a < 0x18000) : workRegs a := by
  refine ⟨.inl (by omega), ?_, ?_, ?_, ?_⟩
  · unfold Reg.SAFE_CFGID
    omega
  · unfold Reg.SAFE_STAT
    omega
  · unfold Reg.SUP_STAT
    omega
  · unfold notThreshold
    omega

theorem workRegs_away {a : Nat} (h : workRegs a) : awayRegs a := by
  obtain ⟨h | h, -, -, hsup, -⟩ := h
  · exact ⟨by omega, by omega, hsup⟩
  · exact logRegs_away h

theorem workRegs_stick {k : Stk} (h : workRegs k.reg) : ∀ a ∈ stickRegs k, workRegs a := by
  intro a ha
  obtain rfl | ha := List.mem_cons.1 ha
  · exact h
  · exact workRegs_high.log a ha

theorem mem_bitsOf {n m i : Nat} : i ∈ bitsOf n m ↔ i < n ∧ m.testBit i = true := by
  simp [bitsOf]

/-- `t` comes from `s` by such work. -/
structure State.SafeWork (s t : State) : Prop where
  writes : s.Writes workRegs t
  events : s.Events t
  cfg : t.safe.cfg = s.safe.cfg
  force : t.safe.inForce = s.safe.inForce
  pending : t.safe.pending = s.safe.pending
  cref : t.cmp.cref = s.cmp.cref

namespace State.SafeWork

variable {s t u : State}

theorem refl (h : s.regsOk = true) : s.SafeWork s := ⟨.refl h, .refl s, rfl, rfl, rfl, rfl⟩

theorem trans (h : s.SafeWork t) (k : t.SafeWork u) : s.SafeWork u :=
  ⟨h.writes.trans k.writes, h.events.trans k.events, k.cfg.trans h.cfg, k.force.trans h.force, k.pending.trans h.pending, k.cref.trans h.cref⟩

theorem ok (h : s.SafeWork t) : t.regsOk = true := h.writes.ok

/-- Work that leaves the safety part and the comparators as they are. -/
theorem wrote (h : s.SafeWork t) (w : t.Writes workRegs u) (e : t.Events u) (hs : u.safe = t.safe) (hc : u.cmp = t.cmp) : s.SafeWork u :=
  h.trans ⟨w, e, by rw [hs], by rw [hs], by rw [hs], by rw [hc]⟩

/-- A change of parts that are neither registers, nor the mailbox, nor the output port. -/
theorem beside (h : s.SafeWork t) (hr : u.regs = t.regs) (ho : u.out = t.out) (hm : u.mbx = t.mbx) (hc : u.safe.cfg = t.safe.cfg)
    (hf : u.safe.inForce = t.safe.inForce) (hp : u.safe.pending = t.safe.pending) (hx : u.cmp.cref = t.cmp.cref := by rfl) : s.SafeWork u :=
  h.trans ⟨(State.Writes.refl h.ok).of_regs hr, .of_eq ho hm, hc, hf, hp, hx⟩

theorem setRegN (h : s.SafeWork t) {a n : Nat} (ha : workRegs a) : s.SafeWork (t.setRegN a n) :=
  h.wrote ((State.Writes.refl h.ok).setRegN _ ha) (State.Events.refl t).setRegN rfl rfl

theorem setFld (h : s.SafeWork t) {a n : Nat} {f : Fld} (ha : workRegs a) : s.SafeWork (t.setFld a f n) := h.setRegN ha

theorem setBit (h : s.SafeWork t) {a i : Nat} {b : Bool} (ha : workRegs a) : s.SafeWork (t.setBit a i b) := h.setRegN ha

theorem bump (h : s.SafeWork t) {a : Nat} (ha : workRegs a) : s.SafeWork (t.bump a) := h.setRegN ha

theorem stick (h : s.SafeWork t) {k : Stk} (hk : workRegs k.reg) : s.SafeWork (t.stick k) :=
  h.wrote ((State.Writes.refl h.ok).stick _ (workRegs_stick hk)) (State.Events.refl t).stick (State.stick_safe _ _) (State.stick_cmp _ _)

theorem logRec (h : s.SafeWork t) {typ code : Nat} {ws : List Word} {pin : Bool} : s.SafeWork (t.logRec typ code ws pin) :=
  h.wrote ((State.Writes.refl h.ok).logRec _ _ _ _ workRegs_high.log) (State.Events.refl t).logRec (State.logRec_safe _ _ _ _ _) (State.logRec_cmp _ _ _ _ _)

theorem ite {c : Prop} [Decidable c] (ht : s.SafeWork t) (hu : s.SafeWork u) : s.SafeWork (if c then t else u) := by
  split
  · exact ht
  · exact hu

theorem foldl {α : Type} {f : State → α → State} {l : List α} (hf : ∀ v, ∀ x ∈ l, s.SafeWork v → s.SafeWork (f v x)) (h : s.SafeWork t) :
    s.SafeWork (l.foldl f t) := List.foldlRecOn l f h fun v hv x hx => hf v x hx hv

/-! ## Gate commands and trips -/

theorem chMod (h : s.SafeWork t) {n : Nat} {f : PwmCh → PwmCh} : s.SafeWork (t.chMod n f) := h.beside rfl rfl rfl rfl rfl rfl

theorem dropCarry (h : s.SafeWork t) {n : Nat} : s.SafeWork (t.dropCarry n) := by
  unfold State.dropCarry
  exact .ite h (h.chMod.stick (workRegs_high.high _ (Nat.le_add_right_of_le (by decide))))

theorem dropCarries (h : s.SafeWork t) {g : Nat} : s.SafeWork (t.dropCarries g) := .foldl (fun _ _ _ hv => hv.dropCarry) h

theorem driveOff (h : s.SafeWork t) {n e : Nat} : s.SafeWork (t.driveOff n e) := h.beside rfl rfl rfl rfl rfl rfl

theorem forceIdeal (h : s.SafeWork t) {g : Nat} : s.SafeWork (t.forceIdeal g) := .foldl (fun _ _ _ hv => .ite hv (.ite hv.driveOff hv)) h

theorem lgMod (h : s.SafeWork t) {g : Nat} {f : LegGroup → LegGroup} : s.SafeWork (t.lgMod g f) := h.beside rfl rfl rfl rfl rfl rfl

theorem tripGroup (h : s.SafeWork t) {g : Nat} : s.SafeWork (t.tripGroup g) := by
  have hstk (k : Stk) (hk : k.reg = Reg.PWM_STK g) : workRegs k.reg := by
    rw [hk]
    exact workRegs_high.high _ (Nat.le_add_right_of_le (by decide))
  unfold State.tripGroup
  extract_lets +onlyGivenNames cbcM latM l s1
  have hs1 : s.SafeWork s1 := .ite ((h.lgMod.stick (hstk _ rfl)).dropCarries.forceIdeal) h
  refine .ite ?_ hs1
  extract_lets +onlyGivenNames b s2
  have hs2 : s.SafeWork s2 := (hs1.lgMod.stick (hstk _ rfl)).dropCarries.forceIdeal
  exact hs2.logRec

theorem setBus (h : s.SafeWork t) {b seen : Nat} : s.SafeWork { t with cmp := { t.cmp with bus := b, busSeen := seen } } := h.beside rfl rfl rfl rfl rfl rfl

theorem tripEval (h : s.SafeWork t) : s.SafeWork t.tripEval := by
  unfold State.tripEval
  exact .ite h (.foldl (fun _ _ _ hv => .ite hv.tripGroup hv) (h.setBus.setFld (workRegs_of (by decide))))

/-! ## Triggers, demands and wakes -/

theorem coreMod (h : s.SafeWork t) {c : Nat} {f : AdcCore → AdcCore} : s.SafeWork (t.coreMod c f) := h.beside rfl rfl rfl rfl rfl rfl

theorem adcTrig (h : s.SafeWork t) {c : Nat} {inj : Bool} : s.SafeWork (t.adcTrig c inj) := by
  have hreg {a : Nat} (ha : 0x20000 ≤ a) : workRegs a := workRegs_high.high _ ha
  unfold State.adcTrig
  refine .ite h (.ite (.ite ?_ ?_) (.ite ?_ ?_))
  · exact h.coreMod.setFld (hreg (Nat.le_add_right_of_le (by decide)))
  · exact ((h.bump (hreg (Nat.le_add_right_of_le (by decide)))).stick (hreg (Nat.le_add_right_of_le (by decide)))).coreMod
  · exact h.coreMod.setFld (hreg (Nat.le_add_right_of_le (by decide)))
  · exact ((h.bump (hreg (Nat.le_add_right_of_le (by decide)))).stick (hreg (Nat.le_add_right_of_le (by decide)))).coreMod

theorem adcFire (h : s.SafeWork t) {code : Nat} : s.SafeWork (t.adcFire code) :=
  .foldl (fun _ _ _ hv => .ite (.adcTrig (.ite hv.adcTrig hv)) (.ite hv.adcTrig hv)) h

theorem soutOff (h : s.SafeWork t) {j : Nat} (hj : j < 4) : s.SafeWork (t.soutOff j) := by
  have hreg : workRegs (Reg.SAFE_SOUT j) := workRegs_of (.inr (by unfold Reg.SAFE_SOUT; omega))
  unfold State.soutOff
  extract_lets src v
  have hv : s.SafeWork v := h.beside rfl rfl rfl rfl rfl rfl
  exact ((hv.setFld hreg).setFld hreg).setFld hreg

theorem soutCheck (h : s.SafeWork t) : s.SafeWork t.soutCheck := .foldl (fun _ _ hj hv => .ite (hv.soutOff (List.mem_range.mp hj)) hv) h

theorem spoLatch (h : s.SafeWork t) {v cause src : Nat} (hv : v < 12) : s.SafeWork (t.spoLatch v cause src) := by
  have hreg : workRegs (Reg.SAFE_CAUSE v) := workRegs_of (.inr (by unfold Reg.SAFE_CAUSE; omega))
  unfold State.spoLatch
  extract_lets +onlyGivenNames s1
  have hs1 : s.SafeWork s1 := h.setFld hreg
  refine .ite hs1 ?_
  extract_lets +onlyGivenNames s2 srcSafe s3
  have hs2 : s.SafeWork s2 :=
    ((((hs1.setBit (workRegs_of (by decide))).setFld hreg).setFld hreg).bump (workRegs_of (by decide))).stick (workRegs_of (by decide))
  have hs3 : s.SafeWork s3 := hs2.beside rfl rfl rfl rfl rfl rfl
  exact .foldl (fun _ _ _ hv => hv.dropCarries) hs3

theorem spoLatches (h : s.SafeWork t) {convs cause src : Nat} : s.SafeWork ((bitsOf 12 convs).foldl (fun t v => t.spoLatch v cause src) t) :=
  .foldl (fun _ _ hx hv => hv.spoLatch (mem_bitsOf.mp hx).1) h

theorem demandView (h : s.SafeWork t) : s.SafeWork t.demandView := h.setRegN (workRegs_of (by decide))

theorem setDemands (h : s.SafeWork t) {ds : List Demand} : s.SafeWork { t with safe := { t.safe with demands := ds } } := h.beside rfl rfl rfl rfl rfl rfl

theorem demandPulse (h : s.SafeWork t) {cause src convs : Nat} : s.SafeWork (t.demandPulse cause src convs) := h.spoLatches.demandView.soutCheck

theorem demandOn (h : s.SafeWork t) {cause src convs : Nat} : s.SafeWork (t.demandOn cause src convs) := by
  unfold State.demandOn
  extract_lets +onlyGivenNames ds srcSafe s1
  have hs1 : s.SafeWork s1 := h.setDemands
  exact hs1.spoLatches.demandView.soutCheck

theorem demandOff (h : s.SafeWork t) {cause src convs : Nat} : s.SafeWork (t.demandOff cause src convs) := h.setDemands.demandView

theorem demandDrop (h : s.SafeWork t) {cause src : Nat} : s.SafeWork (t.demandDrop cause src) := h.setDemands.demandView

theorem demandSet (h : s.SafeWork t) {hold : Bool} {cause src convs : Nat} : s.SafeWork (t.demandSet hold cause src convs) :=
  .ite (.ite h h.demandOn) (.ite h.demandOff h)

theorem wakeCmp (h : s.SafeWork t) {n : Nat} : s.SafeWork (t.wakeCmp n) := by
  unfold State.wakeCmp
  extract_lets +onlyGivenNames c
  refine .ite h ?_
  extract_lets +onlyGivenNames s1
  have hs1 : s.SafeWork s1 := h.beside rfl rfl rfl rfl rfl rfl
  split
  · exact hs1.beside rfl rfl rfl rfl rfl rfl
  · exact hs1.logRec
  · exact hs1

/-! ## Comparators -/

theorem cmpView (h : s.SafeWork t) {n : Nat} (hn : n < 64) : s.SafeWork (t.cmpView n) :=
  h.setRegN (workRegs_of (.inl (by unfold Reg.CMP_STAT; omega)))

theorem windowCheck (h : s.SafeWork t) {n : Nat} (hn : n < 64) : s.SafeWork (t.windowCheck n) := by
  unfold State.windowCheck
  extract_lets +onlyGivenNames w st
  refine .ite h ?_
  extract_lets +onlyGivenNames s1
  have hs1 : s.SafeWork s1 := h.setFld (workRegs_of (.inl (by dsimp only [w]; unfold Reg.CMP_WINSTAT; omega)))
  exact .ite (hs1.stick (workRegs_of (by decide))).logRec hs1

theorem cmpRoute (h : s.SafeWork t) {n : Nat} (hn : n < 64) : s.SafeWork (t.cmpRoute n) := by
  unfold State.cmpRoute
  extract_lets +onlyGivenNames v
  refine .ite (h.cmpView hn) ?_
  extract_lets +onlyGivenNames s1 s2 s3 s4
  have hs1 : s.SafeWork s1 := h.beside rfl rfl rfl rfl rfl rfl
  have hs2 : s.SafeWork s2 := (hs1.cmpView hn).windowCheck hn
  have hs3 : s.SafeWork s3 := .ite hs2.adcFire.wakeCmp hs2
  have hs4 : s.SafeWork s4 := .ite hs3.demandSet hs3
  exact hs4.tripEval

/-! ## Pairs, connections and outputs -/

theorem sinView (h : s.SafeWork t) {i : Nat} (hi : i < 8) : s.SafeWork (t.sinView i) := h.setRegN (workRegs_of (.inr (by unfold Reg.SAFE_SIN; omega)))

theorem rxView (h : s.SafeWork t) {r : Nat} (hr : r < 8) : s.SafeWork (t.rxView r) :=
  (h.setRegN (workRegs_of (.inr (by unfold Reg.SAFE_RX; omega)))).setRegN (workRegs_of (.inr (by unfold Reg.SAFE_RXSEQ; omega)))

theorem rxDemand (h : s.SafeWork t) {r : Nat} (hr : r < 8) : s.SafeWork (t.rxDemand r) := by
  unfold State.rxDemand
  extract_lets +onlyGivenNames x m s1 want s2
  have hs1 : s.SafeWork s1 := h.demandSet
  have hs2 : s.SafeWork s2 := .ite hs1 hs1.demandDrop.demandSet
  exact hs2.soutCheck.rxView hr

theorem spoClear (h : s.SafeWork t) {v : Nat} (hv : v < 12) : s.SafeWork (t.spoClear v) := by
  have hreg : workRegs (Reg.SAFE_CAUSE v) := workRegs_of (.inr (by unfold Reg.SAFE_CAUSE; omega))
  unfold State.spoClear
  refine .ite h ?_
  extract_lets +onlyGivenNames s1 srcSafe srcGl s2
  have hs1 : s.SafeWork s1 := ((h.setBit (workRegs_of (by decide))).setFld hreg).setFld hreg
  have hs2 : s.SafeWork s2 := hs1.beside rfl rfl rfl rfl rfl rfl
  exact .foldl (fun _ _ _ hv => .ite hv.lgMod hv) hs2

theorem pairMod (h : s.SafeWork t) {i : Nat} {f : SinPair → SinPair} : s.SafeWork (t.pairMod i f) := h.beside rfl rfl rfl rfl rfl rfl

theorem pairAct (h : s.SafeWork t) {i : Nat} (hi : i < 8) {was : Bool} : s.SafeWork (t.pairAct i was) := by
  unfold State.pairAct
  extract_lets +onlyGivenNames c now p s1
  have hs1 : s.SafeWork s1 := h.pairMod
  refine .ite (h.demandSet.soutCheck.sinView hi) (.ite (.ite (h.pairMod.sinView hi) (.ite ?_ (h.sinView hi))) (h.sinView hi))
  split
  · exact .ite (.sinView (.foldl (fun _ _ hx hv => .ite (hv.spoClear (mem_bitsOf.mp hx).1) hv) hs1) hi) (hs1.sinView hi)
  · exact hs1.sinView hi

theorem soutClear (h : s.SafeWork t) {j : Nat} (hj : j < 4) : s.SafeWork (t.soutClear j) := by
  have hreg : workRegs (Reg.SAFE_SOUT j) := workRegs_of (.inr (by unfold Reg.SAFE_SOUT; omega))
  unfold State.soutClear
  refine .ite h ?_
  extract_lets +onlyGivenNames s1
  have hs1 : s.SafeWork s1 := h.beside rfl rfl rfl rfl rfl rfl
  exact ((hs1.setFld hreg).setFld hreg).demandDrop

end State.SafeWork

end Sys2Proof.Machine
end

section
/-!
PROOFS. The commands of the safety unit: a configuration that is pending and confirmed, SPO and its reset (R303, R305, R306, R319): O54.
-/
namespace Sys2Proof.Machine

variable {s t u : State} {tag : Fin 64} {c : MCmd}

/-! ## SAFE_CFG -/

theorem State.safePend_spec (hs : s.regsOk = true) (g : SafeConfig) (crc : Word) :
    s.Writes (· = Reg.SAFE_STAT) (s.safePend g crc) ∧ (s.safePend g crc).flag Reg.SAFE_STAT F.SAFE_STAT_CFG_PEND = true ∧ (s.safePend g crc).mbx = s.mbx ∧
      (s.safePend g crc).safe = { s.safe with pendCfg := g, pendCrc := crc, pending := true } := by
  let v : State := { s with safe := { s.safe with pendCfg := g, pendCrc := crc, pending := true } }
  have hv : s.Writes (· = Reg.SAFE_STAT) v := (State.Writes.refl hs).of_regs rfl
  exact ⟨hv.setFld _ _ rfl, State.flag_setFld hv.ok _ _ _ (by decide), rfl, rfl⟩

theorem execSafeCfg_spec (cfg : Option SafeConfig) (dma : List Byte) (h : s.runs tag 0x401 c) (hlen : c.len ≠ 0) :
    (∀ g, cfg = some g → s.safeRanges g = true → s.safeAllowed g = true →
        ∃ t, exec (.safeCfg tag cfg dma) s = .next t ∧ s.endsOnly t tag c [.safe] (fun a => a = Reg.SAFE_STAT) ∧
          t.completed (c.comp tag stOk (v0 := crc32c (s.dataIn c dma))) ∧ t.flag Reg.SAFE_STAT F.SAFE_STAT_CFG_PEND = true ∧
          t.safe = { s.safe with pendCfg := g, pendCrc := crc32c (s.dataIn c dma), pending := true }) ∧
      ((cfg = none ∨ ∃ g, cfg = some g ∧ s.safeRanges g = false) →
        ∃ t, exec (.safeCfg tag cfg dma) s = .next t ∧ t.completed (c.comp tag stRange 0xFF#32) ∧ s.justEnds t tag c) ∧
      (∀ g, cfg = some g → s.safeRanges g = true → s.safeAllowed g = false →
        ∃ t, exec (.safeCfg tag cfg dma) s = .next t ∧ t.completed (c.comp tag stSafety 0xFF#32) ∧ s.justEnds t tag c) := by
  let b := s.begun tag c
  let crc := crc32c (s.dataIn c dma)
  have hends := h.ends tag.isLt
  have hexec (g : SafeConfig) : exec (.safeCfg tag (some g) dma) s = .next (if !s.safeRanges g then b.finish tag stRange 0xFF#32
      else if !s.safeAllowed g then b.finish tag stSafety 0xFF#32 else (b.safePend g crc).finish tag stOk (v0 := crc)) :=
    congrArg Host.Outcome.next ((State.command_runs h).trans (if_neg hlen))
  refine ⟨fun g hg hr ha => ?_, fun hbad => ?_, fun g hg hr ha => ?_⟩
  · subst hg
    have hexec := hexec g
    rw [if_neg (by simp [hr]), if_neg (by simp [ha])] at hexec
    have hbok : b.regsOk = true := h.regsOk
    obtain ⟨hw, hflag, hmbx, hsafe⟩ := State.safePend_spec hbok g crc
    have hm : b.Moves [] [.regs, .safe] (b.safePend g crc) := .safePend (.refl b) (by decide)
    have haway : ∀ a, a = Reg.SAFE_STAT → awayRegs a := by
      rintro a rfl
      unfold awayRegs
      decide
    have hready := (h.ready tag.isLt).away hw haway (.of_eq hmbx)
    have hdid : s.OnlyDid (b.safePend g crc) tag [.safe] (fun a => a = Reg.SAFE_STAT) :=
      (State.onlyDid_begun s tag c).then (State.keeps_mono hm.keeps (by decide)) hw (by decide) (fun _ hf => hf.elim) (.of_eq hmbx)
    generalize b.safePend g crc = v at *
    have hfin := hready.finished stOk 0#32 0 0 crc 0#32
    refine ⟨_, hexec, hready.ends hdid rfl stOk 0#32 0 0 crc 0#32, hready.finish_completed stOk 0#32 0 0 crc 0#32,
      (hfin.flag _ (haway _ rfl)).trans hflag, ?_⟩
    obtain ⟨-, -, -, -, -, -, -, -, -, -, -, -, hx, -⟩ := hfin.keeps
    exact (hx.resolve_left (by decide)).trans hsafe
  · rcases hbad with hg | ⟨g, hg, hr⟩
    · subst hg
      have hexec0 : exec (.safeCfg tag none dma) s = .next (b.finish tag stRange 0xFF#32) :=
        congrArg Host.Outcome.next ((State.command_runs h).trans (if_neg hlen))
      exact ⟨_, hexec0, hends stRange 0xFF#32 0 0 0#32 0#32⟩
    · subst hg
      have hexec := hexec g
      rw [if_pos (by simp [hr])] at hexec
      exact ⟨_, hexec, hends stRange 0xFF#32 0 0 0#32 0#32⟩
  · subst hg
    have hexec := hexec g
    rw [if_neg (by simp [hr]), if_pos (by simp [ha])] at hexec
    exact ⟨_, hexec, hends stSafety 0xFF#32 0 0 0#32 0#32⟩

/-! ## SAFE_CONFIRM -/

/-- What a confirmed configuration leaves (R303). -/
structure State.Confirmed (s t : State) (g : SafeConfig) (crc : Word) : Prop where
  writes : s.Writes awayRegs t
  events : s.Events t
  cfg : t.safe.cfg = g
  force : t.safe.inForce = true
  pending : t.safe.pending = false
  id : t.reg Reg.SAFE_CFGID = crc
  flag : t.flag Reg.SAFE_STAT F.SAFE_STAT_CFG_OK = true

theorem State.Confirmed.work {g : SafeConfig} {crc : Word} (h : s.Confirmed t g crc) (k : t.SafeWork u) : s.Confirmed u g crc :=
  ⟨h.writes.trans (k.writes.mono fun _ => workRegs_away), h.events.trans k.events, k.cfg.trans h.cfg, k.force.trans h.force, k.pending.trans h.pending,
    (k.writes.reg (fun hc => hc.2.1 rfl)).trans h.id, (k.writes.flag _ (fun hc => hc.2.2.1 rfl)).trans h.flag⟩

/-- The words that show which configuration is in force (R303). -/
theorem State.showConfig_spec (hs : s.regsOk = true) (crc : Word) :
    let t := ((s.setReg Reg.SAFE_CFGID crc).setFld Reg.SAFE_STAT F.SAFE_STAT_CFG_OK 1).setFld Reg.SAFE_STAT F.SAFE_STAT_CFG_PEND 0
    s.Writes awayRegs t ∧ t.reg Reg.SAFE_CFGID = crc ∧ t.flag Reg.SAFE_STAT F.SAFE_STAT_CFG_OK = true := by
  intro t
  have haway : awayRegs Reg.SAFE_CFGID ∧ awayRegs Reg.SAFE_STAT := by
    unfold awayRegs
    decide
  have h1 : s.Writes awayRegs (s.setReg Reg.SAFE_CFGID crc) := (State.Writes.refl hs).setReg _ haway.1
  have h2 : s.Writes awayRegs ((s.setReg Reg.SAFE_CFGID crc).setFld Reg.SAFE_STAT F.SAFE_STAT_CFG_OK 1) := h1.setFld _ _ haway.2
  refine ⟨h2.setFld _ _ haway.2, ?_, ?_⟩
  · exact (State.reg_setFld_ne _ _ h2.ok (by decide)).trans ((State.reg_setFld_ne _ _ h1.ok (by decide)).trans (State.reg_setReg _ _ hs))
  · exact (State.flag_setFld_other h2.ok _ _ _ _ (by decide) (by decide)).trans (State.flag_setFld h1.ok _ _ _ (by decide))

theorem State.safeConfirm_spec (hs : s.regsOk = true) (g : SafeConfig) (crc : Word) : s.Confirmed (s.safeConfirm g crc) g crc := by
  unfold State.safeConfirm
  extract_lets +onlyGivenNames rx0 keep s0 s1 s2 asg s3 s4 s5 s6 s7 s8
  have hw1 : s.Writes awayRegs s1 := (State.Writes.refl hs).of_regs rfl
  have he1 : s.Events s1 := .of_eq rfl rfl
  have hsafe1 : s1.safe.cfg = g ∧ s1.safe.inForce = true ∧ s1.safe.pending = false := ⟨rfl, rfl, rfl⟩
  clear_value s1
  obtain ⟨hcfg1, hforce1, hpend1⟩ := hsafe1
  have hk2 : s1.SafeWork s2 := .foldl (fun _ _ _ hv => hv.setRegN (workRegs_high.high _ (Nat.le_add_right_of_le (by decide)))) (.refl hw1.ok)
  clear_value s2
  have hk3 : s1.SafeWork s3 := (hk2.setRegN (workRegs_of (by decide))).setRegN (workRegs_of (by decide))
  clear_value s3
  obtain ⟨hw4, hid4, hflag4⟩ : s3.Writes awayRegs s4 ∧ s4.reg Reg.SAFE_CFGID = crc ∧ s4.flag Reg.SAFE_STAT F.SAFE_STAT_CFG_OK = true :=
    State.showConfig_spec hk3.ok crc
  have hsafe4 : s4.safe = s3.safe := rfl
  have he4 : s3.Events s4 := .of_eq rfl rfl
  clear_value s4
  have h4 : s.Confirmed s4 g crc :=
    ⟨hw1.trans ((hk3.writes.mono fun _ => workRegs_away).trans hw4), he1.trans (hk3.events.trans he4), by rw [hsafe4, hk3.cfg, hcfg1],
      by rw [hsafe4, hk3.force, hforce1], by rw [hsafe4, hk3.pending, hpend1], hid4, hflag4⟩
  have hk5 : s4.SafeWork s5 := .foldl (fun _ j hj hv => hv.setRegN (workRegs_of (.inr (by
    have := List.mem_range.mp hj
    unfold Reg.SAFE_SOUT
    omega)))) (.refl h4.writes.ok)
  clear_value s5
  have hk6 : s4.SafeWork s6 := .foldl (fun _ _ hn hv => (hv.cmpRoute (mem_bitsOf.mp hn).1).demandSet) hk5
  clear_value s6
  have hk7 : s4.SafeWork s7 := .foldl (fun _ _ hr hv => .ite (hv.rxDemand (List.mem_range.mp hr)) hv) hk6
  clear_value s7
  have hk8 : s4.SafeWork s8 := .foldl (fun _ _ hi hv => hv.pairAct (List.mem_range.mp hi)) hk7
  exact h4.work hk8.demandView

theorem execSafeConfirm_spec (h : s.runs tag 0x402 c) :
    (s.safe.pending = true → s.safe.pendCrc = c.p.getD 0 0#32 → s.writeOpen (cfgAssigns s.safe.pendCfg) = false → s.safeAllowed s.safe.pendCfg = true →
        ∃ t, exec (.safeConfirm tag) s = .next t ∧ t.completed (c.comp tag stOk) ∧ t.safe.inForce = true ∧ t.safe.pending = false ∧
          t.safe.cfg = s.safe.pendCfg ∧ t.reg Reg.SAFE_CFGID = s.safe.pendCrc ∧ t.flag Reg.SAFE_STAT F.SAFE_STAT_CFG_OK = true ∧ t.fw.rewrite = true ∧
          t.gt = s.gt ∧ t.dev = s.dev) ∧
      (s.safe.pending = false ∨ s.safe.pendCrc ≠ c.p.getD 0 0#32 →
        ∃ t, exec (.safeConfirm tag) s = .next t ∧ t.completed (c.comp tag stRange 8#32) ∧ s.justEnds t tag c) := by
  let b := s.begun tag c
  let g := s.safe.pendCfg
  let crc := s.safe.pendCrc
  let v := (b.safeConfirm g crc).logRec 0x07 (evCode 0xFF 2) [crc] true
  have hexec : exec (.safeConfirm tag) s = .next (if !s.safe.pending || crc ≠ c.p.getD 0 0#32 then b.finish tag stRange 8#32
      else if s.writeOpen (cfgAssigns g) then b.finish tag stBusy
      else if !s.safeAllowed g then b.finish tag stSafety 8#32 else v.storeDue.finish tag stOk) := congrArg Host.Outcome.next (State.command_runs h)
  refine ⟨fun hp hcrc hopen hall => ?_, fun hno => ?_⟩
  · rw [if_neg (by simp [hp, hcrc, crc]), if_neg (by simp [hopen, g]), if_neg (by simp [hall, g])] at hexec
    have hbok : b.regsOk = true := h.regsOk
    have hc := State.safeConfirm_spec hbok g crc
    have hv : b.Confirmed v g crc := hc.work (.logRec (.refl hc.writes.ok))
    have hm : b.Moves [.safe] (.ana :: .cmp :: .pwm :: .gl :: .safe :: .pwr :: logParts) v := (State.Moves.safeConfirm (.refl b) (by decide) (by decide)).logRec (by decide)
    have hgt : v.gt = s.gt := hm.gt_kept (by decide)
    have hdev : v.dev = s.dev := hm.dev_kept (by decide)
    clear_value v
    have hready : v.storeDue.Ready tag { c with started := true } := ((h.ready tag.isLt).away hv.writes (fun _ => id) hv.events.mailKept).of_eq rfl rfl
    have hfin := hready.finished stOk 0#32 0 0 0#32 0#32
    have haway : awayRegs Reg.SAFE_CFGID ∧ awayRegs Reg.SAFE_STAT := by
      unfold awayRegs
      decide
    obtain ⟨kgt, -, kdev, -, -, -, -, -, -, -, -, -, ksafe, -, -, -, -, -, -, -, -, kfw, -⟩ := hfin.keeps
    have ksafe := ksafe.resolve_left (by decide)
    refine ⟨_, hexec, hready.finish_completed stOk 0#32 0 0 0#32 0#32, ?_, ?_, ?_, (hfin.writes.reg (awayRegs_cq haway.1)).trans hv.id,
      (hfin.flag _ haway.2).trans hv.flag, ?_, (kgt.resolve_left (by decide)).trans hgt, (kdev.resolve_left (by decide)).trans hdev⟩
    · rw [ksafe]
      exact hv.force
    · rw [ksafe]
      exact hv.pending
    · rw [ksafe]
      exact hv.cfg
    · rw [kfw.resolve_left (by decide)]
      rfl
  · rw [if_pos (by rw [Bool.or_eq_true, Bool.not_eq_true', decide_eq_true_eq]; exact hno)] at hexec
    exact ⟨_, hexec, h.ends tag.isLt stRange 8#32 0 0 0#32 0#32⟩

/-! ## SPO -/

theorem F.SAFE_CAUSE_fits : F.SAFE_CAUSE_FIRST.lo + F.SAFE_CAUSE_FIRST.w ≤ 32 := by decide

/-- The registers that say which SPO are latched, and why. -/
def spoRegs (a : Nat) : Prop := a = Reg.SAFE_SPOLAT ∨ ∃ v, v < 12 ∧ a = Reg.SAFE_CAUSE v

theorem spoRegs_range {a : Nat} (h : spoRegs a) : a = Reg.SAFE_SPOLAT ∨ 0x17040 ≤ a ∧ a < 0x17070 := by
  rcases h with h | ⟨v, hv, h⟩
  · exact .inl h
  · rw [h, Reg.SAFE_CAUSE]
    exact .inr (by omega)

/-- SPO of one converter: its bit, its cause, and what stays of the others (R305, R327). -/
theorem State.spoLatch_spec (hs : s.regsOk = true) {v cause : Nat} (src : Nat) (hv : v < 12) (hc : cause < 16) :
    (∀ w, (s.spoLatch v cause src).spoLatched w = (s.spoLatched w || w == v)) ∧
      (s.spoLatched v = false → (s.spoLatch v cause src).fld (Reg.SAFE_CAUSE v) F.SAFE_CAUSE_FIRST = cause) ∧
      (s.spoLatched v = true → (s.spoLatch v cause src).fld (Reg.SAFE_CAUSE v) F.SAFE_CAUSE_FIRST = s.fld (Reg.SAFE_CAUSE v) F.SAFE_CAUSE_FIRST) ∧
      ∀ w, w < 12 → w ≠ v → (s.spoLatch v cause src).reg (Reg.SAFE_CAUSE w) = s.reg (Reg.SAFE_CAUSE w) := by
  have hne : Reg.SAFE_SPOLAT ≠ Reg.SAFE_CAUSE v := ne_of_lt (Nat.lt_add_right _ (by decide))
  have hother {w : Nat} (hw : w ≠ v) : Reg.SAFE_CAUSE w ≠ Reg.SAFE_CAUSE v := by
    unfold Reg.SAFE_CAUSE
    omega
  unfold State.spoLatch
  extract_lets +onlyGivenNames s1
  have w1 : s.Writes (· = Reg.SAFE_CAUSE v) s1 := (State.Writes.refl hs).setFld _ _ rfl
  have hlat1 : ∀ w, s1.spoLatched w = s.spoLatched w := fun w => congrArg (·.getLsbD w) (w1.reg hne)
  have hfirst1 : s1.fld (Reg.SAFE_CAUSE v) F.SAFE_CAUSE_FIRST = s.fld (Reg.SAFE_CAUSE v) F.SAFE_CAUSE_FIRST :=
    State.fld_setFld_other _ _ _ _ hs (by decide) (by decide)
  split
  · next hl =>
    refine ⟨fun w => ?_, fun hn => ?_, fun _ => hfirst1, fun w _ hw => w1.reg (hother hw)⟩
    · rw [hlat1]
      by_cases hw : w = v
      · subst hw
        rw [hlat1] at hl
        simp [hl]
      · simp [hw]
    · rw [hlat1, hn] at hl
      exact absurd hl (by decide)
  · next hl =>
    extract_lets +onlyGivenNames s2 srcSafe s3
    let x1 := s1.setBit Reg.SAFE_SPOLAT v true
    have wx1 : s1.Writes (· = Reg.SAFE_SPOLAT) x1 := (State.Writes.refl w1.ok).setBit _ _ rfl
    have hlatx1 : ∀ w, x1.spoLatched w = (s1.spoLatched w || w == v) := fun w => by
      refine (State.setBit_bit w1.ok (by omega) true _ w).trans ?_
      by_cases hw : w = v <;> simp [hw, State.spoLatched]
    let x2 := x1.setFld (Reg.SAFE_CAUSE v) F.SAFE_CAUSE_FIRST cause
    have wx2 : x1.Writes (· = Reg.SAFE_CAUSE v) x2 := (State.Writes.refl wx1.ok).setFld _ _ rfl
    have hfirst2 : x2.fld (Reg.SAFE_CAUSE v) F.SAFE_CAUSE_FIRST = cause := (State.fld_setFld _ _ _ wx1.ok (by decide)).trans (Nat.mod_eq_of_lt hc)
    let x3 := x2.setFld (Reg.SAFE_CAUSE v) F.SAFE_CAUSE_SRC src
    have wx3 : x2.Writes (· = Reg.SAFE_CAUSE v) x3 := (State.Writes.refl wx2.ok).setFld _ _ rfl
    have hfirst3 : x3.fld (Reg.SAFE_CAUSE v) F.SAFE_CAUSE_FIRST = cause :=
      (State.fld_setFld_other _ _ _ _ wx2.ok (by decide) (by decide)).trans hfirst2
    have ws2 : x3.Writes (fun a => a ∈ Reg.SAFE_SPOCNT :: stickRegs Stk.SPO) s2 :=
      ((State.Writes.refl wx3.ok).bump List.mem_cons_self).stick _ fun _ => List.mem_cons_of_mem _
    have ws3 : x3.Writes (fun a => a ∈ Reg.SAFE_SPOCNT :: stickRegs Stk.SPO) s3 := ws2.of_regs rfl
    clear_value s3
    have hhigh : HighRegs (fun a => 0x20000 ≤ a ∨ a ∈ logRegs) := ⟨fun _ => .inl, fun _ => .inr⟩
    have wend : s3.Writes (fun a => 0x20000 ≤ a ∨ a ∈ logRegs) ((bitsOf 32 (s3.regN (Reg.GL_CONV v))).foldl (fun t g => t.dropCarries g) s3) :=
      .foldl (fun _ _ hv => .foldl (fun _ _ hv => hv.dropCarry hhigh) hv) (.refl ws3.ok)
    have hquiet {a : Nat} (ha : spoRegs a) : ((bitsOf 32 (s3.regN (Reg.GL_CONV v))).foldl (fun t g => t.dropCarries g) s3).reg a = x3.reg a := by
      have hr := spoRegs_range ha
      refine (wend.reg ?_).trans (ws3.reg ?_)
      · rintro (hc | hc)
        · rcases hr with rfl | hr
          · exact absurd hc (by decide)
          · omega
        · have hall : ∀ a ∈ logRegs, a ≠ Reg.SAFE_SPOLAT ∧ ¬ (0x17040 ≤ a ∧ a < 0x17070) := by decide
          exact hr.elim (hall a hc).1 (hall a hc).2
      · intro hc
        have hall : ∀ a ∈ Reg.SAFE_SPOCNT :: stickRegs Stk.SPO, a ≠ Reg.SAFE_SPOLAT ∧ ¬ (0x17040 ≤ a ∧ a < 0x17070) := by decide
        exact hr.elim (hall a hc).1 (hall a hc).2
    generalize (bitsOf 32 (s3.regN (Reg.GL_CONV v))).foldl (fun t g => t.dropCarries g) s3 = y at *
    have hcv : spoRegs (Reg.SAFE_CAUSE v) := .inr ⟨v, hv, rfl⟩
    refine ⟨fun w => ?_, fun _ => (State.fld_of_reg (hquiet hcv) _).trans hfirst3, fun hn => ?_, fun w h12 hw => ?_⟩
    · rw [← hlat1 w, ← hlatx1 w]
      exact congrArg (·.getLsbD w) ((hquiet (.inl rfl)).trans ((wx3.reg hne).trans (wx2.reg hne)))
    · rw [← hlat1] at hn
      exact absurd hn hl
    · have hlat : Reg.SAFE_CAUSE w ≠ Reg.SAFE_SPOLAT := ne_of_gt (Nat.lt_add_right _ (by decide))
      rw [hquiet (.inr ⟨w, h12, rfl⟩), wx3.reg (hother hw), wx2.reg (hother hw), wx1.reg hlat, w1.reg (hother hw)]

theorem State.spoLatches_spec (hs : s.regsOk = true) {cause : Nat} (src : Nat) (hc : cause < 16) (l : List Nat) (hl : ∀ v ∈ l, v < 12) (hn : l.Nodup) :
    let t := l.foldl (fun t v => t.spoLatch v cause src) s
    (∀ w, t.spoLatched w = (s.spoLatched w || decide (w ∈ l))) ∧
      (∀ w ∈ l, s.spoLatched w = false → t.fld (Reg.SAFE_CAUSE w) F.SAFE_CAUSE_FIRST = cause) ∧
      ∀ w, w < 12 → w ∉ l → t.reg (Reg.SAFE_CAUSE w) = s.reg (Reg.SAFE_CAUSE w) := by
  induction l generalizing s with
  | nil => exact ⟨fun w => by simp, fun w hw => absurd hw List.not_mem_nil, fun _ _ _ => rfl⟩
  | cons v l ih =>
    obtain ⟨hv, hn⟩ := List.nodup_cons.mp hn
    have h12 : v < 12 := hl v List.mem_cons_self
    obtain ⟨hlat, hfirst, -, hreg⟩ := State.spoLatch_spec hs src h12 hc
    have hok : (s.spoLatch v cause src).regsOk = true := ((State.SafeWork.refl hs).spoLatch h12).ok
    obtain ⟨klat, kfirst, kreg⟩ := ih hok (fun w hw => hl w (List.mem_cons_of_mem _ hw)) hn
    refine ⟨fun w => ?_, fun w hw hnot => ?_, fun w hw hnot => ?_⟩
    · refine (klat w).trans ?_
      rw [hlat]
      by_cases hwv : w = v
      · simp [hwv]
      · simp [hwv, beq_false_of_ne hwv]
    · rcases List.mem_cons.mp hw with rfl | hw
      · exact (State.fld_of_reg (kreg w h12 hv) _).trans (hfirst hnot)
      · have hwv : w ≠ v := fun he => hv (he ▸ hw)
        exact kfirst w hw (by rw [hlat, hnot]; simp [hwv])
    · have hwv : w ≠ v := fun he => hnot (he ▸ List.mem_cons_self)
      exact (kreg w hw fun hc => hnot (List.mem_cons_of_mem _ hc)).trans (hreg w hw hwv)

/-- The registers of the outputs and of the demands are none of those of the latched SPO. -/
theorem State.pulseEnd_spec (hs : s.regsOk = true) {a : Nat} (ha : spoRegs a) : (s.demandView.soutCheck).reg a = s.reg a := by
  have hr := spoRegs_range ha
  have hw1 : s.Writes (fun a => a = Reg.SAFE_SPODEM ∨ ∃ j, j < 4 ∧ a = Reg.SAFE_SOUT j) s.demandView := (State.Writes.refl hs).setRegN _ (.inl rfl)
  have hw : s.Writes (fun a => a = Reg.SAFE_SPODEM ∨ ∃ j, j < 4 ∧ a = Reg.SAFE_SOUT j) s.demandView.soutCheck := by
    refine List.foldlRecOn (motive := fun v : State => s.Writes _ v) _ _ hw1 fun v hv j hj => .ite ?_ hv
    unfold State.soutOff
    extract_lets src u
    have hreg : Reg.SAFE_SOUT j = Reg.SAFE_SPODEM ∨ ∃ k, k < 4 ∧ Reg.SAFE_SOUT j = Reg.SAFE_SOUT k := .inr ⟨j, List.mem_range.mp hj, rfl⟩
    have hu : s.Writes (fun a => a = Reg.SAFE_SPODEM ∨ ∃ j, j < 4 ∧ a = Reg.SAFE_SOUT j) u := hv.of_regs rfl
    exact ((hu.setFld _ _ hreg).setFld _ _ hreg).setFld _ _ hreg
  refine hw.reg ?_
  unfold Reg.SAFE_SPODEM Reg.SAFE_SOUT
  rintro (hc | ⟨j, hj, hc⟩)
  · rcases hr with hr | hr
    · exact absurd (hc.symm.trans hr) (by decide)
    · omega
  · rcases hr with hr | hr
    · unfold Reg.SAFE_SPOLAT at hr
      omega
    · omega

theorem State.demandPulse_spec (hs : s.regsOk = true) {cause : Nat} (src : Nat) (hc : cause < 16) (convs : Nat) :
    (∀ w, w < 12 → (s.demandPulse cause src convs).spoLatched w = (s.spoLatched w || convs.testBit w)) ∧
      ∀ w, w < 12 → convs.testBit w = true → s.spoLatched w = false →
        (s.demandPulse cause src convs).fld (Reg.SAFE_CAUSE w) F.SAFE_CAUSE_FIRST = cause := by
  obtain ⟨hlat, hfirst, -⟩ := State.spoLatches_spec hs src hc (bitsOf 12 convs) (fun v hv => (mem_bitsOf.mp hv).1) (List.nodup_range.filter _)
  have hok : ((bitsOf 12 convs).foldl (fun t v => t.spoLatch v cause src) s).regsOk = true := (State.SafeWork.refl hs).spoLatches.ok
  refine ⟨fun w hw => ?_, fun w hw hb hn => ?_⟩
  · refine (congrArg (·.getLsbD w) (State.pulseEnd_spec hok (.inl rfl))).trans ((hlat w).trans ?_)
    cases hb : convs.testBit w <;> simp [mem_bitsOf, hw, hb]
  · exact (State.fld_of_reg (State.pulseEnd_spec hok (.inr ⟨w, hw, rfl⟩)) _).trans (hfirst w (mem_bitsOf.mpr ⟨hw, hb⟩) hn)

/-- A command of the safety unit goes on to its end after such work. -/
theorem State.runs.worked {opc : Nat} (h : s.runs tag opc c) (hk : (s.begun tag c).SafeWork u) (status : Nat) (result : Word) :
    (u.finish tag status result).completed (c.comp tag status result) ∧ u.keeps (u.finish tag status result) [.regs, .mbx, .out] ∧
      (u.finish tag status result).safe = u.safe ∧ ∀ a, workRegs a → (u.finish tag status result).reg a = u.reg a := by
  have hready := (h.ready tag.isLt).away hk.writes (fun _ => workRegs_away) hk.events.mailKept
  have hfin := hready.finished status result 0 0 0#32 0#32
  obtain ⟨-, -, -, -, -, -, -, -, -, -, -, -, ksafe, -⟩ := hfin.keeps
  exact ⟨hready.finish_completed status result 0 0 0#32 0#32, hfin.keeps, ksafe.resolve_left (by decide),
    fun a ha => hfin.writes.reg (awayRegs_cq (workRegs_away ha))⟩

theorem execSpo_spec (h : s.runs tag 0x403 c) :
    (c.pw 0 < 4096 →
        ∃ t, exec (.spo tag) s = .next t ∧ t.completed (c.comp tag stOk) ∧ s.keeps t ([.pwm, .safe, .mbx] ++ logParts) ∧
          (∀ v, v < 12 → t.spoLatched v = (s.spoLatched v || (c.pw 0).testBit v)) ∧
          ∀ v, v < 12 → (c.pw 0).testBit v = true → s.spoLatched v = false → t.fld (Reg.SAFE_CAUSE v) F.SAFE_CAUSE_FIRST = 12) ∧
      (4096 ≤ c.pw 0 → ∃ t, exec (.spo tag) s = .next t ∧ t.completed (c.comp tag stRange 8#32) ∧ s.justEnds t tag c) := by
  let b := s.begun tag c
  have hexec : exec (.spo tag) s = .next (if 4096 ≤ c.pw 0 then b.finish tag stRange 8#32 else (b.demandPulse 12 0 (c.pw 0)).finish tag stOk) :=
    congrArg Host.Outcome.next (State.command_runs h)
  refine ⟨fun hlt => ?_, fun hge => ?_⟩
  · rw [if_neg (by omega)] at hexec
    have hbok : b.regsOk = true := h.regsOk
    have hk : b.SafeWork (b.demandPulse 12 0 (c.pw 0)) := (State.SafeWork.refl hbok).demandPulse
    have hm : b.Moves [] (.pwm :: .safe :: logParts) (b.demandPulse 12 0 (c.pw 0)) := .demandPulse (.refl b) (by decide)
    obtain ⟨hlat, hfirst⟩ := State.demandPulse_spec hbok 0 (by decide : 12 < 16) (c.pw 0)
    generalize b.demandPulse 12 0 (c.pw 0) = u at *
    obtain ⟨hcomp, hkeeps, -, hreg⟩ := h.worked hk stOk 0#32
    refine ⟨_, hexec, hcomp, State.keeps_trans (State.keeps_mono (State.onlyDid_begun s tag c).keeps (by decide)) (State.keeps_trans
      (State.keeps_mono hm.keeps (by decide)) (State.keeps_mono hkeeps (by decide))), fun v hv => ?_, fun v hv hb hn => ?_⟩
    · exact (congrArg (·.getLsbD v) (hreg _ (workRegs_of (by decide)))).trans (hlat v hv)
    · exact (State.fld_of_reg (hreg _ (workRegs_of (.inr (by unfold Reg.SAFE_CAUSE; omega)))) _).trans (hfirst v hv hb hn)
  · rw [if_pos hge] at hexec
    exact ⟨_, hexec, h.ends tag.isLt stRange 8#32 0 0 0#32 0#32⟩

/-! ## SPO_RESET -/

/-- The clear of one converter's SPO: its bit, and what stays of the others and of the outputs (R306). -/
theorem State.spoClear_spec (hs : s.regsOk = true) {v : Nat} (hv : v < 12) :
    (∀ w, (s.spoClear v).spoLatched w = (s.spoLatched w && w != v)) ∧ (s.spoClear v).safe.sout = s.safe.sout := by
  unfold State.spoClear
  split
  · next hn =>
    refine ⟨fun w => ?_, rfl⟩
    by_cases hw : w = v
    · subst hw
      simpa using hn
    · simp [bne_iff_ne.mpr hw]
  · extract_lets +onlyGivenNames s1 srcSafe srcGl s2
    let x := s.setBit Reg.SAFE_SPOLAT v false
    have hx : ∀ w, x.spoLatched w = (s.spoLatched w && w != v) := fun w => by
      refine (State.setBit_bit hs (by omega) false _ w).trans ?_
      by_cases hw : w = v <;> simp [hw, State.spoLatched]
    have wx : x.regsOk = true := ((State.Writes.refl (m := (· = Reg.SAFE_SPOLAT)) hs).setBit _ _ rfl).ok
    have w1 : x.Writes (· = Reg.SAFE_CAUSE v) s1 :=
      ((State.Writes.refl (m := (· = Reg.SAFE_CAUSE v)) wx).setFld _ _ rfl).setFld _ _ rfl
    have w2 : x.Writes (· = Reg.SAFE_CAUSE v) s2 := w1.of_regs rfl
    have hsout2 : s2.safe.sout = s.safe.sout := rfl
    clear_value s2
    let y := (bitsOf 32 (s2.regN (Reg.GL_CONV v))).foldl
      (fun t g => if t.flag (Reg.PWM_LGCFG g) F.PWM_LGCFG_EN then t.lgMod g (fun l => { l with reopen := true }) else t) s2
    have hy : y.regs = s2.regs ∧ y.safe = s2.safe := by
      refine List.foldlRecOn (motive := fun z : State => z.regs = s2.regs ∧ z.safe = s2.safe) _ _ ⟨rfl, rfl⟩ fun z hz g _ => ?_
      split
      · exact hz
      · exact hz
    show (∀ w, y.spoLatched w = _) ∧ y.safe.sout = _
    refine ⟨fun w => ?_, by rw [hy.2, hsout2]⟩
    rw [← hx w]
    have hne : Reg.SAFE_SPOLAT ≠ Reg.SAFE_CAUSE v := ne_of_lt (Nat.lt_add_right _ (by decide))
    exact congrArg (·.getLsbD w) ((State.reg_of_regs hy.1 _).trans (w2.reg hne))

theorem State.spoClears_spec (hs : s.regsOk = true) (l : List Nat) (hl : ∀ v ∈ l, v < 12) :
    (∀ w, (l.foldl (fun (x : State) v => x.spoClear v) s).spoLatched w = (s.spoLatched w && !decide (w ∈ l))) ∧
      (l.foldl (fun (x : State) v => x.spoClear v) s).safe.sout = s.safe.sout := by
  induction l generalizing s with
  | nil => exact ⟨fun w => by simp, rfl⟩
  | cons v l ih =>
    obtain ⟨hlat, hsout⟩ := State.spoClear_spec hs (hl v List.mem_cons_self)
    have hok : (s.spoClear v).regsOk = true := ((State.SafeWork.refl hs).spoClear (hl v List.mem_cons_self)).ok
    obtain ⟨klat, ksout⟩ := ih hok fun w hw => hl w (List.mem_cons_of_mem _ hw)
    refine ⟨fun w => (klat w).trans ?_, ksout.trans hsout⟩
    rw [hlat]
    by_cases hwv : w = v
    · simp [hwv]
    · simp [hwv, bne_iff_ne.mpr hwv]

/-- The clear of one output's fault, and what stays of the others and of SPO (R319). -/
theorem State.soutClear_spec (hs : s.regsOk = true) {j : Nat} (hj : j < s.safe.sout.length) :
    (∀ w, (s.soutClear j).spoLatched w = s.spoLatched w) ∧ (s.soutClear j).safe.sout.length = s.safe.sout.length ∧
      (s.soutClearable j = true → ((s.soutClear j).safe.sout.at j).fault = 0) ∧
      (s.soutClearable j = false → (s.soutClear j).safe.sout = s.safe.sout) ∧
      ∀ k, k ≠ j → (s.soutClear j).safe.sout.at k = s.safe.sout.at k := by
  unfold State.soutClear
  split
  · next hn =>
    have hn : s.soutClearable j = false := by simpa using hn
    exact ⟨fun _ => rfl, rfl, fun h => absurd (h.symm.trans hn) (by decide), fun _ => rfl, fun _ _ => rfl⟩
  · next hy =>
    have hy : s.soutClearable j = true := by simpa using hy
    extract_lets +onlyGivenNames s1
    let s2 := (s1.setFld (Reg.SAFE_SOUT j) F.SAFE_SOUT_FAULT 0).setFld (Reg.SAFE_SOUT j) F.SAFE_SOUT_KIND 0
    have w1 : s.Writes (fun a => a = Reg.SAFE_SPODEM ∨ a = Reg.SAFE_SOUT j) s1 := (State.Writes.refl hs).of_regs rfl
    have w2 : s.Writes (fun a => a = Reg.SAFE_SPODEM ∨ a = Reg.SAFE_SOUT j) s2 := (w1.setFld _ _ (.inr rfl)).setFld _ _ (.inr rfl)
    let s3 : State := { s2 with safe := { s2.safe with demands := s2.safe.demands.filter (fun d => !(d.cause = 13 && d.src = j)) } }
    have hd : s2.demandDrop 13 j = s3.demandView := rfl
    have w3 : s.Writes (fun a => a = Reg.SAFE_SPODEM ∨ a = Reg.SAFE_SOUT j) (s2.demandDrop 13 j) := (w2.of_regs (u := s3) rfl).setRegN _ (.inl rfl)
    have hsout : (s2.demandDrop 13 j).safe.sout = s.safe.sout.mod j (fun o => { o with fault := 0, testPassed := false }) := rfl
    have hne : ¬ (Reg.SAFE_SPOLAT = Reg.SAFE_SPODEM ∨ Reg.SAFE_SPOLAT = Reg.SAFE_SOUT j) := by
      unfold Reg.SAFE_SPOLAT Reg.SAFE_SPODEM Reg.SAFE_SOUT
      omega
    show (∀ w, (s2.demandDrop 13 j).spoLatched w = _) ∧ _
    refine ⟨fun w => congrArg (·.getLsbD w) (w3.reg hne), ?_, fun _ => ?_, fun hn => absurd (hy.symm.trans hn) (by decide), fun k hk => ?_⟩
    · rw [hsout]
      simp [Tab.mod]
    · rw [hsout, Tab.at_mod_same _ _ _ hj]
    · rw [hsout, Tab.at_mod_ne _ _ hk]

theorem State.soutClears_spec (hs : s.regsOk = true) (hlen : s.safe.sout.length = 4) (l : List Nat) (hl : ∀ j ∈ l, j < 4) (hn : l.Nodup) :
    let t := l.foldl (fun (x : State) j => x.soutClear j) s
    (∀ w, t.spoLatched w = s.spoLatched w) ∧ (∀ k, k ∉ l → t.safe.sout.at k = s.safe.sout.at k) ∧
      ∀ j ∈ l, ((s.safe.sout.at j).fault ≠ 0 → s.soutClearable j = true) → (t.safe.sout.at j).fault = 0 := by
  induction l generalizing s with
  | nil => exact ⟨fun _ => rfl, fun _ _ => rfl, fun j hj => absurd hj List.not_mem_nil⟩
  | cons i l ih =>
    obtain ⟨hi, hn⟩ := List.nodup_cons.mp hn
    have h4 : i < 4 := hl i List.mem_cons_self
    obtain ⟨hlat, hl4, hclear, hkeep, hother⟩ := State.soutClear_spec hs (hlen.symm ▸ h4 : i < s.safe.sout.length)
    have hok : (s.soutClear i).regsOk = true := ((State.SafeWork.refl hs).soutClear h4).ok
    obtain ⟨klat, kother, kclear⟩ := ih hok (hl4.trans hlen) (fun j hj => hl j (List.mem_cons_of_mem _ hj)) hn
    refine ⟨fun w => (klat w).trans (hlat w), fun k hk => ?_, fun j hj hc => ?_⟩
    · exact (kother k fun h => hk (List.mem_cons_of_mem _ h)).trans (hother k fun he => hk (he ▸ List.mem_cons_self))
    · rcases List.mem_cons.mp hj with rfl | hj
      · refine (congrArg SoutState.fault (kother j hi)).trans ?_
        cases hcl : s.soutClearable j with
        | true => exact hclear hcl
        | false =>
          rw [hkeep hcl]
          by_contra hf
          exact absurd (hcl.symm.trans (hc hf)) (by decide)
      · have hji : j ≠ i := fun he => hi (he ▸ hj)
        have hat := hother j hji
        refine kclear j hj fun hf => ?_
        rw [hat] at hf
        have hcj := hc hf
        simp only [State.soutClearable] at hcj ⊢
        rw [hat]
        exact hcj

/-- That the command has started is nothing that the clears see. -/
theorem State.soutClears_begun (s : State) (tag : Nat) (c : MCmd) (l : List Nat) :
    l.foldl (fun (x : State) j => x.soutClear j) (s.begun tag c) =
      { l.foldl (fun (x : State) j => x.soutClear j) s with mbx := (s.begun tag c).mbx } := by
  suffices h : ∀ (m : MbxState) (x : State), l.foldl (fun (x : State) j => x.soutClear j) { x with mbx := m } =
      { l.foldl (fun (x : State) j => x.soutClear j) x with mbx := m } from h _ s
  intro m
  induction l with
  | nil => exact fun _ => rfl
  | cons j l ih =>
    intro x
    have hstep : State.soutClear { x with mbx := m } j = { x.soutClear j with mbx := m } := by
      unfold State.soutClear
      rw [show State.soutClearable { x with mbx := m } j = x.soutClearable j from rfl]
      cases x.soutClearable j <;> rfl
    rw [List.foldl_cons, List.foldl_cons, hstep]
    exact ih _

theorem execSpoReset_spec (h : s.runs tag 0x404 c) :
    (let u := (bitsOf 4 (c.pw 1)).foldl (fun (x : State) j => x.soutClear j) s
     ((∀ j, j < 4 → (c.pw 1).testBit j = true → (s.safe.sout.at j).fault ≠ 0 → s.soutClearable j = true) →
       (∀ v, v < 12 → (c.pw 0).testBit v = true → u.spoClearable v = true) →
       ∃ t, exec (.spoReset tag) s = .next t ∧ t.completed (c.comp tag stOk) ∧ s.keeps t ([.pwm, .gl, .safe, .mbx] ++ logParts) ∧
         (∀ v, v < 12 → (c.pw 0).testBit v = true → t.spoLatched v = false) ∧
         (∀ v, v < 12 → (c.pw 0).testBit v = false → t.spoLatched v = s.spoLatched v) ∧
         ∀ j, j < 4 → (c.pw 1).testBit j = true → (t.safe.sout.at j).fault = 0) ∧
     ((∃ j, j < 4 ∧ (c.pw 1).testBit j = true ∧ (s.safe.sout.at j).fault ≠ 0 ∧ s.soutClearable j = false) →
       ∃ t, exec (.spoReset tag) s = .next t ∧ t.completed (c.comp tag stSafety 9#32) ∧ s.justEnds t tag c)) := by
  intro u
  let b := s.begun tag c
  let os := bitsOf 4 (c.pw 1)
  let vs := bitsOf 12 (c.pw 0)
  let ub := os.foldl (fun (x : State) j => x.soutClear j) b
  let w := vs.foldl (fun (x : State) v => x.spoClear v) ub
  have hub : ub = { u with mbx := b.mbx } := State.soutClears_begun s tag c os
  have hclearable : ∀ v, ub.spoClearable v = u.spoClearable v := fun v => by
    rw [hub]
    rfl
  have hexec : exec (.spoReset tag) s = .next (if os.any (fun j => (s.safe.sout.at j).fault ≠ 0 && !s.soutClearable j) then b.finish tag stSafety 9#32
      else if vs.any (fun v => !ub.spoClearable v) then b.finish tag stSafety 8#32 else w.finish tag stOk) :=
    congrArg Host.Outcome.next (State.command_runs h)
  refine ⟨fun hout hspo => ?_, fun hbad => ?_⟩
  · have hno1 : ¬ os.any (fun j => (s.safe.sout.at j).fault ≠ 0 && !s.soutClearable j) = true := by
      intro hany
      obtain ⟨j, hj, hb⟩ := List.any_eq_true.mp hany
      obtain ⟨h4, hbit⟩ := mem_bitsOf.mp hj
      simp only [Bool.and_eq_true, decide_eq_true_eq, Bool.not_eq_true'] at hb
      exact absurd (hb.2.symm.trans (hout j h4 hbit hb.1)) (by decide)
    have hno2 : ¬ vs.any (fun v => !ub.spoClearable v) = true := by
      intro hany
      obtain ⟨v, hv, hb⟩ := List.any_eq_true.mp hany
      obtain ⟨h12, hbit⟩ := mem_bitsOf.mp hv
      rw [hclearable, hspo v h12 hbit] at hb
      exact absurd hb (by decide)
    rw [if_neg hno1, if_neg hno2] at hexec
    have hbok : b.regsOk = true := h.regsOk
    have hb4 : b.safe.sout.length = 4 := (State.sized_of_inv h.inv).safe.2.2.2.1
    have hk1 : b.SafeWork ub := .foldl (fun _ _ hj hv => hv.soutClear (mem_bitsOf.mp hj).1) (.refl hbok)
    have hk2 : b.SafeWork w := .foldl (fun _ _ hv hx => hx.spoClear (mem_bitsOf.mp hv).1) hk1
    have hm : b.Moves [] [.regs, .pwm, .gl, .safe] w :=
      .foldl (fun _ _ hv => hv.spoClear (by decide)) (.foldl (fun _ _ hv => hv.soutClear (by decide)) (.refl b))
    obtain ⟨hlat1, -, hfault1⟩ := State.soutClears_spec hbok hb4 os (fun j hj => (mem_bitsOf.mp hj).1) (List.nodup_range.filter _)
    obtain ⟨hlat2, hsout2⟩ := State.spoClears_spec hk1.ok vs fun v hv => (mem_bitsOf.mp hv).1
    have hlat : ∀ v, w.spoLatched v = (s.spoLatched v && !decide (v ∈ vs)) := fun v => (hlat2 v).trans (by rw [hlat1]; rfl)
    have hfault : ∀ j, j < 4 → (c.pw 1).testBit j = true → (w.safe.sout.at j).fault = 0 := fun j h4 hbit => by
      rw [hsout2]
      exact hfault1 j (mem_bitsOf.mpr ⟨h4, hbit⟩) (hout j h4 hbit)
    clear_value w
    obtain ⟨hcomp, hkeeps, hsafe, hreg⟩ := h.worked hk2 stOk 0#32
    have hlatf : ∀ v, (w.finish tag stOk).spoLatched v = w.spoLatched v := fun v => congrArg (·.getLsbD v) (hreg _ (workRegs_of (by decide)))
    refine ⟨_, hexec, hcomp, State.keeps_trans (State.keeps_mono (State.onlyDid_begun s tag c).keeps (by decide)) (State.keeps_trans
      (State.keeps_mono hm.keeps (by decide)) (State.keeps_mono hkeeps (by decide))), fun v h12 hbit => ?_, fun v h12 hbit => ?_, fun j h4 hbit => ?_⟩
    · rw [hlatf, hlat, decide_eq_true (mem_bitsOf.mpr ⟨h12, hbit⟩)]
      simp
    · rw [hlatf, hlat, decide_eq_false (fun hc => absurd (hbit.symm.trans (mem_bitsOf.mp hc).2) (by decide))]
      simp
    · rw [hsafe]
      exact hfault j h4 hbit
  · obtain ⟨j, h4, hbit, hf, hc⟩ := hbad
    rw [if_pos (List.any_eq_true.mpr ⟨j, mem_bitsOf.mpr ⟨h4, hbit⟩, by simp [hf, hc]⟩)] at hexec
    exact ⟨_, hexec, h.ends tag.isLt stSafety 9#32 0 0 0#32 0#32⟩

/-- Settles O54: SPO and its reset act on the bits of SAFE_SPOLAT one converter at a time. -/
theorem safetyCommands : Obligations.SafetyCommands := by
  unfold Obligations.SafetyCommands
  exact fun s tag c => ⟨execSafeCfg_spec, execSafeConfirm_spec, execSpo_spec, execSpoReset_spec⟩

end Sys2Proof.Machine
end

section
/-!
PROOFS. The command STATE, the ways out of RUN, and TIME_SET (R47, R58, R437): O50.
-/
namespace Sys2Proof.Machine

variable {s t u : State} {tag : Fin 64} {c : MCmd}

/-! ## The way into RUN -/

theorem State.begun_runBars (s : State) (n : Nat) (c : MCmd) : (s.begun n c).runBars = s.runBars := rfl

theorem State.begun_runResult (s : State) (n : Nat) (c : MCmd) : (s.begun n c).runResult = s.runResult := rfl

theorem execState_eq (h : s.runs tag 0x03 c) : exec (.state tag) s = .next (
    if 2 < c.pw 0 then (s.begun tag c).finish tag stRange 8#32
    else if s.pwr.leaving.isSome then (s.begun tag c).finish tag stBusy
    else if c.pw 0 = 0 then (s.begun tag c).askRun tag
    else if c.pw 0 = 1 then (if s.dev == .run then ((s.begun tag c).leaveRun false tag).leaveCheck else (s.begun tag c).finish tag stOk)
    else if s.dev == .run then ((s.begun tag c).leaveRun true tag).leaveCheck
    else ((s.begun tag c).finish tag stOk).toWatch 1) :=
  congrArg Host.Outcome.next (State.command_runs h)

theorem State.Events.transition (h : s.Events t) {d : DevState} {cause : Nat} {srcs : List Nat} : s.Events (t.transition d cause srcs) := by
  unfold State.transition
  extract_lets +onlyGivenNames ws rs
  exact (h.enqueue (rs := rs) (pin := false)).overflowStk.andEq rfl rfl

theorem State.transition_dev (s : State) (d : DevState) (cause : Nat) (srcs : List Nat) : (s.transition d cause srcs).dev = d := rfl

theorem State.pwrMod_parts (s : State) (f : PowerState → PowerState) : (s.pwrMod f).dev = s.dev ∧ (s.pwrMod f).mbx = s.mbx ∧ (s.pwrMod f).pwr = f s.pwr := ⟨rfl, rfl, rfl⟩

theorem State.fabricLeave_dev (s : State) : s.fabricLeave.dev = s.dev := rfl

theorem State.toRun_spec (s : State) (tag : Nat) : (s.toRun tag).dev = .run ∧ (s.toRun tag).pwr.entering = some tag ∧ s.MailKept (s.toRun tag) ∧
    (s.toRun tag).gt = s.gt ∧ (s.toRun tag).pan = s.pan ∧ (s.toRun tag).safe = s.safe := by
  unfold State.toRun
  extract_lets +onlyGivenNames t u sdf
  have hmt : s.Moves [.dev] (.dev :: .pwr :: logParts) t := .pwrMod (.transition (.refl s) (.inl (by decide)) (by decide)) (by decide)
  obtain ⟨hdev0, hmbx0, hpwr0⟩ := (s.transition .run 1).pwrMod_parts (fun p => { p with entering := some tag })
  have hmail : s.MailKept t := ((State.Events.refl s).transition (d := .run) (cause := 1) (srcs := [])).mailKept.trans (.of_eq hmbx0)
  have hdev : t.dev = .run := hdev0.trans (State.transition_dev _ _ _ _)
  have hpwr : t.pwr.entering = some tag := congrArg PowerState.entering hpwr0
  have hmu : t.Moves [.dev] [.regs, .tim, .ket, .pwm, .gl] u := .fabricRun (.ketReinit (.refl t) (by decide)) (by decide)
  clear_value u t
  refine ⟨(hmu.dev_kept (by decide)).trans hdev, ?_, hmail.trans (.of_eq (hmu.mbx_kept (by decide))), ?_, ?_, ?_⟩
  · exact (congrArg PowerState.entering (hmu.pwr_kept (by decide))).trans hpwr
  · exact (hmu.gt_kept (by decide)).trans (hmt.gt_kept (by decide))
  · exact (hmu.pan_kept (by decide)).trans (hmt.pan_kept (by decide))
  · exact (hmu.safe_kept (by decide)).trans (hmt.safe_kept (by decide))

theorem State.runResult_odd (h : s.regN Reg.SAFE_SPOLAT ≠ 0) : s.runBars.find? (fun e => e.2 ≠ 0) = some (stSafety, 1) ∧ (w32 s.runResult).getLsbD 0 = true := by
  have hb : bit (s.regN Reg.SAFE_SPOLAT ≠ 0 || s.demandMask ≠ 0) = 1 := by simp [bit, h]
  have hbars : ∃ a b c d, s.runBars = [(stSafety, 1), (stRange, a), (stBusy, b), (stBusy, c), (stBusy, d)] := by
    unfold State.runBars
    rw [hb]
    exact ⟨_, _, _, _, rfl⟩
  obtain ⟨x1, x2, x3, x4, hbars⟩ := hbars
  have hres : s.runResult % 2 = 1 := by
    unfold State.runResult
    rw [hbars]
    simp only [List.zipIdx_cons, List.zipIdx_nil, List.foldl_cons, List.foldl_nil]
    omega
  refine ⟨by rw [hbars]; rfl, ?_⟩
  rw [w32, BitVec.getLsbD_ofNat, Nat.testBit_zero]
  simp [hres]

/-! ## The way out of RUN -/

theorem KMap.wf_drop {α : Type} {m : KMap α} (h : KMap.wf m = true) (a : Nat) : KMap.wf (KMap.drop m a) = true := by
  have hsub : ∀ (l : KMap α), List.Sublist (KMap.drop l a) l := by
    intro l
    induction l with
    | nil => exact List.Sublist.refl _
    | cons e r ih =>
      simp only [KMap.drop]
      split
      · exact List.sublist_cons_self _ _
      · exact ih.cons_cons _
  rw [KMap.wf_iff] at h ⊢
  exact h.sublist (hsub m)

/-- Commands are ended, registers but the pair's state are written. -/
structure State.Drops (s t : State) : Prop where
  ok : t.regsOk = true
  sup : t.reg Reg.SUP_STAT = s.reg Reg.SUP_STAT
  wf : KMap.wf s.mbx.cmds = true → KMap.wf t.mbx.cmds = true

theorem State.cqWrite_cmds (s : State) (m : MComp) : (s.cqWrite m).mbx.cmds = s.mbx.cmds := by
  have hwords : ∀ (a : Nat) (ws : List Word) (v : State), (v.setWords a ws).mbx = v.mbx := fun a ws v =>
    List.foldlRecOn (motive := fun x : State => x.mbx = v.mbx) ws.zipIdx _ rfl fun x hx e _ => hx
  have htag : ∀ (v : State) (n : Nat) (b : Bool), (v.setTagOut n b).mbx = v.mbx := fun v n b => by
    unfold State.setTagOut
    split <;> rfl
  unfold State.cqWrite
  extract_lets +onlyGivenNames n s1 srcMbx s2 srcOut s3
  have h1 : s1.mbx = s.mbx := hwords _ _ _
  have h2 : s2.mbx.cmds = s1.mbx.cmds := by
    dsimp only [s2]
    split <;> rfl
  have h3 : s3.mbx = s2.mbx := by
    dsimp only [s3]
    split <;> rfl
  split
  · rw [h3, h2, h1]
  · rw [htag, h3, h2, h1]

theorem State.cqDrain_cmds (q n : Nat) (s : State) : (State.cqDrain q n s).mbx.cmds = s.mbx.cmds := by
  induction n generalizing s with
  | zero => rfl
  | succ n ih =>
    unfold State.cqDrain
    split
    · rfl
    · split
      · rfl
      · exact (ih _).trans (State.cqWrite_cmds _ _)

theorem State.mboxReady_mbx (s : State) : s.mboxReady.mbx = s.mbx := by
  unfold State.mboxReady
  split <;> rfl

/-- The end of a command drops it, while the pair works. -/
theorem State.finish_cmds (s : State) (n status : Nat) (result : Word) (dlen cidx : Nat) (v0 v1 : Word) :
    (s.finish n status result dlen cidx v0 v1).mbx.cmds = if s.supFailed || (s.mbx.cmds.find n).isNone then s.mbx.cmds else s.mbx.cmds.drop n := by
  unfold State.finish
  cases hf : s.supFailed with
  | true => rfl
  | false =>
    simp only [Bool.false_eq_true, if_false, Bool.false_or]
    split
    · next hn =>
      rw [hn]
      rfl
    · next c hc =>
      rw [hc]
      split
      · exact congrArg MbxState.cmds (State.mboxReady_mbx _)
      · exact State.cqDrain_cmds _ _ _

namespace State.Drops

theorem refl (h : s.regsOk = true) : s.Drops s := ⟨h, rfl, id⟩

theorem trans (h : s.Drops t) (k : t.Drops u) : s.Drops u := ⟨k.ok, k.sup.trans h.sup, k.wf ∘ h.wf⟩

/-- A change that ends no command. -/
theorem wrote (h : s.Drops t) {m : Nat → Prop} (w : t.Writes m u) (hm : ¬ m Reg.SUP_STAT) (hc : u.mbx.cmds = t.mbx.cmds) : s.Drops u :=
  h.trans ⟨w.ok, w.reg hm, fun hw => hc ▸ hw⟩

theorem beside (h : s.Drops t) (hr : u.regs = t.regs) (hc : u.mbx = t.mbx) : s.Drops u :=
  h.wrote (m := fun _ => False) ((State.Writes.refl h.ok).of_regs hr) id (by rw [hc])

theorem ite {c : Prop} [Decidable c] (ht : s.Drops t) (hu : s.Drops u) : s.Drops (if c then t else u) := by
  split
  · exact ht
  · exact hu

theorem foldl {α : Type} {f : State → α → State} {l : List α} (hf : ∀ v x, s.Drops v → s.Drops (f v x)) (h : s.Drops t) : s.Drops (l.foldl f t) :=
  List.foldlRecOn l f h fun v hv x _ => hf v x hv

theorem finish (h : s.Drops t) {n status : Nat} {result : Word} {dlen cidx : Nat} {v0 v1 : Word} : s.Drops (t.finish n status result dlen cidx v0 v1) := by
  have hw : t.Writes mailRegs (t.finish n status result dlen cidx v0 v1) := (State.Writes.refl h.ok).finish fun _ => id
  refine h.trans ⟨hw.ok, hw.reg (not_mailRegs (by decide)), fun hwf => ?_⟩
  rw [State.finish_cmds]
  split
  · exact hwf
  · exact KMap.wf_drop hwf n

theorem finishes (h : s.Drops t) {l : List Nat} : s.Drops (l.foldl (fun y n => y.finish n stBusy) t) := .foldl (fun _ _ hy => hy.finish) h

theorem setFld (h : s.Drops t) {a n : Nat} {f : Fld} (ha : a ≠ Reg.SUP_STAT) : s.Drops (t.setFld a f n) :=
  h.wrote (m := (· = a)) ((State.Writes.refl h.ok).setFld _ _ rfl) (fun hc => ha hc.symm) rfl

theorem demandDrop (h : s.Drops t) {cause src : Nat} : s.Drops (t.demandDrop cause src) :=
  h.wrote (m := (· = Reg.SAFE_SPODEM))
    (((State.Writes.refl h.ok).of_regs (u := { t with safe := { t.safe with demands := t.safe.demands.filter (fun d => !(d.cause = cause && d.src = src)) } }) rfl).setRegN _ rfl)
    (by decide) rfl

theorem transition (h : s.Drops t) {d : DevState} {cause : Nat} : s.Drops (t.transition d cause) :=
  h.wrote (m := (· ∈ logRegs)) ((State.LogSteps.refl h.ok).transition d cause [] fun _ => id).writes (by decide)
    (State.Events.refl t).transition.mailKept.cmds

theorem pwrMod (h : s.Drops t) {f : PowerState → PowerState} : s.Drops (t.pwrMod f) := h.beside rfl rfl

theorem ketMod (h : s.Drops t) {b : Nat} {f : Binding → Binding} : s.Drops (t.ketMod b f) := h.beside rfl rfl

theorem lgMod (h : s.Drops t) {g : Nat} {f : LegGroup → LegGroup} : s.Drops (t.lgMod g f) := h.beside rfl rfl

theorem fabricLeave (h : s.Drops t) : s.Drops t.fabricLeave := h.beside rfl rfl

theorem enterDone (h : s.Drops t) : s.Drops t.enterDone := by
  unfold State.enterDone
  split
  · exact h.pwrMod.finish
  · exact h

theorem ketLeave (h : s.Drops t) : s.Drops t.ketLeave := by
  unfold State.ketLeave
  extract_lets +onlyGivenNames s1
  have hs1 : s.Drops s1 := .ite (h.beside rfl rfl) h
  refine .foldl (fun v b hv => ?_) hs1
  extract_lets +onlyGivenNames t1
  have ht1 : s.Drops t1 := by
    dsimp only [t1]
    split
    · exact hv.finish
    · exact hv
  exact ht1.ketMod.demandDrop

theorem limitReset (h : s.Drops t) : s.Drops t.limitReset := .foldl (fun _ _ hv => hv.demandDrop) (h.beside rfl rfl)

end State.Drops

/-- What leaving RUN leaves (R47): STANDBY, and the command that waits for the fabric and the engines. -/
theorem State.leaveRun_spec (hs : s.regsOk = true) (watch : Bool) (n : Nat) :
    s.Drops (s.leaveRun watch n) ∧ (s.leaveRun watch n).dev = .standby ∧ (s.leaveRun watch n).pwr.leaving = some (watch, n) := by
  unfold State.leaveRun
  extract_lets +onlyGivenNames v u w pts
  have hv : s.Drops v := (State.Drops.enterDone (.refl hs)).transition.fabricLeave
  have hdv : v.dev = .standby := (State.fabricLeave_dev _).trans (State.transition_dev _ _ _ _)
  clear_value v
  have hu : s.Drops u := hv.ketLeave.limitReset
  have hmu : v.Moves [] [.regs, .safe, .ket, .mbx, .out] u := .limitReset (.ketLeave (.refl v) (by decide)) (by decide)
  clear_value u
  have hw : s.Drops w := by
    refine .foldl (fun x g hx => ?_) hu
    have hne : Reg.PWM_HUPD g ≠ Reg.SUP_STAT := ne_of_gt (Nat.lt_add_right _ (by decide))
    exact .ite hx (State.Drops.finishes ((hx.setFld hne).lgMod))
  have hmw : u.Moves [] [.regs, .pwm, .mbx, .out] w :=
    .foldl (fun _ _ hx => .ite hx (.foldl (fun _ _ hy => hy.finish (by decide)) ((hx.setFld (by decide)).lgMod (by decide)))) (.refl u)
  clear_value w
  refine ⟨hw.beside rfl rfl, ?_, rfl⟩
  show w.dev = _
  rw [hmw.dev_kept (by decide), hmu.dev_kept (by decide), hdv]

theorem State.Drops.supFailed (h : s.Drops t) : t.supFailed = s.supFailed := congrArg (· == 4) (State.fld_of_reg h.sup _)

/-- A command that ends is gone. -/
theorem State.finish_gone (hwf : KMap.wf s.mbx.cmds = true) (hup : s.supFailed = false) (n status : Nat) (result : Word) (dlen cidx : Nat) (v0 v1 : Word) :
    (s.finish n status result dlen cidx v0 v1).mbx.cmds.find n = none := by
  rw [State.finish_cmds, hup, Bool.false_or]
  split
  · next h => exact Option.isNone_iff_eq_none.mp h
  · exact KMap.find_drop_same hwf n

theorem State.leave_spec (hs : s.regsOk = true) (hwf : KMap.wf s.mbx.cmds = true) (hup : s.supFailed = false) (watch : Bool) (n : Nat) :
    (((s.leaveRun watch n).leaveCheck.dev = .standby ∧ (s.leaveRun watch n).leaveCheck.pwr.leaving = some (watch, n)) ∨
      (watch = false ∧ (s.leaveRun watch n).leaveCheck.dev = .standby ∧ (s.leaveRun watch n).leaveCheck.mbx.cmds.find n = none) ∨
      (watch = true ∧ (s.leaveRun watch n).leaveCheck.dev = .watch ∧ (s.leaveRun watch n).leaveCheck.pwm = {})) := by
  obtain ⟨hd, hdev, hleave⟩ := State.leaveRun_spec hs watch n
  generalize s.leaveRun watch n = v at *
  let x := (v.pwrMod (fun p => { p with leaving := none })).finish n stOk
  have heq : v.leaveCheck = if !v.leftRun then v else if watch then x.toWatch 1 else x := by
    unfold State.leaveCheck
    rw [hleave]
  have hx : s.Drops x := hd.pwrMod.finish
  have hgone : x.mbx.cmds.find n = none :=
    State.finish_gone (s := v.pwrMod (fun p => { p with leaving := none })) (hd.wf hwf) (hd.supFailed.trans hup) n stOk 0#32 0 0 0#32 0#32
  have hdevx : x.dev = .standby := by
    have hm : (v.pwrMod (fun p => { p with leaving := none })).Moves [] [.regs, .mbx, .out] x := .finish (.refl _) (by decide)
    rw [hm.dev_kept (by decide)]
    exact hdev
  clear_value x
  rw [heq]
  cases hl : v.leftRun with
  | false => exact .inl ⟨hdev, hleave⟩
  | true =>
    cases watch with
    | false => exact .inr (.inl ⟨rfl, hdevx, hgone⟩)
    | true =>
      have hw := State.toWatch_spec hx.ok 1
      obtain ⟨-, hpwm, -⟩ := hw.empty
      exact .inr (.inr ⟨rfl, hw.dev, hpwm⟩)

/-! ## STATE and TIME_SET -/

theorem execState_spec (h : s.runs tag 0x03 c) (hleave : s.pwr.leaving = none) :
    (c.pw 0 = 0 → s.dev = .standby →
        (s.runBars.all (fun e => e.2 == 0) = true →
          ∃ t, exec (.state tag) s = .next t ∧ t.dev = .run ∧ t.pwr.entering = some tag.val ∧ t.goesOn tag c ∧ t.gt = s.gt ∧ t.pan = s.pan ∧
            t.safe = s.safe) ∧
        (∀ e, s.runBars.find? (fun e => e.2 ≠ 0) = some e →
          ∃ t, exec (.state tag) s = .next t ∧ t.completed (c.comp tag e.1 (w32 s.runResult)) ∧ s.justEnds t tag c) ∧
        (s.regN Reg.SAFE_SPOLAT ≠ 0 → ∃ t r, exec (.state tag) s = .next t ∧ t.completed (c.comp tag stSafety r) ∧ r.getLsbD 0 = true)) ∧
      ((c.pw 0 = 0 ∧ s.dev = .run) ∨ (c.pw 0 = 1 ∧ s.dev = .standby) →
        ∃ t, exec (.state tag) s = .next t ∧ t.completed (c.comp tag stOk) ∧ s.justEnds t tag c) ∧
      (c.pw 0 = 1 → s.dev = .run →
        ∃ t, exec (.state tag) s = .next t ∧ t.dev = .standby ∧ (t.pwr.leaving = some (false, tag.val) ∨ t.mbx.cmds.find tag = none)) ∧
      (c.pw 0 = 2 → s.dev = .run →
        ∃ t, exec (.state tag) s = .next t ∧ ((t.dev = .standby ∧ t.pwr.leaving = some (true, tag.val)) ∨ (t.dev = .watch ∧ t.pwm = {}))) ∧
      (c.pw 0 = 2 → s.dev = .standby →
        ∃ t, exec (.state tag) s = .next t ∧ t.dev = .watch ∧ t.gt = s.gt ∧ t.pwm = {} ∧ t.pan = {} ∧ t.mbx.cmds = [] ∧ t.safe.cfg = s.safe.cfg) ∧
      (2 < c.pw 0 → ∃ t, exec (.state tag) s = .next t ∧ t.completed (c.comp tag stRange 8#32) ∧ s.justEnds t tag c) := by
  let b := s.begun tag c
  have hexec := execState_eq h
  have hends := h.ends tag.isLt
  have hready := h.ready tag.isLt
  have hbusy : ¬ s.pwr.leaving.isSome = true := by simp [hleave]
  have hask (h0 : c.pw 0 = 0) : exec (.state tag) s = .next (b.askRun tag) := by
    rw [hexec, if_neg (by omega), if_neg hbusy, if_pos h0]
  have hrefuse (h0 : c.pw 0 = 0) (hd : s.dev = .standby) (e : Nat × Nat) (he : s.runBars.find? (fun e => e.2 ≠ 0) = some e) :
      exec (.state tag) s = .next (b.finish tag e.1 (w32 s.runResult)) := by
    rw [hask h0]
    unfold State.askRun
    rw [if_neg (by rw [show b.dev = s.dev from rfl, hd]; decide), State.begun_runBars, he, State.begun_runResult]
  refine ⟨fun h0 hd => ⟨fun hall => ?_, fun e he => ⟨_, hrefuse h0 hd e he, hends e.1 (w32 s.runResult) 0 0 0#32 0#32⟩, fun hspo => ?_⟩, fun hsame => ?_,
    fun h1 hd => ?_, fun h2 hd => ?_, fun h2 hd => ?_, fun hbad => ?_⟩
  · have hnone : s.runBars.find? (fun e => e.2 ≠ 0) = none := by
      rw [List.find?_eq_none]
      intro e he
      simpa using List.all_eq_true.mp hall e he
    have hrun : b.askRun tag = b.toRun tag := by
      unfold State.askRun
      rw [if_neg (by rw [show b.dev = s.dev from rfl, hd]; decide), State.begun_runBars, hnone]
    obtain ⟨hdev, henter, hmail, hgt, hpan, hsafe⟩ := State.toRun_spec b tag
    exact ⟨_, (hask h0).trans (congrArg Host.Outcome.next hrun), hdev, henter, (congrArg (fun m : KMap MCmd => m.find tag) hmail.cmds).trans hready.find, hgt, hpan, hsafe⟩
  · obtain ⟨hfind, hbit⟩ := State.runResult_odd hspo
    exact ⟨_, _, hrefuse h0 hd _ hfind, (hends stSafety (w32 s.runResult) 0 0 0#32 0#32).1, hbit⟩
  · refine ⟨_, ?_, hends stOk 0#32 0 0 0#32 0#32⟩
    rcases hsame with ⟨h0, hd⟩ | ⟨h1, hd⟩
    · rw [hask h0]
      exact congrArg Host.Outcome.next (if_pos (by rw [show (s.begun tag c).dev = s.dev from rfl, hd]; rfl))
    · rw [hexec, if_neg (by omega), if_neg hbusy, if_neg (by omega), if_pos h1, if_neg (by rw [hd]; decide)]
  · rw [if_neg (by omega), if_neg hbusy, if_neg (by omega), if_pos h1, if_pos (by rw [hd]; rfl)] at hexec
    refine ⟨_, hexec, ?_⟩
    rcases State.leave_spec hready.ok hready.wf hready.up false tag with ⟨hdev, hl⟩ | ⟨-, hdev, hgone⟩ | ⟨hw, -⟩
    · exact ⟨hdev, .inl hl⟩
    · exact ⟨hdev, .inr hgone⟩
    · nomatch hw
  · rw [if_neg (by omega), if_neg hbusy, if_neg (by omega), if_neg (by omega), if_pos (by rw [hd]; rfl)] at hexec
    refine ⟨_, hexec, ?_⟩
    rcases State.leave_spec hready.ok hready.wf hready.up true tag with hl | ⟨hw, -⟩ | ⟨-, hdev, hpwm⟩
    · exact .inl hl
    · nomatch hw
    · exact .inr ⟨hdev, hpwm⟩
  · rw [if_neg (by omega), if_neg hbusy, if_neg (by omega), if_neg (by omega), if_neg (by rw [hd]; decide)] at hexec
    have hfin := hready.finished stOk 0#32 0 0 0#32 0#32
    have hw := State.toWatch_spec hfin.writes.ok 1
    obtain ⟨hpan, hpwm, -⟩ := hw.empty
    obtain ⟨kgt, -, -, -, -, -, -, -, -, -, -, -, ksafe, -⟩ := hfin.keeps
    refine ⟨_, hexec, hw.dev, hw.gt.trans (kgt.resolve_left (by decide)), hpwm, hpan, hw.cmds, hw.safe.1.trans ?_⟩
    exact congrArg SafeState.cfg (ksafe.resolve_left (by decide))
  · rw [if_pos hbad] at hexec
    exact ⟨_, hexec, hends stRange 8#32 0 0 0#32 0#32⟩

theorem execState_busy (h : s.runs tag 0x03 c) (hleave : s.pwr.leaving ≠ none) (hp : c.pw 0 ≤ 2) :
    ∃ t, exec (.state tag) s = .next t ∧ t.completed (c.comp tag stBusy) ∧ s.justEnds t tag c := by
  have hexec := execState_eq h
  rw [if_neg (by omega), if_pos (by simpa [Option.isSome_iff_ne_none] using hleave)] at hexec
  exact ⟨_, hexec, h.ends tag.isLt stBusy 0#32 0 0 0#32 0#32⟩

theorem execTimeSet_spec (h : s.runs tag 0x04 c) :
    (let sec : Nat := c.pw 0 + 2 ^ 32 * c.pw 1
     (s.flag Reg.GT_CTRL F.GT_CTRL_STEP_EN = true → sec * 500000000 < 2 ^ 64 → s.commitsOn = true →
       ∃ t, exec (.timeSet tag) s = .next t ∧ t.completed (c.comp tag stOk (cidx := s.nextCommit)) ∧ s.endsOnly t tag c [.tim] (fun _ => False) ∧
         t.tim = { s.tim with stepPend := some ((((s.gt / 500000000 : Nat) : Int) - (sec : Int)) * 500000000) }) ∧
     (s.flag Reg.GT_CTRL F.GT_CTRL_STEP_EN = false ∨ 2 ^ 64 ≤ sec * 500000000 →
       ∃ t, exec (.timeSet tag) s = .next t ∧ t.completed (c.comp tag stRange 8#32) ∧ s.justEnds t tag c)) := by
  intro sec
  let b := s.begun tag c
  let o : Int := (((s.gt / tickSec : Nat) : Int) - (sec : Int)) * tickSec
  let u : State := { b with tim := { b.tim with stepPend := some o } }
  have hexec : exec (.timeSet tag) s = .next (if !s.flag Reg.GT_CTRL F.GT_CTRL_STEP_EN then b.finish tag stRange 8#32
      else if 2 ^ 64 ≤ sec * tickSec then b.finish tag stRange 8#32
      else if !s.commitsOn then b.finish tag stBusy else u.finish tag stOk (cidx := s.nextCommit)) := congrArg Host.Outcome.next (State.command_runs h)
  have htick : tickSec = 500000000 := rfl
  refine ⟨fun hen hsec hon => ?_, fun hbad => ?_⟩
  · rw [if_neg (by simp [hen]), if_neg (by rw [htick]; omega), if_neg (by simp [hon])] at hexec
    have hm : b.Moves [] [.tim] u := .set_tim (.refl b) (fun z => z) (by decide)
    obtain ⟨hcomp, hends⟩ := h.endsWith hm (by decide) rfl stOk 0#32 0 s.nextCommit 0#32 0#32
    have hready : u.Ready tag { c with started := true } := (h.ready tag.isLt).of_eq rfl rfl
    have hfin := hready.finished stOk 0#32 0 s.nextCommit 0#32 0#32
    obtain ⟨-, -, -, -, -, -, -, ktim, -⟩ := hfin.keeps
    exact ⟨_, hexec, hcomp, hends, (ktim.resolve_left (by decide)).trans rfl⟩
  · have hexec' : exec (.timeSet tag) s = .next (b.finish tag stRange 8#32) := by
      rw [hexec]
      rcases hbad with hb | hb
      · rw [if_pos (by simp [hb])]
      · split
        · rfl
        · rw [if_pos (by rw [htick]; exact hb)]
    exact ⟨_, hexec', h.ends tag.isLt stRange 8#32 0 0 0#32 0#32⟩

/-- Settles O50: RUN is entered by `State.toRun` alone and left by `State.leaveRun`, which ends commands but starts none. -/
theorem stateAndTimeCommands : Obligations.StateAndTimeCommands := by
  unfold Obligations.StateAndTimeCommands
  exact fun s tag c => ⟨execState_spec, execState_busy, execTimeSet_spec⟩

end Sys2Proof.Machine
end

section
/-!
PROOFS. The commands of calibration and diagnosis: CAL, RECOVER and DIAG (R94, R100, R126, R436).
-/
namespace Sys2Proof.Machine

variable {s t u : State} {tag : Fin 64} {c : MCmd} {opc : Nat}

/-! ## Shared parts of the commands -/

/-- A command that changes the parts `may` and the registers `m`, away from the rings, before it ends. -/
theorem State.runs.endsAfter (h : s.runs tag opc c) {may : List Part} {m : Nat → Prop} (hk : (s.begun tag c).keeps u (.regs :: .mbx :: .out :: may))
    (hw : (s.begun tag c).Writes m u) (hm : ∀ a, m a → awayRegs a) (he : (s.begun tag c).MailKept u) (status : Nat) (result : Word) (dlen cidx : Nat)
    (v0 v1 : Word) :
    (u.finish tag status result dlen cidx v0 v1).completed (c.comp tag status result dlen cidx v0 v1) ∧
      s.endsOnly (u.finish tag status result dlen cidx v0 v1) tag c may m := by
  have hready := (h.ready tag.isLt).away hw hm he
  exact ⟨hready.finish_completed status result dlen cidx v0 v1,
    hready.ends ((State.onlyDid_begun s tag c).then hk hw (List.nil_subset _) (fun _ => False.elim) he) rfl status result dlen cidx v0 v1⟩

theorem eq_none_of_ite {α : Type} {p : Prop} [Decidable p] {x : α} {y : Option α} (h : (if p then some x else y) = none) : y = none := by
  split at h
  · exact absurd h (by simp)
  · exact h

/-- A descriptor with no error keeps its parameters to their masks (R433). -/
theorem MCmd.masks_of_err {i : OpInfo} {qspi : Bool} (h : c.err i qspi = none) {k : Nat} (hk : k < 8) :
    (c.p.getD k 0#32) &&& ~~~ (BitVec.ofNat 32 (i.masks.getD k 0)) = 0#32 := by
  unfold MCmd.err at h
  iterate 10 replace h := eq_none_of_ite h
  have hfind := List.find?_eq_none.mp (Option.map_eq_none_iff.mp h) k (List.mem_range.mpr hk)
  rw [decide_eq_true_eq, not_not] at hfind
  exact hfind

theorem State.runs.masked (h : s.runs tag opc c) {k mask : Nat} (hk : k < 8) (hi : (opInfo opc).map (fun i => i.masks.getD k 0) = some mask) (j : Nat)
    (hbit : (c.pw k).testBit j = true) : mask.testBit j = true := by
  obtain ⟨-, -, i, hinfo, herr, -⟩ := h
  have hmask : i.masks.getD k 0 = mask := by simpa only [hinfo, Option.map_some, Option.some.injEq] using hi
  have hj : (c.p.getD k 0#32).getLsbD j = true := hbit
  have hlt : j < 32 := BitVec.lt_of_getLsbD hj
  have hand := congrArg (·.getLsbD j) (MCmd.masks_of_err herr hk)
  rw [hmask] at hand
  simp only [BitVec.getLsbD_and, BitVec.getLsbD_not, BitVec.getLsbD_ofNat, hlt, hj, decide_true, Bool.true_and,
    Nat.zero_testBit, Bool.not_eq_false'] at hand
  exact hand

theorem State.runs.pw_lt (h : s.runs tag opc c) {k n : Nat} (hk : k < 8) (hi : (opInfo opc).map (fun i => i.masks.getD k 0) = some (2 ^ n - 1)) :
    c.pw k < 2 ^ n := by
  refine Nat.lt_pow_two_of_testBit _ fun j hj => ?_
  by_contra hbit
  have hmask := h.masked hk hi j (by simpa using hbit)
  rw [Nat.testBit_two_pow_sub_one, decide_eq_true_eq] at hmask
  omega

theorem State.begun_moves (s : State) (n : Nat) (c : MCmd) : s.Moves [] [.mbx] (s.begun n c) := .set_mbx (.refl s) id (by decide)

theorem nodup_bitsOf (n m : Nat) : (bitsOf n m).Nodup := List.nodup_range.filter _

theorem bitsOf_eq_nil {n m : Nat} (h : m < 2 ^ n) : bitsOf n m = [] ↔ m = 0 := by
  refine ⟨fun he => ?_, fun he => List.eq_nil_iff_forall_not_mem.mpr fun i hi => ?_⟩
  · refine Nat.eq_of_testBit_eq fun i => ?_
    rw [Nat.zero_testBit]
    by_contra hbit
    have hbit : m.testBit i = true := by simpa using hbit
    have hlt : i < n := by
      by_contra hn
      exact absurd (hbit.symm.trans (Nat.testBit_lt_two_pow (h.trans_le (Nat.pow_le_pow_right (by decide) (not_lt.mp hn))))) (by decide)
    exact List.not_mem_nil (he ▸ mem_bitsOf.mpr ⟨hlt, hbit⟩)
  · have hb := (mem_bitsOf.mp hi).2
    rw [he, Nat.zero_testBit] at hb
    exact absurd hb (by decide)

/-! ## CAL -/

/-- The registers that a queued calibration of one of the cores `l` writes. -/
def calRegs (l : List Nat) (a : Nat) : Prop := ∃ k ∈ l, a = Reg.ADC_CALCFG k ∨ a = Reg.ADC_STAT k

theorem calRegs_away {l : List Nat} {a : Nat} (h : calRegs l a) : awayRegs a := by
  obtain ⟨k, -, h⟩ := h
  unfold Reg.ADC_CALCFG Reg.ADC_STAT at h
  exact ⟨by omega, by omega, by unfold Reg.SUP_STAT; omega⟩

theorem not_calRegs {l : List Nat} {k : Nat} (hk : k ∉ l) : ¬ calRegs l (Reg.ADC_CALCFG k) := by
  rintro ⟨j, hj, h⟩
  have hne : j ≠ k := fun hc => hk (hc ▸ hj)
  unfold Reg.ADC_CALCFG Reg.ADC_STAT at h
  omega

/-- What queueing the calibrations of the cores `l` leaves (R100). -/
structure State.CalAsks (l : List Nat) (s t : State) : Prop where
  writes : s.Writes (calRegs l) t
  length : t.ana.cores.length = s.ana.cores.length
  pending : ∀ k ∈ l, (t.ana.cores.at k).calPending = true
  asked : ∀ k ∈ l, (s.ana.cores.at k).calPending = false → t.flag (Reg.ADC_CALCFG k) F.ADC_CALCFG_REQ = true
  others : ∀ k, k ∉ l → t.ana.cores.at k = s.ana.cores.at k

theorem State.calQueue_asks (hs : s.regsOk = true) {k : Nat} (hk : k < s.ana.cores.length) : s.CalAsks [k] (s.calQueue k) := by
  cases hp : (s.ana.cores.at k).calPending with
  | true =>
    rw [show s.calQueue k = s from if_pos hp]
    exact ⟨.refl hs, rfl, by simpa using hp, by simp [hp], fun _ _ => rfl⟩
  | false =>
    obtain ⟨hpend, -, hreq, -⟩ := State.calQueue_spec hs hk hp
    let v := s.coreMod k (fun x => { x with calPending := true, calReq := s.gt, calLast := s.gt })
    have heq : s.calQueue k = (v.setFld (Reg.ADC_CALCFG k) F.ADC_CALCFG_REQ 1).setFld (Reg.ADC_STAT k) F.ADC_STAT_CAL_RUN 1 := if_neg (by simp [hp])
    have hcores : (s.calQueue k).ana.cores = s.ana.cores.mod k (fun x => { x with calPending := true, calReq := s.gt, calLast := s.gt }) := by
      rw [heq]
      rfl
    have hv : s.Writes (calRegs [k]) v := (State.Writes.refl hs).of_regs rfl
    refine ⟨?_, by rw [hcores, Tab.mod, List.length_modify], by simpa using hpend, by simpa using fun _ => hreq, fun j hj => ?_⟩
    · rw [heq]
      exact (hv.setFld _ _ ⟨k, List.mem_singleton_self k, .inl rfl⟩).setFld _ _ ⟨k, List.mem_singleton_self k, .inr rfl⟩
    · rw [hcores]
      exact Tab.at_mod_ne _ _ fun hc => hj (List.mem_singleton.mpr hc)

theorem State.calQueues_asks (hs : s.regsOk = true) {l : List Nat} (hl : ∀ k ∈ l, k < s.ana.cores.length) (hn : l.Nodup) :
    s.CalAsks l (l.foldl (fun x k => x.calQueue k) s) := by
  induction l generalizing s with
  | nil => exact ⟨.refl hs, rfl, fun _ h => absurd h List.not_mem_nil, fun _ h => absurd h List.not_mem_nil, fun _ _ => rfl⟩
  | cons k l ih =>
    obtain ⟨hk, hn⟩ := List.nodup_cons.mp hn
    have h1 := State.calQueue_asks hs (hl k List.mem_cons_self)
    have h2 := ih h1.writes.ok (fun j hj => by rw [h1.length]; exact hl j (List.mem_cons_of_mem _ hj)) hn
    have hkeep {j : Nat} (hj : j ∈ l) : j ∉ [k] := fun hc => hk (List.mem_singleton.mp hc ▸ hj)
    refine ⟨(h1.writes.mono ?_).trans (h2.writes.mono ?_), h2.length.trans h1.length, ?_, ?_, ?_⟩
    · rintro a ⟨j, hj, ha⟩
      exact ⟨j, List.mem_cons.mpr (.inl (List.mem_singleton.mp hj)), ha⟩
    · rintro a ⟨j, hj, ha⟩
      exact ⟨j, List.mem_cons_of_mem _ hj, ha⟩
    · rintro j hj
      rcases List.mem_cons.mp hj with rfl | hj
      · rw [List.foldl_cons, h2.others _ hk]
        exact h1.pending _ (List.mem_singleton_self _)
      · exact h2.pending j hj
    · rintro j hj hp
      rcases List.mem_cons.mp hj with rfl | hj
      · exact (h2.writes.flag _ (not_calRegs hk)).trans (h1.asked _ (List.mem_singleton_self _) hp)
      · exact h2.asked j hj (by rw [h1.others j (hkeep hj)]; exact hp)
    · intro j hj
      rw [List.mem_cons, not_or] at hj
      exact (h2.others j hj.2).trans (h1.others j fun hc => hj.1 (List.mem_singleton.mp hc))

theorem State.coreBusy_pending {k : Nat} (h : s.coreBusy k = false) : (s.ana.cores.at k).calPending = false := by
  unfold State.coreBusy at h
  simp only [Bool.or_eq_false_iff] at h
  exact h.2

theorem execCal_spec (h : s.runs tag 0x08 c) :
    (c.pw 0 = 0 → ∃ t, exec (.cal tag) s = .next t ∧ t.completed (c.comp tag stOk) ∧ s.justEnds t tag c) ∧
      (c.pw 0 ≠ 0 → (∀ k, k < 8 → (c.pw 0).testBit k = true → s.coreBusy k = false) →
        ∃ t, exec (.cal tag) s = .next t ∧ s.keeps t [.regs, .ana, .mbx] ∧ t.goesOn tag c ∧
          t.mbx.cals = s.mbx.cals ++ [{ tag := tag, cores := c.pw 0 }] ∧
          ∀ k, k < 8 → if (c.pw 0).testBit k then (t.ana.cores.at k).calPending = true ∧ t.flag (Reg.ADC_CALCFG k) F.ADC_CALCFG_REQ = true
            else t.ana.cores.at k = s.ana.cores.at k ∧ t.reg (Reg.ADC_CALCFG k) = s.reg (Reg.ADC_CALCFG k)) ∧
      ((∃ k, k < 8 ∧ (c.pw 0).testBit k = true ∧ s.coreBusy k = true) →
        ∃ t, exec (.cal tag) s = .next t ∧ t.completed (c.comp tag stDeferred) ∧
          s.endsOnly t tag c [.ana] (fun a => ∃ k, k < 8 ∧ (a = Reg.ADC_CALCFG k ∨ a = Reg.ADC_STAT k)) ∧
          ∀ k, k < 8 → (c.pw 0).testBit k = true → (t.ana.cores.at k).calPending = true) := by
  let b := s.begun tag c
  let l := bitsOf 8 (c.pw 0)
  let u := l.foldl (fun x k => x.calQueue k) b
  let w : State := { u with mbx := { u.mbx with cals := u.mbx.cals ++ [{ tag := tag, cores := c.pw 0 % 256 }] } }
  have hexec : exec (.cal tag) s = .next (if l.isEmpty then b.finish tag stOk else if l.any b.coreBusy then u.finish tag stDeferred else w) :=
    congrArg Host.Outcome.next (State.command_runs h)
  have hlt : c.pw 0 < 2 ^ 8 := h.pw_lt (by decide) (by rfl)
  have hasks : b.CalAsks l u := State.calQueues_asks (s := b) h.regsOk
    (fun k hk => (mem_bitsOf.mp hk).1.trans_eq (State.cores_length h.inv).symm) (nodup_bitsOf _ _)
  have hmu : b.Moves [] [.regs, .ana] u := .foldl (fun _ _ hv => .calQueue hv (by decide)) (.refl b)
  have hmbx : u.mbx = b.mbx := hmu.mbx_kept (by decide)
  clear_value u
  have hmem {k : Nat} (hk : k < 8) : k ∈ l ↔ (c.pw 0).testBit k = true := by simp [l, mem_bitsOf, hk]
  refine ⟨fun h0 => ?_, fun h0 hfree => ?_, fun hbusy => ?_⟩
  · rw [if_pos (List.isEmpty_iff.mpr ((bitsOf_eq_nil hlt).mpr h0))] at hexec
    exact ⟨_, hexec, h.ends tag.isLt stOk 0#32 0 0 0#32 0#32⟩
  · have hnone : ¬ l.any b.coreBusy = true := by
      rw [List.any_eq_true]
      rintro ⟨k, hk, hb⟩
      obtain ⟨hk8, hbit⟩ := mem_bitsOf.mp hk
      exact absurd (hb.symm.trans (hfree k hk8 hbit)) (by decide)
    rw [if_neg (fun he => h0 ((bitsOf_eq_nil hlt).mp (List.isEmpty_iff.mp he))), if_neg hnone] at hexec
    have hmw : b.Moves [] [.regs, .ana, .mbx] w := .set_mbx (hmu.mono (by decide)) id (by decide)
    refine ⟨_, hexec, State.keeps_trans (State.keeps_mono (State.begun_moves s tag c).keeps (by decide)) hmw.keeps, ?_, ?_, fun k hk => ?_⟩
    · exact (congrArg (fun m : MbxState => m.cmds.find tag) hmbx).trans (KMap.find_put_same _ _ _)
    · show u.mbx.cals ++ _ = _
      rw [hmbx, Nat.mod_eq_of_lt (show c.pw 0 < 256 from hlt)]
      rfl
    · cases hbit : (c.pw 0).testBit k with
      | true =>
        have hk' := (hmem hk).mpr hbit
        exact ⟨hasks.pending k hk', hasks.asked k hk' (State.coreBusy_pending (hfree k hk hbit))⟩
      | false =>
        have hk' : k ∉ l := fun hc => absurd (hbit.symm.trans ((hmem hk).mp hc)) (by decide)
        exact ⟨hasks.others k hk', hasks.writes.reg (not_calRegs hk')⟩
  · obtain ⟨k, hk, hbit, hb⟩ := hbusy
    have hb : b.coreBusy k = true := hb
    have hk' := (hmem hk).mpr hbit
    rw [if_neg (fun he => List.not_mem_nil (List.isEmpty_iff.mp he ▸ hk')), if_pos (List.any_eq_true.mpr ⟨k, hk', hb⟩)] at hexec
    obtain ⟨hcomp, hends⟩ := h.endsAfter (may := [.ana]) (m := fun a => ∃ k, k < 8 ∧ (a = Reg.ADC_CALCFG k ∨ a = Reg.ADC_STAT k))
      (State.keeps_mono hmu.keeps (by decide)) (hasks.writes.mono fun a ⟨j, hj, ha⟩ => ⟨j, (mem_bitsOf.mp hj).1, ha⟩)
      (fun a ⟨j, hj, ha⟩ => calRegs_away (l := [j]) ⟨j, List.mem_singleton_self j, ha⟩) (.of_eq hmbx) stDeferred 0#32 0 0 0#32 0#32
    have hready := (h.ready tag.isLt).away hasks.writes (fun _ => calRegs_away) (.of_eq hmbx)
    have hkeep : (u.finish tag stDeferred 0#32 0 0 0#32 0#32).ana = u.ana :=
      State.Moves.ana_kept (own := []) (may := [.regs, .mbx, .out]) (.finish (.refl u) (by decide)) (by decide)
    refine ⟨_, hexec, hcomp, hends, fun j hj hbj => ?_⟩
    rw [hkeep]
    exact hasks.pending j ((hmem hj).mpr hbj)

/-! ## RECOVER -/

/-- What tests of the analog cores leave: their sticky bits, and the log's registers. -/
structure State.Tested (s t : State) : Prop where
  writes : s.Writes (fun a => 0x20000 ≤ a ∨ a ∈ logRegs) t
  events : s.Events t
  sticks : ∀ k, s.Sticks (Reg.ADC_STK k) t

theorem testRegs_away {a : Nat} (h : 0x20000 ≤ a ∨ a ∈ logRegs) : awayRegs a := by
  rcases h with h | h
  · exact ⟨by omega, by omega, by unfold Reg.SUP_STAT; omega⟩
  · exact logRegs_away h

theorem State.Tested.refl (h : s.regsOk = true) : s.Tested s := ⟨.refl h, .refl s, fun _ => .refl h⟩

theorem State.Tested.trans (h : s.Tested t) (k : t.Tested u) : s.Tested u :=
  ⟨h.writes.trans k.writes, h.events.trans k.events, fun i => (h.sticks i).trans (k.sticks i)⟩

theorem State.tdacFail_spec (hs : s.regsOk = true) (k : Nat) (pin : Option (Fin 12)) :
    s.Tested (s.tdacFail k pin) ∧ (s.tdacFail k pin).stuck (Stk.TDAC_FAIL k) = true := by
  have hlow (i : Nat) : Reg.ADC_STK i ≠ Reg.LOG_DROPCNT := ne_of_gt (Nat.lt_add_right _ (by decide))
  have hstick : s.Writes (fun a => 0x20000 ≤ a ∨ a ∈ logRegs) (s.stick (Stk.TDAC_FAIL k)) := (State.Writes.refl hs).stick _ fun a ha => by
    rcases List.mem_cons.mp ha with rfl | ha
    · exact .inl (Nat.le_add_right_of_le (by decide))
    · exact .inr ha
  have hset := State.stick_stuck (Stk.TDAC_FAIL k) hs (by decide : 6 < 32) (hlow k)
  exact ⟨⟨hstick.logRec _ _ _ _ fun _ => .inr, (State.Events.refl s).stick.logRec,
    fun i => ((State.Sticks.refl hs).stick (by decide : 6 < 32) (hlow i)).logRec (hlow i)⟩, State.logRec_mono _ _ _ _ _ hstick.ok (hlow k) hset⟩

theorem State.tdacFails_spec {α : Type} (hs : s.regsOk = true) (l : List α) (f : α → Nat) (p : α → Option (Fin 12)) :
    s.Tested (l.foldl (fun x e => x.tdacFail (f e) (p e)) s) ∧
      ∀ e ∈ l, (l.foldl (fun x e => x.tdacFail (f e) (p e)) s).stuck (Stk.TDAC_FAIL (f e)) = true := by
  induction l generalizing s with
  | nil => exact ⟨.refl hs, fun _ h => absurd h List.not_mem_nil⟩
  | cons e l ih =>
    obtain ⟨h1, hset⟩ := State.tdacFail_spec hs (f e) (p e)
    obtain ⟨h2, hsets⟩ := ih h1.writes.ok
    refine ⟨h1.trans h2, fun d hd => ?_⟩
    rcases List.mem_cons.mp hd with rfl | hd
    · exact (h2.sticks (f d)).stays _ rfl hset
    · exact hsets d hd

/-- The mask of the numbers below `n` that satisfy `p`. -/
theorem sum_pow_filter (p : Nat → Bool) (n : Nat) :
    ((List.range n).filter p).foldl (fun m k => m + 2 ^ k) 0 < 2 ^ n ∧
      ∀ k, (((List.range n).filter p).foldl (fun m k => m + 2 ^ k) 0).testBit k = (decide (k < n) && p k) := by
  induction n with
  | zero => exact ⟨Nat.one_pos, fun k => by simp⟩
  | succ n ih =>
    obtain ⟨hlt, hbit⟩ := ih
    rw [List.range_succ, List.filter_append, List.foldl_append]
    generalize ((List.range n).filter p).foldl (fun m k => m + 2 ^ k) 0 = m at *
    cases hp : p n with
    | false =>
      rw [List.filter_singleton, hp]
      refine ⟨hlt.trans (Nat.pow_lt_pow_right (by decide) (Nat.lt_succ_self n)), fun k => (hbit k).trans ?_⟩
      by_cases hk : k = n
      · simp [hk, hp]
      · rw [show decide (k < n) = decide (k < n + 1) by simp only [decide_eq_decide]; omega]
    | true =>
      rw [List.filter_singleton, hp]
      show m + 2 ^ n < 2 ^ (n + 1) ∧ ∀ k, (m + 2 ^ n).testBit k = _
      refine ⟨by rw [Nat.pow_succ]; omega, fun k => ?_⟩
      rw [Nat.add_comm]
      rcases Nat.lt_trichotomy k n with hk | hk | hk
      · rw [Nat.testBit_two_pow_add_gt hk, hbit, show decide (k < n) = true by simpa using hk, show decide (k < n + 1) = true by simpa using Nat.lt_succ_of_lt hk]
      · subst hk
        rw [Nat.testBit_two_pow_add_eq, hbit]
        simp [hp]
      · rw [Nat.testBit_lt_two_pow]
        · simp [Nat.not_lt.mpr hk]
        · exact Nat.lt_of_lt_of_le (show 2 ^ n + m < 2 ^ (n + 1) by rw [Nat.pow_succ]; omega) (Nat.pow_le_pow_right (by decide) hk)

theorem execRecover_spec (tests : List TdacTest) (h : s.runs tag 0x09 c) :
    let bad := fun (k : Nat) => (c.pw 0).testBit k && !(tests.find? (fun x => x.core.val == k && x.pin.isNone)).any coreTestOk
    ∃ t r, exec (.recover tag tests) s = .next t ∧ t.completed (c.comp tag stOk r) ∧ s.keeps t ([.mbx] ++ logParts) ∧
      ∀ k, k < 8 → r.getLsbD k = bad k ∧ (bad k = true → t.stuck (Stk.TDAC_FAIL k) = true) := by
  intro bad
  let b := s.begun tag c
  let l := (bitsOf 8 (c.pw 0)).filter (fun k => !(tests.find? (fun x => x.core.val == k && x.pin.isNone)).any coreTestOk)
  let pins := tests.filter (fun x => x.pin.isSome && (c.pw 0).testBit x.core && !pinTestOk (b.fld (Reg.ADC_OWSET x.core) F.ADC_OWSET_DELTA) x)
  let u := l.foldl (fun (x : State) k => x.tdacFail k none) b
  let v := pins.foldl (fun (x : State) p => x.tdacFail p.core p.pin) u
  let r := w32 (l.foldl (fun m k => m + 2 ^ k) 0)
  have hexec : exec (.recover tag tests) s = .next (v.finish tag stOk r) := congrArg Host.Outcome.next (State.command_runs h)
  have hl : l = (List.range 8).filter bad := List.filter_filter.trans (List.filter_congr fun k _ => Bool.and_comm _ _)
  obtain ⟨htu, hset⟩ := State.tdacFails_spec (s := b) h.regsOk l id (fun _ => none)
  obtain ⟨htv, -⟩ := State.tdacFails_spec htu.writes.ok pins (fun p => p.core.val) (fun p => p.pin)
  have hmv : b.Moves [] logParts v := .foldl (fun _ _ hx => .tdacFail hx (by decide)) (.foldl (fun _ _ hx => .tdacFail hx (by decide)) (.refl b))
  have htest : b.Tested v := htu.trans htv
  have hready := (h.ready tag.isLt).away htest.writes (fun _ => testRegs_away) htest.events.mailKept
  have hfin := hready.finished stOk r 0 0 0#32 0#32
  refine ⟨_, r, hexec, hready.finish_completed stOk r 0 0 0#32 0#32, ?_, fun k hk => ⟨?_, fun hbad => ?_⟩⟩
  · exact State.keeps_trans (State.keeps_mono (State.begun_moves s tag c).keeps (by decide))
      (State.keeps_trans (State.keeps_mono hmv.keeps (by decide)) (State.keeps_mono hfin.keeps (by decide)))
  · obtain ⟨-, hbit⟩ := sum_pow_filter bad 8
    rw [show r = w32 (((List.range 8).filter bad).foldl (fun m k => m + 2 ^ k) 0) by rw [← hl], w32, BitVec.getLsbD_ofNat, hbit]
    simp [hk, Nat.lt_trans hk (by decide : 8 < 32)]
  · have hmem : k ∈ l := by
      rw [hl]
      exact List.mem_filter.mpr ⟨List.mem_range.mpr hk, hbad⟩
    have hv : v.stuck (Stk.TDAC_FAIL k) = true := (htv.sticks k).stays _ rfl (hset k hmem)
    exact (State.stuck_of_reg (hfin.writes.reg (awayRegs_cq (testRegs_away (.inl (Nat.le_add_right_of_le (by decide))))))).trans hv

end Sys2Proof.Machine
end

section
/-!
PROOFS. The command DIAG: the readback checks of the comparators that it names, one after the other (R126, R436).
-/
namespace Sys2Proof.Machine

variable {s t u : State} {tag : Fin 64} {c : MCmd}

/-! ## One check -/

theorem State.SafeWork.cmpMod (h : s.SafeWork t) {n : Nat} {f : CmpState → CmpState} : s.SafeWork (t.cmpMod n f) := h.beside rfl rfl rfl rfl rfl rfl

theorem State.SafeWork.cmpCheck (h : s.SafeWork t) {n : Nat} (hn : n < 64) {dac thr : Int} : s.SafeWork (t.cmpCheck n dac thr) := by
  unfold State.cmpCheck
  extract_lets +onlyGivenNames v
  have hv : s.SafeWork v := h.cmpMod
  exact .ite (hv.cmpMod.cmpRoute hn) ((hv.stick (workRegs_of (by decide))).logRec.cmpMod.cmpRoute hn)

/-- What a check compares with stands in registers that no route writes (R126). -/
theorem State.SafeWork.cmpCheckOk (h : s.SafeWork t) (n : Fin 64) (dac thr : Int) : t.cmpCheckOk n dac thr = s.cmpCheckOk n dac thr := by
  have hn := n.isLt
  have hthr : t.cmpOfs n = s.cmpOfs n := by
    unfold State.cmpOfs
    rw [h.writes.fld _ fun hc => ?_]
    obtain ⟨-, -, -, -, hc⟩ := hc
    unfold notThreshold Reg.CMP_THR at hc
    omega
  have hcfg : t.fld (Reg.CMP_CFG n) F.CMP_CFG_REFSEL = s.fld (Reg.CMP_CFG n) F.CMP_CFG_REFSEL := by
    refine h.writes.fld _ fun hc => ?_
    obtain ⟨-, -, -, -, hc⟩ := hc
    unfold notThreshold Reg.CMP_CFG at hc
    omega
  have hnom : t.cmpNominal n = s.cmpNominal n := by
    unfold State.cmpNominal
    rw [hcfg, h.cref]
  unfold State.cmpCheckOk
  rw [hthr, hnom]

theorem CmpState.held_of_core {x y : CmpState} (h : x.core = y.core) : x.held = y.held :=
  show x.core.held = y.core.held from congrArg CmpState.held h

theorem State.cmpMod_held (s : State) (n : Nat) {f : CmpState → CmpState} (hf : ∀ x, (f x).held = x.held) (k : Nat) :
    ((s.cmpMod n f).cmp.cmps.at k).held = (s.cmp.cmps.at k).held := by
  show (Tab.at (Tab.mod s.cmp.cmps n f) k).held = _
  rcases Tab.at_mod_cases s.cmp.cmps n f k with h | ⟨-, h⟩
  · rw [h]
  · rw [h, hf]

/-- The same comparators are held. -/
def State.HeldAs (s t : State) : Prop := ∀ k, (t.cmp.cmps.at k).held = (s.cmp.cmps.at k).held

theorem State.Routes.held (h : s.Routes t) : s.HeldAs t := fun k => CmpState.held_of_core (h.cmps k)

theorem State.HeldAs.trans (h : s.HeldAs t) (k : t.HeldAs u) : s.HeldAs u := fun n => (k n).trans (h n)

theorem State.cmpRoute_held (hs : s.regsOk = true) (n : Nat) : s.HeldAs (s.cmpRoute n) := by
  unfold State.cmpRoute
  extract_lets +onlyGivenNames v
  split
  · exact (State.Routes.refl hs).cmpView.held
  · extract_lets +onlyGivenNames s1 s2 s3 s4
    have hheld : s.HeldAs s1 := State.cmpMod_held s n (f := CmpState.turned v) fun _ => rfl
    have hs1 : s1.Routes s1 := .refl hs
    have hs2 : s1.Routes s2 := hs1.cmpView.windowCheck
    have hs3 : s1.Routes s3 := .ite hs2.adcFire.wakeCmp hs2
    have hs4 : s1.Routes s4 := .ite hs3.demandSet hs3
    exact hheld.trans hs4.tripEval.held

theorem State.held_cmpMod {n : Nat} (hn : n < s.cmp.cmps.length) (b : Bool) (k : Nat) :
    ((s.cmpMod n (fun x => { x with held := b })).cmp.cmps.at k).held = if k = n then b else (s.cmp.cmps.at k).held := by
  by_cases hk : k = n
  · subst hk
    rw [if_pos rfl, State.cmp_cmpMod_same _ hn]
  · rw [if_neg hk]
    exact congrArg CmpState.held (Tab.at_mod_ne _ _ hk)

theorem State.cmpCheck_held (hs : s.inv = true) {n : Nat} (hn : n < 64) (dac thr : Int) (k : Nat) :
    ((s.cmpCheck n dac thr).cmp.cmps.at k).held = if k = n then !s.cmpCheckOk n dac thr else (s.cmp.cmps.at k).held := by
  let v := s.cmpMod n (fun x => { x with checkedAt := s.gt })
  have hok := State.regsOk_of_inv hs
  have hv : v.regsOk = true := hok
  have hlen : n < v.cmp.cmps.length := by
    simpa only [v, State.cmpMod, Tab.mod, List.length_modify, State.cmps_length hs] using hn
  have hkept : (v.cmp.cmps.at k).held = (s.cmp.cmps.at k).held  := State.cmpMod_held s n (f := fun x => { x with checkedAt := s.gt }) (fun _ => rfl) k
  cases hok : s.cmpCheckOk n dac thr with
  | true =>
    rw [show s.cmpCheck n dac thr = (v.cmpMod n (fun x => { x with held := false })).cmpRoute n from if_pos hok]
    rw [State.cmpRoute_held (s := v.cmpMod n (fun x => { x with held := false })) hv, State.held_cmpMod hlen, hkept]
    rfl
  | false =>
    let w := (v.stick Stk.CMP_DAC_FAIL).logRec 0x06 (evCode Stk.CMP_DAC_FAIL.file 2) [w32 n]
    have hw : w.regsOk = true := State.logRec_ok _ _ _ _ (State.stick_ok _ hv)
    have hcmp : w.cmp = v.cmp := (State.logRec_cmp _ _ _ _ _).trans (State.stick_cmp _ _)
    rw [show s.cmpCheck n dac thr = (w.cmpMod n (fun x => { x with held := true })).cmpRoute n from if_neg (by simp [hok])]
    rw [State.cmpRoute_held (s := w.cmpMod n (fun x => { x with held := true })) hw, State.held_cmpMod (by rw [hcmp]; exact hlen), hcmp, hkept]
    rfl

/-! ## The checks in turn -/

theorem State.cmpChecks_spec (hs : s.inv = true) (es : List (Nat × Int × Int)) (hes : ∀ e ∈ es, e.1 < 64) (hn : (es.map Prod.fst).Nodup) :
    let t := es.foldl (fun x e => x.cmpCheck e.1 e.2.1 e.2.2) s
    s.SafeWork t ∧ (∀ k, k ∉ es.map Prod.fst → (t.cmp.cmps.at k).held = (s.cmp.cmps.at k).held) ∧
      ∀ e ∈ es, (t.cmp.cmps.at e.1).held = !s.cmpCheckOk e.1 e.2.1 e.2.2 := by
  induction es generalizing s with
  | nil => exact ⟨.refl (State.regsOk_of_inv hs), fun _ _ => rfl, fun _ h => absurd h List.not_mem_nil⟩
  | cons e es ih =>
    rw [List.map_cons] at hn
    obtain ⟨he, hn⟩ := List.nodup_cons.mp hn
    have hlt := hes e List.mem_cons_self
    have h1 : s.SafeWork (s.cmpCheck e.1 e.2.1 e.2.2) := (State.SafeWork.refl (State.regsOk_of_inv hs)).cmpCheck hlt
    have hheld := State.cmpCheck_held hs hlt e.2.1 e.2.2
    have hinv : (s.cmpCheck e.1 e.2.1 e.2.2).inv = true :=
      (State.Moves.cmpCheck (own := []) (.refl s) (List.Subset.refl _)).inv hs
    obtain ⟨h2, hother, hcheck⟩ := ih hinv (fun d hd => hes d (List.mem_cons_of_mem _ hd)) hn
    refine ⟨h1.trans h2, fun k hk => ?_, fun d hd => ?_⟩
    · rw [List.map_cons, List.mem_cons, not_or] at hk
      exact (hother k hk.2).trans ((hheld k).trans (if_neg hk.1))
    · rcases List.mem_cons.mp hd with rfl | hd
      · exact (hother _ he).trans ((hheld _).trans (if_pos rfl))
      · exact (hcheck d hd).trans (congrArg (!·) (h1.cmpCheckOk ⟨d.1, hes d (List.mem_cons_of_mem _ hd)⟩ _ _))

theorem execDiag_spec (readings : List (Int × Int)) (h : s.runs tag 0x0A c) :
    let es := ((bitsOf 64 (c.pw 0 + 2 ^ 32 * c.pw 1)).zipIdx).map (fun e => (e.1, readings.getD e.2 (0, 0)))
    ∃ t, exec (.diag tag readings) s = .next t ∧ s.keeps t ([.ana, .cmp, .pwm, .gl, .safe, .pwr, .sup, .mbx] ++ logParts) ∧
      t.completed (c.comp tag stOk (w32 (es.filter (fun e => !s.cmpCheckOk e.1 e.2.1 e.2.2)).length)) ∧
      ∀ e, e ∈ es → (t.cmp.cmps.at e.1).held = !s.cmpCheckOk e.1 e.2.1 e.2.2 := by
  intro es
  let b := s.begun tag c
  let u := es.foldl (fun (x : State) e => x.cmpCheck e.1 e.2.1 e.2.2) b
  let r := w32 (es.filter (fun e => !s.cmpCheckOk e.1 e.2.1 e.2.2)).length
  have hexec : exec (.diag tag readings) s = .next (u.finish tag stOk r) := congrArg Host.Outcome.next (State.command_runs h)
  have hfst : es.map Prod.fst = bitsOf 64 (c.pw 0 + 2 ^ 32 * c.pw 1) := by
    rw [List.map_map]
    exact List.zipIdx_map_fst 0 _
  have hbinv : b.inv = true := (State.begun_moves s tag c).inv h.inv
  obtain ⟨hwork, -, hheld⟩ := State.cmpChecks_spec hbinv es
    (fun e he => (mem_bitsOf.mp (hfst ▸ List.mem_map_of_mem he)).1) (hfst ▸ nodup_bitsOf _ _)
  have hmu : b.Moves [] (.ana :: .cmp :: .pwm :: .gl :: .safe :: .pwr :: logParts) u := .foldl (fun _ _ hx => .cmpCheck hx (by decide)) (.refl b)
  have hready := (h.ready tag.isLt).away hwork.writes (fun _ => workRegs_away) hwork.events.mailKept
  have hfin := hready.finished stOk r 0 0 0#32 0#32
  refine ⟨_, hexec, ?_, hready.finish_completed stOk r 0 0 0#32 0#32, fun e he => ?_⟩
  · exact State.keeps_trans (State.keeps_mono (State.begun_moves s tag c).keeps (by decide))
      (State.keeps_trans (State.keeps_mono hmu.keeps (by decide)) (State.keeps_mono hfin.keeps (by decide)))
  · obtain ⟨-, -, -, -, -, -, -, -, -, kcmp, -⟩ := hfin.keeps
    rw [kcmp.resolve_left (by decide)]
    exact hheld e he

end Sys2Proof.Machine
end

section
/-!
PROOFS. The commands of the leg groups: PWM_SET and TRIP_CLEAR (R250, R265, R436).
-/
namespace Sys2Proof.Machine

variable {s t u : State} {tag : Fin 64} {c : MCmd}

/-! ## Registers written in turn -/

/-- Words written to different registers, one after the other. -/
theorem State.setRegs_from {α : Type} (hs : s.regsOk = true) (a : α → Nat) (f : Nat → Word) (l : List α) (k : Nat) (hn : (l.map a).Nodup) :
    let t := (l.zipIdx k).foldl (fun x e => x.setReg (a e.1) (f e.2)) s
    s.Writes (· ∈ l.map a) t ∧ ∀ i n, l[i]? = some n → t.reg (a n) = f (k + i) := by
  induction l generalizing s k with
  | nil => exact ⟨.refl hs, fun i n h => by simp at h⟩
  | cons m l ih =>
    rw [List.map_cons] at hn
    obtain ⟨hm, hn⟩ := List.nodup_cons.mp hn
    have h1 : s.Writes (· ∈ (m :: l).map a) (s.setReg (a m) (f k)) := (State.Writes.refl hs).setReg _ (by simp)
    obtain ⟨h2, hset⟩ := ih h1.ok (k + 1) hn
    refine ⟨h1.trans (h2.mono fun _ h => List.mem_cons_of_mem _ h), fun i n hi => ?_⟩
    cases i with
    | zero =>
      obtain rfl : m = n := by simpa using hi
      exact (h2.reg hm).trans (State.reg_setReg _ _ hs)
    | succ i => exact (hset i n (by simpa using hi)).trans (congrArg f (by omega))

theorem State.setRegs_spec {α : Type} (hs : s.regsOk = true) (a : α → Nat) (f : Nat → Word) (l : List α) (hn : (l.map a).Nodup) :
    let t := l.zipIdx.foldl (fun x e => x.setReg (a e.1) (f e.2)) s
    s.Writes (· ∈ l.map a) t ∧ ∀ i n, l[i]? = some n → t.reg (a n) = f i := by
  obtain ⟨hw, hset⟩ := State.setRegs_from hs a f l 0 hn
  exact ⟨hw, fun i n hi => (hset i n hi).trans (congrArg f (Nat.zero_add i))⟩

theorem State.groups_le (s : State) : s.groups ≤ 32 := by
  unfold State.groups
  split <;> decide

theorem State.lt_groups (h : s.absentGroups m = false) {g : Nat} (hg : m.testBit g = true) : g < s.groups := by
  have hz : m / 2 ^ s.groups = 0 := by simpa [State.absentGroups] using h
  by_contra hle
  have hlt : m < 2 ^ s.groups := (Nat.div_eq_zero_iff_lt (Nat.two_pow_pos _)).mp hz
  rw [Nat.testBit_lt_two_pow (hlt.trans_le (Nat.pow_le_pow_right (by decide) (not_lt.mp hle)))] at hg
  exact absurd hg (by decide)

/-! ## PWM_SET -/

/-- The words of a set stand in the shadow registers of its group, and nothing else changes (R250). -/
theorem State.shadowPut_spec (hs : s.regsOk = true) (g : Nat) (ws : List Word) :
    s.Writes (fun a => Reg.PWM_CMPA g ≤ a ∧ a < Reg.PWM_HUPD g) (s.shadowPut g ws) ∧ (s.shadowPut g ws).pwm = s.pwm ∧
      (s.shadowPut g ws).gt = s.gt ∧ (s.shadowPut g ws).mbx = s.mbx ∧
      ∀ i, i < 8 → (s.shadowPut g ws).reg (Reg.PWM_CMPA g + 4 * i) = ws.getD i 0#32 := by
  let l := (List.range 8).map (fun i => Reg.PWM_CMPA g + 4 * i)
  have hl : l = [Reg.PWM_CMPA g, Reg.PWM_CMPB g, Reg.PWM_CMPC g, Reg.PWM_CMPD g, Reg.PWM_CMPE g, Reg.PWM_CMPF g, Reg.PWM_TRGA g, Reg.PWM_LGCMD g] := by
    have hrange : List.range 8 = [0, 1, 2, 3, 4, 5, 6, 7] := by decide
    simp only [l, hrange, List.map_cons, List.map_nil, List.cons.injEq, and_true, Reg.PWM_CMPA, Reg.PWM_CMPB, Reg.PWM_CMPC, Reg.PWM_CMPD, Reg.PWM_CMPE,
      Reg.PWM_CMPF, Reg.PWM_TRGA, Reg.PWM_LGCMD]
    omega
  have heq : s.shadowPut g ws = l.zipIdx.foldl (fun t e => t.setReg e.1 (ws.getD e.2 0#32)) s := by
    unfold State.shadowPut
    rw [hl]
  have hn : (l.map id).Nodup := by
    rw [List.map_id]
    exact List.nodup_range.map fun i j hij => by simpa using hij
  obtain ⟨hw, hset⟩ := State.setRegs_spec hs id (fun i => ws.getD i 0#32) l hn
  simp only [id] at hw hset
  rw [← heq] at hw hset
  have hm : s.Moves [] [.regs] (s.shadowPut g ws) := .shadowPut (.refl s) (by decide)
  refine ⟨hw.mono fun a ha => ?_, hm.pwm_kept (by decide), hm.gt_kept (by decide), hm.mbx_kept (by decide), fun i hi => hset i _ (by simp [l, hi])⟩
  obtain ⟨i, hi, rfl⟩ := List.mem_map.mp ((List.map_id' l) ▸ ha)
  have hi := List.mem_range.mp hi
  unfold Reg.PWM_CMPA Reg.PWM_HUPD
  omega

theorem execPwmSet_spec (dma : List Byte) (h : s.runs tag 0x301 c) :
    let g := c.pw 0
    let ws := (List.range 8).map (fun i => w32 (leAt (s.dataIn c dma) (4 * i) 4))
    g < s.groups → s.fld (Reg.PWM_LGCFG g) F.PWM_LGCFG_SRC ≠ 0 → s.flag (Reg.PWM_LGCFG g) F.PWM_LGCFG_EN = true → c.len = 32 →
      (s.setOk g ws = true →
        ∃ t, exec (.pwmSet tag dma) s = .next t ∧ s.keeps t [.regs, .pwm, .mbx] ∧ t.goesOn tag c ∧ t.flag (Reg.PWM_HUPD g) F.PWM_HUPD_ARM = true ∧
          (∀ i, i < 8 → t.reg (Reg.PWM_CMPA g + 4 * i) = ws.getD i 0#32) ∧ (t.pwm.lgs.at g).armGt = s.gt ∧
          (t.pwm.lgs.at g).hupdTag = (s.pwm.lgs.at g).hupdTag ++ [tag.val] ∧ (∀ k, k ≠ g → t.pwm.lgs.at k = s.pwm.lgs.at k) ∧ t.pwm.chs = s.pwm.chs) ∧
      (s.setOk g ws = false → ∃ t, exec (.pwmSet tag dma) s = .next t ∧ t.completed (c.comp tag stRange 0xFF#32) ∧ s.justEnds t tag c) := by
  intro g ws hg hsrc hen hlen
  let b := s.begun tag c
  have hbok : b.regsOk = true := h.regsOk
  let v := (b.shadowPut g ws).setFld (Reg.PWM_HUPD g) F.PWM_HUPD_ARM 1
  let w := v.lgMod g (fun l => { l with armGt := b.gt, hupdTag := l.hupdTag ++ [tag.val] })
  have hexec : exec (.pwmSet tag dma) s = .next (if s.groups ≤ g || s.fld (Reg.PWM_LGCFG g) F.PWM_LGCFG_SRC = 0 || !s.flag (Reg.PWM_LGCFG g) F.PWM_LGCFG_EN
      then b.finish tag stRange 8#32 else if c.len ≠ 32 then b.finish tag stRange 6#32 else if !s.setOk g ws then b.finish tag stRange 0xFF#32 else w) :=
    congrArg Host.Outcome.next (State.command_runs h)
  rw [if_neg (by simp [hsrc, hen, Nat.not_le.mpr hg]), if_neg (by simp [hlen])] at hexec
  refine ⟨fun hok => ?_, fun hok => ?_⟩
  · rw [if_neg (by simp [hok])] at hexec
    obtain ⟨hw, hpwm, hgt, hmbx, hset⟩ := State.shadowPut_spec hbok g ws
    have hmw : b.Moves [] [.regs, .pwm] w := .lgMod (.setFld (.shadowPut (.refl b) (by decide)) (by decide)) (by decide)
    have hlgs : w.pwm.lgs = s.pwm.lgs.mod g (fun l => { l with armGt := b.gt, hupdTag := l.hupdTag ++ [tag.val] }) := by
      show Tab.mod (b.shadowPut g ws).pwm.lgs _ _ = _
      rw [hpwm]
      rfl
    have hat : w.pwm.lgs.at g = { s.pwm.lgs.at g with armGt := b.gt, hupdTag := (s.pwm.lgs.at g).hupdTag ++ [tag.val] } := by
      rw [hlgs]
      exact Tab.at_mod_same _ _ _ (by rw [(State.sized_of_inv h.inv).pwm.2]; exact hg.trans_le s.groups_le)
    refine ⟨w, hexec, State.keeps_trans (State.keeps_mono (State.begun_moves s tag c).keeps (by decide)) (State.keeps_mono hmw.keeps (by decide)),
      KMap.find_put_same _ _ _, State.flag_setFld hw.ok _ _ _ (by decide), fun i hi => ?_, by rw [hat]; rfl, by rw [hat], fun k hk => ?_, ?_⟩
    · have hne : Reg.PWM_CMPA g + 4 * i ≠ Reg.PWM_HUPD g := by
        unfold Reg.PWM_CMPA Reg.PWM_HUPD
        omega
      exact (State.reg_setFld_ne _ _ hw.ok hne).trans (hset i hi)
    · rw [hlgs]
      exact Tab.at_mod_ne _ _ hk
    · show (b.shadowPut g ws).pwm.chs = _
      rw [hpwm]
      rfl
  · rw [if_pos (by simp [hok])] at hexec
    exact ⟨_, hexec, h.ends tag.isLt stRange 0xFF#32 0 0 0#32 0#32⟩

/-! ## TRIP_CLEAR -/

/-- A group whose latched trip has been cleared. -/
def LegGroup.freed (l : LegGroup) : LegGroup := { l with latched := false, resume := true }

theorem State.tripClear_pwm (s : State) (g : Nat) : (s.tripClear g).pwm =
    if s.tripClearable g then { s.pwm with lgs := s.pwm.lgs.mod g LegGroup.freed } else s.pwm := by
  unfold State.tripClear
  split <;> rfl

theorem State.tripClears_spec (hlen : s.pwm.lgs.length = 32) (l : List Nat) (hl : ∀ g ∈ l, g < 32) (hn : l.Nodup) :
    let t := l.foldl (fun x g => x.tripClear g) s
    t.pwm.chs = s.pwm.chs ∧ (∀ g, g ∉ l → t.pwm.lgs.at g = s.pwm.lgs.at g) ∧
      ∀ g ∈ l, t.pwm.lgs.at g = if s.tripClearable g then (s.pwm.lgs.at g).freed else s.pwm.lgs.at g := by
  induction l generalizing s with
  | nil => exact ⟨rfl, fun _ _ => rfl, fun _ h => absurd h List.not_mem_nil⟩
  | cons g l ih =>
    obtain ⟨hg, hn⟩ := List.nodup_cons.mp hn
    have hp := s.tripClear_pwm g
    have hregs : (s.tripClear g).regs = s.regs ∧ (s.tripClear g).cmp = s.cmp := by
      unfold State.tripClear
      split <;> exact ⟨rfl, rfl⟩
    have hchs : (s.tripClear g).pwm.chs = s.pwm.chs := by
      rw [hp]
      split <;> rfl
    have hlen1 : (s.tripClear g).pwm.lgs.length = 32 := by
      rw [hp]
      split
      · simpa [Tab.mod] using hlen
      · exact hlen
    have hsame : (s.tripClear g).pwm.lgs.at g = if s.tripClearable g then (s.pwm.lgs.at g).freed else s.pwm.lgs.at g := by
      rw [hp]
      split
      · exact Tab.at_mod_same _ _ _ (by rw [hlen]; exact hl g List.mem_cons_self)
      · rfl
    have hother {k : Nat} (hk : k ≠ g) : (s.tripClear g).pwm.lgs.at k = s.pwm.lgs.at k := by
      rw [hp]
      split
      · exact Tab.at_mod_ne _ _ hk
      · rfl
    obtain ⟨hregs, hcmp⟩ := hregs
    have hclear {k : Nat} (hk : k ≠ g) : (s.tripClear g).tripClearable k = s.tripClearable k := by
      unfold State.tripClearable
      rw [hother hk, hcmp, State.fld_of_reg (State.reg_of_regs hregs _)]
    simp only [List.foldl_cons]
    generalize s.tripClear g = v at *
    obtain ⟨ichs, iother, iin⟩ := ih hlen1 (fun k hk => hl k (List.mem_cons_of_mem _ hk)) hn
    refine ⟨ichs.trans hchs, fun k hk => ?_, fun k hk => ?_⟩
    · rw [List.mem_cons, not_or] at hk
      exact (iother k hk.2).trans (hother hk.1)
    · rcases List.mem_cons.mp hk with rfl | hk
      · exact (iother k hg).trans hsame
      · have hne : k ≠ g := fun hc => hg (hc ▸ hk)
        exact (iin k hk).trans (by rw [hclear hne, hother hne])

theorem execTripClear_spec (h : s.runs tag 0x302 c) (hgr : s.absentGroups (c.pw 0) = false) :
    ((∀ g, (c.pw 0).testBit g = true → (s.pwm.lgs.at g).latched = true → s.tripClearable g = true) →
        ∃ t, exec (.tripClear tag) s = .next t ∧ t.completed (c.comp tag stOk) ∧ s.endsOnly t tag c [.pwm] (fun _ => False) ∧ t.pwm.chs = s.pwm.chs ∧
          ∀ g, if (c.pw 0).testBit g = true ∧ (s.pwm.lgs.at g).latched = true then (t.pwm.lgs.at g).latched = false ∧ (t.pwm.lgs.at g).resume = true
            else t.pwm.lgs.at g = s.pwm.lgs.at g) ∧
      ((∃ g, (c.pw 0).testBit g = true ∧ (s.pwm.lgs.at g).latched = true ∧ s.tripClearable g = false) →
        ∃ t, exec (.tripClear tag) s = .next t ∧ t.completed (c.comp tag stSafety 8#32) ∧ s.justEnds t tag c) := by
  let b := s.begun tag c
  let l := bitsOf 32 (c.pw 0)
  let u := l.foldl (fun (x : State) g => x.tripClear g) b
  have hexec : exec (.tripClear tag) s = .next (if s.absentGroups (c.pw 0) then b.finish tag stRange 8#32
      else if l.any (fun g => (s.pwm.lgs.at g).latched && !s.tripClearable g) then b.finish tag stSafety 8#32 else u.finish tag stOk) :=
    congrArg Host.Outcome.next (State.command_runs h)
  rw [if_neg (by simp [hgr])] at hexec
  have hmem {g : Nat} : g ∈ l ↔ (c.pw 0).testBit g = true :=
    ⟨fun hg => (mem_bitsOf.mp hg).2, fun hg => mem_bitsOf.mpr ⟨(State.lt_groups hgr hg).trans_le s.groups_le, hg⟩⟩
  refine ⟨fun hall => ?_, fun ⟨g, hbit, hlat, hno⟩ => ?_⟩
  · have hnone : ¬ l.any (fun g => (s.pwm.lgs.at g).latched && !s.tripClearable g) = true := by
      rw [List.any_eq_true]
      rintro ⟨g, hg, hx⟩
      rw [Bool.and_eq_true, Bool.not_eq_true'] at hx
      exact absurd (hx.2.symm.trans (hall g (hmem.mp hg) hx.1)) (by decide)
    rw [if_neg hnone] at hexec
    have hlen : b.pwm.lgs.length = 32 := (State.sized_of_inv h.inv).pwm.2
    obtain ⟨hchs, hother, hin⟩ := State.tripClears_spec hlen l (fun g hg => (mem_bitsOf.mp hg).1) (nodup_bitsOf _ _)
    have hmu : b.Moves [] [.pwm] u := .foldl (fun _ _ hx => .tripClear hx (by decide)) (.refl b)
    obtain ⟨hcomp, hends⟩ := h.endsWith hmu (by decide) (hmu.mbx_kept (by decide)) stOk 0#32 0 0 0#32 0#32
    have hpwm : (u.finish tag stOk 0#32 0 0 0#32 0#32).pwm = u.pwm :=
      State.Moves.pwm_kept (own := []) (may := [.regs, .mbx, .out]) (.finish (.refl u) (by decide)) (by decide)
    refine ⟨_, hexec, hcomp, hends, by rw [hpwm]; exact hchs, fun g => ?_⟩
    rw [hpwm]
    split
    next hg =>
      have hclear : b.tripClearable g = true := hall g hg.1 hg.2
      rw [hin g (hmem.mpr hg.1), if_pos hclear]
      exact ⟨rfl, rfl⟩
    next hg =>
      by_cases hgl : g ∈ l
      · have hlat : (s.pwm.lgs.at g).latched = false := by simpa using fun hc => hg ⟨hmem.mp hgl, hc⟩
        have hno : ¬ b.tripClearable g = true := by
          show ¬ s.tripClearable g = true
          simp [State.tripClearable, hlat]
        rw [hin g hgl, if_neg hno]
        rfl
      · exact hother g hgl
  · rw [if_pos (List.any_eq_true.mpr ⟨g, hmem.mpr hbit, by simp [hlat, hno]⟩)] at hexec
    exact ⟨_, hexec, h.ends tag.isLt stSafety 8#32 0 0 0#32 0#32⟩

end Sys2Proof.Machine
end

section
/-!
PROOFS. The commands of the gate links: GL_CAL, GL_CLEAR and LPRB_RUN (R275, R282, R285, R288, R436): O51.
-/
namespace Sys2Proof.Machine

variable {s t u : State} {tag : Fin 64} {c : MCmd}

/-! ## GL_CAL -/

theorem nodup_calChans (m k : Nat) : (calChans m k).Nodup := by
  refine List.nodup_flatMap.mpr ⟨fun g _ => (nodup_bitsOf 6 k).map fun i j h => by simpa using h, ?_⟩
  refine (nodup_bitsOf 32 m).imp fun {g h} hne => List.disjoint_left.mpr fun n hg hh => hne ?_
  obtain ⟨i, hi, rfl⟩ := List.mem_map.mp hg
  obtain ⟨j, hj, he⟩ := List.mem_map.mp hh
  have hi := (mem_bitsOf.mp hi).1
  have hj := (mem_bitsOf.mp hj).1
  omega

theorem calChans_lt {m k n : Nat} (h : n ∈ calChans m k) : n < 192 := by
  obtain ⟨g, hg, hn⟩ := List.mem_flatMap.mp h
  obtain ⟨i, hi, rfl⟩ := List.mem_map.mp hn
  have hi := (mem_bitsOf.mp hi).1
  have hg := (mem_bitsOf.mp hg).1
  omega

/-- The register of the link delays of channel `n`. -/
def delayReg (n : Nat) : Nat := Reg.GL_LDLY (n / 6) (n % 6)

theorem delayReg_inj {i j : Nat} (h : delayReg i = delayReg j) : i = j := by
  unfold delayReg Reg.GL_LDLY at h
  omega

theorem delayReg_away {n : Nat} : awayRegs (delayReg n) := by
  unfold delayReg Reg.GL_LDLY
  exact ⟨by omega, by omega, by unfold Reg.SUP_STAT; omega⟩

theorem execGlCal_spec (trips : List (Nat × Nat)) (h : s.runs tag 0x303 c) (hgr : s.absentGroups (c.pw 0) = false) :
    (s.dev = .standby → s.pwr.leaving = none → (c.pw 1).testBit 31 = true →
        ∃ t, exec (.glCal tag trips) s = .next t ∧ t.completed (c.comp tag stOk) ∧ t.fw.rewrite = true ∧
          s.endsOnly t tag c [.fw] (fun a => ∃ g k, g < 32 ∧ k < 6 ∧ a = Reg.GL_LDLY g k) ∧
          ∀ i n, (calChans (c.pw 0) (c.pw 1))[i]? = some n → t.regN (Reg.GL_LDLY (n / 6) (n % 6)) =
            min (trips.getD i (0, 0)).1 0xFFFF + 2 ^ 16 * min (trips.getD i (0, 0)).2 0xFFFF) ∧
      (s.dev ≠ .standby ∨ (c.pw 1).testBit 31 = false →
        ∃ t, exec (.glCal tag trips) s = .next t ∧ t.completed (c.comp tag stSafety 9#32) ∧ s.justEnds t tag c) := by
  let b := s.begun tag c
  let l := calChans (c.pw 0) (c.pw 1)
  let f : Nat → Nat := fun i => min (trips.getD i (0, 0)).1 0xFFFF + 2 ^ 16 * min (trips.getD i (0, 0)).2 0xFFFF
  let u := l.zipIdx.foldl (fun (x : State) e => x.setReg (delayReg e.1) (w32 (f e.2))) b
  have hexec : exec (.glCal tag trips) s = .next (if s.absentGroups (c.pw 0) then b.finish tag stRange 8#32
      else if s.dev != .standby || s.pwr.leaving.isSome || !(c.pw 1).testBit 31 then b.finish tag stSafety 9#32 else u.storeDue.finish tag stOk) :=
    congrArg Host.Outcome.next (State.command_runs h)
  rw [if_neg (by simp [hgr])] at hexec
  refine ⟨fun hdev hleave hgo => ?_, fun hno => ?_⟩
  · rw [if_neg (by rw [hdev, hleave, hgo]; decide)] at hexec
    have hbok : b.regsOk = true := h.regsOk
    obtain ⟨hw, hset⟩ := State.setRegs_spec hbok delayReg (fun i => w32 (f i)) l ((nodup_calChans _ _).map fun _ _ => delayReg_inj)
    have hmu : b.Moves [] [.regs] u := .foldl (fun _ _ hx => .setReg hx (by decide)) (.refl b)
    have hmv : b.Moves [] [.regs, .fw] u.storeDue := .storeDue (hmu.mono (by decide)) (by decide)
    have hmbx : u.storeDue.mbx = b.mbx := hmv.mbx_kept (by decide)
    have hu : u = l.zipIdx.foldl (fun (x : State) e => x.setReg (delayReg e.1) (w32 (f e.2))) b := rfl
    rw [← hu] at hw hset
    clear_value u
    have hmem : ∀ a ∈ l.map delayReg, ∃ g k, g < 32 ∧ k < 6 ∧ a = Reg.GL_LDLY g k := fun a ha => by
      obtain ⟨n, hn, rfl⟩ := List.mem_map.mp ha
      have hlt := calChans_lt hn
      exact ⟨n / 6, n % 6, by omega, by omega, rfl⟩
    have hwv : b.Writes (fun a => ∃ g k, g < 32 ∧ k < 6 ∧ a = Reg.GL_LDLY g k) u.storeDue := (hw.mono hmem).of_regs rfl
    have haway : ∀ a, (∃ g k, g < 32 ∧ k < 6 ∧ a = Reg.GL_LDLY g k) → awayRegs a := by
      rintro a ⟨g, k, -, hk, rfl⟩
      have hn : delayReg (6 * g + k) = Reg.GL_LDLY g k := by
        unfold delayReg
        rw [show (6 * g + k) / 6 = g by omega, show (6 * g + k) % 6 = k by omega]
      exact hn ▸ delayReg_away
    have hready := (h.ready tag.isLt).away hwv haway (.of_eq hmbx)
    have hfin := hready.finished stOk 0#32 0 0 0#32 0#32
    obtain ⟨hcomp, hends⟩ := h.endsAfter (may := [.fw]) (State.keeps_mono hmv.keeps (by decide)) hwv haway (.of_eq hmbx) stOk 0#32 0 0 0#32 0#32
    refine ⟨_, hexec, hcomp, ?_, hends, fun i n hi => ?_⟩
    · obtain ⟨-, -, -, -, -, -, -, -, -, -, -, -, -, -, -, -, -, -, -, -, -, kfw, -⟩ := hfin.keeps
      rw [kfw.resolve_left (by decide)]
      rfl
    · have hlt : f i < 2 ^ 32 := by
        simp only [f]
        omega
      refine (hfin.writes.regN (awayRegs_cq delayReg_away) : _ = u.regN (delayReg n)).trans ?_
      exact (congrArg BitVec.toNat (hset i n hi)).trans (BitVec.toNat_ofNat _ _ |>.trans (Nat.mod_eq_of_lt hlt))
  · rw [if_pos (by
      rcases hno with hd | hb
      · simp [hd]
      · simp [hb])] at hexec
    exact ⟨_, hexec, h.ends tag.isLt stSafety 9#32 0 0 0#32 0#32⟩

/-! ## GL_CLEAR -/

/-- What clearing latched faults leaves: registers of the gate links alone, GT, and the switched-on pairs' states. -/
structure State.LatchCleared (l : List Nat) (s t : State) : Prop where
  writes : s.Writes (fun a => 0x38000 ≤ a) t
  inv : t.inv = true
  gt : t.gt = s.gt
  shoot : t.gl.shoot = s.gl.shoot
  others : ∀ k, k ∉ l → t.gl.chs.at k = s.gl.chs.at k
  latched : ∀ k ∈ l, (t.gl.chs.at k).latched = ((s.gl.chs.at k).latched && !s.latchClearable k)

theorem State.setCode_writes {m : Nat → Prop} (hm : ∀ a, 0x38000 ≤ a → m a) (h : s.Writes m t) (n : Nat) (on : Bool) (v : Nat) : s.Writes m (t.setCode n on v) := by
  refine h.setFld _ _ (hm _ ?_)
  unfold codeReg
  split
  · exact Nat.le_add_right_of_le (by decide)
  · exact Nat.le_add_right_of_le (by decide)

theorem State.initCodes_spec (hs : s.regsOk = true) (n : Nat) : s.Writes (fun a => 0x38000 ≤ a) (s.initCodes n) ∧
    (s.initCodes n).gl = { s.gl with chs := s.gl.chs.mod n (fun c => { c with newOn := none, newOff := none }) } := by
  have hw := State.setCode_writes (fun _ => id) (State.setCode_writes (fun _ => id) (State.Writes.refl hs) n true (s.codeInit n true)) n false (s.codeInit n false)
  exact ⟨hw.of_regs rfl, rfl⟩

/-- A channel whose latched fault has been cleared. -/
def GlCh.cleared (x : GlCh) : GlCh :=
  { x with latched := false, active := false, waiting := false, release := false, tries := 0, newOn := none, newOff := none }

theorem Tab.mod_mod {α : Type} (l : List α) (i : Nat) (f g : α → α) : Tab.mod (Tab.mod l i f) i g = Tab.mod l i (fun x => g (f x)) := List.modify_modify_eq ..

theorem State.latchClear_does (hs : s.regsOk = true) {n : Nat} (hc : s.latchClearable n = true) :
    s.Writes (fun a => 0x38000 ≤ a) (s.latchClear n) ∧ (s.latchClear n).gl = { s.gl with chs := s.gl.chs.mod n GlCh.cleared } := by
  let v := s.glMod n (fun c => { c with latched := false, active := false, waiting := false, release := false, tries := 0 })
  have hv : s.Writes (fun a => 0x38000 ≤ a) v := (State.Writes.refl hs).of_regs rfl
  obtain ⟨hw, hgl⟩ := State.initCodes_spec hv.ok n
  have hgl : (v.initCodes n).gl = { s.gl with chs := s.gl.chs.mod n GlCh.cleared } := by
    rw [hgl]
    exact congrArg (fun l => { s.gl with chs := l }) (Tab.mod_mod ..)
  have hwv := hv.trans hw
  unfold State.latchClear
  rw [if_neg (by simp [hc])]
  extract_lets +onlyGivenNames s1
  have hs1 : s1 = v.initCodes n := rfl
  rw [← hs1] at hgl hwv
  clear_value s1
  have hstat : 0x38000 ≤ Reg.GL_STAT (lgOf n) := Nat.le_add_right_of_le (by decide)
  have hw2 : s.Writes (fun a => 0x38000 ≤ a) (s1.chMod n (fun c => { c with skip := 32 * s.nextBoundary (lgOf n) })) := hwv.of_regs rfl
  exact ⟨hw2.setRegN _ hstat, hgl⟩

theorem State.latchClear_spec (hs : s.inv = true) {n : Nat} (hn : n < 192) : s.LatchCleared [n] (s.latchClear n) := by
  have hok := State.regsOk_of_inv hs
  have hm : s.Moves [] [.regs, .pwm, .gl] (s.latchClear n) := .latchClear (.refl s) (by decide)
  have hlen : n < s.gl.chs.length := by
    rw [(State.sized_of_inv hs).gl.1]
    exact hn
  cases hc : s.latchClearable n with
  | false =>
    rw [show s.latchClear n = s from if_pos (by simp [hc])]
    exact ⟨.refl hok, hs, rfl, rfl, fun _ _ => rfl, by simp [hc]⟩
  | true =>
    obtain ⟨hw, hgl⟩ := State.latchClear_does hok hc
    refine ⟨hw, hm.inv hs, hm.gt_kept (by decide), by rw [hgl], fun k hk => ?_, fun k hk => ?_⟩
    · rw [hgl]
      exact Tab.at_mod_ne _ _ fun he => hk (List.mem_singleton.mpr he)
    · obtain rfl := List.mem_singleton.mp hk
      rw [hgl, hc, Bool.not_true, Bool.and_false]
      exact congrArg GlCh.latched (Tab.at_mod_same _ _ _ hlen)

theorem State.latchClears_spec (hs : s.inv = true) (l : List Nat) (hl : ∀ n ∈ l, n < 192) (hn : l.Nodup) :
    s.LatchCleared l (l.foldl (fun x n => x.latchClear n) s) := by
  induction l generalizing s with
  | nil => exact ⟨.refl (State.regsOk_of_inv hs), hs, rfl, rfl, fun _ _ => rfl, fun _ h => absurd h List.not_mem_nil⟩
  | cons n l ih =>
    obtain ⟨hnl, hn⟩ := List.nodup_cons.mp hn
    have h1 := State.latchClear_spec hs (hl n List.mem_cons_self)
    have h2 := ih h1.inv (fun k hk => hl k (List.mem_cons_of_mem _ hk)) hn
    rw [List.foldl_cons]
    refine ⟨h1.writes.trans h2.writes, h2.inv, h2.gt.trans h1.gt, h2.shoot.trans h1.shoot, fun k hk => ?_, fun k hk => ?_⟩
    · rw [List.mem_cons, not_or] at hk
      exact (h2.others k hk.2).trans (h1.others k fun hc => hk.1 (List.mem_singleton.mp hc))
    · rcases List.mem_cons.mp hk with rfl | hk
      · rw [h2.others _ hnl]
        exact h1.latched _ (List.mem_singleton_self _)
      · have hch := h1.others k fun hc => hnl (List.mem_singleton.mp hc ▸ hk)
        rw [h2.latched k hk, State.latchClearable, State.gfbQuiet, hch, h1.gt]
        rfl

/-- What clearing pairs that were both on leaves (R275). -/
structure State.ShootCleared (g : Nat) (s t : State) : Prop where
  writes : s.Writes (fun a => 0x38000 ≤ a) t
  inv : t.inv = true
  gt : t.gt = s.gt
  chs : t.gl.chs = s.gl.chs
  held : ∀ q, q < 3 → s.shootHeld g q = false → t.shootHeld g q = false

theorem State.bothIdeal_of_writes (hw : s.Writes (fun a => 0x38000 ≤ a) t) (hgt : t.gt = s.gt) {g q : Nat} (hg : g < 32) (hq : q < 3) :
    t.bothIdeal g q = s.bothIdeal g q := by
  have hreg {a : Nat} (ha : a < 0x38000) : t.reg a = s.reg a := hw.reg (Nat.not_le.mpr ha)
  have hcfg : Reg.PWM_LGCFG g < 0x38000 := by unfold Reg.PWM_LGCFG; omega
  have hper : t.perOf g = s.perOf g := congrArg (max 500) (State.fld_of_reg (hreg (by unfold Reg.PWM_PER; omega)) _)
  have hph : t.phOf g = s.phOf g := by
    unfold State.phOf
    rw [hper, State.fld_of_reg (hreg (by unfold Reg.PWM_PH; omega))]
  have hpair : t.pairMode g q = s.pairMode g q := by
    unfold State.pairMode
    rw [State.regN_of_reg (hreg hcfg)]
  have hown {n : Nat} (hn : lgOf n = g) : t.ownIdeal n = s.ownIdeal n := by
    unfold State.ownIdeal
    rw [hn]
    dsimp only
    rw [hper, State.regN_of_reg (hreg hcfg), State.regN_of_reg (hreg (by unfold Reg.PWM_ACT; omega))]
  unfold State.bothIdeal State.posOf
  rw [hper, hph, hpair, hgt, hown (show lgOf (6 * g + 2 * q) = g by unfold lgOf; omega), hown (show lgOf (6 * g + 2 * q + 1) = g by unfold lgOf; omega)]

theorem State.shootClear_spec (hs : s.inv = true) {g q : Nat} (hg : g < 32) (hq : q < 3) :
    s.ShootCleared g (s.shootClear g q) ∧ ((s.shootHeld g q = true → s.bothIdeal g q = false) → (s.shootClear g q).shootHeld g q = false) := by
  have hok := State.regsOk_of_inv hs
  have hm : s.Moves [] [.regs, .pwm, .gl] (s.shootClear g q) := .shootClear (.refl s) (by decide)
  have hlen : g < s.gl.shoot.length := by
    rw [(State.sized_of_inv hs).gl.2]
    exact hg
  by_cases hc : s.shootHeld g q = true ∧ s.bothIdeal g q = false
  · have hif : ¬ (!s.shootHeld g q || s.bothIdeal g q) = true := by simp [hc.1, hc.2]
    have hdoes : s.Writes (fun a => 0x38000 ≤ a) (s.shootClear g q) ∧
        (s.shootClear g q).gl = { s.gl with shoot := s.gl.shoot.mod g (fun m => m &&& (7 - 2 ^ q)) } := by
      unfold State.shootClear
      rw [if_neg hif]
      extract_lets +onlyGivenNames src s1 b
      have hw1 : s.Writes (fun a => 0x38000 ≤ a) s1 := (State.Writes.refl hok).of_regs rfl
      have hgl1 : s1.gl = { s.gl with shoot := s.gl.shoot.mod g (fun m => m &&& (7 - 2 ^ q)) } := rfl
      clear_value s1 b
      have hstat : 0x38000 ≤ Reg.GL_STAT g := Nat.le_add_right_of_le (by decide)
      have hw2 : s.Writes (fun a => 0x38000 ≤ a) (((s1.chMod (6 * g + 2 * q) (fun c => { c with skip := b })).chMod (6 * g + 2 * q + 1)
        (fun c => { c with skip := b })).lgMod g (fun l => { l with both := l.both.set q none })) := hw1.of_regs rfl
      exact ⟨hw2.setRegN _ hstat, hgl1⟩
    obtain ⟨hw, hgl⟩ := hdoes
    have hbit (j : Nat) : (s.shootClear g q).shootHeld g j = (s.shootHeld g j && (7 - 2 ^ q).testBit j) := by
      unfold State.shootHeld
      rw [hgl]
      show (Tab.at (Tab.mod s.gl.shoot g _) g).testBit j = _
      rw [Tab.at_mod_same _ _ _ hlen, Nat.testBit_and]
    have hself : (7 - 2 ^ q).testBit q = false := by
      interval_cases q <;> decide
    exact ⟨⟨hw, hm.inv hs, hm.gt_kept (by decide), by rw [hgl], fun j _ hj => by rw [hbit, hj, Bool.false_and]⟩, fun _ => by rw [hbit, hself, Bool.and_false]⟩
  · have hif : (!s.shootHeld g q || s.bothIdeal g q) = true := by
      cases hh : s.shootHeld g q <;> simp_all
    rw [show s.shootClear g q = s from if_pos hif]
    refine ⟨⟨.refl hok, hs, rfl, rfl, fun _ _ => id⟩, fun himp => ?_⟩
    by_contra hh
    have hh : s.shootHeld g q = true := by simpa using hh
    exact hc ⟨hh, himp hh⟩

theorem State.shootClears_spec (hs : s.inv = true) {g : Nat} (hg : g < 32) (l : List Nat) (hl : ∀ q ∈ l, q < 3) :
    s.ShootCleared g (l.foldl (fun x q => x.shootClear g q) s) ∧
      ((∀ q ∈ l, s.shootHeld g q = true → s.bothIdeal g q = false) → ∀ q ∈ l, (l.foldl (fun x q => x.shootClear g q) s).shootHeld g q = false) := by
  induction l generalizing s with
  | nil => exact ⟨⟨.refl (State.regsOk_of_inv hs), hs, rfl, rfl, fun _ _ => id⟩, fun _ _ h => absurd h List.not_mem_nil⟩
  | cons q l ih =>
    have hq := hl q List.mem_cons_self
    obtain ⟨h1, hset⟩ := State.shootClear_spec hs hg hq
    obtain ⟨h2, hsets⟩ := ih h1.inv (fun j hj => hl j (List.mem_cons_of_mem _ hj))
    rw [List.foldl_cons]
    refine ⟨⟨h1.writes.trans h2.writes, h2.inv, h2.gt.trans h1.gt, h2.chs.trans h1.chs, fun j hj => h2.held j hj ∘ h1.held j hj⟩, fun himp j hj => ?_⟩
    rcases List.mem_cons.mp hj with rfl | hjl
    · exact h2.held _ hq (hset (himp _ hj))
    · refine hsets (fun k hk hheld => ?_) j hjl
      have hk3 := hl k (List.mem_cons_of_mem _ hk)
      rw [State.bothIdeal_of_writes h1.writes h1.gt hg hk3]
      refine himp k (List.mem_cons_of_mem _ hk) ?_
      by_contra hno
      exact absurd (hheld.symm.trans (h1.held k hk3 (by simpa using hno))) (by decide)

theorem execGlClear_spec (h : s.runs tag 0x304 c) (hg : c.pw 0 < s.groups) :
    let g := c.pw 0
    ((∀ k, k < 6 → (c.pw 1).testBit k = true → (s.gl.chs.at (6 * g + k)).latched = true → s.latchClearable (6 * g + k) = true) →
        (∀ q, q < 3 → (c.pw 1).testBit (8 + q) = true → s.shootHeld g q = true → s.bothIdeal g q = false) →
        ∃ t, exec (.glClear tag) s = .next t ∧ t.completed (c.comp tag stOk) ∧ s.keeps t [.regs, .pwm, .gl, .mbx, .out] ∧
          (∀ k, k < 6 → (c.pw 1).testBit k = true → (t.gl.chs.at (6 * g + k)).latched = false) ∧
          (∀ q, q < 3 → (c.pw 1).testBit (8 + q) = true → t.shootHeld g q = false)) ∧
      ((∃ k, k < 6 ∧ (c.pw 1).testBit k = true ∧ (s.gl.chs.at (6 * g + k)).latched = true ∧ s.latchClearable (6 * g + k) = false) →
        ∃ t, exec (.glClear tag) s = .next t ∧ t.completed (c.comp tag stSafety 9#32) ∧ s.justEnds t tag c) := by
  intro g
  let b := s.begun tag c
  let ns := (bitsOf 6 (c.pw 1)).map (fun k => 6 * g + k)
  let qs := bitsOf 3 (c.pw 1 / 256)
  let u := ns.foldl (fun (x : State) n => x.latchClear n) b
  let v := qs.foldl (fun (x : State) q => x.shootClear g q) u
  have hexec : exec (.glClear tag) s = .next (if s.groups ≤ g then b.finish tag stRange 8#32
      else if ns.any (fun n => (s.gl.chs.at n).latched && !s.latchClearable n) || qs.any (fun q => s.shootHeld g q && s.bothIdeal g q) then
        b.finish tag stSafety 9#32 else v.finish tag stOk) := congrArg Host.Outcome.next (State.command_runs h)
  rw [if_neg (Nat.not_le.mpr hg)] at hexec
  have hg32 : g < 32 := hg.trans_le s.groups_le
  have hns {n : Nat} : n ∈ ns ↔ ∃ k, k < 6 ∧ (c.pw 1).testBit k = true ∧ n = 6 * g + k := by
    simp only [ns, List.mem_map, mem_bitsOf]
    exact ⟨fun ⟨k, ⟨hk, hb⟩, he⟩ => ⟨k, hk, hb, he.symm⟩, fun ⟨k, hk, hb, he⟩ => ⟨k, ⟨hk, hb⟩, he.symm⟩⟩
  have hqs {q : Nat} : q ∈ qs ↔ q < 3 ∧ (c.pw 1).testBit (8 + q) = true := by
    rw [mem_bitsOf, show (256 : Nat) = 2 ^ 8 by decide, Nat.testBit_div_two_pow, Nat.add_comm q 8]
  refine ⟨fun hlat hshoot => ?_, fun ⟨k, hk, hbit, hl, hno⟩ => ?_⟩
  · have hnone : ¬ (ns.any (fun n => (s.gl.chs.at n).latched && !s.latchClearable n) || qs.any (fun q => s.shootHeld g q && s.bothIdeal g q)) = true := by
      rw [Bool.or_eq_true, List.any_eq_true, List.any_eq_true]
      rintro (⟨n, hn, hx⟩ | ⟨q, hq, hx⟩)
      · obtain ⟨k, hk, hb, rfl⟩ := hns.mp hn
        rw [Bool.and_eq_true, Bool.not_eq_true'] at hx
        exact absurd (hx.2.symm.trans (hlat k hk hb hx.1)) (by decide)
      · obtain ⟨hq3, hb⟩ := hqs.mp hq
        rw [Bool.and_eq_true] at hx
        exact absurd (hx.2.symm.trans (hshoot q hq3 hb hx.1)) (by decide)
    rw [if_neg hnone] at hexec
    have hbinv : b.inv = true := (State.begun_moves s tag c).inv h.inv
    have hl := State.latchClears_spec hbinv ns (fun n hn => by
      obtain ⟨k, hk, -, rfl⟩ := hns.mp hn
      omega) ((nodup_bitsOf 6 _).map fun i j hij => by simpa using hij)
    obtain ⟨hsc, hheld⟩ := State.shootClears_spec hl.inv hg32 qs fun q hq => (hqs.mp hq).1
    have hmv : b.Moves [] [.regs, .pwm, .gl] v :=
      .foldl (fun _ _ hx => .shootClear hx (by decide)) (.foldl (fun _ _ hx => .latchClear hx (by decide)) (.refl b))
    have haway : ∀ a, 0x38000 ≤ a → awayRegs a := fun a ha => ⟨by omega, by omega, by unfold Reg.SUP_STAT; omega⟩
    have hready := (h.ready tag.isLt).away (hl.writes.trans hsc.writes) haway (.of_eq (hmv.mbx_kept (by decide)))
    have hfin := hready.finished stOk 0#32 0 0 0#32 0#32
    obtain ⟨-, -, -, -, -, -, -, -, -, -, -, kgl, -⟩ := hfin.keeps
    have kgl := kgl.resolve_left (by decide)
    have hall := hheld (fun q hq hx => by
      obtain ⟨hq3, hb⟩ := hqs.mp hq
      rw [State.bothIdeal_of_writes hl.writes hl.gt hg32 hq3]
      refine hshoot q hq3 hb ?_
      rw [State.shootHeld, hl.shoot] at hx
      exact hx)
    refine ⟨_, hexec, hready.finish_completed stOk 0#32 0 0 0#32 0#32, State.keeps_trans (State.keeps_mono (State.begun_moves s tag c).keeps (by decide))
      (State.keeps_trans (State.keeps_mono hmv.keeps (by decide)) (State.keeps_mono hfin.keeps (by decide))), fun k hk hb => ?_, fun q hq hb => ?_⟩
    · rw [kgl, hsc.chs, hl.latched _ (hns.mpr ⟨k, hk, hb, rfl⟩)]
      cases hx : (s.gl.chs.at (6 * g + k)).latched with
      | false =>
        have hx : (b.gl.chs.at (6 * g + k)).latched = false := hx
        rw [hx, Bool.false_and]
      | true =>
        have hy : b.latchClearable (6 * g + k) = true := hlat k hk hb hx
        rw [hy, Bool.not_true, Bool.and_false]
    · rw [State.shootHeld, kgl]
      exact hall q (hqs.mpr ⟨hq, hb⟩)
  · rw [if_pos (by
      rw [Bool.or_eq_true]
      exact .inl (List.any_eq_true.mpr ⟨_, hns.mpr ⟨k, hk, hbit, rfl⟩, by simp [hl, hno]⟩))] at hexec
    exact ⟨_, hexec, h.ends tag.isLt stSafety 9#32 0 0 0#32 0#32⟩

/-! ## LPRB_RUN -/

theorem State.runs.standby (h : s.runs tag 0x305 c) : s.dev = .standby := by
  obtain ⟨-, -, i, hi, -, hbusy⟩ := h
  have hst : i.states = 1 := by
    have : opInfo 0x305 = some { masks := [2 ^ 32 - 1], states := 1 } := by rfl
    rw [this] at hi
    cases hi
    rfl
  unfold State.cmdBusy State.wrongState at hbusy
  simp only [Bool.or_eq_false_iff, hst] at hbusy
  obtain ⟨⟨-, hbusy, -⟩, -⟩ := hbusy
  simp only [beq_self_eq_true, Bool.true_and, Bool.or_eq_false_iff, bne_eq_false_iff_eq] at hbusy
  exact hbusy.1

theorem State.probeGo_spec (hs : s.regsOk = true) (hdev : s.dev = .standby) (hrun : s.gl.prbRun = false) {m : Nat} (hm : m < 2 ^ s.groups)
    (hen : s.regN Reg.GL_PRBEN = m) :
    s.probeGo.regN Reg.GL_PRBEN = m ∧ s.probeGo.gl.chs = s.gl.chs ∧ s.probeGo.gl.prbRun = decide (m ≠ 0) ∧
      (m ≠ 0 → s.probeGo.gl.prbLeft = bitsOf 32 m) ∧ (m = 0 → s.Moves [] [.regs] s.probeGo) ∧ s.Writes (fun a => 0x38000 ≤ a) s.probeGo := by
  have hen' : s.regN Reg.GL_PRBEN % 2 ^ s.groups = m := by rw [hen, Nat.mod_eq_of_lt hm]
  unfold State.probeGo
  extract_lets +onlyGivenNames en s1
  have he : en = m := hen'
  clear_value en
  subst he
  rw [if_neg (by rw [hdev, hrun]; decide)]
  have hreg {i : Nat} : Reg.GL_PRBRES i ≠ Reg.GL_PRBEN := ne_of_gt (Nat.lt_add_right _ (by decide))
  have hw1 : s.Writes (· ≠ Reg.GL_PRBEN) s1 := .foldl (fun _ _ hx => .ite hx (hx.setFld _ _ hreg)) (.refl hs)
  have hhigh1 : s.Writes (fun a => 0x38000 ≤ a) s1 := .foldl (fun _ _ hx => .ite hx (hx.setFld _ _ (Nat.le_add_right_of_le (by decide)))) (.refl hs)
  have hm1 : s.Moves [] [.regs] s1 := .foldl (fun _ _ hx => .ite hx (.setFld hx (by decide))) (.refl s)
  have hgl : s1.gl = s.gl := hm1.gl_kept (by decide)
  clear_value s1
  have hpr : s1.regN Reg.GL_PRBEN = en := (hw1.regN (fun hc => hc rfl)).trans hen
  split
  next h0 => exact ⟨hpr, by rw [hgl], by rw [hgl, hrun, h0]; rfl, fun hc => absurd h0 hc, fun _ => hm1, hhigh1⟩
  next h0 =>
    let x : State := { s1 with gl := { s1.gl with prbRun := true, prbStart := s.gt, prbLeft := bitsOf 32 en, prbLog := [] } }
    have hx : s1.Writes (· = Reg.GL_PRBCMD) x := (State.Writes.refl hw1.ok).of_regs rfl
    have hw2 : s1.Writes (· = Reg.GL_PRBCMD) (x.setFld Reg.GL_PRBCMD F.GL_PRBCMD_GO 1) := hx.setFld _ _ rfl
    have hhigh2 : s1.Writes (fun a => 0x38000 ≤ a) (x.setFld Reg.GL_PRBCMD F.GL_PRBCMD_GO 1) := hw2.mono fun a ha => ha ▸ (by decide)
    exact ⟨(hw2.regN (by decide)).trans hpr, (congrArg GlState.chs hgl : s1.gl.chs = s.gl.chs), by simp [h0], fun _ => rfl, fun hc => absurd hc h0, hhigh1.trans hhigh2⟩

theorem execLprbRun_spec (h : s.runs tag 0x305 c) (hgr : s.absentGroups (c.pw 0) = false) (hrun : s.gl.prbRun = false) :
    (c.pw 0 ≠ 0 →
        ∃ t, exec (.lprbRun tag) s = .next t ∧ s.keeps t [.regs, .gl, .mbx] ∧ t.goesOn tag c ∧ t.mbx.prbTag = some tag.val ∧ t.gl.prbRun = true ∧
          t.gl.prbLeft = bitsOf 32 (c.pw 0) ∧ t.regN Reg.GL_PRBEN = c.pw 0 ∧ t.gl.chs = s.gl.chs) ∧
      (c.pw 0 = 0 →
        ∃ t, exec (.lprbRun tag) s = .next t ∧ s.keeps t [.regs, .mbx, .out] ∧
          t.completed (c.comp tag stOk (v0 := t.reg (Reg.GL_PRBRES 0)) (v1 := t.reg (Reg.GL_PRBRES 1)))) := by
  let b := s.begun tag c
  let w := b.setRegN Reg.GL_PRBEN (c.pw 0)
  let u := w.probeGo
  let v : State := { u with mbx := { u.mbx with prbTag := some tag.val } }
  have hexec : exec (.lprbRun tag) s = .next (if s.absentGroups (c.pw 0) then b.finish tag stRange 8#32
      else if s.gl.prbRun then b.finish tag stBusy else if v.gl.prbRun then v else v.probeDone) := congrArg Host.Outcome.next (State.command_runs h)
  rw [if_neg (by simp [hgr]), if_neg (by simp [hrun])] at hexec
  have hbok : b.regsOk = true := h.regsOk
  have hlt : c.pw 0 < 2 ^ 32 := BitVec.isLt _
  have hgrp : c.pw 0 < 2 ^ s.groups := (Nat.div_eq_zero_iff_lt (Nat.two_pow_pos _)).mp (by simpa [State.absentGroups] using hgr)
  have hen : w.regN Reg.GL_PRBEN = c.pw 0 := (State.regN_setRegN _ _ hbok).trans (Nat.mod_eq_of_lt hlt)
  have hww : b.Writes (· = Reg.GL_PRBEN) w := (State.Writes.refl hbok).setRegN _ rfl
  obtain ⟨hpr, hchs, hrun', hleft, hidle, hwu⟩ := State.probeGo_spec hww.ok (show w.dev = .standby from h.standby) hrun hgrp hen
  have hmu : b.Moves [] [.regs, .gl] u := .probeGo (.setRegN (.refl b) (by decide)) (by decide)
  have hmbx : u.mbx = b.mbx := hmu.mbx_kept (by decide)
  have hkw : s.keeps w [.regs, .mbx] := State.keeps_trans (State.keeps_mono (State.begun_moves s tag c).keeps (by decide))
    (State.Moves.setRegN (own := []) (may := [.regs, .mbx]) (.refl b) (by decide)).keeps
  refine ⟨fun h0 => ?_, fun h0 => ?_⟩
  · have hgo : v.gl.prbRun = true := hrun'.trans (by simpa using h0)
    rw [if_pos hgo] at hexec
    have hmv : b.Moves [] [.regs, .gl, .mbx] v := .set_mbx (hmu.mono (by decide)) id (by decide)
    refine ⟨v, hexec, State.keeps_trans (State.keeps_mono (State.begun_moves s tag c).keeps (by decide)) hmv.keeps, ?_, rfl, hgo, hleft h0, hpr, hchs⟩
    exact (congrArg (fun m : MbxState => m.cmds.find tag) hmbx).trans (KMap.find_put_same _ _ _)
  · have hstop : ¬ v.gl.prbRun = true := by
      rw [show v.gl.prbRun = decide (c.pw 0 ≠ 0) from hrun', h0]
      decide
    rw [if_neg hstop] at hexec
    let x : State := { v with mbx := { v.mbx with prbTag := none } }
    have hdone : v.probeDone = x.finish tag stOk 0#32 0 0 (v.reg (Reg.GL_PRBRES 0)) (v.reg (Reg.GL_PRBRES 1)) := rfl
    have haway : ∀ a, 0x38000 ≤ a → awayRegs a := fun a ha => ⟨by omega, by omega, by unfold Reg.SUP_STAT; omega⟩
    have hwu' : b.Writes (fun a => 0x38000 ≤ a) u := (hww.mono fun a ha => ha ▸ (by decide)).trans hwu
    have hready : x.Ready tag { c with started := true } := ((h.ready tag.isLt).away hwu' haway (.of_eq hmbx)).session rfl rfl rfl rfl
    have hfin := hready.finished stOk 0#32 0 0 (v.reg (Reg.GL_PRBRES 0)) (v.reg (Reg.GL_PRBRES 1))
    have hmx : u.Moves [] [.mbx] x := .set_mbx (.set_mbx (.refl u) id (by decide)) id (by decide)
    have hku : s.keeps u [.regs, .mbx] := State.keeps_trans hkw (State.keeps_mono (hidle h0).keeps (by decide))
    have hres {i : Nat} : (v.probeDone).reg (Reg.GL_PRBRES i) = v.reg (Reg.GL_PRBRES i) :=
      hfin.writes.reg (awayRegs_cq (haway _ (Nat.le_add_right_of_le (by decide))))
    refine ⟨_, hexec, ?_, ?_⟩
    · exact State.keeps_trans (State.keeps_mono hku (by decide)) (State.keeps_trans (State.keeps_mono hmx.keeps (by decide)) hfin.keeps)
    · rw [hres, hres]
      exact hready.finish_completed stOk 0#32 0 0 (v.reg (Reg.GL_PRBRES 0)) (v.reg (Reg.GL_PRBRES 1))

/-- Settles O51: each command through the operations of its unit. -/
theorem calibrationAndLegGroupCommands : Obligations.CalibrationAndLegGroupCommands := by
  unfold Obligations.CalibrationAndLegGroupCommands
  exact ⟨fun s tag c => ⟨execCal_spec, fun tests h => execRecover_spec tests h, fun readings h => execDiag_spec readings h⟩,
    fun s tag c => ⟨fun dma h => execPwmSet_spec dma h, execTripClear_spec, fun trips => execGlCal_spec trips, execGlClear_spec, execLprbRun_spec⟩⟩

end Sys2Proof.Machine
end
